-- ==== Sys2Proof/Word.lean ====
section
/-! DEFINITION. The word types of the model and the shape of a register's description. -/

namespace Sys2Proof

/-- A byte of memory or of a frame. -/
abbrev Byte := BitVec 8

/-- One 32-bit word of control space (R553). -/
abbrev Word := BitVec 32

/-- Register field types of R13. -/
inductive RegType where
  | ro | rw | rc | w1c | wo | ws
deriving DecidableEq, Repr

/-- A register field: place, type, reset value and the range a write must keep (R13). -/
structure Fld where
  lo : Nat
  width : Nat
  ty : RegType
  reset : Nat
  min : Nat
  max : Nat
deriving DecidableEq, Repr

/-- Which unit an array element belongs to, for the presence rule R3. -/
inductive Presence where
  | always | port | pair | twin | fport | tenant | cluster | core | acq | cle | almch
deriving DecidableEq, Repr

/-- A register or register array of control space: element (i, j) lies at `base + i * s1 + j * s2`. -/
structure RegDesc where
  base : Nat
  n1 : Nat
  s1 : Nat
  n2 : Nat
  s2 : Nat
  pres : Presence
  fields : List Fld
deriving DecidableEq, Repr

end Sys2Proof
end

