-- ==== Sys2Proof/Syntax.lean ====
section
/-! DEFINITION. The commands of the block: the operands' types and the one inductive of commands. -/

namespace Sys2Proof

/-- How a command reached the steward: through a PCIe mailbox or from a UDP peer (R478, R494). -/
inductive Via where
  | mbx (m : Nat)
  | udp (addr port : Nat)
deriving DecidableEq, Repr

/-- A mailbox command that passed the header checks of R483 (rows of R496): its session, its header fields and its
payload bytes. The payload layouts are R497's and R526's and, where the spec gives none, those of notes/assumptions/7. -/
structure Cmd where
  via : Via
  session : Nat
  tag : Nat
  sequence : Nat
  payload : List Byte
deriving DecidableEq, Repr

/-- Who asks for a memory access (R28, R461): a Kenug core running a tenant, whose addresses are tenant-virtual ones (R196); an
engine, the steward, the DMA path or the debug port, whose addresses are device addresses. -/
inductive MemReq where
  | core (c tenant : Nat)
  /-- An instruction fetch of the item in service. -/
  | fetch (c tenant : Nat)
  | ing | cle | lge | recorder | steward | dma
  /-- The JTAG debug access port. -/
  | jtag
deriving DecidableEq, Repr

/-- Who accesses control space (R28, R553): the steward, a core its tenant window, or the JTAG debug access port. -/
inductive Accessor where
  | steward
  | core (c : Nat)
  | jtag
deriving DecidableEq, Repr

/-- What a migration sends of a tenant (R221, R222). -/
inductive MigPart where
  /-- A page with its contents. -/
  | page (v : Nat) (bytes : List (BitVec 8))
  /-- A queued item: the 64 bytes of R232 with its local task number, in order. -/
  | item (bytes : List (BitVec 8))
  /-- A local task's descriptor: FLAGS, MASK, ENTRY, CTRL and RUN_LIMIT words (R230). -/
  | desc (i : Nat) (words : List Nat)
  /-- A flow of the tenant. -/
  | flow (f : Nat)
  /-- Timer n: deadline, local task, bit, period, armed. -/
  | timer (n deadline task bit period : Nat) (armed : Bool)
  /-- The trip register. -/
  | trips (v : Nat)
  /-- stNum and sqNum of a publisher. -/
  | nums (p st sq : Nat)
  /-- A line of the state space of the logic engine (5) or the law engine (6). -/
  | line (ty i : Nat) (bytes : List (BitVec 8))
deriving DecidableEq, Repr

/-- What the destination of a migration has acknowledged (R223): every byte sent, or the commit. -/
inductive MigAck where
  | data
  | commit
deriving DecidableEq, Repr

/-- What the error correction finds in the words an access reads: the 8-byte word addresses with a single-bit error and
those with an uncorrectable one (R467, R472). The faults of cells are the environment's. -/
structure EccFound where
  single : List Nat
  double : List Nat
deriving DecidableEq, Repr

/-- A port A access in the same bank step as a port B access (R465). -/
structure PortA where
  req : MemReq
  addr : Nat
  len : Nat
  write : Option (List (BitVec 8))
deriving DecidableEq, Repr

/-- What a patrol scrub read (R468): a bank, DRAM, or the Almanac bank with the records found damaged (channel, SEQ). -/
inductive ScrubTarget where
  | bank (n : Nat)
  | dram
  | almanac (damaged : List (Nat × Nat))
deriving DecidableEq, Repr


/-- A frame as a port's MAC sees it, preempted fragments already put together (R64, R70): the bytes from DA to FCS that
arrived, the domain time of the first bit after the SFD, whether reception was cut short by loss of link or a receive
code error, and whether a fragment was bad. -/
structure RxFrame where
  bytes : List (BitVec 8)
  arrival : Nat
  cut : Bool
  fragBad : Bool
deriving DecidableEq, Repr

/-- A Crasen frame as it arrives (R61): header fields, payload, and whether its CRC-32C is right; `kind` 255 stands for a
replay request, whose `seq` is the first missing frame. -/
structure CrasenRx where
  kind : Nat
  seq : Nat
  ack : Nat
  payload : List (BitVec 8)
  crcOk : Bool
  blockErr : Nat
deriving DecidableEq, Repr

/-- A frame as fabric port 28 delivers it to ingest: bytes without FCS, ARRIVAL, and its ingress fabric port (R94). -/
structure IngFrame where
  bytes : List (BitVec 8)
  arrival : Nat
  port : Nat
deriving DecidableEq, Repr

/-- How the parts of a start-up that the environment decides turn out (R508, R509): an uncorrectable fuse error, a wrong
ROM CRC, a DRAM that does not train, the banks that fail BIST with their first failing subarray, the port at which the
calendar self-test fails. -/
structure AdventIn where
  fuseBad : Bool
  romBad : Bool
  dramBad : Bool
  bistBad : List (Nat × Nat)
  calBad : Option Nat
deriving DecidableEq, Repr

/-- A JTAG instruction (R549). -/
inductive JtagInstr where
  | bypass | idcode | sample | extest | debug
  | other (code : Nat)
deriving DecidableEq, Repr

/-- An event message of PTP at a port (R30, R32). A Sync arrives with the origin time that it, or its Follow_Up, gives with
its corrections, and with the grandmaster that its master announces; a Pdelay_Req arrives; a Pdelay_Resp arrives with the
times t2 and t3 of the peer; or the steward sends a message of its own. -/
inductive PtpMsg where
  | sync (origin gmId gmClass : Nat)
  | pdelayReq
  | pdelayResp (t2 t3 : Nat)
  | send (bytes : List (BitVec 8))
deriving DecidableEq, Repr

/-- The kinds of `PtpMsg`. -/
inductive PtpKind where
  | sync | pdelayReq | pdelayResp | send
deriving DecidableEq, Repr

/-- A verify frame of the partner (`request`), or its response to one (R69). -/
structure VerifyFrame where
  port : Nat
  request : Bool
deriving DecidableEq, Repr

/-- The DSD balls at 8 rising edges of MCLK and at the 8 falling edges that follow them, oldest first (R172). -/
structure DsdBits where
  rise : List (BitVec 32)
  fall : List (BitVec 32)
deriving DecidableEq, Repr

/-- A commit, and the parts of the tenant that come before it (R222, R223). -/
structure MigCommit where
  round : Nat
  parts : List MigPart
deriving DecidableEq, Repr

/-- An acknowledgement of a tenant's destination. -/
structure MigReply where
  tenant : Nat
  ack : MigAck
deriving DecidableEq, Repr

/-- What went missing (R34): Announce or Sync messages for 3 announce intervals, or edges of 1PPS_IN for 1.5 s. -/
inductive HoldCause where
  | announce | sync | pps
deriving DecidableEq, Repr

/-- The commands of the block: one constructor for each row of the opcode table, in its order.
Every command carries `t`, the instant at which it takes effect, in ns of the time base's own count. -/
inductive Instr where
  /-- REGISTER_WRITE (R13): A write to a register that has no row of its own, checked for range and record validity, with CFG_REJ set on refusal. -/
  | registerWrite (t : Nat) (core : Option Nat) (addr : Nat) (value : BitVec 32)
  /-- MISALIGNED_ACCESS (R553): A control-space access of the wrong size or alignment faults before any other rule applies. -/
  | misalignedAccess (t : Nat) (who : Accessor) (addr size : Nat) (write : Option Nat)
  /-- STATISTICS_COUNTER_READ (R91): A read of a counter's low word returns it, captures the high half and clears the counter. -/
  | statisticsCounterRead (t addr : Nat)
  /-- TIM_NOW_READ (R54): A read of TIM_NOW_LO captures all 64 bits of domain time. -/
  | timNowRead (t : Nat)
  /-- TIM_PPSIN_READ (R54): A read of TIM_PPSIN_LO captures the 64-bit 1PPS_IN timestamp. -/
  | timPpsinRead (t : Nat)
  /-- TIM_STAT_READ (R54): A read of TIM_STAT clears the read-clear PPS_REJ count. -/
  | timStatRead (t : Nat)
  /-- FAB_DAYS_READ (R127): A read of FAB_DAYS_LO captures the 64-bit day number. -/
  | fabDaysRead (t : Nat)
  /-- ACQ_TRIP_TIME_READ (R192): A read of ACQ_TRIP_TIME_LO captures the 64-bit trip-lane time. -/
  | acqTripTimeRead (t ch : Nat)
  /-- REC_TRIG_TIME_READ (R369): A read of REC_TRIG_TIME_LO captures the 64-bit trigger instant. -/
  | recTrigTimeRead (t rec_ : Nat)
  /-- SYS_DORMANT_TIME_READ (R527): A read of SYS_DORMANT_TIME_LO captures the 64-bit Dormant entry time. -/
  | sysDormantTimeRead (t : Nat)
  /-- SYS_SNAP_TIME_READ (R527): A read of the Solstice time registers captures all 64 bits. -/
  | sysSnapTimeRead (t : Nat)
  /-- KEY_TAMPER_TIME_READ (R454): A read of KEY_TAMPER_TIME_LO captures the 64-bit tamper time. -/
  | keyTamperTimeRead (t : Nat)
  /-- MEM_ERR_READ (R474): A read of MEM_ERR_LO captures LO, HI and INFO together. -/
  | memErrRead (t : Nat)
  /-- TW_NOW_READ (R200): A tenant read of TW_NOW_LO captures 64 bits of domain time. -/
  | twNowRead (t core : Nat)
  /-- CLE_LAW_LAT_READ (R287): A read of CLE_LAW_LAT clears the read-clear maximum latency. -/
  | cleLawLatRead (t law : Nat)
  /-- LGE_PRG_TIME_READ (R317): A read of LGE_PRG_TIME clears the read-clear longest execute time. -/
  | lgePrgTimeRead (t prog : Nat)
  /-- DOMAIN_TIME_SET (R33): A write of TIM_SET_HI loads domain time while GRID_EN is 0, and is refused otherwise. -/
  | domainTimeSet (t : Nat) (hi : BitVec 32)
  /-- GRID_ENABLE (R46): Setting TIM_CTRL.GRID_EN starts dispatch at the first round whose instant lies at least 1 µs ahead. -/
  | gridEnable (t : Nat) (src ptpEn : Bool)
  /-- GRID_DISABLE (R46): Clearing GRID_EN stops dispatch, lets a boundary in progress finish, and applies pending staged settings. -/
  | gridDisable (t : Nat) (src ptpEn : Bool)
  /-- ADMIT_TARGET_WRITE (R45): A write of TIM_ADMIT.TARGET stages a new admission delay. -/
  | admitTargetWrite (t target : Nat)
  /-- STAGED_SETTING_APPLY (R559): While GRID_EN is 0, a staged setting takes effect within 1 µs of its write. -/
  | stagedSettingApply (t : Nat)
  /-- ROUND_BOUNDARY (R48): At dispatch instant T(k) the module performs the seven boundary steps in order. -/
  | roundBoundary (t : Nat)
  /-- HEARTBEAT_PULSE_END (R398): The 2 µs wire heartbeat pulse ends. -/
  | heartbeatPulseEnd (t : Nat)
  /-- PTP_EVENT_MESSAGE (R32): A PTP event message is timestamped at the PCS, and the servo is steered. -/
  | ptpEventMessage (t port : Nat) (kind : PtpKind) (times gm : Nat × Nat) (bytes : List (BitVec 8))
  /-- CLOCKCLASS_CHANGE (R34): A change of the grandmaster's clockClass moves the synch state between GLOBAL and LOCAL. -/
  | clockclassChange (t gmClass : Nat)
  /-- BECOME_GRANDMASTER (R34): The module becomes grandmaster by the BMCA and enters LOCAL. -/
  | becomeGrandmaster (t : Nat)
  /-- HOLDOVER_ENTRY (R34): Missing Announce or Sync messages for 3 intervals, or a missing 1PPS_IN edge for 1.5 s, starts holdover. -/
  | holdoverEntry (t : Nat) (cause : HoldCause)
  /-- HOLDOVER_LIMIT (R34): Holdover lasting TIM_HOLD.LIMIT seconds sets the synch state to NONE. -/
  | holdoverLimit (t : Nat)
  /-- REFCLK_LOST (R34): REFCLK_10M_IN showing no edge for 1 µs clears REF_OK and sets the synch state to NONE. -/
  | refclkLost (t : Nat)
  /-- REFCLK_RESTORED (R35): REF_OK is set again and event 0x0E03 is written. -/
  | refclkRestored (t : Nat)
  /-- PPS_OUT_RISE (R51): 1PPS_OUT rises at every TAI second. -/
  | ppsOutRise (t : Nat)
  /-- PPS_OUT_FALL (R51): 1PPS_OUT falls after OUT_WIDTH ms. -/
  | ppsOutFall (t : Nat)
  /-- PPS_IN_EDGE (R52): A 1PPS_IN edge is timestamped, or rejected when it is more than 1 ms from the expected second. -/
  | ppsInEdge (t : Nat) (rising : Bool)
  /-- PORT_CONFIG_WRITE (R57): A write of PRT_PORT_CFG changes port mode, FEC or enable under the rules for changes. -/
  | portConfigWrite (t port : Nat) (value : BitVec 32)
  /-- LRE_CONFIG_WRITE (R77): A write of PRT_LRE_CFG sets a redundancy pair's PRP or HSR mode. -/
  | lreConfigWrite (t pair : Nat) (value : BitVec 32)
  /-- LINK_UP (R58): A port's link comes up, LINK is set and 0x0101 is written. -/
  | linkUp (t port speed : Nat) (anDone fecLock : Bool)
  /-- LINK_DOWN (R58): A port's link fails, transmissions abort and pause ends. -/
  | linkDown (t port : Nat)
  /-- FRAME_RECEIVE (R64): A frame received at a port is classified by size and FCS, passed through its LRE and offered to the fabric. -/
  | frameReceive (t port : Nat) (f : RxFrame)
  /-- DUP_ENTRY_AGEING (R81): A duplicate-table entry with no frame for DUP_AGE is freed. -/
  | dupEntryAgeing (t : Nat)
  /-- PAUSE_FRAME (R71): A received 802.3x pause or PFC frame pauses classes, except those in release. -/
  | pauseFrame (t port : Nat) (pfc : Bool) (enable : Nat) (quanta : List Nat)
  /-- PAUSE_QUANTA_EXPIRY (R72): A class's pause quanta run out and its pause ends. -/
  | pauseQuantaExpiry (t port : Nat)
  /-- PAUSE_WATCHDOG (R72): Continuous pause beyond LIMIT makes the port ignore pause on that class for RELEASE. -/
  | pauseWatchdog (t port : Nat)
  /-- RELEASE_PERIOD_END (R72): A watchdog release period ends and the class obeys pause again. -/
  | releasePeriodEnd (t port : Nat)
  /-- PREEMPT_VERIFY (R69): A verify frame is sent every VERIFY_TIME, and verification fails after three unanswered attempts. -/
  | preemptVerify (t port : Nat)
  /-- VERIFY_RESPONSE (R69): A verify response sets PREEMPT_ACTIVE. -/
  | verifyResponse (t : Nat) (frame : VerifyFrame)
  /-- TWIN_LINK_ENABLE (R60): A write of PRT_TWIN_CFG.EN starts or stops the twin link. -/
  | twinLinkEnable (t : Nat) (value : BitVec 32)
  /-- TWIN_BLOCK_LOCK (R60): Block lock on all four lanes moves the twin link to LOCKED. -/
  | twinBlockLock (t lanes : Nat)
  /-- TWIN_ALIGNED (R60): Alignment markers found on all lanes move the twin link to ALIGNED. -/
  | twinAligned (t laneMap skew : Nat)
  /-- TWIN_UP (R60): Partner ready blocks received for 1 ms move the twin link to UP. -/
  | twinUp (t : Nat)
  /-- TWIN_DOWN (R60): Loss of block lock moves the twin link to DOWN and empties the replay buffer. -/
  | twinDown (t lanes : Nat)
  /-- CRASEN_FRAME_RECEIVE (R62): A Crasen frame is taken in order and acknowledged, or discarded with replay requested. -/
  | crasenFrameReceive (t : Nat) (f : CrasenRx)
  /-- TX_RING_SERVICE (R90): One transmission of a transmit ring is checked, segmented and handed to the fabric, and its status is written. -/
  | txRingService (t : Nat)
  /-- TX_SERVICE_RESUME (R90): Ring service paused at the cell limit resumes when cells are freed. -/
  | txServiceResume (t : Nat)
  /-- RX_TAIL_WRITE (R88): A TAIL write gives receive descriptors to the device. -/
  | rxTailWrite (t ring index : Nat)
  /-- TX_TAIL_WRITE (R84): A TAIL write gives transmit descriptors to the device. -/
  | txTailWrite (t ring index : Nat)
  /-- RX_RING_DISABLE (R93): Clearing PRT_RXR_CFG.EN returns HEAD and TAIL to 0 and discards a frame being written. -/
  | rxRingDisable (t ring : Nat) (value : BitVec 32)
  /-- TX_RING_DISABLE (R93): Clearing PRT_TXR_CFG.EN stops completions and returns HEAD and TAIL to 0. -/
  | txRingDisable (t ring : Nat) (value : BitVec 32)
  /-- CALENDAR_DAY (R100): On each day stage 1 and stage 2 move at most one tag per connection. -/
  | calendarDay (t : Nat) (bad : List (Nat × Nat × Nat)) (loopBad : Nat)
  /-- LOST_TAG (R106): A tag held 64 days behind a missing one releases its series and marks the lost frame truncated. -/
  | lostTag (t src dst : Nat)
  /-- CELL_WRITE (R110): A cell arriving at a fabric ingress port is admitted against limits or cuts the frame. -/
  | cellWrite (t port : Nat)
  /-- EGRESS_SELECT (R115): An egress port able to start a frame selects by class, shaper and the start rule. -/
  | egressSelect (t port : Nat)
  /-- COPY_END (R114): A copy ends sent, stomped, discarded or delivered, and REFCNT falls, freeing the frame at 0. -/
  | copyEnd (t port : Nat)
  /-- FDB_AGEING (R109): A learnt entry whose AGE reaches FAB_FDB_AGE is freed. -/
  | fdbAgeing (t : Nat)
  /-- FDB_READ (R127): FAB_FDB_CMD OP 1 reads the entry at INDEX. -/
  | fdbRead (t index : Nat)
  /-- FDB_WRITE (R108): FAB_FDB_CMD OP 2 writes the key to a free way, or is rejected. -/
  | fdbWrite (t : Nat)
  /-- FDB_DELETE (R127): FAB_FDB_CMD OP 3 deletes the key. -/
  | fdbDelete (t : Nat)
  /-- FDB_FLUSH (R127): FAB_FDB_CMD OP 4 flushes the learnt entries on PORT. -/
  | fdbFlush (t port : Nat)
  /-- FDB_SEARCH (R127): FAB_FDB_CMD OP 5 searches for the key. -/
  | fdbSearch (t : Nat)
  /-- FDB_COMMAND_COMPLETE (R127): A forwarding-database command completes within 2 µs and BUSY clears. -/
  | fdbCommandComplete (t : Nat)
  /-- CALENDAR_SELF_TEST (R127): FAB_CAL_STAT.START sends one tag over every connection of present ports. -/
  | calendarSelfTest (t : Nat) (failPort : Option Nat)
  /-- INGEST_FRAME (R131): An SV or GOOSE frame from port 28 passes the eight ingest stages. -/
  | ingestFrame (t : Nat) (frame : Option IngFrame)
  /-- TAL_EXPIRED (R163): Domain time passing DEADLINE sets the image STALE and the subscribers' flags. -/
  | talExpired (t handle : Nat)
  /-- FLIP (R147): ING_BANK.FLIP stages a flip, or is rejected under R148. -/
  | ingFlip (t : Nat)
  /-- CANCEL (R148): ING_BANK.CANCEL withdraws a pending flip before its cut-off. -/
  | ingCancel (t : Nat)
  /-- COPY (R148): ING_BANK.COPY starts copying the active bank into the shadow bank. -/
  | ingCopy (t : Nat)
  /-- BANK_COPY_COMPLETE (R148): The bank copy completes and COPY_BUSY clears. -/
  | bankCopyComplete (t : Nat)
  /-- ING_STRANGER_POP (R167): A write removes the head stranger entry. -/
  | ingStrangerPop (t : Nat)
  /-- FAST_OUTPUT (R184): Every 8 MCLK periods the sinc2 fast path emits f, and the trip lane compares it. -/
  | fastOutput (t ch : Nat) (bits : DsdBits)
  /-- FINE_OUTPUT (R182): The fine path emits a filtered output at its phase, placed on the grid. -/
  | fineOutput (t group : Nat)
  /-- STUCK_ENTRY (R173): 64 equal bits make a channel stuck. -/
  | stuckEntry (t ch : Nat)
  /-- STUCK_END (R173): The first bit change ends the stuck state and requests a synchronising reset. -/
  | stuckEnd (t ch : Nat)
  /-- RESET_INSTANT (R186): At the chosen MCLK edge a channel's chains are cleared and a new SRC takes effect. -/
  | resetInstant (t ch : Nat)
  /-- CHANNEL_SWITCH (R185): A write of a new SRC requests a synchronising reset. -/
  | channelSwitch (t ch : Nat) (value : BitVec 32)
  /-- GROUP_ENABLE (R175): ACQ_GRP_CFG.EN 0 to 1 is checked and starts the group with a reset. -/
  | groupEnable (t group : Nat) (value : BitVec 32)
  /-- ACQ_COMMIT (R179): ACQ_GRP_CTL.COMMIT stages the shadow coefficient set. -/
  | acqCommit (t group : Nat)
  /-- ACQ_SYNC (R185): ACQ_GRP_CTL.SYNC requests a synchronising reset of the group. -/
  | acqSync (t group : Nat)
  /-- TRIP_LATCH_RELEASE (R190): Writing 1 to ACQ_TRIP_STAT.LATCHED releases a latched source. -/
  | tripLatchRelease (t ch : Nat)
  /-- ACQ_TRIP_CFG_WRITE (R188): Any write to ACQ_TRIP_CFG sets the run count to 0. -/
  | acqTripCfgWrite (t ch : Nat) (value : BitVec 32)
  /-- ACTIVATE (R202): TEN_CMD ACTIVATE makes a checked tenant LOADED. -/
  | tenActivate (t tenant : Nat)
  /-- START (R202): TEN_CMD START stages the tenant to RUNNING at the next boundary. -/
  | tenStart (t tenant : Nat)
  /-- DISABLE (R209): TEN_CMD DISABLE quiesces the tenant, removing its queued items. -/
  | tenDisable (t tenant : Nat)
  /-- DISABLE_CUT_OFF (R209): At cut-off C items in service are cut off, then safe values apply and the tenant is DISABLED. -/
  | disableCutOff (t tenant : Nat)
  /-- RELEASE (R202): TEN_CMD RELEASE returns a tenant to EMPTY. -/
  | tenRelease (t tenant : Nat)
  /-- MIGRATE (R202): TEN_CMD MIGRATE enables the page dirty log and enters MIGRATING out. -/
  | tenMigrate (t tenant : Nat)
  /-- RECEIVE (R202): TEN_CMD RECEIVE enters MIGRATING in. -/
  | tenReceive (t tenant : Nat)
  /-- STOP_AT_BOUNDARY (R222): TEN_CMD STOP_AT_BOUNDARY stages the migration stop. -/
  | tenStopAtBoundary (t tenant : Nat)
  /-- RESUME (R223): TEN_CMD RESUME stages the tenant to RUNNING at a boundary. -/
  | tenResume (t tenant : Nat)
  /-- PLOG_SNAP (R215): TEN_CMD PLOG_SNAP copies and clears the page dirty log. -/
  | tenPlogSnap (t tenant : Nat)
  /-- MAP_INVAL (R199): TEN_CMD MAP_INVAL drops translations of a page or of all pages. -/
  | tenMapInval (t tenant : Nat) (all : Bool) (page : Nat)
  /-- TW_MSG_DB (R211): A tenant's message doorbell advances PROD or CONS, or reports RING_FULL or BAD_INDEX. -/
  | twMsgDb (t core page : Nat) (value : BitVec 32)
  /-- TEN_MSG_INDEX_WRITE (R211): The steward advances outbound CONS or inbound PROD, which sets the tenant's flag. -/
  | tenMsgIndexWrite (t tenant page : Nat) (value : BitVec 32)
  /-- TW_RING_TAIL (R201): A tenant writes TAIL of a bound ring slot through its window. -/
  | twRingTail (t core slot index : Nat)
  /-- MIGRATION_COMMIT_RECEIVED (R223): The destination receives a commit and stages RESUME. -/
  | migrationCommitReceived (t tenant : Nat) (commit : MigCommit)
  /-- MIGRATION_ABORT_RECEIVED (R223): The destination receives an abort and releases its tenant. -/
  | migrationAbortReceived (t tenant : Nat)
  /-- COMMIT_ACKNOWLEDGED (R223): The source receives the commit acknowledgement and releases the tenant. -/
  | commitAcknowledged (t : Nat) (reply : MigReply)
  /-- MIGRATION_DEADLINE (R223): No commit by T(c + 4) − 50 µs makes the source abort and resume. -/
  | migrationDeadline (t tenant : Nat)
  /-- DISPATCH (R240): A free core is given the first dispatchable item, with the tenant context switched. -/
  | dispatch (t core : Nat)
  /-- TW_NEXT (R242): A read of TW_NEXT completes the item and continues with another item of the same task or redispatches the core. -/
  | twNext (t core : Nat)
  /-- TW_DONE (R241): A write of TW_DONE completes the item and frees the core. -/
  | twDone (t core result : Nat)
  /-- TW_ENQ (R245): A tenant enqueue is tested and queued or refused. -/
  | twEnq (t core index : Nat)
  /-- SPILL_REFILL (R249): A spilled item is brought on chip once room appears. -/
  | spillRefill (t tenant : Nat) (ue : Bool)
  /-- SCH_STW_ENQ (R246): A steward enqueue to a named descriptor. -/
  | schStwEnq (t task : Nat)
  /-- SCH_STW_CPL_POP (R247): A write removes the head steward completion record. -/
  | schStwCplPop (t : Nat)
  /-- SCH_FLAG_SET (R234): The steward sets or clears flag bits in a descriptor. -/
  | schFlagSet (t task : Nat) (clear : Bool)
  /-- TW_FLAG (R234): A tenant ORs bits into its own task's flags. -/
  | twFlag (t core k : Nat) (value : BitVec 32)
  /-- TW_FLAG_CLR (R235): A tenant clears flag bits. -/
  | twFlagClr (t core k : Nat) (value : BitVec 32)
  /-- TW_TMR_ARM (R236): A write of TW_TMR_HI arms a tenant timer. -/
  | twTmrArm (t core n : Nat) (hi : BitVec 32)
  /-- TW_TMR_DISARM (R254): A write of ARMED = 0 to TW_TMR_CFG disarms a timer. -/
  | twTmrDisarm (t core n : Nat) (value : BitVec 32)
  /-- TIMER_DEADLINE (R236): A tenant timer reaches its deadline, sets its flag and rearms by PERIOD. -/
  | timerDeadline (t tenant n : Nat)
  /-- TW_CPL_CONS (R254): A tenant advances its completion ring consumer index. -/
  | twCplCons (t core : Nat) (value : BitVec 32)
  /-- RUN_LIMIT (R244): An item in service past RUN_LIMIT is cut off. -/
  | runLimit (t core : Nat)
  /-- TENANT_FAULT (R244): A faulting access ends the item, and may disable the tenant. -/
  | tenantFault (t core cause va : Nat)
  /-- OVERRUN_CHECK (R250): At T(k + 1) + SLACK incomplete round-k work is counted and may be cut. -/
  | overrunCheck (t tenant : Nat)
  /-- GRID_TRIGGER (R261): In GRID mode an evaluation is triggered at the sample instant plus LAG. -/
  | gridTrigger (t law : Nat)
  /-- LAW_EVALUATION (R263): A free lane evaluates a queued law through fetch, blocks and commit. -/
  | lawEvaluation (t : Nat)
  /-- CLOCK_LOST (R266): No trigger for TIMEOUT periods sets CLOCK_LOST. -/
  | clockLost (t law : Nat)
  /-- CLE_START (R276): CLE_LAW_CMD START checks and starts a law. -/
  | cleStart (t law : Nat)
  /-- CLE_STOP (R275): CLE_LAW_CMD STOP stops a law and sets sinks to their stopped values. -/
  | cleStop (t law : Nat)
  /-- CLE_COMMIT (R279): CLE_LAW_CMD COMMIT checks and stages the shadow coefficient set. -/
  | cleCommit (t law : Nat) (bumpless : Bool)
  /-- COPY_ACTIVE (R278): CLE_LAW_CMD COPY_ACTIVE copies active parameters to the shadow. -/
  | copyActive (t law : Nat)
  /-- TUNE (R275): CLE_LAW_CMD TUNE stages entry to TUNING. -/
  | cleTune (t law : Nat)
  /-- UNTUNE (R275): CLE_LAW_CMD UNTUNE stages the return to RUNNING. -/
  | cleUntune (t law : Nat)
  /-- TRACE_ARM (R283): CLE_TRC_CMD ARM arms a law's trace. -/
  | traceArm (t law : Nat)
  /-- TRACE_DISARM (R283): CLE_TRC_CMD DISARM stops recording. -/
  | traceDisarm (t law : Nat)
  /-- TRACE_TRIGGER (R283): CLE_TRC_CMD TRIGGER triggers the trace. -/
  | traceTrigger (t law : Nat)
  /-- TW_SP_WRITE (R274): A tenant writes a set-point word; NaN or infinity is ignored. -/
  | twSpWrite (t core j : Nat) (value : BitVec 32)
  /-- AUTOTUNE_COMPLETE (R284): The auto-tune service finishes its cycles, stages UNTUNE and proposes gains. -/
  | autotuneComplete (t law : Nat)
  /-- AUTOTUNE_TIMEOUT (R284): A relay that is silent or incomplete past MAX_TIME ends the tune with TUNE_ABORTED. -/
  | autotuneTimeout (t law : Nat)
  /-- SCAN (R293): A free scan unit runs a queued scan through read, execute and write phases. -/
  | scan (t us : Nat)
  /-- LGE_WATCHDOG (R302): An execute phase longer than LGE_PRG_WD is abandoned and the program stops. -/
  | lgeWatchdog (t prog us : Nat)
  /-- LGE_START (R300): LGE_PRG_CMD START starts a verified program, cold or warm. -/
  | lgeStart (t prog : Nat) (cold : Bool)
  /-- LGE_STOP (R300): LGE_PRG_CMD STOP stops the program and drives safe values. -/
  | lgeStop (t prog : Nat)
  /-- HOLD (R300): LGE_PRG_CMD HOLD holds the program after the scan in progress. -/
  | lgeHold (t prog : Nat)
  /-- RUN (R301): LGE_PRG_CMD RUN resumes a held program. -/
  | lgeRun (t prog us : Nat)
  /-- STEP (R301): LGE_PRG_CMD STEP runs one scan or resumes to the next breakpoint. -/
  | lgeStep (t prog us : Nat)
  /-- LGE_VERIFY (R310): LGE_PRG_CMD VERIFY checks a replacement program. -/
  | lgeVerify (t prog target : Nat)
  /-- LGE_VERIFY_COMPLETE (R310): Verification completes within 2 ms and sets VERIFIED or VERIFY_FAIL. -/
  | lgeVerifyComplete (t prog : Nat)
  /-- EXCHANGE (R311): LGE_PRG_CMD EXCHANGE stages an on-line exchange. -/
  | lgeExchange (t prog target : Nat)
  /-- CANCEL_EXCHANGE (R316): LGE_PRG_CMD CANCEL_EXCHANGE withdraws a staged exchange before its cut-off. -/
  | lgeCancelExchange (t prog : Nat)
  /-- TW_LGI_WRITE (R295): A tenant writes a logic-engine input word. -/
  | twLgiWrite (t core j : Nat) (value : BitVec 32)
  /-- FORCE_TABLE_WRITE (R314): A force entry is set or cleared and applies from the next scan. -/
  | forceTableWrite (t prog entry var : Nat) (valid : Bool) (value : BitVec 32)
  /-- TW_TRIP (R322): A tenant writes its trip register, and bound balls follow. -/
  | twTrip (t core : Nat) (value : BitVec 32)
  /-- TW_TRIP_SET (R322): A tenant sets bits of its trip register. -/
  | twTripSet (t core : Nat) (value : BitVec 32)
  /-- TW_TRIP_CLR (R322): A tenant clears bits of its trip register. -/
  | twTripClr (t core : Nat) (value : BitVec 32)
  /-- BINDING_WRITE (R324): The steward writes a trip binding, checked as a record. -/
  | bindingWrite (t b k : Nat) (value : BitVec 32)
  /-- OUT_BIND_ARM_WRITE (R324): A write of OUT_BIND_ARM sets one binding's ARM bit. -/
  | outBindArmWrite (t : Nat) (value : BitVec 32)
  /-- FENCE_ASSERT (R329): FENCE_N going low drives every TRIP ball low and mutes publishing. -/
  | fenceAssert (t : Nat)
  /-- FENCE_RELEASE (R330): FENCE_N returning high ends an unlatched FENCE. -/
  | fenceRelease (t : Nat)
  /-- OUT_FENCE_CLR (R330): A write releases a latched FENCE while FENCE_N is high. -/
  | outFenceClr (t : Nat)
  /-- BIN_CHANGE_ACCEPTED (R331): DEBOUNCE differing samples change a binary input's debounced state. -/
  | binChangeAccepted (t input : Nat)
  /-- BIN_BLOCK_END (R332): A block ends at a TAI second after a quiet second. -/
  | binBlockEnd (t input : Nat) (level : Bool)
  /-- OUT_BIN_EVT_POP (R333): A write removes the head binary event. -/
  | outBinEvtPop (t : Nat)
  /-- TW_PUB_COMMIT (R335): A tenant commits staged elements to a publish queue. -/
  | twPubCommit (t core : Nat) (value : BitVec 32)
  /-- SCHEDULED_RETRANSMISSION (R341): A scheduled GOOSE retransmission is sent, or counted MUTED. -/
  | scheduledRetransmission (t pub : Nat)
  /-- REC_ENTRY_READ (R351): At an entry's instant plus LAG a recorder reads its channels and runs its tests. -/
  | recEntryRead (t rec_ : Nat)
  /-- XTRG_QUALIFY (R365): FILT consecutive low samples qualify an XTRG line as asserted. -/
  | xtrgQualify (t line : Nat)
  /-- XTRG_RELEASE (R365): FILT high samples release a qualified XTRG line. -/
  | xtrgRelease (t line : Nat)
  /-- XTRG_PULSE_END (R365): An XTRG output is released PULSE µs after the latest trigger. -/
  | xtrgPulseEnd (t line : Nat)
  /-- DOMAIN_TRIGGER_FRAME (R362): A received domain trigger frame is verified and injected into matching recorders. -/
  | domainTriggerFrame (t : Nat) (bytes : List (BitVec 8))
  /-- REC_INJECT (R363): A write offers a source 7 or 9 trigger to the recorders in MASK. -/
  | recInject (t : Nat) (value : BitVec 32)
  /-- REC_OP_ARM (R356): REC_CMD ARM checks and arms a recorder. -/
  | recOpArm (t rec_ : Nat)
  /-- REC_OP_DISARM (R355): REC_CMD DISARM disarms a recorder or ends its recording. -/
  | recOpDisarm (t rec_ : Nat)
  /-- REC_OP_TRIGGER (R358): REC_CMD TRIGGER gives a software trigger at present time. -/
  | recOpTrigger (t rec_ : Nat)
  /-- ALM_POST (R386): The steward posts a staged event to a channel. -/
  | almPost (t : Nat) (value : BitVec 32)
  /-- TW_ALM_POST (R386): A tenant posts an event to its own channel. -/
  | twAlmPost (t core : Nat) (value : BitVec 32)
  /-- INTAKE_PROCESS (R382): The writer takes the next intake entry once the previous record has committed. -/
  | intakeProcess (t : Nat)
  /-- ALM_CLEAR_WRITE (R389): A write of ALM_CLEAR empties a tenant channel and writes the clear record. -/
  | almClearWrite (t : Nat) (value : BitVec 32)
  /-- SEEK (R387): The cursor locates a record by SEQ. -/
  | cursorSeek (t : Nat)
  /-- NEXT (R387): The cursor advances one record. -/
  | cursorNext (t : Nat)
  /-- FIRST (R387): The cursor seeks the oldest record. -/
  | cursorFirst (t : Nat)
  /-- LAST (R387): The cursor seeks the newest record. -/
  | cursorLast (t : Nat)
  /-- HEARTBEAT_FRAME_RECEIVE (R400): DPX verifies and accepts a heartbeat or referee frame. -/
  | heartbeatFrameReceive (t : Nat) (frame : Option (List (BitVec 8)))
  /-- HEARTBEAT_WINDOW_END (R401): At T(k) + WINDOW the referee counts missed rounds and path faults. -/
  | heartbeatWindowEnd (t : Nat) (wireA wireB : Bool)
  /-- FATAL_DETECT (R402): Eight high heartbeat samples, or FATAL in a frame, lead to a declaration. -/
  | fatalDetect (t side : Nat) (wire : Bool)
  /-- GRANT (R415): A standby accepting a grant becomes ACTIVE and opens its gate. -/
  | evGrant (t : Nat)
  /-- ROLE_ANSWER (R420): A member receives the referee's role answer and takes the role. -/
  | roleAnswer (t : Nat)
  /-- SWAP (R423): Members receive a swap naming boundary s. -/
  | evSwap (t : Nat)
  /-- REFEREE_LOST (R404): No referee frame for H rounds clears REF_OK. -/
  | refereeLost (t : Nat)
  /-- NEG_WAIT_EXPIRY (R405): No role answer within NEG_WAIT gives SOLO or PENDING. -/
  | negWaitExpiry (t : Nat)
  /-- COPY_ACK (R410): The acknowledgement of a copy sets DUPLEX and releases round outputs. -/
  | copyAck (t : Nat)
  /-- COPY_CUT (R412): A copy over budget, past its deadline or without link is cut and its items remarked. -/
  | copyCut (t : Nat)
  /-- COPY_APPLY (R413): The standby checks and applies a complete copy, then acknowledges it. -/
  | copyApply (t : Nat)
  /-- REVERT_REQUEST (R423): The preferred standby, healthy for ROUNDS rounds, sets REVERT_REQ. -/
  | revertRequest (t : Nat)
  /-- IMG_MODE_CLEAR (R415): IMG_MODE clears when round-g work completes or at T(g + 1). -/
  | imgModeClear (t : Nat)
  /-- VIGIL_CORE_VECTOR (R425): A parked core runs the ROM vector set and compares the signature. -/
  | vigilCoreVector (t core : Nat) (pass : Bool)
  /-- KEY_INTEGRITY_CHECK (R450): Every 1,024 rounds the key register CRC is compared; failure zeroises. -/
  | keyIntegrityCheck (t : Nat) (ok : Bool)
  /-- REQUEST_ROLE (R420): DPX_CMD REQUEST_ROLE sends heartbeats with ROLE_REQ. -/
  | requestRole (t : Nat)
  /-- REVERT_NOW (R423): DPX_CMD REVERT_NOW skips the take-back hold-off. -/
  | revertNow (t : Nat)
  /-- UNFENCE (R403): DPX_CMD UNFENCE clears a fence latch and releases FENCE_OUT. -/
  | evUnfence (t side : Nat)
  /-- DECLARE (R402): DPX_CMD DECLARE declares the active failed on a referee. -/
  | evDeclare (t : Nat)
  /-- FORCE_GRANT (R430): DPX_CMD FORCE_GRANT grants a member that is not eligible. -/
  | forceGrant (t side : Nat)
  /-- DERIVE (R438): KEY_OP_CMD DERIVE creates a SYMMETRIC child slot. -/
  | opDerive (t : Nat)
  /-- IMPORT (R438): KEY_OP_CMD IMPORT unwraps or imports a child slot. -/
  | opImport (t : Nat) (pub : Bool)
  /-- EXPORT (R438): KEY_OP_CMD EXPORT wraps a slot's value to OUT. -/
  | opExport (t : Nat)
  /-- GENERATE (R438): KEY_OP_CMD GENERATE makes an ECC_PRIVATE child. -/
  | opGenerate (t : Nat)
  /-- AGREE (R438): KEY_OP_CMD AGREE performs ECDH and derives a child. -/
  | opAgree (t : Nat)
  /-- MAC (R438): KEY_OP_CMD MAC computes an HMAC tag. -/
  | opMac (t : Nat) (tag16 : Bool)
  /-- VERIFY (R438): KEY_OP_CMD VERIFY compares an HMAC tag. -/
  | opVerify (t : Nat) (tag16 : Bool)
  /-- ENCRYPT (R438): KEY_OP_CMD ENCRYPT performs AES-GCM or GMAC. -/
  | opEncrypt (t : Nat)
  /-- DECRYPT (R438): KEY_OP_CMD DECRYPT performs AES-GCM decryption or GMAC check. -/
  | opDecrypt (t : Nat)
  /-- SIG_VERIFY (R438): KEY_OP_CMD SIG_VERIFY checks an ECDSA signature. -/
  | opSigVerify (t : Nat)
  /-- INVALIDATE (R440): KEY_OP_CMD INVALIDATE raises a slot's GEN, orphaning its descendants. -/
  | opInvalidate (t : Nat) (destroy : Bool)
  /-- INVALIDATE_COMPLETE (R440): Invalidation completes once earlier grants have drained. -/
  | invalidateComplete (t : Nat)
  /-- SWEEP (R442): KEY_OP_CMD SWEEP frees every orphan in ascending order. -/
  | opSweep (t : Nat)
  /-- SWEEP_COMPLETE (R442): The sweep completes and event 0x0C03 is written. -/
  | sweepComplete (t : Nat)
  /-- ZEROISE (R444): KEY_OP_CMD ZEROISE frees every non-fixed slot after draining grants. -/
  | opZeroise (t : Nat)
  /-- TW_KEY_CMD_MAC (R453): A tenant computes a MAC through a key handle. -/
  | twKeyCmdMac (t core handle : Nat) (tag16 : Bool)
  /-- TW_KEY_CMD_VERIFY (R453): A tenant verifies a tag through a key handle. -/
  | twKeyCmdVerify (t core handle : Nat) (tag16 : Bool)
  /-- TW_KEY_CMD_ENCRYPT (R453): A tenant encrypts through a key handle. -/
  | twKeyCmdEncrypt (t core handle : Nat)
  /-- TW_KEY_CMD_DECRYPT (R453): A tenant decrypts through a key handle. -/
  | twKeyCmdDecrypt (t core handle : Nat)
  /-- TAMPER_EVENT (R451): An enabled tamper input in tamper longer than its filter zeroises the register according to phase. -/
  | tamperEvent (t input : Nat)
  /-- VBAT_LOST (R449): VBAT returning after a loss in DEPLOYED latches cause VBAT_LOST. -/
  | vbatLost (t : Nat)
  /-- ENTROPY_FAILURE (R443): An entropy health-test failure refuses randomness until it passes. -/
  | entropyFailure (t : Nat)
  /-- BANK_HANDOVER (R463): A write of MEM_BANK_OWNER starts draining the bank. -/
  | bankHandover (t bank : Nat) (owner : BitVec 32)
  /-- BANK_IDLE (R463): Accepted requests complete, and the bank is zeroed or handed over. -/
  | bankIdle (t bank : Nat)
  /-- BANK_ZEROING_DONE (R463): Zeroing ends and the new owner is served. -/
  | bankZeroingDone (t bank : Nat)
  /-- PORT_A_ACCESS (R462): A port A request is served for the owner or refused. -/
  | portAAccess (t : Nat) (req : MemReq) (addr len : Nat) (write : Option (List (BitVec 8))) (found : EccFound)
  /-- PORT_B_ACCESS (R465): A port B access is served, merging with port A on collision. -/
  | portBAccess (t addr len : Nat) (write : Option (List (BitVec 8))) (other : Option PortA) (found : EccFound)
  /-- DRAM_ACCESS (R472): A DRAM access, with ECC correction or failure. -/
  | dramAccess (t : Nat) (req : MemReq) (addr len : Nat) (write : Option (List (BitVec 8))) (found : EccFound)
  /-- PATROL_SCRUB (R468): The patrol scrub reads and corrects banks and DRAM. -/
  | patrolScrub (t : Nat) (target : ScrubTarget) (found : EccFound) (passDone : Bool)
  /-- BANK_BIST_START (R469): MEM_BANK_BIST.START runs BIST on an unowned or failed bank. -/
  | bankBistStart (t bank : Nat)
  /-- BANK_BIST_COMPLETE (R469): Bank BIST ends and the bank is UNOWNED or FAILED. -/
  | bankBistComplete (t bank : Nat) (failSub : Option Nat)
  /-- COMMAND (R480): Host doorbell COMMAND makes a FREE mailbox BUSY. -/
  | doorbellCommand (t m : Nat)
  /-- ACK (R480): Host doorbell ACK returns RESP_READY to FREE. -/
  | doorbellAck (t m : Nat)
  /-- FETCH (R480): Host doorbell FETCH takes the oldest queued completion. -/
  | doorbellFetch (t m : Nat)
  /-- MBX_MB_RESP (R502): The steward posts the response buffer and moves BUSY to RESP_READY. -/
  | mbxMbResp (t m : Nat) (value : BitVec 32)
  /-- COMMAND_PROCESS (R483): The steward takes a command in round-robin order and applies the ordered checks. -/
  | commandProcess (t : Nat)
  /-- UDP_DATAGRAM (R494): A command datagram arrives on the management port. -/
  | udpDatagram (t addr port dport ident offset : Nat) (more : Bool) (bytes : List (BitVec 8))
  /-- REASSEMBLY_TIMEOUT (R494): An IP reassembly exceeds 500 ms and is dropped. -/
  | reassemblyTimeout (t addr ident : Nat)
  /-- COMPLETION (R491): An accepted-pending command ends and its completion is queued or sent. -/
  | completion (t session seq : Nat) (fuseBad : Bool)
  /-- UDP_COMPLETION_REPEAT (R491): An unacknowledged UDP completion is resent every 100 ms, up to 10 sends. -/
  | udpCompletionRepeat (t session seq : Nat)
  /-- SESSION_IDLE_TIMEOUT (R489): A session idle for its timeout ends. -/
  | sessionIdleTimeout (t session : Nat)
  /-- STEWARD_WATCHDOG (R507): A missed kick resets the steward core and reloads its image. -/
  | stewardWatchdog (t : Nat)
  /-- STEWARD_RESTART (R493): The restarted firmware invalidates sessions and sets STEWARD_READY. -/
  | stewardRestart (t : Nat)
  /-- SYS_WDOG_KICK (R507): A kick restarts the watchdog timeout. -/
  | sysWdogKick (t : Nat)
  /-- I2C_STRETCH_TIMEOUT (R550): Clock stretching beyond 25 ms releases the bus and fails the transfer. -/
  | i2cStretchTimeout (t bus : Nat)
  /-- PRT_STATUS (R496): Mailbox command returning port status. -/
  | prtStatus (t : Nat) (c : Cmd)
  /-- PRT_PORT_SET (R496): Mailbox command writing port registers. -/
  | prtPortSet (t : Nat) (c : Cmd)
  /-- PRT_LRE_SET (R496): Mailbox command writing LRE settings. -/
  | prtLreSet (t : Nat) (c : Cmd)
  /-- FAB_STATUS (R496): Mailbox command returning fabric status. -/
  | fabStatus (t : Nat) (c : Cmd)
  /-- FAB_FDB_WRITE (R496): Mailbox command writing a static forwarding entry. -/
  | fabFdbWrite (t : Nat) (c : Cmd)
  /-- FAB_FDB_DELETE (R496): Mailbox command deleting or flushing forwarding entries. -/
  | fabFdbDelete (t : Nat) (c : Cmd)
  /-- FAB_LIMITS_SET (R496): Mailbox command setting fabric limits. -/
  | fabLimitsSet (t : Nat) (c : Cmd)
  /-- ING_STATUS (R496): Mailbox command returning ingest status. -/
  | ingStatus (t : Nat) (c : Cmd)
  /-- STREAM_ADD (R496): Mailbox command adding a stream to the shadow bank. -/
  | streamAdd (t : Nat) (c : Cmd)
  /-- STREAM_REMOVE (R496): Mailbox command removing a stream from the shadow bank. -/
  | streamRemove (t : Nat) (c : Cmd)
  /-- STREAM_FLIP (R497): Mailbox command staging or cancelling a flip. -/
  | streamFlip (t : Nat) (c : Cmd)
  /-- STENCIL_LOAD (R496): Mailbox command loading a customer stencil. -/
  | stencilLoad (t : Nat) (c : Cmd)
  /-- STRANGER_READ (R496): Mailbox command popping stranger entries. -/
  | strangerRead (t : Nat) (c : Cmd)
  /-- ACQ_STATUS (R496): Mailbox command returning acquisition status. -/
  | acqStatus (t : Nat) (c : Cmd)
  /-- ACQ_GROUP_SET (R496): Mailbox command writing group and channel registers. -/
  | acqGroupSet (t : Nat) (c : Cmd)
  /-- ACQ_TRIP_SET (R496): Mailbox command writing ACQ_TRIP_CFG. -/
  | acqTripSet (t : Nat) (c : Cmd)
  /-- ACQ_TRIP_RELEASE (R496): Mailbox command releasing a latched trip lane. -/
  | acqTripRelease (t : Nat) (c : Cmd)
  /-- SCH_STATUS (R496): Mailbox command returning scheduler status. -/
  | schStatus (t : Nat) (c : Cmd)
  /-- SCH_ENQUEUE (R496): Mailbox command making a steward enqueue. -/
  | schEnqueue (t : Nat) (c : Cmd)
  /-- CLE_STATUS (R496): Mailbox command returning law status. -/
  | cleStatus (t : Nat) (c : Cmd)
  /-- CLAW_TRACE_READ (R496): Mailbox command reading trace entries to an aperture. -/
  | clawTraceRead (t : Nat) (c : Cmd)
  /-- CLAW_AUTOTUNE (R284): Mailbox command starting a relay auto-tune. -/
  | clawAutotune (t : Nat) (c : Cmd)
  /-- CLAW_AUTOTUNE_APPLY (R286): Mailbox command committing the proposed gains bumplessly. -/
  | clawAutotuneApply (t : Nat) (c : Cmd)
  /-- CLAW_AUTOTUNE_ABORT (R286): Mailbox command ending a tune with reason 5. -/
  | clawAutotuneAbort (t : Nat) (c : Cmd)
  /-- CLAW_CONTROL (R496): Mailbox command issuing START, STOP or COPY_ACTIVE. -/
  | clawControl (t : Nat) (c : Cmd)
  /-- CLAW_COEFF_COMMIT (R496): Mailbox command committing shadow parameters, completing at the swap. -/
  | clawCoeffCommit (t : Nat) (c : Cmd)
  /-- LGE_STATUS (R496): Mailbox command returning program status. -/
  | lgeStatus (t : Nat) (c : Cmd)
  /-- PROG_LOAD (R496): Mailbox command loading a STOP slot from an aperture. -/
  | progLoad (t : Nat) (c : Cmd)
  /-- PROG_VERIFY (R496): Mailbox command verifying a program. -/
  | progVerify (t : Nat) (c : Cmd)
  /-- PROG_EXCHANGE (R496): Mailbox command staging an exchange, completing with its report. -/
  | progExchange (t : Nat) (c : Cmd)
  /-- PROG_CONTROL (R496): Mailbox command issuing program control operations. -/
  | progControl (t : Nat) (c : Cmd)
  /-- PROG_FORCE (R314): Mailbox command setting or clearing a force. -/
  | progForce (t : Nat) (c : Cmd)
  /-- OUT_STATUS (R496): Mailbox command returning output status. -/
  | outStatus (t : Nat) (c : Cmd)
  /-- OUT_BIND_ARM (R324): Mailbox command toggling a binding's ARM. -/
  | outBindArm (t : Nat) (c : Cmd)
  /-- OUT_BIND_SET (R496): Mailbox command writing bindings, publishers, owners and templates. -/
  | outBindSet (t : Nat) (c : Cmd)
  /-- OUT_FENCE_CLEAR (R330): Mailbox command releasing a latched FENCE. -/
  | outFenceClear (t : Nat) (c : Cmd)
  /-- OUT_BIN_EVENTS (R496): Mailbox command popping binary events. -/
  | outBinEvents (t : Nat) (c : Cmd)
  /-- REC_ARM (R356): Mailbox command arming a recorder. -/
  | recArm (t : Nat) (c : Cmd)
  /-- REC_DISARM (R355): Mailbox command disarming a recorder. -/
  | recDisarm (t : Nat) (c : Cmd)
  /-- REC_TRIGGER (R363): Mailbox command giving a software trigger. -/
  | recTrigger (t : Nat) (c : Cmd)
  /-- REC_EXPORT (R368): Mailbox command exporting a recording as COMTRADE. -/
  | recExport (t : Nat) (c : Cmd)
  /-- REC_STATUS (R496): Mailbox command returning recorder state and header. -/
  | recStatus (t : Nat) (c : Cmd)
  /-- ALM_CLEAR (R389): Mailbox command requesting a channel clear and returning a confirm code. -/
  | almClear (t : Nat) (c : Cmd)
  /-- ALM_CLEAR_CONFIRM (R389): Mailbox command confirming and performing a clear. -/
  | almClearConfirm (t : Nat) (c : Cmd)
  /-- ALM_INFO (R391): Mailbox command returning channel information. -/
  | almInfo (t : Nat) (c : Cmd)
  /-- ALM_READ (R391): Mailbox command reading records from a channel. -/
  | almRead (t : Nat) (c : Cmd)
  /-- DPX_STATUS (R430): Mailbox command returning duplex status. -/
  | dpxStatus (t : Nat) (c : Cmd)
  /-- DPX_REVERT_NOW (R430): Mailbox command requesting take-back without hold-off. -/
  | dpxRevertNow (t : Nat) (c : Cmd)
  /-- DPX_UNFENCE (R430): Mailbox command releasing a fence. -/
  | dpxUnfence (t : Nat) (c : Cmd)
  /-- DPX_DECLARE (R430): Mailbox command declaring the active failed. -/
  | dpxDeclare (t : Nat) (c : Cmd)
  /-- DPX_FORCE_GRANT (R430): Mailbox command granting a member that is not eligible. -/
  | dpxForceGrant (t : Nat) (c : Cmd)
  /-- KEY_STATUS (R457): Mailbox command returning key register status. -/
  | keyStatus (t : Nat) (c : Cmd)
  /-- KEY_DERIVE (R457): Mailbox command performing DERIVE. -/
  | keyDerive (t : Nat) (c : Cmd)
  /-- KEY_IMPORT (R457): Mailbox command performing IMPORT. -/
  | keyImport (t : Nat) (c : Cmd)
  /-- KEY_EXPORT (R457): Mailbox command performing EXPORT. -/
  | keyExport (t : Nat) (c : Cmd)
  /-- KEY_GENERATE (R457): Mailbox command performing GENERATE. -/
  | keyGenerate (t : Nat) (c : Cmd)
  /-- KEY_AGREE (R457): Mailbox command performing AGREE. -/
  | keyAgree (t : Nat) (c : Cmd)
  /-- KEY_INVALIDATE (R457): Mailbox command performing INVALIDATE. -/
  | keyInvalidate (t : Nat) (c : Cmd)
  /-- KEY_SWEEP (R457): Mailbox command performing SWEEP. -/
  | keySweep (t : Nat) (c : Cmd)
  /-- KEY_HANDLE_SET (R446): Mailbox command mapping a tenant key handle. -/
  | keyHandleSet (t : Nat) (c : Cmd)
  /-- KEY_ZEROISE (R444): Mailbox command zeroising the register. -/
  | keyZeroise (t : Nat) (c : Cmd)
  /-- KEY_ENROLL (R448): Mailbox command fusing a customer key hash. -/
  | keyEnroll (t : Nat) (c : Cmd)
  /-- KEY_REVOKE (R448): Mailbox command revoking a customer key. -/
  | keyRevoke (t : Nat) (c : Cmd)
  /-- KEY_LC_ADVANCE (R447): Mailbox command advancing the life-cycle state by fuse. -/
  | keyLcAdvance (t : Nat) (c : Cmd)
  /-- KEY_TAMPER_CLEAR (R452): Mailbox command re-provisioning after tamper. -/
  | keyTamperClear (t : Nat) (c : Cmd)
  /-- KEY_TAMPER_CFG (R457): Mailbox command writing tamper configuration. -/
  | keyTamperCfg (t : Nat) (c : Cmd)
  /-- MEM_STATUS (R476): Mailbox command returning memory status. -/
  | memStatus (t : Nat) (c : Cmd)
  /-- MEM_BANK_ASSIGN (R476): Mailbox command handing a bank over, completing when owned. -/
  | memBankAssign (t : Nat) (c : Cmd)
  /-- MEM_BANK_BIST (R476): Mailbox command running bank BIST. -/
  | memBankBist (t : Nat) (c : Cmd)
  /-- TIM_STATUS (R496): Mailbox command returning time status. -/
  | timStatus (t : Nat) (c : Cmd)
  /-- TIM_SET (R496): Mailbox command writing time registers. -/
  | timSet (t : Nat) (c : Cmd)
  /-- TENANT_STATUS (R496): Mailbox command returning tenant status. -/
  | tenantStatus (t : Nat) (c : Cmd)
  /-- TENANT_LOAD (R205): Mailbox command checking and loading a tenant image. -/
  | tenantLoad (t : Nat) (c : Cmd)
  /-- TENANT_START (R496): Mailbox command starting a tenant, completing at RUNNING. -/
  | tenantStart (t : Nat) (c : Cmd)
  /-- TENANT_DISABLE (R496): Mailbox command disabling a tenant, completing at DISABLED. -/
  | tenantDisable (t : Nat) (c : Cmd)
  /-- TENANT_UNLOAD (R496): Mailbox command releasing a tenant. -/
  | tenantUnload (t : Nat) (c : Cmd)
  /-- TENANT_SET_SHARE (R207): Mailbox command staging a share. -/
  | tenantSetShare (t : Nat) (c : Cmd)
  /-- TENANT_SET_LIMITS (R208): Mailbox command staging queue limits. -/
  | tenantSetLimits (t : Nat) (c : Cmd)
  /-- TENANT_MIGRATE_OUT (R220): Mailbox command starting migration out. -/
  | tenantMigrateOut (t : Nat) (c : Cmd)
  /-- TENANT_MIGRATE_IN (R221): Mailbox command accepting migration in. -/
  | tenantMigrateIn (t : Nat) (c : Cmd)
  /-- TENANT_MIGRATE_ABORT (R223): Mailbox command aborting a migration. -/
  | tenantMigrateAbort (t : Nat) (c : Cmd)
  /-- TENANT_MSG (R496): Mailbox command sending a host message to a tenant. -/
  | tenantMsg (t : Nat) (c : Cmd)
  /-- TENANT_MSG_READ (R496): Mailbox command taking a tenant's queued HOST_SEND messages. -/
  | tenantMsgRead (t : Nat) (c : Cmd)
  /-- INFO_GET_FEATURES (R497): Mailbox command returning the feature word and part number. -/
  | infoGetFeatures (t : Nat) (c : Cmd)
  /-- SYS_STATUS (R526): Mailbox command returning start-up, life-cycle and role status. -/
  | sysStatus (t : Nat) (c : Cmd)
  /-- SYS_CONFIG_LOAD (R516): Mailbox command writing a verified configuration image to flash. -/
  | sysConfigLoad (t : Nat) (c : Cmd)
  /-- DORMANT_ENTER (R518): Mailbox command entering Dormant. -/
  | dormantEnter (t : Nat) (c : Cmd)
  /-- SOLSTICE_CONTROL (R526): Mailbox command arming, disarming, firing or configuring Solstice. -/
  | solsticeControl (t : Nat) (c : Cmd)
  /-- SYS_RESET (R526): Mailbox command resetting the module. -/
  | sysReset (t : Nat) (c : Cmd)
  /-- SESSION_OPEN (R488): Mailbox command establishing a session key by ECDH. -/
  | sessionOpen (t : Nat) (c : Cmd)
  /-- SESSION_CLOSE (R489): Mailbox command closing a session. -/
  | sessionClose (t : Nat) (c : Cmd)
  /-- SESSION_LIST (R496): Mailbox command listing sessions and optionally closing one. -/
  | sessionList (t : Nat) (c : Cmd)
  /-- MBX_ACK (R491): Mailbox command acknowledging a UDP completion. -/
  | mbxAck (t : Nat) (c : Cmd)
  /-- APERTURE_OPEN (R495): Mailbox command creating an aperture. -/
  | apertureOpen (t : Nat) (c : Cmd)
  /-- APERTURE_CLOSE (R495): Mailbox command zeroing and freeing an aperture. -/
  | apertureClose (t : Nat) (c : Cmd)
  /-- BULK_READ (R495): Mailbox command reading bytes from an aperture. -/
  | bulkRead (t : Nat) (c : Cmd)
  /-- BULK_WRITE (R495): Mailbox command writing bytes to an aperture. -/
  | bulkWrite (t : Nat) (c : Cmd)
  /-- PRINCIPAL_SET (R487): Mailbox command adding, changing or removing a principal. -/
  | principalSet (t : Nat) (c : Cmd)
  /-- STW_VERSION (R496): Mailbox command returning firmware release and SVN. -/
  | stwVersion (t : Nat) (c : Cmd)
  /-- STW_FLASH_WRITE (R500): Mailbox command writing a verified steward image to flash. -/
  | stwFlashWrite (t : Nat) (c : Cmd)
  /-- STW_SVN_ADVANCE (R500): Mailbox command blowing the SVN counter. -/
  | stwSvnAdvance (t : Nat) (c : Cmd)
  /-- STW_REG_READ (R496): Mailbox command reading control space. -/
  | stwRegRead (t : Nat) (c : Cmd)
  /-- STW_REG_WRITE (R496): Mailbox command writing control space in BLANK. -/
  | stwRegWrite (t : Nat) (c : Cmd)
  /-- STATUS_QUERY (R498): Tenant message asking for its status. -/
  | statusQuery (t tenant : Nat)
  /-- ALM_READ_OWN (R498): Tenant message reading its own Almanac channel. -/
  | almReadOwn (t tenant : Nat)
  /-- HOST_SEND (R498): Tenant message queuing data for the host. -/
  | hostSend (t tenant : Nat)
  /-- ENQUEUE_REMOTE (R498): Tenant message enqueuing to another tenant's task. -/
  | enqueueRemote (t tenant : Nat)
  /-- TIME_INFO (R498): Tenant message asking for time status. -/
  | timeInfo (t tenant : Nat)
  /-- POR_N_ASSERT (R506): POR_N low resets the module and drives outputs to their reset states. -/
  | porNAssert (t : Nat)
  /-- POR_N_RELEASE (R506): POR_N release starts Advent at step 1. -/
  | porNRelease (t : Nat) (input : AdventIn)
  /-- RST_N_ASSERT (R506): RST_N low resets the module, keeping the Almanac bank. -/
  | rstNAssert (t : Nat)
  /-- RST_N_RELEASE (R506): RST_N release starts Advent at step 1. -/
  | rstNRelease (t : Nat) (input : AdventIn)
  /-- PTP_WAIT_EXPIRED (R510): PTP_WAIT passes before lock, and step 9 ends or waits. -/
  | ptpWaitExpired (t : Nat)
  /-- DORMANT_ENTRY (R518): A write of SYS_DORMANT_CTRL.ENTER runs the Dormant entry sequence down to PWR_REQ low. -/
  | dormantEntry (t : Nat)
  /-- WAKE (R520): WAKE held high past its filter drives PWR_REQ high. -/
  | evWake (t : Nat)
  /-- WAKE_FRAME (R520): A matching management-port wake frame drives PWR_REQ high. -/
  | wakeFrame (t : Nat) (bytes : List (BitVec 8))
  /-- RAIL_DELAY_EXPIRY (R520): After RAIL_DELAY ms Advent runs from step 1 with WAKE set. -/
  | railDelayExpiry (t : Nat) (input : AdventIn)
  /-- SNAP_IN (R521): SNAP_IN asserted low makes a Solstice strobe when armed. -/
  | snapIn (t : Nat)
  /-- SOLSTICE_MATCH (R521): Domain time reaching SYS_SNAP_MATCH makes a strobe when armed. -/
  | solsticeMatch (t : Nat)
  /-- SOLSTICE_ARM (R523): SYS_SNAP_CTRL.ARM arms the snapshot. -/
  | solsticeArm (t : Nat)
  /-- SOLSTICE_DISARM (R523): SYS_SNAP_CTRL.DISARM disarms it. -/
  | solsticeDisarm (t : Nat)
  /-- SOLSTICE_FIRE (R521): SYS_SNAP_CTRL.FIRE fires the command source. -/
  | solsticeFire (t : Nat)
  /-- DISPATCH_INSTANT_HEARTBEAT (R514): While GRID_EN is 0 (Advent step 10, PENDING), DPX sends the network heartbeat within 4 µs after each instant T(k) that the time base computes, with no boundary performed. -/
  | dispatchInstantHeartbeat (t : Nat)
  /-- ENTROPY_RESTORED (R443): The entropy source's health test passes again and operations needing randomness are no longer refused. -/
  | entropyRestored (t : Nat)
  /-- TAMPER_EVENT_END (R451): An enabled tamper input returns to its normal level, so it no longer shows a live event. -/
  | tamperEventEnd (t input : Nat)
  /-- VBAT_BELOW_MINIMUM (R505): VBAT falls below its minimum, which resets the always-on domain and loses the fence latches, the tamper latch and the retained key register. -/
  | vbatBelowMinimum (t : Nat)
  /-- POWER_UP (R540): VDD_IO33 comes within limits and the always-on domain drives PWR_REQ high within 1 ms and drives latched FENCE_OUT balls. -/
  | powerUp (t : Nat)
  /-- PCIE_LINK_UP (R502): The PCIe link comes up and MBX_STAT.PCIE_LINK is set. -/
  | pcieLinkUp (t : Nat)
  /-- PCIE_LINK_DOWN (R502): The PCIe link goes down and MBX_STAT.PCIE_LINK is cleared. -/
  | pcieLinkDown (t : Nat)
  /-- JTAG_INSTRUCTION_LOAD (R549): An instruction is loaded through the JTAG port and selected, with BYPASS forced in DEPLOYED and DECOMMISSIONED for any instruction not permitted there. -/
  | jtagInstructionLoad (t : Nat) (instr : JtagInstr)
  /-- HOST_BAR2_ACCESS (R495): A PCIe host reads or writes BAR2; an access outside an open aperture, beyond LEN or in the wrong direction returns all ones or is discarded, and APER_VIOL is counted. -/
  | hostBar2Access (t addr len : Nat) (write : Option (List (BitVec 8)))
  /-- COMMAND_BUFFER_WRITE (R492): The host writes a mailbox command buffer in BAR0, which takes effect only while the mailbox is FREE and is otherwise ignored and counted in WRITE_WHILE_BUSY. -/
  | commandBufferWrite (t m offset : Nat) (bytes : List (BitVec 8))
  /-- CURSOR_COMMAND_COMPLETE (R387): An Almanac cursor command completes within 200 ns; BUSY clears and RESULT, SIZE, ALM_CUR_SEQ and ALM_DATA take their new values in one step. -/
  | cursorCommandComplete (t : Nat)
  /-- KEY_OPERATION_END (R439): A key register operation started by KEY_OP_CMD or TW_KEY_CMD ends; a created slot is written in one step, the grant is released, and BUSY or TW_KEY_STAT gives the outcome. -/
  | keyOperationEnd (t : Nat) (core : Option Nat)
  /-- TENANT_COMMAND_COMPLETE (R199): A TEN_CMD operation such as MAP_INVAL or PLOG_SNAP completes within 2 µs and TEN_CMD.BUSY clears. -/
  | tenantCommandComplete (t tenant : Nat)
deriving DecidableEq, Repr

end Sys2Proof
end

