-- ==== Sys2Proof/Decode.lean ====
section
/-! DEFINITION. The commands that words spell. No row of the table gives a command any bits, so no word spells one. -/

namespace Sys2Proof

/-- The command that a word spells by the table's bits: none (every row's bits are empty). -/
def decodeTableWord (_nbits _w : Nat) : Option Instr := none

end Sys2Proof
end

