-- ==== Sys2Proof/Config.lean ====
section
/-! DEFINITION. What an implementation fixes and the spec leaves open: constants without a body, so that no proof can
see their values. Free values (notes/assumptions/5) and the cryptographic primitives that the spec names by their
external standards (notes/assumptions/6). -/

namespace Sys2Proof.Config

/-- A value the spec leaves open, drawn by the `n`-th use (R13 and the rules that call the drawing operation). -/
opaque freeValue : Nat → BitVec 64

/-- The SECDED check byte over bits [95:0] of a calendar tag (R97), whose code the spec does not give. -/
opaque tagEcc : BitVec 96 → BitVec 8

/-- SHA-256, named by R433, R488 and R499. -/
opaque sha256 : List Byte → BitVec 256

/-- HMAC-SHA256 of a message under a key, named by R438. -/
opaque hmacSha256 : List Byte → List Byte → BitVec 256

/-- AES-256 key wrap of RFC 3394 with the default initial value: key, then the 32 bytes wrapped (R438). -/
opaque aesWrap : BitVec 256 → BitVec 256 → BitVec 320

/-- The inverse of `aesWrap`; none when the integrity check fails (R439). -/
opaque aesUnwrap : BitVec 256 → BitVec 320 → Option (BitVec 256)

/-- AES-256-GCM keystream output for (key, iv, data); the caller keeps as many bytes as the data has (R438). -/
opaque gcmCipher : BitVec 256 → List Byte → List Byte → List Byte

/-- AES-256-GCM tag for (key, iv, additional data, ciphertext) (R438). -/
opaque gcmTag : BitVec 256 → List Byte → List Byte → List Byte → BitVec 128

/-- The P-256 public point X, Y of a private scalar (R433). -/
opaque p256Public : BitVec 256 → BitVec 512

/-- The X coordinate of a P-256 scalar multiple of a peer point (R438). -/
opaque p256Shared : BitVec 256 → BitVec 512 → BitVec 256

/-- Whether a point lies on P-256 and is not at infinity (R439). -/
opaque p256OnCurve : BitVec 512 → Bool

/-- ECDSA P-256 verification of (point, signature, digest) (R438). -/
opaque ecdsaVerify : BitVec 512 → BitVec 512 → BitVec 256 → Bool

/-- The order n of P-256. PRESUMED: the value of FIPS 186, which the spec names only as n. -/
def p256Order : Nat := 0xFFFFFFFF00000000FFFFFFFFFFFFFFFFBCE6FAADA7179E84F3B9CAC2FC632551

/-- The device-unique secret S of the fuses (R445): no requester can read it. -/
opaque deviceSecret : BitVec 256

/-- The hash of the vendor firmware key in ROM (R434). -/
opaque romVendorKeyHash : BitVec 256

/-- The length of the security extension that the SV or GOOSE header gives (R149 names IEC 62351-6; the spec does not say
which header field it is). The argument is the 8-byte header. -/
opaque secExtLength : List Byte → Nat

/-- The key identifier and the authentication value of a security extension (R149). -/
opaque secExtFields : List Byte → Nat × List Byte

/-- The bytes of a frame that IEC 62351-6 defines as covered (R149); the argument is the frame without its FCS. -/
opaque secCovered : List Byte → List Byte

/-- The initialisation vector that IEC 62351-6 gives an AES-GMAC of a frame (R142). -/
opaque secIv : List Byte → List Byte

/-- The frame that carries a security extension with a key identifier and a MAC (R343). -/
opaque secAppend : List Byte → Nat → List Byte → List Byte

/-- Sign (bit 22) and payload of the quiet NaN that an operation (its number) gives for two operands; IEEE 754, which R267
names, leaves them open. -/
opaque nanPattern : Nat → Nat → Nat → BitVec 23

/-- The module's ID within its domain, 0 to 16,383 (R8); the spec names no register that holds it. -/
opaque moduleId : Nat

/-- How many rounds beyond two a referee puts between a swap message and its boundary: "at least 2 rounds ahead" leaves it
open (R423). -/
opaque swapExtra : Nat

/-- The export scale of a recorder's channel (recorder, channel), a binary32 that R368 takes from the configuration image,
whose format (R515) has no place for it. -/
opaque exportScale : Nat → Nat → Nat

/-- The .cfg, .dat and .hdr files of IEEE C37.111-2013 (R368), from what R368 puts into them: the header values, then one row
per entry. -/
opaque comtrade : List Nat → List (List Nat) → List Byte

/-- Whether the configuration permits a tenant to enqueue on a local task of another (source, destination, task; R498); the image format has no place for it. -/
opaque remotePermitted : Nat → Nat → Nat → Bool

/-- The MAC address of the management port, which the spec does not give (R494). -/
opaque mgmtMac : BitVec 48

/-- The last two characters of the part number (R497). -/
opaque partSuffix : BitVec 16

end Sys2Proof.Config
end

