-- ==== Sys2Proof/Machine/Bits.lean ====
section
/-! DEFINITION. Bit fields, byte order, signed values and the sparse stores every part of the state uses. -/

namespace Sys2Proof.Machine

/-! ### Bit fields of a control-space word -/

/-- The mask of a field inside its 32-bit word. -/
def fmask (f : Fld) : Word :=
  (BitVec.allOnes 32 <<< f.lo) &&& (BitVec.allOnes 32 >>> (32 - f.lo - f.width))

/-- The value of a field, as a number. -/
def fget (f : Fld) (w : Word) : Nat := (w.extractLsb' f.lo f.width).toNat

/-- The word with one field replaced by the low bits of `v`. -/
def fset (f : Fld) (w : Word) (v : Nat) : Word :=
  (w &&& ~~~(fmask f)) ||| ((BitVec.ofNat 32 v <<< f.lo) &&& fmask f)

/-- Bit `i` of a number. -/
def nbit (n i : Nat) : Bool := n.testBit i

/-- Bits `lo + width - 1` down to `lo` of a number. -/
def nbits (n lo width : Nat) : Nat := n / 2 ^ lo % 2 ^ width

/-- A truth value as a number. -/
def b2n (b : Bool) : Nat := if b then 1 else 0

/-- `n` with bit `i` set or cleared. -/
def nsetBit (n i : Nat) (b : Bool) : Nat :=
  if b then (if n.testBit i then n else n + 2 ^ i) else (if n.testBit i then n - 2 ^ i else n)

/-- How many of the low `w` bits of `n` are set. -/
def popcount (w n : Nat) : Nat := ((List.range w).filter (fun i => n.testBit i)).length

/-! ### Signed numbers -/

/-- The two's complement value of the low `w` bits of `n`. -/
def toSigned (w n : Nat) : Int :=
  let m := n % 2 ^ w
  if m < 2 ^ (w - 1) then (m : Int) else (m : Int) - (2 ^ w : Nat)

/-- The two's complement bits of `i` in `w` bits. -/
def ofSigned (w : Nat) (i : Int) : Nat := (i % ((2 ^ w : Nat) : Int)).toNat

/-- `i` held within `lo` to `hi`. -/
def clampInt (lo hi i : Int) : Int := if i < lo then lo else if hi < i then hi else i

/-- `n` held at `hi`. -/
def satNat (hi n : Nat) : Nat := if hi < n then hi else n

/-- The signed 32-bit difference `a - b` of two round or sequence numbers (R42, R377). -/
def diff32 (a b : Nat) : Int := toSigned 32 (ofSigned 32 ((a : Int) - (b : Int)))

/-! ### Byte order (R13: registers and memory are little-endian) -/

/-- `n` bytes of `v`, least significant first. -/
def leBytes : Nat → Nat → List Byte
  | 0, _ => []
  | n + 1, v => BitVec.ofNat 8 v :: leBytes n (v / 256)

/-- The number a little-endian byte list spells. -/
def leNat : List Byte → Nat
  | [] => 0
  | b :: bs => b.toNat + 256 * leNat bs

/-- `n` bytes of `v`, most significant first (network order). -/
def beBytes (n v : Nat) : List Byte := (leBytes n v).reverse

/-- The number a big-endian byte list spells. -/
def beNat (bs : List Byte) : Nat := leNat bs.reverse

/-- Bytes `off` to `off + n - 1` of a list, zero where the list has ended. -/
def slice (bs : List Byte) (off n : Nat) : List Byte :=
  let d := (bs.drop off).take n
  d ++ List.replicate (n - d.length) 0

/-- A little-endian field of a byte list. -/
def leAt (bs : List Byte) (off n : Nat) : Nat := leNat (slice bs off n)

/-- A big-endian field of a byte list. -/
def beAt (bs : List Byte) (off n : Nat) : Nat := beNat (slice bs off n)

/-- One byte of a list as a number, zero beyond its end. -/
def byteAt (bs : List Byte) (off : Nat) : Nat := (bs.getD off 0).toNat

/-- The list with `new` in place of its bytes from `off` on. -/
def patch (bs : List Byte) (off : Nat) (new : List Byte) : List Byte :=
  slice bs 0 off ++ new ++ bs.drop (off + new.length)

/-- A byte list brought to exactly `n` bytes: cut, or filled with zeros. -/
def fitBytes (n : Nat) (bs : List Byte) : List Byte := slice bs 0 n

/-- Bytes from a list of numbers. -/
def bytesOf (ns : List Nat) : List Byte := ns.map (BitVec.ofNat 8)

/-- A list cut into groups of `n` (the last one may be shorter); `fuel` bounds the groups. -/
def chunks {α : Type} (n : Nat) : Nat → List α → List (List α)
  | 0, _ => []
  | _, [] => []
  | k + 1, l => l.take n :: chunks n k (l.drop n)

/-! ### CRCs named by the spec -/

/-- One bit of a reflected CRC with polynomial `poly`. -/
def crcBit (poly crc : Nat) : Nat :=
  if crc % 2 = 1 then (crc / 2) ^^^ poly else crc / 2

/-- One byte of a reflected CRC. -/
def crcByte (poly crc : Nat) (b : Byte) : Nat :=
  (List.range 8).foldl (fun c _ => crcBit poly c) (crc ^^^ b.toNat)

/-- CRC-32C (Castagnoli), as R376 and R108 name it. -/
def crc32c (bs : List Byte) : Nat :=
  (bs.foldl (crcByte 0x82F63B78) 0xFFFFFFFF) ^^^ 0xFFFFFFFF

/-- CRC-32 of IEEE 802.3, the Ethernet FCS. -/
def crc32 (bs : List Byte) : Nat :=
  (bs.foldl (crcByte 0xEDB88320) 0xFFFFFFFF) ^^^ 0xFFFFFFFF

/-! ### Sparse stores

A store is a list of (key, value) pairs with rising keys that lists no value equal to what an unlisted key reads as;
that value is a function of the key, `d`. -/

/-- A sparse store. -/
abbrev Cells (α : Type) := List (Nat × α)

/-- What key `k` reads as. -/
def cget {α : Type} (d : Nat → α) : Cells α → Nat → α
  | [], k => d k
  | (k0, v) :: r, k => if k0 < k then cget d r k else if k0 = k then v else d k

/-- The tail of a store beyond key `k`. -/
def cdrop {α : Type} : Cells α → Nat → Cells α
  | [], _ => []
  | (k0, v) :: r, k => if k0 ≤ k then cdrop r k else (k0, v) :: r

/-- The store with key `k` reading as `v`. -/
def cset {α : Type} [DecidableEq α] (d : Nat → α) : Cells α → Nat → α → Cells α
  | [], k, v => if v = d k then [] else [(k, v)]
  | (k0, v0) :: r, k, v =>
    if k0 < k then (k0, v0) :: cset d r k v
    else if v = d k then cdrop ((k0, v0) :: r) k
    else (k, v) :: cdrop ((k0, v0) :: r) k

/-- Every key of a store is above `lo`, keys rise, and no listed value is the unlisted one. -/
def cwfFrom {α : Type} [DecidableEq α] (d : Nat → α) : Option Nat → Cells α → Bool
  | _, [] => true
  | lo, (k, v) :: r =>
    (match lo with | none => true | some l => decide (l < k)) && decide (v ≠ d k) && cwfFrom d (some k) r

/-- The canonical form of a store. -/
def cwf {α : Type} [DecidableEq α] (d : Nat → α) (m : Cells α) : Bool := cwfFrom d none m

/-- The keys a store lists. -/
def ckeys {α : Type} (m : Cells α) : List Nat := m.map Prod.fst

/-- A store without the keys that `p` names. -/
def cerase {α : Type} (p : Nat → Bool) (m : Cells α) : Cells α := m.filter (fun c => !p c.1)

end Sys2Proof.Machine
end

