-- ==== Sys2Proof/Machine/RegMap.lean ====
section
/-! DEFINITION. The register map: every register of the spec's tables with its address, fields, types and reset values,
and every array of statistics counters (R91). Generated from the register tables of spec/. -/

namespace Sys2Proof.Machine


/-! ### SYS registers (R527) -/

def SYS_ADVENT : Nat := 0x10000000
def SYS_ADVENT_DETAIL : Fld := ⟨16, 12, .ro, 0, 0, 4095⟩
def SYS_ADVENT_CAUSE : Fld := ⟨8, 4, .ro, 0, 0, 15⟩
def SYS_ADVENT_STATE : Fld := ⟨6, 2, .ro, 0, 0, 3⟩
def SYS_ADVENT_UNCONFIGURED : Fld := ⟨5, 1, .ro, 0, 0, 1⟩
def SYS_ADVENT_WAKE : Fld := ⟨4, 1, .ro, 0, 0, 1⟩
def SYS_ADVENT_STEP : Fld := ⟨0, 4, .ro, 1, 0, 15⟩
def SYS_ADVENT_CFG : Nat := 0x10000004
def SYS_ADVENT_CFG_REQUIRE_SYNC : Fld := ⟨31, 1, .rw, 0, 0, 1⟩
def SYS_ADVENT_CFG_REQUIRE_GLOBAL : Fld := ⟨30, 1, .rw, 0, 0, 1⟩
def SYS_ADVENT_CFG_PTP_WAIT : Fld := ⟨0, 16, .rw, 30, 0, 600⟩
def SYS_RESET_CAUSE : Nat := 0x10000008
def SYS_RESET_CAUSE_WAKE_SRC : Fld := ⟨12, 2, .ro, 0, 0, 3⟩
def SYS_RESET_CAUSE_WDOG_ESCALATE : Fld := ⟨4, 1, .w1c, 0, 0, 1⟩
def SYS_RESET_CAUSE_WAKE : Fld := ⟨3, 1, .w1c, 0, 0, 1⟩
def SYS_RESET_CAUSE_COMMAND : Fld := ⟨2, 1, .w1c, 0, 0, 1⟩
def SYS_RESET_CAUSE_RST : Fld := ⟨1, 1, .w1c, 0, 0, 1⟩
def SYS_RESET_CAUSE_POR : Fld := ⟨0, 1, .w1c, 1, 0, 1⟩
def SYS_BOOT : Nat := 0x1000000C
def SYS_BOOT_SVN : Fld := ⟨16, 16, .ro, 0, 0, 65535⟩
def SYS_BOOT_KEYSEL : Fld := ⟨4, 8, .ro, 0, 0, 255⟩
def SYS_BOOT_CONFIG_VALID : Fld := ⟨3, 1, .ro, 0, 0, 1⟩
def SYS_BOOT_CONFIG_SLOT : Fld := ⟨2, 1, .ro, 0, 0, 1⟩
def SYS_BOOT_STEWARD_SLOT : Fld := ⟨0, 1, .ro, 0, 0, 1⟩
def SYS_FEATURE : Nat := 0x10000010
def SYS_FEATURE_VARIANT : Fld := ⟨24, 2, .ro, 0, 0, 3⟩
def SYS_FEATURE_DRAM_SIZE : Fld := ⟨21, 3, .ro, 0, 0, 7⟩
def SYS_FEATURE_CLE : Fld := ⟨20, 1, .ro, 0, 0, 1⟩
def SYS_FEATURE_ACQ : Fld := ⟨19, 1, .ro, 0, 0, 1⟩
def SYS_FEATURE_TWIN : Fld := ⟨18, 1, .ro, 0, 0, 1⟩
def SYS_FEATURE_DOMPORT_MAP : Fld := ⟨14, 4, .ro, 0, 0, 15⟩
def SYS_FEATURE_PORTGRP_MAP : Fld := ⟨8, 6, .ro, 0, 0, 63⟩
def SYS_FEATURE_CLUSTER_MAP : Fld := ⟨0, 8, .ro, 0, 0, 255⟩
def SYS_WDOG_CFG : Nat := 0x10000014
def SYS_WDOG_CFG_EN : Fld := ⟨31, 1, .rw, 0, 0, 1⟩
def SYS_WDOG_CFG_ESCALATE : Fld := ⟨30, 1, .rw, 0, 0, 1⟩
def SYS_WDOG_CFG_TIMEOUT : Fld := ⟨0, 16, .rw, 1000, 10, 10000⟩
def SYS_WDOG_KICK : Nat := 0x10000018
def SYS_WDOG_KICK_KICK : Fld := ⟨0, 1, .ws, 0, 0, 1⟩
def SYS_DORMANT_CTRL : Nat := 0x10000020
def SYS_DORMANT_CTRL_ENTER : Fld := ⟨31, 1, .ws, 0, 0, 1⟩
def SYS_DORMANT_CTRL_MGMT_WAKE : Fld := ⟨30, 1, .rw, 0, 0, 1⟩
def SYS_DORMANT_CTRL_RAIL_DELAY : Fld := ⟨0, 10, .rw, 50, 0, 1000⟩
def SYS_WAKE_CODE : Nat := 0x10000024
def SYS_WAKE_CODE_VALUE : Fld := ⟨0, 32, .rw, 0, 0, 4294967295⟩
def SYS_DORMANT_TIME_LO : Nat := 0x10000028
def SYS_DORMANT_TIME_LO_VALUE : Fld := ⟨0, 32, .ro, 0, 0, 4294967295⟩
def SYS_DORMANT_TIME_HI : Nat := 0x1000002C
def SYS_DORMANT_TIME_HI_VALUE : Fld := ⟨0, 32, .ro, 0, 0, 4294967295⟩
def SYS_SNAP_CTRL : Nat := 0x10000030
def SYS_SNAP_CTRL_FIRE : Fld := ⟨2, 1, .ws, 0, 0, 1⟩
def SYS_SNAP_CTRL_DISARM : Fld := ⟨1, 1, .ws, 0, 0, 1⟩
def SYS_SNAP_CTRL_ARM : Fld := ⟨0, 1, .ws, 0, 0, 1⟩
def SYS_SNAP_STAT : Nat := 0x10000034
def SYS_SNAP_STAT_COUNT : Fld := ⟨16, 16, .ro, 0, 0, 65535⟩
def SYS_SNAP_STAT_LAST_SRC : Fld := ⟨8, 4, .ro, 0, 0, 15⟩
def SYS_SNAP_STAT_CFG_REJ : Fld := ⟨4, 1, .w1c, 0, 0, 1⟩
def SYS_SNAP_STAT_MATCH_PAST : Fld := ⟨3, 1, .ro, 0, 0, 1⟩
def SYS_SNAP_STAT_STATE : Fld := ⟨0, 2, .ro, 0, 0, 3⟩
def SYS_SNAP_SRC : Nat := 0x10000038
def SYS_SNAP_SRC_SOURCES : Fld := ⟨0, 6, .rw, 0, 0, 63⟩
def SYS_SNAP_ALM : Nat := 0x1000003C
def SYS_SNAP_ALM_MASK : Fld := ⟨16, 16, .rw, 0, 0, 65535⟩
def SYS_SNAP_ALM_VALUE : Fld := ⟨0, 16, .rw, 0, 0, 65535⟩
def SYS_SNAP_CLE : Nat := 0x10000040
def SYS_SNAP_CLE_ANY_LAW : Fld := ⟨31, 1, .rw, 0, 0, 1⟩
def SYS_SNAP_CLE_EVENTS : Fld := ⟨7, 4, .rw, 0, 0, 15⟩
def SYS_SNAP_CLE_LAW : Fld := ⟨0, 7, .rw, 0, 0, 127⟩
def SYS_SNAP_MATCH_LO : Nat := 0x10000044
def SYS_SNAP_MATCH_LO_TIME : Fld := ⟨0, 32, .rw, 0, 0, 4294967295⟩
def SYS_SNAP_MATCH_HI : Nat := 0x10000048
def SYS_SNAP_MATCH_HI_TIME : Fld := ⟨0, 32, .rw, 0, 0, 4294967295⟩
def SYS_SNAP_TIME_LO : Nat := 0x1000004C
def SYS_SNAP_TIME_LO_TIME : Fld := ⟨0, 32, .ro, 0, 0, 4294967295⟩
def SYS_SNAP_TIME_HI : Nat := 0x10000050
def SYS_SNAP_TIME_HI_TIME : Fld := ⟨0, 32, .ro, 0, 0, 4294967295⟩

/-! ### TIM registers (R54) -/

def TIM_CTRL : Nat := 0x0E000000
def TIM_CTRL_SRC : Fld := ⟨2, 1, .rw, 0, 0, 1⟩
def TIM_CTRL_PTP_EN : Fld := ⟨1, 1, .rw, 0, 0, 1⟩
def TIM_CTRL_GRID_EN : Fld := ⟨0, 1, .rw, 0, 0, 1⟩
def TIM_STAT : Nat := 0x0E000004
def TIM_STAT_PPS_REJ : Fld := ⟨24, 8, .rc, 0, 0, 255⟩
def TIM_STAT_CFG_REJ : Fld := ⟨5, 1, .w1c, 0, 0, 1⟩
def TIM_STAT_SLEWING : Fld := ⟨4, 1, .ro, 0, 0, 1⟩
def TIM_STAT_REF_OK : Fld := ⟨3, 1, .ro, 0, 0, 1⟩
def TIM_STAT_HOLDOVER : Fld := ⟨2, 1, .ro, 0, 0, 1⟩
def TIM_STAT_SYNCH : Fld := ⟨0, 2, .ro, 0, 0, 3⟩
def TIM_GRID : Nat := 0x0E000008
def TIM_GRID_ROUND_LEN : Fld := ⟨2, 2, .rw, 0, 0, 2⟩
def TIM_GRID_FS_SEL : Fld := ⟨0, 2, .rw, 1, 0, 2⟩
def TIM_ADMIT : Nat := 0x0E00000C
def TIM_ADMIT_CURRENT : Fld := ⟨16, 12, .ro, 1000, 0, 4095⟩
def TIM_ADMIT_TARGET : Fld := ⟨0, 12, .rw, 1000, 250, 3000⟩
def TIM_HOLD : Nat := 0x0E000010
def TIM_HOLD_LIMIT : Fld := ⟨0, 17, .rw, 60, 0, 86400⟩
def TIM_NOW_LO : Nat := 0x0E000018
def TIM_NOW_LO_NOW : Fld := ⟨0, 32, .ro, 0, 0, 4294967295⟩
def TIM_NOW_HI : Nat := 0x0E00001C
def TIM_NOW_HI_NOW : Fld := ⟨0, 32, .ro, 0, 0, 4294967295⟩
def TIM_SET_LO : Nat := 0x0E000020
def TIM_SET_LO_SET : Fld := ⟨0, 32, .ws, 0, 0, 4294967295⟩
def TIM_SET_HI : Nat := 0x0E000024
def TIM_SET_HI_SET : Fld := ⟨0, 32, .ws, 0, 0, 4294967295⟩
def TIM_ROUND : Nat := 0x0E000028
def TIM_ROUND_ROUND : Fld := ⟨0, 32, .ro, 0, 0, 4294967295⟩
def TIM_APPLIED : Nat := 0x0E00002C
def TIM_APPLIED_ROUND : Fld := ⟨0, 32, .ro, 0, 0, 4294967295⟩
def TIM_PPS : Nat := 0x0E000030
def TIM_PPS_OUT_WIDTH : Fld := ⟨10, 9, .rw, 100, 1, 500⟩
def TIM_PPS_IN_EDGE : Fld := ⟨3, 1, .rw, 0, 0, 1⟩
def TIM_PPS_IN_EN : Fld := ⟨2, 1, .rw, 0, 0, 1⟩
def TIM_PPS_OUT_NONE : Fld := ⟨1, 1, .rw, 0, 0, 1⟩
def TIM_PPS_OUT_EN : Fld := ⟨0, 1, .rw, 0, 0, 1⟩
def TIM_PPSIN_LO : Nat := 0x0E000034
def TIM_PPSIN_LO_TS : Fld := ⟨0, 32, .ro, 0, 0, 4294967295⟩
def TIM_PPSIN_HI : Nat := 0x0E000038
def TIM_PPSIN_HI_TS : Fld := ⟨0, 32, .ro, 0, 0, 4294967295⟩
def TIM_SERVO : Nat := 0x0E00003C
def TIM_SERVO_OFFSET : Fld := ⟨0, 32, .ro, 0, 0, 4294967295⟩
def TIM_PORT_PTP (n : Nat) : Nat := 0x0E000100 + n * 0x4
def TIM_PORT_PTP_ASYM : Fld := ⟨16, 16, .rw, 0, 0, 65535⟩
def TIM_PORT_PTP_ONE_STEP : Fld := ⟨2, 1, .rw, 0, 0, 1⟩
def TIM_PORT_PTP_MODE : Fld := ⟨0, 2, .rw, 0, 0, 2⟩

/-! ### PRT registers (R93) -/

def PRT_PORT_CFG (n : Nat) : Nat := 0x01100000 + n * 0x1000
def PRT_PORT_CFG_LOOPBACK : Fld := ⟨11, 1, .rw, 0, 0, 1⟩
def PRT_PORT_CFG_PFC_OBEY : Fld := ⟨10, 1, .rw, 1, 0, 1⟩
def PRT_PORT_CFG_PAUSE_OBEY : Fld := ⟨9, 1, .rw, 1, 0, 1⟩
def PRT_PORT_CFG_PREEMPT_EN : Fld := ⟨8, 1, .rw, 0, 0, 1⟩
def PRT_PORT_CFG_LONG : Fld := ⟨7, 1, .rw, 0, 0, 1⟩
def PRT_PORT_CFG_AN_EN : Fld := ⟨6, 1, .rw, 1, 0, 1⟩
def PRT_PORT_CFG_FEC : Fld := ⟨4, 2, .rw, 0, 0, 3⟩
def PRT_PORT_CFG_MODE : Fld := ⟨1, 3, .rw, 2, 0, 4⟩
def PRT_PORT_CFG_EN : Fld := ⟨0, 1, .rw, 0, 0, 1⟩
def PRT_PORT_STAT (n : Nat) : Nat := 0x01100004 + n * 0x1000
def PRT_PORT_STAT_WD_RELEASE : Fld := ⟨16, 8, .ro, 0, 0, 255⟩
def PRT_PORT_STAT_PAUSED : Fld := ⟨8, 8, .ro, 0, 0, 255⟩
def PRT_PORT_STAT_CFG_REJ : Fld := ⟨6, 1, .w1c, 0, 0, 1⟩
def PRT_PORT_STAT_PREEMPT_ACTIVE : Fld := ⟨5, 1, .ro, 0, 0, 1⟩
def PRT_PORT_STAT_FEC_LOCK : Fld := ⟨4, 1, .ro, 0, 0, 1⟩
def PRT_PORT_STAT_SPEED : Fld := ⟨2, 2, .ro, 0, 0, 3⟩
def PRT_PORT_STAT_AN_DONE : Fld := ⟨1, 1, .ro, 0, 0, 1⟩
def PRT_PORT_STAT_LINK : Fld := ⟨0, 1, .ro, 0, 0, 1⟩
def PRT_PAUSE_WD (n : Nat) : Nat := 0x01100008 + n * 0x1000
def PRT_PAUSE_WD_RELEASE : Fld := ⟨16, 16, .rw, 100, 0, 10000⟩
def PRT_PAUSE_WD_LIMIT : Fld := ⟨0, 16, .rw, 100, 0, 10000⟩
def PRT_PREEMPT (n : Nat) : Nat := 0x0110000C + n * 0x1000
def PRT_PREEMPT_VERIFY_TIME : Fld := ⟨1, 7, .rw, 10, 1, 127⟩
def PRT_PREEMPT_VERIFY_DIS : Fld := ⟨0, 1, .rw, 0, 0, 1⟩
def PRT_LRE_CFG (p : Nat) : Nat := 0x01300000 + p * 0x100
def PRT_LRE_CFG_DUP_AGE : Fld := ⟨16, 16, .rw, 400, 10, 10000⟩
def PRT_LRE_CFG_SUP_LSB : Fld := ⟨8, 8, .rw, 0, 0, 255⟩
def PRT_LRE_CFG_REDBOX : Fld := ⟨2, 1, .rw, 0, 0, 1⟩
def PRT_LRE_CFG_MODE : Fld := ⟨0, 2, .rw, 0, 0, 2⟩
def PRT_LRE_MAC_LO (p : Nat) : Nat := 0x01300004 + p * 0x100
def PRT_LRE_MAC_LO_MAC : Fld := ⟨0, 32, .rw, 0, 0, 4294967295⟩
def PRT_LRE_MAC_HI (p : Nat) : Nat := 0x01300008 + p * 0x100
def PRT_LRE_MAC_HI_MAC : Fld := ⟨0, 16, .rw, 0, 0, 65535⟩
def PRT_LRE_SEQ (p : Nat) : Nat := 0x0130000C + p * 0x100
def PRT_LRE_SEQ_NEXT : Fld := ⟨0, 16, .ro, 0, 0, 65535⟩
def PRT_TWIN_CFG : Nat := 0x01200000
def PRT_TWIN_CFG_TX_POL : Fld := ⟨5, 4, .rw, 0, 0, 15⟩
def PRT_TWIN_CFG_RX_POL : Fld := ⟨1, 4, .rw, 0, 0, 15⟩
def PRT_TWIN_CFG_EN : Fld := ⟨0, 1, .rw, 0, 0, 1⟩
def PRT_TWIN_STAT : Nat := 0x01200004
def PRT_TWIN_STAT_SKEW : Fld := ⟨24, 8, .ro, 0, 0, 255⟩
def PRT_TWIN_STAT_LANE_MAP : Fld := ⟨16, 8, .ro, 0, 0, 255⟩
def PRT_TWIN_STAT_STATE : Fld := ⟨4, 2, .ro, 0, 0, 3⟩
def PRT_TWIN_STAT_LANE_LOCK : Fld := ⟨0, 4, .ro, 0, 0, 15⟩
def PRT_RXR_BASE_LO (r : Nat) : Nat := 0x01400000 + r * 0x20
def PRT_RXR_BASE_LO_BASE : Fld := ⟨6, 26, .rw, 0, 0, 67108863⟩
def PRT_RXR_BASE_HI (r : Nat) : Nat := 0x01400004 + r * 0x20
def PRT_RXR_BASE_HI_BASE : Fld := ⟨0, 8, .rw, 0, 0, 255⟩
def PRT_RXR_CFG (r : Nat) : Nat := 0x01400008 + r * 0x20
def PRT_RXR_CFG_BUF_SIZE : Fld := ⟨16, 8, .rw, 8, 1, 64⟩
def PRT_RXR_CFG_SIZE_LOG2 : Fld := ⟨4, 5, .rw, 8, 4, 16⟩
def PRT_RXR_CFG_EN : Fld := ⟨0, 1, .rw, 0, 0, 1⟩
def PRT_RXR_OWNER (r : Nat) : Nat := 0x0140000C + r * 0x20
def PRT_RXR_OWNER_STEWARD : Fld := ⟨15, 1, .rw, 1, 0, 1⟩
def PRT_RXR_OWNER_TENANT : Fld := ⟨0, 9, .rw, 0, 0, 511⟩
def PRT_RXR_HEAD (r : Nat) : Nat := 0x01400010 + r * 0x20
def PRT_RXR_HEAD_INDEX : Fld := ⟨0, 16, .ro, 0, 0, 65535⟩
def PRT_RXR_TAIL (r : Nat) : Nat := 0x01400014 + r * 0x20
def PRT_RXR_TAIL_INDEX : Fld := ⟨0, 16, .rw, 0, 0, 65535⟩
def PRT_TXR_BASE_LO (r : Nat) : Nat := 0x01500000 + r * 0x20
def PRT_TXR_BASE_LO_BASE : Fld := ⟨6, 26, .rw, 0, 0, 67108863⟩
def PRT_TXR_BASE_HI (r : Nat) : Nat := 0x01500004 + r * 0x20
def PRT_TXR_BASE_HI_BASE : Fld := ⟨0, 8, .rw, 0, 0, 255⟩
def PRT_TXR_CFG (r : Nat) : Nat := 0x01500008 + r * 0x20
def PRT_TXR_CFG_LONG : Fld := ⟨9, 1, .rw, 0, 0, 1⟩
def PRT_TXR_CFG_SIZE_LOG2 : Fld := ⟨4, 5, .rw, 8, 4, 16⟩
def PRT_TXR_CFG_EN : Fld := ⟨0, 1, .rw, 0, 0, 1⟩
def PRT_TXR_OWNER (r : Nat) : Nat := 0x0150000C + r * 0x20
def PRT_TXR_OWNER_STEWARD : Fld := ⟨15, 1, .rw, 1, 0, 1⟩
def PRT_TXR_OWNER_TENANT : Fld := ⟨0, 9, .rw, 0, 0, 511⟩
def PRT_TXR_HEAD (r : Nat) : Nat := 0x01500010 + r * 0x20
def PRT_TXR_HEAD_INDEX : Fld := ⟨0, 16, .ro, 0, 0, 65535⟩
def PRT_TXR_TAIL (r : Nat) : Nat := 0x01500014 + r * 0x20
def PRT_TXR_TAIL_INDEX : Fld := ⟨0, 16, .rw, 0, 0, 65535⟩
def PRT_TXR_SRC_LO (r : Nat) : Nat := 0x01500018 + r * 0x20
def PRT_TXR_SRC_LO_MAC : Fld := ⟨0, 32, .rw, 0, 0, 4294967295⟩
def PRT_TXR_SRC_HI (r : Nat) : Nat := 0x0150001C + r * 0x20
def PRT_TXR_SRC_HI_MAC : Fld := ⟨0, 16, .rw, 0, 0, 65535⟩

/-! ### FAB registers (R127) -/

def FAB_CTRL : Nat := 0x02000000
def FAB_CTRL_VIGIL_EN : Fld := ⟨2, 1, .rw, 0, 0, 1⟩
def FAB_CTRL_FORCE_FULL : Fld := ⟨1, 1, .rw, 0, 0, 1⟩
def FAB_CTRL_EN : Fld := ⟨0, 1, .rw, 0, 0, 1⟩
def FAB_STAT : Nat := 0x02000004
def FAB_STAT_CFG_REJ : Fld := ⟨2, 1, .w1c, 0, 0, 1⟩
def FAB_STAT_CAL_OK : Fld := ⟨1, 1, .ro, 0, 0, 1⟩
def FAB_STAT_MODE : Fld := ⟨0, 1, .ro, 0, 0, 1⟩
def FAB_CAL_STAT : Nat := 0x02000008
def FAB_CAL_STAT_DAY_PS : Fld := ⟨16, 16, .ro, 0, 0, 65535⟩
def FAB_CAL_STAT_FAIL_PORT : Fld := ⟨6, 5, .ro, 0, 0, 31⟩
def FAB_CAL_STAT_FAIL : Fld := ⟨5, 1, .ro, 0, 0, 1⟩
def FAB_CAL_STAT_DONE : Fld := ⟨4, 1, .ro, 0, 0, 1⟩
def FAB_CAL_STAT_START : Fld := ⟨0, 1, .ws, 0, 0, 1⟩
def FAB_DAYS_LO : Nat := 0x02000010
def FAB_DAYS_LO_DAYS : Fld := ⟨0, 32, .ro, 0, 0, 4294967295⟩
def FAB_DAYS_HI : Nat := 0x02000014
def FAB_DAYS_HI_DAYS : Fld := ⟨0, 32, .ro, 0, 0, 4294967295⟩
def FAB_RESERVE : Nat := 0x02000020
def FAB_RESERVE_FD : Fld := ⟨18, 14, .rw, 4096, 0, 16383⟩
def FAB_RESERVE_CELLS : Fld := ⟨0, 18, .rw, 16384, 0, 262143⟩
def FAB_FREE : Nat := 0x02000024
def FAB_FREE_CELLS : Fld := ⟨0, 18, .ro, 196608, 0, 262143⟩
def FAB_FD_FREE : Nat := 0x02000028
def FAB_FD_FREE_FD : Fld := ⟨0, 17, .ro, 131071, 0, 131071⟩
def FAB_RSV_USE : Nat := 0x0200002C
def FAB_RSV_USE_CELLS : Fld := ⟨0, 18, .ro, 0, 0, 262143⟩
def FAB_FDB_AGE : Nat := 0x02000030
def FAB_FDB_AGE_SECONDS : Fld := ⟨0, 16, .rw, 300, 0, 65535⟩
def FAB_FDB_CMD : Nat := 0x02000040
def FAB_FDB_CMD_BUSY : Fld := ⟨31, 1, .ro, 0, 0, 1⟩
def FAB_FDB_CMD_RESULT : Fld := ⟨25, 3, .ro, 0, 0, 7⟩
def FAB_FDB_CMD_INDEX : Fld := ⟨12, 13, .rw, 0, 0, 8191⟩
def FAB_FDB_CMD_PORT : Fld := ⟨4, 5, .rw, 0, 0, 31⟩
def FAB_FDB_CMD_OP : Fld := ⟨0, 4, .ws, 0, 0, 15⟩
def FAB_FDB_DATA (i : Nat) : Nat := 0x02000044 + i * 0x4
def FAB_FDB_DATA_DATA : Fld := ⟨0, 32, .rw, 0, 0, 4294967295⟩
def FAB_AGE (c : Nat) : Nat := 0x02000100 + c * 0x4
def FAB_AGE_LIMIT : Fld := ⟨0, 20, .rw, 0, 0, 1000000⟩
def FAB_PORT_CFG (p : Nat) : Nat := 0x02010000 + p * 0x400
def FAB_PORT_CFG_DEF_VID : Fld := ⟨12, 12, .rw, 1, 0, 4095⟩
def FAB_PORT_CFG_DEF_CLASS : Fld := ⟨8, 3, .rw, 0, 0, 7⟩
def FAB_PORT_CFG_ING_TAP : Fld := ⟨2, 1, .rw, 0, 0, 1⟩
def FAB_PORT_CFG_ETYPE_CLASS : Fld := ⟨1, 1, .rw, 1, 0, 1⟩
def FAB_PORT_CFG_LEARN : Fld := ⟨0, 1, .rw, 1, 0, 1⟩
def FAB_PCP_MAP (p : Nat) : Nat := 0x02010004 + p * 0x400
def FAB_PCP_MAP_MAP : Fld := ⟨0, 24, .rw, 16434824, 0, 16777215⟩
def FAB_ING_LIMIT (p : Nat) : Nat := 0x02010008 + p * 0x400
def FAB_ING_LIMIT_CELLS : Fld := ⟨0, 18, .rw, 0, 0, 262143⟩
def FAB_RSV_MAX (p : Nat) : Nat := 0x0201000C + p * 0x400
def FAB_RSV_MAX_CELLS : Fld := ⟨0, 18, .rw, 2048, 0, 262143⟩
def FAB_ING_USE (p : Nat) : Nat := 0x02010010 + p * 0x400
def FAB_ING_USE_CELLS : Fld := ⟨0, 18, .ro, 0, 0, 262143⟩
def FAB_EG_LIMIT (p c : Nat) : Nat := 0x02010040 + p * 0x400 + c * 0x4
def FAB_EG_LIMIT_CELLS : Fld := ⟨0, 18, .rw, 1024, 0, 262143⟩
def FAB_EG_USE (p c : Nat) : Nat := 0x02010060 + p * 0x400 + c * 0x4
def FAB_EG_USE_CELLS : Fld := ⟨0, 18, .ro, 0, 0, 262143⟩
def FAB_SHAPE (p c : Nat) : Nat := 0x02010080 + p * 0x400 + c * 0x4
def FAB_SHAPE_EN : Fld := ⟨31, 1, .rw, 0, 0, 1⟩
def FAB_SHAPE_BURST : Fld := ⟨17, 14, .rw, 6, 1, 16383⟩
def FAB_SHAPE_RATE : Fld := ⟨0, 17, .rw, 0, 0, 100000⟩
def FAB_DWRR (p c : Nat) : Nat := 0x020100A0 + p * 0x400 + c * 0x4
def FAB_DWRR_QUANTUM : Fld := ⟨0, 16, .rw, 1536, 0, 65535⟩
def FAB_VLAN (v : Nat) : Nat := 0x02020000 + v * 0x4
def FAB_VLAN_MEMBER : Fld := ⟨0, 28, .rw, 268435455, 0, 268435455⟩

/-! ### ING registers (R168) -/

def ING_CTRL : Nat := 0x03000000
def ING_CTRL_STRANGER_EN : Fld := ⟨1, 1, .rw, 1, 0, 1⟩
def ING_CTRL_EN : Fld := ⟨0, 1, .rw, 0, 0, 1⟩
def ING_STAT : Nat := 0x03000004
def ING_STAT_STRANGER_COUNT : Fld := ⟨8, 9, .ro, 0, 0, 511⟩
def ING_STAT_STRANGER_AVAIL : Fld := ⟨5, 1, .ro, 0, 0, 1⟩
def ING_STAT_FLIP_REJ : Fld := ⟨4, 1, .w1c, 0, 0, 1⟩
def ING_STAT_CFG_REJ : Fld := ⟨3, 1, .w1c, 0, 0, 1⟩
def ING_STAT_COPY_BUSY : Fld := ⟨2, 1, .ro, 0, 0, 1⟩
def ING_STAT_FLIP_PENDING : Fld := ⟨1, 1, .ro, 0, 0, 1⟩
def ING_STAT_ACTIVE : Fld := ⟨0, 1, .ro, 0, 0, 1⟩
def ING_BANK : Nat := 0x03000008
def ING_BANK_CANCEL : Fld := ⟨2, 1, .ws, 0, 0, 1⟩
def ING_BANK_COPY : Fld := ⟨1, 1, .ws, 0, 0, 1⟩
def ING_BANK_FLIP : Fld := ⟨0, 1, .ws, 0, 0, 1⟩
def ING_FLIP_ROUND : Nat := 0x0300000C
def ING_FLIP_ROUND_ROUND : Fld := ⟨0, 32, .ro, 0, 0, 4294967295⟩
def ING_KEY_STENCIL : Nat := 0x03000010
def ING_KEY_STENCIL_GOOSE : Fld := ⟨8, 6, .rw, 1, 0, 63⟩
def ING_KEY_STENCIL_SV : Fld := ⟨0, 6, .rw, 0, 0, 63⟩
def ING_WALK : Nat := 0x03000014
def ING_WALK_BUDGET : Fld := ⟨0, 10, .rw, 512, 0, 1023⟩
def ING_LOAD : Nat := 0x03000018
def ING_LOAD_ACTIVE_MBS : Fld := ⟨16, 16, .ro, 0, 0, 65535⟩
def ING_LOAD_SHADOW_MBS : Fld := ⟨0, 16, .ro, 0, 0, 65535⟩
def ING_STRANGER_CFG : Nat := 0x03000020
def ING_STRANGER_CFG_HOLDOFF : Fld := ⟨16, 16, .rw, 1000, 0, 65535⟩
def ING_STRANGER_CFG_RATE : Fld := ⟨0, 16, .rw, 1000, 0, 65535⟩
def ING_STRANGER_POP : Nat := 0x03000024
def ING_STRANGER_POP_POP : Fld := ⟨0, 1, .ws, 0, 0, 1⟩
def ING_STRANGER_DATA (i : Nat) : Nat := 0x03000040 + i * 0x4
def ING_STRANGER_DATA_DATA : Fld := ⟨0, 32, .ro, 0, 0, 4294967295⟩
def ING_STENCIL_POOL (m i : Nat) : Nat := 0x03100000 + m * 0x200 + i * 0x4
def ING_STENCIL_POOL_WORD : Fld := ⟨0, 32, .rw, 0, 0, 4294967295⟩
def ING_KEY_INDEX (b i : Nat) : Nat := 0x03400000 + b * 0x400000 + i * 0x4
def ING_KEY_INDEX_WORD : Fld := ⟨0, 32, .rw, 0, 0, 4294967295⟩
def ING_STATIC (b i : Nat) : Nat := 0x03500000 + b * 0x400000 + i * 0x4
def ING_STATIC_WORD : Fld := ⟨0, 32, .rw, 0, 0, 4294967295⟩
def ING_SUBS (b i : Nat) : Nat := 0x03600000 + b * 0x400000 + i * 0x4
def ING_SUBS_WORD : Fld := ⟨0, 32, .rw, 0, 0, 4294967295⟩
def ING_DYN (h i : Nat) : Nat := 0x03C00000 + h * 0x40 + i * 0x4
def ING_DYN_WORD : Fld := ⟨0, 32, .ro, 0, 0, 4294967295⟩
def ING_ROW_CFG (t : Nat) : Nat := 0x03E00000 + t * 0x10
def ING_ROW_CFG_EN : Fld := ⟨31, 1, .rw, 0, 0, 1⟩
def ING_ROW_CFG_BIT : Fld := ⟨13, 5, .rw, 0, 0, 31⟩
def ING_ROW_CFG_TASK : Fld := ⟨0, 13, .rw, 0, 0, 8191⟩
def ING_ROW_BASE_LO (t : Nat) : Nat := 0x03E00004 + t * 0x10
def ING_ROW_BASE_LO_BASE : Fld := ⟨11, 21, .rw, 0, 0, 2097151⟩
def ING_ROW_BASE_HI (t : Nat) : Nat := 0x03E00008 + t * 0x10
def ING_ROW_BASE_HI_BASE : Fld := ⟨0, 8, .rw, 0, 0, 255⟩

/-! ### ACQ registers (R192) -/

def ACQ_CTRL : Nat := 0x04000000
def ACQ_CTRL_MCLK_OE : Fld := ⟨8, 8, .rw, 0, 0, 255⟩
def ACQ_CTRL_EN : Fld := ⟨0, 1, .rw, 0, 0, 1⟩
def ACQ_STAT : Nat := 0x04000004
def ACQ_STAT_MCLK_RUN : Fld := ⟨17, 1, .ro, 0, 0, 1⟩
def ACQ_STAT_CFG_REJ : Fld := ⟨16, 1, .w1c, 0, 0, 1⟩
def ACQ_STAT_BEHIND : Fld := ⟨8, 8, .ro, 0, 0, 255⟩
def ACQ_STAT_RUNNING : Fld := ⟨0, 8, .ro, 0, 0, 255⟩
def ACQ_CH_CFG (n : Nat) : Nat := 0x04010000 + n * 0x40
def ACQ_CH_CFG_SRC : Fld := ⟨4, 5, .rw, 0, 0, 31⟩
def ACQ_CH_CFG_EDGE : Fld := ⟨2, 1, .rw, 0, 0, 1⟩
def ACQ_CH_CFG_INV : Fld := ⟨1, 1, .rw, 0, 0, 1⟩
def ACQ_CH_CFG_EN : Fld := ⟨0, 1, .rw, 0, 0, 1⟩
def ACQ_CH_SCALE (n : Nat) : Nat := 0x04010004 + n * 0x40
def ACQ_CH_SCALE_SCALE : Fld := ⟨0, 32, .rw, 1325400064, 0, 4294967295⟩
def ACQ_CH_OFFSET (n : Nat) : Nat := 0x04010008 + n * 0x40
def ACQ_CH_OFFSET_OFFSET : Fld := ⟨0, 32, .rw, 0, 0, 4294967295⟩
def ACQ_CH_STAT (n : Nat) : Nat := 0x0401000C + n * 0x40
def ACQ_CH_STAT_FAST : Fld := ⟨8, 8, .ro, 0, 0, 255⟩
def ACQ_CH_STAT_INVALID_LEFT : Fld := ⟨4, 4, .ro, 0, 0, 15⟩
def ACQ_CH_STAT_FAST_VALID : Fld := ⟨3, 1, .ro, 0, 0, 1⟩
def ACQ_CH_STAT_RESET_PENDING : Fld := ⟨1, 1, .ro, 0, 0, 1⟩
def ACQ_CH_STAT_STUCK : Fld := ⟨0, 1, .ro, 0, 0, 1⟩
def ACQ_TRIP_CFG (n : Nat) : Nat := 0x04010010 + n * 0x40
def ACQ_TRIP_CFG_RELEASE : Fld := ⟨15, 5, .rw, 1, 0, 31⟩
def ACQ_TRIP_CFG_K : Fld := ⟨10, 5, .rw, 1, 0, 31⟩
def ACQ_TRIP_CFG_THRESH : Fld := ⟨4, 6, .rw, 63, 0, 63⟩
def ACQ_TRIP_CFG_LATCH : Fld := ⟨3, 1, .rw, 1, 0, 1⟩
def ACQ_TRIP_CFG_MODE : Fld := ⟨1, 2, .rw, 0, 0, 2⟩
def ACQ_TRIP_CFG_EN : Fld := ⟨0, 1, .rw, 0, 0, 1⟩
def ACQ_TRIP_STAT (n : Nat) : Nat := 0x04010014 + n * 0x40
def ACQ_TRIP_STAT_RUN : Fld := ⟨2, 5, .ro, 0, 0, 31⟩
def ACQ_TRIP_STAT_LATCHED : Fld := ⟨1, 1, .w1c, 0, 0, 1⟩
def ACQ_TRIP_STAT_ACTIVE : Fld := ⟨0, 1, .ro, 0, 0, 1⟩
def ACQ_TRIP_TIME_LO (n : Nat) : Nat := 0x04010018 + n * 0x40
def ACQ_TRIP_TIME_LO_TIME : Fld := ⟨0, 32, .ro, 0, 0, 4294967295⟩
def ACQ_TRIP_TIME_HI (n : Nat) : Nat := 0x0401001C + n * 0x40
def ACQ_TRIP_TIME_HI_TIME : Fld := ⟨0, 32, .ro, 0, 0, 4294967295⟩
def ACQ_GRP_CFG (g : Nat) : Nat := 0x04020000 + g * 0x40
def ACQ_GRP_CFG_HANDLE : Fld := ⟨16, 14, .rw, 16383, 0, 16383⟩
def ACQ_GRP_CFG_PRESET : Fld := ⟨2, 2, .rw, 2, 0, 3⟩
def ACQ_GRP_CFG_TEST : Fld := ⟨1, 1, .rw, 0, 0, 1⟩
def ACQ_GRP_CFG_EN : Fld := ⟨0, 1, .rw, 0, 0, 1⟩
def ACQ_GRP_MASK (g : Nat) : Nat := 0x04020004 + g * 0x40
def ACQ_GRP_MASK_MASK : Fld := ⟨0, 32, .rw, 0, 0, 4294967295⟩
def ACQ_GRP_EXTDLY (g : Nat) : Nat := 0x04020008 + g * 0x40
def ACQ_GRP_EXTDLY_NS : Fld := ⟨0, 16, .rw, 0, 0, 65535⟩
def ACQ_GRP_CTL (g : Nat) : Nat := 0x0402000C + g * 0x40
def ACQ_GRP_CTL_COMMIT : Fld := ⟨1, 1, .ws, 0, 0, 1⟩
def ACQ_GRP_CTL_SYNC : Fld := ⟨0, 1, .ws, 0, 0, 1⟩
def ACQ_GRP_STAT (g : Nat) : Nat := 0x04020010 + g * 0x40
def ACQ_GRP_STAT_MIN_D : Fld := ⟨16, 16, .ro, 0, 0, 65535⟩
def ACQ_GRP_STAT_BEHIND : Fld := ⟨3, 1, .ro, 0, 0, 1⟩
def ACQ_GRP_STAT_COMMIT_PENDING : Fld := ⟨2, 1, .ro, 0, 0, 1⟩
def ACQ_GRP_STAT_RESET_PENDING : Fld := ⟨1, 1, .ro, 0, 0, 1⟩
def ACQ_GRP_STAT_RUNNING : Fld := ⟨0, 1, .ro, 0, 0, 1⟩
def ACQ_GRP_FIR (g i : Nat) : Nat := 0x04020020 + g * 0x40 + i * 0x4
def ACQ_GRP_FIR_H_ODD : Fld := ⟨16, 16, .rw, 0, 0, 65535⟩
def ACQ_GRP_FIR_H_EVEN : Fld := ⟨0, 16, .rw, 0, 0, 65535⟩
def ACQ_GRP_FIRA (g i : Nat) : Nat := 0x04020030 + g * 0x40 + i * 0x4
def ACQ_GRP_FIRA_H_ODD : Fld := ⟨16, 16, .ro, 0, 0, 65535⟩
def ACQ_GRP_FIRA_H_EVEN : Fld := ⟨0, 16, .ro, 0, 0, 65535⟩

/-! ### TEN registers (R225) -/

def TEN_FRAME_BASE_LO : Nat := 0x0F000000
def TEN_FRAME_BASE_LO_BASE : Fld := ⟨12, 20, .rw, 0, 0, 1048575⟩
def TEN_FRAME_BASE_HI : Nat := 0x0F000004
def TEN_FRAME_BASE_HI_BASE : Fld := ⟨0, 8, .rw, 0, 0, 255⟩
def TEN_STAT : Nat := 0x0F000008
def TEN_STAT_CFG_REJ : Fld := ⟨0, 1, .w1c, 0, 0, 1⟩
def TEN_MIG : Nat := 0x0F00000C
def TEN_MIG_MAX_PASSES : Fld := ⟨16, 4, .rw, 8, 0, 15⟩
def TEN_MIG_STOP_PAGES : Fld := ⟨0, 16, .rw, 32, 0, 16384⟩
def TEN_CLUSTER_SHARE (c : Nat) : Nat := 0x0F000100 + c * 0x4
def TEN_CLUSTER_SHARE_STAGED : Fld := ⟨16, 11, .ro, 0, 0, 2047⟩
def TEN_CLUSTER_SHARE_CURRENT : Fld := ⟨0, 11, .ro, 0, 0, 2047⟩
def TEN_STATE (t : Nat) : Nat := 0x0F100000 + t * 0x100
def TEN_STATE_RESUME_PENDING : Fld := ⟨7, 1, .ro, 0, 0, 1⟩
def TEN_STATE_STOP_PENDING : Fld := ⟨6, 1, .ro, 0, 0, 1⟩
def TEN_STATE_START_PENDING : Fld := ⟨5, 1, .ro, 0, 0, 1⟩
def TEN_STATE_STOPPED : Fld := ⟨4, 1, .ro, 0, 0, 1⟩
def TEN_STATE_DIR : Fld := ⟨3, 1, .ro, 0, 0, 1⟩
def TEN_STATE_STATE : Fld := ⟨0, 3, .ro, 0, 0, 7⟩
def TEN_CFG (t : Nat) : Nat := 0x0F100004 + t * 0x100
def TEN_CFG_LLOG_EN : Fld := ⟨5, 1, .rw, 0, 0, 1⟩
def TEN_CFG_PLOG_EN : Fld := ⟨4, 1, .rw, 0, 0, 1⟩
def TEN_CFG_FAULT_POLICY : Fld := ⟨3, 1, .rw, 0, 0, 1⟩
def TEN_CFG_HOME : Fld := ⟨0, 3, .rw, 0, 0, 7⟩
def TEN_SHARE (t : Nat) : Nat := 0x0F100008 + t * 0x100
def TEN_SHARE_CURRENT : Fld := ⟨16, 11, .ro, 0, 0, 2047⟩
def TEN_SHARE_STAGED : Fld := ⟨0, 11, .rw, 0, 0, 1024⟩
def TEN_LIMIT (t : Nat) : Nat := 0x0F10000C + t * 0x100
def TEN_LIMIT_PUBQ : Fld := ⟨16, 8, .rw, 16, 0, 255⟩
def TEN_LIMIT_ITEMS : Fld := ⟨0, 16, .rw, 1024, 0, 65535⟩
def TEN_LIMIT_CUR (t : Nat) : Nat := 0x0F10002C + t * 0x100
def TEN_LIMIT_CUR_PUBQ : Fld := ⟨16, 8, .ro, 16, 0, 255⟩
def TEN_LIMIT_CUR_ITEMS : Fld := ⟨0, 16, .ro, 1024, 0, 65535⟩
def TEN_MAP_BASE_LO (t : Nat) : Nat := 0x0F100010 + t * 0x100
def TEN_MAP_BASE_LO_BASE : Fld := ⟨17, 15, .rw, 0, 0, 32767⟩
def TEN_MAP_BASE_HI (t : Nat) : Nat := 0x0F100014 + t * 0x100
def TEN_MAP_BASE_HI_BASE : Fld := ⟨0, 8, .rw, 0, 0, 255⟩
def TEN_REPL (t : Nat) : Nat := 0x0F100018 + t * 0x100
def TEN_REPL_EN : Fld := ⟨30, 1, .rw, 0, 0, 1⟩
def TEN_REPL_START : Fld := ⟨8, 22, .rw, 0, 0, 4194303⟩
def TEN_REPL_LINES : Fld := ⟨0, 8, .rw, 0, 0, 255⟩
def TEN_MSG_VA (t : Nat) : Nat := 0x0F10001C + t * 0x100
def TEN_MSG_VA_PAGE : Fld := ⟨16, 14, .rw, 0, 0, 16383⟩
def TEN_PLOG_DEST_LO (t : Nat) : Nat := 0x0F100020 + t * 0x100
def TEN_PLOG_DEST_LO_ADDR : Fld := ⟨0, 32, .rw, 0, 0, 4294967295⟩
def TEN_PLOG_DEST_HI (t : Nat) : Nat := 0x0F100024 + t * 0x100
def TEN_PLOG_DEST_HI_ADDR : Fld := ⟨0, 8, .rw, 0, 0, 255⟩
def TEN_CMD (t : Nat) : Nat := 0x0F100028 + t * 0x100
def TEN_CMD_BUSY : Fld := ⟨31, 1, .ro, 0, 0, 1⟩
def TEN_CMD_RESULT : Fld := ⟨28, 3, .ro, 0, 0, 7⟩
def TEN_CMD_ALL : Fld := ⟨25, 1, .rw, 0, 0, 1⟩
def TEN_CMD_PAGE : Fld := ⟨11, 14, .rw, 0, 0, 16383⟩
def TEN_CMD_OP : Fld := ⟨0, 4, .ws, 0, 0, 15⟩
def TEN_MSGCFG (t : Nat) : Nat := 0x0F100030 + t * 0x100
def TEN_MSGCFG_BIT : Fld := ⟨13, 5, .rw, 0, 0, 31⟩
def TEN_MSGCFG_TASK : Fld := ⟨0, 13, .rw, 0, 0, 8191⟩
def TEN_MSG_PROD (t p : Nat) : Nat := 0x0F100040 + t * 0x100 + p * 0x8
def TEN_MSG_PROD_PROD : Fld := ⟨0, 32, .rw, 0, 0, 4294967295⟩
def TEN_MSG_CONS (t p : Nat) : Nat := 0x0F100044 + t * 0x100 + p * 0x8
def TEN_MSG_CONS_CONS : Fld := ⟨0, 32, .rw, 0, 0, 4294967295⟩
def TEN_RING_SLOT (t s : Nat) : Nat := 0x0F100060 + t * 0x100 + s * 0x4
def TEN_RING_SLOT_VALID : Fld := ⟨31, 1, .rw, 0, 0, 1⟩
def TEN_RING_SLOT_RING : Fld := ⟨0, 10, .rw, 0, 0, 1023⟩

/-! ### SCH registers (R255) -/

def SCH_CTRL : Nat := 0x05000000
def SCH_CTRL_EN : Fld := ⟨0, 1, .rw, 0, 0, 1⟩
def SCH_STAT : Nat := 0x05000004
def SCH_STAT_POOL_FREE : Fld := ⟨16, 16, .ro, 32768, 0, 65535⟩
def SCH_STAT_CFG_REJ : Fld := ⟨0, 1, .w1c, 0, 0, 1⟩
def SCH_HIST_CFG : Nat := 0x05000008
def SCH_HIST_CFG_UNIT : Fld := ⟨0, 8, .rw, 4, 0, 255⟩
def SCH_OVR_LAST : Nat := 0x0500000C
def SCH_OVR_LAST_ROUND : Fld := ⟨0, 32, .ro, 0, 0, 4294967295⟩
def SCH_OVR_COUNT : Nat := 0x05000010
def SCH_OVR_COUNT_TENANTS : Fld := ⟨0, 10, .ro, 0, 0, 1023⟩
def SCH_FLAG_BITS : Nat := 0x05000020
def SCH_FLAG_BITS_BITS : Fld := ⟨0, 32, .rw, 0, 0, 4294967295⟩
def SCH_FLAG_SET : Nat := 0x05000024
def SCH_FLAG_SET_CLEAR : Fld := ⟨31, 1, .ws, 0, 0, 1⟩
def SCH_FLAG_SET_TASK : Fld := ⟨0, 13, .ws, 0, 0, 8191⟩
def SCH_STW_ITEM (i : Nat) : Nat := 0x05000100 + i * 0x4
def SCH_STW_ITEM_DATA : Fld := ⟨0, 32, .rw, 0, 0, 4294967295⟩
def SCH_STW_ENQ : Nat := 0x05000140
def SCH_STW_ENQ_TASK : Fld := ⟨0, 13, .ws, 0, 0, 8191⟩
def SCH_STW_ENQ_STAT : Nat := 0x05000144
def SCH_STW_ENQ_STAT_STATUS : Fld := ⟨0, 16, .ro, 0, 0, 65535⟩
def SCH_STW_CPL (i : Nat) : Nat := 0x05000150 + i * 0x4
def SCH_STW_CPL_DATA : Fld := ⟨0, 32, .ro, 0, 0, 4294967295⟩
def SCH_STW_CPL_POP : Nat := 0x05000160
def SCH_STW_CPL_POP_POP : Fld := ⟨0, 1, .ws, 0, 0, 1⟩
def SCH_CORE_STAT (c : Nat) : Nat := 0x05010000 + c * 0x20
def SCH_CORE_STAT_STATE : Fld := ⟨30, 2, .ro, 0, 0, 3⟩
def SCH_CORE_STAT_TENANT : Fld := ⟨13, 9, .ro, 0, 0, 511⟩
def SCH_CORE_STAT_TASK : Fld := ⟨0, 13, .ro, 0, 0, 8191⟩
def SCH_TEN_TASKS (t : Nat) : Nat := 0x05020000 + t * 0x80
def SCH_TEN_TASKS_COUNT : Fld := ⟨16, 9, .rw, 0, 0, 256⟩
def SCH_TEN_TASKS_FIRST : Fld := ⟨0, 13, .rw, 0, 0, 8191⟩
def SCH_TEN_CFG (t : Nat) : Nat := 0x05020004 + t * 0x80
def SCH_TEN_CFG_SLACK : Fld := ⟨16, 16, .rw, 0, 0, 65535⟩
def SCH_TEN_CFG_CUT : Fld := ⟨1, 1, .rw, 0, 0, 1⟩
def SCH_TEN_CFG_EXCESS : Fld := ⟨0, 1, .rw, 0, 0, 1⟩
def SCH_TEN_ONCHIP (t : Nat) : Nat := 0x05020008 + t * 0x80
def SCH_TEN_ONCHIP_ITEMS : Fld := ⟨0, 16, .rw, 64, 0, 32768⟩
def SCH_TEN_SPILL_LO (t : Nat) : Nat := 0x0502000C + t * 0x80
def SCH_TEN_SPILL_LO_BASE : Fld := ⟨12, 20, .rw, 0, 0, 1048575⟩
def SCH_TEN_SPILL_HI (t : Nat) : Nat := 0x05020010 + t * 0x80
def SCH_TEN_SPILL_HI_SIZE : Fld := ⟨16, 16, .rw, 0, 0, 65535⟩
def SCH_TEN_SPILL_HI_BASE : Fld := ⟨0, 8, .rw, 0, 0, 255⟩
def SCH_TEN_CPL_LO (t : Nat) : Nat := 0x05020014 + t * 0x80
def SCH_TEN_CPL_LO_BASE : Fld := ⟨12, 20, .rw, 0, 0, 1048575⟩
def SCH_TEN_CPL_HI (t : Nat) : Nat := 0x05020018 + t * 0x80
def SCH_TEN_CPL_HI_BASE : Fld := ⟨0, 8, .rw, 0, 0, 255⟩
def SCH_TEN_TICK (t : Nat) : Nat := 0x0502001C + t * 0x80
def SCH_TEN_TICK_EN : Fld := ⟨31, 1, .rw, 0, 0, 1⟩
def SCH_TEN_TICK_BIT : Fld := ⟨13, 5, .rw, 0, 0, 31⟩
def SCH_TEN_TICK_TASK : Fld := ⟨0, 13, .rw, 0, 0, 8191⟩
def SCH_TEN_CPLN (t : Nat) : Nat := 0x05020020 + t * 0x80
def SCH_TEN_CPLN_EN : Fld := ⟨31, 1, .rw, 0, 0, 1⟩
def SCH_TEN_CPLN_BIT : Fld := ⟨13, 5, .rw, 0, 0, 31⟩
def SCH_TEN_CPLN_TASK : Fld := ⟨0, 13, .rw, 0, 0, 8191⟩
def SCH_TEN_REFUSE (t : Nat) : Nat := 0x05020024 + t * 0x80
def SCH_TEN_REFUSE_EN : Fld := ⟨31, 1, .rw, 0, 0, 1⟩
def SCH_TEN_REFUSE_BIT : Fld := ⟨13, 5, .rw, 0, 0, 31⟩
def SCH_TEN_REFUSE_TASK : Fld := ⟨0, 13, .rw, 0, 0, 8191⟩
def SCH_TEN_USED (t : Nat) : Nat := 0x05020028 + t * 0x80
def SCH_TEN_USED_NS : Fld := ⟨0, 32, .ro, 0, 0, 4294967295⟩
def SCH_TEN_USED_LAST (t : Nat) : Nat := 0x0502002C + t * 0x80
def SCH_TEN_USED_LAST_NS : Fld := ⟨0, 32, .ro, 0, 0, 4294967295⟩
def SCH_TEN_STAT (t : Nat) : Nat := 0x05020030 + t * 0x80
def SCH_TEN_STAT_ONCHIP : Fld := ⟨16, 16, .ro, 0, 0, 65535⟩
def SCH_TEN_STAT_NO_BUDGET : Fld := ⟨2, 1, .ro, 0, 0, 1⟩
def SCH_TEN_STAT_SPILLING : Fld := ⟨1, 1, .ro, 0, 0, 1⟩
def SCH_TEN_STAT_OVERRUN : Fld := ⟨0, 1, .w1c, 0, 0, 1⟩
def SCH_DESC (d i : Nat) : Nat := 0x05100000 + d * 0x20 + i * 0x4
def SCH_DESC_WORD : Fld := ⟨0, 32, .rw, 0, 0, 4294967295⟩
def SCH_FLOW_OWNER (f : Nat) : Nat := 0x05180000 + f * 0x4
def SCH_FLOW_OWNER_VALID : Fld := ⟨31, 1, .rw, 0, 0, 1⟩
def SCH_FLOW_OWNER_BUSY : Fld := ⟨16, 1, .ro, 0, 0, 1⟩
def SCH_FLOW_OWNER_TENANT : Fld := ⟨0, 9, .rw, 0, 0, 511⟩

/-! ### CLE registers (R287) -/

def CLE_CTRL : Nat := 0x06000000
def CLE_CTRL_EN : Fld := ⟨0, 1, .rw, 0, 0, 1⟩
def CLE_STAT : Nat := 0x06000004
def CLE_STAT_CFG_REJ : Fld := ⟨8, 1, .w1c, 0, 0, 1⟩
def CLE_STAT_LANES_BUSY : Fld := ⟨0, 8, .ro, 0, 0, 255⟩
def CLE_LOAD : Nat := 0x06000008
def CLE_LOAD_LOAD : Fld := ⟨0, 13, .ro, 0, 0, 8191⟩
def CLE_TRACE_BASE_LO : Nat := 0x06000010
def CLE_TRACE_BASE_LO_BASE : Fld := ⟨24, 8, .rw, 0, 0, 255⟩
def CLE_TRACE_BASE_HI : Nat := 0x06000014
def CLE_TRACE_BASE_HI_BASE : Fld := ⟨0, 8, .rw, 0, 0, 255⟩
def CLE_LAW_CFG (l : Nat) : Nat := 0x06010000 + l * 0x100
def CLE_LAW_CFG_VALID : Fld := ⟨31, 1, .rw, 0, 0, 1⟩
def CLE_LAW_CFG_COUNT : Fld := ⟨25, 6, .rw, 0, 0, 63⟩
def CLE_LAW_CFG_FIRST : Fld := ⟨9, 11, .rw, 0, 0, 2047⟩
def CLE_LAW_CFG_OWNER : Fld := ⟨0, 9, .rw, 0, 0, 511⟩
def CLE_LAW_CLK (l : Nat) : Nat := 0x06010004 + l * 0x100
def CLE_LAW_CLK_MODE : Fld := ⟨16, 1, .rw, 0, 0, 1⟩
def CLE_LAW_CLK_HANDLE : Fld := ⟨0, 14, .rw, 16383, 0, 16383⟩
def CLE_LAW_LAG (l : Nat) : Nat := 0x06010008 + l * 0x100
def CLE_LAW_LAG_NS : Fld := ⟨0, 22, .rw, 1000000, 0, 4000000⟩
def CLE_LAW_TS (l : Nat) : Nat := 0x0601000C + l * 0x100
def CLE_LAW_TS_TS : Fld := ⟨0, 32, .ro, 0, 0, 4294967295⟩
def CLE_LAW_STATE (l : Nat) : Nat := 0x06010010 + l * 0x100
def CLE_LAW_STATE_TUNE_ABORT : Fld := ⟨11, 1, .w1c, 0, 0, 1⟩
def CLE_LAW_STATE_CLOCK_LOST : Fld := ⟨10, 1, .w1c, 0, 0, 1⟩
def CLE_LAW_STATE_OVERRUN : Fld := ⟨9, 1, .w1c, 0, 0, 1⟩
def CLE_LAW_STATE_BUMPLESS_PENDING : Fld := ⟨8, 1, .ro, 0, 0, 1⟩
def CLE_LAW_STATE_UNTUNE_PENDING : Fld := ⟨7, 1, .ro, 0, 0, 1⟩
def CLE_LAW_STATE_TUNE_PENDING : Fld := ⟨6, 1, .ro, 0, 0, 1⟩
def CLE_LAW_STATE_COMMIT_PENDING : Fld := ⟨5, 1, .ro, 0, 0, 1⟩
def CLE_LAW_STATE_ACTIVE_SET : Fld := ⟨4, 1, .ro, 0, 0, 1⟩
def CLE_LAW_STATE_STATE : Fld := ⟨0, 3, .ro, 0, 0, 7⟩
def CLE_LAW_CMD (l : Nat) : Nat := 0x06010014 + l * 0x100
def CLE_LAW_CMD_BUSY : Fld := ⟨31, 1, .ro, 0, 0, 1⟩
def CLE_LAW_CMD_RESULT : Fld := ⟨28, 3, .ro, 0, 0, 7⟩
def CLE_LAW_CMD_DETAIL : Fld := ⟨16, 12, .ro, 0, 0, 4095⟩
def CLE_LAW_CMD_BUMPLESS : Fld := ⟨8, 1, .rw, 0, 0, 1⟩
def CLE_LAW_CMD_OP : Fld := ⟨0, 4, .ws, 0, 0, 15⟩
def CLE_LAW_TUNE (l : Nat) : Nat := 0x06010018 + l * 0x100
def CLE_LAW_TUNE_RELAY : Fld := ⟨16, 11, .rw, 0, 0, 2047⟩
def CLE_LAW_TUNE_PID : Fld := ⟨0, 11, .rw, 0, 0, 2047⟩
def CLE_LAW_OUT_LO (l : Nat) : Nat := 0x0601001C + l * 0x100
def CLE_LAW_OUT_LO_BASE : Fld := ⟨12, 20, .rw, 0, 0, 1048575⟩
def CLE_LAW_OUT_HI (l : Nat) : Nat := 0x06010020 + l * 0x100
def CLE_LAW_OUT_HI_BASE : Fld := ⟨0, 8, .rw, 0, 0, 255⟩
def CLE_LAW_TIMEOUT (l : Nat) : Nat := 0x06010024 + l * 0x100
def CLE_LAW_TIMEOUT_PERIODS : Fld := ⟨0, 16, .rw, 16, 0, 65535⟩
def CLE_LAW_INDEX (l : Nat) : Nat := 0x06010028 + l * 0x100
def CLE_LAW_INDEX_N : Fld := ⟨0, 32, .ro, 0, 0, 4294967295⟩
def CLE_LAW_LAT (l : Nat) : Nat := 0x0601002C + l * 0x100
def CLE_LAW_LAT_MAX_NS : Fld := ⟨16, 16, .rc, 0, 0, 65535⟩
def CLE_LAW_LAT_LAST_NS : Fld := ⟨0, 16, .ro, 0, 0, 65535⟩
def CLE_LAW_COST (l : Nat) : Nat := 0x06010030 + l * 0x100
def CLE_LAW_COST_W_NS : Fld := ⟨0, 16, .ro, 0, 0, 65535⟩
def CLE_TRC_CFG (l : Nat) : Nat := 0x06010040 + l * 0x100
def CLE_TRC_CFG_POST : Fld := ⟨16, 12, .rw, 2048, 0, 4095⟩
def CLE_TRC_CFG_DIV : Fld := ⟨8, 8, .rw, 0, 0, 255⟩
def CLE_TRC_CFG_EVENTS : Fld := ⟨2, 4, .rw, 0, 0, 15⟩
def CLE_TRC_CFG_TRIG_SOLSTICE : Fld := ⟨1, 1, .rw, 0, 0, 1⟩
def CLE_TRC_CFG_MODE : Fld := ⟨0, 1, .rw, 0, 0, 1⟩
def CLE_TRC_PROBE (l p : Nat) : Nat := 0x06010044 + l * 0x100 + p * 0x4
def CLE_TRC_PROBE_EN : Fld := ⟨31, 1, .rw, 0, 0, 1⟩
def CLE_TRC_PROBE_WHAT : Fld := ⟨12, 2, .rw, 0, 0, 3⟩
def CLE_TRC_PROBE_BLOCK : Fld := ⟨0, 11, .rw, 0, 0, 2047⟩
def CLE_TRC_CMD (l : Nat) : Nat := 0x06010054 + l * 0x100
def CLE_TRC_CMD_OP : Fld := ⟨0, 2, .ws, 0, 0, 3⟩
def CLE_TRC_STAT (l : Nat) : Nat := 0x06010058 + l * 0x100
def CLE_TRC_STAT_TRIG_POS : Fld := ⟨16, 12, .ro, 0, 0, 4095⟩
def CLE_TRC_STAT_WRITE : Fld := ⟨4, 12, .ro, 0, 0, 4095⟩
def CLE_TRC_STAT_STATE : Fld := ⟨0, 2, .ro, 0, 0, 3⟩
def CLE_BLK_STRUCT (b i : Nat) : Nat := 0x06100000 + b * 0x10 + i * 0x4
def CLE_BLK_STRUCT_WORD : Fld := ⟨0, 32, .rw, 0, 0, 4294967295⟩
def CLE_BLK_PARAM (s i : Nat) : Nat := 0x06200000 + s * 0x10000 + i * 0x4
def CLE_BLK_PARAM_WORD : Fld := ⟨0, 32, .rw, 0, 0, 4294967295⟩
def CLE_BLK_STATE (b i : Nat) : Nat := 0x06300000 + b * 0x20 + i * 0x4
def CLE_BLK_STATE_WORD : Fld := ⟨0, 32, .rw, 0, 0, 4294967295⟩
def CLE_BLK_FLAGS (b : Nat) : Nat := 0x06340000 + b * 0x4
def CLE_BLK_FLAGS_WORD : Fld := ⟨0, 32, .ro, 0, 0, 4294967295⟩

/-! ### LGE registers (R317) -/

def LGE_CTRL : Nat := 0x07000000
def LGE_CTRL_EN : Fld := ⟨0, 1, .rw, 0, 0, 1⟩
def LGE_STAT : Nat := 0x07000004
def LGE_STAT_CFG_REJ : Fld := ⟨4, 1, .w1c, 0, 0, 1⟩
def LGE_STAT_UNITS_BUSY : Fld := ⟨0, 4, .ro, 0, 0, 15⟩
def LGE_LOAD : Nat := 0x07000008
def LGE_LOAD_LOAD : Fld := ⟨0, 12, .ro, 0, 0, 4095⟩
def LGE_REPORT (i : Nat) : Nat := 0x07001000 + i * 0x4
def LGE_REPORT_WORD : Fld := ⟨0, 32, .ro, 0, 0, 4294967295⟩
def LGE_PRG_CFG (p : Nat) : Nat := 0x07010000 + p * 0x100
def LGE_PRG_CFG_VALID : Fld := ⟨31, 1, .rw, 0, 0, 1⟩
def LGE_PRG_CFG_HOLD_EN : Fld := ⟨30, 1, .rw, 0, 0, 1⟩
def LGE_PRG_CFG_PERIOD : Fld := ⟨16, 12, .rw, 0, 0, 4095⟩
def LGE_PRG_CFG_OWNER : Fld := ⟨0, 9, .rw, 0, 0, 511⟩
def LGE_PRG_CODE_BASE (p : Nat) : Nat := 0x07010004 + p * 0x100
def LGE_PRG_CODE_BASE_BASE : Fld := ⟨0, 18, .rw, 0, 0, 262143⟩
def LGE_PRG_CODE_LEN (p : Nat) : Nat := 0x07010008 + p * 0x100
def LGE_PRG_CODE_LEN_LEN : Fld := ⟨0, 19, .rw, 0, 1, 262144⟩
def LGE_PRG_IAREA (p : Nat) : Nat := 0x0701000C + p * 0x100
def LGE_PRG_IAREA_COUNT : Fld := ⟨16, 15, .rw, 0, 0, 16384⟩
def LGE_PRG_IAREA_BASE : Fld := ⟨0, 14, .rw, 0, 0, 16383⟩
def LGE_PRG_QAREA (p : Nat) : Nat := 0x07010010 + p * 0x100
def LGE_PRG_QAREA_COUNT : Fld := ⟨16, 15, .rw, 0, 0, 16384⟩
def LGE_PRG_QAREA_BASE : Fld := ⟨0, 14, .rw, 0, 0, 16383⟩
def LGE_PRG_MAREA (p : Nat) : Nat := 0x07010014 + p * 0x100
def LGE_PRG_MAREA_COUNT : Fld := ⟨16, 15, .rw, 0, 0, 16384⟩
def LGE_PRG_MAREA_BASE : Fld := ⟨0, 14, .rw, 0, 0, 16383⟩
def LGE_PRG_INST (p : Nat) : Nat := 0x07010018 + p * 0x100
def LGE_PRG_INST_COUNT : Fld := ⟨16, 11, .rw, 0, 0, 1024⟩
def LGE_PRG_INST_BASE : Fld := ⟨0, 14, .rw, 0, 0, 16383⟩
def LGE_PRG_NDECL (p : Nat) : Nat := 0x0701001C + p * 0x100
def LGE_PRG_NDECL_NDECL : Fld := ⟨0, 11, .rw, 0, 0, 1024⟩
def LGE_PRG_WD (p : Nat) : Nat := 0x07010020 + p * 0x100
def LGE_PRG_WD_WD : Fld := ⟨0, 16, .rw, 1000, 0, 65535⟩
def LGE_PRG_STATE (p : Nat) : Nat := 0x07010024 + p * 0x100
def LGE_PRG_STATE_FORCES : Fld := ⟨16, 9, .ro, 0, 0, 511⟩
def LGE_PRG_STATE_LATE : Fld := ⟨14, 1, .w1c, 0, 0, 1⟩
def LGE_PRG_STATE_FORCED : Fld := ⟨13, 1, .ro, 0, 0, 1⟩
def LGE_PRG_STATE_ARITH : Fld := ⟨12, 1, .w1c, 0, 0, 1⟩
def LGE_PRG_STATE_STOP_CAUSE : Fld := ⟨8, 4, .ro, 0, 0, 15⟩
def LGE_PRG_STATE_STEP_PENDING : Fld := ⟨7, 1, .ro, 0, 0, 1⟩
def LGE_PRG_STATE_EXCH_PENDING : Fld := ⟨6, 1, .ro, 0, 0, 1⟩
def LGE_PRG_STATE_VERIFIED : Fld := ⟨5, 1, .ro, 0, 0, 1⟩
def LGE_PRG_STATE_COLD_DONE : Fld := ⟨4, 1, .ro, 0, 0, 1⟩
def LGE_PRG_STATE_HALTED : Fld := ⟨3, 1, .ro, 0, 0, 1⟩
def LGE_PRG_STATE_STATE : Fld := ⟨0, 3, .ro, 0, 0, 7⟩
def LGE_PRG_CMD (p : Nat) : Nat := 0x07010028 + p * 0x100
def LGE_PRG_CMD_BUSY : Fld := ⟨31, 1, .ro, 0, 0, 1⟩
def LGE_PRG_CMD_RESULT : Fld := ⟨28, 3, .ro, 0, 0, 7⟩
def LGE_PRG_CMD_TARGET : Fld := ⟨8, 6, .rw, 0, 0, 63⟩
def LGE_PRG_CMD_COLD : Fld := ⟨4, 1, .rw, 0, 0, 1⟩
def LGE_PRG_CMD_OP : Fld := ⟨0, 4, .ws, 0, 0, 15⟩
def LGE_PRG_DETAIL (p : Nat) : Nat := 0x0701002C + p * 0x100
def LGE_PRG_DETAIL_REASON : Fld := ⟨24, 4, .ro, 0, 0, 15⟩
def LGE_PRG_DETAIL_INDEX : Fld := ⟨0, 18, .ro, 0, 0, 262143⟩
def LGE_PRG_PC (p : Nat) : Nat := 0x07010030 + p * 0x100
def LGE_PRG_PC_PC : Fld := ⟨0, 18, .ro, 0, 0, 262143⟩
def LGE_PRG_SCAN (p : Nat) : Nat := 0x07010034 + p * 0x100
def LGE_PRG_SCAN_J : Fld := ⟨0, 32, .ro, 0, 0, 4294967295⟩
def LGE_PRG_TIME (p : Nat) : Nat := 0x07010038 + p * 0x100
def LGE_PRG_TIME_MAX_US : Fld := ⟨16, 16, .rc, 0, 0, 65535⟩
def LGE_PRG_TIME_LAST_US : Fld := ⟨0, 16, .ro, 0, 0, 65535⟩
def LGE_PRG_OUT_LO (p : Nat) : Nat := 0x0701003C + p * 0x100
def LGE_PRG_OUT_LO_BASE : Fld := ⟨12, 20, .rw, 0, 0, 1048575⟩
def LGE_PRG_OUT_HI (p : Nat) : Nat := 0x07010040 + p * 0x100
def LGE_PRG_OUT_HI_BASE : Fld := ⟨0, 8, .rw, 0, 0, 255⟩
def LGE_PRG_BP (p n : Nat) : Nat := 0x07010050 + p * 0x100 + n * 0x4
def LGE_PRG_BP_EN : Fld := ⟨31, 1, .rw, 0, 0, 1⟩
def LGE_PRG_BP_WORD : Fld := ⟨0, 18, .rw, 0, 0, 262143⟩
def LGE_PRG_FLAG (p n : Nat) : Nat := 0x07010060 + p * 0x100 + n * 0x4
def LGE_PRG_FLAG_EN : Fld := ⟨31, 1, .rw, 0, 0, 1⟩
def LGE_PRG_FLAG_BIT : Fld := ⟨13, 5, .rw, 0, 0, 31⟩
def LGE_PRG_FLAG_TASK : Fld := ⟨0, 13, .rw, 0, 0, 8191⟩
def LGE_POOL (w : Nat) : Nat := 0x07100000 + w * 0x4
def LGE_POOL_WORD : Fld := ⟨0, 32, .rw, 0, 0, 4294967295⟩
def LGE_VAR (w : Nat) : Nat := 0x07200000 + w * 0x4
def LGE_VAR_WORD : Fld := ⟨0, 32, .rw, 0, 0, 4294967295⟩
def LGE_INSTANCE (r i : Nat) : Nat := 0x07300000 + r * 0x10 + i * 0x4
def LGE_INSTANCE_WORD : Fld := ⟨0, 32, .rw, 0, 0, 4294967295⟩
def LGE_FORCE (p f : Nat) : Nat := 0x07400000 + p * 0x1000 + f * 0x4
def LGE_FORCE_WORD : Fld := ⟨0, 32, .rw, 0, 0, 4294967295⟩
def LGE_IMAP (p e : Nat) : Nat := 0x07500000 + p * 0x400 + e * 0x4
def LGE_IMAP_WORD : Fld := ⟨0, 32, .rw, 0, 0, 4294967295⟩
def LGE_OMAP (p e : Nat) : Nat := 0x07600000 + p * 0x400 + e * 0x4
def LGE_OMAP_WORD : Fld := ⟨0, 32, .rw, 0, 0, 4294967295⟩
def LGE_DECL (p v : Nat) : Nat := 0x07700000 + p * 0x4000 + v * 0x4
def LGE_DECL_WORD : Fld := ⟨0, 32, .rw, 0, 0, 4294967295⟩

/-! ### OUT registers (R345) -/

def OUT_CTRL : Nat := 0x08000000
def OUT_CTRL_IMG_MODE : Fld := ⟨3, 1, .rw, 0, 0, 1⟩
def OUT_CTRL_PUB_EN : Fld := ⟨2, 1, .rw, 0, 0, 1⟩
def OUT_CTRL_FENCE_LATCH : Fld := ⟨1, 1, .rw, 1, 0, 1⟩
def OUT_CTRL_EN : Fld := ⟨0, 1, .rw, 0, 0, 1⟩
def OUT_STAT : Nat := 0x08000004
def OUT_STAT_BIN_EVT_COUNT : Fld := ⟨8, 9, .ro, 0, 0, 511⟩
def OUT_STAT_CFG_REJ : Fld := ⟨3, 1, .w1c, 0, 0, 1⟩
def OUT_STAT_MUTED : Fld := ⟨2, 1, .ro, 0, 0, 1⟩
def OUT_STAT_FENCED : Fld := ⟨1, 1, .ro, 0, 0, 1⟩
def OUT_STAT_FENCE_N : Fld := ⟨0, 1, .ro, 1, 0, 1⟩
def OUT_FENCE_CLR : Nat := 0x08000008
def OUT_FENCE_CLR_CLR : Fld := ⟨0, 1, .ws, 0, 0, 1⟩
def OUT_TRIP_LEVEL : Nat := 0x0800000C
def OUT_TRIP_LEVEL_LEVEL : Fld := ⟨0, 16, .ro, 0, 0, 65535⟩
def OUT_UTC_OFFSET : Nat := 0x08000010
def OUT_UTC_OFFSET_SECONDS : Fld := ⟨0, 8, .rw, 37, 0, 255⟩
def OUT_SVC_MAC_LO : Nat := 0x08000018
def OUT_SVC_MAC_LO_MAC : Fld := ⟨0, 32, .rw, 0, 0, 4294967295⟩
def OUT_SVC_MAC_HI : Nat := 0x0800001C
def OUT_SVC_MAC_HI_MAC : Fld := ⟨0, 16, .rw, 0, 0, 65535⟩
def OUT_MOD_MAC_LO : Nat := 0x08000020
def OUT_MOD_MAC_LO_MAC : Fld := ⟨0, 32, .rw, 0, 0, 4294967295⟩
def OUT_MOD_MAC_HI : Nat := 0x08000024
def OUT_MOD_MAC_HI_MAC : Fld := ⟨0, 16, .rw, 0, 0, 65535⟩
def OUT_BIN_STATE : Nat := 0x08000030
def OUT_BIN_STATE_BITS : Fld := ⟨0, 32, .ro, 0, 0, 4294967295⟩
def OUT_BIN_RAW : Nat := 0x08000034
def OUT_BIN_RAW_BITS : Fld := ⟨0, 32, .ro, 0, 0, 4294967295⟩
def OUT_BIN_BLOCKED : Nat := 0x08000038
def OUT_BIN_BLOCKED_BITS : Fld := ⟨0, 32, .ro, 0, 0, 4294967295⟩
def OUT_BIN_EVT (i : Nat) : Nat := 0x08000040 + i * 0x4
def OUT_BIN_EVT_DATA : Fld := ⟨0, 32, .ro, 0, 0, 4294967295⟩
def OUT_BIN_EVT_POP : Nat := 0x08000050
def OUT_BIN_EVT_POP_POP : Fld := ⟨0, 1, .ws, 0, 0, 1⟩
def OUT_BIND_ARM : Nat := 0x08000060
def OUT_BIND_ARM_ARM : Fld := ⟨31, 1, .ws, 0, 0, 1⟩
def OUT_BIND_ARM_BIND : Fld := ⟨0, 8, .ws, 0, 0, 255⟩
def OUT_TRIP_CFG (n : Nat) : Nat := 0x08000100 + n * 0x4
def OUT_TRIP_CFG_EN : Fld := ⟨31, 1, .rw, 0, 0, 1⟩
def OUT_TRIP_CFG_OWNER : Fld := ⟨0, 9, .rw, 0, 0, 511⟩
def OUT_BIN_CFG (n : Nat) : Nat := 0x08000200 + n * 0x4
def OUT_BIN_CFG_INV : Fld := ⟨24, 1, .rw, 0, 0, 1⟩
def OUT_BIN_CFG_CHATTER : Fld := ⟨16, 8, .rw, 0, 0, 255⟩
def OUT_BIN_CFG_DEBOUNCE : Fld := ⟨0, 16, .rw, 1, 0, 65535⟩
def OUT_BIN_FLAG (n : Nat) : Nat := 0x08000300 + n * 0x4
def OUT_BIN_FLAG_EN : Fld := ⟨31, 1, .rw, 0, 0, 1⟩
def OUT_BIN_FLAG_BIT : Fld := ⟨13, 5, .rw, 0, 0, 31⟩
def OUT_BIN_FLAG_TASK : Fld := ⟨0, 13, .rw, 0, 0, 8191⟩
def OUT_BIND_IMG (i : Nat) : Nat := 0x08000400 + i * 0x4
def OUT_BIND_IMG_BITS : Fld := ⟨0, 32, .rw, 0, 0, 4294967295⟩
def OUT_BIND_VAL (i : Nat) : Nat := 0x08000420 + i * 0x4
def OUT_BIND_VAL_BITS : Fld := ⟨0, 32, .ro, 0, 0, 4294967295⟩
def OUT_BINDING (b i : Nat) : Nat := 0x08010000 + b * 0x20 + i * 0x4
def OUT_BINDING_WORD : Fld := ⟨0, 32, .rw, 0, 0, 4294967295⟩
def OUT_PUBLISHER (p i : Nat) : Nat := 0x08020000 + p * 0x40 + i * 0x4
def OUT_PUBLISHER_WORD : Fld := ⟨0, 32, .rw, 0, 0, 4294967295⟩
def OUT_MAP (i : Nat) : Nat := 0x08040000 + i * 0x4
def OUT_MAP_WORD : Fld := ⟨0, 32, .rw, 0, 0, 4294967295⟩
def OUT_TEMPLATE (w : Nat) : Nat := 0x08080000 + w * 0x4
def OUT_TEMPLATE_WORD : Fld := ⟨0, 32, .rw, 0, 0, 4294967295⟩
def OUT_PUB_OWNER (s : Nat) : Nat := 0x080C0000 + s * 0x4
def OUT_PUB_OWNER_VALID : Fld := ⟨31, 1, .rw, 0, 0, 1⟩
def OUT_PUB_OWNER_SAFE_HOLD : Fld := ⟨16, 1, .rw, 0, 0, 1⟩
def OUT_PUB_OWNER_TENANT : Fld := ⟨0, 9, .rw, 0, 0, 511⟩
def OUT_SLOT (s e : Nat) : Nat := 0x08100000 + s * 0x400 + e * 0x4
def OUT_SLOT_WORD : Fld := ⟨0, 32, .ro, 0, 0, 4294967295⟩
def OUT_SAFE (s e : Nat) : Nat := 0x08500000 + s * 0x400 + e * 0x4
def OUT_SAFE_WORD : Fld := ⟨0, 32, .rw, 0, 0, 4294967295⟩

/-! ### REC registers (R369) -/

def REC_CTRL : Nat := 0x09000000
def REC_CTRL_EN : Fld := ⟨0, 1, .rw, 0, 0, 1⟩
def REC_STAT : Nat := 0x09000004
def REC_STAT_CFG_REJ : Fld := ⟨16, 1, .w1c, 0, 0, 1⟩
def REC_STAT_ACTIVE : Fld := ⟨0, 16, .ro, 0, 0, 65535⟩
def REC_LOAD : Nat := 0x09000008
def REC_LOAD_MBS : Fld := ⟨0, 16, .ro, 0, 0, 65535⟩
def REC_MEM_USED : Nat := 0x0900000C
def REC_MEM_USED_MIB : Fld := ⟨0, 14, .ro, 0, 0, 16383⟩
def REC_INJECT_LO : Nat := 0x09000010
def REC_INJECT_LO_VALUE : Fld := ⟨0, 32, .rw, 0, 0, 4294967295⟩
def REC_INJECT_HI : Nat := 0x09000014
def REC_INJECT_HI_VALUE : Fld := ⟨0, 32, .rw, 0, 0, 4294967295⟩
def REC_INJECT_DETAIL : Nat := 0x09000018
def REC_INJECT_DETAIL_VALUE : Fld := ⟨0, 32, .rw, 0, 0, 4294967295⟩
def REC_INJECT : Nat := 0x0900001C
def REC_INJECT_NOW : Fld := ⟨20, 1, .ws, 0, 0, 1⟩
def REC_INJECT_SOURCE : Fld := ⟨16, 4, .ws, 0, 0, 15⟩
def REC_INJECT_MASK : Fld := ⟨0, 16, .ws, 0, 0, 65535⟩
def REC_INJECT_STAT : Nat := 0x09000020
def REC_INJECT_STAT_TOO_OLD : Fld := ⟨16, 16, .ro, 0, 0, 65535⟩
def REC_INJECT_STAT_ACCEPTED : Fld := ⟨0, 16, .ro, 0, 0, 65535⟩
def REC_XTRG_STAT : Nat := 0x09000030
def REC_XTRG_STAT_DRIVING : Fld := ⟨8, 8, .ro, 0, 0, 255⟩
def REC_XTRG_STAT_ASSERTED : Fld := ⟨0, 8, .ro, 0, 0, 255⟩
def REC_XTRG_CFG (l : Nat) : Nat := 0x09000040 + l * 0x4
def REC_XTRG_CFG_OUT_EN : Fld := ⟨31, 1, .rw, 0, 0, 1⟩
def REC_XTRG_CFG_SELF_MASK : Fld := ⟨30, 1, .rw, 1, 0, 1⟩
def REC_XTRG_CFG_FILT : Fld := ⟨26, 4, .rw, 2, 0, 15⟩
def REC_XTRG_CFG_PULSE : Fld := ⟨16, 10, .rw, 100, 0, 1023⟩
def REC_XTRG_CFG_SRC_MASK : Fld := ⟨0, 16, .rw, 0, 0, 65535⟩
def REC_DOM_CFG : Nat := 0x09000060
def REC_DOM_CFG_EN : Fld := ⟨31, 1, .rw, 0, 0, 1⟩
def REC_DOM_CFG_KEY : Fld := ⟨16, 12, .rw, 0, 0, 4095⟩
def REC_DOM_CFG_GROUP : Fld := ⟨0, 16, .rw, 0, 0, 65535⟩
def REC_DOM_KEYID : Nat := 0x09000064
def REC_DOM_KEYID_KEYID : Fld := ⟨0, 32, .rw, 0, 0, 4294967295⟩
def REC_DOM_DA_LO : Nat := 0x09000068
def REC_DOM_DA_LO_DA : Fld := ⟨0, 32, .rw, 0, 0, 4294967295⟩
def REC_DOM_DA_HI : Nat := 0x0900006C
def REC_DOM_DA_HI_DA : Fld := ⟨0, 16, .rw, 0, 0, 65535⟩
def REC_DOM_VLAN : Nat := 0x09000070
def REC_DOM_VLAN_TAGGED : Fld := ⟨15, 1, .rw, 0, 0, 1⟩
def REC_DOM_VLAN_PCP : Fld := ⟨12, 3, .rw, 0, 0, 7⟩
def REC_DOM_VLAN_VID : Fld := ⟨0, 12, .rw, 0, 0, 4095⟩
def REC_DOM_SEQ : Nat := 0x09000074
def REC_DOM_SEQ_SEQ : Fld := ⟨0, 32, .ro, 0, 0, 4294967295⟩
def REC_CFG (r : Nat) : Nat := 0x09010000 + r * 0x100
def REC_CFG_SOLSTICE_OUT : Fld := ⟨31, 1, .rw, 0, 0, 1⟩
def REC_CFG_DOM_OUT : Fld := ⟨30, 1, .rw, 0, 0, 1⟩
def REC_CFG_PRE_WAIT : Fld := ⟨29, 1, .rw, 0, 0, 1⟩
def REC_CFG_STOP_VIOL : Fld := ⟨28, 1, .rw, 0, 0, 1⟩
def REC_CFG_DIGITAL : Fld := ⟨27, 1, .rw, 0, 0, 1⟩
def REC_CFG_FNOM : Fld := ⟨26, 1, .rw, 0, 0, 1⟩
def REC_CFG_N_M1 : Fld := ⟨20, 4, .rw, 0, 0, 15⟩
def REC_CFG_M_M1 : Fld := ⟨16, 4, .rw, 0, 0, 15⟩
def REC_CFG_CHANNELS : Fld := ⟨0, 10, .rw, 0, 0, 1023⟩
def REC_LAG (r : Nat) : Nat := 0x09010004 + r * 0x100
def REC_LAG_US : Fld := ⟨0, 12, .rw, 1000, 0, 4000⟩
def REC_MEM_SIZE (r : Nat) : Nat := 0x09010008 + r * 0x100
def REC_MEM_SIZE_MIB : Fld := ⟨0, 12, .rw, 0, 1, 2048⟩
def REC_MEM_LO (r : Nat) : Nat := 0x0901000C + r * 0x100
def REC_MEM_LO_BASE : Fld := ⟨20, 12, .rw, 0, 0, 4095⟩
def REC_MEM_HI (r : Nat) : Nat := 0x09010010 + r * 0x100
def REC_MEM_HI_BASE : Fld := ⟨0, 8, .rw, 0, 0, 255⟩
def REC_MASK_LO (r : Nat) : Nat := 0x09010014 + r * 0x100
def REC_MASK_LO_BASE : Fld := ⟨12, 20, .rw, 0, 0, 1048575⟩
def REC_MASK_HI (r : Nat) : Nat := 0x09010018 + r * 0x100
def REC_MASK_HI_BASE : Fld := ⟨0, 8, .rw, 0, 0, 255⟩
def REC_PRE (r : Nat) : Nat := 0x0901001C + r * 0x100
def REC_PRE_ENTRIES : Fld := ⟨0, 32, .rw, 0, 0, 4294967295⟩
def REC_POST (r : Nat) : Nat := 0x09010020 + r * 0x100
def REC_POST_ENTRIES : Fld := ⟨0, 32, .rw, 1, 0, 4294967295⟩
def REC_TRIG_EN (r : Nat) : Nat := 0x09010024 + r * 0x100
def REC_TRIG_EN_SOURCES : Fld := ⟨0, 9, .rw, 0, 0, 511⟩
def REC_TRIG_BIN_R (r : Nat) : Nat := 0x09010028 + r * 0x100
def REC_TRIG_BIN_R_INPUTS : Fld := ⟨0, 32, .rw, 0, 0, 4294967295⟩
def REC_TRIG_BIN_F (r : Nat) : Nat := 0x0901002C + r * 0x100
def REC_TRIG_BIN_F_INPUTS : Fld := ⟨0, 32, .rw, 0, 0, 4294967295⟩
def REC_TRIG_XTRG (r : Nat) : Nat := 0x09010030 + r * 0x100
def REC_TRIG_XTRG_LINES : Fld := ⟨0, 8, .rw, 0, 0, 255⟩
def REC_TRIG_GOOSE (r : Nat) : Nat := 0x09010034 + r * 0x100
def REC_TRIG_GOOSE_COND : Fld := ⟨30, 2, .rw, 0, 0, 3⟩
def REC_TRIG_GOOSE_ELEMENT : Fld := ⟨16, 7, .rw, 0, 0, 127⟩
def REC_TRIG_GOOSE_HANDLE : Fld := ⟨0, 14, .rw, 16383, 0, 16383⟩
def REC_TRIG_DOM (r : Nat) : Nat := 0x09010038 + r * 0x100
def REC_TRIG_DOM_GROUP : Fld := ⟨0, 16, .rw, 65535, 0, 65535⟩
def REC_CMD (r : Nat) : Nat := 0x0901003C + r * 0x100
def REC_CMD_BUSY : Fld := ⟨31, 1, .ro, 0, 0, 1⟩
def REC_CMD_RESULT : Fld := ⟨28, 3, .ro, 0, 0, 7⟩
def REC_CMD_DETAIL : Fld := ⟨16, 11, .ro, 0, 0, 2047⟩
def REC_CMD_OP : Fld := ⟨0, 2, .ws, 0, 0, 3⟩
def REC_STATE (r : Nat) : Nat := 0x09010040 + r * 0x100
def REC_STATE_SOURCE : Fld := ⟨8, 4, .ro, 0, 0, 15⟩
def REC_STATE_PRE_REDUCED : Fld := ⟨7, 1, .ro, 0, 0, 1⟩
def REC_STATE_END_CAUSE : Fld := ⟨4, 3, .ro, 0, 0, 7⟩
def REC_STATE_STATE : Fld := ⟨0, 3, .ro, 0, 0, 7⟩
def REC_CAPACITY (r : Nat) : Nat := 0x09010044 + r * 0x100
def REC_CAPACITY_ENTRIES : Fld := ⟨0, 32, .ro, 0, 0, 4294967295⟩
def REC_PRE_EFF (r : Nat) : Nat := 0x09010048 + r * 0x100
def REC_PRE_EFF_ENTRIES : Fld := ⟨0, 32, .ro, 0, 0, 4294967295⟩
def REC_PRE_ACT (r : Nat) : Nat := 0x0901004C + r * 0x100
def REC_PRE_ACT_ENTRIES : Fld := ⟨0, 32, .ro, 0, 0, 4294967295⟩
def REC_POST_ACT (r : Nat) : Nat := 0x09010050 + r * 0x100
def REC_POST_ACT_ENTRIES : Fld := ⟨0, 32, .ro, 0, 0, 4294967295⟩
def REC_TRIG_TIME_LO (r : Nat) : Nat := 0x09010054 + r * 0x100
def REC_TRIG_TIME_LO_TIME : Fld := ⟨0, 32, .ro, 0, 0, 4294967295⟩
def REC_TRIG_TIME_HI (r : Nat) : Nat := 0x09010058 + r * 0x100
def REC_TRIG_TIME_HI_TIME : Fld := ⟨0, 32, .ro, 0, 0, 4294967295⟩
def REC_TRIG_POS (r : Nat) : Nat := 0x0901005C + r * 0x100
def REC_TRIG_POS_FRAC : Fld := ⟨16, 16, .ro, 0, 0, 65535⟩
def REC_NEWEST (r : Nat) : Nat := 0x09010060 + r * 0x100
def REC_NEWEST_SEQ : Fld := ⟨0, 32, .ro, 0, 0, 4294967295⟩
def REC_CHAN (r i : Nat) : Nat := 0x09100000 + r * 0x8000 + i * 0x4
def REC_CHAN_WORD : Fld := ⟨0, 32, .rw, 0, 0, 4294967295⟩

/-! ### ALM registers (R392) -/

def ALM_CTRL : Nat := 0x0A000000
def ALM_CTRL_EN : Fld := ⟨0, 1, .rw, 0, 0, 1⟩
def ALM_STAT : Nat := 0x0A000004
def ALM_STAT_INTAKE : Fld := ⟨8, 4, .ro, 0, 0, 15⟩
def ALM_STAT_WRITING : Fld := ⟨4, 1, .ro, 0, 0, 1⟩
def ALM_STAT_CFG_REJ : Fld := ⟨0, 1, .w1c, 0, 0, 1⟩
def ALM_CUR_CH : Nat := 0x0A000010
def ALM_CUR_CH_CHANNEL : Fld := ⟨0, 10, .rw, 0, 0, 1023⟩
def ALM_CUR_SEQ : Nat := 0x0A000014
def ALM_CUR_SEQ_SEQ : Fld := ⟨0, 32, .rw, 0, 0, 4294967295⟩
def ALM_CUR_CMD : Nat := 0x0A000018
def ALM_CUR_CMD_OP : Fld := ⟨0, 3, .ws, 0, 0, 7⟩
def ALM_CUR_STAT : Nat := 0x0A00001C
def ALM_CUR_STAT_BUSY : Fld := ⟨31, 1, .ro, 0, 0, 1⟩
def ALM_CUR_STAT_SIZE : Fld := ⟨4, 4, .ro, 0, 0, 15⟩
def ALM_CUR_STAT_RESULT : Fld := ⟨0, 3, .ro, 0, 0, 7⟩
def ALM_DATA (i : Nat) : Nat := 0x0A000100 + i * 0x4
def ALM_DATA_DATA : Fld := ⟨0, 32, .ro, 0, 0, 4294967295⟩
def ALM_POST_STAGE (i : Nat) : Nat := 0x0A000200 + i * 0x4
def ALM_POST_STAGE_DATA : Fld := ⟨0, 32, .rw, 0, 0, 4294967295⟩
def ALM_POST : Nat := 0x0A000300
def ALM_POST_CHANNEL : Fld := ⟨20, 10, .ws, 0, 0, 1023⟩
def ALM_POST_PSIZE : Fld := ⟨16, 4, .ws, 0, 0, 15⟩
def ALM_POST_CODE : Fld := ⟨0, 16, .ws, 0, 0, 65535⟩
def ALM_POST_STAT : Nat := 0x0A000304
def ALM_POST_STAT_STATUS : Fld := ⟨0, 16, .ro, 0, 0, 65535⟩
def ALM_CLEAR : Nat := 0x0A000308
def ALM_CLEAR_CHANNEL : Fld := ⟨0, 10, .ws, 0, 0, 1023⟩
def ALM_CH_CFG (ch : Nat) : Nat := 0x0A010000 + ch * 0x20
def ALM_CH_CFG_SIZE : Fld := ⟨16, 15, .rw, 0, 0, 16384⟩
def ALM_CH_CFG_BASE : Fld := ⟨0, 15, .rw, 0, 0, 32767⟩
def ALM_CH_STAT (ch : Nat) : Nat := 0x0A010004 + ch * 0x20
def ALM_CH_STAT_LOST_PENDING : Fld := ⟨1, 1, .ro, 0, 0, 1⟩
def ALM_CH_STAT_FULL : Fld := ⟨0, 1, .ro, 0, 0, 1⟩
def ALM_CH_FIRST (ch : Nat) : Nat := 0x0A010008 + ch * 0x20
def ALM_CH_FIRST_SEQ : Fld := ⟨0, 32, .ro, 0, 0, 4294967295⟩
def ALM_CH_NEXT (ch : Nat) : Nat := 0x0A01000C + ch * 0x20
def ALM_CH_NEXT_SEQ : Fld := ⟨0, 32, .ro, 0, 0, 4294967295⟩
def ALM_CH_USED (ch : Nat) : Nat := 0x0A010010 + ch * 0x20
def ALM_CH_USED_BYTES : Fld := ⟨0, 23, .ro, 0, 0, 8388607⟩
def ALM_CH_LOST (ch : Nat) : Nat := 0x0A010014 + ch * 0x20
def ALM_CH_LOST_N : Fld := ⟨0, 32, .ro, 0, 0, 4294967295⟩

/-! ### DPX registers (R428) -/

def DPX_CTRL : Nat := 0x0B000000
def DPX_CTRL_HB_EN : Fld := ⟨1, 1, .rw, 0, 0, 1⟩
def DPX_CTRL_EN : Fld := ⟨0, 1, .rw, 0, 0, 1⟩
def DPX_CFG : Nat := 0x0B000004
def DPX_CFG_NEG_WAIT : Fld := ⟨28, 4, .rw, 2, 0, 15⟩
def DPX_CFG_H : Fld := ⟨24, 4, .rw, 2, 0, 15⟩
def DPX_CFG_PAIR : Fld := ⟨8, 16, .rw, 0, 0, 65535⟩
def DPX_CFG_SOLO_OK : Fld := ⟨4, 1, .rw, 0, 0, 1⟩
def DPX_CFG_PREFERRED : Fld := ⟨3, 1, .rw, 0, 0, 1⟩
def DPX_CFG_SIDE : Fld := ⟨2, 1, .rw, 0, 0, 1⟩
def DPX_CFG_REFEREE : Fld := ⟨1, 1, .rw, 0, 0, 1⟩
def DPX_CFG_PAIR_EN : Fld := ⟨0, 1, .rw, 0, 0, 1⟩
def DPX_STAT : Nat := 0x0B000008
def DPX_STAT_CFG_REJ : Fld := ⟨13, 1, .w1c, 0, 0, 1⟩
def DPX_STAT_REVERT_PENDING : Fld := ⟨12, 1, .ro, 0, 0, 1⟩
def DPX_STAT_SWAP_PENDING : Fld := ⟨11, 1, .ro, 0, 0, 1⟩
def DPX_STAT_REF_OK : Fld := ⟨10, 1, .ro, 0, 0, 1⟩
def DPX_STAT_IMG : Fld := ⟨9, 1, .ro, 0, 0, 1⟩
def DPX_STAT_GATE : Fld := ⟨8, 1, .ro, 0, 0, 1⟩
def DPX_STAT_DUPLEX : Fld := ⟨7, 1, .ro, 0, 0, 1⟩
def DPX_STAT_ELIGIBLE : Fld := ⟨6, 1, .ro, 0, 0, 1⟩
def DPX_STAT_ROLE : Fld := ⟨0, 3, .ro, 0, 0, 7⟩
def DPX_EPOCH : Nat := 0x0B00000C
def DPX_EPOCH_VALUE : Fld := ⟨0, 32, .ro, 0, 0, 4294967295⟩
def DPX_PAIR_EPOCH : Nat := 0x0B000010
def DPX_PAIR_EPOCH_VALUE : Fld := ⟨0, 32, .ro, 0, 0, 4294967295⟩
def DPX_LAST_APPLIED : Nat := 0x0B000014
def DPX_LAST_APPLIED_VALUE : Fld := ⟨0, 32, .ro, 0, 0, 4294967295⟩
def DPX_COPY_ROUND : Nat := 0x0B000018
def DPX_COPY_ROUND_VALUE : Fld := ⟨0, 32, .ro, 0, 0, 4294967295⟩
def DPX_COPY_INFO : Nat := 0x0B00001C
def DPX_COPY_INFO_CUT : Fld := ⟨31, 1, .ro, 0, 0, 1⟩
def DPX_COPY_INFO_NO_ACK : Fld := ⟨30, 1, .ro, 0, 0, 1⟩
def DPX_COPY_INFO_BYTES : Fld := ⟨0, 24, .ro, 0, 0, 16777215⟩
def DPX_BUDGET : Nat := 0x0B000020
def DPX_BUDGET_BYTES : Fld := ⟨0, 24, .ro, 0, 0, 16777215⟩
def DPX_PEER : Nat := 0x0B000024
def DPX_PEER_REFEREE : Fld := ⟨16, 14, .rw, 0, 0, 16383⟩
def DPX_PEER_PEER : Fld := ⟨0, 14, .rw, 0, 0, 16383⟩
def DPX_REVERT : Nat := 0x0B000028
def DPX_REVERT_ROUNDS : Fld := ⟨0, 24, .rw, 10000, 0, 16777215⟩
def DPX_SKIP : Nat := 0x0B00002C
def DPX_SKIP_SQ_SKIP : Fld := ⟨0, 16, .rw, 1024, 0, 65535⟩
def DPX_STAGE_LO : Nat := 0x0B000030
def DPX_STAGE_LO_BASE : Fld := ⟨20, 12, .rw, 0, 0, 4095⟩
def DPX_STAGE_HI : Nat := 0x0B000034
def DPX_STAGE_HI_BASE : Fld := ⟨0, 8, .rw, 0, 0, 255⟩
def DPX_HB_DA_LO : Nat := 0x0B000038
def DPX_HB_DA_LO_DA : Fld := ⟨0, 32, .rw, 0, 0, 4294967295⟩
def DPX_HB_DA_HI : Nat := 0x0B00003C
def DPX_HB_DA_HI_DA : Fld := ⟨0, 16, .rw, 0, 0, 65535⟩
def DPX_HB_VLAN : Nat := 0x0B000040
def DPX_HB_VLAN_TAGGED : Fld := ⟨15, 1, .rw, 0, 0, 1⟩
def DPX_HB_VLAN_PCP : Fld := ⟨12, 3, .rw, 0, 0, 7⟩
def DPX_HB_VLAN_VID : Fld := ⟨0, 12, .rw, 0, 0, 4095⟩
def DPX_HB_KEY : Nat := 0x0B000044
def DPX_HB_KEY_SLOT : Fld := ⟨0, 12, .rw, 0, 0, 4095⟩
def DPX_HEALTH : Nat := 0x0B000048
def DPX_HEALTH_WORD : Fld := ⟨0, 32, .ro, 0, 0, 4294967295⟩
def DPX_HEALTH_PEER : Nat := 0x0B00004C
def DPX_HEALTH_PEER_WORD : Fld := ⟨0, 32, .ro, 0, 0, 4294967295⟩
def DPX_VIGIL_MASK : Nat := 0x0B000050
def DPX_VIGIL_MASK_HEALTHY : Fld := ⟨16, 16, .rw, 511, 0, 65535⟩
def DPX_VIGIL_MASK_FATAL : Fld := ⟨0, 16, .rw, 85, 0, 65535⟩
def DPX_VIGIL_CFG : Nat := 0x0B000054
def DPX_VIGIL_CFG_TWIN_LIMIT : Fld := ⟨16, 16, .rw, 16, 0, 65535⟩
def DPX_VIGIL_CFG_CE_LIMIT : Fld := ⟨0, 16, .rw, 64, 0, 65535⟩
def DPX_VIGIL_PERIOD : Nat := 0x0B000058
def DPX_VIGIL_PERIOD_ROUNDS : Fld := ⟨0, 20, .rw, 10000, 0, 1048575⟩
def DPX_RESYNC : Nat := 0x0B00005C
def DPX_RESYNC_MAX_PASSES : Fld := ⟨16, 4, .rw, 8, 0, 15⟩
def DPX_RESYNC_STOP_PAGES : Fld := ⟨0, 16, .rw, 16, 0, 65535⟩
def DPX_RESYNC_STAT : Nat := 0x0B000060
def DPX_RESYNC_STAT_PASS : Fld := ⟨16, 8, .ro, 0, 0, 255⟩
def DPX_RESYNC_STAT_MARKED : Fld := ⟨0, 16, .ro, 0, 0, 65535⟩
def DPX_CMD : Nat := 0x0B000064
def DPX_CMD_BUSY : Fld := ⟨31, 1, .ro, 0, 0, 1⟩
def DPX_CMD_RESULT : Fld := ⟨28, 3, .ro, 0, 0, 7⟩
def DPX_CMD_SIDE : Fld := ⟨8, 1, .rw, 0, 0, 1⟩
def DPX_CMD_OP : Fld := ⟨0, 4, .ws, 0, 0, 15⟩
def DPX_REF_CFG : Nat := 0x0B000080
def DPX_REF_CFG_WINDOW : Fld := ⟨0, 16, .rw, 20, 5, 1000⟩
def DPX_REF_STAT : Nat := 0x0B000084
def DPX_REF_STAT_ACTIVE : Fld := ⟨16, 2, .ro, 0, 0, 3⟩
def DPX_REF_STAT_MISS_B : Fld := ⟨12, 4, .ro, 0, 0, 15⟩
def DPX_REF_STAT_MISS_A : Fld := ⟨8, 4, .ro, 0, 0, 15⟩
def DPX_REF_STAT_PATH_B : Fld := ⟨3, 1, .ro, 0, 0, 1⟩
def DPX_REF_STAT_PATH_A : Fld := ⟨2, 1, .ro, 0, 0, 1⟩
def DPX_REF_STAT_FENCE_B : Fld := ⟨1, 1, .ro, 0, 0, 1⟩
def DPX_REF_STAT_FENCE_A : Fld := ⟨0, 1, .ro, 0, 0, 1⟩
def DPX_TEN_SET (i : Nat) : Nat := 0x0B000100 + i * 0x4
def DPX_TEN_SET_TENANTS : Fld := ⟨0, 32, .rw, 0, 0, 4294967295⟩

/-! ### KEY registers (R454) -/

def KEY_CTRL : Nat := 0x0C000000
def KEY_CTRL_EN : Fld := ⟨0, 1, .rw, 0, 0, 1⟩
def KEY_STAT : Nat := 0x0C000004
def KEY_STAT_FREE_SLOTS : Fld := ⟨16, 13, .ro, 0, 0, 8191⟩
def KEY_STAT_CFG_REJ : Fld := ⟨6, 1, .w1c, 0, 0, 1⟩
def KEY_STAT_INTEGRITY_FAIL : Fld := ⟨5, 1, .w1c, 0, 0, 1⟩
def KEY_STAT_HOLD : Fld := ⟨4, 1, .ro, 0, 0, 1⟩
def KEY_STAT_TAMPERED : Fld := ⟨3, 1, .ro, 0, 0, 1⟩
def KEY_STAT_SERVICE : Fld := ⟨2, 1, .ro, 0, 0, 1⟩
def KEY_STAT_LC : Fld := ⟨0, 2, .ro, 0, 0, 3⟩
def KEY_DEVICE_ID_LO : Nat := 0x0C000008
def KEY_DEVICE_ID_LO_ID : Fld := ⟨0, 32, .ro, 0, 0, 4294967295⟩
def KEY_DEVICE_ID_HI : Nat := 0x0C00000C
def KEY_DEVICE_ID_HI_ID : Fld := ⟨0, 32, .ro, 0, 0, 4294967295⟩
def KEY_OP_CMD : Nat := 0x0C000010
def KEY_OP_CMD_TAG16 : Fld := ⟨6, 1, .ws, 0, 0, 1⟩
def KEY_OP_CMD_PUB : Fld := ⟨5, 1, .ws, 0, 0, 1⟩
def KEY_OP_CMD_DESTROY : Fld := ⟨4, 1, .ws, 0, 0, 1⟩
def KEY_OP_CMD_OP : Fld := ⟨0, 4, .ws, 0, 0, 15⟩
def KEY_OP_STAT : Nat := 0x0C000014
def KEY_OP_STAT_BUSY : Fld := ⟨31, 1, .ro, 0, 0, 1⟩
def KEY_OP_STAT_COUNT : Fld := ⟨16, 12, .ro, 0, 0, 4095⟩
def KEY_OP_STAT_STATUS : Fld := ⟨0, 16, .ro, 0, 0, 65535⟩
def KEY_OP_KEY : Nat := 0x0C000018
def KEY_OP_KEY_SLOT : Fld := ⟨0, 12, .rw, 0, 0, 4095⟩
def KEY_OP_DST : Nat := 0x0C00001C
def KEY_OP_DST_SLOT : Fld := ⟨0, 12, .rw, 0, 0, 4095⟩
def KEY_OP_ATTR : Nat := 0x0C000020
def KEY_OP_ATTR_LC : Fld := ⟨24, 3, .rw, 0, 0, 7⟩
def KEY_OP_ATTR_MASTERS : Fld := ⟨16, 8, .rw, 0, 0, 255⟩
def KEY_OP_ATTR_USAGE : Fld := ⟨8, 8, .rw, 0, 0, 255⟩
def KEY_OP_ATTR_TYPE : Fld := ⟨0, 8, .rw, 0, 0, 255⟩
def KEY_OP_TENANT : Nat := 0x0C000024
def KEY_OP_TENANT_TENANT : Fld := ⟨0, 9, .rw, 0, 0, 511⟩
def KEY_OP_IN_LO : Nat := 0x0C000028
def KEY_OP_IN_LO_ADDR : Fld := ⟨0, 32, .rw, 0, 0, 4294967295⟩
def KEY_OP_IN_HI : Nat := 0x0C00002C
def KEY_OP_IN_HI_ADDR : Fld := ⟨0, 8, .rw, 0, 0, 255⟩
def KEY_OP_INLEN : Nat := 0x0C000030
def KEY_OP_INLEN_LEN : Fld := ⟨0, 13, .rw, 0, 0, 4608⟩
def KEY_OP_OUT_LO : Nat := 0x0C000034
def KEY_OP_OUT_LO_ADDR : Fld := ⟨0, 32, .rw, 0, 0, 4294967295⟩
def KEY_OP_OUT_HI : Nat := 0x0C000038
def KEY_OP_OUT_HI_ADDR : Fld := ⟨0, 8, .rw, 0, 0, 255⟩
def KEY_TAMPER_CFG : Nat := 0x0C000100
def KEY_TAMPER_CFG_T3 : Fld := ⟨24, 4, .rw, 0, 0, 15⟩
def KEY_TAMPER_CFG_T2 : Fld := ⟨16, 4, .rw, 0, 0, 15⟩
def KEY_TAMPER_CFG_T1 : Fld := ⟨8, 4, .rw, 0, 0, 15⟩
def KEY_TAMPER_CFG_T0 : Fld := ⟨0, 4, .rw, 0, 0, 15⟩
def KEY_TAMPER_CAUSE : Nat := 0x0C000104
def KEY_TAMPER_CAUSE_LATCHED : Fld := ⟨31, 1, .ro, 0, 0, 1⟩
def KEY_TAMPER_CAUSE_PHASE : Fld := ⟨8, 3, .ro, 0, 0, 7⟩
def KEY_TAMPER_CAUSE_VBAT_LOST : Fld := ⟨4, 1, .ro, 0, 0, 1⟩
def KEY_TAMPER_CAUSE_INPUTS : Fld := ⟨0, 4, .ro, 0, 0, 15⟩
def KEY_TAMPER_LEVEL : Nat := 0x0C000108
def KEY_TAMPER_LEVEL_LIVE : Fld := ⟨4, 4, .ro, 0, 0, 15⟩
def KEY_TAMPER_LEVEL_RAW : Fld := ⟨0, 4, .ro, 0, 0, 15⟩
def KEY_TAMPER_TIME_LO : Nat := 0x0C00010C
def KEY_TAMPER_TIME_LO_TIME : Fld := ⟨0, 32, .ro, 0, 0, 4294967295⟩
def KEY_TAMPER_TIME_HI : Nat := 0x0C000110
def KEY_TAMPER_TIME_HI_TIME : Fld := ⟨0, 32, .ro, 0, 0, 4294967295⟩
def KEY_SLOT_REC (s i : Nat) : Nat := 0x0C010000 + s * 0x20 + i * 0x4
def KEY_SLOT_REC_WORD : Fld := ⟨0, 32, .ro, 0, 0, 4294967295⟩
def KEY_HANDLE (t h : Nat) : Nat := 0x0C040000 + t * 0x80 + h * 0x4
def KEY_HANDLE_VALID : Fld := ⟨31, 1, .rw, 0, 0, 1⟩
def KEY_HANDLE_SLOT : Fld := ⟨0, 12, .rw, 0, 0, 4095⟩

/-! ### MEM registers (R474) -/

def MEM_CTRL : Nat := 0x0D000000
def MEM_CTRL_SCRUB_EN : Fld := ⟨1, 1, .rw, 0, 0, 1⟩
def MEM_CTRL_EN : Fld := ⟨0, 1, .rw, 0, 0, 1⟩
def MEM_STAT : Nat := 0x0D000004
def MEM_STAT_BIST_DONE : Fld := ⟨1, 1, .ro, 0, 0, 1⟩
def MEM_STAT_CFG_REJ : Fld := ⟨0, 1, .w1c, 0, 0, 1⟩
def MEM_BANK_FAILED : Nat := 0x0D000008
def MEM_BANK_FAILED_BANKS : Fld := ⟨0, 16, .ro, 0, 0, 65535⟩
def MEM_SCRUB : Nat := 0x0D000010
def MEM_SCRUB_DRAM_RATE : Fld := ⟨16, 16, .rw, 256, 16, 4096⟩
def MEM_SCRUB_BANK_PERIOD : Fld := ⟨0, 16, .rw, 100, 10, 10000⟩
def MEM_DRAM_STAT : Nat := 0x0D000014
def MEM_DRAM_STAT_SIZE : Fld := ⟨4, 4, .ro, 0, 0, 15⟩
def MEM_DRAM_STAT_TRAINED : Fld := ⟨0, 1, .ro, 0, 0, 1⟩
def MEM_ERR_LO : Nat := 0x0D000018
def MEM_ERR_LO_ADDR : Fld := ⟨0, 32, .ro, 0, 0, 4294967295⟩
def MEM_ERR_HI : Nat := 0x0D00001C
def MEM_ERR_HI_ADDR : Fld := ⟨0, 8, .ro, 0, 0, 255⟩
def MEM_ERR_INFO : Nat := 0x0D000020
def MEM_ERR_INFO_DOMAIN_TIME_LO : Fld := ⟨8, 24, .ro, 0, 0, 16777215⟩
def MEM_ERR_INFO_PORT : Fld := ⟨4, 4, .ro, 0, 0, 15⟩
def MEM_ERR_INFO_SOURCE : Fld := ⟨0, 4, .ro, 0, 0, 15⟩
def MEM_BANK_OWNER (n : Nat) : Nat := 0x0D010000 + n * 0x40
def MEM_BANK_OWNER_ZERO : Fld := ⟨31, 1, .rw, 0, 0, 1⟩
def MEM_BANK_OWNER_KIND : Fld := ⟨28, 3, .rw, 0, 0, 6⟩
def MEM_BANK_OWNER_CLUSTER : Fld := ⟨24, 3, .rw, 0, 0, 7⟩
def MEM_BANK_OWNER_TENANT : Fld := ⟨0, 9, .rw, 0, 0, 511⟩
def MEM_BANK_STAT (n : Nat) : Nat := 0x0D010004 + n * 0x40
def MEM_BANK_STAT_STATE : Fld := ⟨0, 3, .ro, 0, 0, 7⟩
def MEM_BANK_REPAIR (n : Nat) : Nat := 0x0D010008 + n * 0x40
def MEM_BANK_REPAIR_USED : Fld := ⟨16, 7, .ro, 0, 0, 127⟩
def MEM_BANK_REPAIR_SUBARRAYS : Fld := ⟨0, 16, .ro, 0, 0, 65535⟩
def MEM_BANK_BIST (n : Nat) : Nat := 0x0D01000C + n * 0x40
def MEM_BANK_BIST_FAIL_SUB : Fld := ⟨4, 4, .ro, 0, 0, 15⟩
def MEM_BANK_BIST_FAIL : Fld := ⟨3, 1, .ro, 0, 0, 1⟩
def MEM_BANK_BIST_START : Fld := ⟨0, 1, .ws, 0, 0, 1⟩

/-! ### MBX registers (R502) -/

def MBX_CTRL : Nat := 0x11000000
def MBX_CTRL_UDP_EN : Fld := ⟨2, 1, .rw, 0, 0, 1⟩
def MBX_CTRL_PCIE_EN : Fld := ⟨1, 1, .rw, 0, 0, 1⟩
def MBX_CTRL_EN : Fld := ⟨0, 1, .rw, 0, 0, 1⟩
def MBX_STAT : Nat := 0x11000004
def MBX_STAT_PCIE_LINK : Fld := ⟨1, 1, .ro, 0, 0, 1⟩
def MBX_STAT_CFG_REJ : Fld := ⟨0, 1, .w1c, 0, 0, 1⟩
def MBX_UDP : Nat := 0x11000008
def MBX_UDP_PORT : Fld := ⟨0, 16, .rw, 57344, 0, 65535⟩
def MBX_BUSY : Nat := 0x1100000C
def MBX_BUSY_MAILBOXES : Fld := ⟨0, 32, .ro, 0, 0, 4294967295⟩
def MBX_MB_RESP (m : Nat) : Nat := 0x11000100 + m * 0x10
def MBX_MB_RESP_POST : Fld := ⟨31, 1, .ws, 0, 0, 1⟩
def MBX_MB_RESP_COMPLETION : Fld := ⟨16, 1, .ws, 0, 0, 1⟩
def MBX_MB_RESP_LENGTH : Fld := ⟨0, 13, .ws, 0, 0, 8191⟩
def MBX_MB_PEND (m : Nat) : Nat := 0x11000104 + m * 0x10
def MBX_MB_PEND_PENDING : Fld := ⟨0, 5, .rw, 0, 0, 31⟩
def MBX_APER_BASE_LO (a : Nat) : Nat := 0x11000400 + a * 0x10
def MBX_APER_BASE_LO_BASE : Fld := ⟨12, 20, .rw, 0, 0, 1048575⟩
def MBX_APER_BASE_HI (a : Nat) : Nat := 0x11000404 + a * 0x10
def MBX_APER_BASE_HI_BASE : Fld := ⟨0, 8, .rw, 0, 0, 255⟩
def MBX_APER_LEN (a : Nat) : Nat := 0x11000408 + a * 0x10
def MBX_APER_LEN_LEN : Fld := ⟨0, 29, .rw, 0, 0, 536870911⟩
def MBX_APER_CTRL (a : Nat) : Nat := 0x1100040C + a * 0x10
def MBX_APER_CTRL_WRITE : Fld := ⟨1, 1, .rw, 0, 0, 1⟩
def MBX_APER_CTRL_EN : Fld := ⟨0, 1, .rw, 0, 0, 1⟩

/-- The SYS registers, in the order of the chapter. -/
def regsSYS : List RegDesc :=
  [ ⟨0x10000000, 1, 0x4, 1, 4, .always, [SYS_ADVENT_DETAIL, SYS_ADVENT_CAUSE, SYS_ADVENT_STATE, SYS_ADVENT_UNCONFIGURED, SYS_ADVENT_WAKE, SYS_ADVENT_STEP]⟩
  , ⟨0x10000004, 1, 0x4, 1, 4, .always, [SYS_ADVENT_CFG_REQUIRE_SYNC, SYS_ADVENT_CFG_REQUIRE_GLOBAL, SYS_ADVENT_CFG_PTP_WAIT]⟩
  , ⟨0x10000008, 1, 0x4, 1, 4, .always, [SYS_RESET_CAUSE_WAKE_SRC, SYS_RESET_CAUSE_WDOG_ESCALATE, SYS_RESET_CAUSE_WAKE, SYS_RESET_CAUSE_COMMAND, SYS_RESET_CAUSE_RST, SYS_RESET_CAUSE_POR]⟩
  , ⟨0x1000000C, 1, 0x4, 1, 4, .always, [SYS_BOOT_SVN, SYS_BOOT_KEYSEL, SYS_BOOT_CONFIG_VALID, SYS_BOOT_CONFIG_SLOT, SYS_BOOT_STEWARD_SLOT]⟩
  , ⟨0x10000010, 1, 0x4, 1, 4, .always, [SYS_FEATURE_VARIANT, SYS_FEATURE_DRAM_SIZE, SYS_FEATURE_CLE, SYS_FEATURE_ACQ, SYS_FEATURE_TWIN, SYS_FEATURE_DOMPORT_MAP, SYS_FEATURE_PORTGRP_MAP, SYS_FEATURE_CLUSTER_MAP]⟩
  , ⟨0x10000014, 1, 0x4, 1, 4, .always, [SYS_WDOG_CFG_EN, SYS_WDOG_CFG_ESCALATE, SYS_WDOG_CFG_TIMEOUT]⟩
  , ⟨0x10000018, 1, 0x4, 1, 4, .always, [SYS_WDOG_KICK_KICK]⟩
  , ⟨0x10000020, 1, 0x4, 1, 4, .always, [SYS_DORMANT_CTRL_ENTER, SYS_DORMANT_CTRL_MGMT_WAKE, SYS_DORMANT_CTRL_RAIL_DELAY]⟩
  , ⟨0x10000024, 1, 0x4, 1, 4, .always, [SYS_WAKE_CODE_VALUE]⟩
  , ⟨0x10000028, 1, 0x4, 1, 4, .always, [SYS_DORMANT_TIME_LO_VALUE]⟩
  , ⟨0x1000002C, 1, 0x4, 1, 4, .always, [SYS_DORMANT_TIME_HI_VALUE]⟩
  , ⟨0x10000030, 1, 0x4, 1, 4, .always, [SYS_SNAP_CTRL_FIRE, SYS_SNAP_CTRL_DISARM, SYS_SNAP_CTRL_ARM]⟩
  , ⟨0x10000034, 1, 0x4, 1, 4, .always, [SYS_SNAP_STAT_COUNT, SYS_SNAP_STAT_LAST_SRC, SYS_SNAP_STAT_CFG_REJ, SYS_SNAP_STAT_MATCH_PAST, SYS_SNAP_STAT_STATE]⟩
  , ⟨0x10000038, 1, 0x4, 1, 4, .always, [SYS_SNAP_SRC_SOURCES]⟩
  , ⟨0x1000003C, 1, 0x4, 1, 4, .always, [SYS_SNAP_ALM_MASK, SYS_SNAP_ALM_VALUE]⟩
  , ⟨0x10000040, 1, 0x4, 1, 4, .always, [SYS_SNAP_CLE_ANY_LAW, SYS_SNAP_CLE_EVENTS, SYS_SNAP_CLE_LAW]⟩
  , ⟨0x10000044, 1, 0x4, 1, 4, .always, [SYS_SNAP_MATCH_LO_TIME]⟩
  , ⟨0x10000048, 1, 0x4, 1, 4, .always, [SYS_SNAP_MATCH_HI_TIME]⟩
  , ⟨0x1000004C, 1, 0x4, 1, 4, .always, [SYS_SNAP_TIME_LO_TIME]⟩
  , ⟨0x10000050, 1, 0x4, 1, 4, .always, [SYS_SNAP_TIME_HI_TIME]⟩ ]

/-- The TIM registers, in the order of the chapter. -/
def regsTIM : List RegDesc :=
  [ ⟨0x0E000000, 1, 0x4, 1, 4, .always, [TIM_CTRL_SRC, TIM_CTRL_PTP_EN, TIM_CTRL_GRID_EN]⟩
  , ⟨0x0E000004, 1, 0x4, 1, 4, .always, [TIM_STAT_PPS_REJ, TIM_STAT_CFG_REJ, TIM_STAT_SLEWING, TIM_STAT_REF_OK, TIM_STAT_HOLDOVER, TIM_STAT_SYNCH]⟩
  , ⟨0x0E000008, 1, 0x4, 1, 4, .always, [TIM_GRID_ROUND_LEN, TIM_GRID_FS_SEL]⟩
  , ⟨0x0E00000C, 1, 0x4, 1, 4, .always, [TIM_ADMIT_CURRENT, TIM_ADMIT_TARGET]⟩
  , ⟨0x0E000010, 1, 0x4, 1, 4, .always, [TIM_HOLD_LIMIT]⟩
  , ⟨0x0E000018, 1, 0x4, 1, 4, .always, [TIM_NOW_LO_NOW]⟩
  , ⟨0x0E00001C, 1, 0x4, 1, 4, .always, [TIM_NOW_HI_NOW]⟩
  , ⟨0x0E000020, 1, 0x4, 1, 4, .always, [TIM_SET_LO_SET]⟩
  , ⟨0x0E000024, 1, 0x4, 1, 4, .always, [TIM_SET_HI_SET]⟩
  , ⟨0x0E000028, 1, 0x4, 1, 4, .always, [TIM_ROUND_ROUND]⟩
  , ⟨0x0E00002C, 1, 0x4, 1, 4, .always, [TIM_APPLIED_ROUND]⟩
  , ⟨0x0E000030, 1, 0x4, 1, 4, .always, [TIM_PPS_OUT_WIDTH, TIM_PPS_IN_EDGE, TIM_PPS_IN_EN, TIM_PPS_OUT_NONE, TIM_PPS_OUT_EN]⟩
  , ⟨0x0E000034, 1, 0x4, 1, 4, .always, [TIM_PPSIN_LO_TS]⟩
  , ⟨0x0E000038, 1, 0x4, 1, 4, .always, [TIM_PPSIN_HI_TS]⟩
  , ⟨0x0E00003C, 1, 0x4, 1, 4, .always, [TIM_SERVO_OFFSET]⟩
  , ⟨0x0E000100, 28, 0x4, 1, 4, .port, [TIM_PORT_PTP_ASYM, TIM_PORT_PTP_ONE_STEP, TIM_PORT_PTP_MODE]⟩ ]

/-- The PRT registers, in the order of the chapter. -/
def regsPRT : List RegDesc :=
  [ ⟨0x01100000, 29, 0x1000, 1, 4, .port, [PRT_PORT_CFG_LOOPBACK, PRT_PORT_CFG_PFC_OBEY, PRT_PORT_CFG_PAUSE_OBEY, PRT_PORT_CFG_PREEMPT_EN, PRT_PORT_CFG_LONG, PRT_PORT_CFG_AN_EN, PRT_PORT_CFG_FEC, PRT_PORT_CFG_MODE, PRT_PORT_CFG_EN]⟩
  , ⟨0x01100004, 29, 0x1000, 1, 4, .port, [PRT_PORT_STAT_WD_RELEASE, PRT_PORT_STAT_PAUSED, PRT_PORT_STAT_CFG_REJ, PRT_PORT_STAT_PREEMPT_ACTIVE, PRT_PORT_STAT_FEC_LOCK, PRT_PORT_STAT_SPEED, PRT_PORT_STAT_AN_DONE, PRT_PORT_STAT_LINK]⟩
  , ⟨0x01100008, 29, 0x1000, 1, 4, .port, [PRT_PAUSE_WD_RELEASE, PRT_PAUSE_WD_LIMIT]⟩
  , ⟨0x0110000C, 29, 0x1000, 1, 4, .port, [PRT_PREEMPT_VERIFY_TIME, PRT_PREEMPT_VERIFY_DIS]⟩
  , ⟨0x01300000, 12, 0x100, 1, 4, .pair, [PRT_LRE_CFG_DUP_AGE, PRT_LRE_CFG_SUP_LSB, PRT_LRE_CFG_REDBOX, PRT_LRE_CFG_MODE]⟩
  , ⟨0x01300004, 12, 0x100, 1, 4, .pair, [PRT_LRE_MAC_LO_MAC]⟩
  , ⟨0x01300008, 12, 0x100, 1, 4, .pair, [PRT_LRE_MAC_HI_MAC]⟩
  , ⟨0x0130000C, 12, 0x100, 1, 4, .pair, [PRT_LRE_SEQ_NEXT]⟩
  , ⟨0x01200000, 1, 0x4, 1, 4, .twin, [PRT_TWIN_CFG_TX_POL, PRT_TWIN_CFG_RX_POL, PRT_TWIN_CFG_EN]⟩
  , ⟨0x01200004, 1, 0x4, 1, 4, .twin, [PRT_TWIN_STAT_SKEW, PRT_TWIN_STAT_LANE_MAP, PRT_TWIN_STAT_STATE, PRT_TWIN_STAT_LANE_LOCK]⟩
  , ⟨0x01400000, 1024, 0x20, 1, 4, .always, [PRT_RXR_BASE_LO_BASE]⟩
  , ⟨0x01400004, 1024, 0x20, 1, 4, .always, [PRT_RXR_BASE_HI_BASE]⟩
  , ⟨0x01400008, 1024, 0x20, 1, 4, .always, [PRT_RXR_CFG_BUF_SIZE, PRT_RXR_CFG_SIZE_LOG2, PRT_RXR_CFG_EN]⟩
  , ⟨0x0140000C, 1024, 0x20, 1, 4, .always, [PRT_RXR_OWNER_STEWARD, PRT_RXR_OWNER_TENANT]⟩
  , ⟨0x01400010, 1024, 0x20, 1, 4, .always, [PRT_RXR_HEAD_INDEX]⟩
  , ⟨0x01400014, 1024, 0x20, 1, 4, .always, [PRT_RXR_TAIL_INDEX]⟩
  , ⟨0x01500000, 1024, 0x20, 1, 4, .always, [PRT_TXR_BASE_LO_BASE]⟩
  , ⟨0x01500004, 1024, 0x20, 1, 4, .always, [PRT_TXR_BASE_HI_BASE]⟩
  , ⟨0x01500008, 1024, 0x20, 1, 4, .always, [PRT_TXR_CFG_LONG, PRT_TXR_CFG_SIZE_LOG2, PRT_TXR_CFG_EN]⟩
  , ⟨0x0150000C, 1024, 0x20, 1, 4, .always, [PRT_TXR_OWNER_STEWARD, PRT_TXR_OWNER_TENANT]⟩
  , ⟨0x01500010, 1024, 0x20, 1, 4, .always, [PRT_TXR_HEAD_INDEX]⟩
  , ⟨0x01500014, 1024, 0x20, 1, 4, .always, [PRT_TXR_TAIL_INDEX]⟩
  , ⟨0x01500018, 1024, 0x20, 1, 4, .always, [PRT_TXR_SRC_LO_MAC]⟩
  , ⟨0x0150001C, 1024, 0x20, 1, 4, .always, [PRT_TXR_SRC_HI_MAC]⟩ ]

/-- The FAB registers, in the order of the chapter. -/
def regsFAB : List RegDesc :=
  [ ⟨0x02000000, 1, 0x4, 1, 4, .always, [FAB_CTRL_VIGIL_EN, FAB_CTRL_FORCE_FULL, FAB_CTRL_EN]⟩
  , ⟨0x02000004, 1, 0x4, 1, 4, .always, [FAB_STAT_CFG_REJ, FAB_STAT_CAL_OK, FAB_STAT_MODE]⟩
  , ⟨0x02000008, 1, 0x4, 1, 4, .always, [FAB_CAL_STAT_DAY_PS, FAB_CAL_STAT_FAIL_PORT, FAB_CAL_STAT_FAIL, FAB_CAL_STAT_DONE, FAB_CAL_STAT_START]⟩
  , ⟨0x02000010, 1, 0x4, 1, 4, .always, [FAB_DAYS_LO_DAYS]⟩
  , ⟨0x02000014, 1, 0x4, 1, 4, .always, [FAB_DAYS_HI_DAYS]⟩
  , ⟨0x02000020, 1, 0x4, 1, 4, .always, [FAB_RESERVE_FD, FAB_RESERVE_CELLS]⟩
  , ⟨0x02000024, 1, 0x4, 1, 4, .always, [FAB_FREE_CELLS]⟩
  , ⟨0x02000028, 1, 0x4, 1, 4, .always, [FAB_FD_FREE_FD]⟩
  , ⟨0x0200002C, 1, 0x4, 1, 4, .always, [FAB_RSV_USE_CELLS]⟩
  , ⟨0x02000030, 1, 0x4, 1, 4, .always, [FAB_FDB_AGE_SECONDS]⟩
  , ⟨0x02000040, 1, 0x4, 1, 4, .always, [FAB_FDB_CMD_BUSY, FAB_FDB_CMD_RESULT, FAB_FDB_CMD_INDEX, FAB_FDB_CMD_PORT, FAB_FDB_CMD_OP]⟩
  , ⟨0x02000044, 4, 0x4, 1, 4, .always, [FAB_FDB_DATA_DATA]⟩
  , ⟨0x02000100, 8, 0x4, 1, 4, .always, [FAB_AGE_LIMIT]⟩
  , ⟨0x02010000, 32, 0x400, 1, 4, .fport, [FAB_PORT_CFG_DEF_VID, FAB_PORT_CFG_DEF_CLASS, FAB_PORT_CFG_ING_TAP, FAB_PORT_CFG_ETYPE_CLASS, FAB_PORT_CFG_LEARN]⟩
  , ⟨0x02010004, 32, 0x400, 1, 4, .fport, [FAB_PCP_MAP_MAP]⟩
  , ⟨0x02010008, 32, 0x400, 1, 4, .fport, [FAB_ING_LIMIT_CELLS]⟩
  , ⟨0x0201000C, 32, 0x400, 1, 4, .fport, [FAB_RSV_MAX_CELLS]⟩
  , ⟨0x02010010, 32, 0x400, 1, 4, .fport, [FAB_ING_USE_CELLS]⟩
  , ⟨0x02010040, 32, 0x400, 8, 4, .fport, [FAB_EG_LIMIT_CELLS]⟩
  , ⟨0x02010060, 32, 0x400, 8, 4, .fport, [FAB_EG_USE_CELLS]⟩
  , ⟨0x02010080, 32, 0x400, 8, 4, .fport, [FAB_SHAPE_EN, FAB_SHAPE_BURST, FAB_SHAPE_RATE]⟩
  , ⟨0x020100A0, 32, 0x400, 5, 4, .fport, [FAB_DWRR_QUANTUM]⟩
  , ⟨0x02020000, 4096, 0x4, 1, 4, .always, [FAB_VLAN_MEMBER]⟩ ]

/-- The ING registers, in the order of the chapter. -/
def regsING : List RegDesc :=
  [ ⟨0x03000000, 1, 0x4, 1, 4, .always, [ING_CTRL_STRANGER_EN, ING_CTRL_EN]⟩
  , ⟨0x03000004, 1, 0x4, 1, 4, .always, [ING_STAT_STRANGER_COUNT, ING_STAT_STRANGER_AVAIL, ING_STAT_FLIP_REJ, ING_STAT_CFG_REJ, ING_STAT_COPY_BUSY, ING_STAT_FLIP_PENDING, ING_STAT_ACTIVE]⟩
  , ⟨0x03000008, 1, 0x4, 1, 4, .always, [ING_BANK_CANCEL, ING_BANK_COPY, ING_BANK_FLIP]⟩
  , ⟨0x0300000C, 1, 0x4, 1, 4, .always, [ING_FLIP_ROUND_ROUND]⟩
  , ⟨0x03000010, 1, 0x4, 1, 4, .always, [ING_KEY_STENCIL_GOOSE, ING_KEY_STENCIL_SV]⟩
  , ⟨0x03000014, 1, 0x4, 1, 4, .always, [ING_WALK_BUDGET]⟩
  , ⟨0x03000018, 1, 0x4, 1, 4, .always, [ING_LOAD_ACTIVE_MBS, ING_LOAD_SHADOW_MBS]⟩
  , ⟨0x03000020, 1, 0x4, 1, 4, .always, [ING_STRANGER_CFG_HOLDOFF, ING_STRANGER_CFG_RATE]⟩
  , ⟨0x03000024, 1, 0x4, 1, 4, .always, [ING_STRANGER_POP_POP]⟩
  , ⟨0x03000040, 16, 0x4, 1, 4, .always, [ING_STRANGER_DATA_DATA]⟩
  , ⟨0x03100000, 64, 0x200, 128, 4, .always, [ING_STENCIL_POOL_WORD]⟩
  , ⟨0x03400000, 2, 0x400000, 131072, 4, .always, [ING_KEY_INDEX_WORD]⟩
  , ⟨0x03500000, 2, 0x400000, 262144, 4, .always, [ING_STATIC_WORD]⟩
  , ⟨0x03600000, 2, 0x400000, 65536, 4, .always, [ING_SUBS_WORD]⟩
  , ⟨0x03C00000, 16384, 0x40, 16, 4, .always, [ING_DYN_WORD]⟩
  , ⟨0x03E00000, 512, 0x10, 1, 4, .tenant, [ING_ROW_CFG_EN, ING_ROW_CFG_BIT, ING_ROW_CFG_TASK]⟩
  , ⟨0x03E00004, 512, 0x10, 1, 4, .tenant, [ING_ROW_BASE_LO_BASE]⟩
  , ⟨0x03E00008, 512, 0x10, 1, 4, .tenant, [ING_ROW_BASE_HI_BASE]⟩ ]

/-- The ACQ registers, in the order of the chapter. -/
def regsACQ : List RegDesc :=
  [ ⟨0x04000000, 1, 0x4, 1, 4, .always, [ACQ_CTRL_MCLK_OE, ACQ_CTRL_EN]⟩
  , ⟨0x04000004, 1, 0x4, 1, 4, .always, [ACQ_STAT_MCLK_RUN, ACQ_STAT_CFG_REJ, ACQ_STAT_BEHIND, ACQ_STAT_RUNNING]⟩
  , ⟨0x04010000, 32, 0x40, 1, 4, .acq, [ACQ_CH_CFG_SRC, ACQ_CH_CFG_EDGE, ACQ_CH_CFG_INV, ACQ_CH_CFG_EN]⟩
  , ⟨0x04010004, 32, 0x40, 1, 4, .acq, [ACQ_CH_SCALE_SCALE]⟩
  , ⟨0x04010008, 32, 0x40, 1, 4, .acq, [ACQ_CH_OFFSET_OFFSET]⟩
  , ⟨0x0401000C, 32, 0x40, 1, 4, .acq, [ACQ_CH_STAT_FAST, ACQ_CH_STAT_INVALID_LEFT, ACQ_CH_STAT_FAST_VALID, ACQ_CH_STAT_RESET_PENDING, ACQ_CH_STAT_STUCK]⟩
  , ⟨0x04010010, 32, 0x40, 1, 4, .acq, [ACQ_TRIP_CFG_RELEASE, ACQ_TRIP_CFG_K, ACQ_TRIP_CFG_THRESH, ACQ_TRIP_CFG_LATCH, ACQ_TRIP_CFG_MODE, ACQ_TRIP_CFG_EN]⟩
  , ⟨0x04010014, 32, 0x40, 1, 4, .acq, [ACQ_TRIP_STAT_RUN, ACQ_TRIP_STAT_LATCHED, ACQ_TRIP_STAT_ACTIVE]⟩
  , ⟨0x04010018, 32, 0x40, 1, 4, .acq, [ACQ_TRIP_TIME_LO_TIME]⟩
  , ⟨0x0401001C, 32, 0x40, 1, 4, .acq, [ACQ_TRIP_TIME_HI_TIME]⟩
  , ⟨0x04020000, 8, 0x40, 1, 4, .acq, [ACQ_GRP_CFG_HANDLE, ACQ_GRP_CFG_PRESET, ACQ_GRP_CFG_TEST, ACQ_GRP_CFG_EN]⟩
  , ⟨0x04020004, 8, 0x40, 1, 4, .acq, [ACQ_GRP_MASK_MASK]⟩
  , ⟨0x04020008, 8, 0x40, 1, 4, .acq, [ACQ_GRP_EXTDLY_NS]⟩
  , ⟨0x0402000C, 8, 0x40, 1, 4, .acq, [ACQ_GRP_CTL_COMMIT, ACQ_GRP_CTL_SYNC]⟩
  , ⟨0x04020010, 8, 0x40, 1, 4, .acq, [ACQ_GRP_STAT_MIN_D, ACQ_GRP_STAT_BEHIND, ACQ_GRP_STAT_COMMIT_PENDING, ACQ_GRP_STAT_RESET_PENDING, ACQ_GRP_STAT_RUNNING]⟩
  , ⟨0x04020020, 8, 0x40, 4, 4, .acq, [ACQ_GRP_FIR_H_ODD, ACQ_GRP_FIR_H_EVEN]⟩
  , ⟨0x04020030, 8, 0x40, 4, 4, .acq, [ACQ_GRP_FIRA_H_ODD, ACQ_GRP_FIRA_H_EVEN]⟩ ]

/-- The TEN registers, in the order of the chapter. -/
def regsTEN : List RegDesc :=
  [ ⟨0x0F000000, 1, 0x4, 1, 4, .always, [TEN_FRAME_BASE_LO_BASE]⟩
  , ⟨0x0F000004, 1, 0x4, 1, 4, .always, [TEN_FRAME_BASE_HI_BASE]⟩
  , ⟨0x0F000008, 1, 0x4, 1, 4, .always, [TEN_STAT_CFG_REJ]⟩
  , ⟨0x0F00000C, 1, 0x4, 1, 4, .always, [TEN_MIG_MAX_PASSES, TEN_MIG_STOP_PAGES]⟩
  , ⟨0x0F000100, 8, 0x4, 1, 4, .cluster, [TEN_CLUSTER_SHARE_STAGED, TEN_CLUSTER_SHARE_CURRENT]⟩
  , ⟨0x0F100000, 512, 0x100, 1, 4, .tenant, [TEN_STATE_RESUME_PENDING, TEN_STATE_STOP_PENDING, TEN_STATE_START_PENDING, TEN_STATE_STOPPED, TEN_STATE_DIR, TEN_STATE_STATE]⟩
  , ⟨0x0F100004, 512, 0x100, 1, 4, .tenant, [TEN_CFG_LLOG_EN, TEN_CFG_PLOG_EN, TEN_CFG_FAULT_POLICY, TEN_CFG_HOME]⟩
  , ⟨0x0F100008, 512, 0x100, 1, 4, .tenant, [TEN_SHARE_CURRENT, TEN_SHARE_STAGED]⟩
  , ⟨0x0F10000C, 512, 0x100, 1, 4, .tenant, [TEN_LIMIT_PUBQ, TEN_LIMIT_ITEMS]⟩
  , ⟨0x0F10002C, 512, 0x100, 1, 4, .tenant, [TEN_LIMIT_CUR_PUBQ, TEN_LIMIT_CUR_ITEMS]⟩
  , ⟨0x0F100010, 512, 0x100, 1, 4, .tenant, [TEN_MAP_BASE_LO_BASE]⟩
  , ⟨0x0F100014, 512, 0x100, 1, 4, .tenant, [TEN_MAP_BASE_HI_BASE]⟩
  , ⟨0x0F100018, 512, 0x100, 1, 4, .tenant, [TEN_REPL_EN, TEN_REPL_START, TEN_REPL_LINES]⟩
  , ⟨0x0F10001C, 512, 0x100, 1, 4, .tenant, [TEN_MSG_VA_PAGE]⟩
  , ⟨0x0F100020, 512, 0x100, 1, 4, .tenant, [TEN_PLOG_DEST_LO_ADDR]⟩
  , ⟨0x0F100024, 512, 0x100, 1, 4, .tenant, [TEN_PLOG_DEST_HI_ADDR]⟩
  , ⟨0x0F100028, 512, 0x100, 1, 4, .tenant, [TEN_CMD_BUSY, TEN_CMD_RESULT, TEN_CMD_ALL, TEN_CMD_PAGE, TEN_CMD_OP]⟩
  , ⟨0x0F100030, 512, 0x100, 1, 4, .tenant, [TEN_MSGCFG_BIT, TEN_MSGCFG_TASK]⟩
  , ⟨0x0F100040, 512, 0x100, 4, 8, .tenant, [TEN_MSG_PROD_PROD]⟩
  , ⟨0x0F100044, 512, 0x100, 4, 8, .tenant, [TEN_MSG_CONS_CONS]⟩
  , ⟨0x0F100060, 512, 0x100, 16, 4, .tenant, [TEN_RING_SLOT_VALID, TEN_RING_SLOT_RING]⟩ ]

/-- The SCH registers, in the order of the chapter. -/
def regsSCH : List RegDesc :=
  [ ⟨0x05000000, 1, 0x4, 1, 4, .always, [SCH_CTRL_EN]⟩
  , ⟨0x05000004, 1, 0x4, 1, 4, .always, [SCH_STAT_POOL_FREE, SCH_STAT_CFG_REJ]⟩
  , ⟨0x05000008, 1, 0x4, 1, 4, .always, [SCH_HIST_CFG_UNIT]⟩
  , ⟨0x0500000C, 1, 0x4, 1, 4, .always, [SCH_OVR_LAST_ROUND]⟩
  , ⟨0x05000010, 1, 0x4, 1, 4, .always, [SCH_OVR_COUNT_TENANTS]⟩
  , ⟨0x05000020, 1, 0x4, 1, 4, .always, [SCH_FLAG_BITS_BITS]⟩
  , ⟨0x05000024, 1, 0x4, 1, 4, .always, [SCH_FLAG_SET_CLEAR, SCH_FLAG_SET_TASK]⟩
  , ⟨0x05000100, 16, 0x4, 1, 4, .always, [SCH_STW_ITEM_DATA]⟩
  , ⟨0x05000140, 1, 0x4, 1, 4, .always, [SCH_STW_ENQ_TASK]⟩
  , ⟨0x05000144, 1, 0x4, 1, 4, .always, [SCH_STW_ENQ_STAT_STATUS]⟩
  , ⟨0x05000150, 4, 0x4, 1, 4, .always, [SCH_STW_CPL_DATA]⟩
  , ⟨0x05000160, 1, 0x4, 1, 4, .always, [SCH_STW_CPL_POP_POP]⟩
  , ⟨0x05010000, 64, 0x20, 1, 4, .core, [SCH_CORE_STAT_STATE, SCH_CORE_STAT_TENANT, SCH_CORE_STAT_TASK]⟩
  , ⟨0x05020000, 512, 0x80, 1, 4, .tenant, [SCH_TEN_TASKS_COUNT, SCH_TEN_TASKS_FIRST]⟩
  , ⟨0x05020004, 512, 0x80, 1, 4, .tenant, [SCH_TEN_CFG_SLACK, SCH_TEN_CFG_CUT, SCH_TEN_CFG_EXCESS]⟩
  , ⟨0x05020008, 512, 0x80, 1, 4, .tenant, [SCH_TEN_ONCHIP_ITEMS]⟩
  , ⟨0x0502000C, 512, 0x80, 1, 4, .tenant, [SCH_TEN_SPILL_LO_BASE]⟩
  , ⟨0x05020010, 512, 0x80, 1, 4, .tenant, [SCH_TEN_SPILL_HI_SIZE, SCH_TEN_SPILL_HI_BASE]⟩
  , ⟨0x05020014, 512, 0x80, 1, 4, .tenant, [SCH_TEN_CPL_LO_BASE]⟩
  , ⟨0x05020018, 512, 0x80, 1, 4, .tenant, [SCH_TEN_CPL_HI_BASE]⟩
  , ⟨0x0502001C, 512, 0x80, 1, 4, .tenant, [SCH_TEN_TICK_EN, SCH_TEN_TICK_BIT, SCH_TEN_TICK_TASK]⟩
  , ⟨0x05020020, 512, 0x80, 1, 4, .tenant, [SCH_TEN_CPLN_EN, SCH_TEN_CPLN_BIT, SCH_TEN_CPLN_TASK]⟩
  , ⟨0x05020024, 512, 0x80, 1, 4, .tenant, [SCH_TEN_REFUSE_EN, SCH_TEN_REFUSE_BIT, SCH_TEN_REFUSE_TASK]⟩
  , ⟨0x05020028, 512, 0x80, 1, 4, .tenant, [SCH_TEN_USED_NS]⟩
  , ⟨0x0502002C, 512, 0x80, 1, 4, .tenant, [SCH_TEN_USED_LAST_NS]⟩
  , ⟨0x05020030, 512, 0x80, 1, 4, .tenant, [SCH_TEN_STAT_ONCHIP, SCH_TEN_STAT_NO_BUDGET, SCH_TEN_STAT_SPILLING, SCH_TEN_STAT_OVERRUN]⟩
  , ⟨0x05100000, 8192, 0x20, 8, 4, .always, [SCH_DESC_WORD]⟩
  , ⟨0x05180000, 4096, 0x4, 1, 4, .always, [SCH_FLOW_OWNER_VALID, SCH_FLOW_OWNER_BUSY, SCH_FLOW_OWNER_TENANT]⟩ ]

/-- The CLE registers, in the order of the chapter. -/
def regsCLE : List RegDesc :=
  [ ⟨0x06000000, 1, 0x4, 1, 4, .cle, [CLE_CTRL_EN]⟩
  , ⟨0x06000004, 1, 0x4, 1, 4, .cle, [CLE_STAT_CFG_REJ, CLE_STAT_LANES_BUSY]⟩
  , ⟨0x06000008, 1, 0x4, 1, 4, .cle, [CLE_LOAD_LOAD]⟩
  , ⟨0x06000010, 1, 0x4, 1, 4, .cle, [CLE_TRACE_BASE_LO_BASE]⟩
  , ⟨0x06000014, 1, 0x4, 1, 4, .cle, [CLE_TRACE_BASE_HI_BASE]⟩
  , ⟨0x06010000, 128, 0x100, 1, 4, .cle, [CLE_LAW_CFG_VALID, CLE_LAW_CFG_COUNT, CLE_LAW_CFG_FIRST, CLE_LAW_CFG_OWNER]⟩
  , ⟨0x06010004, 128, 0x100, 1, 4, .cle, [CLE_LAW_CLK_MODE, CLE_LAW_CLK_HANDLE]⟩
  , ⟨0x06010008, 128, 0x100, 1, 4, .cle, [CLE_LAW_LAG_NS]⟩
  , ⟨0x0601000C, 128, 0x100, 1, 4, .cle, [CLE_LAW_TS_TS]⟩
  , ⟨0x06010010, 128, 0x100, 1, 4, .cle, [CLE_LAW_STATE_TUNE_ABORT, CLE_LAW_STATE_CLOCK_LOST, CLE_LAW_STATE_OVERRUN, CLE_LAW_STATE_BUMPLESS_PENDING, CLE_LAW_STATE_UNTUNE_PENDING, CLE_LAW_STATE_TUNE_PENDING, CLE_LAW_STATE_COMMIT_PENDING, CLE_LAW_STATE_ACTIVE_SET, CLE_LAW_STATE_STATE]⟩
  , ⟨0x06010014, 128, 0x100, 1, 4, .cle, [CLE_LAW_CMD_BUSY, CLE_LAW_CMD_RESULT, CLE_LAW_CMD_DETAIL, CLE_LAW_CMD_BUMPLESS, CLE_LAW_CMD_OP]⟩
  , ⟨0x06010018, 128, 0x100, 1, 4, .cle, [CLE_LAW_TUNE_RELAY, CLE_LAW_TUNE_PID]⟩
  , ⟨0x0601001C, 128, 0x100, 1, 4, .cle, [CLE_LAW_OUT_LO_BASE]⟩
  , ⟨0x06010020, 128, 0x100, 1, 4, .cle, [CLE_LAW_OUT_HI_BASE]⟩
  , ⟨0x06010024, 128, 0x100, 1, 4, .cle, [CLE_LAW_TIMEOUT_PERIODS]⟩
  , ⟨0x06010028, 128, 0x100, 1, 4, .cle, [CLE_LAW_INDEX_N]⟩
  , ⟨0x0601002C, 128, 0x100, 1, 4, .cle, [CLE_LAW_LAT_MAX_NS, CLE_LAW_LAT_LAST_NS]⟩
  , ⟨0x06010030, 128, 0x100, 1, 4, .cle, [CLE_LAW_COST_W_NS]⟩
  , ⟨0x06010040, 128, 0x100, 1, 4, .cle, [CLE_TRC_CFG_POST, CLE_TRC_CFG_DIV, CLE_TRC_CFG_EVENTS, CLE_TRC_CFG_TRIG_SOLSTICE, CLE_TRC_CFG_MODE]⟩
  , ⟨0x06010044, 128, 0x100, 4, 4, .cle, [CLE_TRC_PROBE_EN, CLE_TRC_PROBE_WHAT, CLE_TRC_PROBE_BLOCK]⟩
  , ⟨0x06010054, 128, 0x100, 1, 4, .cle, [CLE_TRC_CMD_OP]⟩
  , ⟨0x06010058, 128, 0x100, 1, 4, .cle, [CLE_TRC_STAT_TRIG_POS, CLE_TRC_STAT_WRITE, CLE_TRC_STAT_STATE]⟩
  , ⟨0x06100000, 2048, 0x10, 4, 4, .cle, [CLE_BLK_STRUCT_WORD]⟩
  , ⟨0x06200000, 2, 0x10000, 16384, 4, .cle, [CLE_BLK_PARAM_WORD]⟩
  , ⟨0x06300000, 2048, 0x20, 8, 4, .cle, [CLE_BLK_STATE_WORD]⟩
  , ⟨0x06340000, 2048, 0x4, 1, 4, .cle, [CLE_BLK_FLAGS_WORD]⟩ ]

/-- The LGE registers, in the order of the chapter. -/
def regsLGE : List RegDesc :=
  [ ⟨0x07000000, 1, 0x4, 1, 4, .always, [LGE_CTRL_EN]⟩
  , ⟨0x07000004, 1, 0x4, 1, 4, .always, [LGE_STAT_CFG_REJ, LGE_STAT_UNITS_BUSY]⟩
  , ⟨0x07000008, 1, 0x4, 1, 4, .always, [LGE_LOAD_LOAD]⟩
  , ⟨0x07001000, 1024, 0x4, 1, 4, .always, [LGE_REPORT_WORD]⟩
  , ⟨0x07010000, 64, 0x100, 1, 4, .always, [LGE_PRG_CFG_VALID, LGE_PRG_CFG_HOLD_EN, LGE_PRG_CFG_PERIOD, LGE_PRG_CFG_OWNER]⟩
  , ⟨0x07010004, 64, 0x100, 1, 4, .always, [LGE_PRG_CODE_BASE_BASE]⟩
  , ⟨0x07010008, 64, 0x100, 1, 4, .always, [LGE_PRG_CODE_LEN_LEN]⟩
  , ⟨0x0701000C, 64, 0x100, 1, 4, .always, [LGE_PRG_IAREA_COUNT, LGE_PRG_IAREA_BASE]⟩
  , ⟨0x07010010, 64, 0x100, 1, 4, .always, [LGE_PRG_QAREA_COUNT, LGE_PRG_QAREA_BASE]⟩
  , ⟨0x07010014, 64, 0x100, 1, 4, .always, [LGE_PRG_MAREA_COUNT, LGE_PRG_MAREA_BASE]⟩
  , ⟨0x07010018, 64, 0x100, 1, 4, .always, [LGE_PRG_INST_COUNT, LGE_PRG_INST_BASE]⟩
  , ⟨0x0701001C, 64, 0x100, 1, 4, .always, [LGE_PRG_NDECL_NDECL]⟩
  , ⟨0x07010020, 64, 0x100, 1, 4, .always, [LGE_PRG_WD_WD]⟩
  , ⟨0x07010024, 64, 0x100, 1, 4, .always, [LGE_PRG_STATE_FORCES, LGE_PRG_STATE_LATE, LGE_PRG_STATE_FORCED, LGE_PRG_STATE_ARITH, LGE_PRG_STATE_STOP_CAUSE, LGE_PRG_STATE_STEP_PENDING, LGE_PRG_STATE_EXCH_PENDING, LGE_PRG_STATE_VERIFIED, LGE_PRG_STATE_COLD_DONE, LGE_PRG_STATE_HALTED, LGE_PRG_STATE_STATE]⟩
  , ⟨0x07010028, 64, 0x100, 1, 4, .always, [LGE_PRG_CMD_BUSY, LGE_PRG_CMD_RESULT, LGE_PRG_CMD_TARGET, LGE_PRG_CMD_COLD, LGE_PRG_CMD_OP]⟩
  , ⟨0x0701002C, 64, 0x100, 1, 4, .always, [LGE_PRG_DETAIL_REASON, LGE_PRG_DETAIL_INDEX]⟩
  , ⟨0x07010030, 64, 0x100, 1, 4, .always, [LGE_PRG_PC_PC]⟩
  , ⟨0x07010034, 64, 0x100, 1, 4, .always, [LGE_PRG_SCAN_J]⟩
  , ⟨0x07010038, 64, 0x100, 1, 4, .always, [LGE_PRG_TIME_MAX_US, LGE_PRG_TIME_LAST_US]⟩
  , ⟨0x0701003C, 64, 0x100, 1, 4, .always, [LGE_PRG_OUT_LO_BASE]⟩
  , ⟨0x07010040, 64, 0x100, 1, 4, .always, [LGE_PRG_OUT_HI_BASE]⟩
  , ⟨0x07010050, 64, 0x100, 4, 4, .always, [LGE_PRG_BP_EN, LGE_PRG_BP_WORD]⟩
  , ⟨0x07010060, 64, 0x100, 16, 4, .always, [LGE_PRG_FLAG_EN, LGE_PRG_FLAG_BIT, LGE_PRG_FLAG_TASK]⟩
  , ⟨0x07100000, 262144, 0x4, 1, 4, .always, [LGE_POOL_WORD]⟩
  , ⟨0x07200000, 16384, 0x4, 1, 4, .always, [LGE_VAR_WORD]⟩
  , ⟨0x07300000, 16384, 0x10, 4, 4, .always, [LGE_INSTANCE_WORD]⟩
  , ⟨0x07400000, 64, 0x1000, 1024, 4, .always, [LGE_FORCE_WORD]⟩
  , ⟨0x07500000, 64, 0x400, 256, 4, .always, [LGE_IMAP_WORD]⟩
  , ⟨0x07600000, 64, 0x400, 256, 4, .always, [LGE_OMAP_WORD]⟩
  , ⟨0x07700000, 64, 0x4000, 4096, 4, .always, [LGE_DECL_WORD]⟩ ]

/-- The OUT registers, in the order of the chapter. -/
def regsOUT : List RegDesc :=
  [ ⟨0x08000000, 1, 0x4, 1, 4, .always, [OUT_CTRL_IMG_MODE, OUT_CTRL_PUB_EN, OUT_CTRL_FENCE_LATCH, OUT_CTRL_EN]⟩
  , ⟨0x08000004, 1, 0x4, 1, 4, .always, [OUT_STAT_BIN_EVT_COUNT, OUT_STAT_CFG_REJ, OUT_STAT_MUTED, OUT_STAT_FENCED, OUT_STAT_FENCE_N]⟩
  , ⟨0x08000008, 1, 0x4, 1, 4, .always, [OUT_FENCE_CLR_CLR]⟩
  , ⟨0x0800000C, 1, 0x4, 1, 4, .always, [OUT_TRIP_LEVEL_LEVEL]⟩
  , ⟨0x08000010, 1, 0x4, 1, 4, .always, [OUT_UTC_OFFSET_SECONDS]⟩
  , ⟨0x08000018, 1, 0x4, 1, 4, .always, [OUT_SVC_MAC_LO_MAC]⟩
  , ⟨0x0800001C, 1, 0x4, 1, 4, .always, [OUT_SVC_MAC_HI_MAC]⟩
  , ⟨0x08000020, 1, 0x4, 1, 4, .always, [OUT_MOD_MAC_LO_MAC]⟩
  , ⟨0x08000024, 1, 0x4, 1, 4, .always, [OUT_MOD_MAC_HI_MAC]⟩
  , ⟨0x08000030, 1, 0x4, 1, 4, .always, [OUT_BIN_STATE_BITS]⟩
  , ⟨0x08000034, 1, 0x4, 1, 4, .always, [OUT_BIN_RAW_BITS]⟩
  , ⟨0x08000038, 1, 0x4, 1, 4, .always, [OUT_BIN_BLOCKED_BITS]⟩
  , ⟨0x08000040, 4, 0x4, 1, 4, .always, [OUT_BIN_EVT_DATA]⟩
  , ⟨0x08000050, 1, 0x4, 1, 4, .always, [OUT_BIN_EVT_POP_POP]⟩
  , ⟨0x08000060, 1, 0x4, 1, 4, .always, [OUT_BIND_ARM_ARM, OUT_BIND_ARM_BIND]⟩
  , ⟨0x08000100, 16, 0x4, 1, 4, .always, [OUT_TRIP_CFG_EN, OUT_TRIP_CFG_OWNER]⟩
  , ⟨0x08000200, 32, 0x4, 1, 4, .always, [OUT_BIN_CFG_INV, OUT_BIN_CFG_CHATTER, OUT_BIN_CFG_DEBOUNCE]⟩
  , ⟨0x08000300, 32, 0x4, 1, 4, .always, [OUT_BIN_FLAG_EN, OUT_BIN_FLAG_BIT, OUT_BIN_FLAG_TASK]⟩
  , ⟨0x08000400, 8, 0x4, 1, 4, .always, [OUT_BIND_IMG_BITS]⟩
  , ⟨0x08000420, 8, 0x4, 1, 4, .always, [OUT_BIND_VAL_BITS]⟩
  , ⟨0x08010000, 256, 0x20, 8, 4, .always, [OUT_BINDING_WORD]⟩
  , ⟨0x08020000, 1024, 0x40, 16, 4, .always, [OUT_PUBLISHER_WORD]⟩
  , ⟨0x08040000, 16384, 0x4, 1, 4, .always, [OUT_MAP_WORD]⟩
  , ⟨0x08080000, 65536, 0x4, 1, 4, .always, [OUT_TEMPLATE_WORD]⟩
  , ⟨0x080C0000, 4096, 0x4, 1, 4, .always, [OUT_PUB_OWNER_VALID, OUT_PUB_OWNER_SAFE_HOLD, OUT_PUB_OWNER_TENANT]⟩
  , ⟨0x08100000, 4096, 0x400, 256, 4, .always, [OUT_SLOT_WORD]⟩
  , ⟨0x08500000, 4096, 0x400, 256, 4, .always, [OUT_SAFE_WORD]⟩ ]

/-- The REC registers, in the order of the chapter. -/
def regsREC : List RegDesc :=
  [ ⟨0x09000000, 1, 0x4, 1, 4, .always, [REC_CTRL_EN]⟩
  , ⟨0x09000004, 1, 0x4, 1, 4, .always, [REC_STAT_CFG_REJ, REC_STAT_ACTIVE]⟩
  , ⟨0x09000008, 1, 0x4, 1, 4, .always, [REC_LOAD_MBS]⟩
  , ⟨0x0900000C, 1, 0x4, 1, 4, .always, [REC_MEM_USED_MIB]⟩
  , ⟨0x09000010, 1, 0x4, 1, 4, .always, [REC_INJECT_LO_VALUE]⟩
  , ⟨0x09000014, 1, 0x4, 1, 4, .always, [REC_INJECT_HI_VALUE]⟩
  , ⟨0x09000018, 1, 0x4, 1, 4, .always, [REC_INJECT_DETAIL_VALUE]⟩
  , ⟨0x0900001C, 1, 0x4, 1, 4, .always, [REC_INJECT_NOW, REC_INJECT_SOURCE, REC_INJECT_MASK]⟩
  , ⟨0x09000020, 1, 0x4, 1, 4, .always, [REC_INJECT_STAT_TOO_OLD, REC_INJECT_STAT_ACCEPTED]⟩
  , ⟨0x09000030, 1, 0x4, 1, 4, .always, [REC_XTRG_STAT_DRIVING, REC_XTRG_STAT_ASSERTED]⟩
  , ⟨0x09000040, 8, 0x4, 1, 4, .always, [REC_XTRG_CFG_OUT_EN, REC_XTRG_CFG_SELF_MASK, REC_XTRG_CFG_FILT, REC_XTRG_CFG_PULSE, REC_XTRG_CFG_SRC_MASK]⟩
  , ⟨0x09000060, 1, 0x4, 1, 4, .always, [REC_DOM_CFG_EN, REC_DOM_CFG_KEY, REC_DOM_CFG_GROUP]⟩
  , ⟨0x09000064, 1, 0x4, 1, 4, .always, [REC_DOM_KEYID_KEYID]⟩
  , ⟨0x09000068, 1, 0x4, 1, 4, .always, [REC_DOM_DA_LO_DA]⟩
  , ⟨0x0900006C, 1, 0x4, 1, 4, .always, [REC_DOM_DA_HI_DA]⟩
  , ⟨0x09000070, 1, 0x4, 1, 4, .always, [REC_DOM_VLAN_TAGGED, REC_DOM_VLAN_PCP, REC_DOM_VLAN_VID]⟩
  , ⟨0x09000074, 1, 0x4, 1, 4, .always, [REC_DOM_SEQ_SEQ]⟩
  , ⟨0x09010000, 16, 0x100, 1, 4, .always, [REC_CFG_SOLSTICE_OUT, REC_CFG_DOM_OUT, REC_CFG_PRE_WAIT, REC_CFG_STOP_VIOL, REC_CFG_DIGITAL, REC_CFG_FNOM, REC_CFG_N_M1, REC_CFG_M_M1, REC_CFG_CHANNELS]⟩
  , ⟨0x09010004, 16, 0x100, 1, 4, .always, [REC_LAG_US]⟩
  , ⟨0x09010008, 16, 0x100, 1, 4, .always, [REC_MEM_SIZE_MIB]⟩
  , ⟨0x0901000C, 16, 0x100, 1, 4, .always, [REC_MEM_LO_BASE]⟩
  , ⟨0x09010010, 16, 0x100, 1, 4, .always, [REC_MEM_HI_BASE]⟩
  , ⟨0x09010014, 16, 0x100, 1, 4, .always, [REC_MASK_LO_BASE]⟩
  , ⟨0x09010018, 16, 0x100, 1, 4, .always, [REC_MASK_HI_BASE]⟩
  , ⟨0x0901001C, 16, 0x100, 1, 4, .always, [REC_PRE_ENTRIES]⟩
  , ⟨0x09010020, 16, 0x100, 1, 4, .always, [REC_POST_ENTRIES]⟩
  , ⟨0x09010024, 16, 0x100, 1, 4, .always, [REC_TRIG_EN_SOURCES]⟩
  , ⟨0x09010028, 16, 0x100, 1, 4, .always, [REC_TRIG_BIN_R_INPUTS]⟩
  , ⟨0x0901002C, 16, 0x100, 1, 4, .always, [REC_TRIG_BIN_F_INPUTS]⟩
  , ⟨0x09010030, 16, 0x100, 1, 4, .always, [REC_TRIG_XTRG_LINES]⟩
  , ⟨0x09010034, 16, 0x100, 1, 4, .always, [REC_TRIG_GOOSE_COND, REC_TRIG_GOOSE_ELEMENT, REC_TRIG_GOOSE_HANDLE]⟩
  , ⟨0x09010038, 16, 0x100, 1, 4, .always, [REC_TRIG_DOM_GROUP]⟩
  , ⟨0x0901003C, 16, 0x100, 1, 4, .always, [REC_CMD_BUSY, REC_CMD_RESULT, REC_CMD_DETAIL, REC_CMD_OP]⟩
  , ⟨0x09010040, 16, 0x100, 1, 4, .always, [REC_STATE_SOURCE, REC_STATE_PRE_REDUCED, REC_STATE_END_CAUSE, REC_STATE_STATE]⟩
  , ⟨0x09010044, 16, 0x100, 1, 4, .always, [REC_CAPACITY_ENTRIES]⟩
  , ⟨0x09010048, 16, 0x100, 1, 4, .always, [REC_PRE_EFF_ENTRIES]⟩
  , ⟨0x0901004C, 16, 0x100, 1, 4, .always, [REC_PRE_ACT_ENTRIES]⟩
  , ⟨0x09010050, 16, 0x100, 1, 4, .always, [REC_POST_ACT_ENTRIES]⟩
  , ⟨0x09010054, 16, 0x100, 1, 4, .always, [REC_TRIG_TIME_LO_TIME]⟩
  , ⟨0x09010058, 16, 0x100, 1, 4, .always, [REC_TRIG_TIME_HI_TIME]⟩
  , ⟨0x0901005C, 16, 0x100, 1, 4, .always, [REC_TRIG_POS_FRAC]⟩
  , ⟨0x09010060, 16, 0x100, 1, 4, .always, [REC_NEWEST_SEQ]⟩
  , ⟨0x09100000, 16, 0x8000, 8192, 4, .always, [REC_CHAN_WORD]⟩ ]

/-- The ALM registers, in the order of the chapter. -/
def regsALM : List RegDesc :=
  [ ⟨0x0A000000, 1, 0x4, 1, 4, .always, [ALM_CTRL_EN]⟩
  , ⟨0x0A000004, 1, 0x4, 1, 4, .always, [ALM_STAT_INTAKE, ALM_STAT_WRITING, ALM_STAT_CFG_REJ]⟩
  , ⟨0x0A000010, 1, 0x4, 1, 4, .always, [ALM_CUR_CH_CHANNEL]⟩
  , ⟨0x0A000014, 1, 0x4, 1, 4, .always, [ALM_CUR_SEQ_SEQ]⟩
  , ⟨0x0A000018, 1, 0x4, 1, 4, .always, [ALM_CUR_CMD_OP]⟩
  , ⟨0x0A00001C, 1, 0x4, 1, 4, .always, [ALM_CUR_STAT_BUSY, ALM_CUR_STAT_SIZE, ALM_CUR_STAT_RESULT]⟩
  , ⟨0x0A000100, 64, 0x4, 1, 4, .always, [ALM_DATA_DATA]⟩
  , ⟨0x0A000200, 56, 0x4, 1, 4, .always, [ALM_POST_STAGE_DATA]⟩
  , ⟨0x0A000300, 1, 0x4, 1, 4, .always, [ALM_POST_CHANNEL, ALM_POST_PSIZE, ALM_POST_CODE]⟩
  , ⟨0x0A000304, 1, 0x4, 1, 4, .always, [ALM_POST_STAT_STATUS]⟩
  , ⟨0x0A000308, 1, 0x4, 1, 4, .always, [ALM_CLEAR_CHANNEL]⟩
  , ⟨0x0A010000, 528, 0x20, 1, 4, .almch, [ALM_CH_CFG_SIZE, ALM_CH_CFG_BASE]⟩
  , ⟨0x0A010004, 528, 0x20, 1, 4, .almch, [ALM_CH_STAT_LOST_PENDING, ALM_CH_STAT_FULL]⟩
  , ⟨0x0A010008, 528, 0x20, 1, 4, .almch, [ALM_CH_FIRST_SEQ]⟩
  , ⟨0x0A01000C, 528, 0x20, 1, 4, .almch, [ALM_CH_NEXT_SEQ]⟩
  , ⟨0x0A010010, 528, 0x20, 1, 4, .almch, [ALM_CH_USED_BYTES]⟩
  , ⟨0x0A010014, 528, 0x20, 1, 4, .almch, [ALM_CH_LOST_N]⟩ ]

/-- The DPX registers, in the order of the chapter. -/
def regsDPX : List RegDesc :=
  [ ⟨0x0B000000, 1, 0x4, 1, 4, .always, [DPX_CTRL_HB_EN, DPX_CTRL_EN]⟩
  , ⟨0x0B000004, 1, 0x4, 1, 4, .always, [DPX_CFG_NEG_WAIT, DPX_CFG_H, DPX_CFG_PAIR, DPX_CFG_SOLO_OK, DPX_CFG_PREFERRED, DPX_CFG_SIDE, DPX_CFG_REFEREE, DPX_CFG_PAIR_EN]⟩
  , ⟨0x0B000008, 1, 0x4, 1, 4, .always, [DPX_STAT_CFG_REJ, DPX_STAT_REVERT_PENDING, DPX_STAT_SWAP_PENDING, DPX_STAT_REF_OK, DPX_STAT_IMG, DPX_STAT_GATE, DPX_STAT_DUPLEX, DPX_STAT_ELIGIBLE, DPX_STAT_ROLE]⟩
  , ⟨0x0B00000C, 1, 0x4, 1, 4, .always, [DPX_EPOCH_VALUE]⟩
  , ⟨0x0B000010, 1, 0x4, 1, 4, .always, [DPX_PAIR_EPOCH_VALUE]⟩
  , ⟨0x0B000014, 1, 0x4, 1, 4, .always, [DPX_LAST_APPLIED_VALUE]⟩
  , ⟨0x0B000018, 1, 0x4, 1, 4, .always, [DPX_COPY_ROUND_VALUE]⟩
  , ⟨0x0B00001C, 1, 0x4, 1, 4, .always, [DPX_COPY_INFO_CUT, DPX_COPY_INFO_NO_ACK, DPX_COPY_INFO_BYTES]⟩
  , ⟨0x0B000020, 1, 0x4, 1, 4, .always, [DPX_BUDGET_BYTES]⟩
  , ⟨0x0B000024, 1, 0x4, 1, 4, .always, [DPX_PEER_REFEREE, DPX_PEER_PEER]⟩
  , ⟨0x0B000028, 1, 0x4, 1, 4, .always, [DPX_REVERT_ROUNDS]⟩
  , ⟨0x0B00002C, 1, 0x4, 1, 4, .always, [DPX_SKIP_SQ_SKIP]⟩
  , ⟨0x0B000030, 1, 0x4, 1, 4, .always, [DPX_STAGE_LO_BASE]⟩
  , ⟨0x0B000034, 1, 0x4, 1, 4, .always, [DPX_STAGE_HI_BASE]⟩
  , ⟨0x0B000038, 1, 0x4, 1, 4, .always, [DPX_HB_DA_LO_DA]⟩
  , ⟨0x0B00003C, 1, 0x4, 1, 4, .always, [DPX_HB_DA_HI_DA]⟩
  , ⟨0x0B000040, 1, 0x4, 1, 4, .always, [DPX_HB_VLAN_TAGGED, DPX_HB_VLAN_PCP, DPX_HB_VLAN_VID]⟩
  , ⟨0x0B000044, 1, 0x4, 1, 4, .always, [DPX_HB_KEY_SLOT]⟩
  , ⟨0x0B000048, 1, 0x4, 1, 4, .always, [DPX_HEALTH_WORD]⟩
  , ⟨0x0B00004C, 1, 0x4, 1, 4, .always, [DPX_HEALTH_PEER_WORD]⟩
  , ⟨0x0B000050, 1, 0x4, 1, 4, .always, [DPX_VIGIL_MASK_HEALTHY, DPX_VIGIL_MASK_FATAL]⟩
  , ⟨0x0B000054, 1, 0x4, 1, 4, .always, [DPX_VIGIL_CFG_TWIN_LIMIT, DPX_VIGIL_CFG_CE_LIMIT]⟩
  , ⟨0x0B000058, 1, 0x4, 1, 4, .always, [DPX_VIGIL_PERIOD_ROUNDS]⟩
  , ⟨0x0B00005C, 1, 0x4, 1, 4, .always, [DPX_RESYNC_MAX_PASSES, DPX_RESYNC_STOP_PAGES]⟩
  , ⟨0x0B000060, 1, 0x4, 1, 4, .always, [DPX_RESYNC_STAT_PASS, DPX_RESYNC_STAT_MARKED]⟩
  , ⟨0x0B000064, 1, 0x4, 1, 4, .always, [DPX_CMD_BUSY, DPX_CMD_RESULT, DPX_CMD_SIDE, DPX_CMD_OP]⟩
  , ⟨0x0B000080, 1, 0x4, 1, 4, .always, [DPX_REF_CFG_WINDOW]⟩
  , ⟨0x0B000084, 1, 0x4, 1, 4, .always, [DPX_REF_STAT_ACTIVE, DPX_REF_STAT_MISS_B, DPX_REF_STAT_MISS_A, DPX_REF_STAT_PATH_B, DPX_REF_STAT_PATH_A, DPX_REF_STAT_FENCE_B, DPX_REF_STAT_FENCE_A]⟩
  , ⟨0x0B000100, 16, 0x4, 1, 4, .always, [DPX_TEN_SET_TENANTS]⟩ ]

/-- The KEY registers, in the order of the chapter. -/
def regsKEY : List RegDesc :=
  [ ⟨0x0C000000, 1, 0x4, 1, 4, .always, [KEY_CTRL_EN]⟩
  , ⟨0x0C000004, 1, 0x4, 1, 4, .always, [KEY_STAT_FREE_SLOTS, KEY_STAT_CFG_REJ, KEY_STAT_INTEGRITY_FAIL, KEY_STAT_HOLD, KEY_STAT_TAMPERED, KEY_STAT_SERVICE, KEY_STAT_LC]⟩
  , ⟨0x0C000008, 1, 0x4, 1, 4, .always, [KEY_DEVICE_ID_LO_ID]⟩
  , ⟨0x0C00000C, 1, 0x4, 1, 4, .always, [KEY_DEVICE_ID_HI_ID]⟩
  , ⟨0x0C000010, 1, 0x4, 1, 4, .always, [KEY_OP_CMD_TAG16, KEY_OP_CMD_PUB, KEY_OP_CMD_DESTROY, KEY_OP_CMD_OP]⟩
  , ⟨0x0C000014, 1, 0x4, 1, 4, .always, [KEY_OP_STAT_BUSY, KEY_OP_STAT_COUNT, KEY_OP_STAT_STATUS]⟩
  , ⟨0x0C000018, 1, 0x4, 1, 4, .always, [KEY_OP_KEY_SLOT]⟩
  , ⟨0x0C00001C, 1, 0x4, 1, 4, .always, [KEY_OP_DST_SLOT]⟩
  , ⟨0x0C000020, 1, 0x4, 1, 4, .always, [KEY_OP_ATTR_LC, KEY_OP_ATTR_MASTERS, KEY_OP_ATTR_USAGE, KEY_OP_ATTR_TYPE]⟩
  , ⟨0x0C000024, 1, 0x4, 1, 4, .always, [KEY_OP_TENANT_TENANT]⟩
  , ⟨0x0C000028, 1, 0x4, 1, 4, .always, [KEY_OP_IN_LO_ADDR]⟩
  , ⟨0x0C00002C, 1, 0x4, 1, 4, .always, [KEY_OP_IN_HI_ADDR]⟩
  , ⟨0x0C000030, 1, 0x4, 1, 4, .always, [KEY_OP_INLEN_LEN]⟩
  , ⟨0x0C000034, 1, 0x4, 1, 4, .always, [KEY_OP_OUT_LO_ADDR]⟩
  , ⟨0x0C000038, 1, 0x4, 1, 4, .always, [KEY_OP_OUT_HI_ADDR]⟩
  , ⟨0x0C000100, 1, 0x4, 1, 4, .always, [KEY_TAMPER_CFG_T3, KEY_TAMPER_CFG_T2, KEY_TAMPER_CFG_T1, KEY_TAMPER_CFG_T0]⟩
  , ⟨0x0C000104, 1, 0x4, 1, 4, .always, [KEY_TAMPER_CAUSE_LATCHED, KEY_TAMPER_CAUSE_PHASE, KEY_TAMPER_CAUSE_VBAT_LOST, KEY_TAMPER_CAUSE_INPUTS]⟩
  , ⟨0x0C000108, 1, 0x4, 1, 4, .always, [KEY_TAMPER_LEVEL_LIVE, KEY_TAMPER_LEVEL_RAW]⟩
  , ⟨0x0C00010C, 1, 0x4, 1, 4, .always, [KEY_TAMPER_TIME_LO_TIME]⟩
  , ⟨0x0C000110, 1, 0x4, 1, 4, .always, [KEY_TAMPER_TIME_HI_TIME]⟩
  , ⟨0x0C010000, 4096, 0x20, 8, 4, .always, [KEY_SLOT_REC_WORD]⟩
  , ⟨0x0C040000, 512, 0x80, 32, 4, .tenant, [KEY_HANDLE_VALID, KEY_HANDLE_SLOT]⟩ ]

/-- The MEM registers, in the order of the chapter. -/
def regsMEM : List RegDesc :=
  [ ⟨0x0D000000, 1, 0x4, 1, 4, .always, [MEM_CTRL_SCRUB_EN, MEM_CTRL_EN]⟩
  , ⟨0x0D000004, 1, 0x4, 1, 4, .always, [MEM_STAT_BIST_DONE, MEM_STAT_CFG_REJ]⟩
  , ⟨0x0D000008, 1, 0x4, 1, 4, .always, [MEM_BANK_FAILED_BANKS]⟩
  , ⟨0x0D000010, 1, 0x4, 1, 4, .always, [MEM_SCRUB_DRAM_RATE, MEM_SCRUB_BANK_PERIOD]⟩
  , ⟨0x0D000014, 1, 0x4, 1, 4, .always, [MEM_DRAM_STAT_SIZE, MEM_DRAM_STAT_TRAINED]⟩
  , ⟨0x0D000018, 1, 0x4, 1, 4, .always, [MEM_ERR_LO_ADDR]⟩
  , ⟨0x0D00001C, 1, 0x4, 1, 4, .always, [MEM_ERR_HI_ADDR]⟩
  , ⟨0x0D000020, 1, 0x4, 1, 4, .always, [MEM_ERR_INFO_DOMAIN_TIME_LO, MEM_ERR_INFO_PORT, MEM_ERR_INFO_SOURCE]⟩
  , ⟨0x0D010000, 16, 0x40, 1, 4, .always, [MEM_BANK_OWNER_ZERO, MEM_BANK_OWNER_KIND, MEM_BANK_OWNER_CLUSTER, MEM_BANK_OWNER_TENANT]⟩
  , ⟨0x0D010004, 16, 0x40, 1, 4, .always, [MEM_BANK_STAT_STATE]⟩
  , ⟨0x0D010008, 16, 0x40, 1, 4, .always, [MEM_BANK_REPAIR_USED, MEM_BANK_REPAIR_SUBARRAYS]⟩
  , ⟨0x0D01000C, 16, 0x40, 1, 4, .always, [MEM_BANK_BIST_FAIL_SUB, MEM_BANK_BIST_FAIL, MEM_BANK_BIST_START]⟩ ]

/-- The MBX registers, in the order of the chapter. -/
def regsMBX : List RegDesc :=
  [ ⟨0x11000000, 1, 0x4, 1, 4, .always, [MBX_CTRL_UDP_EN, MBX_CTRL_PCIE_EN, MBX_CTRL_EN]⟩
  , ⟨0x11000004, 1, 0x4, 1, 4, .always, [MBX_STAT_PCIE_LINK, MBX_STAT_CFG_REJ]⟩
  , ⟨0x11000008, 1, 0x4, 1, 4, .always, [MBX_UDP_PORT]⟩
  , ⟨0x1100000C, 1, 0x4, 1, 4, .always, [MBX_BUSY_MAILBOXES]⟩
  , ⟨0x11000100, 32, 0x10, 1, 4, .always, [MBX_MB_RESP_POST, MBX_MB_RESP_COMPLETION, MBX_MB_RESP_LENGTH]⟩
  , ⟨0x11000104, 32, 0x10, 1, 4, .always, [MBX_MB_PEND_PENDING]⟩
  , ⟨0x11000400, 16, 0x10, 1, 4, .always, [MBX_APER_BASE_LO_BASE]⟩
  , ⟨0x11000404, 16, 0x10, 1, 4, .always, [MBX_APER_BASE_HI_BASE]⟩
  , ⟨0x11000408, 16, 0x10, 1, 4, .always, [MBX_APER_LEN_LEN]⟩
  , ⟨0x1100040C, 16, 0x10, 1, 4, .always, [MBX_APER_CTRL_WRITE, MBX_APER_CTRL_EN]⟩ ]
def cntPRT_RX_OCTETS (n : Nat) : Nat := 0x01100800 + n * 0x1000
def cntPRT_RX_FRAMES (n : Nat) : Nat := 0x01100808 + n * 0x1000
def cntPRT_RX_RUNT (n : Nat) : Nat := 0x01100810 + n * 0x1000
def cntPRT_RX_OVERSIZE (n : Nat) : Nat := 0x01100818 + n * 0x1000
def cntPRT_RX_FCS_ERR (n : Nat) : Nat := 0x01100820 + n * 0x1000
def cntPRT_RX_STOMP (n : Nat) : Nat := 0x01100828 + n * 0x1000
def cntPRT_RX_TRUNC (n : Nat) : Nat := 0x01100830 + n * 0x1000
def cntPRT_RX_FRAG_ERR (n : Nat) : Nat := 0x01100838 + n * 0x1000
def cntPRT_RX_PAUSE (n : Nat) : Nat := 0x01100840 + n * 0x1000
def cntPRT_RX_PAUSE_IGNORED (n : Nat) : Nat := 0x01100848 + n * 0x1000
def cntPRT_PAUSE_BROKEN (n : Nat) : Nat := 0x01100850 + n * 0x1000
def cntPRT_TX_OCTETS (n : Nat) : Nat := 0x01100858 + n * 0x1000
def cntPRT_TX_FRAMES (n : Nat) : Nat := 0x01100860 + n * 0x1000
def cntPRT_TX_STOMPED (n : Nat) : Nat := 0x01100868 + n * 0x1000
def cntPRT_TX_OVERSIZE (n : Nat) : Nat := 0x01100870 + n * 0x1000
def cntPRT_TX_DOWN_DROP (n : Nat) : Nat := 0x01100878 + n * 0x1000
def cntPRT_TX_ABORT (n : Nat) : Nat := 0x01100880 + n * 0x1000
def cntPRT_TX_PREEMPTED (n : Nat) : Nat := 0x01100888 + n * 0x1000
def cntPRT_LRE_DUP_DISCARD (n : Nat) : Nat := 0x01100890 + n * 0x1000
def cntPRT_LRE_UNTAGGED (n : Nat) : Nat := 0x01100898 + n * 0x1000
def cntPRT_LRE_WRONG_LAN (n : Nat) : Nat := 0x011008A0 + n * 0x1000
def cntPRT_LRE_OUT_OF_WINDOW (n : Nat) : Nat := 0x011008A8 + n * 0x1000
def cntPRT_LRE_EVICT_DUP (n : Nat) : Nat := 0x011008B0 + n * 0x1000
def cntPRT_LRE_RING_REMOVED (n : Nat) : Nat := 0x011008B8 + n * 0x1000
def cntPRT_PROXY_FULL (n : Nat) : Nat := 0x011008C0 + n * 0x1000
def cntPRT_TWIN_BLOCK_ERR : Nat := 0x01200800
def cntPRT_TWIN_CRC_ERR : Nat := 0x01200808
def cntPRT_TWIN_REPLAY : Nat := 0x01200810
def cntPRT_TWIN_TX_FRAMES : Nat := 0x01200818
def cntPRT_TWIN_RX_FRAMES : Nat := 0x01200820
def cntPRT_RXR_NOBUF_COUNT (r : Nat) : Nat := 0x01400018 + r * 0x20
def cntFAB_ING_FRAMES (p : Nat) : Nat := 0x02010200 + p * 0x400
def cntFAB_ING_CELLS (p : Nat) : Nat := 0x02010208 + p * 0x400
def cntFAB_ING_LIMIT_DROP (p : Nat) : Nat := 0x02010210 + p * 0x400
def cntFAB_RSV_CELLS (p : Nat) : Nat := 0x02010218 + p * 0x400
def cntFAB_RSV_DROP (p : Nat) : Nat := 0x02010220 + p * 0x400
def cntFAB_FD_DROP (p : Nat) : Nat := 0x02010228 + p * 0x400
def cntFAB_FLOOD (p : Nat) : Nat := 0x02010230 + p * 0x400
def cntFAB_NO_TARGET (p : Nat) : Nat := 0x02010238 + p * 0x400
def cntFAB_LEARN_FULL (p : Nat) : Nat := 0x02010240 + p * 0x400
def cntFAB_LEARN_MOVE (p : Nat) : Nat := 0x02010248 + p * 0x400
def cntFAB_STATIC_CONFLICT (p : Nat) : Nat := 0x02010250 + p * 0x400
def cntFAB_EG_FRAMES (p : Nat) : Nat := 0x02010258 + p * 0x400
def cntFAB_EG_LIMIT_DROP (p : Nat) : Nat := 0x02010260 + p * 0x400
def cntFAB_MC_REFUSED (p : Nat) : Nat := 0x02010268 + p * 0x400
def cntFAB_CT_FRAMES (p : Nat) : Nat := 0x02010270 + p * 0x400
def cntFAB_CT_STOMPED (p : Nat) : Nat := 0x02010278 + p * 0x400
def cntFAB_AGED_DROP0 (p : Nat) : Nat := 0x02010280 + p * 0x400
def cntFAB_AGED_DROP1 (p : Nat) : Nat := 0x02010288 + p * 0x400
def cntFAB_AGED_DROP2 (p : Nat) : Nat := 0x02010290 + p * 0x400
def cntFAB_AGED_DROP3 (p : Nat) : Nat := 0x02010298 + p * 0x400
def cntFAB_AGED_DROP4 (p : Nat) : Nat := 0x020102A0 + p * 0x400
def cntFAB_AGED_DROP5 (p : Nat) : Nat := 0x020102A8 + p * 0x400
def cntFAB_AGED_DROP6 (p : Nat) : Nat := 0x020102B0 + p * 0x400
def cntFAB_AGED_DROP7 (p : Nat) : Nat := 0x020102B8 + p * 0x400
def cntFAB_RSQ_ERR (p : Nat) : Nat := 0x020102C0 + p * 0x400
def cntING_FRAMES_IN : Nat := 0x03000800
def cntING_NOT_STREAM : Nat := 0x03000808
def cntING_FORMAT_DROP : Nat := 0x03000810
def cntING_STENCIL_FAULT : Nat := 0x03000818
def cntING_STRANGER_FRAMES : Nat := 0x03000820
def cntING_STRANGER_QUEUED : Nat := 0x03000828
def cntING_STRANGER_DROPPED : Nat := 0x03000830
def cntING_AUTH_FAIL : Nat := 0x03000838
def cntING_LATE : Nat := 0x03000840
def cntING_FLIP_DISCARD : Nat := 0x03000848
def cntING_SAMPLES_WRITTEN : Nat := 0x03000850
def cntING_SUBSTITUTES : Nat := 0x03000858
def cntING_GOOSE_CHANGES : Nat := 0x03000860
def cntACQ_GRP_OUTPUTS (g : Nat) : Nat := 0x04000800 + g * 0x40
def cntACQ_GRP_INVALID (g : Nat) : Nat := 0x04000808 + g * 0x40
def cntACQ_GRP_SATURATED (g : Nat) : Nat := 0x04000810 + g * 0x40
def cntACQ_GRP_BEHIND (g : Nat) : Nat := 0x04000818 + g * 0x40
def cntACQ_GRP_RESETS (g : Nat) : Nat := 0x04000820 + g * 0x40
def cntACQ_CH_TRIP_ASSERTS (n : Nat) : Nat := 0x04010800 + n * 0x10
def cntACQ_CH_STUCK_EVENTS (n : Nat) : Nat := 0x04010808 + n * 0x10
def cntTEN_FAULTS (t : Nat) : Nat := 0x0F1000C0 + t * 0x100
def cntTEN_QUEUE_REFUSED (t : Nat) : Nat := 0x0F1000C8 + t * 0x100
def cntTEN_DOORBELLS (t : Nat) : Nat := 0x0F1000D0 + t * 0x100
def cntTEN_RING_FULL (t : Nat) : Nat := 0x0F1000D8 + t * 0x100
def cntTEN_LINE_STALLS (t : Nat) : Nat := 0x0F1000E0 + t * 0x100
def cntTEN_DISABLES (t : Nat) : Nat := 0x0F1000E8 + t * 0x100
def cntSCH_TEN_DISPATCHED (t : Nat) : Nat := 0x05020040 + t * 0x80
def cntSCH_TEN_SPILLED (t : Nat) : Nat := 0x05020048 + t * 0x80
def cntSCH_TEN_OVERRUNS (t : Nat) : Nat := 0x05020050 + t * 0x80
def cntSCH_TEN_RUN_LIMITS (t : Nat) : Nat := 0x05020058 + t * 0x80
def cntSCH_TEN_CPL_LOST (t : Nat) : Nat := 0x05020060 + t * 0x80
def cntSCH_TEN_ROUND_EXPIRED (t : Nat) : Nat := 0x05020068 + t * 0x80
def cntSCH_TEN_REFUSED (t : Nat) : Nat := 0x05020070 + t * 0x80
def cntSCH_FLAG_DROPPED : Nat := 0x05000800
def cntSCH_CORE_BUSY_NS (c : Nat) : Nat := 0x05010010 + c * 0x20
def cntSCH_CORE_ITEMS (c : Nat) : Nat := 0x05010018 + c * 0x20
def cntSCH_HIST_BIN0 (d : Nat) : Nat := 0x05400000 + d * 0x40
def cntSCH_HIST_BIN1 (d : Nat) : Nat := 0x05400008 + d * 0x40
def cntSCH_HIST_BIN2 (d : Nat) : Nat := 0x05400010 + d * 0x40
def cntSCH_HIST_BIN3 (d : Nat) : Nat := 0x05400018 + d * 0x40
def cntSCH_HIST_BIN4 (d : Nat) : Nat := 0x05400020 + d * 0x40
def cntSCH_HIST_BIN5 (d : Nat) : Nat := 0x05400028 + d * 0x40
def cntSCH_HIST_BIN6 (d : Nat) : Nat := 0x05400030 + d * 0x40
def cntSCH_HIST_BIN7 (d : Nat) : Nat := 0x05400038 + d * 0x40
def cntCLE_EVALS (l : Nat) : Nat := 0x06010080 + l * 0x100
def cntCLE_OVERRUNS (l : Nat) : Nat := 0x06010088 + l * 0x100
def cntCLE_SKIPPED (l : Nat) : Nat := 0x06010090 + l * 0x100
def cntCLE_MISS (l : Nat) : Nat := 0x06010098 + l * 0x100
def cntCLE_SAT_EVENTS (l : Nat) : Nat := 0x060100A0 + l * 0x100
def cntCLE_TRIG_IGNORED (l : Nat) : Nat := 0x060100A8 + l * 0x100
def cntLGE_LATE_SCANS (p : Nat) : Nat := 0x070100C0 + p * 0x100
def cntLGE_HELD_SCANS (p : Nat) : Nat := 0x070100C8 + p * 0x100
def cntLGE_WATCHDOGS (p : Nat) : Nat := 0x070100D0 + p * 0x100
def cntLGE_FAULTS (p : Nat) : Nat := 0x070100D8 + p * 0x100
def cntLGE_READ_STALE (p : Nat) : Nat := 0x070100E0 + p * 0x100
def cntLGE_CONV_ERR (p : Nat) : Nat := 0x070100E8 + p * 0x100
def cntLGE_EXCHANGES (p : Nat) : Nat := 0x070100F0 + p * 0x100
def cntOUT_BIN_EVT_LOST : Nat := 0x08000800
def cntOUT_FENCE_EVENTS : Nat := 0x08000808
def cntOUT_PUB_REFUSED : Nat := 0x08000810
def cntOUT_PUB_FRAMES (p : Nat) : Nat := 0x08A00000 + p * 0x20
def cntOUT_PUB_MUTED (p : Nat) : Nat := 0x08A00008 + p * 0x20
def cntOUT_PUB_BUILD_ERR (p : Nat) : Nat := 0x08A00010 + p * 0x20
def cntOUT_PUB_NO_CHANGE (p : Nat) : Nat := 0x08A00018 + p * 0x20
def cntREC_ENTRIES (r : Nat) : Nat := 0x09010080 + r * 0x100
def cntREC_MISSING_VALUES (r : Nat) : Nat := 0x09010088 + r * 0x100
def cntREC_TRIG_IGNORED (r : Nat) : Nat := 0x09010090 + r * 0x100
def cntREC_TRIG_TOO_OLD (r : Nat) : Nat := 0x09010098 + r * 0x100
def cntREC_MASK_VIOL (r : Nat) : Nat := 0x090100A0 + r * 0x100
def cntREC_RECORDINGS (r : Nat) : Nat := 0x090100A8 + r * 0x100
def cntALM_RECORDS (ch : Nat) : Nat := 0x0A030000 + ch * 0x20
def cntALM_FOLDS (ch : Nat) : Nat := 0x0A030008 + ch * 0x20
def cntALM_LOST (ch : Nat) : Nat := 0x0A030010 + ch * 0x20
def cntALM_DROPPED_FULL (ch : Nat) : Nat := 0x0A030018 + ch * 0x20
def cntDPX_COPIES : Nat := 0x0B000800
def cntDPX_COPY_CUTS : Nat := 0x0B000808
def cntDPX_COPY_BYTES : Nat := 0x0B000810
def cntDPX_GRANTS : Nat := 0x0B000818
def cntDPX_SWAPS : Nat := 0x0B000820
def cntDPX_FENCES : Nat := 0x0B000828
def cntDPX_HB_MISSED : Nat := 0x0B000830
def cntDPX_HB_REJECT : Nat := 0x0B000838
def cntDPX_PATH_FAULTS : Nat := 0x0B000840
def cntDPX_RESYNCS : Nat := 0x0B000848
def cntDPX_EPOCH_DISCARDS : Nat := 0x0B000850
def cntKEY_GRANTS : Nat := 0x0C000800
def cntKEY_DENIED : Nat := 0x0C000808
def cntKEY_ORPHAN_REFUSED : Nat := 0x0C000810
def cntKEY_TAG_FAIL : Nat := 0x0C000818
def cntKEY_INVALIDATES : Nat := 0x0C000820
def cntKEY_SWEPT : Nat := 0x0C000828
def cntKEY_ZEROISES : Nat := 0x0C000830
def cntKEY_TAMPERS : Nat := 0x0C000838
def cntMEM_BANK_CE (n : Nat) : Nat := 0x0D010020 + n * 0x40
def cntMEM_BANK_UE (n : Nat) : Nat := 0x0D010028 + n * 0x40
def cntMEM_BANK_COLLISIONS (n : Nat) : Nat := 0x0D010030 + n * 0x40
def cntMEM_BANK_FAULTS (n : Nat) : Nat := 0x0D010038 + n * 0x40
def cntMEM_DRAM_CE : Nat := 0x0D000800
def cntMEM_DRAM_UE : Nat := 0x0D000808
def cntMEM_SCRUB_PASSES : Nat := 0x0D000810
def cntMEM_DRAM_RMW : Nat := 0x0D000818
def cntMBX_COMMANDS : Nat := 0x11000800
def cntMBX_DB_IGNORED : Nat := 0x11000808
def cntMBX_WRITE_WHILE_BUSY : Nat := 0x11000810
def cntMBX_APER_VIOL : Nat := 0x11000818
def cntMBX_VECTORS : Nat := 0x11000820
def cntSYS_SNAPSHOTS : Nat := 0x10000800
def cntSYS_SNAP_IGNORED : Nat := 0x10000808
def cntSYS_WDOG_RESETS : Nat := 0x10000810
def cntSYS_WAKES : Nat := 0x10000818
/-- Every counter array: base, elements, stride, counters of an element (R91). -/
def counterArrays : List (Nat × Nat × Nat × Nat) :=
  [ (0x01100800, 29, 0x1000, 25)
  , (0x01200800, 1, 0x28, 5)
  , (0x01400018, 1024, 0x20, 1)
  , (0x02010200, 32, 0x400, 25)
  , (0x03000800, 1, 0x68, 13)
  , (0x04000800, 8, 0x40, 5)
  , (0x04010800, 32, 0x10, 2)
  , (0x0F1000C0, 512, 0x100, 6)
  , (0x05020040, 512, 0x80, 7)
  , (0x05000800, 1, 0x8, 1)
  , (0x05010010, 64, 0x20, 2)
  , (0x05400000, 8192, 0x40, 8)
  , (0x06010080, 128, 0x100, 6)
  , (0x070100C0, 64, 0x100, 7)
  , (0x08000800, 1, 0x18, 3)
  , (0x08A00000, 1024, 0x20, 4)
  , (0x09010080, 16, 0x100, 6)
  , (0x0A030000, 528, 0x20, 4)
  , (0x0B000800, 1, 0x58, 11)
  , (0x0C000800, 1, 0x40, 8)
  , (0x0D010020, 16, 0x40, 4)
  , (0x0D000800, 1, 0x20, 4)
  , (0x11000800, 1, 0x28, 5)
  , (0x10000800, 1, 0x20, 4) ]
end Sys2Proof.Machine
end

