-- ==== Sys2Proof/Machine/State.lean ====
section
/-! DEFINITION. The state of the block: everything the spec gives the machine, as plain data. Software-visible registers
and tables of control space are words of one sparse store (`State.regs`), keyed by address; what the chapters describe
beyond their registers stands in one structure for each block. -/

namespace Sys2Proof.Machine

/-- Why the machine would stop with a fault. -/
inductive Fault where
  /-- Raised by nobody: no rule of the spec stops the block. Safe. -/
  | never
deriving DecidableEq, Repr

/-- Why a command is refused. -/
inductive Refusal where
  /-- Raised by the dispatch for a command that has no meaning yet. Safe. -/
  | notModelled (mnemonic : String)
deriving DecidableEq, Repr

/-- A staged setting (R47): its value and the full number of the first boundary at which it may take effect
(0 when it was staged while the grid was off, R559). -/
structure Staged (α : Type) where
  val : α
  eff : Nat
deriving DecidableEq, Repr

/-- What the module sends to the outside. -/
inductive Wire where
  /-- A frame that leaves a port, without FCS; `stomped` when its FCS is inverted (R67). -/
  | frame (port : Nat) (bytes : List Byte) (stomped : Bool)
  /-- A pause or priority pause frame, or another MAC control or verify frame of the port itself. -/
  | macControl (port : Nat) (bytes : List Byte)
  /-- A Crasen frame with its sequence number (R62). -/
  | crasen (seq : Nat) (bytes : List Byte)
  /-- A replay request of the twin link for the frames from `seq` on (R62). -/
  | crasenReplay (seq : Nat)
  /-- An acknowledgement of the Crasen frames before `next`, sent when no frame carries it (R62). -/
  | crasenAck (next : Nat)
  /-- What a migration sends to the module of the peer (R221, R222): a part of a tenant, the commit with its resume round and
  the last sqNum of each publisher, the abort. -/
  | migration (tenant : Nat) (part : MigPart)
  | migCommit (tenant round : Nat) (sq : List (Nat × Nat))
  | migAbort (tenant : Nat)
  /-- A UDP datagram of the management port (R494). -/
  | udp (addr port : Nat) (bytes : List Byte)
  /-- An MSI-X message (R479). -/
  | msix (vector : Nat)
  /-- An I²C transfer that failed and was cleared with nine clocks and a STOP (R550). -/
  | i2cClear (bus : Nat)
deriving DecidableEq, Repr

/-- What the last access returned to its requester (R26). -/
structure Bus where
  data : Nat := 0
  err : Bool := false
  /-- The DMA descriptor of the last access completed with error status (R26). -/
  descErr : Bool := false
  /-- What a port A access in the same bank step returned (R465). -/
  other : Nat := 0
  otherErr : Bool := false
deriving DecidableEq, Repr

/-! ### Fuses -/

/-- The one-way fuses (R6, R445 to R449, R469, R500).
DESIGN CHOICE, log entry 3. -/
structure Fuses where
  /-- 0 MLS7160, 1 MLS7132, 2 MLS7116 (R6). -/
  variant : Nat := 0
  /-- Life cycle: 0 BLANK, 1 PROVISIONED, 2 DEPLOYED, 3 DECOMMISSIONED (R447). -/
  lc : Nat := 0
  deviceId : Nat := 0
  /-- Customer key hashes 0 to 3; none while not enrolled (R448). -/
  customer : List (Option (BitVec 256)) := [none, none, none, none]
  revoked : List Bool := [false, false, false, false]
  /-- Fused tamper configuration, from the advance to DEPLOYED on (R449). -/
  tamper : Nat := 0
  /-- SVN counters of vendor and customer images (R500). -/
  svnVendor : Nat := 0
  svnCustomer : Nat := 0
  /-- Spare column groups in use by bank (USED) and the subarrays they are in (R469). -/
  bankUsed : Cells Nat := []
  bankSub : Cells Nat := []
deriving DecidableEq, Repr

/-! ### Time base -/

/-- The PTP timestamps of a port (R30, R32), in ns of domain time: of the last event message received and of the last one
sent, and the mean path delay to its peer. -/
structure PtpPort where
  rx : Nat := 0
  tx : Nat := 0
  delay : Int := 0
deriving DecidableEq, Repr

/-- The time base beyond its registers (R33 to R54). Domain time is the own count plus `offset`: the own count runs at the rate
of domain time (R554), so it holds the slew of the servo already. -/
structure Tim where
  /-- Domain time less the own count, in ns. -/
  offset : Int := 0
  /-- The last TIM_SET_LO written. -/
  setLo : Nat := 0
  /-- The full number of the next boundary while the grid runs (R46). -/
  nextRound : Nat := 0
  /-- The full number of the last boundary performed; none before the first. -/
  lastRound : Option Nat := none
  /-- D of the next boundary, in µs (R45). -/
  nextD : Nat := 1000
  /-- The D target in force, in µs. -/
  target : Nat := 1000
  targetStaged : Option (Staged Nat) := none
  /-- The grandmaster: clockIdentity and clockClass; 0 when there is none. -/
  gmId : Nat := 0
  gmClass : Nat := 0
  /-- The grandmaster of the Sync messages counted in `lockCount`. -/
  lockGm : Nat := 0
  /-- Consecutive Sync messages or 1PPS edges within ±1 µs (R34). -/
  lockCount : Nat := 0
  /-- Domain time of the last servo update (R35). -/
  lastServo : Nat := 0
  /-- The own count at which holdover began. -/
  holdoverFrom : Option Nat := none
  /-- The servo's frequency correction in ppb, at most 200,000 either way (R33); holdover holds it (R34). -/
  slew : Int := 0
  /-- This module is the grandmaster (R34). -/
  isGm : Bool := false
  /-- The own counts of the last Sync from the master and of the last accepted edge of 1PPS_IN (R34). -/
  lastSync : Option Nat := none
  lastEdge : Option Nat := none
  /-- The synch states held so far, newest first, each with the own count from which it stood (R37). -/
  synchHist : List (Nat × Nat) := []
  /-- The PTP timestamps, by port. -/
  ptp : Cells PtpPort := []
  /-- The level of 1PPS_OUT and the own count at which it rose (R51). -/
  ppsOut : Bool := false
  ppsOutAt : Nat := 0
deriving DecidableEq, Repr

/-! ### Almanac -/

/-- A record of the Almanac (R376); its channel is the one whose list holds it. -/
structure AlmRec where
  kind : Nat
  code : Nat
  seq : Nat
  /-- Bytes of the whole record, 32 to 256. -/
  bytes : Nat
  rep : Nat
  time : Nat
  lastTime : Nat
  payload : List Byte
  /-- The record holds an uncorrectable error (R378). -/
  damaged : Bool := false
deriving DecidableEq, Repr

/-- A channel beyond its registers: its records, oldest first, and its pending loss (R383). -/
structure AlmChan where
  recs : List AlmRec := []
  lossFirst : Nat := 0
  lossLast : Nat := 0
  lossCode : Nat := 0
  /-- The place of the first lost event in arrival order. -/
  lossOrd : Nat := 0
deriving DecidableEq, Repr

/-- An entry of the intake (R381). -/
structure AlmEntry where
  ch : Nat
  code : Nat
  payload : List Byte
  first : Nat
  last : Nat
  count : Nat
  /-- Arrival order. -/
  ord : Nat
  /-- Posted by tenant code. -/
  tenant : Bool
deriving DecidableEq, Repr

/-- What the writer is writing: an entry, or a channel's lost-events record. -/
inductive AlmWork where
  | entry (e : AlmEntry)
  | lost (ch : Nat)
deriving DecidableEq, Repr

/-- A channel emptied by a quota change, to be reported as 0x0A06 (R379). -/
structure AlmQuotaChange where
  ch : Nat
  oldBase : Nat
  oldSize : Nat
  discarded : Nat
deriving DecidableEq, Repr

/-- A confirm code of a clear (R389). -/
structure AlmConfirm where
  session : Nat
  ch : Nat
  code : Nat
  at_ : Nat
deriving DecidableEq, Repr

/-- The Almanac beyond its registers (R372 to R393). -/
structure Alm where
  chans : Cells AlmChan := []
  intake : List AlmEntry := []
  writing : Option AlmWork := none
  nextOrd : Nat := 0
  /-- A cursor command under way: its operation, channel and SEQ. -/
  cursorOp : Option (Nat × Nat × Nat) := none
  /-- The record window (R387). -/
  data : List Byte := []
  quotaChanges : List AlmQuotaChange := []
  confirms : List AlmConfirm := []
  /-- Each core's staging payload of 224 bytes and the outcome of its last post (R386). -/
  stage : Cells (List Byte) := []
  stat : Cells Nat := []
deriving DecidableEq, Repr

/-! ### Solstice -/

/-- The snapshot registers of every block (R524, R525): the strobe's count and instant and copies of the register words
and counters as they stood. -/
structure Snap where
  count : Nat := 0
  instant : Nat := 0
  regs : Cells Word := []
  cnt : Cells Nat := []
  /-- False until the first strobe after a reset that runs Advent: the snapshots are cleared. -/
  taken : Bool := false
deriving DecidableEq, Repr

/-! ### Memory banks and DRAM -/

/-- MEM beyond its registers (R459 to R472). -/
structure Mem where
  /-- The owner port A serves, as its MEM_BANK_OWNER word, by bank; 0 serves nobody. -/
  served : Cells Word := []
  /-- Hand-over under way: the owner before it, by bank; 0 when none. -/
  before : Cells Word := []
  /-- Words (by address / 8) that hold an uncorrectable error (R467, R472). -/
  bad : Cells Bool := []
deriving DecidableEq, Repr

/-! ### Key register -/

/-- A key slot (R432): the 256-bit value, which no requester reads, and the attributes. -/
structure KeySlot where
  /-- 0 FREE, 1 ROOT, 2 SYMMETRIC, 3 ECC_PRIVATE, 4 PUBHASH. -/
  type : Nat := 0
  secure : Bool := false
  exportable : Bool := false
  fixed : Bool := false
  usage : Nat := 0
  masters : Nat := 0
  lc : Nat := 0
  parent : Nat := 0
  tenant : Nat := 0
  parentGen : Nat := 0
  gen : Nat := 0
  kcv : Nat := 0
  depth : Nat := 0
  value : BitVec 256 := 0
deriving DecidableEq, Repr

/-- A key operation that has its grant and has not ended (R435 to R439): what its end will do. -/
structure KeyOp where
  /-- The operation number of R438. -/
  op : Nat
  /-- The slots whose values it uses, for the drain of R440. -/
  uses : List Nat
  /-- Its outcome at the end. -/
  status : Nat
  /-- The slot it creates: number and contents. -/
  creates : Option (Nat × KeySlot) := none
  /-- Bytes it writes, each with its device address. -/
  writes : List (Nat × Byte) := []
  /-- A tag it leaves in the core's TW_KEY_TAG (R453). -/
  tag : List Byte := []
  /-- COUNT at the end: drained or freed (R440, R442). -/
  count : Nat := 0
deriving DecidableEq, Repr

/-- A core's key staging registers (R453). -/
structure KeyStage where
  src : Nat := 0
  len : Nat := 0
  dst : Nat := 0
  aad : Nat := 0
  aadLen : Nat := 0
  iv : List Byte := []
  tag : List Byte := []
  stat : Nat := 0
deriving DecidableEq, Repr

/-- The key register beyond its registers (R432 to R453). -/
structure Key where
  slots : Cells KeySlot := []
  /-- The steward's operation in progress. -/
  op : Option KeyOp := none
  /-- Operations of tenant code in progress, by core. -/
  coreOps : List (Nat × KeyOp) := []
  stage : Cells KeyStage := []
  /-- Emptied by tamper and not rebuilt by Advent (R435, R451). -/
  emptied : Bool := false
  /-- The entropy source's health test fails (R443). -/
  entropyBad : Bool := false
  /-- Enabled tamper inputs that show a live event, one bit each, and the raw levels (R454). -/
  live : Nat := 0
  raw : Nat := 0
  /-- Tamper causes latched before the Almanac was enabled: cause, phase, time (R451). -/
  held : List (Nat × Nat × Nat) := []
  /-- VBAT is below its minimum (R449, R505). -/
  vbatLow : Bool := false
  /-- The steward executes its ROM or firmware verified against slot 1 (R436). -/
  secureWorld : Bool := true
  /-- The tamper configuration has been written since VBAT was applied (R447, R449). -/
  cfgSet : Bool := false
deriving DecidableEq, Repr
/-! ### Ports and link redundancy -/

/-- Pause on one class of one port (R71 to R73): own counts, 0 for none. -/
structure PauseClass where
  /-- The quanta run out. -/
  until_ : Nat := 0
  /-- The class has been paused continuously since then. -/
  since : Nat := 0
  /-- The end of the watchdog's release period. -/
  release : Nat := 0
  /-- The own count + 1 at which a pause frame last acted on the class, and since when the class had been paused before it
  (0 when it was not): a frame of the very moment in which the watchdog acts is ignored (R73). -/
  frameAt : Nat := 0
  before : Nat := 0
deriving DecidableEq, Repr

/-- A port beyond its registers. -/
structure PortDyn where
  /-- Verify frames sent since link-up (R69), 4 once verification has failed; the own count at which the last one was sent. -/
  verifies : Nat := 0
  verifyAt : Nat := 0
  /-- The own count + 1 of the last pause frame counted in RX_PAUSE_IGNORED (R73). -/
  ignoredAt : Nat := 0
deriving DecidableEq, Repr

/-- A duplicate table entry (R81). -/
structure DupEntry where
  pair : Nat
  mac : Nat
  high : Nat
  /-- Bit i set: sequence number high − i has been seen. -/
  window : Nat
  last : Nat
  /-- The own count + 1 at which port B's copy of `high` was accepted (R81). -/
  fromB : Nat := 0
deriving DecidableEq, Repr

/-- A proxy node (R82). -/
structure ProxyNode where
  pair : Nat
  mac : Nat
  seq : Nat
  static : Bool
deriving DecidableEq, Repr

/-- A frame that waits at an ingress of the fabric: at a line or domain port as it arrives, at ports 29 to 31 in the
staging buffer (R64, R95). -/
structure RxStage where
  /-- The bytes the fabric stores (R96). -/
  bytes : List Byte
  /-- Domain time of the first bit; for ports 29 to 31 taken as the header cell is written (R98). -/
  arrival : Nat
  /-- Bytes on the wire, DA to FCS, and the counters that the frame raised at its port, with how much (R58, R64). -/
  wire : Nat := 0
  counted : List (Nat × Nat) := []
  /-- END of the last cell (R97), and N of R65 when it is not 0. -/
  end_ : Nat := 0
  stomp : Nat := 0
  /-- The class ports 29 to 31 give; none at a port. -/
  cls : Option Nat := none
  /-- Targets fixed ahead of the lookup: an EGRESS of R89, the steward (R80, R83), or the ring only (R80). -/
  fixed : Option (List Nat) := none
  ring : Nat := 0
  /-- The LRE marked the frame: the ring port its hairpin copy leaves by (R80). -/
  hairpin : Option Nat := none
  /-- The stored bytes carry an HSR tag; a redundancy tag was removed or will be; the copy came from port B. -/
  hsr : Bool := false
  tagRemoved : Bool := false
  fromB : Bool := false
  /-- The sequence number under which it passed duplicate discard (R81). -/
  seq : Option Nat := none
  /-- PRP-1 frames are handed over complete (R79). -/
  whole : Bool := false
  /-- The descriptor that waits for TX_TIME (R89). -/
  txDesc : Option Nat := none
  /-- The frame number once its header cell is admitted, and how many cells are written. -/
  frame : Option Nat := none
  cells : Nat := 0
  /-- The frame stores no further cells: cut, or refused at its header cell. -/
  skip : Bool := false
deriving DecidableEq, Repr

/-- The twin link beyond its registers (R60 to R62). -/
structure Twin where
  rxNext : Nat := 0
  txNext : Nat := 0
  /-- The replay buffer: sequence number, type and payload of the frames not yet acknowledged. -/
  replay : List (Nat × Nat × List Byte) := []
  /-- Frames from rxNext on are discarded until it arrives. -/
  waiting : Bool := false
  /-- Frames that wait for room in the replay buffer: type and payload. -/
  queue : List (Nat × List Byte) := []
deriving DecidableEq, Repr

/-- PRT beyond its registers. -/
structure Prt where
  ports : Cells PortDyn := []
  /-- By port · 8 + class. -/
  pause : Cells PauseClass := []
  dup : List DupEntry := []
  /-- Evicted entries, kept for LRE_EVICT_DUP. -/
  evicted : List DupEntry := []
  proxy : List ProxyNode := []
  /-- Frames at the ingress ports, oldest first, by line, domain or fabric port 29 to 31. -/
  staged : Cells (List RxStage) := []
  /-- The transmit ring served last (R90), and the fabric ports whose service pauses. -/
  txRing : Nat := 1023
  txPaused : List Nat := []
  /-- The last frame written to a receive ring: the ring, the own count, HEAD before it and the descriptors it took (R87). -/
  rxLast : Option (Nat × Nat × Nat × Nat) := none
  twin : Twin := {}
deriving DecidableEq, Repr

/-! ### Fabric -/

/-- A tag (R97). FIRST is CIDX = 0; `frame` is the number of the frame that FD stands for, so that a tag left over from a freed
frame is not taken for one of the next frame with that descriptor. -/
structure FabTag where
  frame : Nat
  cell : Nat
  fd : Nat
  src : Nat
  dst : Nat
  seq : Nat := 0
  cidx : Nat
  last : Bool := false
  /-- Valid bytes in a LAST cell; 0 means 64. -/
  bytes : Nat := 0
  cls : Nat
  xmit : Bool := false
  end_ : Nat := 0
  /-- The low 16 bits of the day of stage-1 entry. -/
  entry : Nat := 0
deriving DecidableEq, Repr

/-- An egress copy (R113, R114). -/
structure FabCopy where
  dst : Nat
  /-- A cut-through copy (R119), and its start threshold in bytes (R121). -/
  ct : Bool
  bStart : Nat
  /-- The ring port a hairpin copy leaves by (R80). -/
  hairpin : Option Nat := none
  /-- Cells released by the resequencer, in CIDX order. -/
  released : Nat := 0
  /-- Cells lost on the way (R106). -/
  lost : Bool := false
  /-- Its place in the egress class queue. -/
  queued : Option Nat := none
  /-- The line ports that have not dealt with it (R558); the fabric port itself for 28, 30, 31. -/
  left : List Nat
  /-- Of those, the ports on which it is in transmission. -/
  sending : List Nat := []
  /-- Some port has sent it; some port has stomped it. -/
  sent : Bool := false
  stomped : Bool := false
  /-- The residence times, in ns, that its transparent-clock ports add (R31). -/
  residence : List (Nat × Nat) := []
  /-- The redundancy tag's sequence number and HSR path, once given (R79, R80). -/
  lre : Option (Nat × Nat) := none
deriving DecidableEq, Repr

/-- An admitted frame with its descriptor (R98). -/
structure FabFrame where
  num : Nat
  /-- Its descriptor, and the cells at the two ends of its chain in the link memory. -/
  fd : Nat := 0
  firstCell : Nat := 0
  lastCell : Nat := 0
  src : Nat
  cls : Nat
  arrival : Nat
  ring : Nat
  bytes : List Byte := []
  /-- The day each cell was written. -/
  written : List Nat := []
  complete : Bool := false
  end_ : Nat := 0
  stomp : Nat := 0
  reserve : Nat := 0
  copies : List FabCopy
  hsr : Bool := false
  tagRemoved : Bool := false
  fromB : Bool := false
  txDesc : Option Nat := none
deriving DecidableEq, Repr

/-- A frame in transmission at a port (R103). -/
structure FabTx where
  frame : Nat
  dst : Nat
  express : Bool
  /-- An express frame has interrupted it at least once, and does so now (R68). -/
  cut : Bool := false
  paused : Bool := false
  /-- The own count at which it started or resumed, and the bytes sent before that. -/
  startAt : Nat := 0
  base : Nat := 0
  /-- Its start counted CT_FRAMES, or TX_PREEMPTED for the frame it interrupted (R126). -/
  ctCounted : Bool := false
  preCounted : Bool := false
deriving DecidableEq, Repr

/-- A forwarding entry (R108). -/
structure FdbEntry where
  mac : Nat := 0
  vid : Nat := 0
  valid : Bool := false
  static : Bool := false
  mcast : Bool := false
  clsOvr : Bool := false
  targets : Nat := 0
  ring : Nat := 0
  cls : Nat := 0
  age : Nat := 0
deriving DecidableEq, Repr

/-- A command of FAB_FDB_CMD under way. -/
structure FdbOp where
  op : Nat
  index : Nat
  port : Nat
deriving DecidableEq, Repr

/-- The fabric beyond its registers (R94 to R126). -/
structure Fab where
  frames : List FabFrame := []
  nextFrame : Nat := 0
  nextQueued : Nat := 0
  /-- The cells and the descriptors given back, and the number of each that has ever been given out (R97, R98). -/
  cellFree : List Nat := []
  cellTop : Nat := 0
  fdFree : List Nat := []
  fdTop : Nat := 0
  /-- The link memory: the cell that follows a cell in its frame (R98). -/
  link : Cells Nat := []
  /-- Days since EN was set, and the own count at the last start of a DAY_PS interval (R127). -/
  days : Nat := 0
  dayMark : Nat := 0
  /-- Tags at the inputs, oldest first. -/
  inputs : List FabTag := []
  /-- Tags in intermediate slots: by intermediate · 32 + output. -/
  slots : Cells (Option FabTag) := []
  /-- Held slots: the input + 1 (R103), and the input held for last. -/
  holds : Cells Nat := []
  lastHold : Cells Nat := []
  /-- Tags discarded for an uncorrectable error (R97) and not yet treated as lost. -/
  lostTags : List FabTag := []
  /-- Tags held by resequencers, with the day they arrived. -/
  reseq : List (FabTag × Nat) := []
  /-- SEQ given next and SEQ released next, by source · 32 + output. -/
  seqNext : Cells Nat := []
  seqWant : Cells Nat := []
  /-- Frames in transmission, by line or domain port. -/
  tx : Cells (List FabTx) := []
  /-- DWRR: the class visited now, and the deficits by port · 8 + class (R115). -/
  dwrrAt : Cells Nat := []
  dwrrDef : Cells Int := []
  dwrrVisited : Cells Bool := []
  /-- Shapers by port · 8 + class: tokens in 1/8000 byte, and the own count they stand for (R116). -/
  tokens : Cells Int := []
  tokensAt : Cells Nat := []
  fdb : Cells FdbEntry := []
  fdbOp : Option FdbOp := none
  /-- Frames delivered to port 28 that ingest has not taken, oldest first. -/
  inbox : List (Nat × IngFrame) := []
  /-- The modes taken, newest first, each with the own count of the change; Compact before the first (R118). -/
  modes : List (Nat × Nat) := []
  /-- A calendar self-test that FAB_CAL_STAT.START asked for is running (R127). -/
  selfTest : Bool := false
deriving DecidableEq, Repr

/-! ### Scheduler -/

/-- A work item (R232) with what the scheduler knows of it. -/
structure SchItem where
  /-- Its descriptor and that descriptor's owner. -/
  task : Nat
  tenant : Nat
  flow : Option Nat := none
  tag : Nat := 0
  req : Bool := false
  steward : Bool := false
  /-- ROUND as a full number, and T of that round. -/
  round : Nat
  tRound : Nat := 0
  arg : List Byte := []
  /-- The own count of its enqueue, and its place in enqueue order. -/
  enq : Nat
  ord : Nat
  /-- Its place on its flow's hold list (R248). -/
  held : Option Nat := none
  /-- Its index in the tenant's spill area (R249). -/
  spilled : Option Nat := none
deriving DecidableEq, Repr

/-- An item in service on a core (R240). -/
structure SchRun where
  core : Nat
  item : SchItem
  /-- TW_ITEM_FLAGS. -/
  captured : Nat
  /-- Where execution began: ENTRY. -/
  entry : Nat
  /-- The own counts of its dispatch and up to which its time is charged (R239). -/
  since : Nat
  charged : Nat
deriving DecidableEq, Repr

/-- A tenant timer (R236). -/
structure SchTimer where
  lo : Nat := 0
  hi : Nat := 0
  task : Nat := 0
  bit : Nat := 0
  period : Nat := 0
  armed : Bool := false
deriving DecidableEq, Repr

/-- A round whose completeness is still to be checked for a tenant (R250). -/
structure SchCheck where
  tenant : Nat
  /-- k, and T(k + 1). -/
  round : Nat
  next : Nat
deriving DecidableEq, Repr

/-- SCH beyond its registers (R230 to R258). -/
structure Sch where
  /-- Items queued, held or spilled, oldest enqueue first. -/
  items : List SchItem := []
  runs : List SchRun := []
  nextOrd : Nat := 0
  /-- The next index of each tenant's spill ring. -/
  spillNext : Cells Nat := []
  /-- The own count at which a task's flag condition last became true (R253). -/
  condAt : Cells Nat := []
  /-- Each core's TW_ENQ_BUF and TW_ENQ_STAT (R245). -/
  enqBuf : Cells (List Byte) := []
  enqStat : Cells Nat := []
  /-- By tenant · 4 + n. -/
  timers : Cells SchTimer := []
  /-- TW_CPL_PROD and TW_CPL_CONS by tenant (R247). -/
  prod : Cells Nat := []
  cons : Cells Nat := []
  /-- The cores' general registers by core · 65536 + number, but for those that are clear. What code writes there is no matter of
  this model; a dispatch clears them (R240). -/
  gprs : Cells Word := []
  /-- Records were lost before the next one: of a tenant's ring, of the steward's queue. -/
  overflow : Cells Bool := []
  stwOverflow : Bool := false
  /-- Records lost since the tenant's last event 0x0504. -/
  cplLost : Cells Nat := []
  /-- The steward completion queue, oldest first (R247). -/
  stwCpl : List (List Byte) := []
  checks : List SchCheck := []
deriving DecidableEq, Repr

/-! ### Tenants -/

/-- A migration as this module sees it (R220 to R223). -/
structure TenMig where
  /-- The global tenant address of the peer. -/
  peer : Nat := 0
  /-- The full number of the boundary c at which the source stopped. -/
  stopRound : Option Nat := none
  /-- T(c + 4) as the source expects it, in domain time. -/
  deadline : Nat := 0
  /-- Snapshots taken since MIGRATE (R221). -/
  passes : Nat := 0
  /-- The destination has received a commit: an abort after it is ignored. -/
  committed : Bool := false
  /-- The resume round that the source's commit names, once it is sent; an abort has been sent (R223). -/
  commitSent : Option Nat := none
  aborted : Bool := false
deriving DecidableEq, Repr

/-- A stream key (R139). -/
structure StreamKey where
  da : Nat
  appid : Nat
  vid : Nat
  hash : Nat
deriving DecidableEq, Repr

/-- TEN beyond its registers (R194 to R229). -/
structure Ten where
  /-- Staged values by tenant (R206): shares, and limits as TEN_LIMIT words. -/
  shares : List (Nat × Staged Nat) := []
  limits : List (Nat × Staged Word) := []
  /-- Staged events by tenant: 2 START, 7 STOP_AT_BOUNDARY, 8 RESUME. -/
  events : List (Nat × Staged Nat) := []
  /-- Tenants being disabled with the cut-off C of R209, as an own count. -/
  cutoffs : List (Nat × Nat) := []
  /-- TEN_CMD operations under way: tenant and operation. -/
  busy : List (Nat × Nat) := []
  /-- The page dirty logs, by tenant · 16384 + page (R214). -/
  plog : Cells Bool := []
  /-- The line dirty logs, by tenant · 256 + line: recording and capturing banks (R217). -/
  llogRec : Cells Bool := []
  llogCap : Cells Bool := []
  /-- TW_MSG_STAT by tenant · 4 + page (R211). -/
  msgStat : Cells Nat := []
  mig : Cells TenMig := []
  /-- Tenants whose outbound doorbell has notified the steward, first rung first (R211). -/
  notified : List Nat := []
  /-- Entries of tenant maps as they stood before a change that awaits MAP_INVAL, by tenant · 16384 + page; 0 where the map in
  memory is the one in force (R199). -/
  oldMap : Cells Nat := []
  /-- The streams that a loaded tenant's image lists, by key, and the local groups by handle (R195). -/
  entitled : List (Nat × StreamKey) := []
  entitledLocal : List (Nat × Nat) := []
deriving DecidableEq, Repr

/-! ### Stream ingest -/

/-- What ingest has written at a ring position (R153, R158). -/
structure IngPos where
  used : Bool := false
  idx : Nat := 0
  real : Bool := false
  /-- The entry carries SYNCH_MISMATCH, UNAUTH or SIM (R159). -/
  flagged : Bool := false
deriving DecidableEq, Repr

/-- A stream's dynamic state beyond its dynamic entry (R145). -/
structure IngStream where
  /-- The full newest real index; none since the instance began. -/
  newest : Option Nat := none
  /-- GOOSE: updates of the image, whether it has been written, and its DEADLINE. -/
  imgSeq : Nat := 0
  deadline : Nat := 0
  /-- The newest real entry that the ring no longer holds, with its bytes (R158). -/
  prev : Option (Nat × List Byte) := none
deriving DecidableEq, Repr

/-- ING beyond its registers and arrays (R129 to R169). -/
structure Ing where
  /-- Ring positions by handle · 4096 + position. -/
  pos : Cells IngPos := []
  streams : Cells IngStream := []
  /-- The last row's DELIVERED_MAP and FLAGGED_MAP by tenant (R159). -/
  rows : Cells (Nat × Nat) := []
  /-- Tenants whose next row shows FLAGS.FLIP. -/
  rowFlip : List Nat := []
  /-- A staged flip (R147). -/
  flip : Option (Staged Nat) := none
  /-- The stranger queue, oldest first (R166, R167). -/
  strangers : List (List Byte) := []
  /-- The recent-key filter, least recently passed first, with the own count of the pass. -/
  recent : List (List Byte × Nat) := []
  /-- Own counts at which entries were queued, for the rate limit. -/
  queuedAt : List Nat := []
deriving DecidableEq, Repr

/-! ### Local acquisition -/

/-- A channel's filter chains (R176, R177, R184). -/
structure AcqChan where
  /-- CIC integrators and comb delays, modulo 2^72, first stage first. -/
  integ : List Nat := []
  comb : List Nat := []
  /-- Bits taken since the reset instant. -/
  bits : Nat := 0
  /-- The FIR's window: CIC outputs, newest first. -/
  window : List Int := []
  /-- The last 15 bits, newest first, and the fast outputs since the reset instant. -/
  recent : List Bool := []
  fasts : Nat := 0
  /-- The input in force while a reset is pending; at other times it is ACQ_CH_CFG.SRC. -/
  src : Nat := 0
  /-- The last captured bit, how many bits before it in a row are equal to it, itself among them, up to 64, and whether
  64 have been reached since the last entry into the stuck state (R173). -/
  last : Bool := false
  equal : Nat := 0
  hit : Bool := false
  /-- The MCLK edge, counted from domain time 0, of a pending reset (R186). -/
  resetAt : Option Nat := none
  /-- Consecutive valid non-qualifying fast outputs (R190). -/
  release : Nat := 0
deriving DecidableEq, Repr

/-- ACQ beyond its registers (R170 to R193). -/
structure Acq where
  chans : Cells AcqChan := []
  /-- By group: the base sample instant after which a staged coefficient set is used (R179). -/
  commits : List (Nat × Nat) := []
  /-- The MCLK edge, counted from domain time 0, with which MCLK starts (R170). -/
  first : Nat := 0
  /-- By group: the edge of the last fine output, plus one (R182). -/
  lastOut : Cells Nat := []
deriving DecidableEq, Repr


/-! ### Outputs -/

/-- A publisher beyond its record (R341, R344). -/
structure OutPub where
  /-- The mapped data of the last frame, and the domain time of the last change. -/
  last : List Byte := []
  changeAt : Nat := 0
  /-- The interval in progress: its number i, its length in µs, and the own count at which it ends. -/
  step : Nat := 0
  interval : Nat := 0
  next : Nat := 0
  /-- ASDUs taken and not yet sent: smpCnt, sample index, and value and quality by channel. -/
  asdus : List (Nat × Nat × List (Nat × Nat)) := []
  /-- Its key failed at the last frame (R339, R343). -/
  keyBad : Bool := false
deriving DecidableEq, Repr

/-- An output held until the release of its round (R410). -/
inductive OutHeld where
  /-- The next entry of a slot's publish queue. -/
  | commit (slot : Nat)
  /-- Elements of a slot written by an engine or a binding. -/
  | elems (slot : Nat) (writes : List (Nat × Nat))
deriving DecidableEq, Repr

/-- A commit in a publish queue (R335). -/
structure OutCommit where
  first : Nat
  values : List Nat
deriving DecidableEq, Repr

/-- OUT beyond its registers (R321 to R348). -/
structure Out where
  /-- Tenant trip registers (R322). -/
  trip : Cells Nat := []
  /-- Trip sources of LGE and CLE, by output and sink number (R297, R272). -/
  lge : Cells Bool := []
  cle : Cells Bool := []
  /-- The value each binding last wrote to its element. -/
  elem : Cells (Option Bool) := []
  /-- TW_PUB_STAGE by core · 256 + element, and TW_PUB_STAT by core. -/
  stage : Cells Nat := []
  stat : Cells Nat := []
  /-- Publish queues by slot, oldest entry first. -/
  queues : Cells (List OutCommit) := []
  /-- Elements, by slot · 256 + element, that a tenant commit last wrote (R336). -/
  byTenant : Cells Bool := []
  /-- Publishers that are not off. -/
  pubs : Cells (Option OutPub) := []
  /-- The binary event queue, oldest first, and whether entries were lost since the last one (R333). -/
  events : List (List Byte) := []
  overflow : Bool := false
  /-- By input: the TAI second of the last accepted change and the changes in it (R332). -/
  chatter : Cells (Nat × Nat) := []
  /-- Changes of the debounced states and ball levels, newest first: domain time, both words (R352). -/
  hist : List (Nat × Nat × Nat) := []
  /-- Outputs are held for release (R410): the bindings that were 1 at the last release, and the outputs held. -/
  holding : Bool := false
  heldOnes : List Nat := []
  held : List OutHeld := []
deriving DecidableEq, Repr

/-! ### Control law engine -/

/-- A staged law change (R275, R279): 3 COMMIT, 5 TUNE, 6 UNTUNE. -/
structure CleStage where
  law : Nat
  op : Nat
  bumpless : Bool := false
  eff : Nat
deriving DecidableEq, Repr

/-- A triggered evaluation (R263): its law, index and the own count of its trigger. -/
structure CleEval where
  law : Nat
  n : Nat
  trig : Nat
deriving DecidableEq, Repr

/-- A law beyond its registers. -/
structure CleLaw where
  /-- The index of the last committed evaluation. -/
  last : Option Nat := none
  /-- The index of the newest trigger. -/
  trig : Option Nat := none
  /-- The next evaluation is the first after initialisation (R277). -/
  fresh : Bool := false
  /-- Kp of each PI and PID block in the bank active before the last toggle, as it was then, while the swap evaluation is
  due (R279, R280), and BUMPLESS. -/
  swap : Option (List (Nat × Nat)) := none
  bumpless : Bool := false
  /-- The swap evaluation saves I after its adjustment (R281). -/
  saveI : Bool := false
  /-- The own count of the last trigger, and whether CLOCK_LOST was reported since (R266). -/
  trigAt : Nat := 0
  lost : Bool := false
  /-- An overrun not yet seen by the trace (R283). -/
  overran : Bool := false
  /-- Solstice strobes seen by the trace. -/
  strobes : Nat := 0
  /-- The instance of the clock stream the law last saw (R281). -/
  inst : Nat := 0
  /-- W · r in lane-ns per second while it is admitted (R264). -/
  load : Nat := 0
  /-- Commits that have taken effect (R286). -/
  commits : Nat := 0
  /-- Evaluations since the trace was armed, entries written since the arm, and entries since the trigger (R282, R283). -/
  trcEvals : Nat := 0
  trcCount : Nat := 0
  trcPost : Nat := 0
  /-- The next commit is the trigger evaluation of a TRIGGER command. -/
  trcForce : Bool := false
deriving DecidableEq, Repr

/-- An auto-tune in progress (R284). -/
structure CleTune where
  law : Nat
  rule : Nat
  cycles : Nat
  amp : Nat
  hys : Nat
  maxTime : Nat
  /-- The TAG of its completion. -/
  tag : Nat
  start : Nat
  /-- The own count of the relay's last switch. -/
  switchAt : Nat
  /-- Full cycles seen: length in evaluation indices, largest and smallest IN0. -/
  done : List (Nat × Int × Int) := []
  /-- The cycle in progress: the index of its rising switch, largest and smallest IN0. -/
  cycle : Option (Nat × Int × Int) := none
deriving DecidableEq, Repr

/-- An auto-tune that has ended (R284, R286): what its completion carries, and the law's commits when it ended. -/
structure CleTuned where
  law : Nat
  tag : Nat
  status : Nat
  reason : Nat
  cycles : Nat
  ku : Nat
  pu : Nat
  a : Nat
  kp : Nat
  ki : Nat
  kd : Nat
  commits : Nat
deriving DecidableEq, Repr

/-- CLE beyond its registers (R259 to R290). -/
structure Cle where
  laws : Cells CleLaw := []
  /-- Committed block outputs. -/
  outs : Cells Int := []
  /-- Triggered evaluations in trigger order. -/
  evals : List CleEval := []
  stages : List CleStage := []
  /-- Evaluations of a MAILBOX sink since its last write, and of a RELAY since its last switch. -/
  counts : Cells Nat := []
  /-- Set-point words by tenant · 1,024 + j (R274). -/
  sp : Cells Word := []
  tunes : List CleTune := []
  tuned : List CleTuned := []
deriving DecidableEq, Repr

/-! ### Logic engine -/

/-- An execute phase that is not over (R301, R304). -/
structure LgeExec where
  pc : Nat := 0
  rlo : Bool := false
  acc : Nat := 0
  bools : List Bool := []
  calls : List Nat := []
  /-- Flag outputs marked for the write phase. -/
  marks : List Nat := []
  /-- The forces in use: word of the variable image, mask, and the value under the mask (R314). -/
  forces : List (Nat × Nat × Nat) := []
  /-- Time spent on the unit so far, in µs (R302). -/
  us : Nat := 0
deriving DecidableEq, Repr

/-- A queued scan (R293): its program, and its deadline as a full boundary number. -/
structure LgeScan where
  prog : Nat
  deadline : Nat
deriving DecidableEq, Repr

/-- A program beyond its registers. -/
structure LgeProg where
  /-- The scan count j (R308). -/
  j : Nat := 0
  /-- A halted scan (R301). -/
  halt : Option LgeExec := none
  /-- The unit on which an execute phase is running that has not ended (R302). -/
  unit : Option Nat := none
  /-- HOLD waits for the end of the scan in progress (R300). -/
  holdNext : Bool := false
  /-- The state to return to from SUSPENDED or HELD. -/
  back : Nat := 1
  /-- The slot it was verified against (R310). -/
  against : Nat := 0
  /-- A staged exchange: its target (R311). -/
  exch : Option (Staged Nat) := none
deriving DecidableEq, Repr

/-- LGE beyond its registers (R291 to R320). -/
structure Lge where
  progs : Cells LgeProg := []
  queue : List LgeScan := []
  /-- Verifications under way: slot and TARGET. -/
  verify : List (Nat × Nat) := []
  /-- TW_LGI by tenant · 1,024 + w (R295). -/
  inputs : Cells Word := []
deriving DecidableEq, Repr

/-! ### Disturbance recorder -/

/-- The accepted trigger of a recorder (R363, R364). -/
structure RecTrig where
  instant : Nat
  /-- The trigger entry. -/
  entry : Nat
  frac : Nat
  source : Nat
  detail : Nat
  /-- The synch state at the trigger (R368). -/
  synch : Nat := 0
deriving DecidableEq, Repr

/-- A recorder beyond its registers. -/
structure RecDyn where
  /-- Domain time at which the last arm completed. -/
  armAt : Nat := 0
  /-- The first entry of the capture ring and the next entry to be read. -/
  n0 : Nat := 0
  next : Nat := 0
  postEff : Nat := 0
  trig : Option RecTrig := none
  /-- Later triggers: how many, and the first eight (instant, source, detail). -/
  laterN : Nat := 0
  later : List (Nat × Nat × Nat) := []
  missing : Bool := false
  /-- Values and quality words of the last entries read, newest first (R359, R360). -/
  window : List (List (Nat × Nat)) := []
  /-- Consecutive mask violations by channel. -/
  viol : Cells Nat := []
  /-- S · r_rec admitted (R354). -/
  load : Nat := 0
  /-- An export is in progress (R356). -/
  exporting : Bool := false
deriving DecidableEq, Repr

/-- The output side of a cross-trigger line (R365): own counts of the start and the end of the last pulse. -/
structure RecLine where
  from_ : Nat := 0
  until_ : Nat := 0
  used : Bool := false
deriving DecidableEq, Repr

/-- REC beyond its registers (R349 to R371). -/
structure Rec where
  recs : Cells RecDyn := []
  lines : Cells RecLine := []
  /-- Solstice strobes already offered. -/
  strobes : Nat := 0
  /-- ORIGIN and SEQ of the domain trigger frames injected. -/
  seen : List (Nat × Nat) := []
deriving DecidableEq, Repr
/-! ### Duplex pairs, referee and Vigil -/

/-- A heartbeat accepted from a member (R399). -/
structure DpxBeat where
  module : Nat
  role : Nat
  epoch : Nat
  health : Nat
  /-- FATAL, ELIGIBLE, REVERT_REQ and ROLE_REQ, bits 0 to 3. -/
  flags : Nat
  lastApplied : Nat
  /-- The full round it belongs to, and domain time of its acceptance. -/
  round : Nat
  at_ : Nat
deriving DecidableEq, Repr

/-- A grant, role answer or swap accepted from the referee that has not taken effect: MSG, epoch, target, and bytes 24 to
27 as a number. -/
structure DpxMsg where
  msg : Nat
  epoch : Nat
  target : Nat
  arg : Nat
deriving DecidableEq, Repr

/-- An item of a copy: the segment type and INDEX of R409. -/
abbrev DpxItem := Nat × Nat

/-- A copy, final copy or transfer pass sent and not acknowledged (R407, R421, R423). -/
structure DpxCopy where
  round : Nat
  bytes : Nat
  items : List DpxItem
  swap : Bool := false
  final : Bool := false
  pass : Bool := false
  /-- The deadline in domain time (R411). -/
  deadline : Nat := 0
deriving DecidableEq, Repr

/-- A full transfer on the active side (R421). -/
structure DpxXfer where
  pass : Nat := 0
  /-- Pages of the last snapshot by tenant · 16384 + page, and that the next boundary's copy is the final one. -/
  pages : List Nat := []
  final : Bool := false
  /-- Items changed since they were last sent. -/
  pend : List DpxItem := []
deriving DecidableEq, Repr

/-- A Vigil period's findings (R425). -/
structure Vigil where
  /-- Cores that ran the vectors, clusters that failed, and connections that loopback tags used (R101). -/
  cores : Nat := 0
  coreMap : Nat := 0
  loop1 : Nat := 0
  loop2 : Nat := 0
  loopBad : Bool := false
  scrubUe : Bool := false
  ce : Nat := 0
deriving DecidableEq, Repr

/-- DPX beyond its registers (R395 to R431). -/
structure Dpx where
  /-- The last heartbeat accepted: on a referee of side A (0) and B (1), on a member of its peer (2). -/
  beats : Cells (Option DpxBeat) := []
  /-- Heartbeat and referee frames that fabric port 30 has delivered, oldest first (R400). -/
  inbox : List (List Byte) := []
  msg : Option DpxMsg := none
  /-- The full round of the last referee frame accepted. -/
  refRound : Option Nat := none
  /-- ROLE_REQ is sent, and the own count of the request (on a referee of the first one not answered) (R420). -/
  asking : Bool := false
  askAt : Option Nat := none
  /-- The side that asks, on a referee. -/
  askSide : Nat := 0
  /-- The round whose window the referee has closed last (R401). -/
  windowDone : Option Nat := none
  /-- Consecutive rounds with one path alone absent, by side · 2 + path (0 wire, 1 network). -/
  pathMiss : Cells Nat := []
  /-- The level of ARB_HB_OUT and the own count at which its last pulse rose (R398). -/
  hbOut : Bool := false
  hbRise : Nat := 0
  /-- A swap boundary named, as a full number (R423). -/
  swapAt : Option Nat := none
  /-- Rounds of the take-back hold-off that have passed. -/
  revertRounds : Nat := 0
  copy : Option DpxCopy := none
  /-- What each item last held when a copy captured it, by type · 2^32 + INDEX (R407). -/
  seen : Cells (List Byte) := []
  /-- Items of cut copies marked again (R412). -/
  remark : List DpxItem := []
  xfer : Option DpxXfer := none
  /-- The stream of the copy being received, how much of a transfer pass is applied, whether the pass is void, and the half
  of the staging area it goes to (R413, R422). -/
  rx : List Byte := []
  rxDone : Nat := 0
  rxVoid : Bool := false
  rxHalf : Nat := 0
  /-- Copies received to their END and not yet applied, oldest first, with the void mark. -/
  ready : List (List Byte × Bool) := []
  /-- A referee that has not yet taken over a pair epoch after its start (R419). -/
  adopting : Bool := true
  /-- The tenants that a swap stopped, for a swap that fails (R423). -/
  stopped : List Nat := []
  /-- The last copy received was applied (R414). -/
  rxOk : Bool := false
  /-- Acknowledgements received and not yet acted on: round, epoch, bytes, status (R409). -/
  acks : List (Nat × Nat × Nat × Nat) := []
  /-- The RUNNING bitmap of the last applied copy. -/
  running : List Nat := []
  /-- The boundary g of a take-over, and the tenants it starts (R415). -/
  takeOver : Option (Nat × List Nat) := none
  vigil : Vigil := {}
  /-- The health bits of the period before, with CORE_MAP (R425). -/
  vigilLast : Nat := 0
  /-- Rounds of the period in progress; rounds and errors of the twin-link test. -/
  vigilRounds : Nat := 0
  twinRounds : Nat := 0
  twinErr : Nat := 0
  twinBad : Bool := false
  keyFail : Bool := false
deriving DecidableEq, Repr


/-! ### Start-up, Dormant, JTAG (R505 to R520, R549) -/

/-- A start-up that waits at step 9 or 10 (R508, R510): how the environment's steps turn out, and the own counts at which
it began and at which the step began. -/
structure AdventRun where
  input : AdventIn
  began : Nat
  stepAt : Nat
deriving DecidableEq, Repr

/-- SYS beyond its registers. -/
structure Sys where
  /-- POR_N is low, RST_N is low. -/
  porLow : Bool := true
  rstLow : Bool := false
  /-- 0 not in Dormant, 1 in Dormant, 2 woken and waiting for the rails (R518 to R520). -/
  dormant : Nat := 0
  /-- The own count of the wake whose rails are awaited (R520). -/
  wakeAt : Nat := 0
  /-- The cause of the last entry to Dormant, always on (R518). -/
  entryCause : Nat := 0
  /-- The level of PWR_REQ. -/
  pwrReq : Bool := false
  advent : Option AdventRun := none
  /-- Start-up events that wait for the Almanac (R508): code and payload. -/
  held : List (Nat × List Byte) := []
  /-- The own counts of the last watchdog kick and of the watchdog resets of the last 60 s (R507). -/
  kickAt : Nat := 0
  wdogTimes : List Nat := []
  /-- The QSPI flash (R515), by offset. -/
  flash : Cells Byte := []
  /-- Offset and length of the steward image that runs and of the configuration image accepted (R516). -/
  image : Option (Nat × Nat) := none
  config : Option (Nat × Nat) := none
  /-- The JTAG instruction selected (R549). -/
  jtag : JtagInstr := .idcode
deriving DecidableEq, Repr

/-! ### Mailboxes and the steward's firmware (R477 to R504) -/

/-- A mailbox as the host sees it (R480, R502). -/
structure HostBox where
  /-- 0 FREE, 1 BUSY, 2 RESP_READY. -/
  state : Nat := 0
  length : Nat := 0
  completion : Bool := false
  restart : Bool := false
  dbIgnored : Bool := false
  intEn : Bool := false
  /-- The doorbell that made it BUSY was FETCH. -/
  fetch : Bool := false
  /-- Queued completions, oldest first (R491). -/
  queue : List (List Byte) := []
deriving DecidableEq, Repr

/-- A response kept for a repeated SEQUENCE (R489): the SEQUENCE, the command's bytes, the response. -/
structure Kept where
  seq : Nat
  command : List Byte
  response : List Byte
deriving DecidableEq, Repr

/-- An open session (R485 to R489). -/
structure Session where
  id : Nat
  principal : Nat
  /-- 0 VIEWER, 1 OPERATOR, 2 ENGINEER, 3 SECURITY, 4 VENDOR. -/
  role : Nat
  clear : Bool
  /-- The slot of its key. -/
  slot : Nat
  /-- The largest SEQUENCE accepted, and those accepted above it less 64. -/
  top : Nat
  used : List Nat
  kept : List Kept
  /-- The own count of its last command. -/
  lastAt : Nat
  /-- Its own baseline of the counters read with RESET, by address (R490). -/
  base : Cells Nat := []
deriving DecidableEq, Repr

/-- An accepted-pending command (R491). -/
structure Job where
  via : Via
  session : Nat
  opcode : Nat
  tag : Nat
  seq : Nat
  /-- The command's bytes, for the kept response. -/
  command : List Byte
  /-- The object it acts on and what else its end needs. -/
  obj : Nat
  arg : Nat
  /-- The outcome, once known before the completion: status, DETAIL and data. -/
  outcome : Option (Nat × Nat × List Byte)
deriving DecidableEq, Repr

/-- A UDP completion that waits for MBX_ACK (R491). -/
structure UdpDone where
  addr : Nat
  port : Nat
  session : Nat
  seq : Nat
  bytes : List Byte
  sends : Nat
  sentAt : Nat
deriving DecidableEq, Repr

/-- A UDP peer (R494): its address and port, the datagrams that wait, and the own count of its last one. -/
structure Peer where
  addr : Nat
  port : Nat
  queue : List (List Byte)
  lastAt : Nat
deriving DecidableEq, Repr

/-- An IP reassembly under way (R494): source address, identification, its start, the fragments (offset, bytes) and the
total length once the last fragment is there. -/
structure Reassembly where
  addr : Nat
  ident : Nat
  startAt : Nat
  parts : List (Nat × List Byte)
  total : Option Nat
deriving DecidableEq, Repr

/-- A principal (R487) beside the built-in ones. -/
structure Principal where
  id : Nat
  role : Nat
  clear : Bool
  slot : Nat
deriving DecidableEq, Repr

/-- MBX and STW beyond their registers. -/
structure Mbx where
  boxes : Cells HostBox := []
  /-- The mailbox buffers of the steward's SRAM, by offset from 0xC_0000 (R477, R479). -/
  sram : Cells Byte := []
  /-- MBX_H_GLOBAL: RESTARTED, STEWARD_READY, INT_EN. -/
  restarted : Bool := false
  ready : Bool := false
  globalInt : Bool := false
  /-- The mailbox or peer served last: mailboxes 0 to 31, then peers (R478). -/
  turn : Nat := 0
  sessions : List Session := []
  nextSession : Nat := 1
  principals : List Principal := []
  /-- The session idle timeout in s (R517). -/
  idle : Nat := 600
  /-- The management port's addresses and their lengths in bits (R494, R517). -/
  ip4 : Option Nat := none
  ip4Len : Nat := 0
  ip6 : Option Nat := none
  ip6Len : Nat := 0
  /-- The MSI-X table by BAR0 offset, and the pending-bit array (R479). -/
  msix : Cells Word := []
  msixPend : Nat := 0
  jobs : List Job := []
  udpDone : List UdpDone := []
  peers : List Peer := []
  reass : List Reassembly := []
  /-- The session that opened each aperture. -/
  aper : Cells (Option Nat) := []
  /-- The tenant whose outbound pages the steward serves, and the messages it has taken in this turn (R212). -/
  msgTurn : Nat := 0
  msgTaken : Nat := 0
  /-- HOST_SEND messages that wait, by tenant (R498). -/
  hostMsgs : Cells (List (List Byte)) := []
  /-- Confirm codes of KEY_TAMPER_CLEAR and of the advance to DECOMMISSIONED: session, opcode, code, own count (R447, R452). -/
  confirms : List (Nat × Nat × Nat × Nat) := []
  /-- Running totals of counters the steward has read and cleared (R490). -/
  totals : Cells Nat := []
  /-- The firmware's own counters (R503). -/
  authFail : Nat := 0
  replay : Nat := 0
  udpDropped : Nat := 0
  complLost : Nat := 0
deriving DecidableEq, Repr

/-! ### The whole machine -/

/-- The machine. -/
structure State where
  /-- The commands that wait, first in, first out. -/
  pending : List Instr := []
  /-- The time base's own count at the last command, in ns (R554). -/
  now : Nat := 0
  /-- What the last access returned. -/
  bus : Bus := {}
  /-- What the module has sent and nobody has taken, oldest first. -/
  wire : List Wire := []
  /-- How many free values have been drawn: the model's own field (notes/assumptions/5). -/
  freeNext : Nat := 0
  /-- The words of control space (R11, R24), by address. -/
  regs : Cells Word := []
  /-- The statistics counters (R91), by the address of their low word. -/
  cnt : Cells Nat := []
  /-- The captured high halves of the counters (R91), by the address of their low word. -/
  cntHi : Cells Nat := []
  /-- Own count + 1 at which an event limited by R554 was last written, by code and key. -/
  rate : Cells Nat := []
  /-- The bytes of scratch banks and DRAM, by device address (R24). -/
  mem : Cells Byte := []
  /-- The captured second words of register pairs (R54 and others), by their address. -/
  caps : Cells Word := []
  fuses : Fuses := {}
  tim : Tim := {}
  alm : Alm := {}
  snap : Snap := {}
  bank : Mem := {}
  key : Key := {}
  prt : Prt := {}
  fab : Fab := {}
  sch : Sch := {}
  ten : Ten := {}
  ing : Ing := {}
  acq : Acq := {}
  out : Out := {}
  cle : Cle := {}
  lge : Lge := {}
  rec_ : Rec := {}
  dpx : Dpx := {}
  sys : Sys := {}
  mbx : Mbx := {}
deriving DecidableEq, Repr

/-- The machine right after reset: every field at the value the spec or the log gives.
DESIGN CHOICE, log entry 3; DESIGN CHOICE, log entry 10; PRESUMED, log entry 11. -/
def State.reset : State := {}

end Sys2Proof.Machine
end

