-- ==== Sys2Proof/Machine/Ops.lean ====
section
/-! DEFINITION. The named operations over time, registers, counters, memory and what the module sends. Every read and
write of a register, counter or memory byte goes through this file. -/

namespace Sys2Proof.Machine

/-! ### The requester's answer (R26) -/

/-- The last access answered with data. -/
def State.answer (s : State) (v : Nat) : State := { s with bus := { data := v } }

/-- The last access faulted: its requester sees the report of R26 and no data. -/
def State.busFault (s : State) : State := { s with bus := { err := true } }

/-- The last access of the DMA path faulted: its descriptor completes with error status (R26). -/
def State.descFault (s : State) : State := { s with bus := { err := true, descErr := true } }

/-! ### Time (R33, R554) -/

/-- The machine at instant `t` of the own count; time never runs back.
DESIGN CHOICE, log entry 1. -/
def State.advance (s : State) (t : Nat) : State := { s with now := max s.now t }

/-- The state after a command that does `f` at instant `t`. The waiting commands are no concern of a command, and its instant
is the one at which the next state stands; both are set here, once, for every command.
DESIGN CHOICE, log entry 1. -/
def State.after (s : State) (t : Nat) (f : State → State) : State :=
  { f (s.advance t) with pending := s.pending, now := max s.now t }

/-- The outcome of a command that does `f` at instant `t`.
DESIGN CHOICE, log entry 1; DESIGN CHOICE, log entry 55. -/
def State.runAt (s : State) (t : Nat) (f : State → State) : Host.Outcome State Fault Refusal := .next (s.after t f)

/-- Domain time now: 64 bits (R33).
DESIGN CHOICE, log entry 1. -/
def State.dom (s : State) : Nat := (((s.now : Int) + s.tim.offset) % ((2 ^ 64 : Nat) : Int)).toNat

/-- The own count at which domain time is `d`. -/
def State.ownOf (s : State) (d : Nat) : Nat := ((d : Int) - s.tim.offset).toNat

/-- Domain time now with the 4 ns resolution of a timestamp (R52, R376). -/
def State.stamp (s : State) : Nat := s.dom / 4 * 4

/-! ### The register map -/

/-- The registers of the block that owns a control-space window (R11). -/
def regsOfBlock (n : Nat) : List RegDesc :=
  match n with
  | 0x01 => regsPRT | 0x02 => regsFAB | 0x03 => regsING | 0x04 => regsACQ | 0x05 => regsSCH | 0x06 => regsCLE
  | 0x07 => regsLGE | 0x08 => regsOUT | 0x09 => regsREC | 0x0A => regsALM | 0x0B => regsDPX | 0x0C => regsKEY
  | 0x0D => regsMEM | 0x0E => regsTIM | 0x0F => regsTEN | 0x10 => regsSYS | 0x11 => regsMBX
  | _ => []

/-- The element of a register array that lies at address `a`. -/
def regHit (d : RegDesc) (a : Nat) : Option (Nat × Nat) :=
  if a < d.base then none
  else
    let o := a - d.base
    let r := o % d.s1
    if o / d.s1 < d.n1 ∧ r % d.s2 = 0 ∧ r / d.s2 < d.n2 then some (o / d.s1, r / d.s2) else none

/-- The description of the register at an address. -/
def findReg (a : Nat) : Option RegDesc := (regsOfBlock (a / 2 ^ 24)).find? (fun d => (regHit d a).isSome)

/-- The word whose fields all have their reset values. -/
def descReset (d : RegDesc) : Word := d.fields.foldl (fun w f => fset f w f.reset) 0

/-- Reset values of R127 that differ from port to port: ingress limits. -/
def ingLimitReset (p : Nat) : Nat :=
  if p < 24 then 4096 else if p < 28 then 16384 else if p = 28 then 0 else if p = 29 then 4096
  else if p = 30 then 2048 else 8192

/-- The element number of address `a` in an array of `n` elements. -/
def elemOf (base n stride a : Nat) : Option Nat :=
  if base ≤ a ∧ a < base + n * stride ∧ (a - base) % stride = 0 then some ((a - base) / stride) else none

/-- The reset values that a register table gives element by element.
DESIGN CHOICE, log entry 10. -/
def resetSpecial (a : Nat) : Option Word :=
  match elemOf (FAB_AGE 0) 8 4 a with
  | some c => some (BitVec.ofNat 32 (fabAgeReset c))
  | none =>
  match elemOf (FAB_ING_LIMIT 0) 32 0x400 a with
  | some p => some (BitVec.ofNat 32 (ingLimitReset p))
  | none =>
  match elemOf (FAB_PORT_CFG 28) 4 0x400 a with
  | some _ => some (fset FAB_PORT_CFG_LEARN ((findReg a).map descReset |>.getD 0) 0)
  | none =>
  if a = FAB_EG_LIMIT 28 6 ∨ a = FAB_EG_LIMIT 28 7 then some 8192
  else
  match elemOf (ACQ_CH_CFG 0) 32 0x40 a with
  | some n => some (fset ACQ_CH_CFG_SRC 0 n)
  | none =>
  match (elemOf (ACQ_GRP_FIR 0 0) 128 4 a).bind (fun i => if i % 16 < 8 then some (i % 16) else none) with
  | some i => some (BitVec.ofNat 32 (firReset i))
  | none =>
  match elemOf (ALM_CH_CFG 0) 528 0x20 a with
  | some ch =>
    some (if ch < 512 then fset ALM_CH_CFG_SIZE (BitVec.ofNat 32 (24 * ch)) 24
          else fset ALM_CH_CFG_SIZE (BitVec.ofNat 32 (12288 + 256 * (ch - 512))) 256)
  | none =>
  match elemOf (PRT_PORT_CFG 24) 5 0x1000 a with
  | some n =>
    if n < 4 then some (fset PRT_PORT_CFG_FEC (fset PRT_PORT_CFG_MODE ((findReg a).map descReset |>.getD 0) 4) 3)
    else some (fset PRT_PORT_CFG_MODE ((findReg a).map descReset |>.getD 0) 1)
  | none => none
where
  /-- R177: the default coefficients, in the shadow words 0 to 3 and the active words 4 to 7 of a group's sixteen from the
  first shadow word on. -/
  firReset (i : Nat) : Nat :=
    if i = 0 ∨ i = 4 then 0xFF50 else if i = 1 ∨ i = 5 then 0x0230 else if i = 2 ∨ i = 6 then 0xF680
    else if i = 3 ∨ i = 7 then 0x40002800 else 0
  /-- R117: the reset values of the class ageing limits, in µs. -/
  fabAgeReset (c : Nat) : Nat := if c = 5 then 10000 else if c = 6 then 2000 else if c = 7 then 4000 else 100000

/-- The reset value of the word at a control-space address; words no register table names read 0.
DESIGN CHOICE, log entry 10. -/
def resetWord (a : Nat) : Word :=
  match resetSpecial a with
  | some w => w
  | none => match findReg a with
    | some d => descReset d
    | none => 0

/-! ### Registers -/

/-- The word at a control-space address. -/
def State.rdW (s : State) (a : Nat) : Word := cget resetWord s.regs a

/-- The machine with the word at a control-space address replaced. -/
def State.wrW (s : State) (a : Nat) (w : Word) : State := { s with regs := cset resetWord s.regs a w }

/-- A field of the register at `a`. -/
def State.rd (s : State) (a : Nat) (f : Fld) : Nat := fget f (s.rdW a)

/-- A one-bit field of the register at `a`. -/
def State.rdB (s : State) (a : Nat) (f : Fld) : Bool := s.rd a f != 0

/-- The machine with one field of the register at `a` replaced. -/
def State.wr (s : State) (a : Nat) (f : Fld) (v : Nat) : State := s.wrW a (fset f (s.rdW a) v)

/-- The machine with one bit of the register at `a` replaced. -/
def State.wrB (s : State) (a : Nat) (f : Fld) (b : Bool) : State := s.wr a f (b2n b)

/-- A 64-bit value in a pair of registers. -/
def State.rd64 (s : State) (lo hi : Nat) : Nat := (s.rdW lo).toNat + 2 ^ 32 * (s.rdW hi).toNat

/-- A 64-bit value written to a pair of registers. -/
def State.wr64 (s : State) (lo hi v : Nat) : State :=
  (s.wrW lo (BitVec.ofNat 32 v)).wrW hi (BitVec.ofNat 32 (v / 2 ^ 32))

/-- The captured word of a register pair, by the address of the second register. -/
def State.cap (s : State) (a : Nat) : Word := cget (fun _ => 0) s.caps a

/-- A word captured for the second register of a pair. -/
def State.setCap (s : State) (a : Nat) (w : Word) : State := { s with caps := cset (fun _ => 0) s.caps a w }

/-- A read of the first register of a pair: it returns that word and captures the second one. -/
def State.readPair (s : State) (lo hi : Nat) : State :=
  (s.setCap hi (s.rdW hi)).answer (s.rdW lo).toNat

/-! ### Statistics counters (R91) -/

/-- The value of a counter, by the address of its low word. -/
def State.count (s : State) (a : Nat) : Nat := cget (fun _ => 0) s.cnt a

/-- `n` more occurrences counted; a counter has 64 bits. -/
def State.bump (s : State) (a n : Nat) : State :=
  { s with cnt := cset (fun _ => 0) s.cnt a ((s.count a + n) % 2 ^ 64) }

/-- The low word of a counter read: the low half is returned, the high half captured, the counter cleared. The steward, its
only reader, adds the count to the running total it keeps since Advent (R490). -/
def State.takeCounter (s : State) (a : Nat) : Nat × State :=
  let v := s.count a
  let tot := cset (fun _ => 0) s.mbx.totals a (cget (fun _ => 0) s.mbx.totals a + v)
  (v % 2 ^ 32, { s with cnt := cset (fun _ => 0) s.cnt a 0, cntHi := cset (fun _ => 0) s.cntHi a (v / 2 ^ 32),
                        mbx := { s.mbx with totals := tot } })

/-- The address of the counter whose low word lies at `a`. -/
def counterAt (a : Nat) : Bool :=
  counterArrays.any fun (base, n, stride, k) =>
    base ≤ a && (a - base) / stride < n && (a - base) % stride % 8 == 0 && (a - base) % stride / 8 < k

/-! ### Free values (notes/assumptions/5) -/

/-- A value the spec leaves open, and the machine that has drawn it.
DESIGN CHOICE, log entry 5. -/
def State.draw (s : State) : BitVec 64 × State :=
  (Config.freeValue s.freeNext, { s with freeNext := s.freeNext + 1 })

/-! ### Memory (R24, R25; unlisted bytes read as notes/assumptions/4 says) -/

/-- What a byte of bank, DRAM, SRAM or flash that nothing has written reads as.
DESIGN CHOICE, log entry 4. -/
def memUnlisted (_ : Nat) : Byte := 0

/-- One byte at a device address.
DESIGN CHOICE, log entry 4. -/
def State.byte (s : State) (a : Nat) : Byte := cget memUnlisted s.mem a

/-- Memory is in its canonical form: addresses rise, and no listed byte is the one an unlisted address reads as.
DESIGN CHOICE, log entry 4. -/
abbrev State.memWf (s : State) : Prop := cwf memUnlisted s.mem = true

/-- One byte written. -/
def State.setByte (s : State) (a : Nat) (b : Byte) : State := { s with mem := cset memUnlisted s.mem a b }

/-- `n` bytes from a device address on. -/
def State.bytes (s : State) (a : Nat) : Nat → List Byte
  | 0 => []
  | n + 1 => s.byte a :: s.bytes (a + 1) n

/-- Bytes written from a device address on. -/
def State.setBytes (s : State) (a : Nat) : List Byte → State
  | [] => s
  | b :: bs => (s.setByte a b).setBytes (a + 1) bs

/-- A little-endian number of `n` bytes at a device address. -/
def State.le (s : State) (a n : Nat) : Nat := leNat (s.bytes a n)

/-- A little-endian number written. -/
def State.setLe (s : State) (a n v : Nat) : State := s.setBytes a (leBytes n v)

/-! ### Records of control space, by bytes -/

/-- `n` bytes of the word array at control-space address `a` (word aligned). -/
def State.regBytes (s : State) (a n : Nat) : List Byte :=
  ((List.range ((n + 3) / 4)).flatMap (fun i => leBytes 4 (s.rdW (a + 4 * i)).toNat)).take n

/-- One byte of a word array written. -/
def State.setRegByte (s : State) (a v : Nat) : State :=
  s.wr (a / 4 * 4) ⟨8 * (a % 4), 8, .ro, 0, 0, 255⟩ v

/-- A little-endian number of `n` bytes written into a word array. -/
def State.setRegLe (s : State) (a : Nat) : Nat → Nat → State
  | 0, _ => s
  | n + 1, v => (s.setRegByte a (v % 256)).setRegLe (a + 1) n (v / 256)

/-- A little-endian number of `n` bytes of a word array. -/
def State.regLe (s : State) (a n : Nat) : Nat :=
  leAt (s.regBytes (a / 4 * 4) (a % 4 + n)) (a % 4) n

/-! ### Dirty logs (R198, R214 to R218) -/

/-- The frame-table entry number of the 64 KiB frame that holds a device address (R198). -/
def frameIndex (a : Nat) : Option Nat :=
  if 0x1000000000 ≤ a ∧ a < 0x1800000000 then some ((a - 0x1000000000) / 0x10000)
  else if 0x40000000 ≤ a ∧ a < 0x42000000 then some (524288 + (a - 0x40000000) / 0x10000)
  else none

/-- The tenant and page that the frame table gives a device address (R198). -/
def State.frameEntry (s : State) (a : Nat) : Option (Nat × Nat) :=
  match frameIndex a with
  | none => none
  | some i =>
    let base := s.rd TEN_FRAME_BASE_LO TEN_FRAME_BASE_LO_BASE * 0x1000
      + 2 ^ 32 * s.rd TEN_FRAME_BASE_HI TEN_FRAME_BASE_HI_BASE
    let e := s.le (base + 4 * i) 4
    if e.testBit 31 then some (e % 512, e / 512 % 16384) else none

/-- Whether a tenant keeps a dirty log. -/
def State.logs (s : State) (t : Nat) : Bool :=
  s.rdB (TEN_CFG t) TEN_CFG_PLOG_EN || s.rdB (TEN_CFG t) TEN_CFG_LLOG_EN

/-- The device address of a tenant's map (R196). -/
def State.mapBase (s : State) (t : Nat) : Nat :=
  s.rd (TEN_MAP_BASE_LO t) TEN_MAP_BASE_LO_BASE * 0x20000 + 2 ^ 32 * s.rd (TEN_MAP_BASE_HI t) TEN_MAP_BASE_HI_BASE

/-- Entry `v` of a tenant's map as it stands in memory. -/
def State.mapEntry (s : State) (t v : Nat) : Nat := s.le (s.mapBase t + 8 * v) 8

/-- Entry `v` of a tenant's map as accesses find it: a change other than an addition waits for MAP_INVAL (R199). -/
def State.effEntry (s : State) (t v : Nat) : Nat :=
  let old := cget (fun _ => 0) s.ten.oldMap (t * 16384 + v)
  if old = 0 then s.mapEntry t v else old

/-- Whether a duplex copy that carries tenant `t`'s lines is under way (R217). -/
def State.copyReads (s : State) (t : Nat) : Bool :=
  (match s.dpx.copy with | some c => !c.pass | none => false) && (s.rdW (DPX_TEN_SET (t / 32))).toNat.testBit (t % 32)

/-- A write recorded in a tenant's logs, at its tenant-virtual address. A line that the round copy has not read yet is
read first: the wait is counted and the line's bit leaves the capturing bank (R214, R217, R218). -/
def State.markDirty (s : State) (t va : Nat) : State :=
  let s := if s.rdB (TEN_CFG t) TEN_CFG_PLOG_EN then
      { s with ten := { s.ten with plog := cset (fun _ => false) s.ten.plog (t * 16384 + va / 65536) true } }
    else s
  let line := va / 256
  let first := s.rd (TEN_REPL t) TEN_REPL_START
  if s.rdB (TEN_CFG t) TEN_CFG_LLOG_EN && s.rdB (TEN_REPL t) TEN_REPL_EN && decide (first ≤ line)
      && decide (line ≤ first + s.rd (TEN_REPL t) TEN_REPL_LINES) then
    let k := t * 256 + (line - first)
    let s := if s.copyReads t && cget (fun _ => false) s.ten.llogCap k then
        let s := { s with ten := { s.ten with llogCap := cset (fun _ => false) s.ten.llogCap k false } }
        s.bump (cntTEN_LINE_STALLS t) 1
      else s
    { s with ten := { s.ten with llogRec := cset (fun _ => false) s.ten.llogRec k true } }
  else s

/-- The first bytes, by 256-byte line, of a write of `n` bytes at `a`. -/
def lineStarts (a n : Nat) : List Nat :=
  if n = 0 then []
  else (List.range ((a + n - 1) / 256 - a / 256 + 1)).map (fun i => if i = 0 then a else (a / 256 + i) * 256)

/-- A write of every writer but a core, attributed through the frame table (R198, R214). -/
def State.noteWrite (s : State) (a n : Nat) : State :=
  (lineStarts a n).foldl (fun s x => match s.frameEntry x with
    | some (t, v) => if s.logs t then s.markDirty t (v * 65536 + x % 65536) else s
    | none => s) s

/-- A write of `n` bytes by a core running tenant `t` at a tenant-virtual address, attributed through the tenant map
(R214). -/
def State.noteCoreWrite (s : State) (t va n : Nat) : State :=
  if s.logs t then
    (lineStarts va n).foldl (fun s x => if (s.effEntry t (x / 65536)).testBit 1 then s.markDirty t x else s) s
  else s

/-- Bytes the device itself writes, entered in the dirty logs. -/
def State.store (s : State) (a : Nat) (bs : List Byte) : State := (s.noteWrite a bs.length).setBytes a bs

/-! ### The outside -/

/-- Something sent to the outside. -/
def State.send (s : State) (w : Wire) : State := { s with wire := s.wire ++ [w] }

/-! ### Limits of one per second (R554) -/

/-- Whether an event of this code and key may be written now. -/
def State.mayWrite (s : State) (code key : Nat) : Bool :=
  let last := cget (fun _ => 0) s.rate (code * 2 ^ 80 + key)
  last == 0 || decide (last - 1 + 1000000000 ≤ s.now)

/-- The event of this code and key is written now. -/
def State.noteWritten (s : State) (code key : Nat) : State :=
  { s with rate := cset (fun _ => 0) s.rate (code * 2 ^ 80 + key) (s.now + 1) }

/-! ### Units of the variant (R2, R3, R6) -/

/-- The feature word of R6, by variant. -/
def featureWord (v : Nat) : Nat := if v = 0 then 0x005FFFFF else if v = 1 then 0x0134C70F else 0x02000303

/-- The feature word of this part. -/
def State.feature (s : State) : Nat := featureWord s.fuses.variant

def State.clusterPresent (s : State) (c : Nat) : Bool := c < 8 && s.feature.testBit c
def State.corePresent (s : State) (c : Nat) : Bool := c < 64 && s.clusterPresent (c / 8)
/-- 64 tenants for each present cluster (R2). -/
def State.tenants (s : State) : Nat := 64 * popcount 8 s.feature
def State.tenantPresent (s : State) (t : Nat) : Bool := t < s.tenants
def State.acqPresent (s : State) : Bool := s.feature.testBit 19
def State.clePresent (s : State) : Bool := s.feature.testBit 20
def State.twinPresent (s : State) : Bool := s.feature.testBit 18

/-- Port n: 0 to 23 line ports, 24 to 27 domain ports, 28 the management port (R93). -/
def State.portPresent (s : State) (n : Nat) : Bool :=
  if n < 24 then s.feature.testBit (8 + n / 4) else if n < 28 then s.feature.testBit (14 + (n - 24)) else n == 28

/-- Fabric port p: the line and domain ports, and 28 to 31 in every variant (R14). -/
def State.fportPresent (s : State) (p : Nat) : Bool := if p < 28 then s.portPresent p else p < 32

/-- Redundancy pair p joins line ports 2p and 2p + 1 (R77). -/
def State.pairPresent (s : State) (p : Nat) : Bool := p < 12 && s.portPresent (2 * p)

/-- Whether element `i` of an array with this presence exists (R3). -/
def State.present (s : State) (p : Presence) (i : Nat) : Bool :=
  match p with
  | .always => true
  | .port => s.portPresent i
  | .pair => s.pairPresent i
  | .twin => s.twinPresent
  | .fport => s.fportPresent i
  | .tenant => s.tenantPresent i
  | .cluster => s.clusterPresent i
  | .core => s.corePresent i
  | .acq => s.acqPresent
  | .cle => s.clePresent
  | .almch => if i < 512 then s.tenantPresent i else i < 528

/-- The end of DRAM by variant (R25). -/
def State.dramEnd (s : State) : Nat :=
  if s.fuses.variant = 0 then 0x1800000000 else if s.fuses.variant = 1 then 0x1400000000 else 0x1200000000

def bankBase (n : Nat) : Nat := 0x40000000 + n * 0x200000

/-- Whether `n` bytes from `a` on all lie in DRAM that is present (R25). -/
def State.inDram (s : State) (a n : Nat) : Bool := 0x1000000000 ≤ a && a + n ≤ s.dramEnd

/-- The scratch bank that holds all `n` bytes from `a` on (R24). -/
def bankOf (a n : Nat) : Option Nat :=
  if 0x40000000 ≤ a ∧ a + n ≤ 0x42000000 ∧ 0 < n ∧ (a - 0x40000000) / 0x200000 = (a + n - 1 - 0x40000000) / 0x200000
  then some ((a - 0x40000000) / 0x200000) else none

/-- Whether a device access of `n` bytes at `a` faults for want of memory there (R24, R25, R26). -/
def State.memFault (s : State) (a n : Nat) : Bool := !(s.inDram a n || (0x40000000 ≤ a && a + n ≤ 0x42000000))

end Sys2Proof.Machine
end

