-- ==== Sys2Proof/Machine/Budget.lean ====
section
/-! DEFINITION. The grid's rate and round length (R38, R41), and the budgets of tenants: time in service charged to the round in
progress (R206, R239, R252). -/

namespace Sys2Proof.Machine

/-- The base sample rate fs (R38). -/
def State.fs (s : State) : Nat :=
  let v := s.rd TIM_GRID TIM_GRID_FS_SEL
  if v = 0 then 4000 else if v = 1 then 4800 else 14400

/-- P, the base samples of a round (R41). -/
def State.roundLen (s : State) : Nat := 2 ^ s.rd TIM_GRID TIM_GRID_ROUND_LEN

/-- Whether the grid runs. -/
def State.gridOn (s : State) : Bool := s.rdB TIM_CTRL TIM_CTRL_GRID_EN

/-! ### Budgets (R206, R239) -/

/-- Whether a tenant has budget left in the round in progress. -/
def State.hasBudget (s : State) (t : Nat) : Bool :=
  s.rd (SCH_TEN_USED t) SCH_TEN_USED_NS * 128 * s.fs < s.rd (TEN_SHARE t) TEN_SHARE_CURRENT * s.roundLen * 1000000000

/-- SCH_TEN_STAT.NO_BUDGET follows the budget. -/
def State.noteBudget (s : State) (t : Nat) : State :=
  s.wrB (SCH_TEN_STAT t) SCH_TEN_STAT_NO_BUDGET (s.gridOn && !s.hasBudget t)

/-- The time in service up to now of every core, charged to the round in progress (R239, R252). -/
def State.chargeAll (s : State) : State :=
  let s := s.sch.runs.foldl (fun s r =>
    let d := s.now - r.charged
    let t := r.item.tenant
    let s := s.wr (SCH_TEN_USED t) SCH_TEN_USED_NS (satNat 0xFFFFFFFF (s.rd (SCH_TEN_USED t) SCH_TEN_USED_NS + d))
    (s.bump (cntSCH_CORE_BUSY_NS r.core) d).noteBudget t) s
  { s with sch := { s.sch with runs := s.sch.runs.map (fun r => { r with charged := s.now }) } }

end Sys2Proof.Machine
end

