-- ==== Sys2Proof/Machine/Shown.lean ====
section
/-! DEFINITION. Words that registers show of other state, as reads and Solstice take them: the egress use of the fabric (R112, R127)
and whether MCLK runs (R170, R192). -/

namespace Sys2Proof.Machine

/-- A port's rate in Mb/s; SGMII runs at its negotiated speed (R120). -/
def State.rate_ (s : State) (n : Nat) : Nat :=
  let m := s.rd (PRT_PORT_CFG n) PRT_PORT_CFG_MODE
  if m = 0 then 1000
  else if m = 1 then 10 ^ (s.rd (PRT_PORT_STAT n) PRT_PORT_STAT_SPEED + 1)
  else if m = 2 then 10000 else if m = 3 then 25000 else 100000

/-- The frames that a port is sending. -/
def State.txAt (s : State) (n : Nat) : List FabTx := cget (fun _ => []) s.fab.tx n

/-- Bytes of a frame that a port has sent: those before it last started or resumed, and what its rate has carried since.
DESIGN CHOICE, log entry 25. -/
def State.sentBytes (s : State) (n : Nat) (x : FabTx) : Nat :=
  x.base + (if x.paused then 0 else (s.now - x.startAt) * s.rate_ n / 8000)

/-- The cells of a copy that have left its egress port (R112): those that every port still concerned has sent. -/
def State.cellsLeft (s : State) (f : FabFrame) (c : FabCopy) : Nat :=
  if c.left.isEmpty || !c.left.all (fun n => c.sending.contains n) then 0
  else
    let sent := c.left.filterMap (fun n => ((s.txAt n).find? (fun x => x.frame == f.num)).map (fun x => s.sentBytes n x / 64))
    min f.written.length ((sent.min?).getD 0)

/-- FAB_EG_USE: the cells of accepted copies that have not left the egress port (R112, R127). -/
def State.egUse (s : State) (d c : Nat) : Nat :=
  s.rd (FAB_EG_USE d c) FAB_EG_USE_CELLS - ((s.fab.frames.filter (fun f => f.cls == c)).flatMap (fun f =>
    (f.copies.filter (fun k => k.dst == d && !k.sending.isEmpty)).map (fun k => s.cellsLeft f k))).sum

/-! ### MCLK (R170, R171) -/

/-- MCLK periods of a base sample period. -/
def State.mclkPer (s : State) : Nat := if s.rd TIM_GRID TIM_GRID_FS_SEL = 2 then 1024 else 4096

/-- f_MCLK in Hz. -/
def State.mclk (s : State) : Nat := s.fs * s.mclkPer

/-- MCLK is set to run: ACQ_CTRL.EN and GRID_EN are both 1. -/
def State.mclkSet (s : State) : Bool := s.rdB ACQ_STAT ACQ_STAT_MCLK_RUN

/-- The MCLK edge at or before now, counted from domain time 0 (R171). -/
def State.edgeNow (s : State) : Nat := s.dom / 1000000000 * s.mclk + s.dom % 1000000000 * s.mclk / 1000000000

/-- MCLK runs: it is set to, and its first edge, at a base sample instant, has come (R170). -/
def State.mclkRuns (s : State) : Bool := s.mclkSet && decide (s.acq.first ≤ s.edgeNow)

/-- A register's word as it is read and latched, where it stands for other state: FAB_EG_USE and ACQ_STAT.MCLK_RUN. -/
def State.liveWord (s : State) (a : Nat) (w : Word) : Word :=
  if 0x02010000 ≤ a ∧ a < 0x02018000 ∧ 0x60 ≤ a % 0x400 ∧ a % 0x400 < 0x80 then
    BitVec.ofNat 32 (s.egUse ((a - 0x02010000) / 0x400) ((a % 0x400 - 0x60) / 4))
  else if a = ACQ_STAT then fset ACQ_STAT_MCLK_RUN w (b2n s.mclkRuns)
  else w

end Sys2Proof.Machine
end

