-- ==== Sys2Proof/Machine/Almanac.lean ====
section
/-! DEFINITION. The Almanac's engine: posting, intake, folding, full channels (R372 to R393), the routing of event codes
(R374), and the Solstice strobe with its snapshots (R521 to R525), which an event post can fire. -/

namespace Sys2Proof.Machine

/-! ### Payload fields of R556: little-endian, by width -/

def p1 (n : Nat) : List Byte := leBytes 1 n
def p2 (n : Nat) : List Byte := leBytes 2 n
def p4 (n : Nat) : List Byte := leBytes 4 n
def p6 (n : Nat) : List Byte := beBytes 6 n
def p8 (n : Nat) : List Byte := leBytes 8 n
/-- A signed value of `n` bytes in two's complement. -/
def pInt (n : Nat) (i : Int) : List Byte := leBytes n (ofSigned (8 * n) i)

/-- A payload brought to whole 16-byte units (R376). -/
def padPayload (p : List Byte) : List Byte :=
  let q := p.take 224
  q ++ List.replicate ((16 - q.length % 16) % 16) 0

/-! ### Channels -/

/-- The channel that a block's event goes to (R374); `tenant` is the tenant that TEN, SCH, CLE and LGE events name. -/
def almRoute (code tenant : Nat) : Nat :=
  let b := code / 256
  if code = 0x0301 then 0x200
  else if code = 0x0C07 ∨ code = 0x0C08 then 0x201
  else if code = 0x0F03 then 0x202
  else if code = 0x1001 ∨ code = 0x1002 then 0x20B
  else if code = 0x1183 then 0x200
  else if b = 0x0C then 0x200
  else if b = 0x0B then 0x202
  else if b = 0x11 then 0x203
  else if b = 0x10 then 0x204
  else if b = 0x01 ∨ b = 0x02 then 0x205
  else if b = 0x03 then 0x206
  else if b = 0x04 then 0x207
  else if b = 0x08 then 0x208
  else if b = 0x09 then 0x209
  else if b = 0x0D then 0x20A
  else if b = 0x12 then 0x20C
  else if b = 0x0A then 0x20D
  else if b = 0x0E then 0x20F
  else tenant

/-- A channel beyond its registers. -/
def State.chan (s : State) (ch : Nat) : AlmChan := cget (fun _ => {}) s.alm.chans ch

/-- The machine with a channel replaced. -/
def State.setChan (s : State) (ch : Nat) (c : AlmChan) : State :=
  { s with alm := { s.alm with chans := cset (fun _ => {}) s.alm.chans ch c } }

/-- The bytes of a channel's quota. -/
def State.quota (s : State) (ch : Nat) : Nat := 256 * s.rd (ALM_CH_CFG ch) ALM_CH_CFG_SIZE

/-- The newest record of a channel. -/
def AlmChan.newest (c : AlmChan) : Option AlmRec := c.recs.getLast?

/-- The records with the newest one replaced. -/
def replaceLast (l : List AlmRec) (r : AlmRec) : List AlmRec := l.dropLast ++ [r]

/-- A record written as the channel's next: it takes NEXT and its bytes (R377, R384). -/
def State.appendRec (s : State) (ch : Nat) (r : AlmRec) : State :=
  let c := s.chan ch
  let nx := s.rd (ALM_CH_NEXT ch) ALM_CH_NEXT_SEQ
  let s := s.setChan ch { c with recs := c.recs ++ [{ r with seq := nx }] }
  let s := s.wr (ALM_CH_NEXT ch) ALM_CH_NEXT_SEQ (nx + 1)
  let s := s.wr (ALM_CH_USED ch) ALM_CH_USED_BYTES (s.rd (ALM_CH_USED ch) ALM_CH_USED_BYTES + r.bytes)
  s.bump (cntALM_RECORDS ch) 1

/-- Refused occurrences folded into the full marker, the channel's newest record (R385). -/
def State.foldMarker (s : State) (ch n time : Nat) : State :=
  let c := s.chan ch
  let s := s.bump (cntALM_DROPPED_FULL ch) n
  match c.newest with
  | some r =>
    if r.kind = 2 then
      s.setChan ch { c with recs := replaceLast c.recs { r with rep := satNat 0xFFFFFFFF (r.rep + n), lastTime := time } }
    else s
  | none => s

/-- Whether a channel refuses every event: full, or without a quota (R385). -/
def State.chanRefuses (s : State) (ch : Nat) : Bool :=
  s.rdB (ALM_CH_STAT ch) ALM_CH_STAT_FULL || s.quota ch == 0

/-- A refusal at the post: folded into the marker, or only counted where there is no quota (R381, R385). -/
def State.refusePost (s : State) (ch n time : Nat) : State :=
  if s.quota ch = 0 then s.bump (cntALM_DROPPED_FULL ch) n else s.foldMarker ch n time

/-! ### Posting (R381) -/

/-- What became of a post. -/
inductive PostOutcome where
  | discarded | refused | merged | queued | processed | lost
deriving DecidableEq, Repr

/-- The newest intake entry of a channel. -/
def newestEntry (l : List AlmEntry) (ch : Nat) : Option AlmEntry := (l.filter (fun e => e.ch = ch)).getLast?

/-- The intake with the entry of arrival order `o` replaced. -/
def replaceEntry (l : List AlmEntry) (o : Nat) (e : AlmEntry) : List AlmEntry :=
  l.map (fun x => if x.ord = o then e else x)

/-- ALM_STAT.INTAKE and WRITING follow the engine. -/
def State.almStat (s : State) : State :=
  (s.wr ALM_STAT ALM_STAT_INTAKE s.alm.intake.length).wrB ALM_STAT ALM_STAT_WRITING s.alm.writing.isSome

/-- An event posted to a channel at time `tm` (R381); `tenant` when tenant code posts it. -/
def State.postAt (s : State) (ch code : Nat) (payload : List Byte) (tm : Nat) (tenant : Bool) : PostOutcome × State :=
  let payload := padPayload payload
  if !s.rdB ALM_CTRL ALM_CTRL_EN then (.discarded, s)
  else if s.chanRefuses ch then (.refused, s.refusePost ch 1 tm)
  else
    let e : AlmEntry := { ch, code, payload, first := tm, last := tm, count := 1, ord := s.alm.nextOrd, tenant }
    if s.alm.writing.isNone && s.alm.intake.isEmpty then
      (.processed, ({ s with alm := { s.alm with writing := some (.entry e), nextOrd := s.alm.nextOrd + 1 } }).almStat)
    else
      let c := s.chan ch
      let lostN := s.rd (ALM_CH_LOST ch) ALM_CH_LOST_N
      let mergeable := match newestEntry s.alm.intake ch with
        | some x => if x.code = code ∧ x.payload = payload ∧ (lostN = 0 ∨ c.lossOrd ≤ x.ord) then some x else none
        | none => none
      match mergeable with
      | some x =>
        (.merged, { s with alm := { s.alm with
          intake := replaceEntry s.alm.intake x.ord { x with count := x.count + 1, last := tm } } })
      | none =>
        let tenantHeld := (s.alm.intake.filter (fun x => x.tenant)).length
        if s.alm.intake.length < 8 ∧ (tenant = false ∨ tenantHeld < 4) then
          (.queued, ({ s with alm := { s.alm with
            intake := s.alm.intake ++ [e], nextOrd := s.alm.nextOrd + 1 } }).almStat)
        else
          let s := s.bump (cntALM_LOST ch) 1
          let s := s.wr (ALM_CH_LOST ch) ALM_CH_LOST_N (satNat 0xFFFFFFFF (lostN + 1))
          let s := s.wrB (ALM_CH_STAT ch) ALM_CH_STAT_LOST_PENDING true
          if lostN = 0 then
            let s := s.setChan ch { c with lossFirst := tm, lossLast := tm, lossCode := code, lossOrd := s.alm.nextOrd }
            (.lost, { s with alm := { s.alm with nextOrd := s.alm.nextOrd + 1 } })
          else (.lost, s.setChan ch { c with lossLast := tm })

/-! ### Solstice (R521 to R525) -/

/-- Every snapshot register latches: copies of the words and counters as they stand (R522).
DESIGN CHOICE, log entry 26. -/
def State.latch (s : State) (instant : Nat) : State :=
  let u := s.chargeAll
  let regs := u.regs.map (fun c => (c.1, u.liveWord c.1 c.2))
  { s with snap := { count := s.rd SYS_SNAP_STAT SYS_SNAP_STAT_COUNT, instant, regs := regs, cnt := u.cnt, taken := true } }

/-- Whether a strobe source is enabled. -/
def State.srcEnabled (s : State) (src : Nat) : Bool := (s.rd SYS_SNAP_SRC SYS_SNAP_SRC_SOURCES).testBit src

/-- Whether an event code matches the Almanac source of Solstice (R521). -/
def State.almMatch (s : State) (code : Nat) : Bool :=
  s.srcEnabled 2 && (code &&& s.rd SYS_SNAP_ALM SYS_SNAP_ALM_MASK) == s.rd SYS_SNAP_ALM SYS_SNAP_ALM_VALUE

/-- A source that fires while the snapshot is not armed: counted, with event 0x1002 at most once per second; that
event's own post can match the Almanac source and is then counted too (R523). -/
def State.ignoreStrobe (s : State) (src : Nat) : State :=
  let s := s.bump cntSYS_SNAP_IGNORED 1
  if s.mayWrite 0x1002 0 then
    let s := ((s.noteWritten 0x1002 0).postAt 0x20B 0x1002 (p1 src) s.stamp false).2
    if s.almMatch 0x1002 then s.bump cntSYS_SNAP_IGNORED 1 else s
  else s

/-- An enabled strobe source fires (R521, R523): when armed a strobe is made, else it is ignored. -/
def State.fireSource (s : State) (src : Nat) : State :=
  if !s.srcEnabled src then s
  else if s.rd SYS_SNAP_STAT SYS_SNAP_STAT_STATE = 1 then
    let inst := s.stamp
    let c := (s.rd SYS_SNAP_STAT SYS_SNAP_STAT_COUNT + 1) % 65536
    let s := s.wr SYS_SNAP_STAT SYS_SNAP_STAT_COUNT c
    let s := (s.wr SYS_SNAP_STAT SYS_SNAP_STAT_STATE 2).wr SYS_SNAP_STAT SYS_SNAP_STAT_LAST_SRC src
    let s := s.wr64 SYS_SNAP_TIME_LO SYS_SNAP_TIME_HI inst
    let s := s.latch inst
    let s := s.bump cntSYS_SNAPSHOTS 1
    let s := (s.postAt 0x20B 0x1001 (p1 src ++ p8 inst ++ p4 c) s.stamp false).2
    if s.almMatch 0x1001 then s.ignoreStrobe 2 else s
  else s.ignoreStrobe src

/-- An event posted, with the Solstice source that an event can be (R521). -/
def State.postOut (s : State) (ch code : Nat) (payload : List Byte) (tenant : Bool) : PostOutcome × State :=
  let (o, s) := s.postAt ch code payload s.stamp tenant
  if s.almMatch code then (o, s.fireSource 2) else (o, s)

/-- An event posted to a named channel. -/
def State.postTo (s : State) (ch code : Nat) (payload : List Byte) : State := (s.postOut ch code payload false).2

/-- A block's event posted to the channel R374 gives it. -/
def State.post (s : State) (code : Nat) (payload : List Byte) : State := s.postTo (almRoute code 0) code payload

/-- An event posted to a tenant's own channel. -/
def State.postTenant (s : State) (code t : Nat) (payload : List Byte) : State := s.postTo t code payload

/-- An event written at most once per second for its key (R554).
DESIGN CHOICE, log entry 35. -/
def State.postLimited (s : State) (ch code key : Nat) (payload : List Byte) : State :=
  if s.mayWrite code key then (s.noteWritten code key).postTo ch code payload else s

/-! ### The writer (R382 to R385) -/

/-- A record that does not fit makes the channel full: the marker takes its place (R385). -/
def State.fillChannel (s : State) (ch count first last : Nat) : State :=
  let s := s.appendRec ch { kind := 2, code := 0x0A01, seq := 0, bytes := 32, rep := count - 1, time := first,
                            lastTime := if count = 1 then 0 else last, payload := [] }
  let s := s.wrB (ALM_CH_STAT ch) ALM_CH_STAT_FULL true
  let s := s.bump (cntALM_DROPPED_FULL ch) count
  if ch < 512 then
    s.post 0x0A04 (p2 ch ++ p4 ((s.rd (ALM_CH_NEXT ch) ALM_CH_NEXT_SEQ + 2 ^ 32 - 1) % 2 ^ 32))
  else s

/-- An intake entry processed: folded, written, or refused (R382, R384, R385). -/
def State.commitEntry (s : State) (e : AlmEntry) : State :=
  let c := s.chan e.ch
  if s.chanRefuses e.ch then s.refusePost e.ch e.count e.last
  else
    match c.newest with
    | some r =>
      if r.kind = 0 ∧ r.code = e.code ∧ r.payload = e.payload ∧ r.rep ≠ 0xFFFFFFFF then
        let s := s.setChan e.ch
          { c with recs := replaceLast c.recs { r with rep := satNat 0xFFFFFFFF (r.rep + e.count), lastTime := e.last } }
        s.bump (cntALM_FOLDS e.ch) e.count
      else writeNew s e
    | none => writeNew s e
where
  /-- A new record of the entry (R382), or the marker when it does not fit (R384). -/
  writeNew (s : State) (e : AlmEntry) : State :=
    let z := 32 + e.payload.length
    if s.rd (ALM_CH_USED e.ch) ALM_CH_USED_BYTES + z ≤ s.quota e.ch - 32 then
      s.appendRec e.ch { kind := 0, code := e.code, seq := 0, bytes := z, rep := e.count - 1, time := e.first,
                         lastTime := if e.count = 1 then 0 else e.last, payload := e.payload }
    else s.fillChannel e.ch e.count e.first e.last

/-- A channel's pending loss written as its lost-events record, or refused with the channel (R383, R385). -/
def State.commitLost (s : State) (ch : Nat) : State :=
  let c := s.chan ch
  let n := s.rd (ALM_CH_LOST ch) ALM_CH_LOST_N
  let s := (s.wr (ALM_CH_LOST ch) ALM_CH_LOST_N 0).wrB (ALM_CH_STAT ch) ALM_CH_STAT_LOST_PENDING false
  if s.chanRefuses ch then s.refusePost ch n c.lossLast
  else if s.rd (ALM_CH_USED ch) ALM_CH_USED_BYTES + 48 ≤ s.quota ch - 32 then
    s.appendRec ch { kind := 1, code := 0x0A02, seq := 0, bytes := 48, rep := 0, time := c.lossFirst,
                     lastTime := c.lossLast, payload := padPayload (p4 n ++ p2 c.lossCode) }
  else s.fillChannel ch n c.lossFirst c.lossLast

/-- The channels with a pending loss, with the place of their first lost event. -/
def State.lossPlaces (s : State) : List (Nat × Nat) :=
  (s.alm.chans.filter (fun c => s.rd (ALM_CH_LOST c.1) ALM_CH_LOST_N != 0)).map (fun c => (c.2.lossOrd, c.1))

/-- What the writer takes next in arrival order: an entry or a pending loss (R382, R383). -/
def State.nextWork (s : State) : Option AlmWork :=
  let loss := (s.lossPlaces).foldl
    (fun (b : Option (Nat × Nat)) x => match b with | none => some x | some y => if x.1 < y.1 then some x else some y) none
  match s.alm.intake, loss with
  | [], none => none
  | [], some l => some (.lost l.2)
  | e :: _, none => some (.entry e)
  | e :: _, some l => if l.1 ≤ e.ord then some (.lost l.2) else some (.entry e)

/-- The record in progress commits and the writer takes what comes next (R382); the writer stays busy while it commits,
so that an event of its own making (0x0A04) waits in the intake. -/
def State.almProcess (s : State) : State :=
  let s := match s.alm.writing with
    | none => s
    | some (.entry e) => s.commitEntry e
    | some (.lost ch) => s.commitLost ch
  match s.nextWork with
  | none => ({ s with alm := { s.alm with writing := none } }).almStat
  | some (.entry e) =>
    ({ s with alm := { s.alm with writing := some (.entry e),
                                  intake := s.alm.intake.filter (fun x => x.ord != e.ord) } }).almStat
  | some w => ({ s with alm := { s.alm with writing := some w } }).almStat

end Sys2Proof.Machine
end

