-- ==== Sys2Proof/Machine/Time.lean ====
section
/-! DEFINITION. The sample grid and rounds (R38 to R47), and the commands of the time base that touch nothing but the
time base (R32 to R35, R45, R51, R52, R54). -/

namespace Sys2Proof.Machine

/-! ### The sample grid (R38, R39) -/

/-- The instant of the sample with global index `n` (R38, R39). -/
def sampleInstant (fs n : Nat) : Nat := n / fs * 1000000000 + n % fs * 1000000000 / fs

/-- The global index of the latest sample not later than instant `x` (R38). -/
def sampleAt (fs x : Nat) : Nat := x / 1000000000 * fs + ((x % 1000000000 + 1) * fs - 1) / 1000000000

/-- The instant of the last sample of the round with full number `k` (R41, R43). -/
def roundEnd (fs p k : Nat) : Nat := sampleInstant fs (k * p + p - 1)

/-- T(k) for D in µs (R43). -/
def dispatchInstant (fs p d k : Nat) : Nat := roundEnd fs p k + d * 1000

/-- The full number of the round whose base samples enclose instant `x` (R41, R559). -/
def roundAt (fs p x : Nat) : Nat := sampleAt fs x / p

/-- A full round number as registers show it (R41). -/
def round32 (k : Nat) : Nat := k % 2 ^ 32

/-- The lowest full round number whose dispatch instant is at least `x` (R46). -/
def firstRoundFrom (fs p d x : Nat) : Nat :=
  let y := x - d * 1000
  -- the first sample at or after y
  let n := if y = 0 then 0 else sampleAt fs (y - 1) + 1
  (n + 1 + p - 1) / p - 1

/-- T of the next boundary while the grid runs, in domain time. -/
def State.nextT (s : State) : Nat := dispatchInstant s.fs s.roundLen s.tim.nextD s.tim.nextRound

/-- The full number of the boundary at which a setting staged now takes effect (R47): the next one when its write
completes more than 1 µs before T, else the one after; 0 while the grid is off (R559). -/
def State.stageAt (s : State) : Nat :=
  if s.gridOn then (if s.dom + 1000 < s.nextT then s.tim.nextRound else s.tim.nextRound + 1) else 0

/-- A setting staged now. -/
def State.stage {α : Type} (s : State) (v : α) : Staged α := { val := v, eff := s.stageAt }

/-- Whether a staged setting takes effect at boundary `k` (R47). -/
def Staged.due {α : Type} (x : Staged α) (k : Nat) : Bool := x.eff ≤ k

/-- The synch state (R34). -/
def State.synch (s : State) : Nat := s.rd TIM_STAT TIM_STAT_SYNCH

/-- TIM_STAT.SLEWING follows CURRENT and TARGET (R54). -/
def State.slewing (s : State) : State :=
  s.wrB TIM_STAT TIM_STAT_SLEWING (s.rd TIM_ADMIT TIM_ADMIT_CURRENT != s.rd TIM_ADMIT TIM_ADMIT_TARGET)

/-- TIM_STAT.CFG_REJ is set. -/
def State.timRej (s : State) : State := s.wrB TIM_STAT TIM_STAT_CFG_REJ true

/-! ### Reads of the time registers (R54) -/

/-- TIM_NOW_LO read: all 64 bits of domain time are captured. -/
def opTimNowRead (s : State) : State :=
  (s.setCap TIM_NOW_HI (BitVec.ofNat 32 (s.dom / 2 ^ 32))).answer (s.dom % 2 ^ 32)

def execTimNowRead (t : Nat) (s : State) : Host.Outcome State Fault Refusal := s.runAt t opTimNowRead

/-- TIM_PPSIN_LO read (R52, R54). -/
def opTimPpsinRead (s : State) : State := s.readPair TIM_PPSIN_LO TIM_PPSIN_HI

def execTimPpsinRead (t : Nat) (s : State) : Host.Outcome State Fault Refusal := s.runAt t opTimPpsinRead

/-- TIM_STAT read: PPS_REJ clears (R54). -/
def opTimStatRead (s : State) : State :=
  (s.wr TIM_STAT TIM_STAT_PPS_REJ 0).answer (s.rdW TIM_STAT).toNat

def execTimStatRead (t : Nat) (s : State) : Host.Outcome State Fault Refusal := s.runAt t opTimStatRead

/-! ### Domain time and D -/

/-- TIM_SET_HI written: domain time becomes {SET_HI, SET_LO} while the grid is off (R33, R54). -/
def opDomainTimeSet (hi : Word) (s : State) : State :=
  if s.gridOn then s.timRej
  else { s with tim := { s.tim with lastRound := none, offset := ((hi.toNat * 2 ^ 32 + s.tim.setLo : Nat) : Int) - (s.now : Int) } }

def execDomainTimeSet (t : Nat) (hi : Word) (s : State) : Host.Outcome State Fault Refusal :=
  s.runAt t (opDomainTimeSet hi)

/-- TIM_ADMIT.TARGET written: a staged setting (R45, R47); a value out of range is ignored. -/
def opAdmitTargetWrite (target : Nat) (s : State) : State :=
  if 250 ≤ target ∧ target ≤ 3000 then
    let s := (s.wr TIM_ADMIT TIM_ADMIT_TARGET target).slewing
    { s with tim := { s.tim with targetStaged := some (s.stage target) } }
  else s.timRej

def execAdmitTargetWrite (t target : Nat) (s : State) : Host.Outcome State Fault Refusal :=
  s.runAt t (opAdmitTargetWrite target)

/-- D while the grid is off: CURRENT takes TARGET (R45). -/
def State.takeTarget (s : State) : State :=
  match s.tim.targetStaged with
  | some x =>
    let s := { s with tim := { s.tim with target := x.val, nextD := x.val, targetStaged := none } }
    (s.wr TIM_ADMIT TIM_ADMIT_CURRENT x.val).slewing
  | none =>
    let s := { s with tim := { s.tim with nextD := s.tim.target } }
    (s.wr TIM_ADMIT TIM_ADMIT_CURRENT s.tim.target).slewing

/-- TIM_CTRL's other bits written beside GRID_EN. -/
def State.setTimCtrl (s : State) (src ptpEn grid : Bool) : State :=
  ((s.wrB TIM_CTRL TIM_CTRL_SRC src).wrB TIM_CTRL TIM_CTRL_PTP_EN ptpEn).wrB TIM_CTRL TIM_CTRL_GRID_EN grid

/-- While the grid is off, TIM_APPLIED takes the round whose samples enclose the moment a setting takes effect (R559). -/
def State.noteApplied (s : State) : State :=
  if s.gridOn then s else s.wrW TIM_APPLIED (BitVec.ofNat 32 (roundAt s.fs s.roundLen s.dom))

/-! ### Synch state (R34, R35) -/

/-- The grandmaster's clockIdentity and clockClass as event 0x0E01 gives them: 0 when there is none, as with 1PPS_IN for the
source. Where this module is the grandmaster itself, `tim` holds identity 0 and class 248. -/
def State.gmShown (s : State) : Nat × Nat := if s.rdB TIM_CTRL TIM_CTRL_SRC then (0, 0) else (s.tim.gmId, s.tim.gmClass)

/-- Event 0x0E01 (R35). -/
def State.synchEvent (s : State) (old new cause : Nat) : State :=
  let (id, cls) := s.gmShown
  s.post 0x0E01 (p1 old ++ p1 new ++ p1 cause ++ p8 id ++ p1 cls ++ p4 (s.rdW TIM_SERVO).toNat)

/-- Whether 1PPS_OUT is driven now (R51). -/
def State.ppsDriven (s : State) : Bool :=
  s.rdB TIM_PPS TIM_PPS_OUT_EN && (s.synch != 0 || s.rdB TIM_PPS TIM_PPS_OUT_NONE)

/-- 1PPS_OUT is low while it is not driven (R51). -/
def State.ppsFollow (s : State) : State :=
  if s.ppsDriven then s else { s with tim := { s.tim with ppsOut := false } }

/-- The synch state written, with the moment from which it stands (R37); 1PPS_OUT follows it (R51). -/
def State.putSynch (s : State) (new : Nat) : State :=
  let s : State := { s with tim := { s.tim with synchHist := (s.now, new) :: s.tim.synchHist } }
  (s.wr TIM_STAT TIM_STAT_SYNCH new).ppsFollow

/-- The synch state as it stood at an instant of domain time (R37); NONE before the first. -/
def State.synchAt (s : State) (d : Nat) : Nat :=
  ((s.tim.synchHist.find? (fun e => decide (e.1 ≤ s.ownOf d))).map (·.2)).getD (if s.tim.synchHist.isEmpty then s.synch else 0)

/-- Event 0x0E02 (R35): phase and cause of holdover. -/
def State.holdoverEvent (s : State) (phase cause : Nat) : State :=
  s.post 0x0E02 (p1 phase ++ p1 s.synch ++ p1 cause ++ p8 s.tim.lastServo)

/-- The synch state becomes `new`; the record of R35 is written when it changes. -/
def State.setSynch (s : State) (new cause : Nat) : State :=
  let old := s.synch
  if old = new then s else (s.putSynch new).synchEvent old new cause

/-- Holdover ends without a word of its own. -/
def State.endHoldover (s : State) : State :=
  let s := s.wrB TIM_STAT TIM_STAT_HOLDOVER false
  { s with tim := { s.tim with holdoverFrom := none } }

/-- The servo locks: the state follows the source, and holdover ends (R34, R35).
DESIGN CHOICE, log entry 20. -/
def State.servoLock (s : State) (new cause : Nat) : State :=
  if s.rdB TIM_STAT TIM_STAT_HOLDOVER then
    let pps := s.rdB TIM_CTRL TIM_CTRL_SRC
    let old := s.synch
    let s := if old = new then s.endHoldover else s.endHoldover.putSynch new
    let s := s.holdoverEvent 2 (if pps then 2 else 1)
    if old = new then s else s.synchEvent old new cause
  else s.setSynch new cause

/-- A measured offset enters the servo: TIM_SERVO saturates, the servo takes a frequency of at most 200 ppm, which the spec
leaves open otherwise (R33), and an offset beyond ±1 ms drops the synch state (R34, R54).
DESIGN CHOICE, log entry 20. -/
def State.servoOffset (s : State) (offset : Int) : State :=
  let s := s.wrW TIM_SERVO (BitVec.ofNat 32 (ofSigned 32 (clampInt (-2147483647) 2147483647 offset)))
  let (v, s) := s.draw
  let s : State := { s with tim := { s.tim with lastServo := s.dom, slew := clampInt (-200000) 200000 v.toInt } }
  if offset < -1000000 ∨ 1000000 < offset then
    let s := { s with tim := { s.tim with lockCount := 0 } }
    (s.endHoldover).setSynch 0 8
  else s

/-- Consecutive measurements within ±1 µs of one source, up to seventeen (R34).
DESIGN CHOICE, log entry 20. -/
def State.countLock (s : State) (offset : Int) (gm : Nat) : State :=
  if -1000 ≤ offset ∧ offset ≤ 1000 then
    let n := if s.tim.lockGm = gm then s.tim.lockCount + 1 else 1
    { s with tim := { s.tim with lockGm := gm, lockCount := satNat 17 n } }
  else { s with tim := { s.tim with lockGm := gm, lockCount := 0 } }

/-- Whether the servo locks now: the sixteenth measurement in a row, or a further one while the lock has a row of R34 still to
take (from NONE, from holdover, or from LOCAL to GLOBAL); never without REFCLK_10M_IN (R34, R53).
DESIGN CHOICE, log entry 20. -/
def State.locksNow (s : State) (global : Bool) : Bool :=
  s.rdB TIM_STAT TIM_STAT_REF_OK
    && (s.tim.lockCount == 16
      || (s.tim.lockCount == 17 && (s.synch == 0 || s.rdB TIM_STAT TIM_STAT_HOLDOVER || (s.synch == 1 && global))))

/-- The timestamps of a port. -/
def State.ptpPort (s : State) (n : Nat) : PtpPort := cget (fun _ => {}) s.tim.ptp n
def State.setPtpPort (s : State) (n : Nat) (p : PtpPort) : State :=
  { s with tim := { s.tim with ptp := cset (fun _ => {}) s.tim.ptp n p } }

/-- Whether a port takes part in PTP: a line or domain port whose mode is not off (R30, R31). -/
def State.ptpOn (s : State) (port : Nat) : Bool :=
  decide (port < 28) && s.portPresent port && s.rd (TIM_PORT_PTP port) TIM_PORT_PTP_MODE != 0

/-- The receive timestamp of an event message: domain time at the port with ASYM added (R32). -/
def State.rxStamp (s : State) (port : Nat) : Int := (s.dom : Int) + toSigned 16 (s.rd (TIM_PORT_PTP port) TIM_PORT_PTP_ASYM)

/-- A Sync of the master: its offset from domain time steers the servo while PTP_EN is 1, SRC is 0 and the port is a clock
port, and sixteen in a row within ±1 µs lock it (R31, R32, R34, R53). A lock in GLOBAL to a grandmaster of another class than
6 and 7 has no row in R34; the model goes LOCAL with cause 2.
DESIGN CHOICE, log entry 20. -/
def State.ptpSync (s : State) (port origin gmId gmClass : Nat) : State :=
  if s.rdB TIM_CTRL TIM_CTRL_PTP_EN && !s.rdB TIM_CTRL TIM_CTRL_SRC && s.rd (TIM_PORT_PTP port) TIM_PORT_PTP_MODE == 1 then
    let off := s.rxStamp port - (origin : Int) - (s.ptpPort port).delay
    let s : State := { s with tim := { s.tim with gmId := gmId, gmClass := gmClass, isGm := false, lastSync := some s.now } }
    let s := (s.servoOffset off).countLock off (gmId + 1)
    let global := gmClass == 6 || gmClass == 7
    if s.locksNow global then (if global then s.servoLock 2 1 else s.servoLock 1 2) else s
  else s

/-- The event message that a command's operands spell (log entry 12): the origin of a Sync is the first of `times`, and its
grandmaster's identity and class are `gm`; a Pdelay_Resp has t2 and t3 in `times`; the bytes are those of one that the steward sends. -/
def ptpMsg (kind : PtpKind) (times gm : Nat × Nat) (bytes : List Byte) : PtpMsg :=
  match kind with
  | .sync => .sync times.1 gm.1 gm.2
  | .pdelayReq => .pdelayReq
  | .pdelayResp => .pdelayResp times.1 times.2
  | .send => .send bytes

/-- A PTP event message received on a port that takes part: its timestamp is held (R32); a Sync steers the servo, and a
Pdelay_Resp gives the mean path delay from the four timestamps of the exchange (R30).
DESIGN CHOICE, log entry 20. -/
def State.ptpReceive (s : State) (port : Nat) (msg : PtpMsg) : State :=
  if !s.ptpOn port then s
  else
    let rx := s.rxStamp port
    let p := s.ptpPort port
    let p : PtpPort := match msg with
      | .pdelayResp t2 t3 => { p with delay := ((rx - (p.tx : Int)) - ((t3 : Int) - (t2 : Int))) / 2 }
      | _ => p
    let s := s.setPtpPort port { p with rx := rx.toNat }
    match msg with
    | .sync origin gmId gmClass => s.ptpSync port origin gmId gmClass
    | _ => s

/-- The present grandmaster's clockClass changes: GLOBAL needs 6 or 7 (R34) and the reference (R53). -/
def opClockclassChange (gmClass : Nat) (s : State) : State :=
  let s := { s with tim := { s.tim with gmClass := gmClass } }
  if s.synch = 2 ∧ gmClass ≠ 6 ∧ gmClass ≠ 7 then s.setSynch 1 5
  else if s.synch = 1 ∧ (gmClass = 6 ∨ gmClass = 7) ∧ s.rdB TIM_STAT TIM_STAT_REF_OK then s.setSynch 2 5
  else s

/-- The module becomes grandmaster: LOCAL from NONE where the reference is there (R53), announcing clockClass 248 (R34). The
clockIdentity and clockClass that event 0x0E01 then shows are 0 and 248, which R35 leaves open.
DESIGN CHOICE, log entry 20. -/
def opBecomeGrandmaster (s : State) : State :=
  let s := { s with tim := { s.tim with gmId := 0, gmClass := 248, isGm := true } }
  if s.synch = 0 ∧ s.rdB TIM_STAT TIM_STAT_REF_OK then s.setSynch 1 4 else s

/-- Whether the source is silent (R34): Sync for 3 announce intervals of 1 s (R30), 1PPS_IN for 1.5 s. That Announce
messages are missing, which the block does not see, is the environment's word; while this module is the grandmaster it has no
master.
DESIGN CHOICE, log entry 20. -/
def State.sourceSilent (s : State) (cause : HoldCause) : Bool :=
  let pps := s.rdB TIM_CTRL TIM_CTRL_SRC
  match cause with
  | .announce => !pps && !s.tim.isGm
  | .sync => !pps && !s.tim.isGm && s.tim.lastSync.all (fun x => decide (x + 3000000000 ≤ s.now))
  | .pps => pps && s.tim.lastEdge.all (fun x => decide (x + 1500000000 ≤ s.now))

/-- The master or the 1PPS_IN source falls silent: holdover in the same synch state, at the servo's last frequency (R34,
R35). -/
def opHoldoverEntry (cause : HoldCause) (s : State) : State :=
  if s.synch = 0 ∨ s.rdB TIM_STAT TIM_STAT_HOLDOVER ∨ !s.sourceSilent cause then s
  else
    let s := s.wrB TIM_STAT TIM_STAT_HOLDOVER true
    let s := { s with tim := { s.tim with holdoverFrom := some s.now, lockCount := 0 } }
    s.holdoverEvent 1 (if cause = .pps then 2 else 1)

def execHoldoverEntry (t : Nat) (cause : HoldCause) (s : State) : Host.Outcome State Fault Refusal :=
  s.runAt t (opHoldoverEntry cause)

/-- TIM_HOLD.LIMIT in s; 0 is treated as 1 (R54). -/
def State.holdLimit (s : State) : Nat := max 1 (s.rd TIM_HOLD TIM_HOLD_LIMIT)

/-- Holdover that has lasted LIMIT seconds ends in NONE (R34); before that the command finds nothing to do. -/
def opHoldoverLimit (s : State) : State :=
  match s.tim.holdoverFrom with
  | some h => if h + s.holdLimit * 1000000000 ≤ s.now then (s.endHoldover).setSynch 0 6 else s
  | none => s

def execHoldoverLimit (t : Nat) (s : State) : Host.Outcome State Fault Refusal := s.runAt t opHoldoverLimit

/-- REFCLK_10M_IN lost: REF_OK clears and the state is NONE; the record is written whatever the state was (R34, R35). -/
def opRefclkLost (s : State) : State :=
  if s.rdB TIM_STAT TIM_STAT_REF_OK then
    let old := s.synch
    let s := (s.endHoldover).wrB TIM_STAT TIM_STAT_REF_OK false
    let s := { s with tim := { s.tim with lockCount := 0 } }
    (s.putSynch 0).synchEvent old 0 7
  else s

def execRefclkLost (t : Nat) (s : State) : Host.Outcome State Fault Refusal := s.runAt t opRefclkLost

/-- REFCLK_10M_IN is back: REF_OK and event 0x0E03 (R35). -/
def opRefclkRestored (s : State) : State :=
  if s.rdB TIM_STAT TIM_STAT_REF_OK then s
  else (s.wrB TIM_STAT TIM_STAT_REF_OK true).post 0x0E03 (p8 s.dom)

def execRefclkRestored (t : Nat) (s : State) : Host.Outcome State Fault Refusal :=
  s.runAt t opRefclkRestored

/-! ### Time balls (R51, R52) -/

/-- A TAI second: 1PPS_OUT rises, at most 4 ns after it, when it is driven (R51). -/
def opPpsOutRise (s : State) : State :=
  if s.ppsDriven ∧ s.dom % 1000000000 ≤ 4 then { s with tim := { s.tim with ppsOut := true, ppsOutAt := s.now } } else s

def execPpsOutRise (t : Nat) (s : State) : Host.Outcome State Fault Refusal := s.runAt t opPpsOutRise

/-- 1PPS_OUT falls once OUT_WIDTH ms have passed (R51). -/
def opPpsOutFall (s : State) : State :=
  if s.tim.ppsOutAt + s.rd TIM_PPS TIM_PPS_OUT_WIDTH * 1000000 ≤ s.now then
    { s with tim := { s.tim with ppsOut := false } }
  else s

def execPpsOutFall (t : Nat) (s : State) : Host.Outcome State Fault Refusal := s.runAt t opPpsOutFall

/-- The signed distance of instant `x` from the nearest second. -/
def secondDistance (x : Nat) : Int :=
  let r := x % 1000000000
  if r < 500000000 then (r : Int) else (r : Int) - 1000000000

/-- An edge of 1PPS_IN: timestamped when it is the selected one and within 1 ms of a second, else rejected and counted;
with SRC = 1 it feeds the servo (R34, R35, R52).
DESIGN CHOICE, log entry 20. -/
def opPpsInEdge (rising : Bool) (s : State) : State :=
  if s.rdB TIM_PPS TIM_PPS_IN_EN && (rising == !s.rdB TIM_PPS TIM_PPS_IN_EDGE) then
    let d := secondDistance s.stamp
    if d < -1000000 ∨ 1000000 < d then
      let s := s.wr TIM_STAT TIM_STAT_PPS_REJ (satNat 255 (s.rd TIM_STAT TIM_STAT_PPS_REJ + 1))
      s.postLimited 0x20F 0x0E04 0 (p8 s.dom ++ pInt 4 d)
    else
      let s := s.wr64 TIM_PPSIN_LO TIM_PPSIN_HI s.stamp
      let s : State := { s with tim := { s.tim with lastEdge := some s.now } }
      if s.rdB TIM_CTRL TIM_CTRL_SRC then
        let s := (s.servoOffset d).countLock d 0
        if s.locksNow false then s.servoLock 1 3 else s
      else s
  else s

end Sys2Proof.Machine
end

