-- ==== Sys2Proof/Machine/Memory.lean ====
section
/-! DEFINITION. Scratch banks and DRAM (R459 to R476): ownership and hand-over, the two ports, error correction, patrol
scrub and BIST. -/

namespace Sys2Proof.Machine

/-- MEM_STAT.CFG_REJ is set. -/
def State.memRej (s : State) : State := s.wrB MEM_STAT MEM_STAT_CFG_REJ true

/-- The state of a bank (R474): 0 UNOWNED, 1 OWNED, 2 DRAINING, 3 ZEROING, 4 BIST, 5 FAILED. -/
def State.bankState (s : State) (n : Nat) : Nat := s.rd (MEM_BANK_STAT n) MEM_BANK_STAT_STATE
def State.setBankState (s : State) (n v : Nat) : State := s.wr (MEM_BANK_STAT n) MEM_BANK_STAT_STATE v

/-- The owner word that port A serves. -/
def State.servedOwner (s : State) (n : Nat) : Word := cget (fun _ => 0) s.bank.served n
def State.setServed (s : State) (n : Nat) (w : Word) : State :=
  { s with bank := { s.bank with served := cset (fun _ => 0) s.bank.served n w } }

/-- Whether `req` is the owner that an owner word names (R461). -/
def ownerIs (w : Word) (req : MemReq) : Bool :=
  let k := fget MEM_BANK_OWNER_KIND w
  match req with
  | .core c t | .fetch c t => k == 1 && fget MEM_BANK_OWNER_CLUSTER w == c / 8 && fget MEM_BANK_OWNER_TENANT w == t
  | .ing => k == 2
  | .cle => k == 3
  | .lge => k == 4
  | .recorder => k == 5
  | .steward | .dma | .jtag => false

/-- Whether port A serves a request now (R461 to R463). -/
def State.portAServes (s : State) (n : Nat) (req : MemReq) : Bool :=
  s.rdB MEM_CTRL MEM_CTRL_EN && s.bankState n == 1 && ownerIs (s.servedOwner n) req

/-- The requester as the one-byte code of event 0x0D02 (notes/assumptions/13).
DESIGN CHOICE, log entry 13. -/
def memReqCode : MemReq → Nat
  | .core _ _ | .fetch _ _ => 1 | .ing => 2 | .cle => 3 | .lge => 4 | .recorder => 5 | .steward => 6 | .dma => 7 | .jtag => 8

/-- A port A refusal: counted, and event 0x0D02 at most once per second per bank (R462). -/
def State.bankFault (s : State) (n : Nat) (req : MemReq) (a : Nat) : State :=
  (s.bump (cntMEM_BANK_FAULTS n) 1).postLimited (almRoute 0x0D02 0) 0x0D02 n (p1 n ++ p1 (memReqCode req) ++ p8 a)

/-! ### Words with uncorrectable errors -/

/-- Whether the 8-byte word at `a` holds an uncorrectable error. -/
def State.wordBad (s : State) (a : Nat) : Bool := cget (fun _ => false) s.bank.bad (a / 8)
def State.setBad (s : State) (a : Nat) (b : Bool) : State :=
  { s with bank := { s.bank with bad := cset (fun _ => false) s.bank.bad (a / 8) b } }

/-- The 8-byte words that `n` bytes from `a` on touch. -/
def wordsOf (a n : Nat) : List Nat :=
  if n = 0 then [] else (List.range ((a + n - 1) / 8 - a / 8 + 1)).map (fun i => (a / 8 + i) * 8)

/-- MEM_ERR takes an uncorrectable error (R468, R472, R474): port 0 A, 1 B, 2 DRAM; source 0 access, 1 patrol. -/
def State.memErr (s : State) (a port src : Nat) : State :=
  let s := (s.wrW MEM_ERR_LO (BitVec.ofNat 32 a)).wr MEM_ERR_HI MEM_ERR_HI_ADDR (a / 2 ^ 32)
  ((s.wr MEM_ERR_INFO MEM_ERR_INFO_DOMAIN_TIME_LO (s.dom / 1000)).wr MEM_ERR_INFO MEM_ERR_INFO_PORT port).wr
    MEM_ERR_INFO MEM_ERR_INFO_SOURCE src

/-- An uncorrectable error found in a bank word: counted, MEM_ERR, and event 0x0D04 once per word (R467, R474). -/
def State.bankUe (s : State) (n a port src : Nat) : State :=
  let was := s.wordBad a
  let s := s.bump (cntMEM_BANK_UE n) 1
  let s := (s.setBad a true).memErr a port src
  if was then s else s.post 0x0D04 (p1 n ++ p8 a ++ p1 port)

/-- An uncorrectable error found in a DRAM word: counted, MEM_ERR, and event 0x0D05 once per line (R468, R472). -/
def State.dramUe (s : State) (a : Nat) (req : Nat) (src : Nat) : State :=
  let line := a / 64 * 64
  let was := (List.range 8).any (fun i => s.wordBad (line + 8 * i))
  let s := (s.bump cntMEM_DRAM_UE 1).memErr a 2 src
  let s := s.setBad a true
  if was then s else s.post 0x0D05 (p8 a ++ p1 req)

/-- The errors of the words that an access reads, taken into the state (R467). -/
def State.bankEcc (s : State) (n a len port : Nat) (found : EccFound) : State :=
  (wordsOf a len).foldl (fun s w =>
    if found.double.contains w || s.wordBad w then s.bankUe n w port 0
    else if found.single.contains w then s.bump (cntMEM_BANK_CE n) 1
    else s) s

/-- Whether some word of an access holds an uncorrectable error. -/
def State.anyBad (s : State) (a len : Nat) : Bool := (wordsOf a len).any s.wordBad

/-- Whether a write of `len` bytes at `a` replaces all 8 lanes of word `w`. -/
def coversWord (a len w : Nat) : Bool := a ≤ w && w + 8 ≤ a + len

/-- A write inside one row: words fully written get fresh ECC; a word with an uncorrectable error that is written only
in part is not written, and the write is reported (R467). -/
def State.bankWrite (s : State) (n a port : Nat) (bs : List Byte) : Bool × State :=
  (wordsOf a bs.length).foldl (fun (r : Bool × State) w =>
    let lo := max a w
    let hi := min (a + bs.length) (w + 8)
    let part := (bs.drop (lo - a)).take (hi - lo)
    if r.2.wordBad w && !coversWord a bs.length w then (true, r.2.bankUe n w port 0)
    else (r.1, (r.2.setBad w false).setBytes lo part)) (false, s)

/-- An access split at the 16-byte window boundary (R466): the parts, lower first. -/
def windowParts (a len : Nat) : List (Nat × Nat) :=
  if len = 0 then []
  else if a / 16 = (a + len - 1) / 16 then [(a, len)]
  else [(a, 16 - a % 16), (a / 16 * 16 + 16, len - (16 - a % 16))]

/-- Whether a bank access has a form R460 and R466 allow: 1, 2, 4 or 8 bytes anywhere, 16 bytes aligned. -/
def bankForm (a len : Nat) : Bool :=
  len == 1 || len == 2 || len == 4 || len == 8 || (len == 16 && a % 16 == 0)

/-- A write recorded in the dirty logs through the frame table; a core's is recorded through its map (R214). -/
def State.noteReqWrite (s : State) (req : MemReq) (a n : Nat) : State :=
  match req with
  | .core _ _ | .fetch _ _ => s
  | _ => s.noteWrite a n

/-- A fault reported to its requester (R26); that of a core is its tenant's fault, which the scheduler takes. -/
def State.faultTo (s : State) (req : MemReq) : State := if req = .dma then s.descFault else s.busFault

/-- One part of a port A access: refused for another requester than the owner (R462), else done under R467. The first
component says whether the requester got an error. -/
def State.portAPart (s : State) (req : MemReq) (a len : Nat) (write : Option (List Byte)) (found : EccFound) :
    Bool × State :=
  match bankOf a len with
  | none => (true, s)
  | some n =>
    if !s.portAServes n req then (true, s.bankFault n req a)
    else match write with
      | some bs => (s.noteReqWrite req a bs.length).bankWrite n a 0 bs
      | none =>
        let s := s.bankEcc n a len 0 found
        (s.anyBad a len, s)

/-- A port A access (R460 to R467): its parts in order; a refused first part does nothing, a refused second part leaves
the first. The requester's data or its error is on the bus.
DESIGN CHOICE, log entry 26. -/
def State.portADevice (s : State) (req : MemReq) (a len : Nat) (write : Option (List Byte)) (found : EccFound) : State :=
  if !bankForm a len then s.faultTo req
  else
    match windowParts a len with
    | [] => s.faultTo req
    | (a1, n1) :: rest =>
      let (e1, s) := s.portAPart req a1 n1 (write.map (·.take n1)) found
      match rest with
      | [] => if e1 then s.faultTo req else s.answer (if write.isNone then s.le a len else 0)
      | (a2, n2) :: _ =>
        if e1 then s.faultTo req
        else
          let (e2, s) := s.portAPart req a2 n2 (write.map (·.drop n1)) found
          if e2 then s.faultTo req else s.answer (if write.isNone then s.le a len else 0)

/-! ### Port B and collisions (R465) -/

/-- The lanes of word `w` on which a write of port A and one of port B differ, as LANES_LOST bits (R465). -/
def lanesLost (w a : Nat) (as : List Byte) (b : Nat) (bs : List Byte) : Nat :=
  (List.range 8).foldl (fun m l =>
    let x := w + l
    if a ≤ x ∧ x < a + as.length ∧ b ≤ x ∧ x < b + bs.length ∧
       as.getD (x - a) 0 ≠ bs.getD (x - b) 0 then m + 2 ^ l else m) 0

/-- A port B access of one row: never refused for ownership; an error on a FAILED bank, and while the bank is zeroed or
tested it waits, which this step does not show (R460, R462, R463, R469). -/
def State.portBPart (s : State) (a len : Nat) (write : Option (List Byte)) (found : EccFound) : Bool × State :=
  match bankOf a len with
  | none => (true, s)
  | some n =>
    if s.bankState n = 5 then (true, s)
    else match write with
      | some bs => (s.noteWrite a bs.length).bankWrite n a 1 bs
      | none =>
        let s := s.bankEcc n a len 1 found
        (s.anyBad a len, s)

/-- The pieces of a port B access: split at window boundaries (R466). -/
def portBPieces (a len : Nat) : List (Nat × Nat) :=
  ((List.range (len / 16 + 2)).foldl (fun (p : List (Nat × Nat) × Nat) _ =>
    if p.2 < a + len then
      let e := min (a + len) (p.2 / 16 * 16 + 16)
      (p.1 ++ [(p.2, e - p.2)], e)
    else p) ([], a)).1

/-- A port B access of any length, piece by piece (R466); the first component says whether there was an error. -/
def State.portBDevice (s : State) (a len : Nat) (write : Option (List Byte)) (found : EccFound) : Bool × State :=
  (portBPieces a len).foldl (fun (r : Bool × State) p =>
    let (e, s) := r.2.portBPart p.1 p.2 (write.map (fun bs => (bs.drop (p.1 - a)).take p.2)) found
    (r.1 || e, s)) (false, s)

/-! ### DRAM (R471, R472) -/

/-- A DRAM access of some bytes: single errors corrected and counted; an uncorrectable error fails a read, is cleared by a
whole-word write and stops a partial one (R467, R472). The first component says whether the requester got an error. -/
def State.dramDevice (s : State) (req : MemReq) (a len : Nat) (write : Option (List Byte)) (found : EccFound) : Bool × State :=
  match write with
  | none =>
    let s := (wordsOf a len).foldl (fun s w =>
      if found.double.contains w || s.wordBad w then s.dramUe w (memReqCode req) 0
      else if found.single.contains w then s.bump cntMEM_DRAM_CE 1 else s) s
    (s.anyBad a len, s)
  | some bs =>
    let s := s.noteReqWrite req a bs.length
    let s := if a % 64 = 0 ∧ bs.length % 64 = 0 then s else s.bump cntMEM_DRAM_RMW 1
    (wordsOf a bs.length).foldl (fun (r : Bool × State) w =>
      let lo := max a w
      let hi := min (a + bs.length) (w + 8)
      if r.2.wordBad w && !coversWord a bs.length w then (true, r.2.dramUe w (memReqCode req) 0)
      else (r.1, (r.2.setBad w false).setBytes lo ((bs.drop (lo - a)).take (hi - lo)))) (false, s)

/-! ### Engines' accesses to banks and DRAM (R462, R473)

An engine reads zero with an error from a bank it does not own, and its writes there are discarded. -/

/-- Whether an engine reaches `n` bytes at `a`: DRAM that is present, or a bank it owns.
DESIGN CHOICE, log entry 54. -/
def State.engineReaches (s : State) (req : MemReq) (a n : Nat) : Bool :=
  if s.inDram a n then true else match bankOf a n with | some b => s.portAServes b req | none => false

/-- The words with uncorrectable errors that an engine's read finds, counted and reported (R467, R472). -/
def State.engineUe (s : State) (req : MemReq) (a n : Nat) : State :=
  ((wordsOf a n).filter s.wordBad).foldl (fun (s : State) w =>
    match bankOf w 8 with | some b => s.bankUe b w 0 0 | none => s.dramUe w (memReqCode req) 0) s

/-- An engine's read: none with the refusal counted (R462), or with an uncorrectable error. -/
def State.engineRead (s : State) (req : MemReq) (a n : Nat) : Option (List Byte) × State :=
  if s.engineReaches req a n then
    (if s.anyBad a n then (none, s.engineUe req a n) else (some (s.bytes a n), s))
  else match bankOf a n with
    | some b => (none, s.bankFault b req a)
    | none => (none, s)

/-- An engine's write. -/
def State.engineWrite (s : State) (req : MemReq) (a : Nat) (bs : List Byte) : State :=
  if s.engineReaches req a bs.length then s.store a bs
  else match bankOf a bs.length with
    | some b => s.bankFault b req a
    | none => s

/-! ### Hand-over (R461 to R464) -/

/-- Whether an owner word names an owner that R461 lists and that is present. -/
def State.ownerOk (s : State) (w : Word) : Bool :=
  let k := fget MEM_BANK_OWNER_KIND w
  let c := fget MEM_BANK_OWNER_CLUSTER w
  let t := fget MEM_BANK_OWNER_TENANT w
  if k = 1 then s.clusterPresent c && s.tenantPresent t && s.rd (TEN_CFG t) TEN_CFG_HOME == c
  else if k = 3 then s.clePresent
  else k ≤ 6

/-- The owner word with its reserved bits zero. -/
def ownerWord (w : Word) : Word :=
  fset MEM_BANK_OWNER_TENANT (fset MEM_BANK_OWNER_CLUSTER (fset MEM_BANK_OWNER_KIND
    (fset MEM_BANK_OWNER_ZERO 0 (fget MEM_BANK_OWNER_ZERO w)) (fget MEM_BANK_OWNER_KIND w))
    (fget MEM_BANK_OWNER_CLUSTER w)) (fget MEM_BANK_OWNER_TENANT w)

/-- Whether MEM_BANK_OWNER of a bank accepts a word now (R461, R464). -/
def State.handoverOk (s : State) (n : Nat) (w : Word) : Bool :=
  n < 16 && s.bankState n ≤ 1 && s.ownerOk w

/-- MEM_BANK_OWNER written: the hand-over starts with DRAINING, in which port A serves nobody (R463).
DESIGN CHOICE, log entry 54. -/
def opBankHandover (n : Nat) (w : Word) (s : State) : State :=
  if s.handoverOk n w then
    let old := s.servedOwner n
    let s := { s with bank := { s.bank with before := cset (fun _ => 0) s.bank.before n old } }
    ((s.wrW (MEM_BANK_OWNER n) (ownerWord w)).setServed n 0).setBankState n 2
  else s.memRej

def execBankHandover (t bank : Nat) (owner : Word) (s : State) : Host.Outcome State Fault Refusal :=
  s.runAt t (opBankHandover bank owner)

/-- The new owner is served and event 0x0D01 written (R463 step 4).
DESIGN CHOICE, log entry 54. -/
def State.finishHandover (s : State) (n : Nat) : State :=
  let w := s.rdW (MEM_BANK_OWNER n)
  let old := cget (fun _ => 0) s.bank.before n
  let s := (s.setServed n w).setBankState n (if fget MEM_BANK_OWNER_KIND w = 0 then 0 else 1)
  let s := { s with bank := { s.bank with before := cset (fun _ => 0) s.bank.before n 0 } }
  s.post 0x0D01 (p1 n ++ p4 old.toNat ++ p4 w.toNat ++ p1 (fget MEM_BANK_OWNER_ZERO w))

/-- A draining bank is idle: it is zeroed, or the new owner is served at once (R463). -/
def opBankIdle (n : Nat) (s : State) : State :=
  if n < 16 ∧ s.bankState n = 2 then
    if s.rdB (MEM_BANK_OWNER n) MEM_BANK_OWNER_ZERO then s.setBankState n 3 else s.finishHandover n
  else s

def execBankIdle (t bank : Nat) (s : State) : Host.Outcome State Fault Refusal := s.runAt t (opBankIdle bank)

/-- A bank's contents become zero with correct ECC (R463, R469). -/
def State.zeroBank (s : State) (n : Nat) : State :=
  let inBank := fun a => bankBase n ≤ a && a < bankBase (n + 1)
  { s with mem := cerase inBank s.mem,
           bank := { s.bank with bad := cerase (fun w => inBank (w * 8)) s.bank.bad } }

/-- Zeroing ends and the new owner is served (R463). -/
def opBankZeroingDone (n : Nat) (s : State) : State :=
  if n < 16 ∧ s.bankState n = 3 then (s.zeroBank n).finishHandover n else s

def execBankZeroingDone (t bank : Nat) (s : State) : Host.Outcome State Fault Refusal :=
  s.runAt t (opBankZeroingDone bank)

/-! ### BIST and patrol scrub (R468, R469) -/

/-- MEM_BANK_BIST.START: the test runs on an unowned or failed bank (R469). -/
def opBankBistStart (n : Nat) (s : State) : State :=
  if n < 16 ∧ (s.bankState n = 0 ∨ s.bankState n = 5) then s.setBankState n 4 else s.memRej

def execBankBistStart (t bank : Nat) (s : State) : Host.Outcome State Fault Refusal :=
  s.runAt t (opBankBistStart bank)

/-- The outcome of a bank's test: zeroed and UNOWNED, or withdrawn (R469). -/
def State.bistOutcome (s : State) (n : Nat) (failSub : Option Nat) : State :=
  let b := s.rd MEM_BANK_FAILED MEM_BANK_FAILED_BANKS
  match failSub with
  | none =>
    let s := ((s.zeroBank n).setBankState n 0).setServed n 0
    let s := (s.wrW (MEM_BANK_OWNER n) 0).wr MEM_BANK_FAILED MEM_BANK_FAILED_BANKS (nsetBit b n false)
    (s.wrB (MEM_BANK_BIST n) MEM_BANK_BIST_FAIL false).wr (MEM_BANK_BIST n) MEM_BANK_BIST_FAIL_SUB 0
  | some f =>
    let s := ((s.setBankState n 5).setServed n 0).wr MEM_BANK_FAILED MEM_BANK_FAILED_BANKS (nsetBit b n true)
    let s := (s.wrB (MEM_BANK_BIST n) MEM_BANK_BIST_FAIL true).wr (MEM_BANK_BIST n) MEM_BANK_BIST_FAIL_SUB f
    s.post 0x0D03 (p1 n ++ p1 f)

/-- A bank's test ends (R469). -/
def opBankBistComplete (n : Nat) (failSub : Option Nat) (s : State) : State :=
  if n < 16 ∧ s.bankState n = 4 then s.bistOutcome n failSub else s

def execBankBistComplete (t bank : Nat) (failSub : Option Nat) (s : State) : Host.Outcome State Fault Refusal :=
  s.runAt t (opBankBistComplete bank failSub)

/-- A record of the Almanac bank found damaged: event 0x0A05 once per record (R378); the bank offset is where the
record lies in its channel's region. -/
def State.damageRecord (s : State) (ch seq : Nat) : State :=
  let c := s.chan ch
  match c.recs.find? (fun r => r.seq = seq) with
  | none => s
  | some r =>
    if r.damaged then s
    else
      let off := 256 * s.rd (ALM_CH_CFG ch) ALM_CH_CFG_BASE + ((c.recs.takeWhile (fun r => r.seq ≠ seq)).map (·.bytes)).sum
      let s := s.setChan ch { c with recs := c.recs.map (fun x => if x.seq = seq then { x with damaged := true } else x) }
      s.post 0x0A05 (p2 ch ++ p4 seq ++ p8 off)

/-- The scrub's findings enter the Vigil period (R425). -/
def State.noteScrub (s : State) (ce : Nat) (ue : Bool) : State :=
  let v := s.dpx.vigil
  { s with dpx := { s.dpx with vigil := { v with ce := v.ce + ce, scrubUe := v.scrubUe || ue } } }

/-- The patrol scrub reads: corrected words count CE, uncorrectable ones go to MEM_ERR, the Almanac and UE; nothing is
read while SCRUB_EN is 0 or while the bank is zeroed or tested (R464, R468). -/
def opPatrolScrub (target : ScrubTarget) (found : EccFound) (passDone : Bool) (s : State) : State :=
  if !s.rdB MEM_CTRL MEM_CTRL_SCRUB_EN then s
  else match target with
    | .bank n =>
      if n < 16 ∧ (s.bankState n = 0 ∨ s.bankState n = 1 ∨ s.bankState n = 2) then
        let inBank := fun (w : Nat) => bankOf w 8 == some n
        let one := found.single.filter inBank
        let two := found.double.filter inBank
        let s := s.bump (cntMEM_BANK_CE n) one.length
        (two.foldl (fun s w => s.bankUe n w 1 1) s).noteScrub one.length (!two.isEmpty)
      else s
    | .dram =>
      let one := found.single.filter (fun w => s.inDram w 8)
      let two := found.double.filter (fun w => s.inDram w 8)
      let s := s.bump cntMEM_DRAM_CE one.length
      let s := (two.foldl (fun s w => s.dramUe w 0 1) s).noteScrub one.length (!two.isEmpty)
      if passDone then s.bump cntMEM_SCRUB_PASSES 1 else s
    | .almanac damaged => (damaged.foldl (fun s d => s.damageRecord d.1 d.2) s).noteScrub 0 (!damaged.isEmpty)

def execPatrolScrub (t : Nat) (target : ScrubTarget) (found : EccFound) (passDone : Bool) (s : State) :
    Host.Outcome State Fault Refusal := s.runAt t (opPatrolScrub target found passDone)

/-- MEM_ERR_LO read: LO, HI and INFO are captured together (R474). -/
def opMemErrRead (s : State) : State :=
  let s := s.setCap MEM_ERR_INFO (s.rdW MEM_ERR_INFO)
  s.readPair MEM_ERR_LO MEM_ERR_HI

def execMemErrRead (t : Nat) (s : State) : Host.Outcome State Fault Refusal := s.runAt t opMemErrRead

end Sys2Proof.Machine
end

