-- ==== Sys2Proof/Machine/Mgmt.lean ====
section
/-! DEFINITION. The management port's own addresses (R494, R517): the steward answers ARP and IPv6 neighbour discovery for them. -/

namespace Sys2Proof.Machine

/-- The sum of big-endian 16-bit words, an odd last byte padded with zero. -/
def sum16 : List Byte → Nat
  | [] => 0
  | [a] => a.toNat * 256
  | a :: b :: r => a.toNat * 256 + b.toNat + sum16 r

/-- The Internet checksum: the complement of the ones' complement sum. -/
def inetSum (n : Nat) : Nat :=
  let f (x : Nat) : Nat := x % 65536 + x / 65536
  65535 - f (f (f n))

/-- The steward's frame leaves the management port, padded to 60 bytes (R75) and counted (R92). -/
def State.mgmtSend (s : State) (b : List Byte) : State :=
  let b := b ++ List.replicate (60 - b.length) 0
  ((s.send (.frame 28 b false)).bump (cntPRT_TX_OCTETS 28) (b.length + 4)).bump (cntPRT_TX_FRAMES 28) 1

/-- The management port's MAC address. -/
def mgmtMac : List Byte := beBytes 6 Config.mgmtMac.toNat

/-- An ARP request for the IPv4 address of the management port, and its answer.
PRESUMED, log entry 57. -/
def State.arpAnswer (s : State) (b : List Byte) : Option (List Byte) :=
  if beAt b 12 2 = 0x0806 ∧ beAt b 14 2 = 1 ∧ beAt b 16 2 = 0x0800 ∧ beAt b 18 2 = 0x0604 ∧ beAt b 20 2 = 1 ∧ 42 ≤ b.length
      ∧ s.mbx.ip4 = some (beAt b 38 4) then
    some (slice b 6 6 ++ mgmtMac ++ slice b 12 8 ++ beBytes 2 2 ++ mgmtMac ++ slice b 38 4 ++ slice b 22 10)
  else none

/-- A neighbour solicitation for the IPv6 address of the management port, and its advertisement.
PRESUMED, log entry 57. -/
def State.ndAnswer (s : State) (b : List Byte) : Option (List Byte) :=
  if beAt b 12 2 = 0x86DD ∧ byteAt b 20 = 58 ∧ byteAt b 21 = 255 ∧ byteAt b 54 = 135 ∧ byteAt b 55 = 0 ∧ 78 ≤ b.length
      ∧ s.mbx.ip6 = some (beAt b 62 16) then
    let unspec := beAt b 22 16 = 0
    let dst := if unspec then beBytes 16 0xFF020000000000000000000000000001 else slice b 22 16
    let own := slice b 62 16
    let msg := fun (sum : Nat) => bytesOf [136, 0] ++ beBytes 2 sum ++ beBytes 4 (if unspec then 0x20000000 else 0x60000000) ++ own
      ++ bytesOf [2, 1] ++ mgmtMac
    let sum := inetSum (sum16 (own ++ dst ++ beBytes 4 32 ++ beBytes 4 58 ++ msg 0))
    let mac := if unspec then bytesOf [0x33, 0x33, 0, 0, 0, 1] else slice b 6 6
    some (mac ++ mgmtMac ++ beBytes 2 0x86DD ++ beBytes 4 0x60000000 ++ beBytes 2 32 ++ bytesOf [58, 255] ++ own ++ dst ++ msg sum)
  else none

/-- A frame received at the management port, without FCS, as the steward takes it (R494): the answers above while the UDP transport
is on. Command datagrams and wake frames have commands of their own. -/
def State.mgmtFrame (s : State) (b : List Byte) : State :=
  if !s.rdB MBX_CTRL MBX_CTRL_EN ∨ !s.rdB MBX_CTRL MBX_CTRL_UDP_EN ∨ !s.mbx.ready then s
  else match (s.arpAnswer b).or (s.ndAnswer b) with
    | some a => s.mgmtSend a
    | none => s

end Sys2Proof.Machine
end

