-- ==== Sys2Proof/Machine/Link.lean ====
section
/-! DEFINITION. The MAC of a port and its link redundancy entity: rates and sizes, pause and its watchdog, FCS and stomps,
duplicate discard, redundancy tags, the proxy node table (R55 to R58, R64 to R73, R77 to R83). -/

namespace Sys2Proof.Machine

/-! ### Frame fields -/

/-- Destination and source address, byte 0 first on the wire. -/
def dmac (b : List Byte) : Nat := beAt b 0 6
def smac (b : List Byte) : Nat := beAt b 6 6
/-- Whether an address is a group address. -/
def groupMac (m : Nat) : Bool := m.testBit 40

/-- Where the ethertype after the addresses lies, an HSR tag skipped (R107). -/
def tagOff (hsr : Bool) : Nat := if hsr then 18 else 12

/-- The VLAN tag's TCI, when the frame carries one (R107, R108). -/
def vlanTci (b : List Byte) (off : Nat) : Option Nat := if beAt b off 2 = 0x8100 then some (beAt b (off + 2) 2) else none

/-- The ethertype after at most one VLAN tag. -/
def etherType (b : List Byte) (off : Nat) : Nat :=
  if beAt b off 2 = 0x8100 then beAt b (off + 4) 2 else beAt b off 2

/-- The FCS bytes of a frame. -/
def fcsOf (b : List Byte) : List Byte := leBytes 4 (crc32 b)

/-- Every byte inverted: the stomp of R65. -/
def complement (b : List Byte) : List Byte := b.map (fun x => ~~~x)

/-- A frame padded to 60 bytes before its FCS (R75). -/
def padFrame (b : List Byte) : List Byte := b ++ List.replicate (60 - b.length) 0

/-! ### Ports -/

def State.port (s : State) (n : Nat) : PortDyn := cget (fun _ => {}) s.prt.ports n
def State.setPort (s : State) (n : Nat) (p : PortDyn) : State :=
  { s with prt := { s.prt with ports := cset (fun _ => {}) s.prt.ports n p } }
def State.pauseOf (s : State) (n c : Nat) : PauseClass := cget (fun _ => {}) s.prt.pause (n * 8 + c)
def State.setPause (s : State) (n c : Nat) (p : PauseClass) : State :=
  { s with prt := { s.prt with pause := cset (fun _ => {}) s.prt.pause (n * 8 + c) p } }

/-- The redundancy mode of pair `p`: 0 off, 1 PRP-1, 2 HSR. -/
def State.lreMode (s : State) (p : Nat) : Nat := if p < 12 then s.rd (PRT_LRE_CFG p) PRT_LRE_CFG_MODE else 0

/-- The redundancy mode of the pair a port belongs to. -/
def State.portLre (s : State) (n : Nat) : Nat := if n < 24 then s.lreMode (n / 2) else 0

/-- The fabric port of a line or domain port: 2p for both ports of an active pair (R77, R80). -/
def State.fabPort (s : State) (n : Nat) : Nat := if s.portLre n ≠ 0 then n / 2 * 2 else n

/-- The ports that a fabric port sends on: both ports of an active pair (R558). -/
def State.linesOf (s : State) (p : Nat) : List Nat := if p < 24 ∧ s.portLre p ≠ 0 then [p / 2 * 2, p / 2 * 2 + 1] else [p]

/-- A port's maximum frame length (R64). -/
def State.maxFrame (s : State) (n : Nat) : Nat := if s.rdB (PRT_PORT_CFG n) PRT_PORT_CFG_LONG then 9600 else 1536

def State.linkUp (s : State) (n : Nat) : Bool := s.rdB (PRT_PORT_STAT n) PRT_PORT_STAT_LINK
def State.prtRej (s : State) (n : Nat) : State := s.wrB (PRT_PORT_STAT n) PRT_PORT_STAT_CFG_REJ true

/-- Modes and FEC options a port supports (R55). -/
def modeOk (n mode fec : Nat) : Bool :=
  if n < 24 then (mode == 3 && fec ≤ 2) || (mode ≤ 2 && fec == 0)
  else if n < 28 then mode == 4 && fec == 3
  else mode == 1 && fec == 0

/-! ### Pause (R71 to R73) -/

/-- The nanoseconds of `q` pause quanta of 512 bit times. -/
def State.quantaNs (s : State) (n q : Nat) : Nat := q * 512000 / s.rate_ n

/-- Pause of class `c` starts or goes on for `ns`; 0 ends it. -/
def State.pauseClass (s : State) (n c ns : Nat) : State :=
  let p := s.pauseOf n c
  let m := s.rd (PRT_PORT_STAT n) PRT_PORT_STAT_PAUSED
  if ns = 0 then
    (s.setPause n c { p with until_ := 0, since := 0 }).wr (PRT_PORT_STAT n) PRT_PORT_STAT_PAUSED (nsetBit m c false)
  else
    (s.setPause n c { p with until_ := s.now + ns, since := if m.testBit c then p.since else s.now }).wr
      (PRT_PORT_STAT n) PRT_PORT_STAT_PAUSED (nsetBit m c true)

/-- Whether class `c` is in a release period of the watchdog. -/
def State.inRelease (s : State) (n c : Nat) : Bool := (s.rd (PRT_PORT_STAT n) PRT_PORT_STAT_WD_RELEASE).testBit c

/-- Pause ends on every class of a port; release periods run on (R72). -/
def State.endPauses (s : State) (n : Nat) : State := (List.range 8).foldl (fun s c => s.pauseClass n c 0) s

/-- The longest pause of a class that the watchdog allows, in ns (R72). -/
def State.wdLimit (s : State) (n : Nat) : Nat := max 1 (s.rd (PRT_PAUSE_WD n) PRT_PAUSE_WD_LIMIT) * 100000
def State.wdRelease (s : State) (n : Nat) : Nat := max 1 (s.rd (PRT_PAUSE_WD n) PRT_PAUSE_WD_RELEASE) * 1000000

/-- Since when a class has been continuously paused, a pause frame of this very moment left aside (R73); none when it is not
paused. -/
def State.pausedSince (s : State) (n c : Nat) : Option Nat :=
  let p := s.pauseOf n c
  if p.frameAt = s.now + 1 then (if p.before = 0 then none else some (p.before - 1))
  else if (s.rd (PRT_PORT_STAT n) PRT_PORT_STAT_PAUSED).testBit c then some p.since else none

/-- The classes whose continuous pause has passed the watchdog's limit. -/
def State.overLimit (s : State) (n : Nat) : List Nat :=
  (List.range 8).filter (fun c => (s.pausedSince n c).any (fun x => decide (x + s.wdLimit n < s.now)))

/-- A pause frame is counted as ignored, once (R73). -/
def State.pauseIgnored (s : State) (n : Nat) : State :=
  if (s.port n).ignoredAt = s.now + 1 then s
  else (s.setPort n { s.port n with ignoredAt := s.now + 1 }).bump (cntPRT_RX_PAUSE_IGNORED n) 1

/-- The watchdog breaks the classes that one frame stopped: those whose pause began together (R72). -/
def State.breakPause (s : State) (n : Nat) (cs : List Nat) (since : Nat) : State :=
  let dur := (s.now - since) / 1000
  let s := cs.foldl (fun s c =>
    let s := s.pauseClass n c 0
    let s := s.setPause n c { s.pauseOf n c with release := s.now + s.wdRelease n }
    s.wr (PRT_PORT_STAT n) PRT_PORT_STAT_WD_RELEASE
      (nsetBit (s.rd (PRT_PORT_STAT n) PRT_PORT_STAT_WD_RELEASE) c true)) s
  let s := s.bump (cntPRT_PAUSE_BROKEN n) 1
  s.post 0x0102 (p1 n ++ p1 (cs.foldl (fun m c => m + 2 ^ c) 0) ++ p4 dur)

/-- The watchdog of a port acts on every class past its limit (R72); a pause frame of the same moment is ignored for those
classes (R73). -/
def opPauseWatchdog (n : Nat) (s : State) : State :=
  if !s.portPresent n then s
  else
    let late := s.overLimit n
    let starts := (late.filterMap (fun c => s.pausedSince n c)).eraseDups
    let s' := starts.foldl (fun s' t => s'.breakPause n (late.filter (fun c => s.pausedSince n c == some t)) t) s
    if late.any (fun c => (s.pauseOf n c).frameAt == s.now + 1) then s'.pauseIgnored n else s'

def execPauseWatchdog (t port : Nat) (s : State) : Host.Outcome State Fault Refusal :=
  s.runAt t (opPauseWatchdog port)

/-- A pause or PFC frame: counted, obeyed on every class it names that is not in a release period (R71, R73). Whether such a
frame counts in RX_FRAMES the spec does not say: one that comes as FRAME_RECEIVE does, one that comes as PAUSE_FRAME is counted
in RX_PAUSE alone.
DESIGN CHOICE, log entry 23. -/
def opPauseFrame (n : Nat) (pfc : Bool) (enable : Nat) (quanta : List Nat) (s : State) : State :=
  if !(s.portPresent n && s.linkUp n) then s
  else
    let s := s.bump (cntPRT_RX_PAUSE n) 1
    let obey := s.rdB (PRT_PORT_CFG n) (if pfc then PRT_PORT_CFG_PFC_OBEY else PRT_PORT_CFG_PAUSE_OBEY)
    if !obey then s
    else
      let named := (List.range 8).filter (fun c => !pfc || enable.testBit c)
      let ignored := named.any (s.inRelease n)
      let s' := (named.filter (fun c => !s.inRelease n c)).foldl (fun s c =>
        let before := ((s.pausedSince n c).map (· + 1)).getD 0
        let s := s.setPause n c { s.pauseOf n c with frameAt := s.now + 1, before }
        s.pauseClass n c (s.quantaNs n (quanta.getD (if pfc then c else 0) 0))) s
      if ignored then s'.pauseIgnored n else s'

def execPauseFrame (t port : Nat) (pfc : Bool) (enable : Nat) (quanta : List Nat) (s : State) :
    Host.Outcome State Fault Refusal := s.runAt t (opPauseFrame port pfc enable quanta)

/-- The quanta of the classes whose time has come run out (R72). -/
def opPauseQuantaExpiry (n : Nat) (s : State) : State :=
  (List.range 8).foldl (fun s c =>
    if (s.rd (PRT_PORT_STAT n) PRT_PORT_STAT_PAUSED).testBit c && decide ((s.pauseOf n c).until_ ≤ s.now)
    then s.pauseClass n c 0 else s) s

def execPauseQuantaExpiry (t port : Nat) (s : State) : Host.Outcome State Fault Refusal :=
  s.runAt t (fun s => if s.portPresent port then opPauseQuantaExpiry port s else s)

/-- Release periods whose time has come end; the class obeys pause again (R72). -/
def opReleasePeriodEnd (n : Nat) (s : State) : State :=
  (List.range 8).foldl (fun s c =>
    if s.inRelease n c && decide ((s.pauseOf n c).release ≤ s.now)
    then (s.setPause n c { s.pauseOf n c with release := 0 }).wr (PRT_PORT_STAT n) PRT_PORT_STAT_WD_RELEASE
      (nsetBit (s.rd (PRT_PORT_STAT n) PRT_PORT_STAT_WD_RELEASE) c false)
    else s) s

def execReleasePeriodEnd (t port : Nat) (s : State) : Host.Outcome State Fault Refusal :=
  s.runAt t (fun s => if s.portPresent port then opReleasePeriodEnd port s else s)

/-! ### Preemption's verification (R68, R69) -/

/-- Whether a port may preempt at all: a line or domain port with PREEMPT_EN. -/
def State.preemptEn (s : State) (n : Nat) : Bool := n < 28 && s.rdB (PRT_PORT_CFG n) PRT_PORT_CFG_PREEMPT_EN

/-- The bytes that stand for a verify frame and a response to one: their SMD octets in IEEE 802.3br, which R69 names.
PRESUMED, log entry 59. -/
def smdVerify : List Byte := bytesOf [0x07]
/-- The bytes that stand for a response to a verify frame.
PRESUMED, log entry 59. -/
def smdRespond : List Byte := bytesOf [0x19]

/-- The VERIFY_TIME timer: a verify frame at link-up and every VERIFY_TIME ms, up to three times, then failure (R69). -/
def opPreemptVerify (n : Nat) (s : State) : State :=
  if s.portPresent n && s.linkUp n && s.preemptEn n && !s.rdB (PRT_PREEMPT n) PRT_PREEMPT_VERIFY_DIS
      && !s.rdB (PRT_PORT_STAT n) PRT_PORT_STAT_PREEMPT_ACTIVE then
    let p := s.port n
    let due := p.verifies == 0 || decide (p.verifyAt + s.rd (PRT_PREEMPT n) PRT_PREEMPT_VERIFY_TIME * 1000000 ≤ s.now)
    if !due then s
    else if p.verifies < 3 then
      (s.setPort n { p with verifies := p.verifies + 1, verifyAt := s.now }).send (.macControl n smdVerify)
    else if p.verifies = 3 then (s.setPort n { p with verifies := 4 }).post 0x0103 (p1 n)
    else s
  else s

def execPreemptVerify (t port : Nat) (s : State) : Host.Outcome State Fault Refusal :=
  s.runAt t (opPreemptVerify port)

/-- The partner's response to a verify frame (R69); a verify frame of the partner's own is answered with a response.
PRESUMED, log entry 59. -/
def opVerifyResponse (n : Nat) (request : Bool) (s : State) : State :=
  let v := (s.port n).verifies
  if request then (if decide (n < 28) && s.portPresent n && s.linkUp n then s.send (.macControl n smdRespond) else s)
  else if s.portPresent n && s.linkUp n && s.preemptEn n && 1 ≤ v && v ≤ 3 then
    s.wrB (PRT_PORT_STAT n) PRT_PORT_STAT_PREEMPT_ACTIVE true
  else s

def execVerifyResponse (t : Nat) (frame : VerifyFrame) (s : State) : Host.Outcome State Fault Refusal :=
  s.runAt t (opVerifyResponse frame.port frame.request)

/-! ### Duplicate discard (R81) -/

/-- The entry of a source restarted, created or updated. -/
def State.setDup (s : State) (e : DupEntry) : State :=
  { s with prt := { s.prt with
    dup := s.prt.dup.filter (fun x => !(x.pair == e.pair && x.mac == e.mac)) ++ [e] } }

/-- The entry whose last frame is oldest. -/
def oldestDup (l : List DupEntry) : Option DupEntry :=
  l.foldl (fun b x => match b with | none => some x | some y => if x.last < y.last then some x else some y) none

/-- A new entry; in a full table it evicts the one with the oldest last frame. -/
def State.newDup (s : State) (e : DupEntry) : State :=
  let s := if s.prt.dup.length < 8192 then s
    else match oldestDup s.prt.dup with
      | some o => { s with prt := { s.prt with dup := s.prt.dup.filter (fun x => x != o), evicted := s.prt.evicted ++ [o] } }
      | none => s
  s.setDup e

/-- A frame accepted that had been accepted once before its entry was evicted is delivered twice: LRE_EVICT_DUP counts it,
once. -/
def State.countEvicted (s : State) (pair mac q : Nat) : State :=
  match s.prt.evicted.find? (fun x => x.pair == pair && x.mac == mac && (let d := (x.high + 65536 - q) % 65536; decide (d ≤ 63) && x.window.testBit d)) with
  | none => s
  | some o =>
    let o' : DupEntry := { o with window := nsetBit o.window ((o.high + 65536 - q) % 65536) false }
    let s : State := { s with prt := { s.prt with evicted := s.prt.evicted.map (fun x => if x = o then o' else x) } }
    s.bump (cntPRT_LRE_EVICT_DUP (2 * pair)) 1

/-- What becomes of sequence number `q` of a source (R81). -/
inductive DupCase where
  | fresh | duplicate | inWindow | ahead | outOfWindow
deriving DecidableEq, Repr

/-- The row of R81's table that a sequence number falls into, and the entry after it. -/
def dupCase (old : Option DupEntry) (pair mac q now : Nat) : DupCase × DupEntry :=
  match old with
  | none => (.fresh, { pair, mac, high := q, window := 1, last := now })
  | some e =>
    let back := (e.high + 65536 - q) % 65536
    let fwd := (q + 65536 - e.high) % 65536
    let e := { e with last := now }
    if back ≤ 63 then
      if e.window.testBit back then (.duplicate, e) else (.inWindow, { e with window := e.window + 2 ^ back })
    else if 1 ≤ fwd ∧ fwd ≤ 32767 then
      (.ahead, { e with high := q, window := (if fwd < 64 then e.window * 2 ^ fwd % 2 ^ 64 else 0) + 1 })
    else (.outOfWindow, { e with high := q, window := 1 })

/-- The entry of a source. -/
def State.dupEntry (s : State) (pair mac : Nat) : Option DupEntry := s.prt.dup.find? (fun x => x.pair == pair && x.mac == mac)

/-- The entry put in its place: a new one may evict another. -/
def State.putDup (s : State) (c : DupCase) (e : DupEntry) : State := if c = .fresh then s.newDup e else s.setDup e

/-- Duplicate discard of sequence number `q` from `mac` on `port`: accepted or not (R81). Port A's copy that arrives in the
same moment in which port B's was accepted is accepted, and port B's, while it has not entered the fabric, is the duplicate. -/
def State.dupCheck (s : State) (port mac q : Nat) : Bool × State :=
  let pair := port / 2
  let old := s.dupEntry pair mac
  let (c, e) := dupCase old pair mac q s.now
  let e : DupEntry := if c = .duplicate then e else { e with fromB := if port % 2 = 1 then s.now + 1 else 0 }
  let bCopy := fun (x : RxStage) => x.seq == some q && smac x.bytes == mac && x.frame.isNone
  let staged := cget (fun _ => []) s.prt.staged (port + 1)
  if c = .duplicate then
    if port % 2 = 0 ∧ e.fromB = s.now + 1 ∧ e.high = q ∧ staged.any bCopy then
      let s : State := { s with prt := { s.prt with
        staged := cset (fun _ => []) s.prt.staged (port + 1) (staged.filter (fun x => !bCopy x)) } }
      (true, (s.setDup { e with fromB := 0 }).bump (cntPRT_LRE_DUP_DISCARD (port + 1)) 1)
    else (false, (s.setDup e).bump (cntPRT_LRE_DUP_DISCARD port) 1)
  else
    let s := (s.putDup c e).countEvicted pair mac q
    (true, if c = .outOfWindow then s.bump (cntPRT_LRE_OUT_OF_WINDOW port) 1 else s)

/-- A frame that the module itself sends on a ring enters the duplicate table, so that it is not sent there again (R80). -/
def State.dupNote (s : State) (pair mac q : Nat) : State :=
  let (c, e) := dupCase (s.dupEntry pair mac) pair mac q s.now
  s.putDup c e

/-- Entries without a frame for DUP_AGE are freed (R81). -/
def opDupEntryAgeing (s : State) : State :=
  let young := fun (e : DupEntry) => decide (s.now < e.last + s.rd (PRT_LRE_CFG e.pair) PRT_LRE_CFG_DUP_AGE * 1000000)
  { s with prt := { s.prt with dup := s.prt.dup.filter young, evicted := s.prt.evicted.filter young } }

def execDupEntryAgeing (t : Nat) (s : State) : Host.Outcome State Fault Refusal := s.runAt t opDupEntryAgeing

/-! ### Redundancy tags on receive (R79, R80, R83) -/

/-- The LSDUsize of a frame without FCS whose bytes end with the RCT (R79). -/
def lsduSize (b : List Byte) (off : Nat) : Nat := (b.length - 12 - (if (vlanTci b off).isSome then 4 else 0)) % 4096

/-- A pair's own MAC address in the order of the wire. -/
def macOf (lo hi : Nat) : Nat :=
  beNat (leBytes 2 hi ++ leBytes 4 lo)

def State.pairMac (s : State) (p : Nat) : Nat :=
  macOf (s.rdW (PRT_LRE_MAC_LO p)).toNat (s.rdW (PRT_LRE_MAC_HI p)).toNat

/-- Whether a node's address is in a pair's part of the proxy node table (R82). -/
def State.proxied (s : State) (p mac : Nat) : Bool := s.prt.proxy.any (fun x => x.pair == p && x.mac == mac)

/-- A supervision frame of a pair (R83). -/
def State.supervision (s : State) (p : Nat) (b : List Byte) (hsr : Bool) : Bool :=
  etherType b (tagOff hsr) == 0x88FB
    && dmac b == 0x01154E000100 + s.rd (PRT_LRE_CFG p) PRT_LRE_CFG_SUP_LSB

/-- The ring of port 30 that frames without a forwarding entry go to: the spec names none, so a free value. -/
def State.stewardRing (s : State) : Nat × State :=
  let (v, s) := s.draw
  (v.toNat % 16, s)

/-- A received frame handed to the steward on fabric port 30. -/
def State.toSteward (s : State) (x : RxStage) : Option RxStage × State :=
  let (r, s) := s.stewardRing
  (some { x with fixed := some [30], ring := r }, s)

/-- PRP-1 (R79): duplicate discard and removal of the RCT; a frame without a valid RCT passes unchanged. -/
def State.prpReceive (s : State) (n : Nat) (x : RxStage) : Option RxStage × State :=
  let b := x.bytes
  let len := b.length
  let rct := b.drop (len - 6)
  if x.end_ ≠ 0 then (none, s)
  else if beAt rct 4 2 = 0x88FB ∧ beAt rct 2 2 % 4096 = lsduSize b 12 then
    let lan := beAt rct 2 2 / 4096
    let s := if lan = (if n % 2 = 0 then 0xB else 0xA) then s.bump (cntPRT_LRE_WRONG_LAN n) 1 else s
    let (ok, s) := s.dupCheck n (smac b) (beAt rct 0 2)
    if !ok then (none, s)
    else
      let x := { x with bytes := b.take (len - 6), tagRemoved := true, fromB := n % 2 == 1, whole := true,
                        seq := some (beAt rct 0 2) }
      if s.supervision (n / 2) x.bytes false then s.toSteward x else (some x, s)
  else
    let x := { x with whole := true, fromB := n % 2 == 1 }
    let s := s.bump (cntPRT_LRE_UNTAGGED n) 1
    if s.supervision (n / 2) b false then s.toSteward x else (some x, s)

/-- HSR (R80): tagged frames are removed, discarded as duplicates, consumed or passed on along the ring. -/
def State.hsrReceive (s : State) (n : Nat) (x : RxStage) : Option RxStage × State :=
  let b := x.bytes
  let p := n / 2
  let other := if n % 2 = 0 then n + 1 else n - 1
  if beAt b 12 2 = 0x892F then
    if smac b = s.pairMac p then (none, s.bump (cntPRT_LRE_RING_REMOVED n) 1)
    else
      let (ok, s) := s.dupCheck n (smac b) (beAt b 16 2)
      if !ok then (none, s)
      else
        let x := { x with hsr := true, tagRemoved := true, fromB := n % 2 == 1, seq := some (beAt b 16 2) }
        if groupMac (dmac b) then
          let x := { x with hairpin := some other }
          if s.supervision p b true then s.toSteward x else (some x, s)
        else if dmac b = s.pairMac p then (some x, s)
        else if s.rdB (PRT_LRE_CFG p) PRT_LRE_CFG_REDBOX && s.proxied p (dmac b) then (some x, s)
        else (some { x with hairpin := some other, fixed := some [] }, s)
  else if 0x0180C2000000 ≤ dmac b ∧ dmac b ≤ 0x0180C200000F then s.toSteward x
  else (none, s.bump (cntPRT_LRE_UNTAGGED n) 1)

/-- A frame through its port's LRE. -/
def State.lreReceive (s : State) (n : Nat) (x : RxStage) : Option RxStage × State :=
  let m := s.portLre n
  if m = 1 then s.prpReceive n x else if m = 2 then s.hsrReceive n x else (some x, s)

/-! ### Redundancy tags on transmit (R79, R80, R82) -/

/-- The pair's next sequence number. -/
def State.pairSeq (s : State) (p : Nat) : Nat × State :=
  let q := s.rd (PRT_LRE_SEQ p) PRT_LRE_SEQ_NEXT
  (q, s.wr (PRT_LRE_SEQ p) PRT_LRE_SEQ_NEXT (q + 1))

/-- The sequence number of a frame sent on a pair: a proxied source keeps its own counter, and a new source of another
port is learnt, or finds the table full (R82). -/
def State.lreSeq (s : State) (p mac : Nat) (foreign : Bool) : Nat × State :=
  if !(s.rdB (PRT_LRE_CFG p) PRT_LRE_CFG_REDBOX && foreign) then s.pairSeq p
  else
    match s.prt.proxy.find? (fun x => x.pair == p && x.mac == mac) with
    | some x => (x.seq, { s with prt := { s.prt with
        proxy := s.prt.proxy.map (fun y => if y = x then { y with seq := (y.seq + 1) % 65536 } else y) } })
    | none =>
      if s.prt.proxy.length < 1024 then
        (0, { s with prt := { s.prt with proxy := s.prt.proxy ++ [{ pair := p, mac, seq := 1, static := false }] } })
      else (s.bump (cntPRT_PROXY_FULL (2 * p)) 1).pairSeq p

/-- A static entry of the proxy node table written or removed by the steward (R82); a full table takes none. -/
def State.proxySet (s : State) (p mac : Nat) (add : Bool) : State :=
  let rest := s.prt.proxy.filter (fun x => !(x.pair == p && x.mac == mac))
  let seq := ((s.prt.proxy.find? (fun x => x.pair == p && x.mac == mac)).map (·.seq)).getD 0
  if !add then { s with prt := { s.prt with proxy := rest } }
  else if rest.length < 1024 then { s with prt := { s.prt with proxy := rest ++ [{ pair := p, mac, seq, static := true }] } }
  else s

/-- A frame with its RCT, padded ahead of it (R79); an LSDUsize of 4,096 or more, which the 12-bit field cannot hold, is carried
modulo 4,096.
DESIGN CHOICE, log entry 23. -/
def prpTag (b : List Byte) (port seq : Nat) : List Byte :=
  let b := b ++ List.replicate (54 - b.length) 0
  let size := (b.length + 6 - 12 - (if (vlanTci b 12).isSome then 4 else 0)) % 4096
  b ++ beBytes 2 seq ++ beBytes 2 ((if port % 2 = 0 then 0xA else 0xB) * 4096 + size) ++ beBytes 2 0x88FB

/-- A frame with its HSR tag after the source address (R80). The LSDUsize counts as R79 defines it for PRP: from the first byte
after the source address, the tag included and a VLAN tag excluded; so does the padding of a short frame.
DESIGN CHOICE, log entry 23. -/
def hsrTag (b : List Byte) (path seq : Nat) : List Byte :=
  let size := (b.length + 6 - 12 - (if (vlanTci b 12).isSome then 4 else 0)) % 4096
  b.take 12 ++ beBytes 2 0x892F ++ beBytes 2 (path % 16 * 4096 + size) ++ beBytes 2 seq ++ b.drop 12

/-- A frame without the HSR tag its stored bytes carry. -/
def stripHsr (b : List Byte) : List Byte := b.take 12 ++ b.drop 18

/-! ### What a port receives (R64 to R66, R71) -/

/-- The frames that wait at an ingress. -/
def State.stagedAt (s : State) (n : Nat) : List RxStage := cget (fun _ => []) s.prt.staged n
def State.setStaged (s : State) (n : Nat) (l : List RxStage) : State :=
  { s with prt := { s.prt with staged := cset (fun _ => []) s.prt.staged n l } }

/-- A frame handed to an ingress, behind those that wait there. -/
def State.stageFrame (s : State) (n : Nat) (x : RxStage) : State := s.setStaged n (s.stagedAt n ++ [x])

/-- A received frame offered to the fabric through its LRE; the management port's frames go to the steward. -/
def State.offer (s : State) (n : Nat) (x : RxStage) : State :=
  if n = 28 then (if x.end_ = 0 then s.mgmtFrame x.bytes else s)
  else match s.lreReceive n x with
    | (some x, s) => s.stageFrame n x
    | (none, s) => s

/-- Whether a frame is a pause (1) or PFC (0x0101) frame, which carries no VLAN tag; its opcode. -/
def macControlOp (b : List Byte) : Option Nat :=
  if beAt b 12 2 = 0x8808 ∧ (beAt b 14 2 = 1 ∨ beAt b 14 2 = 0x0101) then some (beAt b 14 2) else none

/-- A frame at a port: classified by size and FCS, counted, consumed or offered to the fabric (R64 to R66, R70, R71).
The step stands at the frame's head; its END is known to the fabric with its last cell. -/
def opFrameReceive (n : Nat) (f : RxFrame) (s : State) : State :=
  if !(s.portPresent n && s.linkUp n) then s
  else
    let len := f.bytes.length
    let mx := s.maxFrame n
    let body := f.bytes.take (len - 4)
    let bad (e k cnt : Nat) : State :=
      (s.bump cnt 1).offer n { bytes := (f.bytes.take (min k mx)).take (min k mx - 4), arrival := f.arrival, end_ := e, stomp := min k mx, wire := len, counted := [(cnt, 1)] }
    if f.fragBad then s.bump (cntPRT_RX_FRAG_ERR n) 1
    else if len ≤ 63 then s.bump (cntPRT_RX_RUNT n) 1
    else if mx < len then bad 2 mx (cntPRT_RX_OVERSIZE n)
    else if f.cut then bad 3 len (cntPRT_RX_TRUNC n)
    else if f.bytes.drop (len - 4) = fcsOf body then
      let s := (s.bump (cntPRT_RX_OCTETS n) len).bump (cntPRT_RX_FRAMES n) 1
      match macControlOp body with
      | some 1 => opPauseFrame n false 0 [beAt body 16 2] s
      | some _ => opPauseFrame n true (beAt body 16 2) ((List.range 8).map (fun c => beAt body (18 + 2 * c) 2)) s
      | none => s.offer n { bytes := body, arrival := f.arrival, wire := len, counted := [(cntPRT_RX_OCTETS n, len), (cntPRT_RX_FRAMES n, 1)] }
    else if f.bytes.drop (len - 4) = complement (fcsOf body) then bad 1 len (cntPRT_RX_STOMP n)
    else bad 1 len (cntPRT_RX_FCS_ERR n)

/-- Counts taken back. -/
def State.uncount (s : State) (l : List (Nat × Nat)) : State :=
  l.foldl (fun (s : State) c => { s with cnt := cset (fun _ => 0) s.cnt c.1 (s.count c.1 - c.2) }) s

def execFrameReceive (t port : Nat) (f : RxFrame) (s : State) : Host.Outcome State Fault Refusal :=
  s.runAt t (opFrameReceive port f)

end Sys2Proof.Machine
end

