-- ==== Sys2Proof/Machine/Fabric.lean ====
section
/-! DEFINITION. The calendar fabric and its buffer: forwarding, admission, the calendar and its resequencers, egress
scheduling, stomps and receive rings (R84 to R88, R94 to R128, R558). -/

namespace Sys2Proof.Machine

/-! ### The forwarding database (R108) -/

/-- The bucket of a key. -/
def fdbBucket (mac vid : Nat) : Nat := crc32c (beBytes 6 mac ++ beBytes 2 (vid % 4096)) % 2048

def State.fdbAt (s : State) (i : Nat) : FdbEntry := cget (fun _ => {}) s.fab.fdb i
def State.setFdb (s : State) (i : Nat) (e : FdbEntry) : State :=
  { s with fab := { s.fab with fdb := cset (fun _ => {}) s.fab.fdb i e } }

/-- The index of the valid entry that holds a key. -/
def State.fdbFind (s : State) (mac vid : Nat) : Option Nat :=
  ((List.range 4).map (fun w => fdbBucket mac vid * 4 + w)).find? (fun i =>
    let e := s.fdbAt i
    e.valid && e.mac == mac && e.vid == vid)

/-- The index of a way of the key's bucket that holds nothing valid. -/
def State.fdbFree (s : State) (mac vid : Nat) : Option Nat :=
  ((List.range 4).map (fun w => fdbBucket mac vid * 4 + w)).find? (fun i => !(s.fdbAt i).valid)

/-- The sixteen bytes of an entry. -/
def fdbBytes (e : FdbEntry) : List Byte :=
  beBytes 6 e.mac
    ++ leBytes 2 (e.vid + 4096 * b2n e.valid + 8192 * b2n e.static + 16384 * b2n e.mcast + 32768 * b2n e.clsOvr)
    ++ leBytes 4 e.targets ++ leBytes 2 (e.ring + 1024 * e.cls) ++ leBytes 2 e.age

/-- The entry that sixteen bytes spell; AGE is read-only. -/
def fdbOfBytes (b : List Byte) : FdbEntry :=
  let k := leAt b 6 2
  let r := leAt b 12 2
  { mac := beAt b 0 6, vid := k % 4096, valid := k.testBit 12, static := k.testBit 13, mcast := k.testBit 14,
    clsOvr := k.testBit 15, targets := leAt b 8 4, ring := r % 1024, cls := nbits r 10 3 }

/-- The target ports of an entry. -/
def fdbTargets (e : FdbEntry) : List Nat :=
  if e.mcast then (List.range 32).filter (fun n => e.targets.testBit n) else [e.targets % 32]

/-- Whether an entry may be written (R5, R77, R108). -/
def State.fdbOk (s : State) (e : FdbEntry) : Bool :=
  let t := fdbTargets e
  t.all (fun n => s.fportPresent n && n != 29 && !(n % 2 == 1 && s.portLre n != 0))
    && !(t.contains 30 && t.contains 31)
    && (!t.contains 30 || e.ring < 16) && (!t.contains 31 || 16 ≤ e.ring)

/-- An entry written to a free way or over the way that holds its key: RESULT and the index. -/
def State.fdbWrite (s : State) (e : FdbEntry) : Nat × Nat × State :=
  if !s.fdbOk e then (2, 0, s)
  else match s.fdbFind e.mac e.vid with
    | some i => (0, i, s.setFdb i e)
    | none => match s.fdbFree e.mac e.vid with
      | some i => (0, i, s.setFdb i e)
      | none => (3, 0, s)

/-- An entry deleted by its key: RESULT. -/
def State.fdbDelete (s : State) (mac vid : Nat) : Nat × State :=
  match s.fdbFind mac vid with
  | some i => (0, s.setFdb i {})
  | none => (1, s)

/-- The entry in FAB_FDB_DATA0 to 3. -/
def State.fdbData (s : State) : List Byte := (List.range 4).flatMap (fun i => leBytes 4 (s.rdW (FAB_FDB_DATA i)).toNat)
def State.setFdbData (s : State) (b : List Byte) : State :=
  (List.range 4).foldl (fun s i => s.wrW (FAB_FDB_DATA i) (BitVec.ofNat 32 (leAt b (4 * i) 4))) s

/-- A command of FAB_FDB_CMD is accepted unless one is in progress (R127); INDEX is the operand of READ, PORT that of FLUSH. -/
def State.fdbStart (s : State) (o : FdbOp) : State :=
  if s.rdB FAB_FDB_CMD FAB_FDB_CMD_BUSY then s
  else
    let s := s.wrB FAB_FDB_CMD FAB_FDB_CMD_BUSY true
    let s := if o.op = 1 then s.wr FAB_FDB_CMD FAB_FDB_CMD_INDEX o.index else s
    let s := if o.op = 4 then s.wr FAB_FDB_CMD FAB_FDB_CMD_PORT o.port else s
    { s with fab := { s.fab with fdbOp := some o } }

def opFdbRead (index : Nat) (s : State) : State := s.fdbStart { op := 1, index, port := 0 }
def opFdbWrite (s : State) : State := s.fdbStart { op := 2, index := 0, port := 0 }
def opFdbDelete (s : State) : State := s.fdbStart { op := 3, index := 0, port := 0 }
def opFdbFlush (port : Nat) (s : State) : State := s.fdbStart { op := 4, index := 0, port }
def opFdbSearch (s : State) : State := s.fdbStart { op := 5, index := 0, port := 0 }

def execFdbRead (t index : Nat) (s : State) : Host.Outcome State Fault Refusal := s.runAt t (opFdbRead index)
def execFdbWrite (t : Nat) (s : State) : Host.Outcome State Fault Refusal := s.runAt t opFdbWrite
def execFdbDelete (t : Nat) (s : State) : Host.Outcome State Fault Refusal := s.runAt t opFdbDelete
def execFdbFlush (t port : Nat) (s : State) : Host.Outcome State Fault Refusal := s.runAt t (opFdbFlush port)
def execFdbSearch (t : Nat) (s : State) : Host.Outcome State Fault Refusal := s.runAt t opFdbSearch

/-- A learnt entry with `port` as its one target. -/
def learntOn (port : Nat) (e : FdbEntry) : Bool := e.valid && !e.static && !e.mcast && e.targets % 32 == port

/-- What a command of FAB_FDB_CMD does: its RESULT and index. -/
def State.fdbRun (s : State) (o : FdbOp) : Nat × Nat × State :=
  let key := fdbOfBytes s.fdbData
  if o.op = 1 then (0, o.index, s.setFdbData (fdbBytes (s.fdbAt o.index)))
  else if o.op = 2 then s.fdbWrite key
  else if o.op = 3 then
    let (r, s) := s.fdbDelete key.mac key.vid
    (r, o.index, s)
  else if o.op = 4 then
    (0, o.index, { s with fab := { s.fab with fdb := s.fab.fdb.filter (fun c => !learntOn o.port c.2) } })
  else match s.fdbFind key.mac key.vid with
    | some i => (0, i, s.setFdbData (fdbBytes (s.fdbAt i)))
    | none => (1, o.index, s)

/-- The command in progress ends with its RESULT; SEARCH and WRITE give the INDEX back (R127).
DESIGN CHOICE, log entry 25. -/
def opFdbCommandComplete (s : State) : State :=
  match s.fab.fdbOp with
  | none => s
  | some o =>
    let (r, i, s) := s.fdbRun o
    let s := { s with fab := { s.fab with fdbOp := none } }
    let s := (s.wrB FAB_FDB_CMD FAB_FDB_CMD_BUSY false).wr FAB_FDB_CMD FAB_FDB_CMD_RESULT r
    if (o.op = 2 ∨ o.op = 5) ∧ r = 0 then s.wr FAB_FDB_CMD FAB_FDB_CMD_INDEX i else s

def execFdbCommandComplete (t : Nat) (s : State) : Host.Outcome State Fault Refusal :=
  s.runAt t opFdbCommandComplete

/-- One second passes for the learnt entries: AGE rises, and an entry that reaches FAB_FDB_AGE is freed (R109). -/
def opFdbAgeing (s : State) : State :=
  let lim := s.rd FAB_FDB_AGE FAB_FDB_AGE_SECONDS
  let older (e : FdbEntry) : FdbEntry := if e.valid && !e.static then { e with age := satNat 65535 (e.age + 1) } else e
  { s with fab := { s.fab with fdb := (s.fab.fdb.map (fun c => (c.1, older c.2))).filter (fun c =>
      !(c.2.valid && !c.2.static && lim != 0 && decide (lim ≤ c.2.age))) } }

def execFdbAgeing (t : Nat) (s : State) : Host.Outcome State Fault Refusal := s.runAt t opFdbAgeing

/-- A source address learnt or moved when its frame completes good (R109).
DESIGN CHOICE, log entry 25. -/
def State.learn (s : State) (p mac vid : Nat) : State :=
  if !(p < 28 && s.rdB (FAB_PORT_CFG p) FAB_PORT_CFG_LEARN) || groupMac mac then s
  else match s.fdbFind mac vid with
    | some i =>
      let e := s.fdbAt i
      if e.static then if fdbTargets e = [p] then s else s.bump (cntFAB_STATIC_CONFLICT p) 1
      else if learntOn p e then s.setFdb i { e with age := 0 }
      else (s.setFdb i { e with targets := p, mcast := false, age := 0 }).bump (cntFAB_LEARN_MOVE p) 1
    | none => match s.fdbFree mac vid with
      | some i => s.setFdb i { mac, vid, valid := true, targets := p }
      | none => (s.bump (cntFAB_LEARN_FULL p) 1).postLimited 0x205 0x0205 p []

/-! ### Size mode (R118 to R121) -/

/-- Whether the ports enabled, or FORCE_FULL, ask for Full mode. -/
def State.wantFull (s : State) : Bool :=
  s.rdB FAB_CTRL FAB_CTRL_FORCE_FULL
    || decide (16 < ((List.range 24).filter (fun n => s.rdB (PRT_PORT_CFG n) PRT_PORT_CFG_EN)).length)
    || (List.range 4).any (fun n => s.rdB (PRT_PORT_CFG (24 + n)) PRT_PORT_CFG_EN)

/-- The mode follows the ports; a change writes event 0x0201 (R118). -/
def State.fabRemode (s : State) : State :=
  let m := b2n s.wantFull
  let old := s.rd FAB_STAT FAB_STAT_MODE
  if m = old then s
  else ({ s.wr FAB_STAT FAB_STAT_MODE m with fab := { s.fab with modes := (s.now, m) :: s.fab.modes } }).post 0x0201 (p1 m)

/-- The mode for a header cell looked up now: a change counts from 1 µs after it (R118). -/
def State.lookupFull (s : State) : Bool :=
  (s.fab.modes.find? (fun x => decide (x.1 + 1000 ≤ s.now))).any (fun x => x.2 == 1)

def State.setTx (s : State) (n : Nat) (l : List FabTx) : State :=
  { s with fab := { s.fab with tx := cset (fun _ => []) s.fab.tx n l } }

/-- A frame of the buffer, by number. -/
def State.frame? (s : State) (k : Nat) : Option FabFrame := s.fab.frames.find? (fun f => f.num == k)
def State.setFrame (s : State) (f : FabFrame) : State :=
  { s with fab := { s.fab with frames := s.fab.frames.map (fun g => if g.num = f.num then f else g) } }

/-- The start threshold of a Compact-mode copy (R121). -/
def bStart (m ri ro : Nat) : Nat :=
  if ro ≤ ri then 64 else 64 * ((m * (ro - ri) + 64 * ro - 1) / (64 * ro))

/-- Whether an egress port is idle for a class (R119). -/
def State.egressIdle (s : State) (d c : Nat) : Bool :=
  s.fab.frames.all (fun f => f.cls != c || f.copies.all (fun k => k.dst != d || (k.queued.isNone && k.sending.isEmpty)))

/-- Whether a copy is a cut-through copy, and its start threshold (R119 to R121).
DESIGN CHOICE, log entry 25. -/
def State.cutRule (s : State) (src dst c : Nat) : Bool × Nat :=
  if 28 ≤ src ∨ 28 ≤ dst ∨ s.portLre src = 1 then (false, 64)
  else
    let ri := s.rate_ src
    let ro := s.rate_ dst
    if !s.lookupFull then (true, max 64 (bStart (s.maxFrame src) ri ro))
    else
      let busy100 := ro = 100000 ∧ (s.linesOf dst).any (fun n => !(s.txAt n).isEmpty)
      if ro ≤ ri ∧ s.egressIdle dst c ∧ ¬ busy100 then (true, 64) else (false, 64)

/-! ### Frames and cells (R109 to R114) -/

def cellsOf (n : Nat) : Nat := (n + 63) / 64

/-- A register count raised or lowered. -/
def State.addTo (s : State) (a : Nat) (f : Fld) (n : Nat) : State := s.wr a f (s.rd a f + n)
def State.subFrom (s : State) (a : Nat) (f : Fld) (n : Nat) : State := s.wr a f (s.rd a f - n)

/-- The cells of a frame in the order of its chain in the link memory (R98). -/
def State.chain (s : State) : Nat → Nat → List Nat
  | 0, _ => []
  | n + 1, c => c :: State.chain s n (cget (fun _ => 0) s.fab.link c)

/-- A cell of the buffer taken: the one given back last, else the next that has never been used.
DESIGN CHOICE, log entry 25. -/
def State.takeCell (s : State) : Nat × State :=
  match s.fab.cellFree with
  | c :: r => (c, { s with fab := { s.fab with cellFree := r } })
  | [] => (s.fab.cellTop, { s with fab := { s.fab with cellTop := s.fab.cellTop + 1 } })

/-- A descriptor of the pool taken, by the same rule.
DESIGN CHOICE, log entry 25. -/
def State.takeFd (s : State) : Nat × State :=
  match s.fab.fdFree with
  | c :: r => (c, { s with fab := { s.fab with fdFree := r } })
  | [] => (s.fab.fdTop, { s with fab := { s.fab with fdTop := s.fab.fdTop + 1 } })

/-- The 32 bytes of a frame's descriptor (R98). -/
def fdBytesOf (f : FabFrame) : List Byte :=
  leBytes 8 f.arrival ++ leBytes 4 ((f.copies.map (fun c => 2 ^ c.dst)).sum) ++ leBytes 2 f.bytes.length
    ++ leBytes 1 f.copies.length ++ leBytes 1 (8 * f.src + f.cls) ++ leBytes 3 f.firstCell
    ++ leBytes 1 (b2n f.complete + 2 * f.end_ + 8 * b2n (f.reserve != 0)) ++ leBytes 2 f.ring ++ leBytes 10 0

/-- Bits [95:0] of a tag (R97). -/
def tagLow (t : FabTag) : Nat :=
  t.cell + t.fd * 2 ^ 18 + t.src * 2 ^ 35 + t.dst * 2 ^ 40 + t.seq * 2 ^ 45 + t.cidx * 2 ^ 55 + b2n (t.cidx == 0) * 2 ^ 63
    + b2n t.last * 2 ^ 64 + t.bytes * 2 ^ 65 + t.cls * 2 ^ 71 + b2n t.xmit * 2 ^ 74 + t.end_ * 2 ^ 75 + t.entry * 2 ^ 77

/-- The 128 bits of a tag (R97), the ECC over its low 96 bits at [103:96]. -/
def tagWord (t : FabTag) : BitVec 128 :=
  BitVec.ofNat 128 (tagLow t + (Config.tagEcc (BitVec.ofNat 96 (tagLow t))).toNat * 2 ^ 96)

/-- FAB_FD_FREE shows the free descriptors, saturating (R127). -/
def State.fdFree (s : State) : Nat := 131072 - s.fab.frames.length
def State.showFd (s : State) : State := s.wr FAB_FD_FREE FAB_FD_FREE_FD (satNat 131071 s.fdFree)

/-- The reserve cells that a port's frames hold. -/
def State.portReserve (s : State) (p : Nat) : Nat :=
  (s.fab.frames.filter (fun f => f.src == p)).foldl (fun n f => n + f.reserve) 0

/-- How a cell is admitted (R110): 0 against the limit, 1 from the reserve, 2 refused. -/
def State.admitCell (s : State) (p c : Nat) : Nat :=
  if s.rd (FAB_ING_USE p) FAB_ING_USE_CELLS < s.rd (FAB_ING_LIMIT p) FAB_ING_LIMIT_CELLS then 0
  else if 5 ≤ c ∧ s.rd FAB_RSV_USE FAB_RSV_USE_CELLS < s.rd FAB_RESERVE FAB_RESERVE_CELLS
      ∧ s.portReserve p < s.rd (FAB_RSV_MAX p) FAB_RSV_MAX_CELLS then 1
  else 2

/-- The counts of a refused cell (R110). -/
def State.countCut (s : State) (p c : Nat) : State :=
  if c < 5 then s.bump (cntFAB_ING_LIMIT_DROP p) 1
  else (s.bump (cntFAB_RSV_DROP p) 1).postLimited 0x205 0x0203 p []

/-- Whether all cells of a staged frame of ports 29 to 31 can be admitted, with a descriptor (R95). -/
def State.admitsAll (s : State) (p c n : Nat) : Bool :=
  let room := s.rd (FAB_ING_LIMIT p) FAB_ING_LIMIT_CELLS - s.rd (FAB_ING_USE p) FAB_ING_USE_CELLS
  let rsv := if 5 ≤ c then min (s.rd FAB_RESERVE FAB_RESERVE_CELLS - s.rd FAB_RSV_USE FAB_RSV_USE_CELLS)
    (s.rd (FAB_RSV_MAX p) FAB_RSV_MAX_CELLS - s.portReserve p) else 0
  decide (n ≤ room + rsv) && decide ((if 5 ≤ c then 0 else s.rd FAB_RESERVE FAB_RESERVE_FD) < s.fdFree)

/-- A frame whose copies have all ended and which is complete is freed with its cells and descriptor, in one step (R114). -/
def State.freeFrame (s : State) (k : Nat) : State :=
  match s.frame? k with
  | none => s
  | some f =>
    if f.copies.isEmpty && f.complete then
      let n := f.written.length
      let s := { s with fab := { s.fab with frames := s.fab.frames.filter (fun g => g.num != k), cellFree := s.chain n f.firstCell ++ s.fab.cellFree, fdFree := f.fd :: s.fab.fdFree } }
      let s := s.addTo FAB_FREE FAB_FREE_CELLS n
      let s := s.subFrom (FAB_ING_USE f.src) FAB_ING_USE_CELLS n
      (s.subFrom FAB_RSV_USE FAB_RSV_USE_CELLS f.reserve).showFd
    else s

/-- A copy ends (R114): its cells stop counting at the egress (R112). -/
def State.endCopy (s : State) (k dst : Nat) : State :=
  match s.frame? k with
  | none => s
  | some f =>
    let s := s.setFrame { f with copies := f.copies.filter (fun c => c.dst != dst) }
    (s.subFrom (FAB_EG_USE dst f.cls) FAB_EG_USE_CELLS f.written.length).freeFrame k

/-- A copy replaced in its frame. -/
def State.setCopy (s : State) (k : Nat) (c : FabCopy) : State :=
  match s.frame? k with
  | none => s
  | some f => s.setFrame { f with copies := f.copies.map (fun x => if x.dst = c.dst then c else x) }

/-- One of a copy's ports has dealt with it; the copy ends with the last one (R558), and counts in EG_FRAMES if some port sent
it (R128). -/
def State.dealt (s : State) (k : Nat) (c : FabCopy) (n : Nat) (sent : Bool) : State :=
  let c := { c with left := c.left.filter (fun x => x != n), sending := c.sending.filter (fun x => x != n),
                    sent := c.sent || sent }
  let s := s.setCopy k c
  if c.left.isEmpty then
    let s := if c.sent then s.bump (cntFAB_EG_FRAMES c.dst) 1 else s
    s.endCopy k c.dst
  else s

/-- Whether a copy's egress knows END: the last cell has been released there, or a cell was lost (R125). -/
def endKnown (f : FabFrame) (c : FabCopy) : Bool := (f.complete && f.written.length ≤ c.released) || c.lost

/-- The transmission of a frame on a port that has just ended, or never was, is taken off; the frame it interrupted resumes. -/
def State.offLine (s : State) (n k : Nat) : State :=
  s.setTx n (match (s.txAt n).filter (fun x => x.frame != k) with
    | x :: r => (if x.paused then { x with paused := false, startAt := s.now } else x) :: r
    | [] => [])

/-- A start of the very moment in which END becomes known counts as not made (R126). -/
def State.unstart (s : State) (n k dst : Nat) : State :=
  match (s.txAt n).find? (fun x => x.frame == k) with
  | none => s
  | some x =>
    let s := if x.ctCounted then s.uncount [(cntFAB_CT_FRAMES dst, 1)] else s
    let s := if x.preCounted then s.uncount [(cntPRT_TX_PREEMPTED n, 1)] else s
    let s := s.offLine n k
    if x.preCounted then s.setTx n ((s.txAt n).map (fun y => { y with cut := false })) else s

/-- The ports on which a copy's transmission began at this very moment. -/
def State.startedNow (s : State) (k : Nat) (c : FabCopy) : List Nat :=
  c.sending.filter (fun n => (s.txAt n).any (fun x => x.frame == k && x.startAt == s.now && x.base == 0))

/-- A copy enters its class queue when it may (R119), or is discarded where END is bad and it has not started, or
starts in this very moment (R125, R126). -/
def State.settleCopy (s : State) (k dst : Nat) : State :=
  match s.frame? k with
  | none => s
  | some f => match f.copies.find? (fun c => c.dst == dst) with
    | none => s
    | some c =>
      if endKnown f c && f.end_ != 0 then
        let now := s.startedNow k c
        let s := now.foldl (fun s n => s.unstart n k dst) s
        (c.left.filter (fun n => !c.sending.contains n || now.contains n)).foldl (fun s n =>
          match (s.frame? k).bind (fun g => g.copies.find? (fun x => x.dst == dst)) with
          | some x => s.dealt k x n false
          | none => s) s
      else if c.queued.isNone && ((c.ct && 1 ≤ c.released) || endKnown f c) then
        let s := s.setCopy k { c with queued := some s.fab.nextQueued }
        { s with fab := { s.fab with nextQueued := s.fab.nextQueued + 1 } }
      else s

/-- Every copy of a frame settled. -/
def State.settleFrame (s : State) (k : Nat) : State :=
  match s.frame? k with
  | none => s
  | some f => (f.copies.map (fun c => c.dst)).foldl (fun s d => s.settleCopy k d) s

/-! ### The header cell (R107, R109, R111 to R113) -/

/-- The VID a frame is looked up, flooded and learnt under (R108). -/
def State.frameVid (s : State) (p : Nat) (b : List Byte) (hsr : Bool) : Nat :=
  match vlanTci b (tagOff hsr) with
  | some t => if t % 4096 = 0 then s.rd (FAB_PORT_CFG p) FAB_PORT_CFG_DEF_VID else t % 4096
  | none => s.rd (FAB_PORT_CFG p) FAB_PORT_CFG_DEF_VID

/-- The class of a frame from ports 0 to 27 (R107). -/
def State.frameClass (s : State) (p : Nat) (b : List Byte) (hsr : Bool) (e : Option FdbEntry) : Nat :=
  let et := etherType b (tagOff hsr)
  let byEtype := s.rdB (FAB_PORT_CFG p) FAB_PORT_CFG_ETYPE_CLASS
  let byTag := match vlanTci b (tagOff hsr) with
    | some t => nbits (s.rd (FAB_PCP_MAP p) FAB_PCP_MAP_MAP) (3 * (t / 8192)) 3
    | none => s.rd (FAB_PORT_CFG p) FAB_PORT_CFG_DEF_CLASS
  match e with
  | some x => if x.clsOvr then x.cls else rest byEtype et byTag
  | none => rest byEtype et byTag
where
  /-- Rules 2 to 4. -/
  rest (byEtype : Bool) (et byTag : Nat) : Nat :=
    if byEtype && et == 0x88B8 then 7 else if byEtype && et == 0x88BA then 6 else if byEtype && et == 0x88F7 then 5
    else byTag

/-- What a header cell's lookup gives. -/
structure Lookup where
  targets : List Nat
  cls : Nat
  ring : Nat
  member : Bool
  flood : Bool
  deriving DecidableEq, Repr

/-- The lookup of a header cell (R107 to R109). -/
def State.lookup (s : State) (p : Nat) (x : RxStage) : Lookup :=
  let b := x.bytes
  let vid := s.frameVid p b x.hsr
  let vlan := s.rd (FAB_VLAN vid) FAB_VLAN_MEMBER
  let e := if dmac b = 0xFFFFFFFFFFFF then none else (s.fdbFind (dmac b) vid).map s.fdbAt
  let cls := x.cls.getD (s.frameClass p b x.hsr e)
  let found := match x.fixed, e with
    | some l, _ => l
    | none, some y => fdbTargets y
    | none, none => (List.range 28).filter (fun n => vlan.testBit n)
  let et := etherType b (tagOff x.hsr)
  let tap := x.fixed.isNone && s.rdB (FAB_PORT_CFG p) FAB_PORT_CFG_ING_TAP && (et == 0x88BA || et == 0x88B8)
  let all := if tap && !found.contains 28 then found ++ [28] else found
  let ok := all.filter (fun n => n != p && n != 29 && s.fportPresent n && !(n % 2 == 1 && s.portLre n != 0))
  { targets := if x.hairpin.isSome then ok ++ [p] else ok, cls,
    ring := match x.fixed, e with | some _, _ => x.ring | none, some y => y.ring | none, none => 0,
    member := 28 ≤ p || vlan.testBit p, flood := x.fixed.isNone && e.isNone }

/-- The staged frame at the head of an ingress replaced. -/
def State.setHead (s : State) (n : Nat) (x : RxStage) : State := s.setStaged n (x :: (s.stagedAt n).drop 1)

/-- A refused frame stores nothing; the rest of it is let go as it arrives. -/
def State.refuseFrame (s : State) (n : Nat) : State := s.setStaged n ((s.stagedAt n).drop 1)

/-- The copies of a frame accepted and the refusals counted (R112, R113). -/
def State.acceptTargets (s : State) (p : Nat) (x : RxStage) (l : Lookup) : List FabCopy × State :=
  l.targets.foldl (fun (acc : List FabCopy × State) d =>
    let s := acc.2
    if s.rd (FAB_EG_LIMIT d l.cls) FAB_EG_LIMIT_CELLS ≤ s.egUse d l.cls then
      (acc.1, s.bump (if 1 < l.targets.length then cntFAB_MC_REFUSED d else cntFAB_EG_LIMIT_DROP d) 1)
    else
      let (ct, b) := s.cutRule p d l.cls
      let hp := if d = p then x.hairpin else none
      let lines := match hp with | some r => [r] | none => if d < 28 then s.linesOf d else [d]
      (acc.1 ++ [{ dst := d, ct := ct && !x.whole, bStart := b, hairpin := hp, left := lines }], s)) ([], s)

/-- One admitted cell stored: its place in the buffer and in the frame's chain, its bytes, the uses it counts in, and a tag for
each copy (R97, R98, R100, R110, R112, R113). `fin` is END where the cell is the frame's last.
DESIGN CHOICE, log entry 25. -/
def State.storeCell (s : State) (k : Nat) (cell : List Byte) (reserve : Bool) (fin : Option Nat) : State :=
  match s.frame? k with
  | none => s
  | some f =>
    let i := f.written.length
    let (at_, s) := s.takeCell
    let s : State := if i = 0 then s else { s with fab := { s.fab with link := cset (fun _ => 0) s.fab.link f.lastCell at_ } }
    let g := { f with bytes := f.bytes ++ cell, written := f.written ++ [s.fab.days], firstCell := if i = 0 then at_ else f.firstCell, lastCell := at_, reserve := f.reserve + b2n reserve }
    let s := (s.setFrame g).bump (cntFAB_ING_CELLS f.src) 1
    let s := (s.subFrom FAB_FREE FAB_FREE_CELLS 1).addTo (FAB_ING_USE f.src) FAB_ING_USE_CELLS 1
    let s := if reserve then
      (s.bump (cntFAB_RSV_CELLS f.src) 1).addTo FAB_RSV_USE FAB_RSV_USE_CELLS 1 else s
    let tag : FabTag := { frame := k, cell := at_, fd := f.fd, src := f.src, dst := 0, cidx := i, last := fin.isSome, bytes := if fin.isSome then cell.length % 64 else 0, cls := f.cls, end_ := fin.getD 0 }
    f.copies.foldl (fun s c =>
      let s := s.addTo (FAB_EG_USE c.dst f.cls) FAB_EG_USE_CELLS 1
      { s with fab := { s.fab with inputs := s.fab.inputs ++ [{ tag with dst := c.dst }] } }) s

/-- The tags of a frame's last stored cell, wherever they stand, become its LAST tags with END (R97, R110). -/
def State.markLast (s : State) (k i e : Nat) : State :=
  let mark := fun (t : FabTag) => if t.frame = k ∧ t.cidx = i then { t with last := true, end_ := e } else t
  { s with fab := { s.fab with
    inputs := s.fab.inputs.map mark,
    slots := s.fab.slots.map (fun (c : Nat × Option FabTag) => (c.1, c.2.map mark)),
    reseq := s.fab.reseq.map (fun (h : FabTag × Nat) => (mark h.1, h.2)) } }

/-- A frame's last cell is stored, or it is cut there: COMPLETE and END (R97, R98, R110). -/
def State.completeFrame (s : State) (k e stomp : Nat) : State :=
  match s.frame? k with
  | none => s
  | some f =>
    let e := if f.end_ ≠ 0 then f.end_ else e
    let s := s.setFrame { f with complete := true, end_ := e, stomp := if f.stomp ≠ 0 then f.stomp else stomp }
    let s := s.markLast k (f.written.length - 1) e
    let s := if e = 0 then s.learn f.src (smac f.bytes) (s.frameVid f.src f.bytes f.hsr) else s
    (s.settleFrame k).freeFrame k

/-- The next cell of an admitted frame (R110, R114): stored, or the frame is cut; without copies left it is discarded;
ports 29 to 31 wait instead of cutting (R95). -/
def State.nextCell (s : State) (n : Nat) (x : RxStage) (k : Nat) : State :=
  let cell := (x.bytes.drop (64 * x.cells)).take 64
  let last := cellsOf x.bytes.length ≤ x.cells + 1
  match s.frame? k with
  | none => if last then s.refuseFrame n else s.setHead n { x with cells := x.cells + 1 }
  | some f =>
    let gone := f.copies.isEmpty
    let a := if gone then 0 else s.admitCell f.src f.cls
    if a = 2 ∧ 29 ≤ f.src then s
    else if a = 2 then
      let s := (s.countCut f.src f.cls).refuseFrame n
      s.completeFrame k 3 (max 64 f.bytes.length)
    else
      let s := if gone then s else s.storeCell k cell (a == 1) (if last then some x.end_ else none)
      if last then (s.refuseFrame n).completeFrame k x.end_ x.stomp
      else s.setHead n { x with cells := x.cells + 1 }

/-- The header cell of a staged frame: looked up, given a descriptor, its targets accepted, stored (R109 to R113). -/
def State.headerCell (s : State) (n p : Nat) (x : RxStage) : State :=
  let l := s.lookup p x
  if 29 ≤ p ∧ !s.admitsAll p l.cls (cellsOf x.bytes.length) then s
  else
    let s := s.bump (cntFAB_ING_FRAMES p) 1
    if !l.member then (s.bump (cntFAB_NO_TARGET p) 1).refuseFrame n
    else
      let s := if l.flood then s.bump (cntFAB_FLOOD p) 1 else s
      if l.targets.isEmpty then (s.bump (cntFAB_NO_TARGET p) 1).refuseFrame n
      else if s.fdFree ≤ (if 5 ≤ l.cls then 0 else s.rd FAB_RESERVE FAB_RESERVE_FD) then
        (s.bump (cntFAB_FD_DROP p) 1).refuseFrame n
      else if s.admitCell p l.cls = 2 then (s.countCut p l.cls).refuseFrame n
      else
        let (copies, s) := s.acceptTargets p x l
        if copies.isEmpty then (s.bump (cntFAB_NO_TARGET p) 1).refuseFrame n
        else
          let k := s.fab.nextFrame
          let (fd, s) := s.takeFd
          let f : FabFrame := { num := k, fd, src := p, cls := l.cls, arrival := if 29 ≤ p then s.stamp else x.arrival,
                                ring := l.ring, copies, hsr := x.hsr, tagRemoved := x.tagRemoved, fromB := x.fromB,
                                txDesc := x.txDesc }
          let s := { s with fab := { s.fab with frames := s.fab.frames ++ [f], nextFrame := k + 1 } }
          (s.showFd).nextCell n { x with frame := some k } k

/-- A cell arrives at an ingress: the next one of the frame that waits there first (R95, R110). -/
def opCellWrite (n : Nat) (s : State) : State :=
  match s.stagedAt n with
  | [] => s
  | x :: _ =>
    let p := if n < 28 then s.fabPort n else n
    match x.frame with
    | some k => s.nextCell n x k
    | none => s.headerCell n p x

def execCellWrite (t port : Nat) (s : State) : Host.Outcome State Fault Refusal :=
  s.runAt t (opCellWrite port)

/-! ### The calendar (R99 to R106) -/

def seriesKey (src dst : Nat) : Nat := src * 32 + dst
def State.slotAt (s : State) (j o : Nat) : Option FabTag := cget (fun _ => none) s.fab.slots (j * 32 + o)
def State.setSlotAt (s : State) (j o : Nat) (t : Option FabTag) : State :=
  { s with fab := { s.fab with slots := cset (fun _ => none) s.fab.slots (j * 32 + o) t } }
def State.holdAt (s : State) (j o : Nat) : Nat := cget (fun _ => 0) s.fab.holds (j * 32 + o)
def State.setHold (s : State) (j o i : Nat) : State :=
  { s with fab := { s.fab with holds := cset (fun _ => 0) s.fab.holds (j * 32 + o) i } }

/-- Whether a frame is in transmission at an output (R103). -/
def State.xmit (s : State) (k dst : Nat) : Bool :=
  match (s.frame? k).bind (fun f => f.copies.find? (fun c => c.dst == dst)) with
  | some c => !c.sending.isEmpty
  | none => false

/-- The inputs of the frames in transmission at an output whose tags are still arriving (R103). -/
def State.arriving (s : State) (o : Nat) : List Nat :=
  ((s.fab.frames.filter (fun f => f.copies.any (fun c =>
    c.dst == o && !c.sending.isEmpty && !(f.complete && f.written.length ≤ c.released)))).map (fun f => f.src)).eraseDups

/-- A cell released to its egress (R105). -/
def State.releaseTag (s : State) (t : FabTag) : State :=
  match (s.frame? t.frame).bind (fun f => f.copies.find? (fun c => c.dst == t.dst)) with
  | some c => (s.setCopy t.frame { c with released := c.released + 1 }).settleCopy t.frame t.dst
  | none => s

/-- The resequencer of a series releases its held tags in SEQ order (R105). -/
def State.releaseSeries (src dst : Nat) : Nat → State → State
  | 0, s => s
  | n + 1, s =>
    let w := cget (fun _ => 0) s.fab.seqWant (seriesKey src dst)
    match s.fab.reseq.find? (fun h => h.1.src == src && h.1.dst == dst && h.1.seq == w) with
    | none => s
    | some h =>
      let s := { s with fab := { s.fab with reseq := s.fab.reseq.filter (fun x => x != h),
                                            seqWant := cset (fun _ => 0) s.fab.seqWant (seriesKey src dst) ((w + 1) % 1024) } }
      State.releaseSeries src dst n (s.releaseTag h.1)

/-- Stage 2 on day `d` at intermediate `j`: the tag for output (j + d) mod 32 arrives there and its slot is freed, held
for a frame in transmission whose tags still arrive (R99, R100, R103). -/
def State.stage2 (s : State) (d j : Nat) : State :=
  let o := (j + d) % 32
  match s.slotAt j o with
  | none => s
  | some t =>
    if t.entry = d % 65536 then s
    else
      let s := s.setSlotAt j o none
      let s := { s with fab := { s.fab with reseq := s.fab.reseq ++ [(t, d)] } }
      let ins := s.arriving o
      let last := cget (fun _ => 0) s.fab.lastHold (j * 32 + o)
      match ins.find? (fun i => i + 1 != last), ins with
      | some i, _ => hold s j o i
      | none, i :: _ => hold s j o i
      | none, [] => s
where
  /-- The freed slot held for input `i`. -/
  hold (s : State) (j o i : Nat) : State :=
    let s := s.setHold j o (i + 1)
    { s with fab := { s.fab with lastHold := cset (fun _ => 0) s.fab.lastHold (j * 32 + o) (i + 1) } }

/-- The tags an input can send: the first of each copy, in order of age. -/
def firstTags : List FabTag → List (Nat × Nat) → List FabTag
  | [], _ => []
  | t :: r, seen =>
    if seen.contains (t.frame, t.dst) then firstTags r seen
    else t :: firstTags r ((t.frame, t.dst) :: seen)

/-- The tag an input chooses among those that qualify (R100). -/
def State.chooseTag (s : State) (l : List FabTag) : Option FabTag :=
  match l.find? (fun t => s.xmit t.frame t.dst) with
  | some t => some t
  | none =>
    match [7, 6, 5].findSome? (fun c => l.find? (fun t => t.cls == c)) with
    | some t => some t
    | none => l.head?

/-- Stage 1 on day `d` at input `i`: the tag takes SEQ, ENTRY and XMIT, and is discarded there if it holds an uncorrectable
error (R97); holds for this input at its intermediate lapse (R100, R103). -/
def State.stage1 (bad : List (Nat × Nat × Nat)) (s : State) (d i : Nat) : State :=
  let j := (i + d) % 32
  let can := (firstTags (s.fab.inputs.filter (fun t => t.src == i)) []).filter (fun t =>
    (s.slotAt j t.dst).isNone && (s.holdAt j t.dst == 0 || s.holdAt j t.dst == i + 1))
  let pick := s.chooseTag can
  let s := { s with fab := { s.fab with holds := s.fab.holds.filter (fun h => !(h.1 / 32 == j && h.2 == i + 1)) } }
  match pick with
  | none => s
  | some t =>
    let q := cget (fun _ => 0) s.fab.seqNext (seriesKey i t.dst)
    let s := { s with fab := { s.fab with inputs := s.fab.inputs.erase t,
                                          seqNext := cset (fun _ => 0) s.fab.seqNext (seriesKey i t.dst) ((q + 1) % 1024) } }
    let t : FabTag := { t with seq := q, entry := d % 65536, xmit := s.xmit t.frame t.dst }
    if bad.contains (t.src, t.dst, q) then { s with fab := { s.fab with lostTags := s.fab.lostTags ++ [t] } }
    else s.setSlotAt j t.dst (some t)

/-- Tags found with an uncorrectable error are discarded where they are, at an intermediate or in a resequencer (R97). -/
def State.dropTags (s : State) (bad : List (Nat × Nat × Nat)) : State :=
  let hit (t : FabTag) : Bool := bad.contains (t.src, t.dst, t.seq)
  let inSlots := s.fab.slots.filterMap (fun c => match c.2 with | some t => if hit t then some t else none | none => none)
  { s with fab := { s.fab with
      slots := s.fab.slots.filter (fun c => match c.2 with | some t => !hit t | none => true),
      reseq := s.fab.reseq.filter (fun h => !hit h.1),
      lostTags := s.fab.lostTags ++ inSlots ++ (s.fab.reseq.filter (fun h => hit h.1)).map (·.1) } }

/-- One day of the calendar while it runs: stage 2, stage 1, releases, and the day number (R99 to R105).
DESIGN CHOICE, log entry 26. -/
def calendarDay (bad : List (Nat × Nat × Nat)) (s : State) : State :=
  if !s.rdB FAB_CTRL FAB_CTRL_EN then s
  else
    let d := s.fab.days
    let s := s.dropTags bad
    let s := (List.range 32).foldl (fun s j => s.stage2 d j) s
    let s := (List.range 32).foldl (fun s i => State.stage1 bad s d i) s
    let series := (s.fab.reseq.map (fun h => (h.1.src, h.1.dst))).eraseDups
    let s := series.foldl (fun s k => State.releaseSeries k.1 k.2 1024 s) s
    let s := { s with fab := { s.fab with days := (d + 1) % 2 ^ 64 } }
    if (d + 1) % 1048576 = 0 then
      let s := s.wr FAB_CAL_STAT FAB_CAL_STAT_DAY_PS ((s.now - s.fab.dayMark) * 1000 / 1048576)
      { s with fab := { s.fab with dayMark := s.now } }
    else s

/-- The resequencer gives up on a tag that has been missing for 64 days (R106). -/
def opLostTag (src dst : Nat) (s : State) : State :=
  let held := s.fab.reseq.filter (fun h => h.1.src == src && h.1.dst == dst)
  let w := cget (fun _ => 0) s.fab.seqWant (seriesKey src dst)
  if held.all (fun h => h.1.seq != w) && held.any (fun h => decide (h.2 + 64 ≤ s.fab.days)) then
    let lost := s.fab.lostTags.find? (fun t => t.src == src && t.dst == dst && t.seq == w)
    let s := match lost with
      | none => s
      | some t =>
        let s := { s with fab := { s.fab with lostTags := s.fab.lostTags.filter (fun x => x != t) } }
        match s.frame? t.frame with
        | none => s
        | some f =>
          let f := { f with end_ := 3, stomp := max 64 f.bytes.length,
                            copies := f.copies.map (fun (c : FabCopy) => if c.dst = dst then { c with lost := true } else c) }
          (s.setFrame f).settleFrame f.num
    let s := { s with fab := { s.fab with seqWant := cset (fun _ => 0) s.fab.seqWant (seriesKey src dst) ((w + 1) % 1024) } }
    let s := (s.bump (cntFAB_RSQ_ERR dst) 1).post 0x0202 (p1 src ++ p1 dst ++ p4 w)
    State.releaseSeries src dst 1024 s
  else s

def execLostTag (t src dst : Nat) (s : State) : Host.Outcome State Fault Refusal :=
  s.runAt t (opLostTag src dst)

/-- FAB_CAL_STAT.START written: the self-test begins while the calendar is stopped (R127).
DESIGN CHOICE, log entry 25. -/
def State.calStart (s : State) : State :=
  if s.rdB FAB_CTRL FAB_CTRL_EN then s
  else ({ s with fab := { s.fab with selfTest := true } } : State).wrB FAB_CAL_STAT FAB_CAL_STAT_DONE false

/-- The calendar self-test, run while the calendar is stopped, ends (R127).
DESIGN CHOICE, log entry 25. -/
def opCalendarSelfTest (failPort : Option Nat) (s : State) : State :=
  if s.rdB FAB_CTRL FAB_CTRL_EN then s
  else
    let s := { s with fab := { s.fab with selfTest := false } }
    let s := s.wrB FAB_CAL_STAT FAB_CAL_STAT_DONE true
    match failPort with
    | none => (s.wrB FAB_CAL_STAT FAB_CAL_STAT_FAIL false).wrB FAB_STAT FAB_STAT_CAL_OK true
    | some p =>
      let s := ((s.wrB FAB_CAL_STAT FAB_CAL_STAT_FAIL true).wr FAB_CAL_STAT FAB_CAL_STAT_FAIL_PORT p).wrB
        FAB_STAT FAB_STAT_CAL_OK false
      s.post 0x0204 (p1 p)

def execCalendarSelfTest (t : Nat) (failPort : Option Nat) (s : State) : Host.Outcome State Fault Refusal :=
  s.runAt t (opCalendarSelfTest failPort)

/-- FAB_DAYS_LO read: 64 bits of the day number captured (R127). -/
def opFabDaysRead (s : State) : State :=
  (s.setCap FAB_DAYS_HI (BitVec.ofNat 32 (s.fab.days / 2 ^ 32))).answer (s.fab.days % 2 ^ 32)

def execFabDaysRead (t : Nat) (s : State) : Host.Outcome State Fault Refusal := s.runAt t opFabDaysRead

/-! ### Receive rings (R84 to R88) -/

/-- A ring's base address and size, by its registers. -/
def ringBase (s : State) (lo hi : Nat) : Nat := s.rd lo PRT_RXR_BASE_LO_BASE * 64 + 2 ^ 32 * s.rd hi PRT_RXR_BASE_HI_BASE

/-- Bytes the device writes for itself: lost where there is no memory (R26). -/
def State.devWrite (s : State) (a : Nat) (b : List Byte) : State := if s.memFault a b.length then s else s.store a b

/-- The fields of a receive descriptor after its buffer address (R85). -/
def rxDesc (bytes status flags port cls arrival len : Nat) : List Byte :=
  leBytes 2 bytes ++ leBytes 2 status ++ leBytes 1 flags ++ leBytes 1 port ++ leBytes 1 cls ++ leBytes 1 0
    ++ leBytes 8 arrival ++ leBytes 4 len ++ leBytes 4 0

/-- The parts of a frame, one for each buffer, written with their descriptors (R85, R86). -/
def State.rxFill (s : State) (base size head bufs : Nat) (f : FabFrame) (total flags : Nat) :
    Nat → List (List Byte) → State
  | _, [] => s
  | i, part :: rest =>
    let d := base + 32 * ((head + i) % size)
    let buf := s.le d 5
    let fl := flags + b2n (i == 0) + 2 * b2n rest.isEmpty + 128
    let s := (s.devWrite buf part).devWrite (d + 8)
      (rxDesc part.length 0 fl f.src f.cls (if i = 0 then f.arrival else 0) (if rest.isEmpty then total else 0))
    State.rxFill s base size head bufs f total flags (i + 1) rest

/-- Descriptors completed with DISCARD_NO_BUFFER (R87). -/
def State.rxDiscard (s : State) (base size head n : Nat) : State :=
  (List.range n).foldl (fun s i => s.devWrite (base + 32 * ((head + i) % size) + 8) (rxDesc 0 1 0x80 0 0 0 0)) s

/-- A frame for port 30 or 31 written to its receive ring; HEAD advances past it in one step (R86 to R88). A frame for a ring that
is not enabled finds no descriptor: it is discarded and counted in NOBUF.
DESIGN CHOICE, log entry 23. -/
def State.rxDeliver (s : State) (f : FabFrame) : State :=
  let r := f.ring
  let b := if f.hsr then stripHsr f.bytes else f.bytes
  let size := 2 ^ s.rd (PRT_RXR_CFG r) PRT_RXR_CFG_SIZE_LOG2
  let head := s.rd (PRT_RXR_HEAD r) PRT_RXR_HEAD_INDEX
  let tail := s.rd (PRT_RXR_TAIL r) PRT_RXR_TAIL_INDEX
  let avail := if s.rdB (PRT_RXR_CFG r) PRT_RXR_CFG_EN then (tail + size - head % size) % size else 0
  let bufs := 256 * s.rd (PRT_RXR_CFG r) PRT_RXR_CFG_BUF_SIZE
  let need := (b.length + bufs - 1) / bufs
  let base := ringBase s (PRT_RXR_BASE_LO r) (PRT_RXR_BASE_HI r)
  if avail = 0 then s.bump (cntPRT_RXR_NOBUF_COUNT r) 1
  else if avail < need then
    ((s.rxDiscard base size head avail).wr (PRT_RXR_HEAD r) PRT_RXR_HEAD_INDEX ((head + avail) % size)).bump
      (cntPRT_RXR_NOBUF_COUNT r) 1
  else
    let flags := 4 * b2n (vlanTci b 12).isSome + 8 * b2n f.tagRemoved + 16 * b2n f.fromB
    let s := (s.rxFill base size head bufs f b.length flags 0 (chunks bufs need b)).wr (PRT_RXR_HEAD r) PRT_RXR_HEAD_INDEX
      ((head + need) % size)
    { s with prt := { s.prt with rxLast := some (r, s.now, head, need) } }

/-- The ring is disabled at the very moment in which a frame is being written to it: the frame is discarded as when descriptors
run out (R87).
DESIGN CHOICE, log entry 23. -/
def State.rxAbort (s : State) (r : Nat) : State :=
  match s.prt.rxLast with
  | some (q, at_, head, n) =>
    if q = r ∧ at_ = s.now then
      let size := 2 ^ s.rd (PRT_RXR_CFG r) PRT_RXR_CFG_SIZE_LOG2
      let s : State := { s with prt := { s.prt with rxLast := none } }
      (s.rxDiscard (ringBase s (PRT_RXR_BASE_LO r) (PRT_RXR_BASE_HI r)) size head n).bump (cntPRT_RXR_NOBUF_COUNT r) 1
    else s
  | none => s

/-! ### Egress (R67, R115 to R117, R124, R558) -/

/-- A queued copy with its frame. -/
structure Queued where
  frame : FabFrame
  copy : FabCopy
  deriving DecidableEq, Repr

/-- The head of a class queue as port `n` of fabric port `d` sees it. -/
def State.headOf (s : State) (d n c : Nat) : Option Queued :=
  (s.fab.frames.filter (fun f => f.cls == c)).foldl (fun (b : Option Queued) f =>
    match f.copies.find? (fun k => k.dst == d && k.queued.isSome && k.left.contains n && !k.sending.contains n) with
    | none => b
    | some k => match b with
      | none => some ⟨f, k⟩
      | some y => if (k.queued.getD 0) < (y.copy.queued.getD 0) then some ⟨f, k⟩ else b) none

/-- The start rule (R124). -/
def State.startOk (s : State) (q : Queued) : Bool :=
  if endKnown q.frame q.copy then
    !q.copy.ct || (match q.frame.written[min (cellsOf q.copy.bStart) q.frame.written.length - 1]? with
      | some d => decide (d + 66 ≤ s.fab.days) | none => true)
  else
    let k := cellsOf q.copy.bStart
    let k := if q.frame.complete then min k q.frame.written.length else k
    q.copy.ct && decide (k ≤ q.copy.released) && (match q.frame.written[k - 1]? with
      | some d => decide (d + 66 ≤ s.fab.days) | none => false)

/-- Whether a class's shaper runs: with EN = 0 there is none, and with RATE 0 it holds the class (R116, R127). -/
def State.shaperOn (s : State) (d c : Nat) : Bool :=
  s.rdB (FAB_SHAPE d c) FAB_SHAPE_EN && s.rd (FAB_SHAPE d c) FAB_SHAPE_RATE != 0

/-- A bucket's level now: what its rate has added since it was last reckoned, up to its depth (R116). -/
def State.tokensNow (s : State) (d n c : Nat) : Int :=
  let rate := if s.shaperOn d c then s.rd (FAB_SHAPE d c) FAB_SHAPE_RATE else 0
  let cap := s.rd (FAB_SHAPE d c) FAB_SHAPE_BURST * 256 * 8000
  let lv := cget (fun _ => (0 : Int)) s.fab.tokens (n * 8 + c)
  let at_ := cget (fun _ => 0) s.fab.tokensAt (n * 8 + c)
  min (cap : Int) (lv + ((rate * (s.now - at_) : Nat) : Int))

/-- A bucket's level reckoned up to now and then set. -/
def State.setTokens (s : State) (n c : Nat) (v : Int) : State :=
  { s with fab := { s.fab with tokens := cset (fun _ => (0 : Int)) s.fab.tokens (n * 8 + c) v,
                               tokensAt := cset (fun _ => 0) s.fab.tokensAt (n * 8 + c) s.now } }

/-- FAB_SHAPE written: what the old rate has added stays (R116); a shaper that comes on starts with a full bucket, of which the
spec says nothing.
DESIGN CHOICE, log entry 25. -/
def State.shapeWrite (s : State) (d c : Nat) (write : State → State) : State :=
  let lines := if d < 28 then s.linesOf d else [d]
  let was := s.shaperOn d c
  let old := lines.map (fun n => (n, s.tokensNow d n c))
  let s := write s
  let cap : Nat := s.rd (FAB_SHAPE d c) FAB_SHAPE_BURST * 256 * 8000
  if s.shaperOn d c then old.foldl (fun s x => s.setTokens x.1 c (if was then min x.2 (cap : Int) else (cap : Int))) s else s

/-- Whether a class's shaper lets it start (R116). -/
def State.shaperOk (s : State) (d n c : Nat) : Bool :=
  !s.rdB (FAB_SHAPE d c) FAB_SHAPE_EN || (s.rd (FAB_SHAPE d c) FAB_SHAPE_RATE != 0 && decide (0 ≤ s.tokensNow d n c))

/-- The eligible head of a class (R71, R115). -/
def State.eligible (s : State) (d n c : Nat) : Option Queued :=
  match s.headOf d n c with
  | none => none
  | some q =>
    if s.startOk q && s.shaperOk d n c && !(n < 28 && (s.rd (PRT_PORT_STAT n) PRT_PORT_STAT_PAUSED).testBit c)
    then some q else none

def State.deficit (s : State) (n c : Nat) : Int := cget (fun _ => (0 : Int)) s.fab.dwrrDef (n * 8 + c)
def State.setDeficit (s : State) (n c : Nat) (v : Int) : State :=
  { s with fab := { s.fab with dwrrDef := cset (fun _ => (0 : Int)) s.fab.dwrrDef (n * 8 + c) v } }

/-- The scheduler's turn moves to the next class. -/
def State.dwrrNext (s : State) (n c : Nat) : State :=
  { s with fab := { s.fab with dwrrAt := cset (fun _ => 0) s.fab.dwrrAt n ((c + 1) % 5),
                               dwrrVisited := cset (fun _ => false) s.fab.dwrrVisited n false } }

/-- Deficit weighted round robin over classes 0 to 4 (R115). -/
def State.dwrr (d n : Nat) : Nat → State → Option Queued × State
  | 0, s => (none, s)
  | fuel + 1, s =>
    let c := cget (fun _ => 0) s.fab.dwrrAt n
    match s.eligible d n c with
    | none => State.dwrr d n fuel ((s.setDeficit n c 0).dwrrNext n c)
    | some q =>
      let s := if cget (fun _ => false) s.fab.dwrrVisited n then s
        else
          let s := s.setDeficit n c (s.deficit n c + (max 64 (s.rd (FAB_DWRR d c) FAB_DWRR_QUANTUM) : Nat))
          { s with fab := { s.fab with dwrrVisited := cset (fun _ => false) s.fab.dwrrVisited n true } }
      if ((q.frame.bytes.length + 4 : Nat) : Int) ≤ s.deficit n c then (some q, s)
      else State.dwrr d n fuel (s.dwrrNext n c)

/-- The frame a port selects (R115); where no class of 0 to 4 has an eligible frame, all are skipped and lose their deficits.
The scheduler's turns suffice for some class to gather the bytes of its frame at 64 bytes a round. -/
def State.selectFrame (s : State) (d n : Nat) : Option Queued × State :=
  match [7, 6, 5].findSome? (fun c => s.eligible d n c) with
  | some q => (some q, s)
  | none =>
    match (List.range 5).filterMap (fun c => s.eligible d n c) with
    | [] => (none, (List.range 5).foldl (fun s c => s.setDeficit n c 0) s)
    | qs => State.dwrr d n (10 + 5 * (qs.map (fun q =>
        ((q.frame.bytes.length + 4 : Nat) - s.deficit n q.frame.cls : Int).toNat / 64 + 2)).sum) s

/-- The AGED_DROP counter of a class. -/
def cntAged (p c : Nat) : Nat := cntFAB_AGED_DROP0 p + 8 * c

/-- Whether a frame is older than its class allows (R117). -/
def State.aged (s : State) (f : FabFrame) : Bool :=
  let lim := s.rd (FAB_AGE f.cls) FAB_AGE_LIMIT
  lim != 0 && decide (f.arrival + lim * 1000 < s.dom)

/-- The event message of PTP in a frame (R30), by its message type 0 to 3, and where its header lies.
PRESUMED, log entry 58. -/
def ptpEvent (b : List Byte) (hsr : Bool) : Option (Nat × Nat) :=
  let o := tagOff hsr
  let h := if (vlanTci b o).isSome then o + 6 else o + 2
  if etherType b o = 0x88F7 ∧ byteAt b h % 16 ≤ 3 ∧ h + 34 ≤ b.length then some (byteAt b h % 16, h) else none

/-- The originTimestamp of an event message: 48 bits of seconds and 32 of nanoseconds.
PRESUMED, log entry 58. -/
def putOrigin (b : List Byte) (h t : Nat) : List Byte :=
  patch b (h + 34) (beBytes 6 (t / 1000000000) ++ beBytes 4 (t % 1000000000))

/-- A frame with the residence time that its port adds to the correctionField, a signed 64-bit number of 2^-16 ns (R31).
PRESUMED, log entry 58. -/
def withResidence (b : List Byte) (hsr : Bool) (c : FabCopy) (n : Nat) : List Byte :=
  match c.residence.find? (fun r => r.1 == n), ptpEvent b hsr with
  | some r, some (_, h) => patch b (h + 8) (beBytes 8 ((beAt b (h + 8) 8 + r.2 * 65536) % 2 ^ 64))
  | _, _ => b

/-- The bytes a port sends for a copy, without FCS: the LRE's tag added, an HSR tag of the ring removed or kept.
DESIGN CHOICE, log entry 25. -/
def egressBytes (s : State) (f : FabFrame) (c : FabCopy) (n : Nat) : List Byte :=
  let all := withResidence f.bytes f.hsr c n
  if c.hairpin.isSome then padFrame all
  else
    let b := if f.hsr then stripHsr all else all
    let (q, path) := c.lre.getD (0, 0)
    if n < 24 ∧ s.portLre n = 1 then prpTag b n q
    else if n < 24 ∧ s.portLre n = 2 then hsrTag (b ++ List.replicate (54 - b.length) 0) path q
    else padFrame b

/-- The redundancy sequence number of a copy, given when its first port starts it; on a ring the frame enters the duplicate
table (R79, R80, R82). -/
def State.giveSeq (s : State) (f : FabFrame) (c : FabCopy) (n : Nat) : FabCopy × State :=
  if n < 24 ∧ s.portLre n ≠ 0 ∧ c.hairpin.isNone ∧ c.lre.isNone then
    let b := if f.hsr then stripHsr f.bytes else f.bytes
    let foreign := f.src < 28 && s.portLre f.src == 0
    let (q, s) := s.lreSeq (n / 2) (smac b) foreign
    let s := if s.portLre n = 2 then s.dupNote (n / 2) (smac b) q else s
    let (v, s) := s.draw
    ({ c with lre := some (q, v.toNat % 16) }, s)
  else (c, s)

/-- Express classes preempt on a port whose verification has succeeded (R68). -/
def State.preempts (s : State) (n : Nat) : Bool :=
  s.preemptEn n && s.rdB (PRT_PORT_STAT n) PRT_PORT_STAT_PREEMPT_ACTIVE

/-- An event message of PTP starts on a port (R30 to R32): one of the steward's own has its transmit timestamp taken, which a
one-step port puts into a Sync.
PRESUMED, log entry 58. -/
def State.ptpStart (s : State) (n : Nat) (f : FabFrame) : State :=
  match s.frame? f.num, ptpEvent f.bytes f.hsr with
  | some g, some (ty, o) =>
    if s.ptpOn n && f.src == 30 then
      let s := s.setPtpPort n { s.ptpPort n with tx := s.dom }
      if ty = 0 ∧ s.rdB (TIM_PORT_PTP n) TIM_PORT_PTP_ONE_STEP then s.setFrame { g with bytes := putOrigin g.bytes o s.dom } else s
    else s
  | _, _ => s

/-- The residence time of an event message that the fabric forwards by a transparent-clock port (R31). -/
def State.residenceOn (s : State) (n : Nat) (f : FabFrame) : List (Nat × Nat) :=
  if s.ptpOn n && s.rd (TIM_PORT_PTP n) TIM_PORT_PTP_MODE == 2 && decide (f.src < 28) && (ptpEvent f.bytes f.hsr).isSome then
    [(n, s.dom - f.arrival)]
  else []

/-- A selected frame starts on a port (R31, R68, R89, R103, R128). The TX_TIME of a frame that goes out on both ports of a pair
is that of the later start, of which the spec says nothing.
DESIGN CHOICE, log entry 23. -/
def State.startTx (s : State) (d n : Nat) (q : Queued) : State :=
  let f := q.frame
  let (c, s) := s.giveSeq f q.copy n
  let c : FabCopy := { c with residence := c.residence ++ s.residenceOn n f }
  let early := c.ct && !f.complete
  let ctCounted := early && c.sending.isEmpty && !c.sent
  let s := if ctCounted then s.bump (cntFAB_CT_FRAMES d) 1 else s
  let s := s.setCopy f.num { c with sending := c.sending ++ [n] }
  let preCounted := (s.txAt n).head?.any (fun x => !x.cut)
  let s := match s.txAt n with
    | [] => s
    | x :: r => s.setTx n ({ x with cut := true, paused := true, base := s.sentBytes n x } :: r)
  let s := if preCounted then s.bump (cntPRT_TX_PREEMPTED n) 1 else s
  let s := s.setTx n ({ frame := f.num, dst := d, express := 6 ≤ f.cls, startAt := s.now, ctCounted, preCounted } :: s.txAt n)
  let s := s.ptpStart n f
  match f.txDesc with
  | some a => s.devWrite (a + 24) (leBytes 8 s.stamp)
  | none => s

/-- Whether a preemptable frame may be cut now: at least 64 bytes have been sent and at least 64 will remain (R68). -/
def State.canCut (s : State) (n : Nat) (x : FabTx) : Bool :=
  match s.frame? x.frame with
  | none => false
  | some f =>
    let sent := s.sentBytes n x
    let total := match f.copies.find? (fun c => c.dst == x.dst) with
      | some c => if f.complete then (egressBytes s f c n).length + 4 else f.bytes.length
      | none => 0
    decide (64 ≤ sent) && decide (sent + 64 ≤ total)

/-- Whether a port can start a frame of class `c`: it sends nothing, or one preemptable frame an express one may cut. -/
def State.canStart (s : State) (n c : Nat) : Bool :=
  match s.txAt n with
  | [] => true
  | [x] => !x.express && 6 ≤ c && s.preempts n && s.canCut n x
  | _ => false

/-- A line or domain port selects until it has started a frame or finds none (R58, R67, R115, R117). -/
def State.selectTx (d n : Nat) : Nat → State → State
  | 0, s => s
  | fuel + 1, s =>
    match s.selectFrame d n with
    | (none, s) => s
    | (some q, s') =>
      if !s.canStart n q.frame.cls then s
      else if s'.aged q.frame then
        State.selectTx d n fuel ((s'.bump (cntAged d q.frame.cls) 1).dealt q.frame.num q.copy n false)
      else if !(s'.linkUp n && s'.rdB (PRT_PORT_CFG n) PRT_PORT_CFG_EN) then
        State.selectTx d n fuel ((s'.bump (cntPRT_TX_DOWN_DROP n) 1).dealt q.frame.num q.copy n false)
      else if q.frame.complete && s'.maxFrame n < (egressBytes s' q.frame q.copy n).length + 4 then
        State.selectTx d n fuel ((s'.bump (cntPRT_TX_OVERSIZE n) 1).dealt q.frame.num q.copy n false)
      else s'.startTx d n q

/-- Whether a frame is a heartbeat or a referee's message (R400). -/
def isHeartbeat (b : List Byte) : Bool :=
  let o := if beAt b 12 2 = 0x8100 then 18 else 14
  beAt b (o - 2) 2 == 0x88B5 && byteAt b o == 1 && (byteAt b (o + 1) == 2 || byteAt b (o + 1) == 3)

/-- A copy delivered to ingest, to the DPX receiver or to a receive ring (R95, R114, R400). -/
def State.deliver (s : State) (p : Nat) (q : Queued) : State :=
  let f := q.frame
  let s := if p = 28 then
      let b := if f.hsr then stripHsr f.bytes else f.bytes
      { s with fab := { s.fab with inbox := s.fab.inbox ++ [(s.rd ING_STAT ING_STAT_ACTIVE, { bytes := b, arrival := f.arrival, port := f.src })] } }
    else
      let b := if f.hsr then stripHsr f.bytes else f.bytes
      if p = 30 ∧ isHeartbeat b then { s with dpx := { s.dpx with inbox := s.dpx.inbox ++ [b] } } else s.rxDeliver f
  s.dealt f.num q.copy p true

/-- Bytes sent charged to the class's deficit and shaper (R115, R116).
DESIGN CHOICE, log entry 25. -/
def State.charge (s : State) (d n c len : Nat) : State :=
  let s := if c < 5 then s.setDeficit n c (s.deficit n c - (len : Nat)) else s
  if s.shaperOn d c then s.setTokens n c (s.tokensNow d n c - ((len * 8000 : Nat) : Int)) else s

/-- Port 28, 30 or 31 takes its next frame, older ones discarded (R117). -/
def State.selectDeliver (p : Nat) : Nat → State → State
  | 0, s => s
  | fuel + 1, s =>
    match s.selectFrame p p with
    | (none, s) => s
    | (some q, s) =>
      if s.aged q.frame then
        State.selectDeliver p fuel ((s.bump (cntAged p q.frame.cls) 1).dealt q.frame.num q.copy p false)
      else
        (s.charge p p q.frame.cls (q.frame.bytes.length + 4)).deliver p q

/-- An egress port that can start a frame selects (R115). -/
def opEgressSelect (n : Nat) (s : State) : State :=
  if n = 28 ∨ n = 30 ∨ n = 31 then State.selectDeliver n (s.fab.frames.length + 1) s
  else if n < 28 ∧ s.portPresent n then State.selectTx (s.fabPort n) n (s.fab.frames.length + 1) s
  else s

def execEgressSelect (t port : Nat) (s : State) : Host.Outcome State Fault Refusal :=
  s.runAt t (opEgressSelect port)

/-! ### The end of a transmission (R65, R67, R114, R125, R126) -/

/-- A frame put on the line, and received again where the PCS loops it back (R93). -/
def State.sendFrame (s : State) (n : Nat) (b : List Byte) (stomped : Bool) : State :=
  let s := (s.bump (cntPRT_TX_OCTETS n) (b.length + 4)).bump (cntPRT_TX_FRAMES n) 1
  let s := s.send (.frame n b stomped)
  if s.rdB (PRT_PORT_CFG n) PRT_PORT_CFG_LOOPBACK then
    let fcs := fcsOf b
    opFrameReceive n { bytes := b ++ (if stomped then complement fcs else fcs), arrival := s.stamp, cut := false,
                       fragBad := false } s
  else s

/-- What a port has sent when its transmission ends, and whether it was stomped: a bad frame at N (R65), a cut-through frame that
reaches the port's maximum there, whether or not its END is known yet (R67), any other whole. None while neither is so. -/
def State.sentWhole (s : State) (n : Nat) (f : FabFrame) (c : FabCopy) : Option (List Byte × Bool) :=
  let mx := s.maxFrame n
  let b := egressBytes s f c n
  if endKnown f c && f.end_ != 0 then some (b.take (min mx f.stomp - 4), true)
  else if mx < b.length + 4 then some (b.take (mx - 4), true)
  else if endKnown f c then some (b, false)
  else none

/-- The transmission in progress on a port ends, once it can.
DESIGN CHOICE, log entry 25. -/
def opCopyEnd (n : Nat) (s : State) : State :=
  match s.txAt n with
  | [] => s
  | x :: rest =>
    match (s.frame? x.frame).bind (fun (f : FabFrame) => (f.copies.find? (fun c => c.dst == x.dst)).map (fun c => (f, c))) with
    | none => s.setTx n rest
    | some (f, c) =>
      match s.sentWhole n f c with
      | none => s
      | some (b, stomped) =>
        let bad := endKnown f c && f.end_ != 0
        let s := (s.offLine n x.frame).sendFrame n b stomped
        let s := if stomped then s.bump (cntPRT_TX_STOMPED n) 1 else s
        let s := if bad && !c.stomped then s.bump (cntFAB_CT_STOMPED x.dst) 1 else s
        let s := s.charge x.dst n f.cls (b.length + 4)
        s.dealt f.num { c with stomped := c.stomped || bad } n true

def execCopyEnd (t port : Nat) (s : State) : Host.Outcome State Fault Refusal :=
  s.runAt t (opCopyEnd port)

/-- The link of a port fails while it sends: the rest of each frame is not sent (R58).
DESIGN CHOICE, log entry 23. -/
def State.abortTx (s : State) (n : Nat) : State :=
  (s.txAt n).foldl (fun s x =>
    let s := s.bump (cntPRT_TX_ABORT n) 1
    match (s.frame? x.frame).bind (fun f => f.copies.find? (fun c => c.dst == x.dst)) with
    | some c => s.dealt x.frame c n false
    | none => s) (s.setTx n [])

end Sys2Proof.Machine
end

