-- ==== Sys2Proof/Machine/Ports.lean ====
section
/-! DEFINITION. Port configuration and link state, redundancy pairs, and the transmit rings with large send and checksum
insertion (R55 to R58, R69, R74 to R77, R84, R88 to R90, R93). -/

namespace Sys2Proof.Machine

/-! ### Configuration and link (R57, R58, R69, R77) -/

/-- The link fails while a frame is in reception: the frame is truncated at what has arrived (R58, R64). A frame is in reception
from its first bit on, for as long as its bytes take at the port's rate.
DESIGN CHOICE, log entry 23. -/
def State.cutReception (s : State) (n : Nat) : State :=
  match (s.stagedAt n).getLast? with
  | none => s
  | some x =>
    let got := (s.dom - x.arrival) * s.rate_ n / 8000
    if 28 ≤ n ∨ x.end_ = 3 ∨ x.wire ≤ got then s
    else
      let s := s.uncount x.counted
      let got := max got (64 * x.cells)
      let rest := (s.stagedAt n).dropLast
      if got < 64 then (s.setStaged n rest).bump (cntPRT_RX_RUNT n) 1
      else
        let s := s.bump (cntPRT_RX_TRUNC n) 1
        if x.whole then s.setStaged n rest
        else
          let y : RxStage := { x with bytes := x.bytes.take got, end_ := 3, stomp := got, counted := [(cntPRT_RX_TRUNC n, 1)] }
          match x.frame with
          | some k => if cellsOf y.bytes.length ≤ x.cells then (s.setStaged n rest).completeFrame k 3 got else s.setStaged n (rest ++ [y])
          | none => s.setStaged n (rest ++ [y])

/-- The link of a port goes up or down: the event of R58, verification anew (R69), and what a lost link ends (R58, R72).
SPEED keeps its last value, and so do AN_DONE and FEC_LOCK where EN is cleared, of which the spec says nothing.
DESIGN CHOICE, log entry 23. -/
def State.setLink (s : State) (n : Nat) (up : Bool) : State :=
  if s.linkUp n = up then s
  else
    let s := s.wrB (PRT_PORT_STAT n) PRT_PORT_STAT_LINK up
    let s := s.setPort n { s.port n with verifies := 0 }
    let s := s.wrB (PRT_PORT_STAT n) PRT_PORT_STAT_PREEMPT_ACTIVE
      (up && s.preemptEn n && s.rdB (PRT_PREEMPT n) PRT_PREEMPT_VERIFY_DIS)
    let s := if up then s else ((s.endPauses n).abortTx n).cutReception n
    s.post 0x0101 (p1 n ++ p1 (b2n up) ++ p1 (s.rd (PRT_PORT_CFG n) PRT_PORT_CFG_MODE))

/-- The fields of a word kept, reserved bits zero. -/
def fieldsOf (l : List Fld) (w : Word) : Word := l.foldl (fun r f => fset f r (fget f w)) 0

/-- PRT_PORT_CFG written (R57): refused as a whole, or taken; clearing EN takes the link down (R58). -/
def opPortConfigWrite (n : Nat) (v : Word) (s : State) : State :=
  if !s.portPresent n then s
  else
    let w := fieldsOf [PRT_PORT_CFG_LOOPBACK, PRT_PORT_CFG_PFC_OBEY, PRT_PORT_CFG_PAUSE_OBEY, PRT_PORT_CFG_PREEMPT_EN,
      PRT_PORT_CFG_LONG, PRT_PORT_CFG_AN_EN, PRT_PORT_CFG_FEC, PRT_PORT_CFG_MODE, PRT_PORT_CFG_EN] v
    let mode := fget PRT_PORT_CFG_MODE w
    let fec := fget PRT_PORT_CFG_FEC w
    let changes := mode ≠ s.rd (PRT_PORT_CFG n) PRT_PORT_CFG_MODE ∨ fec ≠ s.rd (PRT_PORT_CFG n) PRT_PORT_CFG_FEC
    if !modeOk n mode fec ∨ (s.rdB (PRT_PORT_CFG n) PRT_PORT_CFG_EN ∧ changes) then s.prtRej n
    else
      let s := s.wrW (PRT_PORT_CFG n) w
      let s := if fget PRT_PORT_CFG_EN w = 0 then s.setLink n false else s
      let s := if s.preemptEn n then s else s.wrB (PRT_PORT_STAT n) PRT_PORT_STAT_PREEMPT_ACTIVE false
      s.fabRemode

def execPortConfigWrite (t port : Nat) (value : Word) (s : State) : Host.Outcome State Fault Refusal :=
  s.runAt t (opPortConfigWrite port value)

/-- The link of an enabled port comes up (R58): speed, auto-negotiation and FEC lock show what the PCS found (R93).
DESIGN CHOICE, log entry 23. -/
def opLinkUp (n speed : Nat) (anDone fecLock : Bool) (s : State) : State :=
  if !(s.portPresent n && s.rdB (PRT_PORT_CFG n) PRT_PORT_CFG_EN) then s
  else
    let s := s.wr (PRT_PORT_STAT n) PRT_PORT_STAT_SPEED speed
    let s := s.wrB (PRT_PORT_STAT n) PRT_PORT_STAT_AN_DONE (anDone && s.rdB (PRT_PORT_CFG n) PRT_PORT_CFG_AN_EN
      && decide (s.rd (PRT_PORT_CFG n) PRT_PORT_CFG_MODE ≤ 1))
    let s := s.wrB (PRT_PORT_STAT n) PRT_PORT_STAT_FEC_LOCK (fecLock && s.rd (PRT_PORT_CFG n) PRT_PORT_CFG_FEC != 0)
    s.setLink n true

def execLinkUp (t port speed : Nat) (anDone fecLock : Bool) (s : State) : Host.Outcome State Fault Refusal :=
  s.runAt t (opLinkUp port speed anDone fecLock)

/-- The link fails (R58, R72). -/
def opLinkDown (n : Nat) (s : State) : State :=
  if !s.portPresent n then s
  else
    let s := (s.wrB (PRT_PORT_STAT n) PRT_PORT_STAT_AN_DONE false).wrB (PRT_PORT_STAT n) PRT_PORT_STAT_FEC_LOCK false
    s.setLink n false

def execLinkDown (t port : Nat) (s : State) : Host.Outcome State Fault Refusal :=
  s.runAt t (opLinkDown port)

/-- PRT_LRE_CFG written (R77, R93): a mode needs both ports of the pair enabled in the same mode. -/
def opLreConfigWrite (p : Nat) (v : Word) (s : State) : State :=
  if !s.pairPresent p then s
  else
    let w := fieldsOf [PRT_LRE_CFG_DUP_AGE, PRT_LRE_CFG_SUP_LSB, PRT_LRE_CFG_REDBOX, PRT_LRE_CFG_MODE] v
    let age := fget PRT_LRE_CFG_DUP_AGE w
    let mode := fget PRT_LRE_CFG_MODE w
    let a := PRT_PORT_CFG (2 * p)
    let b := PRT_PORT_CFG (2 * p + 1)
    let both := s.rdB a PRT_PORT_CFG_EN && s.rdB b PRT_PORT_CFG_EN && s.rd a PRT_PORT_CFG_MODE == s.rd b PRT_PORT_CFG_MODE
    if age < 10 ∨ 10000 < age ∨ mode = 3 ∨ (mode ≠ 0 ∧ !both) then s.prtRej (2 * p)
    else s.wrW (PRT_LRE_CFG p) w

def execLreConfigWrite (t pair : Nat) (value : Word) (s : State) : Host.Outcome State Fault Refusal :=
  s.runAt t (opLreConfigWrite pair value)

/-! ### Ring registers (R84, R88, R93) -/

/-- A receive ring's TAIL written: the descriptors before it are the device's (R85, R88). -/
def opRxTailWrite (r index : Nat) (s : State) : State :=
  if r < 1024 then s.wr (PRT_RXR_TAIL r) PRT_RXR_TAIL_INDEX index else s

def execRxTailWrite (t ring index : Nat) (s : State) : Host.Outcome State Fault Refusal :=
  s.runAt t (opRxTailWrite ring index)

/-- A transmit ring's TAIL written. -/
def opTxTailWrite (r index : Nat) (s : State) : State :=
  if r < 1024 then s.wr (PRT_TXR_TAIL r) PRT_TXR_TAIL_INDEX index else s

def execTxTailWrite (t ring index : Nat) (s : State) : Host.Outcome State Fault Refusal :=
  s.runAt t (opTxTailWrite ring index)

/-- PRT_RXR_CFG written; with EN cleared a frame being written is discarded (R87), and HEAD and TAIL return to 0 (R93). -/
def opRxRingDisable (r : Nat) (v : Word) (s : State) : State :=
  if ¬ r < 1024 then s
  else
    let w := fieldsOf [PRT_RXR_CFG_BUF_SIZE, PRT_RXR_CFG_SIZE_LOG2, PRT_RXR_CFG_EN] v
    let z := fget PRT_RXR_CFG_SIZE_LOG2 w
    let b := fget PRT_RXR_CFG_BUF_SIZE w
    if z < 4 ∨ 16 < z ∨ b < 1 ∨ 64 < b then s.prtRej 0
    else
      let s := if s.rdB (PRT_RXR_CFG r) PRT_RXR_CFG_EN ∧ fget PRT_RXR_CFG_EN w = 0 then s.rxAbort r else s
      let s := s.wrW (PRT_RXR_CFG r) w
      if fget PRT_RXR_CFG_EN w = 0 then
        (s.wr (PRT_RXR_HEAD r) PRT_RXR_HEAD_INDEX 0).wr (PRT_RXR_TAIL r) PRT_RXR_TAIL_INDEX 0
      else s

def execRxRingDisable (t ring : Nat) (value : Word) (s : State) : Host.Outcome State Fault Refusal :=
  s.runAt t (opRxRingDisable ring value)

/-- PRT_TXR_CFG written; with EN cleared nothing further completes, and HEAD and TAIL return to 0 (R93). -/
def opTxRingDisable (r : Nat) (v : Word) (s : State) : State :=
  if ¬ r < 1024 then s
  else
    let w := fieldsOf [PRT_TXR_CFG_LONG, PRT_TXR_CFG_SIZE_LOG2, PRT_TXR_CFG_EN] v
    let z := fget PRT_TXR_CFG_SIZE_LOG2 w
    if z < 4 ∨ 16 < z then s.prtRej 0
    else
      let s := s.wrW (PRT_TXR_CFG r) w
      if fget PRT_TXR_CFG_EN w = 0 then
        (s.wr (PRT_TXR_HEAD r) PRT_TXR_HEAD_INDEX 0).wr (PRT_TXR_TAIL r) PRT_TXR_TAIL_INDEX 0
      else s

def execTxRingDisable (t ring : Nat) (value : Word) (s : State) : Host.Outcome State Fault Refusal :=
  s.runAt t (opTxRingDisable ring value)

/-! ### Checksums (R74, R75) -/

/-- Where the parts of an IP frame lie: offset of IP, IPv6 or not, offset of the transport header, its protocol. -/
structure IpParts where
  ip : Nat
  v6 : Bool
  l4 : Nat
  proto : Nat
  deriving DecidableEq, Repr

/-- The parse of an Ethernet frame with at most one VLAN tag and IPv4, or IPv6 without extension headers (R74). -/
def ipParts (b : List Byte) : Option IpParts :=
  let off := if (vlanTci b 12).isSome then 18 else 14
  let et := etherType b 12
  if et = 0x0800 ∧ byteAt b off / 16 = 4 ∧ 5 ≤ byteAt b off % 16 then
    some { ip := off, v6 := false, l4 := off + 4 * (byteAt b off % 16), proto := byteAt b (off + 9) }
  else if et = 0x86DD ∧ byteAt b off / 16 = 6 then some { ip := off, v6 := true, l4 := off + 40, proto := byteAt b (off + 6) }
  else none

/-- The IPv4 header checksum inserted. -/
def putIpSum (b : List Byte) (p : IpParts) : List Byte :=
  if p.v6 then b
  else
    let z := patch b (p.ip + 10) (beBytes 2 0)
    patch z (p.ip + 10) (beBytes 2 (inetSum (sum16 (slice z p.ip (p.l4 - p.ip)))))

/-- The TCP or UDP checksum over the segment and its pseudo-header inserted; `len` is the segment's length.
DESIGN CHOICE, log entry 24. -/
def putL4Sum (b : List Byte) (p : IpParts) (len : Nat) : List Byte :=
  let at_ := if p.proto = 6 then some 16 else if p.proto = 17 then some 6 else none
  match at_ with
  | none => b
  | some o =>
    let z := patch b (p.l4 + o) (beBytes 2 0)
    let addrs := if p.v6 then slice z (p.ip + 8) 32 else slice z (p.ip + 12) 8
    let c := inetSum (sum16 addrs + p.proto + len % 65536 + len / 65536 + sum16 (slice z p.l4 len))
    patch z (p.l4 + o) (beBytes 2 (if p.proto = 17 ∧ c = 0 then 65535 else c))

/-- The transport length that the IP header gives. -/
def l4Len (b : List Byte) (p : IpParts) : Nat :=
  if p.v6 then beAt b (p.ip + 4) 2 else beAt b (p.ip + 2) 2 - (p.l4 - p.ip)

/-- The checksums a descriptor asks for (R75). -/
def insertSums (b : List Byte) (l3 l4 : Bool) : List Byte :=
  match ipParts b with
  | none => b
  | some p =>
    let b := if l3 then putIpSum b p else b
    if l4 then putL4Sum b p (l4Len b p) else b

/-- Segment `k` of a large send (R74). -/
def lsoSegment (hdr payload : List Byte) (p : IpParts) (mss k last : Nat) : List Byte :=
  let data := (payload.drop (k * mss)).take mss
  let b := hdr ++ data
  let ipLen := b.length - p.ip
  let b := if p.v6 then patch b (p.ip + 4) (beBytes 2 (ipLen - 40))
    else
      let b := patch b (p.ip + 2) (beBytes 2 ipLen)
      putIpSum (patch b (p.ip + 4) (beBytes 2 (beAt hdr (p.ip + 4) 2 + k))) p
  let b := patch b (p.l4 + 4) (beBytes 4 (beAt hdr (p.l4 + 4) 4 + k * mss))
  let fl := byteAt hdr (p.l4 + 13)
  let fl := if k = last then fl else nsetBit (nsetBit fl 0 false) 3 false
  let fl := if k = 0 then fl else nsetBit fl 7 false
  let b := patch b (p.l4 + 13) (bytesOf [fl])
  putL4Sum b p (b.length - p.l4)

/-- The segments of a large send, or none where the headers do not parse to HDR_LEN or are not all there (R74). A transmission of
headers alone is one segment without payload.
DESIGN CHOICE, log entry 24. -/
def lsoSegments (b : List Byte) (hdrLen mss : Nat) : Option (List (List Byte)) :=
  let hdr := b.take hdrLen
  let payload := b.drop hdrLen
  match ipParts hdr with
  | none => none
  | some p =>
    if hdr.length = hdrLen ∧ p.proto = 6 ∧ p.l4 + 4 * (byteAt hdr (p.l4 + 12) / 16) = hdrLen ∧ 5 ≤ byteAt hdr (p.l4 + 12) / 16 then
      let n := max 1 ((payload.length + mss - 1) / mss)
      some ((List.range n).map (fun k => lsoSegment hdr payload p mss k (n - 1)))
    else none

/-! ### PTP messages of the steward (R18, R30, R90, R107) -/

/-- The steward sends an event message of its own by a port: staged at fabric port 30 in class 5, not through the transmit
rings. -/
def State.ptpSend (s : State) (n : Nat) (b : List Byte) : State :=
  if s.ptpOn n && etherType b 12 == 0x88F7 then
    s.stageFrame 30 { bytes := b, arrival := 0, cls := some 5, fixed := some [s.fabPort n], whole := true }
  else s

/-- PTP_EVENT_MESSAGE: a message received, or one of the steward's own. -/
def opPtpEventMessage (port : Nat) (msg : PtpMsg) (s : State) : State :=
  match msg with
  | .send b => s.ptpSend port b
  | m => s.ptpReceive port m

/-! ### Transmit rings (R76, R89, R90) -/

/-- The transmit rings that are enabled, by number. -/
def State.txRings (s : State) : List Nat :=
  s.regs.filterMap (fun c =>
    if 0x01500008 ≤ c.1 ∧ c.1 < 0x01508008 ∧ (c.1 - 0x01500008) % 32 = 0 ∧ fget PRT_TXR_CFG_EN c.2 = 1
    then some ((c.1 - 0x01500008) / 32) else none)

/-- The fabric port a ring's frames enter by. -/
def ringPort (r : Nat) : Nat := if r < 16 then 30 else 31

/-- The descriptors of one transmission: from `i` on to the one with LAST, of at most `n`.
DESIGN CHOICE, log entry 24. -/
def State.txGather (s : State) (base size : Nat) : Nat → Nat → Option (List Nat)
  | 0, _ => none
  | n + 1, i =>
    let a := base + 32 * (i % size)
    if (s.byte (a + 10)).toNat.testBit 1 then some [a] else (State.txGather s base size n (i + 1)).map (a :: ·)

/-- The descriptors of the transmission at a ring's head; none while there is no whole one (R85, R90). -/
def State.txNext (s : State) (r : Nat) : Option (List Nat) :=
  let size := 2 ^ s.rd (PRT_TXR_CFG r) PRT_TXR_CFG_SIZE_LOG2
  let head := s.rd (PRT_TXR_HEAD r) PRT_TXR_HEAD_INDEX
  let tail := s.rd (PRT_TXR_TAIL r) PRT_TXR_TAIL_INDEX
  State.txGather s (ringBase s (PRT_TXR_BASE_LO r) (PRT_TXR_BASE_HI r)) size ((tail + size - head % size) % size) head

/-- The bytes of a transmission, none where a descriptor's address or length is out of range (R89). -/
def State.txBytes (s : State) (ds : List Nat) : Option (List Byte) :=
  ds.foldr (fun d acc =>
    let a := s.le d 8
    let n := s.le (d + 8) 2
    if n < 1 ∨ 16384 < n ∨ 2 ^ 40 ≤ a ∨ s.memFault a n then none else acc.map (s.bytes a n ++ ·)) (some [])

/-- What becomes of a transmission: its frames, or the status of R90 it is refused with. The port or its LRE pads them (R75, R79).
An EGRESS that names a port the variant lacks is a field out of range: BAD_DESC.
DESIGN CHOICE, log entry 24. -/
def State.txCheck (s : State) (r : Nat) (ds : List Nat) : Except Nat (List (List Byte)) :=
  let d := ds.headD 0
  let flags := s.le (d + 10) 1
  let cls := s.le (d + 11) 1
  let mss := s.le (d + 12) 2
  let hdr := s.le (d + 14) 1
  let eg := s.le (d + 15) 1
  let len := s.le (d + 16) 4
  let tenant := 16 ≤ r && !s.rdB (PRT_TXR_OWNER r) PRT_TXR_OWNER_STEWARD
  let lso := flags.testBit 2
  let bound := if s.rdB (PRT_TXR_CFG r) PRT_TXR_CFG_LONG then 9594 else 1530
  let egOk := eg == 0xFF || (eg < 28 && !tenant && s.portPresent eg)
  let later := (ds.drop 1).all (fun x => !(s.le (x + 10) 1).testBit 0)
  match s.txBytes ds with
  | none => .error 2
  | some b =>
    if !flags.testBit 0 || !later || 4 < cls || len ≠ b.length || len < 14 || !egOk
        || (lso && (mss < 88 || 9000 < mss || hdr < 54 || 254 < hdr || 262144 < len)) then .error 2
    else if tenant && smac b != macOf (s.rdW (PRT_TXR_SRC_LO r)).toNat (s.rd (PRT_TXR_SRC_HI r) PRT_TXR_SRC_HI_MAC) then
      .error 4
    else
      let frames := if lso then lsoSegments b hdr mss else some [insertSums b (flags.testBit 3) (flags.testBit 4)]
      match frames with
      | none => .error 3
      | some fs =>
        if fs.any (fun f => bound < f.length + 4) then .error 1 else .ok fs

/-- One transmission served: checked, handed to the staging buffer, its status written and HEAD advanced (R90). -/
def State.serveRing (s : State) (r : Nat) (ds : List Nat) : State :=
  let d := ds.headD 0
  let last := ds.getLastD 0
  let flags := s.le (d + 10) 1
  let cls := s.le (d + 11) 1
  let eg := s.le (d + 15) 1
  let (status, s) := match s.txCheck r ds with
    | .error e => (e, s)
    | .ok fs =>
      let fixed := if eg = 0xFF then none else some [s.fabPort eg]
      (0, (fs.zip (List.range fs.length)).foldl (fun s (f : List Byte × Nat) =>
        let txDesc := if f.2 = 0 ∧ flags.testBit 5 ∧ eg ≠ 0xFF then some last else none
        let ptp := ringPort r = 30 ∧ etherType f.1 12 = 0x88F7
        s.stageFrame (ringPort r) { bytes := f.1, arrival := 0, cls := some (if ptp then 5 else cls), fixed, whole := true, txDesc }) s)
  let s := s.devWrite (last + 20) (leBytes 2 status)
  let s := s.devWrite (last + 10) (leBytes 1 (nsetBit (s.le (last + 10) 1) 7 true))
  let s := s.devWrite (last + 24) (leBytes 8 0)
  let size := 2 ^ s.rd (PRT_TXR_CFG r) PRT_TXR_CFG_SIZE_LOG2
  s.wr (PRT_TXR_HEAD r) PRT_TXR_HEAD_INDEX ((s.rd (PRT_TXR_HEAD r) PRT_TXR_HEAD_INDEX + ds.length) % size)

/-- Whether the cell limit of a fabric port is reached, so that its rings' service pauses (R90).
DESIGN CHOICE, log entry 23. -/
def State.ingressFull (s : State) (p : Nat) : Bool :=
  decide (s.rd (FAB_ING_LIMIT p) FAB_ING_LIMIT_CELLS ≤ s.rd (FAB_ING_USE p) FAB_ING_USE_CELLS)

/-- Round-robin service: the next ring after the last one served that has a whole transmission (R90). -/
def opTxRingService (s : State) : State :=
  let waits := [30, 31].filter (fun p => s.prt.txPaused.contains p || s.ingressFull p)
  let s := { s with prt := { s.prt with txPaused := waits } }
  let rings := s.txRings
  let last := s.prt.txRing
  let order := rings.filter (fun r => last < r) ++ rings.filter (fun r => r ≤ last)
  match order.findSome? (fun r => if s.prt.txPaused.contains (ringPort r) then none else (s.txNext r).map (fun ds => (r, ds))) with
  | none => s
  | some (r, ds) => ({ s with prt := { s.prt with txRing := r } }).serveRing r ds

def execTxRingService (t : Nat) (s : State) : Host.Outcome State Fault Refusal := s.runAt t opTxRingService

/-- Service resumes at the fabric ports whose cells have been freed (R90). -/
def opTxServiceResume (s : State) : State :=
  { s with prt := { s.prt with txPaused := s.prt.txPaused.filter s.ingressFull } }

def execTxServiceResume (t : Nat) (s : State) : Host.Outcome State Fault Refusal := s.runAt t opTxServiceResume

end Sys2Proof.Machine
end

