-- ==== Sys2Proof/Machine/Sched.lean ====
section
/-! DEFINITION. The scheduler (R230 to R258): flags and readiness, dispatch, enqueue, completion, flows, spill, timers, and
overrun checks. -/

namespace Sys2Proof.Machine

/-! ### Tenants and descriptors -/

/-- The fields of a descriptor's word 3: CTRL and DEADLINE (R230). -/
def DESC_TENANT : Fld := ⟨0, 9, .rw, 0, 0, 511⟩
def DESC_PRIO : Fld := ⟨9, 3, .rw, 0, 0, 7⟩
def DESC_ALL : Fld := ⟨12, 1, .rw, 0, 0, 1⟩
def DESC_CLR : Fld := ⟨13, 1, .rw, 0, 0, 1⟩
def DESC_FLAG_ONLY : Fld := ⟨14, 1, .rw, 0, 0, 1⟩
def DESC_VALID : Fld := ⟨15, 1, .rw, 0, 0, 1⟩
def DESC_DEADLINE : Fld := ⟨16, 16, .rw, 0, 0, 65535⟩
/-- The fields of word 4. -/
def DESC_RUN_LIMIT : Fld := ⟨0, 16, .rw, 0, 0, 65535⟩

/-- The tenants whose TEN_STATE word differs from EMPTY. -/
def State.liveTenants (s : State) : List Nat := s.regs.filterMap (fun c => elemOf (TEN_STATE 0) 512 0x100 c.1)

/-- TEN_STATE.STATE: 0 EMPTY, 1 LOADED, 2 RUNNING, 3 QUIESCING, 4 DISABLED, 5 MIGRATING (R225). -/
def State.tenState (s : State) (t : Nat) : Nat := s.rd (TEN_STATE t) TEN_STATE_STATE

/-- RUNNING, or MIGRATING with STOPPED = 0 (R204, R237). -/
def State.tenActive (s : State) (t : Nat) : Bool :=
  s.tenState t == 2 || (s.tenState t == 5 && !s.rdB (TEN_STATE t) TEN_STATE_STOPPED)

/-- A tenant whose items may be dispatched: a migration in dispatches nothing (R202, R237). -/
def State.tenDispatches (s : State) (t : Nat) : Bool :=
  s.tenActive t && !(s.tenState t == 5 && s.rdB (TEN_STATE t) TEN_STATE_DIR)

def State.taskFirst (s : State) (t : Nat) : Nat := s.rd (SCH_TEN_TASKS t) SCH_TEN_TASKS_FIRST
def State.taskCount (s : State) (t : Nat) : Nat := s.rd (SCH_TEN_TASKS t) SCH_TEN_TASKS_COUNT

/-- Whether descriptor `d` lies in tenant `t`'s range (R230). -/
def State.ownsTask (s : State) (t d : Nat) : Bool := s.taskFirst t ≤ d && d < s.taskFirst t + s.taskCount t

/-- The tenant whose range holds a descriptor. -/
def State.taskOwner (s : State) (d : Nat) : Option Nat :=
  (s.regs.filterMap (fun c => elemOf (SCH_TEN_TASKS 0) 512 0x80 c.1)).find? (fun t => s.ownsTask t d)

def State.descFlags (s : State) (d : Nat) : Nat := (s.rdW (SCH_DESC d 0)).toNat
def State.descMask (s : State) (d : Nat) : Nat := (s.rdW (SCH_DESC d 1)).toNat
def State.desc (s : State) (d : Nat) (f : Fld) : Nat := s.rd (SCH_DESC d 3) f
def State.descB (s : State) (d : Nat) (f : Fld) : Bool := s.rdB (SCH_DESC d 3) f

/-! ### Flags (R233 to R235) -/

/-- The flag condition for given FLAGS and MASK (R233). -/
def flagCond (flags mask : Nat) (all : Bool) : Bool :=
  mask == 0 || (if all then (flags &&& mask) == mask else (flags &&& mask) != 0)

/-- A task's flag condition. -/
def State.flagCond (s : State) (d : Nat) : Bool := Machine.flagCond (s.descFlags d) (s.descMask d) (s.descB d DESC_ALL)

/-- The moment a flag condition becomes true is noted (R253). -/
def State.noteCond (s0 s : State) (d : Nat) : State :=
  if s.flagCond d && !s0.flagCond d then
    { s with sch := { s.sch with condAt := cset (fun _ => 0) s.sch.condAt d s.now } }
  else s

/-- A task's flag word replaced. -/
def State.putFlags (s : State) (d v : Nat) : State := State.noteCond s (s.wrW (SCH_DESC d 0) (BitVec.ofNat 32 v)) d

/-- A set: an atomic OR into FLAGS; one aimed at a descriptor that is not VALID is dropped and counted (R234). -/
def State.setFlags (s : State) (d bits : Nat) : State :=
  if d < 8192 ∧ s.descB d DESC_VALID then s.putFlags d (s.descFlags d ||| bits) else s.bump cntSCH_FLAG_DROPPED 1

/-- Flag bits cleared (R235). -/
def State.clearFlags (s : State) (d bits : Nat) : State :=
  if d < 8192 then s.putFlags d (s.descFlags d &&& (bits ^^^ 0xFFFFFFFF)) else s

/-- A notice register's flag set, when the notice is enabled (R234); the three notice registers have one form. -/
def State.notice (s : State) (reg : Nat) : State :=
  if s.rdB reg SCH_TEN_TICK_EN then s.setFlags (s.rd reg SCH_TEN_TICK_TASK) (2 ^ s.rd reg SCH_TEN_TICK_BIT) else s

/-- SCH_FLAG_SET written (R234, R255). -/
def opSchFlagSet (task : Nat) (clear : Bool) (s : State) : State :=
  let bits := s.rd SCH_FLAG_BITS SCH_FLAG_BITS_BITS
  if clear then s.clearFlags task bits else s.setFlags task bits

def execSchFlagSet (t task : Nat) (clear : Bool) (s : State) : Host.Outcome State Fault Refusal :=
  s.runAt t (opSchFlagSet task clear)

/-! ### Cores -/

/-- The item in service on a core. -/
def State.runOf (s : State) (core : Nat) : Option SchRun := s.sch.runs.find? (fun r => r.core == core)

/-- The tenant whose window a core reaches: that of its item in service (R28). -/
def State.coreTenant (s : State) (core : Nat) : Option Nat := (s.runOf core).map (·.item.tenant)

/-- The round in progress: the one dispatched last, or while nothing is dispatched the one whose samples enclose now.
DESIGN CHOICE, log entry 28. -/
def State.roundNow (s : State) : Nat :=
  match s.tim.lastRound with
  | some k => if s.gridOn then k else roundAt s.fs s.roundLen s.dom
  | none => roundAt s.fs s.roundLen s.dom

/-- T of the round in progress (R43). -/
def State.roundNowT (s : State) : Nat := dispatchInstant s.fs s.roundLen (s.rd TIM_ADMIT TIM_ADMIT_CURRENT) s.roundNow

/-- One round length in ns, rounded down. -/
def State.roundNs (s : State) : Nat := s.roundLen * 1000000000 / s.fs

/-! ### Registers that follow the items -/

/-- Items on chip (queued or held) of those that `p` names.
DESIGN CHOICE, log entry 30. -/
def State.onChip (s : State) (p : SchItem → Bool) : Nat := (s.sch.items.filter (fun i => i.spilled.isNone && p i)).length

/-- A tenant's occupancy: items queued, held and spilled (R208). -/
def State.occupancy (s : State) (t : Nat) : Nat := (s.sch.items.filter (fun i => i.tenant == t)).length

/-- Whether an item of a flow is in service. -/
def State.flowBusy (s : State) (f : Nat) : Bool := s.sch.runs.any (fun r => r.item.flow == some f)

/-- The registers of R230, R252 and R255 that show items, brought up to date after a change of `s0`'s items. -/
def State.schSync (s0 s : State) : State :=
  let all := s0.sch.items ++ s.sch.items ++ (s0.sch.runs ++ s.sch.runs).map (·.item)
  let s := (all.map (·.tenant)).eraseDups.foldl (fun s t =>
    (s.wr (SCH_TEN_STAT t) SCH_TEN_STAT_ONCHIP (s.onChip (fun i => i.tenant == t))).wrB (SCH_TEN_STAT t)
      SCH_TEN_STAT_SPILLING (s.sch.items.any (fun i => i.tenant == t && i.spilled.isSome))) s
  let s := (all.map (·.task)).eraseDups.foldl (fun s d =>
    let q := satNat 65535 (s.sch.items.filter (fun i => i.task == d)).length
    let n := (s.sch.runs.filter (fun r => r.item.task == d)).length
    s.wrW (SCH_DESC d 5) (BitVec.ofNat 32 (q + n * 65536))) s
  let s := (all.filterMap (·.flow)).eraseDups.foldl (fun s f =>
    s.wrB (SCH_FLOW_OWNER f) SCH_FLOW_OWNER_BUSY (s.flowBusy f)) s
  let s := (s0.sch.runs ++ s.sch.runs).foldl (fun s r => match s.runOf r.core with
    | some x => ((s.wr (SCH_CORE_STAT r.core) SCH_CORE_STAT_STATE 1).wr (SCH_CORE_STAT r.core) SCH_CORE_STAT_TENANT
        x.item.tenant).wr (SCH_CORE_STAT r.core) SCH_CORE_STAT_TASK x.item.task
    | none => s.wrW (SCH_CORE_STAT r.core) 0) s
  s.wr SCH_STAT SCH_STAT_POOL_FREE (32768 - s.onChip (fun _ => true))

/-- The machine with other items and runs. -/
def State.setSch (s : State) (items : List SchItem) (runs : List SchRun) : State :=
  State.schSync s { s with sch := { s.sch with items := items, runs := runs } }

/-- Items at the head of their task's on-chip order whose flow is in service or has held items join the hold list (R248).
DESIGN CHOICE, log entry 30. -/
def State.holdScan (s : State) : State :=
  let step := fun (acc : List SchItem × List Nat × List Nat × Nat) (i : SchItem) =>
    let (out, blocked, heldFlows, n) := acc
    if i.spilled.isSome || i.held.isSome || blocked.contains i.task then (out ++ [i], blocked, heldFlows, n)
    else match i.flow with
      | some f =>
        if s.flowBusy f || heldFlows.contains f then
          (out ++ [{ i with held := some n }], blocked, heldFlows ++ [f], n + 1)
        else (out ++ [i], blocked ++ [i.task], heldFlows, n)
      | none => (out ++ [i], blocked ++ [i.task], heldFlows, n)
  let heldFlows := (s.sch.items.filter (fun i => i.held.isSome)).filterMap (·.flow)
  let (out, _, _, n) := s.sch.items.foldl step ([], [], heldFlows, s.sch.nextOrd)
  { s with sch := { s.sch with items := out, nextOrd := n } }

/-! ### Completion (R247) -/

/-- The registers of the steward completion queue show its head record. -/
def State.stwCplShow (s : State) : State :=
  let r := s.sch.stwCpl.headD []
  (List.range 4).foldl (fun s i => s.wrW (SCH_STW_CPL i) (BitVec.ofNat 32 (leAt r (4 * i) 4))) s

/-- A completion record lost: counted, with event 0x0504 at most once per second.
DESIGN CHOICE, log entry 30. -/
def State.cplLost (s : State) (t : Nat) : State :=
  let s := s.bump (cntSCH_TEN_CPL_LOST t) 1
  let n := cget (fun _ => 0) s.sch.cplLost t + 1
  if s.mayWrite 0x0504 t then
    let s := { s with sch := { s.sch with cplLost := cset (fun _ => 0) s.sch.cplLost t 0 } }
    (s.noteWritten 0x0504 t).postTenant 0x0504 t (p2 t ++ p4 n)
  else { s with sch := { s.sch with cplLost := cset (fun _ => 0) s.sch.cplLost t n } }

/-- The record of an item's completion. -/
def State.cplRecord (s : State) (i : SchItem) (overflow : Bool) (status result : Nat) : List Byte :=
  p4 i.tag ++ p1 (i.task - s.taskFirst i.tenant) ++ p1 (b2n overflow + 2 * b2n i.steward) ++ p2 status ++ p2 result
    ++ p2 0 ++ p4 i.round

/-- An item completes: its record goes to the tenant's ring or to the steward's queue (R247). -/
def State.complete (s : State) (i : SchItem) (status result : Nat) : State :=
  if !i.req ∧ status = 0 ∧ result = 0 then s
  else if i.steward then
    if s.sch.stwCpl.length < 64 then
      let r := s.cplRecord i s.sch.stwOverflow status result
      ({ s with sch := { s.sch with stwCpl := s.sch.stwCpl ++ [r], stwOverflow := false } }).stwCplShow
    else ({ s with sch := { s.sch with stwOverflow := true } }).cplLost i.tenant
  else
    let t := i.tenant
    let p := cget (fun _ => 0) s.sch.prod t
    let c := cget (fun _ => 0) s.sch.cons t
    if (p + 2 ^ 32 - c) % 2 ^ 32 < 256 then
      let base := s.rd (SCH_TEN_CPL_LO t) SCH_TEN_CPL_LO_BASE * 0x1000 + 2 ^ 32 * s.rd (SCH_TEN_CPL_HI t) SCH_TEN_CPL_HI_BASE
      let r := s.cplRecord i (cget (fun _ => false) s.sch.overflow t) status result
      let s := s.devWrite (base + 16 * (p % 256)) r
      let s := { s with sch := { s.sch with prod := cset (fun _ => 0) s.sch.prod t ((p + 1) % 2 ^ 32),
                                            overflow := cset (fun _ => false) s.sch.overflow t false } }
      s.notice (SCH_TEN_CPLN t)
    else
      ({ s with sch := { s.sch with overflow := cset (fun _ => false) s.sch.overflow t true } }).cplLost t

/-- The item in service on a core ends, and the core is free. -/
def State.endRun (s : State) (core status result : Nat) : State :=
  let s := s.chargeAll
  match s.runOf core with
  | none => s
  | some r =>
    let s := s.setSch s.sch.items (s.sch.runs.filter (fun x => x.core != core))
    (s.complete r.item status result).holdScan

/-- Queued, held and spilled items that `p` names are removed and completed with a status. -/
def State.removeItems (s : State) (p : SchItem → Bool) (status : Nat) : State :=
  let gone := s.sch.items.filter p
  let s := s.setSch (s.sch.items.filter (fun i => !p i)) s.sch.runs
  (gone.foldl (fun s i => s.complete i status 0) s).holdScan

/-! ### Dispatch (R237 to R242) -/

/-- What a core could be given. -/
structure SchCand where
  item : SchItem
  flagOnly : Bool
  /-- 0 with budget left, 1 without (R238). -/
  group : Nat
  prio : Nat
  deadline : Nat
  deriving DecidableEq, Repr

/-- Whether candidate `a` comes before `b` (R238). -/
def candBefore (a b : SchCand) : Bool :=
  if a.group ≠ b.group then a.group < b.group
  else if a.prio ≠ b.prio then b.prio < a.prio
  else if a.deadline ≠ b.deadline then a.deadline < b.deadline
  else if a.item.enq ≠ b.item.enq then a.item.enq < b.item.enq
  else a.item.ord < b.item.ord

/-- Whether an item is the one its task or its flow's hold list offers: items of one flow start in enqueue order, whatever their
tasks (R237, R248, R251). -/
def State.offered (s : State) (i : SchItem) : Bool :=
  i.spilled.isNone &&
  match i.held, i.flow with
  | some h, some f => !s.flowBusy f &&
      !s.sch.items.any (fun j => j.flow == some f && (match j.held with | some g => decide (g < h) | none => false))
  | _, fl =>
    !s.sch.items.any (fun j => j.task == i.task && j.spilled.isNone && j.held.isNone && decide (j.ord < i.ord)) &&
    (match fl with
     | none => true
     | some f => !s.flowBusy f && !s.sch.items.any (fun j => j.flow == some f && (j.held.isSome || decide (j.ord < i.ord))))

/-- The group of R238 a tenant's items fall into; none when it may not be dispatched. -/
def State.budgetGroup (s : State) (t : Nat) : Option Nat :=
  if !s.gridOn then some 0
  else if s.hasBudget t then some 0
  else if s.rdB (SCH_TEN_CFG t) SCH_TEN_CFG_EXCESS then some 1 else none

/-- The candidates of a cluster (R237). -/
def State.candidates (s : State) (cluster : Nat) : List SchCand :=
  let ok := fun (t : Nat) => s.tenDispatches t && s.rd (TEN_CFG t) TEN_CFG_HOME == cluster
  let mk := fun (i : SchItem) (fo : Bool) => (s.budgetGroup i.tenant).map (fun g =>
    { item := i, flagOnly := fo, group := g, prio := s.desc i.task DESC_PRIO,
      deadline := i.tRound + 1000 * s.desc i.task DESC_DEADLINE : SchCand })
  let real := (s.sch.items.filter (fun i => ok i.tenant && s.offered i && s.flagCond i.task)).filterMap (mk · false)
  let only := (s.liveTenants.filter ok).flatMap (fun t =>
    ((List.range (s.taskCount t)).map (· + s.taskFirst t)).filterMap (fun d =>
      if s.descB d DESC_VALID && s.descB d DESC_FLAG_ONLY && s.flagCond d
          && !s.sch.runs.any (fun r => r.item.task == d) then
        mk { task := d, tenant := t, round := s.roundNow, tRound := s.roundNowT,
             arg := List.replicate 48 0, enq := cget (fun _ => 0) s.sch.condAt d, ord := 0 } true
      else none))
  real ++ only

/-- The scheduler's next choice for a cluster (R238). -/
def State.choose (s : State) (cluster : Nat) : Option SchCand :=
  if !s.rdB SCH_CTRL SCH_CTRL_EN then none
  else (s.candidates cluster).foldl (fun (b : Option SchCand) c => match b with
    | none => some c
    | some x => if candBefore c x then some c else b) none

/-- The histogram bin of a wait in ns (R253). -/
def waitBin (unit w : Nat) : Nat :=
  let u := 1000 * max 1 unit
  if w < u then 0 else ((List.range 6).find? (fun i => w < u * 2 ^ (i + 1))).elim 7 (· + 1)

/-- An item placed on a core: flags captured and cleared, wait counted, the core's general registers cleared, execution from `entry`
(R235, R240, R253).
DESIGN CHOICE, log entry 31. -/
def State.place (s : State) (core : Nat) (c : SchCand) : State :=
  let d := c.item.task
  let cap := s.descFlags d &&& s.descMask d
  let wait := s.now - max c.item.enq (cget (fun _ => 0) s.sch.condAt d)
  let s := s.bump (cntSCH_HIST_BIN0 d + 8 * waitBin (s.rd SCH_HIST_CFG SCH_HIST_CFG_UNIT) wait) 1
  let s := (s.bump (cntSCH_TEN_DISPATCHED c.item.tenant) 1).bump (cntSCH_CORE_ITEMS core) 1
  let s := if s.descB d DESC_CLR then s.putFlags d (s.descFlags d &&& (cap ^^^ 0xFFFFFFFF)) else s
  let run : SchRun := { core, item := { c.item with held := none }, captured := cap, entry := (s.rdW (SCH_DESC d 2)).toNat,
                        since := s.now, charged := s.now }
  let items := if c.flagOnly then s.sch.items else s.sch.items.filter (fun i => i.ord != c.item.ord)
  let s : State := { s with sch := { s.sch with gprs := cerase (fun k => k / 65536 == core) s.sch.gprs } }
  (s.setSch items (s.sch.runs ++ [run])).holdScan

/-- A free core takes the scheduler's next choice, or stays parked.
DESIGN CHOICE, log entry 31. -/
def State.dispatchCore (s : State) (core : Nat) : State :=
  let s := s.chargeAll
  if s.corePresent core && (s.runOf core).isNone then
    match s.choose (core / 8) with
    | some c => s.place core c
    | none => s
  else s

/-- A free core is dispatched (R240). -/
def opDispatch (core : Nat) (s : State) : State := s.dispatchCore core

def execDispatch (t core : Nat) (s : State) : Host.Outcome State Fault Refusal := s.runAt t (opDispatch core)

/-- TW_DONE written (R241). -/
def opTwDone (core result : Nat) (s : State) : State := s.endRun core 0 (result % 65536)

def execTwDone (t core result : Nat) (s : State) : Host.Outcome State Fault Refusal :=
  s.runAt t (opTwDone core result)

/-- TW_NEXT read (R242): the item completes; the read returns 1 when the next choice is of the same task, else the core is
dispatched anew and the read does not return. -/
def opTwNext (core : Nat) (s : State) : State :=
  let task := (s.runOf core).map (·.item.task)
  let s := (s.endRun core 0 0).dispatchCore core
  match s.runOf core with
  | some r => if task = some r.item.task then s.answer 1 else { s with bus := {} }
  | none => { s with bus := {} }

def execTwNext (t core : Nat) (s : State) : Host.Outcome State Fault Refusal := s.runAt t (opTwNext core)

/-- An item in service past its task's RUN_LIMIT is cut off (R244). -/
def opRunLimit (core : Nat) (s : State) : State :=
  match s.runOf core with
  | none => s
  | some r =>
    let d := r.item.task
    let lim := s.rd (SCH_DESC d 4) DESC_RUN_LIMIT
    let late := if lim = 0 then s.roundLen * 1000000000 < (s.now - r.since) * s.fs else lim * 1000 < s.now - r.since
    if late then
      let t := r.item.tenant
      let s := (s.endRun core 0x0514 0).bump (cntSCH_TEN_RUN_LIMITS t) 1
      s.postTenant 0x0502 t (p2 t ++ p2 d ++ p1 core ++ p4 r.item.round)
    else s

def execRunLimit (t core : Nat) (s : State) : Host.Outcome State Fault Refusal := s.runAt t (opRunLimit core)

/-! ### Enqueue (R245, R246, R249) -/

/-- The 64 bytes of an item (R232). -/
def itemBytes (i : SchItem) : List Byte :=
  leBytes 2 i.task ++ leBytes 2 (match i.flow with | some f => f + 0x8000 | none => 0) ++ leBytes 4 i.tag
    ++ leBytes 1 (b2n i.req + 2 * b2n i.steward) ++ leBytes 3 0 ++ leBytes 4 i.round ++ fitBytes 48 i.arg

/-- An item written by its submitter: SCH writes TASK, ROUND and STEWARD (R232, R245). -/
def State.parseItem (s : State) (b : List Byte) (d t : Nat) (steward : Bool) : SchItem :=
  let fl := leAt b 2 2
  { task := d, tenant := t, flow := if fl.testBit 15 then some (fl % 4096) else none, tag := leAt b 4 4,
    req := (byteAt b 8).testBit 0, steward, round := s.roundNow, tRound := s.roundNowT, arg := slice b 16 48,
    enq := s.now, ord := s.sch.nextOrd }

/-- The outcome of an enqueue, by the tests of R245 in their order.
DESIGN CHOICE, log entry 30. -/
def State.enqTest (s : State) (t d : Nat) (i : SchItem) : Nat :=
  let st := s.tenState t
  if st = 3 ∨ st = 4 ∨ st = 0 then 0x0501
  else if st = 5 ∧ s.rdB (TEN_STATE t) TEN_STATE_STOPPED then 0x0302
  else if !s.ownsTask t d ∨ !s.descB d DESC_VALID ∨ s.descB d DESC_FLAG_ONLY then 0x0510
  else if (match i.flow with
      | some f => !(s.rdB (SCH_FLOW_OWNER f) SCH_FLOW_OWNER_VALID && s.rd (SCH_FLOW_OWNER f) SCH_FLOW_OWNER_TENANT == t)
      | none => false) then 0x0511
  else if max 1 (s.rd (TEN_LIMIT_CUR t) TEN_LIMIT_CUR_ITEMS) ≤ s.occupancy t then 0x0304
  else 0

/-- A tenant's spill ring: base and size in items.
DESIGN CHOICE, log entry 30. -/
def State.spillRing (s : State) (t : Nat) : Nat × Nat :=
  (s.rd (SCH_TEN_SPILL_LO t) SCH_TEN_SPILL_LO_BASE * 0x1000 + 2 ^ 32 * s.rd (SCH_TEN_SPILL_HI t) SCH_TEN_SPILL_HI_BASE,
   s.rd (SCH_TEN_SPILL_HI t) SCH_TEN_SPILL_HI_SIZE)

/-- The tenant's on-chip quota. -/
def State.onChipQuota (s : State) (t : Nat) : Nat := max 1 (s.rd (SCH_TEN_ONCHIP t) SCH_TEN_ONCHIP_ITEMS)

/-- Whether the tenant's next item goes to its spill area (R249). -/
def State.spills (s : State) (t : Nat) : Bool :=
  s.sch.items.any (fun i => i.tenant == t && i.spilled.isSome) ||
  decide (s.onChipQuota t ≤ s.onChip (fun i => i.tenant == t)) || decide (32768 ≤ s.onChip (fun _ => true))

/-- An accepted item queued on chip or spilled. -/
def State.accept (s : State) (i : SchItem) : State :=
  let t := i.tenant
  if s.spills t then
    let n := cget (fun _ => 0) s.sch.spillNext t
    let (base, size) := s.spillRing t
    let s := if size = 0 then s else s.devWrite (base + 64 * (n % size)) (itemBytes i)
    let s := s.bump (cntSCH_TEN_SPILLED t) 1
    let s := { s with sch := { s.sch with spillNext := cset (fun _ => 0) s.sch.spillNext t (n + 1),
                                          nextOrd := s.sch.nextOrd + 1 } }
    s.setSch (s.sch.items ++ [{ i with spilled := some n }]) s.sch.runs
  else
    let s := { s with sch := { s.sch with nextOrd := s.sch.nextOrd + 1 } }
    (s.setSch (s.sch.items ++ [i]) s.sch.runs).holdScan

/-- An enqueue refused: counted; QUEUE_LIMIT also in QUEUE_REFUSED (R245). -/
def State.refuseEnq (s : State) (t code : Nat) : State :=
  let s := s.bump (cntSCH_TEN_REFUSED t) 1
  if code = 0x0304 then s.bump (cntTEN_QUEUE_REFUSED t) 1 else s

/-- TW_ENQ written (R245). -/
def opTwEnq (core index : Nat) (s : State) : State :=
  match s.coreTenant core with
  | none => s
  | some t =>
    let d := s.taskFirst t + index % 256
    let item := s.parseItem (cget (fun _ => []) s.sch.enqBuf core) d t false
    let code := s.enqTest t d item
    let s := { s with sch := { s.sch with enqStat := cset (fun _ => 0) s.sch.enqStat core code } }
    if code = 0 then s.accept item else (s.refuseEnq t code).notice (SCH_TEN_REFUSE t)

def execTwEnq (t core index : Nat) (s : State) : Host.Outcome State Fault Refusal :=
  s.runAt t (opTwEnq core index)

/-- The steward's staged item (R246). -/
def State.stwItem (s : State) : List Byte := (List.range 16).flatMap (fun i => leBytes 4 (s.rdW (SCH_STW_ITEM i)).toNat)

/-- SCH_STW_ENQ written (R246): a global descriptor, no refusal notice. -/
def opSchStwEnq (task : Nat) (s : State) : State :=
  match s.taskOwner task with
  | none => s.wr SCH_STW_ENQ_STAT SCH_STW_ENQ_STAT_STATUS 0x0510
  | some t =>
    let item := s.parseItem s.stwItem task t true
    let code := s.enqTest t task item
    let s := s.wr SCH_STW_ENQ_STAT SCH_STW_ENQ_STAT_STATUS code
    if code = 0 then s.accept item else s.refuseEnq t code

def execSchStwEnq (t task : Nat) (s : State) : Host.Outcome State Fault Refusal := s.runAt t (opSchStwEnq task)

/-- SCH_STW_CPL_POP written (R247, R255). -/
def opSchStwCplPop (s : State) : State :=
  ({ s with sch := { s.sch with stwCpl := s.sch.stwCpl.drop 1 } }).stwCplShow

def execSchStwCplPop (t : Nat) (s : State) : Host.Outcome State Fault Refusal := s.runAt t opSchStwCplPop

/-- The oldest spilled item of a tenant comes on chip when there is room; an uncorrectable error in it completes it with
ITEM_FAULTED and event 0x0503 (R249). -/
def opSpillRefill (t : Nat) (ue : Bool) (s : State) : State :=
  match s.sch.items.find? (fun i => i.tenant == t && i.spilled.isSome) with
  | none => s
  | some i =>
    if s.onChipQuota t ≤ s.onChip (fun j => j.tenant == t) ∨ 32768 ≤ s.onChip (fun _ => true) then s
    else
      let (base, size) := s.spillRing t
      let n := i.spilled.getD 0
      if ue ∨ (size ≠ 0 ∧ s.anyBad (base + 64 * (n % size)) 64) then
        let s := s.setSch (s.sch.items.filter (fun j => j.ord != i.ord)) s.sch.runs
        (s.complete i 0x0512 0).postTenant 0x0503 t (p2 t ++ p4 n)
      else
        (s.setSch (s.sch.items.map (fun j => if j.ord == i.ord then { j with spilled := none } else j)) s.sch.runs).holdScan

def execSpillRefill (t tenant : Nat) (ue : Bool) (s : State) : Host.Outcome State Fault Refusal :=
  s.runAt t (opSpillRefill tenant ue)

/-! ### Tenant window: flags, timers, completion ring (R234 to R236, R254) -/

/-- The descriptor of local task `i` of a core's tenant, when it exists. -/
def State.localTask (s : State) (core i : Nat) : Option Nat :=
  match s.coreTenant core with
  | some t => if i < s.taskCount t then some (s.taskFirst t + i) else none
  | none => none

/-- TW_FLAG i written. -/
def opTwFlag (core i : Nat) (v : Word) (s : State) : State :=
  match s.localTask core i with
  | some d => s.setFlags d v.toNat
  | none => s

def execTwFlag (t core i : Nat) (value : Word) (s : State) : Host.Outcome State Fault Refusal :=
  s.runAt t (opTwFlag core i value)

/-- TW_FLAG_CLR i written. -/
def opTwFlagClr (core i : Nat) (v : Word) (s : State) : State :=
  match s.localTask core i with
  | some d => s.clearFlags d v.toNat
  | none => s

def execTwFlagClr (t core i : Nat) (value : Word) (s : State) : Host.Outcome State Fault Refusal :=
  s.runAt t (opTwFlagClr core i value)

def State.timer (s : State) (t n : Nat) : SchTimer := cget (fun _ => {}) s.sch.timers (t * 4 + n)
def State.setTimer (s : State) (t n : Nat) (x : SchTimer) : State :=
  { s with sch := { s.sch with timers := cset (fun _ => {}) s.sch.timers (t * 4 + n) x } }

/-- A timer whose deadline is reached sets its flag and disarms or moves on by PERIOD (R236). -/
def State.fireTimer (s : State) (t n : Nat) : State :=
  let x := s.timer t n
  let due := x.hi * 2 ^ 32 + x.lo
  if x.armed ∧ due ≤ s.dom ∧ s.tenState t ≠ 0 then
    let s := if x.period = 0 then s.setTimer t n { x with armed := false }
      else
        let next := (due + x.period * 1000) % 2 ^ 64
        s.setTimer t n { x with lo := next % 2 ^ 32, hi := next / 2 ^ 32 }
    if x.task < s.taskCount t then s.setFlags (s.taskFirst t + x.task) (2 ^ x.bit) else s
  else s

/-- TW_TMR_HI n written: the timer is armed, and fires at once when its deadline is past (R236). -/
def opTwTmrArm (core n : Nat) (hi : Word) (s : State) : State :=
  match s.coreTenant core with
  | some t => if n < 4 then (s.setTimer t n { s.timer t n with hi := hi.toNat, armed := true }).fireTimer t n else s
  | none => s

def execTwTmrArm (t core n : Nat) (hi : Word) (s : State) : Host.Outcome State Fault Refusal :=
  s.runAt t (opTwTmrArm core n hi)

/-- TW_TMR_CFG n written: with ARMED = 0 the timer disarms (R254). -/
def opTwTmrDisarm (core n : Nat) (v : Word) (s : State) : State :=
  match s.coreTenant core with
  | some t =>
    if n < 4 then
      let x := s.timer t n
      s.setTimer t n { x with task := nbits v.toNat 0 8, bit := nbits v.toNat 8 5, period := nbits v.toNat 16 15,
                              armed := x.armed && v.toNat.testBit 31 }
    else s
  | none => s

def execTwTmrDisarm (t core n : Nat) (value : Word) (s : State) : Host.Outcome State Fault Refusal :=
  s.runAt t (opTwTmrDisarm core n value)

/-- Domain time reaches a timer's deadline (R236). -/
def opTimerDeadline (tenant n : Nat) (s : State) : State := if n < 4 then s.fireTimer tenant n else s

def execTimerDeadline (t tenant n : Nat) (s : State) : Host.Outcome State Fault Refusal :=
  s.runAt t (opTimerDeadline tenant n)

/-- TW_CPL_CONS written: ignored when it is ahead of PROD or more than 256 behind (R254). -/
def opTwCplCons (core : Nat) (v : Word) (s : State) : State :=
  match s.coreTenant core with
  | some t =>
    if (cget (fun _ => 0) s.sch.prod t + 2 ^ 32 - v.toNat) % 2 ^ 32 ≤ 256 then
      { s with sch := { s.sch with cons := cset (fun _ => 0) s.sch.cons t v.toNat } }
    else s
  | none => s

def execTwCplCons (t core : Nat) (value : Word) (s : State) : Host.Outcome State Fault Refusal :=
  s.runAt t (opTwCplCons core value)

/-! ### Overrun (R250) -/

/-- The check of a tenant's oldest unchecked round, at T(k + 1) + SLACK.
DESIGN CHOICE, log entry 21. -/
def opOverrunCheck (t : Nat) (s : State) : State :=
  match s.sch.checks.find? (fun c => c.tenant == t) with
  | none => s
  | some c =>
    let slack := min (s.rd (SCH_TEN_CFG t) SCH_TEN_CFG_SLACK * 1000) s.roundNs
    if !s.gridOn ∨ s.dom < c.next + slack then s
    else
      let s := { s with sch := { s.sch with checks := s.sch.checks.erase c } }
      let k32 := round32 c.round
      let s := if s.rd SCH_OVR_LAST SCH_OVR_LAST_ROUND = k32 then s
        else (s.wr SCH_OVR_LAST SCH_OVR_LAST_ROUND k32).wr SCH_OVR_COUNT SCH_OVR_COUNT_TENANTS 0
      let old := fun (i : SchItem) => i.tenant == t && decide (i.round ≤ c.round)
      let queued := (s.sch.items.filter old).length
      let serving := s.sch.runs.filter (fun r => old r.item)
      if queued + serving.length = 0 then s
      else
        let s := s.bump (cntSCH_TEN_OVERRUNS t) 1
        let s := s.wrB (SCH_TEN_STAT t) SCH_TEN_STAT_OVERRUN true
        let s := s.wr SCH_OVR_COUNT SCH_OVR_COUNT_TENANTS (s.rd SCH_OVR_COUNT SCH_OVR_COUNT_TENANTS + 1)
        let s := s.postTenant 0x0501 t (p2 t ++ p4 k32 ++ p4 (queued + serving.length))
        if s.rdB (SCH_TEN_CFG t) SCH_TEN_CFG_CUT then
          let s := serving.foldl (fun s r => s.endRun r.core 0x0507 0) s
          (s.bump (cntSCH_TEN_ROUND_EXPIRED t) queued).removeItems old 0x0513
        else s

def execOverrunCheck (t tenant : Nat) (s : State) : Host.Outcome State Fault Refusal :=
  s.runAt t (opOverrunCheck tenant)

end Sys2Proof.Machine
end

