-- ==== Sys2Proof/Machine/AlmRegs.lean ====
section
/-! DEFINITION. The Almanac's commands: posting by the steward and by tenant code (R386), the writer's next step (R382), the
cursor (R387), clearing (R389, R390) and quotas (R373, R379). -/

namespace Sys2Proof.Machine

/-- ALM_STAT.CFG_REJ is set. -/
def State.almRej (s : State) : State := s.wrB ALM_STAT ALM_STAT_CFG_REJ true

/-- Whether a channel exists (R372). -/
def State.chanPresent (s : State) (ch : Nat) : Bool := s.present .almch ch && decide (ch < 528)

/-! ### Records as bytes (R376) -/

/-- A record's bytes with `crc` in its CRC field. -/
def AlmRec.layout (r : AlmRec) (ch crc : Nat) : List Byte :=
  leBytes 2 (r.bytes / 16 - 1 + 16 * r.kind + 64 * ch) ++ leBytes 2 r.code ++ leBytes 4 r.seq ++ leBytes 4 crc
    ++ leBytes 4 r.rep ++ leBytes 8 r.time ++ leBytes 8 r.lastTime ++ fitBytes (r.bytes - 32) r.payload

/-- A record's bytes as the bank holds them. -/
def AlmRec.toBytes (r : AlmRec) (ch : Nat) : List Byte := r.layout ch (crc32c (r.layout ch 0))

/-! ### Posting paths (R386) -/

/-- The status a post's outcome answers (R386). -/
def postStatus (o : PostOutcome) : Nat :=
  match o with
  | .refused => 0x0562
  | .lost => 0x0561
  | _ => 0

/-- The first `n` bytes of the steward's staging payload. -/
def State.almStaged (s : State) (n : Nat) : List Byte := s.regBytes (ALM_POST_STAGE 0) n

/-- Whether the steward may post a code (R375, R389).
DESIGN CHOICE, log entry 35. -/
def stewardCode (code : Nat) : Bool := decide (1 ≤ code / 256) && decide (code / 256 ≤ 0x12) && decide (code % 256 ≠ 0)

/-- ALM_POST written (R386, R392). -/
def opAlmPost (v : Word) (s : State) : State :=
  let ch := fget ALM_POST_CHANNEL v
  let n := fget ALM_POST_PSIZE v
  let code := fget ALM_POST_CODE v
  if !stewardCode code ∨ 14 < n then s.almRej.wr ALM_POST_STAT ALM_POST_STAT_STATUS 0x0560
  else if !s.chanPresent ch then s.almRej.wr ALM_POST_STAT ALM_POST_STAT_STATUS 0x0301
  else
    let (o, s) := s.postOut ch code (s.almStaged (16 * n)) false
    s.wr ALM_POST_STAT ALM_POST_STAT_STATUS (postStatus o)

def execAlmPost (t : Nat) (value : Word) (s : State) : Host.Outcome State Fault Refusal :=
  s.runAt t (opAlmPost value)

/-- TW_ALM_POST written by the tenant in service on a core (R386). -/
def opTwAlmPost (core : Nat) (v : Word) (s : State) : State :=
  match s.coreTenant core with
  | none => s
  | some t =>
    let code := v.toNat % 65536
    let n := v.toNat / 65536 % 16
    let setStat := fun (s : State) (st : Nat) =>
      ({ s with alm := { s.alm with stat := cset (fun _ => 0) s.alm.stat core st } } : State)
    if code < 0x8000 ∨ 14 < n then setStat s 0x0560
    else
      let (o, s) := s.postOut t code (fitBytes (16 * n) (cget (fun _ => []) s.alm.stage core)) true
      setStat s (postStatus o)

def execTwAlmPost (t core : Nat) (value : Word) (s : State) : Host.Outcome State Fault Refusal :=
  s.runAt t (opTwAlmPost core value)

/-- The writer's next step (R382).
DESIGN CHOICE, log entry 35. -/
def opIntakeProcess (s : State) : State := s.almProcess

def execIntakeProcess (t : Nat) (s : State) : Host.Outcome State Fault Refusal := s.runAt t opIntakeProcess

/-! ### Clearing (R389, R390) -/

/-- A channel emptied: FIRST becomes NEXT, USED and FULL clear; the pending loss stays. -/
def State.emptyChan (s : State) (ch : Nat) : State :=
  let s := s.setChan ch { s.chan ch with recs := [] }
  let s := s.wr (ALM_CH_FIRST ch) ALM_CH_FIRST_SEQ (s.rd (ALM_CH_NEXT ch) ALM_CH_NEXT_SEQ)
  (s.wr (ALM_CH_USED ch) ALM_CH_USED_BYTES 0).wrB (ALM_CH_STAT ch) ALM_CH_STAT_FULL false

/-- ALM_CLEAR written: a tenant channel is emptied and holds the clear record (R389 step 3).
DESIGN CHOICE, log entry 14. -/
def State.almClear (s : State) (ch : Nat) : State :=
  if 512 ≤ ch ∨ !s.chanPresent ch ∨ s.quota ch = 0 then s.almRej
  else
    (s.emptyChan ch).appendRec ch { kind := 3, code := 0x0A03, seq := 0, bytes := 64, rep := 0, time := s.stamp,
                                    lastTime := 0, payload := s.almStaged 32 }

def opAlmClearWrite (v : Word) (s : State) : State := s.almClear (fget ALM_CLEAR_CHANNEL v)

def execAlmClearWrite (t : Nat) (value : Word) (s : State) : Host.Outcome State Fault Refusal :=
  s.runAt t (opAlmClearWrite value)

/-! ### The cursor (R387) -/

/-- A cursor command begins; it is ignored while another is under way.
DESIGN CHOICE, log entry 35. -/
def State.cursorStart (s : State) (op : Nat) : State :=
  if s.rdB ALM_CUR_STAT ALM_CUR_STAT_BUSY then s
  else
    let c := (op, s.rd ALM_CUR_CH ALM_CUR_CH_CHANNEL, s.rd ALM_CUR_SEQ ALM_CUR_SEQ_SEQ)
    ({ s with alm := { s.alm with cursorOp := some c } } : State).wrB ALM_CUR_STAT ALM_CUR_STAT_BUSY true

def opCursorSeek (s : State) : State := s.cursorStart 1
def opCursorNext (s : State) : State := s.cursorStart 2
def opCursorFirst (s : State) : State := s.cursorStart 3
def opCursorLast (s : State) : State := s.cursorStart 4

def execCursorSeek (t : Nat) (s : State) : Host.Outcome State Fault Refusal := s.runAt t opCursorSeek
def execCursorNext (t : Nat) (s : State) : Host.Outcome State Fault Refusal := s.runAt t opCursorNext
def execCursorFirst (t : Nat) (s : State) : Host.Outcome State Fault Refusal := s.runAt t opCursorFirst
def execCursorLast (t : Nat) (s : State) : Host.Outcome State Fault Refusal := s.runAt t opCursorLast

/-- The record of a channel with sequence number `seq`: RESULT and the record (R377, R387). -/
def State.locate (s : State) (ch seq : Nat) : Nat × Option AlmRec :=
  if 0 ≤ diff32 seq (s.rd (ALM_CH_NEXT ch) ALM_CH_NEXT_SEQ) then (1, none)
  else if diff32 seq (s.rd (ALM_CH_FIRST ch) ALM_CH_FIRST_SEQ) < 0 then (2, none)
  else match (s.chan ch).recs.find? (fun r => r.seq == seq) with
    | some r => if r.damaged then (3, some r) else (0, some r)
    | none => (2, none)

/-- The record window and ALM_CUR_STAT take the command's outcome as BUSY clears. -/
def State.cursorShow (s : State) (ch result : Nat) (r : Option AlmRec) : State :=
  let data := match r with
    | some r => if result = 3 then (r.toBytes ch).take 32 else r.toBytes ch
    | none => []
  let s : State := { s with alm := { s.alm with cursorOp := none, data := fitBytes 256 data } }
  let s := (List.range 64).foldl (fun (s : State) i => s.wrW (ALM_DATA i) (BitVec.ofNat 32 (leAt data (4 * i) 4))) s
  ((s.wrB ALM_CUR_STAT ALM_CUR_STAT_BUSY false).wr ALM_CUR_STAT ALM_CUR_STAT_RESULT result).wr ALM_CUR_STAT
    ALM_CUR_STAT_SIZE (r.elim 0 (fun r => r.bytes / 16 - 1))

/-- The cursor command under way completes. -/
def opCursorCommandComplete (s : State) : State :=
  match s.alm.cursorOp with
  | none => s
  | some (op, ch, seq) =>
    let seq := if op = 2 then (seq + 1) % 2 ^ 32
      else if op = 3 then s.rd (ALM_CH_FIRST ch) ALM_CH_FIRST_SEQ
      else if op = 4 then (s.rd (ALM_CH_NEXT ch) ALM_CH_NEXT_SEQ + 2 ^ 32 - 1) % 2 ^ 32
      else seq
    let (result, r) := if s.chanPresent ch then s.locate ch seq else (4, none)
    (s.wr ALM_CUR_SEQ ALM_CUR_SEQ_SEQ seq).cursorShow ch result r

def execCursorCommandComplete (t : Nat) (s : State) : Host.Outcome State Fault Refusal :=
  s.runAt t opCursorCommandComplete

/-! ### Quotas (R373, R379) -/

/-- Whether a region of the bank overlaps another channel's or leaves the bank (R373). -/
def State.quotaBad (s : State) (ch base size : Nat) : Bool :=
  decide (16384 < base + size) || (List.range 528).any (fun d =>
    let b := s.rd (ALM_CH_CFG d) ALM_CH_CFG_BASE
    let z := s.rd (ALM_CH_CFG d) ALM_CH_CFG_SIZE
    d != ch && s.chanPresent d && decide (0 < size) && decide (0 < z) && decide (base < b + z) && decide (b < base + size))

/-- ALM_CH_CFG written: only while EN is 0; a change of base or size empties the channel (R373, R379, R392). -/
def State.almQuotaWrite (s : State) (ch : Nat) (v : Word) : State :=
  let base := fget ALM_CH_CFG_BASE v
  let size := fget ALM_CH_CFG_SIZE v
  let b := s.rd (ALM_CH_CFG ch) ALM_CH_CFG_BASE
  let z := s.rd (ALM_CH_CFG ch) ALM_CH_CFG_SIZE
  if !s.chanPresent ch then s
  else if s.rdB ALM_CTRL ALM_CTRL_EN || s.quotaBad ch base size then s.almRej
  else if base = b ∧ size = z then s
  else
    let n := (s.chan ch).recs.length
    let s := (s.emptyChan ch).wrW (ALM_CH_CFG ch) (fset ALM_CH_CFG_SIZE (fset ALM_CH_CFG_BASE 0 base) size)
    match s.alm.quotaChanges.find? (fun q => q.ch == ch) with
    | some q =>
      let q' : AlmQuotaChange := { q with discarded := q.discarded + n }
      { s with alm := { s.alm with
        quotaChanges := s.alm.quotaChanges.map (fun (x : AlmQuotaChange) => if x.ch = ch then q' else x) } }
    | none =>
      let q : AlmQuotaChange := { ch, oldBase := b, oldSize := z, discarded := n }
      { s with alm := { s.alm with quotaChanges := s.alm.quotaChanges ++ [q] } }

/-- EN set: 0x0A06 for each channel that a quota change emptied (R379). -/
def State.almEnable (s : State) : State :=
  let s := s.wrB ALM_CTRL ALM_CTRL_EN true
  let l := s.alm.quotaChanges
  let s : State := { s with alm := { s.alm with quotaChanges := [] } }
  l.foldl (fun (s : State) (q : AlmQuotaChange) =>
    s.post 0x0A06 (p2 q.ch ++ p2 q.oldBase ++ p2 q.oldSize ++ p2 (s.rd (ALM_CH_CFG q.ch) ALM_CH_CFG_BASE)
      ++ p2 (s.rd (ALM_CH_CFG q.ch) ALM_CH_CFG_SIZE) ++ p4 q.discarded)) s

/-- ALM_CTRL written. -/
def State.almCtrlWrite (s : State) (v : Word) : State :=
  if fget ALM_CTRL_EN v = 0 then s.wrB ALM_CTRL ALM_CTRL_EN false
  else if s.rdB ALM_CTRL ALM_CTRL_EN then s else s.almEnable

end Sys2Proof.Machine
end

