-- ==== Sys2Proof/Machine/Binary32.lean ====
section
/-! DEFINITION. IEEE 754 binary32 on bit patterns, rounded to nearest with ties to even, subnormals kept (R267, R306), and
conversions to and from integers and Q1.15. -/

namespace Sys2Proof.Machine

/-- A binary32 value: finite values are ± m · 2 ^ (e − 149). -/
inductive F32 where
  | nan
  | inf (neg : Bool)
  | fin (neg : Bool) (m e : Nat)
deriving DecidableEq, Repr

/-- The value of a bit pattern. -/
def f32 (b : Nat) : F32 :=
  let neg := b.testBit 31
  let e := b / 2 ^ 23 % 256
  let m := b % 2 ^ 23
  if e = 255 then if m = 0 then .inf neg else .nan
  else if e = 0 then .fin neg m 0 else .fin neg (m + 2 ^ 23) (e - 1)

/-- A sign and a magnitude as a bit pattern. -/
def signed32 (neg : Bool) (b : Nat) : Nat := if neg then 2 ^ 31 + b else b

def infBits (neg : Bool) : Nat := signed32 neg 0x7F800000

/-- The quiet NaN of an operation on two operands. -/
def nanBits (op a b : Nat) : Nat :=
  let p := (Config.nanPattern op a b).toNat
  signed32 (p.testBit 22) (0x7FC00000 + p % 2 ^ 22)

def isNan (b : Nat) : Bool := f32 b = .nan
def isInf (b : Nat) : Bool := match f32 b with | .inf _ => true | _ => false

/-- n / d to the nearest integer, ties to even. -/
def roundDiv (n d : Nat) : Nat :=
  let q := n / d
  let r := 2 * (n % d)
  if r < d then q else if d < r then q + 1 else q + q % 2

/-- The magnitude bits of the positive rational n / d, rounded. -/
def roundRat (n d : Nat) : Nat :=
  if n = 0 ∨ d = 0 then 0
  else
    -- scaled by 2^149, so that one unit is the smallest subnormal
    let n := n * 2 ^ 149
    let q := n / d
    let k := if q < 2 ^ 24 then 0 else Nat.log2 q - 23
    let m := roundDiv n (d * 2 ^ k)
    let bits := k * 2 ^ 23 + m
    if 0x7F800000 ≤ bits then 0x7F800000 else bits

/-- The pattern of the integer `i` in units of 2^−149. -/
def roundUnits (i : Int) (zeroNeg : Bool) : Nat :=
  if i = 0 then signed32 zeroNeg 0 else signed32 (i < 0) (roundRat i.natAbs (2 ^ 149))

/-- A finite value in units of 2^−149. -/
def unitsOf (neg : Bool) (m e : Nat) : Int := if neg then -((m * 2 ^ e : Nat) : Int) else ((m * 2 ^ e : Nat) : Int)

def fneg (a : Nat) : Nat := if a.testBit 31 then a - 2 ^ 31 else a + 2 ^ 31
def fabs (a : Nat) : Nat := a % 2 ^ 31

def fadd (a b : Nat) : Nat :=
  match f32 a, f32 b with
  | .nan, _ => nanBits 0 a b
  | _, .nan => nanBits 0 a b
  | .inf s, .inf t => if s = t then infBits s else nanBits 0 a b
  | .inf s, _ => infBits s
  | _, .inf t => infBits t
  | .fin s m e, .fin t n f => roundUnits (unitsOf s m e + unitsOf t n f) (s && t)

def fsub (a b : Nat) : Nat := if isNan b then nanBits 1 a b else fadd a (fneg b)

def fmul (a b : Nat) : Nat :=
  match f32 a, f32 b with
  | .nan, _ => nanBits 2 a b
  | _, .nan => nanBits 2 a b
  | .inf s, .inf t => infBits (s != t)
  | .inf s, .fin t n _ => if n = 0 then nanBits 2 a b else infBits (s != t)
  | .fin s m _, .inf t => if m = 0 then nanBits 2 a b else infBits (s != t)
  | .fin s m e, .fin t n f => signed32 (s != t) (roundRat (m * n * 2 ^ (e + f)) (2 ^ 298))

def fdiv (a b : Nat) : Nat :=
  match f32 a, f32 b with
  | .nan, _ => nanBits 3 a b
  | _, .nan => nanBits 3 a b
  | .inf _, .inf _ => nanBits 3 a b
  | .inf s, .fin t _ _ => infBits (s != t)
  | .fin s _ _, .inf t => signed32 (s != t) 0
  | .fin s m e, .fin t n f =>
    if n = 0 then if m = 0 then nanBits 3 a b else infBits (s != t)
    else signed32 (s != t) (roundRat (m * 2 ^ e) (n * 2 ^ f))

/-- The integer square root, by its bits from 2^k down. -/
def isqrt (n : Nat) : Nat → Nat → Nat
  | 0, r => if (r + 1) * (r + 1) ≤ n then r + 1 else r
  | k + 1, r => let t := r + 2 ^ (k + 1); isqrt n k (if t * t ≤ n then t else r)

/-- Square root; used by the auto-tune service (R284). -/
def fsqrt (a : Nat) : Nat :=
  match f32 a with
  | .nan => nanBits 4 a 0
  | .inf s => if s then nanBits 4 a 0 else a
  | .fin s m e =>
    if m = 0 then a else if s then nanBits 4 a 0
    else
      -- √(m · 2^(e−149)) = √(m · 2^(e+151)) · 2^−150; a sticky bit keeps the rounding exact
      let n := m * 2 ^ (e + 151)
      let r := isqrt n 220 0
      roundRat (2 * r + (if r * r = n then 0 else 1)) (2 ^ 151)

/-- a < b; false with a NaN. -/
def flt (a b : Nat) : Bool :=
  match f32 a, f32 b with
  | .nan, _ => false
  | _, .nan => false
  | .inf s, .inf t => s && !t
  | .inf s, _ => s
  | _, .inf t => !t
  | .fin s m e, .fin t n f => unitsOf s m e < unitsOf t n f

/-- a = b as values; false with a NaN. -/
def feq (a b : Nat) : Bool := !isNan a && !isNan b && !flt a b && !flt b a
/-- a ≤ b; false with a NaN. -/
def fle (a b : Nat) : Bool := flt a b || feq a b

def fmin (a b : Nat) : Nat := if flt b a then b else a
def fmax (a b : Nat) : Nat := if flt a b then b else a
/-- v held within lo to hi. -/
def fclamp (v lo hi : Nat) : Nat := fmin (fmax v lo) hi

/-- An integer rounded to binary32. -/
def fofInt (i : Int) : Nat := signed32 (i < 0) (roundRat i.natAbs 1)

/-- A rational number n / d rounded to binary32. -/
def fofRat (n : Int) (d : Nat) : Nat := signed32 (n < 0) (roundRat n.natAbs d)

/-- v · 2^k to the nearest integer, ties to even, held within lo to hi, and whether it was held; none for a NaN. -/
def froundTo (v k : Nat) (lo hi : Int) : Option (Int × Bool) :=
  match f32 v with
  | .nan => none
  | .inf s => some (if s then lo else hi, true)
  | .fin s m e =>
    let n := roundDiv (m * 2 ^ (e + k)) (2 ^ 149)
    let i : Int := if s then -(n : Int) else (n : Int)
    let c := clampInt lo hi i
    some (c, c != i)

/-- A Q1.15 value in binary32, exact. -/
def q15ToF (q : Int) : Nat := fofRat q 32768

/-- to_q of R267: none for a NaN, for which the spec states no result. -/
def toQ (v : Nat) : Option (Int × Bool) := froundTo v 15 (-32768) 32767

/-- An accumulator in Q10.30 converted to Q1.15 (R267). -/
def accToQ (acc : Int) : Int × Bool :=
  let n := roundDiv acc.natAbs (2 ^ 15)
  let i : Int := if acc < 0 then -(n : Int) else (n : Int)
  let c := clampInt (-32768) 32767 i
  (c, c != i)

end Sys2Proof.Machine
end

