-- ==== Sys2Proof/Machine/KeyReg.lean ====
section
/-! DEFINITION. The key register (R432 to R458): slots, grants and the generation chain, the steward's operations,
invalidation, sweeping and zeroisation. -/

namespace Sys2Proof.Machine

/-! ### Status codes (R456, R484) -/

def stOk : Nat := 0
def stPending : Nat := 0x0001
def stAbsent : Nat := 0x0301
def stBusy : Nat := 0x0302
def stNoResource : Nat := 0x0303
def stQueueLimit : Nat := 0x0304
def stTamper : Nat := 0x0401
def stKeyDenied : Nat := 0x0580
def stKeyOrphan : Nat := 0x0581
def stKeySlotBusy : Nat := 0x0582
def stKeyUnwrapFail : Nat := 0x0583
def stKeyTagBad : Nat := 0x0584
def stKeySigBad : Nat := 0x0585
def stKeyDepth : Nat := 0x0586
def stKeyType : Nat := 0x0587
def stKeyLc : Nat := 0x0588
def stKeyNotInService : Nat := 0x0589
def stKeyAddrBad : Nat := 0x058A
def stKeyPointBad : Nat := 0x058B

/-! ### Slots -/

/-- An untouched slot: FREE, generation 0. -/
def freeSlot : KeySlot := {}

def State.slot (s : State) (x : Nat) : KeySlot := cget (fun _ => freeSlot) s.key.slots x

/-- How many slots are not FREE. -/
def usedSlots (m : Cells KeySlot) : Nat := (m.filter (fun c => c.2.type != 0)).length

/-- A slot replaced; KEY_STAT.FREE_SLOTS follows in the same step (R442). -/
def State.setSlot (s : State) (x : Nat) (k : KeySlot) : State :=
  let m := cset (fun _ => freeSlot) s.key.slots x k
  { s with key := { s.key with slots := m } }.wr KEY_STAT KEY_STAT_FREE_SLOTS (4096 - usedSlots m)

/-- Whether a slot number is one of the fixed slots (R434). -/
def fixedSlot (x : Nat) : Bool := x < 6

/-- A generation raised by one; a retired one stays (R441). -/
def nextGen (g : Nat) : Nat := if g = 0xFFFFFFFF then g else g + 1

/-- A slot freed: its value zeroised, its TYPE FREE, its generation raised (R440, R442, R444). -/
def freedSlot (k : KeySlot) : KeySlot := { freeSlot with gen := nextGen k.gen }

/-- Byte 0 of the attribute record (R432). -/
def slotByte0 (k : KeySlot) : Nat :=
  k.type + 8 * b2n k.secure + 16 * b2n k.exportable + 32 * b2n k.fixed

/-- The 32-byte attribute record that every requester sees (R432); the value is no part of it. -/
def slotRecord (k : KeySlot) : List Byte :=
  p1 (slotByte0 k) ++ p1 k.usage ++ p1 k.masters ++ p1 k.lc ++ p2 k.parent ++ p2 k.tenant ++ p4 k.parentGen ++
    p4 k.gen ++ p4 k.kcv ++ p1 k.depth ++ List.replicate 11 0

/-- The 32 bytes of a key value, first byte first. -/
def valueBytes (v : BitVec 256) : List Byte := beBytes 32 v.toNat

/-- First 4 bytes of a hash as the number whose little-endian bytes they are. -/
def kcvOf (h : BitVec 256) : Nat := leNat ((valueBytes h).take 4)

/-- A P-256 point as the bytes 0x04, X, Y (R433). -/
def pointBytes (p : BitVec 512) : List Byte := 0x04 :: beBytes 64 p.toNat

/-- The key check value of a value of a type (R433). -/
def keyKcv (type : Nat) (v : BitVec 256) : Nat :=
  if type = 2 then kcvOf (Config.hmacSha256 (valueBytes v) (List.replicate 32 0))
  else if type = 3 then kcvOf (Config.sha256 (pointBytes (Config.p256Public v)))
  else if type = 4 then leNat ((valueBytes v).take 4)
  else 0

/-! ### Grants (R435) -/

/-- A requester's master and world (R435, R436). -/
inductive Master where
  | steward | ingest | publish | tenant (t : Nat)
deriving DecidableEq, Repr

/-- The generation chain of slot `x`: the slot and every ancestor up to the first fixed slot is not FREE, and each
non-fixed slot's PARENT_GEN is its parent's GEN (R435). A chain has at most 9 links (R439). -/
def chainOk (slots : Nat → KeySlot) : Nat → Nat → Bool
  | 0, _ => false
  | fuel + 1, x =>
    let k := slots x
    if k.type = 0 then false
    else if fixedSlot x then true
    else (slots k.parent).gen == k.parentGen && chainOk slots fuel k.parent

/-- Whether slot `x` is an orphan: not FREE and with a broken chain. -/
def State.orphan (s : State) (x : Nat) : Bool := (s.slot x).type != 0 && !chainOk s.slot 10 x

/-- The slot and its ancestors. -/
def chainOf (slots : Nat → KeySlot) : Nat → Nat → List Nat
  | 0, _ => []
  | fuel + 1, x => if fixedSlot x then [x] else x :: chainOf slots fuel (slots x).parent

/-- Whether MASTERS admits a requester (R432, R435). -/
def masterAdmits (k : KeySlot) : Master → Bool
  | .steward => k.masters.testBit 0
  | .ingest => k.masters.testBit 1
  | .publish => k.masters.testBit 2
  | .tenant t => (k.masters.testBit 3 && k.tenant == t) || k.masters.testBit 4

/-- The usage bits of R432. -/
def uDerive : Nat := 0
def uMac : Nat := 1
def uVerify : Nat := 2
def uEncrypt : Nat := 3
def uDecrypt : Nat := 4
def uWrap : Nat := 5
def uUnwrap : Nat := 6

/-- What an operation asks of its key slot: the types and the usages, one of which must be there (R438). -/
structure KeyNeed where
  types : List Nat
  usages : List Nat
deriving DecidableEq, Repr

/-- R438, by operation: `noData` for ENCRYPT and DECRYPT without data (GMAC), `pub` for IMPORT with PUB. -/
def keyNeed (op : Nat) (noData pub : Bool) : KeyNeed :=
  match op with
  | 1 => ⟨[1, 2], [uDerive]⟩
  | 2 => if pub then ⟨[1, 2, 3, 4], [uDerive]⟩ else ⟨[2], [uUnwrap]⟩
  | 3 => ⟨[2], [uWrap]⟩
  | 4 => ⟨[1, 2, 3, 4], [uDerive]⟩
  | 5 => ⟨[3], [uDerive]⟩
  | 6 => ⟨[2], [uMac]⟩
  | 7 => ⟨[2], [uVerify]⟩
  | 8 => ⟨[2], if noData then [uEncrypt, uMac] else [uEncrypt]⟩
  | 9 => ⟨[2], if noData then [uDecrypt, uVerify] else [uDecrypt]⟩
  | 10 => ⟨[4], [uVerify]⟩
  | _ => ⟨[], []⟩

/-- The life-cycle state (R447). -/
def State.lc (s : State) : Nat := s.fuses.lc

/-- The status of a grant request, by the tests of R435 in their order; 0 grants. -/
def State.grantStatus (s : State) (x : Nat) (need : KeyNeed) (m : Master) (secureWorld : Bool) : Nat :=
  let k := s.slot x
  if s.key.emptied then stTamper
  else if !s.rdB KEY_CTRL KEY_CTRL_EN then stKeyNotInService
  else if !chainOk s.slot 10 x then stKeyOrphan
  else if !masterAdmits k m then stKeyDenied
  else if k.secure && !secureWorld then stKeyDenied
  else if !k.lc.testBit s.lc then stKeyDenied
  else if !need.types.contains k.type then stKeyType
  else if !need.usages.any (fun u => k.usage.testBit u) then stKeyDenied
  else if !s.rdB KEY_STAT KEY_STAT_SERVICE && m != .steward then stKeyNotInService
  else 0

/-- The requester as the one-byte code of event 0x0C01: its MASTERS bit (notes/assumptions/13). -/
def masterCode : Master → Nat
  | .steward => 0 | .ingest => 1 | .publish => 2 | .tenant _ => 3

/-- A grant request: granted and counted, or refused, counted and reported at most once per second per slot (R435). -/
def State.grant (s : State) (x : Nat) (need : KeyNeed) (m : Master) (secureWorld : Bool) : Nat × State :=
  let st := s.grantStatus x need m secureWorld
  if st = 0 then (0, s.bump cntKEY_GRANTS 1)
  else
    let s := s.bump (if st = stKeyOrphan then cntKEY_ORPHAN_REFUSED else cntKEY_DENIED) 1
    (st, s.postLimited 0x200 0x0C01 x (p2 x ++ p1 (masterCode m) ++ p2 st))

/-- The steward is in the secure world: its ROM, or firmware verified against slot 1 (R436).
DESIGN CHOICE, log entry 16. -/
def State.stewardSecure (s : State) : Bool := s.key.secureWorld

/-! ### Cryptographic operations over bytes -/

/-- One iteration of the key derivation of R438. -/
def kdf (key : BitVec 256) (label context : List Byte) : BitVec 256 :=
  Config.hmacSha256 (valueBytes key) (beBytes 4 1 ++ label ++ [0] ++ context ++ beBytes 4 256)

/-- An HMAC-SHA256 tag of 32 bytes, or its first 16. -/
def macTag (key : BitVec 256) (msg : List Byte) (tag16 : Bool) : List Byte :=
  let t := valueBytes (Config.hmacSha256 (valueBytes key) msg)
  if tag16 then t.take 16 else t

/-- AES-256-GCM: ciphertext of the data's length. -/
def gcmData (key : BitVec 256) (iv data : List Byte) : List Byte := fitBytes data.length (Config.gcmCipher key iv data)

/-- AES-256-GCM: the 16-byte tag. -/
def gcmTagBytes (key : BitVec 256) (iv aad ct : List Byte) : List Byte := beBytes 16 (Config.gcmTag key iv aad ct).toNat

/-! ### The steward's operation registers -/

def State.keyRej (s : State) : State := s.wrB KEY_STAT KEY_STAT_CFG_REJ true

/-- KEY_OP_STAT: BUSY, COUNT and STATUS. -/
def State.setOpStat (s : State) (busy : Bool) (count status : Nat) : State :=
  ((s.wrB KEY_OP_STAT KEY_OP_STAT_BUSY busy).wr KEY_OP_STAT KEY_OP_STAT_COUNT count).wr
    KEY_OP_STAT KEY_OP_STAT_STATUS status

/-- Input and output addresses. -/
def State.opIn (s : State) : Nat := s.rd64 KEY_OP_IN_LO KEY_OP_IN_HI
def State.opOut (s : State) : Nat := s.rd64 KEY_OP_OUT_LO KEY_OP_OUT_HI
def State.opLen (s : State) : Nat := s.rd KEY_OP_INLEN KEY_OP_INLEN_LEN
def State.opKey (s : State) : Nat := s.rd KEY_OP_KEY KEY_OP_KEY_SLOT
def State.opDst (s : State) : Nat := s.rd KEY_OP_DST KEY_OP_DST_SLOT

/-- The steward's operation starts: BUSY until its end. An operation that a check or a grant refuses ends in the same
way, with its status and no effect. -/
def State.startOp (s : State) (o : KeyOp) : State :=
  { s with key := { s.key with op := some o } }.setOpStat true 0 (s.rd KEY_OP_STAT KEY_OP_STAT_STATUS)

/-- Whether a KEY_OP_CMD write starts an operation: not while BUSY. -/
def State.opFree (s : State) : Bool := s.key.op.isNone

/-- An operation that ends with a status and no effect. -/
def refusedOp (op status : Nat) : KeyOp := { op, uses := [], status }

/-- The attributes that KEY_OP_ATTR and KEY_OP_TENANT ask for. -/
def State.askedSlot (s : State) : KeySlot :=
  let b0 := s.rd KEY_OP_ATTR KEY_OP_ATTR_TYPE
  { type := b0 % 8, secure := b0.testBit 3, exportable := b0.testBit 4, fixed := false,
    usage := s.rd KEY_OP_ATTR KEY_OP_ATTR_USAGE % 128, masters := s.rd KEY_OP_ATTR KEY_OP_ATTR_MASTERS % 32,
    lc := s.rd KEY_OP_ATTR KEY_OP_ATTR_LC, tenant := s.rd KEY_OP_TENANT KEY_OP_TENANT_TENANT }

/-- The tests of R439 that do not need the operation's result, in their order; `types` are the types the operation can
create.
DESIGN CHOICE, log entry 15. -/
def State.createStatus (s : State) (parent : Nat) (types : List Nat) : Nat :=
  let d := s.opDst
  let p := s.slot parent
  let a := s.askedSlot
  if fixedSlot d || (s.slot d).type != 0 || (s.slot d).gen == 0xFFFFFFFF then stKeySlotBusy
  else if !types.contains a.type then stKeyType
  else if p.depth + 1 > 8 then stKeyDepth
  else if (a.lc &&& p.lc) != a.lc || a.lc.testBit 3 then stKeyDenied
  else if a.secure && !(s.stewardSecure && p.secure) then stKeyDenied
  else 0

/-- The new slot's contents (R439): PARENT_GEN from the parent's GEN at the grant, GEN one above the slot's last. -/
def State.newSlot (s : State) (parent : Nat) (value : BitVec 256) : KeySlot :=
  let a := s.askedSlot
  { a with parent := parent, parentGen := (s.slot parent).gen, gen := (s.slot s.opDst).gen + 1,
           depth := (s.slot parent).depth + 1, value := value, kcv := keyKcv a.type value }

/-- The steward's grant for an operation with its key slot; `cont` continues with the granted machine. -/
def State.withGrant (s : State) (op : Nat) (noData pub : Bool) (cont : State → KeyOp) : State :=
  let (st, s) := s.grant s.opKey (keyNeed op noData pub) .steward s.stewardSecure
  if st ≠ 0 then s.startOp (refusedOp op st) else s.startOp (cont s)

/-- Whether a buffer's range faults under R26: it must lie in banks or in DRAM that is present.
DESIGN CHOICE, log entry 15. -/
def State.bufBad (s : State) (a n : Nat) : Bool := n != 0 && s.memFault a n

/-- The steward's operation with input of exactly `want` bytes (R557); none for a bad layout or buffer. -/
def State.opInput (s : State) (want : Nat) : Option (List Byte) :=
  if s.opLen ≠ want ∨ s.bufBad s.opIn want then none else some (s.bytes s.opIn want)

/-- Bytes to write from a device address on. -/
def writesAt (a : Nat) (bs : List Byte) : List (Nat × Byte) := (List.range bs.length).zip bs |>.map (fun p => (a + p.1, p.2))

/-- LABEL and CONTEXT of a DERIVE input at offset `o` (R454): none when a length is above 64. -/
def State.deriveInput (s : State) (o : Nat) : Option (List Byte × List Byte) :=
  if s.opLen < o + 4 ∨ s.bufBad s.opIn s.opLen then none
  else
    let bs := s.bytes s.opIn s.opLen
    let l := byteAt bs o
    let c := byteAt bs (o + 1)
    if l > 64 ∨ c > 64 ∨ s.opLen ≠ o + 4 + l + c then none
    else some (slice bs (o + 4) l, slice bs (o + 4 + l) c)

/-- DERIVE (R438, R439, R557). -/
def opDerive (s : State) : State :=
  if !s.opFree then s
  else match s.deriveInput 0 with
    | none => s.startOp (refusedOp 1 stKeyAddrBad)
    | some (label, ctx) => s.withGrant 1 false false fun s =>
      let st := s.createStatus s.opKey [2]
      if st ≠ 0 then refusedOp 1 st
      else { op := 1, uses := chainOf s.slot 10 s.opKey, status := 0,
             creates := some (s.opDst, s.newSlot s.opKey (kdf (s.slot s.opKey).value label ctx)) }

def execOpDerive (t : Nat) (s : State) : Host.Outcome State Fault Refusal := s.runAt t opDerive

/-- IMPORT: a 40-byte wrap, or 32 clear bytes of a hash with PUB (R438, R439). -/
def opImport (pub : Bool) (s : State) : State :=
  if !s.opFree then s
  else match s.opInput (if pub then 32 else 40) with
    | none => s.startOp (refusedOp 2 stKeyAddrBad)
    | some bs => s.withGrant 2 false pub fun s =>
      let st := s.createStatus s.opKey (if pub then [4] else [2, 3])
      if st ≠ 0 then refusedOp 2 st
      else
        let v := if pub then some (BitVec.ofNat 256 (beNat bs))
                 else Config.aesUnwrap (s.slot s.opKey).value (BitVec.ofNat 320 (beNat bs))
        match v with
        | none => refusedOp 2 stKeyUnwrapFail
        | some v =>
          if s.askedSlot.type = 3 ∧ (v.toNat = 0 ∨ Config.p256Order ≤ v.toNat) then refusedOp 2 stKeyType
          else { op := 2, uses := chainOf s.slot 10 s.opKey, status := 0, creates := some (s.opDst, s.newSlot s.opKey v) }

def execOpImport (t : Nat) (pub : Bool) (s : State) : Host.Outcome State Fault Refusal := s.runAt t (opImport pub)

/-- EXPORT: the destination's value wrapped under the key, 40 bytes at OUT (R438).
DESIGN CHOICE, log entry 15. -/
def opExport (s : State) : State :=
  if !s.opFree then s
  else if s.opLen ≠ 0 ∨ s.bufBad s.opOut 40 then s.startOp (refusedOp 3 stKeyAddrBad)
  else s.withGrant 3 false false fun s =>
    let d := s.slot s.opDst
    if fixedSlot s.opDst then refusedOp 3 stKeyDenied
    else if !chainOk s.slot 10 s.opDst then refusedOp 3 stKeyOrphan
    else if d.secure && !s.stewardSecure then refusedOp 3 stKeyDenied
    else if d.type ≠ 2 ∧ d.type ≠ 3 then refusedOp 3 stKeyType
    else if !d.exportable then refusedOp 3 stKeyDenied
    else { op := 3, uses := chainOf s.slot 10 s.opKey ++ chainOf s.slot 10 s.opDst, status := 0,
           writes := writesAt s.opOut (beBytes 40 (Config.aesWrap (s.slot s.opKey).value d.value).toNat) }

def execOpExport (t : Nat) (s : State) : Host.Outcome State Fault Refusal := s.runAt t opExport

/-- A random scalar of 1 to n - 1 from four free values (R443).
DESIGN CHOICE, log entry 5. -/
def State.drawScalar (s : State) : BitVec 256 × State :=
  let (a, s) := s.draw
  let (b, s) := s.draw
  let (c, s) := s.draw
  let (d, s) := s.draw
  let v := a.toNat + 2 ^ 64 * b.toNat + 2 ^ 128 * c.toNat + 2 ^ 192 * d.toNat
  (BitVec.ofNat 256 (v % (Config.p256Order - 1) + 1), s)

/-- GENERATE: a new private scalar; its public point goes to OUT (R438, R443).
DESIGN CHOICE, log entry 15. -/
def opGenerate (s : State) : State :=
  if !s.opFree then s
  else if s.opLen ≠ 0 ∨ s.bufBad s.opOut 64 then s.startOp (refusedOp 4 stKeyAddrBad)
  else if s.key.entropyBad then s.startOp (refusedOp 4 stKeyType)
  else
    let (v, s) := s.drawScalar
    s.withGrant 4 false false fun s =>
      let st := s.createStatus s.opKey [3]
      if st ≠ 0 then refusedOp 4 st
      else { op := 4, uses := chainOf s.slot 10 s.opKey, status := 0,
             creates := some (s.opDst, s.newSlot s.opKey v),
             writes := writesAt s.opOut (beBytes 64 (Config.p256Public v).toNat) }

def execOpGenerate (t : Nat) (s : State) : Host.Outcome State Fault Refusal := s.runAt t opGenerate

/-- AGREE: ECDH with the peer point; the shared X coordinate is the key of a DERIVE (R438, R439).
DESIGN CHOICE, log entry 15. -/
def opAgree (s : State) : State :=
  if !s.opFree then s
  else match s.deriveInput 64 with
    | none => s.startOp (refusedOp 5 stKeyAddrBad)
    | some (label, ctx) =>
      if s.key.entropyBad then s.startOp (refusedOp 5 stKeyType)
      else s.withGrant 5 false false fun s =>
        let st := s.createStatus s.opKey [2]
        let peer := BitVec.ofNat 512 (beNat (s.bytes s.opIn 64))
        if st ≠ 0 then refusedOp 5 st
        else if !Config.p256OnCurve peer then refusedOp 5 stKeyPointBad
        else { op := 5, uses := chainOf s.slot 10 s.opKey, status := 0,
               creates := some (s.opDst, s.newSlot s.opKey (kdf (Config.p256Shared (s.slot s.opKey).value peer) label ctx)) }

def execOpAgree (t : Nat) (s : State) : Host.Outcome State Fault Refusal := s.runAt t opAgree

/-- MAC: the tag of the data at OUT (R438). -/
def opMac (tag16 : Bool) (s : State) : State :=
  if !s.opFree then s
  else
    let n := if tag16 then 16 else 32
    if s.opLen > 4096 ∨ s.bufBad s.opIn s.opLen ∨ s.bufBad s.opOut n then s.startOp (refusedOp 6 stKeyAddrBad)
    else s.withGrant 6 false false fun s =>
      { op := 6, uses := chainOf s.slot 10 s.opKey, status := 0,
        writes := writesAt s.opOut (macTag (s.slot s.opKey).value (s.bytes s.opIn s.opLen) tag16) }

def execOpMac (t : Nat) (tag16 : Bool) (s : State) : Host.Outcome State Fault Refusal := s.runAt t (opMac tag16)

/-- VERIFY: the tag after the data compared (R438, R557). -/
def opVerify (tag16 : Bool) (s : State) : State :=
  if !s.opFree then s
  else
    let n := if tag16 then 16 else 32
    if s.opLen < n ∨ s.opLen - n > 4096 ∨ s.bufBad s.opIn s.opLen then s.startOp (refusedOp 7 stKeyAddrBad)
    else s.withGrant 7 false false fun s =>
      let bs := s.bytes s.opIn s.opLen
      let ok := macTag (s.slot s.opKey).value (bs.take (s.opLen - n)) tag16 = bs.drop (s.opLen - n)
      { op := 7, uses := chainOf s.slot 10 s.opKey, status := if ok then 0 else stKeyTagBad }

def execOpVerify (t : Nat) (tag16 : Bool) (s : State) : Host.Outcome State Fault Refusal :=
  s.runAt t (opVerify tag16)

/-- The parts of an ENCRYPT or DECRYPT input: IV, AAD, data (and the tag for DECRYPT, of `tail` bytes) (R454, R557). -/
def State.gcmInput (s : State) (tail : Nat) : Option (List Byte × List Byte × List Byte × List Byte) :=
  if s.opLen < 16 + tail ∨ s.bufBad s.opIn s.opLen then none
  else
    let bs := s.bytes s.opIn s.opLen
    let al := leAt bs 12 2
    if al > 256 ∨ s.opLen < 16 + al + tail ∨ s.opLen - (16 + al + tail) > 4096 then none
    else
      let dl := s.opLen - (16 + al + tail)
      some (slice bs 0 12, slice bs 16 al, slice bs (16 + al) dl, slice bs (16 + al + dl) tail)

/-- ENCRYPT: AES-256-GCM ciphertext and tag at OUT; with no data it is GMAC tag generation (R438). -/
def opEncrypt (s : State) : State :=
  if !s.opFree then s
  else match s.gcmInput 0 with
    | none => s.startOp (refusedOp 8 stKeyAddrBad)
    | some (iv, aad, data, _) =>
      if s.bufBad s.opOut (data.length + 16) then s.startOp (refusedOp 8 stKeyAddrBad)
      else s.withGrant 8 data.isEmpty false fun s =>
        let k := (s.slot s.opKey).value
        let ct := gcmData k iv data
        { op := 8, uses := chainOf s.slot 10 s.opKey, status := 0, writes := writesAt s.opOut (ct ++ gcmTagBytes k iv aad ct) }

def execOpEncrypt (t : Nat) (s : State) : Host.Outcome State Fault Refusal := s.runAt t opEncrypt

/-- DECRYPT: the tag is compared, and on a match the data is written at OUT; with no data it is GMAC verification
(R438). -/
def opDecrypt (s : State) : State :=
  if !s.opFree then s
  else match s.gcmInput 16 with
    | none => s.startOp (refusedOp 9 stKeyAddrBad)
    | some (iv, aad, ct, tag) =>
      if s.bufBad s.opOut ct.length then s.startOp (refusedOp 9 stKeyAddrBad)
      else s.withGrant 9 ct.isEmpty false fun s =>
        let k := (s.slot s.opKey).value
        if gcmTagBytes k iv aad ct = tag then
          { op := 9, uses := chainOf s.slot 10 s.opKey, status := 0, writes := writesAt s.opOut (gcmData k iv ct) }
        else { op := 9, uses := chainOf s.slot 10 s.opKey, status := stKeyTagBad }

def execOpDecrypt (t : Nat) (s : State) : Host.Outcome State Fault Refusal := s.runAt t opDecrypt

/-- Whether a signature by a point whose hash is `hash` verifies over a digest (R438). -/
def sigOk (hash : BitVec 256) (point sig : BitVec 512) (digest : BitVec 256) : Bool :=
  Config.sha256 (pointBytes point) == hash && Config.ecdsaVerify point sig digest

/-- SIG_VERIFY: point, signature and digest against a PUBHASH slot (R438). -/
def opSigVerify (s : State) : State :=
  if !s.opFree then s
  else match s.opInput 160 with
    | none => s.startOp (refusedOp 10 stKeyAddrBad)
    | some bs => s.withGrant 10 false false fun s =>
      let ok := sigOk (s.slot s.opKey).value (BitVec.ofNat 512 (beAt bs 0 64)) (BitVec.ofNat 512 (beAt bs 64 64))
                  (BitVec.ofNat 256 (beAt bs 128 32))
      { op := 10, uses := chainOf s.slot 10 s.opKey, status := if ok then 0 else stKeySigBad }

def execOpSigVerify (t : Nat) (s : State) : Host.Outcome State Fault Refusal := s.runAt t opSigVerify

/-! ### Ends of operations -/

/-- What an operation does at its end: the slot it creates and the bytes it writes, all in one step (R439); a failed
verification counts TAG_FAIL (R455). -/
def State.finishOp (s : State) (o : KeyOp) : State :=
  let s := match o.creates with | some (x, k) => s.setSlot x k | none => s
  let s := o.writes.foldl (fun s p => (s.noteWrite p.1 1).setByte p.1 p.2) s
  if o.status = stKeyTagBad ∨ o.status = stKeySigBad then s.bump cntKEY_TAG_FAIL 1 else s

/-- Whether an operation in progress uses slot `x` or a descendant of it. -/
def opUses (x : Nat) (o : KeyOp) : Bool := o.uses.contains x

/-- The number of operations in progress that use slot `x` or a descendant. -/
def State.usersOf (s : State) (x : Nat) : Nat := (s.key.coreOps.filter (fun p => opUses x p.2)).length

/-! ### Invalidation (R440, R441) -/

/-- The invalidate handshake (R440 step 1): GEN rises; with DESTROY the slot is FREE. -/
def State.invalidateSlot (s : State) (x : Nat) (destroy : Bool) : State :=
  let k := s.slot x
  if destroy then s.setSlot x { freeSlot with gen := k.gen + 1 } else s.setSlot x { k with gen := k.gen + 1 }

/-- The status of an invalidation of slot `x` (R440, R441). -/
def State.invalidateStatus (s : State) (x : Nat) (secureWorld : Bool) : Nat :=
  let k := s.slot x
  if fixedSlot x then stKeyDenied
  else if k.secure && !secureWorld then stKeyDenied
  else if k.gen = 0xFFFFFFFF then stKeyDenied
  else 0

/-- An accepted invalidation: the handshake, the count and event 0x0C02; the answer is the number of operations that
must drain. -/
def State.invalidateNow (s : State) (x : Nat) (destroy : Bool) : Nat × State :=
  let n := s.usersOf x
  let s := (s.invalidateSlot x destroy).bump cntKEY_INVALIDATES 1
  (n, s.post 0x0C02 (p2 x ++ p4 (s.slot x).gen ++ p1 (b2n destroy) ++ p4 n))

/-- INVALIDATE: the handshake is made at once; the command stays BUSY until the operations granted before have drained
(R440). -/
def opInvalidate (destroy : Bool) (s : State) : State :=
  if !s.opFree then s
  else
    let st := if s.key.emptied then stTamper else s.invalidateStatus s.opDst s.stewardSecure
    if st ≠ 0 then s.startOp (refusedOp 11 st)
    else
      let (n, s) := s.invalidateNow s.opDst destroy
      s.startOp { op := 11, uses := [s.opDst], status := 0, count := n }

def execOpInvalidate (t : Nat) (destroy : Bool) (s : State) : Host.Outcome State Fault Refusal :=
  s.runAt t (opInvalidate destroy)

/-- The steward's operation leaves the register: BUSY clears with its count and status. -/
def State.retireOp (s : State) (o : KeyOp) : State :=
  { s with key := { s.key with op := none } }.setOpStat false o.count o.status

/-- Operations of cores that an invalidation or a zeroisation waits for end with their results (R440 step 3). -/
def State.drainUsers (s : State) (p : Nat × KeyOp → Bool) : State :=
  let done := s.key.coreOps.filter (fun x => p x)
  let s := { s with key := { s.key with coreOps := s.key.coreOps.filter (fun x => !p x) } }
  done.foldl (fun s x =>
    let s := s.finishOp x.2
    let st := cget (fun _ => ({} : KeyStage)) s.key.stage x.1
    let st := { st with stat := x.2.status, tag := if x.2.tag = [] then st.tag else x.2.tag }
    { s with key := { s.key with stage := cset (fun _ => ({} : KeyStage)) s.key.stage x.1 st } }) s

/-- The invalidation completes: every operation granted before the handshake has released its grant (R440 step 4). -/
def opInvalidateComplete (s : State) : State :=
  match s.key.op with
  | some o =>
    if o.op = 11 then
      let s := s.drainUsers (fun u => o.uses.any (fun x => opUses x u.2))
      s.retireOp o
    else s
  | none => s

def execInvalidateComplete (t : Nat) (s : State) : Host.Outcome State Fault Refusal :=
  s.runAt t opInvalidateComplete

/-! ### Sweep and zeroisation (R442, R444) -/

/-- The slots that a sweep frees, ascending: each is tested as the sweep reaches it, after the lower ones are freed. -/
def State.sweepNow (s : State) : Nat × State :=
  (ckeys s.key.slots).foldl (fun (r : Nat × State) x =>
    if !fixedSlot x && r.2.orphan x then (r.1 + 1, (r.2.setSlot x (freedSlot (r.2.slot x))).bump cntKEY_SWEPT 1) else r) (0, s)

/-- SWEEP frees every orphan (R442); the command stays BUSY until SWEEP_COMPLETE. -/
def opSweep (s : State) : State :=
  if !s.opFree then s
  else if s.key.emptied then s.startOp (refusedOp 12 stTamper)
  else
    let (n, s) := s.sweepNow
    s.startOp { op := 12, uses := [], status := 0, count := n }

def execOpSweep (t : Nat) (s : State) : Host.Outcome State Fault Refusal := s.runAt t opSweep

/-- The sweep completes with event 0x0C03 (R442). -/
def opSweepComplete (s : State) : State :=
  match s.key.op with
  | some o => if o.op = 12 ∧ o.status = 0 then (s.retireOp o).post 0x0C03 (p4 o.count) else s
  | none => s

def execSweepComplete (t : Nat) (s : State) : Host.Outcome State Fault Refusal := s.runAt t opSweepComplete

/-- Every non-fixed slot freed, each one's generation raised, FREE_SLOTS set (R444), and event 0x0C09 with its cause
(R458).
DESIGN CHOICE, log entry 15. -/
def State.zeroise (s : State) (cause : Nat) : State :=
  let fixedOnes := s.key.slots.filter (fun c => fixedSlot c.1)
  let m := fixedOnes ++ (List.range 4090).map (fun i => (i + 6, freedSlot (s.slot (i + 6))))
  let s := { s with key := { s.key with slots := m } }.wr KEY_STAT KEY_STAT_FREE_SLOTS (4096 - usedSlots m)
  let s := s.bump cntKEY_ZEROISES 1
  s.postTo (if cause = 3 then 0x201 else 0x200) 0x0C09 (p1 cause)

/-- Whether a tenant is RUNNING, QUIESCING or MIGRATING (R444, R518). -/
def State.tenantsActive (s : State) : Bool :=
  (List.range s.tenants).any (fun t =>
    let v := s.rd (TEN_STATE t) TEN_STATE_STATE
    v == 2 || v == 3 || v == 5)

def stStateConflict : Nat := 0x0505

/-- ZEROISE by command: refused while a tenant is active; it acts at its end, once grants have drained (R444). -/
def opZeroise (s : State) : State :=
  if !s.opFree then s
  else if s.key.emptied then s.startOp (refusedOp 13 stTamper)
  else if s.tenantsActive then s.startOp (refusedOp 13 stStateConflict)
  else s.startOp { op := 13, uses := [], status := 0 }

def execOpZeroise (t : Nat) (s : State) : Host.Outcome State Fault Refusal := s.runAt t opZeroise

/-- A key operation ends (R439): the steward's, or that of a core (R453). INVALIDATE and SWEEP that were accepted end by
their own commands; ZEROISE first drains the grants. -/
def opKeyOperationEnd (core : Option Nat) (s : State) : State :=
  match core with
  | none =>
    match s.key.op with
    | none => s
    | some o =>
      if (o.op = 11 ∨ o.op = 12) ∧ o.status = 0 then s
      else if o.op = 13 ∧ o.status = 0 then ((s.drainUsers (fun _ => true)).zeroise 1).retireOp o
      else (s.finishOp o).retireOp o
  | some c =>
    s.drainUsers (fun p => p.1 == c)

def execKeyOperationEnd (t : Nat) (core : Option Nat) (s : State) : Host.Outcome State Fault Refusal :=
  s.runAt t (opKeyOperationEnd core)

/-- The steward's operation, where one is in progress, taken to its end. -/
def State.endSteward (s : State) : State := opKeyOperationEnd none (opSweepComplete (opInvalidateComplete s))

/-- Every slot freed, fixed slots included, each one's generation raised (R445, R451).
DESIGN CHOICE, log entry 16. -/
def State.wipedSlots (s : State) : Cells KeySlot := (List.range 4096).map (fun i => (i, freedSlot (s.slot i)))

/-! ### Entropy (R443) -/

/-- The entropy source's health test fails: randomness is refused, and event 0x0C06 written with cause ENTROPY. -/
def opEntropyFailure (s : State) : State :=
  { s with key := { s.key with entropyBad := true } }.post 0x0C06 (p1 2)

def execEntropyFailure (t : Nat) (s : State) : Host.Outcome State Fault Refusal := s.runAt t opEntropyFailure

/-- The health test passes again. -/
def opEntropyRestored (s : State) : State := { s with key := { s.key with entropyBad := false } }

def execEntropyRestored (t : Nat) (s : State) : Host.Outcome State Fault Refusal := s.runAt t opEntropyRestored

end Sys2Proof.Machine
end

