-- ==== Sys2Proof/Machine/Walker.lean ====
section
/-! DEFINITION. The stream table's records and the TLV walker that executes stencils (R132 to R135, R138 to R142, R155). -/

namespace Sys2Proof.Machine

/-! ### The stream table (R138 to R145) -/

/-- A static entry (R142). -/
structure StreamEnt where
  type : Nat
  stencil : Nat
  inst : Nat
  base : Nat
  depthLog : Nat
  channels : Nat
  /-- The RATE byte. -/
  rate : Nat
  keyCur : Nat
  keyNext : Nat
  keyidCur : Nat
  keyidNext : Nat
  policy : Nat
  alg : Nat
  subCount : Nat
  subFirst : Nat
  confrev : Nat
deriving DecidableEq, Repr

/-- A static entry from its 64 bytes. -/
def parseStatic (b : List Byte) : StreamEnt :=
  { type := leAt b 0 2 % 4, stencil := byteAt b 2 % 64, inst := byteAt b 3, base := leAt b 4 5, depthLog := byteAt b 9,
    channels := byteAt b 10, rate := byteAt b 11, keyCur := leAt b 12 2, keyNext := leAt b 14 2, keyidCur := leAt b 16 4,
    keyidNext := leAt b 20 4, policy := byteAt b 24, alg := byteAt b 25, subCount := leAt b 26 2,
    subFirst := leAt b 28 2, confrev := leAt b 32 4 }

/-- The bank that a control-space address lies in. -/
def ingBankOf (a : Nat) : Option Nat :=
  if 0x03400000 ≤ a ∧ a < 0x03640000 then some 0
  else if 0x03800000 ≤ a ∧ a < 0x03A40000 then some 1 else none

/-- The control-space address of handle `h`'s static entry in bank `b`. -/
def staticAddr (b h : Nat) : Nat := ING_STATIC b (16 * h)

/-- The static entry of a handle in a bank. -/
def State.stream (s : State) (b h : Nat) : StreamEnt := parseStatic (s.regBytes (staticAddr b h) 64)

/-- The active bank. -/
def State.ingActive (s : State) : Nat := s.rd ING_STAT ING_STAT_ACTIVE

/-- The handles whose entry in a bank is not empty. -/
def State.handles (s : State) (b : Nat) : List Nat :=
  (s.regs.filterMap (fun c => elemOf (staticAddr b 0) 16384 64 c.1)).filter (fun h => (s.stream b h).type != 0)

/-- The stream's rate M / N · fs, when it is a whole number (R152). -/
def streamRate (fs rate : Nat) : Nat := fs * (rate % 16 + 1) / (rate / 16 + 1)

/-- Whether a RATE byte is one R152 permits. -/
def rateOk (fs rate : Nat) : Bool :=
  fs * (rate % 16 + 1) % (rate / 16 + 1) == 0 && decide (fs ≤ 16 * streamRate fs rate) &&
  decide (streamRate fs rate ≤ 16 * fs) && decide (streamRate fs rate ≤ 230400)

/-- The stride of a ring entry (R155). -/
def ringStride (channels : Nat) : Nat := 32 * ((16 + 8 * channels + 31) / 32)

/-- The ring depth. -/
def StreamEnt.depth (e : StreamEnt) : Nat := 2 ^ e.depthLog

/-- The subscriptions of a stream in a bank (R144). -/
def State.subs (s : State) (b : Nat) (e : StreamEnt) : List Nat :=
  (List.range e.subCount).map (fun i => (s.rdW (ING_SUBS b (e.subFirst + i))).toNat)

/-- The two candidate buckets of a key (R140). -/
def keyBuckets (k : StreamKey) : Nat × Nat :=
  let c := crc32c (beBytes 6 k.da ++ beBytes 2 k.appid ++ beBytes 2 k.vid ++ beBytes 4 k.hash)
  let b1 := c % 4096
  let b2 := c / 4096 % 4096
  (b1, if b2 = b1 then b1 ^^^ 1 else b2)

/-- Key index entry `i` (0 to 32,767) of a bank: its key and handle, when it is valid (R139). -/
def State.keyEntry (s : State) (b i : Nat) : Option (StreamKey × Nat) :=
  let x := s.regBytes (ING_KEY_INDEX b (4 * i)) 16
  let v := leAt x 8 2
  if v.testBit 15 then
    some ({ da := beAt x 0 6, appid := beAt x 6 2, vid := v % 4096, hash := leAt x 10 4 }, leAt x 14 2 % 16384)
  else none

/-- LOOKUP in a bank: the handle of a key, when its entry is not empty (R141). -/
def State.streamLookup (s : State) (b : Nat) (k : StreamKey) : Option Nat :=
  let (b1, b2) := keyBuckets k
  let ways := ((List.range 8).map (b1 * 8 + ·)) ++ ((List.range 8).map (b2 * 8 + ·))
  match ways.findSome? (fun i => match s.keyEntry b i with
      | some (k', h) => if k' = k then some h else none
      | none => none) with
  | some h => if (s.stream b h).type = 0 then none else some h
  | none => none

/-! ### The walker (R132 to R135) -/

/-- One recorded sample: smpCnt, smpSynch, and value and quality by channel (R134 EMIT). -/
structure WalkSample where
  cnt : Nat
  synch : Nat
  chans : List (Nat × Nat)
deriving DecidableEq, Repr

/-- The walker's state for a frame (R132). -/
structure Walk where
  slot : Nat
  pc : Nat := 0
  /-- Instructions executed, weighted. -/
  used : Nat := 0
  cur : Nat := 0
  fin : Nat
  stack : List Nat := []
  tag : Nat := 0
  vs : Nat := 0
  len : Nat := 0
  /-- F0 to F15. -/
  f : List Nat
  ts : List Byte := List.replicate 8 0
  /-- Value and quality slots written in this ASDU. -/
  vq : List (Option (Nat × Nat)) := List.replicate 32 none
  asdu : Nat := 0
  key : Nat := 0
  /-- Offset and length of the value last hashed. -/
  idAt : Nat × Nat := (0, 0)
  samples : List WalkSample := []
  /-- Dataset elements: tag, length, value. -/
  elems : List (Nat × Nat × List Byte) := []
  /-- The stream, once LOOKUP has hit. -/
  hit : Option (Nat × StreamEnt) := none
  deriving DecidableEq, Repr

/-- How a frame's walk ends. -/
inductive WalkEnd where
  | finished (w : Walk)
  | drop (reason : Nat) (w : Walk)
  | fault (w : Walk)
  | stranger (w : Walk)
  deriving DecidableEq, Repr

/-- What the walker reads: the APDU, the frame's kind, the stencil pool, and the active bank. -/
structure WalkCtx where
  apdu : List Byte
  goose : Bool
  code : Nat → Nat → Nat
  find : Nat → Option (Nat × StreamEnt)

/-- Tag, start of value and length at the cursor; none when one of them would pass End. -/
def Walk.tlv (c : WalkCtx) (w : Walk) : Option (Nat × Nat × Nat) :=
  if w.fin < w.cur + 2 then none
  else
    let b0 := byteAt c.apdu (w.cur + 1)
    let r : Option (Nat × Nat) :=
      if b0 < 0x80 then some (w.cur + 2, b0)
      else
        let n := b0 - 0x80
        if n = 0 ∨ 3 < n ∨ w.fin < w.cur + 2 + n then none else some (w.cur + 2 + n, beAt c.apdu (w.cur + 2) n)
    match r with
    | some (vs, l) => if w.fin < vs + l then none else some (byteAt c.apdu w.cur, vs, l)
    | none => none

/-- A discard with reason FORMAT. -/
def Walk.format (w : Walk) : Except WalkEnd Walk := .error (.drop 1 w)

/-- A jump taken (R133, R135). -/
def Walk.jump (w : Walk) (t : Nat) : Except WalkEnd Walk :=
  if t = 255 then w.format else if 128 ≤ t then .error (.fault w) else .ok { w with pc := t }

/-- On to the next instruction. -/
def Walk.next (w : Walk) : Except WalkEnd Walk := .ok { w with pc := w.pc + 1 }

/-- Decode the tag at the cursor into TAG, VS and L (R134 MATCH). -/
def Walk.decode (c : WalkCtx) (w : Walk) : Except WalkEnd Walk :=
  match w.tlv c with
  | some (tag, vs, l) => { w with tag := tag, vs := vs, len := l, cur := vs : Walk }.next
  | none => w.format

/-- A big-endian value, sign-extended to 32 bits when asked (R134 EXH). -/
def exhValue (b : List Byte) (vs l : Nat) (signed : Bool) : Nat :=
  let v := beAt b vs l
  if signed then ofSigned 32 (toSigned (8 * l) v) else v

/-- Whether the value at VS lies within End. -/
def Walk.valueIn (w : Walk) : Bool := w.vs + w.len ≤ w.fin

/-- The weight of an instruction (R136): EXVQ counts as ceil(n / 8), every other operation as one. -/
def Walk.weight (w : Walk) (op b : Nat) : Nat :=
  if op = 8 then ((if b = 0 then w.hit.elim 0 (·.2.channels) else b) + 7) / 8 else 1

/-- One instruction (R134, R135). -/
def Walk.step (c : WalkCtx) (budget : Nat) (w : Walk) : Except WalkEnd Walk :=
  if 128 ≤ w.pc then .error (.fault w)
  else
    let i := c.code w.slot w.pc
    let op := i / 2 ^ 24 % 256
    let a := i / 65536 % 256
    let b := i / 256 % 256
    let t := i % 256
    let inKey := w.hit.isNone
    let cost := w.weight op b
    if budget < w.used + cost then .error (.fault w)
    else
      let w := { w with used := w.used + cost }
      match op with
      | 0x00 => .error (.finished w)
      | 0x01 => .error (.drop (if 0xEF ≤ a then 0xFF else 0x10 + a) w)
      | 0x02 =>
        if w.fin ≤ w.cur then w.jump t
        else if byteAt c.apdu w.cur = a then w.decode c else w.jump t
      | 0x03 => if w.cur < w.fin then w.decode c else w.jump t
      | 0x04 => { w with cur := w.vs + w.len }.next
      | 0x05 =>
        if 4 ≤ w.stack.length then w.format
        else if !w.valueIn then w.format
        else { w with stack := w.fin :: w.stack, fin := w.vs + w.len, cur := w.vs }.next
      | 0x06 => match w.stack with
        | [] => .error (.fault w)
        | e :: r => { w with cur := w.fin, fin := e, stack := r }.next
      | 0x07 =>
        if 16 ≤ a then .error (.fault w)
        else if w.len = 0 ∨ 4 < w.len ∨ !w.valueIn then w.format
        else { w with f := w.f.set a (exhValue c.apdu w.vs w.len (b == 1)), cur := w.vs + w.len }.next
      | 0x08 =>
        let n := if b = 0 then w.hit.elim 0 (·.2.channels) else b
        if w.len ≠ 8 * n ∨ 32 < a + n ∨ !w.valueIn then w.format
        else
          let vq := (List.range n).foldl (fun l k =>
            l.set (a + k) (some (beAt c.apdu (w.vs + 8 * k) 4, beAt c.apdu (w.vs + 8 * k + 4) 4))) w.vq
          { w with vq := vq, cur := w.vs + w.len }.next
      | 0x09 =>
        if w.len ≠ 8 ∨ !w.valueIn then w.format
        else { w with ts := slice c.apdu w.vs 8, cur := w.vs + 8 }.next
      | 0x0A =>
        if !w.valueIn then w.format
        else { w with key := crc32c (slice c.apdu w.vs w.len), idAt := (w.vs, w.len), cur := w.vs + w.len }.next
      | 0x0B =>
        if !inKey then .error (.fault w)
        else match c.find w.key with
          | none => .error (.stranger w)
          | some (h, e) => .ok { w with hit := some (h, e), stack := [], cur := 0, fin := c.apdu.length, tag := 0, vs := 0,
                                        len := 0, slot := e.stencil, pc := 0 }
      | 0x0C =>
        if 16 ≤ a then .error (.fault w) else if w.f.getD a 0 ≠ b then w.jump t else w.next
      | 0x0D => match w.hit with
        | none => .error (.fault w)
        | some (_, e) =>
          if 16 ≤ a ∨ 1 < b then .error (.fault w)
          else
            let want := if b = 0 then e.confrev else e.channels
            if (b = 0 ∧ !e.policy.testBit 6) ∨ w.f.getD a 0 = want then w.next else w.jump t
      | 0x0E => w.jump t
      | 0x0F => if w.cur < w.fin then w.jump t else w.next
      | 0x10 =>
        if w.fin ≤ w.cur then w.format
        else if (byteAt c.apdu w.cur).testBit 5 then w.jump t else w.next
      | 0x11 =>
        if c.goose ∨ inKey then .error (.fault w)
        else if 8 ≤ w.samples.length then w.format
        else
          let n := w.hit.elim 0 (·.2.channels)
          let smp : WalkSample := { cnt := w.f.getD 1 0, synch := w.f.getD 3 0,
                                    chans := (List.range n).map (fun k => ((w.vq.getD k none).getD (0, 1))) }
          let w := { w with samples := w.samples ++ [smp], vq := List.replicate 32 none, asdu := w.asdu + 1 }
          if w.asdu < w.f.getD 0 0 then w.jump t else w.next
      | 0x12 => match w.hit with
        | none => .error (.fault w)
        | some (_, e) =>
          if !c.goose then .error (.fault w)
          else if 14 < w.len ∨ e.channels ≤ w.elems.length ∨ !w.valueIn then w.format
          else { w with elems := w.elems ++ [(w.tag, w.len, slice c.apdu w.vs w.len)], cur := w.vs + w.len }.next
      | 0x13 => if 16 ≤ a then .error (.fault w) else { w with f := w.f.set a b }.next
      | _ => .error (.fault w)

/-- Instructions until the frame's walk ends; the fuel covers the budget and the instructions that weigh nothing. -/
def walkRun (c : WalkCtx) (budget : Nat) : Nat → Walk → WalkEnd
  | 0, w => .fault w
  | fuel + 1, w => match w.step c budget with
    | .error e => e
    | .ok w => walkRun c budget fuel w

end Sys2Proof.Machine
end

