-- ==== Sys2Proof/Machine/Ingest.lean ====
section
/-! DEFINITION. Stream ingest (R129 to R169): the stages of a frame, sample placement and rings, round rows, dataset images,
authentication, banks and the flip, and the stranger queue. -/

namespace Sys2Proof.Machine

/-! ### Dynamic entries (R145, R147) -/

def State.dynGet (s : State) (h off n : Nat) : Nat := s.regLe (ING_DYN h 0 + off) n
def State.dynSet (s : State) (h off n v : Nat) : State := s.setRegLe (ING_DYN h 0 + off) n v
/-- A 32-bit dynamic counter rises; it wraps. -/
def State.dynInc (s : State) (h off k : Nat) : State := s.dynSet h off 4 ((s.dynGet h off 4 + k) % 2 ^ 32)

def State.ingStream (s : State) (h : Nat) : IngStream := cget (fun _ => {}) s.ing.streams h
def State.setIngStream (s : State) (h : Nat) (x : IngStream) : State :=
  { s with ing := { s.ing with streams := cset (fun _ => {}) s.ing.streams h x } }

/-- What a ring position holds. -/
def State.ringPos (s : State) (h p : Nat) : IngPos := cget (fun _ => {}) s.ing.pos (h * 4096 + p)

/-- Whether a stream's position for index `n` holds its real entry. -/
def State.holdsReal (s : State) (h : Nat) (e : StreamEnt) (n : Nat) : Bool :=
  let p := s.ringPos h (n % e.depth)
  p.used && p.real && p.idx == n

/-- The dynamic state of a handle reset for a new instance (R147). -/
def State.resetStream (s : State) (h inst : Nat) : State :=
  let s := (List.range 16).foldl (fun s i => s.wrW (ING_DYN h i) 0) s
  let s := s.dynSet h 58 1 inst
  { s with ing := { s.ing with pos := cerase (fun k => k / 4096 == h) s.ing.pos,
                               streams := cset (fun _ => {}) s.ing.streams h {} } }

/-- A frame discarded for a stream: LAST_DROP and its counter (R145, R146). -/
def State.dropFrame (s : State) (h reason counter : Nat) : State := (s.dynInc h counter 1).dynSet h 57 1 reason

/-! ### Sample rings (R152 to R158) -/

/-- The first sample index of rate `r` at or after the first base sample of round `k` (R152). -/
def State.firstIndex (s : State) (r k : Nat) : Nat :=
  let x := sampleInstant s.fs (k * s.roundLen)
  if x = 0 then 0 else sampleAt r (x - 1) + 1

/-- The sample indices of rate `r` that belong to round `k`. -/
def State.roundIndices (s : State) (r k : Nat) : List Nat :=
  let a := s.firstIndex r k
  (List.range (s.firstIndex r (k + 1) - a)).map (· + a)

/-- The round a sample instant belongs to. -/
def State.roundOf (s : State) (x : Nat) : Nat := roundAt s.fs s.roundLen x

/-- D moved by up to `n` µs toward a target (R45). -/
def slewBy (d target n : Nat) : Nat := if d < target then min target (d + n) else max target (d - n)

/-- T(k) of a round that has had no boundary (R43, R45): while the grid runs D moves by 1 µs a boundary from the next one on;
while it does not, D is CURRENT. -/
def State.dispatchAt (s : State) (k : Nat) : Nat :=
  let d := if s.gridOn then slewBy s.tim.nextD s.tim.target (k - s.tim.nextRound) else s.rd TIM_ADMIT TIM_ADMIT_CURRENT
  dispatchInstant s.fs s.roundLen d k

/-- Whether domain time has reached T(k), so that an entry written now is late for round `k` (R43). -/
def State.dispatched (s : State) (k : Nat) : Bool :=
  (s.gridOn && decide (k < s.tim.nextRound)) || decide (s.dispatchAt k ≤ s.dom)

/-- What a ring entry holds (R155). -/
structure RingEntry where
  idx : Nat
  smpcnt : Nat
  synch : Nat
  real : Bool
  loc : Bool
  instant : Nat
  chans : List (Nat × Nat)
  deriving DecidableEq, Repr

/-- The bytes of a ring entry, once written (R155, R157). -/
def entryBytes (e : StreamEnt) (x : RingEntry) : List Byte :=
  fitBytes (ringStride e.channels)
    (leBytes 4 x.idx ++ leBytes 2 x.smpcnt ++ leBytes 1 x.synch ++ leBytes 1 (b2n x.real + 2 * b2n x.loc)
      ++ leBytes 8 x.instant ++ x.chans.flatMap (fun c => leBytes 4 c.1 ++ leBytes 4 c.2))

/-- The device address of a position of a ring. -/
def StreamEnt.entryAddr (e : StreamEnt) (n : Nat) : Nat := e.base + ringStride e.channels * (n % e.depth)

/-- The quality bits SYNCH_MISMATCH, UNAUTH and SIM (R156). -/
def flaggedQ (q : Nat) : Bool := q.testBit 16 || q.testBit 18 || q.testBit 19

/-- Whether ingest may write the position of index `n` (R462). -/
def State.ringReaches (s : State) (e : StreamEnt) (n : Nat) : Bool :=
  s.engineReaches .ing (e.entryAddr n) (ringStride e.channels)

/-- A real entry about to be overwritten is kept, where it is the newest that the ring has lost (R158). -/
def State.keepReal (s : State) (h : Nat) (e : StreamEnt) (n : Nat) : State :=
  let p := s.ringPos h (n % e.depth)
  let st := s.ingStream h
  if p.used && p.real && p.idx != n && (st.prev.map (·.1)).all (fun m => decide (m < p.idx)) then
    match (s.engineRead .ing (e.entryAddr p.idx) (ringStride e.channels)).1 with
    | some b => s.setIngStream h { st with prev := some (p.idx, b) }
    | none => s
  else s

/-- A ring entry written (R157); the three writes are one step here. Into a bank that ingest does not own the write is
refused, and the position holds what it held (R143). -/
def State.writeEntry (s : State) (h : Nat) (e : StreamEnt) (x : RingEntry) : State :=
  if s.ringReaches e x.idx then
    let s := (s.keepReal h e x.idx).engineWrite .ing (e.entryAddr x.idx) (entryBytes e x)
    let p : IngPos := { used := true, idx := x.idx, real := x.real, flagged := x.chans.any (fun c => flaggedQ c.2) }
    { s with ing := { s.ing with pos := cset (fun _ => {}) s.ing.pos (h * 4096 + x.idx % e.depth) p } }
  else s.engineWrite .ing (e.entryAddr x.idx) (entryBytes e x)

/-- The newest real entry in the ring with an index below `n` (R158). -/
def State.realBefore (s : State) (h n : Nat) : Option Nat :=
  ((s.ing.pos.filter (fun c => c.1 / 4096 == h && c.2.real && decide (c.2.idx < n))).map (·.2.idx)).foldl
    (fun (b : Option Nat) i => match b with | none => some i | some j => some (max i j)) none

/-- The bytes of the newest real entry with an index below `n`, whether the ring still holds it or not (R158). -/
def State.heldEntry (s : State) (h : Nat) (e : StreamEnt) (n : Nat) : Option (List Byte) :=
  let old := (s.ingStream h).prev.filter (fun x => decide (x.1 < n))
  match s.realBefore h n with
  | some m =>
    if (old.map (·.1)).any (fun x => decide (m < x)) then old.map (·.2)
    else (s.engineRead .ing (e.entryAddr m) (ringStride e.channels)).1
  | none => old.map (·.2)

/-- A substitute for index `n` (R158). -/
def State.writeSubstitute (s : State) (h : Nat) (e : StreamEnt) (n : Nat) : State :=
  let r := streamRate s.fs e.rate
  let held := if e.policy.testBit 2 then none else s.heldEntry h e n
  let chans := (List.range e.channels).map (fun c => match held with
    | some b =>
      let q := leAt b (20 + 8 * c) 4
      (leAt b (16 + 8 * c) 4, 0x20000 + nsetBit (nsetBit (nsetBit (q % 65536) 0 true) 1 false) 7 true)
    | none => (0, 0x20001))
  let synch := match held with | some b => byteAt b 6 | none => 0
  let t := s.writeEntry h e
    { idx := n, smpcnt := n % r, synch, real := false, loc := e.type == 3, instant := sampleInstant r n, chans }
  if s.ringReaches e n then t.bump cntING_SUBSTITUTES 1 else t

/-- Substitutes into the positions that `l` names and that hold no real entry (R158). -/
def State.substitute (s : State) (h : Nat) (e : StreamEnt) (l : List Nat) : State :=
  l.foldl (fun s n => if s.holdsReal h e n then s else s.writeSubstitute h e n) s

/-- A sample written as real: NEWEST moves on and substitutes follow ahead, or it is out of order (R153, R158). -/
def State.writeReal (s : State) (h : Nat) (e : StreamEnt) (x : RingEntry) : State :=
  let st := s.ingStream h
  let newest := match st.newest with | none => true | some m => decide (m < x.idx)
  let t := s.writeEntry h e x
  let s := if s.ringReaches e x.idx then t.bump cntING_SAMPLES_WRITTEN 1 else t
  if newest then
    let s := (s.setIngStream h { s.ingStream h with newest := some x.idx }).dynSet h 8 4 x.idx
    if e.subCount = 0 then s
    else
      let r := streamRate s.fs e.rate
      let k := s.roundOf (sampleInstant r x.idx)
      let last := s.firstIndex r (k + 2)
      s.substitute h e ((List.range (last - (x.idx + 1))).map (· + (x.idx + 1)))
  else s.dynInc h 32 1

/-- A sample classified and written (R153). Reports whether a real entry was written. -/
def State.takeSample (s : State) (h : Nat) (e : StreamEnt) (x : RingEntry) (neverLate : Bool) : Bool × State :=
  let st := s.ingStream h
  let r := streamRate s.fs e.rate
  let tooOld := match st.newest with | some m => decide (x.idx + e.depth < m + 1) | none => false
  if !neverLate && (s.dispatched (s.roundOf (sampleInstant r x.idx)) || tooOld) then
    (false, (s.dynInc h 28 1).bump cntING_LATE 1)
  else if s.holdsReal h e x.idx then (false, s.dynInc h 24 1)
  else (s.ringReaches e x.idx, s.writeReal h e x)

/-- The index of smpCnt `j` by the arrival time (R40, R152). -/
def placeIndex (r j arrival : Nat) : Nat :=
  let y := arrival + 100000
  let sec := y / 1000000000
  let n := sec * r + j
  if sampleInstant r n ≤ y then n else (sec - 1) * r + j

/-! ### Authentication (R149 to R151) -/

/-- A received frame, its header found. -/
structure IngHdr where
  frame : IngFrame
  /-- Offset of the 8-byte header, and the frame's kind. -/
  off : Nat
  goose : Bool
  vid : Nat
  appid : Nat
  sim : Bool
  apdu : List Byte
  ext : Nat
  deriving DecidableEq, Repr

/-- The length of the security extension: none where both reserved header fields are zero (R149).
DESIGN CHOICE, log entry 27. -/
def extLength (hdr : List Byte) : Nat :=
  if beAt hdr 4 2 % 32768 = 0 ∧ beAt hdr 6 2 = 0 then 0 else Config.secExtLength hdr

/-- Stage 1 (R129, R130): the header, or the counter of the discard. -/
def parseIng (f : IngFrame) : Except Nat IngHdr :=
  let b := f.bytes
  let tci := vlanTci b 12
  let off := if tci.isSome then 18 else 14
  let et := beAt b (off - 2) 2
  if et ≠ 0x88BA ∧ et ≠ 0x88B8 then .error cntING_NOT_STREAM
  else
    let len := beAt b (off + 2) 2
    if len < 8 ∨ b.length < off + len then .error cntING_FORMAT_DROP
    else
      let ext := extLength (slice b off 8)
      .ok { frame := f, off, goose := et == 0x88B8, vid := (tci.getD 0) % 4096, appid := beAt b off 2,
            sim := (beAt b (off + 4) 2).testBit 15, apdu := (b.drop (off + 8)).take (len - 8 - ext), ext }

/-- The reason a present extension fails, or 0, and the machine after the grant (R149).
DESIGN CHOICE, log entry 27. -/
def State.verifyExt (s : State) (h : Nat) (e : StreamEnt) (hd : IngHdr) : Nat × State :=
  let (keyid, tag) := Config.secExtFields ((hd.frame.bytes.drop (hd.off + 8 + hd.apdu.length)).take hd.ext)
  let pick : Option (Nat × Bool) :=
    if keyid = e.keyidCur then some (e.keyCur, false)
    else if keyid = e.keyidNext then some (e.keyNext, true) else none
  match pick with
  | none => (5, s)
  | some (slot, next) =>
    if !slot.testBit 15 then (5, s)
    else
      let s := if next then s.dynSet h 56 1 (nsetBit (s.dynGet h 56 1) 2 true) else s
      let (st, s) := s.grant (slot % 4096) ⟨[2], [uVerify]⟩ .ingest false
      if st ≠ 0 then (5, s)
      else
        let key := (s.slot (slot % 4096)).value
        let cov := Config.secCovered hd.frame.bytes
        let want := if e.alg = 0 then macTag key cov true else if e.alg = 1 then macTag key cov false
          else if e.alg = 2 then gcmTagBytes key (Config.secIv hd.frame.bytes) cov [] else []
        if e.alg ≤ 2 ∧ tag = want then (0, s) else (4, s)

/-- Stage 4 (R150): the discard reason or 0, and whether UNAUTH is to be set. -/
def State.authenticate (s : State) (h : Nat) (e : StreamEnt) (hd : IngHdr) : Nat × Bool × State :=
  let auth := e.policy / 8 % 4
  if auth = 0 then (0, false, s)
  else if hd.ext = 0 then (if auth = 2 then (0, true, s) else (3, false, s))
  else
    let (r, s) := s.verifyExt h e hd
    (r, false, s)

/-! ### Stranger queue (R166, R167) -/

/-- The registers of the stranger queue show its head and count. -/
def State.strangerShow (s : State) : State :=
  let n := s.ing.strangers.length
  let s := (s.wr ING_STAT ING_STAT_STRANGER_COUNT n).wrB ING_STAT ING_STAT_STRANGER_AVAIL (n != 0)
  let b := s.ing.strangers.headD []
  (List.range 16).foldl (fun s i => s.wrW (ING_STRANGER_DATA i) (BitVec.ofNat 32 (leAt b (4 * i) 4))) s

/-- A stranger entry (R167). -/
def strangerEntry (hd : IngHdr) (w : Walk) : List Byte :=
  let b := hd.frame.bytes
  slice b 0 6 ++ slice b 6 6 ++ slice b hd.off 2
    ++ leBytes 2 (hd.vid + 4096 * b2n hd.goose + 8192 * b2n (hd.ext != 0) + 16384 * b2n (w.f.getD 8 0 != 0))
    ++ leBytes 4 w.key ++ leBytes 1 hd.frame.port ++ leBytes 3 0 ++ leBytes 8 hd.frame.arrival
    ++ fitBytes 32 (slice hd.apdu w.idAt.1 (min 32 w.idAt.2))

/-- A miss: filtered, rate-limited, queued or dropped (R166).
DESIGN CHOICE, log entry 27. -/
def State.strangerMiss (s : State) (hd : IngHdr) (w : Walk) : State :=
  let s := s.bump cntING_STRANGER_FRAMES 1
  if !s.rdB ING_CTRL ING_CTRL_STRANGER_EN then s
  else
    let key := slice hd.frame.bytes 0 6 ++ slice hd.frame.bytes hd.off 2 ++ leBytes 2 hd.vid ++ leBytes 4 w.key
    let hold := max 1 (s.rd ING_STRANGER_CFG ING_STRANGER_CFG_HOLDOFF) * 1000000
    let rate := max 1 (s.rd ING_STRANGER_CFG ING_STRANGER_CFG_RATE)
    let heldOff := s.ing.recent.any (fun r => r.1 = key && decide (s.now < r.2 + hold))
    let inSecond := s.ing.queuedAt.filter (fun t => s.now < t + 1000000000)
    if heldOff ∨ rate ≤ inSecond.length then s
    else
      let recent := s.ing.recent.filter (fun r => r.1 ≠ key)
      let recent := (if 1024 ≤ recent.length then recent.drop 1 else recent) ++ [(key, s.now)]
      let s : State := { s with ing := { s.ing with recent := recent } }
      if 256 ≤ s.ing.strangers.length then
        (s.bump cntING_STRANGER_DROPPED 1).postLimited (almRoute 0x0302 0) 0x0302 0 []
      else
        let s := { s with ing := { s.ing with strangers := s.ing.strangers ++ [strangerEntry hd w],
                                              queuedAt := inSecond ++ [s.now] } }
        (s.bump cntING_STRANGER_QUEUED 1).strangerShow

/-- ING_STRANGER_POP written (R167, R168). -/
def opIngStrangerPop (s : State) : State :=
  ({ s with ing := { s.ing with strangers := s.ing.strangers.drop 1 } }).strangerShow

def execIngStrangerPop (t : Nat) (s : State) : Host.Outcome State Fault Refusal := s.runAt t opIngStrangerPop

/-! ### GOOSE (R161 to R163) -/

/-- The flags of the KIND 1 subscribers in a bank set (R144, R162). -/
def State.gooseFlags (s : State) (b : Nat) (e : StreamEnt) : State :=
  (s.subs b e).foldl (fun s v =>
    if v.testBit 31 then s.setFlags (v % 8192) (2 ^ (v / 8192 % 32)) else s) s

/-- The count of image updates rises and is written (R161). -/
def State.bumpImage (s : State) (h : Nat) (e : StreamEnt) : State :=
  let st := s.ingStream h
  let n := (st.imgSeq + 1) % 2 ^ 31
  (s.setIngStream h { st with imgSeq := n }).engineWrite .ing e.base (leBytes 4 n)

/-- An accepted GOOSE frame applied: change, retransmission or repeat (R162).
DESIGN CHOICE, log entry 27. -/
def State.takeGoose (s : State) (h : Nat) (e : StreamEnt) (hd : IngHdr) (w : Walk) (b : Nat) (sim unauth : Bool) : State :=
  let st := w.f.getD 5 0
  let sq := w.f.getD 6 0
  let tal := w.f.getD 7 0
  let deadline := hd.frame.arrival + tal * 1000000
  let flags := s.dynGet h 56 1
  let dst := diff32 st (s.dynGet h 8 4)
  let dsq := diff32 sq (s.dynGet h 12 4)
  let times := leBytes 4 sq ++ leBytes 4 tal ++ w.ts ++ leBytes 8 hd.frame.arrival ++ leBytes 8 deadline
  let accept := fun (s : State) =>
    let s := ((s.dynSet h 8 4 st).dynSet h 12 4 sq).dynSet h 56 1 (nsetBit (nsetBit (s.dynGet h 56 1) 0 true) 1 false)
    s.setIngStream h { s.ingStream h with deadline := deadline }
  if !flags.testBit 0 ∨ flags.testBit 1 ∨ dst ≠ 0 then
    let image := leBytes 4 st ++ times ++ leBytes 1 (2 * b2n sim + 4 * b2n unauth) ++ leBytes 1 w.elems.length
      ++ leBytes 6 0 ++ leBytes 4 (w.f.getD 2 0) ++ leBytes 12 0
      ++ w.elems.flatMap (fun x => leBytes 1 x.1 ++ leBytes 1 x.2.1 ++ fitBytes 14 x.2.2)
    let s := (accept s).engineWrite .ing (e.base + 4) (fitBytes (60 + 16 * e.channels) image)
    ((s.bumpImage h e).bump cntING_GOOSE_CHANGES 1).gooseFlags b e
  else if 0 < dsq then
    ((accept s).engineWrite .ing (e.base + 8) times).bumpImage h e
  else s.dynInc h 24 1

/-- Domain time passes a stream's DEADLINE: STALE, the count and the subscribers' flags (R163). -/
def opTalExpired (h : Nat) (s : State) : State :=
  let e := s.stream s.ingActive h
  let flags := s.dynGet h 56 1
  if e.type = 2 ∧ flags.testBit 0 ∧ !flags.testBit 1 ∧ (s.ingStream h).deadline < s.dom then
    let img := ((s.engineRead .ing (e.base + 40) 1).1.getD [0])
    let s := (s.dynSet h 56 1 (nsetBit flags 1 true)).dynInc h 52 1
    let s := s.engineWrite .ing (e.base + 40) (leBytes 1 (nsetBit (byteAt img 0) 0 true))
    (s.bumpImage h e).gooseFlags s.ingActive e
  else s

def execTalExpired (t handle : Nat) (s : State) : Host.Outcome State Fault Refusal :=
  s.runAt t (opTalExpired handle)

/-! ### A frame (R131) -/

/-- The category of an smpSynch (R37): 2 global, 1 local, 0 none. -/
def synchCategory (v : Nat) : Nat := if v = 2 ∨ (5 ≤ v ∧ v ≤ 254) then 2 else if v = 1 then 1 else 0

/-- A stencil fault counted and reported at most once per second per slot (R135). -/
def State.stencilFault (s : State) (w : Walk) : State :=
  (s.bump cntING_STENCIL_FAULT 1).postLimited (almRoute 0x0303 0) 0x0303 w.slot
    (p2 w.slot ++ p2 w.pc ++ p2 (w.hit.elim 0x3FFF (·.1)))

/-- The samples of an accepted SV frame taken in order; the handles and indices written as real. -/
def State.takeSamples (s : State) (h : Nat) (e : StreamEnt) (hd : IngHdr) (extra : Nat) :
    List WalkSample → State × List (Nat × Nat)
  | [] => (s, [])
  | x :: rest =>
    let r := streamRate s.fs e.rate
    let n := placeIndex r x.cnt hd.frame.arrival
    let chans := x.chans.map (fun c => (c.1, c.2 % 65536 + extra))
    let (w, s) := s.takeSample h e { idx := n, smpcnt := x.cnt, synch := x.synch % 256, real := true, loc := false,
                                     instant := sampleInstant r n, chans } false
    let (s, l) := State.takeSamples s h e hd extra rest
    (s, if w then (h, n) :: l else l)

/-- Stages 6 to 8 of a decoded frame (R37, R131, R152 to R154).
DESIGN CHOICE, log entry 27. -/
def State.applyFrame (s : State) (h : Nat) (e : StreamEnt) (hd : IngHdr) (w : Walk) (b : Nat) (unauth : Bool) :
    State × List (Nat × Nat) :=
  let sim := w.f.getD 8 0 != 0
  if sim && !e.policy.testBit 5 then (s.dropFrame h 7 48, [])
  else if hd.goose then
    if w.f.getD 9 0 ≠ 0 then (s.dropFrame h 8 44, []) else (s.takeGoose h e hd w b sim unauth, [])
  else
    let bad := synchCategory (w.f.getD 3 0 % 256) ≠ s.synchAt hd.frame.arrival
    let pol := e.policy % 4
    if bad ∧ 2 ≤ pol then (s.dropFrame h 6 40, [])
    else if w.samples.any (fun x => streamRate s.fs e.rate ≤ x.cnt) then (s.dropFrame h 1 44, [])
    else
      let mism := b2n (bad && pol == 1)
      let extra := 65536 * mism + 2 ^ 18 * b2n unauth + 2 ^ 19 * b2n sim
      let s := s.dynSet h 56 1 (nsetBit (s.dynGet h 56 1) 0 true)
      s.takeSamples h e hd extra w.samples

/-- The walk of a frame's two stencils, looked up in a bank. -/
def State.walkFrame (s : State) (hd : IngHdr) (b : Nat) : WalkEnd :=
  let ctx : WalkCtx := {
    apdu := hd.apdu, goose := hd.goose,
    code := fun m i => (s.rdW (ING_STENCIL_POOL m i)).toNat
    find := fun key =>
      (s.streamLookup b { da := beAt hd.frame.bytes 0 6, appid := hd.appid, vid := hd.vid, hash := key }).map
        (fun h => (h, s.stream b h)) }
  let budget := max 64 (s.rd ING_WALK ING_WALK_BUDGET)
  let slot := s.rd ING_KEY_STENCIL (if hd.goose then ING_KEY_STENCIL_GOOSE else ING_KEY_STENCIL_SV)
  let f := (List.replicate 16 0).set 8 (b2n (hd.sim && !hd.goose))
  walkRun ctx budget (130 * (budget + 1)) { slot, fin := hd.apdu.length, f }

/-- A frame that reached its stream: counted, authenticated, then the outcome of its stencil (R131, R135, R150). -/
def State.streamFrame (s : State) (h : Nat) (e : StreamEnt) (hd : IngHdr) (b : Nat) (o : WalkEnd) : State × List (Nat × Nat) :=
  let s := (s.dynInc h 16 1).dynSet h 0 8 hd.frame.arrival
  let (reason, unauth, s) := s.authenticate h e hd
  if reason ≠ 0 then
    let s := (s.dropFrame h reason 36).bump cntING_AUTH_FAIL 1
    (s.postLimited (almRoute 0x0301 0) 0x0301 h
      (p2 h ++ p1 reason ++ p6 (smac hd.frame.bytes) ++ p1 hd.frame.port), [])
  else match o with
    | .finished w => s.applyFrame h e hd w b unauth
    | .drop r _ => (s.dropFrame h r 44, [])
    | .fault w => ((s.dropFrame h 2 44).stencilFault w, [])
    | .stranger _ => (s, [])

/-- Whether a frame's results are discarded: its lookup began in the bank that is no longer active, and its handle's
INSTANCE changed at the flip (R147). -/
def State.flipDiscards (s : State) (b h : Nat) (e : StreamEnt) : Bool :=
  b != s.ingActive && e.inst != s.dynGet h 58 1

/-- An SV or GOOSE frame from port 28 through the eight stages (R131), its lookup in bank `b`; answers the real entries it
wrote. A key stencil's discard counts where its reason is FORMAT (R169).
DESIGN CHOICE, log entry 27. -/
def State.ingestFrame (s : State) (f : IngFrame) (b : Nat) : State × List (Nat × Nat) :=
  let s := s.bump cntING_FRAMES_IN 1
  if !s.rdB ING_CTRL ING_CTRL_EN then (s, [])
  else match parseIng f with
    | .error c => (s.bump c 1, [])
    | .ok hd =>
      let o := s.walkFrame hd b
      let w := match o with | .finished w => w | .drop _ w => w | .fault w => w | .stranger w => w
      match w.hit with
      | some (h, e) => if s.flipDiscards b h e then (s.bump cntING_FLIP_DISCARD 1, []) else s.streamFrame h e hd b o
      | none => match o with
        | .stranger w => (s.strangerMiss hd w, [])
        | .fault w => (s.stencilFault w, [])
        | .drop 1 _ => (s.bump cntING_FORMAT_DROP 1, [])
        | .drop _ _ => (s, [])
        | .finished _ => (s, [])

/-- A frame of a command, looked up in the active bank, or the oldest that port 28 has delivered, looked up in the bank that
was active then: its bank and the frame (R136, R147).
DESIGN CHOICE, log entry 27. -/
def State.nextIngFrame (s : State) (f : Option IngFrame) : Option (Nat × IngFrame) × State :=
  match f with
  | some x => (some (s.ingActive, x), s)
  | none => (s.fab.inbox.head?, { s with fab := { s.fab with inbox := s.fab.inbox.drop 1 } })

/-! ### Round rows (R159, R160) -/

/-- The KIND 0 subscriptions of a bank: tenant, row position, handle (R144). -/
def State.rowSubs (s : State) (b : Nat) : List (Nat × Nat × Nat) :=
  (s.handles b).flatMap (fun h =>
    let e := s.stream b h
    if e.type = 2 then []
    else (s.subs b e).filterMap (fun v =>
      if v.testBit 31 then none else some (v % 512, v / 512 % 256, h)))

/-- Tenants with round rows. -/
def State.rowTenants (s : State) : List Nat :=
  (s.regs.filterMap (fun c => elemOf (ING_ROW_CFG 0) 512 16 c.1)).filter
    (fun t => s.tenantPresent t && s.rdB (ING_ROW_CFG t) ING_ROW_CFG_EN)

/-- The row of round `k` of tenant `t`, under the subscriptions of bank `b` (R159). -/
def State.writeRow (s : State) (t k b : Nat) (subs : List (Nat × Nat × Nat)) : State :=
  let mine := subs.filter (fun x => x.1 == t)
  let prev := cget (fun _ => (0, 0)) s.ing.rows t
  let (del, flg) := mine.foldl (fun (m : Nat × Nat) x =>
    let (_, pos, h) := x
    let e := s.stream b h
    let idx := s.roundIndices (streamRate s.fs e.rate) k
    let (d, f) :=
      if idx.isEmpty then (prev.1.testBit pos, prev.2.testBit pos)
      else
        let d := idx.all (fun n => s.holdsReal h e n)
        (d, idx.any (fun n => s.holdsReal h e n && (s.ringPos h (n % e.depth)).flagged))
    (nsetBit m.1 pos d, nsetBit m.2 pos f)) (0, 0)
  let base := s.rd (ING_ROW_BASE_LO t) ING_ROW_BASE_LO_BASE * 2048 + 2 ^ 32 * s.rd (ING_ROW_BASE_HI t) ING_ROW_BASE_HI_BASE
  let row := leBytes 4 k ++ leBytes 2 ((mine.map (·.2.1)).eraseDups.length) ++ leBytes 2 (popcount 256 del)
    ++ leBytes 4 (b2n (s.ing.rowFlip.contains t)) ++ leBytes 4 0 ++ leBytes 32 del ++ leBytes 32 flg ++ leBytes 48 0
  let s := s.engineWrite .ing (base + 128 * (k % 16)) row
  { s with ing := { s.ing with rows := cset (fun _ => (0, 0)) s.ing.rows t (del, flg),
                               rowFlip := s.ing.rowFlip.filter (fun u => u != t) } }

/-- The handles whose INSTANCE in the active bank differs from their dynamic entry's are reset (R147): at a flip, after
what step 2 of R48 says of the round that ends. -/
def State.resetChanged (s : State) : State :=
  let dyn : List Nat := s.regs.filterMap (fun c => (elemOf (ING_DYN 0 0) (16384 * 16) 4 c.1).map (· / 16))
  let known := (s.handles 0 ++ s.handles 1 ++ dyn).eraseDups
  known.foldl (fun s h =>
    let inst := (s.stream s.ingActive h).inst
    if s.dynGet h 58 1 = inst then s else s.resetStream h inst) s

/-- Step 2 of R48: round `k`'s positions without a real entry counted and its rows written, under the bank `old` in
which its samples were looked up; after a flip the changed handles reset; then substitutes for round k + 1 under the active
bank (R147, R153, R158, R160). -/
def State.ingStep2 (s : State) (k old : Nat) (flipped : List Nat) : State :=
  let s := (s.handles old).foldl (fun s h =>
    let e := s.stream old h
    if e.type = 2 then s
    else
      let n := ((s.roundIndices (streamRate s.fs e.rate) k).filter (fun n => !s.holdsReal h e n)).length
      if n = 0 then s else s.dynInc h 20 n) s
  let subs := s.rowSubs old
  let s := s.rowTenants.foldl (fun s t => s.writeRow t k old subs) s
  let s := { s with ing := { s.ing with rowFlip := s.ing.rowFlip ++ flipped } }
  let s := if s.ingActive = old then s else s.resetChanged
  (s.handles s.ingActive).foldl (fun s h =>
    let e := s.stream s.ingActive h
    if e.type = 2 ∨ e.subCount = 0 then s
    else s.substitute h e (s.roundIndices (streamRate s.fs e.rate) (k + 1))) s

/-! ### Banks and the flip (R147, R148, R165) -/

/-- The exact ring write load of a bank in bytes per second (R148). -/
def State.bankLoad (s : State) (b : Nat) : Nat :=
  ((s.handles b).map (fun h =>
    let e := s.stream b h
    if e.type = 2 then 0 else streamRate s.fs e.rate * ringStride e.channels)).sum

/-- ING_LOAD follows the banks. -/
def State.loadShow (s : State) : State :=
  let a := s.ingActive
  (s.wr ING_LOAD ING_LOAD_ACTIVE_MBS (satNat 65535 (s.bankLoad a / 1000000))).wr ING_LOAD ING_LOAD_SHADOW_MBS
    (satNat 65535 (s.bankLoad (1 - a) / 1000000))

/-- The handles that ACQ configuration names. -/
def State.acqHandles (s : State) : List Nat :=
  ((s.regs.filterMap (fun c => elemOf (ACQ_GRP_CFG 0) 8 0x40 c.1)).map
    (fun g => s.rd (ACQ_GRP_CFG g) ACQ_GRP_CFG_HANDLE)).filter (fun h => h != 0x3FFF)

/-- Whether a flip is rejected now (R148, R165). -/
def State.flipRejected (s : State) : Bool :=
  let b := 1 - s.ingActive
  let a := s.ingActive
  decide (12000000000 < s.bankLoad b) || s.rdB ING_STAT ING_STAT_COPY_BUSY ||
  (s.handles b).any (fun h => match bankOf (s.stream b h).base 1 with
    | some n => !s.portAServes n .ing
    | none => false) ||
  s.acqHandles.any (fun h => (s.stream b h).type != 3 || (s.stream a h).type != 3 ||
    (s.stream b h).inst != (s.stream a h).inst)

/-- ING_BANK.FLIP written: staged, or rejected with FLIP_REJ and event 0x0305 (R147, R148). -/
def opIngFlip (s : State) : State :=
  if s.ing.flip.isSome then s
  else if s.flipRejected then (s.wrB ING_STAT ING_STAT_FLIP_REJ true).post 0x0305 []
  else
    let x : Staged Nat := s.stage (1 - s.ingActive)
    ({ s with ing := { s.ing with flip := some x } }).wrB ING_STAT ING_STAT_FLIP_PENDING true

def execIngFlip (t : Nat) (s : State) : Host.Outcome State Fault Refusal := s.runAt t opIngFlip

/-- ING_BANK.CANCEL written: it withdraws a pending flip before the cut-off of R47 (R148). -/
def opIngCancel (s : State) : State :=
  match s.ing.flip with
  | none => s
  | some x =>
    if s.gridOn ∧ x.eff ≤ s.tim.nextRound ∧ s.nextT ≤ s.dom + 1000 then s
    else ({ s with ing := { s.ing with flip := none } }).wrB ING_STAT ING_STAT_FLIP_PENDING false

def execIngCancel (t : Nat) (s : State) : Host.Outcome State Fault Refusal := s.runAt t opIngCancel

/-- ING_BANK.COPY written: ignored while a flip is pending or a copy runs (R148, R168). -/
def opIngCopy (s : State) : State :=
  if s.ing.flip.isSome ∨ s.rdB ING_STAT ING_STAT_COPY_BUSY then s else s.wrB ING_STAT ING_STAT_COPY_BUSY true

def execIngCopy (t : Nat) (s : State) : Host.Outcome State Fault Refusal := s.runAt t opIngCopy

/-- The copy ends: the shadow bank holds what the active bank holds (R148). -/
def opBankCopyComplete (s : State) : State :=
  if s.rdB ING_STAT ING_STAT_COPY_BUSY then
    let a := s.ingActive
    let src := s.regs.filter (fun c => ingBankOf c.1 == some a)
    let s := { s with regs := cerase (fun k => ingBankOf k == some (1 - a)) s.regs }
    let s := src.foldl (fun s c => s.wrW (if a = 0 then c.1 + 0x400000 else c.1 - 0x400000) c.2) s
    (s.wrB ING_STAT ING_STAT_COPY_BUSY false).loadShow
  else s

def execBankCopyComplete (t : Nat) (s : State) : Host.Outcome State Fault Refusal :=
  s.runAt t opBankCopyComplete

/-- Tenants whose KIND 0 subscriptions differ between the banks (R159). -/
def State.subsChanged (s : State) : List Nat :=
  let a := s.rowSubs 0
  let b := s.rowSubs 1
  ((a.filter (fun x => !b.contains x)) ++ (b.filter (fun x => !a.contains x))).map (·.1) |>.eraseDups

/-- A flip takes effect at the boundary of round `k` (R147): banks and event 0x0304; the instances follow in step 2. Answers
the tenants whose subscriptions changed.
DESIGN CHOICE, log entry 27. -/
def State.flipNow (s : State) (k : Nat) : List Nat × State :=
  let changed := s.subsChanged
  let b := 1 - s.ingActive
  let s := (s.wr ING_STAT ING_STAT_ACTIVE b).wrB ING_STAT ING_STAT_FLIP_PENDING false
  let s := { s with ing := { s.ing with flip := none } }
  let s := (s.wr ING_FLIP_ROUND ING_FLIP_ROUND_ROUND (round32 k)).loadShow
  (changed, s.post 0x0304 (p4 (round32 k) ++ p1 b))

/-- Step 1 of R48: a due flip. -/
def State.ingStep1 (s : State) (k : Nat) : List Nat × State :=
  match s.ing.flip with
  | some x => if x.due k then s.flipNow k else ([], s)
  | none => ([], s)

end Sys2Proof.Machine
end

