-- ==== Sys2Proof/Machine/Acq.lean ====
section
/-! DEFINITION. Local acquisition (R170 to R193): MCLK, filter chains, presets, synchronising resets, groups and the trip
lane. The outputs that a trip source reaches follow in the commands' meanings. -/

namespace Sys2Proof.Machine

/-- ACQ_STAT.CFG_REJ is set. -/
def State.acqRej (s : State) : State := s.wrB ACQ_STAT ACQ_STAT_CFG_REJ true

/-! ### MCLK (R170, R171) and presets (R180, R181) -/

/-- Ball MCLKk carries the clock; otherwise it is held low (R170). -/
def State.mclkDriven (s : State) (k : Nat) : Bool := s.mclkRuns && (s.rd ACQ_CTRL ACQ_CTRL_MCLK_OE).testBit k

/-- The first edge at least one MCLK period after now, or after MCLK's first edge (R186). -/
def State.edgeAfter (s : State) : Nat :=
  max (s.edgeNow + (if s.dom % 1000000000 * s.mclk % 1000000000 = 0 then 1 else 2)) (s.acq.first + 1)

/-- CIC order, R, RATE byte of a preset (R180, R181). -/
def State.preset (s : State) (p : Nat) : Nat × Nat × Nat :=
  let q := if s.rd TIM_GRID TIM_GRID_FS_SEL = 2 then 4 else 1
  if p = 0 then (3, 128 / q, 0x0F) else if p = 1 then (4, 512 / q, 0x03) else if p = 2 then (5, 2048 / q, 0x00)
  else (4, 8192 / q, 0x30)

/-- Twice the group delay G in MCLK periods (R180). -/
def delay2 (n r : Nat) : Nat := n * (r - 1) + 14 * r

/-- The preset of a group: order and R. -/
def State.groupPreset (s : State) (g : Nat) : Nat × Nat :=
  let (n, r, _) := s.preset (s.rd (ACQ_GRP_CFG g) ACQ_GRP_CFG_PRESET)
  (n, r)

/-- MIN_D in µs (R183). -/
def State.minD (s : State) (g : Nat) : Nat :=
  let (n, r) := s.groupPreset g
  let f := s.mclk
  ((delay2 n r / 2 + (s.mclkPer - 2 * r)) * 1000000 + f + f - 1) / f

/-! ### Channels and groups (R174) -/

def State.acqChan (s : State) (c : Nat) : AcqChan := cget (fun _ => {}) s.acq.chans c
def State.setAcqChan (s : State) (c : Nat) (x : AcqChan) : State :=
  { s with acq := { s.acq with chans := cset (fun _ => {}) s.acq.chans c x } }

def State.groupOn (s : State) (g : Nat) : Bool := s.rdB (ACQ_GRP_CFG g) ACQ_GRP_CFG_EN

/-- The channels of a group, lowest first. -/
def State.groupChans (s : State) (g : Nat) : List Nat :=
  (List.range 32).filter (fun c => (s.rd (ACQ_GRP_MASK g) ACQ_GRP_MASK_MASK).testBit c)

/-- The enabled group a channel belongs to. -/
def State.groupOf (s : State) (c : Nat) : Option Nat :=
  (List.range 8).find? (fun g => s.groupOn g && (s.rd (ACQ_GRP_MASK g) ACQ_GRP_MASK_MASK).testBit c)

def State.chanOn (s : State) (c : Nat) : Bool := s.rdB (ACQ_CH_CFG c) ACQ_CH_CFG_EN
def State.stuck (s : State) (c : Nat) : Bool := s.rdB (ACQ_CH_STAT c) ACQ_CH_STAT_STUCK

/-- The group's RESET_PENDING follows its channels (R186). -/
def State.groupPending (s : State) (g : Nat) : State :=
  s.wrB (ACQ_GRP_STAT g) ACQ_GRP_STAT_RESET_PENDING
    (s.groupOn g && (s.groupChans g).any (fun c => s.rdB (ACQ_CH_STAT c) ACQ_CH_STAT_RESET_PENDING))

/-- A reset pending, or withdrawn. -/
def State.setReset (s : State) (c : Nat) (at_ : Option Nat) : State :=
  let s := s.setAcqChan c { s.acqChan c with resetAt := at_ }
  let s := s.wrB (ACQ_CH_STAT c) ACQ_CH_STAT_RESET_PENDING at_.isSome
  match s.groupOf c with | some g => s.groupPending g | none => s

/-- The first edge at or after `e` that is congruent to `ph` modulo `m`. -/
def nextEdge (e ph m : Nat) : Nat := e + (ph + m - e % m) % m

/-- A synchronising reset requested (R185 to R187): merged with a pending one; the channel goes on from the input it has.
None while MCLK is not set to run, since its start resets every enabled channel. -/
def State.requestReset (s : State) (c : Nat) : State :=
  if !s.mclkSet || (s.acqChan c).resetAt.isSome || !s.chanOn c then s
  else
    let e := match s.groupOf c with
      | some g =>
        let (n, r) := s.groupPreset g
        nextEdge s.edgeAfter (delay2 n r / 2 % (2 * r)) (2 * r)
      | none => nextEdge s.edgeAfter 0 8
    let s := s.setAcqChan c { s.acqChan c with src := s.rd (ACQ_CH_CFG c) ACQ_CH_CFG_SRC }
    s.setReset c (some e)

/-- The input a channel captures from (R172, R186). -/
def State.activeSrc (s : State) (c : Nat) : Nat :=
  if (s.acqChan c).resetAt.isSome then (s.acqChan c).src else s.rd (ACQ_CH_CFG c) ACQ_CH_CFG_SRC

/-- BEHIND of a group, with event 0x0402 at most once per second (R183). -/
def State.noteBehind (s : State) (g : Nat) : State :=
  let md := s.minD g
  let d := s.rd TIM_ADMIT TIM_ADMIT_CURRENT
  let b := s.groupOn g && decide (d < md)
  let s := (s.wrB (ACQ_GRP_STAT g) ACQ_GRP_STAT_BEHIND b).wr ACQ_STAT ACQ_STAT_BEHIND
    (nsetBit (s.rd ACQ_STAT ACQ_STAT_BEHIND) g b)
  if b then s.postLimited (almRoute 0x0402 0) 0x0402 g (p2 g ++ p4 md ++ p4 d) else s

/-- MIN_D and BEHIND of every group follow the grid, the presets and the effective D (R183). -/
def State.acqFollow (s : State) : State :=
  if !s.acqPresent then s
  else (List.range 8).foldl (fun (s : State) g => (s.wr (ACQ_GRP_STAT g) ACQ_GRP_STAT_MIN_D (s.minD g)).noteBehind g) s

/-- MCLK follows ACQ_CTRL.EN and GRID_EN (R170): it starts at the next base sample instant, where every enabled channel is
reset (R185); at its stop pending resets go, and no entries are written.
DESIGN CHOICE, log entry 29. -/
def State.mclkFollow (s : State) : State :=
  let run := s.acqPresent && s.rdB ACQ_CTRL ACQ_CTRL_EN && s.gridOn
  if run = s.mclkSet then s
  else
    let s := s.wrB ACQ_STAT ACQ_STAT_MCLK_RUN run
    if run then
      let i := sampleAt s.fs s.dom
      let i := if sampleInstant s.fs i = s.dom then i else i + 1
      let s : State := { s with acq := { s.acq with first := i * s.mclkPer } }
      ((List.range 32).filter s.chanOn).foldl (fun s c => s.requestReset c) s
    else
      let s := (List.range 32).foldl (fun (s : State) c => s.setReset c none) s
      (List.range 8).foldl (fun (s : State) g => s.wrB (ACQ_GRP_STAT g) ACQ_GRP_STAT_RUNNING false) s

/-! ### Trip lane (R188 to R190) -/

def State.tripActive (s : State) (c : Nat) : Bool := s.rdB (ACQ_TRIP_STAT c) ACQ_TRIP_STAT_ACTIVE

/-- A count field of ACQ_TRIP_CFG: 1 to 16. -/
def laneCount (n : Nat) : Nat := if n = 0 then 1 else min n 16

/-- The run count of a channel's trip lane. -/
def State.setRun (s : State) (c n : Nat) : State := s.wr (ACQ_TRIP_STAT c) ACQ_TRIP_STAT_RUN n

/-- A source de-asserted. -/
def State.laneOff (s : State) (c : Nat) : State :=
  (s.wrB (ACQ_TRIP_STAT c) ACQ_TRIP_STAT_ACTIVE false).wrB (ACQ_TRIP_STAT c) ACQ_TRIP_STAT_LATCHED false

/-- LATCHED shows a source that LATCH holds (R190, R192). -/
def State.showLatched (s : State) (c : Nat) : State :=
  s.wrB (ACQ_TRIP_STAT c) ACQ_TRIP_STAT_LATCHED (s.tripActive c && s.rdB (ACQ_TRIP_CFG c) ACQ_TRIP_CFG_LATCH)

/-- Whether a fast output qualifies (R188). -/
def laneQualifies (mode thresh : Nat) (f : Int) : Bool :=
  if mode = 0 then decide ((thresh : Int) < f) || decide (f < -(thresh : Int))
  else if mode = 1 then decide ((thresh : Int) < f) else decide (f < -(thresh : Int))

/-- The trip lane takes a fast output (R188, R190).
DESIGN CHOICE, log entry 29. -/
def State.tripLane (s : State) (c : Nat) (f : Int) (valid : Bool) : State :=
  let cfg := ACQ_TRIP_CFG c
  if !s.rdB cfg ACQ_TRIP_CFG_EN then s
  else if !valid then s.setRun c 0
  else if laneQualifies (s.rd cfg ACQ_TRIP_CFG_MODE) (s.rd cfg ACQ_TRIP_CFG_THRESH) f then
    let s := s.setAcqChan c { s.acqChan c with release := 0 }
    let n := min 31 (s.rd (ACQ_TRIP_STAT c) ACQ_TRIP_STAT_RUN + 1)
    let s := s.setRun c n
    if n = laneCount (s.rd cfg ACQ_TRIP_CFG_K) then
      let s := s.wrB (ACQ_TRIP_STAT c) ACQ_TRIP_STAT_ACTIVE true
      let s := s.showLatched c
      let s := s.wr64 (ACQ_TRIP_TIME_LO c) (ACQ_TRIP_TIME_HI c) s.dom
      (s.bump (cntACQ_CH_TRIP_ASSERTS c) 1).post 0x0403 (p1 c ++ pInt 1 f ++ p8 s.dom)
    else s
  else
    let s := s.setRun c 0
    let r := (s.acqChan c).release + 1
    let s := s.setAcqChan c { s.acqChan c with release := r }
    if s.tripActive c && !s.rdB cfg ACQ_TRIP_CFG_LATCH
        && decide (laneCount (s.rd cfg ACQ_TRIP_CFG_RELEASE) ≤ r) then s.laneOff c
    else s

/-- ACQ_TRIP_CFG written (R188, R190). -/
def State.tripCfgWrite (s : State) (c : Nat) (v : Word) : State :=
  let w := fieldsOf [ACQ_TRIP_CFG_RELEASE, ACQ_TRIP_CFG_K, ACQ_TRIP_CFG_THRESH, ACQ_TRIP_CFG_LATCH, ACQ_TRIP_CFG_MODE,
    ACQ_TRIP_CFG_EN] v
  if !s.acqPresent || decide (32 ≤ c) then s
  else if fget ACQ_TRIP_CFG_MODE w = 3 then s.acqRej
  else
    let s := (s.wrW (ACQ_TRIP_CFG c) w).setRun c 0
    if fget ACQ_TRIP_CFG_EN w = 0 then s.laneOff c else s.showLatched c

/-- ACQ_TRIP_STAT.LATCHED written with 1 (R190). -/
def State.latchRelease (s : State) (c : Nat) : State :=
  if s.rdB (ACQ_TRIP_STAT c) ACQ_TRIP_STAT_LATCHED then s.laneOff c else s

/-! ### The chains (R176, R177, R184) -/

/-- One bit through the CIC integrators, each stage taking the sum of the stage before it. -/
def integrate : List Nat → Nat → List Nat
  | [], _ => []
  | a :: r, x => let v := (a + x) % 2 ^ 72; v :: integrate r v

/-- The comb stages: output and new delays. -/
def combs : List Nat → Nat → Nat × List Nat
  | [], x => (x, [])
  | a :: r, x => let (y, l) := combs r ((x + 2 ^ 72 - a) % 2 ^ 72); (y, x :: l)

/-- The fast output: the last 15 bits weighted 1, 2, …, 8, …, 2, 1 (R184). -/
def fastValue (recent : List Bool) : Int :=
  ((List.range 15).map (fun (i : Nat) =>
    let w : Int := if i < 8 then (i : Int) + 1 else 15 - (i : Int)
    match recent[i]? with | some true => w | some false => -w | none => 0)).sum

/-- Eight bits through a channel's chains; `order` and `r` of its group's preset, order 0 without a group. -/
def AcqChan.take (x : AcqChan) (order r : Nat) (bits : List Bool) : AcqChan :=
  bits.foldl (fun (x : AcqChan) b =>
    let x := { x with recent := (b :: x.recent).take 15, bits := x.bits + 1 }
    if order = 0 then x
    else
      let integ := if x.integ.length = order then x.integ else List.replicate order 0
      let comb := if x.comb.length = order then x.comb else List.replicate order 0
      let integ := integrate integ (if b then 1 else 2 ^ 72 - 1)
      if x.bits % r = 0 then
        let (y, comb) := combs comb (integ.getLastD 0)
        { x with integ := integ, comb := comb, window := (toSigned 72 y :: x.window).take 15 }
      else { x with integ := integ, comb := comb }) x

/-- The run of equal bits goes on by one bit (R173). -/
def AcqChan.watch (x : AcqChan) (b : Bool) : AcqChan :=
  let n := if x.equal = 0 ∨ x.last ≠ b then 1 else min 64 (x.equal + 1)
  { x with last := b, equal := n, hit := x.hit || (n == 64 && x.equal != 64) }

/-- The eight bits a channel captures from its input, on the edge that EDGE selects (R172): the levels of DSD0 to DSD31 at
the eight rising and the eight falling edges. -/
def State.captured (s : State) (c : Nat) (rise fall : List (BitVec 32)) : List Bool :=
  let l := if s.rdB (ACQ_CH_CFG c) ACQ_CH_CFG_EDGE then fall else rise
  (List.range 8).map (fun i => (l.getD i 0).getLsbD (s.activeSrc c))

/-- Every 8 MCLK periods: the bits go through the chains, and the fast output through the trip lane (R172, R184, R188).
DESIGN CHOICE, log entry 29. -/
def State.fastOutput (s : State) (c : Nat) (rise fall : List (BitVec 32)) : State :=
  if !(s.acqPresent && decide (c < 32) && s.chanOn c && s.mclkRuns) then s
  else
    let inv := s.rdB (ACQ_CH_CFG c) ACQ_CH_CFG_INV
    let raw := s.captured c rise fall
    let bl := raw.map (fun b => b != inv)
    let (n, r) := match s.groupOf c with | some g => s.groupPreset g | none => (0, 1)
    let x := raw.foldl AcqChan.watch (s.acqChan c)
    let x := x.take n r bl
    let x := { x with fasts := x.fasts + 1 }
    let s := s.setAcqChan c x
    let f := fastValue x.recent
    let valid := decide (2 ≤ x.fasts) && !s.stuck c && x.equal != 64
    let s := (s.wr (ACQ_CH_STAT c) ACQ_CH_STAT_FAST (ofSigned 8 f)).wrB (ACQ_CH_STAT c) ACQ_CH_STAT_FAST_VALID valid
    s.tripLane c f valid

/-- `a / b` rounded to nearest, ties to even; `b` is positive. -/
def divHalfEven (a : Int) (b : Nat) : Int :=
  let q := a / (b : Int)
  let r := a - q * (b : Int)
  let d := 2 * r - (b : Int)
  if d < 0 then q else if 0 < d then q + 1 else if q % 2 = 0 then q else q + 1

/-- v × SCALE rounded to nearest, ties to even, with v in units of 2^−31; none where SCALE is a NaN or an infinity, for
which the spec states no result. -/
def scaleValue (v31 : Int) (scale : Nat) : Option Int :=
  let e : Nat := scale / 2 ^ 23 % 256
  let m : Nat := scale % 2 ^ 23
  if e = 255 then none
  else
    let mant : Int := if e = 0 then (m : Int) else (m : Int) + 8388608
    let mant := if scale.testBit 31 then -mant else mant
    -- value = v31 · mant · 2 ^ (exp − 150 − 31), exp at least 1
    let x : Nat := max e 1
    let p := v31 * mant
    some (if 181 ≤ x then p * ((2 ^ (x - 181) : Nat) : Int) else divHalfEven p (2 ^ (181 - x)))

/-- A channel's value and quality for a fine output, and whether it saturated (R177, R178). -/
def State.fineValue (s : State) (g c : Nat) : Nat × Nat × Bool × State :=
  let (n, r) := s.groupPreset g
  let x := s.acqChan c
  let test := if s.rdB (ACQ_GRP_CFG g) ACQ_GRP_CFG_TEST then 2048 else 0
  let h : Nat → Int := fun i =>
    let k : Nat := if i ≤ 7 then i else 14 - i
    let w := s.rdW (ACQ_GRP_FIRA g (k / 2))
    toSigned 16 (if k % 2 = 0 then fget ACQ_GRP_FIRA_H_EVEN w else fget ACQ_GRP_FIRA_H_ODD w)
  let sum := ((List.range 15).map (fun i => h i * (x.window.getD i 0))).sum
  let v := divHalfEven (sum * (2 ^ 31 : Nat)) (32768 * r ^ n)
  let v1 := clampInt (-(2 ^ 31 : Nat)) ((2 ^ 31 - 1 : Nat) : Int) v
  let off := toSigned 32 (s.rdW (ACQ_CH_OFFSET c)).toNat
  let lim := fun (x : Int) => clampInt (-(2 ^ 31 : Nat)) ((2 ^ 31 - 1 : Nat) : Int) x
  let left := s.rd (ACQ_CH_STAT c) ACQ_CH_STAT_INVALID_LEFT
  let (z, sats, s) : Nat × Bool × State := match scaleValue v1 (s.rdW (ACQ_CH_SCALE c)).toNat with
    | none => let (d, s) := s.draw; (d.toNat % 2 ^ 32, false, s)
    | some y => (ofSigned 32 (lim (y + off)), decide (lim (y + off) ≠ y + off), s)
  let sat := decide (v ≠ v1) || sats
  if s.stuck c then (z, test + 0x41, sat, s)
  else if left ≠ 0 then (0, test + 1, sat, s)
  else (z, test + (if sat then 7 else 0), sat, s)

/-- The values of a group's channels in order, with their counts of R193. -/
def State.fineValues (s : State) (g : Nat) : List Nat → List (Nat × Nat) × State
  | [] => ([], s)
  | c :: rest =>
    let left := s.rd (ACQ_CH_STAT c) ACQ_CH_STAT_INVALID_LEFT
    let (v, q, sat, s) := s.fineValue g c
    let s := if left ≠ 0 then
        (s.wr (ACQ_CH_STAT c) ACQ_CH_STAT_INVALID_LEFT (left - 1)).bump (cntACQ_GRP_INVALID g) 1 else s
    let s := if sat then s.bump (cntACQ_GRP_SATURATED g) 1 else s
    let (l, s) := State.fineValues s g rest
    ((v, q) :: l, s)

/-- A group takes its shadow coefficients (R179). -/
def State.takeCoeffs (s : State) (g : Nat) : State :=
  let s := (List.range 4).foldl (fun s i => s.wrW (ACQ_GRP_FIRA g i) (s.rdW (ACQ_GRP_FIR g i))) s
  let s := { s with acq := { s.acq with commits := s.acq.commits.filter (fun x => x.1 != g) } }
  s.wrB (ACQ_GRP_STAT g) ACQ_GRP_STAT_COMMIT_PENDING false

/-- Whether a group's fine output is due: MCLK is at an edge of its phase for which none has been emitted (R182). -/
def State.fineDue (s : State) (g : Nat) : Bool :=
  let (n, r) := s.groupPreset g
  s.groupOn g && s.mclkRuns && s.rdB (ACQ_GRP_STAT g) ACQ_GRP_STAT_RUNNING
    && s.edgeNow % (2 * r) == delay2 n r / 2 % (2 * r) && cget (fun _ => 0) s.acq.lastOut g != s.edgeNow + 1

/-- The fine outputs of a group up to this edge are done. -/
def State.fineDone (s : State) (g : Nat) : State :=
  { s with acq := { s.acq with lastOut := cset (fun _ => 0) s.acq.lastOut g (s.edgeNow + 1) } }

/-- A fine output of a group: the entry of its local stream (R164, R179, R182, R183). Answers the entries written.
DESIGN CHOICE, log entry 29. -/
def State.fineOutput (s : State) (g : Nat) : State × List (Nat × Nat) :=
  if !(s.acqPresent && decide (g < 8) && s.fineDue g) then (s, [])
  else
    let (n, r) := s.groupPreset g
    let s := s.fineDone g
    let s := match s.acq.commits.find? (fun x => x.1 == g) with
      | some (_, at_) => if at_ ≤ s.dom then s.takeCoeffs g else s
      | none => s
    let e := s.edgeNow
    let f := s.mclk
    let g2 := delay2 n r
    let idx := (e - g2 / 2) / (2 * r)
    let rate := f / (2 * r)
    let inst := (((2 * (e % f) : Nat) : Int) - (g2 : Int)) * 1000000000 / ((2 * f : Nat) : Int)
      + ((e / f * 1000000000 : Nat) : Int) - (s.rd (ACQ_GRP_EXTDLY g) ACQ_GRP_EXTDLY_NS : Int)
    let (chans, s) := s.fineValues g (s.groupChans g)
    let h := s.rd (ACQ_GRP_CFG g) ACQ_GRP_CFG_HANDLE
    let ent := s.stream s.ingActive h
    let late := s.dispatched (s.roundOf (sampleInstant rate idx))
    let (w, s) := s.takeSample h ent { idx, smpcnt := idx % rate, synch := s.synch, real := true, loc := true,
                                       instant := inst.toNat, chans } true
    let s := if w then s.bump (cntACQ_GRP_OUTPUTS g) 1 else s
    let s := if w && late then s.bump (cntACQ_GRP_BEHIND g) 1 else s
    (s.noteBehind g, if w then [(h, idx)] else [])

/-! ### Stuck (R173), resets (R186), groups (R175) and switches -/

/-- The channel is stuck, its input having given 64 equal bits (R173). -/
def State.stuckEntry (s : State) (c : Nat) : State :=
  if !(s.acqPresent && decide (c < 32) && s.chanOn c && s.mclkRuns) || s.stuck c || !(s.acqChan c).hit then s
  else
    let s := s.setAcqChan c { s.acqChan c with hit := false }
    let s := (s.wrB (ACQ_CH_STAT c) ACQ_CH_STAT_STUCK true).wrB (ACQ_CH_STAT c) ACQ_CH_STAT_FAST_VALID false
    let s := (s.setRun c 0).bump (cntACQ_CH_STUCK_EVENTS c) 1
    s.post 0x0401 (p1 c ++ p1 (s.activeSrc c) ++ p8 s.dom)

/-- The first change of bit value: stuck ends and a reset is requested (R173, R185). -/
def State.stuckEnd (s : State) (c : Nat) : State :=
  if s.stuck c && (s.acqChan c).equal != 64 then (s.wrB (ACQ_CH_STAT c) ACQ_CH_STAT_STUCK false).requestReset c else s

/-- A channel's chains cleared, its watch for equal bits kept. -/
def AcqChan.cleared (x : AcqChan) : AcqChan := { last := x.last, equal := x.equal, hit := x.hit }

/-- Whether a channel's group still has a fine output to complete at this very edge, from the old state (R186). -/
def State.outputFirst (s : State) (c e : Nat) : Bool :=
  match s.groupOf c with
  | some g => s.edgeNow == e && s.fineDue g
  | none => false

/-- The reset instant (R186, R187).
DESIGN CHOICE, log entry 29. -/
def State.resetInstant (s : State) (c : Nat) : State :=
  match (s.acqChan c).resetAt with
  | none => s
  | some e =>
    if s.edgeNow < e || !s.mclkRuns || s.outputFirst c e then s
    else
      let s := s.setReset c none
      let s := s.setAcqChan c { (s.acqChan c).cleared with release := (s.acqChan c).release }
      let s := (s.wrB (ACQ_CH_STAT c) ACQ_CH_STAT_FAST_VALID false).setRun c 0
      match s.groupOf c with
      | some g =>
        let (n, _) := s.groupPreset g
        let s := s.wr (ACQ_CH_STAT c) ACQ_CH_STAT_INVALID_LEFT (if n = 5 then 9 else 8)
        let s := if s.rdB (ACQ_GRP_STAT g) ACQ_GRP_STAT_RUNNING then s else s.fineDone g
        (s.bump (cntACQ_GRP_RESETS g) 1).wrB (ACQ_GRP_STAT g) ACQ_GRP_STAT_RUNNING true
      | none => s

/-- ACQ_CH_CFG written (R175, R185): a new SRC is a channel switch; clearing EN de-asserts the trip source.
DESIGN CHOICE, log entry 29. -/
def State.channelWrite (s : State) (c : Nat) (v : Word) : State :=
  let w := fieldsOf [ACQ_CH_CFG_SRC, ACQ_CH_CFG_EDGE, ACQ_CH_CFG_INV, ACQ_CH_CFG_EN] v
  if !s.acqPresent || decide (32 ≤ c) then s
  else if fget ACQ_CH_CFG_EN w = 0 ∧ (s.groupOf c).isSome then s.acqRej
  else
    let old := s.rd (ACQ_CH_CFG c) ACQ_CH_CFG_SRC
    let was := s.chanOn c
    if fget ACQ_CH_CFG_EN w = 0 then
      let s := ((s.wrW (ACQ_CH_CFG c) w).setReset c none).laneOff c
      s.setAcqChan c (s.acqChan c).cleared
    else if fget ACQ_CH_CFG_SRC w ≠ old then ((s.wrB (ACQ_CH_CFG c) ACQ_CH_CFG_EN true).requestReset c).wrW (ACQ_CH_CFG c) w
    else
      let s := s.wrW (ACQ_CH_CFG c) w
      if !was && s.mclkSet && !s.mclkRuns then s.requestReset c else s

/-- A group's EN cleared: pending resets are withdrawn, and the shadow set is taken (R179, R187). -/
def State.groupOff (s : State) (g : Nat) : State :=
  let s := (s.groupChans g).foldl (fun s c => s.setReset c none) s
  let s := (s.wrB (ACQ_GRP_CFG g) ACQ_GRP_CFG_EN false).wrB (ACQ_GRP_STAT g) ACQ_GRP_STAT_RUNNING false
  let s := (s.wrB (ACQ_GRP_STAT g) ACQ_GRP_STAT_RESET_PENDING false).noteBehind g
  let s := if s.acq.commits.any (fun x => x.1 == g) then s.takeCoeffs g else s
  s.wr ACQ_STAT ACQ_STAT_RUNNING (nsetBit (s.rd ACQ_STAT ACQ_STAT_RUNNING) g false)

/-- Whether a group may be enabled with its configuration word (R175). -/
def State.groupOk (s : State) (g : Nat) (w : Word) : Bool :=
  let mask := s.rd (ACQ_GRP_MASK g) ACQ_GRP_MASK_MASK
  let cs := s.groupChans g
  let h := fget ACQ_GRP_CFG_HANDLE w
  let a := s.stream 0 h
  let b := s.stream 1 h
  let e := s.stream s.ingActive h
  mask != 0 && cs.all s.chanOn && cs.all (fun c => (s.groupOf c).isNone) && h != 0x3FFF &&
  a.type == 3 && b.type == 3 && a.inst == b.inst && e.channels == cs.length &&
  e.rate == (s.preset (fget ACQ_GRP_CFG_PRESET w)).2.2

/-- ACQ_GRP_CFG written (R175). -/
def State.groupWrite (s : State) (g : Nat) (v : Word) : State :=
  let w := fieldsOf [ACQ_GRP_CFG_HANDLE, ACQ_GRP_CFG_PRESET, ACQ_GRP_CFG_TEST, ACQ_GRP_CFG_EN] v
  if !s.acqPresent || decide (8 ≤ g) then s
  else if s.groupOn g then
    let old := s.rdW (ACQ_GRP_CFG g)
    if fget ACQ_GRP_CFG_HANDLE w ≠ fget ACQ_GRP_CFG_HANDLE old ∨ fget ACQ_GRP_CFG_PRESET w ≠ fget ACQ_GRP_CFG_PRESET old then
      s.acqRej
    else
      let s := s.wrB (ACQ_GRP_CFG g) ACQ_GRP_CFG_TEST (fget ACQ_GRP_CFG_TEST w != 0)
      if fget ACQ_GRP_CFG_EN w = 0 then s.groupOff g else s
  else if fget ACQ_GRP_CFG_EN w = 0 then
    let s := s.wrW (ACQ_GRP_CFG g) w
    s.wr (ACQ_GRP_STAT g) ACQ_GRP_STAT_MIN_D (s.minD g)
  else if !s.groupOk g w then s.acqRej
  else
    let s := s.wrW (ACQ_GRP_CFG g) w
    let s := s.wr (ACQ_GRP_STAT g) ACQ_GRP_STAT_MIN_D (s.minD g)
    let s := s.wr ACQ_STAT ACQ_STAT_RUNNING (nsetBit (s.rd ACQ_STAT ACQ_STAT_RUNNING) g true)
    let s := (s.groupChans g).foldl (fun s c => s.requestReset c) s
    (s.groupPending g).noteBehind g

/-- ACQ_GRP_CTL.SYNC: a reset of every channel of an enabled group (R185). -/
def opAcqSync (g : Nat) (s : State) : State :=
  if decide (g < 8) && s.groupOn g then (s.groupChans g).foldl (fun s c => s.requestReset c) s else s

def execAcqSync (t group : Nat) (s : State) : Host.Outcome State Fault Refusal := s.runAt t (opAcqSync group)

/-- ACQ_GRP_CTL.COMMIT (R179). -/
def opAcqCommit (g : Nat) (s : State) : State :=
  if !s.acqPresent || decide (8 ≤ g) then s
  else if !s.groupOn g then s.takeCoeffs g
  else if (s.acq.commits.any (fun x => x.1 == g)) then s
  else
    let at_ := sampleInstant s.fs (sampleAt s.fs s.dom + 1)
    let s := { s with acq := { s.acq with commits := s.acq.commits ++ [(g, at_)] } }
    s.wrB (ACQ_GRP_STAT g) ACQ_GRP_STAT_COMMIT_PENDING true

def execAcqCommit (t group : Nat) (s : State) : Host.Outcome State Fault Refusal :=
  s.runAt t (opAcqCommit group)

/-- Event of the bit stream: 64 equal bits have come.
DESIGN CHOICE, log entry 29. -/
def opStuckEntry (c : Nat) (s : State) : State := s.stuckEntry c
def execStuckEntry (t ch : Nat) (s : State) : Host.Outcome State Fault Refusal := s.runAt t (opStuckEntry ch)

def opStuckEnd (c : Nat) (s : State) : State := s.stuckEnd c
def execStuckEnd (t ch : Nat) (s : State) : Host.Outcome State Fault Refusal := s.runAt t (opStuckEnd ch)

def opResetInstant (c : Nat) (s : State) : State := s.resetInstant c
def execResetInstant (t ch : Nat) (s : State) : Host.Outcome State Fault Refusal :=
  s.runAt t (opResetInstant ch)

/-- ACQ_GRP_CFG.EN written 0 to 1. -/
def opGroupEnable (g : Nat) (v : Word) (s : State) : State := s.groupWrite g v
def execGroupEnable (t group : Nat) (value : Word) (s : State) : Host.Outcome State Fault Refusal :=
  s.runAt t (opGroupEnable group value)

/-- ACQ_TRIP_TIME_LO read (R192). -/
def opAcqTripTimeRead (c : Nat) (s : State) : State :=
  if c < 32 then s.readPair (ACQ_TRIP_TIME_LO c) (ACQ_TRIP_TIME_HI c) else s.answer 0

def execAcqTripTimeRead (t ch : Nat) (s : State) : Host.Outcome State Fault Refusal :=
  s.runAt t (opAcqTripTimeRead ch)

end Sys2Proof.Machine
end

