-- ==== Sys2Proof/Machine/Tenant.lean ====
section
/-! DEFINITION. Tenants (R194 to R229): the tenant map, states, staged shares and limits, message pages, dirty-log
snapshots and migration. What ends a tenant with safe values stands in TenantEnd. -/

namespace Sys2Proof.Machine

/-- TEN_STAT.CFG_REJ is set. -/
def State.tenRej (s : State) : State := s.wrB TEN_STAT TEN_STAT_CFG_REJ true

/-! ### The tenant map (R196) -/

/-- The device address of a tenant-virtual address, when its page is VALID. -/
def State.walk (s : State) (t va : Nat) : Option Nat :=
  let e := s.effEntry t (va / 65536)
  if va < 0x40000000 ∧ e.testBit 0 then some (e / 65536 % 2 ^ 24 * 65536 + va % 65536) else none

/-- The pages of a tenant whose map entries hold something, by the memory's listed bytes. -/
def State.mappedPages (s : State) (t : Nat) : List Nat :=
  (s.mem.filterMap (fun c => elemOf (s.mapBase t) 16384 8 c.1)).filter (fun v => (s.mapEntry t v).testBit 0)

/-- The tenant pages' region (R473), in frames: first and end.
DESIGN CHOICE, log entry 18. -/
def State.pageRegion (s : State) : Nat × Nat :=
  if s.fuses.variant = 0 then (0x109300, 0x160000) else if s.fuses.variant = 1 then (0x109300, 0x130000) else (0x109300, 0x118000)

/-- The frames of the banks that a tenant's home cluster owns for it. -/
def State.bankFrames (s : State) (t : Nat) : List Nat :=
  ((List.range 16).filter (fun n => s.bankState n == 1 && s.rd (MEM_BANK_OWNER n) MEM_BANK_OWNER_KIND == 1
      && s.rd (MEM_BANK_OWNER n) MEM_BANK_OWNER_TENANT == t)).flatMap (fun n => (List.range 32).map (fun i => bankBase n / 65536 + i))

/-- Whether frame `f` is the tenant's own to free: mapped with WRITE, or one of the tenant pages' region or of the tenant's
banks that no other tenant maps (R197, R202).
DESIGN CHOICE, log entry 18. -/
def State.ownFrame (s : State) (t v : Nat) : Bool :=
  let e := s.mapEntry t v
  let f := e / 65536 % 2 ^ 24
  let others := (s.liveTenants.filter (fun u => u != t && s.tenState u != 0)).flatMap (fun u =>
    (s.mappedPages u).map (fun w => s.mapEntry u w / 65536 % 2 ^ 24))
  e.testBit 1 || (((decide (s.pageRegion.1 ≤ f) && decide (f < s.pageRegion.2)) || (s.bankFrames t).contains f) && !others.contains f)

/-- The steward zeroes and frees a tenant's frames (R202): contents and frame table entries. -/
def State.freeFrames (s : State) (t : Nat) : State :=
  let frames := ((s.mappedPages t).filter (s.ownFrame t)).map (fun v => s.mapEntry t v / 65536 % 2 ^ 24)
  let base := s.rd TEN_FRAME_BASE_LO TEN_FRAME_BASE_LO_BASE * 0x1000
    + 2 ^ 32 * s.rd TEN_FRAME_BASE_HI TEN_FRAME_BASE_HI_BASE
  let s := { s with mem := cerase (fun a => frames.contains (a / 65536)) s.mem,
                    ten := { s.ten with oldMap := cerase (fun k => k / 16384 == t) s.ten.oldMap } }
  frames.foldl (fun s f => match frameIndex (f * 65536) with
    | some i => s.setLe (base + 4 * i) 4 0
    | none => s) s

/-! ### Streams that a tenant may take (R195) -/

/-- The keys of a bank that name a handle (R139). -/
def State.keysOf (s : State) (b h : Nat) : List StreamKey :=
  (s.regs.filterMap (fun c => elemOf (ING_KEY_INDEX b 2) 32768 16 c.1)).filterMap (fun i => match s.keyEntry b i with
    | some (k, h') => if h' = h then some k else none
    | none => none)

/-- The handles whose subscriptions in a bank take in pool word `i` (R142, R144). -/
def State.subHandles (s : State) (b i : Nat) : List Nat :=
  (s.handles b).filter (fun h => decide ((s.stream b h).subFirst ≤ i) && decide (i < (s.stream b h).subFirst + (s.stream b h).subCount))

/-- Whether a tenant is entitled to the stream of a handle in a bank: its image lists the stream's key, or the local group
(R195), or it holds a subscription to the handle in the active bank, which only an entitled tenant has.
DESIGN CHOICE, log entry 47. -/
def State.entitledIn (s : State) (b t h : Nat) : Bool :=
  (s.keysOf b h).any (fun k => s.ten.entitled.contains (t, k)) || s.ten.entitledLocal.contains (t, h)
    || (s.subs s.ingActive (s.stream s.ingActive h)).any (fun v => if v.testBit 31 then s.ownsTask t (v % 8192) else v % 512 == t)

/-- A tenant's list of streams dropped, when it leaves the module. -/
def State.dropEntitled (s : State) (t : Nat) : State :=
  { s with ten := { s.ten with entitled := s.ten.entitled.filter (fun x => x.1 != t),
                               entitledLocal := s.ten.entitledLocal.filter (fun x => x.1 != t) } }

/-- The streams that an image's written records list for a tenant (R195, R517): the key of each key index entry, and the
streams of each subscription, with the local groups by handle.
DESIGN CHOICE, log entry 47. -/
def State.noteEntitled (s : State) (t : Nat) (addrs : List Nat) : State :=
  let direct := addrs.filterMap (fun a => match ingBankOf a with
    | some b =>
      let o := (a - 0x03400000) % 0x400000
      if o < 0x80000 then (s.keyEntry b (o / 16)).map (·.1) else none
    | none => none)
  let locals := addrs.filterMap (fun a => match ingBankOf a with
    | some b =>
      let o := (a - 0x03400000) % 0x400000
      let h := (o - 0x100000) / 64
      if 0x100000 ≤ o ∧ o < 0x200000 ∧ (s.stream b h).type = 3 then some h else none
    | none => none)
  let pooled := addrs.flatMap (fun a => match ingBankOf a with
    | some b =>
      let o := (a - 0x03400000) % 0x400000
      if 0x200000 ≤ o then (s.subHandles b ((o - 0x200000) / 4)).map (fun h => (b, h)) else []
    | none => [])
  let keys := (direct ++ pooled.flatMap (fun x => s.keysOf x.1 x.2)).eraseDups
  let loc := (locals ++ (pooled.filter (fun x => (s.stream x.1 x.2).type == 3)).map (·.2)).eraseDups
  { s with ten := { s.ten with entitled := s.ten.entitled ++ keys.map (fun k => (t, k)),
                               entitledLocal := s.ten.entitledLocal ++ loc.map (fun h => (t, h)) } }

/-- Whether a subscription word may stand for a stream of a bank (R144, R195): one of the other kind is ignored, a row needs
an entitled tenant, an event flag a task descriptor of an entitled tenant. -/
def State.subOk (s : State) (b h v : Nat) : Bool :=
  let goose := (s.stream b h).type == 2
  if v.testBit 31 then !goose || (match s.taskOwner (v % 8192) with
    | some t => s.entitledIn b t h
    | none => false)
  else goose || s.entitledIn b (v % 512) h

/-- Whether every subscription that writes to the addresses concern passes (R195): those in written pool words, and those
of written static entries. -/
def State.subsOk (s : State) (addrs : List Nat) : Bool :=
  addrs.all (fun a => match ingBankOf a with
    | none => true
    | some b =>
      let o := (a - 0x03400000) % 0x400000
      if 0x200000 ≤ o then
        (s.subHandles b ((o - 0x200000) / 4)).all (fun h => s.subOk b h (s.rdW a).toNat)
      else if 0x100000 ≤ o then
        let h := (o - 0x100000) / 64
        (s.stream b h).type == 0 || (s.subs b (s.stream b h)).all (fun v => s.subOk b h v)
      else true)

/-! ### States (R202, R229) -/

/-- A tenant's state changes, with event 0x0F01. -/
def State.setTenState (s : State) (t new cause : Nat) : State :=
  let old := s.tenState t
  (s.wr (TEN_STATE t) TEN_STATE_STATE new).postTenant 0x0F01 t (p2 t ++ p1 old ++ p1 new ++ p1 cause)

/-- A bit of TEN_STATE. -/
def State.tenBit (s : State) (t : Nat) (f : Fld) : Bool := s.rdB (TEN_STATE t) f

def State.mig (s : State) (t : Nat) : TenMig := cget (fun _ => {}) s.ten.mig t
def State.setMig (s : State) (t : Nat) (m : TenMig) : State :=
  { s with ten := { s.ten with mig := cset (fun _ => {}) s.ten.mig t m } }

/-- Event 0x0F03; phases 1 start, 2 stop, 3 commit, 4 abort, 5 LATE_COMMIT.
DESIGN CHOICE, log entry 13. -/
def State.migEvent (s : State) (t phase round : Nat) : State :=
  s.post 0x0F03 (p2 t ++ p4 (s.mig t).peer ++ p1 phase ++ p4 round)

/-- The pending bit of a staged event. -/
def pendingFld (op : Nat) : Fld :=
  if op = 2 then TEN_STATE_START_PENDING else if op = 7 then TEN_STATE_STOP_PENDING else TEN_STATE_RESUME_PENDING

/-- An event of a tenant staged for a boundary; a later one of the same kind replaces it (R47, R50). -/
def State.stageEventAt (s : State) (t op eff : Nat) : State :=
  let ev := s.ten.events.filter (fun e => !(e.1 == t && e.2.val == op))
  let x : Staged Nat := { val := op, eff := eff }
  ({ s with ten := { s.ten with events := ev ++ [(t, x)] } }).wrB (TEN_STATE t) (pendingFld op) true

def State.stageEvent (s : State) (t op : Nat) : State := s.stageEventAt t op s.stageAt

/-- A tenant's staged events withdrawn. -/
def State.dropEvents (s : State) (t : Nat) : State :=
  let s := { s with ten := { s.ten with events := s.ten.events.filter (fun e => e.1 != t) } }
  ((s.wrB (TEN_STATE t) TEN_STATE_START_PENDING false).wrB (TEN_STATE t) TEN_STATE_STOP_PENDING false).wrB
    (TEN_STATE t) TEN_STATE_RESUME_PENDING false

/-! ### Shares and limits (R206 to R208) -/

/-- TEN_CLUSTER_SHARE of a cluster follows the tenants of that home. -/
def State.clusterShares (s : State) (c : Nat) : State :=
  let ts := (s.regs.filterMap (fun x => elemOf (TEN_SHARE 0) 512 0x100 x.1)).filter
    (fun t => s.rd (TEN_CFG t) TEN_CFG_HOME == c)
  (s.wr (TEN_CLUSTER_SHARE c) TEN_CLUSTER_SHARE_STAGED ((ts.map (fun t => s.rd (TEN_SHARE t) TEN_SHARE_STAGED)).sum)).wr
    (TEN_CLUSTER_SHARE c) TEN_CLUSTER_SHARE_CURRENT ((ts.map (fun t => s.rd (TEN_SHARE t) TEN_SHARE_CURRENT)).sum)

/-- The staged shares of a cluster with tenant `t`'s replaced by `v`. -/
def State.stagedSum (s : State) (t v : Nat) : Nat :=
  let c := s.rd (TEN_CFG t) TEN_CFG_HOME
  let ts := (s.regs.filterMap (fun x => elemOf (TEN_SHARE 0) 512 0x100 x.1)).filter
    (fun u => u != t && s.rd (TEN_CFG u) TEN_CFG_HOME == c)
  v + (ts.map (fun u => s.rd (TEN_SHARE u) TEN_SHARE_STAGED)).sum

/-- A share staged: its status, OK, BUSY or NO_RESOURCE (R206, R207). -/
def State.stageShare (s : State) (t v : Nat) : Nat × State :=
  if s.tenState t = 5 then (0x0302, s)
  else if 1024 < v ∨ 1024 < s.stagedSum t v then (0x0303, s)
  else
    let s := s.wr (TEN_SHARE t) TEN_SHARE_STAGED v
    let s := { s with ten := { s.ten with
      shares := s.ten.shares.filter (fun (e : Nat × Staged Nat) => e.1 != t) ++ [(t, s.stage v)] } }
    (0, s.clusterShares (s.rd (TEN_CFG t) TEN_CFG_HOME))

/-- The limits staged (R206 to R208). -/
def State.stageLimits (s : State) (t : Nat) (w : Word) : Nat × State :=
  if s.tenState t = 5 then (0x0302, s)
  else
    let w := fieldsOf [TEN_LIMIT_PUBQ, TEN_LIMIT_ITEMS] w
    let s := s.wrW (TEN_LIMIT t) w
    (0, { s with ten := { s.ten with limits := s.ten.limits.filter (fun (e : Nat × Staged Word) => e.1 != t) ++ [(t, s.stage w)] } })

/-- The staged share and limits of a tenant in force. -/
def State.takeShare (s : State) (t : Nat) : State :=
  let s := s.wr (TEN_SHARE t) TEN_SHARE_CURRENT (s.rd (TEN_SHARE t) TEN_SHARE_STAGED)
  let s := { s with ten := { s.ten with shares := s.ten.shares.filter (fun e => e.1 != t) } }
  (s.clusterShares (s.rd (TEN_CFG t) TEN_CFG_HOME)).noteBudget t

def State.takeLimits (s : State) (t : Nat) : State :=
  let w := s.rdW (TEN_LIMIT t)
  let s := (s.wr (TEN_LIMIT_CUR t) TEN_LIMIT_CUR_PUBQ (fget TEN_LIMIT_PUBQ w)).wr (TEN_LIMIT_CUR t) TEN_LIMIT_CUR_ITEMS
    (fget TEN_LIMIT_ITEMS w)
  { s with ten := { s.ten with limits := s.ten.limits.filter (fun e => e.1 != t) } }

/-- Whether a tenant's staged share or limits wait for its next START (R207). -/
def State.heldForStart (s : State) (t : Nat) : Bool :=
  s.tenState t == 1 || s.tenState t == 3 || s.tenState t == 4 || s.tenState t == 0

/-- START or RESUME takes effect: the tenant runs (R202, R207). -/
def State.startTenant (s : State) (t op : Nat) : State :=
  let s := (s.wrB (TEN_STATE t) (pendingFld op) false).wrB (TEN_STATE t) TEN_STATE_STOPPED false
  let s := s.wrB (TEN_STATE t) TEN_STATE_DIR false
  let duplex := match s.dpx.takeOver with | some (_, l) => l.contains t | none => false
  let s := s.setTenState t 2 (if op ≠ 2 then 7 else if duplex then 8 else 2)
  if op = 2 then (s.takeShare t).takeLimits t else s

/-- Step 3 of R48: staged STARTs and RESUMEs, then shares and limits. Reports whether anything took effect. -/
def State.tenStep3 (s : State) (k : Nat) : Bool × State :=
  let due := s.ten.events.filter (fun e => e.2.due k && e.2.val != 7)
  let s := { s with ten := { s.ten with events := s.ten.events.filter (fun e => !(e.2.due k && e.2.val != 7)) } }
  let s := due.foldl (fun s e => s.startTenant e.1 e.2.val) s
  let sh := s.ten.shares.filter (fun e => e.2.due k && !s.heldForStart e.1)
  let li := s.ten.limits.filter (fun e => e.2.due k && !s.heldForStart e.1)
  let s := sh.foldl (fun s e => s.takeShare e.1) s
  let s := li.foldl (fun s e => s.takeLimits e.1) s
  (!due.isEmpty || !sh.isEmpty || !li.isEmpty, s)

/-! ### Page dirty log snapshot (R215) -/

/-- The page log copied to its buffer and cleared, as one step. -/
def State.plogSnap (s : State) (t : Nat) : State :=
  let dest := s.rd (TEN_PLOG_DEST_LO t) TEN_PLOG_DEST_LO_ADDR / 64 * 64
    + 2 ^ 32 * s.rd (TEN_PLOG_DEST_HI t) TEN_PLOG_DEST_HI_ADDR
  let mine := fun k => k / 16384 == t
  let set := ((s.ten.plog.filter (fun c => mine c.1)).map (fun c => c.1 % 16384))
  let bytes := set.foldl (fun (l : List Byte) v =>
    l.set (v / 8) ((l.getD (v / 8) 0) ||| BitVec.ofNat 8 (2 ^ (v % 8)))) (List.replicate 2048 (0 : Byte))
  let s := { s with ten := { s.ten with plog := cerase mine s.ten.plog } }
  s.devWrite dest bytes

/-! ### Disabling (R203, R209) -/

/-- The ring a tenant's slot reaches: bound, and owned by the tenant (R201). -/
def State.slotRing (s : State) (t slot : Nat) : Option Nat :=
  let r := s.rd (TEN_RING_SLOT t slot) TEN_RING_SLOT_RING
  let own := if slot < 8 then s.rdW (PRT_RXR_OWNER r) else s.rdW (PRT_TXR_OWNER r)
  if slot < 16 ∧ s.rdB (TEN_RING_SLOT t slot) TEN_RING_SLOT_VALID ∧ fget PRT_RXR_OWNER_STEWARD own = 0
      ∧ fget PRT_RXR_OWNER_TENANT own = t then some r else none

/-- The tenant's receive and transmit ring slots are disabled (R209 step 1): the rings they reach. -/
def State.disableRings (s : State) (t : Nat) : State :=
  (List.range 16).foldl (fun s i => match s.slotRing t i with
    | some r =>
      if i < 8 then opRxRingDisable r (fset PRT_RXR_CFG_EN (s.rdW (PRT_RXR_CFG r)) 0) s
      else opTxRingDisable r (fset PRT_TXR_CFG_EN (s.rdW (PRT_TXR_CFG r)) 0) s
    | none => s) s

/-- DISABLE takes effect at Q: QUIESCING, rings disabled, queued items removed, the cut-off C fixed (R209 steps 1, 2). -/
def State.quiesce (s : State) (t cause : Nat) : State :=
  let s := s.setTenState t 3 cause
  let s := s.disableRings t
  let c := if s.gridOn then max s.now (s.ownOf (s.nextT - 5000)) else s.now
  let s := { s with ten := { s.ten with cutoffs := s.ten.cutoffs ++ [(t, c)] } }
  s.removeItems (fun i => i.tenant == t) 0x0501

/-- A migration out ends for a DISABLE: the destination is told, and event 0x0F03 with phase abort is written (R202). -/
def State.abortMigration (s : State) (t : Nat) : State :=
  (((s.dropEvents t).setMig t { s.mig t with aborted := true }).send (.migAbort t)).migEvent t 4 (round32 s.roundNow)

/-- DISABLE in the states in which it needs no safe values at once; none where the table of R202 lists no such event, or
where the tenant is stopped for migration. -/
def State.disableRunning (s : State) (t cause : Nat) : Option State :=
  let st := s.tenState t
  if (st = 1 ∨ st = 4) ∧ s.tenBit t TEN_STATE_START_PENDING then some ((s.dropEvents t).setTenState t 4 cause)
  else if st = 3 then some s
  else if st = 2 then some ((s.dropEvents t).quiesce t cause)
  else if st = 5 ∧ !s.tenBit t TEN_STATE_DIR ∧ !s.tenBit t TEN_STATE_STOPPED then some ((s.abortMigration t).quiesce t cause)
  else none

/-- Event 0x0F02 and the FAULTS counter (R228, R229). -/
def State.tenFaultEvent (s : State) (t cause va core : Nat) : State :=
  (s.bump (cntTEN_FAULTS t) 1).postLimited t 0x0F02 t (p2 t ++ p1 cause ++ p4 va ++ p1 core)

/-- A tenant fault: the item in service ends with ITEM_FAULTED, and the tenant is disabled under FAULT_POLICY = 1
(R26, R202, R244). -/
def opTenantFault (core cause va : Nat) (s : State) : State :=
  match s.coreTenant core with
  | none => s
  | some t =>
    let s := (s.tenFaultEvent t cause va core).endRun core 0x0512 0
    if s.rdB (TEN_CFG t) TEN_CFG_FAULT_POLICY then (s.disableRunning t 4).getD s else s

def execTenantFault (t core cause va : Nat) (s : State) : Host.Outcome State Fault Refusal :=
  s.runAt t (opTenantFault core cause va)

/-! ### Tenant commands (R202, R225) -/

/-- A TEN_CMD write: ignored for an absent tenant and while a command is in progress; the body answers RESULT. -/
def State.tenCmd (s : State) (t : Nat) (body : State → Nat × State) : State :=
  if !s.tenantPresent t || s.rdB (TEN_CMD t) TEN_CMD_BUSY then s
  else
    let (r, s) := body s
    s.wr (TEN_CMD t) TEN_CMD_RESULT r

/-- The counters of a tenant cleared (R202, R228). -/
def State.clearTenCounters (s : State) (t : Nat) : State :=
  { s with cnt := cerase (fun a => cntTEN_FAULTS t ≤ a && a ≤ cntTEN_DISABLES t) s.cnt }

/-- ACTIVATE: EMPTY to LOADED (R202).
DESIGN CHOICE, log entry 32. -/
def opTenActivate (t : Nat) (s : State) : State :=
  s.tenCmd t fun s =>
    if s.tenState t = 0 then (0, (s.clearTenCounters t).setTenState t 1 1) else (1, s)

def execTenActivate (t tenant : Nat) (s : State) : Host.Outcome State Fault Refusal :=
  s.runAt t (opTenActivate tenant)

/-- START: staged from LOADED or DISABLED (R202). -/
def opTenStart (t : Nat) (s : State) : State :=
  s.tenCmd t fun s =>
    if s.tenState t = 1 ∨ s.tenState t = 4 then (0, s.stageEvent t 2) else (1, s)

def execTenStart (t tenant : Nat) (s : State) : Host.Outcome State Fault Refusal := s.runAt t (opTenStart tenant)

/-- MIGRATE: the page dirty log is cleared and enabled, and the tenant runs on as MIGRATING, DIR = 0 (R202). -/
def opTenMigrate (t : Nat) (s : State) : State :=
  s.tenCmd t fun s =>
    if s.tenState t = 2 then
      let s := { s with ten := { s.ten with plog := cerase (fun k => k / 16384 == t) s.ten.plog } }
      let s := s.wrB (TEN_CFG t) TEN_CFG_PLOG_EN true
      let s := (s.wrB (TEN_STATE t) TEN_STATE_DIR false).wrB (TEN_STATE t) TEN_STATE_STOPPED false
      let s := s.setMig t { peer := (s.mig t).peer }
      (0, (s.setTenState t 5 7).migEvent t 1 (round32 s.roundNow))
    else (1, s)

def execTenMigrate (t tenant : Nat) (s : State) : Host.Outcome State Fault Refusal :=
  s.runAt t (opTenMigrate tenant)

/-- RECEIVE: EMPTY to MIGRATING, DIR = 1 (R202). -/
def opTenReceive (t : Nat) (s : State) : State :=
  s.tenCmd t fun s =>
    if s.tenState t = 0 then
      let s := (s.wrB (TEN_STATE t) TEN_STATE_DIR true).wrB (TEN_STATE t) TEN_STATE_STOPPED false
      let s := s.setMig t { peer := (s.mig t).peer }
      (0, (s.setTenState t 5 7).migEvent t 1 (round32 s.roundNow))
    else (1, s)

def execTenReceive (t tenant : Nat) (s : State) : Host.Outcome State Fault Refusal :=
  s.runAt t (opTenReceive tenant)

/-- STOP_AT_BOUNDARY: staged (R202, R222). -/
def opTenStopAtBoundary (t : Nat) (s : State) : State :=
  s.tenCmd t fun s =>
    if s.tenState t = 5 ∧ !s.tenBit t TEN_STATE_DIR ∧ !s.tenBit t TEN_STATE_STOPPED then (0, s.stageEvent t 7) else (1, s)

def execTenStopAtBoundary (t tenant : Nat) (s : State) : Host.Outcome State Fault Refusal :=
  s.runAt t (opTenStopAtBoundary tenant)

/-- The source aborts a migration: the destination is told, a staged stop is withdrawn, and RESUME is staged (R202, R223). -/
def State.abortResume (s : State) (t : Nat) : State :=
  let s := { s with ten := { s.ten with events := s.ten.events.filter (fun e => !(e.1 == t && e.2.val == 7)) } }
  let s := (s.setMig t { s.mig t with aborted := true }).send (.migAbort t)
  ((s.wrB (TEN_STATE t) TEN_STATE_STOP_PENDING false).migEvent t 4 (round32 s.roundNow)).stageEvent t 8

/-- RESUME: staged; from DIR = 0 it is the abort of a migration, which no commit may precede (R202, R223). -/
def opTenResume (t : Nat) (s : State) : State :=
  s.tenCmd t fun s =>
    if s.tenState t = 5 then
      if s.tenBit t TEN_STATE_DIR then (0, s.stageEvent t 8)
      else if (s.mig t).commitSent.isSome then (1, s)
      else (0, s.abortResume t)
    else (1, s)

def execTenResume (t tenant : Nat) (s : State) : Host.Outcome State Fault Refusal :=
  s.runAt t (opTenResume tenant)

/-- A command that takes time: BUSY until TENANT_COMMAND_COMPLETE (R199, R215, R225). -/
def State.tenBusy (s : State) (t op : Nat) : State :=
  let s := { s with ten := { s.ten with busy := s.ten.busy.filter (fun (e : Nat × Nat) => e.1 != t) ++ [(t, op)] } }
  s.wrB (TEN_CMD t) TEN_CMD_BUSY true

/-- MAP_INVAL of a page or of all pages: in progress until every translation cache has dropped the entry (R199).
DESIGN CHOICE, log entry 33. -/
def opTenMapInval (t : Nat) (all : Bool) (page : Nat) (s : State) : State :=
  s.tenCmd t fun s =>
    (0, ((s.wrB (TEN_CMD t) TEN_CMD_ALL all).wr (TEN_CMD t) TEN_CMD_PAGE page).tenBusy t 10)

def execTenMapInval (t tenant : Nat) (all : Bool) (page : Nat) (s : State) : Host.Outcome State Fault Refusal :=
  s.runAt t (opTenMapInval tenant all page)

/-- The map of a page, or of all pages, in force as memory holds it (R199). -/
def State.mapTakes (s : State) (t : Nat) (all : Bool) (page : Nat) : State :=
  { s with ten := { s.ten with oldMap := cerase (fun k => k / 16384 == t && (all || k % 16384 == page)) s.ten.oldMap } }

/-- The entries of tenant maps that a write of `n` bytes at `a`, from `s0` to `s`, changes otherwise than by an addition: tenant,
page and the entry as it stood (R199). -/
def State.mapChanges (s0 s : State) (a n : Nat) : List (Nat × Nat × Nat) :=
  let hit := fun (t : Nat) => s0.tenState t != 0 && decide (a < s0.mapBase t + 0x20000) && decide (s0.mapBase t < a + n)
  (s0.liveTenants.filter hit).flatMap (fun t =>
    let m := s0.mapBase t
    let lo := (max a m - m) / 8
    let hi := (min (a + n) (m + 0x20000) - m + 7) / 8
    ((List.range (hi - lo)).map (· + lo)).filterMap (fun v =>
      let e := s0.mapEntry t v
      if e.testBit 0 && s.mapEntry t v != e then some (t, v, e) else none))

/-- A write of the steward's, from `s0` to `s`, with what it does to tenant maps: a change other than an addition is refused with
BUSY while the tenant is MIGRATING, and else waits for MAP_INVAL (R199).
DESIGN CHOICE, log entry 33. -/
def State.mapWritten (s0 s : State) (a n : Nat) : State :=
  let ch := State.mapChanges s0 s a n
  if ch.any (fun c => s0.tenState c.1 == 5) then { s0 with bus := { data := 0x0302, err := true } }
  else ch.foldl (fun (s : State) c =>
    let k := c.1 * 16384 + c.2.1
    if cget (fun _ => 0) s.ten.oldMap k = 0 then
      { s with ten := { s.ten with oldMap := cset (fun _ => 0) s.ten.oldMap k c.2.2 } } else s) s

/-- A command in progress ends: BUSY clears and RESULT is 0; MAP_INVAL has taken effect (R199, R215). -/
def opTenantCommandComplete (t : Nat) (s : State) : State :=
  let s := if s.ten.busy.contains (t, 10) then
      s.mapTakes t (s.rdB (TEN_CMD t) TEN_CMD_ALL) (s.rd (TEN_CMD t) TEN_CMD_PAGE) else s
  let s := { s with ten := { s.ten with busy := s.ten.busy.filter (fun e => e.1 != t) } }
  if s.rdB (TEN_CMD t) TEN_CMD_BUSY then (s.wrB (TEN_CMD t) TEN_CMD_BUSY false).wr (TEN_CMD t) TEN_CMD_RESULT 0 else s

def execTenantCommandComplete (t tenant : Nat) (s : State) : Host.Outcome State Fault Refusal :=
  s.runAt t (opTenantCommandComplete tenant)

/-! ### Message pages (R210 to R213) -/

/-- A page's header: both indices, the rest zero (R210, R211). -/
def State.copyIndices (s : State) (t p : Nat) : State :=
  match s.walk t (s.rd (TEN_MSG_VA t) TEN_MSG_VA_PAGE * 65536 + p * 0x4000) with
  | some a => s.devWrite a (leBytes 4 (s.rdW (TEN_MSG_PROD t p)).toNat ++ leBytes 4 (s.rdW (TEN_MSG_CONS t p)).toNat
      ++ List.replicate 56 0)
  | none => s

/-- The difference of two indices modulo 2^32. -/
def idxDiff (a b : Nat) : Nat := (a + 2 ^ 32 - b % 2 ^ 32) % 2 ^ 32

/-- The producer side of R211: the status of a new PROD. -/
def prodStatus (new prod cons : Nat) : Nat :=
  if 255 < idxDiff new cons then 0x0502 else if idxDiff new prod ≤ 255 then 0 else 0x0503

/-- The consumer side of R211: the status of a new CONS. -/
def consStatus (new prod cons : Nat) : Nat := if idxDiff new cons ≤ idxDiff prod cons then 0 else 0x0503

/-- TW_MSG_DB p written (R211). -/
def opTwMsgDb (core p : Nat) (v : Word) (s : State) : State :=
  match s.coreTenant core with
  | none => s
  | some t =>
    if 4 ≤ p then s
    else
      let prod := (s.rdW (TEN_MSG_PROD t p)).toNat
      let cons := (s.rdW (TEN_MSG_CONS t p)).toNat
      let st := if p < 2 then prodStatus v.toNat prod cons else consStatus v.toNat prod cons
      let s := if st = 0 then
          ((if p < 2 then s.wrW (TEN_MSG_PROD t p) v else s.wrW (TEN_MSG_CONS t p) v).copyIndices t p).bump
            (cntTEN_DOORBELLS t) 1
        else if st = 0x0502 then s.bump (cntTEN_RING_FULL t) 1 else s
      let s := if p < 2 ∧ st ≠ 0x0503 ∧ !s.ten.notified.contains t then
          { s with ten := { s.ten with notified := s.ten.notified ++ [t] } } else s
      let used := idxDiff (s.rdW (TEN_MSG_PROD t p)).toNat (s.rdW (TEN_MSG_CONS t p)).toNat
      { s with ten := { s.ten with msgStat := cset (fun _ => 0) s.ten.msgStat (t * 4 + p) (st + used * 65536) } }

def execTwMsgDb (t core page : Nat) (value : Word) (s : State) : Host.Outcome State Fault Refusal :=
  s.runAt t (opTwMsgDb core page value)

/-- The steward advances outbound CONS or inbound PROD; an advance of inbound PROD sets the tenant's flag (R211, R225). -/
def opTenMsgIndexWrite (t p : Nat) (v : Word) (s : State) : State :=
  if !s.tenantPresent t ∨ 4 ≤ p then s
  else
    let prod := (s.rdW (TEN_MSG_PROD t p)).toNat
    let cons := (s.rdW (TEN_MSG_CONS t p)).toNat
    if p < 2 then
      if consStatus v.toNat prod cons = 0 then
        let s := (s.wrW (TEN_MSG_CONS t p) v).copyIndices t p
        if (List.range 2).all (fun q => s.rdW (TEN_MSG_PROD t q) == s.rdW (TEN_MSG_CONS t q)) then
          { s with ten := { s.ten with notified := s.ten.notified.filter (fun u => u != t) } } else s
      else s.tenRej
    else if prodStatus v.toNat prod cons = 0 then
      let s := (s.wrW (TEN_MSG_PROD t p) v).copyIndices t p
      if v.toNat = prod then s
      else s.setFlags (s.rd (TEN_MSGCFG t) TEN_MSGCFG_TASK) (2 ^ s.rd (TEN_MSGCFG t) TEN_MSGCFG_BIT)
    else s.tenRej

def execTenMsgIndexWrite (t tenant page : Nat) (value : Word) (s : State) : Host.Outcome State Fault Refusal :=
  s.runAt t (opTenMsgIndexWrite tenant page value)

/-- The first inbound page of a tenant that has room. -/
def State.inboundPage (s : State) (t : Nat) : Option Nat :=
  [2, 3].find? (fun p => decide (idxDiff (s.rdW (TEN_MSG_PROD t p)).toNat (s.rdW (TEN_MSG_CONS t p)).toNat < 255))

def State.inboundRoom (s : State) (t : Nat) : Bool := (s.inboundPage t).isSome

/-- A message placed in a tenant's first inbound page that has room (R210, R211, R213); false where neither has. -/
def State.inbound (s : State) (t type tag : Nat) (payload : List Byte) : Bool × State :=
  match s.inboundPage t with
  | none => (false, s)
  | some p =>
    let prod := (s.rdW (TEN_MSG_PROD t p)).toNat
    let va := s.rd (TEN_MSG_VA t) TEN_MSG_VA_PAGE * 65536 + p * 0x4000 + 64 + 64 * (prod % 255)
    let b := p2 type ++ p2 payload.length ++ p4 tag ++ fitBytes 56 payload
    let s := match s.walk t va with | some a => s.devWrite a b | none => s
    (true, opTenMsgIndexWrite t p (BitVec.ofNat 32 (prod + 1)) s)

/-- A NOTICE for a tenant (R498): 1 migration complete, 2 global tenant address changed, 3 key handle remapped.
DESIGN CHOICE, log entry 51. -/
def State.tenNotice (s : State) (t code detail : Nat) : State := (s.inbound t 0x4002 0 (p2 code ++ p2 0 ++ p4 detail)).2

/-- A tenant writes TAIL of a ring slot (R201). -/
def opTwRingTail (core slot index : Nat) (s : State) : State :=
  match s.coreTenant core with
  | none => s
  | some t => match s.slotRing t slot with
    | none => s
    | some r => if slot < 8 then opRxTailWrite r index s else opTxTailWrite r index s

def execTwRingTail (t core slot index : Nat) (s : State) : Host.Outcome State Fault Refusal :=
  s.runAt t (opTwRingTail core slot index)

/-- TW_NOW_LO read: 64 bits of domain time captured, for the core (R200). -/
def opTwNowRead (core : Nat) (s : State) : State :=
  match s.coreTenant core with
  | none => s
  | some _ => (s.setCap (0x40000014 + core * 2 ^ 32) (BitVec.ofNat 32 (s.dom / 2 ^ 32))).answer (s.dom % 2 ^ 32)

def execTwNowRead (t core : Nat) (s : State) : Host.Outcome State Fault Refusal := s.runAt t (opTwNowRead core)

/-! ### Migration (R222, R223) -/

/-- Step 7 of R48 for one tenant: items in service are cut off, queued items stay for transfer, and outputs hold; the final
snapshot and the transfer follow in Migrate (R222, R229). -/
def State.stopTenant (s : State) (t k : Nat) : State :=
  let s := (s.sch.runs.filter (fun r => r.item.tenant == t)).foldl (fun s r => s.endRun r.core 0x0507 0) s
  let s := ((s.wrB (TEN_STATE t) TEN_STATE_STOP_PENDING false).wrB (TEN_STATE t) TEN_STATE_STOPPED true).setTenState t 5 7
  let dl := dispatchInstant s.fs s.roundLen s.tim.nextD (k + 4) - 50000
  let s := s.setMig t { s.mig t with stopRound := some k, deadline := dl }
  s.migEvent t 2 (round32 k)

/-- Step 7 of R48: the staged stops (R222). -/
def State.tenStep7 (s : State) (k : Nat) : Bool × State :=
  let due := s.ten.events.filter (fun e => e.2.due k && e.2.val == 7)
  let s := { s with ten := { s.ten with events := s.ten.events.filter (fun e => !(e.2.due k && e.2.val == 7)) } }
  (!due.isEmpty, due.foldl (fun s e => s.stopTenant e.1 k) s)

end Sys2Proof.Machine
end

