-- ==== Sys2Proof/Machine/Publish.lean ====
section
/-! DEFINITION. The publish engine (R334 to R344): slots, publish queues, GOOSE and SV frames. -/

namespace Sys2Proof.Machine

/-- OUT_STAT.CFG_REJ is set. -/
def State.outRej (s : State) : State := s.wrB OUT_STAT OUT_STAT_CFG_REJ true

/-! ### Reading a sample ring (R157) -/

/-- The bytes of the entry of index `n` of a handle's ring under the sequence rule, or none where it is not available: an
entry written before the handle's INSTANCE changed counts as none (R147). -/
def State.ringEntry (s : State) (h : Nat) (e : StreamEnt) (n : Nat) : Option (List Byte) :=
  let len := ringStride e.channels
  let a := e.entryAddr n
  if !s.inDram a len || s.anyBad a len || !(s.ringPos h (n % e.depth)).used then none
  else
    let b := s.bytes a len
    if leAt b 0 4 = n % 2 ^ 32 ∧ !(byteAt b 7).testBit 7 then some b else none

/-- Value and quality of a channel of a ring entry (R155). -/
def entryChan (b : List Byte) (c : Nat) : Nat × Nat := (leAt b (16 + 8 * c) 4, leAt b (20 + 8 * c) 4)

/-! ### BER -/

/-- A length in its shortest definite form. -/
def berLen (n : Nat) : List Byte :=
  if n < 128 then leBytes 1 n
  else if n < 256 then leBytes 1 0x81 ++ beBytes 1 n
  else if n < 65536 then leBytes 1 0x82 ++ beBytes 2 n
  else leBytes 1 0x83 ++ beBytes 3 n

/-- A TLV of a one-byte tag. -/
def berTlv (tag : Nat) (v : List Byte) : List Byte := leBytes 1 tag ++ berLen v.length ++ v

/-- A two's complement number of 32 bits in the fewest bytes.
DESIGN CHOICE, log entry 37. -/
def berInt (i : Int) : List Byte :=
  let n := if -128 ≤ i ∧ i < 128 then 1 else if -32768 ≤ i ∧ i < 32768 then 2
    else if -8388608 ≤ i ∧ i < 8388608 then 3 else if -2147483648 ≤ i ∧ i < 2147483648 then 4 else 5
  beBytes n (ofSigned (8 * n) i)

/-- A bit-string of the low `n` bits of `v`, bit 0 first, with its count of unused bits. -/
def berBits (v n : Nat) : List Byte :=
  let bytes := (n + 7) / 8
  leBytes 1 (8 * bytes - n) ++ (List.range bytes).map (fun i =>
    BitVec.ofNat 8 (((List.range 8).map (fun j =>
      if 8 * i + j < n ∧ v.testBit (8 * i + j) then 2 ^ (7 - j) else 0)).sum))

/-- The tag, value offset and length of the TLV at the start of a list; the tag may have several bytes. -/
def berHead (b : List Byte) : Option (List Byte × Nat × Nat) :=
  match b with
  | [] => none
  | t :: r =>
    let more := if t.toNat % 32 = 31 then (r.takeWhile (fun x => x.toNat.testBit 7)).length + 1 else 0
    let tag := b.take (1 + more)
    let rest := b.drop (1 + more)
    let l := byteAt rest 0
    if rest.isEmpty then none
    else if l < 128 then some (tag, tag.length + 1, l)
    else
      let k := l - 128
      if k = 0 ∨ 3 < k ∨ rest.length < k + 1 then none
      else some (tag, tag.length + 1 + k, beNat ((rest.drop 1).take k))

/-! ### Publishers (R338) -/

/-- A publisher record. -/
structure PubRec where
  type : Nat
  svc : Bool
  sim : Bool
  reserved : Bool
  noAsdu : Nat
  source : Nat
  da : List Byte
  vlan : Nat
  appid : Nat
  tplOff : Nat
  tplLen : Nat
  mapOff : Nat
  mapLen : Nat
  t1 : Nat
  t0 : Nat
  repeats : Nat
  tal : Nat
  key : Nat
  keyid : Nat
  alg : Nat
  deriving DecidableEq, Repr

/-- A record by its bytes; `reserved` when a bit that R338 states as zero is set. -/
def parsePub (b : List Byte) : PubRec :=
  { type := byteAt b 0 % 4, svc := (byteAt b 0).testBit 2, sim := (byteAt b 0).testBit 3
    reserved := decide (16 ≤ byteAt b 0) || leAt b 22 2 != 0 || leAt b 41 3 != 0 || leAt b 60 4 != 0
      || leAt b 34 2 / 4096 % 8 != 0
    noAsdu := byteAt b 1, source := leAt b 2 2, da := slice b 4 6, vlan := leAt b 10 2, appid := leAt b 12 2
    tplOff := 16 * leAt b 14 2, tplLen := leAt b 16 2, mapOff := leAt b 18 2, mapLen := leAt b 20 2
    t1 := leAt b 24 4, t0 := leAt b 28 4, repeats := byteAt b 32, tal := byteAt b 33, key := leAt b 34 2
    keyid := leAt b 36 4, alg := byteAt b 40 }

def State.pubRec (s : State) (p : Nat) : PubRec := parsePub (s.regBytes (OUT_PUBLISHER p 0) 64)

def State.pubDyn (s : State) (p : Nat) : Option OutPub := cget (fun _ => none) s.out.pubs p
def State.setPub (s : State) (p : Nat) (x : Option OutPub) : State :=
  { s with out := { s.out with pubs := cset (fun _ => none) s.out.pubs p x } }

/-- Publishers that are not off, lowest first. -/
def State.livePubs (s : State) : List Nat := ckeys s.out.pubs

def State.stNum (s : State) (p : Nat) : Nat := (s.rdW (OUT_PUBLISHER p 11)).toNat
def State.sqNum (s : State) (p : Nat) : Nat := (s.rdW (OUT_PUBLISHER p 12)).toNat
def State.setNums (s : State) (p st sq : Nat) : State :=
  (s.wrW (OUT_PUBLISHER p 11) (BitVec.ofNat 32 st)).wrW (OUT_PUBLISHER p 12) (BitVec.ofNat 32 sq)

/-- A number that wraps from 2^32 − 1 to 1 (R341). -/
def nextNum (n : Nat) : Nat := if 2 ^ 32 ≤ n + 1 then 1 else n + 1

/-- The owner of a slot (R337). -/
def State.slotOwner (s : State) (slot : Nat) : Option Nat :=
  if s.rdB (OUT_PUB_OWNER slot) OUT_PUB_OWNER_VALID then some (s.rd (OUT_PUB_OWNER slot) OUT_PUB_OWNER_TENANT) else none

/-- The tenant entitled to a local stream: the first with a row subscription to it (R195). -/
def State.streamTenant (s : State) (h : Nat) : Option Nat :=
  ((s.subs s.ingActive (s.stream s.ingActive h)).find? (fun v => !v.testBit 31)).map (· % 512)

/-- The owner of a publisher (R338). -/
def State.pubOwner (s : State) (r : PubRec) : Option Nat :=
  if r.type = 3 then s.streamTenant (r.source % 16384) else s.slotOwner (r.source % 4096)

/-- FENCE is in force. -/
def State.fenced (s : State) : Bool := s.rdB OUT_STAT OUT_STAT_FENCED

/-- Whether a publisher is muted but for its key (R343). -/
def State.pubMuted (s : State) (r : PubRec) : Bool :=
  s.fenced || !s.rdB OUT_CTRL OUT_CTRL_PUB_EN
    || (match s.pubOwner r with
        | some t => s.tenState t == 5 && s.rdB (TEN_STATE t) TEN_STATE_DIR
        | none => false)

/-! ### Element maps (R340) -/

/-- The encoding of map entries, first to last; none where the map is not valid. A STRUCT takes the next entries as they
stand in the map.
DESIGN CHOICE, log entry 37. -/
def encodeMap (elem : Nat → Nat) : Nat → List Nat → Option (List Byte)
  | _, [] => some []
  | 0, _ => none
  | fuel + 1, e :: rest =>
    let i := e % 256
    let ty := e / 256 % 16
    let size := e / 4096 % 32
    let v := elem i
    if 2 ^ 17 ≤ e ∨ 8 < ty then none
    else if ty = 8 then
      if rest.length < size + 1 then none
      else match encodeMap elem fuel (rest.take (size + 1)), encodeMap elem fuel (rest.drop (size + 1)) with
        | some a, some b => some (berTlv 0xA2 a ++ b)
        | _, _ => none
    else
      let a :=
        if ty = 0 then berTlv 0x83 (leBytes 1 (if v = 0 then 0 else 255))
        else if ty = 1 then berTlv 0x85 (berInt (toSigned 32 v))
        else if ty = 2 then berTlv 0x86 (berInt (v : Int))
        else if ty = 3 then berTlv 0x87 (leBytes 1 8 ++ beBytes 4 v)
        else if ty = 4 then berTlv 0x84 (berBits v (size + 1))
        else if ty = 5 then berTlv 0x84 (berBits v 2)
        else if ty = 6 then berTlv 0x84 (berBits v 13)
        else berTlv 0x91 (beBytes 4 v ++ beBytes 4 (elem (i + 1)))
      (encodeMap elem fuel rest).map (a ++ ·)

/-- An element of a slot. -/
def State.slotElem (s : State) (slot e : Nat) : Nat := if e < 256 then (s.rdW (OUT_SLOT slot e)).toNat else 0

/-- The mapped data of a GOOSE publisher. -/
def State.mappedData (s : State) (r : PubRec) : Option (List Byte) :=
  let ents := (List.range r.mapLen).map (fun i => (s.rdW (OUT_MAP (r.mapOff + i))).toNat)
  encodeMap (s.slotElem (r.source % 4096)) (ents.length + 1) ents

/-! ### Building frames (R339, R342) -/

/-- UtcTime of a domain time (R342). -/
def State.utcTime (s : State) (d : Nat) : List Byte :=
  let sec := (d / 1000000000 + 2 ^ 32 - s.rd OUT_UTC_OFFSET OUT_UTC_OFFSET_SECONDS) % 2 ^ 32
  beBytes 4 sec ++ beBytes 3 (d % 1000000000 * 2 ^ 24 / 1000000000)
    ++ leBytes 1 (if s.synch = 0 then 0xBF else 0x94)

/-- A template filled: TLVs of length 0 with a fill tag are replaced, constructed lengths recomputed; `asdus` gives the
fills of each ASDU, by which the contents of the ASDU sequence are repeated. None for a template that is no BER.
DESIGN CHOICE, log entry 37. -/
def fillTemplate (fills : Nat → Option (List Byte)) (asdus : List (Nat → Option (List Byte))) :
    Nat → List Byte → Option (List Byte)
  | _, [] => some []
  | 0, _ => none
  | fuel + 1, b => match berHead b with
    | none => none
    | some (tag, vs, len) =>
      let v := (b.drop vs).take len
      if v.length < len then none
      else
        let t := if tag.length = 1 then byteAt tag 0 else 0x1F
        let here : Option (List Byte) :=
          match if len = 0 then fills t else none with
          | some f => some (tag ++ berLen f.length ++ f)
          | none =>
            if t = 0xA2 ∧ !asdus.isEmpty then
              let parts := asdus.map (fun f => fillTemplate f [] fuel v)
              if parts.any Option.isNone then none
              else
                let w := parts.flatMap (fun x => x.getD [])
                some (tag ++ berLen w.length ++ w)
            else if (byteAt tag 0).testBit 5 then
              (fillTemplate fills asdus fuel v).map (fun w => tag ++ berLen w.length ++ w)
            else some (b.take (vs + len))
        match here, fillTemplate fills asdus fuel (b.drop (vs + len)) with
        | some x, some y => some (x ++ y)
        | _, _ => none

/-- A publisher's template. -/
def State.template (s : State) (r : PubRec) : List Byte :=
  if r.tplOff % 4 = 0 then s.regBytes (OUT_TEMPLATE (r.tplOff / 4)) r.tplLen else []

/-- Counted as a build error with event 0x0804 at most once per second per publisher (R339). -/
def State.buildErr (s : State) (p : Nat) : State :=
  (s.bump (cntOUT_PUB_BUILD_ERR p) 1).postLimited 0x208 0x0804 p (p2 p)

/-- A frame of the publish engine handed to fabric port 29 (R107, R339). -/
def State.handOver (s : State) (cls : Nat) (b : List Byte) : State :=
  s.stageFrame 29 { bytes := padFrame b, arrival := 0, cls := some cls, whole := true }

/-- The frame of an APDU, secured when AUTH is set; none where it is too long (R339). -/
def State.pubFrame (s : State) (r : PubRec) (apdu : List Byte) : Option (List Byte) :=
  let sa := if r.svc then macOf (s.rdW OUT_SVC_MAC_LO).toNat (s.rdW OUT_SVC_MAC_HI).toNat
    else macOf (s.rdW OUT_MOD_MAC_LO).toNat (s.rdW OUT_MOD_MAC_HI).toNat
  let tag := if r.vlan.testBit 15 then beBytes 2 0x8100 ++ beBytes 2 (r.vlan / 4096 % 8 * 8192 + r.vlan % 4096) else []
  let b := r.da ++ beBytes 6 sa ++ tag ++ beBytes 2 (if r.type = 1 then 0x88B8 else 0x88BA) ++ beBytes 2 r.appid
    ++ beBytes 2 (8 + apdu.length) ++ beBytes 2 (if r.sim then 0x8000 else 0) ++ beBytes 2 0 ++ apdu
  let b := if r.key.testBit 15 then
      let key := (s.slot (r.key % 4096)).value
      let cov := Config.secCovered b
      let tag := if r.alg = 0 then macTag key cov true else if r.alg = 1 then macTag key cov false
        else gcmTagBytes key (Config.secIv b) cov []
      Config.secAppend b r.keyid tag
    else b
  if 1530 < b.length + 4 then none else some b

/-- The use of a publisher's key (R339): whether it is granted.
DESIGN CHOICE, log entry 37. -/
def State.pubKey (s : State) (r : PubRec) : Bool × State :=
  if r.key.testBit 15 then
    let (st, s) := s.grant (r.key % 4096) ⟨[2], [uMac]⟩ .publish false
    (st == 0, s)
  else (true, s)

/-- LAST_TX: the domain time of the last frame built or muted (R338). -/
def State.setLastTx (s : State) (p : Nat) : State := s.wr64 (OUT_PUBLISHER p 13) (OUT_PUBLISHER p 14) s.dom

/-- A frame that a publisher would send now: muted, refused by its key, too long, or built and handed over. -/
def State.sendPub (s : State) (p : Nat) (r : PubRec) (fills : Nat → Option (List Byte))
    (asdus : List (Nat → Option (List Byte))) : State :=
  let s := s.setLastTx p
  if s.pubMuted r then if r.type = 1 then s.bump (cntOUT_PUB_MUTED p) 1 else s
  else
    let (ok, s) := s.pubKey r
    let s := match s.pubDyn p with | some x => s.setPub p (some { x with keyBad := !ok }) | none => s
    if !ok then
      let s := s.bump (cntOUT_PUB_BUILD_ERR p) 1
      if r.type = 1 then s.bump (cntOUT_PUB_MUTED p) 1 else s
    else match (fillTemplate fills asdus (r.tplLen + 1) (s.template r)).bind (s.pubFrame r) with
      | some b => (s.bump (cntOUT_PUB_FRAMES p) 1).handOver (if r.type = 1 then 7 else 6) b
      | none => s.buildErr p

/-! ### GOOSE (R341) -/

/-- A GOOSE frame with the numbers of the record and the interval in progress. -/
def State.sendGoose (s : State) (p : Nat) (r : PubRec) : State :=
  match s.pubDyn p with
  | none => s
  | some x =>
    let tal := (r.tal * x.interval + 999) / 1000
    s.sendPub p r (fun t =>
      if t = 0x81 then some (berInt (tal : Int))
      else if t = 0x84 then some (s.utcTime x.changeAt)
      else if t = 0x85 then some (berInt (s.stNum p : Int))
      else if t = 0x86 then some (berInt (s.sqNum p : Int))
      else if t = 0x87 then some (leBytes 1 (if r.sim then 255 else 0))
      else if t = 0xAB then some x.last
      else none) []

/-- A frame at once; the schedule restarts with d1 = T1 (R341).
DESIGN CHOICE, log entry 37. -/
def State.restartGoose (s : State) (p : Nat) (r : PubRec) : State :=
  match s.pubDyn p with
  | none => s
  | some x => (s.setPub p (some { x with step := 1, interval := r.t1, next := s.now + 1000 * r.t1 })).sendGoose p r

/-- A publish request at a GOOSE publisher. -/
def State.requestGoose (s : State) (p : Nat) (r : PubRec) : State :=
  match s.pubDyn p, s.mappedData r with
  | some x, some d =>
    if d = x.last then s.bump (cntOUT_PUB_NO_CHANGE p) 1
    else ((s.setPub p (some { x with last := d, changeAt := s.dom })).setNums p (nextNum (s.stNum p)) 0).restartGoose p r
  | some _, none => s.buildErr p
  | none, _ => s

/-- The mute of a publisher ends, or PUB_EN rises: sqNum + 1, a frame at once (R341). -/
def State.resumeGoose (s : State) (p : Nat) : State :=
  let r := s.pubRec p
  if r.type = 1 ∧ (s.pubDyn p).isSome then (s.setNums p (s.stNum p) (nextNum (s.sqNum p))).restartGoose p r else s

/-- OUT_STAT.MUTED follows FENCE and PUB_EN; publishers whose mute ended between `s0` and `s` resume. -/
def State.unmute (s0 s : State) : State :=
  let s := s.wrB OUT_STAT OUT_STAT_MUTED (s.fenced || !s.rdB OUT_CTRL OUT_CTRL_PUB_EN)
  let rise := s.rdB OUT_CTRL OUT_CTRL_PUB_EN && !s0.rdB OUT_CTRL OUT_CTRL_PUB_EN
  s.livePubs.foldl (fun s p =>
    let r := s.pubRec p
    if rise || (s0.pubMuted r && !s.pubMuted r) then s.resumeGoose p else s) s

/-- The instant of a scheduled retransmission (R341). A key that works again ends the mute it made. -/
def opScheduledRetransmission (p : Nat) (s : State) : State :=
  let r := s.pubRec p
  match s.pubDyn p with
  | none => s
  | some x =>
    if r.type ≠ 1 ∨ s.now < x.next then s
    else if x.keyBad && !s.pubMuted r && s.grantStatus (r.key % 4096) ⟨[2], [uMac]⟩ .publish false == 0 then s.resumeGoose p
    else
      let i := x.step + 1
      let d := if i ≤ r.repeats then r.t1 else min (2 * x.interval) r.t0
      ((s.setPub p (some { x with step := i, interval := d, next := x.next + 1000 * d })).setNums p (s.stNum p)
        (nextNum (s.sqNum p))).sendGoose p r

def execScheduledRetransmission (t pub : Nat) (s : State) : Host.Outcome State Fault Refusal :=
  s.runAt t (opScheduledRetransmission pub)

/-! ### SV (R344) -/

/-- An SV frame of the ASDUs taken.
DESIGN CHOICE, log entry 37. -/
def State.sendSv (s : State) (p : Nat) (r : PubRec) (asdus : List (Nat × Nat × List (Nat × Nat))) : State :=
  s.sendPub p r (fun t => if t = 0x80 then some (berInt (r.noAsdu : Int)) else none)
    (asdus.map (fun a => fun t =>
      if t = 0x82 then some (beBytes 2 a.1)
      else if t = 0x85 then some (leBytes 1 s.synch)
      else if t = 0x87 then some (a.2.2.flatMap (fun c => beBytes 4 c.1 ++ beBytes 4 (c.2 % 65536)))
      else if t = 0x89 then some (s.utcTime a.2.1)
      else none))

/-- A publish request at an SV publisher: one ASDU. Its sample instant is that of smpCnt at the base rate. -/
def State.requestSv (s : State) (p : Nat) (r : PubRec) : State :=
  match s.pubDyn p with
  | none => s
  | some x =>
    let e := s.slotElem (r.source % 4096)
    let cnt := e 0 % 65536
    let inst := sampleInstant s.fs (placeIndex s.fs cnt s.dom)
    let l := x.asdus ++ [(cnt, inst, (List.range r.mapLen).map (fun c => (e (1 + 2 * c), e (2 + 2 * c))))]
    if l.length < r.noAsdu then s.setPub p (some { x with asdus := l })
    else (s.setPub p (some { x with asdus := [] })).sendSv p r l

/-- Publishers of a local stream after the real entry of index `n` (R344). -/
def State.svEntry (s : State) (h n : Nat) : State :=
  let e := s.stream s.ingActive h
  match s.ringEntry h e n with
  | none => s
  | some b =>
    s.livePubs.foldl (fun s p =>
      let r := s.pubRec p
      match s.pubDyn p with
      | some x =>
        if r.type = 3 ∧ r.source % 16384 = h then
          let cnt := leAt b 4 2
          let a := (cnt, leAt b 8 8, (List.range r.mapLen).map (entryChan b))
          let l := if cnt % max 1 r.noAsdu = 0 then [a] else x.asdus ++ [a]
          if cnt % max 1 r.noAsdu + 1 = r.noAsdu then
            let s := s.setPub p (some { x with asdus := [] })
            if l.length = r.noAsdu then s.sendSv p r l else s
          else s.setPub p (some { x with asdus := l })
        else s
      | none => s) s

/-! ### Slots (R334 to R336) -/

/-- A publish request on a slot's publishers. -/
def State.request (s : State) (slot : Nat) : State :=
  s.livePubs.foldl (fun s p =>
    let r := s.pubRec p
    if r.source % 4096 = slot ∧ r.type = 1 then s.requestGoose p r
    else if r.source % 4096 = slot ∧ r.type = 2 then s.requestSv p r
    else s) s

/-- Elements of a slot written, with no request. -/
def State.putElems (s : State) (slot : Nat) (byTenant : Bool) (w : List (Nat × Nat)) : State :=
  w.foldl (fun s (x : Nat × Nat) =>
    let s := s.wrW (OUT_SLOT slot x.1) (BitVec.ofNat 32 x.2)
    { s with out := { s.out with byTenant := cset (fun _ => false) s.out.byTenant (slot * 256 + x.1) byTenant } }) s

def State.queueOf (s : State) (slot : Nat) : List OutCommit := cget (fun _ => []) s.out.queues slot
def State.setQueue (s : State) (slot : Nat) (l : List OutCommit) : State :=
  { s with out := { s.out with queues := cset (fun _ => []) s.out.queues slot l } }

/-- The oldest commit of a slot's queue applied as one whole-slot write (R335). -/
def State.applyCommit (s : State) (slot : Nat) : State :=
  match s.queueOf slot with
  | [] => s
  | c :: rest =>
    ((s.setQueue slot rest).putElems slot true ((List.range c.values.length).map (fun i =>
      (c.first + i, c.values.getD i 0)))).request slot

/-- Something held for release (R410), or done at once.
DESIGN CHOICE, log entry 36. -/
def State.holdOr (s : State) (h : OutHeld) : State :=
  if s.out.holding then { s with out := { s.out with held := s.out.held ++ [h] } }
  else match h with
    | .commit slot => s.applyCommit slot
    | .elems slot w => (s.putElems slot false w).request slot

/-- Elements that an engine or a binding writes to a slot: one request (R334). -/
def State.writeElems (s : State) (slot : Nat) (w : List (Nat × Nat)) : State :=
  if w.isEmpty then s else s.holdOr (.elems slot w)

/-- The first slots named by a list, each once. -/
def distinct : List Nat → List Nat
  | [] => []
  | x :: r => x :: (distinct r).filter (· != x)

/-- Elements of several slots written by one commit or write phase: one request each slot (R334). -/
def State.writePublish (s : State) (w : List (Nat × Nat × Nat)) : State :=
  (distinct (w.map (·.1))).foldl (fun s slot =>
    s.writeElems slot ((w.filter (fun x => x.1 == slot)).map (·.2))) s

/-- The element a core stages. -/
def State.staged (s : State) (core e : Nat) : Nat := cget (fun _ => 0) s.out.stage (core * 256 + e)

/-- TW_PUB_COMMIT written (R335).
DESIGN CHOICE, log entry 33. -/
def opTwPubCommit (core : Nat) (v : Word) (s : State) : State :=
  match s.coreTenant core with
  | none => s
  | some t =>
    let n := v.toNat
    let slot := n % 4096
    let f := n / 4096 % 256
    let count := n / 1048576 % 256 + 1
    let answer := fun (s : State) (st : Nat) =>
      ({ s with out := { s.out with stat := cset (fun _ => 0) s.out.stat core st } } : State)
    if !(s.tenActive t || s.tenState t == 3) then answer s 0x0501
    else if s.slotOwner slot ≠ some t ∨ 256 < f + count then answer s 0x0540
    else if max 1 (s.rd (TEN_LIMIT_CUR t) TEN_LIMIT_CUR_PUBQ) ≤ (s.queueOf slot).length then
      answer (((s.bump (cntTEN_QUEUE_REFUSED t) 1).bump cntOUT_PUB_REFUSED 1).notice (SCH_TEN_REFUSE t)) 0x0304
    else
      let c : OutCommit := { first := f, values := (List.range count).map (fun i => s.staged core (f + i)) }
      answer ((s.setQueue slot (s.queueOf slot ++ [c])).holdOr (.commit slot)) 0

def execTwPubCommit (t core : Nat) (value : Word) (s : State) : Host.Outcome State Fault Refusal :=
  s.runAt t (opTwPubCommit core value)

/-- Slots owned by a tenant, lowest first. -/
def State.slotsOf (s : State) (t : Nat) : List Nat :=
  (s.regs.filterMap (fun c => elemOf (OUT_PUB_OWNER 0) 4096 4 c.1)).filter (fun x => s.slotOwner x == some t)

/-- The safe image of a tenant's slots (R336). -/
def State.slotsSafe (s : State) (t : Nat) : State :=
  (s.slotsOf t).foldl (fun s slot =>
    let s := s.setQueue slot []
    let es := ((s.out.byTenant.filter (fun c => c.1 / 256 == slot && c.2)).map (fun c => c.1 % 256))
    if s.rdB (OUT_PUB_OWNER slot) OUT_PUB_OWNER_SAFE_HOLD || es.isEmpty then s
    else (s.putElems slot true (es.map (fun e => (e, (s.rdW (OUT_SAFE slot e)).toNat)))).request slot) s

/-- A publisher set off. -/
def State.pubOff (s : State) (p : Nat) : State :=
  (s.wrW (OUT_PUBLISHER p 0) (BitVec.ofNat 32 ((s.rdW (OUT_PUBLISHER p 0)).toNat / 4 * 4))).setPub p none

/-- A tenant's publishers set off (R343). -/
def State.pubsOff (s : State) (t : Nat) : State :=
  s.livePubs.foldl (fun s p => if s.pubOwner (s.pubRec p) == some t then s.pubOff p else s) s

/-! ### Register writes of R337 and R338 -/

/-- Whether a tenant's key handles name a slot (R194, R446). -/
def State.ownsKey (s : State) (t x : Nat) : Bool :=
  (List.range 32).any (fun h => s.rdB (KEY_HANDLE t h) KEY_HANDLE_VALID && s.rd (KEY_HANDLE t h) KEY_HANDLE_SLOT == x)

/-- The checks of a publisher record (R338, R340, R344).
DESIGN CHOICE, log entry 37. -/
def State.pubOk (s : State) (r : PubRec) : Bool :=
  match s.pubOwner r with
  | none => false
  | some t =>
    !r.reserved && decide (1 ≤ r.tplLen) && decide (r.tplLen ≤ 1024) && decide (r.tplOff + r.tplLen ≤ 262144)
      && decide (r.mapOff + r.mapLen ≤ 16384)
      && (if r.type = 3 then decide (r.source < 16384) else decide (r.source < 4096))
      && (!r.key.testBit 15 || (decide (r.alg ≤ 2) && s.ownsKey t (r.key % 4096)))
      && (if r.type = 1 then
            decide (1 ≤ r.mapLen) && decide (r.mapLen ≤ 256) && decide (100 ≤ r.t1) && decide (r.t1 ≤ 1000000)
              && decide (r.t1 ≤ r.t0) && decide (r.t0 ≤ 60000000) && decide (1 ≤ r.repeats) && decide (r.repeats ≤ 4)
              && decide (1 ≤ r.tal) && decide (r.tal ≤ 8) && (s.mappedData r).isSome
          else
            decide (1 ≤ r.noAsdu) && decide (r.noAsdu ≤ 8) && decide (1 ≤ r.mapLen) && decide (r.mapLen ≤ 32)
              && (if r.type = 3 then
                    let e := s.stream s.ingActive r.source
                    e.type == 3 && streamRate s.fs e.rate % r.noAsdu == 0 && decide (r.mapLen ≤ e.channels)
                  else true))

/-- A publisher whose record has become valid; a GOOSE publisher sends its first frame (R341). -/
def State.pubOn (s : State) (p : Nat) : State :=
  let r := s.pubRec p
  let x : OutPub := { last := (s.mappedData r).getD [], changeAt := s.dom }
  let s := s.setPub p (some x)
  if r.type = 1 then (s.setNums p 1 0).restartGoose p r else s

/-- A word of a publisher record written (R338, R343, R555). -/
def State.pubWrite (s : State) (p i : Nat) (v : Word) : State :=
  let on := s.rd (OUT_PUBLISHER p 0) ⟨0, 2, .rw, 0, 0, 3⟩ != 0
  if i = 13 ∨ i = 14 ∨ i = 15 then s
  else if i = 11 ∨ i = 12 then
    if s.rdB OUT_CTRL OUT_CTRL_PUB_EN then s else s.wrW (OUT_PUBLISHER p i) v
  else if on then
    if i = 0 ∧ v.toNat % 4 = 0 then (s.pubOff p).wrW (OUT_PUBLISHER p 0) v else s.outRej
  else
    let s1 := s.wrW (OUT_PUBLISHER p i) v
    if i = 0 ∧ v.toNat % 4 ≠ 0 then if s1.pubOk (s1.pubRec p) then s1.pubOn p else s.outRej
    else s1

/-- VALID bindings, lowest first. -/
def State.validBindings (s : State) : List Nat :=
  (s.regs.filterMap (fun c => elemOf (OUT_BINDING 0 0) 256 32 c.1)).filter
    (fun b => (s.rdW (OUT_BINDING b 0)).toNat.testBit 0)

/-- OUT_PUB_OWNER written (R337). -/
def State.pubOwnerWrite (s : State) (slot : Nat) (v : Word) : State :=
  let w := fieldsOf [OUT_PUB_OWNER_VALID, OUT_PUB_OWNER_SAFE_HOLD, OUT_PUB_OWNER_TENANT] v
  let old := s.slotOwner slot
  let new := if fget OUT_PUB_OWNER_VALID w = 0 then none else some (fget OUT_PUB_OWNER_TENANT w)
  let named := s.validBindings.any (fun b =>
      (s.rdW (OUT_BINDING b 0)).toNat.testBit 3 && (s.rdW (OUT_BINDING b 1)).toNat / 65536 % 4096 == slot)
    || s.livePubs.any (fun p => let r := s.pubRec p; r.type != 3 && r.source % 4096 == slot)
  if old ≠ new ∧ named then s.outRej else s.wrW (OUT_PUB_OWNER slot) w

end Sys2Proof.Machine
end

