-- ==== Sys2Proof/Machine/Outputs.lean ====
section
/-! DEFINITION. Trip sources and bindings, TRIP balls, FENCE and binary inputs (R321 to R333). `settle` brings every
binding, element and ball into line with its sources; each command that changes a source ends with it. -/

namespace Sys2Proof.Machine

/-! ### Bindings (R321 to R325) -/

/-- A trip binding record (R323). -/
structure Binding where
  valid : Bool
  arm : Bool
  safe : Bool
  elemEn : Bool
  owner : Nat
  balls : Nat
  slot : Nat
  element : Nat
  srcs : List Nat
  /-- A bit that R323 states as zero is set. -/
  reserved : Bool
  deriving DecidableEq, Repr

/-- A record by its bytes. -/
def parseBinding (b : List Byte) : Binding :=
  let c := leAt b 0 2
  { valid := c.testBit 0, arm := c.testBit 1, safe := c.testBit 2, elemEn := c.testBit 3
    owner := leAt b 2 2 % 512, balls := leAt b 4 2, slot := leAt b 6 2 % 4096, element := byteAt b 8
    srcs := (List.range 4).map (fun i => leAt b (12 + 4 * i) 4)
    reserved := decide (16 ≤ c) || decide (512 ≤ leAt b 2 2) || decide (4096 ≤ leAt b 6 2) || leAt b 9 3 != 0
      || leAt b 28 4 != 0 }

def State.binding (s : State) (b : Nat) : Binding := parseBinding (s.regBytes (OUT_BINDING b 0) 32)

/-- KIND of a trip source. -/
def srcKind (w : Nat) : Nat := w / 2 ^ 29

/-- Whether a trip source is well formed and its unit present (R321, R324).
DESIGN CHOICE, log entry 36. -/
def State.srcOk (s : State) (w : Nat) : Bool :=
  let k := srcKind w
  let op := w % 2 ^ 29
  if k = 0 then op = 0
  else if k = 1 then op < 32
  else if k = 2 then op < 256
  else if k = 3 then s.clePresent && decide (op < 256)
  else if k = 4 then s.acqPresent && decide (op < 32)
  else false

/-- The checks of R324. -/
def State.bindingOk (s : State) (x : Binding) : Bool :=
  !x.reserved && x.srcs.all s.srcOk
    && (List.range 16).all (fun n => !x.balls.testBit n ||
        (s.rdB (OUT_TRIP_CFG n) OUT_TRIP_CFG_EN && s.rd (OUT_TRIP_CFG n) OUT_TRIP_CFG_OWNER == x.owner))
    && (!x.elemEn || s.slotOwner x.slot == some x.owner)

/-- VALID programs (R291). -/
def State.programs (s : State) : List Nat :=
  (s.regs.filterMap (fun c => elemOf (LGE_PRG_CFG 0) 64 0x100 c.1)).filter
    (fun p => s.rdB (LGE_PRG_CFG p) LGE_PRG_CFG_VALID)

/-- VALID laws (R259). -/
def State.laws (s : State) : List Nat :=
  (s.regs.filterMap (fun c => elemOf (CLE_LAW_CFG 0) 128 0x100 c.1)).filter
    (fun l => s.rdB (CLE_LAW_CFG l) CLE_LAW_CFG_VALID)

def State.prgOwner (s : State) (p : Nat) : Nat := s.rd (LGE_PRG_CFG p) LGE_PRG_CFG_OWNER
def State.prgState (s : State) (p : Nat) : Nat := s.rd (LGE_PRG_STATE p) LGE_PRG_STATE_STATE
def State.lawOwner (s : State) (l : Nat) : Nat := s.rd (CLE_LAW_CFG l) CLE_LAW_CFG_OWNER
def State.lawState (s : State) (l : Nat) : Nat := s.rd (CLE_LAW_STATE l) CLE_LAW_STATE_STATE

/-- An output map entry of a program (R297). -/
structure OutEntry where
  kind : Nat
  bit : Nat
  qword : Nat
  target : Nat
  safe : Nat
  deriving DecidableEq, Repr

/-- The output map of a program, unused entries left out. -/
def State.outMap (s : State) (p : Nat) : List OutEntry :=
  ((List.range 64).map (fun e =>
    let w := fun i => (s.rdW (LGE_OMAP p (4 * e + i))).toNat
    { kind := w 0 % 256, bit := w 0 / 256 % 256, qword := w 0 / 65536, target := w 1, safe := w 2 : OutEntry })).filter
    (fun x => x.kind != 0)

/-- The blocks of a law. -/
def State.lawBlocks (s : State) (l : Nat) : List Nat :=
  (List.range (s.rd (CLE_LAW_CFG l) CLE_LAW_CFG_COUNT + 1)).map (· + s.rd (CLE_LAW_CFG l) CLE_LAW_CFG_FIRST)

/-- A block's structure word, and its TYPE, OPT and AUX (R268). -/
def State.blkWord (s : State) (b i : Nat) : Nat := (s.rdW (CLE_BLK_STRUCT b i)).toNat
def State.blkType (s : State) (b : Nat) : Nat := s.blkWord b 0 % 16
def State.blkOpt (s : State) (b : Nat) : Nat := s.blkWord b 0 / 256 % 256
def State.blkAux (s : State) (b : Nat) : Nat := s.blkWord b 2

/-- Whether a program drives LGE output `n`, a law CLE sink `n`.
DESIGN CHOICE, log entry 47. -/
def State.prgDrives (s : State) (p n : Nat) : Bool := (s.outMap p).any (fun x => x.kind == 1 && x.target % 256 == n)
def State.lawDrives (s : State) (l n : Nat) : Bool :=
  (s.lawBlocks l).any (fun b => s.blkType b == 13 && s.blkOpt b % 4 == 0 && s.blkAux b % 256 == n)

/-- The states of an owner's program or law that drives a KIND 2 or 3 source (R325). -/
def State.drivers (s : State) (owner w : Nat) : List Nat :=
  if srcKind w = 2 then
    (s.programs.filter (fun p => s.prgOwner p == owner && s.prgDrives p (w % 256))).map s.prgState
  else (s.laws.filter (fun l => s.lawOwner l == owner && s.lawDrives l (w % 256))).map s.lawState

/-- The owner's sources are live: it runs, runs on until its cut-off (R209 step 3), or runs on while it migrates out.
DESIGN CHOICE, log entry 36. -/
def State.ownerLive (s : State) (t : Nat) : Bool :=
  s.tenState t == 2 || s.tenState t == 3
    || (s.tenState t == 5 && !s.rdB (TEN_STATE t) TEN_STATE_DIR && !s.rdB (TEN_STATE t) TEN_STATE_STOPPED)

/-- A trip-lane source: 0 while its channel or lane is disabled (R325). -/
def State.laneSource (s : State) (w : Nat) : Bool :=
  srcKind w == 4 && s.chanOn (w % 32) && s.rdB (ACQ_TRIP_CFG (w % 32)) ACQ_TRIP_CFG_EN && s.tripActive (w % 32)

/-- A tenant's trip register (R322). -/
def State.tripReg (s : State) (t : Nat) : Nat := cget (fun _ => 0) s.out.trip t
def State.setTripReg (s : State) (t v : Nat) : State :=
  { s with out := { s.out with trip := cset (fun _ => 0) s.out.trip t (v % 2 ^ 32) } }

/-- What a trip source contributes (R321). -/
def State.source (s : State) (owner w : Nat) : Bool :=
  match srcKind w with
  | 1 => (s.tripReg owner).testBit (w % 32)
  | 2 => cget (fun _ => false) s.out.lge (w % 256)
  | 3 => cget (fun _ => false) s.out.cle (w % 256)
  | 4 => s.laneSource w
  | _ => false

/-- Bit `b` of a bitmap of 256 bindings in eight registers. -/
def State.bitmap (s : State) (reg : Nat → Nat) (b : Nat) : Bool := (s.rdW (reg (b / 32))).toNat.testBit (b % 32)

/-- The value of a VALID binding by the rules 2 to 6 of R325, with what its sources give. -/
def State.bindValueBy (s : State) (src : Nat → Bool) (b : Nat) (x : Binding) : Bool :=
  let engine := x.srcs.filter (fun w => srcKind w == 2 || srcKind w == 3)
  let states := engine.map (fun w => (srcKind w, s.drivers x.owner w))
  let held := states.any (fun d => if d.1 = 2 then d.2.contains 4 else d.2.contains 3)
  let dead := states.any (fun d => !(d.2.contains 1 || d.2.contains 2))
  if s.rdB OUT_CTRL OUT_CTRL_IMG_MODE then s.bitmap OUT_BIND_IMG b
  else if (s.tenState x.owner == 5 && s.rdB (TEN_STATE x.owner) TEN_STATE_STOPPED) || held then s.bitmap OUT_BIND_VAL b
  else if !s.ownerLive x.owner || dead then x.safe
  else if !x.arm then x.safe
  else x.srcs.any src

/-- The value of a VALID binding (R325). -/
def State.bindValue (s : State) (b : Nat) (x : Binding) : Bool := s.bindValueBy (s.source x.owner) b x

/-- The value that is held for release: the trip-lane sources stand outside it, since they are never held (R189, R190, R410). -/
def State.heldValue (s : State) (b : Nat) (x : Binding) : Bool :=
  s.bindValueBy (fun w => srcKind w != 4 && s.source x.owner w) b x

/-- A bitmap of 256 bindings written. -/
def State.setBitmap (s : State) (reg : Nat → Nat) (ones : List Nat) : State :=
  (List.range 8).foldl (fun s i =>
    s.wrW (reg i) (BitVec.ofNat 32 (((ones.filter (fun b => b / 32 == i)).map (fun b => 2 ^ (b % 32))).sum))) s

/-! ### Balls (R326, R328, R352, R395, R410) -/

/-- The history of both words kept for 4,096 µs, and the newest entry older than that. -/
def trimHist (now : Nat) : List (Nat × Nat × Nat) → List (Nat × Nat × Nat)
  | [] => []
  | x :: r => if x.1 + 4096000 < now then [x] else x :: trimHist now r

/-- The debounced states and ball levels enter the history (R352). -/
def State.noteHist (s : State) : State :=
  let x := (s.dom, (s.rdW OUT_BIN_STATE).toNat, s.rd OUT_TRIP_LEVEL OUT_TRIP_LEVEL_LEVEL)
  { s with out := { s.out with hist := x :: trimHist s.dom s.out.hist } }

/-- The output gate (R395).
DESIGN CHOICE, log entry 36. -/
def State.gateOpen (s : State) : Bool := s.rdB DPX_STAT DPX_STAT_GATE

/-- What a VALID binding of value `v` gives its balls: the value held for release, or the image, with its live trip lanes
ORed where it is armed and its owner runs (R410, R415).
DESIGN CHOICE, log entry 36. -/
def State.ballValue (s : State) (b : Nat) (x : Binding) (v : Bool) : Bool :=
  let lane := x.arm && s.ownerLive x.owner && x.srcs.any s.laneSource
  if s.out.holding then s.out.heldOnes.contains b || lane
  else if s.rdB OUT_CTRL OUT_CTRL_IMG_MODE then v || lane
  else v

/-- The balls follow R326; each change writes event 0x0802 (R328). -/
def State.settleBalls (s : State) (vals : List (Nat × Binding × Bool)) : State :=
  let open_ := s.rdB OUT_CTRL OUT_CTRL_EN && !s.fenced && s.gateOpen
  let s1 := (List.range 16).foldl (fun s n =>
    let driver := if open_ && s.rdB (OUT_TRIP_CFG n) OUT_TRIP_CFG_EN then
        vals.find? (fun y => y.2.1.balls.testBit n && s.ballValue y.1 y.2.1 y.2.2)
      else none
    let old := (s.rd OUT_TRIP_LEVEL OUT_TRIP_LEVEL_LEVEL).testBit n
    if driver.isSome = old then s
    else
      let s := s.wr OUT_TRIP_LEVEL OUT_TRIP_LEVEL_LEVEL (nsetBit (s.rd OUT_TRIP_LEVEL OUT_TRIP_LEVEL_LEVEL) n driver.isSome)
      s.post 0x0802 (p1 n ++ p1 (b2n driver.isSome) ++ p8 s.dom ++ p2 (driver.elim 0xFF (·.1)))) s
  if s1.rd OUT_TRIP_LEVEL OUT_TRIP_LEVEL_LEVEL = s.rd OUT_TRIP_LEVEL OUT_TRIP_LEVEL_LEVEL then s1 else s1.noteHist

/-- Every binding, element and ball follows its sources. -/
def State.settle (s : State) : State :=
  let vals := s.validBindings.map (fun b => let x := s.binding b; (b, x, s.bindValue b x))
  let s := s.setBitmap OUT_BIND_VAL ((vals.filter (·.2.2)).map (·.1))
  let s := vals.foldl (fun s (y : Nat × Binding × Bool) =>
    if y.2.1.elemEn ∧ cget (fun _ => none) s.out.elem y.1 ≠ some y.2.2 then
      let s : State := { s with out := { s.out with elem := cset (fun _ => none) s.out.elem y.1 (some y.2.2) } }
      s.writeElems y.2.1.slot [(y.2.1.element, b2n y.2.2)]
    else s) s
  s.settleBalls vals

/-! ### Tenant trip registers (R322) -/

/-- A write to the trip register of the tenant in service on a core. -/
def State.tripWrite (s : State) (core : Nat) (f : Nat → Nat) : State :=
  match s.coreTenant core with
  | some t => (s.setTripReg t (f (s.tripReg t))).settle
  | none => s

def opTwTrip (core : Nat) (v : Word) (s : State) : State := s.tripWrite core (fun _ => v.toNat)
def opTwTripSet (core : Nat) (v : Word) (s : State) : State := s.tripWrite core (fun o => o ||| v.toNat)
def opTwTripClr (core : Nat) (v : Word) (s : State) : State := s.tripWrite core (fun o => o &&& (~~~v).toNat)

def execTwTrip (t core : Nat) (value : Word) (s : State) : Host.Outcome State Fault Refusal :=
  s.runAt t (opTwTrip core value)
def execTwTripSet (t core : Nat) (value : Word) (s : State) : Host.Outcome State Fault Refusal :=
  s.runAt t (opTwTripSet core value)
def execTwTripClr (t core : Nat) (value : Word) (s : State) : Host.Outcome State Fault Refusal :=
  s.runAt t (opTwTripClr core value)

/-! ### Binding writes (R324) -/

/-- A word of a binding written (R324, R555). -/
def opBindingWrite (b i : Nat) (v : Word) (s : State) : State :=
  if 256 ≤ b ∨ 8 ≤ i then s
  else
    let s1 := s.wrW (OUT_BINDING b i) v
    let x := s1.binding b
    if x.valid && !s1.bindingOk x then s.outRej
    else ({ s1 with out := { s1.out with elem := cset (fun _ => none) s1.out.elem b none } } : State).settle

def execBindingWrite (t b i : Nat) (value : Word) (s : State) : Host.Outcome State Fault Refusal :=
  s.runAt t (opBindingWrite b i value)

/-- OUT_BIND_ARM written. -/
def opOutBindArmWrite (v : Word) (s : State) : State :=
  let b := fget OUT_BIND_ARM_BIND v
  let w := (s.rdW (OUT_BINDING b 0)).toNat
  (s.wrW (OUT_BINDING b 0) (BitVec.ofNat 32 (nsetBit w 1 (fget OUT_BIND_ARM_ARM v != 0)))).settle

def execOutBindArmWrite (t : Nat) (value : Word) (s : State) : Host.Outcome State Fault Refusal :=
  s.runAt t (opOutBindArmWrite value)

/-- OUT_TRIP_CFG written: the write is ignored while a VALID binding names the ball (R345). -/
def State.outTripCfgWrite (s : State) (n : Nat) (v : Word) : State :=
  let w := fieldsOf [OUT_TRIP_CFG_EN, OUT_TRIP_CFG_OWNER] v
  let named := s.validBindings.any (fun b => (s.binding b).balls.testBit n)
  if named then s.outRej else (s.wrW (OUT_TRIP_CFG n) w).settle

/-- OUT_CTRL written; PUB_EN is 0 while the output gate is closed (R343, R395). -/
def State.outCtrlWrite (s : State) (v : Word) : State :=
  let w := fieldsOf [OUT_CTRL_IMG_MODE, OUT_CTRL_PUB_EN, OUT_CTRL_FENCE_LATCH, OUT_CTRL_EN] v
  let w := if s.gateOpen then w else fset OUT_CTRL_PUB_EN w 0
  State.unmute s (s.wrW OUT_CTRL w).settle

/-! ### FENCE (R329, R330) -/

/-- FENCE comes into force or ends: counted, reported, balls and publishing follow.
DESIGN CHOICE, log entry 36. -/
def State.setFence (s : State) (on : Bool) : State :=
  if s.fenced = on then s
  else
    let s1 := (s.wrB OUT_STAT OUT_STAT_FENCED on).bump cntOUT_FENCE_EVENTS 1
    let s1 := s1.post 0x0801 (p1 (b2n on) ++ p8 s1.dom)
    State.unmute s s1.settle

/-- FENCE_N filtered low, or high. -/
def State.fenceBall (s : State) (high : Bool) : State :=
  let s := s.wrB OUT_STAT OUT_STAT_FENCE_N high
  if !high then s.setFence true
  else if s.rdB OUT_CTRL OUT_CTRL_FENCE_LATCH then s else s.setFence false

/-- OUT_FENCE_CLR written: it releases a latched FENCE while FENCE_N is high. -/
def State.fenceClr (s : State) : State :=
  if s.rdB OUT_STAT OUT_STAT_FENCE_N then s.setFence false else s

def opFenceRelease (s : State) : State := s.fenceBall true
def execFenceRelease (t : Nat) (s : State) : Host.Outcome State Fault Refusal := s.runAt t opFenceRelease

def opOutFenceClr (s : State) : State := s.fenceClr
def execOutFenceClr (t : Nat) (s : State) : Host.Outcome State Fault Refusal := s.runAt t opOutFenceClr

/-! ### Binary inputs (R331 to R333) -/

/-- The registers of the binary event queue show its head and count. -/
def State.binShow (s : State) : State :=
  let s := s.wr OUT_STAT OUT_STAT_BIN_EVT_COUNT s.out.events.length
  let b := s.out.events.headD []
  (List.range 4).foldl (fun s i => s.wrW (OUT_BIN_EVT i) (BitVec.ofNat 32 (leAt b (4 * i) 4))) s

def State.binState (s : State) (n : Nat) : Bool := (s.rdW OUT_BIN_STATE).toNat.testBit n
def State.binBlocked (s : State) (n : Nat) : Bool := (s.rdW OUT_BIN_BLOCKED).toNat.testBit n
def State.setBin (s : State) (reg n : Nat) (b : Bool) : State :=
  s.wrW reg (BitVec.ofNat 32 (nsetBit (s.rdW reg).toNat n b))

/-- The debounced state changes: the event queue and the flag (R333). -/
def State.binEvent (s : State) (n : Nat) (level : Bool) (stamp : Nat) (unblock : Bool) : State :=
  let s := (s.setBin OUT_BIN_STATE n level).noteHist
  let s :=
    if 256 ≤ s.out.events.length then
      let s : State := { s with out := { s.out with overflow := true } }
      s.bump cntOUT_BIN_EVT_LOST 1
    else
      let e := leBytes 8 stamp ++ leBytes 1 n ++ leBytes 1 (b2n level)
        ++ leBytes 1 (b2n unblock + 2 * b2n s.out.overflow) ++ leBytes 5 0
      ({ s with out := { s.out with events := s.out.events ++ [e], overflow := false } } : State).binShow
  if s.rdB (OUT_BIN_FLAG n) OUT_BIN_FLAG_EN then
    s.setFlags (s.rd (OUT_BIN_FLAG n) OUT_BIN_FLAG_TASK) (2 ^ s.rd (OUT_BIN_FLAG n) OUT_BIN_FLAG_BIT)
  else s

/-- The TAI second of an input's last change and how many changes it has had in it (R332). -/
def State.setChatter (s : State) (n : Nat) (x : Nat × Nat) : State :=
  { s with out := { s.out with chatter := cset (fun _ => (0, 0)) s.out.chatter n x } }

/-- The last of DEBOUNCE differing samples, at a whole µs of domain time: the new level and its timestamp, and the machine
after it (R331). A blocked input accepts none; its raw change is noted (R332).
DESIGN CHOICE, log entry 38. -/
def State.binAccept (s : State) (n : Nat) : Option (Bool × Nat) × State :=
  if 32 ≤ n ∨ s.dom % 1000 ≠ 0 then (none, s)
  else if s.binBlocked n then (none, s.setChatter n (s.dom / 1000000000, 0))
  else
    let level := !s.binState n
    let deb := max 1 (s.rd (OUT_BIN_CFG n) OUT_BIN_CFG_DEBOUNCE)
    let stamp := (s.dom / 1000 - (deb - 1)) * 1000
    let s := (s.setBin OUT_BIN_RAW n level).binEvent n level stamp false
    let sec := s.dom / 1000000000
    let old := cget (fun _ => (0, 0)) s.out.chatter n
    let k := if old.1 = sec then old.2 + 1 else 1
    let s := s.setChatter n (sec, k)
    let limit := s.rd (OUT_BIN_CFG n) OUT_BIN_CFG_CHATTER
    let s := if limit ≠ 0 ∧ limit < k then (s.setBin OUT_BIN_BLOCKED n true).post 0x0803 (p1 n ++ p8 s.dom) else s
    (some (level, stamp), s)

/-- A block ends with the input at `level`: at a TAI second boundary that follows a whole second without a change; the change
it makes, if any (R332).
DESIGN CHOICE, log entry 38. -/
def State.binUnblock (s : State) (n : Nat) (level : Bool) : Option (Bool × Nat) × State :=
  let last := (cget (fun _ => (0, 0)) s.out.chatter n).1
  if 32 ≤ n ∨ !s.binBlocked n ∨ s.dom % 1000000000 ≠ 0 ∨ s.dom / 1000000000 < last + 2 then (none, s)
  else
    let s := (s.setBin OUT_BIN_BLOCKED n false).setBin OUT_BIN_RAW n level
    if s.binState n = level then (none, s)
    else
      let stamp := s.dom / 1000 * 1000
      (some (level, stamp), s.binEvent n level stamp true)

/-- OUT_BIN_EVT_POP written. -/
def opOutBinEvtPop (s : State) : State :=
  ({ s with out := { s.out with events := s.out.events.drop 1 } } : State).binShow

def execOutBinEvtPop (t : Nat) (s : State) : Host.Outcome State Fault Refusal := s.runAt t opOutBinEvtPop

/-! ### Release of held outputs (R410) and safe values (R209 step 6) -/

/-- What the rules hold is applied in order and the balls follow. -/
def State.releaseOutputs (s : State) : State :=
  let held := s.out.held
  let s : State := { s with out := { s.out with holding := false, held := [], heldOnes := [] } }
  (held.foldl (fun s h => s.holdOr h) s).settle

/-- Outputs are held from here on (R410). -/
def State.holdOutputs (s : State) : State :=
  let ones := s.validBindings.filter (fun b => s.heldValue b (s.binding b))
  { s with out := { s.out with holding := true, heldOnes := ones } }

end Sys2Proof.Machine
end

