-- ==== Sys2Proof/Machine/Cle.lean ====
section
/-! DEFINITION. The control law engine (R259 to R290): blocks, evaluation, law states, coefficient sets, traces and the
relay auto-tune. An evaluation runs and commits in one step (notes/assumptions/40). -/

namespace Sys2Proof.Machine

/-- CLE_STAT.CFG_REJ is set. -/
def State.cleRej (s : State) : State := s.wrB CLE_STAT CLE_STAT_CFG_REJ true

/-! ### Laws and blocks (R259, R260, R268) -/

def State.law (s : State) (l : Nat) : CleLaw := cget (fun _ => {}) s.cle.laws l
def State.setLaw (s : State) (l : Nat) (x : CleLaw) : State :=
  { s with cle := { s.cle with laws := cset (fun _ => {}) s.cle.laws l x } }

/-- The committed output of a block, a Q1.15 signal. -/
def State.cleOut (s : State) (b : Nat) : Int := cget (fun _ => 0) s.cle.outs b
def State.setCleOut (s : State) (b : Nat) (v : Int) : State :=
  { s with cle := { s.cle with outs := cset (fun _ => 0) s.cle.outs b v } }

def State.cleCount (s : State) (b : Nat) : Nat := cget (fun _ => 0) s.cle.counts b
def State.setCleCount (s : State) (b n : Nat) : State :=
  { s with cle := { s.cle with counts := cset (fun _ => 0) s.cle.counts b n } }

/-- ACTIVE_SET of a law. -/
def State.activeSet (s : State) (l : Nat) : Nat := s.rd (CLE_LAW_STATE l) CLE_LAW_STATE_ACTIVE_SET

/-- Parameter word `i` of block `b` in bank `set`, and its state word `i`. -/
def State.blkParam (s : State) (set b i : Nat) : Nat := (s.rdW (CLE_BLK_PARAM set (8 * b + i))).toNat
def State.setBlkParam (s : State) (set b i v : Nat) : State := s.wrW (CLE_BLK_PARAM set (8 * b + i)) (BitVec.ofNat 32 v)
def State.blkState (s : State) (b i : Nat) : Nat := (s.rdW (CLE_BLK_STATE b i)).toNat
def State.setBlkState (s : State) (b i v : Nat) : State := s.wrW (CLE_BLK_STATE b i) (BitVec.ofNat 32 v)

/-- The field of input `k` of a block. -/
def State.blkInField (s : State) (b k : Nat) : Nat :=
  if k = 0 then s.blkWord b 0 / 65536 else if k = 1 then s.blkWord b 1 % 65536 else s.blkWord b 1 / 65536

/-- The block that input `k` names, when it is VALID. -/
def State.blkIn (s : State) (b k : Nat) : Option Nat :=
  let f := s.blkInField b k
  if f.testBit 15 then some (f % 2048) else none

/-- The value of input `k`. Blocks are computed in ascending order and their outputs replaced in place, so a block that
precedes gives this evaluation's output and any other the output committed before (R260). -/
def State.inSig (s : State) (b k : Nat) : Int := match s.blkIn b k with | some x => s.cleOut x | none => 0

/-- An input as binary32. -/
def State.inF (s : State) (b k : Nat) : Nat := q15ToF (s.inSig b k)

/-- The tuning pair of a law. -/
def State.tuneRelay (s : State) (l : Nat) : Nat := s.rd (CLE_LAW_TUNE l) CLE_LAW_TUNE_RELAY
def State.tunePid (s : State) (l : Nat) : Nat := s.rd (CLE_LAW_TUNE l) CLE_LAW_TUNE_PID

/-- The clock stream of a law and its rate (R152, R261). -/
def State.lawClock (s : State) (l : Nat) : StreamEnt := s.stream s.ingActive (s.rd (CLE_LAW_CLK l) CLE_LAW_CLK_HANDLE)
def State.lawRate (s : State) (l : Nat) : Nat := streamRate s.fs (s.lawClock l).rate

/-! ### One evaluation (R262, R267, R269 to R273) -/

/-- An evaluation under way: the machine with what it has computed, and what its commit still does. -/
structure CleEv where
  s : State
  law : Nat
  n : Nat
  r : Nat
  set : Nat
  first : Bool
  /-- Kp of each block before the toggle when this is the swap evaluation. -/
  swap : Option (List (Nat × Nat))
  bumpless : Bool
  saveI : Bool
  tuning : Bool
  aborted : Bool := false
  sat : Bool := false
  compare : Bool := false
  relay : Bool := false
  missed : Nat := 0
  pubs : List (Nat × Nat × Nat) := []
  tasks : List (Nat × Nat) := []
  deriving DecidableEq, Repr

/-- TS of a law. -/
def CleEv.ts (e : CleEv) : Nat := (e.s.rdW (CLE_LAW_TS e.law)).toNat
def CleEv.p (e : CleEv) (b i : Nat) : Nat := e.s.blkParam e.set b i
def CleEv.st (e : CleEv) (b i : Nat) : Nat := e.s.blkState b i
def CleEv.put (e : CleEv) (b i v : Nat) : CleEv := { e with s := e.s.setBlkState b i v }

/-- A flag of a block set: sticky, and in this evaluation's copy (R273). -/
def CleEv.mark (e : CleEv) (b bit : Nat) (on : Bool) : CleEv :=
  if on then
    let w := (e.s.rdW (CLE_BLK_FLAGS b)).toNat
    { e with s := e.s.wrW (CLE_BLK_FLAGS b) (BitVec.ofNat 32 (nsetBit (nsetBit w bit true) (bit + 8) true))
             sat := e.sat || bit == 0 }
  else e

/-- SAT of a block set outside an evaluation (R267, R272). -/
def State.markSat (s : State) (b : Nat) (on : Bool) : State :=
  if on then s.wrW (CLE_BLK_FLAGS b) (BitVec.ofNat 32 (nsetBit (s.rdW (CLE_BLK_FLAGS b)).toNat 0 true)) else s

/-- A block's output, with SAT when its conversion saturated. -/
def CleEv.out (e : CleEv) (b : Nat) (q : Int × Bool) : CleEv := ({ e with s := e.s.setCleOut b q.1 }).mark b 0 q.2

/-- A block's output from a binary32 value; the spec gives to_q of a NaN no result. -/
def CleEv.outF (e : CleEv) (b v : Nat) : CleEv :=
  match toQ v with
  | some q => e.out b q
  | none => let (d, s) := e.s.draw; ({ e with s := s }).out b (toSigned 16 d.toNat, false)

/-- A signal as the state word that stores it. -/
def sigWord (q : Int) : Nat := ofSigned 32 q

def CleEv.src (e : CleEv) (b : Nat) : CleEv :=
  let s := e.s
  let ent := s.stream s.ingActive (s.blkAux b % 16384)
  let ch := s.blkAux b / 65536 % 32
  let got := if ent.type = 1 ∨ ent.type = 3 then
      if ch < ent.channels then s.ringEntry (s.blkAux b % 16384) ent (e.n * streamRate s.fs ent.rate / max 1 e.r) else none
    else none
  match got with
  | none => ({ e with missed := e.missed + 1 }).mark b 5 true
  | some bytes =>
    let (v, q) := entryChan bytes ch
    let bad := q % 4 != 0
    let e := e.mark b 6 bad
    if bad && (s.blkOpt b).testBit 0 then e
    else
      let e := e.outF b (fmul (fofInt (toSigned 32 v)) (e.p b 0))
      e.put b 0 (sigWord (e.s.cleOut b))

def CleEv.sum (e : CleEv) (b : Nat) : CleEv :=
  let o := e.s.blkOpt b
  let term := fun k => let g := o / 4 ^ k % 4; if g = 1 then e.s.inSig b k else if g = 2 then -(e.s.inSig b k) else 0
  let v := term 0 + term 1 + term 2
  let c := clampInt (-32768) 32767 v
  e.out b (c, c != v)

/-- A stored Q1.15 word, of state or parameter. -/
def CleEv.q (w : Nat) : Int := toSigned 16 w

def CleEv.biquad (e : CleEv) (b : Nat) : CleEv :=
  let x := e.s.inSig b 0
  let c := fun i => CleEv.q (e.p b i)
  let d := fun i => CleEv.q (e.st b i)
  let acc := 2 * (c 0 * x + c 1 * d 0 + c 2 * d 1 - c 3 * d 2 - c 4 * d 3)
  let y := accToQ acc
  let x1 := e.st b 0
  let y1 := e.st b 2
  ((((e.out b y).put b 0 (sigWord x)).put b 1 x1).put b 2 (sigWord y.1)).put b 3 y1

def CleEv.fir8 (e : CleEv) (b : Nat) : CleEv :=
  let xs := sigWord (e.s.inSig b 0) :: (List.range 7).map (fun i => e.st b i)
  let acc := ((List.range 8).map (fun i => CleEv.q (e.p b i) * CleEv.q (xs.getD i 0))).sum
  let e := e.out b (accToQ acc)
  (List.range 7).foldl (fun e i => e.put b i (xs.getD i 0)) e

/-- DESIGN CHOICE, log entry 39. -/
def CleEv.pid (e : CleEv) (b : Nat) (isPid : Bool) : CleEv :=
  let err := e.s.inF b 0
  let kp := e.p b 0
  let ki := e.p b 1
  let (umin, umax, imin, imax) := (e.p b 4, e.p b 5, e.p b 6, e.p b 7)
  let d := if isPid && (e.s.blkOpt b).testBit 0 then fneg (e.s.inF b 1) else err
  let dPrev := if e.first then d else e.st b 2
  let p := fmul kp err
  let alpha := e.p b 3
  let dd := if isPid then
      fadd (fmul alpha (e.st b 1)) (fmul (fsub (fofInt 1) alpha)
        (fmul (e.p b 2) (fmul (fsub d dPrev) (fofInt (e.r : Int)))))
    else 0
  let partner := e.tuning && b == e.s.tunePid e.law
  -- the adjustment of the swap evaluation (R280)
  let i0 := e.st b 0
  let i1 := match e.swap with
    | some old => if e.bumpless then fadd i0 (fmul (fsub (((old.find? (fun x => x.1 == b)).map (·.2)).getD kp) kp) err) else i0
    | none => i0
  let i2 := if e.swap.isSome then fclamp i1 imin imax else i1
  let e := e.mark b 4 (e.swap.isSome && i2 != i1)
  let e := if partner && e.saveI then e.put b 4 i2 else e
  let i2 := if partner then e.st b 4 else i2
  -- integration (R270)
  let uPre := fadd (fadd p i2) dd
  let hold := (fle umax uPre && flt 0 err) || (fle uPre umin && flt err 0)
  let inc := fadd i2 (fmul (fmul ki e.ts) err)
  let i3 := if partner || hold then i2 else fclamp inc imin imax
  let e := e.mark b 2 (!partner && hold)
  let e := e.mark b 3 (!partner && !hold && i3 != inc)
  let u := fadd (fadd p i3) dd
  let c := fclamp u umin umax
  let e := if partner then e.out b (e.s.cleOut (e.s.tuneRelay e.law), false)
    else (e.mark b 1 (c != u)).outF b c
  let e := (e.put b 0 i3).put b 3 u
  if isPid then (e.put b 1 dd).put b 2 d else e

def CleEv.ramp (e : CleEv) (b : Nat) : CleEv :=
  let o := e.s.blkOpt b
  let raw := if o.testBit 0 then e.s.inF b 0
    else (cget (fun _ => 0) e.s.cle.sp (e.s.lawOwner e.law * 1024 + e.s.blkAux b % 1024)).toNat
  let tgt := fclamp raw (e.p b 2) (e.p b 3)
  let start := o / 2 % 4
  let s0 := if e.first then (if start = 1 then tgt else if start = 2 then e.s.inF b 1 else e.st b 0) else e.st b 0
  let s1 := if flt s0 tgt then fmin tgt (fadd s0 (fmul (e.p b 0) e.ts)) else s0
  let s2 := if flt tgt s1 then fmax tgt (fsub s1 (fmul (e.p b 1) e.ts)) else s1
  (((e.outF b s2).put b 0 s2).put b 1 tgt).mark b 7 (!feq s2 tgt)

/-- DESIGN CHOICE, log entry 39. -/
def CleEv.relayBlk (e : CleEv) (b : Nat) : CleEv :=
  let x := e.s.inF b 0
  let hys := e.p b 1
  let old := toSigned 32 (e.st b 0)
  let side : Int := if e.first then (if flt x 0 then -1 else 1)
    else if flt hys x then 1 else if flt x (fneg hys) then -1 else old
  let switched := !e.first && side != old
  let absx := (e.s.inSig b 0).natAbs
  let half := e.s.cleCount b + 1
  let e := e.put b 0 (ofSigned 32 side)
  let e := if switched then
      let e := (((e.put b 1 (e.n % 2 ^ 32)).put b 2 half).put b 3 absx).put b 4 ((e.st b 4 + 1) % 2 ^ 32)
      { e with s := e.s.setCleCount b 0, relay := true }
    else
      let e := e.put b 3 (max (e.st b 3) absx)
      { e with s := e.s.setCleCount b half }
  let v := fmul (fofInt side) (e.p b 0)
  let e := e.outF b (fadd (e.p b 2) v)
  -- ABORT ends the tuning in this evaluation (R275)
  if e.tuning && b == e.s.tuneRelay e.law && flt (e.p b 3) (fabs x) then
    let pid := e.s.tunePid e.law
    let e := if e.saveI then e else e.put pid 0 (e.st pid 4)
    { e with tuning := false, aborted := true }
  else e

/-- The device address of a law's mailbox area. -/
def State.outBase (s : State) (l : Nat) : Nat :=
  s.rd (CLE_LAW_OUT_LO l) CLE_LAW_OUT_LO_BASE * 0x1000 + 2 ^ 32 * s.rd (CLE_LAW_OUT_HI l) CLE_LAW_OUT_HI_BASE

/-- A sink's CLE trip source set. -/
def State.setCleSink (s : State) (n : Nat) (v : Bool) : State :=
  { s with out := { s.out with cle := cset (fun _ => false) s.out.cle n v } }

/-- The flag that AUX2 of a sink names, with FLAG_EN. -/
def State.sinkFlag (s : State) (b : Nat) : List (Nat × Nat) :=
  let w := s.blkWord b 3
  if w.testBit 31 then [(w % 8192, w / 8192 % 32)] else []

/-- DESIGN CHOICE, log entry 39. -/
def CleEv.sink (e : CleEv) (b : Nat) : CleEv :=
  let q := e.s.inSig b 0
  let x := q15ToF q
  let kind := e.s.blkOpt b % 4
  let aux := e.s.blkAux b
  let e := e.out b (q, false)
  let was := (e.st b 0).testBit 0
  let on := if flt (e.p b 0) x then true else if flt x (fsub (e.p b 0) (e.p b 1)) then false else was
  if kind = 0 then ({ e with s := e.s.setCleSink (aux % 256) on }).put b 0 (b2n on)
  else if kind = 1 then
    let (v, sat, e) : Nat × Bool × CleEv := match froundTo (fmul x (e.p b 2)) 0 (-(2 ^ 31 : Nat)) ((2 ^ 31 - 1 : Nat) : Int) with
      | some (i, sat) => (ofSigned 32 i, sat, e)
      | none => let (d, s) := e.s.draw; (d.toNat % 2 ^ 32, false, { e with s := s })
    ({ e with pubs := e.pubs ++ [(aux % 4096, aux / 65536 % 256, v)] } : CleEv).mark b 0 sat |>.put b 0 v
  else if kind = 2 then
    let n := e.s.cleCount b + 1
    let e := e.put b 0 (sigWord q)
    if n < max 1 (aux / 65536) then { e with s := e.s.setCleCount b n }
    else
      let s := e.s.devWrite (e.s.outBase e.law + 8 * (aux % 512)) (leBytes 4 (e.n % 2 ^ 32) ++ leBytes 4 x)
      { e with s := s.setCleCount b 0, tasks := e.tasks ++ s.sinkFlag b }
  else
    let hit := (on && !was && aux.testBit 0) || (!on && was && aux.testBit 1)
    let e := e.put b 0 (b2n on)
    if hit then { e with compare := true, tasks := e.tasks ++ e.s.sinkFlag b } else e

/-- The smallest, largest and middle of three. -/
def min3 (a b c : Int) : Int := min a (min b c)
def max3 (a b c : Int) : Int := max a (max b c)

/-- A block computed (R269). -/
def CleEv.block (e : CleEv) (b : Nat) : CleEv :=
  let e := { e with s := e.s.wrW (CLE_BLK_FLAGS b) (BitVec.ofNat 32 ((e.s.rdW (CLE_BLK_FLAGS b)).toNat % 256)) }
  let ty := e.s.blkType b
  let x := e.s.inF b 0
  if ty = 1 then e.src b
  else if ty = 2 then e.outF b (fmul (e.p b 0) x)
  else if ty = 3 then e.sum b
  else if ty = 4 then e.biquad b
  else if ty = 5 then e.fir8 b
  else if ty = 6 then e.pid b false
  else if ty = 7 then e.pid b true
  else if ty = 8 then
    let c := fmin (fmax x (e.p b 0)) (e.p b 1)
    (e.mark b 1 (!feq c x)).outF b c
  else if ty = 9 then e.ramp b
  else if ty = 10 then
    let w := e.p b 0
    if fle (fabs x) w then e.out b (0, false)
    else if (e.s.blkOpt b).testBit 0 then e.outF b (fsub x (fmul w (fofInt (if flt x 0 then -1 else 1))))
    else e.out b (e.s.inSig b 0, false)
  else if ty = 11 then
    let i := e.s.inSig b
    let m := e.s.blkOpt b % 4
    let v := if m = 0 then (if fle (e.p b 0) (e.s.inF b 2) then i 0 else i 1)
      else if m = 1 then min3 (i 0) (i 1) (i 2)
      else if m = 2 then max3 (i 0) (i 1) (i 2)
      else i 0 + i 1 + i 2 - min3 (i 0) (i 1) (i 2) - max3 (i 0) (i 1) (i 2)
    e.out b (v, false)
  else if ty = 12 then e.relayBlk b
  else if ty = 13 then e.sink b
  else e

/-! ### Traces (R282, R283) -/

def State.trcState (s : State) (l : Nat) : Nat := s.rd (CLE_TRC_STAT l) CLE_TRC_STAT_STATE

/-- The trace entry of evaluation `n` written by every enabled probe. -/
def State.trcWrite (s : State) (l n : Nat) : State :=
  let w := s.rd (CLE_TRC_STAT l) CLE_TRC_STAT_WRITE
  let base := s.rd CLE_TRACE_BASE_LO CLE_TRACE_BASE_LO_BASE * 2 ^ 24 + 2 ^ 32 * s.rd CLE_TRACE_BASE_HI CLE_TRACE_BASE_HI_BASE
  let s := (List.range 4).foldl (fun s p =>
    if s.rdB (CLE_TRC_PROBE l p) CLE_TRC_PROBE_EN then
      let b := s.rd (CLE_TRC_PROBE l p) CLE_TRC_PROBE_BLOCK
      let what := s.rd (CLE_TRC_PROBE l p) CLE_TRC_PROBE_WHAT
      let v := if what = 0 then sigWord (s.cleOut b) else if what = 1 then s.blkState b 0
        else if what = 2 then s.blkState b 1 else (s.rdW (CLE_BLK_FLAGS b)).toNat
      s.devWrite (base + l * 0x20000 + p * 0x8000 + 8 * w) (leBytes 4 (n % 2 ^ 32) ++ leBytes 4 v)
    else s) s
  let x := s.law l
  (s.setLaw l { x with trcCount := x.trcCount + 1 }).wr (CLE_TRC_STAT l) CLE_TRC_STAT_WRITE ((w + 1) % 4096)

/-- POST ends when its entries are written. -/
def State.trcEnd (s : State) (l : Nat) : State :=
  let x := s.law l
  let done := if s.rdB (CLE_TRC_CFG l) CLE_TRC_CFG_MODE then decide (4096 ≤ x.trcCount)
    else decide (s.rd (CLE_TRC_CFG l) CLE_TRC_CFG_POST ≤ x.trcPost)
  if s.trcState l = 2 && done && !x.trcForce then s.wr (CLE_TRC_STAT l) CLE_TRC_STAT_STATE 3 else s

/-- The trace at the commit of evaluation `n`; `trigger` when the commit raises a selected event or is the first after a
Solstice strobe. -/
def State.trcCommit (s : State) (l n : Nat) (trigger : Bool) : State :=
  let st := s.trcState l
  let x := s.law l
  let x := { x with trcEvals := x.trcEvals + 1 }
  let s := s.setLaw l x
  let due := x.trcEvals % (s.rd (CLE_TRC_CFG l) CLE_TRC_CFG_DIV + 1) == 0
  let oneShot := s.rdB (CLE_TRC_CFG l) CLE_TRC_CFG_MODE
  if st = 1 ∧ trigger then
    let s := (s.wr (CLE_TRC_STAT l) CLE_TRC_STAT_TRIG_POS (s.rd (CLE_TRC_STAT l) CLE_TRC_STAT_WRITE)).wr
      (CLE_TRC_STAT l) CLE_TRC_STAT_STATE 2
    (s.trcWrite l n).trcEnd l
  else
    let s := if trigger then s.bump (cntCLE_TRIG_IGNORED l) 1 else s
    if st = 1 then if due && !oneShot then s.trcWrite l n else s
    else if st = 2 then
      if x.trcForce then ((s.setLaw l { x with trcForce := false }).trcWrite l n).trcEnd l
      else if due then
        let s := s.trcWrite l n
        let y := s.law l
        (s.setLaw l { y with trcPost := y.trcPost + 1 }).trcEnd l
      else s
    else s

/-! ### Auto-tune (R284, R285) -/

/-- The auto-tune of a law. -/
def State.tuneOf (s : State) (l : Nat) : Option CleTune := s.cle.tunes.find? (fun t => t.law == l)

/-- Event 0x0604: phases 1 start, 2 end, 3 abort. -/
def State.tuneEvent (s : State) (l phase reason ku pu : Nat) : State :=
  s.postTenant 0x0604 (s.lawOwner l) (p2 l ++ p1 phase ++ p1 reason ++ p4 ku ++ p4 pu)

/-- A decimal constant of R285 rounded to binary32. -/
def fdec (n d : Nat) : Nat := fofRat (n : Int) d

/-- Kp, Ki and Kd of R285.
DESIGN CHOICE, log entry 39. -/
def tuneGains (rule : Nat) (pid : Bool) (ku pu : Nat) : Nat × Nat × Nat :=
  if rule = 0 then
    if pid then (fmul (fdec 6 10) ku, fdiv (fmul (fdec 12 10) ku) pu, fmul (fmul (fdec 75 1000) ku) pu)
    else (fmul (fdec 45 100) ku, fdiv (fmul (fdec 54 100) ku) pu, 0)
  else
    let kp := if pid then fdiv ku (fdec 22 10) else fdiv ku (fdec 32 10)
    (kp, fdiv kp (fmul (fdec 22 10) pu), if pid then fdiv (fmul kp pu) (fdec 63 10) else 0)

/-- An auto-tune ends: what its completion carries is kept for COMPLETION and CLAW_AUTOTUNE_APPLY. -/
def State.endTune (s : State) (l status reason : Nat) : State :=
  match s.tuneOf l with
  | none => s
  | some t =>
    let cyc := (t.done.drop 2).take t.cycles
    let k := cyc.length
    let pu := fofRat ((cyc.map (·.1)).sum : Nat) (max 1 (k * s.lawRate l))
    let a := fofRat ((cyc.map (fun c => c.2.1 - c.2.2)).sum) (2 * max 1 k * 32768)
    let ku := fdiv (fmul (fofInt 4) t.amp) (fmul 0x40490FDB (fsqrt (fsub (fmul a a) (fmul t.hys t.hys))))
    let status := if status = 0 ∧ fle a t.hys then 0x0524 else status
    let (kp, ki, kd) := tuneGains t.rule (s.blkType (s.tunePid l) == 7) ku pu
    let ok := status == 0
    let z := fun v => if ok then v else 0
    let d : CleTuned := { law := l, tag := t.tag, status, reason, cycles := k, ku := z ku, pu := z pu, a := z a,
                          kp := z kp, ki := z ki, kd := z kd, commits := (s.law l).commits }
    let s := { s with cle := { s.cle with tunes := s.cle.tunes.filter (fun u => u.law != l), tuned := s.cle.tuned ++ [d] } }
    s.tuneEvent l (if ok then 2 else 3) reason d.ku d.pu

/-- The auto-tune sees a committed TUNING evaluation: cycles are measured between rising switches (R284). -/
def State.tuneSee (s : State) (l n : Nat) (switched : Bool) : State :=
  match s.tuneOf l with
  | none => s
  | some t =>
    let relay := s.tuneRelay l
    let e := s.inSig relay 0
    let t := if switched then { t with switchAt := s.now } else t
    let t := if switched && toSigned 32 (s.blkState relay 0) == 1 then
        match t.cycle with
        | some (n0, mx, mn) => { t with done := t.done ++ [(n - n0, mx, mn)], cycle := some (n, e, e) }
        | none => { t with cycle := some (n, e, e) }
      else match t.cycle with
        | some (n0, mx, mn) => { t with cycle := some (n0, max mx e, min mn e) }
        | none => t
    { s with cle := { s.cle with tunes := s.cle.tunes.map (fun u => if u.law = l then t else u) } }

/-! ### Triggers, evaluation and commit (R261, R263, R265, R266) -/

/-- A law's state changes, with event 0x0603 (R275).
DESIGN CHOICE, log entry 13. -/
def State.setLawState (s : State) (l new cause blk : Nat) : State :=
  let old := s.lawState l
  (s.wr (CLE_LAW_STATE l) CLE_LAW_STATE_STATE new).postTenant 0x0603 (s.lawOwner l)
    (p2 l ++ p1 old ++ p1 new ++ p1 cause ++ p2 blk)

/-- Whether a law's trigger of evaluation `n` is accepted: the engine enabled, and RUNNING or TUNING. -/
def State.lawTakes (s : State) (l : Nat) : Bool :=
  s.clePresent && decide (l < 128) && s.rdB CLE_CTRL CLE_CTRL_EN && (s.lawState l == 1 || s.lawState l == 2)

/-- Evaluation `n` of a law is triggered: an evaluation still waiting is abandoned (R265), and the new one joins the queue,
before those that higher laws triggered at this instant (R263). -/
def State.cleTrigger (s : State) (l n : Nat) : State :=
  if !s.lawTakes l then s
  else
    let s := match s.cle.evals.find? (fun e => e.law == l) with
      | some e =>
        let s := { s with cle := { s.cle with evals := s.cle.evals.filter (fun x => x.law != l) } }
        let s := (s.wrB (CLE_LAW_STATE l) CLE_LAW_STATE_OVERRUN true).bump (cntCLE_OVERRUNS l) 1
        let s := s.setLaw l { s.law l with overran := true }
        s.postLimited (s.lawOwner l) 0x0601 l (p2 l ++ p4 (e.n % 2 ^ 32) ++ p4 (s.now - e.trig))
      | none => s
    let s := s.setLaw l { s.law l with trig := some n, trigAt := s.now, lost := false, inst := (s.lawClock l).inst }
    let ev : CleEval := { law := l, n := n, trig := s.now }
    let before := s.cle.evals.takeWhile (fun x => x.trig != s.now || decide (x.law < l))
    { s with cle := { s.cle with evals := before ++ ev :: s.cle.evals.drop before.length } }

/-- Triggers of STREAM laws from the real entries that ingest has written, lower laws first at one entry (R261, R281). -/
def State.cleStream (s : State) (written : List (Nat × Nat)) : State :=
  written.foldl (fun s (w : Nat × Nat) =>
    s.laws.foldl (fun s l =>
      if !s.rdB (CLE_LAW_CLK l) CLE_LAW_CLK_MODE ∧ s.rd (CLE_LAW_CLK l) CLE_LAW_CLK_HANDLE = w.1 then
        let x := s.law l
        let newer := match x.trig with | some m => decide (m < w.2) || x.inst != (s.lawClock l).inst | none => true
        if newer then s.cleTrigger l w.2 else s
      else s) s) s

/-- The sample instant plus LAG in GRID mode (R261). -/
def opGridTrigger (l : Nat) (s : State) : State :=
  let ty := (s.lawClock l).type
  let r := s.lawRate l
  let lag := s.rd (CLE_LAW_LAG l) CLE_LAW_LAG_NS
  if s.rdB (CLE_LAW_CLK l) CLE_LAW_CLK_MODE && (ty == 1 || ty == 3) && decide (lag ≤ s.dom) && decide (0 < r) then
    let n := sampleAt r (s.dom - lag)
    if (s.law l).trig = some n ∧ (s.law l).inst = (s.lawClock l).inst then s else s.cleTrigger l n
  else s

def execGridTrigger (t law : Nat) (s : State) : Host.Outcome State Fault Refusal := s.runAt t (opGridTrigger law)

/-- The tuning state left: I is the saved I. -/
def State.restoreI (s : State) (l : Nat) : State :=
  s.setBlkState (s.tunePid l) 0 (s.blkState (s.tunePid l) 4)

/-- An evaluation's commit: what it does beyond its outputs, state words and flags (R265, R272, R273, R283). -/
def CleEv.commit (e : CleEv) (trig : Nat) : State :=
  let l := e.law
  let s := e.s
  let x := s.law l
  let stream := !s.rdB (CLE_LAW_CLK l) CLE_LAW_CLK_MODE
  let skipped := match x.last with | some m => if stream ∧ m < e.n then e.n - m - 1 else 0 | none => 0
  let strobes := s.rd SYS_SNAP_STAT SYS_SNAP_STAT_COUNT
  let fresh := strobes != x.strobes
  let ovr := x.overran
  let s := s.setLaw l { x with last := some e.n, fresh := false, swap := none, bumpless := false, saveI := false,
                               overran := false, strobes := strobes }
  let lat := s.now - trig
  let s := s.wrW (CLE_LAW_INDEX l) (BitVec.ofNat 32 e.n)
  let s := (s.wr (CLE_LAW_LAT l) CLE_LAW_LAT_LAST_NS (satNat 65535 lat)).wr (CLE_LAW_LAT l) CLE_LAW_LAT_MAX_NS
    (max (s.rd (CLE_LAW_LAT l) CLE_LAW_LAT_MAX_NS) (satNat 65535 lat))
  let s := (s.bump (cntCLE_EVALS l) 1).bump (cntCLE_SKIPPED l) skipped
  let s := s.bump (cntCLE_MISS l) e.missed
  let s := if e.sat then s.bump (cntCLE_SAT_EVENTS l) 1 else s
  -- sinks
  let s := s.writePublish e.pubs
  let s := e.tasks.foldl (fun s f => s.setFlags f.1 (2 ^ f.2)) s
  let s := s.settle
  -- tuning
  let s := if e.tuning then s.tuneSee l e.n (e.relay && (s.rdW (CLE_BLK_STATE (s.tuneRelay l) 1)).toNat == e.n % 2 ^ 32)
    else s
  let s := if e.aborted then
      ((s.wrB (CLE_LAW_STATE l) CLE_LAW_STATE_TUNE_ABORT true).setLawState l 1 7 (s.tuneRelay l)).endTune l 0x0523 3
    else s
  -- law events
  let events := b2n e.compare + 2 * b2n e.sat + 4 * b2n ovr + 8 * b2n e.relay
  let s := s.trcCommit l e.n ((s.rdB (CLE_TRC_CFG l) CLE_TRC_CFG_TRIG_SOLSTICE && fresh)
    || (events &&& s.rd (CLE_TRC_CFG l) CLE_TRC_CFG_EVENTS) != 0)
  if (s.rdB SYS_SNAP_CLE SYS_SNAP_CLE_ANY_LAW || s.rd SYS_SNAP_CLE SYS_SNAP_CLE_LAW == l)
      && (events &&& s.rd SYS_SNAP_CLE SYS_SNAP_CLE_EVENTS) != 0 then s.fireSource 4 else s

/-- A lane evaluates the head of the queue: fetch, blocks in order, commit (R263).
DESIGN CHOICE, log entry 39; DESIGN CHOICE, log entry 40. -/
def opLawEvaluation (s : State) : State :=
  match s.cle.evals with
  | [] => s
  | ev :: rest =>
    let s := { s with cle := { s.cle with evals := rest } }
    let l := ev.law
    let x := s.law l
    let e : CleEv := { s := s, law := l, n := ev.n, r := s.lawRate l, set := s.activeSet l, first := x.fresh, swap := x.swap
                       bumpless := x.bumpless, saveI := x.saveI, tuning := s.lawState l == 2 }
    ((s.lawBlocks l).foldl (fun e b => e.block b) e).commit ev.trig

def execLawEvaluation (t : Nat) (s : State) : Host.Outcome State Fault Refusal := s.runAt t opLawEvaluation

/-- No trigger for TIMEOUT sample periods (R266). -/
def opClockLost (l : Nat) (s : State) : State :=
  let x := s.law l
  let k := s.rd (CLE_LAW_TIMEOUT l) CLE_LAW_TIMEOUT_PERIODS
  if s.lawTakes l && !s.rdB (CLE_LAW_CLK l) CLE_LAW_CLK_MODE && k != 0 && !x.lost
      && decide (k * 1000000000 ≤ (s.now - x.trigAt) * s.lawRate l) then
    let s := (s.setLaw l { x with lost := true }).wrB (CLE_LAW_STATE l) CLE_LAW_STATE_CLOCK_LOST true
    s.postTenant 0x0602 (s.lawOwner l)
      (p2 l ++ p2 (s.rd (CLE_LAW_CLK l) CLE_LAW_CLK_HANDLE) ++ p4 (s.rdW (CLE_LAW_INDEX l)).toNat)
  else s

def execClockLost (t law : Nat) (s : State) : Host.Outcome State Fault Refusal := s.runAt t (opClockLost law)

/-! ### START (R264, R276, R277) -/

/-- The time of a block type in ns (R269). -/
def blockTime (ty : Nat) : Nat :=
  [0, 4, 6, 4, 10, 12, 24, 36, 6, 16, 6, 4, 8, 8].getD ty 0

/-- W of a law (R263). -/
def State.lawCost (s : State) (l : Nat) : Nat :=
  let ts := (s.lawBlocks l).map s.blkType
  (if ts.contains 1 then 300 else 0) + (ts.map blockTime).sum + 40

/-- ΣW · r of the laws that count, in lane-ns per second, `but` left out (R264). -/
def State.cleLoad (s : State) (but : Option Nat) : Nat :=
  ((s.laws.filter (fun l => some l != but && (s.lawState l == 1 || s.lawState l == 2 || s.lawState l == 3))).map
    (fun l => (s.law l).load)).sum

/-- CLE_LOAD follows the law states. -/
def State.cleLoadShow (s : State) : State := s.wr CLE_LOAD CLE_LOAD_LOAD (s.cleLoad none / 1000000)

/-- A stream that an SRC or a law may read: SV or local, its ring in DRAM. -/
def State.cleStreamOk (s : State) (e : StreamEnt) : Bool :=
  (e.type == 1 || e.type == 3) && s.inDram e.base (ringStride e.channels * e.depth)

/-- Check of a block's type and wiring. -/
def State.wireOk (s : State) (l b : Nat) : Bool :=
  let bs := s.lawBlocks l
  decide (1 ≤ s.blkType b) && decide (s.blkType b ≤ 13) && [0, 1, 2].all (fun k => match s.blkIn b k with
    | some x => bs.contains x
    | none => true)

/-- Check of an SRC block's stream. -/
def State.srcBlkOk (s : State) (b : Nat) : Bool :=
  let e := s.stream s.ingActive (s.blkAux b % 16384)
  s.blkType b != 1 || (s.cleStreamOk e && decide (s.blkAux b / 65536 % 32 < e.channels))

/-- Check of a sink's slot, flag task and mailbox frame. -/
def State.sinkOk (s : State) (l b : Nat) : Bool :=
  let o := s.lawOwner l
  let kind := s.blkOpt b % 4
  s.blkType b != 13 ||
    ((kind != 1 || s.slotOwner (s.blkAux b % 4096) == some o)
      && (kind < 2 || (s.sinkFlag b).all (fun f => s.ownsTask o f.1))
      && (kind != 2 || (s.frameEntry (s.outBase l)).map (·.1) == some o))

/-- The publish elements that a law drives. -/
def State.lawElems (s : State) (l : Nat) : List (Nat × Nat) :=
  ((s.lawBlocks l).filter (fun b => s.blkType b == 13 && s.blkOpt b % 4 == 1)).map
    (fun b => (s.blkAux b % 4096, s.blkAux b / 65536 % 256))

/-- The checks of R276 in order: RESULT 0, or the first failure with its block.
DESIGN CHOICE, log entry 39. -/
def State.lawChecks (s : State) (l : Nat) : Nat × Nat :=
  let bs := s.lawBlocks l
  let first := s.rd (CLE_LAW_CFG l) CLE_LAW_CFG_FIRST
  if !s.rdB (CLE_LAW_CFG l) CLE_LAW_CFG_VALID || decide (2048 < first + bs.length) then (2, first)
  else match bs.find? (fun b => !s.wireOk l b) with
  | some b => (2, b)
  | none => match bs.find? (fun b => !s.srcBlkOk b) with
  | some b => (2, b)
  | none =>
    if !s.cleStreamOk (s.lawClock l) then (2, first)
    else match bs.find? (fun b => !s.sinkOk l b) with
    | some b => (2, b)
    | none =>
      let relay := s.tuneRelay l
      let pid := s.tunePid l
      if bs.contains relay ∧ s.blkType relay = 12 ∧
          !(bs.contains pid && decide (relay < pid) && (s.blkType pid == 6 || s.blkType pid == 7)) then (2, relay)
      else
        let others := s.laws.filter (fun m => m != l && s.lawState m != 0)
        match bs.find? (fun b => s.blkType b == 13 &&
            ((s.blkOpt b % 4 == 0 && others.any (fun m => s.lawDrives m (s.blkAux b % 256)))
              || (s.blkOpt b % 4 == 1 &&
                  others.any (fun m => (s.lawElems m).contains (s.blkAux b % 4096, s.blkAux b / 65536 % 256))))) with
        | some b => (5, b)
        | none =>
          let w := s.lawCost l
          let r := s.lawRate l
          if 1000000000 ≤ w * r ∨ 7200000000 < s.cleLoad (some l) + w * r then (3, first) else (0, 0)

/-- Initialisation (R277): what its first evaluation needs, every BIND and COMPARE state OFF. -/
def State.lawInit (s : State) (l : Nat) : State :=
  let s := s.setLaw l { s.law l with fresh := true, trig := none, last := none, trigAt := s.now, lost := false,
                                     overran := false, inst := (s.lawClock l).inst, load := s.lawCost l * s.lawRate l }
  (s.lawBlocks l).foldl (fun s b =>
    let k := s.blkOpt b % 4
    if s.blkType b = 13 ∧ (k = 0 ∨ k = 3) then
      let s := s.setBlkState b 0 0
      if k = 0 then s.setCleSink (s.blkAux b % 256) false else s
    else s) s

/-- The sinks at their STOPPED or SUSPENDED values (R272). -/
def State.sinksStop (s : State) (l : Nat) : State :=
  let set := s.activeSet l
  let (s, w) := (s.lawBlocks l).foldl (fun (acc : State × List (Nat × Nat × Nat)) b =>
    let (s, w) := acc
    let k := s.blkOpt b % 4
    let aux := s.blkAux b
    if s.blkType b ≠ 13 then acc
    else if k = 0 then ((s.setCleSink (aux % 256) false).setBlkState b 0 0, w)
    else if k = 1 then
      let v := froundTo (fmul (s.blkParam set b 3) (s.blkParam set b 2)) 0 (-(2 ^ 31 : Nat)) ((2 ^ 31 - 1 : Nat) : Int)
      match v with
      | some (i, sat) => ((s.setBlkState b 0 (ofSigned 32 i)).markSat b sat, w ++ [(aux % 4096, aux / 65536 % 256, ofSigned 32 i)])
      | none => let (d, s) := s.draw; (s, w ++ [(aux % 4096, aux / 65536 % 256, d.toNat % 2 ^ 32)])
    else acc) (s, [])
  (s.writePublish w).settle

/-- RESULT and DETAIL of a law command. -/
def State.lawResult (s : State) (l r d : Nat) : State :=
  (s.wr (CLE_LAW_CMD l) CLE_LAW_CMD_RESULT r).wr (CLE_LAW_CMD l) CLE_LAW_CMD_DETAIL d

/-- START of a law: RESULT, the failing block, and the machine (R275, R276).
DESIGN CHOICE, log entry 39. -/
def State.lawStart (s : State) (l : Nat) : (Nat × Nat) × State :=
  let os := s.tenState (s.lawOwner l)
  if s.lawState l ≠ 0 then ((1, 0), s)
  else if s.rdB (CLE_LAW_CFG l) CLE_LAW_CFG_VALID && !(os == 1 || os == 2 || os == 4) then ((1, 0), s)
  else
    let (r, b) := s.lawChecks l
    if r ≠ 0 then ((r, b), s)
    else
      let s := s.wrW (CLE_LAW_TS l) (BitVec.ofNat 32 (fofRat 1 (s.lawRate l)))
      let s := s.wr (CLE_LAW_COST l) CLE_LAW_COST_W_NS (satNat 65535 (s.lawCost l))
      let s := s.setLaw l { s.law l with load := s.lawCost l * s.lawRate l }
      ((0, 0), if os = 2 then ((s.lawInit l).setLawState l 1 1 0).settle.cleLoadShow else s.setLawState l 4 1 0)

def opCleStart (l : Nat) (s : State) : State :=
  if s.clePresent ∧ l < 128 then let ((r, d), s) := s.lawStart l; s.lawResult l r d else s

def execCleStart (t law : Nat) (s : State) : Host.Outcome State Fault Refusal := s.runAt t (opCleStart law)

/-! ### Coefficient sets, TUNE and UNTUNE (R275, R278 to R281) -/

/-- The pending bits of a law follow its stages. -/
def State.lawPending (s : State) (l : Nat) : State :=
  let has := fun op => s.cle.stages.any (fun x => x.law == l && x.op == op)
  let b := s.cle.stages.any (fun x => x.law == l && x.op == 3 && x.bumpless)
  (((s.wrB (CLE_LAW_STATE l) CLE_LAW_STATE_COMMIT_PENDING (has 3)).wrB (CLE_LAW_STATE l) CLE_LAW_STATE_TUNE_PENDING
    (has 5)).wrB (CLE_LAW_STATE l) CLE_LAW_STATE_UNTUNE_PENDING (has 6)).wrB (CLE_LAW_STATE l)
      CLE_LAW_STATE_BUMPLESS_PENDING b

/-- A law's stages of the kinds that `p` names withdrawn. -/
def State.dropStages (s : State) (l : Nat) (p : Nat → Bool) : State :=
  ({ s with cle := { s.cle with stages := s.cle.stages.filter (fun x => !(x.law == l && p x.op)) } } : State).lawPending l

/-- Kp of each PI and PID block of a law in a bank (R280). -/
def State.lawKps (s : State) (l set : Nat) : List (Nat × Nat) :=
  ((s.lawBlocks l).filter (fun b => s.blkType b == 6 || s.blkType b == 7)).map (fun b => (b, s.blkParam set b 0))

/-- A commit takes effect: ACTIVE_SET toggles, and Kp of the bank left is kept for the swap evaluation (R280). -/
def State.lawToggle (s : State) (l : Nat) (bumpless : Bool) : State :=
  let old := s.activeSet l
  let x := s.law l
  (s.setLaw l { x with swap := some (s.lawKps l old), bumpless := bumpless, commits := x.commits + 1 }).wr (CLE_LAW_STATE l)
    CLE_LAW_STATE_ACTIVE_SET (1 - old)

/-- A staged change of a law takes effect (R275, R279, R281). -/
def State.lawTake (s : State) (x : CleStage) : State :=
  let l := x.law
  if x.op = 3 then s.lawToggle l x.bumpless
  else if x.op = 5 then
    if s.lawState l ≠ 1 then s
    else
      let pid := s.tunePid l
      let y := s.law l
      let s := if y.swap.isSome then s.setLaw l { y with saveI := true } else s.setBlkState pid 4 (s.blkState pid 0)
      s.setLawState l 2 5 0
  else if s.lawState l ≠ 2 then s
  else (s.restoreI l).setLawState l 1 6 0

/-- Step 4 of R48: every due change of every law. Reports whether anything took effect. -/
def State.cleStep4 (s : State) (k : Nat) : Bool × State :=
  let due := s.cle.stages.filter (fun x => decide (x.eff ≤ k))
  let s : State := { s with cle := { s.cle with stages := s.cle.stages.filter (fun x => !decide (x.eff ≤ k)) } }
  let order := due.filter (fun x => x.op == 3) ++ due.filter (fun x => x.op != 3)
  (!due.isEmpty, order.foldl (fun s x => (s.lawTake x).lawPending x.law) s)

/-- A change staged; it takes effect at once where no boundary is waited for. Either way it replaces the change of its kind
staged before it (R279). -/
def State.stageLaw (s : State) (l op : Nat) (bumpless now : Bool) : State :=
  let x : CleStage := { law := l, op := op, bumpless := bumpless, eff := s.stageAt }
  if now || !s.gridOn then ((s.dropStages l (· == op)).lawTake x).noteApplied
  else
    let keep := s.cle.stages.filter (fun y => !(y.law == l && y.op == op))
    ({ s with cle := { s.cle with stages := keep ++ [x] } } : State).lawPending l

/-- The first block of a law whose set in bank `b` R279 refuses. -/
def State.badCoeff (s : State) (l set : Nat) : Option Nat :=
  (s.lawBlocks l).find? (fun b =>
    let p := s.blkParam set b
    let ty := s.blkType b
    let neg := fun i => flt (p i) 0
    if ty = 6 ∨ ty = 7 then
      flt (p 5) (p 4) || flt (p 7) (p 6) || (ty == 7 && (neg 3 || !flt (p 3) (fofInt 1)))
    else if ty = 8 then flt (p 1) (p 0)
    else if ty = 9 then flt (p 3) (p 2) || neg 0 || neg 1
    else if ty = 10 then neg 0
    else if ty = 12 then neg 0 || neg 1
    else if ty = 13 then neg 1
    else false)

/-- COMMIT of a law's shadow set: RESULT and failing block (R279). -/
def State.lawCommit (s : State) (l : Nat) (bumpless : Bool) : (Nat × Nat) × State :=
  match s.badCoeff l (1 - s.activeSet l) with
  | some b => ((4, b), s)
  | none =>
    let st := s.lawState l
    ((0, 0), s.stageLaw l 3 bumpless (st == 0 || st == 3 || st == 4))

def opCleCommit (l : Nat) (bumpless : Bool) (s : State) : State :=
  if s.clePresent ∧ l < 128 then
    let s := s.wrB (CLE_LAW_CMD l) CLE_LAW_CMD_BUMPLESS bumpless
    let ((r, d), s) := s.lawCommit l bumpless
    s.lawResult l r d
  else s

def execCleCommit (t law : Nat) (bumpless : Bool) (s : State) : Host.Outcome State Fault Refusal :=
  s.runAt t (opCleCommit law bumpless)

/-- The active parameters of a law's blocks copied into its shadow (R278). -/
def State.copyActive (s : State) (l : Nat) : State :=
  let a := s.activeSet l
  (s.lawBlocks l).foldl (fun s b => (List.range 8).foldl (fun s i =>
    s.setBlkParam (1 - a) b i (s.blkParam a b i)) s) s

/-- A write to the shadow while COMMIT_PENDING is 1 is ignored (R278), COPY_ACTIVE's too.
DESIGN CHOICE, log entry 39. -/
def opCopyActive (l : Nat) (s : State) : State :=
  if s.clePresent ∧ l < 128 then
    let s := if s.rdB (CLE_LAW_STATE l) CLE_LAW_STATE_COMMIT_PENDING then s.cleRej else s.copyActive l
    s.lawResult l 0 0
  else s

def execCopyActive (t law : Nat) (s : State) : Host.Outcome State Fault Refusal := s.runAt t (opCopyActive law)

def opCleTune (l : Nat) (s : State) : State :=
  if s.clePresent ∧ l < 128 then
    if s.lawState l = 1 then (s.stageLaw l 5 false false).lawResult l 0 0 else s.lawResult l 1 0
  else s

def execCleTune (t law : Nat) (s : State) : Host.Outcome State Fault Refusal := s.runAt t (opCleTune law)

def opCleUntune (l : Nat) (s : State) : State :=
  if s.clePresent ∧ l < 128 then
    if s.lawState l = 2 then (s.stageLaw l 6 false false).lawResult l 0 0 else s.lawResult l 1 0
  else s

def execCleUntune (t law : Nat) (s : State) : Host.Outcome State Fault Refusal := s.runAt t (opCleUntune law)

/-! ### STOP, SUSPENDED, HELD (R275) -/

/-- A law's waiting evaluation is abandoned; nothing of it takes effect. -/
def State.dropEvals (s : State) (l : Nat) : State :=
  { s with cle := { s.cle with evals := s.cle.evals.filter (fun e => e.law != l) } }

/-- A law leaves RUNNING or TUNING: its evaluation is abandoned, a tune ends, I = S4. -/
def State.lawLeave (s : State) (l reason : Nat) : State :=
  let s := s.dropEvals l
  let s := (if s.lawState l = 2 then s.restoreI l else s).dropStages l (fun op => op != 3)
  s.endTune l 0x0523 reason

/-- STOP, or the owner's RELEASE: sinks at their STOPPED values, a pending commit in effect (R275, R281). -/
def State.lawStop (s : State) (l cause : Nat) : State :=
  let s := s.lawLeave l 5
  let s := match s.cle.stages.find? (fun x => x.law == l && x.op == 3) with
    | some x => (s.lawToggle l x.bumpless).dropStages l (fun _ => true)
    | none => s
  ((s.sinksStop l).setLawState l 0 cause 0).settle.cleLoadShow

def opCleStop (l : Nat) (s : State) : State :=
  if s.clePresent ∧ l < 128 then
    if s.lawState l = 0 then s.lawResult l 1 0 else (s.lawStop l 2).lawResult l 0 0
  else s

def execCleStop (t law : Nat) (s : State) : Host.Outcome State Fault Refusal := s.runAt t (opCleStop law)

/-- The VALID laws of a tenant. -/
def State.lawsOf (s : State) (t : Nat) : List Nat := s.laws.filter (fun l => s.lawOwner l == t)

/-- The owner's safe-value step (R209 step 6): RUNNING and TUNING laws are SUSPENDED. A pending commit takes effect. -/
def State.lawsSuspend (s : State) (t : Nat) : State :=
  (s.lawsOf t).foldl (fun s l =>
    if s.lawState l = 1 ∨ s.lawState l = 2 then
      let s := s.lawLeave l 4
      let s := match s.cle.stages.find? (fun x => x.law == l && x.op == 3) with
        | some x => (s.lawToggle l x.bumpless).dropStages l (fun _ => true)
        | none => s
      ((s.sinksStop l).setLawState l 4 3 0).settle.cleLoadShow
    else s) s

/-- The owner is stopped for migration: its laws hold (R222, R275). -/
def State.lawsHold (s : State) (t : Nat) : State :=
  (s.lawsOf t).foldl (fun s l =>
    if s.lawState l = 1 ∨ s.lawState l = 2 then ((s.lawLeave l 4).setLawState l 3 4 0).settle else s) s

/-- The owner enters RUNNING or resumes: HELD laws run on, SUSPENDED laws are checked and initialised (R275). -/
def State.lawsRun (s : State) (t : Nat) : State :=
  (s.lawsOf t).foldl (fun s l =>
    if s.lawState l = 3 then
      ((s.setLaw l { s.law l with trigAt := s.now }).setLawState l 1 8 0).settle
    else if s.lawState l = 4 then
      let (r, b) := s.lawChecks l
      if r = 0 then ((s.lawInit l).setLawState l 1 9 0).settle.cleLoadShow else s.setLawState l 4 9 b
    else s) s

/-- The owner's RELEASE: HELD and SUSPENDED laws stop (R275). -/
def State.lawsRelease (s : State) (t : Nat) : State :=
  (s.lawsOf t).foldl (fun s l => if s.lawState l = 0 then s else s.lawStop l 10) s

/-! ### Trace commands (R283) -/

def opTraceArm (l : Nat) (s : State) : State :=
  if s.clePresent ∧ l < 128 ∧ (s.trcState l = 0 ∨ s.trcState l = 3) then
    let x := s.law l
    let s := s.setLaw l { x with trcEvals := 0, trcCount := 0, trcPost := 0, trcForce := false,
                                 strobes := s.rd SYS_SNAP_STAT SYS_SNAP_STAT_COUNT }
    (s.wr (CLE_TRC_STAT l) CLE_TRC_STAT_WRITE 0).wr (CLE_TRC_STAT l) CLE_TRC_STAT_STATE 1
  else s

def execTraceArm (t law : Nat) (s : State) : Host.Outcome State Fault Refusal := s.runAt t (opTraceArm law)

def opTraceDisarm (l : Nat) (s : State) : State :=
  if s.clePresent ∧ l < 128 then
    (s.setLaw l { s.law l with trcForce := false }).wr (CLE_TRC_STAT l) CLE_TRC_STAT_STATE 0
  else s

def execTraceDisarm (t law : Nat) (s : State) : Host.Outcome State Fault Refusal := s.runAt t (opTraceDisarm law)

/-- TRIGGER: POST from here, the next commit the trigger evaluation; ignored and counted unless ARMED. -/
def opTraceTrigger (l : Nat) (s : State) : State :=
  if s.clePresent ∧ l < 128 then
    if s.trcState l = 1 then
      let s := s.setLaw l { s.law l with trcForce := true }
      (s.wr (CLE_TRC_STAT l) CLE_TRC_STAT_TRIG_POS (s.rd (CLE_TRC_STAT l) CLE_TRC_STAT_WRITE)).wr (CLE_TRC_STAT l)
        CLE_TRC_STAT_STATE 2
    else s.bump (cntCLE_TRIG_IGNORED l) 1
  else s

def execTraceTrigger (t law : Nat) (s : State) : Host.Outcome State Fault Refusal := s.runAt t (opTraceTrigger law)

/-! ### Set-point words (R274) -/

/-- TW_SP j written by the tenant in service on a core; a NaN or an infinity leaves the word. -/
def opTwSpWrite (core j : Nat) (v : Word) (s : State) : State :=
  match s.coreTenant core with
  | none => s
  | some t =>
    if !s.clePresent ∨ 1024 ≤ j ∨ isNan v.toNat ∨ isInf v.toNat then s
    else { s with cle := { s.cle with sp := cset (fun _ => 0) s.cle.sp (t * 1024 + j) v } }

def execTwSpWrite (t core j : Nat) (value : Word) (s : State) : Host.Outcome State Fault Refusal :=
  s.runAt t (opTwSpWrite core j value)

/-! ### Auto-tune ends (R284) -/

/-- The cycles are complete: UNTUNE is staged and the completion is due. -/
def opAutotuneComplete (l : Nat) (s : State) : State :=
  match s.tuneOf l with
  | none => s
  | some t =>
    if t.done.length < 2 + t.cycles then s
    else
      let s := s.endTune l 0 0
      if s.lawState l = 2 then s.stageLaw l 6 false false else s.dropStages l (fun op => op == 5)

def execAutotuneComplete (t law : Nat) (s : State) : Host.Outcome State Fault Refusal :=
  s.runAt t (opAutotuneComplete law)

/-- An auto-tune ends early: UNTUNE is staged if the law is TUNING, a TUNE not yet in effect is withdrawn. -/
def State.abortTune (s : State) (l reason : Nat) : State :=
  if (s.tuneOf l).isNone then s
  else
    let s := s.endTune l 0x0523 reason
    if s.lawState l = 2 then s.stageLaw l 6 false false else s.dropStages l (fun op => op == 5)

/-- The relay is silent for MAX_TIME / 4, or the cycles are not complete within MAX_TIME. -/
def opAutotuneTimeout (l : Nat) (s : State) : State :=
  match s.tuneOf l with
  | none => s
  | some t =>
    if t.start + t.maxTime * 1000000 ≤ s.now then s.abortTune l 2
    else if s.lawState l = 2 ∧ t.switchAt + t.maxTime * 250000 ≤ s.now then s.abortTune l 1
    else s

def execAutotuneTimeout (t law : Nat) (s : State) : Host.Outcome State Fault Refusal :=
  s.runAt t (opAutotuneTimeout law)

/-- CLE_LAW_LAT read: MAX_NS clears (R287). -/
def opCleLawLatRead (l : Nat) (s : State) : State :=
  if s.clePresent ∧ l < 128 then
    (s.wr (CLE_LAW_LAT l) CLE_LAW_LAT_MAX_NS 0).answer (s.rdW (CLE_LAW_LAT l)).toNat
  else s.answer 0

def execCleLawLatRead (t law : Nat) (s : State) : Host.Outcome State Fault Refusal :=
  s.runAt t (opCleLawLatRead law)

end Sys2Proof.Machine
end

