-- ==== Sys2Proof/Machine/Lge.lean ====
section
/-! DEFINITION. The logic engine (R291 to R320): instructions, timers and counters, scans, modes, verification, on-line
exchange and forces. A scan runs in one step; `us` of its command is the execute time measured on the unit. -/

namespace Sys2Proof.Machine

/-! ### Programs (R291, R292) -/

def State.prog (s : State) (p : Nat) : LgeProg := cget (fun _ => {}) s.lge.progs p
def State.setProg (s : State) (p : Nat) (x : LgeProg) : State :=
  { s with lge := { s.lge with progs := cset (fun _ => {}) s.lge.progs p x } }

/-- The word at index `w` of a program's code; an index outside the pool gives no valid opcode. -/
def State.codeWord (s : State) (p w : Nat) : Nat :=
  let i := s.rd (LGE_PRG_CODE_BASE p) LGE_PRG_CODE_BASE_BASE + w
  if i < 262144 then (s.rdW (LGE_POOL i)).toNat else 0xFF000000
def State.codeLen (s : State) (p : Nat) : Nat := s.rd (LGE_PRG_CODE_LEN p) LGE_PRG_CODE_LEN_LEN

/-- The register of an area: 0 I, 1 Q, 2 M; its base and word count. -/
def areaReg (p a : Nat) : Nat := if a = 0 then LGE_PRG_IAREA p else if a = 1 then LGE_PRG_QAREA p else LGE_PRG_MAREA p
def State.areaBase (s : State) (p a : Nat) : Nat := s.rd (areaReg p a) LGE_PRG_IAREA_BASE
def State.areaCount (s : State) (p a : Nat) : Nat := s.rd (areaReg p a) LGE_PRG_IAREA_COUNT
def State.varWord (s : State) (i : Nat) : Nat := if i < 16384 then (s.rdW (LGE_VAR i)).toNat else 0
def State.setVarWord (s : State) (i v : Nat) : State := if i < 16384 then s.wrW (LGE_VAR i) (BitVec.ofNat 32 v) else s

def State.instCount (s : State) (p : Nat) : Nat := s.rd (LGE_PRG_INST p) LGE_PRG_INST_COUNT
def State.instBase (s : State) (p : Nat) : Nat := s.rd (LGE_PRG_INST p) LGE_PRG_INST_BASE

/-- A variable declaration (R292). -/
structure LgeDecl where
  index : Nat
  var : Nat
  ty : Nat
  area : Nat
  bit : Nat
  word : Nat
  init : Nat
  reserved : Bool
deriving DecidableEq

/-- The declarations in use. -/
def State.decls (s : State) (p : Nat) : List LgeDecl :=
  ((List.range (min 1024 (s.rd (LGE_PRG_NDECL p) LGE_PRG_NDECL_NDECL))).map (fun v =>
    let w := fun i => (s.rdW (LGE_DECL p (4 * v + i))).toNat
    { index := v, var := w 0 % 65536, ty := w 0 / 65536 % 4, area := w 0 / 2 ^ 18 % 4, bit := w 0 / 2 ^ 24
      word := w 1 % 16384, init := w 2
      reserved := w 0 / 2 ^ 20 % 16 != 0 || w 1 / 16384 != 0 || w 3 != 0 : LgeDecl })).filter (fun d => d.var != 0xFFFF)

/-- The mask of a declaration in its word, and a value under it. -/
def LgeDecl.mask (d : LgeDecl) : Nat := if d.ty = 0 then 2 ^ (d.bit % 32) else 0xFFFFFFFF
def LgeDecl.place (d : LgeDecl) (v : Nat) : Nat := if d.ty = 0 then v % 2 * 2 ^ (d.bit % 32) else v % 2 ^ 32
/-- A declaration's value in its word. -/
def LgeDecl.value (d : LgeDecl) (w : Nat) : Nat := if d.ty = 0 then b2n (w.testBit (d.bit % 32)) else w

/-- `v` under the bits of `mask`, `old` elsewhere. -/
def maskIn (old mask v : Nat) : Nat := (old &&& (0xFFFFFFFF ^^^ mask)) ||| (v &&& mask)

def State.declAt (s : State) (p : Nat) (d : LgeDecl) : Nat := s.areaBase p d.area + d.word
def State.declGet (s : State) (p : Nat) (d : LgeDecl) : Nat := d.value (s.varWord (s.declAt p d))
def State.declSet (s : State) (p : Nat) (d : LgeDecl) (v : Nat) : State :=
  let i := s.declAt p d
  s.setVarWord i (maskIn (s.varWord i) d.mask (d.place v))

/-! ### Instances (R307 to R309) -/

structure LgeInst where
  type : Nat
  fresh : Bool
  pins : Nat
  q : Bool
  qd : Bool
  running : Bool
  prev : Bool
  prevCd : Bool
  tick : Bool
  pv : Nat
  cv : Nat
  deriving DecidableEq, Repr

def State.instAt (s : State) (r : Nat) : LgeInst :=
  let w := (s.rdW (LGE_INSTANCE r 0)).toNat
  { type := w % 16, fresh := w.testBit 7, pins := w / 256 % 8, q := w.testBit 16, qd := w.testBit 17
    running := w.testBit 18, prev := w.testBit 19, prevCd := w.testBit 20, tick := w.testBit 21
    pv := (s.rdW (LGE_INSTANCE r 1)).toNat, cv := (s.rdW (LGE_INSTANCE r 2)).toNat }

def State.setInst (s : State) (r : Nat) (x : LgeInst) : State :=
  let w := x.type + 128 * b2n x.fresh + 256 * x.pins + 2 ^ 16 * b2n x.q + 2 ^ 17 * b2n x.qd + 2 ^ 18 * b2n x.running
    + 2 ^ 19 * b2n x.prev + 2 ^ 20 * b2n x.prevCd + 2 ^ 21 * b2n x.tick
  ((s.wrW (LGE_INSTANCE r 0) (BitVec.ofNat 32 w)).wrW (LGE_INSTANCE r 1) (BitVec.ofNat 32 x.pv)).wrW (LGE_INSTANCE r 2)
    (BitVec.ofNat 32 x.cv)

/-- Whether a type remembers an input, so that a reset sets FRESH. -/
def instFresh (ty : Nat) : Bool := ty == 1 || ty == 2 || decide (5 ≤ ty ∧ ty ≤ 8)

/-- A reset instance of a type. -/
def instReset (ty : Nat) : LgeInst :=
  { type := ty, fresh := instFresh ty, pins := 0, q := false, qd := false, running := false, prev := false
    prevCd := false, tick := false, pv := 0, cv := 0 }

/-- A reset instance has its other bytes zero too. -/
def State.resetInst (s : State) (r ty : Nat) : State := (s.setInst r (instReset ty)).wrW (LGE_INSTANCE r 3) 0

/-- A counter value held in the int32 range, as its pattern. -/
def satInt32 (i : Int) : Nat := ofSigned 32 (clampInt (-(2 ^ 31 : Nat)) ((2 ^ 31 - 1 : Nat) : Int) i)

/-- delta(j) of R308: the scan period in µs as scan `j` sees it. -/
def State.scanDelta (s : State) (p j : Nat) : Nat :=
  let x := (s.rd (LGE_PRG_CFG p) LGE_PRG_CFG_PERIOD + 1) * s.roundLen * 1000000
  j * x / s.fs - (j - 1) * x / s.fs

/-- A timer's evaluation with IN and PT (R308, R309). -/
def LgeInst.timer (x : LgeInst) (inp : Bool) (pt delta : Nat) : LgeInst :=
  let x := { x with pv := pt }
  let adv := min (x.cv + delta) pt
  if x.type = 3 then
    if !inp then { x with cv := 0, q := false, running := false }
    else if !x.running then { x with running := true, cv := 0, q := pt == 0 }
    else { x with cv := adv, q := decide (pt ≤ adv) }
  else if x.type = 4 then
    if inp then { x with cv := 0, q := true, running := false }
    else if x.q && !x.running then
      if pt = 0 then { x with cv := 0, q := false, running := false } else { x with running := true, cv := 0 }
    else if x.running then
      if pt ≤ adv then { x with cv := adv, q := false, running := false } else { x with cv := adv }
    else x
  else
    let rise := inp && !x.prev && !x.fresh
    let x := { x with prev := inp, fresh := false }
    if x.running then
      if pt ≤ adv then { x with cv := adv, q := false, running := false } else { x with cv := adv }
    else if rise then { x with cv := 0, q := pt != 0, running := pt != 0 }
    else if !inp then { x with cv := 0 }
    else x

/-- A counter's evaluation with its input and PV (R309). -/
def LgeInst.counter (x : LgeInst) (inp : Bool) (pvBits : Nat) : LgeInst :=
  let x := { x with pv := pvBits }
  let pv := toSigned 32 pvBits
  let cv := toSigned 32 x.cv
  let edge := inp && !x.prev && !x.fresh
  let r := x.pins.testBit 0
  let ld := x.pins.testBit 1
  let cd := x.pins.testBit 2
  if x.type = 6 then
    let v := if r then 0 else if edge then toSigned 32 (satInt32 (cv + 1)) else cv
    { x with prev := inp, fresh := false, cv := ofSigned 32 v, q := decide (pv ≤ v) }
  else if x.type = 7 then
    let v := if ld then pv else if edge then toSigned 32 (satInt32 (cv - 1)) else cv
    { x with prev := inp, fresh := false, cv := ofSigned 32 v, q := decide (v ≤ 0) }
  else
    let dn := cd && !x.prevCd && !x.fresh
    let v := if r then 0 else if ld then pv
      else if edge && !dn then toSigned 32 (satInt32 (cv + 1))
      else if dn && !edge then toSigned 32 (satInt32 (cv - 1)) else cv
    { x with prev := inp, prevCd := cd, fresh := false, cv := ofSigned 32 v, q := decide (pv ≤ v), qd := decide (v ≤ 0) }

/-- An edge detector's evaluation. -/
def LgeInst.edge (x : LgeInst) (clk : Bool) : LgeInst :=
  if x.fresh then { x with prev := clk, q := false, fresh := false }
  else { x with prev := clk, q := if x.type = 1 then clk && !x.prev else x.prev && !clk }

/-! ### Instructions (R303 to R306) -/

/-- The operand form of an opcode: 0 none, 1 bit, 2 word, 3 instance, 4 target, 5 flag, 6 LDC's value, 7 word of an area;
none where the opcode is invalid (R305). -/
def lgeForm (op : Nat) : Option Nat :=
  if op = 0x10 then some 6
  else if op = 0x31 then some 7
  else if op = 0 ∨ op = 0x7F ∨ op = 0x75 ∨ (0x0C ≤ op ∧ op ≤ 0x0F) ∨ (0x33 ≤ op ∧ op ≤ 0x35) ∨ op = 0x4B ∨ op = 0x4C
      ∨ (0x54 ≤ op ∧ op ≤ 0x57) then some 0
  else if 1 ≤ op ∧ op ≤ 0x0B then some 1
  else if 0x20 ≤ op ∧ op ≤ 0x2A then some 3
  else if op = 0x30 ∨ (0x40 ≤ op ∧ op ≤ 0x4A) ∨ (0x50 ≤ op ∧ op ≤ 0x53) ∨ (0x60 ≤ op ∧ op ≤ 0x65)
      ∨ (0x68 ≤ op ∧ op ≤ 0x6D) then some 2
  else if 0x70 ≤ op ∧ op ≤ 0x74 then some 4
  else if op = 0x78 then some 5
  else none

/-- How long an instruction counts against the units' rate (R294). -/
def lgeUnits (op : Nat) : Nat := if op = 0x43 ∨ op = 0x44 ∨ op = 0x53 then 4 else 1

/-- A scan under way. -/
structure LgeRun where
  s : State
  p : Nat
  x : LgeExec
  deriving DecidableEq, Repr

/-- How an execute phase stands after an instruction. -/
inductive LgeEnd where
  | more | done | fault (kind : Nat)
deriving DecidableEq

/-- A word of the image with the forces in use (R314). -/
def LgeRun.read (r : LgeRun) (i : Nat) : Nat :=
  r.x.forces.foldl (fun v f => if f.1 = i then maskIn v f.2.1 f.2.2 else v) (r.s.varWord i)

/-- The forced bits of a word. -/
def LgeRun.forcedMask (r : LgeRun) (i : Nat) : Nat :=
  r.x.forces.foldl (fun m f => if f.1 = i then m ||| f.2.1 else m) 0

/-- A word stored; forced bits are left as they are. -/
def LgeRun.write (r : LgeRun) (i v : Nat) : LgeRun :=
  { r with s := r.s.setVarWord i (maskIn (v % 2 ^ 32) (r.forcedMask i) (r.s.varWord i)) }

def LgeRun.setRlo (r : LgeRun) (b : Bool) : LgeRun := { r with x := { r.x with rlo := b } }
def LgeRun.setAcc (r : LgeRun) (v : Nat) : LgeRun := { r with x := { r.x with acc := v % 2 ^ 32 } }
def LgeRun.next (r : LgeRun) : LgeRun := { r with x := { r.x with pc := r.x.pc + 1 } }
def LgeRun.jump (r : LgeRun) (w : Nat) : LgeRun := { r with x := { r.x with pc := w % 2 ^ 18 } }

/-- ACC with the sticky ARITH when the operation says so (R306). -/
def LgeRun.arith (r : LgeRun) (v : Nat) (flag : Bool) : LgeRun :=
  let r := r.setAcc v
  if flag then { r with s := r.s.wrB (LGE_PRG_STATE r.p) LGE_PRG_STATE_ARITH true } else r

/-- The image word of an operand with an area. -/
def LgeRun.operandAt (r : LgeRun) (w : Nat) : Nat := r.s.areaBase r.p (w / 2 ^ 22 % 4) + w % 16384

/-- A word operand (R303). -/
def LgeRun.wordOp (r : LgeRun) (w : Nat) : Nat :=
  if w / 2 ^ 22 % 4 = 3 then ofSigned 32 (toSigned 22 w) else r.read (r.operandAt w)

def LgeRun.bitOp (r : LgeRun) (w : Nat) : Bool := (r.read (r.operandAt w)).testBit (w / 2 ^ 14 % 32)
def LgeRun.setBitOp (r : LgeRun) (w : Nat) (b : Bool) : LgeRun :=
  let i := r.operandAt w
  r.write i (nsetBit (r.s.varWord i) (w / 2 ^ 14 % 32) b)

/-- int32 arithmetic with saturation (R306). -/
def lgeSat (i : Int) : Nat × Bool :=
  let c := clampInt (-(2 ^ 31 : Nat)) ((2 ^ 31 - 1 : Nat) : Int) i
  (ofSigned 32 c, c != i)

/-- ADD to SAR, and FADD to FDIV: result and whether ARITH is set. -/
def lgeArith (op a b : Nat) : Nat × Bool :=
  let x := toSigned 32 a
  let y := toSigned 32 b
  let f := fun v => (v, isNan v || isInf v)
  if op = 0x40 then lgeSat (x + y)
  else if op = 0x41 then lgeSat (x - y)
  else if op = 0x42 then lgeSat (x * y)
  else if op = 0x43 then if y = 0 then (0, true) else lgeSat (Int.tdiv x y)
  else if op = 0x44 then if y = 0 then (0, true) else (ofSigned 32 (Int.tmod x y), false)
  else if op = 0x45 then (a &&& b, false)
  else if op = 0x46 then (a ||| b, false)
  else if op = 0x47 then (a ^^^ b, false)
  else if op = 0x48 then (a * 2 ^ (b % 32) % 2 ^ 32, false)
  else if op = 0x49 then (a / 2 ^ (b % 32), false)
  else if op = 0x4A then (ofSigned 32 (x / ((2 ^ (b % 32) : Nat) : Int)), false)
  else if op = 0x50 then f (fadd a b)
  else if op = 0x51 then f (fsub a b)
  else if op = 0x52 then f (fmul a b)
  else f (fdiv a b)

/-- A comparison of ACC with its operand (R305, R306). -/
def lgeCompare (op a b : Nat) : Bool :=
  let x := toSigned 32 a
  let y := toSigned 32 b
  if op = 0x60 then x == y else if op = 0x61 then x != y else if op = 0x62 then decide (x < y)
  else if op = 0x63 then decide (x ≤ y) else if op = 0x64 then decide (y < x) else if op = 0x65 then decide (y ≤ x)
  else if op = 0x68 then feq a b else if op = 0x69 then !feq a b else if op = 0x6A then flt a b
  else if op = 0x6B then fle a b else if op = 0x6C then flt b a else fle b a

/-- The unary operations NEG, ABS, ITOF, FTOI, FABS, FNEG.
DESIGN CHOICE, log entry 47. -/
def lgeUnary (op a : Nat) : Nat × Bool :=
  let x := toSigned 32 a
  let f := fun v => (v, isNan v || isInf v)
  if op = 0x4B then lgeSat (-x)
  else if op = 0x4C then lgeSat (if x < 0 then -x else x)
  else if op = 0x54 then f (fofInt x)
  else if op = 0x55 then
    match froundTo a 0 (-(2 ^ 31 : Nat)) ((2 ^ 31 - 1 : Nat) : Int) with
    | some (i, sat) => (ofSigned 32 i, sat)
    | none => (0, false)
  else if op = 0x56 then f (fabs a)
  else f (fneg a)

/-- An instance instruction (R305, R309). -/
def LgeRun.inst (r : LgeRun) (op w : Nat) : LgeRun :=
  let rec_ := r.s.instBase r.p + w % 1024
  let pin := w / 4096 % 4
  let x := r.s.instAt rec_
  let put := fun (x : LgeInst) => { r with s := r.s.setInst rec_ x }
  if 16384 ≤ rec_ then r
  else if op = 0x20 ∨ op = 0x21 then let y := x.edge r.x.rlo; (put y).setRlo y.q
  else if 0x22 ≤ op ∧ op ≤ 0x24 then
    let j := (r.s.prog r.p).j
    let parity := j % 2 == 1
    let d := if x.tick != parity then r.s.scanDelta r.p j else 0
    let y := { x with tick := parity }.timer r.x.rlo r.x.acc d
    ((put y).setRlo y.q).setAcc y.cv
  else if 0x25 ≤ op ∧ op ≤ 0x27 then
    let y := x.counter r.x.rlo r.x.acc
    ((put y).setRlo y.q).setAcc y.cv
  else if op = 0x28 then put { x with pins := nsetBit x.pins pin r.x.rlo % 8 }
  else if op = 0x29 then r.setRlo (if pin = 1 then x.qd else x.q)
  else r.setAcc x.cv

/-- One instruction executed. -/
def LgeRun.exec (r : LgeRun) : LgeRun × LgeEnd :=
  let w := r.s.codeWord r.p r.x.pc
  let op := w / 2 ^ 24
  let o := w % 2 ^ 24
  let rlo := r.x.rlo
  let go := fun (r : LgeRun) => (r.next, LgeEnd.more)
  match lgeForm op with
  | some 1 =>
    let b := r.bitOp o
    go (if op = 1 then r.setRlo b else if op = 2 then r.setRlo !b
      else if op = 3 then r.setRlo (rlo && b) else if op = 4 then r.setRlo (rlo && !b)
      else if op = 5 then r.setRlo (rlo || b) else if op = 6 then r.setRlo (rlo || !b)
      else if op = 7 then r.setRlo (rlo != b) else if op = 8 then r.setBitOp o rlo else if op = 9 then r.setBitOp o !rlo
      else if op = 0x0A then (if rlo then r.setBitOp o true else r) else (if rlo then r.setBitOp o false else r))
  | some 2 =>
    let v := r.wordOp o
    go (if op = 0x30 then r.setAcc v
      else if 0x60 ≤ op then r.setRlo (lgeCompare op r.x.acc v)
      else let (y, f) := lgeArith op r.x.acc v; r.arith y f)
  | some 3 => go (r.inst op o)
  | some 4 =>
    let t := o % 2 ^ 18
    if op = 0x70 ∨ (op = 0x71 ∧ rlo) ∨ (op = 0x72 ∧ !rlo) then (r.jump t, .more)
    else if op = 0x73 ∨ (op = 0x74 ∧ rlo) then
      if 8 ≤ r.x.calls.length then (r, .fault 3)
      else (({ r with x := { r.x with calls := (r.x.pc + 1) :: r.x.calls } } : LgeRun).jump t, .more)
    else go r
  | some 5 => go (if rlo then { r with x := { r.x with marks := r.x.marks ++ [o % 16] } } else r)
  | some 6 => go (r.setRlo (o.testBit 0))
  | some 7 => go (r.write (r.operandAt o) r.x.acc)
  | some _ =>
    if op = 0x0C then go (r.setRlo !rlo)
    else if op = 0x0D then
      if 8 ≤ r.x.bools.length then (r, .fault 1) else go { r with x := { r.x with bools := rlo :: r.x.bools } }
    else if op = 0x0E ∨ op = 0x0F then
      match r.x.bools with
      | [] => (r, .fault 2)
      | b :: rest =>
        go (({ r with x := { r.x with bools := rest } } : LgeRun).setRlo (if op = 0x0E then b && rlo else b || rlo))
    else if op = 0x33 then go (r.next.setAcc (r.s.codeWord r.p (r.x.pc + 1)))
    else if op = 0x34 then go (r.setAcc (b2n rlo))
    else if op = 0x35 then go (r.setRlo (r.x.acc != 0))
    else if op = 0x75 then
      match r.x.calls with
      | [] => (r, .done)
      | a :: rest => (({ r with x := { r.x with calls := rest } } : LgeRun).jump a, .more)
    else if op = 0x7F then (r, .done)
    else if op = 0 then go r
    else let (y, f) := lgeUnary op r.x.acc; go (r.arith y f)
  | none => (r, .done)

/-- Whether an enabled breakpoint names the next instruction (R301). -/
def LgeRun.atBreak (r : LgeRun) : Bool :=
  r.s.rdB (LGE_PRG_CFG r.p) LGE_PRG_CFG_HOLD_EN && (List.range 4).any (fun n =>
    r.s.rdB (LGE_PRG_BP r.p n) LGE_PRG_BP_EN && r.s.rd (LGE_PRG_BP r.p n) LGE_PRG_BP_WORD == r.x.pc)

/-- How an execute phase ended: at END, with a runtime fault, at a breakpoint, or not within its time. -/
inductive LgeStop where
  | done | fault (kind : Nat) | break_ | timeout
deriving DecidableEq

/-- Instructions executed until the phase ends. `fuel` is what the unit's rate gives the watchdog's time, of which DIV, MOD
and FDIV take four (R294): `wait` is what the last one still takes. `skip` passes the first breakpoint. -/
def lgeRun : Nat → Nat → Bool → Bool → LgeRun → LgeRun × LgeStop
  | 0, _, _, _, r => (r, .timeout)
  | fuel + 1, wait + 1, breaks, skip, r => lgeRun fuel wait breaks skip r
  | fuel + 1, 0, breaks, skip, r =>
    if breaks && !skip && r.atBreak then (r, .break_)
    else
      let n := lgeUnits (r.s.codeWord r.p r.x.pc / 2 ^ 24)
      match r.exec with
      | (r, .more) => lgeRun fuel (n - 1) breaks false r
      | (r, .done) => (r, .done)
      | (r, .fault k) => (r, .fault k)

/-! ### Read and write phases (R295 to R297, R314) -/

/-- Valid forces of a program: entry, VAR_ID, VALUE. -/
def State.forces (s : State) (p : Nat) : List (Nat × Nat × Nat) :=
  ((List.range 256).filter (fun f => (s.rdW (LGE_FORCE p (4 * f))).toNat.testBit 16)).map (fun f =>
    (f, (s.rdW (LGE_FORCE p (4 * f))).toNat % 65536, (s.rdW (LGE_FORCE p (4 * f + 1))).toNat))

/-- The forces a scan uses. -/
def State.frozen (s : State) (p : Nat) : List (Nat × Nat × Nat) :=
  let ds := s.decls p
  (s.forces p).filterMap (fun f => (ds.find? (fun d => d.var == f.2.1)).map (fun d =>
    (s.declAt p d, d.mask, d.place f.2.2)))

/-- An input map entry (R295). -/
structure LgeIn where
  kind : Nat
  count : Nat
  iword : Nat
  handle : Nat
  element : Nat
  tword : Nat
  reserved : Bool
  deriving DecidableEq, Repr

def State.inEntry (s : State) (p e : Nat) : LgeIn :=
  let w := fun i => (s.rdW (LGE_IMAP p (4 * e + i))).toNat
  { kind := w 0 % 256, count := w 0 / 256 % 256, iword := w 0 / 65536 % 16384, handle := w 1 % 16384
    element := w 1 / 65536 % 256, tword := w 2 % 1024
    reserved := w 0 / 2 ^ 30 != 0 || w 1 / 16384 % 4 != 0 || w 1 / 2 ^ 24 != 0 || w 2 / 1024 != 0 || w 3 != 0 }

/-- A dataset element as a word, and whether its conversion counts (R296). -/
def gooseWord (tag len : Nat) (v : List Byte) : Nat × Bool :=
  let v := v.take (min len 14)
  if tag = 0x83 then (b2n (v.any (fun b => b != 0)), false)
  else if tag = 0x84 then
    let unused := byteAt v 0
    let bits := v.drop 1
    let n := 8 * bits.length - unused
    (((List.range 32).map (fun i =>
      if i < n ∧ (byteAt bits (i / 8)).testBit (7 - i % 8) then 2 ^ i else 0)).sum, false)
  else if tag = 0x85 then
    let i := toSigned (8 * max 1 v.length) (beNat v)
    if v.length ≤ 4 then (ofSigned 32 i, false) else lgeSat i
  else if tag = 0x86 then
    let n := beNat v
    if v.length ≤ 4 then (n, false) else if 2 ^ 32 ≤ n then (2 ^ 32 - 1, true) else (n, false)
  else if tag = 0x87 ∧ len = 5 ∧ byteAt v 0 = 8 then (beNat (v.drop 1), false)
  else (beNat (slice v 0 4), true)

/-- A GOOSE entry's word: none when the image cannot be read; and whether CONV_ERR counts.
DESIGN CHOICE, log entry 47. -/
def State.gooseInput (s : State) (x : LgeIn) : Option (Nat × Bool) × State :=
  let e := s.stream s.ingActive x.handle
  let never := !(s.dynGet x.handle 56 1).testBit 0
  let (b, s) := s.engineRead .ing e.base (64 + 16 * e.channels)
  match b with
  | none => (none, s)
  | some b =>
    let fl := byteAt b 40
    if x.kind = 3 then
      (some (fl % 8 + 8 * b2n never + 65536 * (leAt b 4 4 % 65536), false), s)
    else
      let n := if never then 0 else byteAt b 41
      if n ≤ x.element then (some (0, true), s)
      else
        let o := 64 + 16 * x.element
        (some (gooseWord (byteAt b o) (byteAt b (o + 1)) (slice b (o + 2) 14)), s)

/-- The read phase: the input map copied into the I area. -/
def State.lgeRead (s : State) (p : Nat) : State :=
  (List.range 64).foldl (fun s e =>
    let x := s.inEntry p e
    let at_ := s.areaBase p 0 + x.iword
    if x.kind = 1 then s.setVarWord at_ (s.rdW OUT_BIN_STATE).toNat
    else if x.kind = 4 then
      (List.range x.count).foldl (fun s i => s.setVarWord (at_ + i)
        (cget (fun _ => 0) s.lge.inputs (s.prgOwner p * 1024 + (x.tword + i) % 1024)).toNat) s
    else if x.kind = 2 ∨ x.kind = 3 then
      match s.gooseInput x with
      | (none, s) => s.bump (cntLGE_READ_STALE p) 1
      | (some (v, err), s) => (s.setVarWord at_ v).bump (cntLGE_CONV_ERR p) (b2n err)
    else s) s

/-- The Q word an output entry names, forces applied. -/
def LgeRun.qWord (r : LgeRun) (x : OutEntry) : Nat := r.read (r.s.areaBase r.p 1 + x.qword % 16384)

def State.setLgeOut (s : State) (n : Nat) (v : Bool) : State :=
  { s with out := { s.out with lge := cset (fun _ => false) s.out.lge (n % 256) v } }

/-- The device address of a program's tenant area. -/
def State.prgOutBase (s : State) (p : Nat) : Nat :=
  s.rd (LGE_PRG_OUT_LO p) LGE_PRG_OUT_LO_BASE * 0x1000 + 2 ^ 32 * s.rd (LGE_PRG_OUT_HI p) LGE_PRG_OUT_HI_BASE

/-- The write phase: output map, flag outputs, and the balls follow. -/
def LgeRun.writePhase (r : LgeRun) : State :=
  let es := r.s.outMap r.p
  let bits := es.filter (fun x => x.kind == 1)
  let s := bits.foldl (fun s x => s.setLgeOut (x.target % 256) ((r.qWord x).testBit (x.bit % 32) != x.bit.testBit 7)) r.s
  let s := s.writePublish ((es.filter (fun x => x.kind == 2)).map (fun x =>
    (x.target % 4096, x.target / 65536 % 256, r.qWord x)))
  let s := (es.filter (fun x => x.kind == 3)).foldl (fun s x =>
    s.devWrite (s.prgOutBase r.p + 4 * (x.target % 1024)) (leBytes 4 (r.qWord x))) s
  let s := (distinct r.x.marks).foldl (fun s n =>
    if s.rdB (LGE_PRG_FLAG r.p n) LGE_PRG_FLAG_EN then
      s.setFlags (s.rd (LGE_PRG_FLAG r.p n) LGE_PRG_FLAG_TASK) (2 ^ s.rd (LGE_PRG_FLAG r.p n) LGE_PRG_FLAG_BIT)
    else s) s
  s.settle

/-- The SAFE values of a program's BIND and PUBLISH entries that `skip` does not name. -/
def State.progSafe (s : State) (p : Nat) (skip : OutEntry → Bool) : State :=
  let es := (s.outMap p).filter (fun x => !skip x)
  let s := (es.filter (fun x => x.kind == 1)).foldl (fun s x => s.setLgeOut (x.target % 256) (x.safe.testBit 0)) s
  s.writePublish ((es.filter (fun x => x.kind == 2)).map (fun x => (x.target % 4096, x.target / 65536 % 256, x.safe)))

/-! ### States (R298 to R301) -/

/-- A program's state changes, with event 0x0701.
DESIGN CHOICE, log entry 13. -/
def State.setPrgState (s : State) (p new cause : Nat) : State :=
  let old := s.prgState p
  (s.wr (LGE_PRG_STATE p) LGE_PRG_STATE_STATE new).postTenant 0x0701 (s.prgOwner p)
    (p2 p ++ p1 old ++ p1 new ++ p1 cause)

/-- RESULT of a program command. -/
def State.prgResult (s : State) (p r : Nat) : State := s.wr (LGE_PRG_CMD p) LGE_PRG_CMD_RESULT r

/-- The scan of a program queued, running or halted is abandoned. -/
def State.dropScan (s : State) (p : Nat) : State :=
  let s := s.setProg p { s.prog p with halt := none, unit := none, holdNext := false }
  let s : State := { s with lge := { s.lge with queue := s.lge.queue.filter (fun q => q.prog != p) } }
  (s.wrB (LGE_PRG_STATE p) LGE_PRG_STATE_HALTED false).wrB (LGE_PRG_STATE p) LGE_PRG_STATE_STEP_PENDING false

/-- Whether a unit is running an execute phase, and the lowest that is free (R293). -/
def State.unitBusy (s : State) (u : Nat) : Bool := s.lge.progs.any (fun c => c.2.unit == some u)
def State.freeUnit (s : State) : Option Nat := (List.range 4).find? (fun u => !s.unitBusy u)

/-- LGE_STAT.UNITS_BUSY follows: bit u for unit u. -/
def State.unitsShow (s : State) : State :=
  s.wr LGE_STAT LGE_STAT_UNITS_BUSY ((List.range 4).map (fun u => b2n (s.unitBusy u) * 2 ^ u)).sum

/-- WD of a program in µs. -/
def State.prgWd (s : State) (p : Nat) : Nat := max 1 (s.rd (LGE_PRG_WD p) LGE_PRG_WD_WD)
/-- S of a program. -/
def State.prgS (s : State) (p : Nat) : Nat := s.rd (LGE_PRG_CFG p) LGE_PRG_CFG_PERIOD + 1

/-- The sum of WD / (S × round length) over programs as a fraction (R298). -/
def State.lgeSum (s : State) (ps : List Nat) : Nat × Nat :=
  ps.foldl (fun (a : Nat × Nat) p =>
    let n := s.prgWd p * s.fs
    let d := s.prgS p * s.roundLen * 1000000
    (a.1 * d + n * a.2, a.2 * d)) (0, 1)

/-- The programs that count for the load: RUN, HOLD, HELD. -/
def State.loadProgs (s : State) : List Nat :=
  s.programs.filter (fun p => s.prgState p == 1 || s.prgState p == 2 || s.prgState p == 4)

/-- LGE_LOAD follows the program states. -/
def State.lgeLoadShow (s : State) : State :=
  let (n, d) := s.lgeSum s.loadProgs
  s.wr LGE_LOAD LGE_LOAD_LOAD (satNat 4095 (1000 * n / d))

/-- The output targets of a program: LGE outputs and publish elements. -/
def State.prgTargets (s : State) (p : Nat) : List (Nat × Nat) :=
  ((s.outMap p).filter (fun x => x.kind == 1 || x.kind == 2)).map (fun x =>
    if x.kind = 1 then (1, x.target % 256) else (2, x.target % 2 ^ 24))

/-- The programs that drive their targets: those not STOP, and those that a staged exchange is about to start, so that START
never lets two programs drive one target (R297).
DESIGN CHOICE, log entry 47. -/
def State.driving (s : State) : List Nat :=
  s.programs.filter (fun q => s.prgState q != 0 || s.lge.progs.any (fun c => match c.2.exch with | some x => x.val == q | none => false))

/-- Whether a program other than `but` drives a target of `p`. -/
def State.targetsTaken (s : State) (p but : Nat) : Bool :=
  let mine := s.prgTargets p
  (s.driving.filter (fun q => q != p && q != but)).any (fun q => (s.prgTargets q).any (fun t => mine.contains t))

/-- A verified program in STOP drives the SAFE values of the targets that no other program drives (R297).
DESIGN CHOICE, log entry 47. -/
def State.stopSafe (s : State) (p : Nat) : State :=
  let theirs := (s.driving.filter (· != p)).flatMap s.prgTargets
  if s.rdB (LGE_PRG_CFG p) LGE_PRG_CFG_VALID then
    (s.progSafe p (fun x => theirs.contains (if x.kind = 1 then (1, x.target % 256) else (2, x.target % 2 ^ 24)))).settle
  else s

/-- The cold start of R300. -/
def State.coldStart (s : State) (p : Nat) : State :=
  let s := [1, 2].foldl (fun s a =>
    (List.range (s.areaCount p a)).foldl (fun s i => s.setVarWord (s.areaBase p a + i) 0) s) s
  let s := ((s.decls p).filter (fun d => d.area == 1 || d.area == 2)).foldl (fun s d => s.declSet p d d.init) s
  (List.range (s.instCount p)).foldl (fun s i =>
    let r := s.instBase p + i
    if r < 16384 then s.resetInst r (s.instAt r).type else s) s

/-- The scan count, in State and LGE_PRG_SCAN. -/
def State.setJ (s : State) (p j : Nat) : State :=
  (s.setProg p { s.prog p with j := j }).wrW (LGE_PRG_SCAN p) (BitVec.ofNat 32 j)

/-- A command for program `p` is heard: the slot exists and no command is in progress. -/
def State.prgCmd (s : State) (p : Nat) (body : State → Nat × State) : State :=
  if 64 ≤ p ∨ s.rdB (LGE_PRG_CMD p) LGE_PRG_CMD_BUSY then s
  else let (r, s) := body s; s.prgResult p r

/-- START (R298, R300): RESULT and the machine. -/
def State.progStart (s : State) (p : Nat) (cold : Bool) : Nat × State :=
  let os := s.tenState (s.prgOwner p)
  if !s.rdB (LGE_PRG_CFG p) LGE_PRG_CFG_VALID || s.prgState p != 0 || !s.rdB (LGE_PRG_STATE p) LGE_PRG_STATE_VERIFIED
      || !(os == 1 || os == 2 || os == 4) then (1, s)
  else
    let (n, d) := s.lgeSum (p :: s.loadProgs)
    if s.prgS p * s.roundLen * 1000000000 ≤ s.prgWd p * 1000 * s.fs + 5000 * s.fs ∨ 36 * d < 10 * n then (3, s)
    else if s.targetsTaken p p then (4, s)
    else
      let s := (s.dropScan p).setProg p { (s.dropScan p).prog p with back := 1 }
      let s := (if cold then s.coldStart p else s).progSafe p (fun _ => false)
      let s := ((s.setJ p 0).wrB (LGE_PRG_STATE p) LGE_PRG_STATE_COLD_DONE cold).setPrgState p (if os = 2 then 1 else 3) 1
      (0, s.settle.lgeLoadShow)

def opLgeStart (p : Nat) (cold : Bool) (s : State) : State :=
  s.prgCmd p fun s => (s.wrB (LGE_PRG_CMD p) LGE_PRG_CMD_COLD cold).progStart p cold

def execLgeStart (t prog : Nat) (cold : Bool) (s : State) : Host.Outcome State Fault Refusal :=
  s.runAt t (opLgeStart prog cold)

/-! ### The exchange report (R313) -/

structure LgeReport where
  inst : Nat × Nat × Nat := (0, 0, 0)
  vars : Nat × Nat × Nat := (0, 0, 0)
  force : Nat × Nat := (0, 0)
  entries : List (Nat × Nat × Nat × Nat) := []
  deriving DecidableEq, Repr

/-- The report written to the LGE window. -/
def State.putReport (s : State) (round old new status : Nat) (r : LgeReport) : State :=
  let es := r.entries.take 508
  let hd := p4 round ++ p1 old ++ p1 new ++ p2 status ++ p2 r.inst.1 ++ p2 r.inst.2.1 ++ p2 r.inst.2.2 ++ p2 r.vars.1
    ++ p2 r.vars.2.1 ++ p2 r.vars.2.2 ++ p2 r.force.1 ++ p2 r.force.2 ++ p2 es.length
    ++ p1 (b2n (decide (508 < r.entries.length))) ++ leBytes 5 0
  let b := hd ++ es.flatMap (fun e => p1 e.1 ++ p1 0 ++ p2 e.2.1 ++ p1 e.2.2.1 ++ p1 e.2.2.2 ++ p2 0)
  (List.range 1024).foldl (fun s i => s.wrW (LGE_REPORT i) (BitVec.ofNat 32 (leAt b (4 * i) 4))) s

/-- A staged exchange of a program is withdrawn (R316). -/
def State.dropExchange (s : State) (p : Nat) : State :=
  match (s.prog p).exch with
  | none => s
  | some x =>
    let s := (s.setProg p { s.prog p with exch := none }).wrB (LGE_PRG_STATE p) LGE_PRG_STATE_EXCH_PENDING false
    s.putReport (round32 s.roundNow) p x.val 0x0533 {}

/-- A program stops: scan abandoned, exchange withdrawn, safe values (R300). -/
def State.progStop (s : State) (p stopCause : Nat) : State :=
  let s := (s.dropExchange p).dropScan p
  let s := (s.wr (LGE_PRG_STATE p) LGE_PRG_STATE_STOP_CAUSE stopCause).setPrgState p 0 (2 + stopCause)
  ((s.progSafe p (fun _ => false)).settle.lgeLoadShow).unitsShow

def opLgeStop (p : Nat) (s : State) : State :=
  s.prgCmd p fun s => if s.prgState p = 1 ∨ s.prgState p = 2 then (0, s.progStop p 0) else (1, s)

def execLgeStop (t prog : Nat) (s : State) : Host.Outcome State Fault Refusal := s.runAt t (opLgeStop prog)

/-- A scan of a program is queued or running. -/
def State.scanOpen (s : State) (p : Nat) : Bool := s.lge.queue.any (fun q => q.prog == p) || (s.prog p).unit.isSome

/-- HOLD: at the end of the scan in progress, or at once. -/
def opLgeHold (p : Nat) (s : State) : State :=
  s.prgCmd p fun s =>
    if s.prgState p ≠ 1 then (1, s)
    else if !s.rdB (LGE_PRG_CFG p) LGE_PRG_CFG_HOLD_EN then (5, s)
    else
      let s := s.dropExchange p
      if s.scanOpen p then (0, s.setProg p { s.prog p with holdNext := true }) else (0, (s.setPrgState p 2 7).settle)

def execLgeHold (t prog : Nat) (s : State) : Host.Outcome State Fault Refusal := s.runAt t (opLgeHold prog)

/-! ### Scans (R293, R294, R302) -/

/-- The execute time of a scan shown in LGE_PRG_TIME. -/
def State.prgTime (s : State) (p us : Nat) : State :=
  let u := satNat 65535 us
  (s.wr (LGE_PRG_TIME p) LGE_PRG_TIME_LAST_US u).wr (LGE_PRG_TIME p) LGE_PRG_TIME_MAX_US
    (max u (s.rd (LGE_PRG_TIME p) LGE_PRG_TIME_MAX_US))

/-- What follows a part of an execute phase that took `us` in all on its unit: the write phase at its end, HOLD at a
breakpoint, STOP at a fault; beyond the watchdog's time the phase is still running. -/
def State.afterPhase (s : State) (r : LgeRun) (e : LgeStop) (us : Nat) : State :=
  let p := r.p
  if s.prgWd p < us ∨ e = .timeout then (s.setProg p { s.prog p with unit := some (s.freeUnit.getD 0), halt := none }).unitsShow
  else match e with
    | .done =>
      let s := (r.writePhase).prgTime p us
      let x := s.prog p
      let s := (s.setProg p { x with halt := none, unit := none, holdNext := false }).wrB (LGE_PRG_STATE p)
        LGE_PRG_STATE_STEP_PENDING false
      let s := s.wrB (LGE_PRG_STATE p) LGE_PRG_STATE_HALTED false
      if x.holdNext ∧ s.prgState p = 1 then (s.setPrgState p 2 7).settle else s
    | .fault k =>
      let s := (r.s.prgTime p us).bump (cntLGE_FAULTS p) 1
      let s := s.postTenant 0x0703 (s.prgOwner p) (p2 p ++ p4 r.x.pc ++ p1 k)
      s.progStop p 2
    | _ =>
      let s := r.s.setProg p { r.s.prog p with halt := some { r.x with us := us }, unit := none, holdNext := false }
      let s := (s.wrB (LGE_PRG_STATE p) LGE_PRG_STATE_HALTED true).wr (LGE_PRG_PC p) LGE_PRG_PC_PC r.x.pc
      let s := s.dropExchange p
      let s := s.wrB (LGE_PRG_STATE p) LGE_PRG_STATE_STEP_PENDING false
      if s.prgState p = 1 then (s.setPrgState p 2 8).settle else s

/-- The instructions that the watchdog's time allows at the rate of R294.
DESIGN CHOICE, log entry 47. -/
def State.prgFuel (s : State) (p : Nat) : Nat := 300 * s.prgWd p

/-- The queued scan that a free unit takes: earliest deadline, then lowest slot (R293). -/
def State.nextScan (s : State) : Option LgeScan :=
  s.lge.queue.foldl (fun (b : Option LgeScan) q => match b with
    | none => some q
    | some c => if q.deadline < c.deadline ∨ (q.deadline = c.deadline ∧ q.prog < c.prog) then some q else some c) none

/-- A free unit runs a queued scan: read, execute, write.
DESIGN CHOICE, log entry 47. -/
def opScan (us : Nat) (s : State) : State :=
  if s.freeUnit.isNone ∨ !s.rdB LGE_CTRL LGE_CTRL_EN ∨ !s.gridOn then s
  else match s.nextScan with
    | none => s
    | some q =>
      let p := q.prog
      let s : State := { s with lge := { s.lge with queue := s.lge.queue.filter (fun x => x.prog != p) } }
      let s := s.setJ p ((s.prog p).j + 1)
      let s := s.lgeRead p
      let (r, e) := lgeRun (s.prgFuel p) 0 true false { s := s, p := p, x := { forces := s.frozen p } }
      r.s.afterPhase r e us

def execScan (t us : Nat) (s : State) : Host.Outcome State Fault Refusal := s.runAt t (opScan us)

/-- An execute phase that has spent more than WD µs on its unit is abandoned (R302). -/
def opLgeWatchdog (p us : Nat) (s : State) : State :=
  if (s.prog p).unit.isSome ∧ s.prgWd p < us then
    let s := (s.prgTime p us).bump (cntLGE_WATCHDOGS p) 1
    let s := s.postTenant 0x0702 (s.prgOwner p) (p2 p ++ p4 (s.prog p).j ++ p4 us)
    s.progStop p 1
  else s

def execLgeWatchdog (t prog us : Nat) (s : State) : Host.Outcome State Fault Refusal :=
  s.runAt t (opLgeWatchdog prog us)

/-- The halted scan goes on: to its end, or to the next breakpoint. -/
def State.resumeScan (s : State) (p us : Nat) (breaks : Bool) : State :=
  match (s.prog p).halt with
  | none => s
  | some x =>
    let (r, e) := lgeRun (s.prgFuel p) 0 breaks true { s := s, p := p, x := x }
    r.s.afterPhase r e (x.us + us)

/-- RUN: a halted scan completes, then RUN (R301). -/
def opLgeRun (p us : Nat) (s : State) : State :=
  s.prgCmd p fun s =>
    if s.prgState p ≠ 2 then (1, s)
    else
      let s := s.resumeScan p us false
      if s.prgState p = 2 then
        (0, ((s.wrB (LGE_PRG_STATE p) LGE_PRG_STATE_STEP_PENDING false).setPrgState p 1 9).settle)
      else (0, s)

def execLgeRun (t prog us : Nat) (s : State) : Host.Outcome State Fault Refusal := s.runAt t (opLgeRun prog us)

/-- STEP (R301). -/
def opLgeStep (p us : Nat) (s : State) : State :=
  s.prgCmd p fun s =>
    if s.prgState p ≠ 2 then (1, s)
    else if s.scanOpen p then (4, s)
    else if (s.prog p).halt.isSome then (0, s.resumeScan p us true)
    else (0, s.wrB (LGE_PRG_STATE p) LGE_PRG_STATE_STEP_PENDING true)

def execLgeStep (t prog us : Nat) (s : State) : Host.Outcome State Fault Refusal := s.runAt t (opLgeStep prog us)

/-- Whether boundary `k` is a scan boundary of a program, and the next one after it (R293). -/
def State.scanBoundary (s : State) (p k : Nat) : Bool := round32 k % s.prgS p == 0
def State.scanAfter (s : State) (p k : Nat) : Nat :=
  let r := round32 k
  let n := (r / s.prgS p + 1) * s.prgS p
  if n < 2 ^ 32 then k + (n - r) else k + (2 ^ 32 - r)

/-- The scans of boundary `k` queued after step 6 of R48; `extra` scan at this boundary whatever their period (R311). -/
def State.lgeQueue (s : State) (k : Nat) (extra : List Nat) : State :=
  if !s.rdB LGE_CTRL LGE_CTRL_EN then s
  else s.programs.foldl (fun s p =>
    if !(s.scanBoundary p k || extra.contains p) then s
    else
      let q : LgeScan := { prog := p, deadline := s.scanAfter p k }
      let put := fun (s : State) => ({ s with lge := { s.lge with queue := s.lge.queue ++ [q] } } : State)
      let step := s.rdB (LGE_PRG_STATE p) LGE_PRG_STATE_STEP_PENDING
      let st := s.prgState p
      if (st = 1 ∨ (st = 2 ∧ step)) ∧ s.scanOpen p then
        let s := (s.bump (cntLGE_LATE_SCANS p) 1).wrB (LGE_PRG_STATE p) LGE_PRG_STATE_LATE true
        s.postLimited (s.prgOwner p) 0x0707 p (p2 p ++ p4 (round32 k))
      else if st = 1 then put s
      else if st = 2 then
        if (s.prog p).halt.isSome || !step then s.bump (cntLGE_HELD_SCANS p) 1 else put s
      else s) s

/-! ### Owners (R300) -/

/-- The VALID programs of a tenant. -/
def State.progsOf (s : State) (t : Nat) : List Nat := s.programs.filter (fun p => s.prgOwner p == t)

/-- The state that SUSPENDED and HELD remember: a HOLD that waited for the end of a scan abandoned then counts (R300).
DESIGN CHOICE, log entry 47. -/
def State.remembered (s : State) (p : Nat) : Nat := if (s.prog p).holdNext then 2 else s.prgState p

/-- The owner's safe-value step. -/
def State.progsSuspend (s : State) (t : Nat) : State :=
  (s.progsOf t).foldl (fun s p =>
    let st := s.prgState p
    if st = 1 ∨ st = 2 then
      let back := s.remembered p
      let s := (s.dropExchange p).dropScan p
      let s := (s.setProg p { s.prog p with back := back }).setPrgState p 3 10
      ((s.progSafe p (fun _ => false)).settle.lgeLoadShow).unitsShow
    else s) s

/-- The owner is stopped for migration: no scans, outputs hold. -/
def State.progsHold (s : State) (t : Nat) : State :=
  (s.progsOf t).foldl (fun s p =>
    let st := s.prgState p
    if st = 1 ∨ st = 2 then
      let s := s.setProg p { s.prog p with back := s.remembered p, unit := none, holdNext := false }
      let s : State := { s with lge := { s.lge with queue := s.lge.queue.filter (fun q => q.prog != p) } }
      ((s.setPrgState p 4 11).settle).unitsShow
    else s) s

/-- The owner enters RUNNING or resumes. -/
def State.progsRun (s : State) (t : Nat) : State :=
  (s.progsOf t).foldl (fun s p =>
    if s.prgState p = 3 ∨ s.prgState p = 4 then ((s.setPrgState p (s.prog p).back 12).settle).lgeLoadShow else s) s

/-- The owner's RELEASE: STOP; the steward then clears VALID. -/
def State.progsRelease (s : State) (t : Nat) : State :=
  (s.progsOf t).foldl (fun s p =>
    let s := if s.prgState p = 0 then s else s.progStop p 3
    s.wrB (LGE_PRG_CFG p) LGE_PRG_CFG_VALID false) s

/-! ### Verification (R310) -/

/-- The code words of a program with their indices, the literals of LDL marked. -/
def codeScan : Nat → Bool → List Nat → List (Nat × Nat × Bool)
  | _, _, [] => []
  | i, lit, w :: r => (i, w, lit) :: codeScan (i + 1) (!lit && w / 2 ^ 24 == 0x33) r

def State.codeList (s : State) (p : Nat) : List (Nat × Nat × Bool) :=
  codeScan 0 false ((List.range (s.codeLen p)).map (s.codeWord p))

/-- Reason 1: opcode and reserved bits. -/
def lgeWordOk (w : Nat) : Bool :=
  let o := w % 2 ^ 24
  let area := o / 2 ^ 22
  match lgeForm (w / 2 ^ 24) with
  | some 0 => o == 0
  | some 1 => area != 3 && o / 2 ^ 19 % 8 == 0
  | some 2 => area == 3 || o / 2 ^ 14 % 256 == 0
  | some 3 => o / 2 ^ 14 == 0 && o / 1024 % 4 == 0
  | some 4 => o / 2 ^ 18 == 0
  | some 5 => o / 16 == 0
  | some 6 => o / 2 == 0
  | some 7 => area != 3 && o / 2 ^ 14 % 256 == 0
  | _ => false

/-- Reason 2: an operand lies within its area. -/
def State.operandOk (s : State) (p w : Nat) : Bool :=
  let o := w % 2 ^ 24
  let area := o / 2 ^ 22
  match lgeForm (w / 2 ^ 24) with
  | some 1 => decide (o % 16384 < s.areaCount p area)
  | some 2 => area == 3 || decide (o % 16384 < s.areaCount p area)
  | some 7 => decide (o % 16384 < s.areaCount p area)
  | _ => true

/-- Reason 3: a store into the I area. -/
def storesInput (w : Nat) : Bool :=
  let op := w / 2 ^ 24
  ((8 ≤ op && op ≤ 0x0B) || op == 0x31) && w / 2 ^ 22 % 4 == 0

/-- The instance types that an instruction and its pin accept. -/
def instTypes (op pin : Nat) : List Nat :=
  if 0x20 ≤ op ∧ op ≤ 0x27 then [op - 0x1F]
  else if op = 0x28 then (if pin = 0 then [6, 8] else if pin = 1 then [7, 8] else if pin = 2 then [8] else [])
  else if op = 0x29 then (if pin = 0 then [1, 2, 3, 4, 5, 6, 7, 8] else if pin = 1 then [8] else [])
  else [3, 4, 5, 6, 7, 8]

/-- Reason 5. -/
def State.instOk (s : State) (p w : Nat) : Bool :=
  let op := w / 2 ^ 24
  if lgeForm op = some 3 then
    let i := w % 1024
    decide (i < s.instCount p) && decide (s.instBase p + i < 16384)
      && (instTypes op (w / 4096 % 4)).contains (s.instAt (s.instBase p + i)).type
  else true

/-- The owner is entitled to a stream of the active bank (R195).
DESIGN CHOICE, log entry 47. -/
def State.entitled (s : State) (t h : Nat) : Bool := s.entitledIn s.ingActive t h

/-- Reason 8, input map. -/
def State.inOk (s : State) (p : Nat) (x : LgeIn) : Bool :=
  let n := if x.kind = 4 then x.count else 1
  x.kind == 0 || (!x.reserved && decide (x.kind ≤ 4) && decide (x.iword + n ≤ s.areaCount p 0)
    && (if x.kind = 4 then decide (1 ≤ x.count) && decide (x.count ≤ 64) && decide (x.tword + x.count ≤ 1024)
        else x.count == 0)
    && (if x.kind = 2 ∨ x.kind = 3 then
          (s.stream s.ingActive x.handle).type == 2 && s.entitled (s.prgOwner p) x.handle && decide (x.element < 128)
        else true))

/-- Reason 8, output map.
DESIGN CHOICE, log entry 47. -/
def State.omapOk (s : State) (p : Nat) (x : OutEntry) (w3 : Nat) : Bool :=
  decide (x.kind ≤ 3) && decide (x.qword < s.areaCount p 1) && w3 == 0
    && (if x.kind = 1 then x.bit / 32 % 4 == 0 && decide (x.target < 256)
        else if x.kind = 2 then x.bit == 0 && x.target / 4096 % 16 == 0 && x.target / 2 ^ 24 == 0
          && s.slotOwner (x.target % 4096) == some (s.prgOwner p)
        else x.bit == 0 && decide (x.target < 1024)
          && (s.frameEntry (s.prgOutBase p)).map (·.1) == some (s.prgOwner p))

/-- Reason 9: a declaration against those before it. -/
def State.declOk (s : State) (p : Nat) (before : List LgeDecl) (d : LgeDecl) : Bool :=
  !d.reserved && decide (d.area ≤ 2) && decide (d.word < s.areaCount p d.area) && decide (d.bit < 32)
    && before.all (fun e => e.var != d.var
      && !(e.area == d.area && e.word == d.word && (e.ty != 0 || d.ty != 0 || e.bit == d.bit)))

/-- The first declaration that does not hold. -/
def State.badDecl (s : State) (p : Nat) : List LgeDecl → List LgeDecl → Option Nat
  | _, [] => none
  | before, d :: r => if s.declOk p before d then s.badDecl p (d :: before) r else some d.index

/-- The first failure of R310: reason and index; none when every check passes. -/
def State.verify (s : State) (p : Nat) : Option (Nat × Nat) :=
  let code := s.codeList p
  let ops := code.filter (fun c => !c.2.2)
  let find := fun (reason : Nat) (bad : Nat × Nat × Bool → Bool) => (ops.find? bad).map (fun c => (reason, c.1))
  let target := fun (w : Nat) => w % 2 ^ 18
  let r1 := if code.isEmpty then some (1, 0) else find 1 (fun c => !lgeWordOk c.2.1)
  let r2 := find 2 (fun c => !s.operandOk p c.2.1)
  let r3 := find 3 (fun c => storesInput c.2.1)
  let r4 := find 4 (fun c => lgeForm (c.2.1 / 2 ^ 24) == some 4
    && (decide (code.length ≤ target c.2.1) || (code.getD (target c.2.1) (0, 0, false)).2.2))
  let r5 := find 5 (fun c => !s.instOk p c.2.1)
  let last := code.getLastD (0, 0, true)
  let lop := last.2.1 / 2 ^ 24
  let r6 := if !last.2.2 && (lop == 0x7F || lop == 0x70 || lop == 0x75) then none else some (6, code.length - 1)
  let r7 := find 7 (fun c => c.2.1 / 2 ^ 24 == 0x78 &&
    (let n := c.2.1 % 16
     !(s.rdB (LGE_PRG_FLAG p n) LGE_PRG_FLAG_EN
       && s.ownsTask (s.prgOwner p) (s.rd (LGE_PRG_FLAG p n) LGE_PRG_FLAG_TASK))))
  let r8 := match (List.range 64).find? (fun e => !s.inOk p (s.inEntry p e)) with
    | some e => some (8, e)
    | none => ((List.range 64).find? (fun e =>
        let w := fun i => (s.rdW (LGE_OMAP p (4 * e + i))).toNat
        let x : OutEntry := { kind := w 0 % 256, bit := w 0 / 256 % 256, qword := w 0 / 65536, target := w 1, safe := w 2 }
        x.kind != 0 && !s.omapOk p x (w 3))).map (fun e => (8, e))
  let r9 := (s.badDecl p [] (s.decls p)).map (fun i => (9, i))
  ((((((((r1.or r2).or r3).or r4).or r5).or r6).or r7).or r8).or r9)

/-- VERIFY of slot `p` against slot `target` starts (R310).
DESIGN CHOICE, log entry 47. -/
def opLgeVerify (p target : Nat) (s : State) : State :=
  s.prgCmd p fun s =>
    let tg := target % 64
    let s := s.wr (LGE_PRG_CMD p) LGE_PRG_CMD_TARGET tg
    if s.prgState p ≠ 0 ∨ !s.rdB (LGE_PRG_CFG p) LGE_PRG_CFG_VALID
        ∨ (tg ≠ p ∧ (s.prgOwner tg ≠ s.prgOwner p ∨ !s.rdB (LGE_PRG_CFG tg) LGE_PRG_CFG_VALID)) then (1, s)
    else
      let s : State := { s with lge := { s.lge with verify := s.lge.verify.filter (fun v => v.1 != p) ++ [(p, tg)] } }
      (0, s.wrB (LGE_PRG_CMD p) LGE_PRG_CMD_BUSY true)

def execLgeVerify (t prog target : Nat) (s : State) : Host.Outcome State Fault Refusal :=
  s.runAt t (opLgeVerify prog target)

/-- Verification completes. -/
def opLgeVerifyComplete (p : Nat) (s : State) : State :=
  match s.lge.verify.find? (fun v => v.1 == p) with
  | none => s
  | some (_, tg) =>
    let s : State := { s with lge := { s.lge with verify := s.lge.verify.filter (fun v => v.1 != p) } }
    let s := s.wrB (LGE_PRG_CMD p) LGE_PRG_CMD_BUSY false
    match s.verify p with
    | none =>
      (((s.setProg p { s.prog p with against := tg }).wrB (LGE_PRG_STATE p) LGE_PRG_STATE_VERIFIED true).prgResult p 0).stopSafe p
    | some (reason, i) =>
      let s := (s.wrB (LGE_PRG_STATE p) LGE_PRG_STATE_VERIFIED false).prgResult p 2
      (s.wr (LGE_PRG_DETAIL p) LGE_PRG_DETAIL_REASON reason).wr (LGE_PRG_DETAIL p) LGE_PRG_DETAIL_INDEX i

def execLgeVerifyComplete (t prog : Nat) (s : State) : Host.Outcome State Fault Refusal :=
  s.runAt t (opLgeVerifyComplete prog)

/-! ### On-line exchange (R311, R312, R315) -/

/-- FORCES and FORCED follow the force table. -/
def State.forceShow (s : State) (p : Nat) : State :=
  let n := (s.forces p).length
  (s.wr (LGE_PRG_STATE p) LGE_PRG_STATE_FORCES n).wrB (LGE_PRG_STATE p) LGE_PRG_STATE_FORCED (n != 0)

/-- An entry of a force table. -/
def State.putForce (s : State) (p f var value : Nat) (valid : Bool) : State :=
  (s.wrW (LGE_FORCE p (4 * f)) (BitVec.ofNat 32 (var % 65536 + 65536 * b2n valid))).wrW (LGE_FORCE p (4 * f + 1))
    (BitVec.ofNat 32 value)

/-- Instances carried from `p` to `q`.
DESIGN CHOICE, log entry 47. -/
def State.carryInsts (s : State) (p q : Nat) (r : LgeReport) : State × LgeReport :=
  let np := s.instCount p
  let nq := s.instCount q
  (List.range (max np nq)).foldl (fun (acc : State × LgeReport) i =>
    let (s, r) := acc
    let a := if i < np then s.instAt (s.instBase p + i) else instReset 0
    let b := if i < nq then s.instAt (s.instBase q + i) else instReset 0
    let (k, n, m) := r.inst
    if a.type = 0 ∧ b.type = 0 then acc
    else if a.type = b.type then
      (s.setInst (s.instBase q + i) { a with fresh := b.fresh, tick := false }, { r with inst := (k + 1, n, m) })
    else
      let s := if b.type = 0 then s else s.resetInst (s.instBase q + i) b.type
      let e := if a.type = 0 then [] else if b.type = 0 then [(1, i, a.type, 0xFF)] else [(2, i, a.type, b.type)]
      (s, { r with inst := (k, n + b2n (b.type != 0), m + b2n (a.type != 0)), entries := r.entries ++ e })) (s, r)

/-- Q and M variables carried from `p` to `q`. -/
def State.carryVars (s : State) (p q : Nat) (r : LgeReport) : State × LgeReport :=
  let out := fun (d : LgeDecl) => d.area == 1 || d.area == 2
  let dp := (s.decls p).filter out
  let dq := (s.decls q).filter out
  let same := fun (d e : LgeDecl) => d.var == e.var && d.ty == e.ty
  let vals := dq.map (fun d => (d, (dp.find? (same d)).map (s.declGet p)))
  let s := [1, 2].foldl (fun s a =>
    (List.range (s.areaCount q a)).foldl (fun s i => s.setVarWord (s.areaBase q a + i) 0) s) s
  let s := vals.foldl (fun s v => s.declSet q v.1 (v.2.getD v.1.init)) s
  let kept := (vals.filter (fun v => v.2.isSome)).length
  let gone := (dp.filter (fun d => !dq.any (same d))).length
  (s, { r with vars := (kept, vals.length - kept, gone) })

/-- Forces carried from `p` to `q` (R315).
DESIGN CHOICE, log entry 47. -/
def State.carryForces (s : State) (p q : Nat) (r : LgeReport) : State × LgeReport :=
  let dp := s.decls p
  let dq := s.decls q
  let judged := (s.forces p).map (fun f =>
    let old := (dp.find? (fun d => d.var == f.2.1)).map (·.ty)
    match dq.find? (fun d => d.var == f.2.1) with
    | none => (f.2, some (3, old.getD 0xFF, 0xFF))
    | some d => if some d.ty = old then (f.2, none) else (f.2, some (4, old.getD 0xFF, d.ty)))
  let kept := judged.filterMap (fun j => if j.2.isNone then some j.1 else none)
  let gone := judged.filterMap (fun j => j.2.map (fun e => (j.1.1, e)))
  let s := (List.range 256).foldl (fun s f => s.putForce q f 0 0 false) s
  let s := (List.range kept.length).foldl (fun s f =>
    let x := kept.getD f (0, 0); s.putForce q f x.1 x.2 true) s
  let s := gone.foldl (fun s g => s.postTenant 0x0706 (s.prgOwner p) (p2 p ++ p2 g.1 ++ p1 g.2.1)) s
  (s.forceShow q, { r with force := (kept.length, gone.length),
                           entries := r.entries ++ gone.map (fun g => (g.2.1, g.1, g.2.2.1, g.2.2.2)) })

/-- The exchange of `p` for `q`. -/
def State.exchange (s : State) (p q : Nat) : State :=
  let live := s.prgState p == 1
  let (s, r) := s.carryInsts p q {}
  let (s, r) := s.carryVars p q r
  let (s, r) := s.carryForces p q r
  let s := (s.setProg p { s.prog p with exch := none }).wrB (LGE_PRG_STATE p) LGE_PRG_STATE_EXCH_PENDING false
  let s := (s.dropScan q).setJ q 0
  let s := s.wr (LGE_PRG_STATE p) LGE_PRG_STATE_STOP_CAUSE 4
  let s := if live then
      let mine := s.prgTargets q
      let s := (s.dropScan p).setPrgState p 0 6
      let s := (s.progSafe p (fun x => mine.contains
        (if x.kind = 1 then (1, x.target % 256) else (2, x.target % 2 ^ 24)))).setPrgState q 1 6
      s.settle.lgeLoadShow
    else s
  let round := round32 s.roundNow
  let s := (s.putReport round p q 0 r).bump (cntLGE_EXCHANGES p) 1
  s.postTenant 0x0704 (s.prgOwner p) (p2 p ++ p2 q ++ p4 round ++ p2 r.inst.1 ++ p2 r.inst.2.1 ++ p2 r.inst.2.2
    ++ p2 r.vars.1 ++ p2 r.vars.2.1 ++ p2 r.vars.2.2 ++ p2 r.force.1 ++ p2 r.force.2)

/-- EXCHANGE of slot `p` for `q`: RESULT and the machine (R311).
DESIGN CHOICE, log entry 47. -/
def State.stageExchange (s : State) (p q : Nat) : Nat × State :=
  let st := s.prgState p
  let staged := s.lge.progs.any (fun c => match c.2.exch with | some x => x.val == q && c.1 != p | none => false)
  if !((st = 1 ∨ st = 0) ∧ p ≠ q ∧ s.rdB (LGE_PRG_CFG p) LGE_PRG_CFG_VALID ∧ s.prgState q = 0
      ∧ s.rdB (LGE_PRG_STATE q) LGE_PRG_STATE_VERIFIED ∧ (s.prog q).against = p ∧ !staged) then (1, s)
  else if s.targetsTaken q p then (4, s)
  else if st = 0 ∨ !s.gridOn then (0, (s.exchange p q).noteApplied)
  else
    let x : Staged Nat := s.stage q
    (0, (s.setProg p { s.prog p with exch := some x }).wrB (LGE_PRG_STATE p) LGE_PRG_STATE_EXCH_PENDING true)

def opLgeExchange (p target : Nat) (s : State) : State :=
  s.prgCmd p fun s => (s.wr (LGE_PRG_CMD p) LGE_PRG_CMD_TARGET (target % 64)).stageExchange p (target % 64)

def execLgeExchange (t prog target : Nat) (s : State) : Host.Outcome State Fault Refusal :=
  s.runAt t (opLgeExchange prog target)

/-- CANCEL_EXCHANGE before the cut-off withdraws; after it, it has no effect (R316). -/
def opLgeCancelExchange (p : Nat) (s : State) : State :=
  s.prgCmd p fun s =>
    match (s.prog p).exch with
    | none => (0, s)
    | some x =>
      if s.gridOn ∧ x.eff ≤ s.tim.nextRound ∧ s.scanBoundary p s.tim.nextRound ∧ s.nextT ≤ s.dom + 1000 then (0, s)
      else (0, s.dropExchange p)

def execLgeCancelExchange (t prog : Nat) (s : State) : Host.Outcome State Fault Refusal :=
  s.runAt t (opLgeCancelExchange prog)

/-- Step 5 of R48: the exchanges due at boundary `k`; with `all`, every one (R559). Answers the slots that scan at this
boundary and whether anything took effect. -/
def State.lgeStep5 (s : State) (k : Nat) (all : Bool) : List Nat × State :=
  s.programs.foldl (fun (acc : List Nat × State) p =>
    let (l, s) := acc
    match (s.prog p).exch with
    | none => acc
    | some x =>
      if s.prgState p = 1 ∧ (all ∨ (x.due k ∧ s.scanBoundary p k ∧ !s.scanOpen p)) then (l ++ [x.val], s.exchange p x.val)
      else acc) ([], s)

/-! ### Inputs and forces (R295, R314) -/

/-- TW_LGI w written. -/
def opTwLgiWrite (core w : Nat) (v : Word) (s : State) : State :=
  match s.coreTenant core with
  | none => s
  | some t =>
    if 1024 ≤ w then s
    else { s with lge := { s.lge with inputs := cset (fun _ => 0) s.lge.inputs (t * 1024 + w) v } }

def execTwLgiWrite (t core j : Nat) (value : Word) (s : State) : Host.Outcome State Fault Refusal :=
  s.runAt t (opTwLgiWrite core j value)

/-- A force entry set or cleared: its status and the machine. -/
def State.setForce (s : State) (p f var : Nat) (valid : Bool) (value session : Nat) : Nat × State :=
  if 64 ≤ p ∨ 256 ≤ f then (0x0104, s)
  else if valid && !(s.decls p).any (fun d => d.var == var % 65536) then (0x0535, s)
  else
    let s := (s.putForce p f var value valid).forceShow p
    (0, s.postTenant 0x0705 (s.prgOwner p) (p2 p ++ p2 var ++ p1 (b2n valid) ++ p4 value ++ p4 session))

/-- A force table entry written through control space; one that names an undeclared variable is ignored (R314). -/
def opForceTableWrite (p f var : Nat) (valid : Bool) (value : Word) (s : State) : State :=
  let (st, s) := s.setForce p f var valid value.toNat 0
  if st = 0 then s else s.wrB LGE_STAT LGE_STAT_CFG_REJ true

def execForceTableWrite (t prog entry var : Nat) (valid : Bool) (value : Word) (s : State) :
    Host.Outcome State Fault Refusal := s.runAt t (opForceTableWrite prog entry var valid value)

/-- LGE_PRG_TIME read: MAX_US clears (R317). -/
def opLgePrgTimeRead (p : Nat) (s : State) : State :=
  if p < 64 then (s.wr (LGE_PRG_TIME p) LGE_PRG_TIME_MAX_US 0).answer (s.rdW (LGE_PRG_TIME p)).toNat else s.answer 0

def execLgePrgTimeRead (t prog : Nat) (s : State) : Host.Outcome State Fault Refusal :=
  s.runAt t (opLgePrgTimeRead prog)

end Sys2Proof.Machine
end

