-- ==== Sys2Proof/Machine/Rec.lean ====
section
/-! DEFINITION. The disturbance recorder (R349 to R371): arming, entries and their tests, triggers, domain trigger frames,
cross-trigger lines, headers. -/

namespace Sys2Proof.Machine

def State.recRej (s : State) : State := s.wrB REC_STAT REC_STAT_CFG_REJ true

def State.recDyn (s : State) (r : Nat) : RecDyn := cget (fun _ => {}) s.rec_.recs r
def State.setRec (s : State) (r : Nat) (x : RecDyn) : State :=
  { s with rec_ := { s.rec_ with recs := cset (fun _ => {}) s.rec_.recs r x } }

def State.recState (s : State) (r : Nat) : Nat := s.rd (REC_STATE r) REC_STATE_STATE
/-- ARMED or POST. -/
def State.recActive (s : State) (r : Nat) : Bool := s.recState r == 1 || s.recState r == 2

/-- The RATE byte of a recorder and its rate (R349). -/
def State.recRateByte (s : State) (r : Nat) : Nat :=
  16 * s.rd (REC_CFG r) REC_CFG_N_M1 + s.rd (REC_CFG r) REC_CFG_M_M1
def State.recRate (s : State) (r : Nat) : Nat := streamRate s.fs (s.recRateByte r)

def State.recChannels (s : State) (r : Nat) : Nat := s.rd (REC_CFG r) REC_CFG_CHANNELS + 1

/-- The region, the stride and the capacity (R353). -/
def State.recBase (s : State) (r : Nat) : Nat :=
  s.rd (REC_MEM_LO r) REC_MEM_LO_BASE * 2 ^ 20 + 2 ^ 32 * s.rd (REC_MEM_HI r) REC_MEM_HI_BASE
def State.recBytes (s : State) (r : Nat) : Nat := s.rd (REC_MEM_SIZE r) REC_MEM_SIZE_MIB * 2 ^ 20
def State.recStride (s : State) (r : Nat) : Nat := 16 * ((16 + 8 * s.recChannels r + 15) / 16)
def State.recCapacity (s : State) (r : Nat) : Nat := (s.recBytes r - 4096) / s.recStride r

/-- A channel of a recorder (R350). -/
structure RecChan where
  handle : Nat
  ch : Nat
  tests : Nat
  hi : Int
  lo : Int
  delta : Nat
  span : Nat
  maskK : Nat
  deriving DecidableEq, Repr

def State.recChan (s : State) (r c : Nat) : RecChan :=
  let w := fun i => (s.rdW (REC_CHAN r (8 * c + i))).toNat
  { handle := w 0 % 16384, ch := w 0 / 2 ^ 16 % 256, tests := w 0 / 2 ^ 24, hi := toSigned 32 (w 1), lo := toSigned 32 (w 2)
    delta := w 3, span := w 4 % 256, maskK := max 1 (w 4 / 256 % 256) }

/-- The mask templates' address (R361). -/
def State.recMask (s : State) (r : Nat) : Nat :=
  s.rd (REC_MASK_LO r) REC_MASK_LO_BASE * 0x1000 + 2 ^ 32 * s.rd (REC_MASK_HI r) REC_MASK_HI_BASE
def State.recNom (s : State) (r : Nat) : Nat := if s.rdB (REC_CFG r) REC_CFG_FNOM then 60 else 50

/-- The instant of entry `n`. -/
def State.recInst (s : State) (r n : Nat) : Nat := sampleInstant (s.recRate r) n

/-- The oldest entry still held. -/
def State.recOldest (s : State) (r : Nat) : Nat :=
  let x := s.recDyn r
  max x.n0 (x.next - s.recCapacity r)

/-- REC_STAT.ACTIVE, REC_LOAD and REC_MEM_USED follow. -/
def State.recShow (s : State) : State :=
  let act := (List.range 16).filter s.recActive
  let s := s.wr REC_STAT REC_STAT_ACTIVE ((act.map (fun r => 2 ^ r)).sum)
  let s := s.wr REC_LOAD REC_LOAD_MBS (satNat 65535 ((act.map (fun r => (s.recDyn r).load)).sum / 1000000))
  s.wr REC_MEM_USED REC_MEM_USED_MIB (satNat 16383 (((List.range 16).map (fun r => s.rd (REC_MEM_SIZE r) REC_MEM_SIZE_MIB)).sum))

def State.setRecState (s : State) (r v : Nat) : State := (s.wr (REC_STATE r) REC_STATE_STATE v).recShow

/-! ### The header (R366) -/

/-- The recording header written to the region. -/
def State.recHeader (s : State) (r : Nat) : State :=
  let x := s.recDyn r
  let cap := s.recCapacity r
  let preAct := s.rd (REC_PRE_ACT r) REC_PRE_ACT_ENTRIES
  let postAct := s.rd (REC_POST_ACT r) REC_POST_ACT_ENTRIES
  let cfg := s.rdB (REC_CFG r)
  let (t, first) := match x.trig with
    | some t => (t, t.entry - preAct)
    | none => ({ instant := 0, entry := 0, frac := 0, source := 0, detail := 0 }, x.n0)
  let last := if x.trig.isSome ∧ 0 < postAct then s.recInst r (t.entry + postAct - 1) else 0
  let b := p2 1 ++ p1 r ++ p1 (s.recState r) ++ p2 (s.recChannels r) ++ p2 (s.recStride r) ++ p1 (s.recRateByte r)
    ++ p1 (s.rd TIM_GRID TIM_GRID_FS_SEL)
    ++ p1 (b2n (cfg REC_CFG_DIGITAL) + 2 * s.rd (REC_STATE r) REC_STATE_PRE_REDUCED + 4 * b2n x.missing)
    ++ p1 (s.rd (REC_STATE r) REC_STATE_END_CAUSE) ++ p4 cap ++ p8 x.armAt ++ p8 first
    ++ p4 (if cap = 0 then 0 else (first - x.n0) % cap) ++ p4 (s.rdW (REC_PRE r)).toNat
    ++ p4 (s.rdW (REC_PRE_EFF r)).toNat ++ p4 preAct ++ p4 x.postEff ++ p4 postAct ++ p8 t.entry ++ p8 t.instant
    ++ p2 t.frac ++ p1 t.source ++ p1 0 ++ p4 t.detail ++ p8 last ++ p4 (satNat 0xFFFFFFFF x.laterN) ++ p4 0
    ++ x.later.flatMap (fun l => p8 l.1 ++ p1 l.2.1 ++ leBytes 3 0 ++ p4 l.2.2)
  s.devWrite (s.recBase r) (fitBytes 4096 b)

/-- A recording ends: DONE with its cause, header, event 0x0902 (R355). -/
def State.recDone (s : State) (r cause : Nat) : State :=
  let s := (s.wr (REC_STATE r) REC_STATE_END_CAUSE cause).setRecState r 3
  let s := (s.recHeader r).bump (cntREC_RECORDINGS r) 1
  s.post 0x0902 (p1 r ++ p1 cause ++ p4 (s.rdW (REC_PRE_ACT r)).toNat ++ p4 (s.rdW (REC_POST_ACT r)).toNat)

/-- DISARM, or a lost enable: POST ends with its cause, ARMED goes to IDLE. -/
def State.recEnd (s : State) (r cause : Nat) : State :=
  if s.recState r = 2 then s.recDone r cause else if s.recState r = 1 then s.setRecState r 0 else s

/-- REC_CTRL.EN or GRID_EN cleared (R355). -/
def State.recStopAll (s : State) : State := (List.range 16).foldl (fun s r => s.recEnd r 3) s

/-! ### What an accepted trigger sends (R362, R365) -/

/-- A cross-trigger line driven for PULSE µs from now. -/
def State.xtrgDrive (s : State) (l : Nat) : State :=
  let pulse := max 1 (s.rd (REC_XTRG_CFG l) REC_XTRG_CFG_PULSE)
  let d := s.rd REC_XTRG_STAT REC_XTRG_STAT_DRIVING
  let x := cget (fun _ => {}) s.rec_.lines l
  let y : RecLine := { from_ := if d.testBit l then x.from_ else s.now, until_ := s.now + 1000 * pulse, used := true }
  let s := s.wr REC_XTRG_STAT REC_XTRG_STAT_DRIVING (nsetBit d l true)
  { s with rec_ := { s.rec_ with lines := cset (fun _ => {}) s.rec_.lines l y } }

/-- A line no longer driven. -/
def State.xtrgFree (s : State) (l : Nat) : State :=
  let d := s.rd REC_XTRG_STAT REC_XTRG_STAT_DRIVING
  if d.testBit l then
    let x := cget (fun _ => {}) s.rec_.lines l
    let s := s.wr REC_XTRG_STAT REC_XTRG_STAT_DRIVING (nsetBit d l false)
    { s with rec_ := { s.rec_ with lines := cset (fun _ => {}) s.rec_.lines l { x with until_ := s.now } } }
  else s

/-- The bytes of a domain trigger frame before its tag; multi-byte fields of the payload are big-endian.
DESIGN CHOICE, log entry 48. -/
def State.domFrame (s : State) (r : Nat) (t : RecTrig) : List Byte :=
  let da := macOf (s.rdW REC_DOM_DA_LO).toNat (s.rdW REC_DOM_DA_HI).toNat
  let sa := macOf (s.rdW OUT_MOD_MAC_LO).toNat (s.rdW OUT_MOD_MAC_HI).toNat
  let v := s.rdW REC_DOM_VLAN
  let tag := if fget REC_DOM_VLAN_TAGGED v = 1 then
      beBytes 2 0x8100 ++ beBytes 2 (fget REC_DOM_VLAN_PCP v * 8192 + fget REC_DOM_VLAN_VID v) else []
  beBytes 6 da ++ beBytes 6 sa ++ tag ++ beBytes 2 0x88B5 ++ p1 1 ++ p1 1
    ++ beBytes 2 (s.rd REC_DOM_CFG REC_DOM_CFG_GROUP) ++ beBytes 4 (Config.moduleId % 16384 + r * 65536)
    ++ beBytes 8 t.instant ++ beBytes 4 (s.rdW REC_DOM_SEQ).toNat ++ p1 t.source ++ leBytes 3 0

/-- The domain trigger frame of an accepted trigger, unless publishing is muted or its key refused (R362). -/
def State.domSend (s : State) (r : Nat) (t : RecTrig) : State :=
  if !(s.rdB (REC_CFG r) REC_CFG_DOM_OUT && s.rdB REC_DOM_CFG REC_DOM_CFG_EN) || s.fenced
      || !s.rdB OUT_CTRL OUT_CTRL_PUB_EN then s
  else
    let k := s.rd REC_DOM_CFG REC_DOM_CFG_KEY
    let (st, s) := s.grant k ⟨[2], [uMac]⟩ .publish false
    if st ≠ 0 then s
    else
      let b := s.domFrame r t
      let b := b ++ macTag (s.slot k).value b true
      let s := s.wrW REC_DOM_SEQ (s.rdW REC_DOM_SEQ + 1)
      s.handOver 7 b

/-! ### Triggers (R358, R363, R364) -/

/-- n / d to nearest, ties to even. -/
def ratioHalfEven (n d : Nat) : Nat := (divHalfEven (n : Int) (max 1 d)).toNat

/-- The first entry not earlier than `t`, and FRAC of the position of `t` (R364). -/
def State.recPlace (s : State) (r t : Nat) : Nat × Nat :=
  let rate := s.recRate r
  let p := sampleAt rate t
  let a := sampleInstant rate p
  let e := if a = t then p else p + 1
  (e, ratioHalfEven (65536 * (t - a)) (sampleInstant rate (p + 1) - a) % 65536)

/-- The address of entry `n` in the capture ring. -/
def State.recAddr (s : State) (r n : Nat) : Nat :=
  s.recBase r + 4096 + s.recStride r * ((n - (s.recDyn r).n0) % max 1 (s.recCapacity r))

/-- POST_ACT counted; the recording completes at POST_EFF. -/
def State.recCount (s : State) (r n : Nat) : State :=
  let x := s.recDyn r
  let s := s.wrW (REC_POST_ACT r) (BitVec.ofNat 32 (min n x.postEff))
  if x.postEff ≤ n then s.recDone r 0 else s

/-- What became of an offered trigger. -/
inductive TrigEnd where
  | nothing | ignored | tooOld | accepted
deriving DecidableEq

/-- A trigger offered to a recorder (R363); `frac` where its source gives it (R359). -/
def State.recOffer (s : State) (r src t detail : Nat) (frac : Option Nat) : TrigEnd × State :=
  if !(s.rd (REC_TRIG_EN r) REC_TRIG_EN_SOURCES).testBit (src - 1) then (.nothing, s)
  else
    let st := s.recState r
    let x := s.recDyn r
    if st ≠ 1 then
      let s := s.bump (cntREC_TRIG_IGNORED r) 1
      (.ignored, if st = 2 then
          s.setRec r { x with laterN := x.laterN + 1,
                              later := if x.later.length < 8 then x.later ++ [(t, src, detail)] else x.later }
        else s)
    else if t < x.armAt ∨ (x.n0 < x.next ∧ t < s.recInst r (s.recOldest r)) then
      (.tooOld, s.bump (cntREC_TRIG_TOO_OLD r) 1)
    else
      let (e, fr) := s.recPlace r t
      let oldest := max x.n0 (max x.next e - s.recCapacity r)
      let before := e - oldest
      if s.rdB (REC_CFG r) REC_CFG_PRE_WAIT ∧ before < (s.rdW (REC_PRE_EFF r)).toNat then
        (.ignored, s.bump (cntREC_TRIG_IGNORED r) 1)
      else
        let tr : RecTrig := { instant := t, entry := e, frac := frac.getD fr, source := src, detail := detail, synch := s.synch }
        let s := s.setRec r { x with trig := some tr }
        let s := s.wrW (REC_PRE_ACT r) (BitVec.ofNat 32 (min (s.rdW (REC_PRE_EFF r)).toNat before))
        let s := (s.wr64 (REC_TRIG_TIME_LO r) (REC_TRIG_TIME_HI r) t).wr (REC_TRIG_POS r) REC_TRIG_POS_FRAC tr.frac
        let s := (s.wr (REC_STATE r) REC_STATE_SOURCE src).setRecState r 2
        let s := s.post 0x0901 (p1 r ++ p1 src ++ p4 detail ++ p8 t ++ p2 tr.frac)
        let s := s.domSend r tr
        let s := (List.range 8).foldl (fun s l =>
          if s.rdB (REC_XTRG_CFG l) REC_XTRG_CFG_OUT_EN && (s.rd (REC_XTRG_CFG l) REC_XTRG_CFG_SRC_MASK).testBit r then
            s.xtrgDrive l else s) s
        let s := if e < x.next then
            let a := s.recAddr r e + 4
            s.devWrite a (leBytes 1 (nsetBit (s.byte a).toNat 0 true))
          else s
        let s := if s.rdB (REC_CFG r) REC_CFG_SOLSTICE_OUT then s.fireSource 3 else s
        (.accepted, s.recCount r (x.next - e))

/-- A trigger offered to every recorder that `sel` names. -/
def State.recOfferAll (s : State) (sel : Nat → Bool) (src t detail : Nat) : State :=
  ((List.range 16).filter sel).foldl (fun s r => (s.recOffer r src t detail none).2) s

/-- A Solstice strobe not yet seen is offered with source 8.
DESIGN CHOICE, log entry 48. -/
def State.recSync (s : State) : State :=
  let c := s.rd SYS_SNAP_STAT SYS_SNAP_STAT_COUNT
  if c = s.rec_.strobes then s
  else
    let t := s.rd64 SYS_SNAP_TIME_LO SYS_SNAP_TIME_HI
    ({ s with rec_ := { s.rec_ with strobes := c } } : State).recOfferAll (fun _ => true) 8 t 0

/-! ### Entries (R351, R352, R359 to R361) -/

/-- The two digital words at the last 1 µs sample not later than `t` (R352).
DESIGN CHOICE, log entry 38. -/
def State.digital (s : State) (t : Nat) : Nat × Nat :=
  match s.out.hist.find? (fun h => decide (h.1 ≤ t / 1000 * 1000)) with
  | some h => h.2
  | none => (0, 0)

/-- The quality word of a value that could not be read. -/
def recMissing : Nat × Nat := (0, 0x100001)

/-- Channel `c` of entry `n`. -/
def State.recRead (s : State) (r c n : Nat) : Nat × Nat :=
  let x := s.recChan r c
  let e := s.stream s.ingActive x.handle
  if (e.type = 1 ∨ e.type = 3) ∧ x.ch < e.channels then
    match s.ringEntry x.handle e (n * streamRate s.fs e.rate / max 1 (s.recRate r)) with
    | some b => entryChan b x.ch
    | none => recMissing
  else recMissing

/-- Whether the tests may use an entry's value: validity 00 and not MISSING. -/
def recGood (v : Nat × Nat) : Bool := v.2 % 4 == 0 && !v.2.testBit 20

/-- What the tests of one channel find at an entry. -/
structure RecFound where
  level : Option (Nat × Nat × Nat) := none
  rate : Bool := false
  viol : Bool := false
  mask : Bool := false
  deriving DecidableEq, Repr

/-- A crossing of `level` between two values: instant and FRAC of R359, with the entry whose fraction it is.
DESIGN CHOICE, log entry 48. -/
def State.recCross (s : State) (r n : Nat) (a b level : Int) : Nat × Nat :=
  let f := ratioHalfEven (65536 * (level - a).natAbs) (b - a).natAbs
  let t0 := s.recInst r (n - 1)
  let t1 := s.recInst r n
  (t0 + ratioHalfEven (f * (t1 - t0)) 65536, f % 65536)

/-- The tests of channel `c` at entry `n` with the values `now`, `prev` and `old` of this entry, the one before it and the
one SPAN before it.
DESIGN CHOICE, log entry 48. -/
def State.recTest (s : State) (r c n run : Nat) (now : Nat × Nat) (prev old : Option (Nat × Nat)) : RecFound :=
  let x := s.recChan r c
  let v := toSigned 32 now.1
  let lvl := match prev with
    | some p =>
      if recGood now && recGood p then
        let a := toSigned 32 p.1
        if x.tests.testBit 0 ∧ a < x.hi ∧ x.hi ≤ v then some (s.recCross r n a v x.hi)
        else if x.tests.testBit 1 ∧ x.lo < a ∧ v ≤ x.lo then some (s.recCross r n a v x.lo)
        else none
      else none
    | none => none
  let rate := match old with
    | some o => x.tests.testBit 2 && recGood now && recGood o && decide ((x.delta : Int) < ((v - toSigned 32 o.1).natAbs : Int))
    | none => false
  let l := s.recRate r / s.recNom r
  let viol := x.tests.testBit 3 && recGood now &&
    (let a := s.recMask r + 8 * (c * l + n % max 1 l)
     decide (toSigned 32 (s.le a 4) < v) || decide (v < toSigned 32 (s.le (a + 4) 4)))
  { level := lvl.map (fun p => (p.1, p.2, c)), rate := rate, viol := viol, mask := viol && run + 1 == x.maskK }

/-- An entry read: written to the ring, tested, its triggers offered, its recording completed or ended (R351 to R363).
DESIGN CHOICE, log entry 48. -/
def State.recEntry (s : State) (r : Nat) : State :=
  let x := s.recDyn r
  let n := x.next
  let cs := List.range (s.recChannels r)
  let vals := cs.map (fun c => s.recRead r c n)
  let at_ := fun (k c : Nat) => if k = 0 then none else (x.window[k - 1]?).bind (fun row => row[c]?)
  let found : List (Nat × RecFound) := cs.map (fun c =>
    (c, s.recTest r c n (cget (fun _ => 0) x.viol c) (vals.getD c recMissing) (at_ 1 c) (at_ (s.recChan r c).span c)))
  let nm := (vals.filter (fun v => v.2.testBit 20)).length
  let nv := (found.filter (fun f => f.2.viol)).length
  let isTrig := match x.trig with | some t => t.entry == n | none => false
  let flags := b2n isTrig + 2 * b2n (nv != 0) + 4 * b2n (found.any (fun f => f.2.level.isSome))
    + 8 * b2n (found.any (fun f => f.2.rate)) + 16 * b2n (nm != 0)
  let dig := if s.rdB (REC_CFG r) REC_CFG_DIGITAL then s.digital (s.recInst r n) else (0, 0)
  let b := p4 n ++ p4 flags ++ p4 dig.1 ++ p2 dig.2 ++ p2 0 ++ vals.flatMap (fun v => p4 v.1 ++ p4 v.2)
  let s := s.devWrite (s.recAddr r n) (fitBytes (s.recStride r) b)
  let s := s.setRec r { x with
    next := n + 1, missing := x.missing || nm != 0, window := (vals :: x.window).take 65
    viol := found.foldl (fun v f => cset (fun _ => 0) v f.1 (if f.2.viol then cget (fun _ => 0) x.viol f.1 + 1 else 0)) x.viol }
  let s := s.wrW (REC_NEWEST r) (BitVec.ofNat 32 n)
  let s := ((s.bump (cntREC_ENTRIES r) 1).bump (cntREC_MISSING_VALUES r) nm).bump (cntREC_MASK_VIOL r) nv
  -- the recording in POST counts this entry
  let s : State := match x.trig with
    | some t => if s.recState r = 2 ∧ t.entry ≤ n then s.recCount r (n + 1 - t.entry) else s
    | none => s
  -- decisions of this read: earliest instant, then lowest source; the others are later triggers
  let lv := found.filterMap (fun f => f.2.level.map (fun l => (l.1, 1, l.2.2, some l.2.1)))
  let rt := found.filterMap (fun f => if f.2.rate then some (s.recInst r n, 2, f.1, (none : Option Nat)) else none)
  let mk := found.filterMap (fun f => if f.2.mask then some (s.recInst r n, 3, f.1, (none : Option Nat)) else none)
  let cand := (lv ++ rt ++ mk).filter (fun d => (s.rd (REC_TRIG_EN r) REC_TRIG_EN_SOURCES).testBit (d.2.1 - 1))
  let lvCh := fun (d : Nat × Nat × Nat × Option Nat) => d.2.1 == 3 && lv.any (fun l => l.2.2.1 == d.2.2.1)
    && (s.rd (REC_TRIG_EN r) REC_TRIG_EN_SOURCES).testBit 0
  let cand := cand.filter (fun d => !lvCh d)
  let before := fun (a b : Nat × Nat × Nat × Option Nat) => decide (a.1 < b.1) || (a.1 == b.1 && decide (a.2.1 < b.2.1))
  let first := cand.foldl (fun (m : Option (Nat × Nat × Nat × Option Nat)) d => match m with
    | none => some d
    | some y => if before d y then some d else some y) none
  let was := s.recState r
  let s : State := match first with
    | some d =>
      let s := (s.recOffer r d.2.1 d.1 d.2.2.1 d.2.2.2).2
      (cand.erase d).foldl (fun (s : State) e => (s.recOffer r e.2.1 e.1 e.2.2.1 e.2.2.2).2) s
    | none => s
  let maskOn := (s.rd (REC_TRIG_EN r) REC_TRIG_EN_SOURCES).testBit 2
  if s.recState r = 2 ∧ s.rdB (REC_CFG r) REC_CFG_STOP_VIOL ∧ found.any (fun f => f.2.mask) ∧ (was = 2 ∨ maskOn) then
    s.recDone r 1
  else s

/-- An entry's instant plus LAG (R351). -/
def opRecEntryRead (r : Nat) (s : State) : State :=
  let s := s.recSync
  if decide (r < 16) && s.recActive r && s.rdB REC_CTRL REC_CTRL_EN && s.gridOn
      && decide (s.recInst r (s.recDyn r).next + 1000 * s.rd (REC_LAG r) REC_LAG_US ≤ s.dom) then (s.recEntry r).recSync
  else s

def execRecEntryRead (t rec_ : Nat) (s : State) : Host.Outcome State Fault Refusal :=
  s.runAt t (opRecEntryRead rec_)

/-! ### Arming (R354 to R357) -/

/-- The first channel that R356 refuses. -/
def State.recBadChan (s : State) (r : Nat) : Option Nat :=
  (List.range (s.recChannels r)).find? (fun c =>
    let x := s.recChan r c
    let e := s.stream s.ingActive x.handle
    !((e.type == 1 || e.type == 3) && decide (x.ch < e.channels) && s.inDram e.base (ringStride e.channels * e.depth)))

/-- The checks of R356 on what no channel names. -/
def State.recOk (s : State) (r : Nat) : Bool :=
  let rate := s.recRate r
  let f := s.recNom r
  let mask := (List.range (s.recChannels r)).any (fun c => (s.recChan r c).tests.testBit 3)
  rateOk s.fs (s.recRateByte r) && (!mask || (rate % f == 0 && decide (1 ≤ rate / f) && decide (rate / f ≤ 4608)))
    && decide (0 < s.recBytes r) && s.inDram (s.recBase r) (s.recBytes r)

/-- RESULT and DETAIL of REC_CMD. -/
def State.recResult (s : State) (r v d : Nat) : State :=
  (s.wr (REC_CMD r) REC_CMD_RESULT v).wr (REC_CMD r) REC_CMD_DETAIL d

/-- ARM: RESULT, DETAIL and the machine.
DESIGN CHOICE, log entry 48. -/
def State.recArm (s : State) (r : Nat) : Nat × Nat × State :=
  let st := s.recState r
  if st = 1 ∨ st = 2 ∨ !s.rdB REC_CTRL REC_CTRL_EN ∨ !s.gridOn then (1, 0, s)
  else if (s.recDyn r).exporting then (5, 0, s)
  else match s.recBadChan r with
  | some c => (2, c, s)
  | none =>
    if !s.recOk r then (2, 0x7FF, s)
    else
      let cap := s.recCapacity r
      let post := max 1 (s.rdW (REC_POST r)).toNat
      let load := s.recStride r * s.recRate r
      let sum := ((((List.range 16).filter (fun q => q != r && s.recActive q)).map (fun q => (s.recDyn q).load)).sum) + load
      if cap < post then (3, 0, s)
      else if 8000000000 < sum then (4, 0, s)
      else
        let pre := (s.rdW (REC_PRE r)).toNat
        let reduced := decide (cap < pre + post)
        let preEff := if reduced then cap - post else pre
        let lag := 1000 * s.rd (REC_LAG r) REC_LAG_US
        let n0 := if lag ≤ s.dom then sampleAt (s.recRate r) (s.dom - lag) + 1 else 0
        let s := s.setRec r { armAt := s.dom, n0 := n0, next := n0, postEff := post, load := load }
        let s := (s.wrW (REC_CAPACITY r) (BitVec.ofNat 32 cap)).wrW (REC_PRE_EFF r) (BitVec.ofNat 32 preEff)
        let s := (s.wrW (REC_PRE_ACT r) 0).wrW (REC_POST_ACT r) 0
        let s := ((s.wrB (REC_STATE r) REC_STATE_PRE_REDUCED reduced).wr (REC_STATE r) REC_STATE_END_CAUSE 0).wr
          (REC_STATE r) REC_STATE_SOURCE 0
        let s := s.setRecState r 1
        let s := if reduced then s.post 0x0903 (p1 r ++ p4 pre ++ p4 preEff) else s
        (0, 0, s.recHeader r)

def opRecOpArm (r : Nat) (s : State) : State :=
  if 16 ≤ r then s else let (v, d, s) := s.recSync.recArm r; s.recResult r v d

def execRecOpArm (t rec_ : Nat) (s : State) : Host.Outcome State Fault Refusal := s.runAt t (opRecOpArm rec_)

/-- DISARM: RESULT and the machine; an idle or finished recorder has nothing to disarm.
DESIGN CHOICE, log entry 48. -/
def State.recDisarm (s : State) (r : Nat) : Nat × State :=
  if s.recActive r then (0, s.recEnd r 2) else (1, s)

def opRecOpDisarm (r : Nat) (s : State) : State :=
  if 16 ≤ r then s else let (v, s) := s.recDisarm r; s.recResult r v 0

def execRecOpDisarm (t rec_ : Nat) (s : State) : Host.Outcome State Fault Refusal :=
  s.runAt t (opRecOpDisarm rec_)

/-- TRIGGER of REC_CMD: source 9 at the present time. -/
def opRecOpTrigger (r : Nat) (s : State) : State :=
  if 16 ≤ r then s else ((s.recSync.recOffer r 9 s.stamp 0 none).2.recResult r 0 0).recSync

def execRecOpTrigger (t rec_ : Nat) (s : State) : Host.Outcome State Fault Refusal :=
  s.runAt t (opRecOpTrigger rec_)

/-- REC_INJECT written (R363, R369): REC_INJECT_STAT tells who accepted and who found it too old. -/
def opRecInject (v : Word) (s : State) : State :=
  let src := fget REC_INJECT_SOURCE v
  if src ≠ 7 ∧ src ≠ 9 then s
  else
    let t := if fget REC_INJECT_NOW v = 1 then s.stamp else s.rd64 REC_INJECT_LO REC_INJECT_HI
    let detail := (s.rdW REC_INJECT_DETAIL).toNat
    let mask := fget REC_INJECT_MASK v
    let (s, acc, old) := ((List.range 16).filter (fun r => mask.testBit r)).foldl (fun (x : State × Nat × Nat) r =>
      let (s, acc, old) := x
      let (e, s) := s.recOffer r src t detail none
      (s, acc + (if e = .accepted then 2 ^ r else 0), old + (if e = .tooOld then 2 ^ r else 0))) (s, 0, 0)
    ((s.wr REC_INJECT_STAT REC_INJECT_STAT_TOO_OLD old).wr REC_INJECT_STAT REC_INJECT_STAT_ACCEPTED acc).recSync

def execRecInject (t : Nat) (value : Word) (s : State) : Host.Outcome State Fault Refusal :=
  s.runAt t (opRecInject value)

/-! ### Domain trigger frames received (R362) -/

/-- Event 0x0904, at most once per second; reason 1 is a tag that fails. -/
def State.domReject (s : State) (origin seq reason : Nat) : State :=
  s.postLimited 0x209 0x0904 0 (p4 origin ++ p4 seq ++ p1 reason)

/-- A frame of type 1 that the steward's port received. -/
def opDomainTriggerFrame (b : List Byte) (s : State) : State :=
  let o := if beAt b 12 2 = 0x8100 then 18 else 14
  let p := b.drop o
  let origin := beAt p 4 4
  let seq := beAt p 16 4
  if beAt b (o - 2) 2 ≠ 0x88B5 ∨ byteAt p 0 ≠ 1 ∨ byteAt p 1 ≠ 1 ∨ p.length < 40 then s
  else
    let k := s.rd REC_DOM_CFG REC_DOM_CFG_KEY
    let (st, s) := s.grant k ⟨[2], [uVerify]⟩ .steward false
    if st ≠ 0 ∨ macTag (s.slot k).value (b.take (o + 24)) true ≠ slice p 24 16 then s.domReject origin seq 1
    else if s.rec_.seen.contains (origin, seq) then s
    else
      let s : State := { s with rec_ := { s.rec_ with seen := s.rec_.seen ++ [(origin, seq)] } }
      let group := beAt p 2 2
      let t := beAt p 8 8
      let mask := ((List.range 16).filter (fun r =>
        let g := s.rd (REC_TRIG_DOM r) REC_TRIG_DOM_GROUP
        g == group || g == 0xFFFF)).map (fun r => 2 ^ r)
      let s := (s.wr64 REC_INJECT_LO REC_INJECT_HI t).wrW REC_INJECT_DETAIL (BitVec.ofNat 32 origin)
      opRecInject (BitVec.ofNat 32 (7 * 65536 + mask.sum)) s

def execDomainTriggerFrame (t : Nat) (bytes : List Byte) (s : State) : Host.Outcome State Fault Refusal :=
  s.runAt t (opDomainTriggerFrame bytes)

/-! ### Cross-trigger lines (R365) -/

/-- FILT low samples: the line is asserted, unless the module masks its own pulse. -/
def opXtrgQualify (l : Nat) (s : State) : State :=
  let a := s.rd REC_XTRG_STAT REC_XTRG_STAT_ASSERTED
  if 8 ≤ l ∨ a.testBit l then s
  else
    let filt := max 1 (s.rd (REC_XTRG_CFG l) REC_XTRG_CFG_FILT)
    let x := cget (fun _ => {}) s.rec_.lines l
    let begin_ := s.now - 1000 * (filt - 1)
    let driving := (s.rd REC_XTRG_STAT REC_XTRG_STAT_DRIVING).testBit l
    let own := x.used && decide (x.from_ ≤ begin_) && (driving || decide (begin_ ≤ x.until_ + 2000))
    if s.rdB (REC_XTRG_CFG l) REC_XTRG_CFG_SELF_MASK && own then s
    else
      let s := s.wr REC_XTRG_STAT REC_XTRG_STAT_ASSERTED (nsetBit a l true)
      let t := (s.dom / 1000 - (filt - 1)) * 1000
      (s.recSync.recOfferAll (fun r => (s.rd (REC_TRIG_XTRG r) REC_TRIG_XTRG_LINES).testBit l) 5 t l).recSync

def execXtrgQualify (t line : Nat) (s : State) : Host.Outcome State Fault Refusal := s.runAt t (opXtrgQualify line)

/-- FILT high samples release the line. -/
def opXtrgRelease (l : Nat) (s : State) : State :=
  if 8 ≤ l then s
  else s.wr REC_XTRG_STAT REC_XTRG_STAT_ASSERTED (nsetBit (s.rd REC_XTRG_STAT REC_XTRG_STAT_ASSERTED) l false)

def execXtrgRelease (t line : Nat) (s : State) : Host.Outcome State Fault Refusal := s.runAt t (opXtrgRelease line)

/-- PULSE µs after the most recent trigger the line is released. -/
def opXtrgPulseEnd (l : Nat) (s : State) : State :=
  if l < 8 ∧ (cget (fun _ => {}) s.rec_.lines l).until_ ≤ s.now then s.xtrgFree l else s

def execXtrgPulseEnd (t line : Nat) (s : State) : Host.Outcome State Fault Refusal := s.runAt t (opXtrgPulseEnd line)

/-! ### Binary inputs and GOOSE as sources (R331, R332, R358) -/

/-- A change of a binary input offered to the recorders that select it. -/
def State.recBin (s : State) (n : Nat) (ch : Option (Bool × Nat)) : State :=
  match ch with
  | none => s
  | some (level, stamp) =>
    s.recSync.recOfferAll (fun r =>
      (s.rdW (if level then REC_TRIG_BIN_R r else REC_TRIG_BIN_F r)).toNat.testBit n) 4 stamp n |>.recSync

/-- DEBOUNCE differing samples accepted (R331). -/
def opBinChangeAccepted (n : Nat) (s : State) : State := let (ch, s) := s.binAccept n; s.recBin n ch

def execBinChangeAccepted (t input : Nat) (s : State) : Host.Outcome State Fault Refusal :=
  s.runAt t (opBinChangeAccepted input)

/-- A block ends at a TAI second (R332). -/
def opBinBlockEnd (n : Nat) (level : Bool) (s : State) : State := let (ch, s) := s.binUnblock n level; s.recBin n ch

def execBinBlockEnd (t input : Nat) (level : Bool) (s : State) : Host.Outcome State Fault Refusal :=
  s.runAt t (opBinBlockEnd input level)

/-- The element of a GOOSE image as a word (R296); 0 where there is no image. -/
def State.gooseElement (s : State) (h el : Nat) : Nat :=
  let x : LgeIn := { kind := 2, count := 0, iword := 0, handle := h, element := el, tword := 0, reserved := false }
  match (s.gooseInput x).1 with | some (v, _) => v | none => 0

/-- After a frame: a change of a GOOSE image offered to the recorders whose condition it meets. -/
def State.recGoose (s0 s : State) (arrival : Nat) : State :=
  if s0.count cntING_GOOSE_CHANGES = s.count cntING_GOOSE_CHANGES then s
  else
    let sel := fun (r : Nat) =>
      let g := REC_TRIG_GOOSE r
      let h := s.rd g REC_TRIG_GOOSE_HANDLE
      let el := s.rd g REC_TRIG_GOOSE_ELEMENT
      let a := s0.gooseElement h el
      let b := s.gooseElement h el
      let cond := s.rd g REC_TRIG_GOOSE_COND
      (s0.ingStream h).imgSeq != (s.ingStream h).imgSeq
        && (if cond = 0 then true else if cond = 1 then a == 0 && b != 0 else if cond = 2 then a != 0 && b == 0 else a != b)
    ((List.range 16).filter sel).foldl (fun s r =>
      (s.recOffer r 6 arrival (s.rd (REC_TRIG_GOOSE r) REC_TRIG_GOOSE_HANDLE) none).2) s |>.recSync

/-- REC_TRIG_TIME_LO read. -/
def opRecTrigTimeRead (r : Nat) (s : State) : State :=
  if r < 16 then s.readPair (REC_TRIG_TIME_LO r) (REC_TRIG_TIME_HI r) else s.answer 0

def execRecTrigTimeRead (t rec_ : Nat) (s : State) : Host.Outcome State Fault Refusal :=
  s.runAt t (opRecTrigTimeRead rec_)

/-! ### Register writes -/

/-- The most MiB all regions may have together. -/
def State.recLimit (s : State) : Nat := if s.fuses.variant = 0 then 8192 else if s.fuses.variant = 1 then 4096 else 2048

/-- REC_MEM_SIZE written. -/
def State.recSizeWrite (s : State) (r : Nat) (v : Word) : State :=
  let n := fget REC_MEM_SIZE_MIB v
  let others := (((List.range 16).filter (fun q => q != r)).map (fun q => s.rd (REC_MEM_SIZE q) REC_MEM_SIZE_MIB)).sum
  if s.recActive r ∨ n = 0 ∨ 2048 < n ∨ s.recLimit < others + n then s.recRej
  else (s.wrW (REC_MEM_SIZE r) (fieldsOf [REC_MEM_SIZE_MIB] v)).recShow

end Sys2Proof.Machine
end

