-- ==== Sys2Proof/Machine/TenantEnd.lean ====
section
/-! DEFINITION. What ends a tenant or its migration with safe values (R202, R209, R223), the staged tenant events with the
programs, laws and publishers they move (R48 steps 3 and 7), and the sample path from a frame or a fine output to the laws,
publishers and recorders that it triggers. -/

namespace Sys2Proof.Machine

/-! ### Safe values (R209 step 6) -/

/-- A tenant's bindings, slots, programs and laws at their safe values. -/
def State.tenSafe (s : State) (t : Nat) : State :=
  ((((s.setTripReg t 0).slotsSafe t).lawsSuspend t).progsSuspend t).settle

/-- The items in service of a tenant end, cut off. -/
def State.cutOff (s : State) (t : Nat) : State :=
  (s.sch.runs.filter (fun r => r.item.tenant == t)).foldl (fun s r => s.endRun r.core 0x0507 0) s

/-- A tenant becomes DISABLED: its outputs take their safe values, then the record is written. -/
def State.tenDisabled (s : State) (t cause : Nat) : State :=
  let old := s.tenState t
  let s := (s.wr (TEN_STATE t) TEN_STATE_STATE 4).wrB (TEN_STATE t) TEN_STATE_STOPPED false
  (s.tenSafe t).postTenant 0x0F01 t (p2 t ++ p1 old ++ p1 4 ++ p1 cause)

/-! ### DISABLE (R202, R203, R209) -/

/-- DISABLE in any state; none where the table of R202 lists no such event.
DESIGN CHOICE, log entry 32. -/
def State.disable (s : State) (t cause : Nat) : Option State :=
  match s.disableRunning t cause with
  | some s => some s
  | none =>
    if s.tenState t = 5 ∧ !s.tenBit t TEN_STATE_DIR ∧ s.tenBit t TEN_STATE_STOPPED ∧ (s.mig t).commitSent.isNone then
      some (((s.abortMigration t).tenDisabled t cause).removeItems (fun i => i.tenant == t) 0x0501)
    else none

/-- TEN_CMD DISABLE.
DESIGN CHOICE, log entry 32. -/
def opTenDisable (t : Nat) (s : State) : State :=
  s.tenCmd t fun s => match s.disable t 3 with
    | some s => (0, s)
    | none => (1, s)

def execTenDisable (t tenant : Nat) (s : State) : Host.Outcome State Fault Refusal :=
  s.runAt t (opTenDisable tenant)

/-- The cut-off C: items in service are cut off, safe values apply, and the tenant is DISABLED (R209 steps 4 to 7). -/
def opDisableCutOff (t : Nat) (s : State) : State :=
  match s.ten.cutoffs.find? (fun e => e.1 == t) with
  | some (_, c) =>
    if s.now < c then s
    else
      let s : State := { s with ten := { s.ten with cutoffs := s.ten.cutoffs.filter (fun e => e.1 != t) } }
      if s.tenState t = 3 then ((s.cutOff t).bump (cntTEN_DISABLES t) 1).tenDisabled t 5 else s
  | none => s

def execDisableCutOff (t tenant : Nat) (s : State) : Host.Outcome State Fault Refusal :=
  s.runAt t (opDisableCutOff tenant)

/-! ### RELEASE (R202, R223) -/

/-- A tenant becomes EMPTY: its publishers, programs and laws stop, what it still had queued goes, its outputs take their
safe values, and the steward zeroes and frees its frames. -/
def State.tenEmpty (s : State) (t cause : Nat) : State :=
  let old := s.tenState t
  let s := ((s.cutOff t).dropEvents t).dropEntitled t
  let s := s.setSch (s.sch.items.filter (fun i => i.tenant != t)) s.sch.runs
  let s := ((s.wr (TEN_STATE t) TEN_STATE_STATE 0).wrB (TEN_STATE t) TEN_STATE_STOPPED false).wrB (TEN_STATE t)
    TEN_STATE_DIR false
  let s := (((s.tenSafe t).pubsOff t).lawsRelease t).progsRelease t
  let s := (s.settle).freeFrames t
  let s := (s.wrW (TEN_SHARE t) 0).clusterShares (s.rd (TEN_CFG t) TEN_CFG_HOME)
  let s : State := { s with ten := { s.ten with
    shares := s.ten.shares.filter (fun (e : Nat × Staged Nat) => e.1 != t),
    limits := s.ten.limits.filter (fun (e : Nat × Staged Word) => e.1 != t),
    notified := s.ten.notified.filter (fun u => u != t),
    mig := cset (fun _ => {}) s.ten.mig t {} } }
  s.postTenant 0x0F01 t (p2 t ++ p1 old ++ p1 0 ++ p1 cause)

/-- RELEASE; none where the table of R202 lists no such event.
DESIGN CHOICE, log entry 32. -/
def State.release (s : State) (t : Nat) : Option State :=
  let st := s.tenState t
  if st = 1 ∨ st = 4 then some (s.tenEmpty t 6)
  else if st = 5 then some (s.tenEmpty t 7)
  else none

/-- TEN_CMD RELEASE. -/
def opTenRelease (t : Nat) (s : State) : State :=
  s.tenCmd t fun s => match s.release t with
    | some s => (0, s)
    | none => (1, s)

def execTenRelease (t tenant : Nat) (s : State) : Host.Outcome State Fault Refusal :=
  s.runAt t (opTenRelease tenant)

/-- An abort reaches the destination: its tenant is released, unless a commit came first (R223). -/
def opMigrationAbortReceived (t : Nat) (s : State) : State :=
  if s.tenState t = 5 ∧ s.tenBit t TEN_STATE_DIR ∧ !(s.mig t).committed then
    (s.migEvent t 4 (round32 s.roundNow)).tenEmpty t 7
  else s

def execMigrationAbortReceived (t tenant : Nat) (s : State) : Host.Outcome State Fault Refusal :=
  s.runAt t (opMigrationAbortReceived tenant)

/-! ### Staged tenant events (R48 steps 3 and 7) -/

/-- A tenant that runs on after a migration to this module is told so, and of its new global tenant address (R220, R498).
DESIGN CHOICE, log entry 51. -/
def State.migNotices (s : State) (t : Nat) : State :=
  if (s.mig t).committed then
    let s := s.setMig t { s.mig t with committed := false }
    (s.tenNotice t 1 0).tenNotice t 2 (Config.moduleId * 512 + t)
  else s

/-- Step 3 with what follows for a tenant that starts or resumes: its laws, programs and publishers run on. -/
def State.startStep (s : State) (k : Nat) : Bool × State :=
  let due := (s.ten.events.filter (fun e => e.2.due k && e.2.val != 7)).map (·.1)
  let (any, s1) := s.tenStep3 k
  if due.isEmpty then (any, s1)
  else
    let s2 := due.foldl (fun s t => ((s.lawsRun t).progsRun t).migNotices t) s1
    (any, State.unmute s s2.settle)

/-- Step 7 with what it holds. -/
def State.stopStep (s : State) (k : Nat) : Bool × State :=
  let due := (s.ten.events.filter (fun e => e.2.due k && e.2.val == 7)).map (·.1)
  let (any, s) := s.tenStep7 k
  if due.isEmpty then (any, s) else (any, (due.foldl (fun s t => (s.lawsHold t).progsHold t) s).settle)

/-! ### Frames and samples -/

/-- A frame through ingest under a bank, the laws that its entries trigger, and the recorders that a GOOSE change triggers. -/
def State.ingestAll (s : State) (f : IngFrame) (b : Nat) : State :=
  let (s1, written) := s.ingestFrame f b
  State.recGoose s (s1.cleStream written) f.arrival

/-- INGEST_FRAME: the frame given, or the oldest that fabric port 28 has delivered (R131). -/
def opIngestFrame (f : Option IngFrame) (s : State) : State :=
  match s.nextIngFrame f with
  | (some (b, x), s) => s.ingestAll x b
  | (none, s) => s

def execIngestFrame (t : Nat) (frame : Option IngFrame) (s : State) : Host.Outcome State Fault Refusal :=
  s.runAt t (opIngestFrame frame)

/-- A fine output: its entries reach publishers and laws (R182, R261, R344). -/
def opFineOutput (g : Nat) (s : State) : State :=
  let (s, written) := s.fineOutput g
  (written.foldl (fun s (w : Nat × Nat) => s.svEntry w.1 w.2) s).cleStream written

def execFineOutput (t group : Nat) (s : State) : Host.Outcome State Fault Refusal :=
  s.runAt t (opFineOutput group)

/-- A fast output, its trip lane, and the balls that follow (R184, R190). -/
def opFastOutput (c : Nat) (rise fall : List (BitVec 32)) (s : State) : State := (s.fastOutput c rise fall).settle

def execFastOutput (t ch : Nat) (bits : DsdBits) (s : State) : Host.Outcome State Fault Refusal :=
  s.runAt t (opFastOutput ch bits.rise bits.fall)

/-- ACQ_CH_CFG written (R185). -/
def opChannelSwitch (c : Nat) (v : Word) (s : State) : State := (s.channelWrite c v).settle

def execChannelSwitch (t ch : Nat) (value : Word) (s : State) : Host.Outcome State Fault Refusal :=
  s.runAt t (opChannelSwitch ch value)

/-- ACQ_TRIP_STAT.LATCHED written with 1 (R190). -/
def opTripLatchRelease (c : Nat) (s : State) : State := (s.latchRelease c).settle

def execTripLatchRelease (t ch : Nat) (s : State) : Host.Outcome State Fault Refusal :=
  s.runAt t (opTripLatchRelease ch)

/-- ACQ_TRIP_CFG written (R188). -/
def opAcqTripCfgWrite (c : Nat) (v : Word) (s : State) : State := (s.tripCfgWrite c v).settle

def execAcqTripCfgWrite (t ch : Nat) (value : Word) (s : State) : Host.Outcome State Fault Refusal :=
  s.runAt t (opAcqTripCfgWrite ch value)

end Sys2Proof.Machine
end

