-- ==== Sys2Proof/Machine/Twin.lean ====
section
/-! DEFINITION. The twin link (R59 to R63): its state, the Crasen frames with their replay buffer, and the copy stream of the
duplex block as frames carry it (R409). -/

namespace Sys2Proof.Machine

/-- PRT_TWIN_STAT.STATE: 0 DOWN, 1 LOCKED, 2 ALIGNED, 3 UP. -/
def State.twinState (s : State) : Nat := s.rd PRT_TWIN_STAT PRT_TWIN_STAT_STATE
def State.twinUp (s : State) : Bool := s.twinPresent && s.twinState == 3
def State.setTwinState (s : State) (v : Nat) : State := s.wr PRT_TWIN_STAT PRT_TWIN_STAT_STATE v
def State.setTwin (s : State) (x : Twin) : State := { s with prt := { s.prt with twin := x } }

/-! ### Crasen frames (R61, R62) -/

/-- A Crasen frame: the 16-byte header, the payload and the CRC-32C over both (notes/assumptions/41).
DESIGN CHOICE, log entry 41. -/
def crasenBytes (kind seq ack : Nat) (payload : List Byte) : List Byte :=
  let b := leBytes 1 kind ++ leBytes 1 0 ++ leBytes 2 payload.length ++ leBytes 4 seq ++ leBytes 4 ack ++ leBytes 4 0
    ++ payload
  b ++ leBytes 4 (crc32c b)

/-- Bytes of the replay buffer that frames occupy. -/
def replayBytes (l : List (Nat × Nat × List Byte)) : Nat := (l.map (fun f => f.2.2.length + 20)).sum

/-- The sequence number acknowledged: that of the last frame taken. -/
def State.crasenAckNum (s : State) : Nat := (s.prt.twin.rxNext + 2 ^ 32 - 1) % 2 ^ 32

/-- Frames that wait leave as the 256 KiB replay buffer has room (R62). -/
def State.twinPump : Nat → State → State
  | 0, s => s
  | n + 1, s =>
    let x := s.prt.twin
    match x.queue with
    | [] => s
    | (kind, p) :: rest =>
      if !s.twinUp || decide (262144 < replayBytes x.replay + p.length + 20) then s
      else
        let s := s.send (.crasen x.txNext (crasenBytes kind x.txNext s.crasenAckNum p))
        let s := s.bump cntPRT_TWIN_TX_FRAMES 1
        State.twinPump n (s.setTwin { x with queue := rest, replay := x.replay ++ [(x.txNext, kind, p)],
                                             txNext := (x.txNext + 1) % 2 ^ 32 })

/-- Frames of one type handed to the link in order.
DESIGN CHOICE, log entry 41. -/
def State.twinSend (s : State) (kind : Nat) (ps : List (List Byte)) : State :=
  let x := s.prt.twin
  let s := s.setTwin { x with queue := x.queue ++ ps.map (fun p => (kind, p)) }
  State.twinPump (s.prt.twin.queue.length) s

/-- A byte stream in frames of up to 16,384 bytes (R409). -/
def State.twinStream (s : State) (b : List Byte) : State := s.twinSend 1 (chunks 16384 (b.length / 16384 + 1) b)

/-- The partner has taken every frame up to `ack`. -/
def State.twinAcked (s : State) (ack : Nat) : State :=
  let x := s.prt.twin
  let s := s.setTwin { x with replay := x.replay.filter (fun f => decide (0 < diff32 f.1 ack)) }
  State.twinPump s.prt.twin.queue.length s

/-- A replay request sent for the first missing frame. -/
def State.twinWant (s : State) : State :=
  (s.send (.crasenReplay s.prt.twin.rxNext)).setTwin { s.prt.twin with waiting := true }

/-- The partner asks for the frames from `seq` on: they are sent again (R62). -/
def State.twinReplay (s : State) (seq : Nat) : State :=
  let s := s.twinAcked ((seq + 2 ^ 32 - 1) % 2 ^ 32)
  let s := s.bump cntPRT_TWIN_REPLAY 1
  s.prt.twin.replay.foldl (fun (s : State) (f : Nat × Nat × List Byte) =>
    (s.bump cntPRT_TWIN_TX_FRAMES 1).send (.crasen f.1 (crasenBytes f.2.1 f.1 s.crasenAckNum f.2.2))) s

/-- The errors of R92 count towards the twin-link test of R425. -/
def State.twinErrors (s : State) (reg n : Nat) : State :=
  let s := s.bump reg n
  { s with dpx := { s.dpx with twinErr := s.dpx.twinErr + n } }

/-- A Crasen frame received: what is delivered, if anything, and the link after it (R62). Kind 255 is a replay request,
kind 254 an acknowledgement alone. While a replay is awaited, a further gap or CRC error asks for none.
DESIGN CHOICE, log entry 41. -/
def State.twinReceive (s : State) (f : CrasenRx) : Option (Nat × List Byte) × State :=
  if !s.twinUp then (none, s)
  else
    let s := s.twinErrors cntPRT_TWIN_BLOCK_ERR f.blockErr
    if !f.crcOk then
      let s := s.twinErrors cntPRT_TWIN_CRC_ERR 1
      (none, if s.prt.twin.waiting then s else s.twinWant)
    else if f.kind = 255 then (none, s.twinReplay f.seq)
    else if f.kind = 254 then (none, s.twinAcked f.ack)
    else
      let s := s.twinAcked f.ack
      let x := s.prt.twin
      if f.seq % 2 ^ 32 = x.rxNext then
        let s := s.setTwin { x with rxNext := (x.rxNext + 1) % 2 ^ 32, waiting := false }
        let s := (s.bump cntPRT_TWIN_RX_FRAMES 1).send (.crasenAck ((x.rxNext + 1) % 2 ^ 32))
        (some (f.kind, f.payload), s)
      else if 0 < diff32 f.seq x.rxNext ∧ !x.waiting then (none, s.twinWant)
      else (none, s)

/-! ### Link state (R60) -/

/-- Block lock on the lanes given: all four bring an enabled link to LOCKED. -/
def opTwinBlockLock (lanes : Nat) (s : State) : State :=
  if !s.twinPresent then s
  else
    let s := s.wr PRT_TWIN_STAT PRT_TWIN_STAT_LANE_LOCK (lanes % 16)
    if s.rdB PRT_TWIN_CFG PRT_TWIN_CFG_EN ∧ lanes % 16 = 15 ∧ s.twinState = 0 then s.setTwinState 1 else s

def execTwinBlockLock (t lanes : Nat) (s : State) : Host.Outcome State Fault Refusal :=
  s.runAt t (opTwinBlockLock lanes)

/-- Alignment markers on all four lanes with at most 50 ns of skew. -/
def opTwinAligned (laneMap skew : Nat) (s : State) : State :=
  if s.twinPresent ∧ s.twinState = 1 ∧ skew ≤ 50 then
    ((s.wr PRT_TWIN_STAT PRT_TWIN_STAT_LANE_MAP laneMap).wr PRT_TWIN_STAT PRT_TWIN_STAT_SKEW skew).setTwinState 2
  else s

def execTwinAligned (t laneMap skew : Nat) (s : State) : Host.Outcome State Fault Refusal :=
  s.runAt t (opTwinAligned laneMap skew)

/-- The partner's ready blocks for 1 ms: UP. -/
def opTwinUp (s : State) : State :=
  if s.twinPresent ∧ s.twinState = 2 then
    let s := (s.setTwinState 3).setTwin {}
    s.post 0x0104 []
  else s

def execTwinUp (t : Nat) (s : State) : Host.Outcome State Fault Refusal := s.runAt t opTwinUp

/-- The link leaves any state for DOWN: the replay buffer is emptied. SKEW and LANE_MAP keep their last values, of which the spec
says nothing.
DESIGN CHOICE, log entry 41. -/
def State.twinFall (s : State) : State :=
  if s.twinState = 0 then s else ((s.setTwinState 0).setTwin {}).post 0x0104 []

/-! ### The copy stream (R409) -/

/-- A segment: TYPE, INDEX, data. -/
abbrev Segment := Nat × Nat × List Byte

/-- A segment's bytes. -/
def segBytes (g : Segment) : List Byte :=
  leBytes 1 g.1 ++ leBytes 1 0 ++ leBytes 2 (if g.1 = 9 then 0 else g.2.2.length) ++ leBytes 4 g.2.1 ++ g.2.2

/-- The whole segments at the head of a stream, END the last of them, and how many bytes they take. -/
def parseSegs : Nat → List Byte → List Segment × Nat
  | 0, _ => ([], 0)
  | n + 1, b =>
    let ty := byteAt b 0
    let len := if ty = 9 then 65536 else leAt b 2 2
    if b.length < 8 + len then ([], 0)
    else
      let g : Segment := (ty, leAt b 4 4, slice b 8 len)
      if ty = 8 then ([g], 8 + len)
      else
        let (r, k) := parseSegs n (b.drop (8 + len))
        (g :: r, 8 + len + k)

/-- The segments of a stream. -/
def segsOf (b : List Byte) : List Segment × Nat := parseSegs (b.length / 8 + 1) b

/-- Whether a stream has reached its END. -/
def streamEnded (b : List Byte) : Bool := ((segsOf b).1.getLast?).any (fun g => g.1 == 8)

/-- The END segment for the segments before it.
DESIGN CHOICE, log entry 41. -/
def endSeg (segs : List Segment) (complete : Bool) : Segment :=
  let b := segs.flatMap segBytes
  (8, 0, leBytes 4 b.length ++ leBytes 4 segs.length ++ leBytes 4 (crc32c b) ++ leBytes 4 (b2n complete))

/-- The HEADER segment. -/
def headSeg (round base epoch module flags : Nat) : Segment :=
  (1, 0, leBytes 4 round ++ leBytes 4 base ++ leBytes 4 epoch ++ leBytes 4 (module % 16384) ++ leBytes 4 flags
    ++ List.replicate 12 0)

/-- A received copy as its HEADER and END give it. -/
structure CopyHead where
  round : Nat
  base : Nat
  epoch : Nat
  swap : Bool
  final : Bool
  resync : Bool
  /-- END arrived with COMPLETE = 1 and its total, count and CRC are right. -/
  whole : Bool
  segs : List Segment
deriving DecidableEq, Repr

/-- A stream read as a copy; none without a HEADER. -/
def readCopy (b : List Byte) : Option CopyHead :=
  let segs := (segsOf b).1
  match segs with
  | (1, _, h) :: _ =>
    let body := segs.filter (fun g => g.1 != 8)
    let whole := match segs.getLast? with
      | some g => g.1 == 8 && leAt g.2.2 12 4 % 2 == 1 && (endSeg body true).2.2 == g.2.2
      | none => false
    some { round := leAt h 0 4, base := leAt h 4 4, epoch := leAt h 8 4, swap := (byteAt h 16).testBit 0,
           final := (byteAt h 16).testBit 1, resync := (byteAt h 16).testBit 2, whole, segs := body }
  | _ => none

end Sys2Proof.Machine
end

