-- ==== Sys2Proof/Machine/DpxCopy.lean ====
section
/-! DEFINITION. What the duplex copy carries (R407 to R409): the replicated set, the items with their contents, a copy's
segments, and the application of segments on the other side (R413, R422). -/

namespace Sys2Proof.Machine

def State.setDpx (s : State) (x : Dpx) : State := { s with dpx := x }

/-! ### The replicated set (R396) -/

/-- Whether a tenant is in the replicated set. -/
def State.replicates (s : State) (t : Nat) : Bool := t < 512 && (s.rdW (DPX_TEN_SET (t / 32))).toNat.testBit (t % 32)

/-- The replicated set. -/
def State.replicated (s : State) : List Nat :=
  (List.range 16).flatMap (fun i =>
    let w := (s.rdW (DPX_TEN_SET i)).toNat
    if w = 0 then [] else ((List.range 32).filter w.testBit).map (· + 32 * i))

def State.replOwner (s : State) (o : Option Nat) : Bool := o.any s.replicates

/-! ### Items (R407, R408) -/

/-- The numbers of the 256-byte lines that `n` bytes from offset `a` on touch. -/
def spanLines (a n : Nat) : List Nat :=
  if n = 0 then [] else (List.range ((a + n - 1) / 256 - a / 256 + 1)).map (· + a / 256)

def dedupRising (l : List Nat) : List Nat := (l.mergeSort (fun a b => decide (a ≤ b))).eraseDups

/-- The publishers whose fields travel. -/
def State.copyPubs (s : State) : List Nat := s.livePubs.filter (fun p => s.replOwner (s.pubOwner (s.pubRec p)))

/-- The publish slots that travel. -/
def State.copySlots (s : State) : List Nat :=
  (s.regs.filterMap (fun c => elemOf (OUT_PUB_OWNER 0) 4096 4 c.1)).filter (fun x => s.replOwner (s.slotOwner x))

/-- The programs and laws of the replicated set. -/
def State.copyProgs (s : State) : List Nat := s.programs.filter (fun p => s.replicates (s.prgOwner p))
def State.copyLaws (s : State) : List Nat := s.laws.filter (fun l => s.replicates (s.lawOwner l))

/-- The used lines of the LGE state space that some programs have. -/
def State.lgeLinesOf (s : State) (ps : List Nat) : List Nat :=
  dedupRising (ps.flatMap (fun p =>
    (([LGE_PRG_IAREA p, LGE_PRG_QAREA p, LGE_PRG_MAREA p].flatMap (fun r =>
      spanLines (4 * s.rd r LGE_PRG_IAREA_BASE) (4 * s.rd r LGE_PRG_IAREA_COUNT))))
    ++ spanLines (0x10000 + 16 * s.rd (LGE_PRG_INST p) LGE_PRG_INST_BASE) (16 * s.rd (LGE_PRG_INST p) LGE_PRG_INST_COUNT)
    ++ spanLines (0x50000 + 0x1000 * p) 0x1000 ++ [0x900 + p]))

def State.lgeLines (s : State) : List Nat := s.lgeLinesOf s.copyProgs

/-- The used lines of the CLE state space that some laws have. -/
def State.cleLinesOf (s : State) (ls : List Nat) : List Nat :=
  dedupRising (ls.flatMap (fun l =>
    let b := s.rd (CLE_LAW_CFG l) CLE_LAW_CFG_FIRST
    let n := s.rd (CLE_LAW_CFG l) CLE_LAW_CFG_COUNT + 1
    spanLines (32 * b) (32 * n) ++ spanLines (0x10000 + 32 * b) (32 * n) ++ spanLines (0x20000 + 32 * b) (32 * n)
      ++ spanLines (0x30000 + 4 * b) (4 * n) ++ [0x320 + l] ++ spanLines (0x40000 + 0x1000 * s.lawOwner l) 0x1000))

def State.cleLines (s : State) : List Nat := s.cleLinesOf s.copyLaws

/-- A program's record of the LGE state space: LGE_PRG_STATE, scan count, halted PC and stacks (notes/assumptions/43).
DESIGN CHOICE, log entry 43. -/
def State.progRecord (s : State) (p : Nat) : List Byte :=
  let x := s.prog p
  let h := x.halt.getD {}
  let bits := (List.range 8).foldl (fun m i => m + (if h.bools.getD i false then 2 ^ i else 0)) 0
  let marks := (distinct h.marks).foldl (fun m i => m + 2 ^ i) 0
  fitBytes 256 (leBytes 4 (s.rdW (LGE_PRG_STATE p)).toNat ++ leBytes 8 x.j ++ leBytes 1 (b2n x.halt.isSome)
    ++ leBytes 1 x.back ++ leBytes 1 (b2n h.rlo) ++ leBytes 1 h.bools.length ++ leBytes 1 bits ++ leBytes 1 h.calls.length
    ++ leBytes 2 marks ++ leBytes 4 h.pc ++ leBytes 4 h.acc ++ leBytes 4 h.us ++ h.calls.flatMap (leBytes 4))

/-- A program's record taken over; the program itself stays SUSPENDED unless it was in STOP (R414).
DESIGN CHOICE, log entry 43. -/
def State.takeProgRecord (s : State) (p : Nat) (b : List Byte) : State :=
  let w := BitVec.ofNat 32 (leAt b 0 4)
  let st := fget LGE_PRG_STATE_STATE w
  let back := if st = 1 ∨ st = 2 then st else byteAt b 13
  let nb := byteAt b 15
  let rlo := byteAt b 14 % 2 == 1
  let bools := (List.range nb).map (byteAt b 16).testBit
  let calls := (List.range (byteAt b 17)).map (fun i => leAt b (32 + 4 * i) 4)
  let marks := (List.range 16).filter (leAt b 18 2).testBit
  let h : LgeExec := ⟨leAt b 20 4, rlo, leAt b 24 4, bools, calls, marks, s.frozen p, leAt b 28 4⟩
  let halt := if byteAt b 12 % 2 = 1 then some h else none
  let s := s.setProg p { s.prog p with j := leAt b 4 8, halt := halt, back := back }
  s.wrW (LGE_PRG_STATE p) (fset LGE_PRG_STATE_STATE w (if st = 0 then 0 else 3))

/-- The BALL sinks of a law, in block order. -/
def State.lawSinks (s : State) (l : Nat) : List Nat :=
  ((s.lawBlocks l).filter (fun b => s.blkType b == 13 && s.blkOpt b % 4 == 0)).map (fun b => s.blkAux b % 256)

/-- A law's record of the CLE state space: its registers, and its sink states in the last eight bytes.
DESIGN CHOICE, log entry 43. -/
def State.lawRecord (s : State) (l : Nat) : List Byte :=
  let bits := ((s.lawSinks l).zipIdx.filter (fun x => cget (fun _ => false) s.out.cle x.1)).map (fun x => 2 ^ x.2)
  s.regBytes (CLE_LAW_CFG l) 248 ++ leBytes 8 bits.sum

/-- Words of control space written from bytes. -/
def State.putWords (s : State) (a : Nat) (b : List Byte) : State :=
  (List.range (b.length / 4)).foldl (fun (s : State) i => s.wrW (a + 4 * i) (BitVec.ofNat 32 (leAt b (4 * i) 4))) s

/-- A law's record taken over; the law itself stays SUSPENDED unless it was STOPPED (R414). -/
def State.takeLawRecord (s : State) (l : Nat) (b : List Byte) : State :=
  let s := s.putWords (CLE_LAW_CFG l) (b.take 248)
  let bits := leAt b 248 8
  let s := ((s.lawSinks l).zipIdx).foldl (fun (s : State) (x : Nat × Nat) => s.setCleSink x.1 (bits.testBit x.2)) s
  s.wr (CLE_LAW_STATE l) CLE_LAW_STATE_STATE (if s.lawState l = 0 then 0 else 4)

/-- Where a plain line of a state space lies in control space. -/
def lgeLineAddr (i : Nat) : Nat :=
  if i < 0x100 then LGE_VAR 0 + 256 * i
  else if i < 0x500 then LGE_INSTANCE 0 0 + 256 * (i - 0x100)
  else LGE_FORCE 0 0 + 256 * (i - 0x500)

def cleLineAddr (i : Nat) : Nat :=
  if i < 0x100 then CLE_BLK_STATE 0 0 + 256 * i
  else if i < 0x300 then CLE_BLK_PARAM 0 0 + 256 * (i - 0x100)
  else CLE_BLK_FLAGS 0 + 256 * (i - 0x300)

/-- A line of the LGE state space, by offset / 256. -/
def State.lgeLine (s : State) (i : Nat) : List Byte :=
  if i < 0x900 then s.regBytes (lgeLineAddr i) 256 else s.progRecord (i - 0x900)

def State.takeLgeLine (s : State) (i : Nat) (b : List Byte) : State :=
  if i < 0x900 then s.putWords (lgeLineAddr i) b else if i < 0x940 then s.takeProgRecord (i - 0x900) b else s

/-- A line of the CLE state space, by offset / 256. -/
def State.cleLine (s : State) (i : Nat) : List Byte :=
  if i < 0x320 then s.regBytes (cleLineAddr i) 256
  else if i < 0x400 then s.lawRecord (i - 0x320)
  else (List.range 64).flatMap (fun j =>
    leBytes 4 (cget (fun _ => (0 : Word)) s.cle.sp ((i - 0x400) / 16 * 1024 + (i - 0x400) % 16 * 64 + j)).toNat)

def State.takeCleLine (s : State) (i : Nat) (b : List Byte) : State :=
  if i < 0x320 then s.putWords (cleLineAddr i) b
  else if i < 0x400 then (if i < 0x3A0 then s.takeLawRecord (i - 0x320) b else s)
  else
    let k := (i - 0x400) / 16 * 1024 + (i - 0x400) % 16 * 64
    let sp := (List.range 64).foldl (fun c j =>
      cset (fun _ => (0 : Word)) c (k + j) (BitVec.ofNat 32 (leAt b (4 * j) 4))) s.cle.sp
    { s with cle := { s.cle with sp := sp } }

/-- The device address of a line of a tenant's replicated region (R216). -/
def State.lineAddr (s : State) (t line : Nat) : Option Nat := s.walk t ((s.rd (TEN_REPL t) TEN_REPL_START + line) * 256)

/-- The replicated regions' lines: tenant · 256 + line. -/
def State.regionLines (s : State) : List Nat :=
  s.replicated.flatMap (fun t =>
    if s.rdB (TEN_REPL t) TEN_REPL_EN then (List.range (s.rd (TEN_REPL t) TEN_REPL_LINES + 1)).map (· + 256 * t) else [])

/-- The INDEX of a LINE segment. -/
def lineIndex (k : Nat) : Nat := k / 256 + (k % 256) * 65536

/-- Items with a fixed place, all of them: PUB, SLOT, LGE and CLE (R407). -/
def State.copyItems (s : State) : List DpxItem :=
  s.copyPubs.map (fun p => (3, p)) ++ s.copySlots.map (fun x => (4, x)) ++ s.lgeLines.map (fun i => (5, i))
    ++ s.cleLines.map (fun i => (6, i))

/-- What an item holds. -/
def State.itemData (s : State) (i : DpxItem) : List Byte :=
  match i.1 with
  | 3 => leBytes 4 (s.stNum i.2) ++ leBytes 4 (s.sqNum i.2) ++ leBytes 8 (s.rd64 (OUT_PUBLISHER i.2 13) (OUT_PUBLISHER i.2 14))
  | 4 => s.regBytes (OUT_SLOT i.2 0) 1024
  | 5 => s.lgeLine i.2
  | 6 => s.cleLine i.2
  | 7 => match s.lineAddr (i.2 % 512) (i.2 / 65536 % 256) with
    | some a => s.bytes a 256
    | none => List.replicate 256 0
  | 9 => s.bytes (s.mapEntry (i.2 % 512) (i.2 / 65536) / 65536 % 2 ^ 24 * 65536) 65536
  | _ => []

def itemKey (i : DpxItem) : Nat := i.1 * 2 ^ 32 + i.2

/-- The items changed since a copy last captured them, and those of cut copies (R407, R412).
DESIGN CHOICE, log entry 49. -/
def State.markedItems (s : State) : List DpxItem :=
  s.copyItems.filter (fun i => s.dpx.remark.contains i || cget (fun _ => []) s.dpx.seen (itemKey i) != s.itemData i)

/-- Items captured: their contents are what the next copy compares with. -/
def State.noteSeen (s : State) (l : List DpxItem) : State :=
  let seen := (l.filter (fun i => i.1 < 7)).foldl (fun c i => cset (fun _ => []) c (itemKey i) (s.itemData i)) s.dpx.seen
  s.setDpx { s.dpx with seen := seen, remark := s.dpx.remark.filter (fun i => !l.contains i) }

/-- Items marked again in their recording banks (R412). -/
def State.remarkItems (s : State) (l : List DpxItem) : State :=
  let rec_ := (l.filter (fun i => i.1 == 7)).foldl (fun c i =>
    cset (fun _ => false) c (i.2 % 512 * 256 + i.2 / 65536 % 256) true) s.ten.llogRec
  let s : State := { s with ten := { s.ten with llogRec := rec_ } }
  s.setDpx { s.dpx with remark := (s.dpx.remark ++ l.filter (fun i => i.1 < 7)).eraseDups }

/-- The line log's banks swap (R217): the capturing bank holds the lines written in the round before.
DESIGN CHOICE, log entry 49. -/
def State.swapLines (s : State) : State :=
  { s with ten := { s.ten with llogCap := s.ten.llogRec, llogRec := [] } }

/-- The lines of replicated tenants that the capturing bank holds. -/
def State.capLines (s : State) : List DpxItem :=
  (s.ten.llogCap.filter (fun c => s.replicates (c.1 / 256) && c.2)).map (fun c => ((7, lineIndex c.1) : DpxItem))

/-- Lines marked in the capturing bank. -/
def State.markCap (s : State) (l : List DpxItem) : State :=
  { s with ten := { s.ten with llogCap := l.foldl (fun c i =>
    cset (fun _ => false) c (i.2 % 512 * 256 + i.2 / 65536 % 256) true) s.ten.llogCap } }

/-- The lines that a copy has read, or that a transfer has taken, leave the capturing bank (R217, R421). -/
def State.clearCap (s : State) : State :=
  { s with ten := { s.ten with llogCap := cerase (fun k => s.replicates (k / 256)) s.ten.llogCap } }

/-! ### Copies -/

/-- The IMAGE segment: OUT_BIND_VAL, TRIP levels and the replicated tenants RUNNING. -/
def State.imageSeg (s : State) : Segment :=
  let run := (List.range 16).flatMap (fun i =>
    leBytes 4 (((List.range 32).filter (fun j => s.replicates (32 * i + j) && s.tenState (32 * i + j) == 2)).map
      (fun j => 2 ^ j)).sum)
  (2, 0, s.regBytes (OUT_BIND_VAL 0) 32 ++ leBytes 2 (s.rd OUT_TRIP_LEVEL OUT_TRIP_LEVEL_LEVEL) ++ List.replicate 30 0 ++ run)

/-- The budget B (R411). -/
def State.budget (s : State) : Nat := 256 * (2097152 * s.roundLen * 4800 / (s.fs * 256))

/-- The segments of a copy of `items`, in the order of R409. -/
def State.copySegs (s : State) (round flags : Nat) (items : List DpxItem) : List Segment :=
  let base := (s.rdW DPX_COPY_ROUND).toNat
  let epoch := (s.rdW DPX_EPOCH).toNat
  let sorted := [3, 4, 5, 6, 9, 7].flatMap (fun ty =>
    ((items.filter (fun i => i.1 == ty)).mergeSort (fun a b => decide (a.2 ≤ b.2))).eraseDups)
  headSeg round base epoch Config.moduleId flags :: s.imageSeg :: sorted.map (fun i => ((i.1, i.2, s.itemData i) : Segment))

def segsBytes (l : List Segment) : Nat := (l.map (fun g => 8 + g.2.2.length)).sum

/-- The longest head of a segment list that fits in `n` bytes. -/
def fitSegs : Nat → List Segment → List Segment
  | _, [] => []
  | n, g :: r => if 8 + g.2.2.length ≤ n then g :: fitSegs (n - (8 + g.2.2.length)) r else []

/-- A stream sent: its bytes are counted (R429). -/
def State.sendCopy (s : State) (segs : List Segment) (complete : Bool) : State :=
  let b := (segs ++ [endSeg segs complete]).flatMap segBytes
  (s.bump cntDPX_COPY_BYTES b.length).twinStream b

/-! ### Application (R413, R422) -/

/-- Bytes of a page written, but for those of the tenant's replicated region (R421). -/
def State.takePage (s : State) (t page : Nat) (b : List Byte) : State :=
  let a := s.mapEntry t page / 65536 % 2 ^ 24 * 65536
  let first := s.rd (TEN_REPL t) TEN_REPL_START
  let n := if s.rdB (TEN_REPL t) TEN_REPL_EN then s.rd (TEN_REPL t) TEN_REPL_LINES + 1 else 0
  (List.range 256).foldl (fun (s : State) i =>
    let line := page * 256 + i
    if first ≤ line ∧ line < first + n then s else s.store (a + 256 * i) (slice b (256 * i) 256)) s

/-- Whether a page lies in a map with WRITE (R422). -/
def State.pageWritable (s : State) (t page : Nat) : Bool := (s.mapEntry t page).testBit 0 && (s.mapEntry t page).testBit 1

/-- A segment written to its place. -/
def State.takeSeg (s : State) (g : Segment) : State :=
  let (ty, i, b) := g
  match ty with
  | 2 =>
    let s := s.putWords (OUT_BIND_IMG 0) (b.take 32)
    let run := (List.range 512).filter (fun t => (byteAt b (64 + t / 8)).testBit (t % 8))
    s.setDpx { s.dpx with running := run }
  | 3 => (s.setNums i (leAt b 0 4) (leAt b 4 4)).wr64 (OUT_PUBLISHER i 13) (OUT_PUBLISHER i 14) (leAt b 8 8)
  | 4 => s.putWords (OUT_SLOT i 0) b
  | 5 => s.takeLgeLine i b
  | 6 => s.takeCleLine i b
  | 7 => match s.lineAddr (i % 512) (i / 65536 % 256) with
    | some a => s.store a b
    | none => s
  | 9 => if s.pageWritable (i % 512) (i / 65536) then s.takePage (i % 512) (i / 65536) b else s
  | _ => s

/-- A PAGE segment for a page that the map does not hold with WRITE (R422). -/
def State.pageVoid (s : State) (g : Segment) : Bool := g.1 == 9 && !s.pageWritable (g.2.1 % 512) (g.2.1 / 65536)

end Sys2Proof.Machine
end

