-- ==== Sys2Proof/Machine/Migrate.lean ====
section
/-! DEFINITION. Migration of a tenant (R220 to R224): pre-copy passes, what the source sends when the tenant has stopped, the commit
and its acknowledgement, and the destination's side. -/

namespace Sys2Proof.Machine

/-! ### The source (R221, R222) -/

/-- The pages that a tenant's page log marks (R214). -/
def State.markedPages (s : State) (t : Nat) : List Nat :=
  (s.ten.plog.filter (fun c => c.1 / 16384 == t && c.2)).map (·.1 % 16384)

/-- Parts of a tenant sent to the module of its peer. -/
def State.sendParts (s : State) (t : Nat) (l : List MigPart) : State := { s with wire := s.wire ++ l.map (Wire.migration t) }

/-- A page with its contents. -/
def State.pagePart (s : State) (t v : Nat) : MigPart := .page v (s.bytes (s.mapEntry t v / 65536 % 2 ^ 24 * 65536) 65536)

/-- A pre-copy pass of a tenant that runs on while it migrates out, after a snapshot that marked `marked` (R221 steps 4 to 6): the
first sends every mapped page, a further one the marked pages. A snapshot of few pages stages the stop; after MAX_PASSES passes
without one the migration is aborted.
DESIGN CHOICE, log entry 52. -/
def State.preCopy (s : State) (t : Nat) (marked : List Nat) : State :=
  let m := s.mig t
  let few := decide (marked.length ≤ s.rd TEN_MIG TEN_MIG_STOP_PAGES)
  if m.passes ≠ 0 ∧ !few ∧ max 1 (s.rd TEN_MIG TEN_MIG_MAX_PASSES) ≤ m.passes then s.abortResume t
  else
    let s := s.sendParts t ((if m.passes = 0 then s.mappedPages t else marked).map (s.pagePart t))
    let s := s.setMig t { m with passes := m.passes + 1 }
    if m.passes ≠ 0 ∧ few ∧ !s.tenBit t TEN_STATE_STOP_PENDING then s.stageEvent t 7 else s

/-- PLOG_SNAP (R215), which is a pass of a migration under way (R221).
DESIGN CHOICE, log entry 33. -/
def opTenPlogSnap (t : Nat) (s : State) : State :=
  s.tenCmd t fun s =>
    let marked := s.markedPages t
    let s := s.plogSnap t
    let out := s.tenState t == 5 && !s.tenBit t TEN_STATE_DIR && !s.tenBit t TEN_STATE_STOPPED && !(s.mig t).aborted
    (0, (if out then s.preCopy t marked else s).tenBusy t 9)

def execTenPlogSnap (t tenant : Nat) (s : State) : Host.Outcome State Fault Refusal :=
  s.runAt t (opTenPlogSnap tenant)

/-- The publishers of a tenant. -/
def State.tenPubs (s : State) (t : Nat) : List Nat := s.livePubs.filter (fun p => s.pubOwner (s.pubRec p) == some t)

/-- What the source sends besides pages: queued items in order, task descriptors with their flags, flows, timers, the trip
register, the numbers of publishers, and the state of programs and laws (R222).
DESIGN CHOICE, log entry 52. -/
def State.migParts (s : State) (t : Nat) : List MigPart :=
  let first := s.taskFirst t
  (s.sch.items.filter (fun i => i.tenant == t)).map (fun i => MigPart.item (itemBytes { i with task := i.task - first }))
    ++ (List.range (s.taskCount t)).map (fun i => MigPart.desc i ((List.range 5).map (fun j => (s.rdW (SCH_DESC (first + i) j)).toNat)))
    ++ ((s.regs.filterMap (fun c => elemOf (SCH_FLOW_OWNER 0) 4096 4 c.1)).filter (fun f =>
        s.rdB (SCH_FLOW_OWNER f) SCH_FLOW_OWNER_VALID && s.rd (SCH_FLOW_OWNER f) SCH_FLOW_OWNER_TENANT == t)).map MigPart.flow
    ++ (List.range 4).map (fun n =>
        let x := s.timer t n
        MigPart.timer n (x.hi * 2 ^ 32 + x.lo) x.task x.bit x.period x.armed)
    ++ [MigPart.trips (s.tripReg t)]
    ++ (s.tenPubs t).map (fun p => MigPart.nums p (s.stNum p) (s.sqNum p))
    ++ (s.lgeLinesOf (s.progsOf t)).map (fun i => MigPart.line 5 i (s.lgeLine i))
    ++ (s.cleLinesOf (s.lawsOf t)).map (fun i => MigPart.line 6 i (s.cleLine i))

/-- A tenant stopped for migration: the final snapshot, and the transfer of what it marks and of the stopped state (R222). -/
def State.migTransfer (s : State) (t : Nat) : State :=
  let marked := s.markedPages t
  let s := s.plogSnap t
  s.sendParts t (marked.map (s.pagePart t) ++ s.migParts t)

/-- Step 7 of R48 for the tenants with a staged stop: they stop, what is theirs holds, and the transfer begins (R222). -/
def State.stopMigrate (s : State) (k : Nat) : Bool × State :=
  let due := (s.ten.events.filter (fun e => e.2.due k && e.2.val == 7)).map (·.1)
  let (any, s) := s.stopStep k
  (any, due.foldl (fun (s : State) t => s.migTransfer t) s)

/-! ### Commit and abort at the source (R223) -/

/-- The resume round of a commit sent now: the first whose boundary lies at least 50 µs ahead. -/
def State.resumeRound (s : State) : Nat :=
  max s.tim.nextRound (firstRoundFrom s.fs s.roundLen s.tim.nextD (s.dom + 50000))

/-- The commit is sent with the resume round and each publisher's last sqNum, and the tenant's publishers stop. -/
def State.sendCommit (s : State) (t : Nat) : State :=
  let r := s.resumeRound
  let sq := (s.tenPubs t).map (fun p => (p, s.sqNum p))
  let s := (s.setMig t { s.mig t with commitSent := some r }).send (.migCommit t (round32 r) sq)
  ((s.migEvent t 3 (round32 r)).pubsOff t).settle

/-- The destination acknowledges (R223): every byte, upon which the source sends the commit while it is in time and no abort has been
sent; or the commit, upon which the source releases the tenant.
DESIGN CHOICE, log entry 32. -/
def opCommitAcknowledged (t : Nat) (ack : MigAck) (s : State) : State :=
  let m := s.mig t
  if s.tenState t = 5 ∧ !s.tenBit t TEN_STATE_DIR ∧ s.tenBit t TEN_STATE_STOPPED ∧ !m.aborted then
    match ack with
    | .data => if m.commitSent.isNone ∧ s.dom < m.deadline then s.sendCommit t else s
    | .commit => if m.commitSent.isSome then s.tenEmpty t 7 else s
  else s

def execCommitAcknowledged (t : Nat) (reply : MigReply) (s : State) : Host.Outcome State Fault Refusal :=
  s.runAt t (opCommitAcknowledged reply.tenant reply.ack)

/-- No commit by T(c + 4) − 50 µs: the source aborts, once, and stages RESUME for the first boundary after the abort (R223). -/
def opMigrationDeadline (t : Nat) (s : State) : State :=
  let m := s.mig t
  if s.tenState t = 5 ∧ !s.tenBit t TEN_STATE_DIR ∧ s.tenBit t TEN_STATE_STOPPED ∧ !m.aborted ∧ m.commitSent.isNone
      ∧ m.deadline ≤ s.dom then s.abortResume t
  else s

def execMigrationDeadline (t tenant : Nat) (s : State) : Host.Outcome State Fault Refusal :=
  s.runAt t (opMigrationDeadline tenant)

/-! ### The destination (R221, R223) -/

/-- The full round number nearest to the next boundary that a register's round number stands for (R42). -/
def State.fullRound (s : State) (r : Nat) : Nat := ((s.tim.nextRound : Int) + diff32 r s.tim.nextRound).toNat

/-- A part of a tenant installed in the tenant of this module: what lies outside its map, its descriptors, its publishers, programs
and laws is left.
DESIGN CHOICE, log entry 52. -/
def State.takePart (s : State) (t : Nat) (p : MigPart) : State :=
  let first := s.taskFirst t
  match p with
  | .page v b => if (s.mapEntry t v).testBit 0 then s.store (s.mapEntry t v / 65536 % 2 ^ 24 * 65536) b else s
  | .item b =>
    let i := s.parseItem b (first + leAt b 0 2) t ((byteAt b 8).testBit 1)
    s.accept { i with round := s.fullRound (leAt b 12 4) }
  | .desc i ws =>
    if i < s.taskCount t then
      let d := first + i
      let s := (List.range 5).foldl (fun (s : State) j => s.wrW (SCH_DESC d j) (BitVec.ofNat 32 (ws.getD j 0))) s
      s.wr (SCH_DESC d 3) DESC_TENANT t
    else s
  | .flow f =>
    if s.rdB (SCH_FLOW_OWNER f) SCH_FLOW_OWNER_VALID then s
    else (s.wrB (SCH_FLOW_OWNER f) SCH_FLOW_OWNER_VALID true).wr (SCH_FLOW_OWNER f) SCH_FLOW_OWNER_TENANT t
  | .timer n dl i bit period armed =>
    let x : SchTimer := { s.timer t n with lo := dl % 2 ^ 32, hi := dl / 2 ^ 32, task := i, bit := bit, period := period, armed := armed }
    s.setTimer t n x
  | .trips v => s.setTripReg t v
  | .nums p st sq => if (s.tenPubs t).contains p then s.setNums p st sq else s
  | .line ty i b =>
    if ty = 5 then (if (s.lgeLinesOf (s.progsOf t)).contains i then s.takeLgeLine i b else s)
    else if (s.cleLinesOf (s.lawsOf t)).contains i then s.takeCleLine i b else s

/-- A commit reaches the destination, which holds every part the source sent: RESUME at T(r) when it arrives before T(r) − 10 µs,
else at the next boundary with LATE_COMMIT (R223). -/
def opMigrationCommitReceived (t r : Nat) (parts : List MigPart) (s : State) : State :=
  if s.tenState t = 5 ∧ s.tenBit t TEN_STATE_DIR ∧ !(s.mig t).committed then
    let s := (parts.foldl (fun (s : State) p => s.takePart t p) s).settle
    let full := s.fullRound r
    let s := s.setMig t { s.mig t with committed := true }
    let s := s.migEvent t 3 r
    if s.gridOn ∧ s.dom + 10000 < dispatchInstant s.fs s.roundLen s.tim.nextD full ∧ s.tim.nextRound ≤ full then
      s.stageEventAt t 8 full
    else (s.stageEventAt t 8 (if s.gridOn then s.tim.nextRound else 0)).migEvent t 5 r
  else s

def execMigrationCommitReceived (t tenant : Nat) (commit : MigCommit) (s : State) : Host.Outcome State Fault Refusal :=
  s.runAt t (opMigrationCommitReceived tenant commit.round commit.parts)

end Sys2Proof.Machine
end

