-- ==== Sys2Proof/Machine/Dpx.lean ====
section
/-! DEFINITION. Duplex pairs and the referee (R395 to R424): roles, heartbeats, declarations and grants, the round copy on
both sides, full transfer, take-over and take-back. -/

namespace Sys2Proof.Machine

/-! ### Roles (R395, R405) -/

/-- DPX_STAT.ROLE: 0 SOLO, 1 ACTIVE, 2 STANDBY, 3 SYNCING, 4 REFEREE, 5 FENCED, 6 PENDING. -/
def State.role (s : State) : Nat := s.rd DPX_STAT DPX_STAT_ROLE
def State.dpxOn (s : State) : Bool := s.rdB DPX_CTRL DPX_CTRL_EN
def State.pairMember (s : State) : Bool := s.dpxOn && s.rdB DPX_CFG DPX_CFG_PAIR_EN
def State.isReferee (s : State) : Bool := s.dpxOn && s.role == 4
def State.epoch (s : State) : Nat := (s.rdW DPX_EPOCH).toNat
def State.pairEpoch (s : State) : Nat := (s.rdW DPX_PAIR_EPOCH).toNat
/-- H (R401): 0 is treated as 1, above 8 as 8. -/
def State.hRounds (s : State) : Nat := min 8 (max 1 (s.rd DPX_CFG DPX_CFG_H))
/-- NEG_WAIT in ns; 0 is treated as 1 s. -/
def State.negWait (s : State) : Nat := max 1 (s.rd DPX_CFG DPX_CFG_NEG_WAIT) * 1000000000
/-- The next epoch; it wraps from 2^32 − 1 to 1 (R418). -/
def nextEpoch (e : Nat) : Nat := if 2 ^ 32 ≤ e + 1 then 1 else e + 1

/-- The module's own round: the last whose dispatch instant has come (R400, R514). -/
def State.dpxRound (s : State) : Nat :=
  firstRoundFrom s.fs s.roundLen (s.rd TIM_ADMIT TIM_ADMIT_CURRENT) (s.dom + 1) - 1

/-- T of a full round number near the present one. -/
def State.dpxT (s : State) (k : Nat) : Nat := dispatchInstant s.fs s.roundLen (s.rd TIM_ADMIT TIM_ADMIT_CURRENT) k

/-- ELIGIBLE follows R414. -/
def State.showEligible (s : State) : State :=
  s.wrB DPX_STAT DPX_STAT_ELIGIBLE (s.dpx.rxOk && s.epoch == s.pairEpoch)

def State.setRxOk (s : State) (b : Bool) : State := (s.setDpx { s.dpx with rxOk := b }).showEligible
def State.setEpoch (s : State) (e : Nat) : State := (s.wrW DPX_EPOCH (BitVec.ofNat 32 e)).showEligible
def State.setPairEpoch (s : State) (e : Nat) : State := (s.wrW DPX_PAIR_EPOCH (BitVec.ofNat 32 e)).showEligible

/-- A role change with its record. Causes: 1 EN set, 2 role answer, 3 NO_REFEREE, 4 FENCE, 5 final copy, 6 grant, 7 swap,
8 self-fence.
DESIGN CHOICE, log entry 13. -/
def State.setRole (s : State) (new cause : Nat) : State :=
  let old := s.role
  (s.wr DPX_STAT DPX_STAT_ROLE new).post 0x0B01 (p1 old ++ p1 new ++ p1 cause ++ p4 s.epoch)

/-- The output gate opens or closes; while it is closed PUB_EN is 0 (R395). -/
def State.setGate (s : State) (isOpen : Bool) : State :=
  let s1 := s.wrB DPX_STAT DPX_STAT_GATE isOpen
  let s1 := if isOpen then s1 else s1.wrB OUT_CTRL OUT_CTRL_PUB_EN false
  State.unmute s s1.settle

/-- IMG_MODE as DPX sets it (R414, R415). -/
def State.setImg (s : State) (b : Bool) : State :=
  ((s.wrB OUT_CTRL OUT_CTRL_IMG_MODE b).wrB DPX_STAT DPX_STAT_IMG b).settle

def State.setPubEn (s : State) (b : Bool) : State := State.unmute s (s.wrB OUT_CTRL OUT_CTRL_PUB_EN b)

/-- A replicated tenant stopped by a duplex action: items in service cut off, queued items discarded (R423). -/
def State.dpxStop (s : State) (t : Nat) : State :=
  let s := (s.cutOff t).dropEvents t
  (s.setSch (s.sch.items.filter (fun i => i.tenant != t)) s.sch.runs).tenDisabled t 8

/-- DUPLEX clears: nothing is held any more (R410). -/
def State.dropDuplex (s : State) : State :=
  let s := s.wrB DPX_STAT DPX_STAT_DUPLEX false
  if s.out.holding then s.releaseOutputs else s

/-- What a member leaves behind with its role: requests, swaps, transfers, a copy in flight. -/
def State.dpxClear (s : State) : State :=
  let s := s.setDpx { s.dpx with swapAt := none, copy := none, xfer := none, takeOver := none, revertRounds := 0 }
  ((s.wrB DPX_STAT DPX_STAT_SWAP_PENDING false).wrB DPX_STAT DPX_STAT_REVERT_PENDING false).dropDuplex

/-- A member becomes FENCED: gate closed, replicated tenants disabled (R405, R209).
DESIGN CHOICE, log entry 50. -/
def State.becomeFenced (s : State) (cause : Nat) : State :=
  let pend := s.role = 6
  let s := ((s.dpxClear.setGate false).setImg false).setRole 5 cause
  let s := s.setRxOk false
  if pend then s else s.replicated.foldl (fun s t => (s.disable t 8).getD s) s

/-- FENCE comes into force on a member (R405, R424). -/
def State.fenceRole (s : State) : State :=
  if s.pairMember ∧ s.fenced ∧ (s.role = 1 ∨ s.role = 2 ∨ s.role = 3 ∨ s.role = 6) then s.becomeFenced 4 else s

/-- FENCE_N filtered low (R329). -/
def opFenceAssert (s : State) : State := (s.fenceBall false).fenceRole


/-! ### Frames (R399) -/

/-- A heartbeat or referee frame without its tag. -/
def State.hbFrame (s : State) (body : List Byte) : List Byte :=
  let da := macOf (s.rdW DPX_HB_DA_LO).toNat (s.rdW DPX_HB_DA_HI).toNat
  let sa := macOf (s.rdW OUT_MOD_MAC_LO).toNat (s.rdW OUT_MOD_MAC_HI).toNat
  let v := s.rdW DPX_HB_VLAN
  let tag := if fget DPX_HB_VLAN_TAGGED v = 1 then
      beBytes 2 0x8100 ++ beBytes 2 (fget DPX_HB_VLAN_PCP v * 8192 + fget DPX_HB_VLAN_VID v) else []
  beBytes 6 da ++ beBytes 6 sa ++ tag ++ beBytes 2 0x88B5 ++ body

/-- The payload of a member's heartbeat for round `k`. -/
def State.memberBody (s : State) (k : Nat) : List Byte :=
  let w := (s.rdW DPX_HEALTH).toNat
  let flags := b2n (w.testBit 10) + 2 * b2n (s.rdB DPX_STAT DPX_STAT_ELIGIBLE)
    + 4 * b2n (s.rdB DPX_STAT DPX_STAT_REVERT_PENDING) + 8 * b2n s.dpx.asking
  p1 1 ++ p1 2 ++ beBytes 2 (s.rd DPX_CFG DPX_CFG_PAIR) ++ beBytes 4 (Config.moduleId % 16384) ++ beBytes 4 (round32 k)
    ++ beBytes 4 s.epoch ++ beBytes 4 w ++ p1 s.role ++ p1 flags ++ beBytes 2 0 ++ beBytes 4 (s.rdW DPX_LAST_APPLIED).toNat
    ++ beBytes 4 0

/-- The module ID of a side, as a referee's DPX_PEER names them (notes/assumptions/42).
DEDUCED, log entry 42. -/
def State.sideModule (s : State) (side : Nat) : Nat :=
  if side = 0 then s.rd DPX_PEER DPX_PEER_PEER else s.rd DPX_PEER DPX_PEER_REFEREE

/-- The active side on a referee: 0 none, 1 A, 2 B. -/
def State.refActive (s : State) : Nat := s.rd DPX_REF_STAT DPX_REF_STAT_ACTIVE
def State.setRefActive (s : State) (v : Nat) : State := s.wr DPX_REF_STAT DPX_REF_STAT_ACTIVE v

/-- The payload of a referee's message. -/
def State.refBody (s : State) (k msg arg : Nat) : List Byte :=
  let active := if s.refActive = 0 then 0x3FFF else s.sideModule (s.refActive - 1)
  p1 1 ++ p1 3 ++ beBytes 2 (s.rd DPX_CFG DPX_CFG_PAIR) ++ beBytes 4 (Config.moduleId % 16384) ++ beBytes 4 (round32 k)
    ++ beBytes 4 s.pairEpoch ++ beBytes 4 active ++ p1 msg ++ p1 0 ++ beBytes 2 0 ++ beBytes 4 arg ++ beBytes 4 0

/-- A frame with its tag handed to port 29 in class 7; none where the key is refused. -/
def State.hbSend (s : State) (body : List Byte) : State :=
  let k := s.rd DPX_HB_KEY DPX_HB_KEY_SLOT
  let (st, s) := s.grant k ⟨[2], [uMac]⟩ .publish false
  if st ≠ 0 then s
  else
    let b := s.hbFrame body
    s.handOver 7 (b ++ macTag (s.slot k).value b true)

/-- A referee's message. -/
def State.refSend (s : State) (msg arg : Nat) : State := s.hbSend (s.refBody s.dpxRound msg arg)

/-- The network heartbeat of round `k`: a member's, or the referee's MSG 0 (R398). -/
def State.hbRound (s : State) (k : Nat) : State :=
  if !s.dpxOn then s
  else if s.role = 4 then s.hbSend (s.refBody k 0 0)
  else if s.rdB DPX_CFG DPX_CFG_PAIR_EN && s.rdB DPX_CTRL DPX_CTRL_HB_EN then s.hbSend (s.memberBody k)
  else s

/-- The network heartbeat at an instant T(k) while the grid is off (R514). -/
def opDispatchInstantHeartbeat (s : State) : State := if s.gridOn then s else s.hbRound s.dpxRound

def execDispatchInstantHeartbeat (t : Nat) (s : State) : Host.Outcome State Fault Refusal :=
  s.runAt t opDispatchInstantHeartbeat

/-- The wire heartbeat after step 6 (R398). -/
def State.hbWire (s : State) : State :=
  let on := s.pairMember && s.rdB DPX_CTRL DPX_CTRL_HB_EN && (s.role == 1 || s.role == 2 || s.role == 3)
  let fatal := s.pairMember && s.rdB DPX_CTRL DPX_CTRL_HB_EN && (s.rdW DPX_HEALTH).toNat.testBit 10
  s.setDpx { s.dpx with hbOut := on || fatal, hbRise := if on then s.now else s.dpx.hbRise }

/-- The pulse ends, 2 µs after it rose; while FATAL is set the line stays high. -/
def opHeartbeatPulseEnd (s : State) : State :=
  let fatal := s.pairMember && s.rdB DPX_CTRL DPX_CTRL_HB_EN && (s.rdW DPX_HEALTH).toNat.testBit 10
  if s.dpx.hbRise + 2000 ≤ s.now then s.setDpx { s.dpx with hbOut := fatal } else s

def execHeartbeatPulseEnd (t : Nat) (s : State) : Host.Outcome State Fault Refusal :=
  s.runAt t opHeartbeatPulseEnd

/-! ### The referee (R401 to R403, R419, R420, R423) -/

def State.beat (s : State) (i : Nat) : Option DpxBeat := cget (fun _ => none) s.dpx.beats i
def State.setBeat (s : State) (i : Nat) (x : Option DpxBeat) : State :=
  s.setDpx { s.dpx with beats := cset (fun _ => none) s.dpx.beats i x }

def fenceFld (side : Nat) : Fld := if side = 0 then DPX_REF_STAT_FENCE_A else DPX_REF_STAT_FENCE_B
def missFld (side : Nat) : Fld := if side = 0 then DPX_REF_STAT_MISS_A else DPX_REF_STAT_MISS_B
def pathFld (side : Nat) : Fld := if side = 0 then DPX_REF_STAT_PATH_A else DPX_REF_STAT_PATH_B

/-- A side's FENCE_OUT is driven low and its latch set (R402, R403). -/
def State.fenceSide (s : State) (side : Nat) : State :=
  (s.wrB DPX_REF_STAT (fenceFld side) true).bump cntDPX_FENCES 1

/-- The level of a FENCE_OUT ball, none where it is not driven: low while its latch is set, high on a referee whose latch is
clear (R403). -/
def State.fenceOut (s : State) (side : Nat) : Option Bool :=
  if s.rdB DPX_REF_STAT (fenceFld side) then some false
  else if s.dpxOn && s.rdB DPX_CFG DPX_CFG_REFEREE then some true else none

/-- A swap that has not happened is withdrawn (R424). -/
def State.dropSwap (s : State) : State :=
  (s.setDpx { s.dpx with swapAt := none }).wrB DPX_STAT DPX_STAT_SWAP_PENDING false

/-- The active is declared failed (R402); causes 1 missed, 2 fatal, 3 the DECLARE command.
DESIGN CHOICE, log entry 13. -/
def State.declare (s : State) (cause : Nat) : State :=
  if s.refActive = 0 then s
  else
    let side := s.refActive - 1
    let other := 1 - side
    let old := s.pairEpoch
    let s := (s.dropSwap.fenceSide side).setPairEpoch (nextEpoch old)
    let s := s.post 0x0B04 (p1 side ++ p1 cause ++ p4 s.pairEpoch)
    let b := s.beat other
    if b.any (fun x => x.role == 2 && x.flags.testBit 1 && x.epoch == old) then
      (s.setRefActive (other + 1)).refSend 1 (s.sideModule other + 65536)
    else (s.setRefActive 0).post 0x0B05 (p4 (round32 s.dpxRound) ++ p4 (b.elim 0 (·.health)))

/-- A path of a side absent while the other is present, or not (R401). -/
def State.pathRound (s : State) (side path : Nat) (absent : Bool) : State :=
  let i := side * 2 + path
  let n := if absent then cget (fun _ => 0) s.dpx.pathMiss i + 1 else 0
  let s := s.setDpx { s.dpx with pathMiss := cset (fun _ => 0) s.dpx.pathMiss i n }
  if n = s.hRounds then (s.bump cntDPX_PATH_FAULTS 1).post 0x0B07 (p1 side ++ p1 path) else s

/-- A side's count at T(k) + WINDOW; true when the H-th consecutive round is missed.
DESIGN CHOICE, log entry 50. -/
def State.windowSide (s : State) (k side : Nat) (wire : Bool) : Bool × State :=
  let limit := s.dpxT k + s.rd DPX_REF_CFG DPX_REF_CFG_WINDOW * 1000
  let net := (s.beat side).any (fun b => b.round == k && decide (b.at_ ≤ limit))
  let s := (s.pathRound side 0 (!wire && net)).pathRound side 1 (wire && !net)
  let fault := (List.range 2).any (fun p => decide (s.hRounds ≤ cget (fun _ => 0) s.dpx.pathMiss (side * 2 + p)))
  let s := s.wrB DPX_REF_STAT (pathFld side) fault
  if wire || net then (false, s.wr DPX_REF_STAT (missFld side) 0)
  else
    let n := satNat 15 (s.rd DPX_REF_STAT (missFld side) + 1)
    let s := (s.wr DPX_REF_STAT (missFld side) n).bump cntDPX_HB_MISSED 1
    (n == s.hRounds, s.post 0x0B03 (p1 side ++ p4 (round32 k) ++ p4 n))

/-- T(k) + WINDOW on a referee: missed rounds and path faults are counted, and the active is declared failed at the H-th
(R401, R402). A standby that is missed is no longer eligible. -/
def opHeartbeatWindowEnd (wireA wireB : Bool) (s : State) : State :=
  let k := s.dpxRound
  if !s.isReferee ∨ s.dpx.windowDone = some k ∨ s.dom < s.dpxT k + s.rd DPX_REF_CFG DPX_REF_CFG_WINDOW * 1000 then s
  else
    let s := s.setDpx { s.dpx with windowDone := some k }
    let (a, s) := s.windowSide k 0 wireA
    let (b, s) := s.windowSide k 1 wireB
    let unfit := fun (s : State) (side : Nat) =>
      if s.rd DPX_REF_STAT (missFld side) ≠ 0 ∧ s.refActive ≠ side + 1 then
        s.setBeat side ((s.beat side).map (fun (x : DpxBeat) => { x with flags := x.flags - x.flags / 2 % 2 * 2 }))
      else s
    let s := unfit (unfit s 0) 1
    if (a ∧ s.refActive = 1) ∨ (b ∧ s.refActive = 2) then s.declare 1 else s

def execHeartbeatWindowEnd (t : Nat) (wireA wireB : Bool) (s : State) : Host.Outcome State Fault Refusal :=
  s.runAt t (opHeartbeatWindowEnd wireA wireB)

/-- FATAL of a side by its wire or its last frame: the active is declared, a standby is fenced (R402). -/
def opFatalDetect (side : Nat) (wire : Bool) (s : State) : State :=
  if !s.isReferee ∨ 1 < side ∨ !(wire || (s.beat side).any (fun b => b.flags.testBit 0)) then s
  else if s.refActive = side + 1 then s.declare 2
  else if s.rdB DPX_REF_STAT (fenceFld side) then s
  else s.fenceSide side

def execFatalDetect (t side : Nat) (wire : Bool) (s : State) : Host.Outcome State Fault Refusal :=
  s.runAt t (opFatalDetect side wire)

/-- A role answer to a side: MSG 2 (R420). -/
def State.answerRole (s : State) (side role : Nat) : State :=
  (s.setDpx { s.dpx with adopting := false }).refSend 2 (s.sideModule side + role * 65536)

/-- ACTIVE answered to a side: the pair epoch increments. -/
def State.answerActive (s : State) (side : Nat) : State :=
  let s := (s.setPairEpoch (nextEpoch s.pairEpoch)).setRefActive (side + 1)
  (s.setDpx { s.dpx with askAt := none }).answerRole side 1

/-- A request for a role (R420).
DEDUCED, log entry 42. -/
def State.refAsked (s : State) (side : Nat) (b : DpxBeat) : State :=
  let s := if s.refActive = side + 1 ∧ b.role ≠ 1 then s.setRefActive 0 else s
  if s.refActive ≠ 0 then s.answerRole side 3
  else if b.epoch = s.pairEpoch ∧ b.flags.testBit 1 then s.answerActive side
  else match s.dpx.askAt with
    | some _ => s
    | none => s.setDpx { s.dpx with askAt := some s.now, askSide := side }

/-- NEG_WAIT after the first request without an active: a fresh start (R420). -/
def State.freshStart (s : State) : State :=
  match s.dpx.askAt with
  | none => s
  | some a =>
    if s.now < a + s.negWait ∨ s.refActive ≠ 0 then s
    else
      let pref := s.rd DPX_CFG DPX_CFG_SIDE
      let asks := (s.beat pref).any (fun b => b.flags.testBit 3)
      s.answerActive (if s.rdB DPX_CFG DPX_CFG_PREFERRED && asks then pref else s.dpx.askSide)

/-- A heartbeat of a side accepted by its referee.
DEDUCED, log entry 42. -/
def State.refBeat (s : State) (side : Nat) (b : DpxBeat) : State :=
  let s := s.setBeat side (some b)
  let s := if s.dpx.adopting then
      if b.role = 1 then ((s.setPairEpoch b.epoch).setRefActive (side + 1)).setDpx { s.dpx with adopting := false }
      else s.setPairEpoch (max s.pairEpoch b.epoch)
    else s
  let s := if b.flags.testBit 3 then s.refAsked side b else s
  if b.flags.testBit 2 ∧ b.role = 2 ∧ b.epoch = s.pairEpoch ∧ s.refActive = 2 - side ∧ s.dpx.swapAt.isNone then
    let at_ := s.dpxRound + 2 + Config.swapExtra
    let s := (s.setDpx { s.dpx with swapAt := some at_ }).wrB DPX_STAT DPX_STAT_SWAP_PENDING true
    s.refSend 3 (round32 at_)
  else s

/-! ### Frames received (R400, R404) -/

/-- A referee's frame accepted by a member. -/
def State.memberHears (s : State) (full : Nat) (p : List Byte) : State :=
  let epoch := beAt p 12 4
  let active := beAt p 16 4 % 16384
  let s := ((s.setDpx { s.dpx with refRound := some full }).wrB DPX_STAT DPX_STAT_REF_OK true).setPairEpoch epoch
  if s.role = 1 ∧ active ≠ 0x3FFF ∧ active ≠ Config.moduleId % 16384 ∧ epoch ≠ s.epoch then
    (s.becomeFenced 8).post 0x0B0B (p2 active ++ p4 epoch)
  else
    let msg := byteAt p 20
    let arg := beAt p 24 4
    let x : DpxMsg := { msg := msg, epoch := epoch, target := arg % 16384, arg := arg }
    if msg = 3 ∨ ((msg = 1 ∨ msg = 2) ∧ x.target = Config.moduleId % 16384) then s.setDpx { s.dpx with msg := some x } else s

/-- An accepted frame: round in full, payload.
DESIGN CHOICE, log entry 49. -/
def State.hbAccept (s : State) (full : Nat) (p : List Byte) : State :=
  let module := beAt p 4 4 % 16384
  if byteAt p 1 = 3 then
    if s.pairMember ∧ module = s.rd DPX_PEER DPX_PEER_REFEREE then s.memberHears full p else s
  else
    let b : DpxBeat := ⟨module, byteAt p 20, beAt p 12 4, beAt p 16 4, byteAt p 21, beAt p 24 4, full, s.dom⟩
    if s.isReferee then
      if module = s.sideModule 0 then s.refBeat 0 b else if module = s.sideModule 1 then s.refBeat 1 b else s
    else if s.pairMember ∧ module = s.rd DPX_PEER DPX_PEER_PEER then
      (s.setBeat 2 (some b)).wrW DPX_HEALTH_PEER (BitVec.ofNat 32 b.health)
    else s

/-- A frame of ethertype 0x88B5 and TYPE 2 or 3: accepted, or discarded and counted (R400). -/
def State.hbReceive (s : State) (b : List Byte) : State :=
  let o := if beAt b 12 2 = 0x8100 then 18 else 14
  let p := b.drop o
  if !s.dpxOn ∨ beAt b (o - 2) 2 ≠ 0x88B5 ∨ byteAt p 0 ≠ 1 ∨ (byteAt p 1 ≠ 2 ∧ byteAt p 1 ≠ 3) ∨ p.length < 48 then s
  else
    let k := s.rd DPX_HB_KEY DPX_HB_KEY_SLOT
    let (st, s) := s.grant k ⟨[2], [uVerify]⟩ .publish false
    let own := s.dpxRound
    let d := diff32 (beAt p 8 4) own
    if st ≠ 0 ∨ macTag (s.slot k).value (b.take (o + 32)) true ≠ slice p 32 16 ∨ beAt p 2 2 ≠ s.rd DPX_CFG DPX_CFG_PAIR
        ∨ 2 < d ∨ d < -2 then s.bump cntDPX_HB_REJECT 1
    else s.hbAccept ((own : Int) + d).toNat p

/-- HEARTBEAT_FRAME_RECEIVE: the frame given, or the oldest that port 30 has delivered to DPX. -/
def opHeartbeatFrameReceive (f : Option (List Byte)) (s : State) : State :=
  match f, s.dpx.inbox with
  | some b, _ => s.hbReceive b
  | none, b :: rest => (s.setDpx { s.dpx with inbox := rest }).hbReceive b
  | none, [] => s

def execHeartbeatFrameReceive (t : Nat) (frame : Option (List Byte)) (s : State) : Host.Outcome State Fault Refusal :=
  s.runAt t (opHeartbeatFrameReceive frame)

/-- No referee frame for H consecutive rounds (R404). -/
def opRefereeLost (s : State) : State :=
  let k := s.dpxRound
  let lost : Bool := match s.dpx.refRound with | some r => decide (r + s.hRounds ≤ k) | none => true
  if s.pairMember ∧ s.rdB DPX_STAT DPX_STAT_REF_OK ∧ lost then
    (s.wrB DPX_STAT DPX_STAT_REF_OK false).post 0x0B08 (p4 (round32 k))
  else s

def execRefereeLost (t : Nat) (s : State) : Host.Outcome State Fault Refusal := s.runAt t opRefereeLost

/-! ### The copy on the standby (R413, R414, R422) -/

/-- The device address of the half of the staging area in use. -/
def State.stageHalf (s : State) : Nat :=
  s.rd DPX_STAGE_LO DPX_STAGE_LO_BASE * 2 ^ 20 + 2 ^ 32 * s.rd DPX_STAGE_HI DPX_STAGE_HI_BASE + 2 ^ 24 * s.dpx.rxHalf

/-- The segments of a transfer pass that have arrived are applied (R422). -/
def State.passArrives (s : State) : State :=
  let (segs, n) := segsOf (s.dpx.rx.drop s.dpx.rxDone)
  let s := segs.foldl (fun (s : State) g =>
    if s.dpx.rxVoid || s.pageVoid g then s.setDpx { s.dpx with rxVoid := true }
    else if g.1 = 1 ∨ g.1 = 2 ∨ g.1 = 7 ∨ g.1 = 8 then s else s.takeSeg g) s
  s.setDpx { s.dpx with rxDone := s.dpx.rxDone + n }

/-- A COPY frame's payload joins the stream; an END makes the copy ready. A HEADER starts a new frame (R409). -/
def State.copyArrives (s : State) (p : List Byte) : State :=
  let off := s.dpx.rx.length
  let s := s.setDpx { s.dpx with rx := s.dpx.rx ++ p }
  let pass := match readCopy s.dpx.rx with | some h => h.resync && !h.final | none => false
  let s := if pass then (if s.role = 3 then s.passArrives else s) else s.devWrite (s.stageHalf + off) p
  if streamEnded s.dpx.rx then
    s.setDpx { s.dpx with ready := s.dpx.ready ++ [(s.dpx.rx, s.dpx.rxVoid)], rx := [], rxDone := 0, rxVoid := false,
                          rxHalf := if pass then s.dpx.rxHalf else 1 - s.dpx.rxHalf }
  else s

/-- A Crasen frame (R62): COPY payloads join the stream, acknowledgements wait for COPY_ACK.
DESIGN CHOICE, log entry 49. -/
def opCrasenFrameReceive (f : CrasenRx) (s : State) : State :=
  match s.twinReceive f with
  | (none, s) => s
  | (some (1, p), s) => s.copyArrives p
  | (some (2, p), s) =>
    let a := (leAt p 0 4, leAt p 4 4, leAt p 8 4, leAt p 12 4)
    s.setDpx { s.dpx with acks := s.dpx.acks ++ [a] }
  | (some _, s) => s

def execCrasenFrameReceive (t : Nat) (f : CrasenRx) (s : State) : Host.Outcome State Fault Refusal :=
  s.runAt t (opCrasenFrameReceive f)

/-- The acknowledgement of a copy: status 0 applied, 1 discarded (R409). -/
def State.ackWith (s : State) (h : CopyHead) (bytes status : Nat) : State :=
  s.twinSend 2 [leBytes 4 h.round ++ leBytes 4 h.epoch ++ leBytes 4 bytes ++ leBytes 4 status]
def State.ackCopy (s : State) (h : CopyHead) (bytes : Nat) : State := s.ackWith h bytes 0

/-- The tenants that a take-over starts (R415 step 4). -/
def State.takeOverTenants (s : State) : List Nat :=
  s.replicated.filter (fun t => s.dpx.running.contains t && (s.tenState t == 1 || s.tenState t == 4))

/-- A sequence number raised by SQ_SKIP; it wraps from 2^32 − 1 to 1. -/
def skipNum (n k : Nat) : Nat := if n + k < 2 ^ 32 then n + k else n + k - (2 ^ 32 - 1)

/-- A standby becomes ACTIVE (R415): by a grant with SQ_SKIP, or by a swap without. `eff` is the boundary g.
DESIGN CHOICE, log entry 50. -/
def State.takeOverRole (s : State) (epoch : Nat) (swap : Bool) (eff : Nat) : State :=
  let s := (s.dpxClear.setEpoch epoch).setRole 1 (if swap then 7 else 6)
  let s := s.setDpx { s.dpx with rx := [], rxDone := 0, rxVoid := false, ready := [] }
  let s := (s.setImg true).setGate true
  let s := if swap then s
    else s.copyPubs.foldl (fun (s : State) p =>
      s.setNums p (s.stNum p) (skipNum (s.sqNum p) (s.rd DPX_SKIP DPX_SKIP_SQ_SKIP))) s
  let s := s.setPubEn true
  let ts := s.takeOverTenants
  let s := ts.foldl (fun s t => s.stageEventAt t 2 eff) s
  s.setDpx { s.dpx with takeOver := some (eff, ts) }

/-- The oldest copy that is ready, checked and applied; the machine after it and the acknowledgement it earns
(R413, R414, R421 to R423). A void transfer pass is answered with status 1, from which the active knows that the transfer
restarts (R422).
DESIGN CHOICE, log entry 49. -/
def State.applyReady (s : State) : Option (CopyHead × Nat) × State :=
  match s.dpx.ready with
  | [] => (none, s)
  | (b, void) :: rest =>
    let s := s.setDpx { s.dpx with ready := rest }
    match readCopy b with
    | none => (none, s.setRxOk false)
    | some h =>
      let n := b.length
      if h.resync && !h.final then
        if s.role ≠ 3 then (none, s) else if h.whole ∧ !void then (some (h, n), s) else (none, s.ackWith h n 1)
      else if h.final then
        if s.role ≠ 3 ∨ !h.whole ∨ h.segs.any s.pageVoid then (none, s.setRxOk false)
        else
          let s := h.segs.foldl (fun (s : State) g => s.takeSeg g) s
          let s := s.wrW DPX_LAST_APPLIED (BitVec.ofNat 32 h.round)
          let s := ((s.setEpoch h.epoch).setRxOk true).setImg true
          (some (h, n), s.setRole 2 5)
      else if s.role ≠ 2 then (none, s)
      else if !h.whole then (none, s.setRxOk false)
      else if h.epoch ≠ s.epoch ∨ h.base ≠ (s.rdW DPX_LAST_APPLIED).toNat then
        (none, ((s.setRxOk false).bump cntDPX_EPOCH_DISCARDS 1).post 0x0B0C (p4 h.round ++ p4 h.epoch ++ p4 h.base))
      else
        let s := h.segs.foldl (fun (s : State) g => s.takeSeg g) s
        (some (h, n), (s.wrW DPX_LAST_APPLIED (BitVec.ofNat 32 h.round)).setRxOk true |>.settle)

/-- A swap copy applied: the standby becomes ACTIVE with START staged for the boundary after (R423).
DESIGN CHOICE, log entry 50. -/
def State.swapIn (s : State) (h : CopyHead) : State :=
  let full := ((s.dpxRound : Int) + diff32 h.round s.dpxRound).toNat
  let s := s.takeOverRole (nextEpoch s.epoch) true (full + 2)
  (s.wrW DPX_COPY_ROUND (BitVec.ofNat 32 h.round)).bump cntDPX_SWAPS 1

/-- COPY_APPLY (R413).
DESIGN CHOICE, log entry 49. -/
def opCopyApply (s : State) : State :=
  match s.applyReady with
  | (none, s) => s
  | (some (h, n), s) =>
    let s := s.ackCopy h n
    if h.swap && s.role == 2 then s.swapIn h else s

def execCopyApply (t : Nat) (s : State) : Host.Outcome State Fault Refusal := s.runAt t opCopyApply

/-! ### Grants, answers and swaps at a member (R405, R415, R420, R423) -/

/-- A grant accepted: the standby takes over (R415). -/
def opEvGrant (s : State) : State :=
  match s.dpx.msg with
  | none => s
  | some m =>
    if m.msg ≠ 1 then s
    else
      let s := s.setDpx { s.dpx with msg := none }
      if s.role ≠ 2 ∨ s.fenced then s
      else
        let s := (s.applyReady).2
        let last := (s.rdW DPX_LAST_APPLIED).toNat
        let s := s.takeOverRole m.epoch false s.stageAt
        (s.bump cntDPX_GRANTS 1).post 0x0B06 (p2 m.target ++ p4 m.epoch ++ p4 last)

def execEvGrant (t : Nat) (s : State) : Host.Outcome State Fault Refusal := s.runAt t opEvGrant

/-- What a replicated tenant held is discarded: it is LOADED again, its frames, slots, programs and laws as at load
(R418).
DESIGN CHOICE, log entry 50. -/
def State.reloadTenant (s : State) (t : Nat) : State :=
  if s.tenState t = 0 then s
  else
    let old := s.tenState t
    let s := (s.cutOff t).dropEvents t
    let s := s.setSch (s.sch.items.filter (fun i => i.tenant != t)) s.sch.runs
    let s := (s.wr (TEN_STATE t) TEN_STATE_STATE 1).tenSafe t
    let frames := ((s.mappedPages t).filter (fun v => (s.mapEntry t v).testBit 1)).map
      (fun v => s.mapEntry t v / 65536 % 2 ^ 24)
    let s : State := { s with mem := cerase (fun a => frames.contains (a / 65536)) s.mem }
    let slots := s.slotsOf t
    let inSlot := fun (a : Nat) => slots.any (fun x => OUT_SLOT x 0 ≤ a && decide (a < OUT_SLOT x 0 + 1024))
    let blks := (s.lawsOf t).flatMap s.lawBlocks
    let inLaw := fun (a : Nat) => blks.any (fun b => CLE_BLK_STATE b 0 ≤ a && decide (a < CLE_BLK_STATE b 0 + 32))
    let s : State := { s with regs := cerase (fun a => inSlot a || inLaw a) s.regs }
    let s := (s.progsOf t).foldl (fun (s : State) p => s.coldStart p) s
    s.postTenant 0x0F01 t (p2 t ++ p1 old ++ p1 1 ++ p1 8)

/-- A role answer accepted: the member takes the role (R405, R420).
DESIGN CHOICE, log entry 50. -/
def opRoleAnswer (s : State) : State :=
  match s.dpx.msg with
  | none => s
  | some m =>
    if m.msg ≠ 2 then s
    else
      let s := s.setDpx { s.dpx with msg := none }
      if !s.dpx.asking ∨ s.fenced then s
      else
        let s := s.setDpx { s.dpx with asking := false, askAt := none }
        let role := m.arg / 65536 % 8
        if role = 1 then
          let s := ((s.dpxClear.setEpoch m.epoch).setRole 1 2).setImg false
          let s := (s.setGate true).setPubEn true
          (s.replicated.filter (fun t => s.tenState t == 1 || s.tenState t == 4)).foldl (fun s t => s.stageEvent t 2) s
        else if role = 3 then
          let s := ((s.dpxClear.setGate false).setRxOk false).setRole 3 2
          s.replicated.foldl (fun (s : State) t => s.reloadTenant t) s
        else s


/-- A swap accepted: its boundary is named (R423). FENCE wins (R424). -/
def opEvSwap (s : State) : State :=
  match s.dpx.msg with
  | none => s
  | some m =>
    if m.msg ≠ 3 then s
    else
      let s := s.setDpx { s.dpx with msg := none }
      if s.role = 1 ∨ s.role = 2 then
        let full := ((s.dpxRound : Int) + diff32 m.arg s.dpxRound).toNat
        (s.setDpx { s.dpx with swapAt := some full }).wrB DPX_STAT DPX_STAT_SWAP_PENDING true
      else s

def execEvSwap (t : Nat) (s : State) : Host.Outcome State Fault Refusal := s.runAt t opEvSwap

/-- NEG_WAIT has passed: without an answer a member is SOLO or PENDING (R405, R406); a referee makes a fresh start. SOLO is
for start-up only: a FENCED member with SOLO_OK waits on (R405).
DESIGN CHOICE, log entry 50. -/
def opNegWaitExpiry (s : State) : State :=
  if s.isReferee then s.freshStart
  else match s.dpx.askAt with
    | none => s
    | some a =>
      if !s.pairMember ∨ s.now < a + s.negWait ∨ s.fenced then s
      else if s.rdB DPX_CFG DPX_CFG_SOLO_OK ∧ s.role = 5 then s.setDpx { s.dpx with askAt := none }
      else if s.rdB DPX_CFG DPX_CFG_SOLO_OK then
        let s := s.setDpx { s.dpx with asking := false, askAt := none }
        ((s.setRole 0 3).setImg false).setGate true
      else ((s.setDpx { s.dpx with askAt := none }).setGate false).setRole 6 3


/-! ### The copy on the active (R407, R410 to R412, R421, R423) -/

/-- What follows a copy that was not taken: items are marked again, the round's outputs are released, the cut is counted
and recorded (R412). Causes: 1 budget, 2 deadline, 3 link. -/
def State.cutItems (s : State) (round bytes cause : Nat) (items : List DpxItem) : State :=
  let s := (s.remarkItems items).dropDuplex
  let s := s.bump cntDPX_COPY_CUTS 1
  let s := ((s.wrB DPX_COPY_INFO DPX_COPY_INFO_CUT true).wrB DPX_COPY_INFO DPX_COPY_INFO_NO_ACK true).wr DPX_COPY_INFO
    DPX_COPY_INFO_BYTES bytes
  s.post 0x0B02 (p4 (round32 round) ++ p4 bytes ++ p1 cause)

/-- A swap that was not acknowledged: the old active runs on (R423). -/
def State.swapFailed (s : State) (boundary : Nat) : State :=
  let ts := s.dpx.stopped
  let s := s.setDpx { s.dpx with stopped := [], takeOver := none }
  let s := ts.foldl (fun (s : State) t => s.stageEventAt t 2 (boundary + 1)) s
  ((s.setGate true).setPubEn true).post 0x0B09 (p4 (round32 boundary))

/-- The copy in flight is cut. -/
def State.copyCut (s : State) (cause : Nat) : State :=
  match s.dpx.copy with
  | none => s
  | some c =>
    let s := s.setDpx { s.dpx with copy := none }
    if c.pass then s.setDpx { s.dpx with xfer := none }
    else
      let s := s.cutItems c.round c.bytes cause c.items
      if c.swap then s.swapFailed (c.round + 1) else s

/-- COPY_CUT: the link is not UP, or the deadline has passed (R412). -/
def opCopyCut (s : State) : State :=
  match s.dpx.copy with
  | none => s
  | some c => if !s.twinUp then s.copyCut 3 else if !c.pass ∧ c.deadline ≤ s.dom then s.copyCut 2 else s

def execCopyCut (t : Nat) (s : State) : Host.Outcome State Fault Refusal := s.runAt t opCopyCut

/-- The twin link leaves UP: a copy in flight is cut at once, and DUPLEX clears (R410, R424). -/
def State.twinLost (s : State) : State :=
  let wasUp := s.twinUp
  let s := s.twinFall
  if wasUp then
    let s := (s.copyCut 3).dropDuplex
    s.setDpx { s.dpx with xfer := none, acks := [], rx := [], rxDone := 0, rxVoid := false }
  else s

/-- Block lock lost on a lane (R60). -/
def opTwinDown (lanes : Nat) (s : State) : State :=
  if !s.twinPresent then s else (s.wr PRT_TWIN_STAT PRT_TWIN_STAT_LANE_LOCK (lanes % 16)).twinLost

def execTwinDown (t lanes : Nat) (s : State) : Host.Outcome State Fault Refusal := s.runAt t (opTwinDown lanes)

/-- PRT_TWIN_CFG written (R60): EN set finds block lock on all four lanes, or waits for it; clearing EN takes the link DOWN. -/
def opTwinLinkEnable (v : Word) (s : State) : State :=
  if !s.twinPresent then s
  else
    let s := s.wrW PRT_TWIN_CFG (fieldsOf [PRT_TWIN_CFG_TX_POL, PRT_TWIN_CFG_RX_POL, PRT_TWIN_CFG_EN] v)
    if fget PRT_TWIN_CFG_EN v = 0 then s.twinLost
    else if s.rd PRT_TWIN_STAT PRT_TWIN_STAT_LANE_LOCK = 15 ∧ s.twinState = 0 then s.setTwinState 1 else s

def execTwinLinkEnable (t : Nat) (value : Word) (s : State) : Host.Outcome State Fault Refusal :=
  s.runAt t (opTwinLinkEnable value)

/-- A swap that succeeded at the old active (R423).
DESIGN CHOICE, log entry 50. -/
def State.swapOut (s : State) (c : DpxCopy) : State :=
  let s := s.setDpx { s.dpx with stopped := [] }
  let s := s.putWords (OUT_BIND_IMG 0) (s.regBytes (OUT_BIND_VAL 0) 32)
  let s := ((s.setGate false).setImg true).setEpoch (nextEpoch s.epoch)
  let s := ((s.wrW DPX_LAST_APPLIED (BitVec.ofNat 32 (round32 c.round))).setRxOk true).bump cntDPX_SWAPS 1
  (s.dpxClear).setRole 2 7

/-- COPY_ACK: the oldest acknowledgement received (R410, R412, R421, R423). A void pass restarts the transfer (R422). -/
def opCopyAck (s : State) : State :=
  match s.dpx.acks with
  | [] => s
  | (round, epoch, _, status) :: rest =>
    let s := s.setDpx { s.dpx with acks := rest }
    match s.dpx.copy with
    | none => s
    | some c =>
      if s.role ≠ 1 ∨ round ≠ round32 c.round ∨ epoch ≠ s.epoch then s
      else if status ≠ 0 then (if c.pass then s.setDpx { s.dpx with copy := none, xfer := none } else s)
      else
        let s := s.setDpx { s.dpx with copy := none }
        if c.pass then s
        else
          let s := (s.clearCap.bump cntDPX_COPIES 1).wrW DPX_COPY_ROUND (BitVec.ofNat 32 round)
          let s := s.wrW DPX_COPY_INFO (fset DPX_COPY_INFO_BYTES 0 c.bytes)
          if c.swap then s.releaseOutputs.swapOut c
          else
            let s := s.wrB DPX_STAT DPX_STAT_DUPLEX s.twinUp
            let s := if s.out.holding then s.releaseOutputs else s
            if c.final then
              (s.setDpx { s.dpx with xfer := none }).post 0x0B0A (p1 3 ++ p4 (s.rd DPX_RESYNC_STAT DPX_RESYNC_STAT_PASS)
                ++ p4 (s.rd DPX_RESYNC_STAT DPX_RESYNC_STAT_MARKED))
            else s

def execCopyAck (t : Nat) (s : State) : Host.Outcome State Fault Refusal := s.runAt t opCopyAck

/-- The deadline of a copy that starts at boundary `k` (R411). -/
def State.copyDeadline (s : State) (k : Nat) : Nat := s.dpxT k + s.roundNs - 5000

/-- A copy of the marked items and `pages` starts at boundary `k` (R407, R412); the sizes are tested against B. -/
def State.startCopy (s : State) (k : Nat) (swap final : Bool) (extra : List DpxItem) : State :=
  let items := (s.markedItems ++ s.capLines ++ extra).eraseDups
  let flags := b2n swap + 2 * b2n final + 4 * b2n final
  let segs := s.copySegs (round32 (k - 1)) flags items
  let bytes := segsBytes segs + 24
  let s := s.noteSeen items
  if !swap ∧ s.budget < bytes then
    let s := s.sendCopy (fitSegs (s.budget - 24) segs) false
    s.cutItems (k - 1) bytes 1 items
  else
    let c : DpxCopy := ⟨k - 1, bytes, items, swap, final, false, s.copyDeadline k⟩
    (s.setDpx { s.dpx with copy := some c }).sendCopy segs true

/-- The pages of the replicated tenants by tenant · 16384 + page, but for those that lie wholly in a replicated region.
DESIGN CHOICE, log entry 43. -/
def State.copyPages (s : State) (p : Nat → Nat → Bool) : List Nat :=
  s.replicated.flatMap (fun t =>
    let first := s.rd (TEN_REPL t) TEN_REPL_START
    let n := if s.rdB (TEN_REPL t) TEN_REPL_EN then s.rd (TEN_REPL t) TEN_REPL_LINES + 1 else 0
    ((s.mappedPages t).filter (fun v => s.pageWritable t v && p t v
      && !(decide (first ≤ v * 256) && decide (v * 256 + 256 ≤ first + n)))).map (· + 16384 * t))

def pageItem (k : Nat) : DpxItem := (9, k / 16384 + k % 16384 * 65536)

/-- A transfer pass of items and pages (R421). -/
def State.startPass (s : State) (k n : Nat) (items : List DpxItem) (pages : List Nat) : State :=
  let all := items ++ pages.map pageItem
  let segs := s.copySegs (round32 (k - 1)) 4 all
  let s := (s.noteSeen items).setDpx { s.dpx with xfer := some { pass := n, pages := pages } }
  let c : DpxCopy := ⟨k - 1, segsBytes segs + 24, all, false, false, true, 0⟩
  let s := (s.setDpx { s.dpx with copy := some c }).sendCopy segs true
  let s := (s.wr DPX_RESYNC_STAT DPX_RESYNC_STAT_PASS n).wr DPX_RESYNC_STAT DPX_RESYNC_STAT_MARKED (satNat 65535 pages.length)
  s.post 0x0B0A (p1 1 ++ p4 n ++ p4 pages.length)

/-- Pass 1: the page logs of the replicated tenants on, every page, item and region line (R421 step 1). -/
def State.firstPass (s : State) (k : Nat) : State :=
  let s := s.replicated.foldl (fun (s : State) t =>
    let s : State := { s with ten := { s.ten with plog := cerase (fun j => j / 16384 == t) s.ten.plog } }
    s.wrB (TEN_CFG t) TEN_CFG_PLOG_EN true) s
  let lines := s.regionLines.map (fun j => ((7, lineIndex j) : DpxItem))
  (s.bump cntDPX_RESYNCS 1).startPass k 1 (s.copyItems ++ lines) (s.copyPages (fun _ _ => true))

/-- A further pass, or the decision for the final copy (R421 steps 2 to 4). -/
def State.nextPass (s : State) (k : Nat) (x : DpxXfer) : State :=
  let pages := s.copyPages (fun t v => cget (fun _ => false) s.ten.plog (t * 16384 + v))
  let s := s.replicated.foldl (fun (s : State) t => s.plogSnap t) s
  let items := s.markedItems ++ x.pend
  let bytes := 200 + pages.length * 65544 + (items.map (fun i => 8 + (s.itemData i).length)).sum
  let s := s.wr DPX_RESYNC_STAT DPX_RESYNC_STAT_MARKED (satNat 65535 pages.length)
  if pages.length ≤ s.rd DPX_RESYNC DPX_RESYNC_STOP_PAGES ∧ bytes ≤ s.budget then
    (s.setDpx { s.dpx with xfer := some { x with pages := pages, final := true } }).post 0x0B0A
      (p1 2 ++ p4 x.pass ++ p4 pages.length)
  else if max 1 (s.rd DPX_RESYNC DPX_RESYNC_MAX_PASSES) ≤ x.pass then s.firstPass k
  else s.startPass k (x.pass + 1) items pages

/-- The transfer at boundary `k`: the lines of the capturing bank join the pending set, then the next pass or the final copy
(R421). -/
def State.xferStep (s : State) (k : Nat) : State :=
  match s.dpx.xfer with
  | none => s.firstPass k
  | some x =>
    let x := { x with pend := (x.pend ++ s.capLines).eraseDups }
    let s := (s.setDpx { s.dpx with xfer := some x }).clearCap
    if s.dpx.copy.isSome then s
    else if x.final then (s.markCap x.pend).startCopy k false true (x.pages.map pageItem)
    else s.nextPass k x

/-- The swap at its boundary on the active (R423). -/
def State.swapStep (s : State) (k : Nat) : State :=
  let run := s.replicated.filter (fun t => s.tenState t == 2)
  let s := s.startCopy k true false []
  let s := (s.holdOutputs).setPubEn false
  let s := run.foldl (fun (s : State) t => s.dpxStop t) s
  let s := s.setDpx { s.dpx with stopped := run, swapAt := none }
  s.wrB DPX_STAT DPX_STAT_SWAP_PENDING false

/-- The start of boundary `k`: a copy still in flight is past its deadline, and the outputs of an ACTIVE duplex member are
held (R410, R412). IMG_MODE ends at T(g + 1) (R415). -/
def State.dpxBegin (s : State) (k : Nat) : State :=
  let s := match s.dpx.copy with
    | some c => if c.pass then s else s.copyCut 2
    | none => s
  let s := match s.dpx.takeOver with
    | some (g, _) => if g < k then (s.setDpx { s.dpx with takeOver := none }).setImg false else s
    | none => s
  if s.role = 1 ∧ s.rdB DPX_STAT DPX_STAT_DUPLEX then s.holdOutputs else s

/-- The copy at step 6 of boundary `k` (R407), the swap, and the referee's side of a swap.
DESIGN CHOICE, log entry 49. -/
def State.dpxStep6 (s : State) (k : Nat) : State :=
  let s := if s.role = 1 then s.swapLines else s
  if s.isReferee then
    if s.dpx.swapAt = some k then
      let s := s.dropSwap
      (s.setPairEpoch (nextEpoch s.pairEpoch)).setRefActive (if s.refActive = 0 then 0 else 3 - s.refActive)
    else s
  else if s.role ≠ 1 then
    (match s.dpx.swapAt with | some b => if b < k then s.dropSwap else s | none => s)
  else if !s.twinUp then s.dropDuplex
  else
    let peer := (s.beat 2).elim 0 (·.role)
    if s.dpx.swapAt = some k ∧ peer = 2 then s.swapStep k
    else if peer = 2 ∧ s.dpx.copy.isNone then s.startCopy k false false []
    else if peer = 3 then s.dropDuplex.xferStep k
    else s.dropDuplex

/-- IMG_MODE clears once the round-g work of every tenant the take-over started is complete (R415). -/
def opImgModeClear (s : State) : State :=
  match s.dpx.takeOver with
  | none => s
  | some (g, ts) =>
    let begun := match s.tim.lastRound with | some l => decide (g ≤ l) | none => !s.gridOn
    let old := fun (i : SchItem) => ts.contains i.tenant && decide (i.round ≤ g)
    if begun && !(s.sch.items.any old) && !(s.sch.runs.any (fun r => old r.item)) then
      (s.setDpx { s.dpx with takeOver := none }).setImg false
    else s

def execImgModeClear (t : Nat) (s : State) : Host.Outcome State Fault Refusal := s.runAt t opImgModeClear

/-! ### Take-back (R423) -/

/-- Whether the health word leaves the module Vigil-healthy (R427). -/
def State.vigilHealthy (s : State) : Bool :=
  (s.rdW DPX_HEALTH).toNat &&& s.rd DPX_VIGIL_MASK DPX_VIGIL_MASK_HEALTHY == 0

/-- The hold-off counts rounds of a preferred, eligible and healthy standby. -/
def State.revertRound (s : State) : State :=
  let ok := s.role == 2 && s.rdB DPX_CFG DPX_CFG_PREFERRED && s.rdB DPX_STAT DPX_STAT_ELIGIBLE && s.vigilHealthy
  s.setDpx { s.dpx with revertRounds := if ok then s.dpx.revertRounds + 1 else 0 }

/-- The hold-off has passed: REVERT_REQ is sent from the next heartbeat on. Nothing is requested without a referee. -/
def opRevertRequest (s : State) : State :=
  let n := s.rd DPX_REVERT DPX_REVERT_ROUNDS
  if s.role = 2 ∧ s.rdB DPX_CFG DPX_CFG_PREFERRED ∧ n ≠ 0 ∧ n ≤ s.dpx.revertRounds ∧ s.rdB DPX_STAT DPX_STAT_REF_OK then
    s.wrB DPX_STAT DPX_STAT_REVERT_PENDING true
  else s

def execRevertRequest (t : Nat) (s : State) : Host.Outcome State Fault Refusal := s.runAt t opRevertRequest

/-! ### DPX_CMD (R428, R430) -/

/-- A DPX_CMD write: ignored while BUSY; RESULT takes the outcome. -/
def State.dpxCmd (s : State) (body : State → Nat × State) : State :=
  if s.rdB DPX_CMD DPX_CMD_BUSY then s
  else
    let (r, s) := body s
    s.wr DPX_CMD DPX_CMD_RESULT r

/-- REQUEST_ROLE: heartbeats carry ROLE_REQ until the answer (R420). -/
def State.requestRole (s : State) : Nat × State :=
  if s.pairMember ∧ (s.role = 0 ∨ s.role = 6 ∨ (s.role = 5 ∧ !s.fenced)) then
    (0, s.setDpx { s.dpx with asking := true, askAt := some s.now })
  else (1, s)

def opRequestRole (s : State) : State := s.dpxCmd State.requestRole
def execRequestRole (t : Nat) (s : State) : Host.Outcome State Fault Refusal := s.runAt t opRequestRole

/-- REVERT_NOW: take-back without the hold-off (R423, R430). -/
def State.revertNow (s : State) : Nat × State :=
  if s.role ≠ 2 ∨ !s.rdB DPX_CFG DPX_CFG_PREFERRED then (1, s)
  else if !s.rdB DPX_STAT DPX_STAT_ELIGIBLE then (2, s)
  else (0, s.wrB DPX_STAT DPX_STAT_REVERT_PENDING true)

def opRevertNow (s : State) : State := s.dpxCmd State.revertNow
def execRevertNow (t : Nat) (s : State) : Host.Outcome State Fault Refusal := s.runAt t opRevertNow

/-- UNFENCE of a side: its latch clears and its FENCE_OUT is released (R403). -/
def State.unfence (s : State) (side : Nat) : Nat × State :=
  if s.isReferee || s.rdB DPX_REF_STAT (fenceFld side) then (0, s.wrB DPX_REF_STAT (fenceFld side) false) else (1, s)

def opEvUnfence (side : Nat) (s : State) : State :=
  (s.wr DPX_CMD DPX_CMD_SIDE side).dpxCmd (fun s => s.unfence (side % 2))
def execEvUnfence (t side : Nat) (s : State) : Host.Outcome State Fault Refusal := s.runAt t (opEvUnfence side)

/-- DECLARE on a referee with an active (R402). -/
def State.declareNow (s : State) : Nat × State :=
  if s.isReferee ∧ s.refActive ≠ 0 then (0, s.declare 3) else (1, s)

def opEvDeclare (s : State) : State := s.dpxCmd State.declareNow
def execEvDeclare (t : Nat) (s : State) : Host.Outcome State Fault Refusal := s.runAt t opEvDeclare

/-- FORCE_GRANT on a referee: a member that is not eligible is granted; a SYNCING one is EPOCH_STALE (R430).
DESIGN CHOICE, log entry 50. -/
def State.forceGrant (s : State) (side : Nat) : Nat × State :=
  if !s.isReferee then (1, s)
  else match s.beat side with
    | none => (2, s)
    | some b =>
      if b.role = 3 then (3, s)
      else if b.role ≠ 2 then (2, s)
      else (0, (s.setRefActive (side + 1)).refSend 1 (s.sideModule side + 65536))

def opForceGrant (side : Nat) (s : State) : State :=
  (s.wr DPX_CMD DPX_CMD_SIDE side).dpxCmd (fun s => s.forceGrant (side % 2))
def execForceGrant (t side : Nat) (s : State) : Host.Outcome State Fault Refusal := s.runAt t (opForceGrant side)

/-! ### Registers (R396, R405, R428) -/

/-- EN set: SOLO or REFEREE without a pair; a member waits for its role, FENCED where FENCE is in force. -/
def State.dpxEnable (s : State) : State :=
  let s := s.wrB DPX_CTRL DPX_CTRL_EN true
  if s.rdB DPX_CFG DPX_CFG_PAIR_EN then (if s.fenced then s.becomeFenced 4 else s)
  else
    let s := s.setDpx { s.dpx with adopting := true, askAt := none }
    (s.setRole (if s.rdB DPX_CFG DPX_CFG_REFEREE then 4 else 0) 1).setGate true

/-- DPX_CTRL written. -/
def State.dpxCtrlWrite (s : State) (v : Word) : State :=
  let was := s.dpxOn
  let s := s.wrW DPX_CTRL (fieldsOf [DPX_CTRL_HB_EN, DPX_CTRL_EN] v)
  if fget DPX_CTRL_EN v ≠ 0 ∧ !was then s.dpxEnable else s

/-- DPX_CFG written: only while EN is 0, and without a twin link no pair (R396). -/
def State.dpxCfgWrite (s : State) (v : Word) : State :=
  if s.dpxOn ∨ (fget DPX_CFG_PAIR_EN v ≠ 0 ∧ !s.twinPresent) then s.wrB DPX_STAT DPX_STAT_CFG_REJ true
  else s.wrW DPX_CFG (fieldsOf [DPX_CFG_NEG_WAIT, DPX_CFG_H, DPX_CFG_PAIR, DPX_CFG_SOLO_OK, DPX_CFG_PREFERRED, DPX_CFG_SIDE,
    DPX_CFG_REFEREE, DPX_CFG_PAIR_EN] v)

end Sys2Proof.Machine
end

