-- ==== Sys2Proof/Machine/Vigil.lean ====
section
/-! DEFINITION. Vigil (R101, R425 to R427, R450): the tests, their periods and the health word. -/

namespace Sys2Proof.Machine

def State.setVigil (s : State) (v : Vigil) : State := s.setDpx { s.dpx with vigil := v }

/-- A parked core has run the ROM vectors and compared the signature (R425). A core in service runs none. -/
def opVigilCoreVector (core : Nat) (pass : Bool) (s : State) : State :=
  if !s.corePresent core || s.sch.runs.any (fun r => r.core == core) then s
  else
    let v := s.dpx.vigil
    let map := if pass then v.coreMap else nsetBit v.coreMap (core / 8) true
    s.setVigil { v with cores := nsetBit v.cores core true, coreMap := map }

def execVigilCoreVector (t core : Nat) (pass : Bool) (s : State) : Host.Outcome State Fault Refusal :=
  s.runAt t (opVigilCoreVector core pass)

/-- The key register's CRC is compared (R450): on a mismatch the register is zeroised, KEY_FAIL set, 0x0C06 written with
cause 1; a match ends KEY_FAIL.
DESIGN CHOICE, log entry 22. -/
def opKeyIntegrityCheck (ok : Bool) (s : State) : State :=
  let s := s.setDpx { s.dpx with keyFail := !ok }
  if ok then s
  else
    let s := s.wrB KEY_STAT KEY_STAT_INTEGRITY_FAIL true
    ((s.drainUsers (fun _ => true)).endSteward.zeroise 2).post 0x0C06 (p1 1)

def execKeyIntegrityCheck (t : Nat) (ok : Bool) (s : State) : Host.Outcome State Fault Refusal :=
  s.runAt t (opKeyIntegrityCheck ok)

/-- The tags that wait at an input. -/
def State.tagsAt (s : State) (i : Nat) : Nat := (s.fab.inputs.filter (fun t => t.src == i)).length

/-- Whether the slot of intermediate `j` for output `o` sends nothing on day `d`. -/
def State.slotIdle (s : State) (d j o : Nat) : Bool :=
  match s.slotAt j o with
  | none => true
  | some t => decide (d ≤ t.entry)

/-- Stage-1 and stage-2 connections that carried no tag on day `d`, from the fabric before and after it (R101); only those
of present ports count. -/
def idleLinks (before after : State) (d : Nat) : List Nat × List Nat :=
  let ports := (List.range 32).filter (fun p => before.fportPresent p)
  let one := (ports.filter (fun i => before.tagsAt i == after.tagsAt i)).map (fun i => i * 32 + (i + d) % 32)
  let two := (List.range 32).filterMap (fun j =>
    let o := (j + d) % 32
    if before.fportPresent o && before.slotIdle d j o then some (j * 32 + o) else none)
  (one, two)

/-- A calendar day with Vigil's loopback tags on the connections that carry no other tag (R100, R101, R425); `loopBad` of
them came back wrong. -/
def opCalendarDay (bad : List (Nat × Nat × Nat)) (loopBad : Nat) (s : State) : State :=
  let next := calendarDay bad s
  if s.rdB FAB_CTRL FAB_CTRL_EN && s.rdB FAB_CTRL FAB_CTRL_VIGIL_EN then
    let (one, two) := idleLinks (s.dropTags bad) next s.fab.days
    let v := next.dpx.vigil
    next.setVigil { v with loop1 := one.foldl (fun m i => nsetBit m i true) v.loop1,
                           loop2 := two.foldl (fun m i => nsetBit m i true) v.loop2,
                           loopBad := v.loopBad || (loopBad != 0 && !(one.isEmpty && two.isEmpty)) }
  else next

def execCalendarDay (t : Nat) (bad : List (Nat × Nat × Nat)) (loopBad : Nat) (s : State) :
    Host.Outcome State Fault Refusal := s.runAt t (opCalendarDay bad loopBad)

/-! ### The health word (R425 to R427) -/

/-- Whether every connection of present ports was covered in a period (R425).
DESIGN CHOICE, log entry 22. -/
def State.loopCovered (s : State) (v : Vigil) : Bool :=
  let ports := (List.range 32).filter (fun p => s.fportPresent p)
  ports.all (fun p => (List.range 32).all (fun j => v.loop1.testBit (p * 32 + j) && v.loop2.testBit (j * 32 + p)))

/-- What a period's findings are in the health word: bits 0 to 5 and CORE_MAP (R426).
DESIGN CHOICE, log entry 22. -/
def State.vigilWord (s : State) (v : Vigil) : Nat :=
  let covered := (List.range 64).all (fun c => !s.corePresent c || v.cores.testBit c)
  b2n v.scrubUe + 2 * b2n (decide (s.rd DPX_VIGIL_CFG DPX_VIGIL_CFG_CE_LIMIT < v.ce))
    + 4 * b2n (v.coreMap != 0) + 8 * b2n (!covered)
    + 16 * b2n v.loopBad + 32 * b2n (!s.loopCovered v) + 65536 * v.coreMap

/-- A round passes for the period and for the 1,000 rounds of the twin-link test (R425). -/
def State.vigilRound (s : State) : State :=
  let d := s.dpx
  let s := if max 1 (s.rd DPX_VIGIL_PERIOD DPX_VIGIL_PERIOD_ROUNDS) ≤ d.vigilRounds + 1 then
      s.setDpx { d with vigilLast := s.vigilWord d.vigil, vigil := {}, vigilRounds := 0 }
    else s.setDpx { d with vigilRounds := d.vigilRounds + 1 }
  let d := s.dpx
  if 1000 ≤ d.twinRounds + 1 then
    s.setDpx { d with twinBad := decide (s.rd DPX_VIGIL_CFG DPX_VIGIL_CFG_TWIN_LIMIT < d.twinErr), twinErr := 0, twinRounds := 0 }
  else s.setDpx { d with twinRounds := d.twinRounds + 1 }

/-- The health word of the round (R426, R427).
DESIGN CHOICE, log entry 22. -/
def State.healthWord (s : State) : Nat :=
  let d := s.dpx
  let role := s.role
  let nine := if role = 2 then s.rdB DPX_STAT DPX_STAT_ELIGIBLE else (role == 1 && s.rdB DPX_STAT DPX_STAT_DUPLEX)
  let w := d.vigilLast + 64 * b2n d.keyFail + 128 * b2n d.twinBad + 256 * b2n (!s.twinUp) + 512 * b2n nine + 2 ^ 24 * role
  let fatal := w &&& s.rd DPX_VIGIL_MASK DPX_VIGIL_MASK_FATAL != 0
  w + 1024 * b2n fatal

/-- The health word written at step 6 of a boundary; a change of a masked bit writes event 0x0B0D (R427).
DESIGN CHOICE, log entry 22. -/
def State.healthStep (s : State) : State :=
  let s := s.vigilRound
  let old := (s.rdW DPX_HEALTH).toNat
  let new := s.healthWord
  let mask := s.rd DPX_VIGIL_MASK DPX_VIGIL_MASK_HEALTHY ||| s.rd DPX_VIGIL_MASK DPX_VIGIL_MASK_FATAL
  let s := s.wrW DPX_HEALTH (BitVec.ofNat 32 new)
  if old &&& mask = new &&& mask then s else s.post 0x0B0D (p4 old ++ p4 new)

end Sys2Proof.Machine
end

