-- ==== Sys2Proof/Machine/Boundary.lean ====
section
/-! DEFINITION. The round boundary (R41 to R50, R559): its seven steps, the start and the stop of the grid, and staged
settings while the grid is off. -/

namespace Sys2Proof.Machine

/-! ### The admission delay at a boundary (R45) -/

/-- D moved by 1 µs toward the target. -/
def slewD (d target : Nat) : Nat := if d < target then d + 1 else if target < d then d - 1 else d

/-- Boundary `k` is performed: TIM_ROUND, CURRENT = D(k), D(k + 1). Reports whether a staged TARGET came into force. -/
def State.timStep (s : State) (k : Nat) : Bool × State :=
  let d := s.tim.nextD
  let (took, target, left) := match s.tim.targetStaged with
    | some x => if x.due k then (true, x.val, none) else (false, s.tim.target, some x)
    | none => (false, s.tim.target, none)
  let s : State := { s with tim := { s.tim with
    lastRound := some k, nextRound := k + 1, nextD := slewD d target, target := target, targetStaged := left } }
  let s := s.wrW TIM_ROUND (BitVec.ofNat 32 (round32 k))
  (took, ((s.wr TIM_ADMIT TIM_ADMIT_CURRENT d).slewing).acqFollow)

/-! ### Rounds of the scheduler (R204, R206, R250) -/

/-- Budgets of round `k`: what the last round used is kept, and every tenant starts at zero (R206, R239, R252).
DESIGN CHOICE, log entry 21. -/
def State.newBudgets (s : State) : State :=
  let ts := s.regs.filterMap (fun c => elemOf (SCH_TEN_USED 0) 512 0x80 c.1)
    ++ s.regs.filterMap (fun c => elemOf (SCH_TEN_USED_LAST 0) 512 0x80 c.1) ++ s.liveTenants
  ts.eraseDups.foldl (fun (s : State) t =>
    ((s.wrW (SCH_TEN_USED_LAST t) (s.rdW (SCH_TEN_USED t))).wrW (SCH_TEN_USED t) 0).noteBudget t) s

/-- Step 6 of R48: sample-row-ready and round-tick flags of the tenants that R204 names. -/
def State.roundFlags (s : State) (k : Nat) : State :=
  s.liveTenants.foldl (fun (s : State) t =>
    let stops := s.ten.events.any (fun e => e.1 == t && e.2.val == 7 && e.2.due k)
    if !s.tenActive t || stops then s
    else
      let s := if s.rdB (ING_ROW_CFG t) ING_ROW_CFG_EN then
          s.setFlags (s.rd (ING_ROW_CFG t) ING_ROW_CFG_TASK) (2 ^ s.rd (ING_ROW_CFG t) ING_ROW_CFG_BIT)
        else s
      s.notice (SCH_TEN_TICK t)) s

/-- The tenants RUNNING at T(k) are to be checked for overrun after T(k + 1) (R250). -/
def State.newChecks (s : State) (k : Nat) (running : List Nat) : State :=
  let n := s.nextT
  let add := running.map (fun t => ({ tenant := t, round := k, next := n } : SchCheck))
  { s with sch := { s.sch with checks := s.sch.checks ++ add } }

/-! ### The boundary (R48) -/

/-- What follows the last step of anything that changed outputs, or struck the strobe. -/
def State.afterChange (s0 s : State) : State := (State.unmute s0 s.settle).recSync

/-- Boundary `k`: the seven steps in their order.
DESIGN CHOICE, log entry 21. -/
def State.boundary (s0 : State) (k : Nat) : State :=
  let s := (s0.dpxBegin k).chargeAll
  let (d, s) := s.timStep k
  let flip := s.ing.flip.any (·.due k)
  let bank := s.ingActive
  let (changed, s) := s.ingStep1 k
  let s := s.ingStep2 k bank changed
  let (three, s) := s.startStep k
  let s := s.newBudgets
  let running := s.liveTenants.filter (fun t => s.tenState t == 2)
  let (four, s) := s.cleStep4 k
  let (scans, s) := s.lgeStep5 k false
  let s := (s.dpxStep6 k).roundFlags k
  let s := ((s.healthStep.hbWire).hbRound k).revertRound
  let (seven, s) := s.stopMigrate k
  let s := (s.lgeQueue k scans).newChecks k running
  let s := if d || flip || three || four || !scans.isEmpty || seven then s.wrW TIM_APPLIED (BitVec.ofNat 32 (round32 k)) else s
  State.afterChange s0 s

/-- ROUND_BOUNDARY: the next boundary, once its dispatch instant has come.
DESIGN CHOICE, log entry 21. -/
def opRoundBoundary (s : State) : State :=
  if s.gridOn ∧ s.nextT ≤ s.dom then s.boundary s.tim.nextRound else s

def execRoundBoundary (t : Nat) (s : State) : Host.Outcome State Fault Refusal := s.runAt t opRoundBoundary

/-! ### Staged settings while the grid is off (R559) -/

/-- Every staged setting may take effect. -/
def State.ripen (s : State) : State :=
  { s with
    tim := { s.tim with targetStaged := s.tim.targetStaged.map (fun (x : Staged Nat) => { x with eff := 0 }) },
    ten := { s.ten with
      shares := s.ten.shares.map (fun (e : Nat × Staged Nat) => (e.1, { e.2 with eff := 0 })),
      limits := s.ten.limits.map (fun (e : Nat × Staged Word) => (e.1, { e.2 with eff := 0 })),
      events := s.ten.events.map (fun (e : Nat × Staged Nat) => (e.1, { e.2 with eff := 0 })) },
    ing := { s.ing with flip := s.ing.flip.map (fun (x : Staged Nat) => { x with eff := 0 }) },
    cle := { s.cle with stages := s.cle.stages.map (fun (x : CleStage) => { x with eff := 0 }) } }

/-- The staged settings applied in the order of the steps of R48.
DESIGN CHOICE, log entry 21. -/
def State.applyStaged (s0 : State) : State :=
  let k := roundAt s0.fs s0.roundLen s0.dom
  let s := s0.ripen
  let d := s.tim.targetStaged.isSome
  let s := s.takeTarget.acqFollow
  let flip := s.ing.flip.isSome
  let (changed, s) := s.ingStep1 k
  let s := { s with ing := { s.ing with rowFlip := s.ing.rowFlip ++ changed } }
  let s := if flip then s.resetChanged else s
  let (three, s) := s.startStep k
  let (four, s) := s.cleStep4 k
  let (scans, s) := s.lgeStep5 k true
  let (seven, s) := s.stopMigrate k
  let s := if d || flip || three || four || !scans.isEmpty || seven then s.wrW TIM_APPLIED (BitVec.ofNat 32 (round32 k)) else s
  State.afterChange s0 s

/-- STAGED_SETTING_APPLY: settings staged while the grid is off take effect within 1 µs of their write. -/
def opStagedSettingApply (s : State) : State := if s.gridOn then s else s.applyStaged

def execStagedSettingApply (t : Nat) (s : State) : Host.Outcome State Fault Refusal :=
  s.runAt t opStagedSettingApply

/-! ### The grid started and stopped (R46, R559) -/

/-- GRID_EN set: the first boundary is that of the lowest round with T(k) at least 1 µs ahead (R46); MCLK starts (R170). A
write that finds GRID_EN set leaves the grid as it is. -/
def opGridEnable (src ptpEn : Bool) (s : State) : State :=
  if s.gridOn then s.setTimCtrl src ptpEn true
  else
    let d := s.rd TIM_ADMIT TIM_ADMIT_CURRENT
    let k := firstRoundFrom s.fs s.roundLen d (s.dom + 1000)
    let s := s.setTimCtrl src ptpEn true
    let s : State := { s with tim := { s.tim with nextRound := k, nextD := d } }
    s.mclkFollow

def execGridEnable (t : Nat) (src ptpEn : Bool) (s : State) : Host.Outcome State Fault Refusal :=
  s.runAt t (opGridEnable src ptpEn)

/-- GRID_EN cleared: no boundary begins; recorders end (R355), MCLK stops (R170), budgets no longer bind and no overrun is
checked (R237, R250), and what is staged takes effect (R559).
DESIGN CHOICE, log entry 21. -/
def opGridDisable (src ptpEn : Bool) (s : State) : State :=
  if !s.gridOn then s.setTimCtrl src ptpEn false
  else
    let s := s.chargeAll.setTimCtrl src ptpEn false
    let s : State := { s with sch := { s.sch with checks := [] } }
    let s := s.liveTenants.foldl (fun (s : State) t => s.noteBudget t) s
    (s.mclkFollow.recStopAll).applyStaged

def execGridDisable (t : Nat) (src ptpEn : Bool) (s : State) : Host.Outcome State Fault Refusal :=
  s.runAt t (opGridDisable src ptpEn)

end Sys2Proof.Machine
end

