-- ==== Sys2Proof/Machine/Control.lean ====
section
/-! DEFINITION. Accesses to control space (R3, R12, R13, R27, R91, R553, R555): the write of a register by its description, the
refusal of a write, and the writes of TIM, PRT, FAB, ING and ACQ. -/

namespace Sys2Proof.Machine

/-! ### The write of a register by its description (R13) -/

/-- The CFG_REJ bit of the block that holds an address (R13); in PRT that of the port the register belongs to.
DESIGN CHOICE, log entry 14. -/
def State.cfgRej (s : State) (a : Nat) : State :=
  match a / 2 ^ 24 with
  | 0x01 =>
    if 0x01100000 ≤ a ∧ a < 0x0111D000 then s.prtRej ((a - 0x01100000) / 0x1000)
    else if 0x01300000 ≤ a ∧ a < 0x01300C00 then s.prtRej (2 * ((a - 0x01300000) / 0x100))
    else s.prtRej 0
  | 0x02 => s.wrB FAB_STAT FAB_STAT_CFG_REJ true
  | 0x03 => s.wrB ING_STAT ING_STAT_CFG_REJ true
  | 0x04 => s.wrB ACQ_STAT ACQ_STAT_CFG_REJ true
  | 0x05 => s.wrB SCH_STAT SCH_STAT_CFG_REJ true
  | 0x06 => s.wrB CLE_STAT CLE_STAT_CFG_REJ true
  | 0x07 => s.wrB LGE_STAT LGE_STAT_CFG_REJ true
  | 0x08 => s.wrB OUT_STAT OUT_STAT_CFG_REJ true
  | 0x09 => s.wrB REC_STAT REC_STAT_CFG_REJ true
  | 0x0A => s.wrB ALM_STAT ALM_STAT_CFG_REJ true
  | 0x0B => s.wrB DPX_STAT DPX_STAT_CFG_REJ true
  | 0x0C => s.wrB KEY_STAT KEY_STAT_CFG_REJ true
  | 0x0D => s.wrB MEM_STAT MEM_STAT_CFG_REJ true
  | 0x0E => s.wrB TIM_STAT TIM_STAT_CFG_REJ true
  | 0x0F => s.wrB TEN_STAT TEN_STAT_CFG_REJ true
  | 0x10 => s.wrB SYS_SNAP_STAT SYS_SNAP_STAT_CFG_REJ true
  | 0x11 => s.wrB MBX_STAT MBX_STAT_CFG_REJ true
  | _ => s

/-- Whether a written value keeps a field in its stated range (R13). -/
def fldOk (f : Fld) (v : Word) : Bool :=
  match f.ty with
  | .rw | .wo | .ws => f.min ≤ fget f v && fget f v ≤ f.max
  | _ => true

/-- A field after a write: RW takes the value, W1C clears, WO and WS read 0, RO and RC stay. -/
def fldWrite (v w : Word) (f : Fld) : Word :=
  match f.ty with
  | .rw => fset f w (fget f v)
  | .w1c => fset f w (((BitVec.ofNat 32 (fget f w)) &&& ~~~(BitVec.ofNat 32 (fget f v))).toNat)
  | .wo | .ws => fset f w 0
  | .ro | .rc => w

/-- Whether the element at an address exists (R3, R27). -/
def State.existsAt (s : State) (a : Nat) : Bool :=
  match findReg a with
  | none => false
  | some d => (regHit d a).any (fun e => s.present d.pres e.1)

/-- The element a counter belongs to, for the counters of elements that a variant may lack (R3, R91). -/
def counterOwner (a : Nat) : Option (Presence × Nat) :=
  if !(counterAt (a / 8 * 8)) then none
  else if 0x01100000 ≤ a ∧ a < 0x01200000 then some (.port, (a - 0x01100000) / 0x1000)
  else if 0x01200000 ≤ a ∧ a < 0x01300000 then some (.twin, 0)
  else if a / 2 ^ 24 = 0x02 then some (.fport, (a - 0x02010000) / 0x400)
  else if 0x05010000 ≤ a ∧ a < 0x05020000 then some (.core, (a - 0x05010000) / 0x20)
  else if 0x05020000 ≤ a ∧ a < 0x05030000 then some (.tenant, (a - 0x05020000) / 0x80)
  else if 0x0A030000 ≤ a ∧ a < 0x0A040000 then some (.almch, (a - 0x0A030000) / 0x20)
  else if 0x0F100000 ≤ a ∧ a < 0x0F200000 then some (.tenant, (a - 0x0F100000) / 0x100)
  else none

/-- Whether a block with a control window is present (R2, R11): ACQ and CLE are not in every variant. -/
def State.blockPresent (s : State) (blk : Nat) : Bool :=
  if blk = 0x04 then s.acqPresent else if blk = 0x06 then s.clePresent else decide (1 ≤ blk) && decide (blk ≤ 0x11)

/-- Where an address is that of an absent unit or of an absent element: the element number, 0 where the whole unit is
absent (R3). -/
def State.absentElem (s : State) (a : Nat) : Option Nat :=
  let el := ((findReg a).bind (fun d => (regHit d a).map (fun e => (d.pres, e.1)))).or (counterOwner a)
  if (a / 2 ^ 24 = 0x04 ∨ a / 2 ^ 24 = 0x06) ∧ !s.blockPresent (a / 2 ^ 24) then some ((el.map (·.2)).getD 0 % 256)
  else match el with
    | some (p, i) => if s.present p i then none else some (i % 256)
    | none => none

/-- The same as DETAIL of ABSENT gives it: block number and element (R4, R483). -/
def State.absentUnit (s : State) (a : Nat) : Option Nat := (s.absentElem a).map (fun e => a / 2 ^ 24 % 256 * 256 + e)

/-- A write of a register by its description: nothing at an undefined offset (R27), nothing of an absent element (R3), as a
whole ignored with CFG_REJ for a value out of range (R13). -/
def State.regWrite (s : State) (a : Nat) (v : Word) : State :=
  match findReg a with
  | none => s
  | some d =>
    if !s.existsAt a then s
    else if d.fields.all (fun f => fldOk f v) then s.wrW a (d.fields.foldl (fldWrite v) (s.rdW a))
    else s.cfgRej a

/-- A write that the present state may forbid.
DESIGN CHOICE, log entry 14. -/
def State.regWriteIf (s : State) (ok : Bool) (a : Nat) (v : Word) : State :=
  if !s.existsAt a then s else if ok then s.regWrite a v else s.cfgRej a

/-- The state after a write, where it stands with the value the write gives. -/
def State.wrote (s : State) (a : Nat) (v : Word) : Bool := s.rdW a == v

/-- A word of a record written: refused with CFG_REJ where the whole record, as it would stand after the write, fails its
check (R555). -/
def State.recordWrite (s : State) (a : Nat) (v : Word) (ok : State → Bool) : State :=
  let t := s.regWrite a v
  if !s.existsAt a then s else if ok t then t else s.cfgRej a

/-! ### TIM (R45, R46, R54) -/

/-- DPX_BUDGET follows the grid (R411). -/
def State.showBudget (s : State) : State := s.wrW DPX_BUDGET (BitVec.ofNat 32 s.budget)

def State.timWrite (s : State) (a : Nat) (v : Word) : State :=
  if a = TIM_CTRL then
    let src := fget TIM_CTRL_SRC v == 1
    let ptp := fget TIM_CTRL_PTP_EN v == 1
    if fget TIM_CTRL_GRID_EN v = 1 then opGridEnable src ptp s else opGridDisable src ptp s
  else if a = TIM_GRID then ((s.regWriteIf (!s.gridOn) a v).showBudget).acqFollow
  else if a = TIM_ADMIT then opAdmitTargetWrite (fget TIM_ADMIT_TARGET v) s
  else if a = TIM_SET_LO then { s with tim := { s.tim with setLo := v.toNat } }
  else if a = TIM_SET_HI then opDomainTimeSet v s
  else if a = TIM_PPS then (s.regWrite a v).ppsFollow
  else s.regWrite a v

/-! ### PRT (R57, R77, R84, R93) -/

/-- A ring's owner: the steward owns rings 0 to 15 (R93). -/
def State.ringOwnerWrite (s : State) (r a : Nat) (v : Word) : State :=
  let s := s.regWrite a v
  if r < 16 then s.wr a PRT_RXR_OWNER_STEWARD 1 else s

def State.prtWrite (s : State) (a : Nat) (v : Word) : State :=
  if a = PRT_TWIN_CFG then (if s.twinPresent then opTwinLinkEnable v s else s)
  else match elemOf (PRT_PORT_CFG 0) 29 0x1000 a, elemOf (PRT_LRE_CFG 0) 12 0x100 a with
  | some n, _ => opPortConfigWrite n v s
  | _, some p => opLreConfigWrite p v s
  | none, none =>
    if 0x01400000 ≤ a ∧ a < 0x01408000 then
      let r := (a - 0x01400000) / 0x20
      if a = PRT_RXR_CFG r then opRxRingDisable r v s
      else if a = PRT_RXR_TAIL r then opRxTailWrite r (v.toNat % 65536) s
      else if a = PRT_RXR_OWNER r then s.ringOwnerWrite r a v
      else if a = PRT_RXR_BASE_LO r ∨ a = PRT_RXR_BASE_HI r then s.regWriteIf (!s.rdB (PRT_RXR_CFG r) PRT_RXR_CFG_EN) a v
      else s.regWrite a v
    else if 0x01500000 ≤ a ∧ a < 0x01508000 then
      let r := (a - 0x01500000) / 0x20
      if a = PRT_TXR_CFG r then opTxRingDisable r v s
      else if a = PRT_TXR_TAIL r then opTxTailWrite r (v.toNat % 65536) s
      else if a = PRT_TXR_OWNER r then s.ringOwnerWrite r a v
      else if a = PRT_TXR_BASE_LO r ∨ a = PRT_TXR_BASE_HI r then s.regWriteIf (!s.rdB (PRT_TXR_CFG r) PRT_TXR_CFG_EN) a v
      else s.regWrite a v
    else s.regWrite a v

/-! ### FAB (R110, R118, R127) -/

/-- The limits of present ports and the reserve (R110). -/
def State.cellSum (s : State) : Nat :=
  (((List.range 32).filter (fun p => s.fportPresent p)).map (fun p => s.rd (FAB_ING_LIMIT p) FAB_ING_LIMIT_CELLS)).sum
    + s.rd FAB_RESERVE FAB_RESERVE_CELLS

/-- FAB_CTRL written: the day number starts at EN, the mode follows FORCE_FULL (R118, R127). -/
def State.fabCtrlWrite (s : State) (v : Word) : State :=
  let was := s.rdB FAB_CTRL FAB_CTRL_EN
  let s := s.regWrite FAB_CTRL v
  let s := if s.rdB FAB_CTRL FAB_CTRL_EN && !was then { s with fab := { s.fab with days := 0, dayMark := s.now } } else s
  s.fabRemode

/-- FAB_FDB_CMD written: ignored while BUSY (R127). -/
def State.fdbCmdWrite (s : State) (v : Word) : State :=
  if s.rdB FAB_FDB_CMD FAB_FDB_CMD_BUSY then s
  else
    let s := s.regWrite FAB_FDB_CMD v
    match fget FAB_FDB_CMD_OP v with
    | 1 => opFdbRead (fget FAB_FDB_CMD_INDEX v) s
    | 2 => opFdbWrite s
    | 3 => opFdbDelete s
    | 4 => opFdbFlush (fget FAB_FDB_CMD_PORT v) s
    | 5 => opFdbSearch s
    | _ => s

def State.fabWrite (s : State) (a : Nat) (v : Word) : State :=
  if a = FAB_CTRL then s.fabCtrlWrite v
  else if a = FAB_FDB_CMD then s.fdbCmdWrite v
  else if a = FAB_RESERVE ∨ (elemOf (FAB_ING_LIMIT 0) 32 0x400 a).isSome then
    s.recordWrite a v (fun t => decide (t.cellSum ≤ 196608))
  else match elemOf (FAB_PORT_CFG 0) 32 0x400 a with
    | some p => s.regWrite a (if p < 28 then v else fset FAB_PORT_CFG_LEARN v 0)
    | none =>
      if a = FAB_CAL_STAT then (if fget FAB_CAL_STAT_START v = 1 then s.calStart else s)
      else if a = FAB_FDB_DATA 3 then s.regWrite a ((v &&& 0xFFFF) ||| (s.rdW a &&& 0xFFFF0000))
      else if 0x02010000 ≤ a ∧ a < 0x02018000 ∧ 0x80 ≤ a % 0x400 ∧ a % 0x400 < 0xA0 then
        s.shapeWrite ((a - 0x02010000) / 0x400) ((a % 0x400 - 0x80) / 4) (fun s => s.regWrite a v)
      else s.regWrite a v

/-! ### ING (R137, R140, R143, R168) -/

/-- Advent has ended (R137, R527). -/
def State.adventDone (s : State) : Bool := s.rd SYS_ADVENT SYS_ADVENT_STATE == 1

/-- Whether a stencil slot may not be written: a shipped one after Advent, or one that the active bank names.
DESIGN CHOICE, log entry 28. -/
def State.stencilLocked (s : State) (slot : Nat) : Bool :=
  (decide (slot < 8) && s.adventDone) || (s.handles s.ingActive).any (fun h => (s.stream s.ingActive h).stencil == slot)

/-- Whether entry `i` of bank `b` repeats the key of another valid entry (R140). -/
def State.keyTwice (s : State) (b i : Nat) : Bool :=
  match s.keyEntry b i with
  | none => false
  | some (k, _) =>
    (s.regs.filterMap (fun c => elemOf (0x03400008 + b * 0x400000) 32768 16 c.1)).any (fun j =>
      j != i && (match s.keyEntry b j with | some (k', _) => k' == k | none => false))

/-- Whether a static entry passes the checks of R143, with the range of SUB_COUNT (R142). -/
def State.staticOk (s : State) (b h : Nat) : Bool :=
  let e := s.stream b h
  let raw := byteAt (s.regBytes (staticAddr b h) 64) 2
  e.type == 0 ||
    (decide (raw < 64) &&
     (s.inDram e.base 1 || (match bankOf e.base 1 with | some n => s.portAServes n .ing | none => false)) &&
     (if e.type = 2 then decide (1 ≤ e.channels) && decide (e.channels ≤ 128)
      else decide (1 ≤ e.channels) && decide (e.channels ≤ 32) && decide (1 ≤ e.depthLog) && decide (e.depthLog ≤ 12)) &&
     (e.type == 2 || rateOk s.fs e.rate) &&
     decide (e.subCount ≤ 1024) && decide (e.subFirst + e.subCount ≤ 65536))

/-- The bits that a word at an offset of a bank's arrays keeps: those that R139, R142 and R144 give as zero read 0. -/
def arrayMask (o : Nat) (v : Word) : Word :=
  if o < 0x80000 then (if o % 16 = 8 then v &&& 0xFFFF8FFF else if o % 16 = 12 then v &&& 0x3FFFFFFF else v)
  else if o < 0x200000 then
    if o % 64 = 0 then v &&& 0xFFFF0003
    else if o % 64 = 12 then v &&& 0x8FFF8FFF
    else if o % 64 = 24 then v &&& 0xFFFFFF7F
    else if o % 64 = 28 then v &&& 0xFFFF
    else if 36 ≤ o % 64 then 0 else v
  else if v.toNat.testBit 31 then v &&& 0x8003FFFF else v &&& 0x1FFFF

/-- A write to a bank's arrays (R143): the shadow bank only, and not during a flip or a copy. -/
def State.bankArrayWrite (s : State) (b a : Nat) (v : Word) : State :=
  if b = s.ingActive || s.rdB ING_STAT ING_STAT_FLIP_PENDING || s.rdB ING_STAT ING_STAT_COPY_BUSY then s.cfgRej a
  else
    let o := (a - 0x03400000) % 0x400000
    let v := arrayMask o v
    let s := if o < 0x80000 then s.recordWrite a v (fun t => !t.keyTwice b (o / 16))
      else if 0x100000 ≤ o ∧ o < 0x200000 then s.recordWrite a v (fun t => t.staticOk b ((o - 0x100000) / 64))
      else s.regWrite a v
    s.loadShow

/-- ING_BANK written: one action, or nothing (R168). -/
def State.ingBankWrite (s : State) (v : Word) : State :=
  match v.toNat % 8 with
  | 1 => opIngFlip s
  | 2 => opIngCopy s
  | 4 => opIngCancel s
  | 0 => s
  | _ => s.cfgRej ING_BANK

def State.ingWrite (s : State) (a : Nat) (v : Word) : State :=
  if a = ING_BANK then s.ingBankWrite v
  else if a = ING_STRANGER_POP then (if fget ING_STRANGER_POP_POP v = 1 then opIngStrangerPop s else s)
  else if 0x03100000 ≤ a ∧ a < 0x03108000 then s.regWriteIf (!s.stencilLocked ((a - 0x03100000) / 0x200)) a v
  else match ingBankOf a with
    | some b => s.bankArrayWrite b a v
    | none =>
      if 0x03E00000 ≤ a ∧ a < 0x03E02000 ∧ a % 16 ≠ 0 then
        s.regWriteIf (!s.rdB (ING_ROW_CFG ((a - 0x03E00000) / 16)) ING_ROW_CFG_EN) a v
      else s.regWrite a v

/-! ### ACQ (R170, R175, R192) -/

def State.acqChanWrite (s : State) (c a : Nat) (v : Word) : State :=
  if a = ACQ_CH_CFG c then (s.channelWrite c v).settle
  else if a = ACQ_TRIP_CFG c then (s.tripCfgWrite c v).settle
  else if a = ACQ_TRIP_STAT c then (if fget ACQ_TRIP_STAT_LATCHED v = 1 then (s.latchRelease c).settle else s)
  else s.regWrite a v

def State.acqGroupWrite (s : State) (g a : Nat) (v : Word) : State :=
  if a = ACQ_GRP_CFG g then s.groupWrite g v
  else if a = ACQ_GRP_MASK g then s.regWriteIf (!s.groupOn g) a v
  else if a = ACQ_GRP_CTL g then
    let s := if fget ACQ_GRP_CTL_SYNC v = 1 then opAcqSync g s else s
    if fget ACQ_GRP_CTL_COMMIT v = 1 then opAcqCommit g s else s
  else s.regWrite a v

def State.acqWrite (s : State) (a : Nat) (v : Word) : State :=
  if !s.acqPresent then s
  else if a = ACQ_CTRL then (s.regWrite a v).mclkFollow
  else if 0x04010000 ≤ a ∧ a < 0x04010800 then s.acqChanWrite ((a - 0x04010000) / 0x40) a v
  else if 0x04020000 ≤ a ∧ a < 0x04020200 then s.acqGroupWrite ((a - 0x04020000) / 0x40) a v
  else s.regWrite a v

end Sys2Proof.Machine
end

