-- ==== Sys2Proof/Machine/Control2.lean ====
section
/-! DEFINITION. Writes to the control windows of TEN, SCH, CLE and LGE (R225, R226, R231, R255, R259, R267, R278, R287, R291,
R317). -/

namespace Sys2Proof.Machine

/-- A written word with a field the present state keeps as it is.
DESIGN CHOICE, log entry 14. -/
def keep (f : Fld) (old v : Word) : Word := fset f v (fget f old)

/-! ### TEN (R207, R211, R216, R225, R226) -/

/-- TEN_CFG: HOME changes only in EMPTY, and never to an absent cluster (R225).
DESIGN CHOICE, log entry 34. -/
def State.tenCfgWrite (s : State) (t : Nat) (v : Word) : State :=
  let a := TEN_CFG t
  let old := s.rd a TEN_CFG_HOME
  if s.tenState t ≠ 0 then s.regWrite a (keep TEN_CFG_HOME (s.rdW a) v)
  else if !s.clusterPresent (fget TEN_CFG_HOME v) then s.cfgRej a
  else ((s.regWrite a v).clusterShares old).clusterShares (fget TEN_CFG_HOME v)

/-- TEN_CMD: one command, or none (R225). -/
def State.tenCmdWrite (s : State) (t : Nat) (v : Word) : State :=
  if s.rdB (TEN_CMD t) TEN_CMD_BUSY then s
  else
    let s := s.regWrite (TEN_CMD t) v
    match fget TEN_CMD_OP v with
    | 1 => opTenActivate t s
    | 2 => opTenStart t s
    | 3 => opTenDisable t s
    | 4 => opTenRelease t s
    | 5 => opTenMigrate t s
    | 6 => opTenReceive t s
    | 7 => opTenStopAtBoundary t s
    | 8 => opTenResume t s
    | 9 => opTenPlogSnap t s
    | 10 => opTenMapInval t (fget TEN_CMD_ALL v == 1) (fget TEN_CMD_PAGE v) s
    | _ => s

/-- A staged change taken or, refused, reported in CFG_REJ (R207). -/
def State.stagedOr (s : State) (a : Nat) (r : Nat × State) : State := if r.1 = 0 then r.2 else s.cfgRej a

def State.tenantWrite (s : State) (t a : Nat) (v : Word) : State :=
  let st := s.tenState t
  let frozen := st == 2 || st == 3 || st == 5
  if !s.tenantPresent t then s
  else if a = TEN_CFG t then s.tenCfgWrite t v
  else if a = TEN_SHARE t then s.stagedOr a (s.stageShare t (fget TEN_SHARE_STAGED v))
  else if a = TEN_LIMIT t then s.stagedOr a (s.stageLimits t v)
  else if a = TEN_MAP_BASE_LO t ∨ a = TEN_MAP_BASE_HI t then s.regWriteIf (st == 0) a v
  else if a = TEN_REPL t then s.regWriteIf (st == 1 || st == 4) a v
  else if a = TEN_MSG_VA t then s.regWriteIf (!frozen) a v
  else if a = TEN_CMD t then s.tenCmdWrite t v
  else match elemOf (TEN_RING_SLOT t 0) 16 4 a with
    | some _ => s.regWriteIf (!frozen) a v
    | none =>
      match (List.range 4).find? (fun p => a = TEN_MSG_PROD t p ∨ a = TEN_MSG_CONS t p) with
      | some p => if (a = TEN_MSG_CONS t p) = (p < 2) then opTenMsgIndexWrite t p v s else s
      | none => s.regWrite a v

def State.tenWrite (s : State) (a : Nat) (v : Word) : State :=
  if 0x0F100000 ≤ a ∧ a < 0x0F120000 then s.tenantWrite ((a - 0x0F100000) / 0x100) a v else s.regWrite a v

/-! ### SCH (R230, R231, R255) -/

/-- The bits of a descriptor's words that a write may change (R230). -/
def descMaskOf (i : Nat) : Word :=
  match i with
  | 1 => 0xFFFFFFFF
  | 2 => 0x3FFFFFFC
  | 3 => 0xFFFFFFFF
  | 4 => 0x0000FFFF
  | _ => 0

/-- R231's checks of a valid descriptor as it stands; `mask` says that MASK is the word written.
DEDUCED, log entry 56. -/
def State.descOk (s : State) (d : Nat) (mask : Bool) : Bool :=
  !s.descB d DESC_VALID ||
    (match s.taskOwner d with
     | none => false
     | some t =>
       let st := s.tenState t
       s.desc d DESC_TENANT == t && (!s.descB d DESC_FLAG_ONLY || s.descB d DESC_CLR)
         && (!(st == 2 || st == 3 || st == 5) || (mask && st == 2)))

/-- A word of a descriptor written: checked as R555 states; clearing VALID removes the task's queued items (R231).
DEDUCED, log entry 56. -/
def State.descWrite (s : State) (d i : Nat) (v : Word) : State :=
  let m := descMaskOf i
  let t := s.wrW (SCH_DESC d i) ((s.rdW (SCH_DESC d i) &&& ~~~m) ||| (v &&& m))
  if m = 0 then s
  else if !t.descOk d (i == 1) then s.cfgRej (SCH_DESC d i)
  else
    let t := State.noteCond s t d
    if s.descB d DESC_VALID && !t.descB d DESC_VALID then t.removeItems (fun x => x.task == d) 0x0510 else t

/-- SCH_TEN_TASKS: only in EMPTY, and no range over another tenant's (R255). -/
def State.tasksWrite (s : State) (t : Nat) (v : Word) : State :=
  let f := fget SCH_TEN_TASKS_FIRST v
  let n := fget SCH_TEN_TASKS_COUNT v
  let others := (s.regs.filterMap (fun c => elemOf (SCH_TEN_TASKS 0) 512 0x80 c.1)).filter (fun u => u != t)
  s.regWriteIf (s.tenState t == 0 &&
    !others.any (fun u => decide (0 < n ∧ 0 < s.taskCount u ∧ f < s.taskFirst u + s.taskCount u ∧ s.taskFirst u < f + n))) (SCH_TEN_TASKS t) v

/-- DEDUCED, log entry 56. -/
def State.schTenWrite (s : State) (t a : Nat) (v : Word) : State :=
  let empty := s.tenState t == 0
  if !s.tenantPresent t then s
  else if a = SCH_TEN_TASKS t then s.tasksWrite t v
  else if a = SCH_TEN_SPILL_LO t ∨ a = SCH_TEN_CPL_LO t ∨ a = SCH_TEN_CPL_HI t then s.regWriteIf empty a v
  else if a = SCH_TEN_SPILL_HI t then
    s.regWrite a (if empty then v else keep SCH_TEN_SPILL_HI_BASE (s.rdW a) v)
  else if a = SCH_TEN_TICK t ∨ a = SCH_TEN_CPLN t ∨ a = SCH_TEN_REFUSE t then
    s.regWriteIf (s.ownsTask t (fget SCH_TEN_TICK_TASK v)) a v
  else s.regWrite a v

def State.schWrite (s : State) (a : Nat) (v : Word) : State :=
  if a = SCH_FLAG_SET then opSchFlagSet (fget SCH_FLAG_SET_TASK v) (fget SCH_FLAG_SET_CLEAR v == 1) s
  else if a = SCH_STW_ENQ then opSchStwEnq (fget SCH_STW_ENQ_TASK v) s
  else if a = SCH_STW_CPL_POP then (if fget SCH_STW_CPL_POP_POP v = 1 then opSchStwCplPop s else s)
  else if 0x05020000 ≤ a ∧ a < 0x05030000 then s.schTenWrite ((a - 0x05020000) / 0x80) a v
  else if 0x05100000 ≤ a ∧ a < 0x05140000 then s.descWrite ((a - 0x05100000) / 0x20) ((a - 0x05100000) % 0x20 / 4) v
  else match elemOf (SCH_FLOW_OWNER 0) 4096 4 a with
    | some f => s.regWriteIf (!s.rdB a SCH_FLOW_OWNER_BUSY && !s.sch.items.any (fun i => i.flow == some f && i.held.isSome)) a v
    | none => s.regWrite a v

/-! ### CLE (R259, R267, R273, R274, R278, R287) -/

/-- The valid law that a block is in. -/
def State.lawOfBlock (s : State) (b : Nat) : Option Nat := s.laws.find? (fun l => (s.lawBlocks l).contains b)

/-- Whether a block's structure and state words may be written: its law is STOPPED, or it is in none (R287).
DESIGN CHOICE, log entry 39. -/
def State.blkOpen (s : State) (b : Nat) : Bool :=
  match s.lawOfBlock b with
  | none => true
  | some l => s.lawState l == 0

/-- No two valid laws share a block (R259). -/
def State.lawsApart (s : State) (l : Nat) : Bool :=
  !s.rdB (CLE_LAW_CFG l) CLE_LAW_CFG_VALID || (s.laws.filter (fun m => m != l)).all (fun m =>
    (s.lawBlocks m).all (fun b => !(s.lawBlocks l).contains b))

/-- CLE_LAW_CMD: one command, or none (R287). -/
def State.lawCmdWrite (s : State) (l : Nat) (v : Word) : State :=
  if s.rdB (CLE_LAW_CMD l) CLE_LAW_CMD_BUSY then s
  else
    let s := s.regWrite (CLE_LAW_CMD l) v
    match fget CLE_LAW_CMD_OP v with
    | 1 => opCleStart l s
    | 2 => opCleStop l s
    | 3 => opCleCommit l (fget CLE_LAW_CMD_BUMPLESS v == 1) s
    | 4 => opCopyActive l s
    | 5 => opCleTune l s
    | 6 => opCleUntune l s
    | _ => s

def State.traceCmdWrite (s : State) (l : Nat) (v : Word) : State :=
  match fget CLE_TRC_CMD_OP v with
  | 1 => opTraceArm l s
  | 2 => opTraceDisarm l s
  | 3 => opTraceTrigger l s
  | _ => s

def State.lawWrite (s : State) (l a : Nat) (v : Word) : State :=
  if a = CLE_LAW_CFG l then
    if s.lawState l = 0 then s.recordWrite a v (fun t => t.lawsApart l) else s.cfgRej a
  else if a = CLE_LAW_CLK l then s.regWriteIf (s.lawState l == 0) a v
  else if a = CLE_LAW_CMD l then s.lawCmdWrite l v
  else if a = CLE_LAW_TUNE l then
    s.regWriteIf (!s.rdB (CLE_LAW_STATE l) CLE_LAW_STATE_TUNE_PENDING
      && !s.rdB (CLE_LAW_STATE l) CLE_LAW_STATE_UNTUNE_PENDING && s.lawState l != 2) a v
  else if a = CLE_TRC_CFG l then s.regWriteIf (s.trcState l == 0 || s.trcState l == 3) a v
  else if a = CLE_TRC_CMD l then s.traceCmdWrite l v
  else match elemOf (CLE_TRC_PROBE l 0) 4 4 a with
    | some _ => s.regWriteIf ((s.lawBlocks l).contains (fget CLE_TRC_PROBE_BLOCK v)) a v
    | none => s.regWrite a v

/-- The bits of a structure word that a block has (R268).
DESIGN CHOICE, log entry 14. -/
def structMask (i : Nat) : Word := if i = 0 then 0x87FFFF0F else if i = 1 then 0x87FF87FF else 0xFFFFFFFF

/-- A parameter word written: only to the shadow, not while a commit is pending, never a NaN or an infinity (R267, R278). -/
def State.paramWrite (s : State) (a : Nat) (v : Word) : State :=
  let set := (a - 0x06200000) / 0x10000
  let b := (a - 0x06200000) % 0x10000 / 32
  let shut := match s.lawOfBlock b with
    | none => false
    | some l => set == s.activeSet l || s.rdB (CLE_LAW_STATE l) CLE_LAW_STATE_COMMIT_PENDING
  s.regWriteIf (!shut && !isNan v.toNat && !isInf v.toNat) a v

def State.cleWrite (s : State) (a : Nat) (v : Word) : State :=
  if !s.clePresent then s
  else if 0x06010000 ≤ a ∧ a < 0x06018000 then s.lawWrite ((a - 0x06010000) / 0x100) a v
  else if 0x06100000 ≤ a ∧ a < 0x06108000 then
    if s.blkOpen ((a - 0x06100000) / 16) then s.regWrite a (v &&& structMask ((a - 0x06100000) % 16 / 4)) else s
  else if 0x06200000 ≤ a ∧ a < 0x06220000 then s.paramWrite a v
  else if 0x06300000 ≤ a ∧ a < 0x06310000 then if s.blkOpen ((a - 0x06300000) / 32) then s.regWrite a v else s
  else match elemOf (CLE_BLK_FLAGS 0) 2048 4 a with
    | some _ => s.wrW a (s.rdW a &&& ~~~(v &&& 0xFF))
    | none => s.regWrite a v

/-! ### LGE (R291, R301, R310, R314, R317) -/

/-- The regions of a pool that valid slots hold: base and length. -/
def State.codeRegions (s : State) : List (Nat × Nat × Nat) :=
  s.programs.map (fun p => (p, s.rd (LGE_PRG_CODE_BASE p) LGE_PRG_CODE_BASE_BASE, s.codeLen p))

def State.varRegions (s : State) : List (Nat × Nat × Nat) :=
  s.programs.flatMap (fun p => (List.range 3).map (fun k => (p, s.areaBase p k, s.areaCount p k)))

def State.instRegions (s : State) : List (Nat × Nat × Nat) :=
  s.programs.map (fun p => (p, s.instBase p, s.instCount p))

/-- No two regions of a list share an element. -/
def regionsApart : List (Nat × Nat × Nat) → Bool
  | [] => true
  | x :: xs => xs.all (fun y => x.2.1 + x.2.2 ≤ y.2.1 || y.2.1 + y.2.2 ≤ x.2.1 || x.2.2 == 0 || y.2.2 == 0)
      && regionsApart xs

/-- The code regions, areas and instance regions of valid slots are apart (R291). -/
def State.progsApart (s : State) : Bool :=
  regionsApart s.codeRegions && regionsApart s.varRegions && regionsApart s.instRegions

/-- The slot whose region holds an element. -/
def regionOwner (rs : List (Nat × Nat × Nat)) (x : Nat) : Option Nat :=
  (rs.find? (fun r => r.2.1 ≤ x && x < r.2.1 + r.2.2)).map (·.1)

/-- A write to a slot in STOP, which clears VERIFIED where it takes effect (R291, R310). -/
def State.slotWrite (s : State) (p a : Nat) (v : Word) (ok : State → Bool) : State :=
  let t := s.regWrite a v
  if s.prgState p ≠ 0 ∨ s.rdB (LGE_PRG_CMD p) LGE_PRG_CMD_BUSY ∨ !ok t ∨ !(findReg a).any (fun d => d.fields.all (fun f => fldOk f v)) then s.cfgRej a
  else t.wrB (LGE_PRG_STATE p) LGE_PRG_STATE_VERIFIED false

/-- LGE_PRG_CMD: one command, or none (R317). RUN and STEP resume a halted scan for a time that no rule gives. -/
def State.prgCmdWrite (s : State) (p : Nat) (v : Word) : State :=
  if s.rdB (LGE_PRG_CMD p) LGE_PRG_CMD_BUSY then s
  else
    let s := s.regWrite (LGE_PRG_CMD p) v
    let target := fget LGE_PRG_CMD_TARGET v
    match fget LGE_PRG_CMD_OP v with
    | 1 => opLgeStart p (fget LGE_PRG_CMD_COLD v == 1) s
    | 2 => opLgeStop p s
    | 3 => opLgeHold p s
    | 4 => let (u, s) := s.draw; opLgeRun p (u.toNat % 65536) s
    | 5 => let (u, s) := s.draw; opLgeStep p (u.toNat % 65536) s
    | 6 => opLgeVerify p target s
    | 7 => opLgeExchange p target s
    | 8 => opLgeCancelExchange p s
    | _ => s

def State.progWrite (s : State) (p a : Nat) (v : Word) : State :=
  if a = LGE_PRG_STATE p then s.regWrite a v
  else if a = LGE_PRG_CMD p then s.prgCmdWrite p v
  else if (findReg a).any (fun d => d.fields.all (fun f => f.ty == RegType.ro || f.ty == RegType.rc)) then s
  else match elemOf (LGE_PRG_BP p 0) 4 4 a, elemOf (LGE_PRG_FLAG p 0) 16 4 a with
    | some _, _ => s.regWriteIf (fget LGE_PRG_BP_EN v == 0 || s.rdB (LGE_PRG_CFG p) LGE_PRG_CFG_HOLD_EN) a v
    | _, some _ => s.slotWrite p a v (fun _ => s.ownsTask (s.prgOwner p) (fget LGE_PRG_FLAG_TASK v))
    | none, none => if (findReg a).isNone then s else s.slotWrite p a v (fun t => t.progsApart)

/-- A word of the force table written (R314): entry words 0 (VAR_ID, VALID) and 1 (VALUE). -/
def State.forceWrite (s : State) (p f i : Nat) (v : Word) : State :=
  let w0 := (s.rdW (LGE_FORCE p (4 * f))).toNat
  let w1 := s.rdW (LGE_FORCE p (4 * f + 1))
  let was := w0.testBit 16
  let n0 := if i = 0 then v.toNat else w0
  let n1 := if i = 1 then v else w1
  if 2 ≤ i then s
  else if was || n0.testBit 16 then opForceTableWrite p f (n0 % 65536) (n0.testBit 16) n1 s
  else s.putForce p f n0 n1.toNat false

/-- A word of the variable image or of the instance pool: its slot is STOP or HOLD, or no slot holds it (R317); in another
state the write is ignored and sets CFG_REJ (R291). A write to a slot's words clears VERIFIED (R310). -/
def State.imageWrite (s : State) (owner : Option Nat) (a : Nat) (v : Word) : State :=
  match owner with
  | none => s.regWrite a v
  | some p => 
    if s.prgState p = 0 ∨ s.prgState p = 2 then (s.regWrite a v).wrB (LGE_PRG_STATE p) LGE_PRG_STATE_VERIFIED false
    else s.cfgRej a

def State.lgeWrite (s : State) (a : Nat) (v : Word) : State :=
  if 0x07010000 ≤ a ∧ a < 0x07014000 then s.progWrite ((a - 0x07010000) / 0x100) a v
  else if 0x07100000 ≤ a ∧ a < 0x07200000 then
    match regionOwner s.codeRegions ((a - 0x07100000) / 4) with
    | none => s.regWrite a v
    | some p => s.slotWrite p a v (fun _ => true)
  else if 0x07200000 ≤ a ∧ a < 0x07210000 then s.imageWrite (regionOwner s.varRegions ((a - 0x07200000) / 4)) a v
  else if 0x07300000 ≤ a ∧ a < 0x07340000 then s.imageWrite (regionOwner s.instRegions ((a - 0x07300000) / 16)) a v
  else if 0x07400000 ≤ a ∧ a < 0x07440000 then
    s.forceWrite ((a - 0x07400000) / 0x1000) ((a - 0x07400000) % 0x1000 / 16) ((a - 0x07400000) % 16 / 4) v
  else if 0x07500000 ≤ a ∧ a < 0x07510000 then s.slotWrite ((a - 0x07500000) / 0x400) a v (fun _ => true)
  else if 0x07600000 ≤ a ∧ a < 0x07610000 then s.slotWrite ((a - 0x07600000) / 0x400) a v (fun _ => true)
  else if 0x07700000 ≤ a ∧ a < 0x07800000 then s.slotWrite ((a - 0x07700000) / 0x4000) a v (fun _ => true)
  else s.regWrite a v

end Sys2Proof.Machine
end

