-- ==== Sys2Proof/Machine/Tamper.lean ====
section
/-! DEFINITION. Ends of steward sessions (R489), the tamper watch (R449 to R451, R505) and tenant key operations (R453). -/

namespace Sys2Proof.Machine

/-! ### Sessions and apertures end (R489, R495) -/

/-- Region of aperture `a`: base, length, whether it is mapped and whether the host writes it. -/
def State.aperBase (s : State) (a : Nat) : Nat :=
  s.rd (MBX_APER_BASE_LO a) MBX_APER_BASE_LO_BASE * 4096 + s.rd (MBX_APER_BASE_HI a) MBX_APER_BASE_HI_BASE * 2 ^ 32
def State.aperLen (s : State) (a : Nat) : Nat := s.rd (MBX_APER_LEN a) MBX_APER_LEN_LEN
def State.aperOn (s : State) (a : Nat) : Bool := s.rdB (MBX_APER_CTRL a) MBX_APER_CTRL_EN
def State.aperHostWrites (s : State) (a : Nat) : Bool := s.rdB (MBX_APER_CTRL a) MBX_APER_CTRL_WRITE

/-- The session that opened an aperture; none when it is closed. -/
def State.aperOwner (s : State) (a : Nat) : Option Nat := cget (fun _ => none) s.mbx.aper a

/-- An aperture is zeroed and freed (R495). -/
def State.closeAperture (s : State) (a : Nat) : State :=
  let b := s.aperBase a
  let n := s.aperLen a
  let s := { s with mem := cerase (fun x => b ≤ x && x < b + n) s.mem }
  let s := { s with mbx := { s.mbx with aper := cset (fun _ => none) s.mbx.aper a none } }
  (((s.wrW (MBX_APER_CTRL a) 0).wrW (MBX_APER_LEN a) 0).wrW (MBX_APER_BASE_LO a) 0).wrW (MBX_APER_BASE_HI a) 0

/-- A session ends: its key slot is invalidated with DESTROY, its apertures are freed, 0x1182 is written (R489, R495).
Causes: 1 close, 2 idle, 3 listed close, 4 tamper, 5 restart (R504). -/
def State.endSession (s : State) (id cause : Nat) : State :=
  match s.mbx.sessions.find? (fun x => x.id == id) with
  | none => s
  | some x =>
    let s := { s with mbx := { s.mbx with sessions := s.mbx.sessions.filter (fun (y : Session) => y.id != id) } }
    let s := (s.invalidateNow x.slot true).2
    let s := ((List.range 16).filter (fun a => s.aperOwner a == some id)).foldl State.closeAperture s
    s.postTo 0x203 0x1182 (p4 id ++ p1 cause)

def State.endSessions (s : State) (cause : Nat) : State := s.mbx.sessions.foldl (fun s x => s.endSession x.id cause) s

/-! ### The tamper latch (R449, R451, R454) -/

/-- A field of TAMPERn's configuration: EN is bit 0, NORMAL bit 1. -/
def State.tamperBit (s : State) (n b : Nat) : Bool := (s.rdW KEY_TAMPER_CFG).toNat.testBit (8 * n + b)

def State.almOn (s : State) : Bool := s.rdB ALM_CTRL ALM_CTRL_EN

/-- KEY_TAMPER_LEVEL follows the inputs. -/
def State.tamperShow (s : State) : State :=
  (s.wr KEY_TAMPER_LEVEL KEY_TAMPER_LEVEL_LIVE s.key.live).wr KEY_TAMPER_LEVEL KEY_TAMPER_LEVEL_RAW s.key.raw

/-- A cause latched with its phase and time, the first one naming both; the event is written at once or held for the next
Advent (R451). `cause` is the input's number, or 4 for VBAT_LOST.
DESIGN CHOICE, log entry 16. -/
def State.tamperLatch (s : State) (cause phase time : Nat) (hold : Bool) : State :=
  let first := !s.rdB KEY_TAMPER_CAUSE KEY_TAMPER_CAUSE_LATCHED
  let s := if first then (s.wr KEY_TAMPER_CAUSE KEY_TAMPER_CAUSE_PHASE phase).wr64 KEY_TAMPER_TIME_LO KEY_TAMPER_TIME_HI time else s
  let s := s.wrB KEY_TAMPER_CAUSE KEY_TAMPER_CAUSE_LATCHED true
  let s := if cause = 4 then s.wrB KEY_TAMPER_CAUSE KEY_TAMPER_CAUSE_VBAT_LOST true
    else s.wr KEY_TAMPER_CAUSE KEY_TAMPER_CAUSE_INPUTS (s.rd KEY_TAMPER_CAUSE KEY_TAMPER_CAUSE_INPUTS ||| 2 ^ cause)
  let s := (s.wrB KEY_STAT KEY_STAT_TAMPERED true).bump cntKEY_TAMPERS 1
  if hold || !s.almOn then { s with key := { s.key with held := s.key.held ++ [(cause, phase, time)] } }
  else s.post 0x0C07 (p1 cause ++ p1 phase ++ p8 time)

/-- Every operation in progress is aborted with TAMPER: nothing is written (R451). -/
def State.abortOps (s : State) : State :=
  let cores := s.key.coreOps
  let s := match s.key.op with
    | none => s
    | some _ => { s with key := { s.key with op := none } }.setOpStat false 0 stTamper
  let s := { s with key := { s.key with coreOps := [] } }
  cores.foldl (fun (s : State) (x : Nat × KeyOp) =>
    let st := cget (fun _ => ({} : KeyStage)) s.key.stage x.1
    { s with key := { s.key with stage := cset (fun _ => ({} : KeyStage)) s.key.stage x.1 { st with stat := stTamper } } }) s

/-- The register zeroised with its fixed slots (R447, R451); it counts and writes 0x0C09 with its cause (R458).
DESIGN CHOICE, log entry 16. -/
def State.zeroiseAll (s : State) (cause : Nat) : State :=
  let s := s.zeroise cause
  (s.key.slots.filter (fun c => fixedSlot c.1)).foldl (fun (s : State) (c : Nat × KeySlot) => s.setSlot c.1 (freedSlot c.2)) s

/-- The register emptied by tamper: every later grant is refused until the next Advent (R451). -/
def State.tamperZero (s : State) : State :=
  let s := s.zeroiseAll 3
  { s with key := { s.key with emptied := true } }

/-- The jobs that an end by tamper completes at once: a life-cycle advance (R451). -/
def State.tamperJobs (s : State) : State :=
  { s with mbx := { s.mbx with jobs := s.mbx.jobs.map (fun (j : Job) =>
      if j.opcode = 0x0C22 ∧ j.outcome.isNone then { j with outcome := some (stTamper, 0, []) } else j) } }

/-- TAMPER_HOLD: a start-up under way halts with cause TAMPER (R451, R509).
DESIGN CHOICE, log entry 16. -/
def State.tamperHold (s : State) : State :=
  let s := { s with sys := { s.sys with advent := none } }
  let s := (s.wr SYS_ADVENT SYS_ADVENT_STATE 2).wr SYS_ADVENT SYS_ADVENT_CAUSE 3
  let s := s.wrB KEY_STAT KEY_STAT_HOLD true
  if s.almOn then s.post 0x1082 (p1 3 ++ p2 0) else s

/-- An enabled input in tamper longer than its filter (R449, R451). -/
def opTamperEvent (n : Nat) (s : State) : State :=
  if 4 ≤ n ∨ !s.tamperBit n 0 ∨ s.key.live.testBit n then s
  else
    let normal := s.tamperBit n 1
    let s := { s with key := { s.key with live := s.key.live ||| 2 ^ n,
                                          raw := (s.key.raw &&& (15 ^^^ 2 ^ n)) ||| (if normal then 0 else 2 ^ n) } }
    let s := s.tamperShow
    let off := decide (s.sys.dormant = 1) || !s.sys.pwrReq
    let early := s.sys.porLow || s.sys.rstLow || decide (s.sys.dormant = 2)
    let busy := s.key.op.isSome || !s.key.coreOps.isEmpty
    let phase := if off then 4 else if early || s.sys.advent.isSome then 1 else if busy then 3 else 2
    let time := if off then 0 else s.stamp
    if s.lc = 3 then s.tamperLatch n phase time (off || early)
    else if off then ({ s with key := { s.key with slots := s.wipedSlots } } : State).tamperLatch n 4 0 true
    else if early then s.tamperLatch n 1 time true
    else if s.sys.advent.isSome then ((s.abortOps.tamperZero).tamperLatch n 1 time false).tamperHold
    else (((s.abortOps.tamperZero).tamperJobs).tamperLatch n phase time false).endSessions 4

def execTamperEvent (t input : Nat) (s : State) : Host.Outcome State Fault Refusal := s.runAt t (opTamperEvent input)

/-- An input returns to its normal level: no live event there. -/
def opTamperEventEnd (n : Nat) (s : State) : State :=
  if 4 ≤ n then s
  else
    let m := 15 ^^^ 2 ^ n
    ({ s with key := { s.key with live := s.key.live &&& m,
                                  raw := (s.key.raw &&& m) ||| (if s.tamperBit n 1 then 2 ^ n else 0) } } : State).tamperShow

def execTamperEventEnd (t input : Nat) (s : State) : Host.Outcome State Fault Refusal :=
  s.runAt t (opTamperEventEnd input)

/-- VBAT returns after it fell below its minimum: the fused configuration is loaded from DEPLOYED on, and in DEPLOYED the
cause VBAT_LOST is latched as a tamper in Dormant (R449). -/
def opVbatLost (s : State) : State :=
  if !s.key.vbatLow then s
  else
    let s := { s with key := { s.key with vbatLow := false } }
    let s := if 2 ≤ s.lc then s.wrW KEY_TAMPER_CFG (BitVec.ofNat 32 s.fuses.tamper) else s
    if s.lc = 2 then
      let s := if s.sys.dormant = 1 ∨ !s.sys.pwrReq then { s with key := { s.key with slots := [] } } else s.abortOps.tamperZero
      s.tamperLatch 4 4 0 true
    else s

def execVbatLost (t : Nat) (s : State) : Host.Outcome State Fault Refusal := s.runAt t opVbatLost

/-- The registers of the always-on domain (R505, R527, R403, R449).
DESIGN CHOICE, log entry 16. -/
def alwaysOn : List Nat :=
  [SYS_RESET_CAUSE, SYS_DORMANT_CTRL, SYS_WAKE_CODE, SYS_DORMANT_TIME_LO, SYS_DORMANT_TIME_HI, KEY_TAMPER_CFG, KEY_TAMPER_CAUSE,
   KEY_TAMPER_LEVEL, KEY_TAMPER_TIME_LO, KEY_TAMPER_TIME_HI]

/-- VBAT falls below its minimum: the always-on domain is reset (R505), and with it the fence latches (R403), the tamper
latch and a retained key register are lost. -/
def opVbatBelowMinimum (s : State) : State :=
  let s := { s with regs := cerase (fun a => alwaysOn.contains a) s.regs }
  let s := (s.wrB DPX_REF_STAT DPX_REF_STAT_FENCE_A false).wrB DPX_REF_STAT DPX_REF_STAT_FENCE_B false
  let s := s.wrB KEY_STAT KEY_STAT_TAMPERED false
  let lost := s.sys.dormant != 0 || !s.sys.pwrReq
  let slots := if lost then [] else s.key.slots
  { s with key := { s.key with vbatLow := true, live := 0, raw := 0, held := [], slots := slots, cfgSet := false },
           sys := { s.sys with entryCause := 0 } }

def execVbatBelowMinimum (t : Nat) (s : State) : Host.Outcome State Fault Refusal := s.runAt t opVbatBelowMinimum

/-! ### Tenant key operations (R446, R453) -/

def State.keyStage (s : State) (core : Nat) : KeyStage := cget (fun _ => ({} : KeyStage)) s.key.stage core
def State.setKeyStage (s : State) (core : Nat) (x : KeyStage) : State :=
  { s with key := { s.key with stage := cset (fun _ => ({} : KeyStage)) s.key.stage core x } }

/-- The device addresses of a tenant-virtual range, where every page is mapped with the access and the memory is there. -/
def State.tenRange (s : State) (core t va n : Nat) (write : Bool) : Option (List Nat) :=
  (List.range n).foldr (fun i acc =>
    match acc, s.walk t (va + i) with
    | some l, some a =>
      if (!write || (s.effEntry t ((va + i) / 65536)).testBit 1) && s.engineReaches (.core core t) a 1 then some (a :: l) else none
    | _, _ => none) (some [])

/-- A core's key operation: its range checks, its grant through the tenant's handle, and the operation in progress.
DESIGN CHOICE, log entry 15. -/
def State.twKey (s : State) (core handle op outLen : Nat) (noData : Bool)
    (run : BitVec 256 → List Byte → List Byte → KeyStage → Nat × List Byte × List Byte) : State :=
  match s.coreTenant core with
  | none => s
  | some t =>
    let st := s.keyStage core
    let out := op == 8 || op == 9
    let refuse := fun (s : State) (code : Nat) => s.setKeyStage core { s.keyStage core with stat := code }
    if s.key.coreOps.any (fun x => x.1 == core) then s
    else if 4096 < st.len ∨ 256 < st.aadLen then refuse s stKeyAddrBad
    else match s.tenRange core t st.src st.len false, s.tenRange core t st.aad (if out then st.aadLen else 0) false,
        s.tenRange core t st.dst (if out then outLen else 0) true with
      | some src, some aad, some dst =>
        let h := KEY_HANDLE t (handle % 32)
        let x := s.rd h KEY_HANDLE_SLOT
        if !s.rdB h KEY_HANDLE_VALID then refuse (s.bump cntKEY_DENIED 1) stKeyDenied
        else
          let (g, s) := s.grant x (keyNeed op noData false) (.tenant t) false
          if g ≠ 0 then refuse s g
          else
            let (code, bytes, tag) := run (s.slot x).value (src.map s.byte) (aad.map s.byte) st
            let o : KeyOp := { op, uses := chainOf s.slot 10 x, status := code, writes := dst.zip bytes, tag := tag }
            { s with key := { s.key with coreOps := s.key.coreOps ++ [(core, o)] } }
      | _, _, _ => refuse s stKeyAddrBad

/-- MAC: the tag of the data, kept in TW_KEY_TAG. -/
def opTwKeyCmdMac (core handle : Nat) (tag16 : Bool) (s : State) : State :=
  s.twKey core handle 6 0 false fun k data _ _ => (0, [], fitBytes 32 (macTag k data tag16))

def execTwKeyCmdMac (t core handle : Nat) (tag16 : Bool) (s : State) : Host.Outcome State Fault Refusal :=
  s.runAt t (opTwKeyCmdMac core handle tag16)

/-- VERIFY: the tag of the data compared with TW_KEY_TAG. -/
def opTwKeyCmdVerify (core handle : Nat) (tag16 : Bool) (s : State) : State :=
  s.twKey core handle 7 0 false fun k data _ st =>
    (if macTag k data tag16 = fitBytes (if tag16 then 16 else 32) st.tag then 0 else stKeyTagBad, [], [])

def execTwKeyCmdVerify (t core handle : Nat) (tag16 : Bool) (s : State) : Host.Outcome State Fault Refusal :=
  s.runAt t (opTwKeyCmdVerify core handle tag16)

/-- ENCRYPT: the ciphertext at TW_KEY_DST, the tag in TW_KEY_TAG; with no data, GMAC. -/
def opTwKeyCmdEncrypt (core handle : Nat) (s : State) : State :=
  s.twKey core handle 8 (s.keyStage core).len ((s.keyStage core).len == 0) fun k data aad st =>
    let iv := fitBytes 12 st.iv
    let ct := gcmData k iv data
    (0, ct, fitBytes 32 (gcmTagBytes k iv aad ct))

def execTwKeyCmdEncrypt (t core handle : Nat) (s : State) : Host.Outcome State Fault Refusal :=
  s.runAt t (opTwKeyCmdEncrypt core handle)

/-- DECRYPT: the tag compared with TW_KEY_TAG, the data at TW_KEY_DST on a match. -/
def opTwKeyCmdDecrypt (core handle : Nat) (s : State) : State :=
  s.twKey core handle 9 (s.keyStage core).len ((s.keyStage core).len == 0) fun k data aad st =>
    let iv := fitBytes 12 st.iv
    if gcmTagBytes k iv aad data = fitBytes 16 st.tag then (0, gcmData k iv data, []) else (stKeyTagBad, [], [])

def execTwKeyCmdDecrypt (t core handle : Nat) (s : State) : Host.Outcome State Fault Refusal :=
  s.runAt t (opTwKeyCmdDecrypt core handle)

end Sys2Proof.Machine
end

