-- ==== Sys2Proof/Machine/Host.lean ====
section
/-! DEFINITION. The host's side of the mailboxes, BAR0 and BAR2 (R479, R480, R492, R495, R502), the watchdog kick (R507), the
Solstice commands (R521, R523), the I²C buses (R550) and the JTAG port (R549). -/

namespace Sys2Proof.Machine

/-! ### Mailboxes (R480, R502) -/

def State.box (s : State) (m : Nat) : HostBox := cget (fun _ => ({} : HostBox)) s.mbx.boxes m

/-- A mailbox replaced; MBX_BUSY and MBX_MB_PEND follow. -/
def State.setBox (s : State) (m : Nat) (x : HostBox) : State :=
  let s := { s with mbx := { s.mbx with boxes := cset (fun _ => ({} : HostBox)) s.mbx.boxes m x } }
  let b := s.rd MBX_BUSY MBX_BUSY_MAILBOXES
  s.wr MBX_BUSY MBX_BUSY_MAILBOXES (if x.state = 1 then b ||| 2 ^ m else b &&& (0xFFFFFFFF ^^^ 2 ^ m))

/-- A word of the MSI-X table (R479): until the host writes them, vectors are masked, as PCIe defines.
PRESUMED, log entry 57. -/
def State.msixWord (s : State) (o : Nat) : Word := cget (fun o => if o % 16 = 12 then 1 else 0) s.mbx.msix o

/-- An MSI-X message sent, where the link is up (R479); VECTORS counts it (R503). -/
def State.sendVector (s : State) (v : Nat) : State := (s.send (.msix v)).bump cntMBX_VECTORS 1

/-- A vector raised: its message, or its pending bit while it is masked.
PRESUMED, log entry 57. -/
def State.vector (s : State) (v : Nat) (enabled : Bool) : State :=
  if !enabled || !s.rdB MBX_STAT MBX_STAT_PCIE_LINK then s
  else if (s.msixWord (16 * v + 12)).toNat.testBit 0 then
    { s with mbx := { s.mbx with msixPend := nsetBit s.mbx.msixPend v true } }
  else s.sendVector v

/-- A word of the MSI-X table written by the host; a vector that is unmasked with its pending bit set is sent.
PRESUMED, log entry 57. -/
def State.msixWrite (s : State) (o : Nat) (w : Word) : State :=
  let v := o / 16
  let w := if o % 16 = 12 then w &&& 1 else if o % 16 = 0 then w &&& 0xFFFFFFFC else w
  let s := { s with mbx := { s.mbx with msix := cset (fun o => if o % 16 = 12 then 1 else 0) s.mbx.msix o w } }
  if s.mbx.msixPend.testBit v && !(s.msixWord (16 * v + 12)).toNat.testBit 0 && s.rdB MBX_STAT MBX_STAT_PCIE_LINK then
    ({ s with mbx := { s.mbx with msixPend := nsetBit s.mbx.msixPend v false } } : State).sendVector v
  else s

/-- Doorbells are heard while the mailboxes run and PCIe is enabled (R502).
DESIGN CHOICE, log entry 51. -/
def State.hostOn (s : State) : Bool := s.rdB MBX_CTRL MBX_CTRL_EN && s.rdB MBX_CTRL MBX_CTRL_PCIE_EN

/-- PENDING of a mailbox: the completions queued by the firmware, mirrored from MBX_MB_PEND (R491). -/
def State.pendCount (s : State) (m : Nat) : Nat := s.rd (MBX_MB_PEND m) MBX_MB_PEND_PENDING

/-- A doorbell code not listed for the state. -/
def State.ignoreDb (s : State) (m : Nat) : State :=
  (s.setBox m { s.box m with dbIgnored := true }).bump cntMBX_DB_IGNORED 1

def opDoorbellCommand (m : Nat) (s : State) : State :=
  if 32 ≤ m ∨ !s.hostOn then s
  else if (s.box m).state = 0 then
    (s.setBox m { s.box m with state := 1, fetch := false, restart := false, dbIgnored := false }).bump cntMBX_COMMANDS 1
  else s.ignoreDb m

def opDoorbellAck (m : Nat) (s : State) : State :=
  if 32 ≤ m ∨ !s.hostOn then s
  else if (s.box m).state = 2 then s.setBox m { s.box m with state := 0, dbIgnored := false }
  else s.ignoreDb m

def opDoorbellFetch (m : Nat) (s : State) : State :=
  if 32 ≤ m ∨ !s.hostOn then s
  else if (s.box m).state = 0 ∧ 0 < s.pendCount m then
    s.setBox m { s.box m with state := 1, fetch := true, dbIgnored := false }
  else s.ignoreDb m

def execDoorbellCommand (t m : Nat) (s : State) : Host.Outcome State Fault Refusal := s.runAt t (opDoorbellCommand m)
def execDoorbellAck (t m : Nat) (s : State) : Host.Outcome State Fault Refusal := s.runAt t (opDoorbellAck m)
def execDoorbellFetch (t m : Nat) (s : State) : Host.Outcome State Fault Refusal := s.runAt t (opDoorbellFetch m)

/-- The response buffer is posted: BUSY to RESP_READY and vector m (R480).
DESIGN CHOICE, log entry 9. -/
def State.postResp (s : State) (m len : Nat) (completion : Bool) : State :=
  (s.setBox m { s.box m with state := 2, length := len, completion := completion }).vector m (s.box m).intEn

/-- MBX_MB_RESP written (R502): ignored outside BUSY or with a length out of range. -/
def opMbxMbResp (m : Nat) (v : Word) (s : State) : State :=
  let len := fget MBX_MB_RESP_LENGTH v
  if 32 ≤ m ∨ fget MBX_MB_RESP_POST v = 0 then s
  else if (s.box m).state ≠ 1 ∨ len < 36 ∨ 4096 < len then s.wrB MBX_STAT MBX_STAT_CFG_REJ true
  else s.postResp m len (fget MBX_MB_RESP_COMPLETION v == 1)

def execMbxMbResp (t m : Nat) (value : Word) (s : State) : Host.Outcome State Fault Refusal :=
  s.runAt t (opMbxMbResp m value)

/-- MBX_MB_PEND written: PENDING from 0 on a FREE mailbox raises vector m (R480, R502). -/
def State.pendWrite (s : State) (m n : Nat) : State :=
  let was := s.pendCount m
  if 16 < n then s.wrB MBX_STAT MBX_STAT_CFG_REJ true
  else (s.wr (MBX_MB_PEND m) MBX_MB_PEND_PENDING n).vector m ((s.box m).intEn && (s.box m).state == 0 && was == 0 && n != 0)

/-! ### Buffers in the steward's SRAM (R477, R479) -/

def State.sramBytes (s : State) (off n : Nat) : List Byte := (List.range n).map (fun i => cget (fun _ => 0) s.mbx.sram (off + i))

def State.setSram (s : State) (off : Nat) (bs : List Byte) : State :=
  { s with mbx := { s.mbx with sram := ((List.range bs.length).zip bs).foldl (fun (m : Cells Byte) (p : Nat × Byte) =>
      cset (fun _ => 0) m (off + p.1) p.2) s.mbx.sram } }

/-- The host writes a command buffer: while the mailbox is FREE; otherwise ignored and counted (R479, R492). -/
def opCommandBufferWrite (m off : Nat) (bs : List Byte) (s : State) : State :=
  if 32 ≤ m ∨ 4096 < off + bs.length then s
  else if (s.box m).state = 0 then s.setSram (m * 0x2000 + off) bs
  else s.bump cntMBX_WRITE_WHILE_BUSY 1

def execCommandBufferWrite (t m offset : Nat) (bytes : List Byte) (s : State) : Host.Outcome State Fault Refusal :=
  s.runAt t (opCommandBufferWrite m offset bytes)

/-! ### BAR2 (R495) -/

/-- A host access through BAR2: one outside an open aperture, beyond LEN or in the wrong direction reads all ones or is
discarded, and counts. While PCIE_EN is 0 nothing is accepted.
DESIGN CHOICE, log entry 51. -/
def opHostBar2Access (addr len : Nat) (write : Option (List Byte)) (s : State) : State :=
  let a := addr / 0x10000000
  let off := addr % 0x10000000
  let n := match write with | some bs => bs.length | none => len
  let inside := decide (a < 16) && s.aperOn a && decide (off + n ≤ s.aperLen a) && s.aperHostWrites a == write.isSome
  if !s.rdB MBX_CTRL MBX_CTRL_PCIE_EN then (if write.isNone then s.answer (2 ^ (8 * n) - 1) else s)
  else if inside then
    match write with
    | some bs => s.store (s.aperBase a + off) bs
    | none => s.answer (leNat (s.bytes (s.aperBase a + off) n))
  else
    let s := s.bump cntMBX_APER_VIOL 1
    if write.isNone then s.answer (2 ^ (8 * n) - 1) else s

def execHostBar2Access (t addr len : Nat) (write : Option (List Byte)) (s : State) : Host.Outcome State Fault Refusal :=
  s.runAt t (opHostBar2Access addr len write)

/-! ### The PCIe link (R502) -/

def opPcieLinkUp (s : State) : State := s.wrB MBX_STAT MBX_STAT_PCIE_LINK true
def opPcieLinkDown (s : State) : State := s.wrB MBX_STAT MBX_STAT_PCIE_LINK false
def execPcieLinkUp (t : Nat) (s : State) : Host.Outcome State Fault Refusal := s.runAt t opPcieLinkUp
def execPcieLinkDown (t : Nat) (s : State) : Host.Outcome State Fault Refusal := s.runAt t opPcieLinkDown

/-! ### The watchdog (R507) -/

/-- SYS_WDOG_KICK: the timeout starts again. -/
def opSysWdogKick (s : State) : State := { s with sys := { s.sys with kickAt := s.now } }

def execSysWdogKick (t : Nat) (s : State) : Host.Outcome State Fault Refusal := s.runAt t opSysWdogKick

/-! ### Solstice (R521, R523) -/

/-- SNAP_IN asserted low: source 0. -/
def opSnapIn (s : State) : State := s.afterChange (s.fireSource 0)
def execSnapIn (t : Nat) (s : State) : Host.Outcome State Fault Refusal := s.runAt t opSnapIn

def State.snapMatch (s : State) : Nat := s.rd64 SYS_SNAP_MATCH_LO SYS_SNAP_MATCH_HI

/-- The first tick of the time base, of 4 ns, at or after MATCH: source 5, silent where MATCH was past at the arm; it never fires
late (R521, R523). -/
def opSolsticeMatch (s : State) : State :=
  if s.dom < s.snapMatch ∨ s.snapMatch + 4 ≤ s.dom ∨ s.rdB SYS_SNAP_STAT SYS_SNAP_STAT_MATCH_PAST then s else s.afterChange (s.fireSource 5)

def execSolsticeMatch (t : Nat) (s : State) : Host.Outcome State Fault Refusal := s.runAt t opSolsticeMatch

/-- ARM: IDLE or LATCHED to ARMED.
DESIGN CHOICE, log entry 14. -/
def opSolsticeArm (s : State) : State :=
  if s.rd SYS_SNAP_STAT SYS_SNAP_STAT_STATE = 1 then s
  else (s.wr SYS_SNAP_STAT SYS_SNAP_STAT_STATE 1).wrB SYS_SNAP_STAT SYS_SNAP_STAT_MATCH_PAST (decide (s.snapMatch < s.dom))

def execSolsticeArm (t : Nat) (s : State) : Host.Outcome State Fault Refusal := s.runAt t opSolsticeArm

/-- DISARM: ARMED to IDLE. -/
def opSolsticeDisarm (s : State) : State :=
  if s.rd SYS_SNAP_STAT SYS_SNAP_STAT_STATE = 1 then s.wr SYS_SNAP_STAT SYS_SNAP_STAT_STATE 0 else s

def execSolsticeDisarm (t : Nat) (s : State) : Host.Outcome State Fault Refusal := s.runAt t opSolsticeDisarm

/-- FIRE: source 1. -/
def opSolsticeFire (s : State) : State := s.afterChange (s.fireSource 1)
def execSolsticeFire (t : Nat) (s : State) : Host.Outcome State Fault Refusal := s.runAt t opSolsticeFire

/-! ### I²C (R550) and JTAG (R549) -/

/-- Clock stretching beyond 25 ms: the bus is released, nine clocks and a STOP are sent, and the transfer fails. -/
def opI2cStretchTimeout (bus : Nat) (s : State) : State := if bus < 8 then s.send (.i2cClear bus) else s

def execI2cStretchTimeout (t bus : Nat) (s : State) : Host.Outcome State Fault Refusal :=
  s.runAt t (opI2cStretchTimeout bus)

/-- The instruction that a load selects: in DEPLOYED and DECOMMISSIONED every other one than BYPASS, IDCODE and
SAMPLE/PRELOAD selects BYPASS. -/
def jtagSelects (lc : Nat) (i : JtagInstr) : JtagInstr :=
  match i with
  | .bypass => .bypass
  | .idcode => .idcode
  | .sample => .sample
  | .extest => if lc < 2 then .extest else .bypass
  | .debug => if lc < 2 then .debug else .bypass
  | .other c => if lc < 2 then .other c else .bypass

/-- IDCODE, which the data register then gives, in every variant.
PRESUMED, log entry 11. -/
def jtagIdcode : Nat := 0x07160A5D

def opJtagInstructionLoad (i : JtagInstr) (s : State) : State :=
  let sel := jtagSelects s.lc i
  let s := { s with sys := { s.sys with jtag := sel } }
  if sel = .idcode then s.answer jtagIdcode else s

def execJtagInstructionLoad (t : Nat) (instr : JtagInstr) (s : State) : Host.Outcome State Fault Refusal :=
  s.runAt t (opJtagInstructionLoad instr)

end Sys2Proof.Machine
end

