-- ==== Sys2Proof/Machine/Reset.lean ====
section
/-! DEFINITION. Resets (R505, R506), Dormant (R518 to R520) and the supply (R540). -/

namespace Sys2Proof.Machine

/-- The Almanac's channel registers, which a reset that keeps the bank keeps (R379).
DESIGN CHOICE, log entry 35. -/
def almKept (a : Nat) : Bool := decide (ALM_CH_CFG 0 ≤ a) && decide (a < ALM_CH_CFG 528)

/-- A reset that runs Advent (R505): every unit at its reset values. The always-on domain stays (R403, R449, R505), as do
the fuses, the flash, the level of FENCE_N, and, where the source keeps them, the Almanac bank (R378, R379) and the
retained key slots (R445). A register that is zeroised keeps its generations, but for a power-on reset, which ends retirement
(R441).
DESIGN CHOICE, log entry 4; DESIGN CHOICE, log entry 16. -/
def State.resetUnits (s : State) (keepAlm keepKey : Bool) : State :=
  let regs := s.regs.filter (fun (c : Nat × Word) => alwaysOn.contains c.1 || (keepAlm && almKept c.1))
  let key : Key := { slots := if keepKey then s.key.slots else if keepAlm then s.wipedSlots else [], emptied := keepKey && s.key.emptied,
                     entropyBad := s.key.entropyBad, live := s.key.live, raw := s.key.raw, held := s.key.held,
                     vbatLow := s.key.vbatLow, cfgSet := s.key.cfgSet }
  let alm : Alm := if keepAlm then { chans := s.alm.chans, nextOrd := s.alm.nextOrd } else {}
  let sys : Sys := { porLow := s.sys.porLow, rstLow := s.sys.rstLow, dormant := s.sys.dormant, entryCause := s.sys.entryCause,
                     pwrReq := s.sys.pwrReq, flash := s.sys.flash, jtag := s.sys.jtag, kickAt := s.now }
  let n : State := { pending := s.pending, now := s.now, bus := s.bus, wire := s.wire, freeNext := s.freeNext, regs := regs,
                     tim := { offset := -(s.now : Int) },
                     fuses := s.fuses, key := key, alm := alm, sys := sys }
  let n := n.wrB DPX_REF_STAT DPX_REF_STAT_FENCE_A (s.rdB DPX_REF_STAT DPX_REF_STAT_FENCE_A)
  let n := n.wrB DPX_REF_STAT DPX_REF_STAT_FENCE_B (s.rdB DPX_REF_STAT DPX_REF_STAT_FENCE_B)
  let n := n.wrB KEY_STAT KEY_STAT_TAMPERED (s.rdB KEY_TAMPER_CAUSE KEY_TAMPER_CAUSE_LATCHED)
  if s.rdB OUT_STAT OUT_STAT_FENCE_N then n
  else ((n.wrB OUT_STAT OUT_STAT_FENCE_N false).wrB OUT_STAT OUT_STAT_FENCED true).wrB OUT_STAT OUT_STAT_MUTED true

/-- POR_N low: a power-on reset, out of Dormant too (R505, R541). -/
def opPorNAssert (s : State) : State :=
  let s := s.resetUnits false false
  let s := { s with sys := { s.sys with porLow := true, dormant := 0, pwrReq := true } }
  s.wrB SYS_RESET_CAUSE SYS_RESET_CAUSE_POR true

def execPorNAssert (t : Nat) (s : State) : Host.Outcome State Fault Refusal := s.runAt t opPorNAssert

/-- RST_N low: the Almanac bank is kept. In Dormant the units are off already. -/
def opRstNAssert (s : State) : State :=
  if s.sys.dormant = 1 then { s with sys := { s.sys with rstLow := true } }
  else
    let s := s.resetUnits (!s.sys.porLow) false
    ({ s with sys := { s.sys with rstLow := true, dormant := 0 } } : State).wrB SYS_RESET_CAUSE SYS_RESET_CAUSE_RST true

def execRstNAssert (t : Nat) (s : State) : Host.Outcome State Fault Refusal := s.runAt t opRstNAssert

/-- Entry to Dormant (R518): refused while a tenant is active. Publishing, heartbeats, outputs and the grid stop, the entry
is noted, and the units lose their contents; the key register is retained.
DESIGN CHOICE, log entry 19. -/
def opDormantEntry (s : State) : State :=
  if s.tenantsActive ∨ s.sys.dormant ≠ 0 ∨ s.sys.porLow ∨ s.sys.rstLow then s
  else
    let s := s.wr64 SYS_DORMANT_TIME_LO SYS_DORMANT_TIME_HI s.stamp
    let s := s.resetUnits false (!s.key.vbatLow)
    { s with sys := { s.sys with dormant := 1, entryCause := 1, pwrReq := false } }

def execDormantEntry (t : Nat) (s : State) : Host.Outcome State Fault Refusal := s.runAt t opDormantEntry

/-- A wake from a source: PWR_REQ high, and the rails' delay begins (R520).
DESIGN CHOICE, log entry 19. -/
def State.wake (s : State) (src : Nat) : State :=
  if s.sys.dormant ≠ 1 then s
  else
    let s := { s with sys := { s.sys with dormant := 2, pwrReq := true, wakeAt := s.now } }
    (s.wr SYS_RESET_CAUSE SYS_RESET_CAUSE_WAKE_SRC src).wrB SYS_RESET_CAUSE SYS_RESET_CAUSE_WAKE true

def opWake (s : State) : State := s.wake 1
def execEvWake (t : Nat) (s : State) : Host.Outcome State Fault Refusal := s.runAt t opWake

/-- Whether a management-port frame (without FCS) is this module's wake frame (R520). -/
def State.isWakeFrame (s : State) (b : List Byte) : Bool :=
  beAt b 12 2 == 0x88B5 && byteAt b 14 == 1 && byteAt b 15 == 4 && beAt b 16 2 == 0 && beAt b 18 8 == s.fuses.deviceId
    && beAt b 26 4 == (s.rdW SYS_WAKE_CODE).toNat && decide (30 ≤ b.length)

def opWakeFrame (b : List Byte) (s : State) : State :=
  if s.rdB SYS_DORMANT_CTRL SYS_DORMANT_CTRL_MGMT_WAKE && s.isWakeFrame b then s.wake 2 else s

def execWakeFrame (t : Nat) (bytes : List Byte) (s : State) : Host.Outcome State Fault Refusal :=
  s.runAt t (opWakeFrame bytes)

/-- VDD_IO33 comes within its limits: PWR_REQ high (R540); FENCE_OUT follows its latches (R403). -/
def opPowerUp (s : State) : State := if s.sys.dormant = 1 then s else { s with sys := { s.sys with pwrReq := true } }

def execPowerUp (t : Nat) (s : State) : Host.Outcome State Fault Refusal := s.runAt t opPowerUp

end Sys2Proof.Machine
end

