-- ==== Sys2Proof/Machine/Control3.lean ====
section
/-! DEFINITION. Writes to the control windows of OUT, REC, ALM, DPX, KEY, MEM, SYS and MBX, to BAR0 and to the tenant window,
reads of control space, and the access commands (R12, R13, R26, R27, R91, R200, R553). -/

namespace Sys2Proof.Machine

/-! ### OUT (R323, R324, R337, R338, R345) -/

def State.outWrite (s : State) (a : Nat) (v : Word) : State :=
  if a = OUT_CTRL then s.outCtrlWrite v
  else if a = OUT_FENCE_CLR then (if fget OUT_FENCE_CLR_CLR v = 1 then opOutFenceClr s else s)
  else if a = OUT_BIN_EVT_POP then (if fget OUT_BIN_EVT_POP_POP v = 1 then opOutBinEvtPop s else s)
  else if a = OUT_BIND_ARM then opOutBindArmWrite v s
  else if 0x08010000 ≤ a ∧ a < 0x08012000 then opBindingWrite ((a - 0x08010000) / 32) ((a - 0x08010000) % 32 / 4) v s
  else if 0x08020000 ≤ a ∧ a < 0x08030000 then s.pubWrite ((a - 0x08020000) / 64) ((a - 0x08020000) % 64 / 4) v
  else match elemOf (OUT_TRIP_CFG 0) 16 4 a, elemOf (OUT_PUB_OWNER 0) 4096 4 a with
    | some n, _ => s.outTripCfgWrite n v
    | _, some slot => s.pubOwnerWrite slot v
    | none, none => (s.regWrite a v).settle

/-! ### REC (R353, R355, R365, R369) -/

/-- REC_CMD: one command, or none. -/
def State.recCmdWrite (s : State) (r : Nat) (v : Word) : State :=
  if s.rdB (REC_CMD r) REC_CMD_BUSY then s
  else match fget REC_CMD_OP v with
    | 1 => opRecOpArm r s
    | 2 => opRecOpDisarm r s
    | 3 => opRecOpTrigger r s
    | _ => s

def State.recorderWrite (s : State) (r a : Nat) (v : Word) : State :=
  if a = REC_CMD r then s.recCmdWrite r v
  else if a = REC_MEM_SIZE r then s.recSizeWrite r v
  else if a = REC_CFG r ∨ a = REC_LAG r ∨ a = REC_MEM_LO r ∨ a = REC_MEM_HI r ∨ a = REC_MASK_LO r ∨ a = REC_MASK_HI r then
    (s.regWriteIf (!s.recActive r) a v).recShow
  else s.regWrite a v

/-- The bits that word `i` of a channel entry has (R350). -/
def recChanMask (i : Nat) : Word := if i = 0 then 0x0FFF3FFF else if i = 4 then 0xFFFF else if 5 ≤ i then 0 else 0xFFFFFFFF

/-- Whether the fields of word `i` of a channel entry lie in their ranges: CH, DELTA, SPAN and MASK_K (R13, R350). -/
def recChanOk (i : Nat) (v : Word) : Bool :=
  let n := v.toNat
  if i = 0 then decide (n / 65536 % 256 < 32)
  else if i = 3 then decide (n < 2 ^ 31)
  else if i = 4 then decide (1 ≤ n % 256) && decide (n % 256 ≤ 64) && decide (1 ≤ n / 256 % 256)
  else true

def State.recWrite (s : State) (a : Nat) (v : Word) : State :=
  if a = REC_CTRL then
    let on := s.rdB REC_CTRL REC_CTRL_EN
    let s := s.regWrite a v
    if on && !s.rdB REC_CTRL REC_CTRL_EN then s.recStopAll else s
  else if a = REC_INJECT then opRecInject v s
  else match elemOf (REC_XTRG_CFG 0) 8 4 a with
    | some l =>
      let s := s.regWrite a v
      if s.rdB a REC_XTRG_CFG_OUT_EN then s else s.xtrgFree l
    | none =>
      if 0x09010000 ≤ a ∧ a < 0x09011000 then s.recorderWrite ((a - 0x09010000) / 0x100) a v
      else if 0x09100000 ≤ a ∧ a < 0x09180000 then 
        let i := a % 32 / 4
        s.regWriteIf (!s.recActive ((a - 0x09100000) / 0x8000) && recChanOk i v) a (v &&& recChanMask i)
      else s.regWrite a v

/-! ### ALM (R379, R386, R387, R389, R392) -/

def State.almWrite (s : State) (a : Nat) (v : Word) : State :=
  if a = ALM_CTRL then s.almCtrlWrite v
  else if a = ALM_POST then opAlmPost v s
  else if a = ALM_CLEAR then opAlmClearWrite v s
  else if a = ALM_CUR_CMD then
    match fget ALM_CUR_CMD_OP v with
    | 1 => opCursorSeek s
    | 2 => opCursorNext s
    | 3 => opCursorFirst s
    | 4 => opCursorLast s
    | _ => s
  else match elemOf (ALM_CH_CFG 0) 528 0x20 a with
    | some ch => s.almQuotaWrite ch v
    | none => s.regWrite a v

/-! ### DPX (R396, R405, R428) -/

/-- DPX_CMD: one command, or none. -/
def State.dpxCmdWrite (s : State) (v : Word) : State :=
  if s.rdB DPX_CMD DPX_CMD_BUSY then s
  else
    let side := fget DPX_CMD_SIDE v
    let s := s.wr DPX_CMD DPX_CMD_SIDE side
    match fget DPX_CMD_OP v with
    | 1 => opRequestRole s
    | 2 => opRevertNow s
    | 3 => opEvUnfence side s
    | 4 => opEvDeclare s
    | 5 => opForceGrant side s
    | _ => s

/-- The tenants of word `i` of DPX_TEN_SET that are present (R3). -/
def State.tenantMask (s : State) (i : Nat) : Word :=
  BitVec.ofNat 32 (((List.range 32).filter (fun b => s.tenantPresent (32 * i + b))).map (fun b => 2 ^ b)).sum

def State.dpxWrite (s : State) (a : Nat) (v : Word) : State :=
  if a = DPX_CTRL then s.dpxCtrlWrite v
  else if a = DPX_CFG then s.dpxCfgWrite v
  else if a = DPX_PEER then s.regWriteIf (!s.dpxOn) a v
  else if a = DPX_CMD then s.dpxCmdWrite v
  else match elemOf (DPX_TEN_SET 0) 16 4 a with
    | some i => s.regWriteIf (!s.dpxOn) a (v &&& s.tenantMask i)
    | none => s.regWrite a v

/-! ### KEY (R438, R446, R449, R454) -/

/-- KEY_OP_CMD: operation OP starts, unless one is in progress. -/
def State.keyCmdWrite (s : State) (v : Word) : State :=
  let tag16 := fget KEY_OP_CMD_TAG16 v == 1
  match fget KEY_OP_CMD_OP v with
  | 1 => opDerive s
  | 2 => opImport (fget KEY_OP_CMD_PUB v == 1) s
  | 3 => opExport s
  | 4 => opGenerate s
  | 5 => opAgree s
  | 6 => opMac tag16 s
  | 7 => opVerify tag16 s
  | 8 => opEncrypt s
  | 9 => opDecrypt s
  | 10 => opSigVerify s
  | 11 => opInvalidate (fget KEY_OP_CMD_DESTROY v == 1) s
  | 12 => opSweep s
  | 13 => opZeroise s
  | _ => s

def State.keyWrite (s : State) (a : Nat) (v : Word) : State :=
  if a = KEY_OP_CMD then s.keyCmdWrite v
  else if a = KEY_TAMPER_CFG then (if s.lc < 2 then ({ s with key := { s.key with cfgSet := true } } : State).regWrite a v else s)
  else s.regWrite a v

/-! ### MEM (R461, R469, R474) -/

def State.memWrite (s : State) (a : Nat) (v : Word) : State :=
  match elemOf (MEM_BANK_OWNER 0) 16 0x40 a, elemOf (MEM_BANK_BIST 0) 16 0x40 a with
  | some n, _ => opBankHandover n v s
  | _, some n => if fget MEM_BANK_BIST_START v = 1 then opBankBistStart n s else s
  | none, none => s.regWrite a v

/-! ### SYS (R507, R518, R523, R527) -/

/-- SYS_WDOG_CFG: EN, once set, stays; the timeout runs from then on. -/
def State.wdogWrite (s : State) (v : Word) : State :=
  let was := s.rdB SYS_WDOG_CFG SYS_WDOG_CFG_EN
  let s := s.regWrite SYS_WDOG_CFG (if was then fset SYS_WDOG_CFG_EN v 1 else v)
  if !was && s.rdB SYS_WDOG_CFG SYS_WDOG_CFG_EN then { s with sys := { s.sys with kickAt := s.now } } else s

/-- DESIGN CHOICE, log entry 14. -/
def State.sysWrite (s : State) (a : Nat) (v : Word) : State :=
  if a = SYS_WDOG_CFG then s.wdogWrite v
  else if a = SYS_WDOG_KICK then (if fget SYS_WDOG_KICK_KICK v = 1 then opSysWdogKick s else s)
  else if a = SYS_DORMANT_CTRL then
    let s := s.regWrite a v
    if fget SYS_DORMANT_CTRL_ENTER v = 1 then opDormantEntry s else s
  else if a = SYS_SNAP_CTRL then
    let s := if fget SYS_SNAP_CTRL_ARM v = 1 then opSolsticeArm s else s
    let s := if fget SYS_SNAP_CTRL_DISARM v = 1 then opSolsticeDisarm s else s
    if fget SYS_SNAP_CTRL_FIRE v = 1 then opSolsticeFire s else s
  else if a = SYS_SNAP_SRC ∨ a = SYS_SNAP_ALM ∨ a = SYS_SNAP_CLE ∨ a = SYS_SNAP_MATCH_LO ∨ a = SYS_SNAP_MATCH_HI then
    s.regWriteIf (s.rd SYS_SNAP_STAT SYS_SNAP_STAT_STATE != 1) a v
  else s.regWrite a v

/-! ### MBX and BAR0 (R479, R480, R502) -/

def State.aperWrite (s : State) (n a : Nat) (v : Word) : State :=
  if a = MBX_APER_CTRL n ∧ s.aperOn n then s.wr a MBX_APER_CTRL_EN (fget MBX_APER_CTRL_EN v)
  else if a = MBX_APER_LEN n then
    let len := fget MBX_APER_LEN_LEN v
    s.regWriteIf (!s.aperOn n && len % 4096 == 0 && decide (len ≤ 0x10000000)) a v
  else s.regWriteIf (!s.aperOn n) a v

def State.mbxWrite (s : State) (a : Nat) (v : Word) : State :=
  if 0x11000400 ≤ a ∧ a < 0x11000500 then s.aperWrite ((a - 0x11000400) / 16) a v
  else match elemOf (MBX_MB_RESP 0) 32 16 a, elemOf (MBX_MB_PEND 0) 32 16 a with
    | some m, _ => opMbxMbResp m v s
    | _, some m => s.pendWrite m (fget MBX_MB_PEND_PENDING v)
    | none, none => s.regWrite a v

/-- Where BAR0 of the host begins among the addresses of REGISTER_WRITE (notes/assumptions/12).
DESIGN CHOICE, log entry 12. -/
def bar0 : Nat := 2 ^ 40

/-- A host write to BAR0 offset `o`. -/
def State.bar0Write (s : State) (o : Nat) (v : Word) : State :=
  if o < 0x210 then (if o % 4 = 0 then s.msixWrite o v else s)
  else if 0x1000 ≤ o ∧ o < 0x1400 then
    let m := (o - 0x1000) / 0x20
    if o % 0x20 = 0 then
      match v.toNat % 4 with
      | 1 => opDoorbellCommand m s
      | 2 => opDoorbellAck m s
      | 3 => opDoorbellFetch m s
      | _ => if s.hostOn then s.ignoreDb m else s
    else if o % 0x20 = 8 then s.setBox m { s.box m with intEn := v.toNat.testBit 0 }
    else s
  else if o = 0x2000 then
    { s with mbx := { s.mbx with globalInt := v.toNat.testBit 3, restarted := s.mbx.restarted && !v.toNat.testBit 1 } }
  else if 0x40000 ≤ o ∧ o < 0x80000 ∧ (o - 0x40000) % 0x2000 < 0x1000 then
    opCommandBufferWrite ((o - 0x40000) / 0x2000) ((o - 0x40000) % 0x2000) (leBytes 4 v.toNat) s
  else s

/-- MBX_H_STAT of a mailbox (R502). -/
def State.hostStat (s : State) (m : Nat) : Nat :=
  let b := s.box m
  b.length * 65536 + s.pendCount m * 256 + 16 * b2n b.dbIgnored + 8 * b2n b.restart + 4 * b2n b.completion + b.state

/-- MBX_H_GLOBAL (R502): the running image's release, then the flags. -/
def State.hostGlobal (s : State) : Nat :=
  let h := match s.sys.image with | some (off, _) => (List.range 2).map (fun i => cget (fun _ => 0) s.sys.flash (off + 24 + i)) | none => []
  byteAt h 1 * 65536 + byteAt h 0 * 256 + 8 * b2n s.mbx.globalInt + 4 * b2n (s.rdB KEY_STAT KEY_STAT_HOLD)
    + 2 * b2n s.mbx.restarted + b2n s.mbx.ready

/-- A host read of the word at BAR0 offset `o` (R479, R502); offsets not listed read 0. -/
def State.bar0Read (s : State) (o : Nat) : Nat :=
  if o < 0x210 then (s.msixWord o).toNat
  else if o = 0x800 then s.mbx.msixPend % 2 ^ 32
  else if o = 0x804 then s.mbx.msixPend / 2 ^ 32 % 2 ^ 32
  else if 0x1000 ≤ o ∧ o < 0x1400 then
    let m := (o - 0x1000) / 0x20
    if o % 0x20 = 4 then s.hostStat m else if o % 0x20 = 8 then b2n (s.box m).intEn else 0
  else if o = 0x2000 then s.hostGlobal
  else if 0x40000 ≤ o ∧ o < 0x80000 then leNat (s.sramBytes (o - 0x40000) 4)
  else 0

/-! ### Control space (R11, R12) -/

/-- A write of a word of control space; outside the windows nothing is written (R12), and above control space the write faults
(R24). -/
def State.ctlWrite (s : State) (a : Nat) (v : Word) : State :=
  match a / 2 ^ 24 with
  | 0x01 => s.prtWrite a v
  | 0x02 => s.fabWrite a v
  | 0x03 => s.ingWrite a v
  | 0x04 => s.acqWrite a v
  | 0x05 => s.schWrite a v
  | 0x06 => s.cleWrite a v
  | 0x07 => s.lgeWrite a v
  | 0x08 => s.outWrite a v
  | 0x09 => s.recWrite a v
  | 0x0A => s.almWrite a v
  | 0x0B => s.dpxWrite a v
  | 0x0C => s.keyWrite a v
  | 0x0D => s.memWrite a v
  | 0x0E => s.timWrite a v
  | 0x0F => s.tenWrite a v
  | 0x10 => s.sysWrite a v
  | 0x11 => s.mbxWrite a v
  | _ => if bar0 ≤ a then s.bar0Write (a - bar0) v else if 2 ^ 32 ≤ a then s.busFault else s

/-! ### Reads (R12, R27, R54, R91) -/

/-- A word derived from other state. -/
def State.shownWord (s : State) (a : Nat) : Option Word :=
  if a = SYS_FEATURE then some (BitVec.ofNat 32 s.feature)
  else if 0x02020000 ≤ a ∧ a < 0x02024000 then
    some (s.rdW a &&& BitVec.ofNat 32 (((List.range 28).filter s.portPresent).map (2 ^ ·)).sum)
  else if a = DPX_BUDGET then some (BitVec.ofNat 32 s.budget)
  else if a = KEY_DEVICE_ID_LO then some (BitVec.ofNat 32 s.fuses.deviceId)
  else if a = KEY_DEVICE_ID_HI then some (BitVec.ofNat 32 (s.fuses.deviceId / 2 ^ 32))
  else if a = MEM_DRAM_STAT then
    some (fset MEM_DRAM_STAT_SIZE (s.rdW a) ((s.dramEnd - 0x1000000000) / 2 ^ 33))
  else if 0x0C010000 ≤ a ∧ a < 0x0C030000 then
    some (BitVec.ofNat 32 (leAt (slotRecord (s.slot ((a - 0x0C010000) / 32))) ((a - 0x0C010000) % 32) 4))
  else if 0x05100000 ≤ a ∧ a < 0x05140000 ∧ (a - 0x05100000) % 32 = 16 then
    let d := (a - 0x05100000) / 32
    match s.taskOwner d with
    | some t => some ((s.rdW a &&& 0xFF00FFFF) ||| BitVec.ofNat 32 ((d - s.taskFirst t) % 256 * 65536))
    | none => some (s.rdW a)
  else none

/-- The registers marked "Latched by Solstice" (R525): first address, elements, stride. -/
def latchedRegs : List (Nat × Nat × Nat) :=
  [(FAB_FREE, 1, 4), (FAB_FD_FREE, 1, 4), (FAB_RSV_USE, 1, 4), (FAB_ING_USE 0, 32, 0x400), (FAB_EG_USE 0 0, 32, 0x400),
   (FAB_EG_USE 0 1, 32, 0x400), (FAB_EG_USE 0 2, 32, 0x400), (FAB_EG_USE 0 3, 32, 0x400), (FAB_EG_USE 0 4, 32, 0x400),
   (FAB_EG_USE 0 5, 32, 0x400), (FAB_EG_USE 0 6, 32, 0x400), (FAB_EG_USE 0 7, 32, 0x400)] ++
  [(ING_STAT, 1, 4), (ACQ_STAT, 1, 4), (ACQ_CH_STAT 0, 32, 0x40), (ACQ_TRIP_STAT 0, 32, 0x40), (SCH_STAT, 1, 4),
   (SCH_OVR_LAST, 1, 4), (SCH_OVR_COUNT, 1, 4), (SCH_CORE_STAT 0, 64, 0x20), (SCH_TEN_USED 0, 512, 0x80),
   (SCH_TEN_USED_LAST 0, 512, 0x80), (SCH_TEN_STAT 0, 512, 0x80)] ++
  [(CLE_STAT, 1, 4), (CLE_LAW_STATE 0, 128, 0x100), (CLE_LAW_INDEX 0, 128, 0x100), (CLE_TRC_STAT 0, 128, 0x100), (LGE_STAT, 1, 4),
   (LGE_PRG_STATE 0, 64, 0x100), (LGE_PRG_PC 0, 64, 0x100), (LGE_PRG_SCAN 0, 64, 0x100), (OUT_STAT, 1, 4), (OUT_TRIP_LEVEL, 1, 4),
   (OUT_BIN_STATE, 1, 4), (OUT_BIND_VAL 0, 8, 4)] ++
  [(REC_STAT, 1, 4), (REC_XTRG_STAT, 1, 4), (REC_STATE 0, 16, 0x100), (REC_POST_ACT 0, 16, 0x100), (REC_NEWEST 0, 16, 0x100),
   (ALM_STAT, 1, 4), (ALM_CH_NEXT 0, 528, 0x20), (DPX_STAT, 1, 4), (DPX_EPOCH, 1, 4), (DPX_PAIR_EPOCH, 1, 4),
   (DPX_LAST_APPLIED, 1, 4), (DPX_COPY_ROUND, 1, 4), (DPX_COPY_INFO, 1, 4), (DPX_HEALTH, 1, 4), (DPX_REF_STAT, 1, 4)] ++
  [(KEY_STAT, 1, 4), (MEM_ERR_INFO, 1, 4), (MEM_BANK_STAT 0, 16, 0x40), (TIM_ROUND, 1, 4), (TEN_CLUSTER_SHARE 0, 8, 4),
   (TEN_STATE 0, 512, 0x100), (SYS_ADVENT, 1, 4), (MBX_BUSY, 1, 4)]

/-- The entries of a block's snapshot in ascending offset (R524): twice the offset, one more for the upper half of a counter. Absent
elements give none. -/
def State.snapKeys (s : State) (blk : Nat) : List Nat :=
  let regs := ((latchedRegs.filter (fun r => r.1 / 2 ^ 24 == blk)).flatMap (fun r =>
    (List.range r.2.1).map (fun i => r.1 + i * r.2.2))).filter s.existsAt
  let cnts := ((counterArrays.filter (fun c => c.1 / 2 ^ 24 == blk)).flatMap (fun c =>
    (List.range c.2.1).flatMap (fun i => (List.range c.2.2.2).map (fun j => c.1 + i * c.2.2.1 + 8 * j)))).filter (fun a =>
      (counterOwner a).all (fun o => s.present o.1 o.2))
  (regs.map (fun a => a % 2 ^ 24 * 2) ++ cnts.flatMap (fun a => [a % 2 ^ 24 * 2, a % 2 ^ 24 * 2 + 1])).mergeSort (fun x y => decide (x ≤ y))

/-- The word latched for an entry: a register's word, or half of a counter. -/
def State.snapValue (s : State) (blk k : Nat) : Nat :=
  let v : State := { s with regs := s.snap.regs, cnt := s.snap.cnt }
  let a := blk * 2 ^ 24 + k / 2
  if counterAt a then (if k % 2 = 0 then v.count a % 2 ^ 32 else v.count a / 2 ^ 32) else (v.rdW a).toNat

/-- A word of a block's snapshot (R524), from window offset 0xFC_0000 on; it is clear until the first strobe (R505). Entries that the
window has no room for can be read by nothing.
DESIGN CHOICE, log entry 26. -/
def State.snapWord (s : State) (blk o : Nat) : Nat :=
  if !s.snap.taken then 0
  else if o = 0 then s.snap.count
  else if o = 4 then (s.snapKeys blk).length
  else if o = 8 then s.snap.instant % 2 ^ 32
  else if o = 12 then s.snap.instant / 2 ^ 32
  else match (s.snapKeys blk)[(o - 16) / 8]? with
    | none => 0
    | some k => if o % 8 = 0 then k / 2 + k % 2 * 2 ^ 24 else s.snapValue blk k

/-- The read of the first word of a 64-bit pair, which captures the rest of it (R54). -/
def pairRead (a : Nat) : Option (State → State) :=
  if a = TIM_NOW_LO then some opTimNowRead
  else if a = TIM_PPSIN_LO then some opTimPpsinRead
  else if a = FAB_DAYS_LO then some opFabDaysRead
  else if a = SYS_DORMANT_TIME_LO then some (fun s => s.readPair SYS_DORMANT_TIME_LO SYS_DORMANT_TIME_HI)
  else if a = SYS_SNAP_TIME_LO then some (fun s => s.readPair SYS_SNAP_TIME_LO SYS_SNAP_TIME_HI)
  else if a = KEY_TAMPER_TIME_LO then some (fun s => s.readPair KEY_TAMPER_TIME_LO KEY_TAMPER_TIME_HI)
  else if a = MEM_ERR_LO then some opMemErrRead
  else match elemOf (ACQ_TRIP_TIME_LO 0) 32 0x40 a, elemOf (REC_TRIG_TIME_LO 0) 16 0x100 a with
    | some c, _ => some (opAcqTripTimeRead c)
    | _, some r => some (opRecTrigTimeRead r)
    | none, none => none

/-- The words that such a read captures. -/
def capturedAt (a : Nat) : Bool :=
  [TIM_NOW_HI, TIM_PPSIN_HI, FAB_DAYS_HI, SYS_DORMANT_TIME_HI, SYS_SNAP_TIME_HI, KEY_TAMPER_TIME_HI, MEM_ERR_HI, MEM_ERR_INFO].contains a
    || (elemOf (ACQ_TRIP_TIME_HI 0) 32 0x40 a).isSome || (elemOf (REC_TRIG_TIME_HI 0) 16 0x100 a).isSome

/-- A read of a word of control space: the word read and the machine, with the effects of a read. Times in service are counted up to
the read (R252). -/
def State.ctlRead (s : State) (a : Nat) : Nat × State :=
  let s := if a / 2 ^ 24 = 0x05 then s.chargeAll else s
  if bar0 ≤ a then (s.bar0Read (a - bar0), s)
  else if counterAt a then s.takeCounter a
  else if a % 8 = 4 ∧ counterAt (a - 4) then (cget (fun _ => 0) s.cntHi (a - 4), s)
  else if 0xFC0000 ≤ a % 2 ^ 24 ∧ s.blockPresent (a / 2 ^ 24) then (s.snapWord (a / 2 ^ 24) (a % 2 ^ 24 - 0xFC0000), s)
  else if !s.existsAt a then (0, s)
  else if capturedAt a then ((s.cap a).toNat, s)
  else match pairRead a with
  | some f => let s := f s; (s.bus.data, s)
  | none =>
    let w := (s.shownWord a).getD (s.liveWord a (s.rdW a))
    match findReg a with
    | none => (0, s)
    | some d =>
      let s := if d.fields.any (fun f => f.ty == .rc) then
          s.wrW a (d.fields.foldl (fun w f => if f.ty == .rc then fset f w 0 else w) (s.rdW a)) else s
      (w.toNat, s)

/-! ### The tenant window (R200, R254) -/

/-- Bytes of a list replaced at an offset, kept at `n` bytes. -/
def putBytes (n : Nat) (l : List Byte) (off : Nat) (bs : List Byte) : List Byte := fitBytes n (patch (fitBytes n l) off bs)

/-- A staging register of a core's key operations (R453). -/
def State.keyStageWrite (s : State) (core o : Nat) (v : Word) : State :=
  let k := s.keyStage core
  let n := v.toNat
  if o = 0x6008 then s.setKeyStage core { k with src := n }
  else if o = 0x600C then s.setKeyStage core { k with len := n }
  else if o = 0x6010 then s.setKeyStage core { k with dst := n }
  else if o = 0x6014 then s.setKeyStage core { k with aad := n }
  else if o = 0x6018 then s.setKeyStage core { k with aadLen := n }
  else if 0x6020 ≤ o ∧ o < 0x602C then s.setKeyStage core { k with iv := putBytes 12 k.iv (o - 0x6020) (leBytes 4 n) }
  else if 0x6040 ≤ o ∧ o < 0x6060 then s.setKeyStage core { k with tag := putBytes 32 k.tag (o - 0x6040) (leBytes 4 n) }
  else s

/-- TW_KEY_CMD written. -/
def State.twKeyWrite (s : State) (core : Nat) (v : Word) : State :=
  let n := v.toNat
  let h := nbits n 4 5
  let tag16 := n.testBit 9
  match n % 16 with
  | 6 => opTwKeyCmdMac core h tag16 s
  | 7 => opTwKeyCmdVerify core h tag16 s
  | 8 => opTwKeyCmdEncrypt core h s
  | 9 => opTwKeyCmdDecrypt core h s
  | _ => s

/-- TW_TMR_LO n written. -/
def State.tmrLoWrite (s : State) (core n : Nat) (v : Word) : State :=
  match s.coreTenant core with
  | some t =>
    let x : SchTimer := { s.timer t n with lo := v.toNat }
    s.setTimer t n x
  | none => s

/-- A word written at an offset of the tenant window by the item in service on a core. -/
def State.tenantWinWrite (s : State) (core o : Nat) (v : Word) : State :=
  let n := v.toNat
  if o = 0x0108 then opTwDone core n s
  else if 0x0200 ≤ o ∧ o < 0x0240 then
    let b := putBytes 64 (cget (fun _ => []) s.sch.enqBuf core) (o - 0x0200) (leBytes 4 n)
    { s with sch := { s.sch with enqBuf := cset (fun _ => []) s.sch.enqBuf core b } }
  else if o = 0x0240 then opTwEnq core (n % 256) s
  else if o = 0x0284 then opTwCplCons core v s
  else if 0x0300 ≤ o ∧ o < 0x0340 then
    let i := (o - 0x0300) / 16
    if o % 16 = 0 then s.tmrLoWrite core i v
    else if o % 16 = 4 then opTwTmrArm core i v s
    else if o % 16 = 8 then opTwTmrDisarm core i v s
    else s
  else if 0x1000 ≤ o ∧ o < 0x1800 then
    if o % 8 = 0 then opTwFlag core ((o - 0x1000) / 8) v s else opTwFlagClr core ((o - 0x1000) / 8) v s
  else if 0x2000 ≤ o ∧ o < 0x2400 then
    let k := core * 256 + (o - 0x2000) / 4
    { s with out := { s.out with stage := cset (fun _ => 0) s.out.stage k n } }
  else if o = 0x2400 then opTwPubCommit core v s
  else if o = 0x4000 then opTwTrip core v s
  else if o = 0x4004 then opTwTripSet core v s
  else if o = 0x4008 then opTwTripClr core v s
  else if 0x5000 ≤ o ∧ o < 0x50E0 then
    let b := putBytes 224 (cget (fun _ => []) s.alm.stage core) (o - 0x5000) (leBytes 4 n)
    { s with alm := { s.alm with stage := cset (fun _ => []) s.alm.stage core b } }
  else if o = 0x5100 then opTwAlmPost core v s
  else if o = 0x6000 then s.twKeyWrite core v
  else if 0x6000 ≤ o ∧ o < 0x7000 then s.keyStageWrite core o v
  else if 0x7000 ≤ o ∧ o < 0x7010 then opTwMsgDb core ((o - 0x7000) / 4) v s
  else if 0x7100 ≤ o ∧ o < 0x7180 then (if o % 8 = 4 then opTwRingTail core ((o - 0x7100) / 8) (n % 65536) s else s)
  else if 0x8000 ≤ o ∧ o < 0x9000 then opTwLgiWrite core ((o - 0x8000) / 4) v s
  else if 0x9000 ≤ o ∧ o < 0xA000 then opTwSpWrite core ((o - 0x9000) / 4) v s
  else s

/-! ### The access commands -/

/-- A 4-byte write: by the steward (or the host, in BAR0) at a device address, or by a core at an offset of its tenant
window. -/
def opRegisterWrite (core : Option Nat) (a : Nat) (v : Word) (s : State) : State :=
  match core with
  | none => (s.ctlWrite a v).recSync
  | some c => if (s.coreTenant c).isNone then s else (s.tenantWinWrite c a v).recSync

def execRegisterWrite (t : Nat) (core : Option Nat) (addr : Nat) (value : Word) (s : State) : Host.Outcome State Fault Refusal :=
  s.runAt t (opRegisterWrite core addr value)

/-- A counter's low word read (R91): the count is returned, its high half captured, and the counter cleared; the steward
adds it to its running total (R490). -/
def opStatisticsCounterRead (a : Nat) (s : State) : State :=
  if !counterAt a then s
  else
    let (w, s) := (if a / 2 ^ 24 = 0x05 then s.chargeAll else s).takeCounter a
    s.answer w

def execStatisticsCounterRead (t addr : Nat) (s : State) : Host.Outcome State Fault Refusal :=
  s.runAt t (opStatisticsCounterRead addr)

/-- The low word of a 64-bit time read: the high word is captured. -/
def opSysDormantTimeRead (s : State) : State := s.readPair SYS_DORMANT_TIME_LO SYS_DORMANT_TIME_HI
def opSysSnapTimeRead (s : State) : State := s.readPair SYS_SNAP_TIME_LO SYS_SNAP_TIME_HI
def opKeyTamperTimeRead (s : State) : State := s.readPair KEY_TAMPER_TIME_LO KEY_TAMPER_TIME_HI

def execSysDormantTimeRead (t : Nat) (s : State) : Host.Outcome State Fault Refusal := s.runAt t opSysDormantTimeRead
def execSysSnapTimeRead (t : Nat) (s : State) : Host.Outcome State Fault Refusal := s.runAt t opSysSnapTimeRead
def execKeyTamperTimeRead (t : Nat) (s : State) : Host.Outcome State Fault Refusal := s.runAt t opKeyTamperTimeRead

end Sys2Proof.Machine
end

