-- ==== Sys2Proof/Machine/Access.lean ====
section
/-! DEFINITION. Who reaches what (R24 to R29, R196, R553): a core's accesses through its tenant's map and to its tenant window, the
reads of that window (R200, R201, R254), accesses to control space by the steward and the debug port, and the accesses to scratch
banks and DRAM. -/

namespace Sys2Proof.Machine

/-! ### The tenant window read (R200, R201, R254) -/

/-- A word of a byte buffer. -/
def wordIn (b : List Byte) (o : Nat) : Nat := leAt b o 4

/-- The identity and status registers of the window (R200). -/
def State.winStatus (s : State) (core t o : Nat) : Nat :=
  if o = 0x00 then (Config.moduleId * 512 + t) % 2 ^ 23
  else if o = 0x04 then (s.rdW (TEN_STATE t)).toNat
  else if o = 0x08 then (s.rdW TIM_ROUND).toNat
  else if o = 0x0C then s.rd (TEN_SHARE t) TEN_SHARE_CURRENT
  else if o = 0x14 then (s.cap (0x40000014 + core * 2 ^ 32)).toNat
  else if o = 0x18 then s.rd (TEN_LIMIT_CUR t) TEN_LIMIT_CUR_ITEMS
  else if o = 0x1C then satNat 65535 (s.occupancy t)
  else 0

/-- TW_ITEM_INFO: local task, PRIO, and whether a steward enqueued the item. -/
def State.itemInfo (s : State) (i : SchItem) : Nat :=
  (i.task - s.taskFirst i.tenant) % 256 + 256 * s.desc i.task DESC_PRIO + 65536 * b2n i.steward

/-- A timer's three words. -/
def timerWord (x : SchTimer) (o : Nat) : Nat :=
  if o = 0 then x.lo else if o = 4 then x.hi
  else if o = 8 then x.task % 256 + 256 * x.bit + 65536 * x.period + 2 ^ 31 * b2n x.armed else 0

/-- The scheduler's regions of the window (R254). -/
def State.winSched (s : State) (core o : Nat) (r : SchRun) : Nat :=
  let t := r.item.tenant
  if o = 0x0110 then r.captured
  else if o = 0x0114 then s.itemInfo r.item
  else if 0x0140 ≤ o ∧ o < 0x0180 then wordIn (itemBytes r.item) (o - 0x0140)
  else if 0x0200 ≤ o ∧ o < 0x0240 then wordIn (fitBytes 64 (cget (fun _ => []) s.sch.enqBuf core)) (o - 0x0200)
  else if o = 0x0244 then cget (fun _ => 0) s.sch.enqStat core
  else if o = 0x0280 then cget (fun _ => 0) s.sch.prod t
  else if o = 0x0284 then cget (fun _ => 0) s.sch.cons t
  else if 0x0300 ≤ o ∧ o < 0x0340 then timerWord (s.timer t ((o - 0x0300) / 16)) (o % 16)
  else if 0x1000 ≤ o ∧ o < 0x1800 then
    match s.localTask core ((o - 0x1000) / 8) with
    | some d => if o % 8 = 0 then s.descFlags d else s.descMask d
    | none => 0
  else 0

/-- A key operation's staging registers (R453). -/
def State.winKey (s : State) (core o : Nat) : Nat :=
  let k := s.keyStage core
  if o = 0x6004 then k.stat
  else if o = 0x6008 then k.src
  else if o = 0x600C then k.len
  else if o = 0x6010 then k.dst
  else if o = 0x6014 then k.aad
  else if o = 0x6018 then k.aadLen
  else if 0x6020 ≤ o ∧ o < 0x602C then wordIn (fitBytes 12 k.iv) (o - 0x6020)
  else if 0x6040 ≤ o ∧ o < 0x6060 then wordIn (fitBytes 32 k.tag) (o - 0x6040)
  else 0

/-- HEAD or TAIL of the ring that a slot reaches, else 0 (R201). -/
def State.winRing (s : State) (t o : Nat) : Nat :=
  let i := (o - 0x7100) / 8
  match s.slotRing t i with
  | none => 0
  | some r =>
    if i < 8 then (s.rdW (if o % 8 = 0 then PRT_RXR_HEAD r else PRT_RXR_TAIL r)).toNat
    else (s.rdW (if o % 8 = 0 then PRT_TXR_HEAD r else PRT_TXR_TAIL r)).toNat

/-- What a read of a word of the window finds; offsets not listed, and write-only ones, read 0. -/
def State.winWord (s : State) (core o : Nat) (r : SchRun) : Nat :=
  let t := r.item.tenant
  if o < 0x100 then s.winStatus core t o
  else if o < 0x2000 then s.winSched core o r
  else if o < 0x2400 then cget (fun _ => 0) s.out.stage (core * 256 + (o - 0x2000) / 4)
  else if o = 0x2404 then cget (fun _ => 0) s.out.stat core
  else if o = 0x4000 then s.tripReg t
  else if 0x5000 ≤ o ∧ o < 0x50E0 then wordIn (fitBytes 224 (cget (fun _ => []) s.alm.stage core)) (o - 0x5000)
  else if o = 0x5104 then cget (fun _ => 0) s.alm.stat core
  else if 0x6000 ≤ o ∧ o < 0x7000 then s.winKey core o
  else if 0x7010 ≤ o ∧ o < 0x7020 then cget (fun _ => 0) s.ten.msgStat (t * 4 + (o - 0x7010) / 4)
  else if 0x7100 ≤ o ∧ o < 0x7180 then s.winRing t o
  else if 0x8000 ≤ o ∧ o < 0x9000 then (cget (fun _ => 0) s.lge.inputs (t * 1024 + (o - 0x8000) / 4)).toNat
  else if 0x9000 ≤ o ∧ o < 0xA000 then (cget (fun _ => 0) s.cle.sp (t * 1024 + (o - 0x9000) / 4)).toNat
  else 0

/-- A read of a word of the window by the item in service on a core, with its effects: TW_NEXT (R242), the capture of TW_NOW_LO,
and TW_KEY_STAT, which returns no data while its operation goes on (R453). -/
def State.tenantWinRead (s : State) (core o : Nat) : State :=
  if o = 0x0100 then opTwNext core s
  else match s.runOf core with
    | none => s
    | some r =>
      if o = 0x0010 then opTwNowRead core s
      else if o = 0x6004 ∧ s.key.coreOps.any (fun x => x.1 == core) then { s with bus := {} }
      else s.answer (s.winWord core o r)

/-- Whether an offset of the window takes 8-byte accesses: in the scheduler's regions only TW_ITEM and TW_ENQ_BUF do (R254), the
input words of the logic engine do not. -/
def winTakes8 (o : Nat) : Bool :=
  if 0x0100 ≤ o ∧ o < 0x2000 then (decide (0x0140 ≤ o) && decide (o < 0x0180)) || (decide (0x0200 ≤ o) && decide (o < 0x0240))
  else !(decide (0x8000 ≤ o) && decide (o < 0x9000))

/-- Whether an access of a core to its window has a form R196, R254 and R553 allow. -/
def winForm (o size : Nat) : Bool := (size == 4 && o % 4 == 0) || (size == 8 && o % 8 == 0 && winTakes8 o)

/-! ### Accesses of 4 or 8 bytes (R553) -/

/-- An aligned access of 4 or 8 bytes by a read and a write of words: 8 bytes are two words, the lower first, each with its own
effect. -/
def State.wordAccess (s : State) (read : State → Nat → State) (put : State → Nat → Word → State) (a size : Nat)
    (write : Option Nat) : State :=
  match write with
  | some v =>
    let s := put s a (BitVec.ofNat 32 v)
    let s := if size = 8 then put s (a + 4) (BitVec.ofNat 32 (v / 2 ^ 32)) else s
    s.answer 0
  | none =>
    let s := read s a
    if size = 8 then
      let lo := s.bus.data
      let s := read s (a + 4)
      s.answer (lo + 2 ^ 32 * s.bus.data)
    else s

/-- An access of a core's item in service to its tenant window: of a wrong size or alignment, or above the window, a tenant fault
(R29, R196, R553). -/
def State.winAccess (s : State) (c o size : Nat) (write : Option Nat) : State :=
  if (s.coreTenant c).isNone then (if o = 0x0100 ∧ size = 4 ∧ write.isNone then opTwNext c s else s)
  else if 0x10000 ≤ o then (opTenantFault c 4 (0x40000000 + o) s).busFault
  else if !winForm o size then (opTenantFault c 5 (0x40000000 + o) s).busFault
  else s.wordAccess (fun s o => s.tenantWinRead c o) (fun s o v => (s.tenantWinWrite c o v).recSync) o size write

/-- An aligned access to control space. -/
def State.ctlAccess (s : State) (a size : Nat) (write : Option Nat) : State :=
  s.wordAccess (fun s a => let (v, s) := s.ctlRead a; s.answer v) (fun s a v => (s.ctlWrite a v).recSync) a size write

/-! ### Accesses of cores to memory (R26, R28, R196) -/

/-- The parts of an access, page by page, lower first. -/
def pageParts (va len : Nat) : List (Nat × Nat) :=
  if len = 0 then []
  else (List.range ((va + len - 1) / 65536 - va / 65536 + 1)).map (fun i =>
    let lo := max va ((va / 65536 + i) * 65536)
    (lo, min (va + len) ((va / 65536 + i + 1) * 65536) - lo))

/-- Why an access at a tenant-virtual address is a tenant fault by the map, by the causes of R229. -/
def State.mapCause (s : State) (t va : Nat) (fetch write : Bool) : Option Nat :=
  let e := s.effEntry t (va / 65536)
  if 0x4000FFFF < va then some 4
  else if 0x40000000 ≤ va then some (if fetch then 3 else 5)
  else if !e.testBit 0 then some 1
  else if write && !e.testBit 1 then some 2
  else if fetch && !e.testBit 2 then some 3
  else none

/-- The device address of a tenant-virtual address whose page is VALID. -/
def State.devAddr (s : State) (t va : Nat) : Nat := s.effEntry t (va / 65536) / 65536 % 2 ^ 24 * 65536 + va % 65536

/-- A part of a core's access at a device address: the cause of a fault, if any, and the machine. A frame that is no memory of this
part counts as a page that is not VALID.
DESIGN CHOICE, log entry 33. -/
def State.corePart (s : State) (c t a n : Nat) (write : Option (List Byte)) (found : EccFound) : Option Nat × State :=
  match bankOf a n with
  | some _ =>
    ((windowParts a n).foldl (fun (r : Option Nat × State) p =>
      if r.1.isSome then r
      else
        let s := r.2
        let serves := (bankOf p.1 p.2).any (fun b => s.portAServes b (.core c t))
        let (e, s) := s.portAPart (.core c t) p.1 p.2 (write.map (fun bs => (bs.drop (p.1 - a)).take p.2)) found
        (if e then some (if serves then 7 else 6) else none, s)) (none, s))
  | none =>
    if s.inDram a n then
      let (e, s) := s.dramDevice (.core c t) a n write found
      (if e then some 8 else none, s)
    else (some 1, s)

/-- An access of `len` bytes at a tenant-virtual address by core `c`, while an item of tenant `t` is in service there; without one it
has no effect (R209, R244). A fault is the tenant's (R26, R196): by the map nothing is read or written, and no data returns. -/
def State.coreAccess (s : State) (c t : Nat) (fetch : Bool) (va len : Nat) (write : Option (List Byte)) (found : EccFound) : State :=
  if s.coreTenant c ≠ some t ∨ len = 0 then s
  else if !fetch ∧ 0x40000000 ≤ va ∧ va < 0x40010000 then s.winAccess c (va - 0x40000000) len (write.map leNat)
  else
    let parts := pageParts va len
    match parts.findSome? (fun p => (s.mapCause t p.1 fetch write.isSome).map (fun k => (k, p.1))) with
    | some (k, x) => (opTenantFault c k x s).busFault
    | none =>
      let r := parts.foldl (fun (r : Option (Nat × Nat) × List Byte × State) p =>
        if r.1.isSome then r
        else
          let s := r.2.2
          let a := s.devAddr t p.1
          let w := write.map (fun bs => (bs.drop (p.1 - va)).take p.2)
          let s := if w.isSome then s.noteCoreWrite t p.1 p.2 else s
          let (k, s) := s.corePart c t a p.2 w found
          (k.map (fun k => (k, p.1)), r.2.1 ++ s.bytes a p.2, s)) (none, [], s)
      match r.1 with
      | some (k, x) => (opTenantFault c k x r.2.2).busFault
      | none => r.2.2.answer (if write.isNone then leNat r.2.1 else 0)

/-! ### Port A, port B and DRAM (R460 to R472) -/

/-- PORT_A_ACCESS (R462): an engine's by device address, a core's through the map.
DESIGN CHOICE, log entry 26. -/
def opPortAAccess (req : MemReq) (a len : Nat) (write : Option (List Byte)) (found : EccFound) (s : State) : State :=
  match req with
  | .core c t => s.coreAccess c t false a len write found
  | .fetch c t => s.coreAccess c t true a len none found
  | _ => s.portADevice req a len write found

def execPortAAccess (t : Nat) (req : MemReq) (addr len : Nat) (write : Option (List Byte)) (found : EccFound)
    (s : State) : Host.Outcome State Fault Refusal := s.runAt t (opPortAAccess req addr len write found)

/-- A port A access in the same bank step by its device address; none where no bank step comes of it: no such access, a fault, or one
that crosses a page. -/
def State.portAOf (s : State) (pa : PortA) : Option PortA :=
  match pa.req with
  | .core c t | .fetch c t =>
    if s.coreTenant c = some t ∧ (s.mapCause t pa.addr false pa.write.isSome).isNone ∧ (pageParts pa.addr pa.len).length = 1 then
      some { pa with addr := s.devAddr t pa.addr } else none
  | _ => some pa

/-- The end of a port A access of the same bank step: a core's error is a tenant fault. -/
def State.portAEnd (s0 s : State) (pa : PortA) (va : Nat) (err : Bool) : State :=
  match pa.req with
  | .core c _ | .fetch c _ =>
    if err then
      let bus := s.bus
      let s := opTenantFault c (if (bankOf pa.addr 1).any (fun b => s0.portAServes b pa.req) then 7 else 6) va s
      { s with bus := bus }
    else s
  | _ => s

/-- A port B access of any length, split at window boundaries, with a port A access in the same step as its first piece
(R465, R466). Port B's read shows the words as they stood before that step; where both ports write one lane, port A's
byte stands, and differing lanes are reported in LANES_LOST (bits above the data) and counted once. -/
def opPortBAccess (a len : Nat) (write : Option (List Byte)) (other : Option PortA) (found : EccFound) (s : State) :
    State :=
  if len = 0 then s.busFault
  else
    let readB := s.le a len
    let s0 := s
    let (err, s) := s.portBDevice a len write found
    match other with
    | none => if err then s.busFault else s.answer (if write.isNone then readB else 0)
    | some pv =>
      match s0.portAOf pv with
      | none =>
        let s := opPortAAccess pv.req pv.addr pv.len pv.write found s
        { s with bus := { data := if write.isNone then readB else 0, err := err, other := s.bus.data, otherErr := s.bus.err } }
      | some pa =>
        let lost := match write, pa.write with
          | some bs, some as =>
            if (bankOf pa.addr pa.len).any (fun n => s0.portAServes n pa.req) then
              (wordsOf a len).foldl (fun m w => m ||| lanesLost w pa.addr as a bs) 0
            else 0
          | _, _ => 0
        let s := if lost = 0 then s else
          match bankOf a 1 with | some n => s.bump (cntMEM_BANK_COLLISIONS n) 1 | none => s
        let s := match pa.req with
          | .core _ t => if pa.write.isSome then s.noteCoreWrite t pv.addr pv.len else s
          | _ => s
        let s := s.portADevice pa.req pa.addr pa.len pa.write found
        let errA := s.bus.err
        let s := State.portAEnd s0 s pa pv.addr errA
        { s with bus := { data := if write.isNone then readB else lost, err := err,
                          other := if pa.write.isNone && !errA then s0.le pa.addr pa.len else 0, otherErr := errA } }

def execPortBAccess (t addr len : Nat) (write : Option (List Byte)) (other : Option PortA) (found : EccFound)
    (s : State) : Host.Outcome State Fault Refusal := s.runAt t (opPortBAccess addr len write other found)

/-- A DRAM access by device address: it faults outside DRAM that is present (R25, R26), and none is made before training (R471); what it
changes of tenant maps follows R199.
DESIGN CHOICE, log entry 12. -/
def State.dramAccess (s : State) (req : MemReq) (a len : Nat) (write : Option (List Byte)) (found : EccFound) : State :=
  if len = 0 ∨ !s.inDram a len then s.faultTo req
  else if !s.rdB MEM_DRAM_STAT MEM_DRAM_STAT_TRAINED then s
  else
    let (e, u) := s.dramDevice req a len write found
    if e then u.faultTo req
    else match write with
      | none => u.answer (u.le a len)
      | some bs => State.mapWritten s (u.answer 0) a bs.length

/-- DRAM_ACCESS (R28, R472): a core's goes through its tenant's map, the debug port's is served in BLANK and PROVISIONED only and
reaches scratch banks through port B. -/
def opDramAccess (req : MemReq) (a len : Nat) (write : Option (List Byte)) (found : EccFound) (s : State) : State :=
  match req with
  | .core c t => s.coreAccess c t false a len write found
  | .fetch c t => s.coreAccess c t true a len none found
  | .jtag =>
    if 2 ≤ s.lc then s.busFault
    else if (bankOf a 1).isSome then opPortBAccess a len write none found s
    else s.dramAccess req a len write found
  | _ => s.dramAccess req a len write found

def execDramAccess (t : Nat) (req : MemReq) (addr len : Nat) (write : Option (List Byte)) (found : EccFound)
    (s : State) : Host.Outcome State Fault Refusal := s.runAt t (opDramAccess req addr len write found)

/-! ### Control space (R28, R553) -/

/-- An access of `size` bytes to control space by the steward or the debug port, or of a core at an offset of its tenant window.
Unless it is a naturally aligned access of 4 or 8 bytes it faults, with a bus-error status for the steward (R26), an error response
for the debug port, and as a tenant fault with cause 5 for a core (R196, R553); an aligned one is performed. The scratch-bank range
is no control space for this rule: its accesses follow R466. The debug port reaches control space in BLANK and PROVISIONED only
(R28).
DESIGN CHOICE, log entry 12. -/
def opMisalignedAccess (who : Accessor) (a size : Nat) (write : Option Nat) (s : State) : State :=
  match who with
  | .core c => s.winAccess c a size write
  | .steward | .jtag =>
    if who = .jtag ∧ (2 ≤ s.lc ∨ bar0 ≤ a) then s.busFault
    else if 0x40000000 ≤ a ∧ a < 0x42000000 then opPortBAccess a size (write.map (leBytes size)) none ⟨[], []⟩ s
    else if (size = 4 ∨ size = 8) ∧ a % size = 0 then s.ctlAccess a size write
    else s.busFault

def execMisalignedAccess (t : Nat) (who : Accessor) (addr size : Nat) (write : Option Nat) (s : State) :
    Host.Outcome State Fault Refusal :=
  s.runAt t (opMisalignedAccess who addr size write)

end Sys2Proof.Machine
end

