-- ==== Sys2Proof/Machine/Image.lean ====
section
/-! DEFINITION. Flash, steward and configuration images (R499 to R501, R515 to R517), the writing of register records (R512,
R517), and the load of a tenant image (R205, R517). -/

namespace Sys2Proof.Machine

/-! ### Flash (R515) -/

def State.flashBytes (s : State) (off n : Nat) : List Byte := (List.range n).map (fun i => cget (fun _ => 0) s.sys.flash (off + i))

def State.setFlash (s : State) (off : Nat) (bs : List Byte) : State :=
  let f := ((List.range bs.length).zip bs).foldl (fun (m : Cells Byte) (p : Nat × Byte) => cset (fun _ => 0) m (off + p.1) p.2) s.sys.flash
  { s with sys := { s.sys with flash := f } }

/-- Offset and length of an image slot of the directory: 0, 1 the steward slots A and B, 2, 3 the configuration slots; none
where the directory is not valid. -/
def State.flashSlot (s : State) (k : Nat) : Option (Nat × Nat) :=
  let d := s.flashBytes 0 64
  if slice d 0 4 = bytesOf [0x54, 0x46, 0x44, 0x52] ∧ leAt d 4 2 = 1 then some (leAt d (8 + 8 * k) 4, leAt d (12 + 8 * k) 4) else none

/-- The slots of a kind in the order of PREFER: 0 steward, 1 configuration. -/
def State.slotOrder (s : State) (kind : Nat) : List Nat :=
  if (byteAt (s.flashBytes 6 1) 0).testBit kind then [1, 0] else [0, 1]

/-! ### Image checks (R499, R500, R517) -/

def stImageBad : Nat := 0x05A2
def stSvnLow : Nat := 0x05A3

/-- Whether KEYSEL may sign in the present life-cycle state: slot 1, or an enrolled customer slot in PROVISIONED and DEPLOYED
(R447, R516). -/
def State.keySelOk (s : State) (k : Nat) : Bool :=
  k == 1 || (decide (2 ≤ k) && decide (k ≤ 5) && (s.lc == 1 || s.lc == 2) && (s.slot k).type == 4)

/-- KEYSEL, POINT and SIG of a header (R500): 0, or the status of the first check that fails.
DESIGN CHOICE, log entry 17. -/
def State.signStatus (s : State) (h : List Byte) : Nat :=
  let k := byteAt h 6
  let point := BitVec.ofNat 512 (beAt h 64 64)
  if !s.keySelOk k then stKeyDenied
  else if Config.sha256 (pointBytes point) ≠ (s.slot k).value then stImageBad
  else if !Config.ecdsaVerify point (BitVec.ofNat 512 (beAt h 128 64)) (Config.sha256 (h.take 128)) then stKeySigBad
  else 0

/-- The counter that an image's SVN is held against. -/
def State.svnOf (s : State) (keysel : Nat) : Nat := if keysel = 1 then s.fuses.svnVendor else s.fuses.svnCustomer

/-- A steward image of flash or of an aperture checked under R500.
DESIGN CHOICE, log entry 53. -/
def State.stewardStatus (s : State) (b : List Byte) : Nat :=
  let len := leAt b 16 4
  let load := leAt b 12 4
  let entry := leAt b 20 4
  let zeros := byteAt b 7 = 0 ∧ leAt b 28 4 = 0 ∧ leAt b 192 64 = 0
  if slice b 0 4 ≠ bytesOf [0x54, 0x46, 0x53, 0x59] ∨ leAt b 4 2 ≠ 1 ∨ ¬zeros ∨ load % 4096 ≠ 0 ∨ 0xC0000 < load + len ∨ entry < load
      ∨ load + len ≤ entry ∨ b.length < 256 + len ∨ Config.sha256 (slice b 256 len) ≠ BitVec.ofNat 256 (beAt b 32 32) then stImageBad
  else
    let st := s.signStatus b
    if st ≠ 0 then st else if leAt b 8 4 < s.svnOf (byteAt b 6) then stSvnLow else 0

/-- A section of a configuration image. -/
structure Section where
  type : Nat
  index : Nat
  data : List Byte
  hash : Nat
deriving DecidableEq, Repr

/-- The sections of an image, in image order. -/
def sections (b : List Byte) : List Section :=
  (List.range (leAt b 256 4)).map (fun i =>
    let e := slice b (260 + 48 * i) 48
    { type := leAt e 0 2, index := leAt e 2 2, data := slice b (leAt e 4 4) (leAt e 8 4), hash := beAt e 16 32 })

/-- Whether the section table and the sections lie within an image. -/
def tableOk (b : List Byte) : Bool :=
  let n := leAt b 256 4
  decide (260 + 48 * n ≤ b.length) && (List.range n).all (fun i =>
    let e := slice b (260 + 48 * i) 48
    decide (1 ≤ leAt e 0 2) && decide (leAt e 0 2 ≤ 11) && decide (leAt e 4 4 + leAt e 8 4 ≤ b.length) && leAt e 12 4 == 0)

/-- A configuration image checked under R517. -/
def State.configStatus (s : State) (b : List Byte) : Nat :=
  let zeros := byteAt b 7 = 0 ∧ leAt b 12 4 = 0 ∧ leAt b 20 4 = 0 ∧ leAt b 28 4 = 0 ∧ leAt b 192 64 = 0
  if slice b 0 4 ≠ bytesOf [0x54, 0x46, 0x43, 0x46] ∨ leAt b 4 2 ≠ 1 ∨ ¬zeros ∨ b.length < 256 + leAt b 16 4 ∨ !tableOk b
      ∨ Config.sha256 (slice b 256 (4 + 48 * leAt b 256 4)) ≠ BitVec.ofNat 256 (beAt b 32 32) then stImageBad
  else s.signStatus b

/-- The first absent unit or element that the register records of an image's sections name, as DETAIL gives it (R4). -/
def State.configAbsent (s : State) (b : List Byte) : Option Nat :=
  (((sections b).filter (fun x => x.type == 1 || (decide (3 ≤ x.type) && decide (x.type ≤ 9)))).flatMap (fun x =>
    (chunks 16 (x.data.length / 16 + 1) x.data).map (fun r => leAt r 0 5))).findSome? s.absentUnit

/-- The load of a configuration image: its checks under R517, and that it names nothing that is absent (R4): status and
DETAIL. -/
def State.configCheck (s : State) (b : List Byte) : Nat × Nat :=
  let st := s.configStatus b
  if st ≠ 0 then (st, 0) else match s.configAbsent b with
    | some d => (stAbsent, d)
    | none => (0, 0)

/-- An image as a flash slot holds it: its header and LENGTH bytes; none where the slot is too short for them. -/
def State.imageIn (s : State) (k : Nat) : Option (Nat × List Byte) :=
  match s.flashSlot k with
  | none => none
  | some (off, len) =>
    let n := 256 + leAt (s.flashBytes (off + 16) 4) 0 4
    if len < n then none else some (off, s.flashBytes off n)

/-- The first of some flash slots whose image passes a check. -/
def State.firstImage (s : State) (ok : List Byte → Nat) : List Nat → Option (Nat × Nat × List Byte)
  | [] => none
  | k :: r => match s.imageIn k with
    | some (off, b) => if ok b = 0 then some (k, off, b) else s.firstImage ok r
    | none => s.firstImage ok r

/-- The accepted configuration image, as step 6 of Advent copied it. -/
def State.configImage (s : State) : List Byte :=
  match s.sys.config with
  | some (off, n) => s.flashBytes off n
  | none => []

/-! ### Register records (R512, R517) -/

/-- A register record: address, value, and that its reserved bytes are zero. -/
structure RegRec where
  addr : Nat
  value : Word
  good : Bool
deriving DecidableEq, Repr

def regRecs (b : List Byte) : List RegRec :=
  (chunks 16 (b.length / 16 + 1) b).map (fun r =>
    { addr := leAt r 0 8, value := BitVec.ofNat 32 (leAt r 8 4),
      good := decide (leAt r 0 8 < 2 ^ 40) && leAt r 12 4 == 0 && r.length == 16 })

/-- Where the CFG_REJ bit of a block is.
DESIGN CHOICE, log entry 17. -/
def rejBit (a : Nat) : Nat × Fld :=
  match a / 2 ^ 24 with
  | 0x01 =>
    if 0x01100000 ≤ a ∧ a < 0x0111D000 then (PRT_PORT_STAT ((a - 0x01100000) / 0x1000), PRT_PORT_STAT_CFG_REJ)
    else if 0x01300000 ≤ a ∧ a < 0x01300C00 then (PRT_PORT_STAT (2 * ((a - 0x01300000) / 0x100)), PRT_PORT_STAT_CFG_REJ)
    else (PRT_PORT_STAT 0, PRT_PORT_STAT_CFG_REJ)
  | 0x02 => (FAB_STAT, FAB_STAT_CFG_REJ)
  | 0x03 => (ING_STAT, ING_STAT_CFG_REJ)
  | 0x04 => (ACQ_STAT, ACQ_STAT_CFG_REJ)
  | 0x05 => (SCH_STAT, SCH_STAT_CFG_REJ)
  | 0x06 => (CLE_STAT, CLE_STAT_CFG_REJ)
  | 0x07 => (LGE_STAT, LGE_STAT_CFG_REJ)
  | 0x08 => (OUT_STAT, OUT_STAT_CFG_REJ)
  | 0x09 => (REC_STAT, REC_STAT_CFG_REJ)
  | 0x0A => (ALM_STAT, ALM_STAT_CFG_REJ)
  | 0x0B => (DPX_STAT, DPX_STAT_CFG_REJ)
  | 0x0C => (KEY_STAT, KEY_STAT_CFG_REJ)
  | 0x0D => (MEM_STAT, MEM_STAT_CFG_REJ)
  | 0x0E => (TIM_STAT, TIM_STAT_CFG_REJ)
  | 0x0F => (TEN_STAT, TEN_STAT_CFG_REJ)
  | 0x10 => (SYS_SNAP_STAT, SYS_SNAP_STAT_CFG_REJ)
  | _ => (MBX_STAT, MBX_STAT_CFG_REJ)

/-- A write of the steward's own: whether the hardware took it, and the machine. A write at an address that no present
register has is ignored too (R12, R27). -/
def State.tryWrite (s : State) (a : Nat) (v : Word) : Bool × State :=
  let (r, f) := rejBit a
  let was := s.rdB r f
  let s1 := (s.wrB r f false).ctlWrite a v
  let rej := s1.rdB r f
  (s.existsAt a && !rej, s1.wrB r f (was || rej))

/-- Register records written in order up to the first that is ignored: its index, or none. -/
def State.writeRecs (s : State) : Nat → List RegRec → Option Nat × State
  | _, [] => (none, s)
  | i, r :: rs =>
    if !r.good then (some i, s)
    else
      let (ok, s) := s.tryWrite r.addr r.value
      if ok then s.writeRecs (i + 1) rs else (some i, s)

/-! ### Tenant images (R205, R517) -/

/-- A page record. -/
structure PageRec where
  page : Nat
  write : Bool
  exec : Bool
  bank : Bool
  zero : Bool
  off : Nat
  good : Bool
deriving DecidableEq, Repr

structure TenantImage where
  id : Nat
  home : Nat
  recs : List RegRec
  pages : List PageRec
  good : Bool
deriving DecidableEq, Repr

def parseTenant (b : List Byte) : TenantImage :=
  let n := leAt b 4 4
  let m := leAt b 8 4
  let pages := (chunks 16 m (slice b (64 + 16 * n) (16 * m))).map (fun r =>
    let f := byteAt r 2
    { page := leAt r 0 2, write := f.testBit 0, exec := f.testBit 1, bank := f.testBit 2, zero := f.testBit 3, off := leAt r 4 4,
      good := f < 16 && byteAt r 3 == 0 && leAt r 8 8 == 0 : PageRec })
  { id := leAt b 0 2, home := byteAt b 2, recs := (regRecs (slice b 64 (16 * n))).take n, pages := pages,
    good := decide (64 + 16 * n + 16 * m ≤ b.length) && byteAt b 3 == 0 && leAt b 12 52 == 0 }

/-- Frames that some tenant's map uses, by device address / 65,536. -/
def State.usedFrames (s : State) : List Nat :=
  ((List.range s.tenants).filter (fun t => s.tenState t != 0)).flatMap (fun t =>
    (s.mappedPages t).map (fun v => s.mapEntry t v / 65536 % 2 ^ 24))

/-- The first free frame at or above `f`. -/
def nextFree (used : List Nat) (fin : Nat) : Nat → Nat → Option Nat
  | 0, _ => none
  | n + 1, f => if fin ≤ f then none else if used.contains f then nextFree used fin n (f + 1) else some f

/-- Frames for page records, in order: the lowest free ones (notes/assumptions/44).
DESIGN CHOICE, log entry 18. -/
def State.giveFrames (s : State) (t : Nat) : List Nat → List PageRec → Option (List (PageRec × Nat))
  | _, [] => some []
  | used, p :: ps =>
    let f := if p.bank then (s.bankFrames t).find? (fun f => !used.contains f)
      else nextFree used s.pageRegion.2 (used.length + 1) s.pageRegion.1
    match f with
    | none => none
    | some f => (s.giveFrames t (f :: used) ps).map (fun l => (p, f) :: l)

/-- Where the steward keeps a tenant's map in its own DRAM region (notes/assumptions/44).
DESIGN CHOICE, log entry 18. -/
def stewardMap (t : Nat) : Nat := 0x1004000000 + t * 0x20000

/-- A page written: its map entry, its frame table entry and its contents. -/
def State.putPage (s : State) (t : Nat) (b : List Byte) (x : PageRec × Nat) : State :=
  let p := x.1
  let e := 1 + 2 * b2n p.write + 4 * b2n p.exec + 8 * b2n p.bank + x.2 * 65536
  let s := s.setLe (s.mapBase t + 8 * p.page) 8 e
  let base := s.rd TEN_FRAME_BASE_LO TEN_FRAME_BASE_LO_BASE * 0x1000 + 2 ^ 32 * s.rd TEN_FRAME_BASE_HI TEN_FRAME_BASE_HI_BASE
  let s := match frameIndex (x.2 * 65536) with
    | some i => if p.write then s.setLe (base + 4 * i) 4 (2 ^ 31 + t + 512 * p.page) else s
    | none => s
  let s := { s with mem := cerase (fun a => a / 65536 == x.2) s.mem }
  if p.zero then s else s.setBytes (x.2 * 65536) (slice b p.off 65536)

/-- Whether a tenant-virtual page is one of the image's, writable and in DRAM. -/
def TenantImage.dramPage (i : TenantImage) (v : Nat) : Bool := i.pages.any (fun p => p.page == v && p.write && !p.bank)

/-- The last value that the image's records give a register. -/
def TenantImage.valueOf (i : TenantImage) (a : Nat) : Option Word := ((i.recs.filter (fun r => r.addr == a)).getLast?).map (·.value)

/-- Check 5 of R205: message pages, page 0 where no record names them, and replicated region in pages mapped with WRITE in DRAM.
DESIGN CHOICE, log entry 18. -/
def TenantImage.regionsOk (i : TenantImage) : Bool :=
  let msg := match i.valueOf (TEN_MSG_VA i.id) with
    | some v => i.dramPage (fget TEN_MSG_VA_PAGE v)
    | none => i.dramPage 0
  let repl := match i.valueOf (TEN_REPL i.id) with
    | some v =>
      fget TEN_REPL_EN v == 0 ||
        (i.dramPage (fget TEN_REPL_START v / 256) && i.dramPage ((fget TEN_REPL_START v + fget TEN_REPL_LINES v) / 256))
    | none => true
  msg && repl

/-- The absent unit or element that a record of an image names in its address or its value, as DETAIL gives it (R3, R4): home
clusters, owners of banks, and the tenants that own things. A cluster has no block number of its own: it is named under the block of
the register, its number as the element.
DESIGN CHOICE, log entry 18. -/
def State.recAbsent (s : State) (r : RegRec) : Option Nat :=
  let blk := r.addr / 2 ^ 24 % 256 * 256
  let cluster := fun (c : Nat) => if s.clusterPresent c then none else some (blk + c)
  let ten := fun (t : Nat) => if s.tenantPresent t then none else some (0x0F00 + t % 256)
  let at_ := fun (base n stride : Nat) => (elemOf base n stride r.addr).isSome
  let bank := if at_ (MEM_BANK_OWNER 0) 16 0x40 then
      match fget MEM_BANK_OWNER_KIND r.value with
      | 1 => (cluster (fget MEM_BANK_OWNER_CLUSTER r.value)).or (ten (fget MEM_BANK_OWNER_TENANT r.value))
      | 3 => if s.clePresent then none else some 0x0600
      | _ => none
    else none
  let home := if at_ (TEN_CFG 0) 512 0x100 then cluster (fget TEN_CFG_HOME r.value) else none
  let ring := (at_ (PRT_RXR_OWNER 0) 1024 0x20 || at_ (PRT_TXR_OWNER 0) 1024 0x20) && fget PRT_RXR_OWNER_STEWARD r.value == 0
  let pub := at_ (OUT_PUB_OWNER 0) 4096 4 && fget OUT_PUB_OWNER_VALID r.value == 1
  let owned := ring || pub || at_ (OUT_TRIP_CFG 0) 16 4 || at_ (SCH_FLOW_OWNER 0) 4096 4 || at_ (LGE_PRG_CFG 0) 64 0x100
    || at_ (CLE_LAW_CFG 0) 128 0x100 || (at_ (ING_SUBS 0 0) 65536 4 || at_ (ING_SUBS 1 0) 65536 4) && !r.value.toNat.testBit 31
  (s.absentUnit r.addr).or (home.or (bank.or (if owned then ten (r.value.toNat % 512) else none)))

/-- A trip ball of the image's that belongs to another tenant (check 8 of R205). -/
def State.ballTaken (s : State) (t : Nat) (r : RegRec) : Bool :=
  match elemOf (OUT_TRIP_CFG 0) 16 4 r.addr with
  | some n => s.rdB (OUT_TRIP_CFG n) OUT_TRIP_CFG_EN && s.rd (OUT_TRIP_CFG n) OUT_TRIP_CFG_OWNER != t
  | none => false

/-- The tenants that hold something besides `t`. -/
def State.otherTenants (s : State) (t : Nat) : List Nat := s.liveTenants.filter (fun u => u != t && s.tenState u != 0)

/-- Whether two areas of device addresses meet. -/
def areasMeet (a n b m : Nat) : Bool := decide (0 < n) && decide (0 < m) && decide (a < b + m) && decide (b < a + n)

/-- Whether a record takes a publish slot, a binding, a ring, a key slot or task descriptors that another tenant has (check 7 of
R205).
DESIGN CHOICE, log entry 18. -/
def State.recTaken (s : State) (t : Nat) (r : RegRec) : Bool :=
  let slot := (elemOf (OUT_PUB_OWNER 0) 4096 4 r.addr).any (fun x => (s.slotOwner x).any (· != t))
  let binding := decide (OUT_BINDING 0 0 ≤ r.addr) && decide (r.addr < OUT_BINDING 256 0) &&
    (let x := s.binding ((r.addr - OUT_BINDING 0 0) / 32); x.valid && x.owner != t)
  let ring := fun (i n : Nat) => (s.otherTenants t).any (fun u => (List.range 8).any (fun j => s.slotRing u (i + j) == some n))
  let rx := (elemOf (PRT_RXR_OWNER 0) 1024 0x20 r.addr).any (ring 0)
  let tx := (elemOf (PRT_TXR_OWNER 0) 1024 0x20 r.addr).any (ring 8)
  let key := (elemOf (KEY_HANDLE 0 0) 16384 4 r.addr).isSome && fget KEY_HANDLE_VALID r.value == 1 &&
    (s.otherTenants t).any (fun u => (List.range 32).any (fun h =>
      s.rdB (KEY_HANDLE u h) KEY_HANDLE_VALID && s.rd (KEY_HANDLE u h) KEY_HANDLE_SLOT == fget KEY_HANDLE_SLOT r.value))
  slot || binding || rx || tx || key

/-- Check 7 of R205 on the machine with the image's records: task descriptors within the pool, ring slots bound to rings of the
tenant, a spill area in DRAM that no other tenant has and that holds TEN_LIMIT.ITEMS items (R249), and subscriptions to streams that
the image lists (R195).
DESIGN CHOICE, log entry 18. -/
def State.resourcesOk (s : State) (t : Nat) (addrs : List Nat) : Bool :=
  let (base, size) := s.spillRing t
  decide (s.taskFirst t + s.taskCount t ≤ 8192)
    && (List.range 16).all (fun i => !s.rdB (TEN_RING_SLOT t i) TEN_RING_SLOT_VALID || (s.slotRing t i).isSome)
    && decide (max 1 (s.rd (TEN_LIMIT t) TEN_LIMIT_ITEMS) ≤ size) && s.inDram base (64 * size)
    && !(s.otherTenants t).any (fun u => let (b, n) := s.spillRing u; areasMeet base (64 * size) b (64 * n))
    && s.subsOk addrs

/-- A tenant image loaded: status 0 or the failing check's, DETAIL, and the machine, which is unchanged on a failure
(R205). TEN_REPL is written after ACTIVATE, since it is not writable in EMPTY (R225); the records that name trip balls of another
tenant are left for the last check. DETAIL of an absent home cluster is block 0x0F with the cluster as the element.
DESIGN CHOICE, log entry 18. -/
def State.loadTenant (s0 : State) (b : List Byte) : Nat × Nat × State :=
  let i := parseTenant b
  let t := i.id
  if !i.good then (stImageBad, 0, s0)
  else if !s0.tenantPresent t then (stAbsent, 0x0F00 + t % 256, s0)
  else if s0.tenState t ≠ 0 then (stStateConflict, 1, s0)
  else if !s0.clusterPresent i.home then (stAbsent, 0x0F00 + i.home, s0)
  else match i.recs.findSome? s0.recAbsent with
    | some d => (stAbsent, d, s0)
    | none =>
      if i.pages.any (fun p => !p.good || 16384 ≤ p.page || (!p.zero && b.length < p.off + 65536)) then (0x0504, 3, s0)
      else if (i.pages.map (·.page)).eraseDups.length ≠ i.pages.length then (0x0504, 4, s0)
      else if !i.regionsOk then (0x0504, 5, s0)
      else
        let share := (i.valueOf (TEN_SHARE t)).elim 0 (fget TEN_SHARE_STAGED)
        let s1 := (s0.tryWrite (TEN_CFG t) (fset TEN_CFG_HOME (s0.rdW (TEN_CFG t)) i.home)).2
        if 1024 < s1.stagedSum t share then (stNoResource, 6, s0)
        else if i.recs.any (s0.recTaken t) then (stNoResource, 7, s0)
        else match s0.giveFrames t s0.usedFrames i.pages with
          | none => (stNoResource, 7, s0)
          | some ps =>
            let s := (s1.tryWrite (TEN_MAP_BASE_LO t) (BitVec.ofNat 32 (stewardMap t))).2
            let s := (s.tryWrite (TEN_MAP_BASE_HI t) (BitVec.ofNat 32 (stewardMap t / 2 ^ 32))).2
            let late := fun (r : RegRec) => r.addr == TEN_REPL t
            let (balls, recs) := i.recs.partition (s0.ballTaken t)
            let (bad, s) := s.writeRecs 0 (recs.filter (fun r => !late r))
            let m := stewardMap t
            let s := { s with mem := cerase (fun a => m ≤ a && a < m + 0x20000) s.mem }
            let s := opTenActivate t (ps.foldl (fun (s : State) x => s.putPage t b x) s)
            let (bad', s) := s.writeRecs 0 (recs.filter late)
            let addrs := i.recs.map (·.addr)
            let s := s.noteEntitled t addrs
            if bad.isSome || bad'.isSome || !s.resourcesOk t addrs then (stNoResource, 7, s0)
            else if !balls.isEmpty then (stBusy, 8, s0)
            else (0, 0, s)

end Sys2Proof.Machine
end

