-- ==== Sys2Proof/Machine/Stencils.lean ====
section
/-! DEFINITION. The shipped stencils (R133, R134, R137, R161): what the firmware loads into slots 0 to 7 during Advent. -/

namespace Sys2Proof.Machine

/-- A stencil instruction: OP, A, B and T (R133). -/
def stencilWord (op a b t : Nat) : Nat := op * 2 ^ 24 + a * 65536 + b * 256 + t

/-! The operations that the shipped stencils use, by their names in R134. -/

def iEnd : Nat := stencilWord 0x00 0 0 0
def iDrop (a : Nat) : Nat := stencilWord 0x01 a 0 0
def iMatch (tag t : Nat) : Nat := stencilWord 0x02 tag 0 t
def iMatchAny (t : Nat) : Nat := stencilWord 0x03 0 0 t
def iSkip : Nat := stencilWord 0x04 0 0 0
def iDesc : Nat := stencilWord 0x05 0 0 0
def iAsc : Nat := stencilWord 0x06 0 0 0
def iExh (f : Nat) : Nat := stencilWord 0x07 f 0 0
def iExvq (a n : Nat) : Nat := stencilWord 0x08 a n 0
def iExts : Nat := stencilWord 0x09 0 0 0
def iHash : Nat := stencilWord 0x0A 0 0 0
def iLookup : Nat := stencilWord 0x0B 0 0 0
def iCmpc (f v t : Nat) : Nat := stencilWord 0x0C f v t
def iCmps (f e t : Nat) : Nat := stencilWord 0x0D f e t
def iJmp (t : Nat) : Nat := stencilWord 0x0E 0 0 t
def iJlt (t : Nat) : Nat := stencilWord 0x0F 0 0 t
def iJcon (t : Nat) : Nat := stencilWord 0x10 0 0 t
def iEmit (t : Nat) : Nat := stencilWord 0x11 0 0 t
def iExde : Nat := stencilWord 0x12 0 0 0

/-- Slot 0, the SV key stencil, as R137 lists it. -/
def stencil0 : List Nat :=
  [iMatch 0x60 255, iDesc, iMatch 0x80 255, iExh 0, iMatch 0xA2 255, iDesc, iMatch 0x30 255, iDesc, iMatch 0x80 255, iHash, iLookup]

/-- Slot 1, the GOOSE key stencil: goosePdu, HASH of gocbRef, LOOKUP.
PRESUMED, log entry 60. -/
def stencil1 : List Nat := [iMatch 0x61 255, iDesc, iMatch 0x80 255, iHash, iLookup]

/-- Slot 2, IEC 61850-9-2LE: 1 or 8 ASDUs, 8 channels; datSet, refrTm and smpRate skipped.
PRESUMED, log entry 60. -/
def stencil2 : List Nat :=
  [iMatch 0x60 255, iDesc, iMatch 0x80 255, iExh 0, iCmpc 0 1 6, iJmp 7, iCmpc 0 8 255, iMatch 0xA2 255, iDesc,
   iMatch 0x30 255, iDesc, iMatch 0x80 255, iSkip, iMatch 0x81 15, iSkip, iMatch 0x82 255, iExh 1, iMatch 0x83 255, iExh 2,
   iCmps 2 0 31, iMatch 0x84 22, iSkip, iMatch 0x85 255, iExh 3, iMatch 0x86 26, iSkip, iMatch 0x87 255, iExvq 0 8,
   iAsc, iEmit 9, iEnd, iDrop 0]

/-- Slot 3, IEC 61869-9, as R137 lists it. -/
def stencil3 : List Nat :=
  [iMatch 0x60 255, iDesc, iMatch 0x80 255, iExh 0, iMatch 0xA2 255, iDesc, iMatch 0x30 255, iDesc, iMatch 0x80 255, iSkip,
   iMatch 0x81 12, iSkip, iMatch 0x82 255, iExh 1, iMatch 0x83 255, iExh 2, iCmps 2 0 30, iMatch 0x84 19, iSkip,
   iMatch 0x85 255, iExh 3, iMatch 0x86 23, iExh 4, iMatch 0x87 255, iExvq 0 0, iMatch 0x88 27, iSkip, iAsc, iEmit 6, iEnd,
   iDrop 0]

/-- The optional fields of an ASDU tried in turn from instruction `n` on: datSet, refrTm, smpRate, smpMod and t. -/
def stencil4Options (n : Nat) : List Nat :=
  [iMatch 0x81 (n + 2), iSkip, iMatch 0x84 (n + 4), iSkip, iMatch 0x86 (n + 6), iExh 4, iMatch 0x88 (n + 8), iSkip,
   iMatch 0x89 (n + 10), iExts]

/-- Slot 4, IEC 61850-9-2 general: as slot 3, with the optional fields accepted after every field of an ASDU, and t into TS.
PRESUMED, log entry 60. -/
def stencil4 : List Nat :=
  [iMatch 0x60 255, iDesc, iMatch 0x80 255, iExh 0, iMatch 0xA2 255, iDesc, iMatch 0x30 255, iDesc, iMatch 0x80 255, iSkip]
  ++ stencil4Options 10 ++ [iMatch 0x82 255, iExh 1]
  ++ stencil4Options 22 ++ [iMatch 0x83 255, iExh 2, iCmps 2 0 72]
  ++ stencil4Options 35 ++ [iMatch 0x85 255, iExh 3]
  ++ stencil4Options 47 ++ [iMatch 0x87 255, iExvq 0 0]
  ++ stencil4Options 59 ++ [iAsc, iEmit 6, iEnd, iDrop 0]

/-- Slot 5, IEC 61850-8-1 GOOSE: numDatSetEntries is checked against CHANNELS and a difference discards with reason FORMAT
(R161); allData is flattened with one level of structure.
PRESUMED, log entry 60. -/
def stencil5 : List Nat :=
  [iMatch 0x61 255, iDesc, iMatch 0x80 255, iSkip, iMatch 0x81 255, iExh 7, iMatch 0x82 255, iSkip, iMatch 0x83 10, iSkip,
   iMatch 0x84 255, iExts, iMatch 0x85 255, iExh 5, iMatch 0x86 255, iExh 6, iMatch 0x87 18, iExh 8, iMatch 0x88 255, iExh 2,
   iCmps 2 0 44, iMatch 0x89 23, iExh 9, iMatch 0x8A 255, iExh 10, iCmps 10 1 255, iMatch 0xAB 255, iDesc,
   iJlt 30, iJmp 43, iJcon 34, iMatchAny 255, iExde, iJmp 28,
   iMatchAny 255, iDesc, iJlt 39, iAsc, iJmp 28, iJcon 255, iMatchAny 255, iExde, iJmp 36, iEnd, iDrop 0]

/-- The shipped stencils by slot; slots 6 and 7 read 0 (R137). -/
def shippedStencils : List (Nat × List Nat) := [(0, stencil0), (1, stencil1), (2, stencil2), (3, stencil3), (4, stencil4), (5, stencil5)]

/-- The firmware loads slots 0 to 7 (R137).
DESIGN CHOICE, log entry 28. -/
def State.loadStencils (s : State) : State :=
  let s := { s with regs := cerase (fun a => ING_STENCIL_POOL 0 0 ≤ a && a < ING_STENCIL_POOL 8 0) s.regs }
  shippedStencils.foldl (fun (s : State) x =>
    ((List.range x.2.length).zip x.2).foldl (fun (s : State) i => s.wrW (ING_STENCIL_POOL x.1 i.1) (BitVec.ofNat 32 i.2)) s) s

end Sys2Proof.Machine
end

