-- ==== Sys2Proof/Machine/Advent.lean ====
section
/-! DEFINITION. Advent, the start-up sequence (R445, R451, R501, R508 to R514, R517), its waits, SYS_RESET (R526), and the
steward watchdog (R493, R507). -/

namespace Sys2Proof.Machine

/-! ### Steps and their records (R508, R509) -/

/-- The bound of a step in µs, which limits the free duration its record shows. -/
def stepBound (n : Nat) : Nat :=
  match n with
  | 1 => 1000 | 2 => 2000 | 3 => 5000 | 4 => 1000 | 5 => 150000 | 7 => 4000 | 12 => 1000
  | _ => 2 ^ 32 - 1

/-- A record of Advent: posted, or held until step 5 has enabled the Almanac.
DESIGN CHOICE, log entry 13. -/
def State.adventPost (s : State) (code : Nat) (payload : List Byte) : State :=
  if s.almOn then s.post code payload else { s with sys := { s.sys with held := s.sys.held ++ [(code, payload)] } }

/-- SYS_ADVENT.STEP shows the step in progress. -/
def State.atStep (s : State) (n : Nat) : State :=
  (s.wr SYS_ADVENT SYS_ADVENT_STEP n).wr SYS_ADVENT SYS_ADVENT_STATE 0

/-- A step of one command ends: 0x1081 with a duration that no rule gives. -/
def State.stepDone (s : State) (n : Nat) : State :=
  let (u, s) := s.draw
  s.adventPost 0x1081 (p1 n ++ p4 (u.toNat % (stepBound n + 1)))

/-- A step that waited ends: 0x1081 with the time it took. -/
def State.waitDone (s : State) (n since : Nat) : State := s.adventPost 0x1081 (p1 n ++ p4 ((s.now - since) / 1000))

/-- A halt (R509). -/
def State.halt (s : State) (cause detail : Nat) : State :=
  let s := { s with sys := { s.sys with advent := none } }
  let s := ((s.wr SYS_ADVENT SYS_ADVENT_STATE 2).wr SYS_ADVENT SYS_ADVENT_CAUSE cause).wr SYS_ADVENT SYS_ADVENT_DETAIL detail
  if s.almOn then s.post 0x1082 (p1 cause ++ p2 detail) else s

/-- A step: whether the next one follows, and the machine. -/
abbrev AdvStep := State → Bool × State

def runSteps : List AdvStep → State → State
  | [], s => s
  | f :: fs, s => let (go, s) := f s; if go then runSteps fs s else s

/-! ### Steps 1 to 4 (R434, R445, R447, R449, R451) -/

def adv1 (wake : Bool) : AdvStep := fun s =>
  let s := (s.atStep 1).wrB SYS_ADVENT SYS_ADVENT_WAKE wake
  (true, s.stepDone 1)

/-- MBX_CTRL.EN with the PCIe endpoint started; commands are accepted. -/
def State.mailboxesOn (s : State) : State :=
  let s := (s.wrB MBX_CTRL MBX_CTRL_EN true).wrB MBX_CTRL MBX_CTRL_PCIE_EN true
  { s with mbx := { s.mbx with ready := true } }

def adv2 (i : AdventIn) : AdvStep := fun s =>
  let s := s.atStep 2
  if i.fuseBad then (false, s.mailboxesOn.halt 1 0)
  else
    let s := s.wr KEY_STAT KEY_STAT_LC s.fuses.lc
    let s := (List.range 16).foldl (fun (s : State) n =>
      (s.wr (MEM_BANK_REPAIR n) MEM_BANK_REPAIR_USED (cget (fun _ => 0) s.fuses.bankUsed n)).wr (MEM_BANK_REPAIR n)
        MEM_BANK_REPAIR_SUBARRAYS (cget (fun _ => 0) s.fuses.bankSub n)) s
    let s := if 2 ≤ s.lc then s.wrW KEY_TAMPER_CFG (BitVec.ofNat 32 s.fuses.tamper) else s
    (true, s.stepDone 2)

/-- DESIGN CHOICE, log entry 17. -/
def adv3 (i : AdventIn) : AdvStep := fun s =>
  let s := s.atStep 3
  if i.romBad then (false, s.halt 2 0) else (true, s.mailboxesOn.stepDone 3)

/-- Bytes of an ASCII label. -/
def asciiBytes (x : String) : List Byte := bytesOf (x.toList.map Char.toNat)

/-- DEVICE_ID as cryptographic inputs take it (R445). -/
def State.idBytes (s : State) : List Byte := beBytes 8 s.fuses.deviceId

/-- The root of R445. -/
def State.rootValue (s : State) : BitVec 256 := kdf Config.deviceSecret (asciiBytes "TF-MLS71-ROOT") s.idBytes

/-- A PUBHASH fixed slot for VERIFY by the steward. -/
def State.pubhashSlot (s : State) (x : Nat) (secure : Bool) (lcs : Nat) (h : BitVec 256) : State :=
  s.setSlot x { type := 4, secure := secure, fixed := true, usage := 2 ^ uVerify, masters := 1, lc := lcs, gen := (s.slot x).gen,
                kcv := keyKcv 4 h, value := h }

/-- The hash enrolled in customer slot `c` and not revoked (R448). -/
def State.customerKey (s : State) (c : Nat) : Option (BitVec 256) :=
  if s.fuses.revoked.getD c false then none else s.fuses.customer.getD c none

/-- Slots 2 to 5 as the fuses have them (R434, R448). -/
def State.customerSlots (s : State) : State :=
  (List.range 4).foldl (fun (s : State) c =>
    match s.customerKey c with
    | some h => s.pubhashSlot (c + 2) false 6 h
    | none => s.setSlot (c + 2) { freeSlot with gen := (s.slot (c + 2)).gen }) s

/-- The fixed slots (R434): the root, except in DECOMMISSIONED, the vendor key and the customer keys. -/
def State.fixedSlots (s : State) : State :=
  let v := s.rootValue
  let s := if s.lc = 3 then s.setSlot 0 { freeSlot with gen := (s.slot 0).gen }
    else s.setSlot 0 { type := 1, secure := true, fixed := true, usage := 2 ^ uDerive, masters := 1, lc := 7, gen := (s.slot 0).gen,
                       kcv := keyKcv 1 v, value := v }
  (s.pubhashSlot 1 true 15 Config.romVendorKeyHash).customerSlots

def adv4 : AdvStep := fun s =>
  let s := s.atStep 4
  if s.key.live ≠ 0 then
    (false, s.tamperZero.tamperHold)
  else
    let s := ({ s with key := { s.key with emptied := false } } : State).fixedSlots
    let s := s.wrB KEY_STAT KEY_STAT_SERVICE (!s.rdB KEY_TAMPER_CAUSE KEY_TAMPER_CAUSE_LATCHED)
    (true, (s.wrB KEY_CTRL KEY_CTRL_EN true).stepDone 4)

/-! ### Step 5 (R500, R501, R515 to R517) -/

/-- Slot 6 before a steward image is entered (R501). -/
def State.setSlot6 (s : State) (keysel : Nat) : State :=
  let k := s.slot 6
  if keysel = 1 then (if k.type = 0 then s else s.setSlot 6 (freedSlot k))
  else
    let v := kdf (s.slot 0).value (asciiBytes "TF-MLS71-CUST") (valueBytes (s.slot keysel).value)
    let n : KeySlot := { type := 2, usage := 2 ^ uDerive + 2 ^ uWrap + 2 ^ uUnwrap, masters := 1, lc := 6, parent := 0,
                         parentGen := (s.slot 0).gen, gen := k.gen, depth := 1, kcv := keyKcv 2 v, value := v }
    if k = n then s else s.setSlot 6 { n with gen := nextGen k.gen }

/-- The steward image chosen: its flash slot, offset and bytes. -/
def State.enterImage (s : State) (k off : Nat) (b : List Byte) : State :=
  let sel := byteAt b 6
  let s := { s with key := { s.key with secureWorld := sel == 1 }, sys := { s.sys with image := some (off, b.length) } }
  let s := (s.wrB SYS_BOOT SYS_BOOT_STEWARD_SLOT (k == 1)).wr SYS_BOOT SYS_BOOT_KEYSEL sel
  (s.wr SYS_BOOT SYS_BOOT_SVN (leAt b 8 4)).setSlot6 sel

/-- A PUBHASH slot imported for a principal under the image's own root, in the lowest free slot above 7. -/
def State.importHash (s : State) (h : BitVec 256) : Option (Nat × State) :=
  let parent := if s.key.secureWorld then 0 else 6
  let p := s.slot parent
  ((List.range 4088).map (· + 8)).find? (fun x => (s.slot x).type == 0) |>.map fun x =>
    (x, s.setSlot x { type := 4, usage := 2 ^ uVerify, masters := 1, lc := p.lc, parent := parent, parentGen := p.gen,
                      gen := (s.slot x).gen + 1, depth := p.depth + 1, kcv := keyKcv 4 h, value := h })

/-- Principal records of section 2 in order, up to the first that is not in order: its index, or none.
DESIGN CHOICE, log entry 17. -/
def State.takePrincipals (s : State) : Nat → List (List Byte) → Option Nat × State
  | _, [] => (none, s)
  | i, r :: rs =>
    let id := leAt r 0 2
    if 0xFFEF < id ∨ 4 < byteAt r 2 ∨ 1 < byteAt r 3 ∨ leAt r 4 12 ≠ 0 ∨ s.mbx.principals.any (fun p => p.id == id) then (some i, s)
    else match s.importHash (BitVec.ofNat 256 (beAt r 16 32)) with
      | none => (some i, s)
      | some (x, s) =>
        let p : Principal := { id := id, role := byteAt r 2, clear := byteAt r 3 == 1, slot := x }
        ({ s with mbx := { s.mbx with principals := s.mbx.principals ++ [p] } } : State).takePrincipals (i + 1) rs

/-- Section 2 (R517): session settings and principals. -/
def State.applySettings (s : State) (b : List Byte) : Option Nat × State :=
  let idle := leAt b 0 4
  let n := leAt b 32 4
  if b.length < 64 + 48 * n ∨ 32 < n ∨ (idle ≠ 0 ∧ (idle < 60 ∨ 86400 < idle)) ∨ 8 ≤ byteAt b 4 ∨ 32 < byteAt b 5 ∨ 128 < byteAt b 28
      ∨ leAt b 29 3 ≠ 0 ∨ leAt b 36 28 ≠ 0 then (some 0, s)
  else
    let ip4 := if (byteAt b 4).testBit 1 then some (beAt b 8 4) else none
    let ip6 := if (byteAt b 4).testBit 2 then some (beAt b 12 16) else none
    let m := { s.mbx with ip4 := ip4, ip4Len := byteAt b 5, ip6 := ip6, ip6Len := byteAt b 28 }
    let s := { s with mbx := { m with idle := if idle = 0 then 600 else idle } }
    let s := s.wr MBX_UDP MBX_UDP_PORT (if leAt b 6 2 = 0 then 57344 else leAt b 6 2)
    let s := s.wrB MBX_CTRL MBX_CTRL_UDP_EN ((byteAt b 4).testBit 0)
    s.takePrincipals 0 (chunks 48 n (slice b 64 (48 * n)))

/-- The sections of a type that the accepted image holds. -/
def State.sectionsOf (s : State) (ty : Nat) : List Section :=
  if s.sys.config.isNone then [] else (sections s.configImage).filter (fun x => x.type == ty)

/-- A section's records written, or a halt with cause CONFIG (R512). An ACQ_CTRL record of section 8 leaves EN to step 12. -/
def State.applySection (s : State) (x : Section) : Bool × State :=
  let recs := (regRecs x.data).map (fun r =>
    if x.type = 8 ∧ r.addr = ACQ_CTRL then { r with value := fset ACQ_CTRL_EN r.value 0 } else r)
  let (bad, s) := if x.type = 2 then s.applySettings x.data else s.writeRecs 0 recs
  match bad with
  | none => (true, s)
  | some i => (false, s.halt 7 (x.type * 256 + i % 256))

/-- Sections of some types, in ascending type order and image order. -/
def State.applyTypes (s : State) (tys : List Nat) : Bool × State :=
  (tys.flatMap s.sectionsOf).foldl (fun (r : Bool × State) x => if r.1 then r.2.applySection x else r) (true, s)

/-- Held records are posted once the Almanac is on: steps 1 to 4, tamper causes (R451), the wake (R520). -/
def State.postHeld (s : State) : State :=
  let evs := s.sys.held
  let tam := s.key.held
  let s : State := { s with sys := { s.sys with held := [] }, key := { s.key with held := [] } }
  let s := evs.foldl (fun (s : State) e => s.post e.1 e.2) s
  let s := tam.foldl (fun (s : State) c => s.post 0x0C07 (p1 c.1 ++ p1 c.2.1 ++ p8 c.2.2)) s
  if s.rdB SYS_ADVENT SYS_ADVENT_WAKE then
    (s.bump cntSYS_WAKES 1).post 0x1084 (p1 (s.rd SYS_RESET_CAUSE SYS_RESET_CAUSE_WAKE_SRC)
      ++ p8 (s.rd64 SYS_DORMANT_TIME_LO SYS_DORMANT_TIME_HI) ++ p1 s.sys.entryCause)
  else s

/-- DESIGN CHOICE, log entry 17. -/
def adv5 : AdvStep := fun s =>
  let s := s.atStep 5
  match s.firstImage s.stewardStatus (s.slotOrder 0) with
  | none => (false, s.halt 4 0)
  | some (k, off, b) =>
    let s := s.enterImage k off b
    let s := match s.firstImage (fun b => (s.configCheck b).1) ((s.slotOrder 1).map (· + 2)) with
      | none => s
      | some (c, off, b) =>
        let s := { s with sys := { s.sys with config := some (off, b.length) } }
        (s.wrB SYS_BOOT SYS_BOOT_CONFIG_VALID true).wrB SYS_BOOT SYS_BOOT_CONFIG_SLOT (c == 3)
    let (ok, s) := s.applyTypes [1, 2]
    if !ok then (false, s)
    else
      let s := s.wdogWrite (fset SYS_WDOG_CFG_EN (s.rdW SYS_WDOG_CFG) 1)
      (true, (s.almEnable.postHeld).stepDone 5)

/-! ### Steps 6 to 9 (R469, R471, R508, R512) -/

/-- Whether every section has the hash its table entry gives. -/
def State.hashesOk (s : State) : Bool :=
  (sections s.configImage).all (fun x => Config.sha256 x.data == BitVec.ofNat 256 x.hash)

def State.configured (s : State) : Bool := s.sys.config.isSome && !s.rdB SYS_ADVENT SYS_ADVENT_UNCONFIGURED

/-- Sections applied where the image stands. -/
def State.applyIf (s : State) (ok : Bool) (tys : List Nat) : Bool × State :=
  if ok && s.configured then s.applyTypes tys else (true, s)

def State.serving (s : State) : Bool := s.rdB KEY_STAT KEY_STAT_SERVICE

def adv6 (i : AdventIn) : AdvStep := fun s =>
  let s := s.atStep 6
  if i.dramBad then (false, s.halt 5 0)
  else
    let s := s.wrB MEM_DRAM_STAT MEM_DRAM_STAT_TRAINED true
    let s := s.wrB SYS_ADVENT SYS_ADVENT_UNCONFIGURED (s.sys.config.isNone || !s.hashesOk)
    (true, s.stepDone 6)

def adv7 (i : AdventIn) : AdvStep := fun s =>
  let s := s.atStep 7
  let s := (List.range 16).foldl (fun (s : State) n => s.bistOutcome n ((i.bistBad.find? (fun x => x.1 == n)).map (·.2))) s
  let s := (s.wrB MEM_CTRL MEM_CTRL_EN true).wrB MEM_CTRL MEM_CTRL_SCRUB_EN true
  (true, (s.wrB MEM_STAT MEM_STAT_BIST_DONE true).stepDone 7)

def adv8 (i : AdventIn) : AdvStep := fun s =>
  let s := opCalendarSelfTest i.calBad (s.atStep 8)
  if i.calBad.isSome then (false, s.halt 6 0)
  else
    let (ok, s) := s.applyIf true [3]
    if !ok then (false, s)
    else (true, (s.fabCtrlWrite (fset FAB_CTRL_EN (s.rdW FAB_CTRL) 1)).stepDone 8)

/-- Step 9 begins: section 4 applied, PTP_EN set, and the wait for lock. -/
def adv9 (i : AdventIn) (began : Nat) : AdvStep := fun s =>
  let (ok, s) := (s.atStep 9).applyIf true [4]
  if !ok then (false, s)
  else
    let s := s.wrB TIM_CTRL TIM_CTRL_PTP_EN true
    (true, { s with sys := { s.sys with advent := some { input := i, began := began, stepAt := s.now } } })

/-- Whether the synch state ends step 9 (R510). -/
def State.lockArrived (s : State) : Bool :=
  if s.rdB SYS_ADVENT_CFG SYS_ADVENT_CFG_REQUIRE_GLOBAL then s.synch == 2 else s.synch == 1 || s.synch == 2

/-! ### Steps 10 to 12 (R405, R406, R420, R508, R511, R513, R514) -/

def adv10 : AdvStep := fun s =>
  let s := s.atStep 10
  let s := { s with sys := { s.sys with advent := s.sys.advent.map (fun (r : AdventRun) => { r with stepAt := s.now }) } }
  let (ok, s) := s.applyIf s.serving [5]
  if !ok then (false, s)
  else
    let s := if s.serving then s else s.wrB DPX_CFG DPX_CFG_PAIR_EN false
    let s := s.dpxCtrlWrite (fset DPX_CTRL_EN (s.rdW DPX_CTRL) 1)
    (true, if s.pairMember ∧ !s.fenced then opRequestRole s else s)

/-- Whether the role of step 10 is taken (R405, R406). -/
def State.roleTaken (s : State) : Bool := !s.pairMember || s.role == 5 || (s.role != 6 && !s.dpx.asking)

/-- Hand-overs of section 6 end before the sections that use the banks. -/
def State.banksReady (s : State) : State :=
  (List.range 16).foldl (fun (s : State) n => opBankZeroingDone n (opBankIdle n s)) s

/-- Tenant images of the configuration image, in ascending tenant ID; a bad one leaves its tenant EMPTY (R512). -/
def State.loadImages (s : State) : State :=
  ((s.sectionsOf 10).mergeSort (fun x y => decide (x.index ≤ y.index))).foldl (fun (s : State) x =>
    let (st, _, s1) := s.loadTenant x.data
    let st := if leAt x.data 0 2 = x.index then st else stImageBad
    if st = 0 then s1 else s.post 0x1085 (p1 10 ++ p2 x.index ++ p2 st)) s

/-- The frame table's place in the steward's region (R473), where the image names none.
DESIGN CHOICE, log entry 18. -/
def State.placeFrameTable (s : State) : State :=
  if s.rdW TEN_FRAME_BASE_LO = 0 ∧ s.rdW TEN_FRAME_BASE_HI = 0 then s.wr64 TEN_FRAME_BASE_LO TEN_FRAME_BASE_HI 0x1002000000 else s

/-- The stream table flipped while the grid is off (R513). -/
def State.flipTable (s : State) : State :=
  let s := opIngFlip s
  if s.gridOn then s else s.applyStaged

/-- DESIGN CHOICE, log entry 17. -/
def adv11 : AdvStep := fun s =>
  let s := ((s.atStep 11).wrB SCH_CTRL SCH_CTRL_EN true).loadStencils
  let (ok, s) := s.applyIf s.serving [6]
  if !ok then (false, s)
  else
    let (ok, s) := s.banksReady.applyIf s.serving [7, 8, 9]
    if !ok then (false, s)
    else
      let s := if s.serving && s.configured then s.placeFrameTable.loadImages else s
      (true, s.flipTable.stepDone 11)

/-- The tenants of the start list that the role starts (R514).
DESIGN CHOICE, log entry 17. -/
def State.startList (s : State) : List Nat :=
  let listed := (List.range s.tenants).filter (fun t => (s.sectionsOf 11).any (fun x => (byteAt x.data (t / 8)).testBit (t % 8)))
  if s.role = 1 then (List.range s.tenants).filter (fun t => listed.contains t || s.replicates t)
  else if s.role = 2 ∨ s.role = 3 ∨ s.role = 5 then listed.filter (fun t => !s.replicates t)
  else listed

/-- ACQ_CTRL as section 8 sets it. -/
def State.acqSet (s : State) : State :=
  match (((s.sectionsOf 8).flatMap (fun x => regRecs x.data)).filter (fun r => r.addr == ACQ_CTRL)).getLast? with
  | some r => s.ctlWrite ACQ_CTRL r.value
  | none => s

/-- DESIGN CHOICE, log entry 17. -/
def adv12 (began : Nat) : AdvStep := fun s =>
  let s := s.atStep 12
  let s := ((s.wrB ING_CTRL ING_CTRL_EN true).wrB LGE_CTRL LGE_CTRL_EN true).wrB REC_CTRL REC_CTRL_EN true
  let s := if s.clePresent then s.wrB CLE_CTRL CLE_CTRL_EN true else s
  let s := s.outCtrlWrite (fset OUT_CTRL_EN (s.rdW OUT_CTRL) 1)
  let s := if s.role = 0 then s.outCtrlWrite (fset OUT_CTRL_PUB_EN (s.rdW OUT_CTRL) 1) else s
  let live := s.serving && s.configured
  let s := if live then s.acqSet else s
  let s := opGridEnable (s.rdB TIM_CTRL TIM_CTRL_SRC) (s.rdB TIM_CTRL TIM_CTRL_PTP_EN) s
  let s := (if live then s.startList else []).foldl (fun (s : State) t => opTenStart t s) s
  let s := { s with sys := { s.sys with advent := none } }
  let s := (s.wr SYS_ADVENT SYS_ADVENT_STATE 1).stepDone 12
  (true, s.adventPost 0x1083 (p4 ((s.now - began) / 1000000) ++ p1 (b2n (s.rdB SYS_ADVENT SYS_ADVENT_UNCONFIGURED))
    ++ p4 (s.rdW SYS_RESET_CAUSE).toNat))

/-- Step 10 goes on where its role is taken; in PENDING it waits (R406). -/
def State.pollRole (s : State) (r : AdventRun) : State :=
  if s.roleTaken then runSteps [adv11, adv12 r.began] (s.waitDone 10 r.stepAt)
  else s.wr SYS_ADVENT SYS_ADVENT_STATE (if s.role = 6 then 3 else 0)

/-- Step 9 ends, step 10 runs. -/
def State.endLock (s : State) (r : AdventRun) : State :=
  let (ok, s) := adv10 (s.waitDone 9 r.stepAt)
  if ok then s.pollRole { r with stepAt := s.now } else s

/-- A start-up that waits goes on as soon as it may. -/
def State.adventPoll (s : State) : State :=
  match s.sys.advent with
  | none => s
  | some r =>
    if s.rd SYS_ADVENT SYS_ADVENT_STEP = 9 then (if s.lockArrived then s.endLock r else s) else s.pollRole r

/-- Advent from step 1 (R506, R508).
DESIGN CHOICE, log entry 17. -/
def State.adventStart (s : State) (i : AdventIn) (wake : Bool) : State :=
  (runSteps [adv1 wake, adv2 i, adv3 i, adv4, adv5, adv6 i, adv7 i, adv8 i, adv9 i s.now] s).adventPoll

/-! ### Releases, waits and what ends them -/

/-- POR_N released: step 1, where RST_N is high too. -/
def opPorNRelease (i : AdventIn) (s : State) : State :=
  if !s.sys.porLow then s
  else
    let s := { s with sys := { s.sys with porLow := false } }
    if s.sys.rstLow then s else s.adventStart i false

def execPorNRelease (t : Nat) (input : AdventIn) (s : State) : Host.Outcome State Fault Refusal :=
  s.runAt t (opPorNRelease input)

/-- RST_N released; in Dormant the module stays there. -/
def opRstNRelease (i : AdventIn) (s : State) : State :=
  if !s.sys.rstLow then s
  else
    let s := { s with sys := { s.sys with rstLow := false } }
    if s.sys.porLow ∨ s.sys.dormant ≠ 0 then s else s.adventStart i false

def execRstNRelease (t : Nat) (input : AdventIn) (s : State) : Host.Outcome State Fault Refusal :=
  s.runAt t (opRstNRelease input)

/-- RAIL_DELAY after a wake has passed (R520). -/
def opRailDelayExpiry (i : AdventIn) (s : State) : State :=
  if s.sys.dormant ≠ 2 ∨ s.now < s.sys.wakeAt + max 1 (s.rd SYS_DORMANT_CTRL SYS_DORMANT_CTRL_RAIL_DELAY) * 1000000 then s
  else
    let s := { s with sys := { s.sys with dormant := 0 } }
    if s.sys.porLow ∨ s.sys.rstLow then s else s.adventStart i true

def execRailDelayExpiry (t : Nat) (input : AdventIn) (s : State) : Host.Outcome State Fault Refusal :=
  s.runAt t (opRailDelayExpiry input)

/-- PTP_WAIT has passed in step 9 (R510). -/
def opPtpWaitExpired (s : State) : State :=
  match s.sys.advent with
  | none => s
  | some r =>
    let wait := max 1 (s.rd SYS_ADVENT_CFG SYS_ADVENT_CFG_PTP_WAIT) * 1000000000
    if s.rd SYS_ADVENT SYS_ADVENT_STEP ≠ 9 ∨ s.now < r.stepAt + wait ∨ s.rd SYS_ADVENT SYS_ADVENT_STATE = 3 then s
    else if s.rdB SYS_ADVENT_CFG SYS_ADVENT_CFG_REQUIRE_SYNC then s.wr SYS_ADVENT SYS_ADVENT_STATE 3
    else (s.post 0x1086 []).endLock r

def execPtpWaitExpired (t : Nat) (s : State) : Host.Outcome State Fault Refusal := s.runAt t opPtpWaitExpired

def execPtpEventMessage (t port : Nat) (kind : PtpKind) (times gm : Nat × Nat) (bytes : List (BitVec 8)) (s : State) :
    Host.Outcome State Fault Refusal :=
  s.runAt t (fun s => (opPtpEventMessage port (ptpMsg kind times gm bytes) s).adventPoll)
def execClockclassChange (t gmClass : Nat) (s : State) : Host.Outcome State Fault Refusal :=
  s.runAt t (fun s => (opClockclassChange gmClass s).adventPoll)
def execBecomeGrandmaster (t : Nat) (s : State) : Host.Outcome State Fault Refusal :=
  s.runAt t (fun s => (opBecomeGrandmaster s).adventPoll)
def execPpsInEdge (t : Nat) (rising : Bool) (s : State) : Host.Outcome State Fault Refusal :=
  s.runAt t (fun s => (opPpsInEdge rising s).adventPoll)
def execRoleAnswer (t : Nat) (s : State) : Host.Outcome State Fault Refusal := s.runAt t (fun s => (opRoleAnswer s).adventPoll)
def execNegWaitExpiry (t : Nat) (s : State) : Host.Outcome State Fault Refusal := s.runAt t (fun s => (opNegWaitExpiry s).adventPoll)
def execFenceAssert (t : Nat) (s : State) : Host.Outcome State Fault Refusal := s.runAt t (fun s => (opFenceAssert s).adventPoll)

/-! ### Resets that the module makes itself (R505, R507, R526) -/

/-- How the steps of a start-up that no command began turn out: free values.
DESIGN CHOICE, log entry 5. -/
def State.drawAdvent (s : State) : AdventIn × State :=
  let (a, s) := s.draw
  let (b, s) := s.draw
  let n := a.toNat
  let i : AdventIn :=
    { fuseBad := n.testBit 0, romBad := n.testBit 1, dramBad := n.testBit 2,
      bistBad := ((List.range 16).filter (fun x => n.testBit (16 + x))).map (fun x => (x, b.toNat / 16 ^ x % 16)),
      calBad := if n.testBit 3 then some (n / 256 % 32) else none }
  (i, s)

/-- A reset as by RST_N, with its cause, and the Advent that follows.
DESIGN CHOICE, log entry 19. -/
def State.selfReset (s : State) (cause : Fld) : State :=
  let s := (s.resetUnits true false).wrB SYS_RESET_CAUSE cause true
  let (i, s) := s.drawAdvent
  s.adventStart i false

/-! ### The steward watchdog (R493, R507) -/

/-- TIMEOUT has passed without a kick. -/
def State.wdogDue (s : State) : Bool :=
  s.rdB SYS_WDOG_CFG SYS_WDOG_CFG_EN && decide (s.sys.kickAt + s.rd SYS_WDOG_CFG SYS_WDOG_CFG_TIMEOUT * 1000000 ≤ s.now)

/-- R493 items 1 and 2: BUSY mailboxes return to FREE, completions and jobs are lost.
DESIGN CHOICE, log entry 19. -/
def State.dropWork (s : State) : State :=
  let s := (List.range 32).foldl (fun (s : State) m =>
    let b := s.box m
    let b : HostBox := if b.state = 1 then { b with state := 0, restart := true, queue := [] } else { b with queue := [] }
    (s.setBox m b).wr (MBX_MB_PEND m) MBX_MB_PEND_PENDING 0) s
  { s with mbx := { s.mbx with jobs := [], udpDone := [], peers := [], reass := [], confirms := [], restarted := true, ready := false } }

/-- DESIGN CHOICE, log entry 19. -/
def opStewardWatchdog (s : State) : State :=
  if !s.wdogDue then s
  else
    let recent := (s.sys.wdogTimes.filter (fun x => s.now < x + 60000000000)) ++ [s.now]
    let s := ({ s with sys := { s.sys with wdogTimes := recent, kickAt := s.now } } : State).bump cntSYS_WDOG_RESETS 1
    if s.rdB SYS_WDOG_CFG SYS_WDOG_CFG_ESCALATE ∧ 3 ≤ recent.length then s.selfReset SYS_RESET_CAUSE_WDOG_ESCALATE
    else s.dropWork.vector 32 s.mbx.globalInt

def execStewardWatchdog (t : Nat) (s : State) : Host.Outcome State Fault Refusal := s.runAt t opStewardWatchdog

/-- The restarted firmware ends every session and takes commands again (R493 items 3 and 4); the ROM has verified the image of
the slot that Advent booted, or of the other one (R507).
DESIGN CHOICE, log entry 19. -/
def opStewardRestart (s : State) : State :=
  if s.mbx.ready ∨ !s.rdB SYS_WDOG_CFG SYS_WDOG_CFG_EN then s
  else
    let b := s.rd SYS_BOOT SYS_BOOT_STEWARD_SLOT
    match s.firstImage s.stewardStatus [b, 1 - b] with
    | none => s
    | some (k, off, img) =>
      let s := (s.enterImage k off img).endSessions 5
      let s := { s with mbx := { s.mbx with ready := true }, sys := { s.sys with kickAt := s.now } }
      (s.vector 32 s.mbx.globalInt).postTo 0x20C 0x1281 (p1 1)

def execStewardRestart (t : Nat) (s : State) : Host.Outcome State Fault Refusal := s.runAt t opStewardRestart

end Sys2Proof.Machine
end

