-- ==== Sys2Proof/Machine/Mbx.lean ====
section
/-! DEFINITION. How the steward's firmware serves a command (R477 to R494): headers and AUTH, the checks of R483, sessions and
SEQUENCE, responses, completions, the two transports. What the commands do stands in the MbxXxx files. -/

namespace Sys2Proof

/-! ### Fields of a payload -/

def Cmd.n1 (c : Cmd) (off : Nat) : Nat := Machine.byteAt c.payload off
def Cmd.n2 (c : Cmd) (off : Nat) : Nat := Machine.leAt c.payload off 2
def Cmd.n4 (c : Cmd) (off : Nat) : Nat := Machine.leAt c.payload off 4
def Cmd.n8 (c : Cmd) (off : Nat) : Nat := Machine.leAt c.payload off 8

end Sys2Proof

namespace Sys2Proof.Machine

/-! ### Status codes (R484) -/

def stBadVersion : Nat := 0x0101
def stBadLength : Nat := 0x0102
def stBadOpcode : Nat := 0x0103
def stBadField : Nat := 0x0104
def stAuthFail : Nat := 0x0201
def stNoSession : Nat := 0x0202
def stRoleDenied : Nat := 0x0203
def stReplay : Nat := 0x0204
def stLcDenied : Nat := 0x0205
def stRightDenied : Nat := 0x0206
def stStewardRestart : Nat := 0x05A0
def stApertureBad : Nat := 0x05A1
def stFlipRejected : Nat := 0x05B0
def stFlipCancelled : Nat := 0x05B1

/-! ### The catalogue (R496, R483) -/

/-- What R496 and R483 say of an opcode: the role it needs (0 VIEWER to 4 VENDOR; 0 also where no role is named), and whether it
is a status command or a recovery command. -/
structure CmdInfo where
  role : Nat
  status : Bool
  recovery : Bool
deriving DecidableEq, Repr

/-- Opcode, role, and class: 0 ordinary, 1 status command, 2 recovery command.
DESIGN CHOICE, log entry 7. -/
def catalogue : List (Nat × Nat × Nat) :=
  [(0x0101, 0, 1), (0x0110, 2, 0), (0x0111, 2, 0), (0x0201, 0, 1), (0x0210, 2, 0), (0x0211, 2, 0), (0x0212, 2, 0),
   (0x0301, 0, 1), (0x0310, 2, 0), (0x0311, 2, 0), (0x0312, 2, 0), (0x0313, 2, 0), (0x0314, 0, 0),
   (0x0401, 0, 1), (0x0410, 2, 0), (0x0411, 2, 0), (0x0412, 1, 0), (0x0501, 0, 1), (0x0510, 2, 0),
   (0x0601, 0, 1), (0x0602, 0, 1), (0x0610, 2, 0), (0x0611, 2, 0), (0x0612, 2, 0), (0x0613, 2, 0), (0x0614, 2, 0),
   (0x0701, 0, 1), (0x0710, 2, 0), (0x0711, 2, 0), (0x0712, 2, 0), (0x0713, 2, 0), (0x0714, 2, 0)] ++
  [(0x0801, 0, 1), (0x0810, 1, 0), (0x0811, 2, 0), (0x0812, 1, 0), (0x0813, 0, 0),
   (0x0901, 1, 0), (0x0902, 1, 0), (0x0903, 1, 0), (0x0904, 1, 0), (0x0905, 0, 1),
   (0x0A10, 0, 0), (0x0A11, 0, 0), (0x0A12, 0, 1), (0x0A13, 0, 1),
   (0x0B10, 0, 1), (0x0B11, 2, 0), (0x0B12, 2, 0), (0x0B13, 2, 0), (0x0B14, 3, 0),
   (0x0C01, 0, 1), (0x0C10, 3, 2), (0x0C11, 3, 2), (0x0C12, 3, 2), (0x0C13, 3, 2), (0x0C14, 3, 2), (0x0C15, 3, 2),
   (0x0C16, 3, 2), (0x0C17, 3, 2), (0x0C18, 3, 2), (0x0C20, 3, 2), (0x0C21, 3, 2), (0x0C22, 3, 0), (0x0C23, 3, 2), (0x0C24, 3, 0)] ++
  [(0x0D01, 0, 1), (0x0D10, 2, 0), (0x0D11, 2, 0), (0x0E01, 0, 1), (0x0E10, 2, 0),
   (0x0F01, 0, 1), (0x0F10, 2, 0), (0x0F11, 1, 0), (0x0F12, 1, 0), (0x0F13, 2, 0), (0x0F14, 2, 0), (0x0F15, 2, 0),
   (0x0F16, 2, 0), (0x0F17, 2, 0), (0x0F18, 2, 0), (0x0F19, 1, 0), (0x0F1A, 1, 0),
   (0x1001, 0, 1), (0x1002, 0, 1), (0x1010, 3, 0), (0x1011, 2, 0), (0x1012, 1, 0), (0x1013, 3, 2),
   (0x1101, 0, 2), (0x1102, 0, 2), (0x1103, 3, 1), (0x1104, 0, 1), (0x1105, 1, 2), (0x1106, 1, 2), (0x1107, 1, 1),
   (0x1108, 1, 2), (0x1109, 3, 0), (0x1201, 0, 1), (0x1210, 3, 0), (0x1211, 3, 0), (0x1212, 2, 1), (0x1213, 4, 0)]

def cmdInfo (op : Nat) : Option CmdInfo :=
  (catalogue.find? (fun e => e.1 == op)).map (fun e => { role := e.2.1, status := e.2.2 == 1, recovery := e.2.2 == 2 })

/-! ### Headers and AUTH (R481, R482) -/

/-- Bytes 0 to 15 of a header. -/
def headBytes (flags op tag len session seq : Nat) : List Byte :=
  p1 1 ++ p1 flags ++ p2 op ++ p2 tag ++ p2 len ++ p4 session ++ p4 seq

/-- A whole command, response or completion; without a key AUTH is zero. -/
def msgBytes (key : Option (BitVec 256)) (flags op tag session seq : Nat) (payload : List Byte) : List Byte :=
  let h := headBytes flags op tag payload.length session seq
  let a := match key with | some k => macTag k (h ++ payload) true | none => leBytes 16 0
  h ++ a ++ payload

/-- The parts of a command that a repeated SEQUENCE must share; AUTH follows from them. -/
def cmdBytes (op : Nat) (c : Cmd) : List Byte := headBytes 0 op c.tag c.payload.length c.session c.sequence ++ c.payload

/-- A status word. -/
def statusBytes (status detail : Nat) : List Byte := p2 status ++ p2 detail

/-! ### Replies and plans -/

/-- What follows an ACCEPTED_PENDING answer (R491): the object, what else its end needs, and the outcome where it is known. -/
structure Later where
  obj : Nat
  arg : Nat := 0
  outcome : Option (Nat × Nat × List Byte) := none
  deriving DecidableEq, Repr

/-- The answer of a command that ran; `after` is what happens once the response is posted. -/
structure Reply where
  status : Nat := 0
  detail : Nat := 0
  data : List Byte := []
  later : Option Later := none
  after : State → State := id

/-- A command beyond its header (R483): the absent element it names, a refusal for tamper or for the life-cycle state, the role
where it is not the catalogue's, the CLEAR right, a bad length or field, and what it does. `writes` marks a status command's
form that changes state. -/
structure Plan where
  absent : Option Nat := none
  tamper : Bool := false
  lcOk : Bool := true
  role : Option Nat := none
  clear : Bool := false
  bad : Option (Nat × Nat) := none
  writes : Bool := false
  body : Session → Reply × State

/-! ### Sessions (R485 to R489) -/

/-- The session of a command with SESSION 0. -/
def noSession : Session := { id := 0, principal := 0, role := 4, clear := false, slot := 0, top := 0, used := [], kept := [], lastAt := 0 }

/-- Commands that R486 permits without a session. -/
def State.openWithout (s : State) (op : Nat) : Bool :=
  [0x1101, 0x1001, 0x0C01, 0x1002].contains op || (op == 0x0A13 && s.lc == 3)

def State.sessionOf (s : State) (op id : Nat) : Option Session :=
  if id = 0 then (if s.openWithout op then some noSession else none) else s.mbx.sessions.find? (fun x => x.id == id)

def State.setSession (s : State) (x : Session) : State :=
  { s with mbx := { s.mbx with sessions := s.mbx.sessions.map (fun y => if y.id = x.id then x else y) } }

/-- The key of a session, granted for AUTH (R482); none where the register refuses it. -/
def State.sessionKey (s : State) (x : Session) (op : Nat) : Option (BitVec 256) × State :=
  if x.id = 0 then (none, s)
  else
    let (st, s) := s.grant x.slot (keyNeed op false false) .steward s.stewardSecure
    (if st = 0 then some (s.slot x.slot).value else none, s)

/-- The SEQUENCE rules of R489. -/
inductive SeqEnd where
  | fresh | replay
  | again (response : List Byte)
  deriving DecidableEq, Repr

/-- DESIGN CHOICE, log entry 8. -/
def Session.judge (x : Session) (seq : Nat) (cmd : List Byte) : SeqEnd :=
  if x.id = 0 then .fresh
  else if !(decide (x.top < seq + 64) && !x.used.contains seq) then
    match x.kept.find? (fun k => k.seq == seq && k.command == cmd) with
    | some k => .again k.response
    | none => .replay
  else .fresh

/-- A SEQUENCE accepted.
DESIGN CHOICE, log entry 8. -/
def Session.accept (x : Session) (seq now : Nat) : Session :=
  let top := max x.top seq
  { x with top := top, used := (x.used ++ [seq]).filter (fun u => decide (top < u + 64)), lastAt := now }

/-- A final response kept for a repeated command: the last eight. -/
def State.keepResponse (s : State) (id seq : Nat) (cmd resp : List Byte) : State :=
  match s.mbx.sessions.find? (fun x => x.id == id) with
  | none => s
  | some x =>
    let k : Kept := { seq := seq, command := cmd, response := resp }
    let l := if x.kept.any (fun y => y.seq == seq) then x.kept.map (fun y => if y.seq = seq then k else y) else x.kept ++ [k]
    s.setSession { x with kept := l.drop (l.length - 8) }

/-! ### Delivery (R480, R491, R494) -/

/-- A response placed in the mailbox's buffer and posted, or sent to the peer.
DESIGN CHOICE, log entry 8. -/
def State.respond (s : State) (via : Via) (b : List Byte) : State :=
  match via with
  | .mbx m =>
    if 32 ≤ m ∨ (s.box m).state ≠ 1 then s.wrB MBX_STAT MBX_STAT_CFG_REJ true
    else (s.setSram (m * 0x2000 + 0x1000) b).postResp m b.length ((byteAt b 1).testBit 1)
  | .udp a p => s.send (.udp a p b)

/-- The transport as an event's code, and the low 32 bits of a peer's address (R504). -/
def viaCode : Via → Nat
  | .mbx _ => 0
  | .udp _ _ => 1
def viaAddr : Via → Nat
  | .mbx _ => 0
  | .udp a _ => a % 2 ^ 32

/-- What limits an event to one per second: the session, or the peer. -/
def viaKey (session : Nat) : Via → Nat
  | .mbx m => if session ≠ 0 then session else 2 ^ 33 + m
  | .udp a p => if session ≠ 0 then session else 2 ^ 34 + a % 2 ^ 32 * 2 ^ 16 + p % 2 ^ 16

/-- 0x1183 (R483, R504). -/
def State.authEvent (s : State) (via : Via) (session principal : Nat) : State :=
  { s with mbx := { s.mbx with authFail := s.mbx.authFail + 1 } }.postLimited 0x200 0x1183 (viaKey session via)
    (p4 session ++ p2 principal ++ p1 (viaCode via) ++ p4 (viaAddr via))

/-- 0x1184. -/
def State.roleEvent (s : State) (via : Via) (session op status : Nat) : State :=
  s.postLimited 0x203 0x1184 (viaKey session via) (p4 session ++ p2 op ++ p2 status)

/-- 0x1185. -/
def State.auditEvent (s : State) (op session principal status : Nat) : State :=
  s.postTo 0x203 0x1185 (p2 op ++ p4 session ++ p2 principal ++ p2 status)

/-- Completions outstanding or not yet taken on one carrier, and in all (R491). -/
def State.outstanding (s : State) (via : Via) : Nat :=
  (s.mbx.jobs.filter (fun j => j.via == via)).length + (match via with
    | .mbx m => (s.box m).queue.length
    | .udp a p => (s.mbx.udpDone.filter (fun u => u.addr == a && u.port == p)).length)

def State.allOutstanding (s : State) : Nat :=
  s.mbx.jobs.length + s.mbx.udpDone.length + ((List.range 32).map (fun m => (s.box m).queue.length)).sum

def State.pendFull (s : State) (via : Via) : Bool := decide (16 ≤ s.outstanding via) || decide (256 ≤ s.allOutstanding)

/-! ### The checks of R483 -/

/-- What a halted start-up serves (R509).
DESIGN CHOICE, log entry 17; DESIGN CHOICE, log entry 46. -/
def State.haltServes (s : State) (op : Nat) : Bool :=
  if s.rd SYS_ADVENT SYS_ADVENT_STATE ≠ 2 then true
  else if s.rd SYS_ADVENT SYS_ADVENT_CAUSE = 1 then [0x1001, 0x0C01, 0x1002].contains op
  else s.openWithout op && (op != 0x1101 || s.sys.image.isSome) || (s.sys.image.isSome && [0x1101, 0x1010, 0x1210, 0x1013].contains op)

/-- KEY_STAT.SERVICE, which a tamper in RUN that emptied the register takes away (R451, R452). -/
def State.inService (s : State) : Bool := s.rdB KEY_STAT KEY_STAT_SERVICE && !s.key.emptied

/-- Whether an answer was refused for the role or the CLEAR right. -/
def roleStatus (st : Nat) : Bool := st == stRoleDenied || st == stRightDenied

/-- The checks after SEQUENCE, in their order: the status and DETAIL of the first that fails. -/
def State.checks (s : State) (op : Nat) (i : CmdInfo) (p : Plan) (x : Session) : Option (Nat × Nat) :=
  if p.absent.isSome then some (stAbsent, op / 256 * 256 + p.absent.getD 0 % 256)
  else if p.tamper || (!s.inService && !(i.status && !p.writes) && !i.recovery) then some (stTamper, 0)
  else if !p.lcOk || (s.lc == 3 && !(i.status && !p.writes)) then some (stLcDenied, 0)
  else if x.role < p.role.getD i.role then some (stRoleDenied, 0)
  else if p.clear && !x.clear then some (stRightDenied, 0)
  else p.bad

/-- A command after its SEQUENCE: its answer, whether it ran, and the machine.
DESIGN CHOICE, log entry 9. -/
def State.runPlan (s : State) (op : Nat) (plan : State → Plan) (via : Via) (x : Session) : Reply × Bool × State :=
  match (if s.haltServes op then cmdInfo op else none) with
  | none => ({ status := stBadOpcode }, false, s)
  | some i =>
    let p := plan s
    match s.checks op i p x with
    | some (st, d) => ({ status := st, detail := d }, false, if roleStatus st then s.roleEvent via x.id op st else s)
    | none =>
      let (r, t) := p.body x
      if r.later.isSome && s.pendFull via then ({ status := stNoResource }, true, s) else (r, true, t)

/-- Whether a command is audited with 0x1185: every one that is not a status command (R483).
DESIGN CHOICE, log entry 9. -/
def audited (op : Nat) (p : Plan) : Bool := match cmdInfo op with | some i => !i.status || p.writes | none => false

/-- The answer of a command: response, kept response, job, audit, and what follows the response.
DESIGN CHOICE, log entry 9. -/
def State.finish (s : State) (op : Nat) (c : Cmd) (x : Session) (key : Option (BitVec 256)) (r : Reply) (audit : Bool) : State :=
  let st := if r.later.isSome then stPending else r.status
  let b := msgBytes key 1 op c.tag (if x.id = 0 then 0 else c.session) c.sequence (statusBytes st r.detail ++ r.data)
  let s := s.keepResponse x.id c.sequence (cmdBytes op c) b
  let s : State := match r.later with
    | some l =>
      let j : Job := { via := c.via, session := c.session, opcode := op, tag := c.tag, seq := c.sequence, command := cmdBytes op c,
                       obj := l.obj, arg := l.arg, outcome := l.outcome }
      { s with mbx := { s.mbx with jobs := s.mbx.jobs ++ [j] } }
    | none => s
  let s := s.respond c.via b
  r.after (if audit && r.later.isNone then s.auditEvent op x.id x.principal r.status else s)

/-- An answer of the header checks: SESSION and AUTH are zero. -/
def State.refuseHead (s : State) (via : Via) (op tag seq status : Nat) : State :=
  s.respond via (msgBytes none 1 op tag 0 seq (statusBytes status 0))

/-- A command from its SEQUENCE on (R483).
DESIGN CHOICE, log entry 9. -/
def State.serve (s : State) (op : Nat) (plan : State → Plan) (c : Cmd) : State :=
  match s.sessionOf op c.session with
  | none => s.refuseHead c.via op c.tag c.sequence stNoSession
  | some x =>
    match x.judge c.sequence (cmdBytes op c) with
    | .again b => (s.setSession { x with lastAt := s.now }).respond c.via b
    | .replay =>
      let (key, s) := s.sessionKey x 6
      let s := { s with mbx := { s.mbx with replay := s.mbx.replay + 1 } }
      s.respond c.via (msgBytes key 1 op c.tag c.session c.sequence (statusBytes stReplay 0))
    | .fresh =>
      let s := s.setSession (x.accept c.sequence s.now)
      let (key, s) := s.sessionKey x 6
      let (r, ran, t) := s.runPlan op plan c.via x
      t.finish op c x key r (ran && audited op (plan s))

/-! ### The length and the reserved fields of a payload -/

/-- A payload of exactly `n` bytes whose ranges (offset, bytes) are zero. -/
def fixed (n : Nat) (zeros : List (Nat × Nat)) (c : Cmd) : Option (Nat × Nat) :=
  if c.payload.length ≠ n then some (stBadLength, 0)
  else (zeros.find? (fun z => leAt c.payload z.1 z.2 != 0)).map (fun z => (stBadField, z.1))

/-- The first of two findings. -/
def orBad (a b : Option (Nat × Nat)) : Option (Nat × Nat) := match a with | some x => some x | none => b

/-- A value of the payload at `off` that must satisfy a test. -/
def inRange (off : Nat) (ok : Bool) : Option (Nat × Nat) := if ok then none else some (stBadField, off)


/-! ### Apertures (R495) -/

/-- Whether `n` bytes from `off` on lie in an open aperture of a direction. -/
def State.aperFits (s : State) (a off n : Nat) (hostWrites : Bool) : Bool :=
  decide (a < 16) && s.aperOn a && s.aperHostWrites a == hostWrites && decide (off + n ≤ s.aperLen a)

/-- The bytes of an image in an aperture that the host writes. -/
def State.aperImage (s : State) (a off n : Nat) : Option (List Byte) :=
  if s.aperFits a off n true then some (s.bytes (s.aperBase a + off) n) else none

/-- Bulk output from OFFSET on: as much as the aperture holds, with TOTAL and WRITTEN; none for APERTURE_BAD. -/
def State.bulkOut (s : State) (a off : Nat) (out : List Byte) : Option (List Byte × State) :=
  if !s.aperFits a 0 0 false ∨ out.length < off then none
  else
    let part := (out.drop off).take (s.aperLen a)
    some (p8 out.length ++ p8 part.length, s.store (s.aperBase a) part)

/-! ### Register payloads (notes/assumptions/7) -/

/-- A record of a command that writes registers: the low 32 bits of an address, and the value. -/
def regPairs (c : Cmd) (from_ : Nat) : List (Nat × Nat) :=
  (List.range ((c.payload.length - from_) / 8)).map (fun i => (c.n4 (from_ + 8 * i), c.n4 (from_ + 8 * i + 4)))

/-- The first record that names what the command may not write.
DESIGN CHOICE, log entry 7. -/
def badPair (c : Cmd) (from_ : Nat) (allowed : Nat → Bool) : Option (Nat × Nat) :=
  if c.payload.length < from_ + 8 ∨ (c.payload.length - from_) % 8 ≠ 0 then some (stBadLength, 0)
  else ((List.range ((c.payload.length - from_) / 8)).find? (fun i => !allowed (c.n4 (from_ + 8 * i)))).map
    (fun i => (stBadField, from_ + 8 * i))

/-- The element of the first address that no present register has. -/
def State.absentAt (s : State) (addrs : List Nat) : Option Nat :=
  (addrs.find? (fun a => !s.existsAt a)).map (fun a => match (findReg a).bind (fun d => regHit d a) with | some (i, _) => i % 256 | none => 0)

/-- Records written in order; the offset of the first that the hardware ignores, of which nothing takes effect.
DESIGN CHOICE, log entry 7. -/
def State.writePairs (s : State) : Nat → List (Nat × Nat) → Option Nat × State
  | _, [] => (none, s)
  | off, (a, v) :: r =>
    let (ok, t) := s.tryWrite a (BitVec.ofNat 32 v)
    if ok then t.writePairs (off + 8) r else (some off, s)

/-- A command that writes the registers its records name.
DESIGN CHOICE, log entry 7. -/
def planPairs (allowed : State → Nat → Bool) (c : Cmd) (s : State) : Plan :=
  let ps := regPairs c 0
  { absent := s.absentAt (ps.map (·.1)), bad := badPair c 0 (allowed s)
    body := fun _ => match s.writePairs 0 ps with
      | (none, t) => ({}, t)
      | (some off, _) => ({ status := stBadField, detail := off }, s) }

/-- A command that names one of `n` elements in its first word and writes the words that follow to registers of it.
DESIGN CHOICE, log entry 7. -/
def planWords (n : Nat) (addrs : List Nat) (c : Cmd) (s : State) : Plan :=
  let ps := ((List.range addrs.length).zip addrs).map (fun p => (p.2, c.n4 (4 + 4 * p.1)))
  { absent := if n ≤ c.n4 0 then some (c.n4 0) else s.absentAt addrs, bad := fixed (4 + 4 * addrs.length) [] c
    body := fun _ => match s.writePairs 0 ps with
      | (none, t) => ({}, t)
      | (some off, _) => ({ status := stBadField, detail := 4 + off / 2 }, s) }

/-- The running total of a counter since Advent (R490). -/
def State.total (s : State) (a : Nat) : Nat :=
  let s := if a / 2 ^ 24 = 0x05 then s.chargeAll else s
  cget (fun _ => 0) s.mbx.totals a + s.count a

/-- A word read with no effect: counters as running totals since Advent, above a session's baseline (R490). -/
def State.peekFrom (s : State) (base : Cells Nat) (a : Nat) : Nat :=
  let above := fun (a : Nat) => s.total a - cget (fun _ => 0) base a
  let s := if a / 2 ^ 24 = 0x05 then s.chargeAll else s
  if counterAt a then above a % 2 ^ 32
  else if a % 8 = 4 ∧ counterAt (a - 4) then above (a - 4) / 2 ^ 32 % 2 ^ 32
  else if 0xFC0000 ≤ a % 2 ^ 24 ∧ s.blockPresent (a / 2 ^ 24) then s.snapWord (a / 2 ^ 24) (a % 2 ^ 24 - 0xFC0000)
  else if !s.existsAt a then 0
  else if a = TIM_NOW_LO then s.dom % 2 ^ 32
  else if a = TIM_NOW_HI then s.dom / 2 ^ 32
  else ((s.shownWord a).getD (s.liveWord a (s.rdW a))).toNat

def State.peek (s : State) (a : Nat) : Nat := s.peekFrom [] a

/-- RESET of some counters: the session's own baseline becomes their present totals, and nothing else changes (R490). -/
def State.rebase (s : State) (id : Nat) (as : List Nat) : State :=
  match s.mbx.sessions.find? (fun x => x.id == id) with
  | none => s
  | some x => if as = [] then s else s.setSession { x with base := as.foldl (fun m a => cset (fun _ => 0) m a (s.total a)) x.base }

/-- A status command: the words of its block at the offsets its payload lists. Bit 31 of an entry is RESET of the counter named
there, after the read.
DESIGN CHOICE, log entry 7. -/
def planStatus (blk : Nat) (c : Cmd) (s : State) : Plan :=
  let ents := (List.range (c.payload.length / 4)).map (fun i => c.n4 (4 * i))
  let offs := ents.map (· % 2 ^ 31)
  let resets := ((ents.filter (fun e => decide (2 ^ 31 ≤ e))).map (fun e => blk * 2 ^ 24 + e % 2 ^ 31)).filter counterAt
  { absent := offs.findSome? (fun o => if o < 2 ^ 24 then s.absentElem (blk * 2 ^ 24 + o) else none)
    bad := if c.payload.length % 4 ≠ 0 ∨ c.payload.length = 0 then some (stBadLength, 0)
      else ((List.range offs.length).find? (fun i => decide (2 ^ 24 ≤ offs.getD i 0) || offs.getD i 0 % 4 != 0)).map (fun i => (stBadField, 4 * i))
    body := fun x => ({ data := offs.flatMap (fun o => p4 (s.peekFrom x.base (blk * 2 ^ 24 + o))) }, s.rebase x.id resets) }

/-! ### Ends of accepted-pending commands (R491) -/

/-- A job leaves; its completion is queued on the mailbox or sent to the peer, and becomes the kept response. A session that is
gone loses it (R492). -/
def State.endJob (s : State) (j : Job) (status detail : Nat) (data : List Byte) : State :=
  let s := { s with mbx := { s.mbx with jobs := s.mbx.jobs.filter (fun k => !(k.session == j.session && k.seq == j.seq)) } }
  match s.mbx.sessions.find? (fun x => x.id == j.session) with
  | none => { s with mbx := { s.mbx with complLost := s.mbx.complLost + 1 } }.auditEvent j.opcode j.session 0 status
  | some x =>
    let (key, s) := s.sessionKey x 6
    let b := msgBytes key 3 j.opcode j.tag j.session j.seq (statusBytes status detail ++ data)
    let s := (s.keepResponse j.session j.seq j.command b).auditEvent j.opcode j.session x.principal status
    match j.via with
    | .mbx m =>
      let q := (s.box m).queue ++ [b]
      (s.setBox m { s.box m with queue := q }).pendWrite m q.length
    | .udp a p =>
      let u : UdpDone := { addr := a, port := p, session := j.session, seq := j.seq, bytes := b, sends := 1, sentAt := s.now }
      ({ s with mbx := { s.mbx with udpDone := s.mbx.udpDone ++ [u] } } : State).send (.udp a p b)

/-- UDP_COMPLETION_REPEAT: sent again every 100 ms, ten sends in all; then it is discarded (R491). -/
def opUdpCompletionRepeat (session seq : Nat) (s : State) : State :=
  match s.mbx.udpDone.find? (fun u => u.session == session && u.seq == seq) with
  | none => s
  | some u =>
    if s.now < u.sentAt + 100000000 then s
    else
      let rest := s.mbx.udpDone.filter (fun v => !(v.session == session && v.seq == seq))
      if 10 ≤ u.sends then { s with mbx := { s.mbx with udpDone := rest, complLost := s.mbx.complLost + 1 } }
      else
        let v : UdpDone := { u with sends := u.sends + 1, sentAt := s.now }
        ({ s with mbx := { s.mbx with udpDone := rest ++ [v] } } : State).send (.udp u.addr u.port u.bytes)

def execUdpCompletionRepeat (t session seq : Nat) (s : State) : Host.Outcome State Fault Refusal :=
  s.runAt t (opUdpCompletionRepeat session seq)

/-- SESSION_IDLE_TIMEOUT (R489). -/
def opSessionIdleTimeout (id : Nat) (s : State) : State :=
  match s.mbx.sessions.find? (fun x => x.id == id) with
  | none => s
  | some x => if s.now < x.lastAt + s.mbx.idle * 1000000000 then s else s.endSession id 2

def execSessionIdleTimeout (t session : Nat) (s : State) : Host.Outcome State Fault Refusal :=
  s.runAt t (opSessionIdleTimeout session)

/-! ### Management port (R494) -/

/-- A whole datagram joins its peer's queue; a seventeenth peer's is dropped until a peer has been idle for 60 s. -/
def State.datagram (s : State) (addr port : Nat) (b : List Byte) : State :=
  if !s.mbx.ready then s.send (.udp addr port (msgBytes none 1 (leAt b 2 2) (leAt b 4 2) 0 (leAt b 12 4) (statusBytes stStewardRestart 0)))
  else
    let mine := fun (q : Peer) => q.addr == addr && q.port == port
    if s.mbx.peers.any mine then
      { s with mbx := { s.mbx with peers := s.mbx.peers.map (fun q => if mine q then { q with queue := q.queue ++ [b], lastAt := s.now } else q) } }
    else
      let live := if s.mbx.peers.length < 16 then s.mbx.peers else s.mbx.peers.filter (fun q => decide (s.now < q.lastAt + 60000000000))
      if 16 ≤ live.length then { s with mbx := { s.mbx with udpDropped := s.mbx.udpDropped + 1 } }
      else
        let q : Peer := { addr := addr, port := port, queue := [b], lastAt := s.now }
        { s with mbx := { s.mbx with peers := live ++ [q] } }

/-- The bytes of a datagram whose fragments are all there. -/
def joinParts (parts : List (Nat × List Byte)) (total : Nat) : Option (List Byte) :=
  let sorted := parts.mergeSort (fun x y => decide (x.1 ≤ y.1))
  let whole := sorted.foldl (fun (acc : Option (List Byte)) p => acc.bind (fun b => if p.1 = b.length then some (b ++ p.2) else none)) (some [])
  whole.bind (fun b => if b.length = total then some b else none)

/-- A datagram or a fragment of one arrives at the module's address of its family (R494): `offset` and `more` as IP gives them, for
the UDP payload. -/
def opUdpDatagram (addr port dport ident offset : Nat) (more : Bool) (bytes : List Byte) (s : State) : State :=
  let mine := if addr < 2 ^ 32 then s.mbx.ip4.isSome else s.mbx.ip6.isSome
  if !s.rdB MBX_CTRL MBX_CTRL_EN ∨ !s.rdB MBX_CTRL MBX_CTRL_UDP_EN ∨ !mine ∨ dport ≠ s.rd MBX_UDP MBX_UDP_PORT ∨ 4096 < offset + bytes.length then s
  else if offset = 0 ∧ !more then s.datagram addr port bytes
  else
    let mine := fun (r : Reassembly) => r.addr == addr && r.ident == ident
    let known := s.mbx.reass.find? mine
    if known.isNone ∧ 8 ≤ s.mbx.reass.length then s
    else
      let r : Reassembly := known.getD { addr := addr, ident := ident, startAt := s.now, parts := [], total := none }
      let r : Reassembly := { r with parts := r.parts ++ [(offset, bytes)], total := if more then r.total else some (offset + bytes.length) }
      let rest := s.mbx.reass.filter (fun q => !mine q)
      match r.total.bind (joinParts r.parts) with
      | some b => ({ s with mbx := { s.mbx with reass := rest } } : State).datagram addr port b
      | none => { s with mbx := { s.mbx with reass := rest ++ [r] } }

def execUdpDatagram (t addr port dport ident offset : Nat) (more : Bool) (bytes : List Byte) (s : State) :
    Host.Outcome State Fault Refusal := s.runAt t (opUdpDatagram addr port dport ident offset more bytes)

/-- A reassembly older than 500 ms is dropped. -/
def opReassemblyTimeout (addr ident : Nat) (s : State) : State :=
  { s with mbx := { s.mbx with reass := s.mbx.reass.filter (fun r =>
      !(r.addr == addr && r.ident == ident && decide (r.startAt + 500000000 ≤ s.now))) } }

def execReassemblyTimeout (t addr ident : Nat) (s : State) : Host.Outcome State Fault Refusal :=
  s.runAt t (opReassemblyTimeout addr ident)

end Sys2Proof.Machine
end

