-- ==== Sys2Proof/Machine/MbxData.lean ====
section
/-! DEFINITION. Mailbox commands of ports, fabric, ingest, acquisition and scheduler (R496, R497). Payload layouts that the spec
does not give are those of notes/assumptions/7. -/

namespace Sys2Proof.Machine

/-! ### PRT (R496) -/

def planPrtStatus (c : Cmd) (s : State) : Plan := planStatus 0x01 c s

def srvPrtStatus (c : Cmd) (s : State) : State := s.serve 0x0101 (planPrtStatus c) c

/-- Port (4 bytes), then PRT_PORT_CFG, PRT_PAUSE_WD and PRT_PREEMPT. -/
def planPrtPortSet (c : Cmd) (s : State) : Plan :=
  let n := c.n4 0
  planWords 29 [PRT_PORT_CFG n, PRT_PAUSE_WD n, PRT_PREEMPT n] c s

def srvPrtPortSet (c : Cmd) (s : State) : State := s.serve 0x0110 (planPrtPortSet c) c

/-- Pair (4 bytes), then PRT_LRE_CFG and the MAC address words. -/
def planPrtLreSet (c : Cmd) (s : State) : Plan :=
  let p := c.n4 0
  let regs := [PRT_LRE_CFG p, PRT_LRE_MAC_LO p, PRT_LRE_MAC_HI p]
  let head : Cmd := { c with payload := c.payload.take 16 }
  let recs := chunks 8 (c.payload.length / 8) (c.payload.drop 16)
  let plan := planWords 12 regs head s
  let odd := (List.range recs.length).find? (fun i => let r := recs.getD i []; 1 < byteAt r 6 || byteAt r 7 != 0)
  { plan with
    bad := if c.payload.length < 16 ∨ c.payload.length % 8 ≠ 0 then some (stBadLength, 0)
      else orBad (plan.bad) (odd.map (fun i => (stBadField, 16 + 8 * i + 6)))
    body := fun x => match plan.body x with
      | (r, t) => if r.status ≠ 0 then (r, t) else (r, recs.foldl (fun (t : State) b => t.proxySet p (beAt b 0 6) (byteAt b 6 == 1)) t) }

def srvPrtLreSet (c : Cmd) (s : State) : State := s.serve 0x0111 (planPrtLreSet c) c

def execPrtStatus (t : Nat) (c : Cmd) (s : State) : Host.Outcome State Fault Refusal := s.runAt t (srvPrtStatus c)
def execPrtPortSet (t : Nat) (c : Cmd) (s : State) : Host.Outcome State Fault Refusal := s.runAt t (srvPrtPortSet c)
def execPrtLreSet (t : Nat) (c : Cmd) (s : State) : Host.Outcome State Fault Refusal := s.runAt t (srvPrtLreSet c)

/-! ### FAB (R108, R110, R496) -/

def planFabStatus (c : Cmd) (s : State) : Plan := planStatus 0x02 c s

def srvFabStatus (c : Cmd) (s : State) : State := s.serve 0x0201 (planFabStatus c) c

/-- RESULT of a forwarding command as a status: not found and rejected are BAD_FIELD, a full bucket is NO_RESOURCE. -/
def fdbStatus (r : Nat) : Nat := if r = 0 then 0 else if r = 3 then stNoResource else stBadField

/-- A forwarding command run to its end on behalf of a mailbox command. -/
def State.fdbNow (s : State) (start : State → State) (data : List Byte) : Reply × State :=
  if s.rdB FAB_FDB_CMD FAB_FDB_CMD_BUSY then ({ status := stBusy }, s)
  else
    let t := opFdbCommandComplete (start (s.setFdbData data))
    let st := fdbStatus (t.rd FAB_FDB_CMD FAB_FDB_CMD_RESULT)
    ({ status := st, data := p4 (t.rd FAB_FDB_CMD FAB_FDB_CMD_INDEX) }, t)

/-- A target of an entry that is not present (R5). -/
def State.absentTarget (s : State) (e : FdbEntry) : Option Nat := (fdbTargets e).find? (fun n => !s.fportPresent n)

/-- The 16 bytes of a valid static entry. -/
def planFabFdbWrite (c : Cmd) (s : State) : Plan :=
  let e := fdbOfBytes c.payload
  { absent := s.absentTarget e, bad := orBad (fixed 16 [(14, 2)] c) (inRange 6 (e.valid && e.static))
    body := fun _ => s.fdbNow opFdbWrite c.payload }

def srvFabFdbWrite (c : Cmd) (s : State) : State := s.serve 0x0210 (planFabFdbWrite c) c

/-- Byte 0: 1 delete, 2 flush; byte 1: port; bytes 4 to 11: MAC and VID. -/
def planFabFdbDelete (c : Cmd) (s : State) : Plan :=
  let flush := c.n1 0 == 2
  { absent := if flush && !s.fportPresent (c.n1 1) then some (c.n1 1) else none
    bad := orBad (fixed 12 [(2, 2)] c) (inRange 0 (c.n1 0 == 1 || flush))
    body := fun _ => if flush then s.fdbNow (opFdbFlush (c.n1 1)) (leBytes 16 0)
      else s.fdbNow opFdbDelete (slice c.payload 4 8 ++ leBytes 8 0) }

def srvFabFdbDelete (c : Cmd) (s : State) : State := s.serve 0x0211 (planFabFdbDelete c) c

/-- The limit registers of R110, R113, R115 to R117. -/
def fabLimit (a : Nat) : Bool :=
  a == FAB_RESERVE || (elemOf (FAB_AGE 0) 8 4 a).isSome || (decide (0x02010000 ≤ a) && decide (a < 0x02018000) && [0x08, 0x0C].contains (a % 0x400))
    || (decide (0x02010000 ≤ a) && decide (a < 0x02018000) && ((decide (0x40 ≤ a % 0x400) && decide (a % 0x400 < 0x60))
      || (decide (0x80 ≤ a % 0x400) && decide (a % 0x400 < 0xB4))))

def planFabLimitsSet (c : Cmd) (s : State) : Plan := planPairs (fun _ => fabLimit) c s

def srvFabLimitsSet (c : Cmd) (s : State) : State := s.serve 0x0212 (planFabLimitsSet c) c

def execFabStatus (t : Nat) (c : Cmd) (s : State) : Host.Outcome State Fault Refusal := s.runAt t (srvFabStatus c)
def execFabFdbWrite (t : Nat) (c : Cmd) (s : State) : Host.Outcome State Fault Refusal := s.runAt t (srvFabFdbWrite c)
def execFabFdbDelete (t : Nat) (c : Cmd) (s : State) : Host.Outcome State Fault Refusal := s.runAt t (srvFabFdbDelete c)
def execFabLimitsSet (t : Nat) (c : Cmd) (s : State) : Host.Outcome State Fault Refusal := s.runAt t (srvFabLimitsSet c)

/-! ### ING (R143, R147, R148, R167, R497) -/

def planIngStatus (c : Cmd) (s : State) : Plan := planStatus 0x03 c s

def srvIngStatus (c : Cmd) (s : State) : State := s.serve 0x0301 (planIngStatus c) c

/-- Whether an address lies in the shadow bank's arrays. -/
def State.inShadow (s : State) (a : Nat) : Bool := ingBankOf a == some (1 - s.ingActive)

/-- Records written to the shadow bank, which is closed while a flip is pending or a copy runs (R143). -/
def planShadow (c : Cmd) (s : State) : Plan :=
  let p := planPairs State.inShadow c s
  { p with body := fun x => if s.ing.flip.isSome || s.rdB ING_STAT ING_STAT_COPY_BUSY then ({ status := stBusy }, s) else p.body x }

/-- Streams added: refused with NO_RESOURCE, with nothing written, where a subscription names a tenant that is not entitled
or a task descriptor of none that is (R195). -/
def planStreamAdd (c : Cmd) (s : State) : Plan :=
  let p := planShadow c s
  let addrs := (regPairs c 0).map (·.1)
  { p with body := fun x =>
      let (r, t) := p.body x
      if r.status = 0 && !t.subsOk addrs then ({ status := stNoResource }, s) else (r, t) }

def srvStreamAdd (c : Cmd) (s : State) : State := s.serve 0x0310 (planStreamAdd c) c
def planStreamRemove (c : Cmd) (s : State) : Plan := planShadow c s

def srvStreamRemove (c : Cmd) (s : State) : State := s.serve 0x0311 (planStreamRemove c) c

/-- STREAM_FLIP: CANCEL withdraws the pending flip; otherwise a flip is staged, and its completion tells what became of it. -/
def planStreamFlip (c : Cmd) (s : State) : Plan :=
  { bad := orBad (fixed 4 [] c) (inRange 0 (decide (c.n4 0 < 2)))
    body := fun _ =>
      if c.n4 0 = 1 then
        let t := opIngCancel s
        if s.ing.flip.isSome && t.ing.flip.isNone then ({ status := stFlipCancelled }, t) else ({ status := stStateConflict }, t)
      else if s.ing.flip.isSome then ({ status := stBusy }, s)
      else
        let t := opIngFlip s
        let later : Later := if t.ing.flip.isSome then { obj := s.ingActive } else { obj := s.ingActive, outcome := some (stFlipRejected, 0, []) }
        ({ later := some later }, t) }

def srvStreamFlip (c : Cmd) (s : State) : State := s.serve 0x0312 (planStreamFlip c) c

/-- The customer stencil slots 8 to 63. -/
def planStencilLoad (c : Cmd) (s : State) : Plan := planPairs (fun _ a => decide (0x03101000 ≤ a) && decide (a < 0x03108000)) c s

def srvStencilLoad (c : Cmd) (s : State) : State := s.serve 0x0313 (planStencilLoad c) c

def State.takeStrangers : Nat → State → List Byte × State
  | 0, s => ([], s)
  | n + 1, s => match s.ing.strangers with
    | [] => ([], s)
    | e :: _ =>
      let (l, t) := State.takeStrangers n (opIngStrangerPop s)
      (e ++ l, t)

/-- Up to COUNT (4 bytes, 1 to 60) entries. -/
def planStrangerRead (c : Cmd) (s : State) : Plan :=
  { bad := orBad (fixed 4 [] c) (inRange 0 (decide (1 ≤ c.n4 0) && decide (c.n4 0 ≤ 60)))
    body := fun _ => let (b, t) := State.takeStrangers (c.n4 0) s; ({ data := b }, t) }

def srvStrangerRead (c : Cmd) (s : State) : State := s.serve 0x0314 (planStrangerRead c) c

def execIngStatus (t : Nat) (c : Cmd) (s : State) : Host.Outcome State Fault Refusal := s.runAt t (srvIngStatus c)
def execStreamAdd (t : Nat) (c : Cmd) (s : State) : Host.Outcome State Fault Refusal := s.runAt t (srvStreamAdd c)
def execStreamRemove (t : Nat) (c : Cmd) (s : State) : Host.Outcome State Fault Refusal := s.runAt t (srvStreamRemove c)
def execStreamFlip (t : Nat) (c : Cmd) (s : State) : Host.Outcome State Fault Refusal := s.runAt t (srvStreamFlip c)
def execStencilLoad (t : Nat) (c : Cmd) (s : State) : Host.Outcome State Fault Refusal := s.runAt t (srvStencilLoad c)
def execStrangerRead (t : Nat) (c : Cmd) (s : State) : Host.Outcome State Fault Refusal := s.runAt t (srvStrangerRead c)

/-! ### ACQ (R178, R186, R190) -/

def planAcqStatus (c : Cmd) (s : State) : Plan := planStatus 0x04 c s

def srvAcqStatus (c : Cmd) (s : State) : State := s.serve 0x0401 (planAcqStatus c) c

/-- Group registers, and channel registers other than the trip lane's. -/
def acqGroupReg (a : Nat) : Bool :=
  (decide (0x04010000 ≤ a) && decide (a < 0x04010800) && decide (a % 0x40 < 0x10)) || (decide (0x04020000 ≤ a) && decide (a < 0x04020200))

def planAcqGroupSet (c : Cmd) (s : State) : Plan := planPairs (fun _ => acqGroupReg) c s

def srvAcqGroupSet (c : Cmd) (s : State) : State := s.serve 0x0410 (planAcqGroupSet c) c

/-- Channel (4 bytes), ACQ_TRIP_CFG. -/
def planAcqTripSet (c : Cmd) (s : State) : Plan := planWords 32 [ACQ_TRIP_CFG (c.n4 0)] c s

def srvAcqTripSet (c : Cmd) (s : State) : State := s.serve 0x0411 (planAcqTripSet c) c

/-- Channel (4 bytes): its latched trip lane is released (R190). -/
def planAcqTripRelease (c : Cmd) (s : State) : Plan :=
  { absent := if 32 ≤ c.n4 0 then some (c.n4 0) else s.absentAt [ACQ_TRIP_STAT (c.n4 0)], bad := fixed 4 [] c
    body := fun _ => ({}, opTripLatchRelease (c.n4 0) s) }

def srvAcqTripRelease (c : Cmd) (s : State) : State := s.serve 0x0412 (planAcqTripRelease c) c

def execAcqStatus (t : Nat) (c : Cmd) (s : State) : Host.Outcome State Fault Refusal := s.runAt t (srvAcqStatus c)
def execAcqGroupSet (t : Nat) (c : Cmd) (s : State) : Host.Outcome State Fault Refusal := s.runAt t (srvAcqGroupSet c)
def execAcqTripSet (t : Nat) (c : Cmd) (s : State) : Host.Outcome State Fault Refusal := s.runAt t (srvAcqTripSet c)
def execAcqTripRelease (t : Nat) (c : Cmd) (s : State) : Host.Outcome State Fault Refusal := s.runAt t (srvAcqTripRelease c)

/-! ### SCH (R246) -/

def planSchStatus (c : Cmd) (s : State) : Plan := planStatus 0x05 c s

def srvSchStatus (c : Cmd) (s : State) : State := s.serve 0x0501 (planSchStatus c) c

/-- Global descriptor (4 bytes), then the 64 bytes of the item. -/
def planSchEnqueue (c : Cmd) (s : State) : Plan :=
  { bad := orBad (fixed 68 [] c) (inRange 0 (decide (c.n4 0 < 8192)))
    body := fun _ =>
      let t := (List.range 16).foldl (fun (s : State) i => s.ctlWrite (SCH_STW_ITEM i) (BitVec.ofNat 32 (c.n4 (4 + 4 * i)))) s
      let t := opSchStwEnq (c.n4 0) t
      ({ status := t.rd SCH_STW_ENQ_STAT SCH_STW_ENQ_STAT_STATUS }, t) }

def srvSchEnqueue (c : Cmd) (s : State) : State := s.serve 0x0510 (planSchEnqueue c) c

def execSchStatus (t : Nat) (c : Cmd) (s : State) : Host.Outcome State Fault Refusal := s.runAt t (srvSchStatus c)
def execSchEnqueue (t : Nat) (c : Cmd) (s : State) : Host.Outcome State Fault Refusal := s.runAt t (srvSchEnqueue c)

end Sys2Proof.Machine
end

