-- ==== Sys2Proof/Machine/MbxEngines.lean ====
section
/-! DEFINITION. Mailbox commands of the control-law engine, the logic engine, the outputs and the recorders (R284 to R286, R310,
R311, R314, R324, R330, R355, R363, R368, R496). Payload layouts that the spec does not give are those of notes/assumptions/7. -/

namespace Sys2Proof.Machine

/-- The element a payload names, when it does not exist: element `i` of `n`, with a register at `a`. -/
def State.missing (s : State) (n i a : Nat) : Option Nat := if n ≤ i then some (i % 256) else s.absentAt [a]

/-! ### CLE -/

def stLawState : Nat := 0x0520
def stTuneStale : Nat := 0x0525

/-- RESULT of a law command as a status (R287, R289). -/
def lawStatus (r : Nat) : Nat :=
  match r with | 0 => 0 | 1 => stLawState | 2 => 0x0521 | 3 => stNoResource | 4 => 0x0522 | _ => stBusy

def State.lawReply (s : State) (l : Nat) : Reply :=
  { status := lawStatus (s.rd (CLE_LAW_CMD l) CLE_LAW_CMD_RESULT), detail := s.rd (CLE_LAW_CMD l) CLE_LAW_CMD_DETAIL }

def planCleStatus (c : Cmd) (s : State) : Plan := planStatus 0x06 c s

def srvCleStatus (c : Cmd) (s : State) : State := s.serve 0x0601 (planCleStatus c) c

/-- Law (2 bytes), zero (2), aperture (1), zero (3), OFFSET (8): the trace buffers of its four probes.
DESIGN CHOICE, log entry 7. -/
def planClawTraceRead (c : Cmd) (s : State) : Plan :=
  let l := c.n2 0
  { absent := s.missing 128 l (CLE_TRC_STAT l), bad := fixed 16 [(2, 2), (5, 3)] c
    body := fun _ =>
      let base := s.rd CLE_TRACE_BASE_LO CLE_TRACE_BASE_LO_BASE * 2 ^ 24 + 2 ^ 32 * s.rd CLE_TRACE_BASE_HI CLE_TRACE_BASE_HI_BASE
      match s.bulkOut (c.n1 4) (c.n8 8) (s.bytes (base + l * 0x20000) 0x20000) with
      | none => ({ status := stApertureBad }, s)
      | some (d, t) => ({ data := d }, t) }

def srvClawTraceRead (c : Cmd) (s : State) : State := s.serve 0x0602 (planClawTraceRead c) c

/-- The RELAY of a law and the PI or PID after it that reads the same IN0 (R284).
DESIGN CHOICE, log entry 7. -/
def State.tunePair (s : State) (l : Nat) : Option (Nat × Nat) :=
  let bs := s.lawBlocks l
  (bs.find? (fun b => s.blkType b == 12)).bind (fun r =>
    (bs.find? (fun b => decide (r < b) && (s.blkType b == 6 || s.blkType b == 7) && s.blkInField b 0 == s.blkInField r 0)).map (fun p => (r, p)))

/-- Probe 0 records the relay's output, probe 1 its input, in ring mode (R284). -/
def State.tuneTrace (s : State) (l relay : Nat) : State :=
  let probe := fun (s : State) (p b : Nat) (on : Bool) =>
    ((s.wr (CLE_TRC_PROBE l p) CLE_TRC_PROBE_BLOCK b).wr (CLE_TRC_PROBE l p) CLE_TRC_PROBE_WHAT 0).wrB (CLE_TRC_PROBE l p) CLE_TRC_PROBE_EN on
  let s := probe s 0 relay true
  let s := probe s 1 ((s.blkIn relay 0).getD 0) (s.blkIn relay 0).isSome
  opTraceArm l (s.wrB (CLE_TRC_CFG l) CLE_TRC_CFG_MODE false)

/-- A parameter word that a service writes: a NaN or an infinity is ignored and sets CFG_REJ (R267). -/
def State.giveParam (s : State) (set b i v : Nat) : State :=
  if isNan v || isInf v then s.cleRej else s.setBlkParam set b i v

/-- Auto-tune of a law begins (R284). The results of this law's earlier tunes are dropped. -/
def State.beginTune (s : State) (c : Cmd) (l relay pid : Nat) : Reply × State :=
  let set := 1 - s.activeSet l
  let t := (s.wr (CLE_LAW_TUNE l) CLE_LAW_TUNE_RELAY relay).wr (CLE_LAW_TUNE l) CLE_LAW_TUNE_PID pid
  let t := (((t.giveParam set relay 0 (c.n4 8)).giveParam set relay 1 (c.n4 12)).giveParam set relay 3 (c.n4 16)).giveParam
    set relay 2 (s.blkState pid 3)
  let ((r, d), t) := t.lawCommit l false
  if r ≠ 0 then ({ status := lawStatus r, detail := d }, t)
  else
    let u : CleTune := { law := l, rule := c.n2 2, cycles := c.n2 4, amp := c.n4 8, hys := c.n4 12, maxTime := c.n4 20, tag := c.tag,
                         start := s.now, switchAt := s.now }
    let t : State := { t with cle := { t.cle with tunes := t.cle.tunes ++ [u], tuned := t.cle.tuned.filter (fun d => d.law != l) } }
    let t := (t.stageLaw l 5 false false).tuneTrace l relay
    ({ later := some { obj := l, arg := c.tag } }, t.tuneEvent l 1 0 0 0)

/-- DESIGN CHOICE, log entry 52. -/
def planClawAutotune (c : Cmd) (s : State) : Plan :=
  let l := c.n2 0
  { absent := s.missing 128 l (CLE_LAW_STATE l)
    bad := orBad (fixed 24 [(6, 2)] c) (orBad (inRange 2 (decide (c.n2 2 ≤ 1))) (inRange 4 (decide (2 ≤ c.n2 4) && decide (c.n2 4 ≤ 32))))
    body := fun _ =>
      match s.tunePair l with
      | none => ({ status := stLawState }, s)
      | some (relay, pid) =>
        if s.lawState l ≠ 1 then ({ status := stLawState }, s)
        else if !(s.trcState l == 0 || s.trcState l == 3) || (s.tuneOf l).isSome || s.rdB (CLE_LAW_STATE l) CLE_LAW_STATE_COMMIT_PENDING then
          ({ status := stBusy }, s)
        else s.beginTune c l relay pid }

def srvClawAutotune (c : Cmd) (s : State) : State := s.serve 0x0610 (planClawAutotune c) c

/-- The result of an auto-tune that CLAW_AUTOTUNE_APPLY or the completion names. -/
def State.tuneResult (s : State) (l tag : Nat) : Option CleTuned := s.cle.tuned.reverse.find? (fun d => d.law == l && d.tag == tag)

/-- The payload of the completion (R286). -/
def CleTuned.bytes (d : CleTuned) : List Byte :=
  p2 d.law ++ p2 d.status ++ p2 d.reason ++ p2 d.cycles ++ p4 d.ku ++ p4 d.pu ++ p4 d.a ++ p4 d.kp ++ p4 d.ki ++ p4 d.kd

def planClawAutotuneApply (c : Cmd) (s : State) : Plan :=
  let l := c.n2 0
  { absent := s.missing 128 l (CLE_LAW_STATE l), bad := fixed 4 [] c
    body := fun _ =>
      match s.tuneResult l (c.n2 2) with
      | none => ({ status := stTuneStale }, s)
      | some d =>
        if d.status ≠ 0 ∨ (s.law l).commits ≠ d.commits then ({ status := stTuneStale }, s)
        else if s.rdB (CLE_LAW_STATE l) CLE_LAW_STATE_COMMIT_PENDING then ({ status := stBusy }, s)
        else
          let set := 1 - s.activeSet l
          let pid := s.tunePid l
          let t := (((s.copyActive l).giveParam set pid 0 d.kp).giveParam set pid 1 d.ki).giveParam set pid 2 d.kd
          let ((r, x), t) := t.lawCommit l true
          ({ status := lawStatus r, detail := x }, t) }

def srvClawAutotuneApply (c : Cmd) (s : State) : State := s.serve 0x0611 (planClawAutotuneApply c) c

def planClawAutotuneAbort (c : Cmd) (s : State) : Plan :=
  let l := c.n2 0
  { absent := s.missing 128 l (CLE_LAW_STATE l), bad := fixed 4 [(2, 2)] c
    body := fun _ => if (s.tuneOf l).isNone then ({ status := stLawState }, s) else ({}, s.abortTune l 5) }

def srvClawAutotuneAbort (c : Cmd) (s : State) : State := s.serve 0x0612 (planClawAutotuneAbort c) c

/-- Law (2 bytes), operation (1: START, 2: STOP, 4: COPY_ACTIVE; 1 byte), zero (1). -/
def planClawControl (c : Cmd) (s : State) : Plan :=
  let l := c.n2 0
  { absent := s.missing 128 l (CLE_LAW_CMD l), bad := orBad (fixed 4 [(3, 1)] c) (inRange 2 ([1, 2, 4].contains (c.n1 2)))
    body := fun _ =>
      let t := s.lawCmdWrite l (fset CLE_LAW_CMD_OP 0 (c.n1 2))
      (t.lawReply l, t) }

def srvClawControl (c : Cmd) (s : State) : State := s.serve 0x0613 (planClawControl c) c

/-- Whether an address is a parameter word of the law's shadow bank. -/
def State.shadowParam (s : State) (l a : Nat) : Bool :=
  let o := a - CLE_BLK_PARAM (1 - s.activeSet l) 0
  decide (CLE_BLK_PARAM (1 - s.activeSet l) 0 ≤ a) && decide (o < 0x10000) && (s.lawBlocks l).contains (o / 32)

/-- Law (2 bytes), BUMPLESS (1), zero (1), then records of shadow parameters.
DESIGN CHOICE, log entry 52. -/
def planClawCoeffCommit (c : Cmd) (s : State) : Plan :=
  let l := c.n2 0
  { absent := s.missing 128 l (CLE_LAW_CMD l)
    bad := orBad (if c.payload.length = 4 then none else badPair c 4 (s.shadowParam l))
      (orBad (inRange 2 (decide (c.n1 2 < 2))) (inRange 3 (c.n1 3 == 0)))
    body := fun _ =>
      if s.rdB (CLE_LAW_STATE l) CLE_LAW_STATE_COMMIT_PENDING then ({ status := stBusy }, s)
      else match s.writePairs 4 (regPairs c 4) with
      | (some off, _) => ({ status := stBadField, detail := off }, s)
      | (none, t) =>
        let ((r, d), t) := t.lawCommit l (c.n1 2 == 1)
        if r ≠ 0 then ({ status := lawStatus r, detail := d }, s)
        else
          let arg := (s.law l).commits
          ({ later := some { obj := l, arg := arg, outcome := if (t.law l).commits ≠ arg then some (0, 0, []) else none } }, t) }

def srvClawCoeffCommit (c : Cmd) (s : State) : State := s.serve 0x0614 (planClawCoeffCommit c) c

def execCleStatus (t : Nat) (c : Cmd) (s : State) : Host.Outcome State Fault Refusal := s.runAt t (srvCleStatus c)
def execClawTraceRead (t : Nat) (c : Cmd) (s : State) : Host.Outcome State Fault Refusal := s.runAt t (srvClawTraceRead c)
def execClawAutotune (t : Nat) (c : Cmd) (s : State) : Host.Outcome State Fault Refusal := s.runAt t (srvClawAutotune c)
def execClawAutotuneApply (t : Nat) (c : Cmd) (s : State) : Host.Outcome State Fault Refusal :=
  s.runAt t (srvClawAutotuneApply c)
def execClawAutotuneAbort (t : Nat) (c : Cmd) (s : State) : Host.Outcome State Fault Refusal :=
  s.runAt t (srvClawAutotuneAbort c)
def execClawControl (t : Nat) (c : Cmd) (s : State) : Host.Outcome State Fault Refusal := s.runAt t (srvClawControl c)
def execClawCoeffCommit (t : Nat) (c : Cmd) (s : State) : Host.Outcome State Fault Refusal :=
  s.runAt t (srvClawCoeffCommit c)

/-! ### LGE -/

def stProgState : Nat := 0x0530
def stExchangeAborted : Nat := 0x0533

/-- RESULT of a program command as a status (R317, R319). -/
def prgStatus (r : Nat) : Nat :=
  match r with | 0 => 0 | 1 => stProgState | 2 => 0x0531 | 3 => stNoResource | 4 => stBusy | _ => 0x0532

def State.prgReply (s : State) (p : Nat) (data : List Byte) : Reply :=
  { status := prgStatus (s.rd (LGE_PRG_CMD p) LGE_PRG_CMD_RESULT), data := data }

def planLgeStatus (c : Cmd) (s : State) : Plan := planStatus 0x07 c s

def srvLgeStatus (c : Cmd) (s : State) : State := s.serve 0x0701 (planLgeStatus c) c

/-- Whether an address belongs to what PROG_LOAD may write of a slot: its own configuration, maps and declarations, and words of
the pools that no other slot holds. -/
def State.slotAddr (s : State) (p a : Nat) : Bool :=
  let own := fun (o : Option Nat) => o == none || o == some p
  if 0x07010000 ≤ a ∧ a < 0x07014000 then
    (a - 0x07010000) / 0x100 == p && !([LGE_PRG_STATE p, LGE_PRG_CMD p].contains a)
  else if 0x07100000 ≤ a ∧ a < 0x07200000 then own (regionOwner s.codeRegions ((a - 0x07100000) / 4))
  else if 0x07200000 ≤ a ∧ a < 0x07300000 then own (regionOwner s.varRegions ((a - 0x07200000) / 4))
  else if 0x07300000 ≤ a ∧ a < 0x07400000 then own (regionOwner s.instRegions ((a - 0x07300000) / 16))
  else if 0x07500000 ≤ a ∧ a < 0x07600000 then (a - 0x07500000) / 0x400 == p
  else if 0x07600000 ≤ a ∧ a < 0x07700000 then (a - 0x07600000) / 0x400 == p
  else decide (0x07700000 ≤ a) && (a - 0x07700000) / 0x4000 == p

/-- Records of a slot written in order, each checked against the slot's extent as it then stands.
DESIGN CHOICE, log entry 7. -/
def State.loadSlot (s : State) (p : Nat) : Nat → List RegRec → Option Nat × State
  | _, [] => (none, s)
  | i, r :: rs =>
    if !r.good || !s.slotAddr p r.addr then (some i, s)
    else
      let (ok, t) := s.tryWrite r.addr r.value
      if ok then t.loadSlot p (i + 1) rs else (some i, s)

/-- Slot (1 byte), zero (3), aperture (4), offset (4), length (4); the aperture holds register records of 16 bytes as in a
configuration image.
DESIGN CHOICE, log entry 7. -/
def planProgLoad (c : Cmd) (s : State) : Plan :=
  let p := c.n1 0
  { absent := s.missing 64 p (LGE_PRG_CFG p), bad := orBad (fixed 16 [(1, 3)] c) (inRange 12 (c.n4 12 % 16 == 0))
    body := fun _ =>
      match s.aperImage (c.n4 4) (c.n4 8) (c.n4 12) with
      | none => ({ status := stApertureBad }, s)
      | some b =>
        if s.prgState p ≠ 0 then ({ status := stProgState }, s)
        else match s.loadSlot p 0 (regRecs b) with
        | (some i, _) => ({ status := stBadField, detail := satNat 65535 i }, s)
        | (none, t) => ({}, t) }

def srvProgLoad (c : Cmd) (s : State) : State := s.serve 0x0710 (planProgLoad c) c

/-- Slot (1 byte), TARGET (1), zero (2). The steward waits for the verification; the answer holds LGE_PRG_DETAIL. -/
def planProgVerify (c : Cmd) (s : State) : Plan :=
  let p := c.n1 0
  { absent := s.missing 64 p (LGE_PRG_CFG p), bad := orBad (fixed 4 [(2, 2)] c) (inRange 1 (decide (c.n1 1 < 64)))
    body := fun _ =>
      if s.rdB (LGE_PRG_CMD p) LGE_PRG_CMD_BUSY then ({ status := stBusy }, s)
      else
        let t := opLgeVerifyComplete p (opLgeVerify p (c.n1 1) s)
        (t.prgReply p (p4 (t.rdW (LGE_PRG_DETAIL p)).toNat), t) }

def srvProgVerify (c : Cmd) (s : State) : State := s.serve 0x0711 (planProgVerify c) c

/-- Slot (1 byte), TARGET (1), zero (2). -/
def planProgExchange (c : Cmd) (s : State) : Plan :=
  let p := c.n1 0
  { absent := s.missing 64 p (LGE_PRG_CFG p), bad := orBad (fixed 4 [(2, 2)] c) (inRange 1 (decide (c.n1 1 < 64)))
    body := fun _ =>
      if s.rdB (LGE_PRG_CMD p) LGE_PRG_CMD_BUSY then ({ status := stBusy }, s)
      else
        let t := opLgeExchange p (c.n1 1) s
        let r := t.rd (LGE_PRG_CMD p) LGE_PRG_CMD_RESULT
        if r ≠ 0 then ({ status := prgStatus r }, t)
        else ({ later := some { obj := p, outcome :=
          if (t.prog p).exch.isNone then some (0, 0, fitBytes 32 (t.regBytes (LGE_REPORT 0) 32)) else none } }, t) }

def srvProgExchange (c : Cmd) (s : State) : State := s.serve 0x0712 (planProgExchange c) c

/-- Slot (1 byte), operation (LGE_PRG_CMD.OP 1 to 5 or 8; 1), COLD (1), zero (1). -/
def planProgControl (c : Cmd) (s : State) : Plan :=
  let p := c.n1 0
  { absent := s.missing 64 p (LGE_PRG_CFG p)
    bad := orBad (fixed 4 [(3, 1)] c) (orBad (inRange 1 ([1, 2, 3, 4, 5, 8].contains (c.n1 1))) (inRange 2 (decide (c.n1 2 < 2))))
    body := fun _ =>
      if s.rdB (LGE_PRG_CMD p) LGE_PRG_CMD_BUSY then ({ status := stBusy }, s)
      else
        let t := s.prgCmdWrite p (fset LGE_PRG_CMD_COLD (fset LGE_PRG_CMD_OP 0 (c.n1 1)) (c.n1 2))
        (t.prgReply p [], t) }

def srvProgControl (c : Cmd) (s : State) : State := s.serve 0x0713 (planProgControl c) c

/-- The entry of a force table that a force of `var` uses: its own, or for a new one the first that is free. -/
def State.forceSlot (s : State) (p var : Nat) (set : Bool) : Option Nat :=
  match (s.forces p).find? (fun f => f.2.1 == var) with
  | some f => some f.1
  | none => if set then (List.range 256).find? (fun f => !(s.forces p).any (fun g => g.1 == f)) else none

/-- Slot (1 byte), zero (1), VAR_ID (2), set (1: set, 0: clear; 1), zero (3), VALUE (4).
DESIGN CHOICE, log entry 52. -/
def planProgForce (c : Cmd) (s : State) : Plan :=
  let p := c.n1 0
  let on := c.n1 4 == 1
  { absent := s.missing 64 p (LGE_PRG_CFG p), bad := orBad (fixed 12 [(1, 1), (5, 3)] c) (inRange 4 (decide (c.n1 4 < 2)))
    body := fun x =>
      if on && !(s.decls p).any (fun d => d.var == c.n2 2) then ({ status := 0x0535 }, s)
      else match s.forceSlot p (c.n2 2) on with
      | none => ({ status := if on then 0x0534 else 0x0535 }, s)
      | some f => let (st, t) := s.setForce p f (c.n2 2) on (c.n4 8) x.id; ({ status := st }, t) }

def srvProgForce (c : Cmd) (s : State) : State := s.serve 0x0714 (planProgForce c) c

def execLgeStatus (t : Nat) (c : Cmd) (s : State) : Host.Outcome State Fault Refusal := s.runAt t (srvLgeStatus c)
def execProgLoad (t : Nat) (c : Cmd) (s : State) : Host.Outcome State Fault Refusal := s.runAt t (srvProgLoad c)
def execProgVerify (t : Nat) (c : Cmd) (s : State) : Host.Outcome State Fault Refusal := s.runAt t (srvProgVerify c)
def execProgExchange (t : Nat) (c : Cmd) (s : State) : Host.Outcome State Fault Refusal := s.runAt t (srvProgExchange c)
def execProgControl (t : Nat) (c : Cmd) (s : State) : Host.Outcome State Fault Refusal := s.runAt t (srvProgControl c)
def execProgForce (t : Nat) (c : Cmd) (s : State) : Host.Outcome State Fault Refusal := s.runAt t (srvProgForce c)

/-! ### OUT -/

def planOutStatus (c : Cmd) (s : State) : Plan := planStatus 0x08 c s

def srvOutStatus (c : Cmd) (s : State) : State := s.serve 0x0801 (planOutStatus c) c

/-- Binding (2 bytes), ARM (1), zero (1). -/
def planOutBindArm (c : Cmd) (s : State) : Plan :=
  { absent := if 256 ≤ c.n2 0 then some 255 else none, bad := orBad (fixed 4 [(3, 1)] c) (inRange 2 (decide (c.n1 2 < 2)))
    body := fun _ => ({}, opOutBindArmWrite (fset OUT_BIND_ARM_ARM (fset OUT_BIND_ARM_BIND 0 (c.n2 0)) (c.n1 2)) s) }

def srvOutBindArm (c : Cmd) (s : State) : State := s.serve 0x0810 (planOutBindArm c) c

/-- The arrays of bindings, publishers, maps, templates, slot owners and safe values (R345). -/
def outBindReg (a : Nat) : Bool :=
  (decide (0x08010000 ≤ a) && decide (a < 0x08100000)) || (decide (0x08500000 ≤ a) && decide (a < 0x08900000))

def planOutBindSet (c : Cmd) (s : State) : Plan := planPairs (fun _ => outBindReg) c s

def srvOutBindSet (c : Cmd) (s : State) : State := s.serve 0x0811 (planOutBindSet c) c

/-- OUT_FENCE_CLEAR; while FENCE_N is low the write is ignored (R330). The answer holds OUT_STAT. -/
def planOutFenceClear (c : Cmd) (s : State) : Plan :=
  { bad := fixed 0 [] c, body := fun _ => let t := opOutFenceClr s; ({ data := p4 (t.rdW OUT_STAT).toNat }, t) }

def srvOutFenceClear (c : Cmd) (s : State) : State := s.serve 0x0812 (planOutFenceClear c) c

def State.takeBinEvents : Nat → State → List Byte × State
  | 0, s => ([], s)
  | n + 1, s => match s.out.events with
    | [] => ([], s)
    | e :: _ =>
      let (l, t) := State.takeBinEvents n (opOutBinEvtPop s)
      (e ++ l, t)

/-- COUNT (4 bytes, 1 to 250). -/
def planOutBinEvents (c : Cmd) (s : State) : Plan :=
  { bad := orBad (fixed 4 [] c) (inRange 0 (decide (1 ≤ c.n4 0) && decide (c.n4 0 ≤ 250)))
    body := fun _ => let (b, t) := State.takeBinEvents (c.n4 0) s; ({ data := b }, t) }

def srvOutBinEvents (c : Cmd) (s : State) : State := s.serve 0x0813 (planOutBinEvents c) c

def execOutStatus (t : Nat) (c : Cmd) (s : State) : Host.Outcome State Fault Refusal := s.runAt t (srvOutStatus c)
def execOutBindArm (t : Nat) (c : Cmd) (s : State) : Host.Outcome State Fault Refusal := s.runAt t (srvOutBindArm c)
def execOutBindSet (t : Nat) (c : Cmd) (s : State) : Host.Outcome State Fault Refusal := s.runAt t (srvOutBindSet c)
def execOutFenceClear (t : Nat) (c : Cmd) (s : State) : Host.Outcome State Fault Refusal := s.runAt t (srvOutFenceClear c)
def execOutBinEvents (t : Nat) (c : Cmd) (s : State) : Host.Outcome State Fault Refusal := s.runAt t (srvOutBinEvents c)

/-! ### REC -/

def stRecState : Nat := 0x0551

/-- RESULT of REC_CMD as a status (R369, R371). -/
def recStatus (r : Nat) : Nat :=
  match r with | 0 => 0 | 1 => stRecState | 2 => 0x0552 | 3 => 0x0550 | 4 => stNoResource | _ => stBusy

/-- Recorder (1 byte), zero (3). The answer of an arm holds PRE_EFF and the reduction (R357). -/
def planRecArm (c : Cmd) (s : State) : Plan :=
  let r := c.n1 0
  { absent := s.missing 16 r (REC_STATE r), bad := fixed 4 [(1, 3)] c
    body := fun _ =>
      let (v, d, t) := s.recSync.recArm r
      ({ status := recStatus v, detail := d,
         data := if v = 0 then p4 (t.rdW (REC_PRE_EFF r)).toNat ++ p4 (t.rd (REC_STATE r) REC_STATE_PRE_REDUCED) else [] }, t) }

def srvRecArm (c : Cmd) (s : State) : State := s.serve 0x0901 (planRecArm c) c

def planRecDisarm (c : Cmd) (s : State) : Plan :=
  let r := c.n1 0
  { absent := s.missing 16 r (REC_STATE r), bad := fixed 4 [(1, 3)] c
    body := fun _ => let (v, t) := s.recDisarm r; ({ status := recStatus v }, t) }

def srvRecDisarm (c : Cmd) (s : State) : State := s.serve 0x0902 (planRecDisarm c) c

/-- Recorder (1 byte), NOW (1: the present domain time; 1), zero (2), instant (8).
DESIGN CHOICE, log entry 7. -/
def planRecTrigger (c : Cmd) (s : State) : Plan :=
  let r := c.n1 0
  { absent := s.missing 16 r (REC_STATE r), bad := orBad (fixed 12 [(2, 2)] c) (inRange 1 (decide (c.n1 1 < 2)))
    body := fun _ =>
      let (e, t) := s.recSync.recOffer r 9 (if c.n1 1 = 1 then s.stamp else c.n8 4) 0 none
      let t := t.recSync
      match e with
      | .accepted => ({}, t)
      | .tooOld => ({ status := 0x0553 }, t)
      | .nothing => ({ status := stRecState }, t)
      | .ignored => ({ status := stRecState }, t) }

def srvRecTrigger (c : Cmd) (s : State) : State := s.serve 0x0903 (planRecTrigger c) c

/-- One row of an export (R368): sample number, µs from the first entry, the analog values in binary32, the digital channels. -/
def State.exportRow (s : State) (r first : Nat) (digital qual : Bool) (i : Nat) : List Nat :=
  let n := first + i
  let a := s.recAddr r n
  let chans := (List.range (s.recChannels r)).map (fun k => (s.le (a + 16 + 8 * k) 4, s.le (a + 20 + 8 * k) 4, k))
  let analog := chans.map (fun v =>
    if v.2.1.testBit 20 then 0 else fmul (fofInt (toSigned 32 v.1)) (Config.exportScale r v.2.2))
  let bits := if digital then
      (List.range 32).map (fun b => b2n ((s.le (a + 8) 4).testBit b)) ++ (List.range 16).map (fun b => b2n ((s.le (a + 12) 2).testBit b))
    else []
  let quals := if qual then chans.map (fun v => b2n (v.2.1 % 4 != 0 || v.2.1.testBit 20)) else []
  [i + 1, (s.recInst r n - s.recInst r first) / 1000] ++ analog ++ bits ++ quals

/-- The logical output of an export (R368). -/
def State.exportBytes (s : State) (r : Nat) (qual : Bool) : List Byte :=
  let x := s.recDyn r
  let pre := (s.rdW (REC_PRE_ACT r)).toNat
  let post := (s.rdW (REC_POST_ACT r)).toNat
  let (trig, first) := match x.trig with
    | some t => (t, t.entry - pre)
    | none => ({ instant := 0, entry := 0, frac := 0, source := 0, detail := 0 }, x.n0)
  let utc := fun (d : Nat) => d - 1000000000 * s.rd OUT_UTC_OFFSET OUT_UTC_OFFSET_SECONDS
  let dig := s.rdB (REC_CFG r) REC_CFG_DIGITAL
  let head := [r, s.recChannels r, b2n dig, b2n qual, s.recRate r, s.recNom r, pre + post, utc (s.recInst r first), utc trig.instant,
    if trig.synch = 2 then 0 else 15, trig.source, trig.detail, trig.frac, trig.instant, s.rd (REC_STATE r) REC_STATE_PRE_REDUCED,
    s.rd (REC_STATE r) REC_STATE_END_CAUSE, x.laterN] ++ x.later.flatMap (fun l => [l.1, l.2.1, l.2.2])
  Config.comtrade head ((List.range (pre + post)).map (s.exportRow r first dig qual))

/-- Recorder (1 byte), options (QUAL_DIG; 1), zero (2), aperture (4), OFFSET (8).
DESIGN CHOICE, log entry 7. -/
def planRecExport (c : Cmd) (s : State) : Plan :=
  let r := c.n1 0
  { absent := s.missing 16 r (REC_STATE r), bad := orBad (fixed 16 [(2, 2)] c) (inRange 1 (decide (c.n1 1 < 2)))
    body := fun _ =>
      if s.recState r ≠ 3 then ({ status := stRecState }, s)
      else if (s.recDyn r).exporting then ({ status := stBusy }, s)
      else match s.bulkOut (c.n4 4) (c.n8 8) (s.exportBytes r (c.n1 1 == 1)) with
      | none => ({ status := stApertureBad }, s)
      | some (d, t) =>
        let x := t.recDyn r
        ({ later := some { obj := r, outcome := some (0, 0, d) } }, t.setRec r { x with exporting := true }) }

def srvRecExport (c : Cmd) (s : State) : State := s.serve 0x0904 (planRecExport c) c

def planRecStatus (c : Cmd) (s : State) : Plan := planStatus 0x09 c s

def srvRecStatus (c : Cmd) (s : State) : State := s.serve 0x0905 (planRecStatus c) c

def execRecArm (t : Nat) (c : Cmd) (s : State) : Host.Outcome State Fault Refusal := s.runAt t (srvRecArm c)
def execRecDisarm (t : Nat) (c : Cmd) (s : State) : Host.Outcome State Fault Refusal := s.runAt t (srvRecDisarm c)
def execRecTrigger (t : Nat) (c : Cmd) (s : State) : Host.Outcome State Fault Refusal := s.runAt t (srvRecTrigger c)
def execRecExport (t : Nat) (c : Cmd) (s : State) : Host.Outcome State Fault Refusal := s.runAt t (srvRecExport c)
def execRecStatus (t : Nat) (c : Cmd) (s : State) : Host.Outcome State Fault Refusal := s.runAt t (srvRecStatus c)

end Sys2Proof.Machine
end

