-- ==== Sys2Proof/Machine/MbxKeys.lean ====
section
/-! DEFINITION. Mailbox commands of the Almanac, the duplex pair, the key register, memory banks and the time base (R389 to R391,
R430, R444 to R449, R457, R476, R496). Payload layouts that the spec does not give are those of notes/assumptions/7. -/

namespace Sys2Proof.Machine

/-! ### Confirm codes (R389) -/

def stConfirmBad : Nat := 0x0563
def stConfirmExpired : Nat := 0x0564

/-- A confirm code: 32 bits that no rule gives, never 0 (notes/assumptions/5).
DESIGN CHOICE, log entry 5. -/
def State.drawCode (s : State) : Nat × State :=
  let (v, s) := s.draw
  (v.toNat % (2 ^ 32 - 1) + 1, s)

/-! ### ALM -/

def stAlmFull : Nat := 0x0562
def stAlmChannelDenied : Nat := 0x0565

/-- The channel a payload names, when it is absent. -/
def State.absentChan (s : State) (ch : Nat) : Option Nat := if s.chanPresent ch then none else some (ch % 256)

/-- Channel (2 bytes), zero (2): a confirm code, for the session and the channel. -/
def planAlmClear (c : Cmd) (s : State) : Plan :=
  let ch := c.n2 0
  { absent := s.absentChan ch, clear := true, bad := fixed 4 [(2, 2)] c
    body := fun x =>
      if 512 ≤ ch then ({ status := stAlmChannelDenied }, s)
      else if s.quota ch = 0 then ({ status := stAlmFull }, s)
      else
        let (code, t) := s.drawCode
        let k : AlmConfirm := { session := x.id, ch := ch, code := code, at_ := s.now }
        ({ data := p4 code }, { t with alm := { t.alm with confirms := t.alm.confirms.filter (fun y => y.session != x.id) ++ [k] } }) }

/-- DESIGN CHOICE, log entry 8. -/
def srvAlmClear (c : Cmd) (s : State) : State := s.serve 0x0A10 (planAlmClear c) c

/-- The payload of a clear record (R389). -/
def State.clearPayload (s : State) (x : Session) (ch : Nat) : List Byte :=
  let rs := (s.chan ch).recs
  p4 x.id ++ p1 x.role ++ leBytes 3 0 ++ p4 rs.length ++ p4 ((rs.head?.map (·.seq)).getD 0) ++ p4 ((rs.getLast?.map (·.seq)).getD 0)
    ++ p2 ch ++ leBytes 10 0

/-- The clear of a confirmed channel: staged payload, ALM_CLEAR, and the same payload to channel 0x203 (R389 steps 3, 4). -/
def State.clearNow (s : State) (x : Session) (ch : Nat) : State :=
  let b := s.clearPayload x ch
  let s := (List.range 8).foldl (fun (s : State) i => s.wrW (ALM_POST_STAGE i) (BitVec.ofNat 32 (leAt b (4 * i) 4))) s
  let s := opAlmClearWrite (fset ALM_CLEAR_CHANNEL 0 ch) s
  opAlmPost (fset ALM_POST_CHANNEL (fset ALM_POST_PSIZE (fset ALM_POST_CODE 0 0x0A03) 2) 0x203) s

/-- Channel (2 bytes), zero (2), code (4). -/
def planAlmClearConfirm (c : Cmd) (s : State) : Plan :=
  let ch := c.n2 0
  { absent := s.absentChan ch, clear := true, bad := fixed 8 [(2, 2)] c
    body := fun x =>
      let t : State := { s with alm := { s.alm with confirms := s.alm.confirms.filter (fun y => y.session != x.id) } }
      match s.alm.confirms.find? (fun y => y.session == x.id) with
      | none => ({ status := stConfirmBad }, s)
      | some k =>
        if k.ch ≠ ch ∨ k.code ≠ c.n4 4 then ({ status := stConfirmBad }, t)
        else if k.at_ + 30000000000 < s.now then ({ status := stConfirmExpired }, t)
        else if s.quota ch = 0 then ({ status := stAlmFull }, t)
        else ({}, t.clearNow x ch) }

def srvAlmClearConfirm (c : Cmd) (s : State) : State := s.serve 0x0A11 (planAlmClearConfirm c) c

/-- Channel (2 bytes), zero (2): ALM_CH_FIRST, NEXT, USED, CFG and STAT. -/
def planAlmInfo (c : Cmd) (s : State) : Plan :=
  let ch := c.n2 0
  { absent := s.absentChan ch, bad := fixed 4 [(2, 2)] c
    body := fun _ =>
      let regs := [ALM_CH_FIRST ch, ALM_CH_NEXT ch, ALM_CH_USED ch, ALM_CH_CFG ch, ALM_CH_STAT ch]
      ({ data := regs.flatMap (fun a => p4 (s.rdW a).toNat) }, s) }

def srvAlmInfo (c : Cmd) (s : State) : State := s.serve 0x0A12 (planAlmInfo c) c

/-- The role that reading a channel needs (R391). -/
def readRole (ch : Nat) : Nat := if ch < 512 then 0 else if ch = 0x200 ∨ ch = 0x201 ∨ ch = 0x203 then 3 else 2

/-- Whole records from a start SEQ that fit in `room` bytes (R391). -/
def State.readRecords (s : State) (ch start room : Nat) : List Byte × Nat :=
  let rs := (s.chan ch).recs.filter (fun r => decide (0 ≤ diff32 r.seq start))
  let (b, n, _) := rs.foldl (fun (acc : List Byte × Nat × Bool) r =>
    let x := r.toBytes ch
    if acc.2.2 && decide (acc.1.length + x.length ≤ room) then (acc.1 ++ x, acc.2.1 + 1, true) else (acc.1, acc.2.1, false)) ([], 0, true)
  (b, n)

/-- Channel (2 bytes), zero (2), start SEQ (4): FIRST, NEXT and the records. -/
def planAlmRead (c : Cmd) (s : State) : Plan :=
  let ch := c.n2 0
  { absent := s.absentChan ch, role := some (readRole ch), bad := fixed 8 [(2, 2)] c
    body := fun _ =>
      let head := p4 (s.rdW (ALM_CH_FIRST ch)).toNat ++ p4 (s.rdW (ALM_CH_NEXT ch)).toNat
      ({ data := head ++ (s.readRecords ch (c.n4 4) 4052).1 }, s) }

def srvAlmRead (c : Cmd) (s : State) : State := s.serve 0x0A13 (planAlmRead c) c

def execAlmClear (t : Nat) (c : Cmd) (s : State) : Host.Outcome State Fault Refusal := s.runAt t (srvAlmClear c)
def execAlmClearConfirm (t : Nat) (c : Cmd) (s : State) : Host.Outcome State Fault Refusal := s.runAt t (srvAlmClearConfirm c)
def execAlmInfo (t : Nat) (c : Cmd) (s : State) : Host.Outcome State Fault Refusal := s.runAt t (srvAlmInfo c)
def execAlmRead (t : Nat) (c : Cmd) (s : State) : Host.Outcome State Fault Refusal := s.runAt t (srvAlmRead c)

/-! ### DPX (R430) -/

def dpxStatus (r : Nat) : Nat := match r with | 0 => 0 | 1 => 0x0570 | 2 => 0x0571 | _ => 0x0573

def planDpxStatus (c : Cmd) (s : State) : Plan := planStatus 0x0B c s

def srvDpxStatus (c : Cmd) (s : State) : State := s.serve 0x0B10 (planDpxStatus c) c

/-- A command that DPX_CMD carries out. -/
def planDpx (n : Nat) (op : State → State) (c : Cmd) (s : State) : Plan :=
  { bad := orBad (fixed n [(1, 3)] c) (inRange 0 (n = 0 || decide (c.n1 0 < 2)))
    body := fun _ =>
      if s.rdB DPX_CMD DPX_CMD_BUSY then ({ status := stBusy }, s)
      else
        let t := op s
        ({ status := dpxStatus (t.rd DPX_CMD DPX_CMD_RESULT) }, t) }

def planDpxRevertNow (c : Cmd) (s : State) : Plan := planDpx 0 opRevertNow c s

def srvDpxRevertNow (c : Cmd) (s : State) : State := s.serve 0x0B11 (planDpxRevertNow c) c
def planDpxUnfence (c : Cmd) (s : State) : Plan := planDpx 4 (opEvUnfence (c.n1 0)) c s

def srvDpxUnfence (c : Cmd) (s : State) : State := s.serve 0x0B12 (planDpxUnfence c) c
def planDpxDeclare (c : Cmd) (s : State) : Plan := planDpx 0 opEvDeclare c s

def srvDpxDeclare (c : Cmd) (s : State) : State := s.serve 0x0B13 (planDpxDeclare c) c
def planDpxForceGrant (c : Cmd) (s : State) : Plan := planDpx 4 (opForceGrant (c.n1 0)) c s

def srvDpxForceGrant (c : Cmd) (s : State) : State := s.serve 0x0B14 (planDpxForceGrant c) c

def execDpxStatus (t : Nat) (c : Cmd) (s : State) : Host.Outcome State Fault Refusal := s.runAt t (srvDpxStatus c)
def execDpxRevertNow (t : Nat) (c : Cmd) (s : State) : Host.Outcome State Fault Refusal := s.runAt t (srvDpxRevertNow c)
def execDpxUnfence (t : Nat) (c : Cmd) (s : State) : Host.Outcome State Fault Refusal := s.runAt t (srvDpxUnfence c)
def execDpxDeclare (t : Nat) (c : Cmd) (s : State) : Host.Outcome State Fault Refusal := s.runAt t (srvDpxDeclare c)
def execDpxForceGrant (t : Nat) (c : Cmd) (s : State) : Host.Outcome State Fault Refusal := s.runAt t (srvDpxForceGrant c)

/-! ### KEY operations (R438, R457) -/

/-- The steward's buffers for key commands (notes/assumptions/44).
DESIGN CHOICE, log entry 44. -/
def keyInAddr : Nat := 0x1007FFE000
/-- DESIGN CHOICE, log entry 44. -/
def keyOutAddr : Nat := 0x1007FFF000

/-- KEY_OP_KEY to KEY_OP_OUT written for a command, with its input in the buffer.
DESIGN CHOICE, log entry 7. -/
def State.keyRegs (s : State) (key dst attr tenant : Nat) (input : List Byte) : State :=
  let s := (s.wr KEY_OP_KEY KEY_OP_KEY_SLOT key).wr KEY_OP_DST KEY_OP_DST_SLOT dst
  let s := (s.regWrite KEY_OP_ATTR (BitVec.ofNat 32 attr)).wr KEY_OP_TENANT KEY_OP_TENANT_TENANT tenant
  let s := (s.wr64 KEY_OP_IN_LO KEY_OP_IN_HI keyInAddr).wr64 KEY_OP_OUT_LO KEY_OP_OUT_HI keyOutAddr
  (s.wr KEY_OP_INLEN KEY_OP_INLEN_LEN input.length).store keyInAddr input

/-- An operation run to its end on behalf of a command; its answer holds the output, and the buffers are cleared. -/
def State.keyRun (s : State) (key dst attr tenant : Nat) (input : List Byte) (op : State → State) (out : Nat) : Reply × State :=
  if !s.opFree then ({ status := stBusy }, s)
  else
    let t := op (s.keyRegs key dst attr tenant input)
    let t := t.endSteward
    let st := t.rd KEY_OP_STAT KEY_OP_STAT_STATUS
    let data := if st = 0 then t.bytes keyOutAddr out else []
    let t := (t.store keyInAddr (List.replicate input.length 0)).store keyOutAddr (List.replicate out 0)
    ({ status := st, data := data }, t)

/-- Key (2 bytes), destination (2), KEY_OP_ATTR (4), TENANT (2), PUB (1), zero (1), then the operation's input as R454 lays it
out. -/
def planCreate (op : State → State) (pubs : Nat) (out : Nat) (c : Cmd) (s : State) : Plan :=
  { bad := if c.payload.length < 12 then some (stBadLength, 0)
      else orBad (inRange 0 (decide (c.n2 0 < 4096))) (orBad (inRange 2 (decide (c.n2 2 < 4096)))
        (orBad (inRange 8 (decide (c.n2 8 < 512))) (orBad (inRange 10 (decide (c.n1 10 < pubs))) (inRange 11 (c.n1 11 == 0)))))
    body := fun _ => s.keyRun (c.n2 0) (c.n2 2) (c.n4 4) (c.n2 8) (c.payload.drop 12) op out }

def planKeyDerive (c : Cmd) (s : State) : Plan := planCreate opDerive 1 0 c s

def srvKeyDerive (c : Cmd) (s : State) : State := s.serve 0x0C10 (planKeyDerive c) c
def planKeyImport (c : Cmd) (s : State) : Plan := planCreate (opImport (c.n1 10 == 1)) 2 0 c s

def srvKeyImport (c : Cmd) (s : State) : State := s.serve 0x0C11 (planKeyImport c) c
def planKeyExport (c : Cmd) (s : State) : Plan := planCreate opExport 1 40 c s

def srvKeyExport (c : Cmd) (s : State) : State := s.serve 0x0C12 (planKeyExport c) c
def planKeyGenerate (c : Cmd) (s : State) : Plan := planCreate opGenerate 1 64 c s

def srvKeyGenerate (c : Cmd) (s : State) : State := s.serve 0x0C13 (planKeyGenerate c) c
def planKeyAgree (c : Cmd) (s : State) : Plan := planCreate opAgree 1 0 c s

def srvKeyAgree (c : Cmd) (s : State) : State := s.serve 0x0C14 (planKeyAgree c) c

/-- COUNT of KEY_OP_STAT after an operation. -/
def State.withCount (r : Reply × State) : Reply × State :=
  ({ r.1 with data := p4 (r.2.rd KEY_OP_STAT KEY_OP_STAT_COUNT) }, r.2)

/-- Slot (2 bytes), DESTROY (1), zero (1). -/
def planKeyInvalidate (c : Cmd) (s : State) : Plan :=
  { bad := orBad (fixed 4 [(3, 1)] c) (orBad (inRange 0 (decide (c.n2 0 < 4096))) (inRange 2 (decide (c.n1 2 < 2))))
    body := fun _ => State.withCount (s.keyRun 0 (c.n2 0) 0 0 [] (opInvalidate (c.n1 2 == 1)) 0) }

def srvKeyInvalidate (c : Cmd) (s : State) : State := s.serve 0x0C15 (planKeyInvalidate c) c

def planKeySweep (c : Cmd) (s : State) : Plan := { bad := fixed 0 [] c, body := fun _ => State.withCount (s.keyRun 0 0 0 0 [] opSweep 0) }

def srvKeySweep (c : Cmd) (s : State) : State := s.serve 0x0C16 (planKeySweep c) c

/-- Tenant (2 bytes), handle (2), slot (2), VALID (1), zero (1). -/
def planKeyHandleSet (c : Cmd) (s : State) : Plan :=
  { absent := if s.tenantPresent (c.n2 0) then none else some (c.n2 0 % 256)
    bad := orBad (fixed 8 [(7, 1)] c) (orBad (inRange 2 (decide (c.n2 2 < 32))) (orBad (inRange 4 (decide (c.n2 4 < 4096))) (inRange 6 (decide (c.n1 6 < 2)))))
    body := fun _ =>
      let a := KEY_HANDLE (c.n2 0) (c.n2 2)
      let u := (s.wr a KEY_HANDLE_SLOT (c.n2 4)).wrB a KEY_HANDLE_VALID (c.n1 6 == 1)
      let moving := s.tenState (c.n2 0) == 5 && s.tenBit (c.n2 0) TEN_STATE_DIR
      ({}, if moving then u.tenNotice (c.n2 0) 3 (c.n2 2) else u) }

def srvKeyHandleSet (c : Cmd) (s : State) : State := s.serve 0x0C17 (planKeyHandleSet c) c

def planKeyZeroise (c : Cmd) (s : State) : Plan := { bad := fixed 0 [] c, body := fun _ => s.keyRun 0 0 0 0 [] opZeroise 0 }

def srvKeyZeroise (c : Cmd) (s : State) : State := s.serve 0x0C18 (planKeyZeroise c) c

def planKeyStatus (c : Cmd) (s : State) : Plan := planStatus 0x0C c s

def srvKeyStatus (c : Cmd) (s : State) : State := s.serve 0x0C01 (planKeyStatus c) c

def execKeyStatus (t : Nat) (c : Cmd) (s : State) : Host.Outcome State Fault Refusal := s.runAt t (srvKeyStatus c)
def execKeyDerive (t : Nat) (c : Cmd) (s : State) : Host.Outcome State Fault Refusal := s.runAt t (srvKeyDerive c)
def execKeyImport (t : Nat) (c : Cmd) (s : State) : Host.Outcome State Fault Refusal := s.runAt t (srvKeyImport c)
def execKeyExport (t : Nat) (c : Cmd) (s : State) : Host.Outcome State Fault Refusal := s.runAt t (srvKeyExport c)
def execKeyGenerate (t : Nat) (c : Cmd) (s : State) : Host.Outcome State Fault Refusal := s.runAt t (srvKeyGenerate c)
def execKeyAgree (t : Nat) (c : Cmd) (s : State) : Host.Outcome State Fault Refusal := s.runAt t (srvKeyAgree c)
def execKeyInvalidate (t : Nat) (c : Cmd) (s : State) : Host.Outcome State Fault Refusal := s.runAt t (srvKeyInvalidate c)
def execKeySweep (t : Nat) (c : Cmd) (s : State) : Host.Outcome State Fault Refusal := s.runAt t (srvKeySweep c)
def execKeyHandleSet (t : Nat) (c : Cmd) (s : State) : Host.Outcome State Fault Refusal := s.runAt t (srvKeyHandleSet c)
def execKeyZeroise (t : Nat) (c : Cmd) (s : State) : Host.Outcome State Fault Refusal := s.runAt t (srvKeyZeroise c)

/-! ### Fuses, life cycle and tamper (R447 to R452) -/

/-- Customer keys change in the fuses: the fixed slots follow, with event 0x0C05 (R448). -/
def State.setFuses (s : State) (f : Fuses) : State := ({ s with fuses := f } : State).customerSlots.post 0x0C05 []

/-- A customer point X ‖ Y (64 bytes): its hash goes into the first blank customer slot. -/
def planKeyEnroll (c : Cmd) (s : State) : Plan :=
  { lcOk := decide (s.lc < 2), bad := fixed 64 [] c
    body := fun _ =>
      match (List.range 4).find? (fun i => (s.fuses.customer.getD i none).isNone) with
      | none => ({ status := stNoResource }, s)
      | some i =>
        let h := Config.sha256 (pointBytes (BitVec.ofNat 512 (beNat c.payload)))
        ({ data := p1 i ++ leBytes 3 0 }, s.setFuses { s.fuses with customer := s.fuses.customer.set i (some h) }) }

def srvKeyEnroll (c : Cmd) (s : State) : State := s.serve 0x0C20 (planKeyEnroll c) c

/-- Customer slot (1 byte), zero (3). -/
def planKeyRevoke (c : Cmd) (s : State) : Plan :=
  let i := c.n1 0
  { lcOk := decide (s.lc ≠ 3), bad := orBad (fixed 4 [(1, 3)] c) (inRange 0 (decide (i < 4)))
    body := fun _ =>
      let f : Fuses := { s.fuses with revoked := s.fuses.revoked.set i true }
      let t : State := { s with fuses := f }
      if s.lc = 2 ∧ (List.range 4).all (fun k => (t.customerKey k).isNone) then ({ status := stKeyLc }, s)
      else ({}, s.setFuses f) }

def srvKeyRevoke (c : Cmd) (s : State) : State := s.serve 0x0C21 (planKeyRevoke c) c

/-- A confirm code for a command other than an Almanac clear: asked for with code 0, then given. The status, and the machine;
`go` where the code is right. -/
def State.confirmed (s : State) (x : Session) (op code : Nat) (go : State → Reply × State) : Reply × State :=
  let mine := fun (k : Nat × Nat × Nat × Nat) => k.1 == x.id && k.2.1 == op
  let t : State := { s with mbx := { s.mbx with confirms := s.mbx.confirms.filter (fun k => !mine k) } }
  if code = 0 then
    let (v, u) := t.drawCode
    ({ data := p4 v }, { u with mbx := { u.mbx with confirms := u.mbx.confirms ++ [(x.id, op, v, s.now)] } })
  else match s.mbx.confirms.find? mine with
    | none => ({ status := stConfirmBad }, s)
    | some k =>
      if k.2.2.1 ≠ code then ({ status := stConfirmBad }, t)
      else if k.2.2.2 + 30000000000 < s.now then ({ status := stConfirmExpired }, t)
      else go t

/-- Whether the preconditions of an advance to a life-cycle state hold (R447).
DESIGN CHOICE, log entry 52. -/
def State.lcReady (s : State) (target : Nat) : Bool :=
  target == s.lc + 1 && !s.rdB KEY_STAT KEY_STAT_TAMPERED
    && (target != 2 || (s.key.cfgSet && (List.range 4).any (fun i => (s.customerKey i).isSome)))

/-- Target (1 byte), zero (3), confirm code (4; to DECOMMISSIONED only). -/
def planKeyLcAdvance (c : Cmd) (s : State) : Plan :=
  let target := c.n1 0
  { role := some (if s.lc = 0 then 4 else 3)
    bad := orBad (fixed 8 [(1, 3)] c) (orBad (inRange 0 (decide (1 ≤ target) && decide (target ≤ 3))) (inRange 4 (target = 3 || c.n4 4 == 0)))
    body := fun x =>
      if !s.lcReady target ∨ s.mbx.jobs.any (fun j => j.opcode == 0x0C22) then ({ status := stKeyLc }, s)
      else
        let go := fun (t : State) => (({ later := some { obj := target } } : Reply), t)
        if target = 3 then s.confirmed x 0x0C22 (c.n4 4) go else go s }

def srvKeyLcAdvance (c : Cmd) (s : State) : State := s.serve 0x0C22 (planKeyLcAdvance c) c

/-- The fuses of an advance are verified: the new state takes effect, or a fuse failed (R447). Answers the completion's
status.
DESIGN CHOICE, log entry 46. -/
def State.lcTake (s : State) (target session : Nat) (fuseBad : Bool) : Nat × State :=
  let old := s.lc
  if fuseBad then (stKeyLc, s.post 0x0C04 (p1 old ++ p1 old ++ p4 session ++ p1 1))
  else
    let tamper := if target = 2 then (s.rdW KEY_TAMPER_CFG).toNat else s.fuses.tamper
    let s : State := { s with fuses := { s.fuses with lc := target, tamper := tamper } }
    let s := s.wr KEY_STAT KEY_STAT_LC target
    let s : State := { s with sys := { s.sys with jtag := jtagSelects target s.sys.jtag } }
    let s := s.post 0x0C04 (p1 old ++ p1 target ++ p4 session)
    (0, if target = 3 then s.abortOps.zeroiseAll 4 else s)

/-- Confirm code (4 bytes), 0 to ask for one. -/
def planKeyTamperClear (c : Cmd) (s : State) : Plan :=
  { tamper := s.key.live != 0, bad := fixed 4 [] c
    body := fun x => s.confirmed x 0x0C23 (c.n4 0) (fun t =>
      let t := (t.wrW KEY_TAMPER_CAUSE 0).wrB KEY_STAT KEY_STAT_TAMPERED false
      ({}, (t.wrB KEY_STAT KEY_STAT_SERVICE true).post 0x0C08 [])) }

def srvKeyTamperClear (c : Cmd) (s : State) : State := s.serve 0x0C23 (planKeyTamperClear c) c

/-- KEY_TAMPER_CFG (4 bytes). -/
def planKeyTamperCfg (c : Cmd) (s : State) : Plan :=
  { lcOk := decide (s.lc < 2), bad := fixed 4 [] c
    body := fun _ => ({}, s.keyWrite KEY_TAMPER_CFG (BitVec.ofNat 32 (c.n4 0))) }

def srvKeyTamperCfg (c : Cmd) (s : State) : State := s.serve 0x0C24 (planKeyTamperCfg c) c

def execKeyEnroll (t : Nat) (c : Cmd) (s : State) : Host.Outcome State Fault Refusal := s.runAt t (srvKeyEnroll c)
def execKeyRevoke (t : Nat) (c : Cmd) (s : State) : Host.Outcome State Fault Refusal := s.runAt t (srvKeyRevoke c)
def execKeyLcAdvance (t : Nat) (c : Cmd) (s : State) : Host.Outcome State Fault Refusal := s.runAt t (srvKeyLcAdvance c)
def execKeyTamperClear (t : Nat) (c : Cmd) (s : State) : Host.Outcome State Fault Refusal := s.runAt t (srvKeyTamperClear c)
def execKeyTamperCfg (t : Nat) (c : Cmd) (s : State) : Host.Outcome State Fault Refusal := s.runAt t (srvKeyTamperCfg c)

/-! ### MEM (R476) -/

def planMemStatus (c : Cmd) (s : State) : Plan := planStatus 0x0D c s

def srvMemStatus (c : Cmd) (s : State) : State := s.serve 0x0D01 (planMemStatus c) c

/-- Bank (4 bytes), MEM_BANK_OWNER (4). -/
def planMemBankAssign (c : Cmd) (s : State) : Plan :=
  let n := c.n4 0
  let w := BitVec.ofNat 32 (c.n4 4)
  { absent := s.missing 16 n (MEM_BANK_OWNER n), bad := orBad (fixed 8 [] c) (inRange 4 (ownerWord w == w))
    body := fun _ =>
      if s.bankState n = 5 then ({ status := 0x0590 }, s)
      else if !s.ownerOk w then ({ status := 0x0591 }, s)
      else if !s.handoverOk n w then ({ status := stBusy }, s)
      else ({ later := some { obj := n, arg := w.toNat } }, opBankHandover n w s) }

def srvMemBankAssign (c : Cmd) (s : State) : State := s.serve 0x0D10 (planMemBankAssign c) c

/-- Bank (4 bytes). -/
def planMemBankBist (c : Cmd) (s : State) : Plan :=
  let n := c.n4 0
  { absent := s.missing 16 n (MEM_BANK_OWNER n), bad := fixed 4 [] c
    body := fun _ => if s.bankState n = 0 ∨ s.bankState n = 5 then ({}, opBankBistStart n s) else ({ status := stBusy }, s) }

def srvMemBankBist (c : Cmd) (s : State) : State := s.serve 0x0D11 (planMemBankBist c) c

def execMemStatus (t : Nat) (c : Cmd) (s : State) : Host.Outcome State Fault Refusal := s.runAt t (srvMemStatus c)
def execMemBankAssign (t : Nat) (c : Cmd) (s : State) : Host.Outcome State Fault Refusal := s.runAt t (srvMemBankAssign c)
def execMemBankBist (t : Nat) (c : Cmd) (s : State) : Host.Outcome State Fault Refusal := s.runAt t (srvMemBankBist c)

/-! ### TIM -/

def planTimStatus (c : Cmd) (s : State) : Plan := planStatus 0x0E c s

def srvTimStatus (c : Cmd) (s : State) : State := s.serve 0x0E01 (planTimStatus c) c

/-- The registers that TIM_SET writes. -/
def timSetReg (a : Nat) : Bool := [TIM_GRID, TIM_ADMIT, TIM_HOLD, TIM_PPS].contains a || (elemOf (TIM_PORT_PTP 0) 29 4 a).isSome

def planTimSet (c : Cmd) (s : State) : Plan := planPairs (fun _ => timSetReg) c s

def srvTimSet (c : Cmd) (s : State) : State := s.serve 0x0E10 (planTimSet c) c

def execTimStatus (t : Nat) (c : Cmd) (s : State) : Host.Outcome State Fault Refusal := s.runAt t (srvTimStatus c)
def execTimSet (t : Nat) (c : Cmd) (s : State) : Host.Outcome State Fault Refusal := s.runAt t (srvTimSet c)

end Sys2Proof.Machine
end

