-- ==== Sys2Proof/Machine/MbxTenants.lean ====
section
/-! DEFINITION. Mailbox commands of tenants, the system, sessions, apertures and the steward (R202 to R209, R220 to R223, R485 to
R489, R495 to R500, R518, R526). Payload layouts that the spec does not give are those of notes/assumptions/7. -/

namespace Sys2Proof.Machine

/-! ### TEN (R202 to R209, R220 to R223, R497) -/

/-- The tenant a payload names, when it is absent. -/
def State.absentTenant (s : State) (t : Nat) : Option Nat := if s.tenantPresent t then none else some (t % 256)

def planTenantStatus (c : Cmd) (s : State) : Plan := planStatus 0x0F c s

def srvTenantStatus (c : Cmd) (s : State) : State := s.serve 0x0F01 (planTenantStatus c) c

/-- The tenant image that TENANT_LOAD names: an image of the configuration image by its INDEX, or a part of an aperture. -/
def State.tenantImage (s : State) (c : Cmd) : Option (List Byte) :=
  if c.n1 2 = 0 then ((s.sectionsOf 10).find? (fun x => x.index == c.n4 4)).map (·.data)
  else s.aperImage (c.n4 4) (c.n4 8) (c.n4 12)

/-- Tenant (2 bytes), SOURCE (1), zero (1), image number or aperture (4), offset (4), length (4). The load is made at the command;
its completion tells the outcome.
DESIGN CHOICE, log entry 7. -/
def planTenantLoad (c : Cmd) (s : State) : Plan :=
  let t := c.n2 0
  { absent := s.absentTenant t, bad := orBad (fixed 16 [(3, 1)] c) (inRange 2 (decide (c.n1 2 < 2)))
    body := fun _ =>
      match s.tenantImage c with
      | none => ({ status := if c.n1 2 = 0 then stBadField else stApertureBad, detail := if c.n1 2 = 0 then 4 else 0 }, s)
      | some b =>
        let (st, d, u) := if leAt b 0 2 = t then s.loadTenant b else (stImageBad, 0, s)
        ({ later := some { obj := t, outcome := some (st, d, []) } }, u) }

def srvTenantLoad (c : Cmd) (s : State) : State := s.serve 0x0F10 (planTenantLoad c) c

/-- A tenant command given through TEN_CMD; an accepted one is pending until the tenant shows its state, or done at once. -/
def State.tenantRun (s : State) (t : Nat) (op : State → State) : Reply × State :=
  if s.rdB (TEN_CMD t) TEN_CMD_BUSY then ({ status := stBusy }, s)
  else
    let u := op s
    if u.rd (TEN_CMD t) TEN_CMD_RESULT ≠ 0 then ({ status := stStateConflict }, u)
    else ({ later := some { obj := t } }, u)

/-- Tenant (2 bytes), zero (2). -/
def planTenant (op : Nat → State → State) (c : Cmd) (s : State) : Plan :=
  { absent := s.absentTenant (c.n2 0), bad := fixed 4 [(2, 2)] c, body := fun _ => s.tenantRun (c.n2 0) (op (c.n2 0)) }

def planTenantStart (c : Cmd) (s : State) : Plan := planTenant opTenStart c s

def srvTenantStart (c : Cmd) (s : State) : State := s.serve 0x0F11 (planTenantStart c) c
def planTenantDisable (c : Cmd) (s : State) : Plan := planTenant opTenDisable c s

def srvTenantDisable (c : Cmd) (s : State) : State := s.serve 0x0F12 (planTenantDisable c) c
def planTenantUnload (c : Cmd) (s : State) : Plan := planTenant opTenRelease c s

def srvTenantUnload (c : Cmd) (s : State) : State := s.serve 0x0F13 (planTenantUnload c) c

/-- Tenant (2 bytes), zero (2), share (4). -/
def planTenantSetShare (c : Cmd) (s : State) : Plan :=
  { absent := s.absentTenant (c.n2 0), bad := orBad (fixed 8 [(2, 2)] c) (inRange 4 (decide (c.n4 4 ≤ 1024)))
    body := fun _ => let (st, t) := s.stageShare (c.n2 0) (c.n4 4); ({ status := st }, t) }

def srvTenantSetShare (c : Cmd) (s : State) : State := s.serve 0x0F14 (planTenantSetShare c) c

/-- Tenant (2 bytes), zero (2), TEN_LIMIT (4). -/
def planTenantSetLimits (c : Cmd) (s : State) : Plan :=
  let w := BitVec.ofNat 32 (c.n4 4)
  { absent := s.absentTenant (c.n2 0)
    bad := orBad (fixed 8 [(2, 2)] c) (inRange 4 (decide (1 ≤ fget TEN_LIMIT_ITEMS w) && decide (1 ≤ fget TEN_LIMIT_PUBQ w)
      && fieldsOf [TEN_LIMIT_PUBQ, TEN_LIMIT_ITEMS] w == w))
    body := fun _ => let (st, t) := s.stageLimits (c.n2 0) w; ({ status := st }, t) }

def srvTenantSetLimits (c : Cmd) (s : State) : State := s.serve 0x0F15 (planTenantSetLimits c) c

/-- Whether R220 refuses a tenant's migration.
DESIGN CHOICE, log entry 52. -/
def State.migrateBarred (s : State) (t : Nat) : Bool :=
  s.validBindings.any (fun b => (s.binding b).owner == t && (s.binding b).balls != 0) || (s.pairMember && s.replicates t && s.role != 0)

/-- The peer's global tenant address, noted for the events of a migration (R224). -/
def State.withPeer (s : State) (t peer : Nat) : State := s.setMig t { s.mig t with peer := peer }

/-- Whether a tenant uses a local group: its image lists one, or it holds a subscription to one in the active bank. -/
def State.usesAcq (s : State) (t : Nat) : Bool :=
  let b := s.ingActive
  s.ten.entitledLocal.any (fun x => x.1 == t) || (s.handles b).any (fun h =>
    (s.stream b h).type == 3 && (s.subs b (s.stream b h)).any (fun v => if v.testBit 31 then s.ownsTask t (v % 8192) else v % 512 == t))

/-- The first unit that a tenant uses and a feature word of R6 lacks, as DETAIL of ABSENT gives it (R220).
DESIGN CHOICE, log entry 52. -/
def State.unitLacking (s : State) (t feature : Nat) : Option Nat :=
  if s.usesAcq t && !feature.testBit 19 then some 0x0400
  else if !(s.lawsOf t).isEmpty && !feature.testBit 20 then some 0x0600 else none

/-- Tenant (2 bytes), zero (2), the peer's global tenant address (4), whose bits [31:23] are zero (R8), and the destination's feature
word (4), as its inventory gives it.
DESIGN CHOICE, log entry 7. -/
def planTenantMigrateOut (c : Cmd) (s : State) : Plan :=
  let t := c.n2 0
  { absent := s.absentTenant t, bad := orBad (fixed 12 [(2, 2)] c) (inRange 4 (decide (c.n4 4 < 2 ^ 23)))
    body := fun _ =>
      if s.migrateBarred t then ({ status := stStateConflict }, s)
      else match s.unitLacking t (c.n4 8) with
        | some d => ({ status := stAbsent, detail := d }, s)
        | none => s.tenantRun t (fun s => opTenMigrate t (s.withPeer t (c.n4 4))) }

def srvTenantMigrateOut (c : Cmd) (s : State) : State := s.serve 0x0F16 (planTenantMigrateOut c) c
/-- The runs of pages that a migration announces: first page (2 bytes), flags as in a page record (1), zero (1), count (4). -/
def migRuns (b : List Byte) : List PageRec :=
  (chunks 8 (b.length / 8) b).flatMap (fun r =>
    let f := byteAt r 2
    (List.range (leAt r 4 4)).map (fun i =>
      { page := leAt r 0 2 + i, write := f.testBit 0, exec := f.testBit 1, bank := f.testBit 2, zero := true, off := 0,
        good := f < 8 && byteAt r 3 == 0 : PageRec }))

/-- A tenant to be received: its map by runs, and the words of its share, limits, replicated region and message pages. -/
structure MigTenant where
  share : Nat
  limits : Word
  repl : Word
  msgVa : Word
  msgCfg : Word
  pages : List PageRec
  deriving DecidableEq, Repr

/-- The tenant made ready to receive (R221 step 1): status 0 and the machine with the same map shape, share, limits, replicated region
and message pages, or the failing check's status of R205.
DESIGN CHOICE, log entry 52. -/
def State.receiveTenant (s : State) (t : Nat) (x : MigTenant) : Nat × State :=
  let i : TenantImage := { id := t, home := 0, recs := [⟨TEN_MSG_VA t, x.msgVa, true⟩, ⟨TEN_REPL t, x.repl, true⟩], pages := x.pages, good := true }
  if s.tenState t ≠ 0 then (stStateConflict, s)
  else if x.pages.any (fun p => !p.good || 16384 ≤ p.page) || decide ((x.pages.map (·.page)).eraseDups.length ≠ x.pages.length)
      || !i.regionsOk then (0x0504, s)
  else if 1024 < x.share ∨ 1024 < s.stagedSum t x.share then (stNoResource, s)
  else match s.giveFrames t s.usedFrames x.pages with
    | none => (stNoResource, s)
    | some ps =>
      let m := stewardMap t
      let s := (s.tryWrite (TEN_MAP_BASE_LO t) (BitVec.ofNat 32 m)).2
      let s := (s.tryWrite (TEN_MAP_BASE_HI t) (BitVec.ofNat 32 (m / 2 ^ 32))).2
      let s := { s with mem := cerase (fun a => m ≤ a && a < m + 0x20000) s.mem }
      let s := ps.foldl (fun (s : State) p => s.putPage t [] p) s
      let s := ((s.wrW (TEN_MSG_VA t) x.msgVa).wrW (TEN_MSGCFG t) x.msgCfg).wrW (TEN_REPL t) x.repl
      let s := (s.wr (TEN_SHARE t) TEN_SHARE_STAGED x.share).wrW (TEN_LIMIT t) x.limits
      (0, opTenReceive t ((s.takeShare t).takeLimits t))

/-- Tenant (2 bytes), zero (2), the peer's global tenant address (4), share (4), then the words of TEN_LIMIT, TEN_REPL, TEN_MSG_VA and
TEN_MSGCFG (4 each), and the runs of pages.
DESIGN CHOICE, log entry 7. -/
def planTenantMigrateIn (c : Cmd) (s : State) : Plan :=
  let t := c.n2 0
  let w := fun (o : Nat) => BitVec.ofNat 32 (c.n4 o)
  { absent := s.absentTenant t
    bad := orBad (if c.payload.length < 28 ∨ c.payload.length % 8 ≠ 4 then some (stBadLength, 0) else fixed c.payload.length [(2, 2)] c)
      (orBad (inRange 4 (decide (c.n4 4 < 2 ^ 23))) (inRange 8 (decide (c.n4 8 ≤ 1024))))
    body := fun _ =>
      let x : MigTenant := ⟨c.n4 8, fieldsOf [TEN_LIMIT_PUBQ, TEN_LIMIT_ITEMS] (w 12), fieldsOf [TEN_REPL_EN, TEN_REPL_START, TEN_REPL_LINES] (w 16),
        fieldsOf [TEN_MSG_VA_PAGE] (w 20), fieldsOf [TEN_MSGCFG_BIT, TEN_MSGCFG_TASK] (w 24), migRuns (c.payload.drop 28)⟩
      if s.rdB (TEN_CMD t) TEN_CMD_BUSY then ({ status := stBusy }, s)
      else
        let (st, u) := (s.withPeer t (c.n4 4)).receiveTenant t x
        if st ≠ 0 then ({ status := st }, s) else ({ later := some { obj := t } }, u) }

def srvTenantMigrateIn (c : Cmd) (s : State) : State := s.serve 0x0F17 (planTenantMigrateIn c) c

/-- The abort of a migration: RESUME at the source, RELEASE at the destination (R202, R223). -/
def opMigrateAbort (t : Nat) (s : State) : State :=
  if s.tenState t = 5 ∧ s.tenBit t TEN_STATE_DIR then opTenRelease t s else opTenResume t s

def planTenantMigrateAbort (c : Cmd) (s : State) : Plan := planTenant opMigrateAbort c s

def srvTenantMigrateAbort (c : Cmd) (s : State) : State := s.serve 0x0F18 (planTenantMigrateAbort c) c

/-- Tenant (2 bytes), zero (2), then the payload of type 0x4001: length (1), zero (3), data (R498).
DESIGN CHOICE, log entry 51. -/
def planTenantMsg (c : Cmd) (s : State) : Plan :=
  let t := c.n2 0
  { absent := s.absentTenant t
    bad := orBad (fixed (8 + c.n1 4) [(2, 2), (5, 3)] c) (inRange 4 (decide (1 ≤ c.n1 4) && decide (c.n1 4 ≤ 52)))
    body := fun _ =>
      if s.tenState t = 0 then ({ status := stStateConflict }, s)
      else
        let (ok, u) := s.inbound t 0x4001 0 (c.payload.drop 4)
        if ok then ({}, u) else ({ status := 0x0502 }, s) }

def srvTenantMsg (c : Cmd) (s : State) : State := s.serve 0x0F19 (planTenantMsg c) c

/-- Queued HOST_SEND messages of a tenant. -/
def State.hostMsgs (s : State) (t : Nat) : List (List Byte) := cget (fun _ => []) s.mbx.hostMsgs t
def State.setHostMsgs (s : State) (t : Nat) (l : List (List Byte)) : State :=
  { s with mbx := { s.mbx with hostMsgs := cset (fun _ => []) s.mbx.hostMsgs t l } }

/-- Tenant (2 bytes), most messages wanted (1 to 64; 1), zero (1). The answer holds each message as length (1) and data. -/
def planTenantMsgRead (c : Cmd) (s : State) : Plan :=
  let t := c.n2 0
  let n := c.n1 2
  { absent := s.absentTenant t, bad := orBad (fixed 4 [(3, 1)] c) (inRange 2 (decide (1 ≤ n) && decide (n ≤ 64)))
    body := fun _ =>
      let l := s.hostMsgs t
      ({ data := (l.take n).flatMap (fun m => p1 m.length ++ m) }, s.setHostMsgs t (l.drop n)) }

def srvTenantMsgRead (c : Cmd) (s : State) : State := s.serve 0x0F1A (planTenantMsgRead c) c

def execTenantStatus (t : Nat) (c : Cmd) (s : State) : Host.Outcome State Fault Refusal := s.runAt t (srvTenantStatus c)
def execTenantLoad (t : Nat) (c : Cmd) (s : State) : Host.Outcome State Fault Refusal := s.runAt t (srvTenantLoad c)
def execTenantStart (t : Nat) (c : Cmd) (s : State) : Host.Outcome State Fault Refusal := s.runAt t (srvTenantStart c)
def execTenantDisable (t : Nat) (c : Cmd) (s : State) : Host.Outcome State Fault Refusal := s.runAt t (srvTenantDisable c)
def execTenantUnload (t : Nat) (c : Cmd) (s : State) : Host.Outcome State Fault Refusal := s.runAt t (srvTenantUnload c)
def execTenantSetShare (t : Nat) (c : Cmd) (s : State) : Host.Outcome State Fault Refusal := s.runAt t (srvTenantSetShare c)
def execTenantSetLimits (t : Nat) (c : Cmd) (s : State) : Host.Outcome State Fault Refusal := s.runAt t (srvTenantSetLimits c)
def execTenantMigrateOut (t : Nat) (c : Cmd) (s : State) : Host.Outcome State Fault Refusal :=
  s.runAt t (srvTenantMigrateOut c)
def execTenantMigrateIn (t : Nat) (c : Cmd) (s : State) : Host.Outcome State Fault Refusal := s.runAt t (srvTenantMigrateIn c)
def execTenantMigrateAbort (t : Nat) (c : Cmd) (s : State) : Host.Outcome State Fault Refusal :=
  s.runAt t (srvTenantMigrateAbort c)
def execTenantMsg (t : Nat) (c : Cmd) (s : State) : Host.Outcome State Fault Refusal := s.runAt t (srvTenantMsg c)
def execTenantMsgRead (t : Nat) (c : Cmd) (s : State) : Host.Outcome State Fault Refusal := s.runAt t (srvTenantMsgRead c)

/-! ### SYS (R496, R497, R518, R526) -/

/-- The part number of INFO_GET_FEATURES (R497). -/
def State.partNumber (s : State) : List Byte :=
  let n := if s.fuses.variant = 0 then "TF-MLS7160-" else if s.fuses.variant = 1 then "TF-MLS7132-" else "TF-MLS7116-"
  fitBytes 16 (asciiBytes n ++ beBytes 2 Config.partSuffix.toNat)

/-- The first bytes of the running steward image's header; zero while none runs. -/
def State.imageHead (s : State) (n : Nat) : List Byte :=
  match s.sys.image with
  | some (off, _) => s.flashBytes off n
  | none => leBytes n 0

def planInfoGetFeatures (c : Cmd) (s : State) : Plan :=
  { bad := fixed 0 [] c
    body := fun _ =>
      let id := p8 s.fuses.deviceId ++ p1 s.lc ++ leBytes 3 0
      ({ data := p4 s.feature ++ s.partNumber ++ slice (s.imageHead 28) 24 4 ++ id }, s) }

def srvInfoGetFeatures (c : Cmd) (s : State) : State := s.serve 0x1001 (planInfoGetFeatures c) c

/-- The firmware's counters (R503).
DESIGN CHOICE, log entry 52. -/
def State.firmwareCounts (s : State) : List Byte := p4 s.mbx.authFail ++ p4 s.mbx.replay ++ p4 s.mbx.udpDropped ++ p4 s.mbx.complLost

/-- The six words of R526, then the counters that R503 says it reports.
DESIGN CHOICE, log entry 7. -/
def planSysStatus (c : Cmd) (s : State) : Plan :=
  { bad := fixed 0 [] c
    body := fun _ =>
      let words := [(s.rdW SYS_ADVENT).toNat, s.lc, (s.rdW KEY_TAMPER_CAUSE).toNat, s.role, s.peek TIM_ROUND, (s.rdW SYS_RESET_CAUSE).toNat]
      ({ data := words.flatMap p4 ++ s.firmwareCounts }, s) }

def srvSysStatus (c : Cmd) (s : State) : State := s.serve 0x1002 (planSysStatus c) c

/-- A verified image written to the slot that was not booted, which is then preferred (R516): status and machine. `kind` is 0 for
steward images and 1 for configuration images.
DESIGN CHOICE, log entry 44. -/
def State.writeImage (s : State) (kind booted : Nat) (b : List Byte) : Nat × State :=
  match s.flashSlot (2 * kind + (1 - booted)) with
  | none => (stNoResource, s)
  | some (off, len) =>
    if len < b.length then (stNoResource, s)
    else
      let s := s.setFlash off b
      (0, s.setFlash 6 [BitVec.ofNat 8 (nsetBit (byteAt (s.flashBytes 6 1) 0) kind (booted == 0))])

/-- Aperture (4 bytes), offset (4), length (4). -/
def planImage (run : State → List Byte → Nat × Nat × State) (c : Cmd) (s : State) : Plan :=
  { bad := fixed 12 [] c
    body := fun _ => match s.aperImage (c.n4 0) (c.n4 4) (c.n4 8) with
      | none => ({ status := stApertureBad }, s)
      | some b => let (st, d, t) := run s b; ({ later := some { obj := 0, outcome := some (st, d, []) } }, t) }

/-- SYS_CONFIG_LOAD (R516): an image that fails its checks, or names what is absent, has no effect (R4). -/
def State.loadConfig (s : State) (b : List Byte) : Nat × Nat × State :=
  let (st, d) := s.configCheck b
  if st ≠ 0 then (st, d, s) else let (st, s) := s.writeImage 1 (s.rd SYS_BOOT SYS_BOOT_CONFIG_SLOT) b; (st, 0, s)

def planSysConfigLoad (c : Cmd) (s : State) : Plan := planImage State.loadConfig c s

def srvSysConfigLoad (c : Cmd) (s : State) : State := s.serve 0x1010 (planSysConfigLoad c) c

/-- WAKE_CODE (4 bytes), MGMT_WAKE (4). R518 follows the response. -/
def planDormantEnter (c : Cmd) (s : State) : Plan :=
  { bad := orBad (fixed 8 [] c) (inRange 4 (decide (c.n4 4 < 2)))
    body := fun _ =>
      if s.tenantsActive then ({ status := stStateConflict }, s)
      else ({ after := opDormantEntry },
        (s.wrW SYS_WAKE_CODE (BitVec.ofNat 32 (c.n4 0))).wrB SYS_DORMANT_CTRL SYS_DORMANT_CTRL_MGMT_WAKE (c.n4 4 == 1)) }

def srvDormantEnter (c : Cmd) (s : State) : State := s.serve 0x1011 (planDormantEnter c) c

def planSolsticeControl (c : Cmd) (s : State) : Plan :=
  let op := c.n1 0
  { bad := orBad (fixed 24 [(1, 3)] c) (inRange 0 (decide (1 ≤ op) && decide (op ≤ 4)))
    body := fun _ =>
      if op = 4 ∧ s.rd SYS_SNAP_STAT SYS_SNAP_STAT_STATE = 1 then ({ status := stBusy }, s)
      else
        let w := fun (n : Nat) => BitVec.ofNat 32 n
        let t := if op = 1 then opSolsticeArm s else if op = 2 then opSolsticeDisarm s else if op = 3 then opSolsticeFire s
          else
            let s := ((s.regWrite SYS_SNAP_SRC (w (c.n4 4))).regWrite SYS_SNAP_ALM (w (c.n4 8))).regWrite SYS_SNAP_CLE (w (c.n4 12))
            (s.wrW SYS_SNAP_MATCH_LO (w (c.n4 16))).wrW SYS_SNAP_MATCH_HI (w (c.n4 20))
        ({ data := p4 (t.rdW SYS_SNAP_STAT).toNat ++ p8 (t.rd64 SYS_SNAP_TIME_LO SYS_SNAP_TIME_HI) }, t) }

def srvSolsticeControl (c : Cmd) (s : State) : State := s.serve 0x1012 (planSolsticeControl c) c

/-- The response is posted first; then the reset (R505). -/
def planSysReset (c : Cmd) (s : State) : Plan := { bad := fixed 0 [] c, body := fun _ => ({ after := fun t => t.selfReset SYS_RESET_CAUSE_COMMAND }, s) }

def srvSysReset (c : Cmd) (s : State) : State := s.serve 0x1013 (planSysReset c) c

def execInfoGetFeatures (t : Nat) (c : Cmd) (s : State) : Host.Outcome State Fault Refusal := s.runAt t (srvInfoGetFeatures c)
def execSysStatus (t : Nat) (c : Cmd) (s : State) : Host.Outcome State Fault Refusal := s.runAt t (srvSysStatus c)
def execSysConfigLoad (t : Nat) (c : Cmd) (s : State) : Host.Outcome State Fault Refusal := s.runAt t (srvSysConfigLoad c)
def execDormantEnter (t : Nat) (c : Cmd) (s : State) : Host.Outcome State Fault Refusal := s.runAt t (srvDormantEnter c)
def execSolsticeControl (t : Nat) (c : Cmd) (s : State) : Host.Outcome State Fault Refusal := s.runAt t (srvSolsticeControl c)
def execSysReset (t : Nat) (c : Cmd) (s : State) : Host.Outcome State Fault Refusal := s.runAt t (srvSysReset c)

/-! ### Sessions (R485 to R489) -/

/-- A principal that may open a session in the present life-cycle state: built in, or of the list (R487). -/
def State.principal (s : State) (id : Nat) : Option Principal :=
  if id = 0xFFFF then (if s.lc = 0 then some { id := id, role := 4, clear := false, slot := 1 } else none)
  else if 0xFFF0 ≤ id ∧ id ≤ 0xFFF3 then
    if (s.lc = 1 ∨ s.lc = 2) ∧ (s.slot (id - 0xFFEE)).type = 4 then some { id := id, role := 3, clear := true, slot := id - 0xFFEE } else none
  else s.mbx.principals.find? (fun p => p.id == id)

/-- The highest role of a life-cycle state (R447, R487). -/
def lcRole (lc : Nat) : Nat := if lc = 0 then 4 else 3

/-- Whether the point and the signature of a SESSION_OPEN belong to a principal's slot (R488 step 1). -/
def State.openSigned (s : State) (p : Principal) (c : Cmd) : Bool × State :=
  let (st, s) := s.grant p.slot (keyNeed 10 false false) .steward s.stewardSecure
  let digest := Config.sha256 (beBytes 8 s.fuses.deviceId ++ slice c.payload 0 148)
  (st == 0 && sigOk (s.slot p.slot).value (BitVec.ofNat 512 (beAt c.payload 84 64)) (BitVec.ofNat 512 (beAt c.payload 148 64)) digest, s)

/-- The two lowest free slots above 7: the ephemeral key's and the session key's.
DESIGN CHOICE, log entry 8. -/
def State.openSlots (s : State) : Option (Nat × Nat) :=
  match (((List.range 4088).map (· + 8)).filter (fun x => (s.slot x).type == 0 && (s.slot x).gen != 0xFFFFFFFF)).take 2 with
  | [x, y] => some (x, y)
  | _ => none

/-- The session key by ECDH (R488 steps 2, 3): its status, and the ephemeral point, the nonce and the slot. The session's slot
is a child of the ephemeral slot's own parent, since R440 would orphan it together with the ephemeral slot
(notes/assumptions/45).
DESIGN CHOICE, log entry 45. -/
def State.openKey (s : State) (c : Cmd) : Nat × List Byte × List Byte × Nat × State :=
  let parent := if s.stewardSecure then 0 else 6
  if s.key.entropyBad then (stKeyType, [], [], 0, s)
  else match s.openSlots with
    | none => (stNoResource, [], [], 0, s)
    | some (x, y) =>
      let (st, s) := s.grant parent (keyNeed 4 false false) .steward s.stewardSecure
      if st ≠ 0 then (st, [], [], 0, s)
      else
        let p := s.slot parent
        let (v, s) := s.drawScalar
        let (n1, s) := s.draw
        let (n2, s) := s.draw
        let nonce := leBytes 8 n1.toNat ++ leBytes 8 n2.toNat
        let host := BitVec.ofNat 512 (beAt c.payload 4 64)
        if !Config.p256OnCurve host then (stKeyPointBad, [], [], 0, s)
        else
          let e : KeySlot := { type := 3, usage := 2 ^ uDerive, masters := 1, lc := p.lc % 8, parent := parent, parentGen := p.gen,
                               gen := (s.slot x).gen + 1, depth := p.depth + 1, kcv := keyKcv 3 v, value := v }
          let z := Config.p256Shared v host
          let k := kdf z (asciiBytes "TF-MBX-SESSION") (slice c.payload 68 16 ++ nonce ++ slice c.payload 0 2)
          let d : KeySlot := { type := 2, usage := 2 ^ uMac + 2 ^ uVerify, masters := 1, lc := p.lc % 8, parent := parent,
                               parentGen := p.gen, gen := (s.slot y).gen + 1, depth := p.depth + 1, kcv := keyKcv 2 k, value := k }
          let s := ((s.setSlot x e).bump cntKEY_GRANTS 1).setSlot y d
          (0, beBytes 64 (Config.p256Public v).toNat, nonce, y, (s.invalidateNow x true).2)

/-- SESSION_OPEN once its principal, role and right are accepted.
DESIGN CHOICE, log entry 8. -/
def State.openSession (s : State) (p : Principal) (c : Cmd) : Reply × State :=
  if 64 ≤ s.mbx.sessions.length then ({ status := stNoResource }, s)
  else
    let (st, point, nonce, slot, t) := s.openKey c
    if st ≠ 0 then ({ status := st }, t)
    else
      let id := t.mbx.nextSession
      let x : Session := { id := id, principal := p.id, role := c.n1 2, clear := c.n1 3 == 1, slot := slot, top := 0, used := [],
                           kept := [], lastAt := t.now }
      let nxt := if id + 1 < 2 ^ 32 then id + 1 else 1
      let t : State := { t with mbx := { t.mbx with sessions := t.mbx.sessions ++ [x], nextSession := nxt } }
      let head := p4 id ++ point ++ nonce
      let tag := macTag (t.slot slot).value (c.payload ++ head) true
      let t := t.postTo 0x203 0x1181 (p4 id ++ p2 p.id ++ p1 x.role ++ p1 (b2n x.clear) ++ p1 (viaCode c.via))
      ({ data := head ++ tag ++ p4 t.mbx.idle ++ leBytes 4 0 }, t)

def planSessionOpen (c : Cmd) (s : State) : Plan :=
  { tamper := s.rdB KEY_STAT KEY_STAT_HOLD, lcOk := decide (c.n1 2 ≤ lcRole s.lc)
    bad := orBad (fixed 212 [] c) (orBad (inRange 2 (decide (c.n1 2 ≤ 4))) (inRange 3 (decide (c.n1 3 < 2))))
    body := fun _ =>
      match s.principal (c.n2 0) with
      | none => ({ status := stAuthFail }, s.authEvent c.via 0 (c.n2 0))
      | some p =>
        let (ok, s) := s.openSigned p c
        if !ok then ({ status := stAuthFail }, s.authEvent c.via 0 p.id)
        else if p.role < c.n1 2 then ({ status := stRoleDenied }, s.roleEvent c.via 0 0x1101 stRoleDenied)
        else if c.n1 3 = 1 ∧ !p.clear then ({ status := stRightDenied }, s.roleEvent c.via 0 0x1101 stRightDenied)
        else s.openSession p c }

def srvSessionOpen (c : Cmd) (s : State) : State := s.serve 0x1101 (planSessionOpen c) c

def planSessionClose (c : Cmd) (s : State) : Plan := { bad := fixed 0 [] c, body := fun x => ({}, s.endSession x.id 1) }

def srvSessionClose (c : Cmd) (s : State) : State := s.serve 0x1102 (planSessionClose c) c

/-- A session as SESSION_LIST reports it: ID, principal, role, CLEAR, seconds since its last command. -/
def State.sessionLine (s : State) (x : Session) : List Byte :=
  p4 x.id ++ p2 x.principal ++ p1 x.role ++ p1 (b2n x.clear) ++ p4 ((s.now - x.lastAt) / 1000000000)

/-- The session to close (4 bytes), or 0. The answer holds the counters of R503 and the sessions. -/
def planSessionList (c : Cmd) (s : State) : Plan :=
  { bad := fixed 4 [] c, writes := c.n4 0 != 0
    body := fun _ =>
      if c.n4 0 ≠ 0 ∧ !s.mbx.sessions.any (fun x => x.id == c.n4 0) then ({ status := stBadField }, s)
      else
        let t := if c.n4 0 = 0 then s else s.endSession (c.n4 0) 3
        ({ data := t.firmwareCounts ++ t.mbx.sessions.flatMap t.sessionLine }, t) }

def srvSessionList (c : Cmd) (s : State) : State := s.serve 0x1103 (planSessionList c) c

/-- The SEQUENCE whose completion has arrived (4 bytes). -/
def planMbxAck (c : Cmd) (s : State) : Plan :=
  { bad := fixed 4 [] c
    body := fun x => ({}, { s with mbx := { s.mbx with udpDone := s.mbx.udpDone.filter (fun u => !(u.session == x.id && u.seq == c.n4 0)) } }) }

def srvMbxAck (c : Cmd) (s : State) : State := s.serve 0x1104 (planMbxAck c) c

def execSessionOpen (t : Nat) (c : Cmd) (s : State) : Host.Outcome State Fault Refusal := s.runAt t (srvSessionOpen c)
def execSessionClose (t : Nat) (c : Cmd) (s : State) : Host.Outcome State Fault Refusal := s.runAt t (srvSessionClose c)
def execSessionList (t : Nat) (c : Cmd) (s : State) : Host.Outcome State Fault Refusal := s.runAt t (srvSessionList c)
def execMbxAck (t : Nat) (c : Cmd) (s : State) : Host.Outcome State Fault Refusal := s.runAt t (srvMbxAck c)

/-! ### Apertures, bulk transfer, principals (R487, R495, R497) -/

/-- The steward's region for apertures (R473; notes/assumptions/44).
DESIGN CHOICE, log entry 44. -/
def aperFirst : Nat := 0x1008000000
/-- DESIGN CHOICE, log entry 44. -/
def aperEnd : Nat := 0x1010000000

/-- The lowest place for an aperture of `n` bytes: the start of the region, or the end of another aperture.
DESIGN CHOICE, log entry 8. -/
def State.aperPlace (s : State) (n : Nat) : Option Nat :=
  let used := ((List.range 16).filter s.aperOn).map (fun a => (s.aperBase a, s.aperLen a))
  let fits := fun (b : Nat) => decide (b + n ≤ aperEnd) && used.all (fun u => decide (b + n ≤ u.1) || decide (u.1 + u.2 ≤ b))
  ((aperFirst :: (used.map (fun u => u.1 + u.2))).filter fits).min?

def planApertureOpen (c : Cmd) (s : State) : Plan :=
  let n := c.n4 0
  { bad := orBad (fixed 8 [(5, 3)] c) (orBad (inRange 0 (n % 4096 == 0 && decide (4096 ≤ n) && decide (n ≤ 0x10000000)))
      (inRange 4 (decide (c.n1 4 < 2))))
    body := fun x =>
      match (List.range 16).find? (fun a => !s.aperOn a), s.aperPlace n with
      | some a, some b =>
        let t := ((s.wr (MBX_APER_BASE_LO a) MBX_APER_BASE_LO_BASE (b / 4096 % 2 ^ 20)).wr (MBX_APER_BASE_HI a) MBX_APER_BASE_HI_BASE (b / 2 ^ 32)).wr
          (MBX_APER_LEN a) MBX_APER_LEN_LEN n
        let t := (t.wrB (MBX_APER_CTRL a) MBX_APER_CTRL_WRITE (c.n1 4 == 0)).wrB (MBX_APER_CTRL a) MBX_APER_CTRL_EN true
        let t : State := { t with mbx := { t.mbx with aper := cset (fun _ => none) t.mbx.aper a (some x.id) } }
        let off := if s.rdB MBX_CTRL MBX_CTRL_PCIE_EN then a * 0x10000000 else 2 ^ 64 - 1
        ({ data := p1 a ++ leBytes 3 0 ++ p8 off }, t)
      | _, _ => ({ status := stNoResource }, s) }

def srvApertureOpen (c : Cmd) (s : State) : State := s.serve 0x1105 (planApertureOpen c) c

/-- Aperture (1 byte), zero (3). -/
def planApertureClose (c : Cmd) (s : State) : Plan :=
  { bad := fixed 4 [(1, 3)] c
    body := fun _ => if 16 ≤ c.n1 0 ∨ !s.aperOn (c.n1 0) then ({ status := stApertureBad }, s) else ({}, s.closeAperture (c.n1 0)) }

/-- DESIGN CHOICE, log entry 8. -/
def srvApertureClose (c : Cmd) (s : State) : State := s.serve 0x1106 (planApertureClose c) c

/-- Aperture (1 byte), zero (3), offset (4), COUNT (4, 1 to 4,000). -/
def planBulkRead (c : Cmd) (s : State) : Plan :=
  let a := c.n1 0
  { bad := orBad (fixed 12 [(1, 3)] c) (inRange 8 (decide (1 ≤ c.n4 8) && decide (c.n4 8 ≤ 4000)))
    body := fun _ =>
      if s.aperFits a (c.n4 4) (c.n4 8) false then ({ data := s.bytes (s.aperBase a + c.n4 4) (c.n4 8) }, s)
      else ({ status := stApertureBad }, s) }

def srvBulkRead (c : Cmd) (s : State) : State := s.serve 0x1107 (planBulkRead c) c

/-- Aperture (1 byte), zero (3), offset (4), 1 to 4,000 bytes. -/
def planBulkWrite (c : Cmd) (s : State) : Plan :=
  let a := c.n1 0
  let b := c.payload.drop 8
  { bad := if b.length = 0 ∨ 4000 < b.length then some (stBadLength, 0)
      else (([1, 2, 3].find? (fun i => c.n1 i != 0)).map (fun i => (stBadField, i)))
    body := fun _ =>
      if s.aperFits a (c.n4 4) b.length true then ({}, s.store (s.aperBase a + c.n4 4) b) else ({ status := stApertureBad }, s) }

def srvBulkWrite (c : Cmd) (s : State) : State := s.serve 0x1108 (planBulkWrite c) c

/-- A principal removed, with its slot.
DESIGN CHOICE, log entry 8. -/
def State.dropPrincipal (s : State) (p : Principal) : State :=
  let s : State := { s with mbx := { s.mbx with principals := s.mbx.principals.filter (fun q => q.id != p.id) } }
  (s.invalidateNow p.slot true).2

/-- Operation (1: set, 2: remove; 1 byte), zero (3), principal (2), highest role (1), CLEAR (1), SHA-256 of its point (32). -/
def planPrincipalSet (c : Cmd) (s : State) : Plan :=
  let id := c.n2 4
  { bad := orBad (fixed 40 [(1, 3)] c) (orBad (inRange 0 (c.n1 0 == 1 || c.n1 0 == 2)) (orBad (inRange 4 (decide (id ≤ 0xFFEF)))
      (orBad (inRange 6 (decide (c.n1 6 ≤ 4))) (inRange 7 (decide (c.n1 7 < 2))))))
    body := fun _ =>
      let old := s.mbx.principals.find? (fun p => p.id == id)
      let t := match old with | some p => s.dropPrincipal p | none => s
      if c.n1 0 = 2 then (if old.isNone then ({ status := stBadField, detail := 4 }, s) else ({}, t))
      else if 32 ≤ t.mbx.principals.length then ({ status := stNoResource }, s)
      else match t.importHash (BitVec.ofNat 256 (beAt c.payload 8 32)) with
        | none => ({ status := stNoResource }, s)
        | some (x, u) =>
          let p : Principal := { id := id, role := c.n1 6, clear := c.n1 7 == 1, slot := x }
          ({}, { u with mbx := { u.mbx with principals := u.mbx.principals ++ [p] } }) }

def srvPrincipalSet (c : Cmd) (s : State) : State := s.serve 0x1109 (planPrincipalSet c) c

def execApertureOpen (t : Nat) (c : Cmd) (s : State) : Host.Outcome State Fault Refusal := s.runAt t (srvApertureOpen c)
def execApertureClose (t : Nat) (c : Cmd) (s : State) : Host.Outcome State Fault Refusal := s.runAt t (srvApertureClose c)
def execBulkRead (t : Nat) (c : Cmd) (s : State) : Host.Outcome State Fault Refusal := s.runAt t (srvBulkRead c)
def execBulkWrite (t : Nat) (c : Cmd) (s : State) : Host.Outcome State Fault Refusal := s.runAt t (srvBulkWrite c)
def execPrincipalSet (t : Nat) (c : Cmd) (s : State) : Host.Outcome State Fault Refusal := s.runAt t (srvPrincipalSet c)

/-! ### STW (R496, R500, R516) -/

/-- The first 64 bytes of the running image's header, then the two SVN counters.
DESIGN CHOICE, log entry 7. -/
def planStwVersion (c : Cmd) (s : State) : Plan :=
  { bad := fixed 0 [] c, body := fun _ => ({ data := s.imageHead 64 ++ p4 s.fuses.svnVendor ++ p4 s.fuses.svnCustomer }, s) }

def srvStwVersion (c : Cmd) (s : State) : State := s.serve 0x1201 (planStwVersion c) c

/-- Checked, written to the slot that was not booted, and reported with 0x1282 (R500, R516). -/
def State.flashImage (s : State) (b : List Byte) : Nat × State :=
  let st := s.stewardStatus b
  if st ≠ 0 then (st, s)
  else
    let (st, s) := s.writeImage 0 (s.rd SYS_BOOT SYS_BOOT_STEWARD_SLOT) b
    (st, if st = 0 then s.postTo 0x20C 0x1282 (p1 (byteAt b 6) ++ p4 (leAt b 8 4) ++ slice b 24 4) else s)

def planStwFlashWrite (c : Cmd) (s : State) : Plan := planImage (fun s b => let (st, t) := s.flashImage b; (st, 0, t)) c s

def srvStwFlashWrite (c : Cmd) (s : State) : State := s.serve 0x1210 (planStwFlashWrite c) c

/-- The running image's counter blown up to its SVN (R500); group 0 is the vendor's. -/
def planStwSvnAdvance (c : Cmd) (s : State) : Plan :=
  { bad := fixed 0 [] c
    body := fun _ =>
      let h := s.imageHead 12
      let svn := leAt h 8 4
      let vendor := byteAt h 6 == 1
      let old := if vendor then s.fuses.svnVendor else s.fuses.svnCustomer
      if 32 < svn then ({ status := stBadField }, s)
      else
        let new := max old svn
        let f : Fuses := if vendor then { s.fuses with svnVendor := new } else { s.fuses with svnCustomer := new }
        ({}, ({ s with fuses := f } : State).postTo 0x20C 0x1283 (p1 (b2n !vendor) ++ p4 old ++ p4 new)) }

def srvStwSvnAdvance (c : Cmd) (s : State) : State := s.serve 0x1211 (planStwSvnAdvance c) c

/-- A word as STW_REG_READ gives it: counters read 0 (R490, R496). -/
def State.regPeek (s : State) (a : Nat) : Nat := if counterAt a ∨ (a % 8 = 4 ∧ counterAt (a - 4)) then 0 else s.peek a

/-- Address (4 bytes), words (4, 1 to 256); the ALM window is excluded.
DESIGN CHOICE, log entry 7. -/
def planStwRegRead (c : Cmd) (s : State) : Plan :=
  let a := c.n4 0
  let n := c.n4 4
  { bad := orBad (fixed 8 [] c) (orBad (inRange 0 (a % 4 == 0 && decide (a + 4 * n ≤ 2 ^ 29) && decide (a + 4 * n ≤ 0x0A000000 ∨ 0x0B000000 ≤ a)))
      (inRange 4 (decide (1 ≤ n) && decide (n ≤ 256))))
    body := fun _ => ({ data := (List.range n).flatMap (fun i => p4 (s.regPeek (a + 4 * i))) }, s) }

def srvStwRegRead (c : Cmd) (s : State) : State := s.serve 0x1212 (planStwRegRead c) c

/-- Records; BLANK only. -/
def planStwRegWrite (c : Cmd) (s : State) : Plan := let p := planPairs (fun _ _ => true) c s; { p with lcOk := s.lc == 0 }

def srvStwRegWrite (c : Cmd) (s : State) : State := s.serve 0x1213 (planStwRegWrite c) c

def execStwVersion (t : Nat) (c : Cmd) (s : State) : Host.Outcome State Fault Refusal := s.runAt t (srvStwVersion c)
def execStwFlashWrite (t : Nat) (c : Cmd) (s : State) : Host.Outcome State Fault Refusal := s.runAt t (srvStwFlashWrite c)
def execStwSvnAdvance (t : Nat) (c : Cmd) (s : State) : Host.Outcome State Fault Refusal := s.runAt t (srvStwSvnAdvance c)
def execStwRegRead (t : Nat) (c : Cmd) (s : State) : Host.Outcome State Fault Refusal := s.runAt t (srvStwRegRead c)
def execStwRegWrite (t : Nat) (c : Cmd) (s : State) : Host.Outcome State Fault Refusal := s.runAt t (srvStwRegWrite c)

end Sys2Proof.Machine
end

