-- ==== Sys2Proof/Machine/MbxMsgs.lean ====
section
/-! DEFINITION. Messages of tenants to the steward (R210 to R213, R498): the order in which the steward serves the outbound pages, and
what it does for each type. Each command is the service of a message of its tenant
and type, when that message stands next. -/

namespace Sys2Proof.Machine

/-! ### The order of service (R212) -/

/-- The outbound page of a tenant that holds its next message: page 0 before page 1.
DESIGN CHOICE, log entry 51. -/
def State.msgPage (s : State) (t : Nat) : Option Nat :=
  [0, 1].find? (fun p => s.rdW (TEN_MSG_PROD t p) != s.rdW (TEN_MSG_CONS t p))

/-- The tenants whose messages wait, in order; while both inbound pages of one are full the steward takes no message of it.
DESIGN CHOICE, log entry 51. -/
def State.msgWaiting (s : State) : List Nat :=
  (s.liveTenants.filter (fun t => s.tenState t != 0 && (s.msgPage t).isSome && s.inboundRoom t)).mergeSort (fun a b => decide (a ≤ b))

/-- The tenant that is served next: the one whose turn it is up to 16 messages, else the next one that waits. -/
def State.msgNext (s : State) : Option Nat :=
  let w := s.msgWaiting
  if w.contains s.mbx.msgTurn && decide (s.mbx.msgTaken < 16) then some s.mbx.msgTurn
  else match w.find? (fun t => decide (s.mbx.msgTurn < t)) with
    | some t => some t
    | none => w.head?

/-- A message as it stands in its slot (R210). -/
structure Message where
  tenant : Nat
  page : Nat
  type : Nat
  length : Nat
  tag : Nat
  payload : List Byte
  deriving DecidableEq, Repr

/-- The message that stands next. -/
def State.nextMsg (s : State) : Option Message :=
  match s.msgNext with
  | none => none
  | some t =>
    let p := (s.msgPage t).getD 0
    let va := s.rd (TEN_MSG_VA t) TEN_MSG_VA_PAGE * 65536 + p * 0x4000 + 64 + 64 * ((s.rdW (TEN_MSG_CONS t p)).toNat % 255)
    let b := match s.walk t va with | some a => s.bytes a 64 | none => List.replicate 64 0
    some { tenant := t, page := p, type := leAt b 0 2, length := leAt b 2 2, tag := leAt b 4 4, payload := slice b 8 (leAt b 2 2) }

/-- A message taken: CONS of its page advances, and its tenant has used one more of its turn (R211, R212). -/
def State.takeMsg (s : State) (m : Message) : State :=
  let more := s.mbx.msgTurn == m.tenant && decide (s.mbx.msgTaken < 16)
  let s : State := { s with mbx := { s.mbx with msgTurn := m.tenant, msgTaken := if more then s.mbx.msgTaken + 1 else 1 } }
  opTenMsgIndexWrite m.tenant m.page (s.rdW (TEN_MSG_CONS m.tenant m.page) + 1) s

/-- A message served: a status and the rest of the answer, which goes to an inbound page with TYPE + 0x8000 and the same TAG. -/
def State.answerMsg (s : State) (m : Message) (body : State → Nat × List Byte × State) : State :=
  let s := s.takeMsg m
  let (st, data, s) := if 56 < m.length then (stBadLength, [], s) else body s
  (s.inbound m.tenant ((m.type + 0x8000) % 65536) m.tag (p2 st ++ p2 0 ++ data)).2

/-- Messages of unknown types that stand next are answered BAD_OPCODE; at most `n` of them. -/
def State.refuseMsgs (s : State) : Nat → State
  | 0 => s
  | n + 1 => match s.nextMsg with
    | some m => if 1 ≤ m.type ∧ m.type ≤ 5 then s else (s.answerMsg m (fun s => (stBadOpcode, [], s))).refuseMsgs n
    | none => s

/-- The messages that wait. -/
def State.msgCount (s : State) : Nat :=
  (s.msgWaiting.map (fun t => idxDiff (s.rdW (TEN_MSG_PROD t 0)).toNat (s.rdW (TEN_MSG_CONS t 0)).toNat
    + idxDiff (s.rdW (TEN_MSG_PROD t 1)).toNat (s.rdW (TEN_MSG_CONS t 1)).toNat)).sum

/-- The message that stands next is served, when it is `tenant`'s and of `type`. -/
def State.serveMsg (s : State) (tenant type : Nat) (body : Message → State → Nat × List Byte × State) : State :=
  let s := s.refuseMsgs s.msgCount
  match s.nextMsg with
  | some m => if m.tenant = tenant ∧ m.type = type then s.answerMsg m (body m) else s
  | none => s

/-! ### The types (R498) -/

/-- STATUS_QUERY. -/
def opStatusQuery (tenant : Nat) (s : State) : State :=
  s.serveMsg tenant 0x0001 (fun m s =>
    let t := m.tenant
    if m.payload.length ≠ 0 then (stBadLength, [], s)
    else (0, p4 (s.rdW (TEN_STATE t)).toNat ++ p4 (round32 s.roundNow) ++ p2 (s.rd (TEN_SHARE t) TEN_SHARE_CURRENT)
      ++ p2 (s.rd (TEN_LIMIT_CUR t) TEN_LIMIT_CUR_ITEMS), s))

def execStatusQuery (t tenant : Nat) (s : State) : Host.Outcome State Fault Refusal := s.runAt t (opStatusQuery tenant)

/-- The device addresses of a buffer of the tenant that the steward may write for it. -/
def State.tenBuffer (s : State) (t va n : Nat) : Option (List Nat) :=
  (List.range n).foldr (fun i acc =>
    match acc, s.walk t (va + i) with
    | some l, some a => if (s.effEntry t ((va + i) / 65536)).testBit 1 then some (a :: l) else none
    | _, _ => none) (some [])

/-- ALM_READ_OWN: whole records of the tenant's own channel, from a start SEQ, into its buffer (R391).
DESIGN CHOICE, log entry 7. -/
def opAlmReadOwn (tenant : Nat) (s : State) : State :=
  s.serveMsg tenant 0x0002 (fun m s =>
    let t := m.tenant
    if m.payload.length ≠ 12 then (stBadLength, [], s)
    else
      let (b, n) := s.readRecords t (leAt m.payload 0 4) (leAt m.payload 8 4)
      match s.tenBuffer t (leAt m.payload 4 4) b.length with
      | none => (stBadField, [], s)
      | some addrs =>
        let u := (addrs.zip b).foldl (fun (s : State) x => s.store x.1 [x.2]) s
        (0, p2 n ++ p2 b.length ++ p4 (s.rdW (ALM_CH_FIRST t)).toNat ++ p4 (s.rdW (ALM_CH_NEXT t)).toNat, u))

def execAlmReadOwn (t tenant : Nat) (s : State) : Host.Outcome State Fault Refusal := s.runAt t (opAlmReadOwn tenant)

/-- HOST_SEND: the data joins the tenant's queue of 64. -/
def opHostSend (tenant : Nat) (s : State) : State :=
  s.serveMsg tenant 0x0003 (fun m s =>
    let n := byteAt m.payload 0
    if m.payload.length < 4 ∨ m.payload.length < 4 + n then (stBadLength, [], s)
    else if n = 0 ∨ 52 < n ∨ leAt m.payload 1 3 ≠ 0 then (stBadField, [], s)
    else if 64 ≤ (s.hostMsgs m.tenant).length then (stQueueLimit, [], s)
    else (0, [], s.setHostMsgs m.tenant (s.hostMsgs m.tenant ++ [slice m.payload 4 n])))

def execHostSend (t tenant : Nat) (s : State) : Host.Outcome State Fault Refusal := s.runAt t (opHostSend tenant)

/-- ENQUEUE_REMOTE: a steward enqueue on a local task of another tenant, where the configuration permits it. -/
def opEnqueueRemote (tenant : Nat) (s : State) : State :=
  s.serveMsg tenant 0x0004 (fun m s =>
    let d := leAt m.payload 0 2
    let i := byteAt m.payload 2
    if m.payload.length ≠ 56 then (stBadLength, [], s)
    else if byteAt m.payload 3 ≠ 0 then (stBadField, [], s)
    else if !Config.remotePermitted m.tenant d i then (stRightDenied, [], s)
    else if !s.tenantPresent d then (stAbsent, [], s)
    else if s.taskCount d ≤ i then (0x0510, [], s.refuseEnq d 0x0510)
    else
      let b := leBytes 4 0 ++ slice m.payload 4 4 ++ leBytes 8 0 ++ slice m.payload 8 48
      let s := (List.range 16).foldl (fun (s : State) k => s.wrW (SCH_STW_ITEM k) (BitVec.ofNat 32 (leAt b (4 * k) 4))) s
      let s := opSchStwEnq (s.taskFirst d + i) s
      (s.rd SCH_STW_ENQ_STAT SCH_STW_ENQ_STAT_STATUS, [], s))

def execEnqueueRemote (t tenant : Nat) (s : State) : Host.Outcome State Fault Refusal := s.runAt t (opEnqueueRemote tenant)

/-- TIME_INFO. -/
def opTimeInfo (tenant : Nat) (s : State) : State :=
  s.serveMsg tenant 0x0005 (fun m s =>
    if m.payload.length ≠ 0 then (stBadLength, [], s)
    else (0, p1 s.synch ++ p1 (s.rd TIM_STAT TIM_STAT_HOLDOVER) ++ p1 (s.rd OUT_UTC_OFFSET OUT_UTC_OFFSET_SECONDS) ++ p1 0 ++ p8 s.dom, s))

def execTimeInfo (t tenant : Nat) (s : State) : Host.Outcome State Fault Refusal := s.runAt t (opTimeInfo tenant)

end Sys2Proof.Machine
end

