-- ==== Sys2Proof/Machine/MbxProcess.lean ====
section
/-! DEFINITION. The firmware's turn (R478, R480, R483): which mailbox or peer it serves, the checks of a command's header and of
its AUTH, the command's meaning; and the ends of accepted-pending commands (R491). -/

namespace Sys2Proof.Machine

/-! ### The catalogue's commands -/

/-- What the firmware runs for each opcode (R496). -/
def served : List (Nat × (Cmd → State → State)) :=
  [(0x0101, srvPrtStatus), (0x0110, srvPrtPortSet), (0x0111, srvPrtLreSet), (0x0201, srvFabStatus), (0x0210, srvFabFdbWrite), (0x0211, srvFabFdbDelete),
    (0x0212, srvFabLimitsSet), (0x0301, srvIngStatus), (0x0310, srvStreamAdd), (0x0311, srvStreamRemove),
    (0x0312, srvStreamFlip), (0x0313, srvStencilLoad), (0x0314, srvStrangerRead), (0x0401, srvAcqStatus),
    (0x0410, srvAcqGroupSet), (0x0411, srvAcqTripSet), (0x0412, srvAcqTripRelease), (0x0501, srvSchStatus),
    (0x0510, srvSchEnqueue), (0x0601, srvCleStatus), (0x0602, srvClawTraceRead), (0x0610, srvClawAutotune),
    (0x0611, srvClawAutotuneApply), (0x0612, srvClawAutotuneAbort), (0x0613, srvClawControl), (0x0614, srvClawCoeffCommit),
    (0x0701, srvLgeStatus), (0x0710, srvProgLoad), (0x0711, srvProgVerify), (0x0712, srvProgExchange),
    (0x0713, srvProgControl), (0x0714, srvProgForce), (0x0801, srvOutStatus), (0x0810, srvOutBindArm),
    (0x0811, srvOutBindSet), (0x0812, srvOutFenceClear)] ++
  [(0x0813, srvOutBinEvents), (0x0901, srvRecArm), (0x0902, srvRecDisarm), (0x0903, srvRecTrigger), (0x0904, srvRecExport),
    (0x0905, srvRecStatus), (0x0A10, srvAlmClear), (0x0A11, srvAlmClearConfirm), (0x0A12, srvAlmInfo), (0x0A13, srvAlmRead),
    (0x0B10, srvDpxStatus), (0x0B11, srvDpxRevertNow), (0x0B12, srvDpxUnfence), (0x0B13, srvDpxDeclare),
    (0x0B14, srvDpxForceGrant), (0x0C01, srvKeyStatus), (0x0C10, srvKeyDerive), (0x0C11, srvKeyImport),
    (0x0C12, srvKeyExport), (0x0C13, srvKeyGenerate), (0x0C14, srvKeyAgree), (0x0C15, srvKeyInvalidate),
    (0x0C16, srvKeySweep), (0x0C17, srvKeyHandleSet), (0x0C18, srvKeyZeroise), (0x0C20, srvKeyEnroll),
    (0x0C21, srvKeyRevoke), (0x0C22, srvKeyLcAdvance), (0x0C23, srvKeyTamperClear), (0x0C24, srvKeyTamperCfg),
    (0x0D01, srvMemStatus), (0x0D10, srvMemBankAssign), (0x0D11, srvMemBankBist), (0x0E01, srvTimStatus)] ++
  [(0x0E10, srvTimSet), (0x0F01, srvTenantStatus), (0x0F10, srvTenantLoad), (0x0F11, srvTenantStart),
    (0x0F12, srvTenantDisable), (0x0F13, srvTenantUnload), (0x0F14, srvTenantSetShare), (0x0F15, srvTenantSetLimits),
    (0x0F16, srvTenantMigrateOut), (0x0F17, srvTenantMigrateIn), (0x0F18, srvTenantMigrateAbort), (0x0F19, srvTenantMsg),
    (0x0F1A, srvTenantMsgRead), (0x1001, srvInfoGetFeatures), (0x1002, srvSysStatus), (0x1010, srvSysConfigLoad),
    (0x1011, srvDormantEnter), (0x1012, srvSolsticeControl), (0x1013, srvSysReset), (0x1101, srvSessionOpen),
    (0x1102, srvSessionClose), (0x1103, srvSessionList), (0x1104, srvMbxAck), (0x1105, srvApertureOpen),
    (0x1106, srvApertureClose), (0x1107, srvBulkRead), (0x1108, srvBulkWrite), (0x1109, srvPrincipalSet),
    (0x1201, srvStwVersion), (0x1210, srvStwFlashWrite), (0x1211, srvStwSvnAdvance), (0x1212, srvStwRegRead),
    (0x1213, srvStwRegWrite)]

/-- A command past its AUTH: its meaning, or BAD_OPCODE after the check of its SEQUENCE (R483). -/
def State.runCommand (s : State) (op : Nat) (c : Cmd) : State :=
  match served.find? (fun e => e.1 == op) with
  | some (_, f) => f c s
  | none => s.serve op (fun s => { body := fun _ => ({}, s) }) c

/-! ### Header and AUTH (R481 to R483) -/

/-- Whether AUTH verifies: zero without a session, else the tag under the session's key, which the key register grants. -/
def State.authOk (s : State) (x : Session) (head auth payload : List Byte) : Bool × State :=
  if x.id = 0 then (auth == leBytes 16 0, s)
  else
    let (st, s) := s.grant x.slot (keyNeed 7 false false) .steward s.stewardSecure
    if st ≠ 0 then (false, s)
    else if macTag (s.slot x.slot).value (head ++ payload) true == auth then (true, s)
    else (false, s.bump cntKEY_TAG_FAIL 1)

/-- A whole command as its bytes arrived, header first. -/
def State.takeCommand (s : State) (via : Via) (b : List Byte) : State :=
  let op := leAt b 2 2
  let tag := leAt b 4 2
  let len := leAt b 6 2
  let session := leAt b 8 4
  let seq := leAt b 12 4
  let payload := slice b 32 len
  if byteAt b 0 ≠ 1 ∨ byteAt b 1 ≠ 0 then s.refuseHead via op tag seq stBadVersion
  else if 4064 < len ∨ b.length < 32 + len then s.refuseHead via op tag seq stBadLength
  else match s.sessionOf op session with
    | none => s.refuseHead via op tag seq stNoSession
    | some x =>
      let (ok, s) := s.authOk x (b.take 16) (slice b 16 16) payload
      if ok then s.runCommand op { via := via, session := session, tag := tag, sequence := seq, payload := payload }
      else (s.authEvent via session x.principal).refuseHead via op tag seq stAuthFail

/-! ### Turns (R478, R480) -/

/-- A mailbox whose host rang FETCH: its oldest completion is posted.
DESIGN CHOICE, log entry 51. -/
def State.postOldest (s : State) (m : Nat) : State :=
  match (s.box m).queue with
  | [] => s
  | b :: rest =>
    let s := s.setBox m { s.box m with queue := rest }
    (((s.setSram (m * 0x2000 + 0x1000) b).postResp m b.length true).pendWrite m rest.length)

/-- The mailboxes (0 to 31) and peers (from 32) that hold work. -/
def State.waiting (s : State) : List Nat :=
  (List.range 32).filter (fun m => (s.box m).state == 1)
    ++ ((List.range s.mbx.peers.length).filter (fun i => (s.mbx.peers[i]?.map (fun p => !p.queue.isEmpty)).getD false)).map (· + 32)

/-- The next in round-robin order after the one served last.
DESIGN CHOICE, log entry 51. -/
def State.nextTurn (s : State) : Option Nat :=
  match s.waiting.find? (fun i => decide (s.mbx.turn < i)) with
  | some i => some i
  | none => s.waiting.head?

/-- The oldest datagram of a peer is served. -/
def State.servePeer (s : State) (i : Nat) : State :=
  match s.mbx.peers[i]? with
  | none => s
  | some p =>
    match p.queue with
    | [] => s
    | b :: rest =>
      let s : State := { s with mbx := { s.mbx with peers := s.mbx.peers.set i { p with queue := rest } } }
      s.takeCommand (.udp p.addr p.port) b

/-- COMMAND_PROCESS: one turn of the firmware. -/
def opCommandProcess (s : State) : State :=
  if !s.rdB MBX_CTRL MBX_CTRL_EN ∨ !s.mbx.ready then s
  else match s.nextTurn with
    | none => s
    | some i =>
      let s : State := { s with mbx := { s.mbx with turn := i } }
      if i < 32 then
        if (s.box i).fetch then s.postOldest i else s.takeCommand (.mbx i) (s.sramBytes (i * 0x2000) 4096)
      else s.servePeer (i - 32)

def execCommandProcess (t : Nat) (s : State) : Host.Outcome State Fault Refusal := s.runAt t opCommandProcess

/-! ### Completions (R491) -/

/-- What an accepted-pending command's operation has come to, by what the machine shows; none while it goes on. -/
def State.jobEnd (s : State) (j : Job) : Option (Nat × Nat × List Byte) :=
  let o := j.obj
  let whenTen := fun (ok wait : List Nat) (bad : Nat) =>
    if ok.contains (s.tenState o) then some (0, 0, ([] : List Byte))
    else if wait.contains (s.tenState o) then none else some (bad, 0, [])
  match j.opcode with
  | 0x0312 =>
    if s.ing.flip.isSome then none
    else if s.ingActive ≠ o then some (0, 0, p4 (s.rdW ING_FLIP_ROUND).toNat) else some (stFlipCancelled, 0, [])
  | 0x0610 => (s.tuneResult o j.arg).map (fun d => (d.status, 0, d.bytes))
  | 0x0614 =>
    if (s.law o).commits ≠ j.arg then some (0, 0, [])
    else if s.rdB (CLE_LAW_STATE o) CLE_LAW_STATE_COMMIT_PENDING then none else some (stLawState, 0, [])
  | 0x0712 =>
    if (s.prog o).exch.isSome then none
    else let r := s.regBytes (LGE_REPORT 0) 32; some (leAt r 6 2, 0, r)
  | 0x0D10 =>
    if s.bankState o ≤ 1 ∧ (s.rdW (MEM_BANK_OWNER o)).toNat = j.arg then some (0, 0, [])
    else if s.bankState o = 5 then some (0x0590, 0, []) else none
  | 0x0F11 =>
    if s.tenState o = 2 then some (0, 0, [])
    else if s.tenBit o TEN_STATE_START_PENDING then none else some (stStateConflict, 0, [])
  | 0x0F12 => whenTen [4] [3] stStateConflict
  | 0x0F13 => whenTen [0] [] stStateConflict
  | 0x0F16 => whenTen [0] [5] 0x0506
  | 0x0F17 => whenTen [2] [5] 0x0506
  | 0x0F18 => whenTen [0, 2] [5] stStateConflict
  | _ => none

/-- COMPLETION of a command: its outcome is delivered where the operation has ended. An advance of the life-cycle state takes
effect with it (R447). -/
def opCompletion (session seq : Nat) (fuseBad : Bool) (s : State) : State :=
  match s.mbx.jobs.find? (fun j => j.session == session && j.seq == seq) with
  | none => s
  | some j =>
    match j.outcome with
    | some (st, d, b) =>
      let s := if j.opcode = 0x0904 then s.setRec j.obj { s.recDyn j.obj with exporting := false } else s
      s.endJob j st d b
    | none =>
      if j.opcode = 0x0C22 then
        let (st, s) := s.lcTake j.obj session fuseBad
        s.endJob j st 0 []
      else match s.jobEnd j with
        | none => s
        | some (st, d, b) => s.endJob j st d b

def execCompletion (t session seq : Nat) (fuseBad : Bool) (s : State) : Host.Outcome State Fault Refusal :=
  s.runAt t (opCompletion session seq fuseBad)

end Sys2Proof.Machine
end

