-- ==== Sys2Proof/Machine/Dispatch.lean ====
section
/-! DEFINITION. The dispatch: one arm for each command, a direct call of its meaning. -/

namespace Sys2Proof.Machine

/-- What each command does to everything but the queue. -/
def exec (i : Instr) (s : State) : Host.Outcome State Fault Refusal :=
  match i with
  | .registerWrite t core addr value => Sys2Proof.Machine.execRegisterWrite t core addr value s
  | .misalignedAccess t who addr size write => Sys2Proof.Machine.execMisalignedAccess t who addr size write s
  | .statisticsCounterRead t addr => Sys2Proof.Machine.execStatisticsCounterRead t addr s
  | .timNowRead t => Sys2Proof.Machine.execTimNowRead t s
  | .timPpsinRead t => Sys2Proof.Machine.execTimPpsinRead t s
  | .timStatRead t => Sys2Proof.Machine.execTimStatRead t s
  | .fabDaysRead t => Sys2Proof.Machine.execFabDaysRead t s
  | .acqTripTimeRead t ch => Sys2Proof.Machine.execAcqTripTimeRead t ch s
  | .recTrigTimeRead t rec_ => Sys2Proof.Machine.execRecTrigTimeRead t rec_ s
  | .sysDormantTimeRead t => Sys2Proof.Machine.execSysDormantTimeRead t s
  | .sysSnapTimeRead t => Sys2Proof.Machine.execSysSnapTimeRead t s
  | .keyTamperTimeRead t => Sys2Proof.Machine.execKeyTamperTimeRead t s
  | .memErrRead t => Sys2Proof.Machine.execMemErrRead t s
  | .twNowRead t core => Sys2Proof.Machine.execTwNowRead t core s
  | .cleLawLatRead t law => Sys2Proof.Machine.execCleLawLatRead t law s
  | .lgePrgTimeRead t prog => Sys2Proof.Machine.execLgePrgTimeRead t prog s
  | .domainTimeSet t hi => Sys2Proof.Machine.execDomainTimeSet t hi s
  | .gridEnable t src ptpEn => Sys2Proof.Machine.execGridEnable t src ptpEn s
  | .gridDisable t src ptpEn => Sys2Proof.Machine.execGridDisable t src ptpEn s
  | .admitTargetWrite t target => Sys2Proof.Machine.execAdmitTargetWrite t target s
  | .stagedSettingApply t => Sys2Proof.Machine.execStagedSettingApply t s
  | .roundBoundary t => Sys2Proof.Machine.execRoundBoundary t s
  | .heartbeatPulseEnd t => Sys2Proof.Machine.execHeartbeatPulseEnd t s
  | .ptpEventMessage t port kind times gm bytes => Sys2Proof.Machine.execPtpEventMessage t port kind times gm bytes s
  | .clockclassChange t gmClass => Sys2Proof.Machine.execClockclassChange t gmClass s
  | .becomeGrandmaster t => Sys2Proof.Machine.execBecomeGrandmaster t s
  | .holdoverEntry t cause => Sys2Proof.Machine.execHoldoverEntry t cause s
  | .holdoverLimit t => Sys2Proof.Machine.execHoldoverLimit t s
  | .refclkLost t => Sys2Proof.Machine.execRefclkLost t s
  | .refclkRestored t => Sys2Proof.Machine.execRefclkRestored t s
  | .ppsOutRise t => Sys2Proof.Machine.execPpsOutRise t s
  | .ppsOutFall t => Sys2Proof.Machine.execPpsOutFall t s
  | .ppsInEdge t rising => Sys2Proof.Machine.execPpsInEdge t rising s
  | .portConfigWrite t port value => Sys2Proof.Machine.execPortConfigWrite t port value s
  | .lreConfigWrite t pair value => Sys2Proof.Machine.execLreConfigWrite t pair value s
  | .linkUp t port speed anDone fecLock => Sys2Proof.Machine.execLinkUp t port speed anDone fecLock s
  | .linkDown t port => Sys2Proof.Machine.execLinkDown t port s
  | .frameReceive t port f => Sys2Proof.Machine.execFrameReceive t port f s
  | .dupEntryAgeing t => Sys2Proof.Machine.execDupEntryAgeing t s
  | .pauseFrame t port pfc enable quanta => Sys2Proof.Machine.execPauseFrame t port pfc enable quanta s
  | .pauseQuantaExpiry t port => Sys2Proof.Machine.execPauseQuantaExpiry t port s
  | .pauseWatchdog t port => Sys2Proof.Machine.execPauseWatchdog t port s
  | .releasePeriodEnd t port => Sys2Proof.Machine.execReleasePeriodEnd t port s
  | .preemptVerify t port => Sys2Proof.Machine.execPreemptVerify t port s
  | .verifyResponse t frame => Sys2Proof.Machine.execVerifyResponse t frame s
  | .twinLinkEnable t value => Sys2Proof.Machine.execTwinLinkEnable t value s
  | .twinBlockLock t lanes => Sys2Proof.Machine.execTwinBlockLock t lanes s
  | .twinAligned t laneMap skew => Sys2Proof.Machine.execTwinAligned t laneMap skew s
  | .twinUp t => Sys2Proof.Machine.execTwinUp t s
  | .twinDown t lanes => Sys2Proof.Machine.execTwinDown t lanes s
  | .crasenFrameReceive t f => Sys2Proof.Machine.execCrasenFrameReceive t f s
  | .txRingService t => Sys2Proof.Machine.execTxRingService t s
  | .txServiceResume t => Sys2Proof.Machine.execTxServiceResume t s
  | .rxTailWrite t ring index => Sys2Proof.Machine.execRxTailWrite t ring index s
  | .txTailWrite t ring index => Sys2Proof.Machine.execTxTailWrite t ring index s
  | .rxRingDisable t ring value => Sys2Proof.Machine.execRxRingDisable t ring value s
  | .txRingDisable t ring value => Sys2Proof.Machine.execTxRingDisable t ring value s
  | .calendarDay t bad loopBad => Sys2Proof.Machine.execCalendarDay t bad loopBad s
  | .lostTag t src dst => Sys2Proof.Machine.execLostTag t src dst s
  | .cellWrite t port => Sys2Proof.Machine.execCellWrite t port s
  | .egressSelect t port => Sys2Proof.Machine.execEgressSelect t port s
  | .copyEnd t port => Sys2Proof.Machine.execCopyEnd t port s
  | .fdbAgeing t => Sys2Proof.Machine.execFdbAgeing t s
  | .fdbRead t index => Sys2Proof.Machine.execFdbRead t index s
  | .fdbWrite t => Sys2Proof.Machine.execFdbWrite t s
  | .fdbDelete t => Sys2Proof.Machine.execFdbDelete t s
  | .fdbFlush t port => Sys2Proof.Machine.execFdbFlush t port s
  | .fdbSearch t => Sys2Proof.Machine.execFdbSearch t s
  | .fdbCommandComplete t => Sys2Proof.Machine.execFdbCommandComplete t s
  | .calendarSelfTest t failPort => Sys2Proof.Machine.execCalendarSelfTest t failPort s
  | .ingestFrame t frame => Sys2Proof.Machine.execIngestFrame t frame s
  | .talExpired t handle => Sys2Proof.Machine.execTalExpired t handle s
  | .ingFlip t => Sys2Proof.Machine.execIngFlip t s
  | .ingCancel t => Sys2Proof.Machine.execIngCancel t s
  | .ingCopy t => Sys2Proof.Machine.execIngCopy t s
  | .bankCopyComplete t => Sys2Proof.Machine.execBankCopyComplete t s
  | .ingStrangerPop t => Sys2Proof.Machine.execIngStrangerPop t s
  | .fastOutput t ch bits => Sys2Proof.Machine.execFastOutput t ch bits s
  | .fineOutput t group => Sys2Proof.Machine.execFineOutput t group s
  | .stuckEntry t ch => Sys2Proof.Machine.execStuckEntry t ch s
  | .stuckEnd t ch => Sys2Proof.Machine.execStuckEnd t ch s
  | .resetInstant t ch => Sys2Proof.Machine.execResetInstant t ch s
  | .channelSwitch t ch value => Sys2Proof.Machine.execChannelSwitch t ch value s
  | .groupEnable t group value => Sys2Proof.Machine.execGroupEnable t group value s
  | .acqCommit t group => Sys2Proof.Machine.execAcqCommit t group s
  | .acqSync t group => Sys2Proof.Machine.execAcqSync t group s
  | .tripLatchRelease t ch => Sys2Proof.Machine.execTripLatchRelease t ch s
  | .acqTripCfgWrite t ch value => Sys2Proof.Machine.execAcqTripCfgWrite t ch value s
  | .tenActivate t tenant => Sys2Proof.Machine.execTenActivate t tenant s
  | .tenStart t tenant => Sys2Proof.Machine.execTenStart t tenant s
  | .tenDisable t tenant => Sys2Proof.Machine.execTenDisable t tenant s
  | .disableCutOff t tenant => Sys2Proof.Machine.execDisableCutOff t tenant s
  | .tenRelease t tenant => Sys2Proof.Machine.execTenRelease t tenant s
  | .tenMigrate t tenant => Sys2Proof.Machine.execTenMigrate t tenant s
  | .tenReceive t tenant => Sys2Proof.Machine.execTenReceive t tenant s
  | .tenStopAtBoundary t tenant => Sys2Proof.Machine.execTenStopAtBoundary t tenant s
  | .tenResume t tenant => Sys2Proof.Machine.execTenResume t tenant s
  | .tenPlogSnap t tenant => Sys2Proof.Machine.execTenPlogSnap t tenant s
  | .tenMapInval t tenant all page => Sys2Proof.Machine.execTenMapInval t tenant all page s
  | .twMsgDb t core page value => Sys2Proof.Machine.execTwMsgDb t core page value s
  | .tenMsgIndexWrite t tenant page value => Sys2Proof.Machine.execTenMsgIndexWrite t tenant page value s
  | .twRingTail t core slot index => Sys2Proof.Machine.execTwRingTail t core slot index s
  | .migrationCommitReceived t tenant commit => Sys2Proof.Machine.execMigrationCommitReceived t tenant commit s
  | .migrationAbortReceived t tenant => Sys2Proof.Machine.execMigrationAbortReceived t tenant s
  | .commitAcknowledged t reply => Sys2Proof.Machine.execCommitAcknowledged t reply s
  | .migrationDeadline t tenant => Sys2Proof.Machine.execMigrationDeadline t tenant s
  | .dispatch t core => Sys2Proof.Machine.execDispatch t core s
  | .twNext t core => Sys2Proof.Machine.execTwNext t core s
  | .twDone t core result => Sys2Proof.Machine.execTwDone t core result s
  | .twEnq t core index => Sys2Proof.Machine.execTwEnq t core index s
  | .spillRefill t tenant ue => Sys2Proof.Machine.execSpillRefill t tenant ue s
  | .schStwEnq t task => Sys2Proof.Machine.execSchStwEnq t task s
  | .schStwCplPop t => Sys2Proof.Machine.execSchStwCplPop t s
  | .schFlagSet t task clear => Sys2Proof.Machine.execSchFlagSet t task clear s
  | .twFlag t core k value => Sys2Proof.Machine.execTwFlag t core k value s
  | .twFlagClr t core k value => Sys2Proof.Machine.execTwFlagClr t core k value s
  | .twTmrArm t core n hi => Sys2Proof.Machine.execTwTmrArm t core n hi s
  | .twTmrDisarm t core n value => Sys2Proof.Machine.execTwTmrDisarm t core n value s
  | .timerDeadline t tenant n => Sys2Proof.Machine.execTimerDeadline t tenant n s
  | .twCplCons t core value => Sys2Proof.Machine.execTwCplCons t core value s
  | .runLimit t core => Sys2Proof.Machine.execRunLimit t core s
  | .tenantFault t core cause va => Sys2Proof.Machine.execTenantFault t core cause va s
  | .overrunCheck t tenant => Sys2Proof.Machine.execOverrunCheck t tenant s
  | .gridTrigger t law => Sys2Proof.Machine.execGridTrigger t law s
  | .lawEvaluation t => Sys2Proof.Machine.execLawEvaluation t s
  | .clockLost t law => Sys2Proof.Machine.execClockLost t law s
  | .cleStart t law => Sys2Proof.Machine.execCleStart t law s
  | .cleStop t law => Sys2Proof.Machine.execCleStop t law s
  | .cleCommit t law bumpless => Sys2Proof.Machine.execCleCommit t law bumpless s
  | .copyActive t law => Sys2Proof.Machine.execCopyActive t law s
  | .cleTune t law => Sys2Proof.Machine.execCleTune t law s
  | .cleUntune t law => Sys2Proof.Machine.execCleUntune t law s
  | .traceArm t law => Sys2Proof.Machine.execTraceArm t law s
  | .traceDisarm t law => Sys2Proof.Machine.execTraceDisarm t law s
  | .traceTrigger t law => Sys2Proof.Machine.execTraceTrigger t law s
  | .twSpWrite t core j value => Sys2Proof.Machine.execTwSpWrite t core j value s
  | .autotuneComplete t law => Sys2Proof.Machine.execAutotuneComplete t law s
  | .autotuneTimeout t law => Sys2Proof.Machine.execAutotuneTimeout t law s
  | .scan t us => Sys2Proof.Machine.execScan t us s
  | .lgeWatchdog t prog us => Sys2Proof.Machine.execLgeWatchdog t prog us s
  | .lgeStart t prog cold => Sys2Proof.Machine.execLgeStart t prog cold s
  | .lgeStop t prog => Sys2Proof.Machine.execLgeStop t prog s
  | .lgeHold t prog => Sys2Proof.Machine.execLgeHold t prog s
  | .lgeRun t prog us => Sys2Proof.Machine.execLgeRun t prog us s
  | .lgeStep t prog us => Sys2Proof.Machine.execLgeStep t prog us s
  | .lgeVerify t prog target => Sys2Proof.Machine.execLgeVerify t prog target s
  | .lgeVerifyComplete t prog => Sys2Proof.Machine.execLgeVerifyComplete t prog s
  | .lgeExchange t prog target => Sys2Proof.Machine.execLgeExchange t prog target s
  | .lgeCancelExchange t prog => Sys2Proof.Machine.execLgeCancelExchange t prog s
  | .twLgiWrite t core j value => Sys2Proof.Machine.execTwLgiWrite t core j value s
  | .forceTableWrite t prog entry var valid value => Sys2Proof.Machine.execForceTableWrite t prog entry var valid value s
  | .twTrip t core value => Sys2Proof.Machine.execTwTrip t core value s
  | .twTripSet t core value => Sys2Proof.Machine.execTwTripSet t core value s
  | .twTripClr t core value => Sys2Proof.Machine.execTwTripClr t core value s
  | .bindingWrite t b k value => Sys2Proof.Machine.execBindingWrite t b k value s
  | .outBindArmWrite t value => Sys2Proof.Machine.execOutBindArmWrite t value s
  | .fenceAssert t => Sys2Proof.Machine.execFenceAssert t s
  | .fenceRelease t => Sys2Proof.Machine.execFenceRelease t s
  | .outFenceClr t => Sys2Proof.Machine.execOutFenceClr t s
  | .binChangeAccepted t input => Sys2Proof.Machine.execBinChangeAccepted t input s
  | .binBlockEnd t input level => Sys2Proof.Machine.execBinBlockEnd t input level s
  | .outBinEvtPop t => Sys2Proof.Machine.execOutBinEvtPop t s
  | .twPubCommit t core value => Sys2Proof.Machine.execTwPubCommit t core value s
  | .scheduledRetransmission t pub => Sys2Proof.Machine.execScheduledRetransmission t pub s
  | .recEntryRead t rec_ => Sys2Proof.Machine.execRecEntryRead t rec_ s
  | .xtrgQualify t line => Sys2Proof.Machine.execXtrgQualify t line s
  | .xtrgRelease t line => Sys2Proof.Machine.execXtrgRelease t line s
  | .xtrgPulseEnd t line => Sys2Proof.Machine.execXtrgPulseEnd t line s
  | .domainTriggerFrame t bytes => Sys2Proof.Machine.execDomainTriggerFrame t bytes s
  | .recInject t value => Sys2Proof.Machine.execRecInject t value s
  | .recOpArm t rec_ => Sys2Proof.Machine.execRecOpArm t rec_ s
  | .recOpDisarm t rec_ => Sys2Proof.Machine.execRecOpDisarm t rec_ s
  | .recOpTrigger t rec_ => Sys2Proof.Machine.execRecOpTrigger t rec_ s
  | .almPost t value => Sys2Proof.Machine.execAlmPost t value s
  | .twAlmPost t core value => Sys2Proof.Machine.execTwAlmPost t core value s
  | .intakeProcess t => Sys2Proof.Machine.execIntakeProcess t s
  | .almClearWrite t value => Sys2Proof.Machine.execAlmClearWrite t value s
  | .cursorSeek t => Sys2Proof.Machine.execCursorSeek t s
  | .cursorNext t => Sys2Proof.Machine.execCursorNext t s
  | .cursorFirst t => Sys2Proof.Machine.execCursorFirst t s
  | .cursorLast t => Sys2Proof.Machine.execCursorLast t s
  | .heartbeatFrameReceive t frame => Sys2Proof.Machine.execHeartbeatFrameReceive t frame s
  | .heartbeatWindowEnd t wireA wireB => Sys2Proof.Machine.execHeartbeatWindowEnd t wireA wireB s
  | .fatalDetect t side wire => Sys2Proof.Machine.execFatalDetect t side wire s
  | .evGrant t => Sys2Proof.Machine.execEvGrant t s
  | .roleAnswer t => Sys2Proof.Machine.execRoleAnswer t s
  | .evSwap t => Sys2Proof.Machine.execEvSwap t s
  | .refereeLost t => Sys2Proof.Machine.execRefereeLost t s
  | .negWaitExpiry t => Sys2Proof.Machine.execNegWaitExpiry t s
  | .copyAck t => Sys2Proof.Machine.execCopyAck t s
  | .copyCut t => Sys2Proof.Machine.execCopyCut t s
  | .copyApply t => Sys2Proof.Machine.execCopyApply t s
  | .revertRequest t => Sys2Proof.Machine.execRevertRequest t s
  | .imgModeClear t => Sys2Proof.Machine.execImgModeClear t s
  | .vigilCoreVector t core pass => Sys2Proof.Machine.execVigilCoreVector t core pass s
  | .keyIntegrityCheck t ok => Sys2Proof.Machine.execKeyIntegrityCheck t ok s
  | .requestRole t => Sys2Proof.Machine.execRequestRole t s
  | .revertNow t => Sys2Proof.Machine.execRevertNow t s
  | .evUnfence t side => Sys2Proof.Machine.execEvUnfence t side s
  | .evDeclare t => Sys2Proof.Machine.execEvDeclare t s
  | .forceGrant t side => Sys2Proof.Machine.execForceGrant t side s
  | .opDerive t => Sys2Proof.Machine.execOpDerive t s
  | .opImport t pub => Sys2Proof.Machine.execOpImport t pub s
  | .opExport t => Sys2Proof.Machine.execOpExport t s
  | .opGenerate t => Sys2Proof.Machine.execOpGenerate t s
  | .opAgree t => Sys2Proof.Machine.execOpAgree t s
  | .opMac t tag16 => Sys2Proof.Machine.execOpMac t tag16 s
  | .opVerify t tag16 => Sys2Proof.Machine.execOpVerify t tag16 s
  | .opEncrypt t => Sys2Proof.Machine.execOpEncrypt t s
  | .opDecrypt t => Sys2Proof.Machine.execOpDecrypt t s
  | .opSigVerify t => Sys2Proof.Machine.execOpSigVerify t s
  | .opInvalidate t destroy => Sys2Proof.Machine.execOpInvalidate t destroy s
  | .invalidateComplete t => Sys2Proof.Machine.execInvalidateComplete t s
  | .opSweep t => Sys2Proof.Machine.execOpSweep t s
  | .sweepComplete t => Sys2Proof.Machine.execSweepComplete t s
  | .opZeroise t => Sys2Proof.Machine.execOpZeroise t s
  | .twKeyCmdMac t core handle tag16 => Sys2Proof.Machine.execTwKeyCmdMac t core handle tag16 s
  | .twKeyCmdVerify t core handle tag16 => Sys2Proof.Machine.execTwKeyCmdVerify t core handle tag16 s
  | .twKeyCmdEncrypt t core handle => Sys2Proof.Machine.execTwKeyCmdEncrypt t core handle s
  | .twKeyCmdDecrypt t core handle => Sys2Proof.Machine.execTwKeyCmdDecrypt t core handle s
  | .tamperEvent t input => Sys2Proof.Machine.execTamperEvent t input s
  | .vbatLost t => Sys2Proof.Machine.execVbatLost t s
  | .entropyFailure t => Sys2Proof.Machine.execEntropyFailure t s
  | .bankHandover t bank owner => Sys2Proof.Machine.execBankHandover t bank owner s
  | .bankIdle t bank => Sys2Proof.Machine.execBankIdle t bank s
  | .bankZeroingDone t bank => Sys2Proof.Machine.execBankZeroingDone t bank s
  | .portAAccess t req addr len write found => Sys2Proof.Machine.execPortAAccess t req addr len write found s
  | .portBAccess t addr len write other found => Sys2Proof.Machine.execPortBAccess t addr len write other found s
  | .dramAccess t req addr len write found => Sys2Proof.Machine.execDramAccess t req addr len write found s
  | .patrolScrub t target found passDone => Sys2Proof.Machine.execPatrolScrub t target found passDone s
  | .bankBistStart t bank => Sys2Proof.Machine.execBankBistStart t bank s
  | .bankBistComplete t bank failSub => Sys2Proof.Machine.execBankBistComplete t bank failSub s
  | .doorbellCommand t m => Sys2Proof.Machine.execDoorbellCommand t m s
  | .doorbellAck t m => Sys2Proof.Machine.execDoorbellAck t m s
  | .doorbellFetch t m => Sys2Proof.Machine.execDoorbellFetch t m s
  | .mbxMbResp t m value => Sys2Proof.Machine.execMbxMbResp t m value s
  | .commandProcess t => Sys2Proof.Machine.execCommandProcess t s
  | .udpDatagram t addr port dport ident offset more bytes => Sys2Proof.Machine.execUdpDatagram t addr port dport ident offset more bytes s
  | .reassemblyTimeout t addr ident => Sys2Proof.Machine.execReassemblyTimeout t addr ident s
  | .completion t session seq fuseBad => Sys2Proof.Machine.execCompletion t session seq fuseBad s
  | .udpCompletionRepeat t session seq => Sys2Proof.Machine.execUdpCompletionRepeat t session seq s
  | .sessionIdleTimeout t session => Sys2Proof.Machine.execSessionIdleTimeout t session s
  | .stewardWatchdog t => Sys2Proof.Machine.execStewardWatchdog t s
  | .stewardRestart t => Sys2Proof.Machine.execStewardRestart t s
  | .sysWdogKick t => Sys2Proof.Machine.execSysWdogKick t s
  | .i2cStretchTimeout t bus => Sys2Proof.Machine.execI2cStretchTimeout t bus s
  | .prtStatus t c => Sys2Proof.Machine.execPrtStatus t c s
  | .prtPortSet t c => Sys2Proof.Machine.execPrtPortSet t c s
  | .prtLreSet t c => Sys2Proof.Machine.execPrtLreSet t c s
  | .fabStatus t c => Sys2Proof.Machine.execFabStatus t c s
  | .fabFdbWrite t c => Sys2Proof.Machine.execFabFdbWrite t c s
  | .fabFdbDelete t c => Sys2Proof.Machine.execFabFdbDelete t c s
  | .fabLimitsSet t c => Sys2Proof.Machine.execFabLimitsSet t c s
  | .ingStatus t c => Sys2Proof.Machine.execIngStatus t c s
  | .streamAdd t c => Sys2Proof.Machine.execStreamAdd t c s
  | .streamRemove t c => Sys2Proof.Machine.execStreamRemove t c s
  | .streamFlip t c => Sys2Proof.Machine.execStreamFlip t c s
  | .stencilLoad t c => Sys2Proof.Machine.execStencilLoad t c s
  | .strangerRead t c => Sys2Proof.Machine.execStrangerRead t c s
  | .acqStatus t c => Sys2Proof.Machine.execAcqStatus t c s
  | .acqGroupSet t c => Sys2Proof.Machine.execAcqGroupSet t c s
  | .acqTripSet t c => Sys2Proof.Machine.execAcqTripSet t c s
  | .acqTripRelease t c => Sys2Proof.Machine.execAcqTripRelease t c s
  | .schStatus t c => Sys2Proof.Machine.execSchStatus t c s
  | .schEnqueue t c => Sys2Proof.Machine.execSchEnqueue t c s
  | .cleStatus t c => Sys2Proof.Machine.execCleStatus t c s
  | .clawTraceRead t c => Sys2Proof.Machine.execClawTraceRead t c s
  | .clawAutotune t c => Sys2Proof.Machine.execClawAutotune t c s
  | .clawAutotuneApply t c => Sys2Proof.Machine.execClawAutotuneApply t c s
  | .clawAutotuneAbort t c => Sys2Proof.Machine.execClawAutotuneAbort t c s
  | .clawControl t c => Sys2Proof.Machine.execClawControl t c s
  | .clawCoeffCommit t c => Sys2Proof.Machine.execClawCoeffCommit t c s
  | .lgeStatus t c => Sys2Proof.Machine.execLgeStatus t c s
  | .progLoad t c => Sys2Proof.Machine.execProgLoad t c s
  | .progVerify t c => Sys2Proof.Machine.execProgVerify t c s
  | .progExchange t c => Sys2Proof.Machine.execProgExchange t c s
  | .progControl t c => Sys2Proof.Machine.execProgControl t c s
  | .progForce t c => Sys2Proof.Machine.execProgForce t c s
  | .outStatus t c => Sys2Proof.Machine.execOutStatus t c s
  | .outBindArm t c => Sys2Proof.Machine.execOutBindArm t c s
  | .outBindSet t c => Sys2Proof.Machine.execOutBindSet t c s
  | .outFenceClear t c => Sys2Proof.Machine.execOutFenceClear t c s
  | .outBinEvents t c => Sys2Proof.Machine.execOutBinEvents t c s
  | .recArm t c => Sys2Proof.Machine.execRecArm t c s
  | .recDisarm t c => Sys2Proof.Machine.execRecDisarm t c s
  | .recTrigger t c => Sys2Proof.Machine.execRecTrigger t c s
  | .recExport t c => Sys2Proof.Machine.execRecExport t c s
  | .recStatus t c => Sys2Proof.Machine.execRecStatus t c s
  | .almClear t c => Sys2Proof.Machine.execAlmClear t c s
  | .almClearConfirm t c => Sys2Proof.Machine.execAlmClearConfirm t c s
  | .almInfo t c => Sys2Proof.Machine.execAlmInfo t c s
  | .almRead t c => Sys2Proof.Machine.execAlmRead t c s
  | .dpxStatus t c => Sys2Proof.Machine.execDpxStatus t c s
  | .dpxRevertNow t c => Sys2Proof.Machine.execDpxRevertNow t c s
  | .dpxUnfence t c => Sys2Proof.Machine.execDpxUnfence t c s
  | .dpxDeclare t c => Sys2Proof.Machine.execDpxDeclare t c s
  | .dpxForceGrant t c => Sys2Proof.Machine.execDpxForceGrant t c s
  | .keyStatus t c => Sys2Proof.Machine.execKeyStatus t c s
  | .keyDerive t c => Sys2Proof.Machine.execKeyDerive t c s
  | .keyImport t c => Sys2Proof.Machine.execKeyImport t c s
  | .keyExport t c => Sys2Proof.Machine.execKeyExport t c s
  | .keyGenerate t c => Sys2Proof.Machine.execKeyGenerate t c s
  | .keyAgree t c => Sys2Proof.Machine.execKeyAgree t c s
  | .keyInvalidate t c => Sys2Proof.Machine.execKeyInvalidate t c s
  | .keySweep t c => Sys2Proof.Machine.execKeySweep t c s
  | .keyHandleSet t c => Sys2Proof.Machine.execKeyHandleSet t c s
  | .keyZeroise t c => Sys2Proof.Machine.execKeyZeroise t c s
  | .keyEnroll t c => Sys2Proof.Machine.execKeyEnroll t c s
  | .keyRevoke t c => Sys2Proof.Machine.execKeyRevoke t c s
  | .keyLcAdvance t c => Sys2Proof.Machine.execKeyLcAdvance t c s
  | .keyTamperClear t c => Sys2Proof.Machine.execKeyTamperClear t c s
  | .keyTamperCfg t c => Sys2Proof.Machine.execKeyTamperCfg t c s
  | .memStatus t c => Sys2Proof.Machine.execMemStatus t c s
  | .memBankAssign t c => Sys2Proof.Machine.execMemBankAssign t c s
  | .memBankBist t c => Sys2Proof.Machine.execMemBankBist t c s
  | .timStatus t c => Sys2Proof.Machine.execTimStatus t c s
  | .timSet t c => Sys2Proof.Machine.execTimSet t c s
  | .tenantStatus t c => Sys2Proof.Machine.execTenantStatus t c s
  | .tenantLoad t c => Sys2Proof.Machine.execTenantLoad t c s
  | .tenantStart t c => Sys2Proof.Machine.execTenantStart t c s
  | .tenantDisable t c => Sys2Proof.Machine.execTenantDisable t c s
  | .tenantUnload t c => Sys2Proof.Machine.execTenantUnload t c s
  | .tenantSetShare t c => Sys2Proof.Machine.execTenantSetShare t c s
  | .tenantSetLimits t c => Sys2Proof.Machine.execTenantSetLimits t c s
  | .tenantMigrateOut t c => Sys2Proof.Machine.execTenantMigrateOut t c s
  | .tenantMigrateIn t c => Sys2Proof.Machine.execTenantMigrateIn t c s
  | .tenantMigrateAbort t c => Sys2Proof.Machine.execTenantMigrateAbort t c s
  | .tenantMsg t c => Sys2Proof.Machine.execTenantMsg t c s
  | .tenantMsgRead t c => Sys2Proof.Machine.execTenantMsgRead t c s
  | .infoGetFeatures t c => Sys2Proof.Machine.execInfoGetFeatures t c s
  | .sysStatus t c => Sys2Proof.Machine.execSysStatus t c s
  | .sysConfigLoad t c => Sys2Proof.Machine.execSysConfigLoad t c s
  | .dormantEnter t c => Sys2Proof.Machine.execDormantEnter t c s
  | .solsticeControl t c => Sys2Proof.Machine.execSolsticeControl t c s
  | .sysReset t c => Sys2Proof.Machine.execSysReset t c s
  | .sessionOpen t c => Sys2Proof.Machine.execSessionOpen t c s
  | .sessionClose t c => Sys2Proof.Machine.execSessionClose t c s
  | .sessionList t c => Sys2Proof.Machine.execSessionList t c s
  | .mbxAck t c => Sys2Proof.Machine.execMbxAck t c s
  | .apertureOpen t c => Sys2Proof.Machine.execApertureOpen t c s
  | .apertureClose t c => Sys2Proof.Machine.execApertureClose t c s
  | .bulkRead t c => Sys2Proof.Machine.execBulkRead t c s
  | .bulkWrite t c => Sys2Proof.Machine.execBulkWrite t c s
  | .principalSet t c => Sys2Proof.Machine.execPrincipalSet t c s
  | .stwVersion t c => Sys2Proof.Machine.execStwVersion t c s
  | .stwFlashWrite t c => Sys2Proof.Machine.execStwFlashWrite t c s
  | .stwSvnAdvance t c => Sys2Proof.Machine.execStwSvnAdvance t c s
  | .stwRegRead t c => Sys2Proof.Machine.execStwRegRead t c s
  | .stwRegWrite t c => Sys2Proof.Machine.execStwRegWrite t c s
  | .statusQuery t tenant => Sys2Proof.Machine.execStatusQuery t tenant s
  | .almReadOwn t tenant => Sys2Proof.Machine.execAlmReadOwn t tenant s
  | .hostSend t tenant => Sys2Proof.Machine.execHostSend t tenant s
  | .enqueueRemote t tenant => Sys2Proof.Machine.execEnqueueRemote t tenant s
  | .timeInfo t tenant => Sys2Proof.Machine.execTimeInfo t tenant s
  | .porNAssert t => Sys2Proof.Machine.execPorNAssert t s
  | .porNRelease t input => Sys2Proof.Machine.execPorNRelease t input s
  | .rstNAssert t => Sys2Proof.Machine.execRstNAssert t s
  | .rstNRelease t input => Sys2Proof.Machine.execRstNRelease t input s
  | .ptpWaitExpired t => Sys2Proof.Machine.execPtpWaitExpired t s
  | .dormantEntry t => Sys2Proof.Machine.execDormantEntry t s
  | .evWake t => Sys2Proof.Machine.execEvWake t s
  | .wakeFrame t bytes => Sys2Proof.Machine.execWakeFrame t bytes s
  | .railDelayExpiry t input => Sys2Proof.Machine.execRailDelayExpiry t input s
  | .snapIn t => Sys2Proof.Machine.execSnapIn t s
  | .solsticeMatch t => Sys2Proof.Machine.execSolsticeMatch t s
  | .solsticeArm t => Sys2Proof.Machine.execSolsticeArm t s
  | .solsticeDisarm t => Sys2Proof.Machine.execSolsticeDisarm t s
  | .solsticeFire t => Sys2Proof.Machine.execSolsticeFire t s
  | .dispatchInstantHeartbeat t => Sys2Proof.Machine.execDispatchInstantHeartbeat t s
  | .entropyRestored t => Sys2Proof.Machine.execEntropyRestored t s
  | .tamperEventEnd t input => Sys2Proof.Machine.execTamperEventEnd t input s
  | .vbatBelowMinimum t => Sys2Proof.Machine.execVbatBelowMinimum t s
  | .powerUp t => Sys2Proof.Machine.execPowerUp t s
  | .pcieLinkUp t => Sys2Proof.Machine.execPcieLinkUp t s
  | .pcieLinkDown t => Sys2Proof.Machine.execPcieLinkDown t s
  | .jtagInstructionLoad t instr => Sys2Proof.Machine.execJtagInstructionLoad t instr s
  | .hostBar2Access t addr len write => Sys2Proof.Machine.execHostBar2Access t addr len write s
  | .commandBufferWrite t m offset bytes => Sys2Proof.Machine.execCommandBufferWrite t m offset bytes s
  | .cursorCommandComplete t => Sys2Proof.Machine.execCursorCommandComplete t s
  | .keyOperationEnd t core => Sys2Proof.Machine.execKeyOperationEnd t core s
  | .tenantCommandComplete t tenant => Sys2Proof.Machine.execTenantCommandComplete t tenant s

end Sys2Proof.Machine
end

