-- ==== Sys2Proof/Machine/Step.lean ====
section
/-! DEFINITION. One step of the block: the command at the front of the queue runs on the machine with the queue's rest. -/

namespace Sys2Proof.Machine

/-- The machine with its queue replaced. -/
def State.withQueue (s : State) (q : List Instr) : State := { s with pending := q }

/-- Three outcomes: the front command's; on an empty queue the block idles (notes/assumptions/2).
DESIGN CHOICE, log entry 2. -/
def step (s : State) : Host.Outcome State Fault Refusal :=
  match s.pending with
  | [] => .next s
  | c :: q => exec c (s.withQueue q)

/-- The machine with the command that a word spells at the front of its queue; unchanged where the word spells none. -/
def State.withFetchWord (s : State) (nbits w : Nat) : State :=
  match decodeTableWord nbits w with
  | some c => s.withQueue (c :: s.pending)
  | none => s

end Sys2Proof.Machine
end

