-- ==== Sys2Proof/WellFormed.lean ====
section
/-! DEFINITION. The instant of a command, and the ranges in which its operands name something: units, array elements, bytes and
words of the size the spec gives them. A command outside them is no command of the spec's; the meanings are total all the same. -/

namespace Sys2Proof

/-- The instant at which a command takes effect. -/
def Instr.time : Instr → Nat
  | .registerWrite t .. => t
  | .misalignedAccess t .. => t
  | .statisticsCounterRead t .. => t
  | .timNowRead t => t
  | .timPpsinRead t => t
  | .timStatRead t => t
  | .fabDaysRead t => t
  | .acqTripTimeRead t .. => t
  | .recTrigTimeRead t .. => t
  | .sysDormantTimeRead t => t
  | .sysSnapTimeRead t => t
  | .keyTamperTimeRead t => t
  | .memErrRead t => t
  | .twNowRead t .. => t
  | .cleLawLatRead t .. => t
  | .lgePrgTimeRead t .. => t
  | .domainTimeSet t .. => t
  | .gridEnable t .. => t
  | .gridDisable t .. => t
  | .admitTargetWrite t .. => t
  | .stagedSettingApply t => t
  | .roundBoundary t => t
  | .heartbeatPulseEnd t => t
  | .ptpEventMessage t .. => t
  | .clockclassChange t .. => t
  | .becomeGrandmaster t => t
  | .holdoverEntry t .. => t
  | .holdoverLimit t => t
  | .refclkLost t => t
  | .refclkRestored t => t
  | .ppsOutRise t => t
  | .ppsOutFall t => t
  | .ppsInEdge t .. => t
  | .portConfigWrite t .. => t
  | .lreConfigWrite t .. => t
  | .linkUp t .. => t
  | .linkDown t .. => t
  | .frameReceive t .. => t
  | .dupEntryAgeing t => t
  | .pauseFrame t .. => t
  | .pauseQuantaExpiry t .. => t
  | .pauseWatchdog t .. => t
  | .releasePeriodEnd t .. => t
  | .preemptVerify t .. => t
  | .verifyResponse t .. => t
  | .twinLinkEnable t .. => t
  | .twinBlockLock t .. => t
  | .twinAligned t .. => t
  | .twinUp t => t
  | .twinDown t .. => t
  | .crasenFrameReceive t .. => t
  | .txRingService t => t
  | .txServiceResume t => t
  | .rxTailWrite t .. => t
  | .txTailWrite t .. => t
  | .rxRingDisable t .. => t
  | .txRingDisable t .. => t
  | .calendarDay t .. => t
  | .lostTag t .. => t
  | .cellWrite t .. => t
  | .egressSelect t .. => t
  | .copyEnd t .. => t
  | .fdbAgeing t => t
  | .fdbRead t .. => t
  | .fdbWrite t => t
  | .fdbDelete t => t
  | .fdbFlush t .. => t
  | .fdbSearch t => t
  | .fdbCommandComplete t => t
  | .calendarSelfTest t .. => t
  | .ingestFrame t .. => t
  | .talExpired t .. => t
  | .ingFlip t => t
  | .ingCancel t => t
  | .ingCopy t => t
  | .bankCopyComplete t => t
  | .ingStrangerPop t => t
  | .fastOutput t .. => t
  | .fineOutput t .. => t
  | .stuckEntry t .. => t
  | .stuckEnd t .. => t
  | .resetInstant t .. => t
  | .channelSwitch t .. => t
  | .groupEnable t .. => t
  | .acqCommit t .. => t
  | .acqSync t .. => t
  | .tripLatchRelease t .. => t
  | .acqTripCfgWrite t .. => t
  | .tenActivate t .. => t
  | .tenStart t .. => t
  | .tenDisable t .. => t
  | .disableCutOff t .. => t
  | .tenRelease t .. => t
  | .tenMigrate t .. => t
  | .tenReceive t .. => t
  | .tenStopAtBoundary t .. => t
  | .tenResume t .. => t
  | .tenPlogSnap t .. => t
  | .tenMapInval t .. => t
  | .twMsgDb t .. => t
  | .tenMsgIndexWrite t .. => t
  | .twRingTail t .. => t
  | .migrationCommitReceived t .. => t
  | .migrationAbortReceived t .. => t
  | .commitAcknowledged t .. => t
  | .migrationDeadline t .. => t
  | .dispatch t .. => t
  | .twNext t .. => t
  | .twDone t .. => t
  | .twEnq t .. => t
  | .spillRefill t .. => t
  | .schStwEnq t .. => t
  | .schStwCplPop t => t
  | .schFlagSet t .. => t
  | .twFlag t .. => t
  | .twFlagClr t .. => t
  | .twTmrArm t .. => t
  | .twTmrDisarm t .. => t
  | .timerDeadline t .. => t
  | .twCplCons t .. => t
  | .runLimit t .. => t
  | .tenantFault t .. => t
  | .overrunCheck t .. => t
  | .gridTrigger t .. => t
  | .lawEvaluation t => t
  | .clockLost t .. => t
  | .cleStart t .. => t
  | .cleStop t .. => t
  | .cleCommit t .. => t
  | .copyActive t .. => t
  | .cleTune t .. => t
  | .cleUntune t .. => t
  | .traceArm t .. => t
  | .traceDisarm t .. => t
  | .traceTrigger t .. => t
  | .twSpWrite t .. => t
  | .autotuneComplete t .. => t
  | .autotuneTimeout t .. => t
  | .scan t .. => t
  | .lgeWatchdog t .. => t
  | .lgeStart t .. => t
  | .lgeStop t .. => t
  | .lgeHold t .. => t
  | .lgeRun t .. => t
  | .lgeStep t .. => t
  | .lgeVerify t .. => t
  | .lgeVerifyComplete t .. => t
  | .lgeExchange t .. => t
  | .lgeCancelExchange t .. => t
  | .twLgiWrite t .. => t
  | .forceTableWrite t .. => t
  | .twTrip t .. => t
  | .twTripSet t .. => t
  | .twTripClr t .. => t
  | .bindingWrite t .. => t
  | .outBindArmWrite t .. => t
  | .fenceAssert t => t
  | .fenceRelease t => t
  | .outFenceClr t => t
  | .binChangeAccepted t .. => t
  | .binBlockEnd t .. => t
  | .outBinEvtPop t => t
  | .twPubCommit t .. => t
  | .scheduledRetransmission t .. => t
  | .recEntryRead t .. => t
  | .xtrgQualify t .. => t
  | .xtrgRelease t .. => t
  | .xtrgPulseEnd t .. => t
  | .domainTriggerFrame t .. => t
  | .recInject t .. => t
  | .recOpArm t .. => t
  | .recOpDisarm t .. => t
  | .recOpTrigger t .. => t
  | .almPost t .. => t
  | .twAlmPost t .. => t
  | .intakeProcess t => t
  | .almClearWrite t .. => t
  | .cursorSeek t => t
  | .cursorNext t => t
  | .cursorFirst t => t
  | .cursorLast t => t
  | .heartbeatFrameReceive t .. => t
  | .heartbeatWindowEnd t .. => t
  | .fatalDetect t .. => t
  | .evGrant t => t
  | .roleAnswer t => t
  | .evSwap t => t
  | .refereeLost t => t
  | .negWaitExpiry t => t
  | .copyAck t => t
  | .copyCut t => t
  | .copyApply t => t
  | .revertRequest t => t
  | .imgModeClear t => t
  | .vigilCoreVector t .. => t
  | .keyIntegrityCheck t .. => t
  | .requestRole t => t
  | .revertNow t => t
  | .evUnfence t .. => t
  | .evDeclare t => t
  | .forceGrant t .. => t
  | .opDerive t => t
  | .opImport t .. => t
  | .opExport t => t
  | .opGenerate t => t
  | .opAgree t => t
  | .opMac t .. => t
  | .opVerify t .. => t
  | .opEncrypt t => t
  | .opDecrypt t => t
  | .opSigVerify t => t
  | .opInvalidate t .. => t
  | .invalidateComplete t => t
  | .opSweep t => t
  | .sweepComplete t => t
  | .opZeroise t => t
  | .twKeyCmdMac t .. => t
  | .twKeyCmdVerify t .. => t
  | .twKeyCmdEncrypt t .. => t
  | .twKeyCmdDecrypt t .. => t
  | .tamperEvent t .. => t
  | .vbatLost t => t
  | .entropyFailure t => t
  | .bankHandover t .. => t
  | .bankIdle t .. => t
  | .bankZeroingDone t .. => t
  | .portAAccess t .. => t
  | .portBAccess t .. => t
  | .dramAccess t .. => t
  | .patrolScrub t .. => t
  | .bankBistStart t .. => t
  | .bankBistComplete t .. => t
  | .doorbellCommand t .. => t
  | .doorbellAck t .. => t
  | .doorbellFetch t .. => t
  | .mbxMbResp t .. => t
  | .commandProcess t => t
  | .udpDatagram t .. => t
  | .reassemblyTimeout t .. => t
  | .completion t .. => t
  | .udpCompletionRepeat t .. => t
  | .sessionIdleTimeout t .. => t
  | .stewardWatchdog t => t
  | .stewardRestart t => t
  | .sysWdogKick t => t
  | .i2cStretchTimeout t .. => t
  | .prtStatus t .. => t
  | .prtPortSet t .. => t
  | .prtLreSet t .. => t
  | .fabStatus t .. => t
  | .fabFdbWrite t .. => t
  | .fabFdbDelete t .. => t
  | .fabLimitsSet t .. => t
  | .ingStatus t .. => t
  | .streamAdd t .. => t
  | .streamRemove t .. => t
  | .streamFlip t .. => t
  | .stencilLoad t .. => t
  | .strangerRead t .. => t
  | .acqStatus t .. => t
  | .acqGroupSet t .. => t
  | .acqTripSet t .. => t
  | .acqTripRelease t .. => t
  | .schStatus t .. => t
  | .schEnqueue t .. => t
  | .cleStatus t .. => t
  | .clawTraceRead t .. => t
  | .clawAutotune t .. => t
  | .clawAutotuneApply t .. => t
  | .clawAutotuneAbort t .. => t
  | .clawControl t .. => t
  | .clawCoeffCommit t .. => t
  | .lgeStatus t .. => t
  | .progLoad t .. => t
  | .progVerify t .. => t
  | .progExchange t .. => t
  | .progControl t .. => t
  | .progForce t .. => t
  | .outStatus t .. => t
  | .outBindArm t .. => t
  | .outBindSet t .. => t
  | .outFenceClear t .. => t
  | .outBinEvents t .. => t
  | .recArm t .. => t
  | .recDisarm t .. => t
  | .recTrigger t .. => t
  | .recExport t .. => t
  | .recStatus t .. => t
  | .almClear t .. => t
  | .almClearConfirm t .. => t
  | .almInfo t .. => t
  | .almRead t .. => t
  | .dpxStatus t .. => t
  | .dpxRevertNow t .. => t
  | .dpxUnfence t .. => t
  | .dpxDeclare t .. => t
  | .dpxForceGrant t .. => t
  | .keyStatus t .. => t
  | .keyDerive t .. => t
  | .keyImport t .. => t
  | .keyExport t .. => t
  | .keyGenerate t .. => t
  | .keyAgree t .. => t
  | .keyInvalidate t .. => t
  | .keySweep t .. => t
  | .keyHandleSet t .. => t
  | .keyZeroise t .. => t
  | .keyEnroll t .. => t
  | .keyRevoke t .. => t
  | .keyLcAdvance t .. => t
  | .keyTamperClear t .. => t
  | .keyTamperCfg t .. => t
  | .memStatus t .. => t
  | .memBankAssign t .. => t
  | .memBankBist t .. => t
  | .timStatus t .. => t
  | .timSet t .. => t
  | .tenantStatus t .. => t
  | .tenantLoad t .. => t
  | .tenantStart t .. => t
  | .tenantDisable t .. => t
  | .tenantUnload t .. => t
  | .tenantSetShare t .. => t
  | .tenantSetLimits t .. => t
  | .tenantMigrateOut t .. => t
  | .tenantMigrateIn t .. => t
  | .tenantMigrateAbort t .. => t
  | .tenantMsg t .. => t
  | .tenantMsgRead t .. => t
  | .infoGetFeatures t .. => t
  | .sysStatus t .. => t
  | .sysConfigLoad t .. => t
  | .dormantEnter t .. => t
  | .solsticeControl t .. => t
  | .sysReset t .. => t
  | .sessionOpen t .. => t
  | .sessionClose t .. => t
  | .sessionList t .. => t
  | .mbxAck t .. => t
  | .apertureOpen t .. => t
  | .apertureClose t .. => t
  | .bulkRead t .. => t
  | .bulkWrite t .. => t
  | .principalSet t .. => t
  | .stwVersion t .. => t
  | .stwFlashWrite t .. => t
  | .stwSvnAdvance t .. => t
  | .stwRegRead t .. => t
  | .stwRegWrite t .. => t
  | .statusQuery t .. => t
  | .almReadOwn t .. => t
  | .hostSend t .. => t
  | .enqueueRemote t .. => t
  | .timeInfo t .. => t
  | .porNAssert t => t
  | .porNRelease t .. => t
  | .rstNAssert t => t
  | .rstNRelease t .. => t
  | .ptpWaitExpired t => t
  | .dormantEntry t => t
  | .evWake t => t
  | .wakeFrame t .. => t
  | .railDelayExpiry t .. => t
  | .snapIn t => t
  | .solsticeMatch t => t
  | .solsticeArm t => t
  | .solsticeDisarm t => t
  | .solsticeFire t => t
  | .dispatchInstantHeartbeat t => t
  | .entropyRestored t => t
  | .tamperEventEnd t .. => t
  | .vbatBelowMinimum t => t
  | .powerUp t => t
  | .pcieLinkUp t => t
  | .pcieLinkDown t => t
  | .jtagInstructionLoad t .. => t
  | .hostBar2Access t .. => t
  | .commandBufferWrite t .. => t
  | .cursorCommandComplete t => t
  | .keyOperationEnd t .. => t
  | .tenantCommandComplete t .. => t

/-- A mailbox command's header fields and payload have the sizes of R481. -/
def Cmd.wf (c : Cmd) : Bool :=
  (match c.via with | .mbx m => decide (m < 32) | .udp _ p => decide (p < 65536)) && decide (c.session < 2 ^ 32)
    && decide (c.tag < 65536) && decide (c.sequence < 2 ^ 32) && decide (c.payload.length ≤ 4064)

/-- An address of control space, or one in BAR0 (notes/assumptions/12). -/
def busWf (a : Nat) : Bool := decide (a < 2 ^ 32) || (decide (2 ^ 40 ≤ a) && decide (a < 2 ^ 40 + 2 ^ 19))

/-- An accessor of control space is present in the widest variant. -/
def Accessor.wf : Accessor → Bool
  | .core c => decide (c < 64)
  | .steward | .jtag => true

/-- A requester names a core and a tenant of the widest variant. -/
def MemReq.wf : MemReq → Bool
  | .core c t | .fetch c t => decide (c < 64) && decide (t < 512)
  | .ing | .cle | .lge | .recorder | .steward | .dma | .jtag => true

/-- A part of a migration has the sizes of what it carries. -/
def MigPart.wf : MigPart → Bool
  | .page v b => decide (v < 16384) && decide (b.length = 65536)
  | .item b => decide (b.length = 64)
  | .desc i ws => decide (i < 256) && decide (ws.length = 5)
  | .flow f => decide (f < 4096)
  | .timer n d i b p _ => decide (n < 4) && decide (d < 2 ^ 64) && decide (i < 256) && decide (b < 32) && decide (p < 2 ^ 15)
  | .trips v => decide (v < 2 ^ 32)
  | .nums p st sq => decide (p < 1024) && decide (st < 2 ^ 32) && decide (sq < 2 ^ 32)
  | .line ty i b => decide (ty = 5 ∨ ty = 6) && decide (i < 65536) && decide (b.length = 256)

/-- Whether the operands name elements and values that the spec has. -/
def Instr.operandsOk : Instr → Bool
  | .registerWrite _ core addr _ => core.all (fun c => decide (c < 64)) && busWf addr
  | .misalignedAccess _ who addr _ write => who.wf && busWf addr && write.all (fun v => decide (v < 2 ^ 64))
  | .statisticsCounterRead _ addr => decide (addr < 2 ^ 32)
  | .acqTripTimeRead _ ch => decide (ch < 32)
  | .recTrigTimeRead _ rec_ => decide (rec_ < 16)
  | .twNowRead _ core => decide (core < 64)
  | .cleLawLatRead _ law => decide (law < 128)
  | .lgePrgTimeRead _ prog => decide (prog < 64)
  | .ptpEventMessage _ port kind times gm bytes => decide (port < 32) && (match kind with
    | .sync => decide (times.1 < 2 ^ 64) && times.2 == 0 && decide (gm.1 < 2 ^ 64) && decide (gm.2 < 256) && bytes == []
    | .pdelayReq => times == (0, 0) && gm == (0, 0) && bytes == []
    | .pdelayResp => decide (times.1 < 2 ^ 64) && decide (times.2 < 2 ^ 64) && gm == (0, 0) && bytes == []
    | .send => times == (0, 0) && gm == (0, 0) && decide (bytes.length ≤ 1514))
  | .clockclassChange _ gmClass => decide (gmClass < 256)
  | .portConfigWrite _ port _ => decide (port < 32)
  | .lreConfigWrite _ pair _ => decide (pair < 12)
  | .linkUp _ port speed _ _ => decide (port < 32) && decide (speed < 8)
  | .linkDown _ port => decide (port < 32)
  | .frameReceive _ port _ => decide (port < 32)
  | .pauseFrame _ port _ enable _ => decide (port < 32) && decide (enable < 256)
  | .pauseQuantaExpiry _ port => decide (port < 32)
  | .pauseWatchdog _ port => decide (port < 32)
  | .releasePeriodEnd _ port => decide (port < 32)
  | .preemptVerify _ port => decide (port < 32)
  | .verifyResponse _ frame => decide (frame.port < 32)
  | .rxTailWrite _ ring index => decide (ring < 1024) && decide (index < 2 ^ 32)
  | .txTailWrite _ ring index => decide (ring < 1024) && decide (index < 2 ^ 32)
  | .rxRingDisable _ ring _ => decide (ring < 1024)
  | .txRingDisable _ ring _ => decide (ring < 1024)
  | .lostTag _ src dst => decide (src < 32) && decide (dst < 32)
  | .cellWrite _ port => decide (port < 32)
  | .egressSelect _ port => decide (port < 32)
  | .copyEnd _ port => decide (port < 32)
  | .fdbRead _ index => decide (index < 2 ^ 32)
  | .fdbFlush _ port => decide (port < 32)
  | .talExpired _ handle => decide (handle < 16384)
  | .fastOutput _ ch bits => decide (ch < 32) && bits.rise.length == 8 && bits.fall.length == 8
  | .fineOutput _ group => decide (group < 8)
  | .stuckEntry _ ch => decide (ch < 32)
  | .stuckEnd _ ch => decide (ch < 32)
  | .resetInstant _ ch => decide (ch < 32)
  | .channelSwitch _ ch _ => decide (ch < 32)
  | .groupEnable _ group _ => decide (group < 8)
  | .acqCommit _ group => decide (group < 8)
  | .acqSync _ group => decide (group < 8)
  | .tripLatchRelease _ ch => decide (ch < 32)
  | .acqTripCfgWrite _ ch _ => decide (ch < 32)
  | .tenActivate _ tenant => decide (tenant < 512)
  | .tenStart _ tenant => decide (tenant < 512)
  | .tenDisable _ tenant => decide (tenant < 512)
  | .disableCutOff _ tenant => decide (tenant < 512)
  | .tenRelease _ tenant => decide (tenant < 512)
  | .tenMigrate _ tenant => decide (tenant < 512)
  | .tenReceive _ tenant => decide (tenant < 512)
  | .tenStopAtBoundary _ tenant => decide (tenant < 512)
  | .tenResume _ tenant => decide (tenant < 512)
  | .tenPlogSnap _ tenant => decide (tenant < 512)
  | .tenMapInval _ tenant _ page => decide (tenant < 512) && decide (page < 16384)
  | .twMsgDb _ core page _ => decide (core < 64) && decide (page < 4)
  | .tenMsgIndexWrite _ tenant page _ => decide (tenant < 512) && decide (page < 4)
  | .twRingTail _ core slot index => decide (core < 64) && decide (slot < 16) && decide (index < 2 ^ 32)
  | .migrationCommitReceived _ tenant commit => decide (tenant < 512) && decide (commit.round < 2 ^ 32) && commit.parts.all MigPart.wf
  | .migrationAbortReceived _ tenant => decide (tenant < 512)
  | .commitAcknowledged _ reply => decide (reply.tenant < 512)
  | .migrationDeadline _ tenant => decide (tenant < 512)
  | .dispatch _ core => decide (core < 64)
  | .twNext _ core => decide (core < 64)
  | .twDone _ core result => decide (core < 64) && decide (result < 2 ^ 32)
  | .twEnq _ core index => decide (core < 64) && decide (index < 2 ^ 32)
  | .spillRefill _ tenant _ => decide (tenant < 512)
  | .schStwEnq _ task => decide (task < 32768)
  | .schFlagSet _ task _ => decide (task < 32768)
  | .twFlag _ core k _ => decide (core < 64) && decide (k < 65536)
  | .twFlagClr _ core k _ => decide (core < 64) && decide (k < 65536)
  | .twTmrArm _ core n _ => decide (core < 64) && decide (n < 4)
  | .twTmrDisarm _ core n _ => decide (core < 64) && decide (n < 4)
  | .timerDeadline _ tenant n => decide (tenant < 512) && decide (n < 4)
  | .twCplCons _ core _ => decide (core < 64)
  | .runLimit _ core => decide (core < 64)
  | .tenantFault _ core _ va => decide (core < 64) && decide (va < 2 ^ 64)
  | .overrunCheck _ tenant => decide (tenant < 512)
  | .gridTrigger _ law => decide (law < 128)
  | .clockLost _ law => decide (law < 128)
  | .cleStart _ law => decide (law < 128)
  | .cleStop _ law => decide (law < 128)
  | .cleCommit _ law _ => decide (law < 128)
  | .copyActive _ law => decide (law < 128)
  | .cleTune _ law => decide (law < 128)
  | .cleUntune _ law => decide (law < 128)
  | .traceArm _ law => decide (law < 128)
  | .traceDisarm _ law => decide (law < 128)
  | .traceTrigger _ law => decide (law < 128)
  | .twSpWrite _ core j _ => decide (core < 64) && decide (j < 1024)
  | .autotuneComplete _ law => decide (law < 128)
  | .autotuneTimeout _ law => decide (law < 128)
  | .lgeWatchdog _ prog _ => decide (prog < 64)
  | .lgeStart _ prog _ => decide (prog < 64)
  | .lgeStop _ prog => decide (prog < 64)
  | .lgeHold _ prog => decide (prog < 64)
  | .lgeRun _ prog _ => decide (prog < 64)
  | .lgeStep _ prog _ => decide (prog < 64)
  | .lgeVerify _ prog target => decide (prog < 64) && decide (target < 64)
  | .lgeVerifyComplete _ prog => decide (prog < 64)
  | .lgeExchange _ prog target => decide (prog < 64) && decide (target < 64)
  | .lgeCancelExchange _ prog => decide (prog < 64)
  | .twLgiWrite _ core j _ => decide (core < 64) && decide (j < 1024)
  | .forceTableWrite _ prog entry var _ _ => decide (prog < 64) && decide (entry < 256) && decide (var < 65536)
  | .twTrip _ core _ => decide (core < 64)
  | .twTripSet _ core _ => decide (core < 64)
  | .twTripClr _ core _ => decide (core < 64)
  | .bindingWrite _ b k _ => decide (b < 256) && decide (k < 8)
  | .binChangeAccepted _ input => decide (input < 32)
  | .binBlockEnd _ input _ => decide (input < 32)
  | .twPubCommit _ core _ => decide (core < 64)
  | .scheduledRetransmission _ pub => decide (pub < 1024)
  | .recEntryRead _ rec_ => decide (rec_ < 16)
  | .xtrgQualify _ line => decide (line < 8)
  | .xtrgRelease _ line => decide (line < 8)
  | .xtrgPulseEnd _ line => decide (line < 8)
  | .recOpArm _ rec_ => decide (rec_ < 16)
  | .recOpDisarm _ rec_ => decide (rec_ < 16)
  | .recOpTrigger _ rec_ => decide (rec_ < 16)
  | .twAlmPost _ core _ => decide (core < 64)
  | .fatalDetect _ side _ => decide (side < 2)
  | .vigilCoreVector _ core _ => decide (core < 64)
  | .evUnfence _ side => decide (side < 2)
  | .forceGrant _ side => decide (side < 2)
  | .twKeyCmdMac _ core handle _ => decide (core < 64) && decide (handle < 2 ^ 32)
  | .twKeyCmdVerify _ core handle _ => decide (core < 64) && decide (handle < 2 ^ 32)
  | .twKeyCmdEncrypt _ core handle => decide (core < 64) && decide (handle < 2 ^ 32)
  | .twKeyCmdDecrypt _ core handle => decide (core < 64) && decide (handle < 2 ^ 32)
  | .tamperEvent _ input => decide (input < 4)
  | .bankHandover _ bank _ => decide (bank < 16)
  | .bankIdle _ bank => decide (bank < 16)
  | .bankZeroingDone _ bank => decide (bank < 16)
  | .portAAccess _ req addr _ _ _ => req.wf && decide (addr < 2 ^ 64)
  | .portBAccess _ addr _ _ other _ => decide (addr < 2 ^ 64) && other.all (fun a => a.req.wf && decide (a.addr < 2 ^ 64))
  | .dramAccess _ req addr _ _ _ => req.wf && decide (addr < 2 ^ 64)
  | .bankBistStart _ bank => decide (bank < 16)
  | .bankBistComplete _ bank _ => decide (bank < 16)
  | .doorbellCommand _ m => decide (m < 32)
  | .doorbellAck _ m => decide (m < 32)
  | .doorbellFetch _ m => decide (m < 32)
  | .mbxMbResp _ m _ => decide (m < 32)
  | .udpDatagram _ _ port dport _ offset _ _ => decide (port < 65536) && decide (dport < 65536) && decide (offset < 65536)
  | .completion _ session seq _ => decide (session < 2 ^ 32) && decide (seq < 2 ^ 32)
  | .udpCompletionRepeat _ session seq => decide (session < 2 ^ 32) && decide (seq < 2 ^ 32)
  | .sessionIdleTimeout _ session => decide (session < 2 ^ 32)
  | .i2cStretchTimeout _ bus => decide (bus < 8)
  | .prtStatus _ c => c.wf
  | .prtPortSet _ c => c.wf
  | .prtLreSet _ c => c.wf
  | .fabStatus _ c => c.wf
  | .fabFdbWrite _ c => c.wf
  | .fabFdbDelete _ c => c.wf
  | .fabLimitsSet _ c => c.wf
  | .ingStatus _ c => c.wf
  | .streamAdd _ c => c.wf
  | .streamRemove _ c => c.wf
  | .streamFlip _ c => c.wf
  | .stencilLoad _ c => c.wf
  | .strangerRead _ c => c.wf
  | .acqStatus _ c => c.wf
  | .acqGroupSet _ c => c.wf
  | .acqTripSet _ c => c.wf
  | .acqTripRelease _ c => c.wf
  | .schStatus _ c => c.wf
  | .schEnqueue _ c => c.wf
  | .cleStatus _ c => c.wf
  | .clawTraceRead _ c => c.wf
  | .clawAutotune _ c => c.wf
  | .clawAutotuneApply _ c => c.wf
  | .clawAutotuneAbort _ c => c.wf
  | .clawControl _ c => c.wf
  | .clawCoeffCommit _ c => c.wf
  | .lgeStatus _ c => c.wf
  | .progLoad _ c => c.wf
  | .progVerify _ c => c.wf
  | .progExchange _ c => c.wf
  | .progControl _ c => c.wf
  | .progForce _ c => c.wf
  | .outStatus _ c => c.wf
  | .outBindArm _ c => c.wf
  | .outBindSet _ c => c.wf
  | .outFenceClear _ c => c.wf
  | .outBinEvents _ c => c.wf
  | .recArm _ c => c.wf
  | .recDisarm _ c => c.wf
  | .recTrigger _ c => c.wf
  | .recExport _ c => c.wf
  | .recStatus _ c => c.wf
  | .almClear _ c => c.wf
  | .almClearConfirm _ c => c.wf
  | .almInfo _ c => c.wf
  | .almRead _ c => c.wf
  | .dpxStatus _ c => c.wf
  | .dpxRevertNow _ c => c.wf
  | .dpxUnfence _ c => c.wf
  | .dpxDeclare _ c => c.wf
  | .dpxForceGrant _ c => c.wf
  | .keyStatus _ c => c.wf
  | .keyDerive _ c => c.wf
  | .keyImport _ c => c.wf
  | .keyExport _ c => c.wf
  | .keyGenerate _ c => c.wf
  | .keyAgree _ c => c.wf
  | .keyInvalidate _ c => c.wf
  | .keySweep _ c => c.wf
  | .keyHandleSet _ c => c.wf
  | .keyZeroise _ c => c.wf
  | .keyEnroll _ c => c.wf
  | .keyRevoke _ c => c.wf
  | .keyLcAdvance _ c => c.wf
  | .keyTamperClear _ c => c.wf
  | .keyTamperCfg _ c => c.wf
  | .memStatus _ c => c.wf
  | .memBankAssign _ c => c.wf
  | .memBankBist _ c => c.wf
  | .timStatus _ c => c.wf
  | .timSet _ c => c.wf
  | .tenantStatus _ c => c.wf
  | .tenantLoad _ c => c.wf
  | .tenantStart _ c => c.wf
  | .tenantDisable _ c => c.wf
  | .tenantUnload _ c => c.wf
  | .tenantSetShare _ c => c.wf
  | .tenantSetLimits _ c => c.wf
  | .tenantMigrateOut _ c => c.wf
  | .tenantMigrateIn _ c => c.wf
  | .tenantMigrateAbort _ c => c.wf
  | .tenantMsg _ c => c.wf
  | .tenantMsgRead _ c => c.wf
  | .infoGetFeatures _ c => c.wf
  | .sysStatus _ c => c.wf
  | .sysConfigLoad _ c => c.wf
  | .dormantEnter _ c => c.wf
  | .solsticeControl _ c => c.wf
  | .sysReset _ c => c.wf
  | .sessionOpen _ c => c.wf
  | .sessionClose _ c => c.wf
  | .sessionList _ c => c.wf
  | .mbxAck _ c => c.wf
  | .apertureOpen _ c => c.wf
  | .apertureClose _ c => c.wf
  | .bulkRead _ c => c.wf
  | .bulkWrite _ c => c.wf
  | .principalSet _ c => c.wf
  | .stwVersion _ c => c.wf
  | .stwFlashWrite _ c => c.wf
  | .stwSvnAdvance _ c => c.wf
  | .stwRegRead _ c => c.wf
  | .stwRegWrite _ c => c.wf
  | .tamperEventEnd _ input => decide (input < 4)
  | .hostBar2Access _ addr _ _ => decide (addr < 2 ^ 64)
  | .commandBufferWrite _ m offset _ => decide (m < 32) && decide (offset < 4096)
  | .keyOperationEnd _ core => core.all (fun c => decide (c < 64))
  | .tenantCommandComplete _ tenant => decide (tenant < 512)
  | .timNowRead .. | .timPpsinRead .. | .timStatRead .. | .fabDaysRead .. | .sysDormantTimeRead ..
  | .sysSnapTimeRead .. | .keyTamperTimeRead .. | .memErrRead .. | .domainTimeSet .. | .gridEnable ..
  | .gridDisable .. | .admitTargetWrite .. | .stagedSettingApply .. | .roundBoundary .. | .heartbeatPulseEnd ..
  | .becomeGrandmaster .. | .holdoverEntry .. | .holdoverLimit .. | .refclkLost .. | .refclkRestored ..
  | .ppsOutRise .. | .ppsOutFall .. | .ppsInEdge .. | .dupEntryAgeing .. | .twinLinkEnable .. | .twinBlockLock ..
  | .twinAligned .. | .twinUp .. | .twinDown .. | .crasenFrameReceive .. | .txRingService .. | .txServiceResume ..
  | .calendarDay .. | .fdbAgeing .. | .fdbWrite .. | .fdbDelete .. | .fdbSearch .. | .fdbCommandComplete ..
  | .calendarSelfTest .. | .ingestFrame .. | .ingFlip .. | .ingCancel .. | .ingCopy .. | .bankCopyComplete ..
  | .ingStrangerPop .. | .schStwCplPop .. | .lawEvaluation .. | .scan .. | .outBindArmWrite .. | .fenceAssert ..
  | .fenceRelease .. | .outFenceClr .. | .outBinEvtPop .. | .domainTriggerFrame .. | .recInject .. | .almPost ..
  | .intakeProcess .. | .almClearWrite .. | .cursorSeek .. | .cursorNext .. | .cursorFirst .. | .cursorLast ..
  | .heartbeatFrameReceive .. | .heartbeatWindowEnd .. | .evGrant .. | .roleAnswer .. | .evSwap .. | .refereeLost ..
  | .negWaitExpiry .. | .copyAck .. | .copyCut .. | .copyApply .. | .revertRequest .. | .imgModeClear ..
  | .keyIntegrityCheck .. | .requestRole .. | .revertNow .. | .evDeclare .. | .opDerive .. | .opImport ..
  | .opExport .. | .opGenerate .. | .opAgree .. | .opMac .. | .opVerify .. | .opEncrypt .. | .opDecrypt ..
  | .opSigVerify .. | .opInvalidate .. | .invalidateComplete .. | .opSweep .. | .sweepComplete .. | .opZeroise ..
  | .vbatLost .. | .entropyFailure .. | .patrolScrub .. | .commandProcess .. | .reassemblyTimeout ..
  | .stewardWatchdog .. | .stewardRestart .. | .sysWdogKick .. | .porNAssert .. | .porNRelease .. | .rstNAssert ..
  | .rstNRelease .. | .ptpWaitExpired .. | .dormantEntry .. | .evWake .. | .wakeFrame .. | .railDelayExpiry ..
  | .snapIn .. | .solsticeMatch .. | .solsticeArm .. | .solsticeDisarm .. | .solsticeFire ..
  | .dispatchInstantHeartbeat .. | .entropyRestored .. | .vbatBelowMinimum .. | .powerUp .. | .pcieLinkUp ..
  | .pcieLinkDown .. | .jtagInstructionLoad .. | .cursorCommandComplete .. => true
  | .statusQuery _ tenant | .almReadOwn _ tenant | .hostSend _ tenant | .enqueueRemote _ tenant | .timeInfo _ tenant =>
    decide (tenant < 512)

/-- A well-formed command: its operands are in range, and its instant is one of the 64-bit count. -/
def Instr.wf (i : Instr) : Bool := i.operandsOk && decide (i.time < 2 ^ 64)

end Sys2Proof
end

