-- ==== Sys2Proof/Safety.lean ====
section
/-! DEFINITION. The terms in which claims speak of commands: completing with a next state, and what a command leaves alone. -/

namespace Sys2Proof.Machine

/-- The command answers a next state, of which `P` holds. -/
def Completes (i : Instr) (s : State) (P : State → Prop) : Prop := ∃ u, exec i s = .next u ∧ P u

/-- The words that the post of an event may write beside its channel's: the Almanac's (R381) and those of a Solstice strobe that
the event fires (R521). -/
def eventWord (a : Nat) : Prop := a / 2 ^ 24 = 0x0A ∨ a = SYS_SNAP_STAT ∨ a = SYS_SNAP_TIME_LO ∨ a = SYS_SNAP_TIME_HI

/-- Control space outside a list of words, and but for the words of posted events, reads as before. -/
def SameWords (words : List Nat) (s u : State) : Prop := ∀ a, a ∉ words → ¬ eventWord a → u.rdW a = s.rdW a

/-- Every byte of bank, DRAM and flash reads as before. -/
def SameMemory (s u : State) : Prop := ∀ a, u.byte a = s.byte a

/-- The statistics counters outside a list are as before, but for those of the Almanac and of Solstice. -/
def SameCounts (counts : List Nat) (s u : State) : Prop :=
  ∀ a, a ∉ counts → a / 2 ^ 24 ≠ 0x0A → a / 2 ^ 24 ≠ 0x10 → u.count a = s.count a

/-- Nothing changes but what the last access returned and the captured words listed. -/
def OnlyRead (caps : List Nat) (s u : State) : Prop :=
  u = { s with now := u.now, bus := u.bus, caps := u.caps } ∧ ∀ a, a ∉ caps → u.cap a = s.cap a

/-- Nothing changes but the words listed. -/
def OnlyWords (words : List Nat) (s u : State) : Prop :=
  u = { s with now := u.now, regs := u.regs } ∧ ∀ a, a ∉ words → u.rdW a = s.rdW a

/-- Nothing changes but the words and counters listed, and what posted events change: the Almanac, and a Solstice strobe that
an event fires. -/
def OnlyEvents (words counts : List Nat) (s u : State) : Prop :=
  u = { s with now := u.now, regs := u.regs, cnt := u.cnt, rate := u.rate, alm := u.alm, snap := u.snap }
    ∧ SameWords words s u ∧ SameCounts counts s u

/-- The instants of the waiting commands do not fall, and none lies before the own count (R33, R554). -/
def inOrder : Nat → List Instr → Bool
  | _, [] => true
  | t, c :: q => decide (t ≤ c.time) && inOrder c.time q

end Sys2Proof.Machine
end

