-- ==== Sys2Proof/Certificates/Slice0/Obligations.lean ====
section
/-! DEFINITION. The statements about the block, in the order of its chapters. -/

open Sys2Proof Sys2Proof.Machine

/-! ### Reads with captures (R54, R91, R192, R200, R474) -/

/-- A read of the first register of a pair returns it and captures the second; nothing else changes. -/
def Sys2Proof.Machine.PairRead (i : Instr) (s : State) (lo hi : Nat) : Prop :=
  Completes i s fun u => u.bus.data = (s.rdW lo).toNat ∧ u.bus.err = false ∧ u.cap hi = s.rdW hi ∧ OnlyRead [hi] s u

/-- Every read that captures or clears: the value returned, the words captured, the fields cleared (the other fields of the word stay),
and nothing else.
Where a clause rests on the model's own choices: log entry 12. -/
def Obligations.ReadsThatCaptureOrClear : Prop :=
  (∀ t s, Completes (.timNowRead t) s fun u =>
    u.bus.data = u.dom % 2 ^ 32 ∧ u.cap TIM_NOW_HI = BitVec.ofNat 32 (u.dom / 2 ^ 32) ∧ OnlyRead [TIM_NOW_HI] s u) ∧
  (∀ t core s, (s.coreTenant core).isSome → Completes (.twNowRead t core) s fun u =>
    u.bus.data = u.dom % 2 ^ 32 ∧ u.cap (0x40000014 + core * 2 ^ 32) = BitVec.ofNat 32 (u.dom / 2 ^ 32)
      ∧ OnlyRead [0x40000014 + core * 2 ^ 32] s u) ∧
  (∀ t s, Completes (.fabDaysRead t) s fun u =>
    u.bus.data = s.fab.days % 2 ^ 32 ∧ u.cap FAB_DAYS_HI = BitVec.ofNat 32 (s.fab.days / 2 ^ 32) ∧ OnlyRead [FAB_DAYS_HI] s u) ∧
  (∀ t s, PairRead (.timPpsinRead t) s TIM_PPSIN_LO TIM_PPSIN_HI) ∧
  (∀ t s, PairRead (.sysDormantTimeRead t) s SYS_DORMANT_TIME_LO SYS_DORMANT_TIME_HI) ∧
  (∀ t s, PairRead (.sysSnapTimeRead t) s SYS_SNAP_TIME_LO SYS_SNAP_TIME_HI) ∧
  (∀ t s, PairRead (.keyTamperTimeRead t) s KEY_TAMPER_TIME_LO KEY_TAMPER_TIME_HI) ∧
  (∀ t ch s, ch < 32 → PairRead (.acqTripTimeRead t ch) s (ACQ_TRIP_TIME_LO ch) (ACQ_TRIP_TIME_HI ch)) ∧
  (∀ t r s, r < 16 → PairRead (.recTrigTimeRead t r) s (REC_TRIG_TIME_LO r) (REC_TRIG_TIME_HI r)) ∧
  (∀ t s, Completes (.memErrRead t) s fun u =>
    u.bus.data = (s.rdW MEM_ERR_LO).toNat ∧ u.cap MEM_ERR_HI = s.rdW MEM_ERR_HI ∧ u.cap MEM_ERR_INFO = s.rdW MEM_ERR_INFO
      ∧ OnlyRead [MEM_ERR_HI, MEM_ERR_INFO] s u) ∧
  (∀ t s, Completes (.timStatRead t) s fun u =>
    u.bus.data = (s.rdW TIM_STAT).toNat ∧ u.rd TIM_STAT TIM_STAT_PPS_REJ = 0 ∧ u.synch = s.synch
      ∧ u = { s with now := u.now, bus := u.bus, regs := u.regs } ∧ ∀ a, a ≠ TIM_STAT → u.rdW a = s.rdW a) ∧
  (∀ t law s, s.clePresent = true → law < 128 → Completes (.cleLawLatRead t law) s fun u =>
    u.bus.data = (s.rdW (CLE_LAW_LAT law)).toNat ∧ u.rd (CLE_LAW_LAT law) CLE_LAW_LAT_MAX_NS = 0
      ∧ u = { s with now := u.now, bus := u.bus, regs := u.regs } ∧ ∀ a, a ≠ CLE_LAW_LAT law → u.rdW a = s.rdW a) ∧
  (∀ t p s, p < 64 → Completes (.lgePrgTimeRead t p) s fun u =>
    u.bus.data = (s.rdW (LGE_PRG_TIME p)).toNat ∧ u.rd (LGE_PRG_TIME p) LGE_PRG_TIME_MAX_US = 0
      ∧ u = { s with now := u.now, bus := u.bus, regs := u.regs } ∧ ∀ a, a ≠ LGE_PRG_TIME p → u.rdW a = s.rdW a) ∧
  (∀ t a s, counterAt a = true → Completes (.statisticsCounterRead t a) s fun u =>
    let m := if a / 2 ^ 24 = 0x05 then (s.advance t).chargeAll else s
    u.bus.data = m.count a % 2 ^ 32 ∧ cget (fun _ => 0) u.cntHi a = m.count a / 2 ^ 32 ∧ u.count a = 0
      ∧ cget (fun _ => 0) u.mbx.totals a = cget (fun _ => 0) s.mbx.totals a + m.count a
      ∧ (∀ b, b ≠ a → u.count b = m.count b) ∧ (∀ b, u.rdW b = m.rdW b) ∧ SameMemory s u)

/-! ### Time base (R33 to R35, R45, R46, R51, R52) -/

/-- Domain time and D: TIM_SET_HI sets domain time only while the grid is off; TARGET takes values from 250 to 3,000 and waits for a
boundary; a refused write leaves everything but CFG_REJ. 1PPS_OUT rises and falls; an edge of 1PPS_IN is timestamped to 4 ns, or
rejected more than 1 ms from a second (R33, R45, R46, R51, R52).
Where a clause rests on the model's own choices: log entries 14, 20. -/
def Obligations.TimeBaseAndPps : Prop :=
  (∀ t hi s, s.gridOn = false → s.tim.setLo < 2 ^ 32 → Completes (.domainTimeSet t hi) s fun u =>
    u.dom = hi.toNat * 2 ^ 32 + s.tim.setLo ∧ u = { s with now := u.now, tim := { s.tim with offset := u.tim.offset, lastRound := none } }) ∧
  (∀ t hi s, s.gridOn = true → Completes (.domainTimeSet t hi) s fun u =>
    u.rdB TIM_STAT TIM_STAT_CFG_REJ = true ∧ u.tim = s.tim ∧ OnlyWords [TIM_STAT] s u) ∧
  (∀ t target s, 250 ≤ target → target ≤ 3000 → Completes (.admitTargetWrite t target) s fun u =>
    u.rd TIM_ADMIT TIM_ADMIT_TARGET = target ∧ u.rd TIM_ADMIT TIM_ADMIT_CURRENT = s.rd TIM_ADMIT TIM_ADMIT_CURRENT
      ∧ u.rdB TIM_STAT TIM_STAT_SLEWING = (s.rd TIM_ADMIT TIM_ADMIT_CURRENT != target)
      ∧ u.tim.targetStaged = some { val := target, eff := u.stageAt }
      ∧ ∀ a, a ≠ TIM_ADMIT → a ≠ TIM_STAT → u.rdW a = s.rdW a) ∧
  (∀ t target s, target < 250 ∨ 3000 < target → Completes (.admitTargetWrite t target) s fun u =>
    u.rdB TIM_STAT TIM_STAT_CFG_REJ = true ∧ u.tim = s.tim ∧ OnlyWords [TIM_STAT] s u) ∧
  (∀ t src ptpEn s, s.gridOn = false → exec (.gridEnable t src ptpEn) s = .next (s.after t fun m =>
    State.mclkFollow { m.setTimCtrl src ptpEn true with tim := { (m.setTimCtrl src ptpEn true).tim with
      nextRound := firstRoundFrom m.fs m.roundLen (m.rd TIM_ADMIT TIM_ADMIT_CURRENT) (m.dom + 1000),
      nextD := m.rd TIM_ADMIT TIM_ADMIT_CURRENT } })) ∧
  (∀ t src ptpEn s, s.gridOn = false → Completes (.gridEnable t src ptpEn) s fun u =>
    u.gridOn = true ∧ u.rdB TIM_CTRL TIM_CTRL_SRC = src ∧ u.rdB TIM_CTRL TIM_CTRL_PTP_EN = ptpEn
      ∧ u.tim.nextRound = firstRoundFrom s.fs s.roundLen (s.rd TIM_ADMIT TIM_ADMIT_CURRENT) (u.dom + 1000)
      ∧ u.tim.nextD = s.rd TIM_ADMIT TIM_ADMIT_CURRENT ∧ u.rdW TIM_ADMIT = s.rdW TIM_ADMIT ∧ u.synch = s.synch
      ∧ u.cnt = s.cnt ∧ SameMemory s u) ∧
  (∀ t src ptpEn s, s.gridOn = true → Completes (.gridEnable t src ptpEn) s fun u =>
    u.gridOn = true ∧ u.rdB TIM_CTRL TIM_CTRL_SRC = src ∧ u.rdB TIM_CTRL TIM_CTRL_PTP_EN = ptpEn ∧ OnlyWords [TIM_CTRL] s u) ∧
  (∀ t src ptpEn s, s.gridOn = false → Completes (.gridDisable t src ptpEn) s fun u =>
    u.gridOn = false ∧ u.rdB TIM_CTRL TIM_CTRL_SRC = src ∧ u.rdB TIM_CTRL TIM_CTRL_PTP_EN = ptpEn ∧ OnlyWords [TIM_CTRL] s u) ∧
  (∀ t src ptpEn s, s.gridOn = true → exec (.gridDisable t src ptpEn) s = .next (s.after t fun m =>
    let n := m.chargeAll.setTimCtrl src ptpEn false
    let n : State := { n with sch := { n.sch with checks := [] } }
    State.applyStaged (State.recStopAll (State.mclkFollow (n.liveTenants.foldl (fun (m : State) k => m.noteBudget k) n))))) ∧
  (∀ t s, s.ppsDriven = true → (s.advance t).dom % 1000000000 ≤ 4 → Completes (.ppsOutRise t) s fun u =>
    u = { s with now := u.now, tim := { s.tim with ppsOut := true, ppsOutAt := u.now } }) ∧
  (∀ t s, s.tim.ppsOutAt + s.rd TIM_PPS TIM_PPS_OUT_WIDTH * 1000000 ≤ max s.now t → Completes (.ppsOutFall t) s fun u =>
    u = { s with now := u.now, tim := { s.tim with ppsOut := false } }) ∧
  (∀ t rising s, s.rdB TIM_PPS TIM_PPS_IN_EN = true → rising = !s.rdB TIM_PPS TIM_PPS_IN_EDGE → s.rdB TIM_CTRL TIM_CTRL_SRC = false →
    s.sys.advent = none → -1000000 ≤ secondDistance (s.advance t).stamp → secondDistance (s.advance t).stamp ≤ 1000000 →
    Completes (.ppsInEdge t rising) s fun u =>
      u.rdW TIM_PPSIN_LO = BitVec.ofNat 32 u.stamp ∧ u.rdW TIM_PPSIN_HI = BitVec.ofNat 32 (u.stamp / 2 ^ 32)
        ∧ u.tim = { s.tim with lastEdge := some u.now } ∧ OnlyWords [TIM_PPSIN_LO, TIM_PPSIN_HI] { s with tim := u.tim } u) ∧
  (∀ t rising s, s.rdB TIM_PPS TIM_PPS_IN_EN = true → rising = !s.rdB TIM_PPS TIM_PPS_IN_EDGE → s.sys.advent = none →
    (secondDistance (s.advance t).stamp < -1000000 ∨ 1000000 < secondDistance (s.advance t).stamp) →
    Completes (.ppsInEdge t rising) s fun u =>
      u.rd TIM_STAT TIM_STAT_PPS_REJ = min 255 (s.rd TIM_STAT TIM_STAT_PPS_REJ + 1) ∧ OnlyEvents [TIM_STAT] [] s u)

/-- A line or domain port in clock mode while PTP steers domain time (R31, R32). -/
def Sys2Proof.Machine.State.clockPort (s : State) (port : Nat) : Bool :=
  s.portPresent port && decide (port < 28) && s.rdB TIM_CTRL TIM_CTRL_PTP_EN && !s.rdB TIM_CTRL TIM_CTRL_SRC
    && s.rd (TIM_PORT_PTP port) TIM_PORT_PTP_MODE == 1

/-- The offset of a Sync received at `t`: its timestamp with ASYM, less its origin and the path delay (R30, R32). -/
def Sys2Proof.Machine.State.ptpOffset (s : State) (t port origin : Nat) : Int :=
  (s.advance t).rxStamp port - (origin : Int) - (s.ptpPort port).delay

/-- The synch state (R34, R35): what a Sync, a lock, a grandmaster and a lost reference make of it, while no start-up is waiting; holdover keeps
it until it has lasted LIMIT seconds, then the state is NONE.
Where a clause rests on the model's own choices: log entry 20. -/
def Obligations.SynchAndHoldover : Prop :=
  (∀ t port origin gmId gmClass s, s.clockPort port = true → s.sys.advent = none →
    (-1000000 ≤ s.ptpOffset t port origin ∧ s.ptpOffset t port origin < -1000
      ∨ 1000 < s.ptpOffset t port origin ∧ s.ptpOffset t port origin ≤ 1000000) →
    Completes (.ptpEventMessage t port .sync (origin, 0) (gmId, gmClass) []) s fun u =>
      u.rdW TIM_SERVO = BitVec.ofNat 32 (ofSigned 32 (s.ptpOffset t port origin))
        ∧ u.tim.gmId = gmId ∧ u.tim.gmClass = gmClass ∧ u.tim.lastServo = u.dom ∧ u.tim.lockCount = 0 ∧ u.synch = s.synch
        ∧ ∀ a, a ≠ TIM_SERVO → u.rdW a = s.rdW a) ∧
  (∀ t port origin gmId gmClass s, s.clockPort port = true → s.sys.advent = none →
    -1000 ≤ s.ptpOffset t port origin → s.ptpOffset t port origin ≤ 1000 → s.tim.lockGm = gmId + 1 → s.tim.lockCount = 15 →
    s.rdB TIM_STAT TIM_STAT_REF_OK = true → s.rdB TIM_STAT TIM_STAT_HOLDOVER = false →
    Completes (.ptpEventMessage t port .sync (origin, 0) (gmId, gmClass) []) s fun u =>
      u.synch = (if gmClass = 6 ∨ gmClass = 7 then 2 else 1) ∧ u.tim.gmId = gmId ∧ u.tim.gmClass = gmClass ∧ u.tim.lockCount = 16
        ∧ SameWords [TIM_SERVO, TIM_STAT] s u) ∧
  (∀ t port origin gmId gmClass s, s.clockPort port = true → s.sys.advent = none →
    (s.ptpOffset t port origin < -1000000 ∨ 1000000 < s.ptpOffset t port origin) →
    Completes (.ptpEventMessage t port .sync (origin, 0) (gmId, gmClass) []) s fun u =>
      u.synch = 0 ∧ u.rdB TIM_STAT TIM_STAT_HOLDOVER = false) ∧
  (∀ t port t2 t3 s, s.ptpOn port = true → s.sys.advent = none → Completes (.ptpEventMessage t port .pdelayResp (t2, t3) (0, 0) []) s fun u =>
    (u.ptpPort port).delay = (((s.advance t).rxStamp port - ((s.ptpPort port).tx : Int)) - ((t3 : Int) - (t2 : Int))) / 2
      ∧ (∀ q, q ≠ port → u.ptpPort q = s.ptpPort q) ∧ u = { s with now := u.now, tim := { s.tim with ptp := u.tim.ptp } }) ∧
  (∀ t gmClass s, s.synch = 2 → gmClass ≠ 6 → gmClass ≠ 7 → s.sys.advent = none → Completes (.clockclassChange t gmClass) s fun u =>
    u.synch = 1 ∧ u.tim = { s.tim with gmClass := gmClass, synchHist := (u.now, 1) :: s.tim.synchHist, ppsOut := u.tim.ppsOut }
      ∧ OnlyEvents [TIM_STAT] [] { s with tim := u.tim } u) ∧
  (∀ t gmClass s, s.synch = 1 → (gmClass = 6 ∨ gmClass = 7) → s.rdB TIM_STAT TIM_STAT_REF_OK = true → s.sys.advent = none → 
    Completes (.clockclassChange t gmClass) s fun u => u.synch = 2 ∧ OnlyEvents [TIM_STAT] [] { s with tim := u.tim } u) ∧
  (∀ t s, s.synch = 0 → s.rdB TIM_STAT TIM_STAT_REF_OK = true → s.sys.advent = none → Completes (.becomeGrandmaster t) s fun u =>
    u.synch = 1 ∧ u.tim.gmClass = 248 ∧ OnlyEvents [TIM_STAT] [] { s with tim := u.tim } u) ∧
  (∀ t s, s.rdB TIM_STAT TIM_STAT_REF_OK = true → Completes (.refclkLost t) s fun u =>
    u.synch = 0 ∧ u.rdB TIM_STAT TIM_STAT_REF_OK = false ∧ u.rdB TIM_STAT TIM_STAT_HOLDOVER = false ∧ u.tim.holdoverFrom = none
      ∧ OnlyEvents [TIM_STAT] [] { s with tim := u.tim } u) ∧
  (∀ t s, s.rdB TIM_STAT TIM_STAT_REF_OK = false → Completes (.refclkRestored t) s fun u =>
    u.rdB TIM_STAT TIM_STAT_REF_OK = true ∧ u.synch = s.synch ∧ OnlyEvents [TIM_STAT] [] s u) ∧
  (∀ t cause s, s.synch ≠ 0 → s.rdB TIM_STAT TIM_STAT_HOLDOVER = false → (s.advance t).sourceSilent cause = true →
    Completes (.holdoverEntry t cause) s fun u =>
    u.rdB TIM_STAT TIM_STAT_HOLDOVER = true ∧ u.synch = s.synch ∧ u.tim = { s.tim with holdoverFrom := some u.now, lockCount := 0 }
      ∧ OnlyEvents [TIM_STAT] [] { s with tim := u.tim } u) ∧
  (∀ t h s, s.tim.holdoverFrom = some h → h + s.holdLimit * 1000000000 ≤ max s.now t → Completes (.holdoverLimit t) s fun u =>
    u.synch = 0 ∧ u.rdB TIM_STAT TIM_STAT_HOLDOVER = false ∧ u.tim.holdoverFrom = none
      ∧ OnlyEvents [TIM_STAT] [] { s with tim := u.tim } u) ∧
  (∀ t h s, s.tim.holdoverFrom = some h → max s.now t < h + s.holdLimit * 1000000000 → Completes (.holdoverLimit t) s fun u =>
    u = { s with now := u.now })

/-! ### Ports, pairs and rings (R55 to R75, R77 to R93) -/

/-- The fields of PRT_PORT_CFG and of PRT_LRE_CFG, of the ring configurations and of PRT_TWIN_CFG. -/
def Sys2Proof.Machine.portCfgFields : List Fld :=
  [PRT_PORT_CFG_LOOPBACK, PRT_PORT_CFG_PFC_OBEY, PRT_PORT_CFG_PAUSE_OBEY, PRT_PORT_CFG_PREEMPT_EN, PRT_PORT_CFG_LONG, PRT_PORT_CFG_AN_EN,
   PRT_PORT_CFG_FEC, PRT_PORT_CFG_MODE, PRT_PORT_CFG_EN]

def Sys2Proof.Machine.lreCfgFields : List Fld := [PRT_LRE_CFG_DUP_AGE, PRT_LRE_CFG_SUP_LSB, PRT_LRE_CFG_REDBOX, PRT_LRE_CFG_MODE]

/-- A port's configuration is taken whole or refused whole (R55, R57); a pair's mode needs both its ports enabled in one mode
(R77); clearing EN takes the link down, and a link comes up only on an enabled port (R58).
Where a clause rests on the model's own choices: log entries 14, 23. -/
def Obligations.PortConfiguration : Prop :=
  (∀ t n v s, s.portPresent n = true → modeOk n (fget PRT_PORT_CFG_MODE v) (fget PRT_PORT_CFG_FEC v) = true →
    (s.rdB (PRT_PORT_CFG n) PRT_PORT_CFG_EN = true →
      fget PRT_PORT_CFG_MODE v = s.rd (PRT_PORT_CFG n) PRT_PORT_CFG_MODE ∧ fget PRT_PORT_CFG_FEC v = s.rd (PRT_PORT_CFG n) PRT_PORT_CFG_FEC) →
    Completes (.portConfigWrite t n v) s fun u =>
      (∀ f ∈ portCfgFields, u.rd (PRT_PORT_CFG n) f = fget f v) ∧ (fget PRT_PORT_CFG_EN v = 0 → u.linkUp n = false)) ∧
  (∀ t n v s, s.portPresent n = true → modeOk n (fget PRT_PORT_CFG_MODE v) (fget PRT_PORT_CFG_FEC v) = false →
    Completes (.portConfigWrite t n v) s fun u =>
      u.rdB (PRT_PORT_STAT n) PRT_PORT_STAT_CFG_REJ = true ∧ OnlyWords [PRT_PORT_STAT n] s u) ∧
  (∀ t n v s, s.portPresent n = true → s.rdB (PRT_PORT_CFG n) PRT_PORT_CFG_EN = true →
    fget PRT_PORT_CFG_MODE v ≠ s.rd (PRT_PORT_CFG n) PRT_PORT_CFG_MODE → Completes (.portConfigWrite t n v) s fun u =>
      u.rdB (PRT_PORT_STAT n) PRT_PORT_STAT_CFG_REJ = true ∧ OnlyWords [PRT_PORT_STAT n] s u) ∧
  (∀ t p v s, s.pairPresent p = true → 10 ≤ fget PRT_LRE_CFG_DUP_AGE v → fget PRT_LRE_CFG_DUP_AGE v ≤ 10000 → fget PRT_LRE_CFG_MODE v ≠ 3 →
    (fget PRT_LRE_CFG_MODE v = 0 ∨ (s.rdB (PRT_PORT_CFG (2 * p)) PRT_PORT_CFG_EN = true ∧ s.rdB (PRT_PORT_CFG (2 * p + 1)) PRT_PORT_CFG_EN = true
      ∧ s.rd (PRT_PORT_CFG (2 * p)) PRT_PORT_CFG_MODE = s.rd (PRT_PORT_CFG (2 * p + 1)) PRT_PORT_CFG_MODE)) →
    Completes (.lreConfigWrite t p v) s fun u =>
      (∀ f ∈ lreCfgFields, u.rd (PRT_LRE_CFG p) f = fget f v) ∧ OnlyWords [PRT_LRE_CFG p] s u) ∧
  (∀ t p v s, s.pairPresent p = true → fget PRT_LRE_CFG_MODE v ≠ 0 → s.rdB (PRT_PORT_CFG (2 * p)) PRT_PORT_CFG_EN = false →
    Completes (.lreConfigWrite t p v) s fun u =>
      u.rdB (PRT_PORT_STAT (2 * p)) PRT_PORT_STAT_CFG_REJ = true ∧ OnlyWords [PRT_PORT_STAT (2 * p)] s u) ∧
  (∀ t n speed an fec s, s.portPresent n = true → s.rdB (PRT_PORT_CFG n) PRT_PORT_CFG_EN = true → speed < 4 →
    Completes (.linkUp t n speed an fec) s fun u =>
      u.linkUp n = true ∧ u.rd (PRT_PORT_STAT n) PRT_PORT_STAT_SPEED = speed ∧ OnlyEvents [PRT_PORT_STAT n] [] { s with prt := u.prt } u) ∧
  (∀ t n s, s.portPresent n = true → Completes (.linkDown t n) s fun u =>
    u.linkUp n = false ∧ (s.linkUp n = true → u.rd (PRT_PORT_STAT n) PRT_PORT_STAT_PAUSED = 0))

/-- A frame at a port (R64 to R66, R70, R71): the classes of size and FCS, each with its counter; a bad or short frame goes no
further, a MAC control frame is consumed, any other is offered to the fabric without its FCS.
Where a clause rests on the model's own choices: log entries 12, 23. -/
def Obligations.ReceivedFrames : Prop :=
  (∀ t n f s, s.portPresent n = true → s.linkUp n = true → f.fragBad = true → Completes (.frameReceive t n f) s fun u =>
    u.count (cntPRT_RX_FRAG_ERR n) = (s.count (cntPRT_RX_FRAG_ERR n) + 1) % 2 ^ 64 ∧ u = { s with now := u.now, cnt := u.cnt }) ∧
  (∀ t n f s, s.portPresent n = true → s.linkUp n = true → f.fragBad = false → f.bytes.length ≤ 63 →
    Completes (.frameReceive t n f) s fun u =>
      u.count (cntPRT_RX_RUNT n) = (s.count (cntPRT_RX_RUNT n) + 1) % 2 ^ 64 ∧ u = { s with now := u.now, cnt := u.cnt }) ∧
  (∀ t n f s, s.portPresent n = true → s.linkUp n = true → f.fragBad = false → 63 < f.bytes.length → f.bytes.length ≤ s.maxFrame n →
    f.cut = false → f.bytes.drop (f.bytes.length - 4) = fcsOf (f.bytes.take (f.bytes.length - 4)) →
    macControlOp (f.bytes.take (f.bytes.length - 4)) = none →
    exec (.frameReceive t n f) s = .next (s.after t fun m =>
      ((m.bump (cntPRT_RX_OCTETS n) f.bytes.length).bump (cntPRT_RX_FRAMES n) 1).offer n
        { bytes := f.bytes.take (f.bytes.length - 4), arrival := f.arrival, wire := f.bytes.length,
          counted := [(cntPRT_RX_OCTETS n, f.bytes.length), (cntPRT_RX_FRAMES n, 1)] })) ∧
  (∀ t n f s, s.portPresent n = true → s.linkUp n = true → f.fragBad = false → 63 < f.bytes.length → f.bytes.length ≤ s.maxFrame n →
    f.cut = false → f.bytes.drop (f.bytes.length - 4) ≠ fcsOf (f.bytes.take (f.bytes.length - 4)) →
    f.bytes.drop (f.bytes.length - 4) ≠ complement (fcsOf (f.bytes.take (f.bytes.length - 4))) →
    exec (.frameReceive t n f) s = .next (s.after t fun m => (m.bump (cntPRT_RX_FCS_ERR n) 1).offer n
      { bytes := (f.bytes.take (min f.bytes.length (s.maxFrame n))).take (min f.bytes.length (s.maxFrame n) - 4), arrival := f.arrival, end_ := 1,
        stomp := min f.bytes.length (s.maxFrame n), wire := f.bytes.length, counted := [(cntPRT_RX_FCS_ERR n, 1)] }))

/-- Pause (R71 to R73): a class named by an obeyed frame pauses for its quanta, runs out of them, is broken by the watchdog, and
recovers. Preemption is verified in three tries (R69); duplicate entries age (R81).
Where a clause rests on the model's own choices: log entry 23. -/
def Obligations.PauseVerifyAgeing : Prop :=
  (∀ t n enable quanta s, s.portPresent n = true → s.linkUp n = true → s.rdB (PRT_PORT_CFG n) PRT_PORT_CFG_PFC_OBEY = false →
    Completes (.pauseFrame t n true enable quanta) s fun u =>
      u.count (cntPRT_RX_PAUSE n) = (s.count (cntPRT_RX_PAUSE n) + 1) % 2 ^ 64 ∧ u = { s with now := u.now, cnt := u.cnt }) ∧
  (∀ t n c quanta s, s.portPresent n = true → s.linkUp n = true → s.rdB (PRT_PORT_CFG n) PRT_PORT_CFG_PFC_OBEY = true → c < 8 →
    s.inRelease n c = false → s.quantaNs n (quanta.getD c 0) ≠ 0 → Completes (.pauseFrame t n true (2 ^ c) quanta) s fun u =>
      (u.rd (PRT_PORT_STAT n) PRT_PORT_STAT_PAUSED).testBit c = true ∧ (u.pauseOf n c).until_ = u.now + s.quantaNs n (quanta.getD c 0)
        ∧ ∀ a, a ≠ PRT_PORT_STAT n → u.rdW a = s.rdW a) ∧
  (∀ t n s, s.portPresent n = true → Completes (.pauseQuantaExpiry t n) s fun u =>
    ∀ c, c < 8 → (u.rd (PRT_PORT_STAT n) PRT_PORT_STAT_PAUSED).testBit c
      = ((s.rd (PRT_PORT_STAT n) PRT_PORT_STAT_PAUSED).testBit c && decide (u.now < (s.pauseOf n c).until_))) ∧
  (∀ t n s, s.portPresent n = true → (s.advance t).overLimit n = [] → Completes (.pauseWatchdog t n) s fun u => u = { s with now := u.now }) ∧
  (∀ t n c s, s.portPresent n = true → (s.advance t).overLimit n = [c] → Completes (.pauseWatchdog t n) s fun u =>
    (u.rd (PRT_PORT_STAT n) PRT_PORT_STAT_PAUSED).testBit c = false ∧ u.inRelease n c = true
      ∧ (u.pauseOf n c).release = u.now + s.wdRelease n ∧ u.count (cntPRT_PAUSE_BROKEN n) = (s.count (cntPRT_PAUSE_BROKEN n) + 1) % 2 ^ 64) ∧
  (∀ t n s, s.portPresent n = true → Completes (.releasePeriodEnd t n) s fun u =>
    ∀ c, c < 8 → u.inRelease n c = (s.inRelease n c && decide (u.now < (s.pauseOf n c).release))) ∧
  (∀ t n s, s.portPresent n = true → s.linkUp n = true → s.preemptEn n = true → s.rdB (PRT_PREEMPT n) PRT_PREEMPT_VERIFY_DIS = false →
    s.rdB (PRT_PORT_STAT n) PRT_PORT_STAT_PREEMPT_ACTIVE = false → (s.port n).verifies < 3 →
    ((s.port n).verifies = 0 ∨ (s.port n).verifyAt + s.rd (PRT_PREEMPT n) PRT_PREEMPT_VERIFY_TIME * 1000000 ≤ max s.now t) →
    Completes (.preemptVerify t n) s fun u =>
      u.wire = s.wire ++ [.macControl n smdVerify] ∧ (u.port n).verifyAt = u.now ∧ (u.port n).verifies = (s.port n).verifies + 1
        ∧ u = { s with now := u.now, wire := u.wire, prt := u.prt }) ∧
  (∀ t n s, s.portPresent n = true → s.linkUp n = true → s.preemptEn n = true → s.rdB (PRT_PREEMPT n) PRT_PREEMPT_VERIFY_DIS = false →
    s.rdB (PRT_PORT_STAT n) PRT_PORT_STAT_PREEMPT_ACTIVE = false → (s.port n).verifies = 3 →
    (s.port n).verifyAt + s.rd (PRT_PREEMPT n) PRT_PREEMPT_VERIFY_TIME * 1000000 ≤ max s.now t → Completes (.preemptVerify t n) s fun u =>
      (u.port n).verifies = 4 ∧ u.wire = s.wire ∧ OnlyEvents [] [] { s with prt := u.prt } u) ∧
  (∀ t n s, s.portPresent n = true → s.linkUp n = true → s.preemptEn n = true → 1 ≤ (s.port n).verifies → (s.port n).verifies ≤ 3 →
    Completes (.verifyResponse t ⟨n, false⟩) s fun u =>
      u.rdB (PRT_PORT_STAT n) PRT_PORT_STAT_PREEMPT_ACTIVE = true ∧ OnlyWords [PRT_PORT_STAT n] s u) ∧
  (∀ t n s, n < 28 → s.portPresent n = true → s.linkUp n = true → Completes (.verifyResponse t ⟨n, true⟩) s fun u =>
    u = { s with now := u.now, wire := s.wire ++ [.macControl n smdRespond] }) ∧
  (∀ t s, Completes (.dupEntryAgeing t) s fun u =>
    (∀ e, e ∈ u.prt.dup ↔ e ∈ s.prt.dup ∧ u.now < e.last + s.rd (PRT_LRE_CFG e.pair) PRT_LRE_CFG_DUP_AGE * 1000000)
      ∧ u = { s with now := u.now, prt := u.prt })

/-- The twin link (R60): its states in order, each reached only from the one before; loss of block lock or of EN takes it down. -/
def Obligations.TwinLinkStates : Prop :=
  (∀ t v s, s.twinPresent = true → fget PRT_TWIN_CFG_EN v = 1 → Completes (.twinLinkEnable t v) s fun u =>
    u.rdB PRT_TWIN_CFG PRT_TWIN_CFG_EN = true ∧ u.rd PRT_TWIN_CFG PRT_TWIN_CFG_RX_POL = fget PRT_TWIN_CFG_RX_POL v
      ∧ u.rd PRT_TWIN_CFG PRT_TWIN_CFG_TX_POL = fget PRT_TWIN_CFG_TX_POL v
      ∧ u.twinState = (if s.twinState = 0 ∧ s.rd PRT_TWIN_STAT PRT_TWIN_STAT_LANE_LOCK = 15 then 1 else s.twinState)
      ∧ OnlyWords [PRT_TWIN_CFG, PRT_TWIN_STAT] s u) ∧
  (∀ t s, s.twinPresent = true → s.rdB PRT_TWIN_CFG PRT_TWIN_CFG_EN = true → s.twinState = 0 → Completes (.twinBlockLock t 15) s fun u =>
    u.twinState = 1 ∧ u.rd PRT_TWIN_STAT PRT_TWIN_STAT_LANE_LOCK = 15 ∧ ∀ a, a ≠ PRT_TWIN_STAT → ¬ eventWord a → u.rdW a = s.rdW a) ∧
  (∀ t lanes s, s.twinPresent = true → lanes < 15 → s.twinState = 0 → Completes (.twinBlockLock t lanes) s fun u =>
    u.twinState = 0 ∧ u.rd PRT_TWIN_STAT PRT_TWIN_STAT_LANE_LOCK = lanes) ∧
  (∀ t map skew s, s.twinPresent = true → s.twinState = 1 → skew ≤ 50 → Completes (.twinAligned t map skew) s fun u =>
    u.twinState = 2 ∧ u.rd PRT_TWIN_STAT PRT_TWIN_STAT_SKEW = skew) ∧
  (∀ t map skew s, s.twinState ≠ 1 → Completes (.twinAligned t map skew) s fun u => u = { s with now := u.now }) ∧
  (∀ t s, s.twinPresent = true → s.twinState = 2 → Completes (.twinUp t) s fun u => u.twinState = 3 ∧ u.prt.twin = {}) ∧
  (∀ t lanes s, s.twinPresent = true → exec (.twinDown t lanes) s = .next (s.after t fun m =>
    (m.wr PRT_TWIN_STAT PRT_TWIN_STAT_LANE_LOCK (lanes % 16)).twinLost)) ∧
  (∀ t lanes s, s.twinPresent = true → s.twinState = 1 ∨ s.twinState = 2 → Completes (.twinDown t lanes) s fun u =>
    u.twinState = 0 ∧ u.rd PRT_TWIN_STAT PRT_TWIN_STAT_LANE_LOCK = lanes % 16 ∧ u.prt.twin = {}
      ∧ OnlyEvents [PRT_TWIN_STAT] [] { s with prt := u.prt } u) ∧
  (∀ t lanes s, s.twinPresent = true → s.twinState = 3 → s.dpx.copy = none → s.out.holding = false →
    Completes (.twinDown t lanes) s fun u =>
      u.twinState = 0 ∧ u.rd PRT_TWIN_STAT PRT_TWIN_STAT_LANE_LOCK = lanes % 16 ∧ u.prt.twin = {}
        ∧ u.rdB DPX_STAT DPX_STAT_DUPLEX = false ∧ u.dpx.xfer = none ∧ u.dpx.acks = [] ∧ u.dpx.rx = []
        ∧ OnlyEvents [PRT_TWIN_STAT, DPX_STAT] [] { s with prt := u.prt, dpx := u.dpx } u) ∧
  (∀ t f s, s.twinUp = true → f.crcOk = false → s.prt.twin.waiting = false → Completes (.crasenFrameReceive t f) s fun u =>
    u.wire = s.wire ++ [.crasenReplay s.prt.twin.rxNext] ∧ u.prt.twin = { s.prt.twin with waiting := true }
      ∧ u.count cntPRT_TWIN_CRC_ERR = (s.count cntPRT_TWIN_CRC_ERR + 1) % 2 ^ 64 ∧ u.dpx.twinErr = s.dpx.twinErr + f.blockErr + 1
      ∧ u = { s with now := u.now, wire := u.wire, cnt := u.cnt, prt := u.prt, dpx := u.dpx }) ∧
  (∀ t f s, s.twinUp = true → f.crcOk = true → f.kind = 2 → f.seq % 2 ^ 32 = s.prt.twin.rxNext → s.prt.twin.queue = [] →
    Completes (.crasenFrameReceive t f) s fun u =>
      u.wire = s.wire ++ [.crasenAck ((s.prt.twin.rxNext + 1) % 2 ^ 32)] ∧ u.prt.twin.rxNext = (s.prt.twin.rxNext + 1) % 2 ^ 32
        ∧ u.prt.twin.waiting = false ∧ u.prt.twin.replay = s.prt.twin.replay.filter (fun x => decide (0 < diff32 x.1 f.ack))
        ∧ u.count cntPRT_TWIN_RX_FRAMES = (s.count cntPRT_TWIN_RX_FRAMES + 1) % 2 ^ 64
        ∧ u.dpx.acks = s.dpx.acks ++ [(leAt f.payload 0 4, leAt f.payload 4 4, leAt f.payload 8 4, leAt f.payload 12 4)]
        ∧ u = { s with now := u.now, wire := u.wire, cnt := u.cnt, prt := u.prt, dpx := u.dpx }) ∧
  (∀ t f s m, (s.advance t).twinReceive f = (some (2, f.payload), m) → exec (.crasenFrameReceive t f) s = .next (s.after t fun _ =>
    m.setDpx { m.dpx with acks := m.dpx.acks ++ [(leAt f.payload 0 4, leAt f.payload 4 4, leAt f.payload 8 4, leAt f.payload 12 4)] }))

/-- Rings (R85 to R93): TAIL is what its write says; a disabled ring's indices return to 0; a configuration out of range is refused.
Where a clause rests on the model's own choices: log entry 14. -/
def Obligations.RingRegisters : Prop :=
  (∀ t r x s, r < 1024 → x < 65536 → Completes (.rxTailWrite t r x) s fun u =>
    u.rd (PRT_RXR_TAIL r) PRT_RXR_TAIL_INDEX = x ∧ OnlyWords [PRT_RXR_TAIL r] s u) ∧
  (∀ t r x s, r < 1024 → x < 65536 → Completes (.txTailWrite t r x) s fun u =>
    u.rd (PRT_TXR_TAIL r) PRT_TXR_TAIL_INDEX = x ∧ OnlyWords [PRT_TXR_TAIL r] s u) ∧
  (∀ t r v s, r < 1024 → 4 ≤ fget PRT_RXR_CFG_SIZE_LOG2 v → fget PRT_RXR_CFG_SIZE_LOG2 v ≤ 16 → 1 ≤ fget PRT_RXR_CFG_BUF_SIZE v →
    fget PRT_RXR_CFG_BUF_SIZE v ≤ 64 → fget PRT_RXR_CFG_EN v = 0 → s.prt.rxLast = none → Completes (.rxRingDisable t r v) s fun u =>
      u.rdB (PRT_RXR_CFG r) PRT_RXR_CFG_EN = false ∧ u.rd (PRT_RXR_CFG r) PRT_RXR_CFG_SIZE_LOG2 = fget PRT_RXR_CFG_SIZE_LOG2 v
        ∧ u.rd (PRT_RXR_HEAD r) PRT_RXR_HEAD_INDEX = 0 ∧ u.rd (PRT_RXR_TAIL r) PRT_RXR_TAIL_INDEX = 0
        ∧ OnlyWords [PRT_RXR_CFG r, PRT_RXR_HEAD r, PRT_RXR_TAIL r] s u) ∧
  (∀ t r v s, r < 1024 → 4 ≤ fget PRT_TXR_CFG_SIZE_LOG2 v → fget PRT_TXR_CFG_SIZE_LOG2 v ≤ 16 → fget PRT_TXR_CFG_EN v = 0 →
    Completes (.txRingDisable t r v) s fun u =>
      u.rdB (PRT_TXR_CFG r) PRT_TXR_CFG_EN = false ∧ u.rd (PRT_TXR_HEAD r) PRT_TXR_HEAD_INDEX = 0 ∧ u.rd (PRT_TXR_TAIL r) PRT_TXR_TAIL_INDEX = 0
        ∧ OnlyWords [PRT_TXR_CFG r, PRT_TXR_HEAD r, PRT_TXR_TAIL r] s u) ∧
  (∀ t r v s, r < 1024 → fget PRT_TXR_CFG_SIZE_LOG2 v < 4 → Completes (.txRingDisable t r v) s fun u =>
    u.rdB (PRT_PORT_STAT 0) PRT_PORT_STAT_CFG_REJ = true ∧ OnlyWords [PRT_PORT_STAT 0] s u) ∧
  (∀ t s, Completes (.txServiceResume t) s fun u =>
    (∀ p, p ∈ u.prt.txPaused ↔ p ∈ s.prt.txPaused ∧ s.ingressFull p = true) ∧ u = { s with now := u.now, prt := u.prt }) ∧
  (∀ t r ds s, s.prt.txPaused = [] → s.ingressFull 30 = false → s.ingressFull 31 = false → s.txRings = [r] → s.txNext r = some ds →
    exec (.txRingService t) s = .next (s.after t fun m =>
      State.serveRing { m with prt := { m.prt with txPaused := [], txRing := r } } r ds)) ∧
  (∀ t r ds b s, s.prt.txPaused = [] → s.ingressFull 30 = false → s.ingressFull 31 = false → s.txRings = [r] → s.txNext r = some ds →
    (s.txCheck r ds).toOption = some [b] → ringPort r = 31 → s.rd (PRT_TXR_CFG r) PRT_TXR_CFG_SIZE_LOG2 ≤ 16 →
    (s.le (ds.headD 0 + 10) 1).testBit 5 = false → Completes (.txRingService t) s fun u =>
      u.stagedAt 31 = s.stagedAt 31 ++ [{ bytes := b, arrival := 0, cls := some (s.le (ds.headD 0 + 11) 1), fixed := if s.le (ds.headD 0 + 15) 1 = 0xFF then none else some [s.fabPort (s.le (ds.headD 0 + 15) 1)], whole := true }]
        ∧ u.rd (PRT_TXR_HEAD r) PRT_TXR_HEAD_INDEX = (s.rd (PRT_TXR_HEAD r) PRT_TXR_HEAD_INDEX + ds.length)
          % 2 ^ s.rd (PRT_TXR_CFG r) PRT_TXR_CFG_SIZE_LOG2
        ∧ u.prt.txRing = r ∧ (∀ a, a ≠ PRT_TXR_HEAD r → u.rdW a = s.rdW a))

/-! ### Fabric (R94 to R127) -/

/-- A forwarding command is accepted unless one is in progress, and runs to its end with its RESULT (R127). Learnt entries age once
a second, static ones do not; an entry at the limit is freed (R109).
Where a clause rests on the model's own choices: log entry 25. -/
def Obligations.ForwardingDatabase : Prop :=
  (∀ t k s, s.rdB FAB_FDB_CMD FAB_FDB_CMD_BUSY = false → k < 65536 → Completes (.fdbRead t k) s fun u =>
    u.rdB FAB_FDB_CMD FAB_FDB_CMD_BUSY = true ∧ u.fab.fdbOp = some { op := 1, index := k, port := 0 }
      ∧ u.fab.fdb = s.fab.fdb ∧ OnlyWords [FAB_FDB_CMD] { s with fab := u.fab } u) ∧
  (∀ t s, s.rdB FAB_FDB_CMD FAB_FDB_CMD_BUSY = false → Completes (.fdbWrite t) s fun u =>
    u.rdB FAB_FDB_CMD FAB_FDB_CMD_BUSY = true ∧ u.fab.fdbOp = some { op := 2, index := 0, port := 0 }
      ∧ OnlyWords [FAB_FDB_CMD] { s with fab := u.fab } u) ∧
  (∀ t s, s.rdB FAB_FDB_CMD FAB_FDB_CMD_BUSY = false → Completes (.fdbDelete t) s fun u =>
    u.rdB FAB_FDB_CMD FAB_FDB_CMD_BUSY = true ∧ u.fab.fdbOp = some { op := 3, index := 0, port := 0 }
      ∧ OnlyWords [FAB_FDB_CMD] { s with fab := u.fab } u) ∧
  (∀ t p s, s.rdB FAB_FDB_CMD FAB_FDB_CMD_BUSY = false → p < 32 → Completes (.fdbFlush t p) s fun u =>
    u.rdB FAB_FDB_CMD FAB_FDB_CMD_BUSY = true ∧ u.fab.fdbOp = some { op := 4, index := 0, port := p }
      ∧ OnlyWords [FAB_FDB_CMD] { s with fab := u.fab } u) ∧
  (∀ t s, s.rdB FAB_FDB_CMD FAB_FDB_CMD_BUSY = false → Completes (.fdbSearch t) s fun u =>
    u.rdB FAB_FDB_CMD FAB_FDB_CMD_BUSY = true ∧ u.fab.fdbOp = some { op := 5, index := 0, port := 0 }
      ∧ OnlyWords [FAB_FDB_CMD] { s with fab := u.fab } u) ∧
  (∀ t k s, s.rdB FAB_FDB_CMD FAB_FDB_CMD_BUSY = true → Completes (.fdbRead t k) s fun u => u = { s with now := u.now }) ∧
  (∀ t o s, s.fab.fdbOp = some o → Completes (.fdbCommandComplete t) s fun u =>
    u.rdB FAB_FDB_CMD FAB_FDB_CMD_BUSY = false ∧ u.fab.fdbOp = none ∧
      (o.op = 4 → u.rd FAB_FDB_CMD FAB_FDB_CMD_RESULT = 0 ∧ u.fab.fdb = s.fab.fdb.filter (fun c => !learntOn o.port c.2))) ∧
  ∀ t s, Completes (.fdbAgeing t) s fun u =>
    (∀ k e, (k, e) ∈ s.fab.fdb → e.valid = true → e.static = true → (k, e) ∈ u.fab.fdb) ∧
    (∀ k e, (k, e) ∈ u.fab.fdb → e.valid = true → e.static = false → s.rd FAB_FDB_AGE FAB_FDB_AGE_SECONDS ≠ 0 →
      e.age < s.rd FAB_FDB_AGE FAB_FDB_AGE_SECONDS) ∧
    (∀ k e, (k, e) ∈ s.fab.fdb → e.valid = true → e.static = false → e.age + 1 < s.rd FAB_FDB_AGE FAB_FDB_AGE_SECONDS →
      (k, { e with age := e.age + 1 }) ∈ u.fab.fdb) ∧
    u = { s with now := u.now, fab := { s.fab with fdb := u.fab.fdb } }

/-- The calendar (R99 to R106, R127): a day runs only while the fabric is enabled, and the day number counts it; the self-test
runs only while the calendar stands; a tag missing for 64 days is given up.
Where a clause rests on the model's own choices: log entries 25, 26. -/
def Obligations.CalendarRules : Prop :=
  (∀ t bad loopBad s, s.rdB FAB_CTRL FAB_CTRL_EN = false → Completes (.calendarDay t bad loopBad) s fun u => u = { s with now := u.now }) ∧
  (∀ t bad loopBad s, s.rdB FAB_CTRL FAB_CTRL_EN = true → s.fab.days < 2 ^ 64 - 1 → Completes (.calendarDay t bad loopBad) s fun u =>
    u.fab.days = s.fab.days + 1) ∧
  (∀ t s, s.rdB FAB_CTRL FAB_CTRL_EN = false → Completes (.calendarSelfTest t none) s fun u =>
    u.rdB FAB_CAL_STAT FAB_CAL_STAT_DONE = true ∧ u.rdB FAB_CAL_STAT FAB_CAL_STAT_FAIL = false ∧ u.rdB FAB_STAT FAB_STAT_CAL_OK = true
      ∧ u.fab.selfTest = false ∧ OnlyWords [FAB_CAL_STAT, FAB_STAT] { s with fab := u.fab } u) ∧
  (∀ t p s, s.rdB FAB_CTRL FAB_CTRL_EN = false → p < 32 → Completes (.calendarSelfTest t (some p)) s fun u =>
    u.rdB FAB_CAL_STAT FAB_CAL_STAT_FAIL = true ∧ u.rd FAB_CAL_STAT FAB_CAL_STAT_FAIL_PORT = p ∧ u.rdB FAB_STAT FAB_STAT_CAL_OK = false
      ∧ u.fab.selfTest = false ∧ OnlyEvents [FAB_CAL_STAT, FAB_STAT] [] { s with fab := u.fab } u) ∧
  (∀ t f s, s.rdB FAB_CTRL FAB_CTRL_EN = true → Completes (.calendarSelfTest t f) s fun u => u = { s with now := u.now }) ∧
  (∀ t src dst h s, s.fab.reseq = [h] → h.1.src = src → h.1.dst = dst → h.1.seq ≠ cget (fun _ => 0) s.fab.seqWant (seriesKey src dst) →
    h.2 + 64 ≤ s.fab.days → s.fab.lostTags = [] → dst < 32 → Completes (.lostTag t src dst) s fun u =>
      u.count (cntFAB_RSQ_ERR dst) = (s.count (cntFAB_RSQ_ERR dst) + 1) % 2 ^ 64)

/-- Cells and copies (R95, R110 to R115, R558): the header cell of a frame is looked up, later cells are stored; a port selects a
frame; a copy that has no END yet goes on; a frame whose copy ended is charged and dealt with.
Where a clause rests on the model's own choices: log entries 12, 25. -/
def Obligations.CellsAndCopies : Prop :=
  (∀ t n s, s.stagedAt n = [] → Completes (.cellWrite t n) s fun u => u = { s with now := u.now }) ∧
  (∀ t n x l s, s.stagedAt n = x :: l → x.frame = none → exec (.cellWrite t n) s = .next (s.after t fun m =>
    m.headerCell n (if n < 28 then s.fabPort n else n) x)) ∧
  (∀ t n x l k s, s.stagedAt n = x :: l → x.frame = some k → exec (.cellWrite t n) s = .next (s.after t fun m => m.nextCell n x k)) ∧
  (∀ t n x l k f c s, s.stagedAt n = x :: l → x.frame = some k → s.frame? k = some f → f.copies = [c] → s.admitCell f.src f.cls = 0 →
    x.cells + 1 < cellsOf x.bytes.length → Completes (.cellWrite t n) s fun u =>
      u.stagedAt n = { x with cells := x.cells + 1 } :: l
        ∧ u.count (cntFAB_ING_CELLS f.src) = (s.count (cntFAB_ING_CELLS f.src) + 1) % 2 ^ 64
        ∧ (∃ g, u.frame? k = some g ∧ g.bytes = f.bytes ++ (x.bytes.drop (64 * x.cells)).take 64 ∧ g.written = f.written ++ [s.fab.days])
        ∧ (∃ g, u.fab.inputs = s.fab.inputs ++ [g] ∧ g.frame = k ∧ g.src = f.src ∧ g.dst = c.dst ∧ g.cidx = f.written.length ∧ g.last = false)
        ∧ SameWords [FAB_FREE, FAB_ING_USE f.src, FAB_EG_USE c.dst f.cls] s u ∧ SameMemory s u) ∧
  (∀ t n s, n = 28 ∨ n = 30 ∨ n = 31 → exec (.egressSelect t n) s = .next (s.after t fun m =>
    State.selectDeliver n (s.fab.frames.length + 1) m)) ∧
  (∀ t n s, n < 28 → s.portPresent n = true → exec (.egressSelect t n) s = .next (s.after t fun m =>
    State.selectTx (s.fabPort n) n (s.fab.frames.length + 1) m)) ∧
  (∀ t n q s, n < 28 → s.portPresent n = true → (s.advance t).eligible (s.fabPort n) n 7 = some q → s.txAt n = [] →
    (s.advance t).aged q.frame = false → s.linkUp n = true → s.rdB (PRT_PORT_CFG n) PRT_PORT_CFG_EN = true →
    (q.frame.complete = true → (egressBytes s q.frame q.copy n).length + 4 ≤ s.maxFrame n) → Completes (.egressSelect t n) s fun u =>
      u.txAt n = [{ frame := q.frame.num, dst := s.fabPort n, express := decide (6 ≤ q.frame.cls), startAt := u.now, ctCounted := q.copy.ct && !q.frame.complete && q.copy.sending.isEmpty && !q.copy.sent }] ∧ u.wire = s.wire) ∧
  (∀ t n x l f c s, s.txAt n = x :: l → s.frame? x.frame = some f → f.copies.find? (fun c => c.dst == x.dst) = some c → endKnown f c = false →
    (egressBytes s f c n).length + 4 ≤ s.maxFrame n → Completes (.copyEnd t n) s fun u => u = { s with now := u.now }) ∧
  (∀ t n x l f c s, s.txAt n = x :: l → s.frame? x.frame = some f → f.copies.find? (fun c => c.dst == x.dst) = some c → endKnown f c = true →
    f.end_ = 0 → (egressBytes s f c n).length + 4 ≤ s.maxFrame n →
    exec (.copyEnd t n) s = .next (s.after t fun m =>
      State.dealt (((m.offLine n x.frame).sendFrame n (egressBytes m f c n) false).charge x.dst n f.cls ((egressBytes m f c n).length + 4))
        f.num c n true)) ∧
  (∀ t n x l f c s, s.txAt n = x :: l → s.frame? x.frame = some f → f.copies.find? (fun c => c.dst == x.dst) = some c → endKnown f c = true →
    f.end_ = 0 → (egressBytes s f c n).length + 4 ≤ s.maxFrame n → s.rdB (PRT_PORT_CFG n) PRT_PORT_CFG_LOOPBACK = false →
    Completes (.copyEnd t n) s fun u =>
      u.wire = s.wire ++ [.frame n (egressBytes s f c n) false]
        ∧ u.count (cntPRT_TX_FRAMES n) = (s.count (cntPRT_TX_FRAMES n) + 1) % 2 ^ 64
        ∧ u.count (cntPRT_TX_OCTETS n) = (s.count (cntPRT_TX_OCTETS n) + (egressBytes s f c n).length + 4) % 2 ^ 64
        ∧ (u.txAt n).all (fun y => y.frame != x.frame) = true ∧ SameMemory s u)

/-! ### Ingest (R128 to R169) -/

/-- The bank flip (R147, R148, R168): staged for a boundary, rejected, or withdrawn before its cut-off; a copy of the banks is
refused while a flip is pending. -/
def Obligations.StreamBankRules : Prop :=
  (∀ t s, s.ing.flip = none → (s.advance t).flipRejected = false → Completes (.ingFlip t) s fun u =>
    u.rdB ING_STAT ING_STAT_FLIP_PENDING = true ∧ u.ing.flip = some { val := 1 - s.ingActive, eff := u.stageAt } ∧ u.ingActive = s.ingActive
      ∧ OnlyWords [ING_STAT] { s with ing := u.ing } u) ∧
  (∀ t s, s.ing.flip = none → (s.advance t).flipRejected = true → Completes (.ingFlip t) s fun u =>
    u.rdB ING_STAT ING_STAT_FLIP_REJ = true ∧ u.ing.flip = none ∧ u.ingActive = s.ingActive ∧ OnlyEvents [ING_STAT] [] s u) ∧
  (∀ t x s, s.ing.flip = some x → s.gridOn = false → Completes (.ingCancel t) s fun u =>
    u.rdB ING_STAT ING_STAT_FLIP_PENDING = false ∧ u.ing.flip = none ∧ OnlyWords [ING_STAT] { s with ing := u.ing } u) ∧
  (∀ t x s, s.ing.flip = some x → s.gridOn = true → x.eff ≤ s.tim.nextRound → s.nextT ≤ (s.advance t).dom + 1000 →
    Completes (.ingCancel t) s fun u => u = { s with now := u.now }) ∧
  (∀ t s, s.ing.flip = none → s.rdB ING_STAT ING_STAT_COPY_BUSY = false → Completes (.ingCopy t) s fun u =>
    u.rdB ING_STAT ING_STAT_COPY_BUSY = true ∧ OnlyWords [ING_STAT] s u) ∧
  (∀ t s, s.ing.flip.isSome = true → Completes (.ingCopy t) s fun u => u = { s with now := u.now }) ∧
  (∀ t s, s.rdB ING_STAT ING_STAT_COPY_BUSY = true → Completes (.bankCopyComplete t) s fun u =>
    u.rdB ING_STAT ING_STAT_COPY_BUSY = false ∧ u.ingActive = s.ingActive ∧
      (cwf resetWord s.regs = true → ∀ i w, i < 262144 → (ING_STATIC s.ingActive i, w) ∈ s.regs →
        u.rdW (ING_STATIC (1 - s.ingActive) i) = w))

/-- The index of a sample in its stream (R40, R152). -/
def Sys2Proof.Machine.State.samplePlace (s : State) (e : StreamEnt) (x : WalkSample) (arrival : Nat) : Nat :=
  placeIndex (streamRate s.fs e.rate) x.cnt arrival

/-- Frames, strangers and GOOSE time-to-live (R131, R163, R167): a frame goes through ingest and triggers laws and recorders; a pop
takes the oldest stranger; a live GOOSE subscription past its deadline goes stale.
Where a clause rests on the model's own choices: log entry 27. -/
def Obligations.IngestEvents : Prop :=
  (∀ t f s, exec (.ingestFrame t (some f)) s = .next (s.after t fun m => m.ingestAll f m.ingActive)) ∧
  (∀ t b f l s, s.fab.inbox = (b, f) :: l → exec (.ingestFrame t none) s = .next (s.after t fun m =>
    State.ingestAll { m with fab := { m.fab with inbox := l } } f b)) ∧
  (∀ t f hd w h e x s, s.rdB ING_CTRL ING_CTRL_EN = true → (parseIng f).toOption = some hd → hd.goose = false →
    s.walkFrame hd s.ingActive = .finished w → w.hit = some (h, e) → w.f.getD 8 0 = 0 → e.policy = 0 → e.subCount = 0 → w.samples = [x] →
    x.cnt < streamRate s.fs e.rate → s.holdsReal h e (s.samplePlace e x f.arrival) = false → s.ringReaches e (s.samplePlace e x f.arrival) = true →
    (s.ingStream h).newest = none → s.dispatched (s.roundOf (sampleInstant (streamRate s.fs e.rate) (s.samplePlace e x f.arrival))) = false →
    s.laws = [] → Completes (.ingestFrame t (some f)) s fun u =>
      (u.ringPos h (s.samplePlace e x f.arrival % e.depth)).real = true
        ∧ (u.ringPos h (s.samplePlace e x f.arrival % e.depth)).idx = s.samplePlace e x f.arrival
        ∧ (u.ingStream h).newest = some (s.samplePlace e x f.arrival)
        ∧ u.count cntING_FRAMES_IN = (s.count cntING_FRAMES_IN + 1) % 2 ^ 64
        ∧ u.count cntING_SAMPLES_WRITTEN = (s.count cntING_SAMPLES_WRITTEN + 1) % 2 ^ 64) ∧
  (∀ t s, s.fab.inbox = [] → Completes (.ingestFrame t none) s fun u => u = { s with now := u.now }) ∧
  (∀ t s, s.ing.strangers.length ≤ 60 → Completes (.ingStrangerPop t) s fun u =>
    u.ing.strangers = s.ing.strangers.drop 1 ∧ u.rd ING_STAT ING_STAT_STRANGER_COUNT = (s.ing.strangers.drop 1).length
      ∧ u.rdB ING_STAT ING_STAT_STRANGER_AVAIL = ((s.ing.strangers.drop 1).length != 0) ∧ u.ingActive = s.ingActive) ∧
  (∀ t h s, h < 16384 → (s.stream s.ingActive h).type = 2 → (s.dynGet h 56 1).testBit 0 = true → (s.dynGet h 56 1).testBit 1 = false →
    (s.ingStream h).deadline < (s.advance t).dom → Completes (.talExpired t h) s fun u =>
      (u.dynGet h 56 1).testBit 1 = true ∧ u.wire = s.wire) ∧
  (∀ t h s, (s.stream s.ingActive h).type ≠ 2 → Completes (.talExpired t h) s fun u => u = { s with now := u.now })

/-! ### Acquisition (R170 to R193) -/

/-- Groups and channels (R175, R179, R185): an enabled group keeps HANDLE and PRESET; a coefficient commit is taken at once on a
disabled group and waits for the next base sample on an enabled one; SYNC resets every channel of the group.
Where a clause rests on the model's own choices: log entry 29. -/
def Obligations.AcquisitionSettings : Prop :=
  (∀ t g v s, s.acqPresent = true → g < 8 → s.groupOn g = false → fget ACQ_GRP_CFG_EN v = 0 → Completes (.groupEnable t g v) s fun u =>
    u.groupOn g = false ∧ u.rd (ACQ_GRP_CFG g) ACQ_GRP_CFG_HANDLE = fget ACQ_GRP_CFG_HANDLE v
      ∧ u.rd (ACQ_GRP_CFG g) ACQ_GRP_CFG_PRESET = fget ACQ_GRP_CFG_PRESET v ∧ OnlyWords [ACQ_GRP_CFG g, ACQ_GRP_STAT g] s u) ∧
  (∀ t g v s, s.acqPresent = true → g < 8 → s.groupOn g = true → fget ACQ_GRP_CFG_HANDLE v ≠ s.rd (ACQ_GRP_CFG g) ACQ_GRP_CFG_HANDLE →
    Completes (.groupEnable t g v) s fun u => u.rdB ACQ_STAT ACQ_STAT_CFG_REJ = true ∧ OnlyWords [ACQ_STAT] s u) ∧
  (∀ t g v s, s.acqPresent = true → g < 8 → s.groupOn g = false → fget ACQ_GRP_CFG_EN v = 1 →
    (s.advance t).groupOk g (fieldsOf [ACQ_GRP_CFG_HANDLE, ACQ_GRP_CFG_PRESET, ACQ_GRP_CFG_TEST, ACQ_GRP_CFG_EN] v) = true →
    Completes (.groupEnable t g v) s fun u => u.groupOn g = true ∧ (u.rd ACQ_STAT ACQ_STAT_RUNNING).testBit g = true) ∧
  (∀ t g s, s.acqPresent = true → g < 8 → s.groupOn g = false → Completes (.acqCommit t g) s fun u =>
    (∀ i, i < 4 → u.rdW (ACQ_GRP_FIRA g i) = s.rdW (ACQ_GRP_FIR g i)) ∧ u.rdB (ACQ_GRP_STAT g) ACQ_GRP_STAT_COMMIT_PENDING = false) ∧
  (∀ t g s, s.acqPresent = true → g < 8 → s.groupOn g = true → (∀ x ∈ s.acq.commits, x.1 ≠ g) → Completes (.acqCommit t g) s fun u =>
    u.rdB (ACQ_GRP_STAT g) ACQ_GRP_STAT_COMMIT_PENDING = true
      ∧ u.acq.commits = s.acq.commits ++ [(g, sampleInstant u.fs (sampleAt u.fs u.dom + 1))]
      ∧ OnlyWords [ACQ_GRP_STAT g] { s with acq := u.acq } u) ∧
  (∀ t g s, g < 8 → s.groupOn g = true → exec (.acqSync t g) s = .next (s.after t fun m =>
    (m.groupChans g).foldl (fun m c => m.requestReset c) m)) ∧
  (∀ t g s, g < 8 → s.groupOn g = true → s.mclkSet = true → (∀ c ∈ s.groupChans g, s.chanOn c = true ∧ s.groupOf c = some g) →
    Completes (.acqSync t g) s fun u => ∀ c ∈ s.groupChans g,
      (u.acqChan c).resetAt = some (((s.acqChan c).resetAt).getD (nextEdge (s.advance t).edgeAfter
        (delay2 (s.groupPreset g).1 (s.groupPreset g).2 / 2 % (2 * (s.groupPreset g).2)) (2 * (s.groupPreset g).2)))
        ∧ ((s.acqChan c).resetAt = none → u.rdB (ACQ_CH_STAT c) ACQ_CH_STAT_RESET_PENDING = true)) ∧
  (∀ t g s, s.groupOn g = false → Completes (.acqSync t g) s fun u => u = { s with now := u.now }) ∧
  (∀ t c v s, s.acqPresent = true → c < 32 → fget ACQ_CH_CFG_EN v = 1 → fget ACQ_CH_CFG_SRC v = s.rd (ACQ_CH_CFG c) ACQ_CH_CFG_SRC →
    Completes (.channelSwitch t c v) s fun u =>
      u.rd (ACQ_CH_CFG c) ACQ_CH_CFG_SRC = fget ACQ_CH_CFG_SRC v ∧ u.rdB (ACQ_CH_CFG c) ACQ_CH_CFG_EN = true
        ∧ u.rd (ACQ_CH_CFG c) ACQ_CH_CFG_INV = fget ACQ_CH_CFG_INV v)

/-- A channel's chains after eight bits of its input (R172, R173, R176, R184). -/
def Sys2Proof.Machine.State.fastChan (s : State) (c : Nat) (rise fall : List (BitVec 32)) : AcqChan :=
  let p := (s.groupOf c).elim (0, 1) s.groupPreset
  ((s.captured c rise fall).foldl AcqChan.watch (s.acqChan c)).take p.1 p.2
    ((s.captured c rise fall).map (fun b => b != s.rdB (ACQ_CH_CFG c) ACQ_CH_CFG_INV))

/-- The index of a group's fine output at this edge (R182). -/
def Sys2Proof.Machine.State.fineIdx (s : State) (g : Nat) : Nat :=
  (s.edgeNow - delay2 (s.groupPreset g).1 (s.groupPreset g).2 / 2) / (2 * (s.groupPreset g).2)

/-- The bit streams (R172, R173, R182 to R190): a stuck channel shows it and loses its fast value; a change of bit ends it; a reset
takes place at its edge and not before; outputs are computed from the bits; a trip latch is released and the balls follow.
Where a clause rests on the model's own choices: log entry 29. -/
def Obligations.AcquisitionEvents : Prop :=
  (∀ t c s, s.acqPresent = true → c < 32 → s.chanOn c = true → (s.advance t).mclkRuns = true → s.stuck c = false → (s.acqChan c).hit = true →
    Completes (.stuckEntry t c) s fun u =>
    u.stuck c = true ∧ u.rdB (ACQ_CH_STAT c) ACQ_CH_STAT_FAST_VALID = false ∧ (u.acqChan c).hit = false
      ∧ u.count (cntACQ_CH_STUCK_EVENTS c) = (s.count (cntACQ_CH_STUCK_EVENTS c) + 1) % 2 ^ 64) ∧
  (∀ t c s, s.stuck c = false → (s.acqChan c).hit = false → Completes (.stuckEntry t c) s fun u => u = { s with now := u.now }) ∧
  (∀ t c s, c < 32 → s.stuck c = true → (s.acqChan c).equal ≠ 64 → Completes (.stuckEnd t c) s fun u => u.stuck c = false) ∧
  (∀ t c e s, (s.acqChan c).resetAt = some e → (s.advance t).edgeNow < e → Completes (.resetInstant t c) s fun u => u = { s with now := u.now }) ∧
  (∀ t c e s, c < 32 → (s.acqChan c).resetAt = some e → e ≤ (s.advance t).edgeNow → (s.advance t).mclkRuns = true →
    (s.advance t).outputFirst c e = false → Completes (.resetInstant t c) s fun u =>
    u.acqChan c = { (s.acqChan c).cleared with release := (s.acqChan c).release }
      ∧ u.rdB (ACQ_CH_STAT c) ACQ_CH_STAT_RESET_PENDING = false ∧ u.rdB (ACQ_CH_STAT c) ACQ_CH_STAT_FAST_VALID = false) ∧
  (∀ t c rise fall s, exec (.fastOutput t c ⟨rise, fall⟩) s = .next (s.after t fun m => (m.fastOutput c rise fall).settle)) ∧
  (∀ t c rise fall (s : State), s.acqPresent = true → c < 32 → s.chanOn c = true → (s.advance t).mclkRuns = true →
    ((s.advance t).fastOutput c rise fall).acqChan c = { s.fastChan c rise fall with
      fasts := (s.fastChan c rise fall).fasts + 1, release := (((s.advance t).fastOutput c rise fall).acqChan c).release }) ∧
  (∀ t c rise fall s, s.acqPresent = true → c < 32 → s.chanOn c = true → (s.advance t).mclkRuns = true →
    Completes (.fastOutput t c ⟨rise, fall⟩) s fun u =>
      u.rd (ACQ_CH_STAT c) ACQ_CH_STAT_FAST = ofSigned 8 (fastValue (s.fastChan c rise fall).recent)
        ∧ u.rdB (ACQ_CH_STAT c) ACQ_CH_STAT_FAST_VALID
          = (decide (2 ≤ (s.fastChan c rise fall).fasts + 1) && !s.stuck c && (s.fastChan c rise fall).equal != 64)) ∧
  (∀ t g s, exec (.fineOutput t g) s = .next (s.after t fun m =>
    (((m.fineOutput g).2.foldl (fun m (w : Nat × Nat) => m.svEntry w.1 w.2) (m.fineOutput g).1).cleStream (m.fineOutput g).2))) ∧
  (∀ t g h e s, s.acqPresent = true → g < 8 → (s.advance t).fineDue g = true → s.acq.commits = [] →
    s.rd (ACQ_GRP_CFG g) ACQ_GRP_CFG_HANDLE = h → s.stream s.ingActive h = e → e.subCount = 0 →
    s.holdsReal h e ((s.advance t).fineIdx g) = false → s.ringReaches e ((s.advance t).fineIdx g) = true → s.livePubs = [] → s.laws = [] →
    Completes (.fineOutput t g) s fun u =>
      u.count (cntACQ_GRP_OUTPUTS g) = (s.count (cntACQ_GRP_OUTPUTS g) + 1) % 2 ^ 64
        ∧ (u.ringPos h ((s.advance t).fineIdx g % e.depth)).real = true
        ∧ (u.ringPos h ((s.advance t).fineIdx g % e.depth)).idx = (s.advance t).fineIdx g
        ∧ cget (fun _ => 0) u.acq.lastOut g = (s.advance t).edgeNow + 1) ∧
  (∀ t g s, (s.advance t).fineDue g = false → Completes (.fineOutput t g) s fun u => u = { s with now := u.now }) ∧
  (∀ t c s, c < 32 → s.rdB (ACQ_TRIP_STAT c) ACQ_TRIP_STAT_LATCHED = true → Completes (.tripLatchRelease t c) s fun u =>
    u.tripActive c = false ∧ u.rdB (ACQ_TRIP_STAT c) ACQ_TRIP_STAT_LATCHED = false ∧ u.rd (ACQ_TRIP_STAT c) ACQ_TRIP_STAT_RUN
      = s.rd (ACQ_TRIP_STAT c) ACQ_TRIP_STAT_RUN ∧ u.acq = s.acq) ∧
  (∀ t c s, c < 32 → s.rdB (ACQ_TRIP_STAT c) ACQ_TRIP_STAT_LATCHED = true → exec (.tripLatchRelease t c) s = .next (s.after t fun m =>
    (m.laneOff c).settle)) ∧
  (∀ t c v s, s.acqPresent = true → c < 32 → fget ACQ_TRIP_CFG_MODE v = 3 → Completes (.acqTripCfgWrite t c v) s fun u =>
    u.rdB ACQ_STAT ACQ_STAT_CFG_REJ = true ∧ u.rdW (ACQ_TRIP_CFG c) = s.rdW (ACQ_TRIP_CFG c)) ∧
  (∀ t c v s, s.acqPresent = true → c < 32 → fget ACQ_TRIP_CFG_MODE v ≠ 3 → Completes (.acqTripCfgWrite t c v) s fun u =>
    u.rd (ACQ_TRIP_CFG c) ACQ_TRIP_CFG_MODE = fget ACQ_TRIP_CFG_MODE v ∧ u.rd (ACQ_TRIP_CFG c) ACQ_TRIP_CFG_THRESH = fget ACQ_TRIP_CFG_THRESH v
      ∧ u.rd (ACQ_TRIP_CFG c) ACQ_TRIP_CFG_K = fget ACQ_TRIP_CFG_K v)

/-! ### Tenants (R194 to R228) -/

/-- A tenant command of TEN_CMD can run: the tenant is present and no command of it is in progress. -/
abbrev Sys2Proof.Machine.TenReady (s : State) (n : Nat) : Prop := s.tenantPresent n = true ∧ s.rdB (TEN_CMD n) TEN_CMD_BUSY = false

/-- R202's table, event by event: the state that each accepted event leaves, at once or staged for a boundary; an event that the table
does not list for the state leaves it as it was and answers RESULT 1.
Where a clause rests on the model's own choices: log entry 32. -/
def Obligations.TenantStateTable : Prop :=
  (∀ t n s, TenReady s n → s.tenState n = 0 → Completes (.tenActivate t n) s fun u =>
    u.tenState n = 1 ∧ u.rd (TEN_CMD n) TEN_CMD_RESULT = 0 ∧ u.count (cntTEN_FAULTS n) = 0) ∧
  (∀ t n s, TenReady s n → (s.tenState n = 1 ∨ s.tenState n = 4) → Completes (.tenStart t n) s fun u =>
    u.tenState n = s.tenState n ∧ u.tenBit n TEN_STATE_START_PENDING = true ∧ (n, { val := 2, eff := u.stageAt }) ∈ u.ten.events
      ∧ u.rd (TEN_CMD n) TEN_CMD_RESULT = 0 ∧ OnlyWords [TEN_STATE n, TEN_CMD n] { s with ten := u.ten } u) ∧
  (∀ t n s, TenReady s n → s.tenState n = 2 → exec (.tenDisable t n) s = .next (s.after t fun m =>
    ((m.dropEvents n).quiesce n 3).wr (TEN_CMD n) TEN_CMD_RESULT 0)) ∧
  (∀ t n s, TenReady s n → (s.tenState n = 1 ∨ s.tenState n = 4) → Completes (.tenRelease t n) s fun u =>
    u.tenState n = 0 ∧ u.rdW (TEN_SHARE n) = 0 ∧ u.rd (TEN_CMD n) TEN_CMD_RESULT = 0) ∧
  (∀ t n s, TenReady s n → s.tenState n = 2 → Completes (.tenMigrate t n) s fun u =>
    u.tenState n = 5 ∧ u.tenBit n TEN_STATE_DIR = false ∧ u.tenBit n TEN_STATE_STOPPED = false ∧ u.rdB (TEN_CFG n) TEN_CFG_PLOG_EN = true
      ∧ (∀ k, k < 16384 → cget (fun _ => false) u.ten.plog (n * 16384 + k) = false) ∧ u.rd (TEN_CMD n) TEN_CMD_RESULT = 0) ∧
  (∀ t n s, TenReady s n → s.tenState n = 0 → Completes (.tenReceive t n) s fun u =>
    u.tenState n = 5 ∧ u.tenBit n TEN_STATE_DIR = true ∧ u.tenBit n TEN_STATE_STOPPED = false ∧ u.rd (TEN_CMD n) TEN_CMD_RESULT = 0) ∧
  (∀ t n s, TenReady s n → s.tenState n = 5 → s.tenBit n TEN_STATE_DIR = false → s.tenBit n TEN_STATE_STOPPED = false →
    Completes (.tenStopAtBoundary t n) s fun u =>
      u.tenState n = 5 ∧ u.tenBit n TEN_STATE_STOP_PENDING = true ∧ (n, { val := 7, eff := u.stageAt }) ∈ u.ten.events) ∧
  (∀ t n s, TenReady s n → s.tenState n = 5 → s.tenBit n TEN_STATE_DIR = true → Completes (.tenResume t n) s fun u =>
    u.tenState n = 5 ∧ u.tenBit n TEN_STATE_RESUME_PENDING = true ∧ (n, { val := 8, eff := u.stageAt }) ∈ u.ten.events) ∧
  (∀ t n s, TenReady s n → s.tenState n ≠ 0 → Completes (.tenActivate t n) s fun u =>
    u.tenState n = s.tenState n ∧ u.rd (TEN_CMD n) TEN_CMD_RESULT = 1 ∧ OnlyWords [TEN_CMD n] s u) ∧
  (∀ t n s, TenReady s n → s.tenState n ≠ 1 → s.tenState n ≠ 4 → Completes (.tenStart t n) s fun u =>
    u.tenState n = s.tenState n ∧ u.rd (TEN_CMD n) TEN_CMD_RESULT = 1 ∧ OnlyWords [TEN_CMD n] s u) ∧
  (∀ t n s, TenReady s n → s.tenState n = 0 → Completes (.tenDisable t n) s fun u =>
    u.tenState n = 0 ∧ u.rd (TEN_CMD n) TEN_CMD_RESULT = 1 ∧ OnlyWords [TEN_CMD n] s u) ∧
  (∀ t n s, TenReady s n → s.tenState n ≠ 1 → s.tenState n ≠ 4 → s.tenState n ≠ 5 → Completes (.tenRelease t n) s fun u =>
    u.tenState n = s.tenState n ∧ u.rd (TEN_CMD n) TEN_CMD_RESULT = 1 ∧ OnlyWords [TEN_CMD n] s u) ∧
  (∀ t n s, TenReady s n → s.tenState n ≠ 2 → Completes (.tenMigrate t n) s fun u =>
    u.tenState n = s.tenState n ∧ u.rd (TEN_CMD n) TEN_CMD_RESULT = 1 ∧ OnlyWords [TEN_CMD n] s u) ∧
  (∀ t n s, TenReady s n → s.tenState n ≠ 0 → Completes (.tenReceive t n) s fun u =>
    u.tenState n = s.tenState n ∧ u.rd (TEN_CMD n) TEN_CMD_RESULT = 1 ∧ OnlyWords [TEN_CMD n] s u) ∧
  (∀ t n s, TenReady s n → s.tenState n ≠ 5 → Completes (.tenStopAtBoundary t n) s fun u =>
    u.tenState n = s.tenState n ∧ u.rd (TEN_CMD n) TEN_CMD_RESULT = 1 ∧ OnlyWords [TEN_CMD n] s u) ∧
  (∀ t n s, TenReady s n → s.tenState n ≠ 5 → Completes (.tenResume t n) s fun u =>
    u.tenState n = s.tenState n ∧ u.rd (TEN_CMD n) TEN_CMD_RESULT = 1 ∧ OnlyWords [TEN_CMD n] s u)

/-- Commands that take time (R199, R215): BUSY until they complete. Migration's ends (R222, R223): the cut-off of a disable, the commit and
the abort at the destination, the acknowledgement and the deadline at the source.
Where a clause rests on the model's own choices: log entries 32, 33. -/
def Obligations.TenantTimesAndMigration : Prop :=
  (∀ t n s, TenReady s n → s.tenState n ≠ 5 → exec (.tenPlogSnap t n) s = .next (s.after t fun m =>
    ((m.plogSnap n).tenBusy n 9).wr (TEN_CMD n) TEN_CMD_RESULT 0)) ∧
  (∀ t n s, TenReady s n → s.tenState n ≠ 5 → Completes (.tenPlogSnap t n) s fun u =>
    u.rdB (TEN_CMD n) TEN_CMD_BUSY = true ∧ u.tenState n = s.tenState n ∧ OnlyWords [TEN_CMD n] { s with ten := u.ten, mem := u.mem, cnt := u.cnt } u) ∧
  (∀ t n all page s, TenReady s n → page < 16384 → Completes (.tenMapInval t n all page) s fun u =>
    u.rdB (TEN_CMD n) TEN_CMD_BUSY = true ∧ u.rdB (TEN_CMD n) TEN_CMD_ALL = all ∧ u.rd (TEN_CMD n) TEN_CMD_PAGE = page
      ∧ OnlyWords [TEN_CMD n] { s with ten := u.ten } u) ∧
  (∀ t n s, s.rdB (TEN_CMD n) TEN_CMD_BUSY = true → Completes (.tenantCommandComplete t n) s fun u =>
    u.rdB (TEN_CMD n) TEN_CMD_BUSY = false ∧ u.rd (TEN_CMD n) TEN_CMD_RESULT = 0 ∧ OnlyWords [TEN_CMD n] { s with ten := u.ten } u) ∧
  (∀ t n c s, s.ten.cutoffs.find? (fun e => e.1 == n) = some (n, c) → max s.now t < c → Completes (.disableCutOff t n) s fun u =>
    u = { s with now := u.now }) ∧
  (∀ t n c s, s.tenantPresent n = true → s.ten.cutoffs.find? (fun e => e.1 == n) = some (n, c) → c ≤ max s.now t → s.tenState n = 3 →
    Completes (.disableCutOff t n) s fun u => u.tenState n = 4 ∧ u.tenBit n TEN_STATE_STOPPED = false) ∧
  (∀ t n r s, s.tenantPresent n = true → s.tenState n = 5 → s.tenBit n TEN_STATE_DIR = true →
    (s.mig n).committed = false → Completes (.migrationCommitReceived t n ⟨r, []⟩) s fun u =>
      (u.mig n).committed = true ∧ u.tenBit n TEN_STATE_RESUME_PENDING = true ∧ u.tenState n = 5) ∧
  (∀ t n r v b s, s.tenantPresent n = true → s.tenState n = 5 → s.tenBit n TEN_STATE_DIR = true →
    (s.mig n).committed = false → Completes (.migrationCommitReceived t n ⟨r, [.page v b]⟩) s fun u =>
      (u.mig n).committed = true ∧ u.tenBit n TEN_STATE_RESUME_PENDING = true ∧ u.tenState n = 5) ∧
  (∀ t n r parts s, s.tenState n = 5 → s.tenBit n TEN_STATE_DIR = true → (s.mig n).committed = true →
    Completes (.migrationCommitReceived t n ⟨r, parts⟩) s fun u => u = { s with now := u.now }) ∧
  (∀ t n s, s.tenantPresent n = true → s.tenState n = 5 → s.tenBit n TEN_STATE_DIR = true → (s.mig n).committed = true →
    Completes (.migrationAbortReceived t n) s fun u => u = { s with now := u.now }) ∧
  (∀ t n s, s.tenantPresent n = true → s.tenState n = 5 → s.tenBit n TEN_STATE_DIR = true → (s.mig n).committed = false →
    Completes (.migrationAbortReceived t n) s fun u => u.tenState n = 0 ∧ u.tenBit n TEN_STATE_DIR = false) ∧
  (∀ t n s, s.tenantPresent n = true → s.tenState n = 5 → s.tenBit n TEN_STATE_DIR = false → s.tenBit n TEN_STATE_STOPPED = true →
    (s.mig n).aborted = false → (s.mig n).commitSent.isSome = true → Completes (.commitAcknowledged t ⟨n, .commit⟩) s fun u =>
      u.tenState n = 0 ∧ u.tenBit n TEN_STATE_STOPPED = false) ∧
  (∀ t n s, s.tenantPresent n = true → s.tenState n = 5 → s.tenBit n TEN_STATE_DIR = false → s.tenBit n TEN_STATE_STOPPED = true →
    (s.mig n).aborted = false → (s.mig n).commitSent = none → (s.advance t).dom < (s.mig n).deadline →
    Completes (.commitAcknowledged t ⟨n, .data⟩) s fun u =>
      (u.mig n).commitSent = some (s.advance t).resumeRound ∧ (u.mig n).aborted = false ∧ u.tenState n = 5) ∧
  (∀ t n s, s.tenantPresent n = true → s.tenState n = 5 → s.tenBit n TEN_STATE_DIR = false → s.tenBit n TEN_STATE_STOPPED = true →
    (s.mig n).aborted = false → (s.mig n).commitSent = none → (s.mig n).deadline ≤ (s.advance t).dom →
    Completes (.migrationDeadline t n) s fun u =>
      u.tenState n = 5 ∧ (u.mig n).aborted = true ∧ u.wire = s.wire ++ [.migAbort n] ∧ u.tenBit n TEN_STATE_RESUME_PENDING = true ∧ (n, { val := 8, eff := u.stageAt }) ∈ u.ten.events)

/-- Message pages and ring slots (R201, R210, R211): indices advance as far as R211 lets them, the status says what became of a
doorbell, and a slot reaches only the tenant's own ring. -/
def Obligations.TenantDoorbells : Prop :=
  (∀ t core n p v s, s.coreTenant core = some n → n < 512 → p < 2 →
    prodStatus v.toNat (s.rdW (TEN_MSG_PROD n p)).toNat (s.rdW (TEN_MSG_CONS n p)).toNat = 0 → Completes (.twMsgDb t core p v) s fun u =>
      u.rdW (TEN_MSG_PROD n p) = v ∧ u.count (cntTEN_DOORBELLS n) = (s.count (cntTEN_DOORBELLS n) + 1) % 2 ^ 64
        ∧ n ∈ u.ten.notified ∧ cget (fun _ => 0) u.ten.msgStat (n * 4 + p) % 65536 = 0) ∧
  (∀ t core n p v s, s.coreTenant core = some n → n < 512 → p < 2 →
    prodStatus v.toNat (s.rdW (TEN_MSG_PROD n p)).toNat (s.rdW (TEN_MSG_CONS n p)).toNat = 0x0502 → Completes (.twMsgDb t core p v) s fun u =>
      u.rdW (TEN_MSG_PROD n p) = s.rdW (TEN_MSG_PROD n p) ∧ u.count (cntTEN_RING_FULL n) = (s.count (cntTEN_RING_FULL n) + 1) % 2 ^ 64
        ∧ n ∈ u.ten.notified ∧ cget (fun _ => 0) u.ten.msgStat (n * 4 + p) % 65536 = 0x0502) ∧
  (∀ t core n p v s, s.coreTenant core = some n → n < 512 → 2 ≤ p → p < 4 →
    consStatus v.toNat (s.rdW (TEN_MSG_PROD n p)).toNat (s.rdW (TEN_MSG_CONS n p)).toNat = 0 → Completes (.twMsgDb t core p v) s fun u =>
      u.rdW (TEN_MSG_CONS n p) = v ∧ cget (fun _ => 0) u.ten.msgStat (n * 4 + p) % 65536 = 0) ∧
  (∀ t n p v s, s.tenantPresent n = true → p < 2 →
    consStatus v.toNat (s.rdW (TEN_MSG_PROD n p)).toNat (s.rdW (TEN_MSG_CONS n p)).toNat = 0 → Completes (.tenMsgIndexWrite t n p v) s fun u =>
      u.rdW (TEN_MSG_CONS n p) = v ∧ u.rdW (TEN_MSG_PROD n p) = s.rdW (TEN_MSG_PROD n p)) ∧
  (∀ t n p v s, s.tenantPresent n = true → 2 ≤ p → p < 4 →
    prodStatus v.toNat (s.rdW (TEN_MSG_PROD n p)).toNat (s.rdW (TEN_MSG_CONS n p)).toNat = 0 → Completes (.tenMsgIndexWrite t n p v) s fun u =>
      u.rdW (TEN_MSG_PROD n p) = v ∧ u.rdW (TEN_MSG_CONS n p) = s.rdW (TEN_MSG_CONS n p)) ∧
  (∀ t core n slot x r s, s.coreTenant core = some n → s.slotRing n slot = some r → slot < 8 → r < 1024 → x < 65536 →
    Completes (.twRingTail t core slot x) s fun u => u.rd (PRT_RXR_TAIL r) PRT_RXR_TAIL_INDEX = x ∧ OnlyWords [PRT_RXR_TAIL r] s u) ∧
  (∀ t core n slot x s, s.coreTenant core = some n → s.slotRing n slot = none → Completes (.twRingTail t core slot x) s fun u =>
    u = { s with now := u.now })

/-! ### Scheduler (R230 to R258) -/

/-- Dispatch and the ends of an item in service (R237 to R244): what is placed is the scheduler's choice, with its flags captured
and its entry; a core that ends an item is free.
Where a clause rests on the model's own choices: log entries 30, 31. -/
def Obligations.DispatchAndCompletion : Prop :=
  (∀ t core c s, s.corePresent core = true → s.sch.runs = [] → (s.advance t).chargeAll.choose (core / 8) = some c →
    Completes (.dispatch t core) s fun u => ∃ r, u.runOf core = some r ∧ r.item = { c.item with held := none }
      ∧ r.captured = s.descFlags c.item.task &&& s.descMask c.item.task ∧ r.entry = (s.rdW (SCH_DESC c.item.task 2)).toNat
      ∧ r.since = u.now) ∧
  (∀ t core c s, s.corePresent core = true → s.runOf core = none → (s.advance t).chargeAll.choose (core / 8) = some c →
    exec (.dispatch t core) s = .next (s.after t fun m => m.chargeAll.place core c)) ∧
  (∀ t core s, s.runOf core ≠ none → exec (.dispatch t core) s = .next (s.after t State.chargeAll)) ∧
  (∀ t core r result s, s.sch.runs = [r] → r.core = core → Completes (.twDone t core result) s fun u =>
    u.runOf core = none ∧ u.coreTenant core = none) ∧
  (∀ t core result s, exec (.twDone t core result) s = .next (s.after t fun m => m.endRun core 0 (result % 65536))) ∧
  (∀ t core s, ((s.advance t).endRun core 0 0).runOf core = none →
    (((s.advance t).endRun core 0 0).dispatchCore core).runOf core = none → exec (.twNext t core) s = .next (s.after t fun m =>
      { (m.endRun core 0 0).dispatchCore core with bus := {} })) ∧
  (∀ t core r r' s, s.runOf core = some r → (((s.advance t).endRun core 0 0).dispatchCore core).runOf core = some r' →
    r.item.task = r'.item.task → exec (.twNext t core) s = .next (s.after t fun m => ((m.endRun core 0 0).dispatchCore core).answer 1)) ∧
  (∀ t core r s, s.sch.runs = [r] → r.core = core → s.rdB SCH_CTRL SCH_CTRL_EN = false → Completes (.twNext t core) s fun u =>
    u.runOf core = none ∧ u.coreTenant core = none ∧ u.bus = {}) ∧
  (∀ t core r c s, s.corePresent core = true → s.sch.runs = [r] → r.core = core →
    ((s.advance t).endRun core 0 0).chargeAll.choose (core / 8) = some c → c.item.task = r.item.task → Completes (.twNext t core) s fun u =>
      u.bus.data = 1 ∧ u.bus.err = false ∧ ∃ r', u.runOf core = some r' ∧ r'.item = { c.item with held := none } ∧ r'.since = u.now) ∧
  (∀ t core s, s.runOf core = none → Completes (.runLimit t core) s fun u => u = { s with now := u.now }) ∧
  (∀ t core r s, s.runOf core = some r → s.rd (SCH_DESC r.item.task 4) DESC_RUN_LIMIT ≠ 0 →
    max s.now t - r.since ≤ s.rd (SCH_DESC r.item.task 4) DESC_RUN_LIMIT * 1000 → Completes (.runLimit t core) s fun u =>
      u = { s with now := u.now }) ∧
  (∀ t core r s, s.runOf core = some r → s.rd (SCH_DESC r.item.task 4) DESC_RUN_LIMIT ≠ 0 →
    s.rd (SCH_DESC r.item.task 4) DESC_RUN_LIMIT * 1000 < max s.now t - r.since → exec (.runLimit t core) s = .next (s.after t fun m =>
      ((m.endRun core 0x0514 0).bump (cntSCH_TEN_RUN_LIMITS r.item.tenant) 1).postTenant 0x0502 r.item.tenant
        (p2 r.item.tenant ++ p2 r.item.task ++ p1 core ++ p4 r.item.round))) ∧
  (∀ t core r s, s.sch.runs = [r] → r.core = core → core < 128 → r.item.tenant < 512 → s.rd (SCH_DESC r.item.task 4) DESC_RUN_LIMIT ≠ 0 →
    s.rd (SCH_DESC r.item.task 4) DESC_RUN_LIMIT * 1000 < max s.now t - r.since → Completes (.runLimit t core) s fun u =>
      u.runOf core = none ∧ u.sch.items.length = s.sch.items.length
        ∧ u.count (cntSCH_TEN_RUN_LIMITS r.item.tenant) = (s.count (cntSCH_TEN_RUN_LIMITS r.item.tenant) + 1) % 2 ^ 64) ∧
  (∀ t core cause va r s, s.sch.runs = [r] → r.core = core → core < 128 → r.item.tenant < 512 →
    s.rdB (TEN_CFG r.item.tenant) TEN_CFG_FAULT_POLICY = false → Completes (.tenantFault t core cause va) s fun u =>
      u.runOf core = none ∧ u.tenState r.item.tenant = s.tenState r.item.tenant
        ∧ u.count (cntTEN_FAULTS r.item.tenant) = (s.count (cntTEN_FAULTS r.item.tenant) + 1) % 2 ^ 64) ∧
  (∀ t core cause va r s, s.sch.runs = [r] → r.core = core → core < 128 → r.item.tenant < 512 →
    s.rdB (TEN_CFG r.item.tenant) TEN_CFG_FAULT_POLICY = true → s.tenState r.item.tenant = 2 →
    Completes (.tenantFault t core cause va) s fun u => u.runOf core = none ∧ u.tenState r.item.tenant = 3) ∧
  (∀ t core cause va s, s.coreTenant core = none → Completes (.tenantFault t core cause va) s fun u => u = { s with now := u.now }) ∧
  (∀ t core cause va n s, s.coreTenant core = some n →
    (((s.advance t).tenFaultEvent n cause va core).endRun core 0x0512 0).rdB (TEN_CFG n) TEN_CFG_FAULT_POLICY = false →
    exec (.tenantFault t core cause va) s = .next (s.after t fun m => (m.tenFaultEvent n cause va core).endRun core 0x0512 0)) ∧
  (∀ t core cause va n s, s.coreTenant core = some n →
    (((s.advance t).tenFaultEvent n cause va core).endRun core 0x0512 0).rdB (TEN_CFG n) TEN_CFG_FAULT_POLICY = true →
    exec (.tenantFault t core cause va) s = .next (s.after t fun m =>
      (((m.tenFaultEvent n cause va core).endRun core 0x0512 0).disableRunning n 4).getD
        ((m.tenFaultEvent n cause va core).endRun core 0x0512 0)))

/-- Enqueue (R245 to R249): an item that passes R245's tests is accepted, one that does not is refused with the code and counted;
a spilled item comes on chip when there is room.
Where a clause rests on the model's own choices: log entry 30. -/
def Obligations.EnqueueRules : Prop :=
  (∀ t core k n s, s.coreTenant core = some n → s.tenState n = 4 → Completes (.twEnq t core k) s fun u =>
    cget (fun _ => 0) u.sch.enqStat core = 0x0501 ∧ u.sch.items = s.sch.items
      ∧ u.count (cntSCH_TEN_REFUSED n) = (s.count (cntSCH_TEN_REFUSED n) + 1) % 2 ^ 64) ∧
  (∀ t core k n s, s.coreTenant core = some n →
    (s.advance t).enqTest n (s.taskFirst n + k % 256) ((s.advance t).parseItem (cget (fun _ => []) s.sch.enqBuf core) (s.taskFirst n + k % 256) n false) = 0 →
    exec (.twEnq t core k) s = .next (s.after t fun m =>
      State.accept { m with sch := { m.sch with enqStat := cset (fun _ => 0) m.sch.enqStat core 0 } }
        (m.parseItem (cget (fun _ => []) m.sch.enqBuf core) (m.taskFirst n + k % 256) n false))) ∧
  (∀ t task s, s.taskOwner task = none → Completes (.schStwEnq t task) s fun u =>
    u.rd SCH_STW_ENQ_STAT SCH_STW_ENQ_STAT_STATUS = 0x0510 ∧ OnlyWords [SCH_STW_ENQ_STAT] s u) ∧
  (∀ t task n s, s.taskOwner task = some n → (s.advance t).enqTest n task ((s.advance t).parseItem s.stwItem task n true) = 0 →
    exec (.schStwEnq t task) s = .next (s.after t fun m =>
      (m.wr SCH_STW_ENQ_STAT SCH_STW_ENQ_STAT_STATUS 0).accept (m.parseItem m.stwItem task n true))) ∧
  (∀ t task n s, s.taskOwner task = some n → s.tenState n = 3 → Completes (.schStwEnq t task) s fun u =>
    u.rd SCH_STW_ENQ_STAT SCH_STW_ENQ_STAT_STATUS = 0x0501 ∧ u.sch = s.sch
      ∧ u.count (cntSCH_TEN_REFUSED n) = (s.count (cntSCH_TEN_REFUSED n) + 1) % 2 ^ 64 ∧ OnlyWords [SCH_STW_ENQ_STAT] { s with cnt := u.cnt } u) ∧
  (∀ t n ue s, (∀ x ∈ s.sch.items, x.tenant = n → x.spilled = none) → Completes (.spillRefill t n ue) s fun u => u = { s with now := u.now }) ∧
  (∀ t n x s, s.sch.items.find? (fun x => x.tenant == n && x.spilled.isSome) = some x →
    s.onChip (fun x => x.tenant == n) < s.onChipQuota n → s.onChip (fun _ => true) < 32768 →
    s.anyBad ((s.spillRing n).1 + 64 * (x.spilled.getD 0 % (s.spillRing n).2)) 64 = false →
    exec (.spillRefill t n false) s = .next (s.after t fun m =>
      (m.setSch (m.sch.items.map (fun y => if y.ord == x.ord then { y with spilled := none } else y)) m.sch.runs).holdScan)) ∧
  (∀ t n x s, s.sch.items.find? (fun x => x.tenant == n && x.spilled.isSome) = some x →
    s.onChip (fun x => x.tenant == n) < s.onChipQuota n → s.onChip (fun _ => true) < 32768 →
    s.anyBad ((s.spillRing n).1 + 64 * (x.spilled.getD 0 % (s.spillRing n).2)) 64 = false → Completes (.spillRefill t n false) s fun u =>
      (∀ y ∈ u.sch.items, y.ord = x.ord → y.spilled = none) ∧ u.sch.items.length = s.sch.items.length ∧ u.sch.runs = s.sch.runs) ∧
  (∀ t n x s, s.sch.items.find? (fun x => x.tenant == n && x.spilled.isSome) = some x →
    s.onChip (fun x => x.tenant == n) < s.onChipQuota n → s.onChip (fun _ => true) < 32768 → Completes (.spillRefill t n true) s fun u =>
      (∀ y ∈ u.sch.items, y.ord ≠ x.ord) ∧ u.sch.runs = s.sch.runs) ∧
  (∀ t s, Completes (.schStwCplPop t) s fun u =>
    u.sch = { s.sch with stwCpl := s.sch.stwCpl.drop 1 } ∧
      (∀ k, k < 4 → u.rdW (SCH_STW_CPL k) = BitVec.ofNat 32 (leAt ((s.sch.stwCpl.drop 1).headD []) (4 * k) 4))) ∧
  (∀ t core n v s, s.coreTenant core = some n → (cget (fun _ => 0) s.sch.prod n + 2 ^ 32 - v.toNat) % 2 ^ 32 ≤ 256 →
    Completes (.twCplCons t core v) s fun u =>
      cget (fun _ => 0) u.sch.cons n = v.toNat ∧ u = { s with now := u.now, sch := { s.sch with cons := u.sch.cons } }) ∧
  (∀ t core n v s, s.coreTenant core = some n → 256 < (cget (fun _ => 0) s.sch.prod n + 2 ^ 32 - v.toNat) % 2 ^ 32 →
    Completes (.twCplCons t core v) s fun u => u = { s with now := u.now })

/-- Flags and timers (R233 to R236, R254): a set is an OR, dropped and counted when its descriptor is not VALID; a clear removes the
bits; a timer sets its flag once domain time has reached its deadline. The overrun check (R250) waits for T(k + 1) + SLACK; a round
with nothing left leaves no trace but its check; a round with work left is counted, shown and reported.
Where a clause rests on the model's own choices: log entries 21, 30. -/
def Obligations.FlagsTimersOverrun : Prop :=
  (∀ t task s, task < 8192 → s.descB task DESC_VALID = true → Completes (.schFlagSet t task false) s fun u =>
    u.descFlags task = s.descFlags task ||| s.rd SCH_FLAG_BITS SCH_FLAG_BITS_BITS
      ∧ OnlyWords [SCH_DESC task 0] { s with sch := { s.sch with condAt := u.sch.condAt } } u) ∧
  (∀ t task s, s.descB task DESC_VALID = false → Completes (.schFlagSet t task false) s fun u =>
    u.count cntSCH_FLAG_DROPPED = (s.count cntSCH_FLAG_DROPPED + 1) % 2 ^ 64 ∧ u = { s with now := u.now, cnt := u.cnt }) ∧
  (∀ t task s, task < 8192 → Completes (.schFlagSet t task true) s fun u =>
    (∀ b, (u.descFlags task).testBit b = ((s.descFlags task).testBit b && !(s.rd SCH_FLAG_BITS SCH_FLAG_BITS_BITS).testBit b))
      ∧ OnlyWords [SCH_DESC task 0] { s with sch := { s.sch with condAt := u.sch.condAt } } u) ∧
  (∀ t core k d v s, s.localTask core k = some d → d < 8192 → s.descB d DESC_VALID = true → Completes (.twFlag t core k v) s fun u =>
    u.descFlags d = s.descFlags d ||| v.toNat ∧ OnlyWords [SCH_DESC d 0] { s with sch := { s.sch with condAt := u.sch.condAt } } u) ∧
  (∀ t core k v s, s.localTask core k = none → Completes (.twFlag t core k v) s fun u => u = { s with now := u.now }) ∧
  (∀ t core k d v s, s.localTask core k = some d → d < 8192 → Completes (.twFlagClr t core k v) s fun u =>
    (∀ b, (u.descFlags d).testBit b = ((s.descFlags d).testBit b && !v.toNat.testBit b))
      ∧ OnlyWords [SCH_DESC d 0] { s with sch := { s.sch with condAt := u.sch.condAt } } u) ∧
  (∀ t core n tm hi s, s.coreTenant core = some n → tm < 4 → (s.advance t).dom < hi.toNat * 2 ^ 32 + (s.timer n tm).lo →
    Completes (.twTmrArm t core tm hi) s fun u =>
      u.timer n tm = { s.timer n tm with hi := hi.toNat, armed := true }
        ∧ u = { s with now := u.now, sch := { s.sch with timers := u.sch.timers } }) ∧
  (∀ t core n tm v s, s.coreTenant core = some n → tm < 4 → v.toNat.testBit 31 = false → Completes (.twTmrDisarm t core tm v) s fun u =>
    (u.timer n tm).armed = false ∧ (u.timer n tm).task = nbits v.toNat 0 8 ∧ (u.timer n tm).bit = nbits v.toNat 8 5
      ∧ (u.timer n tm).period = nbits v.toNat 16 15 ∧ u = { s with now := u.now, sch := { s.sch with timers := u.sch.timers } }) ∧
  (∀ t n tm s, tm < 4 → (s.timer n tm).armed = true → (s.timer n tm).period = 0 → s.tenState n ≠ 0 →
    (s.timer n tm).hi * 2 ^ 32 + (s.timer n tm).lo ≤ (s.advance t).dom → (s.timer n tm).task < s.taskCount n →
    s.taskFirst n + (s.timer n tm).task < 8192 → s.descB (s.taskFirst n + (s.timer n tm).task) DESC_VALID = true →
    (s.timer n tm).bit < 32 → Completes (.timerDeadline t n tm) s fun u =>
      (u.timer n tm).armed = false ∧ u.descFlags (s.taskFirst n + (s.timer n tm).task)
        = s.descFlags (s.taskFirst n + (s.timer n tm).task) ||| 2 ^ (s.timer n tm).bit) ∧
  (∀ t n tm s, tm < 4 → (s.timer n tm).armed = true → (s.advance t).dom < (s.timer n tm).hi * 2 ^ 32 + (s.timer n tm).lo →
    Completes (.timerDeadline t n tm) s fun u => u = { s with now := u.now }) ∧
  (∀ t n s, (∀ c ∈ s.sch.checks, c.tenant ≠ n) → Completes (.overrunCheck t n) s fun u => u = { s with now := u.now }) ∧
  (∀ t n c s, s.sch.checks.find? (fun c => c.tenant == n) = some c →
    (s.advance t).dom < c.next + min (s.rd (SCH_TEN_CFG n) SCH_TEN_CFG_SLACK * 1000) s.roundNs → Completes (.overrunCheck t n) s fun u =>
      u = { s with now := u.now }) ∧
  (∀ t n c s, s.sch.checks.find? (fun c => c.tenant == n) = some c → s.gridOn = true →
    c.next + min (s.rd (SCH_TEN_CFG n) SCH_TEN_CFG_SLACK * 1000) s.roundNs ≤ (s.advance t).dom →
    (∀ x ∈ s.sch.items, x.tenant = n → c.round < x.round) → (∀ r ∈ s.sch.runs, r.item.tenant = n → c.round < r.item.round) →
    Completes (.overrunCheck t n) s fun u =>
      u.sch = { s.sch with checks := s.sch.checks.erase c } ∧ u.rd SCH_OVR_LAST SCH_OVR_LAST_ROUND = round32 c.round
        ∧ OnlyWords [SCH_OVR_LAST, SCH_OVR_COUNT] { s with sch := u.sch } u) ∧
  (∀ t n c x s, s.sch.checks.find? (fun c => c.tenant == n) = some c → s.gridOn = true → n < 512 →
    c.next + min (s.rd (SCH_TEN_CFG n) SCH_TEN_CFG_SLACK * 1000) s.roundNs ≤ (s.advance t).dom → s.sch.items = [x] → s.sch.runs = [] →
    x.tenant = n → x.round ≤ c.round → s.rdB (SCH_TEN_CFG n) SCH_TEN_CFG_CUT = false → Completes (.overrunCheck t n) s fun u =>
      u.rdB (SCH_TEN_STAT n) SCH_TEN_STAT_OVERRUN = true ∧ u.sch.items = [x]
        ∧ u.count (cntSCH_TEN_OVERRUNS n) = (s.count (cntSCH_TEN_OVERRUNS n) + 1) % 2 ^ 64)

/-! ### Messages of tenants to the steward (R210 to R213, R498) -/

/-- The message that the steward serves next (R212), of a length that its slot holds. -/
abbrev Sys2Proof.Machine.NextIs (s : State) (t : Nat) (m : Message) (type : Nat) : Prop :=
  (s.advance t).nextMsg = some m ∧ m.type = type ∧ m.length ≤ 56

/-- The answer of a message: the next state has taken it from its outbound page and holds the answer in an inbound page. -/
def Sys2Proof.Machine.TenAnswers (i : Instr) (t : Nat) (m : Message) (s : State) (st : Nat) (data : State → List Byte)
    (body : State → State) : Prop :=
  exec i s = .next (s.after t fun v =>
    ((body (v.takeMsg m)).inbound m.tenant ((m.type + 0x8000) % 65536) m.tag (p2 st ++ p2 0 ++ data (v.takeMsg m))).2)

/-- What the five messages answer (layouts and order of service: log entries 7, 51). -/
def Obligations.TenantMessages : Prop :=
  (∀ t m s, NextIs s t m 1 → m.payload = [] → TenAnswers (.statusQuery t m.tenant) t m s 0 (fun v =>
    p4 (v.rdW (TEN_STATE m.tenant)).toNat ++ p4 (round32 v.roundNow) ++ p2 (v.rd (TEN_SHARE m.tenant) TEN_SHARE_CURRENT)
      ++ p2 (v.rd (TEN_LIMIT_CUR m.tenant) TEN_LIMIT_CUR_ITEMS)) id) ∧
  (∀ t m s, NextIs s t m 1 → m.payload ≠ [] → TenAnswers (.statusQuery t m.tenant) t m s stBadLength (fun _ => []) id) ∧
  (∀ t m s, NextIs s t m 2 → m.payload.length ≠ 12 → TenAnswers (.almReadOwn t m.tenant) t m s stBadLength (fun _ => []) id) ∧
  (∀ t m addrs (s : State), NextIs s t m 2 → m.payload.length = 12 →
    (((s.advance t).takeMsg m).tenBuffer m.tenant (leAt m.payload 4 4)
      (((s.advance t).takeMsg m).readRecords m.tenant (leAt m.payload 0 4) (leAt m.payload 8 4)).1.length) = some addrs →
    TenAnswers (.almReadOwn t m.tenant) t m s 0
      (fun v => p2 (v.readRecords m.tenant (leAt m.payload 0 4) (leAt m.payload 8 4)).2
        ++ p2 (v.readRecords m.tenant (leAt m.payload 0 4) (leAt m.payload 8 4)).1.length
        ++ p4 (v.rdW (ALM_CH_FIRST m.tenant)).toNat ++ p4 (v.rdW (ALM_CH_NEXT m.tenant)).toNat)
      (fun v => (addrs.zip (v.readRecords m.tenant (leAt m.payload 0 4) (leAt m.payload 8 4)).1).foldl
        (fun (s : State) x => s.store x.1 [x.2]) v)) ∧
  (∀ t m s, NextIs s t m 3 → 4 ≤ m.payload.length → 4 + byteAt m.payload 0 ≤ m.payload.length → 1 ≤ byteAt m.payload 0 →
    byteAt m.payload 0 ≤ 52 → leAt m.payload 1 3 = 0 → (s.hostMsgs m.tenant).length < 64 →
    TenAnswers (.hostSend t m.tenant) t m s 0 (fun _ => []) (fun v =>
      v.setHostMsgs m.tenant (v.hostMsgs m.tenant ++ [slice m.payload 4 (byteAt m.payload 0)]))) ∧
  (∀ t m s, NextIs s t m 3 → 4 ≤ m.payload.length → 4 + byteAt m.payload 0 ≤ m.payload.length → byteAt m.payload 0 = 0 →
    TenAnswers (.hostSend t m.tenant) t m s stBadField (fun _ => []) id) ∧
  (∀ t m s, NextIs s t m 4 → m.payload.length = 56 → byteAt m.payload 3 = 0 → s.tenantPresent (leAt m.payload 0 2) = true →
    byteAt m.payload 2 < s.taskCount (leAt m.payload 0 2) →
    exec (.enqueueRemote t m.tenant) s = .next (s.after t fun v =>
      if Config.remotePermitted m.tenant (leAt m.payload 0 2) (byteAt m.payload 2) = false then
        ((v.takeMsg m).inbound m.tenant 0x8004 m.tag (p2 0x0206 ++ p2 0 ++ [])).2
      else
      let w := (List.range 16).foldl (fun (s : State) k => s.wrW (SCH_STW_ITEM k)
        (BitVec.ofNat 32 (leAt (leBytes 4 0 ++ slice m.payload 4 4 ++ leBytes 8 0 ++ slice m.payload 8 48) (4 * k) 4))) (v.takeMsg m)
      let u := opSchStwEnq (w.taskFirst (leAt m.payload 0 2) + byteAt m.payload 2) w
      (u.inbound m.tenant 0x8004 m.tag (p2 (u.rd SCH_STW_ENQ_STAT SCH_STW_ENQ_STAT_STATUS) ++ p2 0 ++ [])).2)) ∧
  (∀ t m d i s, NextIs s t m 4 → m.payload.length = 56 → leAt m.payload 0 2 = d → byteAt m.payload 2 = i → byteAt m.payload 3 = 0 →
    s.tenantPresent d = true → i < s.taskCount d → s.taskOwner (s.taskFirst d + i) = some d → s.tenState d = 2 →
    s.descB (s.taskFirst d + i) DESC_VALID = true → s.descB (s.taskFirst d + i) DESC_FLAG_ONLY = false → s.sch.items = [] →
    Completes (.enqueueRemote t m.tenant) s fun u =>
      (Config.remotePermitted m.tenant d i = true → u.sch.items.map (fun x => (x.task, x.tenant, x.steward)) = [(s.taskFirst d + i, d, true)]
        ∧ u.rd SCH_STW_ENQ_STAT SCH_STW_ENQ_STAT_STATUS = 0) ∧
      (Config.remotePermitted m.tenant d i = false → u.sch.items = [])) ∧
  (∀ t m s, NextIs s t m 5 → m.payload = [] → TenAnswers (.timeInfo t m.tenant) t m s 0 (fun v =>
    p1 v.synch ++ p1 (v.rd TIM_STAT TIM_STAT_HOLDOVER) ++ p1 (v.rd OUT_UTC_OFFSET OUT_UTC_OFFSET_SECONDS) ++ p1 0 ++ p8 v.dom) id) ∧
  (∀ t n s, (s.advance t).nextMsg = none → Completes (.timeInfo t n) s fun u => u = { s with now := u.now }) ∧
  (∀ t n type tag d (s : State), n < 512 → idxDiff (s.rdW (TEN_MSG_PROD n 2)).toNat (s.rdW (TEN_MSG_CONS n 2)).toNat < 255 →
    s.tenantPresent n = true → ((s.advance t).inbound n type tag d).2.rdW (TEN_MSG_PROD n 2) = s.rdW (TEN_MSG_PROD n 2) + 1) ∧
  (∀ t n m s, NextIs s t m 1 → m.tenant ≠ n → Completes (.statusQuery t n) s fun u => u = { s with now := u.now })

/-! ### Register access (R12, R26, R196, R553) and round boundaries (R41 to R50, R559) -/

/-- No Solstice strobe waits to be offered to the recorders. -/
abbrev Sys2Proof.Machine.StrobesSeen (s : State) : Prop := s.rd SYS_SNAP_STAT SYS_SNAP_STAT_COUNT = s.rec_.strobes

/-- Writes by address: a value in range is taken, one out of range leaves the register and sets CFG_REJ, reserved and read-only
bits stay, and outside every window nothing is written; an access that is not naturally aligned faults and changes nothing else.
Where a clause rests on the model's own choices: log entries 12, 14. -/
def Obligations.ControlAccess : Prop :=
  (∀ t v s, StrobesSeen s → fget TIM_HOLD_LIMIT v ≤ 86400 → Completes (.registerWrite t none TIM_HOLD v) s fun u =>
    u.rd TIM_HOLD TIM_HOLD_LIMIT = fget TIM_HOLD_LIMIT v ∧ OnlyWords [TIM_HOLD] s u) ∧
  (∀ t v s, StrobesSeen s → 86400 < fget TIM_HOLD_LIMIT v → Completes (.registerWrite t none TIM_HOLD v) s fun u =>
    u.rdB TIM_STAT TIM_STAT_CFG_REJ = true ∧ OnlyWords [TIM_STAT] s u) ∧
  (∀ t v s, StrobesSeen s → Completes (.registerWrite t none TIM_SET_LO v) s fun u =>
    u = { s with now := u.now, tim := { s.tim with setLo := v.toNat } }) ∧
  (∀ t v s, StrobesSeen s → Completes (.registerWrite t none TIM_ROUND v) s fun u => u = { s with now := u.now }) ∧
  (∀ t a v s, StrobesSeen s → a < 2 ^ 32 → a / 2 ^ 24 = 0 ∨ 0x11 < a / 2 ^ 24 → Completes (.registerWrite t none a v) s fun u =>
    u = { s with now := u.now }) ∧
  (∀ t core a v s, s.coreTenant core = none → Completes (.registerWrite t (some core) a v) s fun u => u = { s with now := u.now }) ∧
  (∀ t core n v s, StrobesSeen s → s.coreTenant core = some n → Completes (.registerWrite t (some core) 0x2000 v) s fun u =>
    cget (fun _ => 0) u.out.stage (core * 256) = v.toNat ∧ u = { s with now := u.now, out := { s.out with stage := u.out.stage } }) ∧
  (∀ t a n w s, a < 0x40000000 → (n ≠ 4 ∧ n ≠ 8) ∨ a % n ≠ 0 → Completes (.misalignedAccess t .steward a n w) s fun u =>
    u.bus = { err := true } ∧ u = { s with now := u.now, bus := u.bus }) ∧
  (∀ t a n w s, 2 ≤ s.lc → Completes (.misalignedAccess t .jtag a n w) s fun u =>
    u.bus = { err := true } ∧ u = { s with now := u.now, bus := u.bus }) ∧
  (∀ t core r a n w s, s.sch.runs = [r] → r.core = core → core < 128 → r.item.tenant < 512 → a < 0x10000 → winForm a n = false →
    s.rdB (TEN_CFG r.item.tenant) TEN_CFG_FAULT_POLICY = false → Completes (.misalignedAccess t (.core core) a n w) s fun u =>
      u.bus = { err := true } ∧ u.runOf core = none
        ∧ u.count (cntTEN_FAULTS r.item.tenant) = (s.count (cntTEN_FAULTS r.item.tenant) + 1) % 2 ^ 64) ∧
  (∀ t core m a n w s, s.coreTenant core = some m → a < 0x10000 → winForm a n = false →
    exec (.misalignedAccess t (.core core) a n w) s = .next (s.after t fun v => (opTenantFault core 5 (0x40000000 + a) v).busFault)) ∧
  (∀ t s, Completes (.misalignedAccess t .steward TIM_HOLD 4 none) s fun u =>
    u.bus = { data := (s.rdW TIM_HOLD).toNat } ∧ u = { s with now := u.now, bus := u.bus }) ∧
  (∀ t v s, StrobesSeen s → v % 2 ^ 32 ≤ 86400 → Completes (.misalignedAccess t .steward TIM_HOLD 4 (some v)) s fun u =>
    u.rd TIM_HOLD TIM_HOLD_LIMIT = v % 2 ^ 32 ∧ u.bus = { data := 0 } ∧ OnlyWords [TIM_HOLD] { s with bus := u.bus } u) ∧
  (∀ t s, Completes (.misalignedAccess t .steward TIM_NOW_LO 8 none) s fun u =>
    u.bus = { data := u.dom } ∧ u.regs = s.regs ∧ u.cnt = s.cnt ∧ SameMemory s u)

/-- Nothing but the time base is configured, and no block but it holds anything. -/
abbrev Sys2Proof.Machine.OnlyTimeBase (s : State) : Prop :=
  (∀ c ∈ s.regs, c.1 / 2 ^ 24 = 0x0E) ∧ s.ten = {} ∧ s.sch = {} ∧ s.ing = {} ∧ s.acq = {} ∧ s.out = {} ∧ s.cle = {} ∧ s.lge = {}
    ∧ s.rec_ = {} ∧ s.dpx = {}

/-- Round boundaries: none before the dispatch instant, none while the grid is off; at the instant the seven steps of R48 in their
order; while the grid is off, staged settings take effect at their own instant.
Where a clause rests on the model's own choices: log entry 21. -/
def Obligations.RoundBoundaries : Prop :=
  (∀ t s, s.gridOn = false → Completes (.roundBoundary t) s fun u => u = { s with now := u.now }) ∧
  (∀ t s, (s.advance t).dom < s.nextT → Completes (.roundBoundary t) s fun u => u = { s with now := u.now }) ∧
  (∀ t s, s.gridOn = true → s.nextT ≤ (s.advance t).dom → exec (.roundBoundary t) s = .next (s.after t fun m =>
    m.boundary s.tim.nextRound)) ∧
  (∀ t s, OnlyTimeBase s → s.gridOn = true → s.nextT ≤ (s.advance t).dom → s.tim.targetStaged = none → s.tim.nextD < 4096 →
    Completes (.roundBoundary t) s fun u =>
      u.tim.lastRound = some s.tim.nextRound ∧ u.tim.nextRound = s.tim.nextRound + 1 ∧ u.tim.nextD = slewD s.tim.nextD s.tim.target
        ∧ u.rdW TIM_ROUND = BitVec.ofNat 32 (round32 s.tim.nextRound) ∧ u.rd TIM_ADMIT TIM_ADMIT_CURRENT = s.tim.nextD
        ∧ u.gridOn = true) ∧
  (∀ k (s : State), s.tim.targetStaged = none → (s.timStep k).2.rdW TIM_ROUND = BitVec.ofNat 32 (round32 k)
    ∧ (s.timStep k).2.tim.lastRound = some k ∧ (s.timStep k).2.tim.nextRound = k + 1
    ∧ (s.timStep k).2.tim.nextD = slewD s.tim.nextD s.tim.target
    ∧ (s.tim.nextD < 4096 → (s.timStep k).2.rd TIM_ADMIT TIM_ADMIT_CURRENT = s.tim.nextD)) ∧
  (∀ t s, s.gridOn = false → exec (.stagedSettingApply t) s = .next (s.after t State.applyStaged)) ∧
  (∀ t x s, OnlyTimeBase s → s.gridOn = false → s.tim.targetStaged = some x → x.val < 4096 → Completes (.stagedSettingApply t) s fun u =>
    u.rd TIM_ADMIT TIM_ADMIT_CURRENT = x.val ∧ u.tim.target = x.val ∧ u.tim.nextD = x.val ∧ u.tim.targetStaged = none
      ∧ u.rdW TIM_APPLIED = BitVec.ofNat 32 (round32 (roundAt s.fs s.roundLen u.dom)) ∧ u.gridOn = false) ∧
  (∀ t s, s.gridOn = true → Completes (.stagedSettingApply t) s fun u => u = { s with now := u.now }) ∧
  (∀ t s, s.dpx.hbRise + 2000 ≤ max s.now t → Completes (.heartbeatPulseEnd t) s fun u =>
    u.dpx.hbOut = (s.pairMember && s.rdB DPX_CTRL DPX_CTRL_HB_EN && (s.rdW DPX_HEALTH).toNat.testBit 10)
      ∧ u = { s with now := u.now, dpx := { s.dpx with hbOut := u.dpx.hbOut } }) ∧
  (∀ t s, max s.now t < s.dpx.hbRise + 2000 → Completes (.heartbeatPulseEnd t) s fun u => u = { s with now := u.now }) ∧
  (∀ t s, s.gridOn = false → exec (.dispatchInstantHeartbeat t) s = .next (s.after t fun m => m.hbRound m.dpxRound)) ∧
  (∀ t k m s, s.gridOn = false → s.dpxOn = true → s.role = 4 → s.rd DPX_HB_KEY DPX_HB_KEY_SLOT = k →
    (s.advance t).grant k ⟨[2], [uMac]⟩ .publish false = (0, m) → Completes (.dispatchInstantHeartbeat t) s fun u =>
      u.stagedAt 29 = s.stagedAt 29 ++ [{ bytes := padFrame (m.hbFrame (s.refBody (s.advance t).dpxRound 0 0)
        ++ macTag (s.slot k).value (m.hbFrame (s.refBody (s.advance t).dpxRound 0 0)) true), arrival := 0, cls := some 7, whole := true }]
        ∧ u.count cntKEY_GRANTS = (s.count cntKEY_GRANTS + 1) % 2 ^ 64 ∧ u.regs = s.regs ∧ u.wire = s.wire) ∧
  (∀ t s, s.gridOn = true → Completes (.dispatchInstantHeartbeat t) s fun u => u = { s with now := u.now })

/-! ### The control-law engine (R259 to R291) -/

/-- The commands of CLE_LAW_CMD (R275, R278, R279): each answers RESULT, and refuses with RESULT 1 in a state it is not for. A law's trace
(R285, R288): ARM empties it, DISARM stops it, TRIGGER takes an armed trace to POST and is counted otherwise.
Where a clause rests on the model's own choices: log entry 39. -/
def Obligations.LawCommands : Prop :=
  (∀ t l s, s.clePresent = true → l < 128 → s.lawState l ≠ 0 → Completes (.cleStart t l) s fun u =>
    u.rd (CLE_LAW_CMD l) CLE_LAW_CMD_RESULT = 1 ∧ u.lawState l = s.lawState l ∧ OnlyWords [CLE_LAW_CMD l] s u) ∧
  (∀ t l s, s.clePresent = true → l < 128 → s.lawState l = 0 → s.tenState (s.lawOwner l) = 1 →
    ((s.advance t).lawChecks l).1 = 0 → exec (.cleStart t l) s = .next (s.after t fun m =>
      let a := m.wrW (CLE_LAW_TS l) (BitVec.ofNat 32 (fofRat 1 (m.lawRate l)))
      let b := a.wr (CLE_LAW_COST l) CLE_LAW_COST_W_NS (satNat 65535 (a.lawCost l))
      ((b.setLaw l { b.law l with load := b.lawCost l * b.lawRate l }).setLawState l 4 1 0).lawResult l 0 0)) ∧
  (∀ t l s, s.clePresent = true → l < 128 → s.lawState l = 0 → Completes (.cleStop t l) s fun u =>
    u.rd (CLE_LAW_CMD l) CLE_LAW_CMD_RESULT = 1 ∧ u.lawState l = 0 ∧ OnlyWords [CLE_LAW_CMD l] s u) ∧
  (∀ t l s, s.clePresent = true → l < 128 → s.lawState l ≠ 0 → exec (.cleStop t l) s = .next (s.after t fun m =>
    (m.lawStop l 2).lawResult l 0 0)) ∧
  (∀ t l b s, s.clePresent = true → l < 128 → s.lawState l = 1 → s.gridOn = true →
    ((s.advance t).wrB (CLE_LAW_CMD l) CLE_LAW_CMD_BUMPLESS b).badCoeff l (1 - s.activeSet l) = none →
    Completes (.cleCommit t l b) s fun u =>
      u.rd (CLE_LAW_CMD l) CLE_LAW_CMD_RESULT = 0 ∧ u.rdB (CLE_LAW_STATE l) CLE_LAW_STATE_COMMIT_PENDING = true ∧ u.lawState l = 1
        ∧ ({ law := l, op := 3, bumpless := b, eff := u.stageAt } : CleStage) ∈ u.cle.stages ∧ u.activeSet l = s.activeSet l) ∧
  (∀ t l b k s, s.clePresent = true → l < 128 →
    ((s.advance t).wrB (CLE_LAW_CMD l) CLE_LAW_CMD_BUMPLESS b).badCoeff l (1 - s.activeSet l) = some k →
    Completes (.cleCommit t l b) s fun u =>
      u.rd (CLE_LAW_CMD l) CLE_LAW_CMD_RESULT = 4 ∧ u.rd (CLE_LAW_CMD l) CLE_LAW_CMD_DETAIL = k % 2 ^ CLE_LAW_CMD_DETAIL.width
        ∧ OnlyWords [CLE_LAW_CMD l] s u) ∧
  (∀ t l s, s.clePresent = true → l < 128 → s.rdB (CLE_LAW_STATE l) CLE_LAW_STATE_COMMIT_PENDING = false →
    exec (.copyActive t l) s = .next (s.after t fun m => (m.copyActive l).lawResult l 0 0)) ∧
  (∀ t l s, s.clePresent = true → l < 128 → s.rdB (CLE_LAW_STATE l) CLE_LAW_STATE_COMMIT_PENDING = true →
    Completes (.copyActive t l) s fun u => u.rdB CLE_STAT CLE_STAT_CFG_REJ = true ∧ u.cle = s.cle ∧ OnlyWords [CLE_STAT, CLE_LAW_CMD l] s u) ∧
  (∀ t l s, s.clePresent = true → l < 128 → s.lawState l = 1 → s.gridOn = true → Completes (.cleTune t l) s fun u =>
    u.rd (CLE_LAW_CMD l) CLE_LAW_CMD_RESULT = 0 ∧ u.rdB (CLE_LAW_STATE l) CLE_LAW_STATE_TUNE_PENDING = true ∧ u.lawState l = 1
      ∧ OnlyWords [CLE_LAW_STATE l, CLE_LAW_CMD l] { s with cle := u.cle } u) ∧
  (∀ t l s, s.clePresent = true → l < 128 → s.lawState l ≠ 1 → Completes (.cleTune t l) s fun u =>
    u.rd (CLE_LAW_CMD l) CLE_LAW_CMD_RESULT = 1 ∧ OnlyWords [CLE_LAW_CMD l] s u) ∧
  (∀ t l s, s.clePresent = true → l < 128 → s.lawState l = 2 → s.gridOn = true → Completes (.cleUntune t l) s fun u =>
    u.rd (CLE_LAW_CMD l) CLE_LAW_CMD_RESULT = 0 ∧ u.rdB (CLE_LAW_STATE l) CLE_LAW_STATE_UNTUNE_PENDING = true ∧ u.lawState l = 2
      ∧ OnlyWords [CLE_LAW_STATE l, CLE_LAW_CMD l] { s with cle := u.cle } u) ∧
  (∀ t l s, s.clePresent = true → l < 128 → s.lawState l ≠ 2 → Completes (.cleUntune t l) s fun u =>
    u.rd (CLE_LAW_CMD l) CLE_LAW_CMD_RESULT = 1 ∧ OnlyWords [CLE_LAW_CMD l] s u) ∧
  (∀ t l s, s.clePresent = true → l < 128 → (s.trcState l = 0 ∨ s.trcState l = 3) → Completes (.traceArm t l) s fun u =>
    u.trcState l = 1 ∧ u.rd (CLE_TRC_STAT l) CLE_TRC_STAT_WRITE = 0 ∧ (u.law l).trcCount = 0 ∧ (u.law l).trcEvals = 0
      ∧ OnlyWords [CLE_TRC_STAT l] { s with cle := u.cle } u) ∧
  (∀ t l s, (s.trcState l = 1 ∨ s.trcState l = 2) → Completes (.traceArm t l) s fun u => u = { s with now := u.now }) ∧
  (∀ t l s, s.clePresent = true → l < 128 → Completes (.traceDisarm t l) s fun u =>
    u.trcState l = 0 ∧ u.rd (CLE_TRC_STAT l) CLE_TRC_STAT_WRITE = s.rd (CLE_TRC_STAT l) CLE_TRC_STAT_WRITE
      ∧ OnlyWords [CLE_TRC_STAT l] { s with cle := u.cle } u) ∧
  (∀ t l s, s.clePresent = true → l < 128 → s.trcState l = 1 → Completes (.traceTrigger t l) s fun u =>
    u.trcState l = 2 ∧ u.rd (CLE_TRC_STAT l) CLE_TRC_STAT_TRIG_POS = s.rd (CLE_TRC_STAT l) CLE_TRC_STAT_WRITE
      ∧ (u.law l).trcForce = true ∧ OnlyWords [CLE_TRC_STAT l] { s with cle := u.cle } u) ∧
  (∀ t l s, s.clePresent = true → l < 128 → s.trcState l ≠ 1 → Completes (.traceTrigger t l) s fun u =>
    u.count (cntCLE_TRIG_IGNORED l) = (s.count (cntCLE_TRIG_IGNORED l) + 1) % 2 ^ 64 ∧ u = { s with now := u.now, cnt := u.cnt })

/-- Evaluations and triggers (R261 to R266, R289): a trigger at the lagged sample instant queues one evaluation; a lane takes the oldest;
a law without triggers is CLOCK_LOST after TIMEOUT periods; a setpoint is held for the tenant; an auto-tune ends by its cycles or its time.
Where a clause rests on the model's own choices: log entries 39, 40. -/
def Obligations.LawEvents : Prop :=
  (∀ t l s, s.rdB (CLE_LAW_CLK l) CLE_LAW_CLK_MODE = false → Completes (.gridTrigger t l) s fun u => u = { s with now := u.now }) ∧
  (∀ t l s, s.rdB (CLE_LAW_CLK l) CLE_LAW_CLK_MODE = true → (s.lawClock l).type = 1 → 0 < (s.advance t).lawRate l →
    s.rd (CLE_LAW_LAG l) CLE_LAW_LAG_NS ≤ (s.advance t).dom → s.lawTakes l = true →
    (∀ e ∈ s.cle.evals, e.law ≠ l ∧ e.trig ≠ max s.now t) →
    (s.law l).trig ≠ some (sampleAt ((s.advance t).lawRate l) ((s.advance t).dom - s.rd (CLE_LAW_LAG l) CLE_LAW_LAG_NS)) →
    Completes (.gridTrigger t l) s fun u =>
      u.cle.evals = s.cle.evals ++ [{ law := l, n := sampleAt ((s.advance t).lawRate l) ((s.advance t).dom - s.rd (CLE_LAW_LAG l) CLE_LAW_LAG_NS), trig := u.now }] ∧ (u.law l).trigAt = u.now ∧ (u.law l).lost = false ∧ u = { s with now := u.now, cle := u.cle }) ∧
  (∀ t s, s.cle.evals = [] → Completes (.lawEvaluation t) s fun u => u = { s with now := u.now }) ∧
  (∀ t ev rest s, s.cle.evals = ev :: rest → exec (.lawEvaluation t) s = .next (s.after t fun m =>
    let m : State := { m with cle := { m.cle with evals := rest } }
    ((m.lawBlocks ev.law).foldl (fun (e : CleEv) b => e.block b)
      { s := m, law := ev.law, n := ev.n, r := m.lawRate ev.law, set := m.activeSet ev.law, first := (m.law ev.law).fresh,
        swap := (m.law ev.law).swap, bumpless := (m.law ev.law).bumpless, saveI := (m.law ev.law).saveI,
        tuning := m.lawState ev.law == 2 }).commit ev.trig)) ∧
  (∀ t ev rest b s, s.cle.evals = ev :: rest → ev.law < 128 → s.lawBlocks ev.law = [b] → s.blkType b = 2 → s.lawState ev.law ≠ 2 →
    s.trcState ev.law = 0 → Completes (.lawEvaluation t) s fun u =>
      u.cle.evals = rest ∧ u.rdW (CLE_LAW_INDEX ev.law) = BitVec.ofNat 32 ev.n ∧ (u.law ev.law).last = some ev.n
        ∧ u.count (cntCLE_EVALS ev.law) = (s.count (cntCLE_EVALS ev.law) + 1) % 2 ^ 64) ∧
  (∀ t l s, s.rd (CLE_LAW_TIMEOUT l) CLE_LAW_TIMEOUT_PERIODS = 0 → Completes (.clockLost t l) s fun u => u = { s with now := u.now }) ∧
  (∀ t l s, s.lawTakes l = true → s.rdB (CLE_LAW_CLK l) CLE_LAW_CLK_MODE = false → (s.law l).lost = false →
    s.rd (CLE_LAW_TIMEOUT l) CLE_LAW_TIMEOUT_PERIODS ≠ 0 → s.lawOwner l < 512 →
    s.rd (CLE_LAW_TIMEOUT l) CLE_LAW_TIMEOUT_PERIODS * 1000000000 ≤ (max s.now t - (s.law l).trigAt) * (s.advance t).lawRate l →
    Completes (.clockLost t l) s fun u =>
      u.rdB (CLE_LAW_STATE l) CLE_LAW_STATE_CLOCK_LOST = true ∧ u.lawState l = s.lawState l ∧ (u.law l).lost = true
        ∧ OnlyEvents [CLE_LAW_STATE l] [] { s with cle := u.cle } u) ∧
  (∀ t core n j v s, s.clePresent = true → s.coreTenant core = some n → j < 1024 → isNan v.toNat = false → isInf v.toNat = false →
    Completes (.twSpWrite t core j v) s fun u =>
      cget (fun _ => 0) u.cle.sp (n * 1024 + j) = v ∧ u = { s with now := u.now, cle := { s.cle with sp := u.cle.sp } }) ∧
  (∀ t core j v s, isNan v.toNat = true → Completes (.twSpWrite t core j v) s fun u => u = { s with now := u.now }) ∧
  (∀ t l x s, s.tuneOf l = some x → x.done.length < 2 + x.cycles → Completes (.autotuneComplete t l) s fun u => u = { s with now := u.now }) ∧
  (∀ t l x s, s.tuneOf l = some x → 2 + x.cycles ≤ x.done.length → exec (.autotuneComplete t l) s = .next (s.after t fun m =>
    let e := m.endTune l 0 0
    if e.lawState l = 2 then e.stageLaw l 6 false false else e.dropStages l (fun op => op == 5))) ∧
  (∀ t l x s, s.tuneOf l = some x → x.done.length = 2 + x.cycles → l < 128 → s.lawState l = 2 → s.gridOn = true →
    Completes (.autotuneComplete t l) s fun u =>
      u.tuneOf l = none ∧ u.rdB (CLE_LAW_STATE l) CLE_LAW_STATE_UNTUNE_PENDING = true ∧ u.lawState l = 2
        ∧ ∃ d ∈ u.cle.tuned, d.law = l ∧ d.tag = x.tag ∧ d.cycles = x.cycles ∧ (d.status = 0 ∨ d.status = 0x0524)) ∧
  (∀ t l x s, s.tuneOf l = some x → max s.now t < x.start + x.maxTime * 1000000 → max s.now t < x.switchAt + x.maxTime * 250000 →
    Completes (.autotuneTimeout t l) s fun u => u = { s with now := u.now }) ∧
  (∀ t l x s, s.tuneOf l = some x → x.start + x.maxTime * 1000000 ≤ max s.now t → exec (.autotuneTimeout t l) s = .next (s.after t fun m =>
    m.abortTune l 2)) ∧
  (∀ t l x s, s.tuneOf l = some x → x.start + x.maxTime * 1000000 ≤ max s.now t → l < 128 → s.lawState l = 2 → s.gridOn = true →
    Completes (.autotuneTimeout t l) s fun u =>
      u.tuneOf l = none ∧ u.rdB (CLE_LAW_STATE l) CLE_LAW_STATE_UNTUNE_PENDING = true ∧ u.lawState l = 2
        ∧ ∃ d ∈ u.cle.tuned, d.law = l ∧ d.tag = x.tag ∧ d.status = 0x0523 ∧ d.reason = 2)

/-! ### The logic engine (R292 to R317) -/

/-- A command for a program is heard: the slot exists and no command of it is in progress. -/
abbrev Sys2Proof.Machine.PrgReady (s : State) (p : Nat) : Prop := p < 64 ∧ s.rdB (LGE_PRG_CMD p) LGE_PRG_CMD_BUSY = false

/-- The commands of LGE_PRG_CMD (R298 to R301, R310, R311, R316).
Where a clause rests on the model's own choices: log entry 47. -/
def Obligations.ProgramCommands : Prop :=
  (∀ t p cold s, PrgReady s p → s.prgState p ≠ 0 → Completes (.lgeStart t p cold) s fun u =>
    u.rd (LGE_PRG_CMD p) LGE_PRG_CMD_RESULT = 1 ∧ u.prgState p = s.prgState p ∧ u.rdB (LGE_PRG_CMD p) LGE_PRG_CMD_COLD = cold
      ∧ OnlyWords [LGE_PRG_CMD p] s u) ∧
  (∀ t p cold s, PrgReady s p → exec (.lgeStart t p cold) s = .next (s.after t fun m =>
    (((m.wrB (LGE_PRG_CMD p) LGE_PRG_CMD_COLD cold).progStart p cold).2).prgResult p
      ((m.wrB (LGE_PRG_CMD p) LGE_PRG_CMD_COLD cold).progStart p cold).1)) ∧
  (∀ t p s, PrgReady s p → (s.prgState p = 1 ∨ s.prgState p = 2) → exec (.lgeStop t p) s = .next (s.after t fun m =>
    (m.progStop p 0).prgResult p 0)) ∧
  (∀ t p s, PrgReady s p → s.prgState p = 0 → Completes (.lgeStop t p) s fun u =>
    u.rd (LGE_PRG_CMD p) LGE_PRG_CMD_RESULT = 1 ∧ OnlyWords [LGE_PRG_CMD p] s u) ∧
  (∀ t p s, PrgReady s p → s.prgState p = 1 → s.rdB (LGE_PRG_CFG p) LGE_PRG_CFG_HOLD_EN = false → Completes (.lgeHold t p) s fun u =>
    u.rd (LGE_PRG_CMD p) LGE_PRG_CMD_RESULT = 5 ∧ u.prgState p = 1 ∧ OnlyWords [LGE_PRG_CMD p] s u) ∧
  (∀ t p s, PrgReady s p → s.prgState p = 1 → s.rdB (LGE_PRG_CFG p) LGE_PRG_CFG_HOLD_EN = true → (s.prog p).exch = none →
    s.scanOpen p = true → Completes (.lgeHold t p) s fun u =>
      u.rd (LGE_PRG_CMD p) LGE_PRG_CMD_RESULT = 0 ∧ u.prgState p = 1 ∧ (u.prog p).holdNext = true
        ∧ OnlyWords [LGE_PRG_CMD p] { s with lge := u.lge } u) ∧
  (∀ t p s, PrgReady s p → s.prgState p = 1 → s.rdB (LGE_PRG_CFG p) LGE_PRG_CFG_HOLD_EN = true → (s.prog p).exch = none →
    s.scanOpen p = false → exec (.lgeHold t p) s = .next (s.after t fun m => ((m.setPrgState p 2 7).settle).prgResult p 0)) ∧
  (∀ t p us s, PrgReady s p → s.prgState p ≠ 2 → Completes (.lgeRun t p us) s fun u =>
    u.rd (LGE_PRG_CMD p) LGE_PRG_CMD_RESULT = 1 ∧ OnlyWords [LGE_PRG_CMD p] s u) ∧
  (∀ t p us s, PrgReady s p → s.prgState p = 2 → (s.prog p).halt = none → exec (.lgeRun t p us) s = .next (s.after t fun m =>
    (((m.wrB (LGE_PRG_STATE p) LGE_PRG_STATE_STEP_PENDING false).setPrgState p 1 9).settle).prgResult p 0)) ∧
  (∀ t p us s, PrgReady s p → s.prgState p = 2 → s.scanOpen p = false → (s.prog p).halt = none → Completes (.lgeStep t p us) s fun u =>
    u.rdB (LGE_PRG_STATE p) LGE_PRG_STATE_STEP_PENDING = true ∧ u.prgState p = 2 ∧ u.rd (LGE_PRG_CMD p) LGE_PRG_CMD_RESULT = 0
      ∧ OnlyWords [LGE_PRG_STATE p, LGE_PRG_CMD p] s u) ∧
  (∀ t p us s, PrgReady s p → s.prgState p = 2 → s.scanOpen p = true → Completes (.lgeStep t p us) s fun u =>
    u.rd (LGE_PRG_CMD p) LGE_PRG_CMD_RESULT = 4 ∧ OnlyWords [LGE_PRG_CMD p] s u) ∧
  (∀ t p s, PrgReady s p → s.prgState p = 0 → s.rdB (LGE_PRG_CFG p) LGE_PRG_CFG_VALID = true → Completes (.lgeVerify t p p) s fun u =>
    u.rdB (LGE_PRG_CMD p) LGE_PRG_CMD_BUSY = true ∧ u.rd (LGE_PRG_CMD p) LGE_PRG_CMD_TARGET = p ∧ (p, p) ∈ u.lge.verify
      ∧ OnlyWords [LGE_PRG_CMD p] { s with lge := u.lge } u)

/-- The run of program p's scan once it is off the queue: its inputs are read and its code executed from the start. -/
def Sys2Proof.Machine.State.scanRun (m : State) (p : Nat) : LgeRun × LgeStop :=
  let m : State := { m with lge := { m.lge with queue := m.lge.queue.filter (fun x => x.prog != p) } }
  let m := (m.setJ p ((m.prog p).j + 1)).lgeRead p
  lgeRun (m.prgFuel p) 0 true false { s := m, p := p, x := { forces := m.frozen p } }

/-- Verification, exchanges and forces (R310 to R316): the verdict of a verification; an exchange needs its conditions, and is withdrawn
before its cut-off; a force names a declared variable. Scans (R293 to R302): a free unit takes the queued scan of earliest deadline
through its three phases; a unit past its WD is stopped; an input word is held for the tenant.
Where a clause rests on the model's own choices: log entry 47. -/
def Obligations.ProgramExchangesAndScans : Prop :=
  (∀ t p s, (∀ v ∈ s.lge.verify, v.1 ≠ p) → Completes (.lgeVerifyComplete t p) s fun u => u = { s with now := u.now }) ∧
  (∀ t p q s, s.lge.verify = [(p, q)] → (State.verify (({ s.advance t with lge := { s.lge with verify := [] } } : State).wrB (LGE_PRG_CMD p) LGE_PRG_CMD_BUSY false) p) = none →
    s.rdB (LGE_PRG_CFG p) LGE_PRG_CFG_VALID = false →
    Completes (.lgeVerifyComplete t p) s fun u =>
      u.rdB (LGE_PRG_STATE p) LGE_PRG_STATE_VERIFIED = true ∧ u.rdB (LGE_PRG_CMD p) LGE_PRG_CMD_BUSY = false
        ∧ u.rd (LGE_PRG_CMD p) LGE_PRG_CMD_RESULT = 0 ∧ (u.prog p).against = q
        ∧ OnlyWords [LGE_PRG_STATE p, LGE_PRG_CMD p] { s with lge := u.lge } u) ∧
  (∀ t p q s, s.lge.verify = [(p, q)] → (State.verify (({ s.advance t with lge := { s.lge with verify := [] } } : State).wrB (LGE_PRG_CMD p) LGE_PRG_CMD_BUSY false) p) = none →
    exec (.lgeVerifyComplete t p) s = .next (s.after t fun m =>
      let m := ({ m with lge := { m.lge with verify := [] } } : State).wrB (LGE_PRG_CMD p) LGE_PRG_CMD_BUSY false
      (((m.setProg p { m.prog p with against := q }).wrB (LGE_PRG_STATE p) LGE_PRG_STATE_VERIFIED true).prgResult p 0).stopSafe p)) ∧
  (∀ t p q r k s, s.lge.verify = [(p, q)] → (State.verify (({ s.advance t with lge := { s.lge with verify := [] } } : State).wrB (LGE_PRG_CMD p) LGE_PRG_CMD_BUSY false) p) = some (r, k) →
    Completes (.lgeVerifyComplete t p) s fun u =>
      u.rdB (LGE_PRG_STATE p) LGE_PRG_STATE_VERIFIED = false ∧ u.rd (LGE_PRG_CMD p) LGE_PRG_CMD_RESULT = 2
        ∧ u.rd (LGE_PRG_DETAIL p) LGE_PRG_DETAIL_REASON = r % 2 ^ LGE_PRG_DETAIL_REASON.width
        ∧ u.rd (LGE_PRG_DETAIL p) LGE_PRG_DETAIL_INDEX = k % 2 ^ LGE_PRG_DETAIL_INDEX.width) ∧
  (∀ t p q s, PrgReady s p → q < 64 → exec (.lgeExchange t p q) s = .next (s.after t fun m =>
    (((m.wr (LGE_PRG_CMD p) LGE_PRG_CMD_TARGET q).stageExchange p q).2).prgResult p
      ((m.wr (LGE_PRG_CMD p) LGE_PRG_CMD_TARGET q).stageExchange p q).1)) ∧
  (∀ t p q s, PrgReady s p → q < 64 → s.prgState p = 1 → p ≠ q → s.gridOn = true → s.rdB (LGE_PRG_CFG p) LGE_PRG_CFG_VALID = true →
    s.prgState q = 0 → s.rdB (LGE_PRG_STATE q) LGE_PRG_STATE_VERIFIED = true → (s.prog q).against = p → (∀ c ∈ s.lge.progs, c.2.exch = none) →
    ((s.advance t).wr (LGE_PRG_CMD p) LGE_PRG_CMD_TARGET q).targetsTaken q p = false → Completes (.lgeExchange t p q) s fun u =>
      u.rdB (LGE_PRG_STATE p) LGE_PRG_STATE_EXCH_PENDING = true ∧ (u.prog p).exch = some { val := q, eff := u.stageAt } ∧ u.prgState p = 1
        ∧ u.rd (LGE_PRG_CMD p) LGE_PRG_CMD_RESULT = 0 ∧ OnlyWords [LGE_PRG_STATE p, LGE_PRG_CMD p] { s with lge := u.lge } u) ∧
  (∀ t p q s, PrgReady s p → s.prgState p = 2 → Completes (.lgeExchange t p q) s fun u =>
    u.rd (LGE_PRG_CMD p) LGE_PRG_CMD_RESULT = 1 ∧ OnlyWords [LGE_PRG_CMD p] s u) ∧
  (∀ t p x s, PrgReady s p → (s.prog p).exch = some x → s.gridOn = false → exec (.lgeCancelExchange t p) s = .next (s.after t fun m =>
    (m.dropExchange p).prgResult p 0)) ∧
  (∀ t p s, PrgReady s p → (s.prog p).exch = none → Completes (.lgeCancelExchange t p) s fun u =>
    u.rd (LGE_PRG_CMD p) LGE_PRG_CMD_RESULT = 0 ∧ OnlyWords [LGE_PRG_CMD p] s u) ∧
  (∀ t p f var value s, p < 64 → f < 256 → (∀ d ∈ s.decls p, d.var ≠ var % 65536) → Completes (.forceTableWrite t p f var true value) s fun u =>
    u.rdB LGE_STAT LGE_STAT_CFG_REJ = true ∧ OnlyWords [LGE_STAT] s u) ∧
  (∀ t p f var valid value s, p < 64 → f < 256 → (valid = true → ∃ d ∈ s.decls p, d.var = var % 65536) →
    exec (.forceTableWrite t p f var valid value) s = .next (s.after t fun m =>
      ((m.putForce p f var value.toNat valid).forceShow p).postTenant 0x0705 (m.prgOwner p)
        (p2 p ++ p2 var ++ p1 (b2n valid) ++ p4 value.toNat ++ p4 0))) ∧
  (∀ t us s, s.rdB LGE_CTRL LGE_CTRL_EN = false → Completes (.scan t us) s fun u => u = { s with now := u.now }) ∧
  (∀ t us s, s.lge.queue = [] → Completes (.scan t us) s fun u => u = { s with now := u.now }) ∧
  (∀ t us s, s.gridOn = false → Completes (.scan t us) s fun u => u = { s with now := u.now }) ∧
  (∀ t us s, s.freeUnit = none → Completes (.scan t us) s fun u => u = { s with now := u.now }) ∧
  (∀ t us q s, s.rdB LGE_CTRL LGE_CTRL_EN = true → s.gridOn = true → s.freeUnit.isSome = true → s.nextScan = some q →
    exec (.scan t us) s = .next (s.after t fun m => let r := m.scanRun q.prog; r.1.s.afterPhase r.1 r.2 us)) ∧
  (∀ t us q s, s.rdB LGE_CTRL LGE_CTRL_EN = true → s.gridOn = true → s.freeUnit.isSome = true → s.nextScan = some q →
    ((s.advance t).scanRun q.prog).2 = .done → us ≤ ((s.advance t).scanRun q.prog).1.s.prgWd q.prog → q.prog < 64 →
    Completes (.scan t us) s fun u =>
      (u.prog q.prog).halt = none ∧ (u.prog q.prog).unit = none ∧ (u.prog q.prog).holdNext = false
        ∧ u.rdB (LGE_PRG_STATE q.prog) LGE_PRG_STATE_HALTED = false) ∧
  (∀ a b (s : State), s.lge.queue = [a, b] → b.deadline < a.deadline → s.nextScan = some b) ∧
  (∀ a b (s : State), s.lge.queue = [a, b] → a.deadline = b.deadline → a.prog < b.prog → s.nextScan = some a) ∧
  (∀ t p us s, (s.prog p).unit = none → Completes (.lgeWatchdog t p us) s fun u => u = { s with now := u.now }) ∧
  (∀ t p us s, (s.prog p).unit.isSome = true → us ≤ s.prgWd p → Completes (.lgeWatchdog t p us) s fun u => u = { s with now := u.now }) ∧
  (∀ t p us s, (s.prog p).unit.isSome = true → s.prgWd p < us → exec (.lgeWatchdog t p us) s = .next (s.after t fun m =>
    let m := (m.prgTime p us).bump (cntLGE_WATCHDOGS p) 1
    (m.postTenant 0x0702 (m.prgOwner p) (p2 p ++ p4 (m.prog p).j ++ p4 us)).progStop p 1)) ∧
  (∀ t p us s, p < 64 → (s.prog p).unit.isSome = true → s.prgWd p < us → Completes (.lgeWatchdog t p us) s fun u =>
    u.prgState p = 0 ∧ u.rd (LGE_PRG_STATE p) LGE_PRG_STATE_STOP_CAUSE = 1 ∧ (u.prog p).unit = none ∧ u.scanOpen p = false) ∧
  (∀ t core n w v s, s.coreTenant core = some n → w < 1024 → Completes (.twLgiWrite t core w v) s fun u =>
    cget (fun _ => 0) u.lge.inputs (n * 1024 + w) = v ∧ u = { s with now := u.now, lge := { s.lge with inputs := u.lge.inputs } }) ∧
  (∀ t core w v s, s.coreTenant core = none → Completes (.twLgiWrite t core w v) s fun u => u = { s with now := u.now })

/-! ### Outputs (R318 to R348) -/

/-- Trip registers, bindings and FENCE (R319 to R330): a tenant writes its own trip register, and the outputs follow; a binding that
fails R324's checks is refused whole; FENCE follows its ball, or stays latched until it is cleared.
Where a clause rests on the model's own choices: log entry 36. -/
def Obligations.TripsAndFence : Prop :=
  (∀ t core n v s, s.coreTenant core = some n → exec (.twTrip t core v) s = .next (s.after t fun m => (m.setTripReg n v.toNat).settle)) ∧
  (∀ t core n v s, s.coreTenant core = some n → exec (.twTripSet t core v) s = .next (s.after t fun m =>
    (m.setTripReg n (m.tripReg n ||| v.toNat)).settle)) ∧
  (∀ t core n v s, s.coreTenant core = some n → exec (.twTripClr t core v) s = .next (s.after t fun m =>
    (m.setTripReg n (m.tripReg n &&& (~~~v).toNat)).settle)) ∧
  (∀ t core v s, s.coreTenant core = none → Completes (.twTrip t core v) s fun u => u = { s with now := u.now }) ∧
  (∀ t core n v s, s.coreTenant core = some n → Completes (.twTrip t core v) s fun u => u.tripReg n = v.toNat) ∧
  (∀ t core n v s, s.coreTenant core = some n → Completes (.twTripSet t core v) s fun u =>
    u.tripReg n = (s.tripReg n ||| v.toNat) % 2 ^ 32) ∧
  (∀ t core n v s, s.coreTenant core = some n → Completes (.twTripClr t core v) s fun u =>
    u.tripReg n = (s.tripReg n &&& (~~~v).toNat) % 2 ^ 32) ∧
  (∀ t b k v s, b < 256 → k < 8 → ((s.wrW (OUT_BINDING b k) v).binding b).valid = true →
    (s.wrW (OUT_BINDING b k) v).bindingOk ((s.wrW (OUT_BINDING b k) v).binding b) = false → Completes (.bindingWrite t b k v) s fun u =>
      u.rdB OUT_STAT OUT_STAT_CFG_REJ = true ∧ u.rdW (OUT_BINDING b k) = s.rdW (OUT_BINDING b k) ∧ OnlyWords [OUT_STAT] s u) ∧
  (∀ t b k v s, b < 256 → k < 8 → ((s.wrW (OUT_BINDING b k) v).binding b).valid = false →
    exec (.bindingWrite t b k v) s = .next (s.after t fun m =>
      State.settle { m.wrW (OUT_BINDING b k) v with out := { m.out with elem := cset (fun _ => none) m.out.elem b none } })) ∧
  (∀ t v s, exec (.outBindArmWrite t v) s = .next (s.after t fun m =>
    (m.wrW (OUT_BINDING (fget OUT_BIND_ARM_BIND v) 0) (BitVec.ofNat 32 (nsetBit (m.rdW (OUT_BINDING (fget OUT_BIND_ARM_BIND v) 0)).toNat 1
      (fget OUT_BIND_ARM_ARM v != 0)))).settle)) ∧
  (∀ t v s, Completes (.outBindArmWrite t v) s fun u =>
    (u.binding (fget OUT_BIND_ARM_BIND v)).arm = (fget OUT_BIND_ARM_ARM v != 0)
      ∧ (u.binding (fget OUT_BIND_ARM_BIND v)).balls = (s.binding (fget OUT_BIND_ARM_BIND v)).balls) ∧
  (∀ t s, s.pairMember = false → exec (.fenceAssert t) s = .next (s.after t fun m => (m.wrB OUT_STAT OUT_STAT_FENCE_N false).setFence true)) ∧
  (∀ t s, exec (.fenceAssert t) s = .next (s.after t fun m => ((m.wrB OUT_STAT OUT_STAT_FENCE_N false).setFence true).fenceRole)) ∧
  (∀ t s, s.pairMember = false → s.fenced = false → Completes (.fenceAssert t) s fun u =>
    u.fenced = true ∧ u.rdB OUT_STAT OUT_STAT_FENCE_N = false ∧ u.rdB OUT_STAT OUT_STAT_MUTED = true
      ∧ u.count cntOUT_FENCE_EVENTS = (s.count cntOUT_FENCE_EVENTS + 1) % 2 ^ 64) ∧
  (∀ t s, s.rdB OUT_CTRL OUT_CTRL_FENCE_LATCH = true → Completes (.fenceRelease t) s fun u =>
    u.rdB OUT_STAT OUT_STAT_FENCE_N = true ∧ u.fenced = s.fenced ∧ OnlyWords [OUT_STAT] s u) ∧
  (∀ t s, s.rdB OUT_CTRL OUT_CTRL_FENCE_LATCH = false → exec (.fenceRelease t) s = .next (s.after t fun m =>
    (m.wrB OUT_STAT OUT_STAT_FENCE_N true).setFence false)) ∧
  (∀ t s, s.rdB OUT_STAT OUT_STAT_FENCE_N = false → Completes (.outFenceClr t) s fun u => u = { s with now := u.now }) ∧
  (∀ t s, s.rdB OUT_STAT OUT_STAT_FENCE_N = true → s.fenced = true → Completes (.outFenceClr t) s fun u =>
    u.fenced = false ∧ u.rdB OUT_STAT OUT_STAT_FENCE_N = true
      ∧ u.count cntOUT_FENCE_EVENTS = (s.count cntOUT_FENCE_EVENTS + 1) % 2 ^ 64) ∧
  (∀ t s, s.rdB OUT_STAT OUT_STAT_FENCE_N = true → exec (.outFenceClr t) s = .next (s.after t fun m => m.setFence false))

/-- The owner that a value of OUT_PUB_OWNER names (R337). -/
def Sys2Proof.Machine.askedOwner (v : Word) : Option Nat :=
  if fget OUT_PUB_OWNER_VALID v = 0 then none else some (fget OUT_PUB_OWNER_TENANT v)

/-- Binary inputs and publishers (R331 to R341): a blocked input accepts no change; an accepted change is timestamped to its first
differing sample and offered to the recorders; a commit is queued or refused; a retransmission waits for its instant; a slot that a binding or a publisher names
keeps its owner (R337).
Where a clause rests on the model's own choices: log entries 37, 38. -/
def Obligations.InputsAndPublishers : Prop :=
  (∀ t n s, (s.advance t).dom % 1000 ≠ 0 → Completes (.binChangeAccepted t n) s fun u => u = { s with now := u.now }) ∧
  (∀ t n s, s.binBlocked n = true → Completes (.binChangeAccepted t n) s fun u =>
    u.binState n = s.binState n ∧ u = { s with now := u.now, out := { s.out with chatter := u.out.chatter } }) ∧
  (∀ t n s, n < 32 → s.binBlocked n = false → (s.advance t).dom % 1000 = 0 → Completes (.binChangeAccepted t n) s fun u =>
    u.binState n = !s.binState n ∧ (∀ k, k < 32 → k ≠ n → u.binState k = s.binState k)) ∧
  (∀ t n s, n < 32 → s.binBlocked n = false → exec (.binChangeAccepted t n) s = .next (s.after t fun m =>
    (m.binAccept n).2.recBin n (m.binAccept n).1)) ∧
  (∀ n (s : State), n < 32 → s.binBlocked n = false → s.dom % 1000 = 0 → (s.binAccept n).1
    = some (!s.binState n, (s.dom / 1000 - (max 1 (s.rd (OUT_BIN_CFG n) OUT_BIN_CFG_DEBOUNCE) - 1)) * 1000)) ∧
  (∀ t n level s, s.binBlocked n = false → Completes (.binBlockEnd t n level) s fun u => u = { s with now := u.now }) ∧
  (∀ t n level s, n < 32 → s.binBlocked n = true → exec (.binBlockEnd t n level) s = .next (s.after t fun m =>
    (m.binUnblock n level).2.recBin n (m.binUnblock n level).1)) ∧
  (∀ t n level s, (s.advance t).dom % 1000000000 ≠ 0 → Completes (.binBlockEnd t n level) s fun u => u = { s with now := u.now }) ∧
  (∀ t n level s, n < 32 → s.binBlocked n = true → s.binState n = level → (s.advance t).dom % 1000000000 = 0 →
    (cget (fun _ => (0, 0)) s.out.chatter n).1 + 2 ≤ (s.advance t).dom / 1000000000 → Completes (.binBlockEnd t n level) s fun u =>
    u.binBlocked n = false ∧ u.binState n = level ∧ u.out = s.out) ∧
  (∀ t s, Completes (.outBinEvtPop t) s fun u =>
    u.out = { s.out with events := s.out.events.drop 1 } ∧
      (∀ k, k < 4 → u.rdW (OUT_BIN_EVT k) = BitVec.ofNat 32 (leAt ((s.out.events.drop 1).headD []) (4 * k) 4)) ∧
      u.rd OUT_STAT OUT_STAT_BIN_EVT_COUNT = (s.out.events.drop 1).length % 2 ^ OUT_STAT_BIN_EVT_COUNT.width) ∧
  (∀ t core n v s, s.coreTenant core = some n → s.tenState n = 4 → Completes (.twPubCommit t core v) s fun u =>
    cget (fun _ => 0) u.out.stat core = 0x0501 ∧ u = { s with now := u.now, out := { s.out with stat := u.out.stat } }) ∧
  (∀ t core n v s, s.coreTenant core = some n → s.tenState n = 2 → s.slotOwner (v.toNat % 4096) ≠ some n →
    Completes (.twPubCommit t core v) s fun u =>
      cget (fun _ => 0) u.out.stat core = 0x0540 ∧ u = { s with now := u.now, out := { s.out with stat := u.out.stat } }) ∧
  (∀ t core n v s, s.coreTenant core = some n → s.tenState n = 2 → s.slotOwner (v.toNat % 4096) = some n →
    v.toNat / 4096 % 256 + (v.toNat / 1048576 % 256 + 1) ≤ 256 →
    (s.queueOf (v.toNat % 4096)).length < max 1 (s.rd (TEN_LIMIT_CUR n) TEN_LIMIT_CUR_PUBQ) →
    exec (.twPubCommit t core v) s = .next (s.after t fun m =>
      let vs := (List.range (v.toNat / 1048576 % 256 + 1)).map (fun i => m.staged core (v.toNat / 4096 % 256 + i))
      let c : OutCommit := { first := v.toNat / 4096 % 256, values := vs }
      let u := (m.setQueue (v.toNat % 4096) (m.queueOf (v.toNat % 4096) ++ [c])).holdOr (.commit (v.toNat % 4096))
      { u with out := { u.out with stat := cset (fun _ => 0) u.out.stat core 0 } })) ∧
  (∀ t p s, s.pubDyn p = none → Completes (.scheduledRetransmission t p) s fun u => u = { s with now := u.now }) ∧
  (∀ t p x s, s.pubDyn p = some x → max s.now t < x.next → Completes (.scheduledRetransmission t p) s fun u => u = { s with now := u.now }) ∧
  (∀ t p x s, s.pubDyn p = some x → (s.pubRec p).type = 1 → x.next ≤ max s.now t → x.keyBad = false →
    exec (.scheduledRetransmission t p) s = .next (s.after t fun m =>
      let d := if x.step + 1 ≤ (m.pubRec p).repeats then (m.pubRec p).t1 else min (2 * x.interval) (m.pubRec p).t0
      ((m.setPub p (some { x with step := x.step + 1, interval := d, next := x.next + 1000 * d })).setNums p (m.stNum p)
        (nextNum (m.sqNum p))).sendGoose p (m.pubRec p))) ∧
  (∀ t p x s, p < 1024 → s.pubDyn p = some x → (s.pubRec p).type = 1 → x.next ≤ max s.now t → x.keyBad = false →
    Completes (.scheduledRetransmission t p) s fun u =>
      u.stNum p = s.stNum p ∧ u.sqNum p = nextNum (s.sqNum p) ∧ ∃ y, u.pubDyn p = some y ∧ y.step = x.step + 1
        ∧ y.next = x.next + 1000 * y.interval
        ∧ y.interval = (if x.step + 1 ≤ (s.pubRec p).repeats then (s.pubRec p).t1 else min (2 * x.interval) (s.pubRec p).t0)) ∧
  (∀ t slot b v s, StrobesSeen s → slot < 4096 → b < 256 → s.slotOwner slot ≠ askedOwner v → (s.rdW (OUT_BINDING b 0)).toNat.testBit 0 = true →
    (s.rdW (OUT_BINDING b 0)).toNat.testBit 3 = true → (s.rdW (OUT_BINDING b 1)).toNat / 65536 % 4096 = slot →
    Completes (.registerWrite t none (OUT_PUB_OWNER slot) v) s fun u => u.rdB OUT_STAT OUT_STAT_CFG_REJ = true ∧ OnlyWords [OUT_STAT] s u) ∧
  (∀ t slot p x v s, StrobesSeen s → slot < 4096 → s.slotOwner slot ≠ askedOwner v → s.pubDyn p = some x → (s.pubRec p).type ≠ 3 →
    (s.pubRec p).source % 4096 = slot →
    Completes (.registerWrite t none (OUT_PUB_OWNER slot) v) s fun u => u.rdB OUT_STAT OUT_STAT_CFG_REJ = true ∧ OnlyWords [OUT_STAT] s u) ∧
  (∀ t slot v s, StrobesSeen s → slot < 4096 →
    (s.slotOwner slot = askedOwner v ∨ ((∀ b, b < 256 → (s.rdW (OUT_BINDING b 0)).toNat.testBit 0 = true →
        ¬ ((s.rdW (OUT_BINDING b 0)).toNat.testBit 3 = true ∧ (s.rdW (OUT_BINDING b 1)).toNat / 65536 % 4096 = slot))
      ∧ (∀ p, p ∈ s.livePubs → (s.pubRec p).type ≠ 3 → (s.pubRec p).source % 4096 ≠ slot))) →
    Completes (.registerWrite t none (OUT_PUB_OWNER slot) v) s fun u =>
      u.slotOwner slot = askedOwner v ∧ OnlyWords [OUT_PUB_OWNER slot] s u)

/-! ### Recorders (R349 to R370) -/

/-- The commands of REC_CMD and the reading of entries (R349 to R363).
Where a clause rests on the model's own choices: log entry 48. -/
def Obligations.RecorderCommands : Prop :=
  (∀ t r s, StrobesSeen s → r < 16 → (s.recState r = 1 ∨ s.recState r = 2) → Completes (.recOpArm t r) s fun u =>
    u.rd (REC_CMD r) REC_CMD_RESULT = 1 ∧ u.recState r = s.recState r ∧ OnlyWords [REC_CMD r] s u) ∧
  (∀ t r s, StrobesSeen s → r < 16 → s.gridOn = false → Completes (.recOpArm t r) s fun u =>
    u.rd (REC_CMD r) REC_CMD_RESULT = 1 ∧ OnlyWords [REC_CMD r] s u) ∧
  (∀ t r s, r < 16 → exec (.recOpArm t r) s = .next (s.after t fun m =>
    (m.recSync.recArm r).2.2.recResult r (m.recSync.recArm r).1 (m.recSync.recArm r).2.1)) ∧
  (∀ t r s, r < 16 → s.recActive r = true → exec (.recOpDisarm t r) s = .next (s.after t fun m => (m.recEnd r 2).recResult r 0 0)) ∧
  (∀ t r s, r < 16 → s.recActive r = false → Completes (.recOpDisarm t r) s fun u =>
    u.rd (REC_CMD r) REC_CMD_RESULT = 1 ∧ OnlyWords [REC_CMD r] s u) ∧
  (∀ t r s, StrobesSeen s → r < 16 → (s.rd (REC_TRIG_EN r) REC_TRIG_EN_SOURCES).testBit 8 = false → Completes (.recOpTrigger t r) s fun u =>
    u.rd (REC_CMD r) REC_CMD_RESULT = 0 ∧ u.recState r = s.recState r ∧ OnlyWords [REC_CMD r] s u) ∧
  (∀ t r s, StrobesSeen s → r < 16 → (s.rd (REC_TRIG_EN r) REC_TRIG_EN_SOURCES).testBit 8 = true → s.recState r = 0 →
    Completes (.recOpTrigger t r) s fun u =>
      u.count (cntREC_TRIG_IGNORED r) = (s.count (cntREC_TRIG_IGNORED r) + 1) % 2 ^ 64 ∧ u.recState r = 0
        ∧ OnlyWords [REC_CMD r] { s with cnt := u.cnt } u) ∧
  (∀ t r s, r < 16 → exec (.recOpTrigger t r) s = .next (s.after t fun m =>
    ((m.recSync.recOffer r 9 m.stamp 0 none).2.recResult r 0 0).recSync)) ∧
  (∀ t r s, StrobesSeen s → s.gridOn = false → Completes (.recEntryRead t r) s fun u => u = { s with now := u.now }) ∧
  (∀ t r s, StrobesSeen s → r < 16 → s.recActive r = true → s.rdB REC_CTRL REC_CTRL_EN = true → s.gridOn = true →
    (s.advance t).recInst r (s.recDyn r).next + 1000 * s.rd (REC_LAG r) REC_LAG_US ≤ (s.advance t).dom →
    exec (.recEntryRead t r) s = .next (s.after t fun m => (m.recEntry r).recSync)) ∧
  (∀ t r s, StrobesSeen s → r < 16 → s.recActive r = true → s.rdB REC_CTRL REC_CTRL_EN = true → s.gridOn = true →
    (s.advance t).recInst r (s.recDyn r).next + 1000 * s.rd (REC_LAG r) REC_LAG_US ≤ (s.advance t).dom →
    Completes (.recEntryRead t r) s fun u =>
      (u.recDyn r).next = (s.recDyn r).next + 1 ∧ u.rdW (REC_NEWEST r) = BitVec.ofNat 32 (s.recDyn r).next
        ∧ u.count (cntREC_ENTRIES r) = (s.count (cntREC_ENTRIES r) + 1) % 2 ^ 64)

/-- Trigger lines, injected and domain triggers (R363 to R370).
Where a clause rests on the model's own choices: log entry 48. -/
def Obligations.RecorderTriggers : Prop :=
  (∀ t l s, l < 8 → (s.rd REC_XTRG_STAT REC_XTRG_STAT_ASSERTED).testBit l = true → Completes (.xtrgQualify t l) s fun u =>
    u = { s with now := u.now }) ∧
  (∀ t l s, l < 8 → (s.rd REC_XTRG_STAT REC_XTRG_STAT_ASSERTED).testBit l = false → s.rdB (REC_XTRG_CFG l) REC_XTRG_CFG_SELF_MASK = false →
    exec (.xtrgQualify t l) s = .next (s.after t fun m =>
      let n := m.wr REC_XTRG_STAT REC_XTRG_STAT_ASSERTED (nsetBit (m.rd REC_XTRG_STAT REC_XTRG_STAT_ASSERTED) l true)
      (n.recSync.recOfferAll (fun r => (n.rd (REC_TRIG_XTRG r) REC_TRIG_XTRG_LINES).testBit l) 5
        ((m.dom / 1000 - (max 1 (m.rd (REC_XTRG_CFG l) REC_XTRG_CFG_FILT) - 1)) * 1000) l).recSync)) ∧
  (∀ t l s, l < 8 → (s.rd REC_XTRG_STAT REC_XTRG_STAT_ASSERTED).testBit l = false → s.rdB (REC_XTRG_CFG l) REC_XTRG_CFG_SELF_MASK = false →
    Completes (.xtrgQualify t l) s fun u => (u.rd REC_XTRG_STAT REC_XTRG_STAT_ASSERTED).testBit l = true) ∧
  (∀ t l s, l < 8 → Completes (.xtrgRelease t l) s fun u =>
    (u.rd REC_XTRG_STAT REC_XTRG_STAT_ASSERTED).testBit l = false ∧
      (∀ k, k < 8 → k ≠ l → (u.rd REC_XTRG_STAT REC_XTRG_STAT_ASSERTED).testBit k = (s.rd REC_XTRG_STAT REC_XTRG_STAT_ASSERTED).testBit k) ∧
      OnlyWords [REC_XTRG_STAT] s u) ∧
  (∀ t l s, l < 8 → (cget (fun _ => {}) s.rec_.lines l).until_ ≤ max s.now t → Completes (.xtrgPulseEnd t l) s fun u =>
    (u.rd REC_XTRG_STAT REC_XTRG_STAT_DRIVING).testBit l = false ∧ OnlyWords [REC_XTRG_STAT] { s with rec_ := u.rec_ } u) ∧
  (∀ t l s, l < 8 → max s.now t < (cget (fun _ => {}) s.rec_.lines l).until_ → Completes (.xtrgPulseEnd t l) s fun u =>
    u = { s with now := u.now }) ∧
  (∀ t b s, beAt b 12 2 ≠ 0x8100 → beAt b 12 2 ≠ 0x88B5 → Completes (.domainTriggerFrame t b) s fun u => u = { s with now := u.now }) ∧
  (∀ t b s, beAt b 12 2 = 0x88B5 → 54 ≤ b.length → byteAt (b.drop 14) 0 = 1 → byteAt (b.drop 14) 1 = 1 →
    ((s.advance t).grant (s.rd REC_DOM_CFG REC_DOM_CFG_KEY) ⟨[2], [uVerify]⟩ .steward false).1 ≠ 0 →
    exec (.domainTriggerFrame t b) s = .next (s.after t fun m =>
      ((m.grant (m.rd REC_DOM_CFG REC_DOM_CFG_KEY) ⟨[2], [uVerify]⟩ .steward false).2).domReject (beAt (b.drop 14) 4 4) (beAt (b.drop 14) 16 4) 1)) ∧
  (∀ t b m s, beAt b 12 2 = 0x88B5 → 54 ≤ b.length → byteAt (b.drop 14) 0 = 1 → byteAt (b.drop 14) 1 = 1 →
    (s.advance t).grant (s.rd REC_DOM_CFG REC_DOM_CFG_KEY) ⟨[2], [uVerify]⟩ .steward false = (0, m) →
    macTag (m.slot (s.rd REC_DOM_CFG REC_DOM_CFG_KEY)).value (b.take 38) true = slice (b.drop 14) 24 16 →
    m.rec_.seen.contains (beAt (b.drop 14) 4 4, beAt (b.drop 14) 16 4) = true →
    exec (.domainTriggerFrame t b) s = .next (s.after t fun _ => m)) ∧
  (∀ t b m s, beAt b 12 2 = 0x88B5 → 54 ≤ b.length → byteAt (b.drop 14) 0 = 1 → byteAt (b.drop 14) 1 = 1 →
    (s.advance t).grant (s.rd REC_DOM_CFG REC_DOM_CFG_KEY) ⟨[2], [uVerify]⟩ .steward false = (0, m) →
    macTag (m.slot (s.rd REC_DOM_CFG REC_DOM_CFG_KEY)).value (b.take 38) true = slice (b.drop 14) 24 16 →
    m.rec_.seen.contains (beAt (b.drop 14) 4 4, beAt (b.drop 14) 16 4) = false →
    Completes (.domainTriggerFrame t b) s fun u =>
      (beAt (b.drop 14) 4 4, beAt (b.drop 14) 16 4) ∈ u.rec_.seen ∧ u.rdW REC_INJECT_DETAIL = BitVec.ofNat 32 (beAt (b.drop 14) 4 4)) ∧
  (∀ t v s, fget REC_INJECT_SOURCE v ≠ 7 → fget REC_INJECT_SOURCE v ≠ 9 → Completes (.recInject t v) s fun u => u = { s with now := u.now }) ∧
  (∀ t v s, StrobesSeen s → fget REC_INJECT_SOURCE v = 9 → fget REC_INJECT_MASK v = 0 → Completes (.recInject t v) s fun u =>
    u.rd REC_INJECT_STAT REC_INJECT_STAT_ACCEPTED = 0 ∧ u.rd REC_INJECT_STAT REC_INJECT_STAT_TOO_OLD = 0 ∧ OnlyWords [REC_INJECT_STAT] s u) ∧
  (∀ t v s, fget REC_INJECT_SOURCE v = 9 → fget REC_INJECT_NOW v = 1 → fget REC_INJECT_MASK v = 1 →
    exec (.recInject t v) s = .next (s.after t fun m =>
      let x := m.recOffer 0 9 m.stamp (m.rdW REC_INJECT_DETAIL).toNat none
      ((x.2.wr REC_INJECT_STAT REC_INJECT_STAT_TOO_OLD (if x.1 = .tooOld then 1 else 0)).wr REC_INJECT_STAT REC_INJECT_STAT_ACCEPTED
        (if x.1 = .accepted then 1 else 0)).recSync))

/-! ### The Almanac (R371 to R393) -/

/-- A cursor command begins unless one is under way (R387). -/
def Sys2Proof.Machine.CursorBegins (i : Instr) (op : Nat) (s : State) : Prop :=
  s.rdB ALM_CUR_STAT ALM_CUR_STAT_BUSY = false → Completes i s fun u =>
    u.rdB ALM_CUR_STAT ALM_CUR_STAT_BUSY = true
      ∧ u.alm.cursorOp = some (op, s.rd ALM_CUR_CH ALM_CUR_CH_CHANNEL, s.rd ALM_CUR_SEQ ALM_CUR_SEQ_SEQ)
      ∧ OnlyWords [ALM_CUR_STAT] { s with alm := { s.alm with cursorOp := u.alm.cursorOp } } u

/-- Posts and the writer (R381 to R386, R392): a post with a code or a size out of range, or at an absent channel, is refused with its
status; an accepted one goes to the intake; a core's post goes to its tenant's own channel; a clear empties a tenant channel.
Where a clause rests on the model's own choices: log entries 14, 35. -/
def Obligations.AlmanacPostsAndCursor : Prop :=
  (∀ t v s, (stewardCode (fget ALM_POST_CODE v) = false ∨ 14 < fget ALM_POST_PSIZE v) → Completes (.almPost t v) s fun u =>
    u.rd ALM_POST_STAT ALM_POST_STAT_STATUS = 0x0560 ∧ u.rdB ALM_STAT ALM_STAT_CFG_REJ = true ∧ u.alm = s.alm
      ∧ OnlyWords [ALM_STAT, ALM_POST_STAT] s u) ∧
  (∀ t v s, stewardCode (fget ALM_POST_CODE v) = true → fget ALM_POST_PSIZE v ≤ 14 → s.chanPresent (fget ALM_POST_CHANNEL v) = false →
    Completes (.almPost t v) s fun u =>
      u.rd ALM_POST_STAT ALM_POST_STAT_STATUS = 0x0301 ∧ u.rdB ALM_STAT ALM_STAT_CFG_REJ = true ∧ OnlyWords [ALM_STAT, ALM_POST_STAT] s u) ∧
  (∀ t v s, stewardCode (fget ALM_POST_CODE v) = true → fget ALM_POST_PSIZE v ≤ 14 → s.chanPresent (fget ALM_POST_CHANNEL v) = true →
    exec (.almPost t v) s = .next (s.after t fun m =>
      let x := m.postOut (fget ALM_POST_CHANNEL v) (fget ALM_POST_CODE v) (m.almStaged (16 * fget ALM_POST_PSIZE v)) false
      x.2.wr ALM_POST_STAT ALM_POST_STAT_STATUS (postStatus x.1))) ∧
  (∀ t core n v s, s.coreTenant core = some n → (v.toNat % 65536 < 0x8000 ∨ 14 < v.toNat / 65536 % 16) → Completes (.twAlmPost t core v) s fun u =>
    cget (fun _ => 0) u.alm.stat core = 0x0560 ∧ u = { s with now := u.now, alm := { s.alm with stat := u.alm.stat } }) ∧
  (∀ t core n v s, s.coreTenant core = some n → 0x8000 ≤ v.toNat % 65536 → v.toNat / 65536 % 16 ≤ 14 →
    exec (.twAlmPost t core v) s = .next (s.after t fun m =>
      let x := m.postOut n (v.toNat % 65536) (fitBytes (16 * (v.toNat / 65536 % 16)) (cget (fun _ => []) m.alm.stage core)) true
      { x.2 with alm := { x.2.alm with stat := cset (fun _ => 0) x.2.alm.stat core (postStatus x.1) } })) ∧
  (∀ t e s, s.alm.writing = some (.entry e) →
    ((s.advance t).commitEntry e).nextWork = none → exec (.intakeProcess t) s = .next (s.after t fun m =>
      State.almStat { m.commitEntry e with alm := { (m.commitEntry e).alm with writing := none } })) ∧
  (∀ t e s, s.alm.writing = none → s.nextWork = some (.entry e) → exec (.intakeProcess t) s = .next (s.after t fun m =>
    State.almStat { m with alm := { m.alm with writing := some (.entry e), intake := m.alm.intake.filter (fun x => x.ord != e.ord) } })) ∧
  (∀ t e r s, s.alm.writing = some (.entry e) → e.ch < 528 → s.chanRefuses e.ch = false → (s.chan e.ch).newest = some r → r.kind = 0 →
    r.code = e.code → r.payload = e.payload → r.rep ≠ 0xFFFFFFFF → Completes (.intakeProcess t) s fun u =>
      (u.chan e.ch).newest = some { r with rep := satNat 0xFFFFFFFF (r.rep + e.count), lastTime := e.last }
        ∧ u.count (cntALM_FOLDS e.ch) = (s.count (cntALM_FOLDS e.ch) + e.count) % 2 ^ 64) ∧
  (∀ t v s, (512 ≤ fget ALM_CLEAR_CHANNEL v ∨ s.chanPresent (fget ALM_CLEAR_CHANNEL v) = false ∨ s.quota (fget ALM_CLEAR_CHANNEL v) = 0) →
    Completes (.almClearWrite t v) s fun u => u.rdB ALM_STAT ALM_STAT_CFG_REJ = true ∧ u.alm = s.alm ∧ OnlyWords [ALM_STAT] s u) ∧
  (∀ t v s, fget ALM_CLEAR_CHANNEL v < 512 → s.chanPresent (fget ALM_CLEAR_CHANNEL v) = true → s.quota (fget ALM_CLEAR_CHANNEL v) ≠ 0 →
    exec (.almClearWrite t v) s = .next (s.after t fun m =>
      let r : AlmRec := { kind := 3, code := 0x0A03, seq := 0, bytes := 64, rep := 0, time := m.stamp, lastTime := 0, payload := m.almStaged 32 }
      (m.emptyChan (fget ALM_CLEAR_CHANNEL v)).appendRec (fget ALM_CLEAR_CHANNEL v) r)) ∧
  (∀ t s, CursorBegins (.cursorSeek t) 1 s) ∧ (∀ t s, CursorBegins (.cursorNext t) 2 s) ∧
  (∀ t s, CursorBegins (.cursorFirst t) 3 s) ∧ (∀ t s, CursorBegins (.cursorLast t) 4 s) ∧
  (∀ t s, s.rdB ALM_CUR_STAT ALM_CUR_STAT_BUSY = true → Completes (.cursorSeek t) s fun u => u = { s with now := u.now }) ∧
  (∀ t s, s.alm.cursorOp = none → Completes (.cursorCommandComplete t) s fun u => u = { s with now := u.now }) ∧
  (∀ t op ch seq s, s.alm.cursorOp = some (op, ch, seq) → s.chanPresent ch = false → Completes (.cursorCommandComplete t) s fun u =>
    u.rdB ALM_CUR_STAT ALM_CUR_STAT_BUSY = false ∧ u.rd ALM_CUR_STAT ALM_CUR_STAT_RESULT = 4 ∧ u.alm.cursorOp = none
      ∧ (op = 1 → seq < 2 ^ 32 → u.rd ALM_CUR_SEQ ALM_CUR_SEQ_SEQ = seq)) ∧
  (∀ t ch seq s, s.alm.cursorOp = some (1, ch, seq) → s.chanPresent ch = true → seq < 2 ^ 32 → Completes (.cursorCommandComplete t) s fun u =>
    u.rdB ALM_CUR_STAT ALM_CUR_STAT_BUSY = false ∧ u.rd ALM_CUR_STAT ALM_CUR_STAT_RESULT = (s.locate ch seq).1
      ∧ u.rd ALM_CUR_SEQ ALM_CUR_SEQ_SEQ = seq ∧ u.alm.cursorOp = none) ∧
  (∀ t ch seq s, s.alm.cursorOp = some (2, ch, seq) → Completes (.cursorCommandComplete t) s fun u =>
    u.rdB ALM_CUR_STAT ALM_CUR_STAT_BUSY = false ∧ u.rd ALM_CUR_SEQ ALM_CUR_SEQ_SEQ = (seq + 1) % 2 ^ 32) ∧
  (∀ t ch seq s, s.alm.cursorOp = some (3, ch, seq) → Completes (.cursorCommandComplete t) s fun u =>
    u.rdB ALM_CUR_STAT ALM_CUR_STAT_BUSY = false ∧ u.rd ALM_CUR_SEQ ALM_CUR_SEQ_SEQ = s.rd (ALM_CH_FIRST ch) ALM_CH_FIRST_SEQ) ∧
  (∀ ch seq (s : State), 0 ≤ diff32 seq (s.rd (ALM_CH_NEXT ch) ALM_CH_NEXT_SEQ) → s.locate ch seq = (1, none)) ∧
  (∀ ch seq r (s : State), diff32 seq (s.rd (ALM_CH_NEXT ch) ALM_CH_NEXT_SEQ) < 0 → 0 ≤ diff32 seq (s.rd (ALM_CH_FIRST ch) ALM_CH_FIRST_SEQ) →
    (s.chan ch).recs.find? (fun y => y.seq == seq) = some r → r.damaged = false → s.locate ch seq = (0, some r))

/-! ### Duplex pairs, the referee and Vigil (R394 to R430) -/

/-- The commands of DPX_CMD (R402, R403, R420, R423, R430): each answers RESULT, and is ignored while one is in progress.
Where a clause rests on the model's own choices: log entry 50. -/
def Obligations.DuplexCommands : Prop :=
  (∀ t s, s.rdB DPX_CMD DPX_CMD_BUSY = false → s.pairMember = true → (s.role = 0 ∨ s.role = 6) → Completes (.requestRole t) s fun u =>
    u.dpx = { s.dpx with asking := true, askAt := some u.now } ∧ u.rd DPX_CMD DPX_CMD_RESULT = 0 ∧ OnlyWords [DPX_CMD] { s with dpx := u.dpx } u) ∧
  (∀ t s, s.rdB DPX_CMD DPX_CMD_BUSY = false → (s.role = 1 ∨ s.role = 2) → Completes (.requestRole t) s fun u =>
    u.rd DPX_CMD DPX_CMD_RESULT = 1 ∧ OnlyWords [DPX_CMD] s u) ∧
  (∀ t s, s.rdB DPX_CMD DPX_CMD_BUSY = true → Completes (.requestRole t) s fun u => u = { s with now := u.now }) ∧
  (∀ t s, s.rdB DPX_CMD DPX_CMD_BUSY = false → s.role = 2 → s.rdB DPX_CFG DPX_CFG_PREFERRED = true → s.rdB DPX_STAT DPX_STAT_ELIGIBLE = true →
    Completes (.revertNow t) s fun u => u.rdB DPX_STAT DPX_STAT_REVERT_PENDING = true ∧ u.role = 2 ∧ u.rd DPX_CMD DPX_CMD_RESULT = 0
      ∧ OnlyWords [DPX_STAT, DPX_CMD] s u) ∧
  (∀ t s, s.rdB DPX_CMD DPX_CMD_BUSY = false → s.role = 2 → s.rdB DPX_CFG DPX_CFG_PREFERRED = true → s.rdB DPX_STAT DPX_STAT_ELIGIBLE = false →
    Completes (.revertNow t) s fun u => u.rd DPX_CMD DPX_CMD_RESULT = 2 ∧ OnlyWords [DPX_CMD] s u) ∧
  (∀ t s, s.rdB DPX_CMD DPX_CMD_BUSY = false → s.role ≠ 2 → Completes (.revertNow t) s fun u =>
    u.rd DPX_CMD DPX_CMD_RESULT = 1 ∧ OnlyWords [DPX_CMD] s u) ∧
  (∀ t side s, s.rdB DPX_CMD DPX_CMD_BUSY = false → side < 2 → s.isReferee = true → Completes (.evUnfence t side) s fun u =>
    u.rdB DPX_REF_STAT (fenceFld side) = false ∧ u.rd DPX_CMD DPX_CMD_RESULT = 0 ∧ u.rd DPX_CMD DPX_CMD_SIDE = side
      ∧ OnlyWords [DPX_REF_STAT, DPX_CMD] s u) ∧
  (∀ t side s, s.rdB DPX_CMD DPX_CMD_BUSY = false → side < 2 → s.isReferee = false → s.rdB DPX_REF_STAT (fenceFld side) = false →
    Completes (.evUnfence t side) s fun u => u.rd DPX_CMD DPX_CMD_RESULT = 1 ∧ OnlyWords [DPX_CMD] s u) ∧
  (∀ t s, s.rdB DPX_CMD DPX_CMD_BUSY = false → s.isReferee = true → s.refActive ≠ 0 → exec (.evDeclare t) s = .next (s.after t fun m =>
    (m.declare 3).wr DPX_CMD DPX_CMD_RESULT 0)) ∧
  (∀ t s, s.rdB DPX_CMD DPX_CMD_BUSY = false → s.isReferee = false → Completes (.evDeclare t) s fun u =>
    u.rd DPX_CMD DPX_CMD_RESULT = 1 ∧ OnlyWords [DPX_CMD] s u) ∧
  (∀ t side b s, s.rdB DPX_CMD DPX_CMD_BUSY = false → side < 2 → s.isReferee = true → s.beat side = some b → b.role = 2 →
    exec (.forceGrant t side) s = .next (s.after t fun m =>
      (((m.wr DPX_CMD DPX_CMD_SIDE side).setRefActive (side + 1)).refSend 1
        ((m.wr DPX_CMD DPX_CMD_SIDE side).sideModule side + 65536)).wr DPX_CMD DPX_CMD_RESULT 0)) ∧
  (∀ t side b s, s.rdB DPX_CMD DPX_CMD_BUSY = false → side < 2 → s.isReferee = true → s.beat side = some b → b.role = 3 →
    Completes (.forceGrant t side) s fun u => u.rd DPX_CMD DPX_CMD_RESULT = 3 ∧ u.refActive = s.refActive ∧ OnlyWords [DPX_CMD] s u)

/-- Heartbeats and the referee's decisions (R398 to R406): a frame that is no heartbeat leaves everything; the window is checked once
a round at T(k) + WINDOW; a fatal side is fenced, and declared when it is the active; a lost referee is noted once; NEG_WAIT decides.
Where a clause rests on the model's own choices: log entries 42, 50. -/
def Obligations.HeartbeatRules : Prop :=
  (∀ t b s, s.dpxOn = false → Completes (.heartbeatFrameReceive t (some b)) s fun u => u = { s with now := u.now }) ∧
  (∀ t b s, s.dpxOn = true → beAt b 12 2 = 0x88B5 → 62 ≤ b.length → byteAt (b.drop 14) 0 = 1 → byteAt (b.drop 14) 1 = 2 →
    ((s.advance t).grant (s.rd DPX_HB_KEY DPX_HB_KEY_SLOT) ⟨[2], [uVerify]⟩ .publish false).1 ≠ 0 →
    exec (.heartbeatFrameReceive t (some b)) s = .next (s.after t fun m =>
      ((m.grant (m.rd DPX_HB_KEY DPX_HB_KEY_SLOT) ⟨[2], [uVerify]⟩ .publish false).2).bump cntDPX_HB_REJECT 1)) ∧
  (∀ t b m s, s.dpxOn = true → beAt b 12 2 = 0x88B5 → 62 ≤ b.length → byteAt (b.drop 14) 0 = 1 → byteAt (b.drop 14) 1 = 2 →
    (s.advance t).grant (s.rd DPX_HB_KEY DPX_HB_KEY_SLOT) ⟨[2], [uVerify]⟩ .publish false = (0, m) →
    macTag (m.slot (s.rd DPX_HB_KEY DPX_HB_KEY_SLOT)).value (b.take 46) true = slice (b.drop 14) 32 16 →
    beAt (b.drop 14) 2 2 = m.rd DPX_CFG DPX_CFG_PAIR → diff32 (beAt (b.drop 14) 8 4) m.dpxRound = 0 →
    exec (.heartbeatFrameReceive t (some b)) s = .next (s.after t fun _ => m.hbAccept m.dpxRound (b.drop 14))) ∧
  (∀ t b m s, s.dpxOn = true → beAt b 12 2 = 0x88B5 → 62 ≤ b.length → byteAt (b.drop 14) 0 = 1 → byteAt (b.drop 14) 1 = 2 →
    (s.advance t).grant (s.rd DPX_HB_KEY DPX_HB_KEY_SLOT) ⟨[2], [uVerify]⟩ .publish false = (0, m) →
    macTag (m.slot (s.rd DPX_HB_KEY DPX_HB_KEY_SLOT)).value (b.take 46) true = slice (b.drop 14) 32 16 →
    beAt (b.drop 14) 2 2 = m.rd DPX_CFG DPX_CFG_PAIR → diff32 (beAt (b.drop 14) 8 4) m.dpxRound = 0 →
    m.isReferee = false → m.pairMember = true → beAt (b.drop 14) 4 4 % 16384 = m.rd DPX_PEER DPX_PEER_PEER →
    Completes (.heartbeatFrameReceive t (some b)) s fun u =>
      u.rdW DPX_HEALTH_PEER = BitVec.ofNat 32 (beAt (b.drop 14) 24 4)
        ∧ ∃ x, u.beat 2 = some x ∧ x.role = byteAt (b.drop 14) 20 ∧ x.epoch = beAt (b.drop 14) 12 4 ∧ x.round = m.dpxRound) ∧
  (∀ t s, s.dpx.inbox = [] → Completes (.heartbeatFrameReceive t none) s fun u => u = { s with now := u.now }) ∧
  (∀ t a b s, s.isReferee = false → Completes (.heartbeatWindowEnd t a b) s fun u => u = { s with now := u.now }) ∧
  (∀ t s, s.isReferee = true → s.dpx.windowDone ≠ some (s.advance t).dpxRound →
    (s.advance t).dpxT (s.advance t).dpxRound + s.rd DPX_REF_CFG DPX_REF_CFG_WINDOW * 1000 ≤ (s.advance t).dom →
    Completes (.heartbeatWindowEnd t true true) s fun u =>
      u.rd DPX_REF_STAT (missFld 0) = 0 ∧ u.rd DPX_REF_STAT (missFld 1) = 0 ∧ u.refActive = s.refActive
        ∧ u.dpx.windowDone = some (s.advance t).dpxRound) ∧
  (∀ t side w s, s.isReferee = false → Completes (.fatalDetect t side w) s fun u => u = { s with now := u.now }) ∧
  (∀ t side s, s.isReferee = true → side < 2 → s.refActive = side + 1 → exec (.fatalDetect t side true) s = .next (s.after t fun m =>
    m.declare 2)) ∧
  (∀ t side s, s.isReferee = true → side < 2 → s.refActive ≠ side + 1 → s.rdB DPX_REF_STAT (fenceFld side) = false →
    Completes (.fatalDetect t side true) s fun u =>
      u.rdB DPX_REF_STAT (fenceFld side) = true ∧ u.count cntDPX_FENCES = (s.count cntDPX_FENCES + 1) % 2 ^ 64
        ∧ u.refActive = s.refActive ∧ OnlyWords [DPX_REF_STAT] { s with cnt := u.cnt } u) ∧
  (∀ t r s, s.pairMember = true → s.rdB DPX_STAT DPX_STAT_REF_OK = true → s.dpx.refRound = some r →
    r + s.hRounds ≤ (s.advance t).dpxRound → Completes (.refereeLost t) s fun u =>
      u.rdB DPX_STAT DPX_STAT_REF_OK = false ∧ u.role = s.role ∧ OnlyEvents [DPX_STAT] [] s u) ∧
  (∀ t s, s.rdB DPX_STAT DPX_STAT_REF_OK = false → Completes (.refereeLost t) s fun u => u = { s with now := u.now }) ∧
  (∀ t s, s.isReferee = false → s.dpx.askAt = none → Completes (.negWaitExpiry t) s fun u => u = { s with now := u.now }) ∧
  (∀ t a s, s.isReferee = false → s.pairMember = true → s.fenced = false → s.dpx.askAt = some a → a + s.negWait ≤ max s.now t →
    s.rdB DPX_CFG DPX_CFG_SOLO_OK = true → s.role ≠ 5 → exec (.negWaitExpiry t) s = .next (s.after t fun m =>
      (((m.setDpx { m.dpx with asking := false, askAt := none }).setRole 0 3).setImg false).setGate true)) ∧
  (∀ t a s, s.isReferee = false → s.pairMember = true → s.fenced = false → s.dpx.askAt = some a → a + s.negWait ≤ max s.now t →
    s.rdB DPX_CFG DPX_CFG_SOLO_OK = true → s.role ≠ 5 → Completes (.negWaitExpiry t) s fun u =>
      u.role = 0 ∧ u.dpx.askAt = none ∧ u.dpx.asking = false ∧ u.rdB DPX_STAT DPX_STAT_GATE = true ∧ u.rdB OUT_CTRL OUT_CTRL_IMG_MODE = false) ∧
  (∀ t a s, s.isReferee = false → s.pairMember = true → s.fenced = false → s.dpx.askAt = some a → a + s.negWait ≤ max s.now t →
    s.rdB DPX_CFG DPX_CFG_SOLO_OK = true → s.role = 5 → Completes (.negWaitExpiry t) s fun u =>
      u = { s with now := u.now, dpx := { s.dpx with askAt := none } }) ∧
  (∀ t a s, s.isReferee = false → s.pairMember = true → s.fenced = false → s.dpx.askAt = some a → a + s.negWait ≤ max s.now t →
    s.rdB DPX_CFG DPX_CFG_SOLO_OK = false → exec (.negWaitExpiry t) s = .next (s.after t fun m =>
      ((m.setDpx { m.dpx with askAt := none }).setGate false).setRole 6 3))

/-- Roles and swaps (R405, R415, R420, R423, R424): a grant makes a standby that is not fenced active; a role answer is taken only while
one is awaited; a swap is named for its round; IMG_MODE clears when the take-over's round is done; a take-back is requested after ROUNDS.
Where a clause rests on the model's own choices: log entry 50. -/
def Obligations.RoleChanges : Prop :=
  (∀ t s, s.dpx.msg = none → Completes (.evGrant t) s fun u => u = { s with now := u.now }) ∧
  (∀ t m s, s.dpx.msg = some m → m.msg = 1 → (s.role ≠ 2 ∨ s.fenced = true) → Completes (.evGrant t) s fun u =>
    u = { s with now := u.now, dpx := { s.dpx with msg := none } }) ∧
  (∀ t m s, s.dpx.msg = some m → m.msg = 1 → s.role = 2 → s.fenced = false → exec (.evGrant t) s = .next (s.after t fun v =>
    let a := (State.applyReady (v.setDpx { v.dpx with msg := none })).2
    ((a.takeOverRole m.epoch false a.stageAt).bump cntDPX_GRANTS 1).post 0x0B06
      (p2 m.target ++ p4 m.epoch ++ p4 (a.rdW DPX_LAST_APPLIED).toNat))) ∧
  (∀ t m s, s.dpx.msg = some m → m.msg = 2 → s.dpx.asking = false → Completes (.roleAnswer t) s fun u =>
    u = { s with now := u.now, dpx := { s.dpx with msg := none } }) ∧
  (∀ t m s, s.dpx.msg = some m → m.msg = 2 → s.dpx.asking = true → s.fenced = false → m.arg / 65536 % 8 = 3 →
    exec (.roleAnswer t) s = .next (s.after t fun v =>
      let a := (((v.setDpx { v.dpx with msg := none, asking := false, askAt := none }).dpxClear.setGate false).setRxOk false).setRole 3 2
      a.replicated.foldl (fun (s : State) k => s.reloadTenant k) a)) ∧
  (∀ t m s, s.dpx.msg = some m → m.msg = 3 → (s.role = 1 ∨ s.role = 2) → Completes (.evSwap t) s fun u =>
    u.rdB DPX_STAT DPX_STAT_SWAP_PENDING = true ∧ u.role = s.role
      ∧ u.dpx = { s.dpx with msg := none, swapAt := some (((s.advance t).dpxRound : Int) + diff32 m.arg (s.advance t).dpxRound).toNat }
      ∧ OnlyWords [DPX_STAT] { s with dpx := u.dpx } u) ∧
  (∀ t m s, s.dpx.msg = some m → m.msg = 3 → s.role ≠ 1 → s.role ≠ 2 → Completes (.evSwap t) s fun u =>
    u = { s with now := u.now, dpx := { s.dpx with msg := none } }) ∧
  (∀ t s, s.role = 2 → s.rdB DPX_CFG DPX_CFG_PREFERRED = true → s.rd DPX_REVERT DPX_REVERT_ROUNDS ≠ 0 →
    s.rd DPX_REVERT DPX_REVERT_ROUNDS ≤ s.dpx.revertRounds → s.rdB DPX_STAT DPX_STAT_REF_OK = true → Completes (.revertRequest t) s fun u =>
      u.rdB DPX_STAT DPX_STAT_REVERT_PENDING = true ∧ u.role = 2 ∧ OnlyWords [DPX_STAT] s u) ∧
  (∀ t s, s.rd DPX_REVERT DPX_REVERT_ROUNDS = 0 → Completes (.revertRequest t) s fun u => u = { s with now := u.now }) ∧
  (∀ t s, s.dpx.takeOver = none → Completes (.imgModeClear t) s fun u => u = { s with now := u.now }) ∧
  (∀ t g ts k s, s.dpx.takeOver = some (g, ts) → s.tim.lastRound = some k → g ≤ k → s.sch.items = [] → s.sch.runs = [] →
    exec (.imgModeClear t) s = .next (s.after t fun m => (m.setDpx { m.dpx with takeOver := none }).setImg false)) ∧
  (∀ t g ts k s, s.dpx.takeOver = some (g, ts) → s.tim.lastRound = some k → g ≤ k → s.sch.items = [] → s.sch.runs = [] →
    Completes (.imgModeClear t) s fun u =>
      u.dpx.takeOver = none ∧ u.rdB OUT_CTRL OUT_CTRL_IMG_MODE = false ∧ u.rdB DPX_STAT DPX_STAT_IMG = false ∧ u.role = s.role)

/-- Copies (R408 to R414): an acknowledgement counts only for the copy in flight, its epoch and status 0; a copy is cut when the link is
down or its deadline has passed; a standby applies the oldest copy that is ready. A parked core's vector is noted, a core in service
runs none; a mismatch of the key register zeroises it (R425 to R427, R450).
Where a clause rests on the model's own choices: log entry 49. -/
def Obligations.CopiesAndVigil : Prop :=
  (∀ t s, s.dpx.acks = [] → Completes (.copyAck t) s fun u => u = { s with now := u.now }) ∧
  (∀ t r e n st rest s, s.dpx.acks = (r, e, n, st) :: rest → (s.dpx.copy = none ∨ s.role ≠ 1 ∨ ∃ c, s.dpx.copy = some c ∧ st ≠ 0 ∧ c.pass = false) → Completes (.copyAck t) s fun u =>
    u = { s with now := u.now, dpx := { s.dpx with acks := rest } }) ∧
  (∀ t n c st rest s, s.dpx.acks = (round32 c.round, s.epoch, n, st) :: rest → s.dpx.copy = some c → s.role = 1 → c.pass = true → st ≠ 0 →
    Completes (.copyAck t) s fun u => u = { s with now := u.now, dpx := { s.dpx with acks := rest, copy := none, xfer := none } }) ∧
  (∀ t n c rest s, s.dpx.acks = (round32 c.round, s.epoch, n, 0) :: rest → s.dpx.copy = some c → s.role = 1 → c.pass = false → c.swap = false →
    c.final = false → s.out.holding = false → Completes (.copyAck t) s fun u =>
      u.dpx = { s.dpx with acks := rest, copy := none } ∧ u.count cntDPX_COPIES = (s.count cntDPX_COPIES + 1) % 2 ^ 64
        ∧ u.rdW DPX_COPY_ROUND = BitVec.ofNat 32 (round32 c.round) ∧ u.rdB DPX_STAT DPX_STAT_DUPLEX = s.twinUp
        ∧ OnlyWords [DPX_COPY_ROUND, DPX_COPY_INFO, DPX_STAT] { s with dpx := u.dpx, cnt := u.cnt, ten := { s.ten with llogCap := u.ten.llogCap } } u) ∧
  (∀ t s, s.dpx.copy = none → Completes (.copyCut t) s fun u => u = { s with now := u.now }) ∧
  (∀ t c s, s.dpx.copy = some c → s.twinUp = true → (s.advance t).dom < c.deadline → Completes (.copyCut t) s fun u => u = { s with now := u.now }) ∧
  (∀ t c s, s.dpx.copy = some c → s.twinUp = false → c.pass = true → Completes (.copyCut t) s fun u =>
    u = { s with now := u.now, dpx := { s.dpx with copy := none, xfer := none } }) ∧
  (∀ t c s, s.dpx.copy = some c → s.twinUp = true → c.pass = false → c.deadline ≤ (s.advance t).dom → c.swap = false →
    exec (.copyCut t) s = .next (s.after t fun m => (m.setDpx { m.dpx with copy := none }).cutItems c.round c.bytes 2 c.items)) ∧
  (∀ t s, s.dpx.ready = [] → Completes (.copyApply t) s fun u => u = { s with now := u.now }) ∧
  (∀ t h n m s, (s.advance t).applyReady = (some (h, n), m) → h.swap = false → exec (.copyApply t) s = .next (s.after t fun _ => m.ackCopy h n)) ∧
  (∀ t b void rest h s, s.dpx.ready = (b, void) :: rest → readCopy b = some h → h.resync = false → h.final = false → s.role ≠ 2 →
    Completes (.copyApply t) s fun u => u = { s with now := u.now, dpx := { s.dpx with ready := rest } }) ∧
  (∀ t core pass s, s.corePresent core = true → s.runOf core = none → Completes (.vigilCoreVector t core pass) s fun u =>
    u.dpx.vigil.cores = nsetBit s.dpx.vigil.cores core true
      ∧ u.dpx.vigil.coreMap = (if pass then s.dpx.vigil.coreMap else nsetBit s.dpx.vigil.coreMap (core / 8) true)
      ∧ u = { s with now := u.now, dpx := { s.dpx with vigil := u.dpx.vigil } }) ∧
  (∀ t core pass r s, s.runOf core = some r → Completes (.vigilCoreVector t core pass) s fun u => u = { s with now := u.now }) ∧
  (∀ t s, Completes (.keyIntegrityCheck t true) s fun u => u = { s with now := u.now, dpx := { s.dpx with keyFail := false } }) ∧
  (∀ t s, exec (.keyIntegrityCheck t false) s = .next (s.after t fun m =>
    (((State.drainUsers ((m.setDpx { m.dpx with keyFail := true }).wrB KEY_STAT KEY_STAT_INTEGRITY_FAIL true) (fun _ => true)).endSteward.zeroise 2).post 0x0C06 (p1 1))))

/-! ### The key register (R431 to R458) -/

/-- KEY is free for an operation of the steward, and the grant of R435 for it is given. -/
abbrev Sys2Proof.Machine.KeyGranted (s : State) (op : Nat) (noData pub : Bool) : Prop :=
  s.opFree = true ∧ s.grantStatus s.opKey (keyNeed op noData pub) .steward s.stewardSecure = 0

/-- The next state is that of the operation `o` of the granted machine under way; nothing is written before its end (R439). -/
def Sys2Proof.Machine.KeyStarts (i : Instr) (t : Nat) (s : State) (o : State → KeyOp) : Prop :=
  exec i s = .next (s.after t fun m => (m.bump cntKEY_GRANTS 1).startOp (o (m.bump cntKEY_GRANTS 1)))

/-- The creating operations (R438, R439, R443): each needs its grant and R439's tests, and starts with the slot it will create.
Where a clause rests on the model's own choices: log entries 6, 15. -/
def Obligations.KeyCreation : Prop :=
  (∀ t l c s, KeyGranted s 1 false false → s.deriveInput 0 = some (l, c) → s.createStatus s.opKey [2] = 0 →
    KeyStarts (.opDerive t) t s fun g => { op := 1, uses := chainOf g.slot 10 g.opKey, status := 0, creates := some (g.opDst, g.newSlot g.opKey (kdf (g.slot g.opKey).value l c)) }) ∧
  (∀ t l c s, KeyGranted s 1 false false → s.deriveInput 0 = some (l, c) → s.createStatus s.opKey [2] ≠ 0 →
    KeyStarts (.opDerive t) t s fun g => refusedOp 1 (g.createStatus g.opKey [2])) ∧
  (∀ t bs s, KeyGranted s 2 false true → s.opInput 32 = some bs → s.createStatus s.opKey [4] = 0 → s.askedSlot.type = 4 →
    KeyStarts (.opImport t true) t s fun g => { op := 2, uses := chainOf g.slot 10 g.opKey, status := 0, creates := some (g.opDst, g.newSlot g.opKey (BitVec.ofNat 256 (beNat bs))) }) ∧
  (∀ t bs s, KeyGranted s 2 false false → s.opInput 40 = some bs → s.createStatus s.opKey [2, 3] = 0 → s.askedSlot.type = 2 →
    KeyStarts (.opImport t false) t s fun g => match Config.aesUnwrap (g.slot g.opKey).value (BitVec.ofNat 320 (beNat bs)) with
      | none => refusedOp 2 stKeyUnwrapFail
      | some v => { op := 2, uses := chainOf g.slot 10 g.opKey, status := 0, creates := some (g.opDst, g.newSlot g.opKey v) }) ∧
  (∀ t s, s.opFree = true → s.opLen = 0 → s.bufBad s.opOut 64 = false → s.key.entropyBad = true → exec (.opGenerate t) s = .next (s.after t fun m =>
    m.startOp (refusedOp 4 stKeyType))) ∧
  (∀ t v g s, s.opFree = true → s.opLen = 0 → s.bufBad s.opOut 64 = false → s.key.entropyBad = false → (s.advance t).drawScalar = (v, g) →
    g.grantStatus g.opKey (keyNeed 4 false false) .steward g.stewardSecure = 0 → g.createStatus g.opKey [3] = 0 →
    exec (.opGenerate t) s = .next (s.after t fun _ => (g.bump cntKEY_GRANTS 1).startOp { op := 4, uses := chainOf g.slot 10 g.opKey, status := 0, creates := some (g.opDst, g.newSlot g.opKey v), writes := writesAt g.opOut (beBytes 64 (Config.p256Public v).toNat) })) ∧
  (∀ t v g s, s.opFree = true → s.opLen = 0 → s.bufBad s.opOut 64 = false → s.key.entropyBad = false → (s.advance t).drawScalar = (v, g) →
    g.grantStatus g.opKey (keyNeed 4 false false) .steward g.stewardSecure = 0 → g.createStatus g.opKey [3] = 0 →
    Completes (.opGenerate t) s fun u => u.rdB KEY_OP_STAT KEY_OP_STAT_BUSY = true ∧ u.key.slots = s.key.slots ∧ SameMemory s u
      ∧ ∃ o k, u.key.op = some o ∧ o.op = 4 ∧ o.status = 0 ∧ o.creates = some (s.opDst, k) ∧ k.value = v) ∧
  (∀ t l c s, KeyGranted s 5 false false → s.deriveInput 64 = some (l, c) → s.key.entropyBad = false → s.createStatus s.opKey [2] = 0 →
    KeyStarts (.opAgree t) t s fun g => if Config.p256OnCurve (BitVec.ofNat 512 (beNat (g.bytes g.opIn 64))) = false then refusedOp 5 stKeyPointBad else { op := 5, uses := chainOf g.slot 10 g.opKey, status := 0, creates := some (g.opDst, g.newSlot g.opKey (kdf (Config.p256Shared (g.slot g.opKey).value (BitVec.ofNat 512 (beNat (g.bytes g.opIn 64)))) l c)) }) ∧
  (∀ t o x k s, s.key.op = some o → o.op = 1 → o.status = 0 → o.writes = [] → o.creates = some (x, k) →
    Completes (.keyOperationEnd t none) s fun u =>
      u.slot x = k ∧ (∀ y, y ≠ x → u.slot y = s.slot y) ∧ u.key.op = none ∧ u.rdB KEY_OP_STAT KEY_OP_STAT_BUSY = false
        ∧ u.rd KEY_OP_STAT KEY_OP_STAT_STATUS = 0)

/-- The using operations (R438, R455, R557): data in, tag or data out at the operation's end; a failed comparison writes nothing and is
counted; a refused grant or a bad buffer starts an operation that ends with the status alone.
Where a clause rests on the model's own choices: log entries 6, 15. -/
def Obligations.KeyUse : Prop :=
  (∀ t s, KeyGranted s 3 false false → s.opLen = 0 → s.bufBad s.opOut 40 = false → fixedSlot s.opDst = false → chainOk s.slot 10 s.opDst = true →
    (s.slot s.opDst).secure = false → (s.slot s.opDst).type = 2 → (s.slot s.opDst).exportable = true → KeyStarts (.opExport t) t s fun g =>
      { op := 3, uses := chainOf g.slot 10 g.opKey ++ chainOf g.slot 10 g.opDst, status := 0, writes := writesAt g.opOut (beBytes 40 (Config.aesWrap (g.slot g.opKey).value (g.slot g.opDst).value).toNat) }) ∧
  (∀ t s, KeyGranted s 6 false false → s.opLen ≤ 4096 → s.bufBad s.opIn s.opLen = false → s.bufBad s.opOut 16 = false →
    KeyStarts (.opMac t true) t s fun g => { op := 6, uses := chainOf g.slot 10 g.opKey, status := 0, writes := writesAt g.opOut (macTag (g.slot g.opKey).value (g.bytes g.opIn g.opLen) true) }) ∧
  (∀ t s, KeyGranted s 7 false false → 16 ≤ s.opLen → s.opLen - 16 ≤ 4096 → s.bufBad s.opIn s.opLen = false →
    KeyStarts (.opVerify t true) t s fun g => { op := 7, uses := chainOf g.slot 10 g.opKey, status := if macTag (g.slot g.opKey).value ((g.bytes g.opIn g.opLen).take (g.opLen - 16)) true = (g.bytes g.opIn g.opLen).drop (g.opLen - 16) then 0 else stKeyTagBad }) ∧
  (∀ t iv aad data tag s, s.gcmInput 0 = some (iv, aad, data, tag) → KeyGranted s 8 data.isEmpty false → s.bufBad s.opOut (data.length + 16) = false →
    KeyStarts (.opEncrypt t) t s fun g => { op := 8, uses := chainOf g.slot 10 g.opKey, status := 0, writes := writesAt g.opOut (gcmData (g.slot g.opKey).value iv data ++ gcmTagBytes (g.slot g.opKey).value iv aad (gcmData (g.slot g.opKey).value iv data)) }) ∧
  (∀ t iv aad ct tag s, s.gcmInput 16 = some (iv, aad, ct, tag) → KeyGranted s 9 ct.isEmpty false → s.bufBad s.opOut ct.length = false →
    KeyStarts (.opDecrypt t) t s fun g => if gcmTagBytes (g.slot g.opKey).value iv aad ct = tag
      then { op := 9, uses := chainOf g.slot 10 g.opKey, status := 0, writes := writesAt g.opOut (gcmData (g.slot g.opKey).value iv ct) }
      else { op := 9, uses := chainOf g.slot 10 g.opKey, status := stKeyTagBad }) ∧
  (∀ t bs s, KeyGranted s 10 false false → s.opInput 160 = some bs → KeyStarts (.opSigVerify t) t s fun g =>
    { op := 10, uses := chainOf g.slot 10 g.opKey, status := if sigOk (g.slot g.opKey).value (BitVec.ofNat 512 (beAt bs 0 64)) (BitVec.ofNat 512 (beAt bs 64 64)) (BitVec.ofNat 256 (beAt bs 128 32)) then 0 else stKeySigBad }) ∧
  (∀ t s, s.opFree = false → Completes (.opMac t true) s fun u => u = { s with now := u.now }) ∧
  (∀ t s, s.opFree = true → 4096 < s.opLen → exec (.opMac t true) s = .next (s.after t fun m => m.startOp (refusedOp 6 stKeyAddrBad))) ∧
  (∀ t o s, s.key.op = some o → o.op = 7 → o.creates = none → o.writes = [] → o.status = stKeyTagBad → Completes (.keyOperationEnd t none) s fun u =>
    u.rd KEY_OP_STAT KEY_OP_STAT_STATUS = stKeyTagBad ∧ u.rdB KEY_OP_STAT KEY_OP_STAT_BUSY = false
      ∧ u.count cntKEY_TAG_FAIL = (s.count cntKEY_TAG_FAIL + 1) % 2 ^ 64 ∧ SameMemory s u ∧ (∀ x, u.slot x = s.slot x)) ∧
  (∀ t s, s.key.op = none → Completes (.keyOperationEnd t none) s fun u => u = { s with now := u.now })

/-- INVALIDATE, SWEEP and ZEROISE (R440 to R444): they start at once and end by their own commands; the register is emptied only at the
end of ZEROISE, which an active tenant refuses. A retired slot (R441) is not invalidated again and, where it is FREE, accepts no creation,
until a power-on reset.
Where a clause rests on the model's own choices: log entry 15. -/
def Obligations.KeyRemoval : Prop :=
  (∀ t d s, s.opFree = true → s.key.emptied = false → s.invalidateStatus s.opDst s.stewardSecure = 0 → exec (.opInvalidate t d) s = .next (s.after t fun m =>
    ((m.invalidateNow m.opDst d).2).startOp { op := 11, uses := [((m.invalidateNow m.opDst d).2).opDst], status := 0, count := (m.invalidateNow m.opDst d).1 })) ∧
  (∀ t d s, s.opFree = true → s.key.emptied = false → s.invalidateStatus s.opDst s.stewardSecure = 0 → Completes (.opInvalidate t d) s fun u =>
    u.rdB KEY_OP_STAT KEY_OP_STAT_BUSY = true ∧ (u.slot s.opDst).gen = (s.slot s.opDst).gen + 1 ∧ (d = true → (u.slot s.opDst).type = 0)
      ∧ (d = false → (u.slot s.opDst).type = (s.slot s.opDst).type) ∧ (∀ y, y ≠ s.opDst → u.slot y = s.slot y)
      ∧ u.count cntKEY_INVALIDATES = (s.count cntKEY_INVALIDATES + 1) % 2 ^ 64 ∧ ∃ o, u.key.op = some o ∧ o.op = 11 ∧ o.status = 0) ∧
  (∀ t d s, s.opFree = true → s.key.emptied = false → fixedSlot s.opDst = true → exec (.opInvalidate t d) s = .next (s.after t fun m =>
    m.startOp (refusedOp 11 stKeyDenied))) ∧
  (∀ t o s, s.key.op = some o → o.op = 11 → exec (.invalidateComplete t) s = .next (s.after t fun m =>
    (m.drainUsers (fun u => o.uses.any (fun x => opUses x u.2))).retireOp o)) ∧
  (∀ t o s, s.key.op = some o → o.op = 11 → s.key.coreOps = [] → Completes (.invalidateComplete t) s fun u =>
    u.key.op = none ∧ u.rdB KEY_OP_STAT KEY_OP_STAT_BUSY = false ∧ u.rd KEY_OP_STAT KEY_OP_STAT_COUNT = o.count % 2 ^ KEY_OP_STAT_COUNT.width
      ∧ u.rd KEY_OP_STAT KEY_OP_STAT_STATUS = o.status % 2 ^ KEY_OP_STAT_STATUS.width ∧ u.key.slots = s.key.slots
      ∧ OnlyWords [KEY_OP_STAT] { s with key := u.key } u) ∧
  (∀ t s, s.key.op = none → Completes (.invalidateComplete t) s fun u => u = { s with now := u.now }) ∧
  (∀ t s, s.opFree = true → s.key.emptied = false → exec (.opSweep t) s = .next (s.after t fun m =>
    (m.sweepNow.2).startOp { op := 12, uses := [], status := 0, count := m.sweepNow.1 })) ∧
  (∀ t s, s.opFree = true → s.key.emptied = false → Completes (.opSweep t) s fun u =>
    u.rdB KEY_OP_STAT KEY_OP_STAT_BUSY = true ∧ (∀ x, fixedSlot x = true → u.slot x = s.slot x)
      ∧ ∃ o, u.key.op = some o ∧ o.op = 12 ∧ o.status = 0 ∧ o.count = s.sweepNow.1) ∧
  (∀ t o s, s.key.op = some o → o.op = 12 → o.status = 0 → Completes (.sweepComplete t) s fun u =>
    u.key.op = none ∧ u.rdB KEY_OP_STAT KEY_OP_STAT_BUSY = false ∧ OnlyEvents [KEY_OP_STAT] [] { s with key := u.key } u) ∧
  (∀ t s, s.opFree = true → s.key.emptied = false → s.tenantsActive = true → exec (.opZeroise t) s = .next (s.after t fun m =>
    m.startOp (refusedOp 13 stStateConflict))) ∧
  (∀ t s, s.opFree = true → s.key.emptied = false → s.tenantsActive = false → Completes (.opZeroise t) s fun u =>
    u.key = { s.key with op := some { op := 13, uses := [], status := 0 } } ∧ u.rdB KEY_OP_STAT KEY_OP_STAT_BUSY = true
      ∧ OnlyWords [KEY_OP_STAT] { s with key := u.key } u) ∧
  (∀ t o s, s.key.op = some o → o.op = 13 → o.status = 0 → exec (.keyOperationEnd t none) s = .next (s.after t fun m =>
    (((m.drainUsers (fun _ => true)).zeroise 1).retireOp o))) ∧
  (∀ x cause (s : State), 6 ≤ x → x < 4096 → (s.zeroise cause).slot x = freedSlot (s.slot x)) ∧
  (∀ x cause (s : State), x < 6 → (s.zeroise cause).slot x = s.slot x) ∧
  (∀ t d s, s.opFree = true → s.key.emptied = false → (s.slot s.opDst).gen = 0xFFFFFFFF → exec (.opInvalidate t d) s = .next (s.after t fun m =>
    m.startOp (refusedOp 11 stKeyDenied))) ∧
  (∀ t l c s, KeyGranted s 1 false false → s.deriveInput 0 = some (l, c) → (s.slot s.opDst).type = 0 → (s.slot s.opDst).gen = 0xFFFFFFFF →
    KeyStarts (.opDerive t) t s fun _ => refusedOp 1 stKeySlotBusy) ∧
  (∀ t pub bs s, KeyGranted s 2 false pub → s.opInput (if pub then 32 else 40) = some bs → (s.slot s.opDst).type = 0 →
    (s.slot s.opDst).gen = 0xFFFFFFFF → KeyStarts (.opImport t pub) t s fun _ => refusedOp 2 stKeySlotBusy) ∧
  (∀ t v g s, s.opFree = true → s.opLen = 0 → s.bufBad s.opOut 64 = false → s.key.entropyBad = false → (s.advance t).drawScalar = (v, g) →
    g.grantStatus g.opKey (keyNeed 4 false false) .steward g.stewardSecure = 0 → (s.slot s.opDst).type = 0 → (s.slot s.opDst).gen = 0xFFFFFFFF →
    exec (.opGenerate t) s = .next (s.after t fun _ => (g.bump cntKEY_GRANTS 1).startOp (refusedOp 4 stKeySlotBusy))) ∧
  (∀ t l c s, KeyGranted s 5 false false → s.deriveInput 64 = some (l, c) → s.key.entropyBad = false → (s.slot s.opDst).type = 0 →
    (s.slot s.opDst).gen = 0xFFFFFFFF → KeyStarts (.opAgree t) t s fun _ => refusedOp 5 stKeySlotBusy) ∧
  (∀ t s, Completes (.porNAssert t) s fun u => ∀ x, (u.slot x).gen ≠ 0xFFFFFFFF)

/-- A core's key command finds its ranges mapped, its handle valid and its grant given (R447, R453). -/
abbrev Sys2Proof.Machine.TwKeyReady (s : State) (core n h op outLen : Nat) (noData : Bool) (src aad dst : List Nat) : Prop :=
  s.coreTenant core = some n ∧ (∀ x ∈ s.key.coreOps, x.1 ≠ core) ∧ (s.keyStage core).len ≤ 4096 ∧ (s.keyStage core).aadLen ≤ 256
    ∧ s.tenRange core n (s.keyStage core).src (s.keyStage core).len false = some src
    ∧ s.tenRange core n (s.keyStage core).aad (if op == 8 || op == 9 then (s.keyStage core).aadLen else 0) false = some aad
    ∧ s.tenRange core n (s.keyStage core).dst (if op == 8 || op == 9 then outLen else 0) true = some dst
    ∧ s.rdB (KEY_HANDLE n (h % 32)) KEY_HANDLE_VALID = true
    ∧ s.grantStatus (s.rd (KEY_HANDLE n (h % 32)) KEY_HANDLE_SLOT) (keyNeed op noData false) (.tenant n) false = 0

/-- The next state has the core's operation under way, with what it will write at its end. -/
def Sys2Proof.Machine.TwKeyStarts (i : Instr) (t core n h op : Nat) (dst : List Nat) (s : State)
    (r : BitVec 256 → Nat × List Byte × List Byte) : Prop :=
  exec i s = .next (s.after t fun m =>
    let g := m.bump cntKEY_GRANTS 1
    let x := g.rd (KEY_HANDLE n (h % 32)) KEY_HANDLE_SLOT
    let y := r (g.slot x).value
    let o : KeyOp := { op := op, uses := chainOf g.slot 10 x, status := y.1, writes := dst.zip y.2.1, tag := y.2.2 }
    { g with key := { g.key with coreOps := g.key.coreOps ++ [(core, o)] } })

/-- The four key commands of a core (R453, R454), and their ends.
Where a clause rests on the model's own choices: log entry 15. -/
def Obligations.CoreKeyCommands : Prop :=
  (∀ t core n h b src aad dst s, TwKeyReady s core n h 6 0 false src aad dst → TwKeyStarts (.twKeyCmdMac t core h b) t core n h 6 dst s fun k =>
    (0, [], fitBytes 32 (macTag k (src.map s.byte) b))) ∧
  (∀ t core n h b src aad dst s, TwKeyReady s core n h 7 0 false src aad dst → TwKeyStarts (.twKeyCmdVerify t core h b) t core n h 7 dst s fun k =>
    (if macTag k (src.map s.byte) b = fitBytes (if b then 16 else 32) (s.keyStage core).tag then 0 else stKeyTagBad, [], [])) ∧
  (∀ t core n h src aad dst s, TwKeyReady s core n h 8 (s.keyStage core).len ((s.keyStage core).len == 0) src aad dst →
    TwKeyStarts (.twKeyCmdEncrypt t core h) t core n h 8 dst s fun k =>
      (0, gcmData k (fitBytes 12 (s.keyStage core).iv) (src.map s.byte), fitBytes 32 (gcmTagBytes k (fitBytes 12 (s.keyStage core).iv)
        (aad.map s.byte) (gcmData k (fitBytes 12 (s.keyStage core).iv) (src.map s.byte))))) ∧
  (∀ t core n h src aad dst s, TwKeyReady s core n h 9 (s.keyStage core).len ((s.keyStage core).len == 0) src aad dst →
    TwKeyStarts (.twKeyCmdDecrypt t core h) t core n h 9 dst s fun k =>
      if gcmTagBytes k (fitBytes 12 (s.keyStage core).iv) (aad.map s.byte) (src.map s.byte) = fitBytes 16 (s.keyStage core).tag
      then (0, gcmData k (fitBytes 12 (s.keyStage core).iv) (src.map s.byte), []) else (stKeyTagBad, [], [])) ∧
  (∀ t core n h b s, s.coreTenant core = some n → (∀ x ∈ s.key.coreOps, x.1 ≠ core) → 4096 < (s.keyStage core).len →
    Completes (.twKeyCmdMac t core h b) s fun u =>
      (u.keyStage core).stat = stKeyAddrBad ∧ u.key.coreOps = s.key.coreOps ∧ SameMemory s u) ∧
  (∀ t core h b s, s.coreTenant core = none → Completes (.twKeyCmdMac t core h b) s fun u => u = { s with now := u.now }) ∧
  (∀ t core o s, s.key.coreOps = [(core, o)] → o.creates = none → o.writes = [] → o.status = 0 → Completes (.keyOperationEnd t (some core)) s fun u =>
    u.key.coreOps = [] ∧ (u.keyStage core).stat = 0 ∧ (o.tag ≠ [] → (u.keyStage core).tag = o.tag) ∧ SameMemory s u)

/-- Tamper, VBAT and entropy (R449 to R452, R505): an input that is not enabled, or already live, does nothing; a tamper in RUN aborts,
empties the register and ends the sessions; a lost battery supply is noted and told when it returns.
Where a clause rests on the model's own choices: log entry 16. -/
def Obligations.TamperRules : Prop :=
  (∀ t n s, s.tamperBit n 0 = false → Completes (.tamperEvent t n) s fun u => u = { s with now := u.now }) ∧
  (∀ t n s, n < 4 → s.tamperBit n 0 = true → s.key.live.testBit n = false → s.lc ≠ 3 → s.sys.dormant = 0 → s.sys.pwrReq = true →
    s.sys.porLow = false → s.sys.rstLow = false → s.sys.advent = none → exec (.tamperEvent t n) s = .next (s.after t fun m =>
      let a : State := { m with key := { m.key with live := m.key.live ||| 2 ^ n, raw := (m.key.raw &&& (15 ^^^ 2 ^ n)) ||| (if m.tamperBit n 1 then 0 else 2 ^ n) } }
      let a := a.tamperShow
      (((a.abortOps.tamperZero).tamperJobs).tamperLatch n (if a.key.op.isSome || !a.key.coreOps.isEmpty then 3 else 2) a.stamp false).endSessions 4)) ∧
  (∀ t n s, n < 4 → s.tamperBit n 0 = true → s.key.live.testBit n = false → s.lc ≠ 3 → s.sys.dormant = 0 → s.sys.pwrReq = true →
    s.sys.porLow = false → s.sys.rstLow = false → s.sys.advent = none → Completes (.tamperEvent t n) s fun u =>
      u.key.emptied = true ∧ u.key.op = none ∧ u.key.coreOps = [] ∧ u.key.live.testBit n = true
        ∧ u.rdB KEY_STAT KEY_STAT_TAMPERED = true ∧ u.rdB KEY_TAMPER_CAUSE KEY_TAMPER_CAUSE_LATCHED = true) ∧
  (∀ t n s, 4 ≤ n → Completes (.tamperEventEnd t n) s fun u => u = { s with now := u.now }) ∧
  (∀ t n s, n < 4 → Completes (.tamperEventEnd t n) s fun u =>
    u.key.live.testBit n = false ∧ u.key.slots = s.key.slots ∧ OnlyWords [KEY_TAMPER_LEVEL] { s with key := u.key } u) ∧
  (∀ t s, Completes (.vbatBelowMinimum t) s fun u =>
    u.key.vbatLow = true ∧ u.key.live = 0 ∧ u.key.held = [] ∧ u.key.cfgSet = false ∧ u.rdB KEY_STAT KEY_STAT_TAMPERED = false
      ∧ u.rdB DPX_REF_STAT DPX_REF_STAT_FENCE_A = false ∧ u.rdB DPX_REF_STAT DPX_REF_STAT_FENCE_B = false ∧ SameMemory s u) ∧
  (∀ t s, s.key.vbatLow = false → Completes (.vbatLost t) s fun u => u = { s with now := u.now }) ∧
  (∀ t s, s.key.vbatLow = true → s.lc = 0 → Completes (.vbatLost t) s fun u =>
    u = { s with now := u.now, key := { s.key with vbatLow := false } }) ∧
  (∀ t s, s.key.vbatLow = true → s.lc = 2 → s.sys.dormant = 1 → Completes (.vbatLost t) s fun u =>
    u.rdB KEY_STAT KEY_STAT_TAMPERED = true ∧ u.rdB KEY_TAMPER_CAUSE KEY_TAMPER_CAUSE_VBAT_LOST = true ∧ u.key.slots = []
      ∧ u.rdW KEY_TAMPER_CFG = BitVec.ofNat 32 s.fuses.tamper) ∧
  (∀ t s, Completes (.entropyFailure t) s fun u => u.key.entropyBad = true ∧ OnlyEvents [] [] { s with key := u.key } u) ∧
  (∀ t s, Completes (.entropyRestored t) s fun u => u = { s with now := u.now, key := { s.key with entropyBad := false } })

/-! ### Scratch banks and DRAM (R459 to R474) -/

/-- The hand-over of a bank and its test (R461 to R464, R469): each state is reached only from the one before.
Where a clause rests on the model's own choices: log entry 54. -/
def Obligations.BankStates : Prop :=
  (∀ t n w s, s.handoverOk n w = true → Completes (.bankHandover t n w) s fun u =>
    u.bankState n = 2 ∧ u.rdW (MEM_BANK_OWNER n) = ownerWord w ∧ u.servedOwner n = 0
      ∧ cget (fun _ => 0) u.bank.before n = s.servedOwner n ∧ OnlyWords [MEM_BANK_OWNER n, MEM_BANK_STAT n] { s with bank := u.bank } u) ∧
  (∀ t n w s, s.handoverOk n w = false → Completes (.bankHandover t n w) s fun u =>
    u.rdB MEM_STAT MEM_STAT_CFG_REJ = true ∧ OnlyWords [MEM_STAT] s u) ∧
  (∀ t n s, n < 16 → s.bankState n = 2 → s.rdB (MEM_BANK_OWNER n) MEM_BANK_OWNER_ZERO = true → Completes (.bankIdle t n) s fun u =>
    u.bankState n = 3 ∧ u.bank = s.bank ∧ OnlyWords [MEM_BANK_STAT n] s u) ∧
  (∀ t n s, n < 16 → s.bankState n = 2 → s.rdB (MEM_BANK_OWNER n) MEM_BANK_OWNER_ZERO = false → Completes (.bankIdle t n) s fun u =>
    u.bankState n = (if s.rd (MEM_BANK_OWNER n) MEM_BANK_OWNER_KIND = 0 then 0 else 1) ∧ u.servedOwner n = s.rdW (MEM_BANK_OWNER n)
      ∧ SameMemory s u ∧ OnlyEvents [MEM_BANK_STAT n] [] { s with bank := u.bank } u) ∧
  (∀ t n s, s.bankState n ≠ 2 → Completes (.bankIdle t n) s fun u => u = { s with now := u.now }) ∧
  (∀ t n s, n < 16 → s.bankState n = 3 → Completes (.bankZeroingDone t n) s fun u =>
    (∀ a, bankBase n ≤ a → a < bankBase (n + 1) → u.byte a = 0) ∧ (∀ a, (a < bankBase n ∨ bankBase (n + 1) ≤ a) → u.byte a = s.byte a)
      ∧ u.bankState n = (if s.rd (MEM_BANK_OWNER n) MEM_BANK_OWNER_KIND = 0 then 0 else 1)) ∧
  (∀ t n s, n < 16 → s.bankState n = 0 → Completes (.bankBistStart t n) s fun u => u.bankState n = 4 ∧ OnlyWords [MEM_BANK_STAT n] s u) ∧
  (∀ t n s, n < 16 → s.bankState n = 1 → Completes (.bankBistStart t n) s fun u =>
    u.bankState n = 1 ∧ u.rdB MEM_STAT MEM_STAT_CFG_REJ = true ∧ OnlyWords [MEM_STAT] s u) ∧
  (∀ t n s, n < 16 → s.bankState n = 4 → Completes (.bankBistComplete t n none) s fun u =>
    u.bankState n = 0 ∧ u.rdW (MEM_BANK_OWNER n) = 0 ∧ (u.rd MEM_BANK_FAILED MEM_BANK_FAILED_BANKS).testBit n = false
      ∧ (∀ a, bankBase n ≤ a → a < bankBase (n + 1) → u.byte a = 0)) ∧
  (∀ t n f s, n < 16 → s.bankState n = 4 → f < 16 → Completes (.bankBistComplete t n (some f)) s fun u =>
    u.bankState n = 5 ∧ (u.rd MEM_BANK_FAILED MEM_BANK_FAILED_BANKS).testBit n = true ∧ u.rdB (MEM_BANK_BIST n) MEM_BANK_BIST_FAIL = true
      ∧ SameMemory s u) ∧
  (∀ t n f s, s.bankState n ≠ 4 → Completes (.bankBistComplete t n f) s fun u => u = { s with now := u.now })

/-- An engine or the steward (R28): its accesses name device addresses and an error is its own. -/
def Sys2Proof.MemReq.direct (r : MemReq) : Bool := match r with | .ing | .cle | .lge | .recorder | .steward => true | _ => false

/-- Accesses (R25, R26, R28, R460 to R467, R472): a read without errors returns the bytes and changes nothing; a write changes its bytes
and no others; an access outside, of a form R460 does not allow, or not served, gives its requester an error. The smaller parts have
less DRAM (R25). A core reaches what its tenant's map names; an address without a VALID entry is its tenant's fault.
Where a clause rests on the model's own choices: log entries 12, 13. -/
def Obligations.MemoryAccesses : Prop :=
  (∀ t req a len n s, req.direct = true → bankForm a len = true → a / 16 = (a + len - 1) / 16 → bankOf a len = some n →
    s.portAServes n req = true → s.anyBad a len = false → Completes (.portAAccess t req a len none { single := [], double := [] }) s fun u =>
      u.bus.data = s.le a len ∧ u.bus.err = false ∧ u = { s with now := u.now, bus := u.bus }) ∧
  (∀ t req a bs n s, req.direct = true → bankForm a bs.length = true → a / 16 = (a + bs.length - 1) / 16 → bankOf a bs.length = some n →
    s.portAServes n req = true → s.anyBad a bs.length = false →
    Completes (.portAAccess t req a bs.length (some bs) { single := [], double := [] }) s fun u =>
      u.bus.err = false ∧ (∀ k (h : k < bs.length), u.byte (a + k) = bs[k]) ∧ (∀ x, (x < a ∨ a + bs.length ≤ x) → u.byte x = s.byte x)
        ∧ (∀ x, u.rdW x = s.rdW x)) ∧
  (∀ t req a len w f s, req.direct = true → bankForm a len = false → Completes (.portAAccess t req a len w f) s fun u =>
    u.bus = { err := true } ∧ u = { s with now := u.now, bus := u.bus }) ∧
  (∀ t req a len n w f s, req.direct = true → bankForm a len = true → a / 16 = (a + len - 1) / 16 → bankOf a len = some n →
    s.portAServes n req = false → Completes (.portAAccess t req a len w f) s fun u =>
      u.bus = { err := true } ∧ u.count (cntMEM_BANK_FAULTS n) = (s.count (cntMEM_BANK_FAULTS n) + 1) % 2 ^ 64 ∧ SameMemory s u) ∧
  (∀ t a len w f s, bankForm a len = false → Completes (.portAAccess t .dma a len w f) s fun u =>
    u.bus = { err := true, descErr := true } ∧ u = { s with now := u.now, bus := u.bus }) ∧
  (∀ t w o f s a, Completes (.portBAccess t a 0 w o f) s fun u => u.bus = { err := true } ∧ u = { s with now := u.now, bus := u.bus }) ∧
  (∀ t a len n s, 0 < len → a % 16 + len ≤ 16 → bankOf a len = some n → s.bankState n ≠ 5 → s.anyBad a len = false →
    Completes (.portBAccess t a len none none { single := [], double := [] }) s fun u =>
      u.bus.data = s.le a len ∧ u.bus.err = false ∧ u = { s with now := u.now, bus := u.bus }) ∧
  (∀ t req a len s, req.direct = true → 0 < len → s.inDram a len = true → s.rdB MEM_DRAM_STAT MEM_DRAM_STAT_TRAINED = true →
    s.anyBad a len = false → Completes (.dramAccess t req a len none { single := [], double := [] }) s fun u =>
      u.bus.data = s.le a len ∧ u.bus.err = false ∧ u = { s with now := u.now, bus := u.bus }) ∧
  (∀ t req a len w f s, req.direct = true → 0 < len → s.inDram a len = true → s.rdB MEM_DRAM_STAT MEM_DRAM_STAT_TRAINED = false →
    Completes (.dramAccess t req a len w f) s fun u => u = { s with now := u.now }) ∧
  (∀ t req a len w f s, req.direct = true → s.inDram a len = false → Completes (.dramAccess t req a len w f) s fun u =>
    u.bus = { err := true } ∧ u = { s with now := u.now, bus := u.bus }) ∧
  (∀ t req a len s, req.direct = true → s.fuses.variant = 1 → s.rdB MEM_DRAM_STAT MEM_DRAM_STAT_TRAINED = true → 0 < len → 0x1000000000 ≤ a →
    a + len ≤ 0x1400000000 → s.anyBad a len = false →
    Completes (.dramAccess t req a len none { single := [], double := [] }) s fun u => u.bus.data = s.le a len ∧ u.bus.err = false) ∧
  (∀ t req a len s, req.direct = true → s.fuses.variant = 2 → s.rdB MEM_DRAM_STAT MEM_DRAM_STAT_TRAINED = true → 0 < len → 0x1000000000 ≤ a →
    a + len ≤ 0x1200000000 → s.anyBad a len = false →
    Completes (.dramAccess t req a len none { single := [], double := [] }) s fun u => u.bus.data = s.le a len ∧ u.bus.err = false) ∧
  (∀ t req a len w f s, req.direct = true → s.fuses.variant = 1 → 0x1400000000 < a + len → Completes (.dramAccess t req a len w f) s fun u =>
    u.bus = { err := true } ∧ u = { s with now := u.now, bus := u.bus }) ∧
  (∀ t req a len w f s, req.direct = true → s.fuses.variant = 2 → 0x1200000000 < a + len → Completes (.dramAccess t req a len w f) s fun u =>
    u.bus = { err := true } ∧ u = { s with now := u.now, bus := u.bus }) ∧
  (∀ t a len w f s, s.fuses.variant = 1 → 0x1400000000 < a + len → Completes (.dramAccess t .dma a len w f) s fun u =>
    u.bus = { err := true, descErr := true } ∧ u = { s with now := u.now, bus := u.bus }) ∧
  (∀ t a len w f s, s.fuses.variant = 2 → 0x1200000000 < a + len → Completes (.dramAccess t .dma a len w f) s fun u =>
    u.bus = { err := true, descErr := true } ∧ u = { s with now := u.now, bus := u.bus }) ∧
  (∀ t a len w f s, s.fuses.variant = 1 → 0x1400000000 < a + len → 0x1000000000 ≤ a → Completes (.dramAccess t .jtag a len w f) s fun u =>
    u.bus = { err := true } ∧ u = { s with now := u.now, bus := u.bus }) ∧
  (∀ t a len w f s, s.fuses.variant = 2 → 0x1200000000 < a + len → 0x1000000000 ≤ a → Completes (.dramAccess t .jtag a len w f) s fun u =>
    u.bus = { err := true } ∧ u = { s with now := u.now, bus := u.bus }) ∧
  (∀ t a len w f s, 2 ≤ s.lc → Completes (.dramAccess t .jtag a len w f) s fun u =>
    u.bus = { err := true } ∧ u = { s with now := u.now, bus := u.bus }) ∧
  (∀ t req a bs s, req.direct = true → bs ≠ [] → s.inDram a bs.length = true → s.rdB MEM_DRAM_STAT MEM_DRAM_STAT_TRAINED = true →
    s.anyBad a bs.length = false → (∀ n, n < 512 → s.tenState n ≠ 5) →
    Completes (.dramAccess t req a bs.length (some bs) { single := [], double := [] }) s fun u =>
      u.bus.err = false ∧ (∀ k (h : k < bs.length), u.byte (a + k) = bs[k]) ∧ (∀ x, (x < a ∨ a + bs.length ≤ x) → u.byte x = s.byte x)) ∧
  (∀ t c n m va len w f s, s.coreTenant c = some m → m ≠ n → Completes (.dramAccess t (.core c n) va len w f) s fun u =>
    u = { s with now := u.now }) ∧
  (∀ t c n va len s, s.coreTenant c = some n → 0 < len → va % 65536 + len ≤ 65536 → s.mapCause n va false false = none →
    s.inDram (s.devAddr n va) len = true → s.anyBad (s.devAddr n va) len = false →
    Completes (.dramAccess t (.core c n) va len none { single := [], double := [] }) s fun u =>
      u.bus.data = s.le (s.devAddr n va) len ∧ u.bus.err = false ∧ u = { s with now := u.now, bus := u.bus }) ∧
  (∀ t c n va len k s, s.coreTenant c = some n → 0 < len → va % 65536 + len ≤ 65536 → va < 0x40000000 → s.mapCause n va false false = some k →
    exec (.dramAccess t (.core c n) va len none { single := [], double := [] }) s = .next (s.after t fun m => (opTenantFault c k va m).busFault)) ∧
  (∀ t c n va len s, s.coreTenant c = some n → 0 < len → va % 65536 + len ≤ 65536 → va < 0x40000000 → s.mapCause n va false false = none →
    bankOf (s.devAddr n va) len = none → s.inDram (s.devAddr n va) len = false →
    exec (.dramAccess t (.core c n) va len none { single := [], double := [] }) s = .next (s.after t fun m => (opTenantFault c 1 va m).busFault)) ∧
  (∀ t tg f p s, s.rdB MEM_CTRL MEM_CTRL_SCRUB_EN = false → Completes (.patrolScrub t tg f p) s fun u => u = { s with now := u.now }) ∧
  (∀ t s, s.rdB MEM_CTRL MEM_CTRL_SCRUB_EN = true → Completes (.patrolScrub t .dram { single := [], double := [] } true) s fun u =>
    u.count cntMEM_SCRUB_PASSES = (s.count cntMEM_SCRUB_PASSES + 1) % 2 ^ 64 ∧ SameMemory s u ∧ (∀ x, u.rdW x = s.rdW x))

/-- Memory keeps its canonical form under every write of bytes: addresses rise, and no listed byte is the one an unlisted address
reads as (the form is the model's own; log entry 4). -/
def Obligations.MemoryCanonical : Prop :=
  (∀ t req a bs n s, s.memWf → req.direct = true → bankForm a bs.length = true → a / 16 = (a + bs.length - 1) / 16 → bankOf a bs.length = some n →
    s.portAServes n req = true → Completes (.portAAccess t req a bs.length (some bs) { single := [], double := [] }) s fun u => u.memWf) ∧
  (∀ t n s, s.memWf → n < 16 → s.bankState n = 3 → Completes (.bankZeroingDone t n) s fun u => u.memWf) ∧
  (∀ t req a bs s, s.memWf → req.direct = true → s.inDram a bs.length = true →
    Completes (.dramAccess t req a bs.length (some bs) { single := [], double := [] }) s fun u => u.memWf)

/-! ### The host interface: transport (R475 to R480, R491 to R495, R502) -/

/-- Doorbells and posts (R480, R502): COMMAND takes a FREE mailbox, FETCH one with completions, ACK a RESP_READY one; any other code is
ignored and counted; nothing is heard while the mailboxes are off.
Where a clause rests on the model's own choices: log entries 9, 51. -/
def Obligations.MailboxDoorbells : Prop :=
  (∀ t m s, s.hostOn = true → m < 32 → (s.box m).state = 0 → Completes (.doorbellCommand t m) s fun u =>
    u.box m = { s.box m with state := 1, fetch := false, restart := false, dbIgnored := false }
      ∧ (u.rd MBX_BUSY MBX_BUSY_MAILBOXES).testBit m = true ∧ u.count cntMBX_COMMANDS = (s.count cntMBX_COMMANDS + 1) % 2 ^ 64
      ∧ (∀ k, k ≠ m → u.box k = s.box k) ∧ OnlyWords [MBX_BUSY] { s with mbx := u.mbx, cnt := u.cnt } u) ∧
  (∀ t m s, s.hostOn = true → m < 32 → (s.box m).state ≠ 0 → Completes (.doorbellCommand t m) s fun u =>
    u.box m = { s.box m with dbIgnored := true } ∧ u.count cntMBX_DB_IGNORED = (s.count cntMBX_DB_IGNORED + 1) % 2 ^ 64
      ∧ (∀ k, k ≠ m → u.box k = s.box k)) ∧
  (∀ t m s, s.hostOn = false → Completes (.doorbellCommand t m) s fun u => u = { s with now := u.now }) ∧
  (∀ t m s, s.hostOn = true → m < 32 → (s.box m).state = 2 → Completes (.doorbellAck t m) s fun u =>
    u.box m = { s.box m with state := 0, dbIgnored := false } ∧ (u.rd MBX_BUSY MBX_BUSY_MAILBOXES).testBit m = false
      ∧ (∀ k, k ≠ m → u.box k = s.box k) ∧ OnlyWords [MBX_BUSY] { s with mbx := u.mbx } u) ∧
  (∀ t m s, s.hostOn = true → m < 32 → (s.box m).state = 1 → Completes (.doorbellAck t m) s fun u =>
    u.box m = { s.box m with dbIgnored := true } ∧ u.count cntMBX_DB_IGNORED = (s.count cntMBX_DB_IGNORED + 1) % 2 ^ 64) ∧
  (∀ t m s, s.hostOn = true → m < 32 → (s.box m).state = 0 → 0 < s.pendCount m → Completes (.doorbellFetch t m) s fun u =>
    u.box m = { s.box m with state := 1, fetch := true, dbIgnored := false } ∧ (u.rd MBX_BUSY MBX_BUSY_MAILBOXES).testBit m = true
      ∧ OnlyWords [MBX_BUSY] { s with mbx := u.mbx } u) ∧
  (∀ t m s, s.hostOn = true → m < 32 → s.pendCount m = 0 → Completes (.doorbellFetch t m) s fun u =>
    u.box m = { s.box m with dbIgnored := true } ∧ u.count cntMBX_DB_IGNORED = (s.count cntMBX_DB_IGNORED + 1) % 2 ^ 64) ∧
  (∀ t m v s, fget MBX_MB_RESP_POST v = 0 → Completes (.mbxMbResp t m v) s fun u => u = { s with now := u.now }) ∧
  (∀ t m v s, m < 32 → fget MBX_MB_RESP_POST v = 1 →
    ((s.box m).state ≠ 1 ∨ fget MBX_MB_RESP_LENGTH v < 36 ∨ 4096 < fget MBX_MB_RESP_LENGTH v) → Completes (.mbxMbResp t m v) s fun u =>
      u.rdB MBX_STAT MBX_STAT_CFG_REJ = true ∧ u.mbx = s.mbx ∧ OnlyWords [MBX_STAT] s u) ∧
  (∀ t m v s, m < 32 → fget MBX_MB_RESP_POST v = 1 → (s.box m).state = 1 → 36 ≤ fget MBX_MB_RESP_LENGTH v → fget MBX_MB_RESP_LENGTH v ≤ 4096 →
    Completes (.mbxMbResp t m v) s fun u =>
      u.box m = { s.box m with state := 2, length := fget MBX_MB_RESP_LENGTH v, completion := fget MBX_MB_RESP_COMPLETION v == 1 }
        ∧ u.wire = (if (s.box m).intEn && s.rdB MBX_STAT MBX_STAT_PCIE_LINK && !(s.msixWord (16 * m + 12)).toNat.testBit 0 then s.wire ++ [.msix m] else s.wire)) ∧
  (∀ t m off bs s, m < 32 → off + bs.length ≤ 4096 → (s.box m).state = 0 → Completes (.commandBufferWrite t m off bs) s fun u =>
    (∀ k (h : k < bs.length), cget (fun _ => 0) u.mbx.sram (m * 0x2000 + off + k) = bs[k])
      ∧ u = { s with now := u.now, mbx := { s.mbx with sram := u.mbx.sram } }) ∧
  (∀ t m off bs s, m < 32 → off + bs.length ≤ 4096 → (s.box m).state ≠ 0 → Completes (.commandBufferWrite t m off bs) s fun u =>
    u.count cntMBX_WRITE_WHILE_BUSY = (s.count cntMBX_WRITE_WHILE_BUSY + 1) % 2 ^ 64 ∧ u = { s with now := u.now, cnt := u.cnt })

/-- The management port has an address of the family that the peer's address `a` is of (R491). -/
abbrev Sys2Proof.Machine.OwnAddress (s : State) (a : Nat) : Prop := (if a < 2 ^ 32 then s.mbx.ip4.isSome else s.mbx.ip6.isSome) = true

/-- The firmware's turns, datagrams and completions (R478, R491 to R494): nothing is taken until the firmware is ready; a datagram joins
its peer, a fragment its reassembly; a completion waits for its operation; a repeat is sent every 100 ms, ten sends in all.
Where a clause rests on the model's own choices: log entry 51. -/
def Obligations.FirmwareTurns : Prop :=
  (∀ t s, s.mbx.ready = false → Completes (.commandProcess t) s fun u => u = { s with now := u.now }) ∧
  (∀ t s, s.nextTurn = none → Completes (.commandProcess t) s fun u => u = { s with now := u.now }) ∧
  (∀ t k s, s.rdB MBX_CTRL MBX_CTRL_EN = true → s.mbx.ready = true → s.nextTurn = some k → k < 32 → (s.box k).fetch = false →
    exec (.commandProcess t) s = .next (s.after t fun m =>
      State.takeCommand { m with mbx := { m.mbx with turn := k } } (.mbx k) (m.sramBytes (k * 0x2000) 4096))) ∧
  (∀ t k s, s.rdB MBX_CTRL MBX_CTRL_EN = true → s.mbx.ready = true → s.nextTurn = some k → k < 32 → (s.box k).fetch = true →
    exec (.commandProcess t) s = .next (s.after t fun m => State.postOldest { m with mbx := { m.mbx with turn := k } } k)) ∧
  (∀ t k b rest s, s.rdB MBX_CTRL MBX_CTRL_EN = true → s.mbx.ready = true → s.nextTurn = some k → k < 32 → (s.box k).fetch = true →
    (s.box k).queue = b :: rest → rest.length ≤ 16 → Completes (.commandProcess t) s fun u =>
      u.box k = { s.box k with queue := rest, state := 2, length := b.length, completion := true } ∧ u.pendCount k = rest.length
        ∧ (u.rd MBX_BUSY MBX_BUSY_MAILBOXES).testBit k = false) ∧
  (∀ t k s, s.rdB MBX_CTRL MBX_CTRL_EN = true → s.mbx.ready = true → s.nextTurn = some k → 32 ≤ k →
    exec (.commandProcess t) s = .next (s.after t fun m => State.servePeer { m with mbx := { m.mbx with turn := k } } (k - 32))) ∧
  (∀ t a p d n off more b s, s.rdB MBX_CTRL MBX_CTRL_UDP_EN = false → Completes (.udpDatagram t a p d n off more b) s fun u =>
    u = { s with now := u.now }) ∧
  (∀ t a p d n off more b s, ¬ OwnAddress s a → Completes (.udpDatagram t a p d n off more b) s fun u => u = { s with now := u.now }) ∧
  (∀ t a p n b s, s.rdB MBX_CTRL MBX_CTRL_EN = true → s.rdB MBX_CTRL MBX_CTRL_UDP_EN = true → OwnAddress s a → b.length ≤ 4096 →
    s.mbx.ready = true → s.mbx.peers = [] →
    Completes (.udpDatagram t a p (s.rd MBX_UDP MBX_UDP_PORT) n 0 false b) s fun u =>
      u = { s with now := u.now, mbx := { s.mbx with peers := [{ addr := a, port := p, queue := [b], lastAt := u.now }] } }) ∧
  (∀ t a p n b s, s.rdB MBX_CTRL MBX_CTRL_EN = true → s.rdB MBX_CTRL MBX_CTRL_UDP_EN = true → OwnAddress s a → b.length ≤ 4096 →
    s.mbx.reass = [] →
    Completes (.udpDatagram t a p (s.rd MBX_UDP MBX_UDP_PORT) n 0 true b) s fun u =>
      u = { s with now := u.now, mbx := { s.mbx with reass := [{ addr := a, ident := n, startAt := u.now, parts := [(0, b)], total := none }] } }) ∧
  (∀ t a n s, Completes (.reassemblyTimeout t a n) s fun u =>
    (∀ r, r ∈ u.mbx.reass ↔ r ∈ s.mbx.reass ∧ ¬ (r.addr = a ∧ r.ident = n ∧ r.startAt + 500000000 ≤ u.now))
      ∧ u = { s with now := u.now, mbx := { s.mbx with reass := u.mbx.reass } }) ∧
  (∀ t id q f s, (∀ j ∈ s.mbx.jobs, j.session ≠ id ∨ j.seq ≠ q) → Completes (.completion t id q f) s fun u => u = { s with now := u.now }) ∧
  (∀ t j st d b f s, s.mbx.jobs.find? (fun k => k.session == j.session && k.seq == j.seq) = some j → j.outcome = some (st, d, b) → j.opcode ≠ 0x0904 →
    exec (.completion t j.session j.seq f) s = .next (s.after t fun m => m.endJob j st d b)) ∧
  (∀ t j x m st d b f s, s.mbx.jobs.find? (fun k => k.session == j.session && k.seq == j.seq) = some j → j.outcome = some (st, d, b) →
    j.opcode ≠ 0x0904 → j.via = .mbx m → m < 32 → s.mbx.sessions.find? (fun y => y.id == j.session) = some x →
    Completes (.completion t j.session j.seq f) s fun u =>
      (∃ r, (u.box m).queue = (s.box m).queue ++ [r]) ∧ (u.box m).state = (s.box m).state
        ∧ u.mbx.jobs = s.mbx.jobs.filter (fun k => !(k.session == j.session && k.seq == j.seq))) ∧
  (∀ t j f s, s.mbx.jobs.find? (fun k => k.session == j.session && k.seq == j.seq) = some j → j.outcome = none → j.opcode = 0x0C22 →
    exec (.completion t j.session j.seq f) s = .next (s.after t fun m => ((m.lcTake j.obj j.session f).2).endJob j (m.lcTake j.obj j.session f).1 0 [])) ∧
  (∀ t j f s, s.mbx.jobs.find? (fun k => k.session == j.session && k.seq == j.seq) = some j → j.outcome = none → j.opcode ≠ 0x0C22 → s.jobEnd j = none →
    Completes (.completion t j.session j.seq f) s fun u => u = { s with now := u.now }) ∧
  (∀ t x s, s.mbx.udpDone.find? (fun y => y.session == x.session && y.seq == x.seq) = some x → max s.now t < x.sentAt + 100000000 →
    Completes (.udpCompletionRepeat t x.session x.seq) s fun u => u = { s with now := u.now }) ∧
  (∀ t x s, s.mbx.udpDone = [x] → x.sentAt + 100000000 ≤ max s.now t → x.sends < 10 → Completes (.udpCompletionRepeat t x.session x.seq) s fun u =>
    u.wire = s.wire ++ [.udp x.addr x.port x.bytes] ∧ u.mbx.udpDone = [{ x with sends := x.sends + 1, sentAt := u.now }]
      ∧ u = { s with now := u.now, wire := u.wire, mbx := { s.mbx with udpDone := u.mbx.udpDone } }) ∧
  (∀ t x s, s.mbx.udpDone = [x] → x.sentAt + 100000000 ≤ max s.now t → 10 ≤ x.sends → Completes (.udpCompletionRepeat t x.session x.seq) s fun u =>
    u = { s with now := u.now, mbx := { s.mbx with udpDone := [], complLost := s.mbx.complLost + 1 } })

/-- Sessions' idle time, apertures, the link and the steward (R489, R493, R495, R502, R507, R526).
Where a clause rests on the model's own choices: log entries 8, 19. -/
def Obligations.HostAndSteward : Prop :=
  (∀ t x s, s.mbx.sessions.find? (fun y => y.id == x.id) = some x → max s.now t < x.lastAt + s.mbx.idle * 1000000000 →
    Completes (.sessionIdleTimeout t x.id) s fun u => u = { s with now := u.now }) ∧
  (∀ t x s, s.mbx.sessions.find? (fun y => y.id == x.id) = some x → x.lastAt + s.mbx.idle * 1000000000 ≤ max s.now t →
    exec (.sessionIdleTimeout t x.id) s = .next (s.after t fun m => m.endSession x.id 2)) ∧
  (∀ t x s, s.mbx.sessions.find? (fun y => y.id == x.id) = some x → x.lastAt + s.mbx.idle * 1000000000 ≤ max s.now t →
    Completes (.sessionIdleTimeout t x.id) s fun u =>
      u.mbx.sessions = s.mbx.sessions.filter (fun y => y.id != x.id) ∧ (u.slot x.slot).gen = (s.slot x.slot).gen + 1
        ∧ (∀ a, a < 16 → s.aperOwner a = some x.id → u.aperOn a = false)) ∧
  (∀ t a len s, s.rdB MBX_CTRL MBX_CTRL_PCIE_EN = false → Completes (.hostBar2Access t a len none) s fun u =>
    u.bus.data = 2 ^ (8 * len) - 1 ∧ u = { s with now := u.now, bus := u.bus }) ∧
  (∀ t a len s, s.rdB MBX_CTRL MBX_CTRL_PCIE_EN = true → 16 ≤ a / 0x10000000 → Completes (.hostBar2Access t a len none) s fun u =>
    u.bus.data = 2 ^ (8 * len) - 1 ∧ u.count cntMBX_APER_VIOL = (s.count cntMBX_APER_VIOL + 1) % 2 ^ 64
      ∧ u = { s with now := u.now, bus := u.bus, cnt := u.cnt }) ∧
  (∀ t k off bs s, s.rdB MBX_CTRL MBX_CTRL_PCIE_EN = true → k < 16 → off < 0x10000000 → s.aperOn k = true → off + bs.length ≤ s.aperLen k →
    s.aperHostWrites k = true → Completes (.hostBar2Access t (k * 0x10000000 + off) bs.length (some bs)) s fun u =>
      (∀ i (h : i < bs.length), u.byte (s.aperBase k + off + i) = bs[i])
        ∧ (∀ x, (x < s.aperBase k + off ∨ s.aperBase k + off + bs.length ≤ x) → u.byte x = s.byte x)) ∧
  (∀ t k off len s, s.rdB MBX_CTRL MBX_CTRL_PCIE_EN = true → k < 16 → off < 0x10000000 → s.aperOn k = true → off + len ≤ s.aperLen k →
    s.aperHostWrites k = false → Completes (.hostBar2Access t (k * 0x10000000 + off) len none) s fun u =>
      u.bus.data = s.le (s.aperBase k + off) len ∧ u = { s with now := u.now, bus := u.bus }) ∧
  (∀ t s, Completes (.pcieLinkUp t) s fun u => u.rdB MBX_STAT MBX_STAT_PCIE_LINK = true ∧ OnlyWords [MBX_STAT] s u) ∧
  (∀ t s, Completes (.pcieLinkDown t) s fun u => u.rdB MBX_STAT MBX_STAT_PCIE_LINK = false ∧ OnlyWords [MBX_STAT] s u) ∧
  (∀ t s, s.rdB SYS_WDOG_CFG SYS_WDOG_CFG_EN = false → Completes (.stewardWatchdog t) s fun u => u = { s with now := u.now }) ∧
  (∀ t s, s.rdB SYS_WDOG_CFG SYS_WDOG_CFG_EN = true → max s.now t < s.sys.kickAt + s.rd SYS_WDOG_CFG SYS_WDOG_CFG_TIMEOUT * 1000000 →
    Completes (.stewardWatchdog t) s fun u => u = { s with now := u.now }) ∧
  (∀ t s, (s.advance t).wdogDue = true → s.rdB SYS_WDOG_CFG SYS_WDOG_CFG_ESCALATE = false → exec (.stewardWatchdog t) s = .next (s.after t fun m =>
    let n := ({ m with sys := { m.sys with wdogTimes := (m.sys.wdogTimes.filter (fun x => m.now < x + 60000000000)) ++ [m.now], kickAt := m.now } } : State).bump cntSYS_WDOG_RESETS 1
    n.dropWork.vector 32 n.mbx.globalInt)) ∧
  (∀ t s, (s.advance t).wdogDue = true → s.rdB SYS_WDOG_CFG SYS_WDOG_CFG_ESCALATE = false → Completes (.stewardWatchdog t) s fun u =>
    u.mbx.ready = false ∧ u.mbx.jobs = [] ∧ u.mbx.peers = [] ∧ u.mbx.sessions = s.mbx.sessions ∧ u.sys.kickAt = u.now
      ∧ u.count cntSYS_WDOG_RESETS = (s.count cntSYS_WDOG_RESETS + 1) % 2 ^ 64) ∧
  (∀ (s : State), s.dropWork.mbx.jobs = [] ∧ s.dropWork.mbx.ready = false ∧ s.dropWork.mbx.peers = [] ∧ s.dropWork.mbx.sessions = s.mbx.sessions) ∧
  (∀ t s, s.mbx.ready = true → Completes (.stewardRestart t) s fun u => u = { s with now := u.now }) ∧
  (∀ t s, s.mbx.ready = false → s.rdB SYS_WDOG_CFG SYS_WDOG_CFG_EN = true → exec (.stewardRestart t) s = .next (s.after t fun m =>
    match m.firstImage m.stewardStatus [m.rd SYS_BOOT SYS_BOOT_STEWARD_SLOT, 1 - m.rd SYS_BOOT SYS_BOOT_STEWARD_SLOT] with
    | none => m
    | some (k, off, img) =>
      let a := (m.enterImage k off img).endSessions 5
      let b : State := { a with mbx := { a.mbx with ready := true }, sys := { a.sys with kickAt := a.now } }
      (b.vector 32 b.mbx.globalInt).postTo 0x20C 0x1281 (p1 1))) ∧
  (∀ t s, s.mbx.ready = false → s.rdB SYS_WDOG_CFG SYS_WDOG_CFG_EN = true → Completes (.stewardRestart t) s fun u =>
    ∀ k off img, (s.advance t).firstImage (s.advance t).stewardStatus [s.rd SYS_BOOT SYS_BOOT_STEWARD_SLOT, 1 - s.rd SYS_BOOT SYS_BOOT_STEWARD_SLOT]
      = some (k, off, img) → u.mbx.ready = true ∧ u.sys.kickAt = u.now ∧ u.sys.image = some (off, img.length) ∧ u.mbx.sessions = []) ∧
  (∀ t s, Completes (.sysWdogKick t) s fun u => u = { s with now := u.now, sys := { s.sys with kickAt := u.now } }) ∧
  (∀ t b s, b < 8 → Completes (.i2cStretchTimeout t b) s fun u => u = { s with now := u.now, wire := s.wire ++ [.i2cClear b] })

/-! ### Resets, Advent, Dormant, Solstice, JTAG (R505 to R526, R540, R541) -/

/-- The resets (R505, R506, R541): what each keeps, the cause it leaves, and when Advent starts.
Where a clause rests on the model's own choices: log entries 11, 16, 17. -/
def Obligations.ResetRules : Prop :=
  (∀ t s, Completes (.porNAssert t) s fun u =>
    u.sys.porLow = true ∧ u.sys.dormant = 0 ∧ u.sys.pwrReq = true ∧ u.rdB SYS_RESET_CAUSE SYS_RESET_CAUSE_POR = true ∧ u.fuses = s.fuses
      ∧ u.key.slots = [] ∧ u.mbx = {} ∧ u.sch = {} ∧ u.cnt = [] ∧ u.alm = {} ∧ u.sys.flash = s.sys.flash) ∧
  (∀ t s, s.sys.dormant ≠ 1 → s.sys.porLow = false → Completes (.rstNAssert t) s fun u =>
    u.sys.rstLow = true ∧ u.rdB SYS_RESET_CAUSE SYS_RESET_CAUSE_RST = true ∧ u.fuses = s.fuses ∧ u.alm.chans = s.alm.chans
      ∧ (∀ x, x < 4096 → u.slot x = freedSlot (s.slot x)) ∧ u.mbx = {} ∧ u.sch = {}) ∧
  (∀ t s, s.sys.dormant = 1 → Completes (.rstNAssert t) s fun u => u = { s with now := u.now, sys := { s.sys with rstLow := true } }) ∧
  (∀ t x s, s.sys.porLow = false → Completes (.porNRelease t x) s fun u => u = { s with now := u.now }) ∧
  (∀ t x s, s.sys.porLow = true → s.sys.rstLow = true → Completes (.porNRelease t x) s fun u =>
    u = { s with now := u.now, sys := { s.sys with porLow := false } }) ∧
  (∀ t x s, s.sys.porLow = true → s.sys.rstLow = false → exec (.porNRelease t x) s = .next (s.after t fun m =>
    State.adventStart { m with sys := { m.sys with porLow := false } } x false)) ∧
  (∀ t x s, s.sys.rstLow = true → s.sys.porLow = false → s.sys.dormant = 0 → exec (.rstNRelease t x) s = .next (s.after t fun m =>
    State.adventStart { m with sys := { m.sys with rstLow := false } } x false)) ∧
  (∀ t x s, s.sys.rstLow = true → s.sys.dormant ≠ 0 → Completes (.rstNRelease t x) s fun u =>
    u = { s with now := u.now, sys := { s.sys with rstLow := false } }) ∧
  (∀ t s, s.sys.dormant ≠ 1 → Completes (.powerUp t) s fun u => u = { s with now := u.now, sys := { s.sys with pwrReq := true } }) ∧
  (∀ t s, s.sys.dormant = 1 → Completes (.powerUp t) s fun u => u = { s with now := u.now }) ∧
  (∀ t s, Completes (.jtagInstructionLoad t .idcode) s fun u => u.bus.data = 0x07160A5D ∧ u.sys.jtag = .idcode) ∧
  (∀ t s, 2 ≤ s.lc → Completes (.jtagInstructionLoad t .debug) s fun u => u = { s with now := u.now, sys := { s.sys with jtag := .bypass } }) ∧
  (∀ t s, s.lc < 2 → Completes (.jtagInstructionLoad t .debug) s fun u => u = { s with now := u.now, sys := { s.sys with jtag := .debug } })

/-- The command, with its source enabled and Solstice armed, makes one strobe with its instant and its number (R521, R522). -/
def Sys2Proof.Machine.Strobes (i : Instr) (t src : Nat) (s : State) : Prop :=
  s.srcEnabled src = true → s.rd SYS_SNAP_STAT SYS_SNAP_STAT_STATE = 1 → Completes i s fun u =>
    u.rd SYS_SNAP_STAT SYS_SNAP_STAT_STATE = 2 ∧ u.rd SYS_SNAP_STAT SYS_SNAP_STAT_LAST_SRC = src
      ∧ u.rd SYS_SNAP_STAT SYS_SNAP_STAT_COUNT = (s.rd SYS_SNAP_STAT SYS_SNAP_STAT_COUNT + 1) % 65536
      ∧ u.rdW SYS_SNAP_TIME_LO = BitVec.ofNat 32 (s.advance t).stamp ∧ u.snap.count = u.rd SYS_SNAP_STAT SYS_SNAP_STAT_COUNT

/-- The Advent lock wait and Dormant (R510, R518 to R520): step 9 ends unlocked or waits on; entry is refused while a tenant is active, and
keeps the key register; a wake, by its ball or its frame, begins RAIL_DELAY, after which Advent starts. Solstice (R521 to R525): a
source that fires while armed makes one strobe, with its instant and its number; arming and disarming.
Where a clause rests on the model's own choices: log entries 17, 19. -/
def Obligations.DormantAndSolstice : Prop :=
  (∀ t s, s.sys.advent = none → Completes (.ptpWaitExpired t) s fun u => u = { s with now := u.now }) ∧
  (∀ t r s, s.sys.advent = some r → s.rd SYS_ADVENT SYS_ADVENT_STEP = 9 → s.rd SYS_ADVENT SYS_ADVENT_STATE ≠ 3 →
    r.stepAt + max 1 (s.rd SYS_ADVENT_CFG SYS_ADVENT_CFG_PTP_WAIT) * 1000000000 ≤ max s.now t → s.rdB SYS_ADVENT_CFG SYS_ADVENT_CFG_REQUIRE_SYNC = true →
    Completes (.ptpWaitExpired t) s fun u => u.rd SYS_ADVENT SYS_ADVENT_STATE = 3 ∧ u.rd SYS_ADVENT SYS_ADVENT_STEP = 9 ∧ OnlyWords [SYS_ADVENT] s u) ∧
  (∀ t r s, s.sys.advent = some r → s.rd SYS_ADVENT SYS_ADVENT_STEP = 9 → s.rd SYS_ADVENT SYS_ADVENT_STATE ≠ 3 →
    r.stepAt + max 1 (s.rd SYS_ADVENT_CFG SYS_ADVENT_CFG_PTP_WAIT) * 1000000000 ≤ max s.now t → s.rdB SYS_ADVENT_CFG SYS_ADVENT_CFG_REQUIRE_SYNC = false →
    exec (.ptpWaitExpired t) s = .next (s.after t fun m => (m.post 0x1086 []).endLock r)) ∧
  (∀ t s, s.tenantsActive = true → Completes (.dormantEntry t) s fun u => u = { s with now := u.now }) ∧
  (∀ t s, s.tenantsActive = false → s.sys.dormant = 0 → s.sys.porLow = false → s.sys.rstLow = false → s.key.vbatLow = false →
    Completes (.dormantEntry t) s fun u =>
      u.sys.dormant = 1 ∧ u.sys.pwrReq = false ∧ u.sys.entryCause = 1 ∧ u.key.slots = s.key.slots ∧ u.mbx = {} ∧ u.sch = {} ∧ u.fuses = s.fuses) ∧
  (∀ t s, s.sys.dormant = 1 → Completes (.evWake t) s fun u =>
    u.sys = { s.sys with dormant := 2, pwrReq := true, wakeAt := u.now } ∧ u.rd SYS_RESET_CAUSE SYS_RESET_CAUSE_WAKE_SRC = 1
      ∧ u.rdB SYS_RESET_CAUSE SYS_RESET_CAUSE_WAKE = true ∧ OnlyWords [SYS_RESET_CAUSE] { s with sys := u.sys } u) ∧
  (∀ t s, s.sys.dormant ≠ 1 → Completes (.evWake t) s fun u => u = { s with now := u.now }) ∧
  (∀ t b s, s.sys.dormant = 1 → s.rdB SYS_DORMANT_CTRL SYS_DORMANT_CTRL_MGMT_WAKE = true → s.isWakeFrame b = true → Completes (.wakeFrame t b) s fun u =>
    u.sys = { s.sys with dormant := 2, pwrReq := true, wakeAt := u.now } ∧ u.rd SYS_RESET_CAUSE SYS_RESET_CAUSE_WAKE_SRC = 2) ∧
  (∀ t b s, s.rdB SYS_DORMANT_CTRL SYS_DORMANT_CTRL_MGMT_WAKE = false → Completes (.wakeFrame t b) s fun u => u = { s with now := u.now }) ∧
  (∀ t x s, s.sys.dormant ≠ 2 → Completes (.railDelayExpiry t x) s fun u => u = { s with now := u.now }) ∧
  (∀ t x s, s.sys.dormant = 2 → max s.now t < s.sys.wakeAt + max 1 (s.rd SYS_DORMANT_CTRL SYS_DORMANT_CTRL_RAIL_DELAY) * 1000000 →
    Completes (.railDelayExpiry t x) s fun u => u = { s with now := u.now }) ∧
  (∀ t x s, s.sys.dormant = 2 → s.sys.porLow = false → s.sys.rstLow = false →
    s.sys.wakeAt + max 1 (s.rd SYS_DORMANT_CTRL SYS_DORMANT_CTRL_RAIL_DELAY) * 1000000 ≤ max s.now t →
    exec (.railDelayExpiry t x) s = .next (s.after t fun m => State.adventStart { m with sys := { m.sys with dormant := 0 } } x true)) ∧
  (∀ t x s, s.sys.dormant = 2 → s.sys.porLow = true →
    s.sys.wakeAt + max 1 (s.rd SYS_DORMANT_CTRL SYS_DORMANT_CTRL_RAIL_DELAY) * 1000000 ≤ max s.now t →
    Completes (.railDelayExpiry t x) s fun u => u = { s with now := u.now, sys := { s.sys with dormant := 0 } }) ∧
  (∀ src (s : State), s.srcEnabled src = true → s.rd SYS_SNAP_STAT SYS_SNAP_STAT_STATE = 1 → src < 16 →
    (s.fireSource src).rd SYS_SNAP_STAT SYS_SNAP_STAT_STATE = 2 ∧ (s.fireSource src).rd SYS_SNAP_STAT SYS_SNAP_STAT_LAST_SRC = src
      ∧ (s.fireSource src).rd SYS_SNAP_STAT SYS_SNAP_STAT_COUNT = (s.rd SYS_SNAP_STAT SYS_SNAP_STAT_COUNT + 1) % 65536
      ∧ (s.fireSource src).rdW SYS_SNAP_TIME_LO = BitVec.ofNat 32 s.stamp) ∧
  (∀ src (s : State), s.srcEnabled src = false → s.fireSource src = s) ∧
  (∀ t s, exec (.snapIn t) s = .next (s.after t fun m => State.afterChange m (m.fireSource 0))) ∧
  (∀ t s, exec (.solsticeFire t) s = .next (s.after t fun m => State.afterChange m (m.fireSource 1))) ∧
  (∀ t s, (s.advance t).dom < s.snapMatch → Completes (.solsticeMatch t) s fun u => u = { s with now := u.now }) ∧
  (∀ t s, s.snapMatch + 4 ≤ (s.advance t).dom → Completes (.solsticeMatch t) s fun u => u = { s with now := u.now }) ∧
  (∀ t s, s.snapMatch ≤ (s.advance t).dom → (s.advance t).dom < s.snapMatch + 4 → s.rdB SYS_SNAP_STAT SYS_SNAP_STAT_MATCH_PAST = false → exec (.solsticeMatch t) s = .next (s.after t fun m =>
    State.afterChange m (m.fireSource 5))) ∧
  (∀ t s, Strobes (.snapIn t) t 0 s) ∧ (∀ t s, Strobes (.solsticeFire t) t 1 s) ∧
  (∀ t s, s.snapMatch ≤ (s.advance t).dom → (s.advance t).dom < s.snapMatch + 4 → s.rdB SYS_SNAP_STAT SYS_SNAP_STAT_MATCH_PAST = false →
    Strobes (.solsticeMatch t) t 5 s) ∧
  (∀ t s, s.rd SYS_SNAP_STAT SYS_SNAP_STAT_STATE ≠ 1 → Completes (.solsticeArm t) s fun u =>
    u.rd SYS_SNAP_STAT SYS_SNAP_STAT_STATE = 1 ∧ u.rdB SYS_SNAP_STAT SYS_SNAP_STAT_MATCH_PAST = decide (s.snapMatch < u.dom)
      ∧ u.rd SYS_SNAP_STAT SYS_SNAP_STAT_COUNT = s.rd SYS_SNAP_STAT SYS_SNAP_STAT_COUNT ∧ OnlyWords [SYS_SNAP_STAT] s u) ∧
  (∀ t s, s.rd SYS_SNAP_STAT SYS_SNAP_STAT_STATE = 1 → Completes (.solsticeArm t) s fun u => u = { s with now := u.now }) ∧
  (∀ t s, s.rd SYS_SNAP_STAT SYS_SNAP_STAT_STATE = 1 → Completes (.solsticeDisarm t) s fun u =>
    u.rd SYS_SNAP_STAT SYS_SNAP_STAT_STATE = 0 ∧ OnlyWords [SYS_SNAP_STAT] s u) ∧
  (∀ t s, s.rd SYS_SNAP_STAT SYS_SNAP_STAT_STATE ≠ 1 → Completes (.solsticeDisarm t) s fun u => u = { s with now := u.now })

/-! ### The block as a whole -/

/-- A step of a machine with a command at the front of its queue is that command's effect on the machine with the queue's rest; on an
empty queue the block idles (the model's choice: log entry 2). -/
def Obligations.StepRunsTheFront : Prop :=
  (∀ (c : Instr) (q : List Instr) (s : State), s.pending = c :: q → step s = exec c (s.withQueue q)) ∧
  ∀ s : State, s.pending = [] → step s = .next s

/-- No command stops the block: each answers a next state, at its own instant or later, with the waiting commands as they were.
Where a clause rests on the model's own choices: log entry 1. -/
def Obligations.EveryCommandAnswers : Prop :=
  ∀ (c : Instr) (s : State), Completes c s fun u => u.pending = s.pending ∧ u.now = max s.now c.time

/-- Time and the queue: while the waiting commands stand in the order of their instants, every step keeps them so, and time never
runs back (R33, R554; log entry 1). -/
def Obligations.QueueOrderInvariant : Prop :=
  ∀ s u : State, inOrder s.now s.pending = true → step s = .next u → inOrder u.now u.pending = true ∧ s.now ≤ u.now

/-- Right after reset: the queue is empty and in order, memory lists nothing, no tenant runs, the grid is off, every mailbox is FREE,
and the registers read their reset values.
Where a clause rests on the model's own choices: log entries 3, 10. -/
def Obligations.ResetState : Prop :=
  State.reset.pending = [] ∧ inOrder State.reset.now State.reset.pending = true ∧ State.reset.mem = [] ∧ State.reset.memWf ∧ State.reset.gridOn = false
    ∧ (∀ n, State.reset.tenState n = 0) ∧ (∀ m, (State.reset.box m).state = 0) ∧ (∀ a, State.reset.rdW a = resetWord a) ∧ (∀ a, State.reset.count a = 0)
    ∧ State.reset.rd TIM_GRID TIM_GRID_FS_SEL = 1 ∧ State.reset.rd TIM_ADMIT TIM_ADMIT_TARGET = 1000
    ∧ State.reset.rd TIM_ADMIT TIM_ADMIT_CURRENT = 1000 ∧ State.reset.rd TIM_HOLD TIM_HOLD_LIMIT = 60

/-! ### Commands of the mailbox protocol (R481 to R491, R496 to R500)

A command whose session, SEQUENCE and checks of R483 are in order has its effect and is answered. The payload layouts that the
chapters leave open are the model's (log entry 7). -/

/-- The command passes every check of R483 before its own: `x` is its session, `k` the key the register grants for its response, and
`g` the machine in which it runs (its SEQUENCE accepted). -/
def Sys2Proof.Machine.MbxReady (op t : Nat) (c : Cmd) (plan : State → Plan) (s : State) (x : Session) (k : Option (BitVec 256)) (g : State) : Prop :=
  (s.advance t).sessionOf op c.session = some x ∧ x.judge c.sequence (cmdBytes op c) = .fresh
    ∧ ((s.advance t).setSession (x.accept c.sequence (s.advance t).now)).sessionKey x 6 = (k, g)
    ∧ g.haltServes op = true ∧ ∃ i, cmdInfo op = some i ∧ g.checks op i (plan g) x = none

/-- Such a command, where `H` holds of what it names, answers `r` and leaves the machine `r` gives, its response posted or sent; an
ACCEPTED_PENDING answer needs room for its completion; `audit` tells whether 0x1185 is written. -/
def Sys2Proof.Machine.MbxAnswers (i : Nat → Cmd → Instr) (op : Nat) (plan : Cmd → State → Plan) (audit : Cmd → Bool)
    (H : Cmd → Session → State → Prop) (r : Cmd → Session → State → Reply × State) : Prop :=
  ∀ t c s x k g, MbxReady op t c (plan c) s x k g → H c x g → ((r c x g).1.later.isSome = true → g.pendFull c.via = false) →
    exec (i t c) s = .next (s.after t fun _ => (r c x g).2.finish op c x k (r c x g).1 (audit c))

/-- A status command: it writes no audit record, and changes nothing but what its answer needs. -/
def Sys2Proof.Machine.MbxReads (i : Nat → Cmd → Instr) (op : Nat) (plan : Cmd → State → Plan) (data : Cmd → State → List Byte) : Prop :=
  MbxAnswers i op plan (fun _ => false) (fun _ _ _ => True) fun c _ g => ({ data := data c g }, g)

/-- Any other command, audited. -/
def Sys2Proof.Machine.MbxDoes (i : Nat → Cmd → Instr) (op : Nat) (plan : Cmd → State → Plan)
    (H : Cmd → Session → State → Prop) (r : Cmd → Session → State → Reply × State) : Prop :=
  MbxAnswers i op plan (fun _ => true) H r

/-- It answers a status other than OK, and has no other effect. -/
def Sys2Proof.Machine.MbxRefuses (i : Nat → Cmd → Instr) (op : Nat) (plan : Cmd → State → Plan) (status : Nat)
    (H : Cmd → Session → State → Prop) : Prop :=
  MbxAnswers i op plan (fun _ => true) H fun _ _ g => ({ status := status }, g)

/-- A status command of block `b`: it returns the words its payload lists, counters as the session counts them, and then takes their
present totals as the session's baseline for the counters listed with RESET (R490). -/
def Sys2Proof.Machine.MbxStatus (i : Nat → Cmd → Instr) (op b : Nat) (plan : Cmd → State → Plan) : Prop :=
  MbxAnswers i op plan (fun _ => false) (fun _ _ _ => True) fun c x g =>
    let entries := (List.range (c.payload.length / 4)).map fun i => c.n4 (4 * i)
    ({ data := entries.flatMap fun e => p4 (g.peekFrom x.base (b * 2 ^ 24 + e % 2 ^ 31)) },
      g.rebase x.id (((entries.filter fun e => decide (2 ^ 31 ≤ e)).map fun e => b * 2 ^ 24 + e % 2 ^ 31).filter counterAt))

/-- A command that writes registers: all its records are accepted and take effect, or the first that the hardware ignores is named in
DETAIL (at `loc`) and none takes effect. -/
def Sys2Proof.Machine.MbxWrites (i : Nat → Cmd → Instr) (op : Nat) (plan : Cmd → State → Plan) (H : State → Prop) (loc : Nat → Nat)
    (recs : Cmd → List (Nat × Nat)) : Prop :=
  MbxDoes i op plan (fun _ _ g => H g) fun c _ g => match (g.writePairs 0 (recs c)).1 with
    | none => ({}, (g.writePairs 0 (recs c)).2)
    | some off => ({ status := 0x0104, detail := loc off }, g)

/-- The status commands of every block and the commands that write configuration registers (R483, R490, R496).
Where a clause rests on the model's own choices: log entry 7. -/
def Obligations.MailboxStatusAndSettings : Prop :=
  MbxStatus .prtStatus 0x0101 0x01 planPrtStatus ∧ MbxStatus .fabStatus 0x0201 0x02 planFabStatus ∧
  MbxStatus .ingStatus 0x0301 0x03 planIngStatus ∧ MbxStatus .acqStatus 0x0401 0x04 planAcqStatus ∧
  MbxStatus .schStatus 0x0501 0x05 planSchStatus ∧ MbxStatus .cleStatus 0x0601 0x06 planCleStatus ∧
  MbxStatus .lgeStatus 0x0701 0x07 planLgeStatus ∧ MbxStatus .outStatus 0x0801 0x08 planOutStatus ∧
  MbxStatus .recStatus 0x0905 0x09 planRecStatus ∧ MbxStatus .dpxStatus 0x0B10 0x0B planDpxStatus ∧
  MbxStatus .keyStatus 0x0C01 0x0C planKeyStatus ∧ MbxStatus .memStatus 0x0D01 0x0D planMemStatus ∧
  MbxStatus .timStatus 0x0E01 0x0E planTimStatus ∧ MbxStatus .tenantStatus 0x0F01 0x0F planTenantStatus ∧
  MbxWrites .prtPortSet 0x0110 planPrtPortSet (fun _ => True) (fun o => 4 + o / 2) (fun c =>
    [(PRT_PORT_CFG (c.n4 0), c.n4 4), (PRT_PAUSE_WD (c.n4 0), c.n4 8), (PRT_PREEMPT (c.n4 0), c.n4 12)]) ∧
  MbxDoes .prtLreSet 0x0111 planPrtLreSet (fun _ _ _ => True) (fun c _ g =>
    let w := g.writePairs 0 [(PRT_LRE_CFG (c.n4 0), c.n4 4), (PRT_LRE_MAC_LO (c.n4 0), c.n4 8), (PRT_LRE_MAC_HI (c.n4 0), c.n4 12)]
    match w.1 with
    | none => ({}, (chunks 8 (c.payload.length / 8) (c.payload.drop 16)).foldl
        (fun (u : State) b => u.proxySet (c.n4 0) (beAt b 0 6) (byteAt b 6 == 1)) w.2)
    | some off => ({ status := 0x0104, detail := 4 + off / 2 }, g)) ∧
  MbxWrites .acqTripSet 0x0411 planAcqTripSet (fun _ => True) (fun o => 4 + o / 2) (fun c => [(ACQ_TRIP_CFG (c.n4 0), c.n4 4)]) ∧
  MbxWrites .fabLimitsSet 0x0212 planFabLimitsSet (fun _ => True) id (regPairs · 0) ∧
  MbxWrites .stencilLoad 0x0313 planStencilLoad (fun _ => True) id (regPairs · 0) ∧
  MbxWrites .acqGroupSet 0x0410 planAcqGroupSet (fun _ => True) id (regPairs · 0) ∧
  MbxWrites .outBindSet 0x0811 planOutBindSet (fun _ => True) id (regPairs · 0) ∧
  MbxWrites .timSet 0x0E10 planTimSet (fun _ => True) id (regPairs · 0) ∧
  MbxWrites .stwRegWrite 0x1213 planStwRegWrite (fun _ => True) id (regPairs · 0) ∧
  MbxDoes .streamAdd 0x0310 planStreamAdd (fun _ _ g => g.ing.flip = none ∧ g.rdB ING_STAT ING_STAT_COPY_BUSY = false) (fun c _ g =>
    match g.writePairs 0 (regPairs c 0) with
    | (none, u) => if u.subsOk ((regPairs c 0).map (·.1)) = true then ({}, u) else ({ status := 0x0303 }, g)
    | (some off, _) => ({ status := 0x0104, detail := off }, g)) ∧
  MbxWrites .streamRemove 0x0311 planStreamRemove (fun g => g.ing.flip = none ∧ g.rdB ING_STAT ING_STAT_COPY_BUSY = false) id (regPairs · 0) ∧
  MbxRefuses .streamAdd 0x0310 planStreamAdd 0x0302 (fun _ _ g => g.ing.flip.isSome = true ∨ g.rdB ING_STAT ING_STAT_COPY_BUSY = true) ∧
  MbxRefuses .streamRemove 0x0311 planStreamRemove 0x0302 (fun _ _ g => g.ing.flip.isSome = true ∨ g.rdB ING_STAT ING_STAT_COPY_BUSY = true)

/-- A forwarding command of a mailbox, run to its end: `start` begins it with the data registers written. -/
def Sys2Proof.Machine.fdbAnswer (start : Cmd → State → State) (data : Cmd → List Byte) (c : Cmd) (_ : Session) (g : State) : Reply × State :=
  let u := opFdbCommandComplete (start c (g.setFdbData (data c)))
  ({ status := fdbStatus (u.rd FAB_FDB_CMD FAB_FDB_CMD_RESULT), data := p4 (u.rd FAB_FDB_CMD FAB_FDB_CMD_INDEX) }, u)

/-- Commands of the fabric, ingest, acquisition, the scheduler and the control-law engine (R108, R143, R167, R190, R246, R284 to R287,
R497).
Where a clause rests on the model's own choices: log entries 7, 52. -/
def Obligations.MailboxDataAndLaws : Prop :=
  MbxDoes .fabFdbWrite 0x0210 planFabFdbWrite (fun _ _ g => g.rdB FAB_FDB_CMD FAB_FDB_CMD_BUSY = false) (fdbAnswer (fun _ => opFdbWrite) (·.payload)) ∧
  MbxDoes .fabFdbDelete 0x0211 planFabFdbDelete (fun c _ g => g.rdB FAB_FDB_CMD FAB_FDB_CMD_BUSY = false ∧ c.n1 0 = 1)
    (fdbAnswer (fun _ => opFdbDelete) fun c => slice c.payload 4 8 ++ leBytes 8 0) ∧
  MbxDoes .fabFdbDelete 0x0211 planFabFdbDelete (fun c _ g => g.rdB FAB_FDB_CMD FAB_FDB_CMD_BUSY = false ∧ c.n1 0 = 2)
    (fdbAnswer (fun c => opFdbFlush (c.n1 1)) fun _ => leBytes 16 0) ∧
  MbxRefuses .fabFdbWrite 0x0210 planFabFdbWrite 0x0302 (fun _ _ g => g.rdB FAB_FDB_CMD FAB_FDB_CMD_BUSY = true) ∧
  MbxDoes .streamFlip 0x0312 planStreamFlip (fun c _ g => c.n4 0 = 0 ∧ g.ing.flip = none ∧ (opIngFlip g).ing.flip.isSome = true)
    (fun _ _ g => ({ later := some { obj := g.ingActive } }, opIngFlip g)) ∧
  MbxDoes .streamFlip 0x0312 planStreamFlip (fun c _ g => c.n4 0 = 0 ∧ g.ing.flip = none ∧ (opIngFlip g).ing.flip = none)
    (fun _ _ g => ({ later := some { obj := g.ingActive, outcome := some (0x05B0, 0, []) } }, opIngFlip g)) ∧
  MbxRefuses .streamFlip 0x0312 planStreamFlip 0x0302 (fun c _ g => c.n4 0 = 0 ∧ g.ing.flip.isSome = true) ∧
  MbxDoes .streamFlip 0x0312 planStreamFlip (fun c _ g => c.n4 0 = 1 ∧ g.ing.flip.isSome = true ∧ (opIngCancel g).ing.flip = none)
    (fun _ _ g => ({ status := 0x05B1 }, opIngCancel g)) ∧
  MbxDoes .strangerRead 0x0314 planStrangerRead (fun _ _ _ => True) (fun c _ g =>
    ({ data := (State.takeStrangers (c.n4 0) g).1 }, (State.takeStrangers (c.n4 0) g).2)) ∧
  (∀ n (s : State), s.ing.strangers.length ≤ n → (State.takeStrangers n s).1 = s.ing.strangers.flatten) ∧
  MbxDoes .acqTripRelease 0x0412 planAcqTripRelease (fun _ _ _ => True) (fun c _ g => ({}, opTripLatchRelease (c.n4 0) g)) ∧
  MbxDoes .schEnqueue 0x0510 planSchEnqueue (fun _ _ _ => True) (fun c _ g =>
    let w := (List.range 16).foldl (fun (y : State) i => y.ctlWrite (SCH_STW_ITEM i) (BitVec.ofNat 32 (c.n4 (4 + 4 * i)))) g
    ({ status := (opSchStwEnq (c.n4 0) w).rd SCH_STW_ENQ_STAT SCH_STW_ENQ_STAT_STATUS }, opSchStwEnq (c.n4 0) w)) ∧
  (∀ d u, MbxAnswers .clawTraceRead 0x0602 planClawTraceRead (fun _ => false) (fun c _ g =>
    let base := g.rd CLE_TRACE_BASE_LO CLE_TRACE_BASE_LO_BASE * 2 ^ 24 + 2 ^ 32 * g.rd CLE_TRACE_BASE_HI CLE_TRACE_BASE_HI_BASE
    g.bulkOut (c.n1 4) (c.n8 8) (g.bytes (base + c.n2 0 * 0x20000) 0x20000) = some (d, u)) (fun _ _ _ => ({ data := d }, u))) ∧
  (∀ relay pid, MbxAnswers .clawAutotune 0x0610 planClawAutotune (fun _ => true) (fun c _ g =>
    g.tunePair (c.n2 0) = some (relay, pid) ∧ g.lawState (c.n2 0) = 1 ∧ (g.trcState (c.n2 0) = 0 ∨ g.trcState (c.n2 0) = 3) ∧ g.tuneOf (c.n2 0) = none
      ∧ g.rdB (CLE_LAW_STATE (c.n2 0)) CLE_LAW_STATE_COMMIT_PENDING = false) fun c _ g => g.beginTune c (c.n2 0) relay pid) ∧
  MbxRefuses .clawAutotune 0x0610 planClawAutotune 0x0520 (fun c _ g => g.tunePair (c.n2 0) = none ∨ g.lawState (c.n2 0) ≠ 1) ∧
  (∀ d : CleTuned, MbxDoes .clawAutotuneApply 0x0611 planClawAutotuneApply (fun c _ g =>
    g.tuneResult (c.n2 0) (c.n2 2) = some d ∧ d.status = 0 ∧ (g.law (c.n2 0)).commits = d.commits
      ∧ g.rdB (CLE_LAW_STATE (c.n2 0)) CLE_LAW_STATE_COMMIT_PENDING = false) fun c _ g =>
      let l := c.n2 0
      let b := 1 - g.activeSet l
      let w := ((((g.copyActive l).giveParam b (g.tunePid l) 0 d.kp).giveParam b (g.tunePid l) 1 d.ki).giveParam b (g.tunePid l) 2 d.kd).lawCommit l true
      ({ status := lawStatus w.1.1, detail := w.1.2 }, w.2)) ∧
  MbxRefuses .clawAutotuneApply 0x0611 planClawAutotuneApply 0x0525 (fun c _ g => g.tuneResult (c.n2 0) (c.n2 2) = none) ∧
  MbxDoes .clawAutotuneAbort 0x0612 planClawAutotuneAbort (fun c _ g => (g.tuneOf (c.n2 0)).isSome = true) (fun c _ g => ({}, g.abortTune (c.n2 0) 5)) ∧
  MbxRefuses .clawAutotuneAbort 0x0612 planClawAutotuneAbort 0x0520 (fun c _ g => g.tuneOf (c.n2 0) = none) ∧
  MbxDoes .clawControl 0x0613 planClawControl (fun _ _ _ => True) (fun c _ g =>
    let w := g.lawCmdWrite (c.n2 0) (fset CLE_LAW_CMD_OP 0 (c.n1 2))
    ({ status := lawStatus (w.rd (CLE_LAW_CMD (c.n2 0)) CLE_LAW_CMD_RESULT), detail := w.rd (CLE_LAW_CMD (c.n2 0)) CLE_LAW_CMD_DETAIL }, w)) ∧
  MbxDoes .clawCoeffCommit 0x0614 planClawCoeffCommit (fun c _ g =>
    g.rdB (CLE_LAW_STATE (c.n2 0)) CLE_LAW_STATE_COMMIT_PENDING = false ∧ (g.writePairs 4 (regPairs c 4)).1 = none
      ∧ ((g.writePairs 4 (regPairs c 4)).2.lawCommit (c.n2 0) (c.n1 2 == 1)).1.1 = 0) (fun c _ g =>
      let w := ((g.writePairs 4 (regPairs c 4)).2.lawCommit (c.n2 0) (c.n1 2 == 1)).2
      let n := (g.law (c.n2 0)).commits
      ({ later := some { obj := c.n2 0, arg := n, outcome := if (w.law (c.n2 0)).commits ≠ n then some (0, 0, []) else none } }, w)) ∧
  MbxRefuses .clawCoeffCommit 0x0614 planClawCoeffCommit 0x0302 (fun c _ g => g.rdB (CLE_LAW_STATE (c.n2 0)) CLE_LAW_STATE_COMMIT_PENDING = true)

/-- A command of DPX_CMD given through a mailbox. -/
def Sys2Proof.Machine.DpxDoes (i : Nat → Cmd → Instr) (op : Nat) (plan : Cmd → State → Plan) (f : Cmd → State → State) : Prop :=
  MbxDoes i op plan (fun _ _ g => g.rdB DPX_CMD DPX_CMD_BUSY = false) (fun c _ g =>
    ({ status := dpxStatus ((f c g).rd DPX_CMD DPX_CMD_RESULT) }, f c g)) ∧
  MbxRefuses i op plan 0x0302 fun _ _ g => g.rdB DPX_CMD DPX_CMD_BUSY = true

/-- A bank's hand-over given through a mailbox. -/
def Sys2Proof.Machine.bankWord (c : Cmd) : Word := BitVec.ofNat 32 (c.n4 4)

/-- Commands of the logic engine, the outputs, the recorders, the duplex pair and the memory banks (R310, R311, R314, R330, R363, R368,
R430, R476, R497).
Where a clause rests on the model's own choices: log entries 7, 52. -/
def Obligations.MailboxPlantCommands : Prop :=
  (∀ b, MbxDoes .progLoad 0x0710 planProgLoad (fun c _ g => g.aperImage (c.n4 4) (c.n4 8) (c.n4 12) = some b ∧ g.prgState (c.n1 0) = 0
    ∧ (g.loadSlot (c.n1 0) 0 (regRecs b)).1 = none) fun c _ g => ({}, (g.loadSlot (c.n1 0) 0 (regRecs b)).2)) ∧
  MbxRefuses .progLoad 0x0710 planProgLoad 0x05A1 (fun c _ g => g.aperImage (c.n4 4) (c.n4 8) (c.n4 12) = none) ∧
  MbxRefuses .progLoad 0x0710 planProgLoad 0x0530 (fun c _ g => (g.aperImage (c.n4 4) (c.n4 8) (c.n4 12)).isSome = true ∧ g.prgState (c.n1 0) ≠ 0) ∧
  MbxDoes .progVerify 0x0711 planProgVerify (fun c _ g => g.rdB (LGE_PRG_CMD (c.n1 0)) LGE_PRG_CMD_BUSY = false) (fun c _ g =>
    let w := opLgeVerifyComplete (c.n1 0) (opLgeVerify (c.n1 0) (c.n1 1) g)
    ({ status := prgStatus (w.rd (LGE_PRG_CMD (c.n1 0)) LGE_PRG_CMD_RESULT), data := p4 (w.rdW (LGE_PRG_DETAIL (c.n1 0))).toNat }, w)) ∧
  MbxDoes .progExchange 0x0712 planProgExchange (fun c _ g => g.rdB (LGE_PRG_CMD (c.n1 0)) LGE_PRG_CMD_BUSY = false
    ∧ (opLgeExchange (c.n1 0) (c.n1 1) g).rd (LGE_PRG_CMD (c.n1 0)) LGE_PRG_CMD_RESULT = 0) (fun c _ g =>
      let w := opLgeExchange (c.n1 0) (c.n1 1) g
      ({ later := some { obj := c.n1 0, outcome := if (w.prog (c.n1 0)).exch.isNone then some (0, 0, fitBytes 32 (w.regBytes (LGE_REPORT 0) 32)) else none } }, w)) ∧
  MbxDoes .progControl 0x0713 planProgControl (fun c _ g => g.rdB (LGE_PRG_CMD (c.n1 0)) LGE_PRG_CMD_BUSY = false) (fun c _ g =>
    let w := g.prgCmdWrite (c.n1 0) (fset LGE_PRG_CMD_COLD (fset LGE_PRG_CMD_OP 0 (c.n1 1)) (c.n1 2))
    ({ status := prgStatus (w.rd (LGE_PRG_CMD (c.n1 0)) LGE_PRG_CMD_RESULT) }, w)) ∧
  (∀ f, MbxDoes .progForce 0x0714 planProgForce (fun c _ g => g.forceSlot (c.n1 0) (c.n2 2) (c.n1 4 == 1) = some f
    ∧ (c.n1 4 = 1 → ∃ d ∈ g.decls (c.n1 0), d.var = c.n2 2)) fun c x g =>
      ({ status := (g.setForce (c.n1 0) f (c.n2 2) (c.n1 4 == 1) (c.n4 8) x.id).1 }, (g.setForce (c.n1 0) f (c.n2 2) (c.n1 4 == 1) (c.n4 8) x.id).2)) ∧
  MbxRefuses .progForce 0x0714 planProgForce 0x0535 (fun c _ g => c.n1 4 = 1 ∧ ∀ d ∈ g.decls (c.n1 0), d.var ≠ c.n2 2) ∧
  MbxDoes .outBindArm 0x0810 planOutBindArm (fun _ _ _ => True) (fun c _ g =>
    ({}, opOutBindArmWrite (fset OUT_BIND_ARM_ARM (fset OUT_BIND_ARM_BIND 0 (c.n2 0)) (c.n1 2)) g)) ∧
  MbxDoes .outFenceClear 0x0812 planOutFenceClear (fun _ _ _ => True) (fun _ _ g => ({ data := p4 ((opOutFenceClr g).rdW OUT_STAT).toNat }, opOutFenceClr g)) ∧
  MbxDoes .outBinEvents 0x0813 planOutBinEvents (fun _ _ _ => True) (fun c _ g =>
    ({ data := (State.takeBinEvents (c.n4 0) g).1 }, (State.takeBinEvents (c.n4 0) g).2)) ∧
  MbxDoes .recArm 0x0901 planRecArm (fun _ _ _ => True) (fun c _ g =>
    let w := g.recSync.recArm (c.n1 0)
    ({ status := recStatus w.1, detail := w.2.1, data := if w.1 = 0 then p4 (w.2.2.rdW (REC_PRE_EFF (c.n1 0))).toNat ++ p4 (w.2.2.rd (REC_STATE (c.n1 0)) REC_STATE_PRE_REDUCED) else [] }, w.2.2)) ∧
  MbxDoes .recDisarm 0x0902 planRecDisarm (fun _ _ _ => True) (fun c _ g => ({ status := recStatus (g.recDisarm (c.n1 0)).1 }, (g.recDisarm (c.n1 0)).2)) ∧
  (∀ u, MbxDoes .recTrigger 0x0903 planRecTrigger (fun c _ g =>
    g.recSync.recOffer (c.n1 0) 9 (if c.n1 1 = 1 then g.stamp else c.n8 4) 0 none = (.accepted, u)) fun _ _ _ => ({}, u.recSync)) ∧
  (∀ u, MbxDoes .recTrigger 0x0903 planRecTrigger (fun c _ g =>
    g.recSync.recOffer (c.n1 0) 9 (if c.n1 1 = 1 then g.stamp else c.n8 4) 0 none = (.tooOld, u)) fun _ _ _ => ({ status := 0x0553 }, u.recSync)) ∧
  MbxDoes .recExport 0x0904 planRecExport (fun c _ g => g.recState (c.n1 0) = 3 ∧ (g.recDyn (c.n1 0)).exporting = false) (fun c _ g =>
    match g.bulkOut (c.n4 4) (c.n8 8) (g.exportBytes (c.n1 0) (c.n1 1 == 1)) with
    | none => ({ status := 0x05A1 }, g)
    | some (d, u) =>
      let y : RecDyn := u.recDyn (c.n1 0)
      ({ later := some { obj := c.n1 0, outcome := some (0, 0, d) } }, u.setRec (c.n1 0) { y with exporting := true })) ∧
  MbxRefuses .recExport 0x0904 planRecExport 0x0551 (fun c _ g => g.recState (c.n1 0) ≠ 3) ∧
  DpxDoes .dpxRevertNow 0x0B11 planDpxRevertNow (fun _ => opRevertNow) ∧ DpxDoes .dpxUnfence 0x0B12 planDpxUnfence (fun c => opEvUnfence (c.n1 0)) ∧
  DpxDoes .dpxDeclare 0x0B13 planDpxDeclare (fun _ => opEvDeclare) ∧ DpxDoes .dpxForceGrant 0x0B14 planDpxForceGrant (fun c => opForceGrant (c.n1 0)) ∧
  MbxDoes .memBankAssign 0x0D10 planMemBankAssign (fun c _ g => g.bankState (c.n4 0) ≠ 5 ∧ g.ownerOk (bankWord c) = true ∧ g.handoverOk (c.n4 0) (bankWord c) = true)
    (fun c _ g => ({ later := some { obj := c.n4 0, arg := (bankWord c).toNat } }, opBankHandover (c.n4 0) (bankWord c) g)) ∧
  MbxRefuses .memBankAssign 0x0D10 planMemBankAssign 0x0590 (fun c _ g => g.bankState (c.n4 0) = 5) ∧
  MbxRefuses .memBankAssign 0x0D10 planMemBankAssign 0x0591 (fun c _ g => g.bankState (c.n4 0) ≠ 5 ∧ g.ownerOk (bankWord c) = false) ∧
  MbxDoes .memBankBist 0x0D11 planMemBankBist (fun c _ g => g.bankState (c.n4 0) = 0 ∨ g.bankState (c.n4 0) = 5) (fun c _ g => ({}, opBankBistStart (c.n4 0) g)) ∧
  MbxRefuses .memBankBist 0x0D11 planMemBankBist 0x0302 (fun c _ g => g.bankState (c.n4 0) ≠ 0 ∧ g.bankState (c.n4 0) ≠ 5)

/-- A key command run to its end on the registers its payload fills: its output is the answer, and the buffers are cleared. -/
def Sys2Proof.Machine.KeyDoes (i : Nat → Cmd → Instr) (op : Nat) (plan : Cmd → State → Plan) (f : Cmd → State → State) (out : Nat) : Prop :=
  MbxDoes i op plan (fun _ _ g => g.opFree = true) (fun c _ g =>
    let input := c.payload.drop 12
    let u := opKeyOperationEnd none (opSweepComplete (opInvalidateComplete (f c (g.keyRegs (c.n2 0) (c.n2 2) (c.n4 4) (c.n2 8) input))))
    let st := u.rd KEY_OP_STAT KEY_OP_STAT_STATUS
    ({ status := st, data := if st = 0 then u.bytes keyOutAddr out else [] },
      (u.store keyInAddr (List.replicate input.length 0)).store keyOutAddr (List.replicate out 0))) ∧
  MbxRefuses i op plan 0x0302 fun _ _ g => g.opFree = false

/-- Key and Almanac commands (R389 to R391, R438 to R452, R457, R497). Confirm codes are free values (log entries 5, 7). -/
def Obligations.MailboxKeysAndAlmanac : Prop :=
  KeyDoes .keyDerive 0x0C10 planKeyDerive (fun _ => opDerive) 0 ∧ KeyDoes .keyImport 0x0C11 planKeyImport (fun c => opImport (c.n1 10 == 1)) 0 ∧
  KeyDoes .keyExport 0x0C12 planKeyExport (fun _ => opExport) 40 ∧ KeyDoes .keyGenerate 0x0C13 planKeyGenerate (fun _ => opGenerate) 64 ∧
  KeyDoes .keyAgree 0x0C14 planKeyAgree (fun _ => opAgree) 0 ∧
  MbxDoes .keyInvalidate 0x0C15 planKeyInvalidate (fun _ _ g => g.opFree = true) (fun c _ g =>
    let u := opKeyOperationEnd none (opSweepComplete (opInvalidateComplete (opInvalidate (c.n1 2 == 1) (g.keyRegs 0 (c.n2 0) 0 0 []))))
    ({ status := u.rd KEY_OP_STAT KEY_OP_STAT_STATUS, data := p4 (u.rd KEY_OP_STAT KEY_OP_STAT_COUNT) }, u)) ∧
  MbxDoes .keySweep 0x0C16 planKeySweep (fun _ _ g => g.opFree = true) (fun _ _ g =>
    let u := opKeyOperationEnd none (opSweepComplete (opInvalidateComplete (opSweep (g.keyRegs 0 0 0 0 []))))
    ({ status := u.rd KEY_OP_STAT KEY_OP_STAT_STATUS, data := p4 (u.rd KEY_OP_STAT KEY_OP_STAT_COUNT) }, u)) ∧
  MbxDoes .keyHandleSet 0x0C17 planKeyHandleSet (fun c _ g => g.tenState (c.n2 0) ≠ 5) (fun c _ g =>
    let a := KEY_HANDLE (c.n2 0) (c.n2 2)
    ({}, (g.wr a KEY_HANDLE_SLOT (c.n2 4)).wrB a KEY_HANDLE_VALID (c.n1 6 == 1))) ∧
  MbxDoes .keyHandleSet 0x0C17 planKeyHandleSet (fun c _ g => g.tenState (c.n2 0) = 5 ∧ g.tenBit (c.n2 0) TEN_STATE_DIR = true) (fun c _ g =>
    let a := KEY_HANDLE (c.n2 0) (c.n2 2)
    ({}, State.tenNotice ((g.wr a KEY_HANDLE_SLOT (c.n2 4)).wrB a KEY_HANDLE_VALID (c.n1 6 == 1)) (c.n2 0) 3 (c.n2 2))) ∧
  MbxDoes .keyZeroise 0x0C18 planKeyZeroise (fun _ _ g => g.opFree = true) (fun _ _ g =>
    let u := opKeyOperationEnd none (opSweepComplete (opInvalidateComplete (opZeroise (g.keyRegs 0 0 0 0 []))))
    ({ status := u.rd KEY_OP_STAT KEY_OP_STAT_STATUS }, u)) ∧
  (∀ n, MbxDoes .keyEnroll 0x0C20 planKeyEnroll (fun _ _ g => (List.range 4).find? (fun j => (g.fuses.customer.getD j none).isNone) = some n) fun c _ g =>
    let h := Config.sha256 (pointBytes (BitVec.ofNat 512 (beNat c.payload)))
    ({ data := p1 n ++ leBytes 3 0 }, g.setFuses { g.fuses with customer := g.fuses.customer.set n (some h) })) ∧
  MbxRefuses .keyEnroll 0x0C20 planKeyEnroll 0x0303 (fun _ _ g => (List.range 4).find? (fun j => (g.fuses.customer.getD j none).isNone) = none) ∧
  MbxDoes .keyRevoke 0x0C21 planKeyRevoke (fun _ _ g => g.lc ≠ 2) (fun c _ g => ({}, g.setFuses { g.fuses with revoked := g.fuses.revoked.set (c.n1 0) true })) ∧
  MbxDoes .keyLcAdvance 0x0C22 planKeyLcAdvance (fun c _ g => g.lcReady (c.n1 0) = true ∧ c.n1 0 ≠ 3 ∧ ∀ j ∈ g.mbx.jobs, j.opcode ≠ 0x0C22)
    (fun c _ g => ({ later := some { obj := c.n1 0 } }, g)) ∧
  MbxRefuses .keyLcAdvance 0x0C22 planKeyLcAdvance 0x0588 (fun c _ g => g.lcReady (c.n1 0) = false) ∧
  MbxDoes .keyTamperClear 0x0C23 planKeyTamperClear (fun c x g => c.n4 0 ≠ 0 ∧ ∃ m, g.mbx.confirms = [(x.id, 0x0C23, c.n4 0, m)] ∧ g.now ≤ m + 30000000000) (fun _ _ g =>
    let u := (({ g with mbx := { g.mbx with confirms := [] } } : State).wrW KEY_TAMPER_CAUSE 0).wrB KEY_STAT KEY_STAT_TAMPERED false
    ({}, (u.wrB KEY_STAT KEY_STAT_SERVICE true).post 0x0C08 [])) ∧
  MbxDoes .keyTamperCfg 0x0C24 planKeyTamperCfg (fun _ _ _ => True) (fun c _ g => ({}, g.keyWrite KEY_TAMPER_CFG (BitVec.ofNat 32 (c.n4 0)))) ∧
  MbxDoes .almClear 0x0A10 planAlmClear (fun c _ g => c.n2 0 < 512 ∧ g.quota (c.n2 0) ≠ 0) (fun c x g =>
    let w := g.drawCode.2
    ({ data := p4 g.drawCode.1 }, { w with alm := { w.alm with confirms := w.alm.confirms.filter (fun y => y.session != x.id) ++ [{ session := x.id, ch := c.n2 0, code := g.drawCode.1, at_ := g.now }] } })) ∧
  MbxRefuses .almClear 0x0A10 planAlmClear 0x0565 (fun c _ _ => 512 ≤ c.n2 0) ∧
  (∀ m, MbxDoes .almClearConfirm 0x0A11 planAlmClearConfirm (fun c x g => g.alm.confirms = [{ session := x.id, ch := c.n2 0, code := c.n4 4, at_ := m }]
    ∧ g.now ≤ m + 30000000000 ∧ g.quota (c.n2 0) ≠ 0) fun c x g => ({}, State.clearNow { g with alm := { g.alm with confirms := [] } } x (c.n2 0))) ∧
  MbxRefuses .almClearConfirm 0x0A11 planAlmClearConfirm 0x0563 (fun _ x g => ∀ y ∈ g.alm.confirms, y.session ≠ x.id) ∧
  MbxReads .almInfo 0x0A12 planAlmInfo (fun c g => [ALM_CH_FIRST (c.n2 0), ALM_CH_NEXT (c.n2 0), ALM_CH_USED (c.n2 0), ALM_CH_CFG (c.n2 0),
    ALM_CH_STAT (c.n2 0)].flatMap fun a => p4 (g.rdW a).toNat) ∧
  MbxReads .almRead 0x0A13 planAlmRead (fun c g =>
    p4 (g.rdW (ALM_CH_FIRST (c.n2 0))).toNat ++ p4 (g.rdW (ALM_CH_NEXT (c.n2 0))).toNat ++ (g.readRecords (c.n2 0) (c.n4 4) 4052).1)

/-- A tenant command given through TEN_CMD: an accepted one is pending, a rejected one answers STATE_CONFLICT. -/
def Sys2Proof.Machine.TenDoes (i : Nat → Cmd → Instr) (op : Nat) (plan : Cmd → State → Plan) (f : Cmd → State → State) : Prop :=
  MbxDoes i op plan (fun c _ g => g.rdB (TEN_CMD (c.n2 0)) TEN_CMD_BUSY = false ∧ (f c g).rd (TEN_CMD (c.n2 0)) TEN_CMD_RESULT = 0)
    (fun c _ g => ({ later := some { obj := c.n2 0 } }, f c g)) ∧
  MbxDoes i op plan (fun c _ g => g.rdB (TEN_CMD (c.n2 0)) TEN_CMD_BUSY = false ∧ (f c g).rd (TEN_CMD (c.n2 0)) TEN_CMD_RESULT ≠ 0)
    (fun c _ g => ({ status := 0x0505 }, f c g)) ∧
  MbxRefuses i op plan 0x0302 fun c _ g => g.rdB (TEN_CMD (c.n2 0)) TEN_CMD_BUSY = true

/-- What a payload of MIGRATE_IN gives of the tenant (its layout: log entry 7). -/
def Sys2Proof.Machine.migTenant (c : Cmd) : MigTenant :=
  ⟨c.n4 8, fieldsOf [TEN_LIMIT_PUBQ, TEN_LIMIT_ITEMS] (BitVec.ofNat 32 (c.n4 12)),
    fieldsOf [TEN_REPL_EN, TEN_REPL_START, TEN_REPL_LINES] (BitVec.ofNat 32 (c.n4 16)), fieldsOf [TEN_MSG_VA_PAGE] (BitVec.ofNat 32 (c.n4 20)),
    fieldsOf [TEN_MSGCFG_BIT, TEN_MSGCFG_TASK] (BitVec.ofNat 32 (c.n4 24)), migRuns (c.payload.drop 28)⟩

/-- Commands of tenants, the system, sessions, apertures and the steward (R202 to R223, R485 to R500, R505, R516, R518, R526).
Where a clause rests on the model's own choices: log entries 7, 8. -/
def Obligations.MailboxTenantsAndSystem : Prop :=
  (∀ b, MbxDoes .tenantLoad 0x0F10 planTenantLoad (fun c _ g => g.tenantImage c = some b ∧ leAt b 0 2 = c.n2 0) fun c _ g =>
    ({ later := some { obj := c.n2 0, outcome := some ((g.loadTenant b).1, (g.loadTenant b).2.1, []) } }, (g.loadTenant b).2.2)) ∧
  MbxRefuses .tenantLoad 0x0F10 planTenantLoad 0x05A1 (fun c _ g => c.n1 2 = 1 ∧ g.tenantImage c = none) ∧
  TenDoes .tenantStart 0x0F11 planTenantStart (fun c => opTenStart (c.n2 0)) ∧ TenDoes .tenantDisable 0x0F12 planTenantDisable (fun c => opTenDisable (c.n2 0)) ∧
  TenDoes .tenantUnload 0x0F13 planTenantUnload (fun c => opTenRelease (c.n2 0)) ∧
  TenDoes .tenantMigrateAbort 0x0F18 planTenantMigrateAbort (fun c g =>
    if g.tenState (c.n2 0) = 5 ∧ g.tenBit (c.n2 0) TEN_STATE_DIR = true then opTenRelease (c.n2 0) g else opTenResume (c.n2 0) g) ∧
  MbxDoes .tenantSetShare 0x0F14 planTenantSetShare (fun _ _ _ => True) (fun c _ g =>
    ({ status := (g.stageShare (c.n2 0) (c.n4 4)).1 }, (g.stageShare (c.n2 0) (c.n4 4)).2)) ∧
  MbxDoes .tenantSetLimits 0x0F15 planTenantSetLimits (fun _ _ _ => True) (fun c _ g =>
    ({ status := (g.stageLimits (c.n2 0) (bankWord c)).1 }, (g.stageLimits (c.n2 0) (bankWord c)).2)) ∧
  MbxDoes .tenantMigrateOut 0x0F16 planTenantMigrateOut (fun c _ g => g.migrateBarred (c.n2 0) = false ∧ g.unitLacking (c.n2 0) (c.n4 8) = none ∧ g.rdB (TEN_CMD (c.n2 0)) TEN_CMD_BUSY = false
    ∧ (opTenMigrate (c.n2 0) (g.withPeer (c.n2 0) (c.n4 4))).rd (TEN_CMD (c.n2 0)) TEN_CMD_RESULT = 0) (fun c _ g =>
      ({ later := some { obj := c.n2 0 } }, opTenMigrate (c.n2 0) (g.withPeer (c.n2 0) (c.n4 4)))) ∧
  MbxRefuses .tenantMigrateOut 0x0F16 planTenantMigrateOut 0x0505 (fun c _ g => g.migrateBarred (c.n2 0) = true) ∧
  (∀ d, MbxDoes .tenantMigrateOut 0x0F16 planTenantMigrateOut (fun c _ g => g.migrateBarred (c.n2 0) = false ∧ g.unitLacking (c.n2 0) (c.n4 8) = some d)
    fun _ _ g => ({ status := 0x0301, detail := d }, g)) ∧
  MbxDoes .tenantMigrateIn 0x0F17 planTenantMigrateIn (fun c _ g => g.rdB (TEN_CMD (c.n2 0)) TEN_CMD_BUSY = false) (fun c _ g =>
    let u := (g.withPeer (c.n2 0) (c.n4 4)).receiveTenant (c.n2 0) (migTenant c)
    if u.1 = 0 then ({ later := some { obj := c.n2 0 } }, u.2) else ({ status := u.1 }, g)) ∧
  MbxRefuses .tenantMigrateIn 0x0F17 planTenantMigrateIn 0x0302 (fun c _ g => g.rdB (TEN_CMD (c.n2 0)) TEN_CMD_BUSY = true) ∧
  MbxRefuses .tenantMigrateIn 0x0F17 planTenantMigrateIn 0x0505 (fun c _ g => g.rdB (TEN_CMD (c.n2 0)) TEN_CMD_BUSY = false ∧ g.tenState (c.n2 0) ≠ 0) ∧
  MbxDoes .tenantMsg 0x0F19 planTenantMsg (fun c _ g => g.tenState (c.n2 0) ≠ 0 ∧ (g.inbound (c.n2 0) 0x4001 0 (c.payload.drop 4)).1 = true)
    (fun c _ g => ({}, (g.inbound (c.n2 0) 0x4001 0 (c.payload.drop 4)).2)) ∧
  MbxRefuses .tenantMsg 0x0F19 planTenantMsg 0x0505 (fun c _ g => g.tenState (c.n2 0) = 0) ∧
  MbxDoes .tenantMsgRead 0x0F1A planTenantMsgRead (fun _ _ _ => True) (fun c _ g =>
    ({ data := ((g.hostMsgs (c.n2 0)).take (c.n1 2)).flatMap fun m => p1 m.length ++ m }, g.setHostMsgs (c.n2 0) ((g.hostMsgs (c.n2 0)).drop (c.n1 2)))) ∧
  MbxReads .infoGetFeatures 0x1001 planInfoGetFeatures (fun _ g =>
    p4 g.feature ++ g.partNumber ++ slice (g.imageHead 28) 24 4 ++ (p8 g.fuses.deviceId ++ p1 g.lc ++ leBytes 3 0)) ∧
  MbxReads .sysStatus 0x1002 planSysStatus (fun _ g => p4 (g.rdW SYS_ADVENT).toNat ++ p4 g.lc ++ p4 (g.rdW KEY_TAMPER_CAUSE).toNat ++ p4 g.role
    ++ p4 (g.peek TIM_ROUND) ++ p4 (g.rdW SYS_RESET_CAUSE).toNat ++ g.firmwareCounts) ∧
  (∀ b, MbxDoes .sysConfigLoad 0x1010 planSysConfigLoad (fun c _ g => g.aperImage (c.n4 0) (c.n4 4) (c.n4 8) = some b) fun _ _ g =>
    ({ later := some { obj := 0, outcome := some ((g.loadConfig b).1, (g.loadConfig b).2.1, []) } }, (g.loadConfig b).2.2)) ∧
  MbxRefuses .sysConfigLoad 0x1010 planSysConfigLoad 0x05A1 (fun c _ g => g.aperImage (c.n4 0) (c.n4 4) (c.n4 8) = none) ∧
  (∀ b, MbxDoes .stwFlashWrite 0x1210 planStwFlashWrite (fun c _ g => g.aperImage (c.n4 0) (c.n4 4) (c.n4 8) = some b) fun _ _ g =>
    ({ later := some { obj := 0, outcome := some ((g.flashImage b).1, 0, []) } }, (g.flashImage b).2)) ∧
  MbxDoes .dormantEnter 0x1011 planDormantEnter (fun _ _ g => g.tenantsActive = false) (fun c _ g =>
    ({ after := opDormantEntry }, (g.wrW SYS_WAKE_CODE (BitVec.ofNat 32 (c.n4 0))).wrB SYS_DORMANT_CTRL SYS_DORMANT_CTRL_MGMT_WAKE (c.n4 4 == 1))) ∧
  MbxRefuses .dormantEnter 0x1011 planDormantEnter 0x0505 (fun _ _ g => g.tenantsActive = true) ∧
  (∀ f : State → State, MbxDoes .solsticeControl 0x1012 planSolsticeControl
    (fun c _ _ => (c.n1 0 = 1 ∧ f = opSolsticeArm) ∨ (c.n1 0 = 2 ∧ f = opSolsticeDisarm) ∨ (c.n1 0 = 3 ∧ f = opSolsticeFire)) fun _ _ g =>
      ({ data := p4 ((f g).rdW SYS_SNAP_STAT).toNat ++ p8 ((f g).rd64 SYS_SNAP_TIME_LO SYS_SNAP_TIME_HI) }, f g)) ∧
  MbxRefuses .solsticeControl 0x1012 planSolsticeControl 0x0302 (fun c _ g => c.n1 0 = 4 ∧ g.rd SYS_SNAP_STAT SYS_SNAP_STAT_STATE = 1) ∧
  MbxDoes .sysReset 0x1013 planSysReset (fun _ _ _ => True) (fun _ _ g => ({ after := fun u => u.selfReset SYS_RESET_CAUSE_COMMAND }, g)) ∧
  (∀ p, MbxDoes .sessionOpen 0x1101 planSessionOpen (fun c _ g => g.principal (c.n2 0) = some p ∧ c.n1 2 ≤ p.role ∧ (c.n1 3 = 1 → p.clear = true))
    fun c _ g => if (g.openSigned p c).1 = true then (g.openSigned p c).2.openSession p c
      else ({ status := 0x0201 }, (g.openSigned p c).2.authEvent c.via 0 p.id)) ∧
  MbxDoes .sessionOpen 0x1101 planSessionOpen (fun c _ g => g.principal (c.n2 0) = none) (fun c _ g => ({ status := 0x0201 }, g.authEvent c.via 0 (c.n2 0))) ∧
  MbxDoes .sessionClose 0x1102 planSessionClose (fun _ _ _ => True) (fun _ x g => ({}, g.endSession x.id 1)) ∧
  MbxAnswers .sessionList 0x1103 planSessionList (fun c => c.n4 0 != 0) (fun c _ _ => c.n4 0 = 0) (fun _ _ g =>
    ({ data := g.firmwareCounts ++ g.mbx.sessions.flatMap g.sessionLine }, g)) ∧
  MbxAnswers .sessionList 0x1103 planSessionList (fun c => c.n4 0 != 0) (fun c _ g => c.n4 0 ≠ 0 ∧ ∃ y ∈ g.mbx.sessions, y.id = c.n4 0) (fun c _ g =>
    let u := g.endSession (c.n4 0) 3
    ({ data := u.firmwareCounts ++ u.mbx.sessions.flatMap u.sessionLine }, u)) ∧
  MbxAnswers .mbxAck 0x1104 planMbxAck (fun _ => false) (fun _ _ _ => True) (fun c x g =>
    ({}, { g with mbx := { g.mbx with udpDone := g.mbx.udpDone.filter fun y => !(y.session == x.id && y.seq == c.n4 0) } })) ∧
  (∀ a b, MbxDoes .apertureOpen 0x1105 planApertureOpen (fun c _ g => (List.range 16).find? (fun j => !g.aperOn j) = some a ∧ g.aperPlace (c.n4 0) = some b) fun c x g =>
    let w := ((g.wr (MBX_APER_BASE_LO a) MBX_APER_BASE_LO_BASE (b / 4096 % 2 ^ 20)).wr (MBX_APER_BASE_HI a) MBX_APER_BASE_HI_BASE (b / 2 ^ 32)).wr
      (MBX_APER_LEN a) MBX_APER_LEN_LEN (c.n4 0)
    let w := (w.wrB (MBX_APER_CTRL a) MBX_APER_CTRL_WRITE (c.n1 4 == 0)).wrB (MBX_APER_CTRL a) MBX_APER_CTRL_EN true
    ({ data := p1 a ++ leBytes 3 0 ++ p8 (if g.rdB MBX_CTRL MBX_CTRL_PCIE_EN then a * 0x10000000 else 2 ^ 64 - 1) },
      { w with mbx := { w.mbx with aper := cset (fun _ => none) w.mbx.aper a (some x.id) } })) ∧
  MbxRefuses .apertureOpen 0x1105 planApertureOpen 0x0303 (fun c _ g => (∀ j < 16, g.aperOn j = true) ∨ g.aperPlace (c.n4 0) = none) ∧
  MbxDoes .apertureClose 0x1106 planApertureClose (fun c _ g => c.n1 0 < 16 ∧ g.aperOn (c.n1 0) = true) (fun c _ g => ({}, g.closeAperture (c.n1 0))) ∧
  MbxRefuses .apertureClose 0x1106 planApertureClose 0x05A1 (fun c _ g => 16 ≤ c.n1 0 ∨ g.aperOn (c.n1 0) = false) ∧
  MbxAnswers .bulkRead 0x1107 planBulkRead (fun _ => false) (fun c _ g => g.aperFits (c.n1 0) (c.n4 4) (c.n4 8) false = true) (fun c _ g =>
    ({ data := g.bytes (g.aperBase (c.n1 0) + c.n4 4) (c.n4 8) }, g)) ∧
  MbxAnswers .bulkRead 0x1107 planBulkRead (fun _ => false) (fun c _ g => g.aperFits (c.n1 0) (c.n4 4) (c.n4 8) false = false) (fun _ _ g =>
    ({ status := 0x05A1 }, g)) ∧
  MbxDoes .bulkWrite 0x1108 planBulkWrite (fun c _ g => g.aperFits (c.n1 0) (c.n4 4) (c.payload.drop 8).length true = true) (fun c _ g =>
    ({}, g.store (g.aperBase (c.n1 0) + c.n4 4) (c.payload.drop 8))) ∧
  MbxRefuses .bulkWrite 0x1108 planBulkWrite 0x05A1 (fun c _ g => g.aperFits (c.n1 0) (c.n4 4) (c.payload.drop 8).length true = false) ∧
  (∀ n u, MbxDoes .principalSet 0x1109 planPrincipalSet (fun c _ g => c.n1 0 = 1 ∧ (∀ p ∈ g.mbx.principals, p.id ≠ c.n2 4) ∧ g.mbx.principals.length < 32
    ∧ g.importHash (BitVec.ofNat 256 (beAt c.payload 8 32)) = some (n, u)) fun c _ _ =>
      ({}, { u with mbx := { u.mbx with principals := u.mbx.principals ++ [{ id := c.n2 4, role := c.n1 6, clear := c.n1 7 == 1, slot := n }] } })) ∧
  (∀ p, MbxDoes .principalSet 0x1109 planPrincipalSet (fun c _ g => c.n1 0 = 2 ∧ g.mbx.principals.find? (fun q => q.id == c.n2 4) = some p) fun _ _ g =>
    ({}, g.dropPrincipal p)) ∧
  MbxReads .stwVersion 0x1201 planStwVersion (fun _ g => g.imageHead 64 ++ p4 g.fuses.svnVendor ++ p4 g.fuses.svnCustomer) ∧
  MbxDoes .stwSvnAdvance 0x1211 planStwSvnAdvance (fun _ _ g => byteAt (g.imageHead 12) 6 = 1 ∧ leAt (g.imageHead 12) 8 4 ≤ 32) (fun _ _ g =>
    let n := max g.fuses.svnVendor (leAt (g.imageHead 12) 8 4)
    ({}, ({ g with fuses := { g.fuses with svnVendor := n } } : State).postTo 0x20C 0x1283 (p1 0 ++ p4 g.fuses.svnVendor ++ p4 n))) ∧
  MbxDoes .stwSvnAdvance 0x1211 planStwSvnAdvance (fun _ _ g => byteAt (g.imageHead 12) 6 ≠ 1 ∧ leAt (g.imageHead 12) 8 4 ≤ 32) (fun _ _ g =>
    let n := max g.fuses.svnCustomer (leAt (g.imageHead 12) 8 4)
    ({}, ({ g with fuses := { g.fuses with svnCustomer := n } } : State).postTo 0x20C 0x1283 (p1 1 ++ p4 g.fuses.svnCustomer ++ p4 n))) ∧
  MbxReads .stwRegRead 0x1212 planStwRegRead (fun c g => (List.range (c.n4 4)).flatMap fun j => p4 (g.regPeek (c.n4 0 + 4 * j)))

/-- What R483, R489 and R491 make of a mailbox command up to its own checks: without a session it is refused with SESSION and AUTH zero; a
repeated SEQUENCE gets its kept response, any other reuse REPLAY; a start-up that has halted serves only what R509 lists; the first check
that fails is answered with its status and DETAIL, and nothing of the command takes effect (a role or right refused writes 0x1184); an
ACCEPTED_PENDING answer without room is NO_RESOURCE. -/
def Sys2Proof.Machine.MbxOrder (i : Nat → Cmd → Instr) (op : Nat) (plan : Cmd → State → Plan) : Prop :=
  (∀ t c s, (s.advance t).sessionOf op c.session = none →
    exec (i t c) s = .next (s.after t fun m => m.refuseHead c.via op c.tag c.sequence 0x0202)) ∧
  (∀ t c s x b, (s.advance t).sessionOf op c.session = some x → x.judge c.sequence (cmdBytes op c) = .again b →
    exec (i t c) s = .next (s.after t fun m => (m.setSession { x with lastAt := m.now }).respond c.via b)) ∧
  (∀ t c s x k g, (s.advance t).sessionOf op c.session = some x → x.judge c.sequence (cmdBytes op c) = .replay → (s.advance t).sessionKey x 6 = (k, g) →
    exec (i t c) s = .next (s.after t fun _ => ({ g with mbx := { g.mbx with replay := g.mbx.replay + 1 } } : State).respond c.via
      (msgBytes k 1 op c.tag c.session c.sequence (statusBytes 0x0204 0)))) ∧
  (∀ t c s x k g, (s.advance t).sessionOf op c.session = some x → x.judge c.sequence (cmdBytes op c) = .fresh →
    ((s.advance t).setSession (x.accept c.sequence (s.advance t).now)).sessionKey x 6 = (k, g) → g.haltServes op = false →
    exec (i t c) s = .next (s.after t fun _ => g.finish op c x k { status := 0x0103 } false)) ∧
  (∀ t c s x k g e st d, (s.advance t).sessionOf op c.session = some x → x.judge c.sequence (cmdBytes op c) = .fresh →
    ((s.advance t).setSession (x.accept c.sequence (s.advance t).now)).sessionKey x 6 = (k, g) → g.haltServes op = true → cmdInfo op = some e →
    g.checks op e (plan c g) x = some (st, d) →
    exec (i t c) s = .next (s.after t fun _ =>
      (if st = 0x0203 ∨ st = 0x0206 then g.roleEvent c.via x.id op st else g).finish op c x k { status := st, detail := d } false)) ∧
  (∀ t c s x k g, MbxReady op t c (plan c) s x k g → ((plan c g).body x).1.later.isSome = true → g.pendFull c.via = true →
    exec (i t c) s = .next (s.after t fun _ => g.finish op c x k { status := 0x0303 } (audited op (plan c g))))

/-- The order of R483's checks, for every command of the protocol.
Where a clause rests on the model's own choices: log entry 9. -/
def Obligations.MailboxOrder : Prop :=
  (∀ (g : State) op e p x n, p.absent = some n → g.checks op e p x = some (0x0301, op / 256 * 256 + n % 256)) ∧
  (∀ (g : State) op e p x, p.absent = none → g.inService = false → e.status = false → e.recovery = false → g.checks op e p x = some (0x0401, 0)) ∧
  (∀ (g : State) op e p x, p.absent = none → p.tamper = false → g.inService = true → p.lcOk = false → g.checks op e p x = some (0x0205, 0)) ∧
  (∀ (g : State) op e p x, p.absent = none → p.tamper = false → g.inService = true → p.lcOk = true → g.lc ≠ 3 → x.role < p.role.getD e.role →
    g.checks op e p x = some (0x0203, 0)) ∧
  (∀ (g : State) op e p x, p.absent = none → p.tamper = false → g.inService = true → p.lcOk = true → g.lc ≠ 3 → p.role.getD e.role ≤ x.role →
    p.clear = true → x.clear = false → g.checks op e p x = some (0x0206, 0)) ∧
  (∀ (g : State) op e p x, p.absent = none → p.tamper = false → g.inService = true → p.lcOk = true → g.lc ≠ 3 → p.role.getD e.role ≤ x.role →
    (p.clear = true → x.clear = true) → g.checks op e p x = p.bad) ∧
  MbxOrder .prtStatus 0x0101 planPrtStatus ∧ MbxOrder .prtPortSet 0x0110 planPrtPortSet ∧ MbxOrder .prtLreSet 0x0111 planPrtLreSet ∧
  MbxOrder .fabStatus 0x0201 planFabStatus ∧ MbxOrder .fabFdbWrite 0x0210 planFabFdbWrite ∧ MbxOrder .fabFdbDelete 0x0211 planFabFdbDelete ∧
  MbxOrder .fabLimitsSet 0x0212 planFabLimitsSet ∧ MbxOrder .ingStatus 0x0301 planIngStatus ∧ MbxOrder .streamAdd 0x0310 planStreamAdd ∧
  MbxOrder .streamRemove 0x0311 planStreamRemove ∧ MbxOrder .streamFlip 0x0312 planStreamFlip ∧ MbxOrder .stencilLoad 0x0313 planStencilLoad ∧
  MbxOrder .strangerRead 0x0314 planStrangerRead ∧ MbxOrder .acqStatus 0x0401 planAcqStatus ∧ MbxOrder .acqGroupSet 0x0410 planAcqGroupSet ∧
  MbxOrder .acqTripSet 0x0411 planAcqTripSet ∧ MbxOrder .acqTripRelease 0x0412 planAcqTripRelease ∧ MbxOrder .schStatus 0x0501 planSchStatus ∧
  MbxOrder .schEnqueue 0x0510 planSchEnqueue ∧ MbxOrder .cleStatus 0x0601 planCleStatus ∧ MbxOrder .clawTraceRead 0x0602 planClawTraceRead ∧
  MbxOrder .clawAutotune 0x0610 planClawAutotune ∧ MbxOrder .clawAutotuneApply 0x0611 planClawAutotuneApply ∧
  MbxOrder .clawAutotuneAbort 0x0612 planClawAutotuneAbort ∧ MbxOrder .clawControl 0x0613 planClawControl ∧
  MbxOrder .clawCoeffCommit 0x0614 planClawCoeffCommit ∧ MbxOrder .lgeStatus 0x0701 planLgeStatus ∧ MbxOrder .progLoad 0x0710 planProgLoad ∧
  MbxOrder .progVerify 0x0711 planProgVerify ∧ MbxOrder .progExchange 0x0712 planProgExchange ∧ MbxOrder .progControl 0x0713 planProgControl ∧
  MbxOrder .progForce 0x0714 planProgForce ∧ MbxOrder .outStatus 0x0801 planOutStatus ∧ MbxOrder .outBindArm 0x0810 planOutBindArm ∧
  MbxOrder .outBindSet 0x0811 planOutBindSet ∧ MbxOrder .outFenceClear 0x0812 planOutFenceClear ∧ MbxOrder .outBinEvents 0x0813 planOutBinEvents ∧
  MbxOrder .recArm 0x0901 planRecArm ∧ MbxOrder .recDisarm 0x0902 planRecDisarm ∧ MbxOrder .recTrigger 0x0903 planRecTrigger ∧
  MbxOrder .recExport 0x0904 planRecExport ∧ MbxOrder .recStatus 0x0905 planRecStatus ∧ MbxOrder .almClear 0x0A10 planAlmClear ∧
  MbxOrder .almClearConfirm 0x0A11 planAlmClearConfirm ∧ MbxOrder .almInfo 0x0A12 planAlmInfo ∧ MbxOrder .almRead 0x0A13 planAlmRead ∧
  MbxOrder .dpxStatus 0x0B10 planDpxStatus ∧ MbxOrder .dpxRevertNow 0x0B11 planDpxRevertNow ∧ MbxOrder .dpxUnfence 0x0B12 planDpxUnfence ∧
  MbxOrder .dpxDeclare 0x0B13 planDpxDeclare ∧ MbxOrder .dpxForceGrant 0x0B14 planDpxForceGrant ∧ MbxOrder .keyStatus 0x0C01 planKeyStatus ∧
  MbxOrder .keyDerive 0x0C10 planKeyDerive ∧ MbxOrder .keyImport 0x0C11 planKeyImport ∧ MbxOrder .keyExport 0x0C12 planKeyExport ∧
  MbxOrder .keyGenerate 0x0C13 planKeyGenerate ∧ MbxOrder .keyAgree 0x0C14 planKeyAgree ∧ MbxOrder .keyInvalidate 0x0C15 planKeyInvalidate ∧
  MbxOrder .keySweep 0x0C16 planKeySweep ∧ MbxOrder .keyHandleSet 0x0C17 planKeyHandleSet ∧ MbxOrder .keyZeroise 0x0C18 planKeyZeroise ∧
  MbxOrder .keyEnroll 0x0C20 planKeyEnroll ∧ MbxOrder .keyRevoke 0x0C21 planKeyRevoke ∧ MbxOrder .keyLcAdvance 0x0C22 planKeyLcAdvance ∧
  MbxOrder .keyTamperClear 0x0C23 planKeyTamperClear ∧ MbxOrder .keyTamperCfg 0x0C24 planKeyTamperCfg ∧ MbxOrder .memStatus 0x0D01 planMemStatus ∧
  MbxOrder .memBankAssign 0x0D10 planMemBankAssign ∧ MbxOrder .memBankBist 0x0D11 planMemBankBist ∧ MbxOrder .timStatus 0x0E01 planTimStatus ∧
  MbxOrder .timSet 0x0E10 planTimSet ∧ MbxOrder .tenantStatus 0x0F01 planTenantStatus ∧ MbxOrder .tenantLoad 0x0F10 planTenantLoad ∧
  MbxOrder .tenantStart 0x0F11 planTenantStart ∧ MbxOrder .tenantDisable 0x0F12 planTenantDisable ∧ MbxOrder .tenantUnload 0x0F13 planTenantUnload ∧
  MbxOrder .tenantSetShare 0x0F14 planTenantSetShare ∧ MbxOrder .tenantSetLimits 0x0F15 planTenantSetLimits ∧
  MbxOrder .tenantMigrateOut 0x0F16 planTenantMigrateOut ∧ MbxOrder .tenantMigrateIn 0x0F17 planTenantMigrateIn ∧
  MbxOrder .tenantMigrateAbort 0x0F18 planTenantMigrateAbort ∧ MbxOrder .tenantMsg 0x0F19 planTenantMsg ∧
  MbxOrder .tenantMsgRead 0x0F1A planTenantMsgRead ∧ MbxOrder .infoGetFeatures 0x1001 planInfoGetFeatures ∧
  MbxOrder .sysStatus 0x1002 planSysStatus ∧ MbxOrder .sysConfigLoad 0x1010 planSysConfigLoad ∧ MbxOrder .dormantEnter 0x1011 planDormantEnter ∧
  MbxOrder .solsticeControl 0x1012 planSolsticeControl ∧ MbxOrder .sysReset 0x1013 planSysReset ∧ MbxOrder .sessionOpen 0x1101 planSessionOpen ∧
  MbxOrder .sessionClose 0x1102 planSessionClose ∧ MbxOrder .sessionList 0x1103 planSessionList ∧ MbxOrder .mbxAck 0x1104 planMbxAck ∧
  MbxOrder .apertureOpen 0x1105 planApertureOpen ∧ MbxOrder .apertureClose 0x1106 planApertureClose ∧ MbxOrder .bulkRead 0x1107 planBulkRead ∧
  MbxOrder .bulkWrite 0x1108 planBulkWrite ∧ MbxOrder .principalSet 0x1109 planPrincipalSet ∧ MbxOrder .stwVersion 0x1201 planStwVersion ∧
  MbxOrder .stwFlashWrite 0x1210 planStwFlashWrite ∧ MbxOrder .stwSvnAdvance 0x1211 planStwSvnAdvance ∧ MbxOrder .stwRegRead 0x1212 planStwRegRead ∧
  MbxOrder .stwRegWrite 0x1213 planStwRegWrite
end

