-- ==== Sys2Proof/Laws/Bits.lean ====
section
/-! SUPPORT. Laws of register fields: a field read after a write of the same field, and of a field that shares no bit with it. -/

namespace Sys2Proof.Machine

theorem fmask_bit (f : Fld) (i : Nat) (hf : f.lo + f.width ≤ 32) (h : i < 32) : (fmask f).getLsbD i = (decide (f.lo ≤ i) && decide (i < f.lo + f.width)) := by
  simp only [fmask, BitVec.getLsbD_and, BitVec.getLsbD_shiftLeft, BitVec.getLsbD_ushiftRight, BitVec.getLsbD_allOnes]
  have e : (decide (32 - f.lo - f.width + i < 32)) = decide (i < f.lo + f.width) := by
    apply decide_eq_decide.mpr; omega
  rw [e]
  by_cases h1 : f.lo ≤ i <;> (simp [h1, h]; try omega)

theorem fset_bit (f : Fld) (w : Word) (v i : Nat) (hf : f.lo + f.width ≤ 32) (h : i < 32) :
    (fset f w v).getLsbD i = if f.lo ≤ i ∧ i < f.lo + f.width then v.testBit (i - f.lo) else w.getLsbD i := by
  have hm := fmask_bit f i hf h
  simp only [fset, BitVec.getLsbD_or, BitVec.getLsbD_and, BitVec.getLsbD_not, BitVec.getLsbD_shiftLeft, hm, h, decide_true, Bool.true_and,
    BitVec.getLsbD_ofNat]
  by_cases h1 : f.lo ≤ i
  · have : i - f.lo < 32 := by omega
    by_cases h2 : i < f.lo + f.width <;> simp [h1, h2, this]
  · simp [h1]

/-- A field reads as the bits written to it. -/
theorem fget_fset_same (f : Fld) (w : Word) (v : Nat) (hf : f.lo + f.width ≤ 32) : fget f (fset f w v) = v % 2 ^ f.width := by
  apply Nat.eq_of_testBit_eq
  intro i
  simp only [fget, BitVec.testBit_toNat, BitVec.getLsbD_extractLsb', Nat.testBit_mod_two_pow]
  by_cases hi : i < f.width
  · rw [fset_bit f w v (f.lo + i) hf (by omega)]
    simp [hi]
  · simp [hi]

/-- A field written leaves every field apart from it as it was. -/
theorem fget_fset_apart (f g : Fld) (w : Word) (v : Nat) (hf : f.lo + f.width ≤ 32) (hg : g.lo + g.width ≤ 32)
    (h : f.lo + f.width ≤ g.lo ∨ g.lo + g.width ≤ f.lo) : fget g (fset f w v) = fget g w := by
  apply Nat.eq_of_testBit_eq
  intro i
  simp only [fget, BitVec.testBit_toNat, BitVec.getLsbD_extractLsb']
  by_cases hi : i < g.width
  · rw [fset_bit f w v (g.lo + i) hf (by omega)]
    have : ¬ (f.lo ≤ g.lo + i ∧ g.lo + i < f.lo + f.width) := by omega
    simp [hi, this]
  · simp [hi]

/-- A field is below two to its width. -/
theorem fget_lt (f : Fld) (w : Word) : fget f w < 2 ^ f.width := (w.extractLsb' f.lo f.width).isLt

end Sys2Proof.Machine
end

