-- ==== Sys2Proof/Laws/Cells.lean ====
section
/-! SUPPORT. The laws of the sparse stores: a read after a write, and the canonical form that every write keeps. The read
laws need no canonical form. -/

namespace Sys2Proof.Machine

variable {α : Type} (d : Nat → α)

theorem cget_cdrop_gt (m : Cells α) {k j : Nat} (h : k < j) : cget d (cdrop m k) j = cget d m j := by
  induction m with
  | nil => rfl
  | cons p r ih =>
    obtain ⟨k0, v⟩ := p
    unfold cdrop
    by_cases h0 : k0 ≤ k
    · have : k0 < j := by omega
      simp [h0, ih, cget, this]
    · simp [h0]

theorem cget_cdrop_le (m : Cells α) {k j : Nat} (h : j ≤ k) : cget d (cdrop m k) j = d j := by
  induction m with
  | nil => rfl
  | cons p r ih =>
    obtain ⟨k0, v⟩ := p
    unfold cdrop
    by_cases h0 : k0 ≤ k
    · simp [h0, ih]
    · have h1 : ¬ k0 < j := by omega
      have h2 : k0 ≠ j := by omega
      simp [h0, cget, h1, h2]

variable [DecidableEq α]

/-- A write is what the same key reads next. -/
@[simp] theorem cget_cset_same (m : Cells α) (k : Nat) (v : α) : cget d (cset d m k v) k = v := by
  induction m with
  | nil =>
    unfold cset
    by_cases h : v = d k <;> simp [h, cget]
  | cons p r ih =>
    obtain ⟨k0, v0⟩ := p
    unfold cset
    by_cases h0 : k0 < k
    · simp [h0, cget, ih]
    · by_cases h : v = d k
      · subst h
        simp [h0, cget_cdrop_le d _ (Nat.le_refl k)]
      · simp [h0, h, cget]

/-- A write leaves every other key as it was. -/
theorem cget_cset_ne (m : Cells α) {k j : Nat} (v : α) (h : j ≠ k) : cget d (cset d m k v) j = cget d m j := by
  induction m with
  | nil =>
    unfold cset
    by_cases hv : v = d k
    · simp [hv]
    · simp only [hv, if_false, cget]
      have : ¬ k = j := fun e => h e.symm
      simp [this]
  | cons p r ih =>
    obtain ⟨k0, v0⟩ := p
    unfold cset
    by_cases h0 : k0 < k
    · simp [h0, cget, ih]
    · have tail : ∀ m' : Cells α, m' = (k0, v0) :: r → cget d (cdrop m' k) j = cget d m' j := by
        intro m' e
        rcases Nat.lt_or_gt_of_ne h with hj | hj
        · rw [cget_cdrop_le d _ (by omega), e]
          have h1 : ¬ k0 < j := by omega
          have h2 : ¬ k0 = j := by omega
          simp [cget, h1, h2]
        · exact cget_cdrop_gt d _ hj
      by_cases hv : v = d k
      · simp only [h0, hv, if_false, if_true]
        exact tail _ rfl
      · simp only [h0, hv, if_false]
        have hk : ¬ k = j := fun e => h e.symm
        by_cases hj : k < j
        · simp only [cget, hj, if_true]
          rw [tail _ rfl]
          rfl
        · have h1 : ¬ k0 < j := by omega
          have h2 : ¬ k0 = j := by omega
          simp [cget, hj, hk, h1, h2]

theorem cget_cset (m : Cells α) (k j : Nat) (v : α) : cget d (cset d m k v) j = if j = k then v else cget d m j := by
  by_cases h : j = k
  · subst h; simp
  · simp [h, cget_cset_ne d m v h]

/-! ### Canonical form -/

theorem cwfFrom_mono {m : Cells α} {a b : Nat} (h : cwfFrom d (some a) m = true) (hab : b ≤ a) : cwfFrom d (some b) m = true := by
  cases m with
  | nil => rfl
  | cons p r =>
    simp only [cwfFrom, Bool.and_eq_true, decide_eq_true_eq] at h ⊢
    exact ⟨⟨by omega, h.1.2⟩, h.2⟩

theorem cwfFrom_weaken {m : Cells α} {a : Nat} (h : cwfFrom d (some a) m = true) : cwf d m = true := by
  cases m with
  | nil => rfl
  | cons p r =>
    simp only [cwf, cwfFrom, Bool.and_eq_true, decide_eq_true_eq, Bool.true_and] at h ⊢
    exact ⟨h.1.2, h.2⟩

theorem cwfFrom_cdrop (m : Cells α) (k : Nat) {l : Nat} (h : cwfFrom d (some l) m = true) : cwfFrom d (some k) (cdrop m k) = true := by
  induction m generalizing l with
  | nil => rfl
  | cons p r ih =>
    obtain ⟨k0, v⟩ := p
    simp only [cwfFrom, Bool.and_eq_true, decide_eq_true_eq] at h
    unfold cdrop
    by_cases h0 : k0 ≤ k
    · simp only [h0, if_true]
      exact ih h.2
    · simp only [h0, if_false, cwfFrom, Bool.and_eq_true, decide_eq_true_eq]
      exact ⟨⟨by omega, h.1.2⟩, h.2⟩

theorem cwfFrom_cset (m : Cells α) (k : Nat) (v : α) {l : Nat} (h : cwfFrom d (some l) m = true) (hk : l < k) :
    cwfFrom d (some l) (cset d m k v) = true := by
  induction m generalizing l with
  | nil =>
    unfold cset
    by_cases hv : v = d k
    · simp [hv, cwfFrom]
    · simp [hv, cwfFrom, hk]
  | cons p r ih =>
    obtain ⟨k0, v0⟩ := p
    have h' := h
    simp only [cwfFrom, Bool.and_eq_true, decide_eq_true_eq] at h
    unfold cset
    by_cases h0 : k0 < k
    · simp only [h0, if_true, cwfFrom, Bool.and_eq_true, decide_eq_true_eq]
      exact ⟨h.1, ih h.2 h0⟩
    · have hd := cwfFrom_cdrop d _ k h'
      by_cases hv : v = d k
      · simp only [h0, hv, if_false, if_true]
        exact cwfFrom_mono d hd (by omega)
      · simp only [h0, hv, if_false, cwfFrom, Bool.and_eq_true, decide_eq_true_eq]
        exact ⟨⟨hk, hv⟩, hd⟩

/-- A write keeps the canonical form. -/
theorem cwf_cset (m : Cells α) (k : Nat) (v : α) (h : cwf d m = true) : cwf d (cset d m k v) = true := by
  cases m with
  | nil =>
    unfold cset
    by_cases hv : v = d k
    · simp [hv, cwf, cwfFrom]
    · simp [hv, cwf, cwfFrom]
  | cons p r =>
    obtain ⟨k0, v0⟩ := p
    simp only [cwf, cwfFrom, Bool.and_eq_true, decide_eq_true_eq, Bool.true_and] at h
    unfold cset
    by_cases h0 : k0 < k
    · simp only [h0, if_true, cwf, cwfFrom, Bool.and_eq_true, decide_eq_true_eq, Bool.true_and]
      exact ⟨h.1, cwfFrom_cset d r k v h.2 h0⟩
    · have hd : cwfFrom d (some k) (cdrop ((k0, v0) :: r) k) = true := by
        unfold cdrop
        by_cases h1 : k0 ≤ k
        · simp only [h1, if_true]
          exact cwfFrom_cdrop d r k h.2
        · simp only [h1, if_false, cwfFrom, Bool.and_eq_true, decide_eq_true_eq]
          exact ⟨⟨by omega, h.1⟩, h.2⟩
      by_cases hv : v = d k
      · simp only [h0, hv, if_false, if_true]
        exact cwfFrom_weaken d hd
      · simp only [h0, hv, if_false, cwf, cwfFrom, Bool.and_eq_true, decide_eq_true_eq, Bool.true_and]
        exact ⟨hv, hd⟩

theorem cwfFrom_cerase (p : Nat → Bool) (m : Cells α) {l : Nat} (h : cwfFrom d (some l) m = true) :
    cwfFrom d (some l) (cerase p m) = true := by
  induction m generalizing l with
  | nil => rfl
  | cons q r ih =>
    obtain ⟨k0, v0⟩ := q
    simp only [cwfFrom, Bool.and_eq_true, decide_eq_true_eq] at h
    have e : cerase p ((k0, v0) :: r) = if p k0 then cerase p r else (k0, v0) :: cerase p r := by
      by_cases hp : p k0 = true <;> simp [cerase, hp]
    rw [e]
    by_cases hp : p k0 = true
    · simp only [hp, if_true]
      exact ih (cwfFrom_mono d h.2 (by omega))
    · rw [if_neg hp]
      simp only [cwfFrom, Bool.and_eq_true, decide_eq_true_eq]
      exact ⟨h.1, ih h.2⟩

/-- Erasing keys keeps the canonical form. -/
theorem cwf_cerase (p : Nat → Bool) (m : Cells α) (h : cwf d m = true) : cwf d (cerase p m) = true := by
  cases m with
  | nil => rfl
  | cons q r =>
    obtain ⟨k0, v0⟩ := q
    simp only [cwf, cwfFrom, Bool.and_eq_true, decide_eq_true_eq, Bool.true_and] at h
    have e : cerase p ((k0, v0) :: r) = if p k0 then cerase p r else (k0, v0) :: cerase p r := by
      by_cases hp : p k0 = true <;> simp [cerase, hp]
    rw [e]
    by_cases hp : p k0 = true
    · simp only [hp, if_true]
      exact cwfFrom_weaken d (cwfFrom_cerase d p r h.2)
    · rw [if_neg hp]
      simp only [cwf, cwfFrom, Bool.and_eq_true, decide_eq_true_eq, Bool.true_and]
      exact ⟨h.1, cwfFrom_cerase d p r h.2⟩

end Sys2Proof.Machine
end

