-- ==== Sys2Proof/Laws/State.lean ====
section
/-! SUPPORT. What each update of the state leaves alone, field by field, and the laws of registers, counters, captures and
memory bytes: a read after a write of the same place, and of another. -/

namespace Sys2Proof.Machine

/-! ### advance -/

@[simp] theorem State.advance_pending (s : State) (t : Nat) : (s.advance t).pending = s.pending := rfl
@[simp] theorem State.advance_bus (s : State) (t : Nat) : (s.advance t).bus = s.bus := rfl
@[simp] theorem State.advance_wire (s : State) (t : Nat) : (s.advance t).wire = s.wire := rfl
@[simp] theorem State.advance_freeNext (s : State) (t : Nat) : (s.advance t).freeNext = s.freeNext := rfl
@[simp] theorem State.advance_regs (s : State) (t : Nat) : (s.advance t).regs = s.regs := rfl
@[simp] theorem State.advance_cnt (s : State) (t : Nat) : (s.advance t).cnt = s.cnt := rfl
@[simp] theorem State.advance_cntHi (s : State) (t : Nat) : (s.advance t).cntHi = s.cntHi := rfl
@[simp] theorem State.advance_rate (s : State) (t : Nat) : (s.advance t).rate = s.rate := rfl
@[simp] theorem State.advance_mem (s : State) (t : Nat) : (s.advance t).mem = s.mem := rfl
@[simp] theorem State.advance_caps (s : State) (t : Nat) : (s.advance t).caps = s.caps := rfl
@[simp] theorem State.advance_fuses (s : State) (t : Nat) : (s.advance t).fuses = s.fuses := rfl
@[simp] theorem State.advance_tim (s : State) (t : Nat) : (s.advance t).tim = s.tim := rfl
@[simp] theorem State.advance_alm (s : State) (t : Nat) : (s.advance t).alm = s.alm := rfl
@[simp] theorem State.advance_snap (s : State) (t : Nat) : (s.advance t).snap = s.snap := rfl
@[simp] theorem State.advance_bank (s : State) (t : Nat) : (s.advance t).bank = s.bank := rfl
@[simp] theorem State.advance_key (s : State) (t : Nat) : (s.advance t).key = s.key := rfl
@[simp] theorem State.advance_prt (s : State) (t : Nat) : (s.advance t).prt = s.prt := rfl
@[simp] theorem State.advance_fab (s : State) (t : Nat) : (s.advance t).fab = s.fab := rfl
@[simp] theorem State.advance_sch (s : State) (t : Nat) : (s.advance t).sch = s.sch := rfl
@[simp] theorem State.advance_ten (s : State) (t : Nat) : (s.advance t).ten = s.ten := rfl
@[simp] theorem State.advance_ing (s : State) (t : Nat) : (s.advance t).ing = s.ing := rfl
@[simp] theorem State.advance_acq (s : State) (t : Nat) : (s.advance t).acq = s.acq := rfl
@[simp] theorem State.advance_out (s : State) (t : Nat) : (s.advance t).out = s.out := rfl
@[simp] theorem State.advance_cle (s : State) (t : Nat) : (s.advance t).cle = s.cle := rfl
@[simp] theorem State.advance_lge (s : State) (t : Nat) : (s.advance t).lge = s.lge := rfl
@[simp] theorem State.advance_rec_ (s : State) (t : Nat) : (s.advance t).rec_ = s.rec_ := rfl
@[simp] theorem State.advance_dpx (s : State) (t : Nat) : (s.advance t).dpx = s.dpx := rfl
@[simp] theorem State.advance_sys (s : State) (t : Nat) : (s.advance t).sys = s.sys := rfl
@[simp] theorem State.advance_mbx (s : State) (t : Nat) : (s.advance t).mbx = s.mbx := rfl

/-! ### answer -/

@[simp] theorem State.answer_pending (s : State) (v : Nat) : (s.answer v).pending = s.pending := rfl
@[simp] theorem State.answer_now (s : State) (v : Nat) : (s.answer v).now = s.now := rfl
@[simp] theorem State.answer_wire (s : State) (v : Nat) : (s.answer v).wire = s.wire := rfl
@[simp] theorem State.answer_freeNext (s : State) (v : Nat) : (s.answer v).freeNext = s.freeNext := rfl
@[simp] theorem State.answer_regs (s : State) (v : Nat) : (s.answer v).regs = s.regs := rfl
@[simp] theorem State.answer_cnt (s : State) (v : Nat) : (s.answer v).cnt = s.cnt := rfl
@[simp] theorem State.answer_cntHi (s : State) (v : Nat) : (s.answer v).cntHi = s.cntHi := rfl
@[simp] theorem State.answer_rate (s : State) (v : Nat) : (s.answer v).rate = s.rate := rfl
@[simp] theorem State.answer_mem (s : State) (v : Nat) : (s.answer v).mem = s.mem := rfl
@[simp] theorem State.answer_caps (s : State) (v : Nat) : (s.answer v).caps = s.caps := rfl
@[simp] theorem State.answer_fuses (s : State) (v : Nat) : (s.answer v).fuses = s.fuses := rfl
@[simp] theorem State.answer_tim (s : State) (v : Nat) : (s.answer v).tim = s.tim := rfl
@[simp] theorem State.answer_alm (s : State) (v : Nat) : (s.answer v).alm = s.alm := rfl
@[simp] theorem State.answer_snap (s : State) (v : Nat) : (s.answer v).snap = s.snap := rfl
@[simp] theorem State.answer_bank (s : State) (v : Nat) : (s.answer v).bank = s.bank := rfl
@[simp] theorem State.answer_key (s : State) (v : Nat) : (s.answer v).key = s.key := rfl
@[simp] theorem State.answer_prt (s : State) (v : Nat) : (s.answer v).prt = s.prt := rfl
@[simp] theorem State.answer_fab (s : State) (v : Nat) : (s.answer v).fab = s.fab := rfl
@[simp] theorem State.answer_sch (s : State) (v : Nat) : (s.answer v).sch = s.sch := rfl
@[simp] theorem State.answer_ten (s : State) (v : Nat) : (s.answer v).ten = s.ten := rfl
@[simp] theorem State.answer_ing (s : State) (v : Nat) : (s.answer v).ing = s.ing := rfl
@[simp] theorem State.answer_acq (s : State) (v : Nat) : (s.answer v).acq = s.acq := rfl
@[simp] theorem State.answer_out (s : State) (v : Nat) : (s.answer v).out = s.out := rfl
@[simp] theorem State.answer_cle (s : State) (v : Nat) : (s.answer v).cle = s.cle := rfl
@[simp] theorem State.answer_lge (s : State) (v : Nat) : (s.answer v).lge = s.lge := rfl
@[simp] theorem State.answer_rec_ (s : State) (v : Nat) : (s.answer v).rec_ = s.rec_ := rfl
@[simp] theorem State.answer_dpx (s : State) (v : Nat) : (s.answer v).dpx = s.dpx := rfl
@[simp] theorem State.answer_sys (s : State) (v : Nat) : (s.answer v).sys = s.sys := rfl
@[simp] theorem State.answer_mbx (s : State) (v : Nat) : (s.answer v).mbx = s.mbx := rfl

/-! ### busFault -/

@[simp] theorem State.busFault_pending (s : State) : (s.busFault ).pending = s.pending := rfl
@[simp] theorem State.busFault_now (s : State) : (s.busFault ).now = s.now := rfl
@[simp] theorem State.busFault_wire (s : State) : (s.busFault ).wire = s.wire := rfl
@[simp] theorem State.busFault_freeNext (s : State) : (s.busFault ).freeNext = s.freeNext := rfl
@[simp] theorem State.busFault_regs (s : State) : (s.busFault ).regs = s.regs := rfl
@[simp] theorem State.busFault_cnt (s : State) : (s.busFault ).cnt = s.cnt := rfl
@[simp] theorem State.busFault_cntHi (s : State) : (s.busFault ).cntHi = s.cntHi := rfl
@[simp] theorem State.busFault_rate (s : State) : (s.busFault ).rate = s.rate := rfl
@[simp] theorem State.busFault_mem (s : State) : (s.busFault ).mem = s.mem := rfl
@[simp] theorem State.busFault_caps (s : State) : (s.busFault ).caps = s.caps := rfl
@[simp] theorem State.busFault_fuses (s : State) : (s.busFault ).fuses = s.fuses := rfl
@[simp] theorem State.busFault_tim (s : State) : (s.busFault ).tim = s.tim := rfl
@[simp] theorem State.busFault_alm (s : State) : (s.busFault ).alm = s.alm := rfl
@[simp] theorem State.busFault_snap (s : State) : (s.busFault ).snap = s.snap := rfl
@[simp] theorem State.busFault_bank (s : State) : (s.busFault ).bank = s.bank := rfl
@[simp] theorem State.busFault_key (s : State) : (s.busFault ).key = s.key := rfl
@[simp] theorem State.busFault_prt (s : State) : (s.busFault ).prt = s.prt := rfl
@[simp] theorem State.busFault_fab (s : State) : (s.busFault ).fab = s.fab := rfl
@[simp] theorem State.busFault_sch (s : State) : (s.busFault ).sch = s.sch := rfl
@[simp] theorem State.busFault_ten (s : State) : (s.busFault ).ten = s.ten := rfl
@[simp] theorem State.busFault_ing (s : State) : (s.busFault ).ing = s.ing := rfl
@[simp] theorem State.busFault_acq (s : State) : (s.busFault ).acq = s.acq := rfl
@[simp] theorem State.busFault_out (s : State) : (s.busFault ).out = s.out := rfl
@[simp] theorem State.busFault_cle (s : State) : (s.busFault ).cle = s.cle := rfl
@[simp] theorem State.busFault_lge (s : State) : (s.busFault ).lge = s.lge := rfl
@[simp] theorem State.busFault_rec_ (s : State) : (s.busFault ).rec_ = s.rec_ := rfl
@[simp] theorem State.busFault_dpx (s : State) : (s.busFault ).dpx = s.dpx := rfl
@[simp] theorem State.busFault_sys (s : State) : (s.busFault ).sys = s.sys := rfl
@[simp] theorem State.busFault_mbx (s : State) : (s.busFault ).mbx = s.mbx := rfl

/-! ### wrW -/

@[simp] theorem State.wrW_pending (s : State) (a : Nat) (w : Word) : (s.wrW a w).pending = s.pending := rfl
@[simp] theorem State.wrW_now (s : State) (a : Nat) (w : Word) : (s.wrW a w).now = s.now := rfl
@[simp] theorem State.wrW_bus (s : State) (a : Nat) (w : Word) : (s.wrW a w).bus = s.bus := rfl
@[simp] theorem State.wrW_wire (s : State) (a : Nat) (w : Word) : (s.wrW a w).wire = s.wire := rfl
@[simp] theorem State.wrW_freeNext (s : State) (a : Nat) (w : Word) : (s.wrW a w).freeNext = s.freeNext := rfl
@[simp] theorem State.wrW_cnt (s : State) (a : Nat) (w : Word) : (s.wrW a w).cnt = s.cnt := rfl
@[simp] theorem State.wrW_cntHi (s : State) (a : Nat) (w : Word) : (s.wrW a w).cntHi = s.cntHi := rfl
@[simp] theorem State.wrW_rate (s : State) (a : Nat) (w : Word) : (s.wrW a w).rate = s.rate := rfl
@[simp] theorem State.wrW_mem (s : State) (a : Nat) (w : Word) : (s.wrW a w).mem = s.mem := rfl
@[simp] theorem State.wrW_caps (s : State) (a : Nat) (w : Word) : (s.wrW a w).caps = s.caps := rfl
@[simp] theorem State.wrW_fuses (s : State) (a : Nat) (w : Word) : (s.wrW a w).fuses = s.fuses := rfl
@[simp] theorem State.wrW_tim (s : State) (a : Nat) (w : Word) : (s.wrW a w).tim = s.tim := rfl
@[simp] theorem State.wrW_alm (s : State) (a : Nat) (w : Word) : (s.wrW a w).alm = s.alm := rfl
@[simp] theorem State.wrW_snap (s : State) (a : Nat) (w : Word) : (s.wrW a w).snap = s.snap := rfl
@[simp] theorem State.wrW_bank (s : State) (a : Nat) (w : Word) : (s.wrW a w).bank = s.bank := rfl
@[simp] theorem State.wrW_key (s : State) (a : Nat) (w : Word) : (s.wrW a w).key = s.key := rfl
@[simp] theorem State.wrW_prt (s : State) (a : Nat) (w : Word) : (s.wrW a w).prt = s.prt := rfl
@[simp] theorem State.wrW_fab (s : State) (a : Nat) (w : Word) : (s.wrW a w).fab = s.fab := rfl
@[simp] theorem State.wrW_sch (s : State) (a : Nat) (w : Word) : (s.wrW a w).sch = s.sch := rfl
@[simp] theorem State.wrW_ten (s : State) (a : Nat) (w : Word) : (s.wrW a w).ten = s.ten := rfl
@[simp] theorem State.wrW_ing (s : State) (a : Nat) (w : Word) : (s.wrW a w).ing = s.ing := rfl
@[simp] theorem State.wrW_acq (s : State) (a : Nat) (w : Word) : (s.wrW a w).acq = s.acq := rfl
@[simp] theorem State.wrW_out (s : State) (a : Nat) (w : Word) : (s.wrW a w).out = s.out := rfl
@[simp] theorem State.wrW_cle (s : State) (a : Nat) (w : Word) : (s.wrW a w).cle = s.cle := rfl
@[simp] theorem State.wrW_lge (s : State) (a : Nat) (w : Word) : (s.wrW a w).lge = s.lge := rfl
@[simp] theorem State.wrW_rec_ (s : State) (a : Nat) (w : Word) : (s.wrW a w).rec_ = s.rec_ := rfl
@[simp] theorem State.wrW_dpx (s : State) (a : Nat) (w : Word) : (s.wrW a w).dpx = s.dpx := rfl
@[simp] theorem State.wrW_sys (s : State) (a : Nat) (w : Word) : (s.wrW a w).sys = s.sys := rfl
@[simp] theorem State.wrW_mbx (s : State) (a : Nat) (w : Word) : (s.wrW a w).mbx = s.mbx := rfl

/-! ### wr -/

@[simp] theorem State.wr_pending (s : State) (a : Nat) (f : Fld) (v : Nat) : (s.wr a f v).pending = s.pending := rfl
@[simp] theorem State.wr_now (s : State) (a : Nat) (f : Fld) (v : Nat) : (s.wr a f v).now = s.now := rfl
@[simp] theorem State.wr_bus (s : State) (a : Nat) (f : Fld) (v : Nat) : (s.wr a f v).bus = s.bus := rfl
@[simp] theorem State.wr_wire (s : State) (a : Nat) (f : Fld) (v : Nat) : (s.wr a f v).wire = s.wire := rfl
@[simp] theorem State.wr_freeNext (s : State) (a : Nat) (f : Fld) (v : Nat) : (s.wr a f v).freeNext = s.freeNext := rfl
@[simp] theorem State.wr_cnt (s : State) (a : Nat) (f : Fld) (v : Nat) : (s.wr a f v).cnt = s.cnt := rfl
@[simp] theorem State.wr_cntHi (s : State) (a : Nat) (f : Fld) (v : Nat) : (s.wr a f v).cntHi = s.cntHi := rfl
@[simp] theorem State.wr_rate (s : State) (a : Nat) (f : Fld) (v : Nat) : (s.wr a f v).rate = s.rate := rfl
@[simp] theorem State.wr_mem (s : State) (a : Nat) (f : Fld) (v : Nat) : (s.wr a f v).mem = s.mem := rfl
@[simp] theorem State.wr_caps (s : State) (a : Nat) (f : Fld) (v : Nat) : (s.wr a f v).caps = s.caps := rfl
@[simp] theorem State.wr_fuses (s : State) (a : Nat) (f : Fld) (v : Nat) : (s.wr a f v).fuses = s.fuses := rfl
@[simp] theorem State.wr_tim (s : State) (a : Nat) (f : Fld) (v : Nat) : (s.wr a f v).tim = s.tim := rfl
@[simp] theorem State.wr_alm (s : State) (a : Nat) (f : Fld) (v : Nat) : (s.wr a f v).alm = s.alm := rfl
@[simp] theorem State.wr_snap (s : State) (a : Nat) (f : Fld) (v : Nat) : (s.wr a f v).snap = s.snap := rfl
@[simp] theorem State.wr_bank (s : State) (a : Nat) (f : Fld) (v : Nat) : (s.wr a f v).bank = s.bank := rfl
@[simp] theorem State.wr_key (s : State) (a : Nat) (f : Fld) (v : Nat) : (s.wr a f v).key = s.key := rfl
@[simp] theorem State.wr_prt (s : State) (a : Nat) (f : Fld) (v : Nat) : (s.wr a f v).prt = s.prt := rfl
@[simp] theorem State.wr_fab (s : State) (a : Nat) (f : Fld) (v : Nat) : (s.wr a f v).fab = s.fab := rfl
@[simp] theorem State.wr_sch (s : State) (a : Nat) (f : Fld) (v : Nat) : (s.wr a f v).sch = s.sch := rfl
@[simp] theorem State.wr_ten (s : State) (a : Nat) (f : Fld) (v : Nat) : (s.wr a f v).ten = s.ten := rfl
@[simp] theorem State.wr_ing (s : State) (a : Nat) (f : Fld) (v : Nat) : (s.wr a f v).ing = s.ing := rfl
@[simp] theorem State.wr_acq (s : State) (a : Nat) (f : Fld) (v : Nat) : (s.wr a f v).acq = s.acq := rfl
@[simp] theorem State.wr_out (s : State) (a : Nat) (f : Fld) (v : Nat) : (s.wr a f v).out = s.out := rfl
@[simp] theorem State.wr_cle (s : State) (a : Nat) (f : Fld) (v : Nat) : (s.wr a f v).cle = s.cle := rfl
@[simp] theorem State.wr_lge (s : State) (a : Nat) (f : Fld) (v : Nat) : (s.wr a f v).lge = s.lge := rfl
@[simp] theorem State.wr_rec_ (s : State) (a : Nat) (f : Fld) (v : Nat) : (s.wr a f v).rec_ = s.rec_ := rfl
@[simp] theorem State.wr_dpx (s : State) (a : Nat) (f : Fld) (v : Nat) : (s.wr a f v).dpx = s.dpx := rfl
@[simp] theorem State.wr_sys (s : State) (a : Nat) (f : Fld) (v : Nat) : (s.wr a f v).sys = s.sys := rfl
@[simp] theorem State.wr_mbx (s : State) (a : Nat) (f : Fld) (v : Nat) : (s.wr a f v).mbx = s.mbx := rfl

/-! ### wrB -/

@[simp] theorem State.wrB_pending (s : State) (a : Nat) (f : Fld) (b : Bool) : (s.wrB a f b).pending = s.pending := rfl
@[simp] theorem State.wrB_now (s : State) (a : Nat) (f : Fld) (b : Bool) : (s.wrB a f b).now = s.now := rfl
@[simp] theorem State.wrB_bus (s : State) (a : Nat) (f : Fld) (b : Bool) : (s.wrB a f b).bus = s.bus := rfl
@[simp] theorem State.wrB_wire (s : State) (a : Nat) (f : Fld) (b : Bool) : (s.wrB a f b).wire = s.wire := rfl
@[simp] theorem State.wrB_freeNext (s : State) (a : Nat) (f : Fld) (b : Bool) : (s.wrB a f b).freeNext = s.freeNext := rfl
@[simp] theorem State.wrB_cnt (s : State) (a : Nat) (f : Fld) (b : Bool) : (s.wrB a f b).cnt = s.cnt := rfl
@[simp] theorem State.wrB_cntHi (s : State) (a : Nat) (f : Fld) (b : Bool) : (s.wrB a f b).cntHi = s.cntHi := rfl
@[simp] theorem State.wrB_rate (s : State) (a : Nat) (f : Fld) (b : Bool) : (s.wrB a f b).rate = s.rate := rfl
@[simp] theorem State.wrB_mem (s : State) (a : Nat) (f : Fld) (b : Bool) : (s.wrB a f b).mem = s.mem := rfl
@[simp] theorem State.wrB_caps (s : State) (a : Nat) (f : Fld) (b : Bool) : (s.wrB a f b).caps = s.caps := rfl
@[simp] theorem State.wrB_fuses (s : State) (a : Nat) (f : Fld) (b : Bool) : (s.wrB a f b).fuses = s.fuses := rfl
@[simp] theorem State.wrB_tim (s : State) (a : Nat) (f : Fld) (b : Bool) : (s.wrB a f b).tim = s.tim := rfl
@[simp] theorem State.wrB_alm (s : State) (a : Nat) (f : Fld) (b : Bool) : (s.wrB a f b).alm = s.alm := rfl
@[simp] theorem State.wrB_snap (s : State) (a : Nat) (f : Fld) (b : Bool) : (s.wrB a f b).snap = s.snap := rfl
@[simp] theorem State.wrB_bank (s : State) (a : Nat) (f : Fld) (b : Bool) : (s.wrB a f b).bank = s.bank := rfl
@[simp] theorem State.wrB_key (s : State) (a : Nat) (f : Fld) (b : Bool) : (s.wrB a f b).key = s.key := rfl
@[simp] theorem State.wrB_prt (s : State) (a : Nat) (f : Fld) (b : Bool) : (s.wrB a f b).prt = s.prt := rfl
@[simp] theorem State.wrB_fab (s : State) (a : Nat) (f : Fld) (b : Bool) : (s.wrB a f b).fab = s.fab := rfl
@[simp] theorem State.wrB_sch (s : State) (a : Nat) (f : Fld) (b : Bool) : (s.wrB a f b).sch = s.sch := rfl
@[simp] theorem State.wrB_ten (s : State) (a : Nat) (f : Fld) (b : Bool) : (s.wrB a f b).ten = s.ten := rfl
@[simp] theorem State.wrB_ing (s : State) (a : Nat) (f : Fld) (b : Bool) : (s.wrB a f b).ing = s.ing := rfl
@[simp] theorem State.wrB_acq (s : State) (a : Nat) (f : Fld) (b : Bool) : (s.wrB a f b).acq = s.acq := rfl
@[simp] theorem State.wrB_out (s : State) (a : Nat) (f : Fld) (b : Bool) : (s.wrB a f b).out = s.out := rfl
@[simp] theorem State.wrB_cle (s : State) (a : Nat) (f : Fld) (b : Bool) : (s.wrB a f b).cle = s.cle := rfl
@[simp] theorem State.wrB_lge (s : State) (a : Nat) (f : Fld) (b : Bool) : (s.wrB a f b).lge = s.lge := rfl
@[simp] theorem State.wrB_rec_ (s : State) (a : Nat) (f : Fld) (b : Bool) : (s.wrB a f b).rec_ = s.rec_ := rfl
@[simp] theorem State.wrB_dpx (s : State) (a : Nat) (f : Fld) (b : Bool) : (s.wrB a f b).dpx = s.dpx := rfl
@[simp] theorem State.wrB_sys (s : State) (a : Nat) (f : Fld) (b : Bool) : (s.wrB a f b).sys = s.sys := rfl
@[simp] theorem State.wrB_mbx (s : State) (a : Nat) (f : Fld) (b : Bool) : (s.wrB a f b).mbx = s.mbx := rfl

/-! ### wr64 -/

@[simp] theorem State.wr64_pending (s : State) (lo hi v : Nat) : (s.wr64 lo hi v).pending = s.pending := rfl
@[simp] theorem State.wr64_now (s : State) (lo hi v : Nat) : (s.wr64 lo hi v).now = s.now := rfl
@[simp] theorem State.wr64_bus (s : State) (lo hi v : Nat) : (s.wr64 lo hi v).bus = s.bus := rfl
@[simp] theorem State.wr64_wire (s : State) (lo hi v : Nat) : (s.wr64 lo hi v).wire = s.wire := rfl
@[simp] theorem State.wr64_freeNext (s : State) (lo hi v : Nat) : (s.wr64 lo hi v).freeNext = s.freeNext := rfl
@[simp] theorem State.wr64_cnt (s : State) (lo hi v : Nat) : (s.wr64 lo hi v).cnt = s.cnt := rfl
@[simp] theorem State.wr64_cntHi (s : State) (lo hi v : Nat) : (s.wr64 lo hi v).cntHi = s.cntHi := rfl
@[simp] theorem State.wr64_rate (s : State) (lo hi v : Nat) : (s.wr64 lo hi v).rate = s.rate := rfl
@[simp] theorem State.wr64_mem (s : State) (lo hi v : Nat) : (s.wr64 lo hi v).mem = s.mem := rfl
@[simp] theorem State.wr64_caps (s : State) (lo hi v : Nat) : (s.wr64 lo hi v).caps = s.caps := rfl
@[simp] theorem State.wr64_fuses (s : State) (lo hi v : Nat) : (s.wr64 lo hi v).fuses = s.fuses := rfl
@[simp] theorem State.wr64_tim (s : State) (lo hi v : Nat) : (s.wr64 lo hi v).tim = s.tim := rfl
@[simp] theorem State.wr64_alm (s : State) (lo hi v : Nat) : (s.wr64 lo hi v).alm = s.alm := rfl
@[simp] theorem State.wr64_snap (s : State) (lo hi v : Nat) : (s.wr64 lo hi v).snap = s.snap := rfl
@[simp] theorem State.wr64_bank (s : State) (lo hi v : Nat) : (s.wr64 lo hi v).bank = s.bank := rfl
@[simp] theorem State.wr64_key (s : State) (lo hi v : Nat) : (s.wr64 lo hi v).key = s.key := rfl
@[simp] theorem State.wr64_prt (s : State) (lo hi v : Nat) : (s.wr64 lo hi v).prt = s.prt := rfl
@[simp] theorem State.wr64_fab (s : State) (lo hi v : Nat) : (s.wr64 lo hi v).fab = s.fab := rfl
@[simp] theorem State.wr64_sch (s : State) (lo hi v : Nat) : (s.wr64 lo hi v).sch = s.sch := rfl
@[simp] theorem State.wr64_ten (s : State) (lo hi v : Nat) : (s.wr64 lo hi v).ten = s.ten := rfl
@[simp] theorem State.wr64_ing (s : State) (lo hi v : Nat) : (s.wr64 lo hi v).ing = s.ing := rfl
@[simp] theorem State.wr64_acq (s : State) (lo hi v : Nat) : (s.wr64 lo hi v).acq = s.acq := rfl
@[simp] theorem State.wr64_out (s : State) (lo hi v : Nat) : (s.wr64 lo hi v).out = s.out := rfl
@[simp] theorem State.wr64_cle (s : State) (lo hi v : Nat) : (s.wr64 lo hi v).cle = s.cle := rfl
@[simp] theorem State.wr64_lge (s : State) (lo hi v : Nat) : (s.wr64 lo hi v).lge = s.lge := rfl
@[simp] theorem State.wr64_rec_ (s : State) (lo hi v : Nat) : (s.wr64 lo hi v).rec_ = s.rec_ := rfl
@[simp] theorem State.wr64_dpx (s : State) (lo hi v : Nat) : (s.wr64 lo hi v).dpx = s.dpx := rfl
@[simp] theorem State.wr64_sys (s : State) (lo hi v : Nat) : (s.wr64 lo hi v).sys = s.sys := rfl
@[simp] theorem State.wr64_mbx (s : State) (lo hi v : Nat) : (s.wr64 lo hi v).mbx = s.mbx := rfl

/-! ### setCap -/

@[simp] theorem State.setCap_pending (s : State) (a : Nat) (w : Word) : (s.setCap a w).pending = s.pending := rfl
@[simp] theorem State.setCap_now (s : State) (a : Nat) (w : Word) : (s.setCap a w).now = s.now := rfl
@[simp] theorem State.setCap_bus (s : State) (a : Nat) (w : Word) : (s.setCap a w).bus = s.bus := rfl
@[simp] theorem State.setCap_wire (s : State) (a : Nat) (w : Word) : (s.setCap a w).wire = s.wire := rfl
@[simp] theorem State.setCap_freeNext (s : State) (a : Nat) (w : Word) : (s.setCap a w).freeNext = s.freeNext := rfl
@[simp] theorem State.setCap_regs (s : State) (a : Nat) (w : Word) : (s.setCap a w).regs = s.regs := rfl
@[simp] theorem State.setCap_cnt (s : State) (a : Nat) (w : Word) : (s.setCap a w).cnt = s.cnt := rfl
@[simp] theorem State.setCap_cntHi (s : State) (a : Nat) (w : Word) : (s.setCap a w).cntHi = s.cntHi := rfl
@[simp] theorem State.setCap_rate (s : State) (a : Nat) (w : Word) : (s.setCap a w).rate = s.rate := rfl
@[simp] theorem State.setCap_mem (s : State) (a : Nat) (w : Word) : (s.setCap a w).mem = s.mem := rfl
@[simp] theorem State.setCap_fuses (s : State) (a : Nat) (w : Word) : (s.setCap a w).fuses = s.fuses := rfl
@[simp] theorem State.setCap_tim (s : State) (a : Nat) (w : Word) : (s.setCap a w).tim = s.tim := rfl
@[simp] theorem State.setCap_alm (s : State) (a : Nat) (w : Word) : (s.setCap a w).alm = s.alm := rfl
@[simp] theorem State.setCap_snap (s : State) (a : Nat) (w : Word) : (s.setCap a w).snap = s.snap := rfl
@[simp] theorem State.setCap_bank (s : State) (a : Nat) (w : Word) : (s.setCap a w).bank = s.bank := rfl
@[simp] theorem State.setCap_key (s : State) (a : Nat) (w : Word) : (s.setCap a w).key = s.key := rfl
@[simp] theorem State.setCap_prt (s : State) (a : Nat) (w : Word) : (s.setCap a w).prt = s.prt := rfl
@[simp] theorem State.setCap_fab (s : State) (a : Nat) (w : Word) : (s.setCap a w).fab = s.fab := rfl
@[simp] theorem State.setCap_sch (s : State) (a : Nat) (w : Word) : (s.setCap a w).sch = s.sch := rfl
@[simp] theorem State.setCap_ten (s : State) (a : Nat) (w : Word) : (s.setCap a w).ten = s.ten := rfl
@[simp] theorem State.setCap_ing (s : State) (a : Nat) (w : Word) : (s.setCap a w).ing = s.ing := rfl
@[simp] theorem State.setCap_acq (s : State) (a : Nat) (w : Word) : (s.setCap a w).acq = s.acq := rfl
@[simp] theorem State.setCap_out (s : State) (a : Nat) (w : Word) : (s.setCap a w).out = s.out := rfl
@[simp] theorem State.setCap_cle (s : State) (a : Nat) (w : Word) : (s.setCap a w).cle = s.cle := rfl
@[simp] theorem State.setCap_lge (s : State) (a : Nat) (w : Word) : (s.setCap a w).lge = s.lge := rfl
@[simp] theorem State.setCap_rec_ (s : State) (a : Nat) (w : Word) : (s.setCap a w).rec_ = s.rec_ := rfl
@[simp] theorem State.setCap_dpx (s : State) (a : Nat) (w : Word) : (s.setCap a w).dpx = s.dpx := rfl
@[simp] theorem State.setCap_sys (s : State) (a : Nat) (w : Word) : (s.setCap a w).sys = s.sys := rfl
@[simp] theorem State.setCap_mbx (s : State) (a : Nat) (w : Word) : (s.setCap a w).mbx = s.mbx := rfl

/-! ### readPair -/

@[simp] theorem State.readPair_pending (s : State) (lo hi : Nat) : (s.readPair lo hi).pending = s.pending := rfl
@[simp] theorem State.readPair_now (s : State) (lo hi : Nat) : (s.readPair lo hi).now = s.now := rfl
@[simp] theorem State.readPair_wire (s : State) (lo hi : Nat) : (s.readPair lo hi).wire = s.wire := rfl
@[simp] theorem State.readPair_freeNext (s : State) (lo hi : Nat) : (s.readPair lo hi).freeNext = s.freeNext := rfl
@[simp] theorem State.readPair_regs (s : State) (lo hi : Nat) : (s.readPair lo hi).regs = s.regs := rfl
@[simp] theorem State.readPair_cnt (s : State) (lo hi : Nat) : (s.readPair lo hi).cnt = s.cnt := rfl
@[simp] theorem State.readPair_cntHi (s : State) (lo hi : Nat) : (s.readPair lo hi).cntHi = s.cntHi := rfl
@[simp] theorem State.readPair_rate (s : State) (lo hi : Nat) : (s.readPair lo hi).rate = s.rate := rfl
@[simp] theorem State.readPair_mem (s : State) (lo hi : Nat) : (s.readPair lo hi).mem = s.mem := rfl
@[simp] theorem State.readPair_fuses (s : State) (lo hi : Nat) : (s.readPair lo hi).fuses = s.fuses := rfl
@[simp] theorem State.readPair_tim (s : State) (lo hi : Nat) : (s.readPair lo hi).tim = s.tim := rfl
@[simp] theorem State.readPair_alm (s : State) (lo hi : Nat) : (s.readPair lo hi).alm = s.alm := rfl
@[simp] theorem State.readPair_snap (s : State) (lo hi : Nat) : (s.readPair lo hi).snap = s.snap := rfl
@[simp] theorem State.readPair_bank (s : State) (lo hi : Nat) : (s.readPair lo hi).bank = s.bank := rfl
@[simp] theorem State.readPair_key (s : State) (lo hi : Nat) : (s.readPair lo hi).key = s.key := rfl
@[simp] theorem State.readPair_prt (s : State) (lo hi : Nat) : (s.readPair lo hi).prt = s.prt := rfl
@[simp] theorem State.readPair_fab (s : State) (lo hi : Nat) : (s.readPair lo hi).fab = s.fab := rfl
@[simp] theorem State.readPair_sch (s : State) (lo hi : Nat) : (s.readPair lo hi).sch = s.sch := rfl
@[simp] theorem State.readPair_ten (s : State) (lo hi : Nat) : (s.readPair lo hi).ten = s.ten := rfl
@[simp] theorem State.readPair_ing (s : State) (lo hi : Nat) : (s.readPair lo hi).ing = s.ing := rfl
@[simp] theorem State.readPair_acq (s : State) (lo hi : Nat) : (s.readPair lo hi).acq = s.acq := rfl
@[simp] theorem State.readPair_out (s : State) (lo hi : Nat) : (s.readPair lo hi).out = s.out := rfl
@[simp] theorem State.readPair_cle (s : State) (lo hi : Nat) : (s.readPair lo hi).cle = s.cle := rfl
@[simp] theorem State.readPair_lge (s : State) (lo hi : Nat) : (s.readPair lo hi).lge = s.lge := rfl
@[simp] theorem State.readPair_rec_ (s : State) (lo hi : Nat) : (s.readPair lo hi).rec_ = s.rec_ := rfl
@[simp] theorem State.readPair_dpx (s : State) (lo hi : Nat) : (s.readPair lo hi).dpx = s.dpx := rfl
@[simp] theorem State.readPair_sys (s : State) (lo hi : Nat) : (s.readPair lo hi).sys = s.sys := rfl
@[simp] theorem State.readPair_mbx (s : State) (lo hi : Nat) : (s.readPair lo hi).mbx = s.mbx := rfl

/-! ### bump -/

@[simp] theorem State.bump_pending (s : State) (a n : Nat) : (s.bump a n).pending = s.pending := rfl
@[simp] theorem State.bump_now (s : State) (a n : Nat) : (s.bump a n).now = s.now := rfl
@[simp] theorem State.bump_bus (s : State) (a n : Nat) : (s.bump a n).bus = s.bus := rfl
@[simp] theorem State.bump_wire (s : State) (a n : Nat) : (s.bump a n).wire = s.wire := rfl
@[simp] theorem State.bump_freeNext (s : State) (a n : Nat) : (s.bump a n).freeNext = s.freeNext := rfl
@[simp] theorem State.bump_regs (s : State) (a n : Nat) : (s.bump a n).regs = s.regs := rfl
@[simp] theorem State.bump_cntHi (s : State) (a n : Nat) : (s.bump a n).cntHi = s.cntHi := rfl
@[simp] theorem State.bump_rate (s : State) (a n : Nat) : (s.bump a n).rate = s.rate := rfl
@[simp] theorem State.bump_mem (s : State) (a n : Nat) : (s.bump a n).mem = s.mem := rfl
@[simp] theorem State.bump_caps (s : State) (a n : Nat) : (s.bump a n).caps = s.caps := rfl
@[simp] theorem State.bump_fuses (s : State) (a n : Nat) : (s.bump a n).fuses = s.fuses := rfl
@[simp] theorem State.bump_tim (s : State) (a n : Nat) : (s.bump a n).tim = s.tim := rfl
@[simp] theorem State.bump_alm (s : State) (a n : Nat) : (s.bump a n).alm = s.alm := rfl
@[simp] theorem State.bump_snap (s : State) (a n : Nat) : (s.bump a n).snap = s.snap := rfl
@[simp] theorem State.bump_bank (s : State) (a n : Nat) : (s.bump a n).bank = s.bank := rfl
@[simp] theorem State.bump_key (s : State) (a n : Nat) : (s.bump a n).key = s.key := rfl
@[simp] theorem State.bump_prt (s : State) (a n : Nat) : (s.bump a n).prt = s.prt := rfl
@[simp] theorem State.bump_fab (s : State) (a n : Nat) : (s.bump a n).fab = s.fab := rfl
@[simp] theorem State.bump_sch (s : State) (a n : Nat) : (s.bump a n).sch = s.sch := rfl
@[simp] theorem State.bump_ten (s : State) (a n : Nat) : (s.bump a n).ten = s.ten := rfl
@[simp] theorem State.bump_ing (s : State) (a n : Nat) : (s.bump a n).ing = s.ing := rfl
@[simp] theorem State.bump_acq (s : State) (a n : Nat) : (s.bump a n).acq = s.acq := rfl
@[simp] theorem State.bump_out (s : State) (a n : Nat) : (s.bump a n).out = s.out := rfl
@[simp] theorem State.bump_cle (s : State) (a n : Nat) : (s.bump a n).cle = s.cle := rfl
@[simp] theorem State.bump_lge (s : State) (a n : Nat) : (s.bump a n).lge = s.lge := rfl
@[simp] theorem State.bump_rec_ (s : State) (a n : Nat) : (s.bump a n).rec_ = s.rec_ := rfl
@[simp] theorem State.bump_dpx (s : State) (a n : Nat) : (s.bump a n).dpx = s.dpx := rfl
@[simp] theorem State.bump_sys (s : State) (a n : Nat) : (s.bump a n).sys = s.sys := rfl
@[simp] theorem State.bump_mbx (s : State) (a n : Nat) : (s.bump a n).mbx = s.mbx := rfl

/-! ### setByte -/

@[simp] theorem State.setByte_pending (s : State) (a : Nat) (b : Byte) : (s.setByte a b).pending = s.pending := rfl
@[simp] theorem State.setByte_now (s : State) (a : Nat) (b : Byte) : (s.setByte a b).now = s.now := rfl
@[simp] theorem State.setByte_bus (s : State) (a : Nat) (b : Byte) : (s.setByte a b).bus = s.bus := rfl
@[simp] theorem State.setByte_wire (s : State) (a : Nat) (b : Byte) : (s.setByte a b).wire = s.wire := rfl
@[simp] theorem State.setByte_freeNext (s : State) (a : Nat) (b : Byte) : (s.setByte a b).freeNext = s.freeNext := rfl
@[simp] theorem State.setByte_regs (s : State) (a : Nat) (b : Byte) : (s.setByte a b).regs = s.regs := rfl
@[simp] theorem State.setByte_cnt (s : State) (a : Nat) (b : Byte) : (s.setByte a b).cnt = s.cnt := rfl
@[simp] theorem State.setByte_cntHi (s : State) (a : Nat) (b : Byte) : (s.setByte a b).cntHi = s.cntHi := rfl
@[simp] theorem State.setByte_rate (s : State) (a : Nat) (b : Byte) : (s.setByte a b).rate = s.rate := rfl
@[simp] theorem State.setByte_caps (s : State) (a : Nat) (b : Byte) : (s.setByte a b).caps = s.caps := rfl
@[simp] theorem State.setByte_fuses (s : State) (a : Nat) (b : Byte) : (s.setByte a b).fuses = s.fuses := rfl
@[simp] theorem State.setByte_tim (s : State) (a : Nat) (b : Byte) : (s.setByte a b).tim = s.tim := rfl
@[simp] theorem State.setByte_alm (s : State) (a : Nat) (b : Byte) : (s.setByte a b).alm = s.alm := rfl
@[simp] theorem State.setByte_snap (s : State) (a : Nat) (b : Byte) : (s.setByte a b).snap = s.snap := rfl
@[simp] theorem State.setByte_bank (s : State) (a : Nat) (b : Byte) : (s.setByte a b).bank = s.bank := rfl
@[simp] theorem State.setByte_key (s : State) (a : Nat) (b : Byte) : (s.setByte a b).key = s.key := rfl
@[simp] theorem State.setByte_prt (s : State) (a : Nat) (b : Byte) : (s.setByte a b).prt = s.prt := rfl
@[simp] theorem State.setByte_fab (s : State) (a : Nat) (b : Byte) : (s.setByte a b).fab = s.fab := rfl
@[simp] theorem State.setByte_sch (s : State) (a : Nat) (b : Byte) : (s.setByte a b).sch = s.sch := rfl
@[simp] theorem State.setByte_ten (s : State) (a : Nat) (b : Byte) : (s.setByte a b).ten = s.ten := rfl
@[simp] theorem State.setByte_ing (s : State) (a : Nat) (b : Byte) : (s.setByte a b).ing = s.ing := rfl
@[simp] theorem State.setByte_acq (s : State) (a : Nat) (b : Byte) : (s.setByte a b).acq = s.acq := rfl
@[simp] theorem State.setByte_out (s : State) (a : Nat) (b : Byte) : (s.setByte a b).out = s.out := rfl
@[simp] theorem State.setByte_cle (s : State) (a : Nat) (b : Byte) : (s.setByte a b).cle = s.cle := rfl
@[simp] theorem State.setByte_lge (s : State) (a : Nat) (b : Byte) : (s.setByte a b).lge = s.lge := rfl
@[simp] theorem State.setByte_rec_ (s : State) (a : Nat) (b : Byte) : (s.setByte a b).rec_ = s.rec_ := rfl
@[simp] theorem State.setByte_dpx (s : State) (a : Nat) (b : Byte) : (s.setByte a b).dpx = s.dpx := rfl
@[simp] theorem State.setByte_sys (s : State) (a : Nat) (b : Byte) : (s.setByte a b).sys = s.sys := rfl
@[simp] theorem State.setByte_mbx (s : State) (a : Nat) (b : Byte) : (s.setByte a b).mbx = s.mbx := rfl

/-! ### send -/

@[simp] theorem State.send_pending (s : State) (w : Wire) : (s.send w).pending = s.pending := rfl
@[simp] theorem State.send_now (s : State) (w : Wire) : (s.send w).now = s.now := rfl
@[simp] theorem State.send_bus (s : State) (w : Wire) : (s.send w).bus = s.bus := rfl
@[simp] theorem State.send_freeNext (s : State) (w : Wire) : (s.send w).freeNext = s.freeNext := rfl
@[simp] theorem State.send_regs (s : State) (w : Wire) : (s.send w).regs = s.regs := rfl
@[simp] theorem State.send_cnt (s : State) (w : Wire) : (s.send w).cnt = s.cnt := rfl
@[simp] theorem State.send_cntHi (s : State) (w : Wire) : (s.send w).cntHi = s.cntHi := rfl
@[simp] theorem State.send_rate (s : State) (w : Wire) : (s.send w).rate = s.rate := rfl
@[simp] theorem State.send_mem (s : State) (w : Wire) : (s.send w).mem = s.mem := rfl
@[simp] theorem State.send_caps (s : State) (w : Wire) : (s.send w).caps = s.caps := rfl
@[simp] theorem State.send_fuses (s : State) (w : Wire) : (s.send w).fuses = s.fuses := rfl
@[simp] theorem State.send_tim (s : State) (w : Wire) : (s.send w).tim = s.tim := rfl
@[simp] theorem State.send_alm (s : State) (w : Wire) : (s.send w).alm = s.alm := rfl
@[simp] theorem State.send_snap (s : State) (w : Wire) : (s.send w).snap = s.snap := rfl
@[simp] theorem State.send_bank (s : State) (w : Wire) : (s.send w).bank = s.bank := rfl
@[simp] theorem State.send_key (s : State) (w : Wire) : (s.send w).key = s.key := rfl
@[simp] theorem State.send_prt (s : State) (w : Wire) : (s.send w).prt = s.prt := rfl
@[simp] theorem State.send_fab (s : State) (w : Wire) : (s.send w).fab = s.fab := rfl
@[simp] theorem State.send_sch (s : State) (w : Wire) : (s.send w).sch = s.sch := rfl
@[simp] theorem State.send_ten (s : State) (w : Wire) : (s.send w).ten = s.ten := rfl
@[simp] theorem State.send_ing (s : State) (w : Wire) : (s.send w).ing = s.ing := rfl
@[simp] theorem State.send_acq (s : State) (w : Wire) : (s.send w).acq = s.acq := rfl
@[simp] theorem State.send_out (s : State) (w : Wire) : (s.send w).out = s.out := rfl
@[simp] theorem State.send_cle (s : State) (w : Wire) : (s.send w).cle = s.cle := rfl
@[simp] theorem State.send_lge (s : State) (w : Wire) : (s.send w).lge = s.lge := rfl
@[simp] theorem State.send_rec_ (s : State) (w : Wire) : (s.send w).rec_ = s.rec_ := rfl
@[simp] theorem State.send_dpx (s : State) (w : Wire) : (s.send w).dpx = s.dpx := rfl
@[simp] theorem State.send_sys (s : State) (w : Wire) : (s.send w).sys = s.sys := rfl
@[simp] theorem State.send_mbx (s : State) (w : Wire) : (s.send w).mbx = s.mbx := rfl

/-! ### noteWritten -/

@[simp] theorem State.noteWritten_pending (s : State) (code key : Nat) : (s.noteWritten code key).pending = s.pending := rfl
@[simp] theorem State.noteWritten_now (s : State) (code key : Nat) : (s.noteWritten code key).now = s.now := rfl
@[simp] theorem State.noteWritten_bus (s : State) (code key : Nat) : (s.noteWritten code key).bus = s.bus := rfl
@[simp] theorem State.noteWritten_wire (s : State) (code key : Nat) : (s.noteWritten code key).wire = s.wire := rfl
@[simp] theorem State.noteWritten_freeNext (s : State) (code key : Nat) : (s.noteWritten code key).freeNext = s.freeNext := rfl
@[simp] theorem State.noteWritten_regs (s : State) (code key : Nat) : (s.noteWritten code key).regs = s.regs := rfl
@[simp] theorem State.noteWritten_cnt (s : State) (code key : Nat) : (s.noteWritten code key).cnt = s.cnt := rfl
@[simp] theorem State.noteWritten_cntHi (s : State) (code key : Nat) : (s.noteWritten code key).cntHi = s.cntHi := rfl
@[simp] theorem State.noteWritten_mem (s : State) (code key : Nat) : (s.noteWritten code key).mem = s.mem := rfl
@[simp] theorem State.noteWritten_caps (s : State) (code key : Nat) : (s.noteWritten code key).caps = s.caps := rfl
@[simp] theorem State.noteWritten_fuses (s : State) (code key : Nat) : (s.noteWritten code key).fuses = s.fuses := rfl
@[simp] theorem State.noteWritten_tim (s : State) (code key : Nat) : (s.noteWritten code key).tim = s.tim := rfl
@[simp] theorem State.noteWritten_alm (s : State) (code key : Nat) : (s.noteWritten code key).alm = s.alm := rfl
@[simp] theorem State.noteWritten_snap (s : State) (code key : Nat) : (s.noteWritten code key).snap = s.snap := rfl
@[simp] theorem State.noteWritten_bank (s : State) (code key : Nat) : (s.noteWritten code key).bank = s.bank := rfl
@[simp] theorem State.noteWritten_key (s : State) (code key : Nat) : (s.noteWritten code key).key = s.key := rfl
@[simp] theorem State.noteWritten_prt (s : State) (code key : Nat) : (s.noteWritten code key).prt = s.prt := rfl
@[simp] theorem State.noteWritten_fab (s : State) (code key : Nat) : (s.noteWritten code key).fab = s.fab := rfl
@[simp] theorem State.noteWritten_sch (s : State) (code key : Nat) : (s.noteWritten code key).sch = s.sch := rfl
@[simp] theorem State.noteWritten_ten (s : State) (code key : Nat) : (s.noteWritten code key).ten = s.ten := rfl
@[simp] theorem State.noteWritten_ing (s : State) (code key : Nat) : (s.noteWritten code key).ing = s.ing := rfl
@[simp] theorem State.noteWritten_acq (s : State) (code key : Nat) : (s.noteWritten code key).acq = s.acq := rfl
@[simp] theorem State.noteWritten_out (s : State) (code key : Nat) : (s.noteWritten code key).out = s.out := rfl
@[simp] theorem State.noteWritten_cle (s : State) (code key : Nat) : (s.noteWritten code key).cle = s.cle := rfl
@[simp] theorem State.noteWritten_lge (s : State) (code key : Nat) : (s.noteWritten code key).lge = s.lge := rfl
@[simp] theorem State.noteWritten_rec_ (s : State) (code key : Nat) : (s.noteWritten code key).rec_ = s.rec_ := rfl
@[simp] theorem State.noteWritten_dpx (s : State) (code key : Nat) : (s.noteWritten code key).dpx = s.dpx := rfl
@[simp] theorem State.noteWritten_sys (s : State) (code key : Nat) : (s.noteWritten code key).sys = s.sys := rfl
@[simp] theorem State.noteWritten_mbx (s : State) (code key : Nat) : (s.noteWritten code key).mbx = s.mbx := rfl

/-! ### setChan -/

@[simp] theorem State.setChan_pending (s : State) (ch : Nat) (c : AlmChan) : (s.setChan ch c).pending = s.pending := rfl
@[simp] theorem State.setChan_now (s : State) (ch : Nat) (c : AlmChan) : (s.setChan ch c).now = s.now := rfl
@[simp] theorem State.setChan_bus (s : State) (ch : Nat) (c : AlmChan) : (s.setChan ch c).bus = s.bus := rfl
@[simp] theorem State.setChan_wire (s : State) (ch : Nat) (c : AlmChan) : (s.setChan ch c).wire = s.wire := rfl
@[simp] theorem State.setChan_freeNext (s : State) (ch : Nat) (c : AlmChan) : (s.setChan ch c).freeNext = s.freeNext := rfl
@[simp] theorem State.setChan_regs (s : State) (ch : Nat) (c : AlmChan) : (s.setChan ch c).regs = s.regs := rfl
@[simp] theorem State.setChan_cnt (s : State) (ch : Nat) (c : AlmChan) : (s.setChan ch c).cnt = s.cnt := rfl
@[simp] theorem State.setChan_cntHi (s : State) (ch : Nat) (c : AlmChan) : (s.setChan ch c).cntHi = s.cntHi := rfl
@[simp] theorem State.setChan_rate (s : State) (ch : Nat) (c : AlmChan) : (s.setChan ch c).rate = s.rate := rfl
@[simp] theorem State.setChan_mem (s : State) (ch : Nat) (c : AlmChan) : (s.setChan ch c).mem = s.mem := rfl
@[simp] theorem State.setChan_caps (s : State) (ch : Nat) (c : AlmChan) : (s.setChan ch c).caps = s.caps := rfl
@[simp] theorem State.setChan_fuses (s : State) (ch : Nat) (c : AlmChan) : (s.setChan ch c).fuses = s.fuses := rfl
@[simp] theorem State.setChan_tim (s : State) (ch : Nat) (c : AlmChan) : (s.setChan ch c).tim = s.tim := rfl
@[simp] theorem State.setChan_snap (s : State) (ch : Nat) (c : AlmChan) : (s.setChan ch c).snap = s.snap := rfl
@[simp] theorem State.setChan_bank (s : State) (ch : Nat) (c : AlmChan) : (s.setChan ch c).bank = s.bank := rfl
@[simp] theorem State.setChan_key (s : State) (ch : Nat) (c : AlmChan) : (s.setChan ch c).key = s.key := rfl
@[simp] theorem State.setChan_prt (s : State) (ch : Nat) (c : AlmChan) : (s.setChan ch c).prt = s.prt := rfl
@[simp] theorem State.setChan_fab (s : State) (ch : Nat) (c : AlmChan) : (s.setChan ch c).fab = s.fab := rfl
@[simp] theorem State.setChan_sch (s : State) (ch : Nat) (c : AlmChan) : (s.setChan ch c).sch = s.sch := rfl
@[simp] theorem State.setChan_ten (s : State) (ch : Nat) (c : AlmChan) : (s.setChan ch c).ten = s.ten := rfl
@[simp] theorem State.setChan_ing (s : State) (ch : Nat) (c : AlmChan) : (s.setChan ch c).ing = s.ing := rfl
@[simp] theorem State.setChan_acq (s : State) (ch : Nat) (c : AlmChan) : (s.setChan ch c).acq = s.acq := rfl
@[simp] theorem State.setChan_out (s : State) (ch : Nat) (c : AlmChan) : (s.setChan ch c).out = s.out := rfl
@[simp] theorem State.setChan_cle (s : State) (ch : Nat) (c : AlmChan) : (s.setChan ch c).cle = s.cle := rfl
@[simp] theorem State.setChan_lge (s : State) (ch : Nat) (c : AlmChan) : (s.setChan ch c).lge = s.lge := rfl
@[simp] theorem State.setChan_rec_ (s : State) (ch : Nat) (c : AlmChan) : (s.setChan ch c).rec_ = s.rec_ := rfl
@[simp] theorem State.setChan_dpx (s : State) (ch : Nat) (c : AlmChan) : (s.setChan ch c).dpx = s.dpx := rfl
@[simp] theorem State.setChan_sys (s : State) (ch : Nat) (c : AlmChan) : (s.setChan ch c).sys = s.sys := rfl
@[simp] theorem State.setChan_mbx (s : State) (ch : Nat) (c : AlmChan) : (s.setChan ch c).mbx = s.mbx := rfl

/-! ### The queue -/


@[simp] theorem State.withQueue_pending (s : State) (q : List Instr) : (s.withQueue q).pending = q := rfl
@[simp] theorem State.withQueue_now (s : State) (q : List Instr) : (s.withQueue q).now = s.now := rfl
@[simp] theorem State.withQueue_bus (s : State) (q : List Instr) : (s.withQueue q).bus = s.bus := rfl
@[simp] theorem State.withQueue_wire (s : State) (q : List Instr) : (s.withQueue q).wire = s.wire := rfl
@[simp] theorem State.withQueue_freeNext (s : State) (q : List Instr) : (s.withQueue q).freeNext = s.freeNext := rfl
@[simp] theorem State.withQueue_regs (s : State) (q : List Instr) : (s.withQueue q).regs = s.regs := rfl
@[simp] theorem State.withQueue_cnt (s : State) (q : List Instr) : (s.withQueue q).cnt = s.cnt := rfl
@[simp] theorem State.withQueue_cntHi (s : State) (q : List Instr) : (s.withQueue q).cntHi = s.cntHi := rfl
@[simp] theorem State.withQueue_rate (s : State) (q : List Instr) : (s.withQueue q).rate = s.rate := rfl
@[simp] theorem State.withQueue_mem (s : State) (q : List Instr) : (s.withQueue q).mem = s.mem := rfl
@[simp] theorem State.withQueue_caps (s : State) (q : List Instr) : (s.withQueue q).caps = s.caps := rfl
@[simp] theorem State.withQueue_fuses (s : State) (q : List Instr) : (s.withQueue q).fuses = s.fuses := rfl
@[simp] theorem State.withQueue_tim (s : State) (q : List Instr) : (s.withQueue q).tim = s.tim := rfl
@[simp] theorem State.withQueue_alm (s : State) (q : List Instr) : (s.withQueue q).alm = s.alm := rfl
@[simp] theorem State.withQueue_snap (s : State) (q : List Instr) : (s.withQueue q).snap = s.snap := rfl
@[simp] theorem State.withQueue_bank (s : State) (q : List Instr) : (s.withQueue q).bank = s.bank := rfl
@[simp] theorem State.withQueue_key (s : State) (q : List Instr) : (s.withQueue q).key = s.key := rfl
@[simp] theorem State.withQueue_prt (s : State) (q : List Instr) : (s.withQueue q).prt = s.prt := rfl
@[simp] theorem State.withQueue_fab (s : State) (q : List Instr) : (s.withQueue q).fab = s.fab := rfl
@[simp] theorem State.withQueue_sch (s : State) (q : List Instr) : (s.withQueue q).sch = s.sch := rfl
@[simp] theorem State.withQueue_ten (s : State) (q : List Instr) : (s.withQueue q).ten = s.ten := rfl
@[simp] theorem State.withQueue_ing (s : State) (q : List Instr) : (s.withQueue q).ing = s.ing := rfl
@[simp] theorem State.withQueue_acq (s : State) (q : List Instr) : (s.withQueue q).acq = s.acq := rfl
@[simp] theorem State.withQueue_out (s : State) (q : List Instr) : (s.withQueue q).out = s.out := rfl
@[simp] theorem State.withQueue_cle (s : State) (q : List Instr) : (s.withQueue q).cle = s.cle := rfl
@[simp] theorem State.withQueue_lge (s : State) (q : List Instr) : (s.withQueue q).lge = s.lge := rfl
@[simp] theorem State.withQueue_rec_ (s : State) (q : List Instr) : (s.withQueue q).rec_ = s.rec_ := rfl
@[simp] theorem State.withQueue_dpx (s : State) (q : List Instr) : (s.withQueue q).dpx = s.dpx := rfl
@[simp] theorem State.withQueue_sys (s : State) (q : List Instr) : (s.withQueue q).sys = s.sys := rfl
@[simp] theorem State.withQueue_mbx (s : State) (q : List Instr) : (s.withQueue q).mbx = s.mbx := rfl

@[simp] theorem State.advance_now (s : State) (t : Nat) : (s.advance t).now = max s.now t := rfl
@[simp] theorem State.answer_bus (s : State) (v : Nat) : (s.answer v).bus = { data := v } := rfl
@[simp] theorem State.busFault_bus (s : State) : s.busFault.bus = { err := true } := rfl
@[simp] theorem State.send_wire (s : State) (w : Wire) : (s.send w).wire = s.wire ++ [w] := rfl

/-! ### What registers, counters, captures and memory read -/

theorem State.rdW_congr {s u : State} (h : u.regs = s.regs) (a : Nat) : u.rdW a = s.rdW a := by
  unfold State.rdW; rw [h]

theorem State.rd_congr {s u : State} {a : Nat} (h : u.rdW a = s.rdW a) (f : Fld) : u.rd a f = s.rd a f := by
  unfold State.rd; rw [h]

theorem State.rdB_congr {s u : State} {a : Nat} (h : u.rdW a = s.rdW a) (f : Fld) : u.rdB a f = s.rdB a f := by
  unfold State.rdB State.rd; rw [h]

theorem State.count_congr {s u : State} (h : u.cnt = s.cnt) (a : Nat) : u.count a = s.count a := by
  unfold State.count; rw [h]

theorem State.byte_congr {s u : State} (h : u.mem = s.mem) (a : Nat) : u.byte a = s.byte a := by
  unfold State.byte; rw [h]

@[simp] theorem State.rdW_wrW_same (s : State) (a : Nat) (w : Word) : (s.wrW a w).rdW a = w := by
  simp [State.rdW, State.wrW]

theorem State.rdW_wrW_ne (s : State) {a b : Nat} (w : Word) (h : b ≠ a) : (s.wrW a w).rdW b = s.rdW b := by
  simp [State.rdW, State.wrW, cget_cset_ne _ _ _ h]

@[simp] theorem State.rdW_wr_same (s : State) (a : Nat) (f : Fld) (v : Nat) : (s.wr a f v).rdW a = fset f (s.rdW a) v := by
  simp [State.wr]

theorem State.rdW_wr_ne (s : State) {a b : Nat} (f : Fld) (v : Nat) (h : b ≠ a) : (s.wr a f v).rdW b = s.rdW b := by
  simp [State.wr, State.rdW_wrW_ne _ _ h]

theorem State.rdW_wrB_ne (s : State) {a b : Nat} (f : Fld) (v : Bool) (h : b ≠ a) : (s.wrB a f v).rdW b = s.rdW b :=
  s.rdW_wr_ne f _ h

/-- A field reads as the bits written to it. -/
theorem State.rd_wr_same (s : State) (a : Nat) (f : Fld) (v : Nat) (hf : f.lo + f.width ≤ 32) : (s.wr a f v).rd a f = v % 2 ^ f.width := by
  simp [State.rd, fget_fset_same f _ v hf]

/-- A field of the same word that shares no bit with the one written. -/
theorem State.rd_wr_apart (s : State) (a : Nat) (f g : Fld) (v : Nat) (hf : f.lo + f.width ≤ 32) (hg : g.lo + g.width ≤ 32)
    (h : f.lo + f.width ≤ g.lo ∨ g.lo + g.width ≤ f.lo) : (s.wr a f v).rd a g = s.rd a g := by
  simp [State.rd, fget_fset_apart f g _ v hf hg h]

theorem State.rd_wr_ne (s : State) {a b : Nat} (f g : Fld) (v : Nat) (h : b ≠ a) : (s.wr a f v).rd b g = s.rd b g :=
  State.rd_congr (s.rdW_wr_ne f v h) g

theorem State.rdB_wrB_same (s : State) (a : Nat) (f : Fld) (v : Bool) (hf : f.lo + f.width ≤ 32) (h1 : f.width = 1) :
    (s.wrB a f v).rdB a f = v := by
  unfold State.rdB State.wrB
  rw [s.rd_wr_same a f _ hf, h1]
  cases v <;> rfl

theorem State.rdB_wr_ne (s : State) {a b : Nat} (f g : Fld) (v : Nat) (h : b ≠ a) : (s.wr a f v).rdB b g = s.rdB b g :=
  State.rdB_congr (s.rdW_wr_ne f v h) g

theorem State.rdB_wr_apart (s : State) (a : Nat) (f g : Fld) (v : Nat) (hf : f.lo + f.width ≤ 32) (hg : g.lo + g.width ≤ 32)
    (h : f.lo + f.width ≤ g.lo ∨ g.lo + g.width ≤ f.lo) : (s.wr a f v).rdB a g = s.rdB a g := by
  unfold State.rdB
  rw [s.rd_wr_apart a f g v hf hg h]

@[simp] theorem State.cap_setCap_same (s : State) (a : Nat) (w : Word) : (s.setCap a w).cap a = w := by
  simp [State.cap, State.setCap]

/-- A counter counts modulo 2 to the 64th. -/
@[simp] theorem State.count_bump_same (s : State) (a n : Nat) : (s.bump a n).count a = (s.count a + n) % 2 ^ 64 := by
  simp [State.count, State.bump]

theorem State.count_bump_ne (s : State) {a b : Nat} (n : Nat) (h : b ≠ a) : (s.bump a n).count b = s.count b := by
  simp [State.count, State.bump, cget_cset_ne _ _ _ h]

@[simp] theorem State.byte_setByte_same (s : State) (a : Nat) (b : Byte) : (s.setByte a b).byte a = b := by
  simp [State.byte, State.setByte]

theorem State.byte_setByte_ne (s : State) {a x : Nat} (b : Byte) (h : x ≠ a) : (s.setByte a b).byte x = s.byte x := by
  simp [State.byte, State.setByte, cget_cset_ne _ _ _ h]

@[simp] theorem State.chan_setChan_same (s : State) (ch : Nat) (c : AlmChan) : (s.setChan ch c).chan ch = c := by
  simp [State.chan, State.setChan]

/-! ### The canonical form of memory -/


theorem State.memWf_setByte (s : State) (a : Nat) (b : Byte) (h : s.memWf) : (s.setByte a b).memWf := cwf_cset _ _ _ _ h

theorem State.memWf_setBytes (bs : List Byte) : ∀ (s : State) (a : Nat), s.memWf → (s.setBytes a bs).memWf := by
  induction bs with
  | nil => intro s a h; exact h
  | cons b r ih => intro s a h; exact ih _ _ (s.memWf_setByte a b h)

/-- Bytes written leave every byte outside them as it was. -/
theorem State.byte_setBytes_outside (bs : List Byte) : ∀ (s : State) (a x : Nat), (x < a ∨ a + bs.length ≤ x) →
    (s.setBytes a bs).byte x = s.byte x := by
  induction bs with
  | nil => intro s a x _; rfl
  | cons b r ih =>
    intro s a x h
    simp only [List.length_cons] at h
    have h1 : x ≠ a := by omega
    show ((s.setByte a b).setBytes (a + 1) r).byte x = s.byte x
    rw [ih _ _ _ (by omega), s.byte_setByte_ne b h1]

/-- Bytes written read back. -/
theorem State.byte_setBytes_inside (bs : List Byte) : ∀ (s : State) (a i : Nat) (h : i < bs.length),
    (s.setBytes a bs).byte (a + i) = bs[i] := by
  induction bs with
  | nil => intro s a i h; simp at h
  | cons b r ih =>
    intro s a i h
    show ((s.setByte a b).setBytes (a + 1) r).byte (a + i) = _
    cases i with
    | zero => rw [State.byte_setBytes_outside _ _ _ _ (by omega)]; simp
    | succ i =>
      have h2 : i < r.length := by simpa using h
      have e : a + (i + 1) = a + 1 + i := by omega
      rw [e, ih _ _ i h2]
      rfl

/-! ### One command's outcome -/

/-- A command acts at its instant and leaves the waiting commands as they are. -/
@[simp] theorem State.after_pending (s : State) (t : Nat) (f : State → State) : (s.after t f).pending = s.pending := rfl
@[simp] theorem State.after_now (s : State) (t : Nat) (f : State → State) : (s.after t f).now = max s.now t := rfl

@[simp] theorem State.after_bus (s : State) (t : Nat) (g : State → State) : (s.after t g).bus = (g (s.advance t)).bus := rfl
@[simp] theorem State.after_wire (s : State) (t : Nat) (g : State → State) : (s.after t g).wire = (g (s.advance t)).wire := rfl
@[simp] theorem State.after_freeNext (s : State) (t : Nat) (g : State → State) : (s.after t g).freeNext = (g (s.advance t)).freeNext := rfl
@[simp] theorem State.after_regs (s : State) (t : Nat) (g : State → State) : (s.after t g).regs = (g (s.advance t)).regs := rfl
@[simp] theorem State.after_cnt (s : State) (t : Nat) (g : State → State) : (s.after t g).cnt = (g (s.advance t)).cnt := rfl
@[simp] theorem State.after_cntHi (s : State) (t : Nat) (g : State → State) : (s.after t g).cntHi = (g (s.advance t)).cntHi := rfl
@[simp] theorem State.after_rate (s : State) (t : Nat) (g : State → State) : (s.after t g).rate = (g (s.advance t)).rate := rfl
@[simp] theorem State.after_mem (s : State) (t : Nat) (g : State → State) : (s.after t g).mem = (g (s.advance t)).mem := rfl
@[simp] theorem State.after_caps (s : State) (t : Nat) (g : State → State) : (s.after t g).caps = (g (s.advance t)).caps := rfl
@[simp] theorem State.after_fuses (s : State) (t : Nat) (g : State → State) : (s.after t g).fuses = (g (s.advance t)).fuses := rfl
@[simp] theorem State.after_tim (s : State) (t : Nat) (g : State → State) : (s.after t g).tim = (g (s.advance t)).tim := rfl
@[simp] theorem State.after_alm (s : State) (t : Nat) (g : State → State) : (s.after t g).alm = (g (s.advance t)).alm := rfl
@[simp] theorem State.after_snap (s : State) (t : Nat) (g : State → State) : (s.after t g).snap = (g (s.advance t)).snap := rfl
@[simp] theorem State.after_bank (s : State) (t : Nat) (g : State → State) : (s.after t g).bank = (g (s.advance t)).bank := rfl
@[simp] theorem State.after_key (s : State) (t : Nat) (g : State → State) : (s.after t g).key = (g (s.advance t)).key := rfl
@[simp] theorem State.after_prt (s : State) (t : Nat) (g : State → State) : (s.after t g).prt = (g (s.advance t)).prt := rfl
@[simp] theorem State.after_fab (s : State) (t : Nat) (g : State → State) : (s.after t g).fab = (g (s.advance t)).fab := rfl
@[simp] theorem State.after_sch (s : State) (t : Nat) (g : State → State) : (s.after t g).sch = (g (s.advance t)).sch := rfl
@[simp] theorem State.after_ten (s : State) (t : Nat) (g : State → State) : (s.after t g).ten = (g (s.advance t)).ten := rfl
@[simp] theorem State.after_ing (s : State) (t : Nat) (g : State → State) : (s.after t g).ing = (g (s.advance t)).ing := rfl
@[simp] theorem State.after_acq (s : State) (t : Nat) (g : State → State) : (s.after t g).acq = (g (s.advance t)).acq := rfl
@[simp] theorem State.after_out (s : State) (t : Nat) (g : State → State) : (s.after t g).out = (g (s.advance t)).out := rfl
@[simp] theorem State.after_cle (s : State) (t : Nat) (g : State → State) : (s.after t g).cle = (g (s.advance t)).cle := rfl
@[simp] theorem State.after_lge (s : State) (t : Nat) (g : State → State) : (s.after t g).lge = (g (s.advance t)).lge := rfl
@[simp] theorem State.after_rec_ (s : State) (t : Nat) (g : State → State) : (s.after t g).rec_ = (g (s.advance t)).rec_ := rfl
@[simp] theorem State.after_dpx (s : State) (t : Nat) (g : State → State) : (s.after t g).dpx = (g (s.advance t)).dpx := rfl
@[simp] theorem State.after_sys (s : State) (t : Nat) (g : State → State) : (s.after t g).sys = (g (s.advance t)).sys := rfl
@[simp] theorem State.after_mbx (s : State) (t : Nat) (g : State → State) : (s.after t g).mbx = (g (s.advance t)).mbx := rfl
@[simp] theorem State.after_rdW (s : State) (t : Nat) (g : State → State) (a : Nat) : (s.after t g).rdW a = (g (s.advance t)).rdW a := rfl
@[simp] theorem State.after_rd (s : State) (t : Nat) (g : State → State) (a : Nat) (f : Fld) :
    (s.after t g).rd a f = (g (s.advance t)).rd a f := rfl
@[simp] theorem State.after_count (s : State) (t : Nat) (g : State → State) (a : Nat) : (s.after t g).count a = (g (s.advance t)).count a := rfl
@[simp] theorem State.after_byte (s : State) (t : Nat) (g : State → State) (a : Nat) : (s.after t g).byte a = (g (s.advance t)).byte a := rfl
@[simp] theorem State.advance_rdW (s : State) (t a : Nat) : (s.advance t).rdW a = s.rdW a := rfl
@[simp] theorem State.advance_rd (s : State) (t a : Nat) (f : Fld) : (s.advance t).rd a f = s.rd a f := rfl
@[simp] theorem State.advance_rdB (s : State) (t a : Nat) (f : Fld) : (s.advance t).rdB a f = s.rdB a f := rfl
@[simp] theorem State.advance_count (s : State) (t a : Nat) : (s.advance t).count a = s.count a := rfl

theorem State.runAt_inv {s u : State} {t : Nat} {f : State → State} (h : s.runAt t f = .next u) :
    u.pending = s.pending ∧ u.now = max s.now t := by
  have e := Host.Outcome.next.inj h
  subst e
  exact ⟨rfl, rfl⟩

end Sys2Proof.Machine
end

