-- ==== Sys2Proof/Laws/Almanac.lean ====
section
/-! SUPPORT. What posting an event can do (R381, R385, R521 to R523): everything the post leaves alone, for the post at a channel, for
the strobe it may fire, and for the posts that the meanings use. -/

namespace Sys2Proof.Machine

/-- What an event's post leaves alone. -/
structure EventOnly (s u : State) : Prop where
  pending : u.pending = s.pending
  now : u.now = s.now
  bus : u.bus = s.bus
  wire : u.wire = s.wire
  freeNext : u.freeNext = s.freeNext
  cntHi : u.cntHi = s.cntHi
  mem : u.mem = s.mem
  caps : u.caps = s.caps
  fuses : u.fuses = s.fuses
  tim : u.tim = s.tim
  bank : u.bank = s.bank
  key : u.key = s.key
  prt : u.prt = s.prt
  fab : u.fab = s.fab
  sch : u.sch = s.sch
  ten : u.ten = s.ten
  ing : u.ing = s.ing
  acq : u.acq = s.acq
  out : u.out = s.out
  cle : u.cle = s.cle
  lge : u.lge = s.lge
  rec_ : u.rec_ = s.rec_
  dpx : u.dpx = s.dpx
  sys : u.sys = s.sys
  mbx : u.mbx = s.mbx
  words : ∀ a, ¬ eventWord a → u.rdW a = s.rdW a
  counts : ∀ a, a / 2 ^ 24 ≠ 0x0A → a / 2 ^ 24 ≠ 0x10 → u.count a = s.count a

theorem EventOnly.refl (s : State) : EventOnly s s := by
  constructor <;> intros <;> rfl

theorem EventOnly.trans {s u v : State} (h : EventOnly s u) (k : EventOnly u v) : EventOnly s v where
  pending := k.pending.trans h.pending
  now := k.now.trans h.now
  bus := k.bus.trans h.bus
  wire := k.wire.trans h.wire
  freeNext := k.freeNext.trans h.freeNext
  cntHi := k.cntHi.trans h.cntHi
  mem := k.mem.trans h.mem
  caps := k.caps.trans h.caps
  fuses := k.fuses.trans h.fuses
  tim := k.tim.trans h.tim
  bank := k.bank.trans h.bank
  key := k.key.trans h.key
  prt := k.prt.trans h.prt
  fab := k.fab.trans h.fab
  sch := k.sch.trans h.sch
  ten := k.ten.trans h.ten
  ing := k.ing.trans h.ing
  acq := k.acq.trans h.acq
  out := k.out.trans h.out
  cle := k.cle.trans h.cle
  lge := k.lge.trans h.lge
  rec_ := k.rec_.trans h.rec_
  dpx := k.dpx.trans h.dpx
  sys := k.sys.trans h.sys
  mbx := k.mbx.trans h.mbx
  words := fun a n => (k.words a n).trans (h.words a n)
  counts := fun a n m => (k.counts a n m).trans (h.counts a n m)

theorem EventOnly.wr (s : State) {a : Nat} (f : Fld) (v : Nat) (h : eventWord a) : EventOnly s (s.wr a f v) := by
  constructor
  case words => exact fun b n => s.rdW_wr_ne f v (fun e => n (e ▸ h))
  all_goals intros; rfl

theorem EventOnly.wrW (s : State) {a : Nat} (w : Word) (h : eventWord a) : EventOnly s (s.wrW a w) := by
  constructor
  case words => exact fun b n => s.rdW_wrW_ne w (fun e => n (e ▸ h))
  all_goals intros; rfl

theorem EventOnly.bump (s : State) {a : Nat} (n : Nat) (h : a / 2 ^ 24 = 0x0A ∨ a / 2 ^ 24 = 0x10) : EventOnly s (s.bump a n) := by
  constructor
  case counts =>
    intro b h1 h2
    apply s.count_bump_ne
    rintro rfl
    rcases h with h | h <;> contradiction
  all_goals intros; rfl

theorem EventOnly.alm (s : State) (x : Alm) : EventOnly s { s with alm := x } := by
  constructor <;> intros <;> rfl

theorem EventOnly.rate (s : State) (code key : Nat) : EventOnly s (s.noteWritten code key) := by
  constructor <;> intros <;> rfl

theorem EventOnly.latch (s : State) (n : Nat) : EventOnly s (s.latch n) := by
  constructor <;> intros <;> rfl

theorem EventOnly.setChan (s : State) (ch : Nat) (c : AlmChan) : EventOnly s (s.setChan ch c) := EventOnly.alm s _

theorem EventOnly.almStat (s : State) : EventOnly s s.almStat :=
  (EventOnly.wr s _ _ (.inl rfl)).trans (EventOnly.wr _ _ _ (.inl rfl))

theorem EventOnly.foldMarker (s : State) {ch : Nat} (n time : Nat) (h : ch < 0x10000) : EventOnly s (s.foldMarker ch n time) := by
  have hb : EventOnly s (s.bump (cntALM_DROPPED_FULL ch) n) := EventOnly.bump s n (.inl (by unfold cntALM_DROPPED_FULL; omega))
  unfold State.foldMarker
  dsimp only
  split
  · split
    · exact hb.trans (EventOnly.setChan _ _ _)
    · exact hb
  · exact hb

theorem EventOnly.refusePost (s : State) {ch : Nat} (n time : Nat) (h : ch < 0x10000) : EventOnly s (s.refusePost ch n time) := by
  unfold State.refusePost
  split
  · exact EventOnly.bump s n (.inl (by unfold cntALM_DROPPED_FULL; omega))
  · exact EventOnly.foldMarker s n time h

/-- The post at a channel. -/
theorem EventOnly.postAt (s : State) {ch : Nat} (code : Nat) (p : List Byte) (tm : Nat) (tn : Bool) (h : ch < 0x10000) :
    EventOnly s (s.postAt ch code p tm tn).2 := by
  unfold State.postAt
  dsimp only
  split
  · exact EventOnly.refl s
  · split
    · exact EventOnly.refusePost s 1 tm h
    · split
      · exact (EventOnly.alm s _).trans (EventOnly.almStat _)
      · split
        · exact EventOnly.alm s _
        · split
          · exact (EventOnly.alm s _).trans (EventOnly.almStat _)
          · have e : EventOnly s (((s.bump (cntALM_LOST ch) 1).wr (ALM_CH_LOST ch) ALM_CH_LOST_N
                (satNat 0xFFFFFFFF (s.rd (ALM_CH_LOST ch) ALM_CH_LOST_N + 1))).wrB (ALM_CH_STAT ch) ALM_CH_STAT_LOST_PENDING true) := by
              refine ((EventOnly.bump s 1 (.inl ?_)).trans (EventOnly.wr _ _ _ (.inl ?_))).trans (EventOnly.wr _ _ _ (.inl ?_))
              · unfold cntALM_LOST; omega
              · unfold ALM_CH_LOST; omega
              · unfold ALM_CH_STAT; omega
            split
            · exact (e.trans (EventOnly.setChan _ _ _)).trans (EventOnly.alm _ _)
            · exact e.trans (EventOnly.setChan _ _ _)

theorem EventOnly.ignoreStrobe (s : State) (src : Nat) : EventOnly s (s.ignoreStrobe src) := by
  have b (x : State) : EventOnly x (x.bump cntSYS_SNAP_IGNORED 1) := EventOnly.bump x 1 (.inr rfl)
  unfold State.ignoreStrobe
  dsimp only
  split
  · have e := ((b s).trans (EventOnly.rate _ 0x1002 0)).trans (EventOnly.postAt _ 0x1002 (p1 src)
      (s.bump cntSYS_SNAP_IGNORED 1).stamp false (ch := 0x20B) (by omega))
    split
    · exact e.trans (b _)
    · exact e
  · exact b s

theorem EventOnly.fireSource (s : State) (src : Nat) : EventOnly s (s.fireSource src) := by
  unfold State.fireSource
  dsimp only
  split
  · exact EventOnly.refl s
  · split
    · have e : ∀ (c i : Nat) (p : List Byte) (tm : Nat), EventOnly s ((((((((s.wr SYS_SNAP_STAT SYS_SNAP_STAT_COUNT c).wr
          SYS_SNAP_STAT SYS_SNAP_STAT_STATE 2).wr SYS_SNAP_STAT SYS_SNAP_STAT_LAST_SRC src).wr64 SYS_SNAP_TIME_LO SYS_SNAP_TIME_HI
          i).latch i).bump cntSYS_SNAPSHOTS 1).postAt 0x20B 0x1001 p tm false).2) := by
        intro c i p tm
        refine EventOnly.trans ?_ (EventOnly.postAt _ _ _ _ _ (by omega))
        refine EventOnly.trans ?_ (EventOnly.bump _ _ (.inr rfl))
        refine EventOnly.trans ?_ (EventOnly.latch _ _)
        refine EventOnly.trans ?_ (EventOnly.wrW _ _ (.inr (.inr (.inr rfl))))
        refine EventOnly.trans ?_ (EventOnly.wrW _ _ (.inr (.inr (.inl rfl))))
        refine EventOnly.trans ?_ (EventOnly.wr _ _ _ (.inr (.inl rfl)))
        refine EventOnly.trans ?_ (EventOnly.wr _ _ _ (.inr (.inl rfl)))
        exact EventOnly.wr _ _ _ (.inr (.inl rfl))
      split
      · exact (e _ _ _ _).trans (EventOnly.ignoreStrobe _ _)
      · exact e _ _ _ _
    · exact EventOnly.ignoreStrobe s src

theorem EventOnly.postOut (s : State) {ch : Nat} (code : Nat) (p : List Byte) (tn : Bool) (h : ch < 0x10000) :
    EventOnly s (s.postOut ch code p tn).2 := by
  have e := EventOnly.postAt s code p s.stamp tn h
  unfold State.postOut
  dsimp only
  split
  · exact e.trans (EventOnly.fireSource _ 2)
  · exact e

/-- An event posted to a named channel. -/
theorem EventOnly.postTo (s : State) {ch : Nat} (code : Nat) (p : List Byte) (h : ch < 0x10000) :
    EventOnly s (s.postTo ch code p) := EventOnly.postOut s code p false h

theorem ite_lt {c : Prop} [Decidable c] {a b n : Nat} (ha : a < n) (hb : b < n) : (if c then a else b) < n := by
  split <;> assumption

theorem almRoute_lt (code t : Nat) (h : t < 0x10000) : almRoute code t < 0x10000 := by
  unfold almRoute
  repeat (refine ite_lt (by omega) ?_)
  exact h

/-- A block's event. -/
theorem EventOnly.post (s : State) (code : Nat) (p : List Byte) : EventOnly s (s.post code p) :=
  EventOnly.postTo s code p (almRoute_lt code 0 (by omega))

theorem EventOnly.postTenant (s : State) (code : Nat) {t : Nat} (p : List Byte) (h : t < 0x10000) :
    EventOnly s (s.postTenant code t p) := EventOnly.postTo s code p h

theorem EventOnly.postLimited (s : State) {ch : Nat} (code key : Nat) (p : List Byte) (h : ch < 0x10000) :
    EventOnly s (s.postLimited ch code key p) := by
  unfold State.postLimited
  split
  · exact (EventOnly.rate s code key).trans (EventOnly.postTo _ code p h)
  · exact EventOnly.refl s

/-! ### Consequences for a reader of fields -/

theorem EventOnly.rd {s u : State} (h : EventOnly s u) {a : Nat} (n : ¬ eventWord a) (f : Fld) : u.rd a f = s.rd a f :=
  State.rd_congr (h.words a n) f

theorem EventOnly.rdB {s u : State} (h : EventOnly s u) {a : Nat} (n : ¬ eventWord a) (f : Fld) : u.rdB a f = s.rdB a f :=
  State.rdB_congr (h.words a n) f

theorem EventOnly.sameMemory {s u : State} (h : EventOnly s u) : SameMemory s u := fun a => State.byte_congr h.mem a

/-- A word outside the Almanac and Solstice is no event's word. -/
theorem not_eventWord {a : Nat} (h : a / 2 ^ 24 ≠ 0x0A) (k : a / 2 ^ 24 ≠ 0x10) : ¬ eventWord a := by
  rintro (e | e | e | e)
  · exact h e
  all_goals exact k (e ▸ rfl)

end Sys2Proof.Machine
end

