-- ==== Sys2Proof/Machine/Balls.lean ====
section
/-! DEFINITION. The package's signal balls (R529 to R533): their places, the absent ones of a variant (R536), their pulls and glitch
filters (R544), and the levels that the module drives on its single-ended outputs (R506, R519). -/

namespace Sys2Proof.Machine

/-- The polarity of a differential ball. -/
inductive Pol where
  | pos | neg
deriving DecidableEq, Repr

/-- The signal balls of R531 to R533. -/
inductive Signal where
  /-- Line port, domain port, twin link, PCIe and management lanes: transmitter or receiver. -/
  | lp (tx : Bool) (n : Nat) (p : Pol)
  | dp (tx : Bool) (d l : Nat) (p : Pol)
  | twin (tx : Bool) (l : Nat) (p : Pol)
  | pcie (tx : Bool) (l : Nat) (p : Pol)
  | mgmt (tx : Bool) (p : Pol)
  | sdsclk (g : Nat) (p : Pol)
  | pcieRefclk (p : Pol)
  /-- The low-speed region. -/
  | dsd (n : Nat) | mclk (n : Nat) | qspiClk | qspiCsN | qspiIo (n : Nat)
  | tck | tms | tdi | tdo | trstN | testMode
  | trip (n : Nat) | bin (n : Nat) | xtrg (n : Nat)
  | fenceN | fenceOut (side : Nat) | arbHbOut | arbHbIn (side : Nat) | snapIn | refclk10m | ppsIn | ppsOut
  | wake | pwrReq | porN | rstN | perstN | i2cScl (b : Nat) | i2cSda (b : Nat)
  /-- The always-on corner. -/
  | tamper (n : Nat)
deriving DecidableEq, Repr

/-! ### Places (R530 to R533) -/

/-- The names of rows 1 to 39 (R530). -/
def ballRows : List String :=
  ["A", "B", "C", "D", "E", "F", "G", "H", "J", "K", "L", "M", "N", "P", "T", "U", "V", "W", "Y"] ++
  ["AA", "AB", "AC", "AD", "AE", "AF", "AG", "AH", "AJ", "AK", "AL", "AM", "AN", "AP", "AT", "AU", "AV", "AW", "AY", "BA"]

/-- The number of a row by its name; 0 for no row. -/
def rowNo (x : String) : Nat := (ballRows.findIdx? (· == x)).elim 0 (· + 1)

/-- The row of a vertical pair's _P ball: G, K, N, U, Y, AC, AF, AJ for q mod 8 (R531). -/
def pairRow (q : Nat) : Nat := rowNo (["G", "K", "N", "U", "Y", "AC", "AF", "AJ"].getD (q % 8) "")

/-- A horizontal pair: the _N ball is one column on. -/
def across (row col : Nat) : Pol → Nat × Nat
  | .pos => (row, col)
  | .neg => (row, col + 1)

/-- A vertical pair: the _N ball is one row on. -/
def down (row col : Nat) : Pol → Nat × Nat
  | .pos => (row, col)
  | .neg => (row + 1, col)

/-- Row and column of a ball. -/
def Signal.place : Signal → Nat × Nat
  | .lp tx n p =>
    if n < 12 then across (rowNo (if tx then "B" else "D")) (3 * n + 2) p
    else across (rowNo (if tx then "AY" else "AV")) (3 * n - 34) p
  | .dp tx d l p =>
    let q := 4 * d + l
    down (pairRow q) ((if tx then 2 else 6) + (if q ≤ 7 then 0 else 2)) p
  | .twin tx l p => down (pairRow l) (if tx then 38 else 36) p
  | .pcie tx l p => down (pairRow (l + 4)) (if tx then 38 else 36) p
  | .mgmt tx p => down (rowNo "AM") (if tx then 38 else 36) p
  | .sdsclk g p =>
    if g < 3 then across (rowNo "F") (12 * g + 6) p
    else if g < 6 then across (rowNo "AT") (12 * g - 30) p
    else if g = 6 then down (rowNo "AM") 2 p else down (rowNo "AT") 38 p
  | .pcieRefclk p => across (rowNo "F") 36 p
  | .dsd n => if n < 16 then (rowNo "AH", 12 + n) else if n < 22 then (rowNo "AH", 13 + n) else (rowNo "AJ", n - 10)
  | .mclk n => (rowNo "AJ", 23 + n)
  | .qspiClk => (rowNo "AJ", 32)
  | .qspiCsN => (rowNo "AJ", 33)
  | .qspiIo n => if n = 0 then (rowNo "AJ", 34) else (rowNo "AK", 11 + n)
  | .tck => (rowNo "AK", 16)
  | .tms => (rowNo "AK", 17)
  | .tdi => (rowNo "AK", 18)
  | .tdo => (rowNo "AK", 19)
  | .trstN => (rowNo "AK", 20)
  | .testMode => (rowNo "AK", 21)
  | .trip n => if n < 10 then (rowNo "AK", 25 + n) else (rowNo "AL", 2 + n)
  | .bin n => if n < 16 then (rowNo "AL", 19 + n) else (rowNo "AM", n - 4)
  | .xtrg n => if n < 6 then (rowNo "AM", 29 + n) else (rowNo "AN", 6 + n)
  | .fenceN => (rowNo "AN", 14)
  | .fenceOut side => (rowNo "AN", 15 + side)
  | .arbHbOut => (rowNo "AN", 17)
  | .arbHbIn side => (rowNo "AN", 18 + side)
  | .snapIn => (rowNo "AN", 20)
  | .refclk10m => (rowNo "AN", 22)
  | .ppsIn => (rowNo "AN", 23)
  | .ppsOut => (rowNo "AN", 24)
  | .wake => (rowNo "AN", 26)
  | .pwrReq => (rowNo "AN", 27)
  | .porN => (rowNo "AN", 28)
  | .rstN => (rowNo "AN", 29)
  | .perstN => (rowNo "AN", 30)
  | .i2cScl b => (rowNo "AP", 12 + 2 * b)
  | .i2cSda b => (rowNo "AP", 13 + 2 * b)
  | .tamper n => (rowNo (if n < 2 then "AW" else "AY"), 38 + n % 2)

/-- Every signal ball. -/
def allSignals : List Signal :=
  let pair := fun (f : Pol → Signal) => [f .pos, f .neg]
  let both := fun (f : Bool → Pol → Signal) => pair (f true) ++ pair (f false)
  (List.range 24).flatMap (fun n => both (fun tx p => .lp tx n p))
    ++ (List.range 4).flatMap (fun d => (List.range 4).flatMap (fun l => both (fun tx p => .dp tx d l p)))
    ++ (List.range 4).flatMap (fun l => both (fun tx p => .twin tx l p))
    ++ (List.range 4).flatMap (fun l => both (fun tx p => .pcie tx l p))
    ++ both .mgmt ++ (List.range 8).flatMap (fun g => pair (.sdsclk g)) ++ pair .pcieRefclk
    ++ (List.range 32).map .dsd ++ (List.range 8).map .mclk ++ [.qspiClk, .qspiCsN] ++ (List.range 4).map .qspiIo
    ++ [.tck, .tms, .tdi, .tdo, .trstN, .testMode]
    ++ (List.range 16).map .trip ++ (List.range 32).map .bin ++ (List.range 8).map .xtrg
    ++ [.fenceN, .fenceOut 0, .fenceOut 1, .arbHbOut, .arbHbIn 0, .arbHbIn 1, .snapIn, .refclk10m, .ppsIn, .ppsOut]
    ++ [.wake, .pwrReq, .porN, .rstN, .perstN]
    ++ (List.range 8).flatMap (fun b => [.i2cScl b, .i2cSda b]) ++ (List.range 4).map .tamper

/-! ### Absent units (R536) -/

/-- Whether a ball belongs to a unit that the part lacks: it is inert. -/
def State.ballAbsent (s : State) : Signal → Bool
  | .lp _ n _ => !s.portPresent n
  | .dp _ d _ _ => !s.portPresent (24 + d)
  | .twin _ _ _ => !s.twinPresent
  | .sdsclk g _ =>
    if g < 6 then !(List.range 4).any (fun i => s.portPresent (4 * g + i))
    else g == 6 && !(List.range 4).any (fun d => s.portPresent (24 + d))
  | .dsd _ | .mclk _ => !s.acqPresent
  | _ => false

/-! ### Pulls and filters (R544) -/

/-- An internal pull: none, up or down, and its resistance in kΩ. -/
inductive Pull where
  | none | up (k : Nat) | down (k : Nat)
deriving DecidableEq, Repr

/-- The pull of a ball; a tamper input is pulled to the level opposite NORMAL while it is enabled. -/
def State.ballPull (s : State) : Signal → Pull
  | .fenceN | .snapIn | .rstN | .tms | .tdi => .up 50
  | .wake | .arbHbIn _ | .trstN | .testMode | .perstN => .down 50
  | .dsd _ => if s.acqPresent then .none else .down 50
  | .tamper n => if !s.tamperBit n 0 then .none else if s.tamperBit n 1 then .down 1000 else .up 1000
  | _ => .none

/-- The glitch filter of a ball in ns: pulses shorter than the first never pass, those at least as long as the second always do. -/
def State.ballFilter (s : State) : Signal → Option (Nat × Nat)
  | .fenceN => some (50, 150)
  | .snapIn => some (10, 30)
  | .wake => some (1000, 10000)
  | .porN | .rstN => some (100, 1000)
  | .tamper n =>
    let accept := 1000 * 10 ^ ((s.rdW KEY_TAMPER_CFG).toNat / 2 ^ (8 * n + 2) % 4)
    some (accept / 2, accept)
  | _ => none

/-! ### Levels driven (R51, R170, R326, R365, R398, R403, R506, R519) -/

/-- Whether POR_N or RST_N holds the module in reset. -/
def State.inReset (s : State) : Bool := s.sys.porLow || s.sys.rstLow

/-- The level that the module drives on a single-ended output, or none where it drives none. -/
def State.ballLevel (s : State) : Signal → Option Bool
  | .trip n => some (!s.inReset && decide (s.sys.dormant = 0) && (s.rd OUT_TRIP_LEVEL OUT_TRIP_LEVEL_LEVEL).testBit n)
  | .xtrg n =>
    if !s.inReset && decide (s.sys.dormant = 0) && (s.rd REC_XTRG_STAT REC_XTRG_STAT_DRIVING).testBit n then some false else none
  | .fenceOut side => if s.inReset ∨ s.sys.dormant ≠ 0 then (if s.rdB DPX_REF_STAT (fenceFld side) then some false else none) else s.fenceOut side
  | .pwrReq => some s.sys.pwrReq
  | .arbHbOut => if s.sys.dormant ≠ 0 then none else some (!s.inReset && s.dpx.hbOut)
  | .mclk n => if s.sys.dormant ≠ 0 then none else some (!s.inReset && s.mclkDriven n)
  | .ppsOut => if s.sys.dormant ≠ 0 then none else some (!s.inReset && s.tim.ppsOut)
  | _ => none

end Sys2Proof.Machine
end

