-- ==== Sys2Proof/Tests/Slice0.lean ====
section
/-! SUPPORT. Tests: commands that are not well formed, single steps whose results are worked out by hand from the rules they name,
and for every statement a state and operands that meet its hypotheses. -/

namespace Sys2Proof.Tests

open Sys2Proof Sys2Proof.Machine

set_option maxRecDepth 100000
set_option Elab.async false

/-! ### States -/

/-- The reset state with some fields of registers set. -/
def st (l : List (Nat × Fld × Nat)) : State := l.foldl (fun s x => s.wr x.1 x.2.1 x.2.2) State.reset

/-- A state with some words of control space written. -/
def sw (s : State) (l : List (Nat × Word)) : State := l.foldl (fun s x => s.wrW x.1 x.2) s

/-- An item of a task of a tenant, and a state in which a core runs one. -/
def item1 (task tenant round : Nat) : SchItem := { task := task, tenant := tenant, round := round, enq := 0, ord := 0 }
def run1 (core task tenant : Nat) : SchRun := { core := core, item := item1 task tenant 1, captured := 0, entry := 0, since := 0, charged := 0 }
def onCore (s : State) (core task tenant : Nat) : State := { s with sch := { s.sch with runs := [run1 core task tenant] } }
def queued (s : State) (l : List SchItem) : State := { s with sch := { s.sch with items := l } }

/-- Tenant 511 in a state, with other fields. -/
def ten (st_ : Nat) (l : List (Nat × Fld × Nat) := []) : State := st ((TEN_STATE 511, TEN_STATE_STATE, st_) :: l)

/-- Tenant 511, RUNNING, owns descriptor 8191, which is valid. -/
def task1 : State := ten 2 [(SCH_TEN_TASKS 511, SCH_TEN_TASKS_FIRST, 8191), (SCH_TEN_TASKS 511, SCH_TEN_TASKS_COUNT, 1), (SCH_DESC 8191 3, DESC_VALID, 1), (SCH_CTRL, SCH_CTRL_EN, 1)]

/-- Law 127: VALID, owned by tenant 511 in LOADED, one block (2047, of type 5) and a stream of DRAM as its clock; in a state. -/
def law1 (state : Nat) (l : List (Nat × Fld × Nat) := []) : State :=
  sw (st ([(TEN_STATE 511, TEN_STATE_STATE, 1), (CLE_LAW_CFG 127, CLE_LAW_CFG_VALID, 1), (CLE_LAW_CFG 127, CLE_LAW_CFG_FIRST, 2047),
    (CLE_LAW_CFG 127, CLE_LAW_CFG_OWNER, 511), (CLE_LAW_CLK 127, CLE_LAW_CLK_HANDLE, 3), (CLE_LAW_CLK 127, CLE_LAW_CLK_MODE, 1),
    (CLE_LAW_STATE 127, CLE_LAW_STATE_STATE, state), (CLE_CTRL, CLE_CTRL_EN, 1)] ++ l))
    [(ING_STATIC 0 48, 1), (ING_STATIC 0 49, 0x01000000), (ING_STATIC 0 50, 0x00010A10), (CLE_BLK_STRUCT 2047 0, 5)]

/-- Program slot 63 in a state. -/
def prog1 (state : Nat) (l : List (Nat × Fld × Nat) := []) (x : LgeProg := {}) : State :=
  let s := st ([(LGE_PRG_STATE 63, LGE_PRG_STATE_STATE, state), (LGE_PRG_CFG 63, LGE_PRG_CFG_VALID, 1), (LGE_CTRL, LGE_CTRL_EN, 1)] ++ l)
  { s with lge := { s.lge with progs := [(63, x)] } }

/-- A domain trigger frame whose code is that of the key in slot 8, and a state with that key that has seen the frame. -/
def head7 : List Byte := List.replicate 12 0 ++ [0x88, 0xB5, 1, 1] ++ List.replicate 22 0
def frame7 : List Byte := head7 ++ macTag 0 head7 true
def key7 : State :=
  let s := st [(REC_DOM_CFG, REC_DOM_CFG_KEY, 8), (KEY_CTRL, KEY_CTRL_EN, 1), (KEY_STAT, KEY_STAT_SERVICE, 1)]
  { s with key := { s.key with slots := [(0, { type := 1 }), (8, { type := 2, usage := 2 ^ uVerify, masters := 1, lc := 15 })] }, rec_ := { s.rec_ with seen := [(0, 0)] } }

/-- A pair member (role 1 or 2) or a referee with some fields of registers set. -/
def dpx (role : Nat) (l : List (Nat × Fld × Nat) := []) : State :=
  st ([(DPX_CTRL, DPX_CTRL_EN, 1), (DPX_CFG, DPX_CFG_PAIR_EN, 1), (DPX_STAT, DPX_STAT_ROLE, role)] ++ l)
def beat7 (role : Nat) : DpxBeat := { module := 1, role := role, epoch := 0, health := 0, flags := 0, lastApplied := 0, round := 0, at_ := 0 }
def beating (s : State) (side role : Nat) : State := { s with dpx := { s.dpx with beats := [(side, some (beat7 role))] } }
def told (s : State) (msg arg : Nat) : State := { s with dpx := { s.dpx with msg := some { msg := msg, epoch := 1, target := 0, arg := arg } } }
def copy7 : DpxCopy := { round := 0, bytes := 8, items := [] }
def copying (s : State) (c : DpxCopy) : State := { s with dpx := { s.dpx with copy := some c } }

/-- A heartbeat frame whose code is that of the key in slot 8, and a state that holds that key. -/
def head8 : List Byte := List.replicate 12 0 ++ [0x88, 0xB5, 1, 2] ++ List.replicate 30 0
def frame8 : List Byte := head8 ++ macTag 0 head8 true
def key8 : State :=
  let s := dpx 4 [(DPX_HB_KEY, DPX_HB_KEY_SLOT, 8), (KEY_CTRL, KEY_CTRL_EN, 1), (KEY_STAT, KEY_STAT_SERVICE, 1)]
  { s with key := { s.key with slots := [(0, { type := 1 }), (8, { type := 2, usage := 2 ^ uVerify, masters := 4, lc := 15 })] } }

/-- The bytes of a copy of no item: its head segment and its end. -/
def bytes7 (flags : Byte) : List Byte := let g : Segment := (1, 0, List.replicate 16 0 ++ [flags, 0, 0, 0]); segBytes g ++ segBytes (endSeg [g] true)

/-- A key register with a DERIVE key in slot 8, a SIGN key in 9 and a PUB key in 10, KEY_OP_KEY naming one of them and KEY_OP_DST a slot. -/
def keys (key dst attr len : Nat) (l : List (Nat × Fld × Nat) := []) : State :=
  let s := st ([(KEY_CTRL, KEY_CTRL_EN, 1), (KEY_STAT, KEY_STAT_SERVICE, 1), (KEY_OP_KEY, KEY_OP_KEY_SLOT, key), (KEY_OP_DST, KEY_OP_DST_SLOT, dst),
    (KEY_OP_ATTR, KEY_OP_ATTR_TYPE, attr), (KEY_OP_INLEN, KEY_OP_INLEN_LEN, len), (KEY_OP_IN_LO, KEY_OP_IN_LO_ADDR, 0x40000000), (KEY_OP_OUT_LO, KEY_OP_OUT_LO_ADDR, 0x40000000)] ++ l)
  let k : KeySlot := { type := 2, usage := 127, masters := 31, lc := 15, exportable := true }
  { s with key := { s.key with slots := [(0, { type := 1 }), (8, k), (9, { k with type := 3 }), (10, { k with type := 4 })] } }
def busyKey (o : KeyOp) : State := let s := keys 8 4095 2 4; { s with key := { s.key with op := some o } }
def op7 (n : Nat) : KeyOp := { op := n, uses := [], status := 0 }

/-- Core 63 of tenant 511 with a key in its handle 31, and its ranges empty. -/
def coreKey (len : Nat) : State :=
  let s := keys 8 4095 2 4 [(TEN_STATE 511, TEN_STATE_STATE, 2), (KEY_HANDLE 511 31, KEY_HANDLE_VALID, 1), (KEY_HANDLE 511 31, KEY_HANDLE_SLOT, 8)]
  let s := onCore s 63 0 511
  { s with key := { s.key with stage := [(63, { len := len })] } }

/-- Bank 15 in a state. -/
def bank7 (n : Nat) (l : List (Nat × Fld × Nat) := []) : State := st ([(MEM_BANK_STAT 15, MEM_BANK_STAT_STATE, n), (MEM_CTRL, MEM_CTRL_EN, 1)] ++ l)
def served7 : State := let s := bank7 1; { s with bank := { s.bank with served := [(15, fset MEM_BANK_OWNER_KIND 0 2)] } }

/-- Mailbox 31 in a state, and a mailbox firmware that is ready. -/
def hosted (n : Nat) (l : List (Nat × Fld × Nat) := []) : State :=
  let s := st ([(MBX_CTRL, MBX_CTRL_EN, 1), (MBX_CTRL, MBX_CTRL_PCIE_EN, 1)] ++ l)
  { s with mbx := { s.mbx with boxes := [(31, { state := n })], ready := true } }
def job7 (op : Nat) (x : Option (Nat × Nat × List Byte)) : Job :=
  { via := .mbx 31, session := 0, opcode := op, tag := 0, seq := 5, command := [], obj := 0, arg := 0, outcome := x }
def jobbed (j : Job) : State := let s := hosted 0; { s with mbx := { s.mbx with jobs := [j] } }
def session7 : Session := { id := 5, principal := 0, role := 4, clear := true, slot := 8, top := 0, used := [], kept := [], lastAt := 0 }
def done7 (n : Nat) : UdpDone := { addr := 1, port := 2, session := 5, seq := 6, bytes := [], sends := n, sentAt := 0 }
def udpState (n : Nat) : State := let s := hosted 0 [(MBX_CTRL, MBX_CTRL_UDP_EN, 1)]; { s with mbx := { s.mbx with udpDone := [done7 n] } }
def in7 : AdventIn := { fuseBad := false, romBad := false, dramBad := false, bistBad := [], calBad := none }
def running (l : List (Nat × Fld × Nat) := []) : State := let s := st l; { s with sys := { s.sys with porLow := false, pwrReq := true } }

/-! The mailbox protocol: a session with every right, and commands sent within it. -/
def pl (l : List (Nat × Nat)) : List Byte := l.flatMap fun x => leBytes x.1 x.2
def cmd7 (p : List Byte) : Cmd := { via := .mbx 31, session := 5, tag := 1, sequence := 1, payload := p }
def asked (s : State) : State :=
  let k : KeySlot := { type := 2, usage := 127, masters := 31, lc := 15 }
  let s := (s.wrB KEY_STAT KEY_STAT_SERVICE true).wrB KEY_CTRL KEY_CTRL_EN true
  { s with key := { s.key with slots := [(0, { type := 1 }), (8, k)] }, mbx := { s.mbx with sessions := [session7] } }
def gOf (c : Cmd) (s : State) : State := (((s.advance 7).setSession (session7.accept c.sequence (s.advance 7).now)).sessionKey session7 6).2
def kOf (c : Cmd) (s : State) : Option (BitVec 256) := (((s.advance 7).setSession (session7.accept c.sequence (s.advance 7).now)).sessionKey session7 6).1

/-- Some state and command of a row pass every check of R483 and meet what the statement says of them. -/
def Met (op : Nat) (plan : Cmd → State → Plan) (H : Cmd → Session → State → Prop) : Prop :=
  ∃ t c s x k g, MbxReady op t c (plan c) s x k g ∧ H c x g ∧ g.pendFull c.via = false

def readyFor (op : Nat) (plan : Cmd → State → Plan) (c : Cmd) (s : State) : Bool :=
  (s.advance 7).sessionOf op c.session == some session7 && (match session7.judge c.sequence (cmdBytes op c) with | .fresh => true | _ => false)
    && (gOf c s).haltServes op && ((cmdInfo op).any fun i => ((gOf c s).checks op i (plan c (gOf c s)) session7).isNone)
    && !(gOf c s).pendFull c.via

theorem met {op : Nat} {plan : Cmd → State → Plan} {H : Cmd → Session → State → Prop} (p : List Byte) (s : State)
    (h : readyFor op plan (cmd7 p) (asked s) = true) (hH : H (cmd7 p) session7 (gOf (cmd7 p) (asked s))) : Met op plan H := by
  simp only [readyFor, Bool.and_eq_true, beq_iff_eq, Bool.not_eq_true', Option.any_eq_true, Option.isNone_iff_eq_none] at h
  obtain ⟨⟨⟨⟨h1, h2⟩, h3⟩, i, h4, h5⟩, h6⟩ := h
  refine ⟨7, cmd7 p, asked s, session7, kOf (cmd7 p) (asked s), gOf (cmd7 p) (asked s), ⟨h1, ?_, rfl, h3, i, h4, h5⟩, hH, h6⟩
  revert h2; split
  · intro _; assumption
  · simp

theorem bulkOut_zero {s : State} {a : Nat} {out : List Byte} (h : s.aperFits a 0 0 false = true) :
    s.bulkOut a 0 out = some (p8 out.length ++ p8 ((out.drop 0).take (s.aperLen a)).length, s.store (s.aperBase a) ((out.drop 0).take (s.aperLen a))) := by
  simp [State.bulkOut, h]

/-- Aperture 15 open over 4,096 bytes, written by the host or only read by it. -/
def aper7 (s : State) (w : Nat) : State :=
  ((((s.wr (MBX_APER_CTRL 15) MBX_APER_CTRL_EN 1).wr (MBX_APER_CTRL 15) MBX_APER_CTRL_WRITE w).wr (MBX_APER_LEN 15) MBX_APER_LEN_LEN 4096).wr
    (MBX_APER_BASE_HI 15) MBX_APER_BASE_HI_BASE 16)
def tune7 : CleTune := { law := 127, rule := 0, cycles := 2, amp := 0, hys := 0, maxTime := 9, tag := 3, start := 0, switchAt := 0 }
def tuned7 : CleTuned := { law := 127, tag := 9, status := 0, reason := 0, cycles := 2, ku := 0, pu := 0, a := 0, kp := 0, ki := 0, kd := 0, commits := 0 }

/-- Frames of the fabric: one of four cells being written, and one whole and queued at port 4. -/
def copyOf (d : Nat) (q : Option Nat) (n : Nat) : FabCopy := { dst := d, ct := false, bStart := 0, released := n, queued := q, left := [d] }
def frameOf (src cls : Nat) (c : FabCopy) : FabFrame := { num := 0, src := src, cls := cls, arrival := 1, ring := 0, bytes := List.replicate 64 0, written := [1], copies := [c] }
def staging (s : State) (n : Nat) (x : RxStage) (f : FabFrame) : State :=
  { s with prt := { s.prt with staged := [(n, [x])] }, fab := { s.fab with frames := [f] } }
def part7 : RxStage := { bytes := List.replicate 200 0, arrival := 1, frame := some 0, cells := 1 }
def whole7 : FabFrame := { frameOf 5 7 (copyOf 4 (some 0) 1) with complete := true }
def linked4 : State := let s := st [(PRT_PORT_CFG 4, PRT_PORT_CFG_EN, 1), (PRT_PORT_STAT 4, PRT_PORT_STAT_LINK, 1)]; { s with fab := { s.fab with frames := [whole7] } }
def tx7 : FabTx := { frame := 0, dst := 4, express := true }
def sending4 : State := let s := linked4; { s with fab := { s.fab with frames := [{ whole7 with copies := [{ copyOf 4 (some 0) 1 with left := [4], sending := [4] }] }], tx := [(4, [tx7])] } }
def crasen7 (ok : Bool) : CrasenRx := { kind := 2, seq := 0, ack := 0, payload := List.replicate 16 1, crcOk := ok, blockErr := 2 }
/-- A transmit ring of tenants with one descriptor of 60 bytes. -/
def ring7 : State :=
  State.setBytes (st [(PRT_TXR_CFG 16, PRT_TXR_CFG_EN, 1), (PRT_TXR_CFG 16, PRT_TXR_CFG_SIZE_LOG2, 4), (PRT_TXR_TAIL 16, PRT_TXR_TAIL_INDEX, 1), (PRT_TXR_BASE_HI 16, PRT_TXR_BASE_HI_BASE, 16)])
    0x1000000000 (leBytes 8 0x1000001000 ++ leBytes 2 60 ++ [3, 0, 0, 0, 0, 0xFF] ++ leBytes 4 60)

/-- A sampled value frame of an APDU of no byte, and a state in which its key leads to stream 3, whose stencil emits one sample. -/
def sv7 : IngFrame := { bytes := List.replicate 12 0 ++ [0x88, 0xBA, 0x40, 0, 0, 8] ++ List.replicate 42 0, arrival := 3, port := 1 }
def hdr7 : IngHdr := { frame := sv7, off := 14, goose := false, vid := 0, appid := 0x4000, sim := false, apdu := [], ext := 0 }
def ing7 : State :=
  let i := 4 * (8 * (keyBuckets { da := 0, appid := 0x4000, vid := 0, hash := 0 }).1)
  sw (st [(ING_CTRL, ING_CTRL_EN, 1)]) [(ING_STENCIL_POOL 0 0, 0x0B000000), (ING_STENCIL_POOL 3 0, 0x11000000),
    (ING_KEY_INDEX 0 (i + 1), 0x00400000), (ING_KEY_INDEX 0 (i + 2), 0x8000), (ING_KEY_INDEX 0 (i + 3), 0x30000),
    (ING_STATIC 0 48, 0x00030001), (ING_STATIC 0 49, 0x01000000), (ING_STATIC 0 50, 0x00010A10)]
def walk7 : Walk := match ing7.walkFrame hdr7 0 with | .finished w => w | _ => { slot := 0, fin := 0, f := [] }
def ent7 : StreamEnt := ing7.stream 0 3

/-- A message of tenant 511 that stands next in its outbound page 0, and the slot that holds it. -/
def says7 (type : Nat) (p : List Byte) : Message := { tenant := 511, page := 0, type := type, length := p.length, tag := 9, payload := p }
def saying (s : State) (type : Nat) (p : List Byte) : State :=
  let s := State.setBytes (sw s [(TEN_MAP_BASE_HI 511, 0x10), (TEN_MSG_PROD 511 0, 1)]) 0x1000000000 (leBytes 8 (0x100001 * 65536 + 3))
  s.setBytes 0x1000010040 (p2 type ++ p2 p.length ++ p4 9 ++ fitBytes 56 p)

/-- Program slot 63 with a scan open on unit 0; and, RUNNING with one instruction that ends the scan, with a scan queued. -/
def open7 (state : Nat) (l : List (Nat × Fld × Nat) := []) : State := prog1 state l { unit := some 0 }
def scans7 (l : List (Nat × Fld × Nat) := []) : State :=
  let s := sw (prog1 1 ([(TIM_CTRL, TIM_CTRL_GRID_EN, 1), (LGE_PRG_CODE_LEN 63, LGE_PRG_CODE_LEN_LEN, 1)] ++ l)) [(0x07100000, 0x7F000000)]
  { s with lge := { s.lge with queue := [{ prog := 63, deadline := 5 }] } }
def evals7 (state : Nat) (x : CleEval) : State := let s := sw (law1 state) [(CLE_BLK_STRUCT 2047 0, 2)]; { s with cle := { s.cle with evals := [x] } }
def tuning7 (x : CleTune) : State := let s := law1 2 [(TIM_CTRL, TIM_CTRL_GRID_EN, 1)]; { s with cle := { s.cle with tunes := [x] } }
def post7 : AlmEntry := { ch := 511, code := 0x0102, payload := [1], first := 1, last := 2, count := 3, ord := 0, tenant := false }
def record7 : AlmRec := { kind := 0, code := 0x0102, seq := 0, bytes := 48, rep := 1, time := 0, lastTime := 0, payload := [1] }
def folds7 : State :=
  let s := st [(ALM_CH_CFG 511, ALM_CH_CFG_SIZE, 1)]
  { s with alm := { s.alm with writing := some (.entry post7), chans := [(511, { recs := [record7] })] } }
def asking7 (op ch seq : Nat) : State := { State.reset with alm := { State.reset.alm with cursorOp := some (op, ch, seq) } }

/-- A state of a variant whose DRAM is trained, and one in which core 63 runs tenant 511, whose page 0 is a frame of DRAM. -/
def trained7 (v : Nat) : State := let s := st [(MEM_DRAM_STAT, MEM_DRAM_STAT_TRAINED, 1)]; { s with fuses := { s.fuses with variant := v } }
def none7 : EccFound := { single := [], double := [] }
def mapped7 (frame : Nat) : State := State.setBytes (sw (onCore task1 63 8191 511) [(TEN_MAP_BASE_HI 511, 0x10)]) 0x1000000000 (leBytes 8 (frame * 65536 + 3))

/-! ### Well-formedness -/

/-- Each check of well-formedness refuses a command that fails it. -/
theorem test_illFormed : (([
  .registerWrite 0 (some 64) 0 0, .registerWrite 0 none (2 ^ 32) 0, .acqTripTimeRead 0 32, .recTrigTimeRead 0 16, .twNowRead 0 64,
  .cleLawLatRead 0 128, .lgePrgTimeRead 0 64, .ptpEventMessage 0 32 .pdelayReq (0, 0) (0, 0) [], .ptpEventMessage 0 0 .sync (2 ^ 64, 0) (0, 0) [], .ptpEventMessage 0 0 .sync (0, 0) (2 ^ 64, 0) [],
  .ptpEventMessage 0 0 .sync (0, 0) (0, 256) [], .ptpEventMessage 0 0 .pdelayResp (2 ^ 64, 0) (0, 0) [], .ptpEventMessage 0 0 .pdelayReq (1, 0) (0, 0) [],
  .ptpEventMessage 0 0 .send (0, 0) (0, 0) (List.replicate 1515 0), .statusQuery 0 512, .lreConfigWrite 0 12 0, .linkUp 0 0 8 false false, .pauseFrame 0 0 false 256 [],
  .rxTailWrite 0 1024 0, .rxTailWrite 0 0 (2 ^ 32), .lostTag 0 32 0, .lostTag 0 0 32, .talExpired 0 16384, .fastOutput 0 32 ⟨[0, 0, 0, 0, 0, 0, 0, 0], [0, 0, 0, 0, 0, 0, 0, 0]⟩, 
  .fastOutput 0 0 ⟨[0], [0, 0, 0, 0, 0, 0, 0, 0]⟩,
  .fineOutput 0 8, .tenActivate 0 512, .tenMapInval 0 0 false 16384, .twMsgDb 0 0 4 0, .twRingTail 0 0 16 0,
  .migrationCommitReceived 0 0 ⟨2 ^ 32, []⟩, .migrationCommitReceived 0 0 ⟨0, [.page 16384 []]⟩, .migrationCommitReceived 0 0 ⟨0, [.line 4 0 []]⟩,
  .migrationCommitReceived 0 0 ⟨0, [.desc 256 [0, 0, 0, 0, 0]]⟩, .migrationCommitReceived 0 0 ⟨0, [.item []]⟩, .twDone 0 0 (2 ^ 32), .schStwEnq 0 32768, .twFlag 0 0 65536 0, .twTmrArm 0 0 4 0,
  .tenantFault 0 0 0 (2 ^ 64), .misalignedAccess 0 (.core 64) 0 4 none, .misalignedAccess 0 .steward (2 ^ 32) 4 none,
  .misalignedAccess 0 .steward 0 4 (some (2 ^ 64)), .dramAccess 0 (.core 0 512) 0 8 none { single := [], double := [] }, .twSpWrite 0 0 1024 0, .lgeVerify 0 0 64, .forceTableWrite 0 0 256 0 false 0,
  .forceTableWrite 0 0 0 65536 false 0, .bindingWrite 0 256 0 0, .bindingWrite 0 0 8 0, .binChangeAccepted 0 32,
  .scheduledRetransmission 0 1024, .xtrgQualify 0 8, .fatalDetect 0 2 false, .twKeyCmdMac 0 0 (2 ^ 32) false, .tamperEvent 0 4,
  .bankHandover 0 16 0, .portAAccess 0 .ing (2 ^ 64) 0 none { single := [], double := [] }, .doorbellCommand 0 32,
  .udpDatagram 0 0 65536 0 0 0 false [], .udpDatagram 0 0 0 65536 0 0 false [], .udpDatagram 0 0 0 0 0 65536 false [],
  .completion 0 (2 ^ 32) 0 false, .completion 0 0 (2 ^ 32) false, .i2cStretchTimeout 0 8, .prtStatus 0 { cmd7 [] with session := 2 ^ 32 },
  .commandBufferWrite 0 0 4096 [],
  .timNowRead (2 ^ 64)] : List Instr).all fun i => !i.wf) = true := by decide +kernel


theorem test_cmd_wf : ([{ cmd7 [] with via := .mbx 32 }, { cmd7 [] with via := .udp 0 65536 }, { cmd7 [] with tag := 65536 }, { cmd7 [] with sequence := 2 ^ 32 },
    cmd7 (List.replicate 4065 0)].all fun (c : Cmd) => !c.wf) = true := by decide +kernel

theorem test_wellFormed : ([.registerWrite 0 (some 63) 0xFFFFFFFF 1, .acqTripTimeRead 0 31, .prtStatus 0 (cmd7 (List.replicate 4064 0)),
    .commandBufferWrite (2 ^ 64 - 1) 31 4095 [1]].all Instr.wf) = true := by decide +kernel

/-! ### Single steps -/

/-- The next state of one step. -/
def after1 (i : Instr) (s : State) : Option State := match step { s with pending := [i] } with | .next u => some u | _ => none

/-- The block idles with no command waiting (log entry 2). -/
theorem test_idle : step State.reset = .next State.reset := rfl

/-- The check value of CRC-32C (R407's END segment): that of the nine digits. -/
theorem test_crc32c : crc32c [0x31, 0x32, 0x33, 0x34, 0x35, 0x36, 0x37, 0x38, 0x39] = 0xE3069283 := by decide +kernel

/-- R38: sample 1 of a second at 4,800 samples/s falls at floor(10^9 / 4,800) ns, and sample 4,799 at 999,791,666 ns. -/
theorem test_sampleInstant : sampleInstant 4800 1 = 208333 ∧ sampleInstant 4800 4799 = 999791666 ∧ sampleInstant 4800 4800 = 1000000000 := by decide +kernel

/-- R91: a read of a counter returns it and clears it. -/
theorem test_counterRead : (after1 (.statisticsCounterRead 1 cntMEM_SCRUB_PASSES) (State.reset.bump cntMEM_SCRUB_PASSES 5)).map (fun u => (u.bus.data, u.count cntMEM_SCRUB_PASSES))
    = some (5, 0) := by decide +kernel

/-- R480: a doorbell makes an idle mailbox busy; a second one is ignored. -/
theorem test_doorbell : (after1 (.doorbellCommand 1 31) (hosted 0)).map (fun u => (u.box 31).state) = some 1 := by decide +kernel
theorem test_doorbell_busy : (after1 (.doorbellCommand 1 31) (hosted 1)).map (fun u => ((u.box 31).state, (u.box 31).dbIgnored)) = some (1, true) := by decide +kernel

/-- R463: a bank handed over with ZERO set reads zero once zeroing is done. -/
theorem test_zeroing : (after1 (.bankZeroingDone 1 15) (let y := bank7 3; { y with mem := [(0x41FFFFFF, 9)] })).map (fun u => (u.byte 0x41FFFFFF).toNat) = some 0 := by decide +kernel

/-- R462: port A of a bank serves its owner alone. -/
theorem test_owner : (after1 (.portAAccess 1 .cle 0x41FFFFF8 8 none { single := [], double := [] }) served7).map (fun u => u.bus.err) = some true := by decide +kernel
theorem test_owner_served : (after1 (.portAAccess 1 .ing 0x41FFFFF8 4 none { single := [], double := [] }) (let y := served7; { y with mem := [(0x41FFFFF9, 2)] })).map
    (fun u => (u.bus.err, u.bus.data)) = some (false, 0x200) := by decide +kernel

/-- R444: ZEROISE ends with every slot but the fixed ones free. -/
theorem test_zeroise : (after1 (.keyOperationEnd 1 none) (busyKey (op7 13))).map (fun u => ((u.slot 8).type, (u.slot 0).type)) = some (0, 1) := by decide +kernel

/-- R521, R523: an enabled source that fires while the snapshot is ARMED is taken. -/
theorem test_solstice : (after1 (.solsticeFire 1) (running [(SYS_SNAP_SRC, SYS_SNAP_SRC_SOURCES, 2), (SYS_SNAP_STAT, SYS_SNAP_STAT_STATE, 1)])).map
    (fun u => u.rd SYS_SNAP_STAT SYS_SNAP_STAT_STATE) = some 2 := by decide +kernel

/-- The hypotheses of the six clauses of MbxOrder, met by MEM_BANK_ASSIGN. -/
def OrderMet : Prop :=
  (∃ (t : Nat) (c : Cmd) (s : State), (s.advance t).sessionOf 0x0D10 c.session = none) ∧
  (∃ (t : Nat) (c : Cmd) (s : State) (x : Session) (b : List Byte), (s.advance t).sessionOf 0x0D10 c.session = some x ∧ x.judge c.sequence (cmdBytes 0x0D10 c) = .again b) ∧
  (∃ (t : Nat) (c : Cmd) (s : State) (x : Session) (k : Option (BitVec 256)) (g : State), (s.advance t).sessionOf 0x0D10 c.session = some x ∧ x.judge c.sequence (cmdBytes 0x0D10 c) = .replay
    ∧ (s.advance t).sessionKey x 6 = (k, g)) ∧
  (∃ (t : Nat) (c : Cmd) (s : State) (x : Session) (k : Option (BitVec 256)) (g : State), (s.advance t).sessionOf 0x0D10 c.session = some x ∧ x.judge c.sequence (cmdBytes 0x0D10 c) = .fresh
    ∧ ((s.advance t).setSession (x.accept c.sequence (s.advance t).now)).sessionKey x 6 = (k, g) ∧ g.haltServes 0x0D10 = false) ∧
  (∃ (t : Nat) (c : Cmd) (s : State) (x : Session) (k : Option (BitVec 256)) (g : State) (e : CmdInfo) (st d : Nat), (s.advance t).sessionOf 0x0D10 c.session = some x ∧ x.judge c.sequence (cmdBytes 0x0D10 c) = .fresh
    ∧ ((s.advance t).setSession (x.accept c.sequence (s.advance t).now)).sessionKey x 6 = (k, g) ∧ g.haltServes 0x0D10 = true
    ∧ cmdInfo 0x0D10 = some e ∧ g.checks 0x0D10 e (planMemBankAssign c g) x = some (st, d)) ∧
  (∃ (t : Nat) (c : Cmd) (s : State) (x : Session) (k : Option (BitVec 256)) (g : State), MbxReady 0x0D10 t c (planMemBankAssign c) s x k g ∧ ((planMemBankAssign c g).body x).1.later.isSome = true
    ∧ g.pendFull c.via = true)

def sessioned (s : State) (x : Session) : State := let s := asked s; { s with mbx := { s.mbx with sessions := [x] } }
def used7 : Session := { session7 with top := 1, used := [1] }
def kept7 : Session := { used7 with kept := [{ seq := 1, command := cmdBytes 0x0D10 (cmd7 []), response := [9] }] }
def assign7 : Cmd := cmd7 (pl [(4, 15), (4, (fset MEM_BANK_OWNER_KIND 0 4).toNat)])
def full7 : State := let s := asked State.reset; { s with mbx := { s.mbx with jobs := List.replicate 16 (job7 0x0D10 none) } }

theorem orderMet : OrderMet :=
  ⟨⟨7, cmd7 [], State.reset, by decide +kernel⟩,
    ⟨7, cmd7 [], sessioned State.reset kept7, kept7, [9], by decide +kernel, rfl⟩,
    ⟨7, cmd7 [], sessioned State.reset used7, used7, _, _, by decide +kernel, rfl, rfl⟩,
    ⟨7, cmd7 [], asked (st [(SYS_ADVENT, SYS_ADVENT_STATE, 2)]), session7, kOf (cmd7 []) (asked (st [(SYS_ADVENT, SYS_ADVENT_STATE, 2)])),
      gOf (cmd7 []) (asked (st [(SYS_ADVENT, SYS_ADVENT_STATE, 2)])), by decide +kernel, rfl, rfl, by decide +kernel⟩,
    ⟨7, cmd7 [], asked State.reset, session7, kOf (cmd7 []) (asked State.reset), gOf (cmd7 []) (asked State.reset), _, _, _,
      by decide +kernel, rfl, rfl, by decide +kernel, rfl, rfl⟩,
    ⟨7, assign7, full7, session7, kOf assign7 full7, gOf assign7 full7, ⟨by decide +kernel, rfl, rfl, by decide +kernel, _, rfl, by decide +kernel⟩,
      by decide +kernel, by decide +kernel⟩⟩

/-! ### A state and operands that meet the hypotheses of each statement, one for each of its clauses -/

theorem wit_ReadsThatCaptureOrClear :
    (∃ (core : Nat) (s : State), (s.coreTenant core).isSome) ∧ (∃ (ch : Nat), ch < 32) ∧ (∃ (r : Nat), r < 16) ∧
    (∃ (law : Nat) (s : State), s.clePresent = true ∧ law < 128) ∧ (∃ (p : Nat), p < 64) ∧ (∃ (a : Nat), counterAt a = true) :=
  ⟨⟨2, { State.reset with sch := { State.reset.sch with runs := [{ core := 2, item := { task := 0, tenant := 3, round := 1, enq := 0, ord := 0 }, captured := 0, entry := 0, since := 0, charged := 0 }] } }, by decide +kernel⟩,
  ⟨31, by decide +kernel⟩, ⟨15, by decide +kernel⟩, ⟨127, State.reset, by decide +kernel⟩, ⟨63, by decide +kernel⟩, ⟨0x01200800, by decide +kernel⟩⟩

theorem wit_TimeBaseAndPps :
    (∃ (s : State), s.gridOn = false ∧ s.tim.setLo < 2 ^ 32) ∧ (∃ (s : State), s.gridOn = true) ∧ (∃ (target : Nat), 250 ≤ target ∧ target ≤ 3000) ∧
    (∃ (target : Nat), 250 ≤ target ∧ target ≤ 3000) ∧ (∃ (target : Nat), (target < 250 ∨ 3000 < target)) ∧
    (∃ (target : Nat), (target < 250 ∨ 3000 < target)) ∧ (∃ (s : State), s.gridOn = false) ∧ (∃ (s : State), s.gridOn = false) ∧
    (∃ (s : State), s.gridOn = true) ∧ (∃ (s : State), s.gridOn = false) ∧ (∃ (s : State), s.gridOn = true) ∧
    (∃ (t : Nat) (s : State), s.ppsDriven = true ∧ (s.advance t).dom % 1000000000 ≤ 4) ∧
    (∃ (t : Nat) (s : State), s.tim.ppsOutAt + s.rd TIM_PPS TIM_PPS_OUT_WIDTH * 1000000 ≤ max s.now t) ∧
    (∃ (t : Nat) (rising : Bool) (s : State), s.rdB TIM_PPS TIM_PPS_IN_EN = true ∧ rising = !s.rdB TIM_PPS TIM_PPS_IN_EDGE ∧ s.rdB TIM_CTRL TIM_CTRL_SRC = false ∧ s.sys.advent = none ∧ -1000000 ≤ secondDistance (s.advance t).stamp ∧ secondDistance (s.advance t).stamp ≤ 1000000) ∧
    (∃ (t : Nat) (rising : Bool) (s : State), s.rdB TIM_PPS TIM_PPS_IN_EN = true ∧ rising = !s.rdB TIM_PPS TIM_PPS_IN_EDGE ∧ s.sys.advent = none ∧ (secondDistance (s.advance t).stamp < -1000000 ∨ 1000000 < secondDistance (s.advance t).stamp)) :=
  ⟨⟨State.reset, by decide +kernel⟩, ⟨st [(TIM_CTRL, TIM_CTRL_GRID_EN, 1)], by decide +kernel⟩, ⟨250, by decide +kernel⟩, ⟨3000, by decide +kernel⟩,
  ⟨249, by decide +kernel⟩, ⟨3001, by decide +kernel⟩, ⟨State.reset, by decide +kernel⟩, ⟨State.reset, by decide +kernel⟩,
  ⟨st [(TIM_CTRL, TIM_CTRL_GRID_EN, 1)], by decide +kernel⟩, ⟨State.reset, by decide +kernel⟩,
  ⟨st [(TIM_CTRL, TIM_CTRL_GRID_EN, 1)], by decide +kernel⟩,
  ⟨4, st [(TIM_PPS, TIM_PPS_OUT_EN, 1), (TIM_PPS, TIM_PPS_OUT_NONE, 1)], by decide +kernel⟩,
  ⟨100000000, st [(TIM_PPS, TIM_PPS_OUT_WIDTH, 100)], by decide +kernel⟩, ⟨3001000000, true, st [(TIM_PPS, TIM_PPS_IN_EN, 1)], by decide +kernel⟩,
  ⟨3001000004, true, st [(TIM_PPS, TIM_PPS_IN_EN, 1)], by decide +kernel⟩⟩

theorem wit_SynchAndHoldover :
    (∃ (t : Nat) (port : Nat) (origin : Nat) (s : State), s.clockPort port = true ∧ s.sys.advent = none ∧ (-1000000 ≤ s.ptpOffset t port origin ∧ s.ptpOffset t port origin < -1000 ∨ 1000 < s.ptpOffset t port origin ∧ s.ptpOffset t port origin ≤ 1000000)) ∧
    (∃ (t : Nat) (port : Nat) (origin : Nat) (gmId : Nat) (s : State), s.clockPort port = true ∧ s.sys.advent = none ∧ -1000 ≤ s.ptpOffset t port origin ∧ s.ptpOffset t port origin ≤ 1000 ∧ s.tim.lockGm = gmId + 1 ∧ s.tim.lockCount = 15 ∧ s.rdB TIM_STAT TIM_STAT_REF_OK = true ∧ s.rdB TIM_STAT TIM_STAT_HOLDOVER = false) ∧
    (∃ (t : Nat) (port : Nat) (origin : Nat) (s : State), s.clockPort port = true ∧ s.sys.advent = none ∧ (s.ptpOffset t port origin < -1000000 ∨ 1000000 < s.ptpOffset t port origin)) ∧
    (∃ (port : Nat) (s : State), s.ptpOn port = true ∧ s.sys.advent = none) ∧
    (∃ (gmClass : Nat) (s : State), s.synch = 2 ∧ gmClass ≠ 6 ∧ gmClass ≠ 7 ∧ s.sys.advent = none) ∧
    (∃ (gmClass : Nat) (s : State), s.synch = 1 ∧ (gmClass = 6 ∨ gmClass = 7) ∧ s.rdB TIM_STAT TIM_STAT_REF_OK = true ∧ s.sys.advent = none) ∧
    (∃ (s : State), s.synch = 0 ∧ s.rdB TIM_STAT TIM_STAT_REF_OK = true ∧ s.sys.advent = none) ∧
    (∃ (s : State), s.rdB TIM_STAT TIM_STAT_REF_OK = true) ∧ (∃ (s : State), s.rdB TIM_STAT TIM_STAT_REF_OK = false) ∧
    (∃ (t : Nat) (cause : HoldCause) (s : State), s.synch ≠ 0 ∧ s.rdB TIM_STAT TIM_STAT_HOLDOVER = false ∧ (s.advance t).sourceSilent cause = true) ∧
    (∃ (t : Nat) (h : Nat) (s : State), s.tim.holdoverFrom = some h ∧ h + s.holdLimit * 1000000000 ≤ max s.now t) ∧
    (∃ (t : Nat) (h : Nat) (s : State), s.tim.holdoverFrom = some h ∧ max s.now t < h + s.holdLimit * 1000000000) :=
  ⟨⟨2000, 27, 0, st [(TIM_CTRL, TIM_CTRL_PTP_EN, 1), (TIM_PORT_PTP 27, TIM_PORT_PTP_MODE, 1)], by decide +kernel⟩,
  ⟨7, 27, 0, 5, { st [(TIM_CTRL, TIM_CTRL_PTP_EN, 1), (TIM_PORT_PTP 27, TIM_PORT_PTP_MODE, 1), (TIM_STAT, TIM_STAT_REF_OK, 1)] with tim := { State.reset.tim with lockGm := 6, lockCount := 15 } }, by decide +kernel⟩,
  ⟨1000007, 27, 0, st [(TIM_CTRL, TIM_CTRL_PTP_EN, 1), (TIM_PORT_PTP 27, TIM_PORT_PTP_MODE, 1), (TIM_STAT, TIM_STAT_SYNCH, 2)], by decide +kernel⟩,
  ⟨27, st [(TIM_PORT_PTP 27, TIM_PORT_PTP_MODE, 1)], by decide +kernel⟩, ⟨8, st [(TIM_STAT, TIM_STAT_SYNCH, 2)], by decide +kernel⟩,
  ⟨7, st [(TIM_STAT, TIM_STAT_SYNCH, 1), (TIM_STAT, TIM_STAT_REF_OK, 1)], by decide +kernel⟩,
  ⟨st [(TIM_STAT, TIM_STAT_REF_OK, 1)], by decide +kernel⟩, ⟨st [(TIM_STAT, TIM_STAT_REF_OK, 1), (TIM_STAT, TIM_STAT_SYNCH, 1)], by decide +kernel⟩,
  ⟨State.reset, by decide +kernel⟩, ⟨7, .pps, st [(TIM_CTRL, TIM_CTRL_SRC, 1), (TIM_STAT, TIM_STAT_SYNCH, 1)], by decide +kernel⟩,
  ⟨60000000005, 5, { st [(TIM_STAT, TIM_STAT_SYNCH, 1)] with tim := { State.reset.tim with holdoverFrom := some 5 } }, by decide +kernel⟩,
  ⟨60000000004, 5, { st [(TIM_STAT, TIM_STAT_SYNCH, 1)] with tim := { State.reset.tim with holdoverFrom := some 5 } }, by decide +kernel⟩⟩

theorem wit_PortConfiguration :
    (∃ (n : Nat) (v : Word) (s : State), s.portPresent n = true ∧ modeOk n (fget PRT_PORT_CFG_MODE v) (fget PRT_PORT_CFG_FEC v) = true ∧ (s.rdB (PRT_PORT_CFG n) PRT_PORT_CFG_EN = true → fget PRT_PORT_CFG_MODE v = s.rd (PRT_PORT_CFG n) PRT_PORT_CFG_MODE ∧ fget PRT_PORT_CFG_FEC v = s.rd (PRT_PORT_CFG n) PRT_PORT_CFG_FEC)) ∧
    (∃ (n : Nat) (v : Word) (s : State), s.portPresent n = true ∧ modeOk n (fget PRT_PORT_CFG_MODE v) (fget PRT_PORT_CFG_FEC v) = true ∧ (s.rdB (PRT_PORT_CFG n) PRT_PORT_CFG_EN = true → fget PRT_PORT_CFG_MODE v = s.rd (PRT_PORT_CFG n) PRT_PORT_CFG_MODE ∧ fget PRT_PORT_CFG_FEC v = s.rd (PRT_PORT_CFG n) PRT_PORT_CFG_FEC)) ∧
    (∃ (n : Nat) (v : Word) (s : State), s.portPresent n = true ∧ modeOk n (fget PRT_PORT_CFG_MODE v) (fget PRT_PORT_CFG_FEC v) = false) ∧
    (∃ (n : Nat) (v : Word) (s : State), s.portPresent n = true ∧ s.rdB (PRT_PORT_CFG n) PRT_PORT_CFG_EN = true ∧ fget PRT_PORT_CFG_MODE v ≠ s.rd (PRT_PORT_CFG n) PRT_PORT_CFG_MODE) ∧
    (∃ (p : Nat) (v : Word) (s : State), s.pairPresent p = true ∧ 10 ≤ fget PRT_LRE_CFG_DUP_AGE v ∧ fget PRT_LRE_CFG_DUP_AGE v ≤ 10000 ∧ fget PRT_LRE_CFG_MODE v ≠ 3 ∧ (fget PRT_LRE_CFG_MODE v = 0 ∨ (s.rdB (PRT_PORT_CFG (2 * p)) PRT_PORT_CFG_EN = true ∧ s.rdB (PRT_PORT_CFG (2 * p + 1)) PRT_PORT_CFG_EN = true ∧ s.rd (PRT_PORT_CFG (2 * p)) PRT_PORT_CFG_MODE = s.rd (PRT_PORT_CFG (2 * p + 1)) PRT_PORT_CFG_MODE))) ∧
    (∃ (p : Nat) (v : Word) (s : State), s.pairPresent p = true ∧ 10 ≤ fget PRT_LRE_CFG_DUP_AGE v ∧ fget PRT_LRE_CFG_DUP_AGE v ≤ 10000 ∧ fget PRT_LRE_CFG_MODE v ≠ 3 ∧ (fget PRT_LRE_CFG_MODE v = 0 ∨ (s.rdB (PRT_PORT_CFG (2 * p)) PRT_PORT_CFG_EN = true ∧ s.rdB (PRT_PORT_CFG (2 * p + 1)) PRT_PORT_CFG_EN = true ∧ s.rd (PRT_PORT_CFG (2 * p)) PRT_PORT_CFG_MODE = s.rd (PRT_PORT_CFG (2 * p + 1)) PRT_PORT_CFG_MODE))) ∧
    (∃ (p : Nat) (v : Word) (s : State), s.pairPresent p = true ∧ fget PRT_LRE_CFG_MODE v ≠ 0 ∧ s.rdB (PRT_PORT_CFG (2 * p)) PRT_PORT_CFG_EN = false) ∧
    (∃ (n : Nat) (speed : Nat) (s : State), s.portPresent n = true ∧ s.rdB (PRT_PORT_CFG n) PRT_PORT_CFG_EN = true ∧ speed < 4) ∧
    (∃ (n : Nat) (s : State), s.portPresent n = true) :=
  ⟨⟨28, fset PRT_PORT_CFG_MODE 0 1, State.reset, by decide +kernel⟩,
  ⟨23, fset PRT_PORT_CFG_EN (fset PRT_PORT_CFG_FEC (fset PRT_PORT_CFG_MODE 0 3) 2) 1, State.reset, by decide +kernel⟩,
  ⟨27, fset PRT_PORT_CFG_MODE 0 3, State.reset, by decide +kernel⟩,
  ⟨5, fset PRT_PORT_CFG_MODE 0 2, st [(PRT_PORT_CFG 5, PRT_PORT_CFG_EN, 1), (PRT_PORT_CFG 5, PRT_PORT_CFG_MODE, 1)], by decide +kernel⟩,
  ⟨11, fset PRT_LRE_CFG_MODE (fset PRT_LRE_CFG_DUP_AGE 0 10000) 2, st [(PRT_PORT_CFG 22, PRT_PORT_CFG_EN, 1), (PRT_PORT_CFG 23, PRT_PORT_CFG_EN, 1)], by decide +kernel⟩,
  ⟨0, fset PRT_LRE_CFG_DUP_AGE 0 10, State.reset, by decide +kernel⟩, ⟨11, fset PRT_LRE_CFG_MODE 0 1, State.reset, by decide +kernel⟩,
  ⟨28, 3, st [(PRT_PORT_CFG 28, PRT_PORT_CFG_EN, 1)], by decide +kernel⟩, ⟨28, st [(PRT_PORT_STAT 28, PRT_PORT_STAT_LINK, 1)], by decide +kernel⟩⟩

theorem wit_ReceivedFrames :
    (∃ (n : Nat) (f : RxFrame) (s : State), s.portPresent n = true ∧ s.linkUp n = true ∧ f.fragBad = true) ∧
    (∃ (n : Nat) (f : RxFrame) (s : State), s.portPresent n = true ∧ s.linkUp n = true ∧ f.fragBad = false ∧ f.bytes.length ≤ 63) ∧
    (∃ (n : Nat) (f : RxFrame) (s : State), s.portPresent n = true ∧ s.linkUp n = true ∧ f.fragBad = false ∧ 63 < f.bytes.length ∧ f.bytes.length ≤ s.maxFrame n ∧ f.cut = false ∧ f.bytes.drop (f.bytes.length - 4) = fcsOf (f.bytes.take (f.bytes.length - 4)) ∧ macControlOp (f.bytes.take (f.bytes.length - 4)) = none) ∧
    (∃ (n : Nat) (f : RxFrame) (s : State), s.portPresent n = true ∧ s.linkUp n = true ∧ f.fragBad = false ∧ 63 < f.bytes.length ∧ f.bytes.length ≤ s.maxFrame n ∧ f.cut = false ∧ f.bytes.drop (f.bytes.length - 4) ≠ fcsOf (f.bytes.take (f.bytes.length - 4)) ∧ f.bytes.drop (f.bytes.length - 4) ≠ complement (fcsOf (f.bytes.take (f.bytes.length - 4)))) :=
  ⟨⟨4, { bytes := List.replicate 70 0, arrival := 3, cut := false, fragBad := true }, st [(PRT_PORT_STAT 4, PRT_PORT_STAT_LINK, 1)], by decide +kernel⟩,
  ⟨4, { bytes := List.replicate 63 0, arrival := 3, cut := false, fragBad := false }, st [(PRT_PORT_STAT 4, PRT_PORT_STAT_LINK, 1)], by decide +kernel⟩,
  ⟨4, { bytes := List.replicate 60 0 ++ fcsOf (List.replicate 60 0), arrival := 3, cut := false, fragBad := false }, st [(PRT_PORT_STAT 4, PRT_PORT_STAT_LINK, 1)], by decide +kernel⟩,
  ⟨4, { bytes := List.replicate 64 0, arrival := 3, cut := false, fragBad := false }, st [(PRT_PORT_STAT 4, PRT_PORT_STAT_LINK, 1)], by decide +kernel⟩⟩

theorem wit_PauseVerifyAgeing :
    (∃ (n : Nat) (s : State), s.portPresent n = true ∧ s.linkUp n = true ∧ s.rdB (PRT_PORT_CFG n) PRT_PORT_CFG_PFC_OBEY = false) ∧
    (∃ (n : Nat) (c : Nat) (quanta : List Nat) (s : State), s.portPresent n = true ∧ s.linkUp n = true ∧ s.rdB (PRT_PORT_CFG n) PRT_PORT_CFG_PFC_OBEY = true ∧ c < 8 ∧ s.inRelease n c = false ∧ s.quantaNs n (quanta.getD c 0) ≠ 0) ∧
    (∃ (n : Nat) (s : State), s.portPresent n = true) ∧ (∃ (t : Nat) (n : Nat) (s : State), s.portPresent n = true ∧ (s.advance t).overLimit n = []) ∧
    (∃ (t : Nat) (n : Nat) (c : Nat) (s : State), s.portPresent n = true ∧ (s.advance t).overLimit n = [c]) ∧
    (∃ (n : Nat) (s : State), s.portPresent n = true) ∧
    (∃ (t : Nat) (n : Nat) (s : State), s.portPresent n = true ∧ s.linkUp n = true ∧ s.preemptEn n = true ∧ s.rdB (PRT_PREEMPT n) PRT_PREEMPT_VERIFY_DIS = false ∧ s.rdB (PRT_PORT_STAT n) PRT_PORT_STAT_PREEMPT_ACTIVE = false ∧ (s.port n).verifies < 3 ∧ ((s.port n).verifies = 0 ∨ (s.port n).verifyAt + s.rd (PRT_PREEMPT n) PRT_PREEMPT_VERIFY_TIME * 1000000 ≤ max s.now t)) ∧
    (∃ (t : Nat) (n : Nat) (s : State), s.portPresent n = true ∧ s.linkUp n = true ∧ s.preemptEn n = true ∧ s.rdB (PRT_PREEMPT n) PRT_PREEMPT_VERIFY_DIS = false ∧ s.rdB (PRT_PORT_STAT n) PRT_PORT_STAT_PREEMPT_ACTIVE = false ∧ (s.port n).verifies = 3 ∧ (s.port n).verifyAt + s.rd (PRT_PREEMPT n) PRT_PREEMPT_VERIFY_TIME * 1000000 ≤ max s.now t) ∧
    (∃ (n : Nat) (s : State), s.portPresent n = true ∧ s.linkUp n = true ∧ s.preemptEn n = true ∧ 1 ≤ (s.port n).verifies ∧ (s.port n).verifies ≤ 3) ∧
    (∃ (n : Nat) (s : State), n < 28 ∧ s.portPresent n = true ∧ s.linkUp n = true) :=
  ⟨⟨4, st [(PRT_PORT_STAT 4, PRT_PORT_STAT_LINK, 1), (PRT_PORT_CFG 4, PRT_PORT_CFG_PFC_OBEY, 0)], by decide +kernel⟩,
  ⟨4, 7, [0, 0, 0, 0, 0, 0, 0, 65535], st [(PRT_PORT_STAT 4, PRT_PORT_STAT_LINK, 1), (PRT_PORT_CFG 4, PRT_PORT_CFG_PFC_OBEY, 1)], by decide +kernel⟩,
  ⟨4, st [(PRT_PORT_STAT 4, PRT_PORT_STAT_PAUSED, 3)], by decide +kernel⟩, ⟨7, 28, State.reset, by decide +kernel⟩,
  ⟨10000000000, 4, 7, st [(PRT_PORT_STAT 4, PRT_PORT_STAT_PAUSED, 128)], by decide +kernel⟩,
  ⟨4, st [(PRT_PORT_STAT 4, PRT_PORT_STAT_WD_RELEASE, 3)], by decide +kernel⟩,
  ⟨7, 4, st [(PRT_PORT_STAT 4, PRT_PORT_STAT_LINK, 1), (PRT_PORT_CFG 4, PRT_PORT_CFG_PREEMPT_EN, 1)], by decide +kernel⟩,
  ⟨1000000000, 4, { st [(PRT_PORT_STAT 4, PRT_PORT_STAT_LINK, 1), (PRT_PORT_CFG 4, PRT_PORT_CFG_PREEMPT_EN, 1)] with prt := { State.reset.prt with ports := [(4, { verifies := 3 })] } }, by decide +kernel⟩,
  ⟨4, { st [(PRT_PORT_STAT 4, PRT_PORT_STAT_LINK, 1), (PRT_PORT_CFG 4, PRT_PORT_CFG_PREEMPT_EN, 1)] with prt := { State.reset.prt with ports := [(4, { verifies := 3 })] } }, by decide +kernel⟩,
  ⟨27, st [(PRT_PORT_STAT 27, PRT_PORT_STAT_LINK, 1)], by decide +kernel⟩⟩

theorem wit_TwinLinkStates :
    (∃ (v : Word) (s : State), s.twinPresent = true ∧ fget PRT_TWIN_CFG_EN v = 1) ∧
    (∃ (s : State), s.twinPresent = true ∧ s.rdB PRT_TWIN_CFG PRT_TWIN_CFG_EN = true ∧ s.twinState = 0) ∧
    (∃ (lanes : Nat) (s : State), s.twinPresent = true ∧ lanes < 15 ∧ s.twinState = 0) ∧
    (∃ (skew : Nat) (s : State), s.twinPresent = true ∧ s.twinState = 1 ∧ skew ≤ 50) ∧ (∃ (s : State), s.twinState ≠ 1) ∧
    (∃ (s : State), s.twinPresent = true ∧ s.twinState = 2) ∧ (∃ (s : State), s.twinPresent = true) ∧
    (∃ (s : State), s.twinPresent = true ∧ (s.twinState = 1 ∨ s.twinState = 2)) ∧
    (∃ (s : State), s.twinPresent = true ∧ s.twinState = 3 ∧ s.dpx.copy = none ∧ s.out.holding = false) ∧
    (∃ (f : CrasenRx) (s : State), s.twinUp = true ∧ f.crcOk = false ∧ s.prt.twin.waiting = false) ∧
    (∃ (f : CrasenRx) (s : State), s.twinUp = true ∧ f.crcOk = true ∧ f.kind = 2 ∧ f.seq % 2 ^ 32 = s.prt.twin.rxNext ∧ s.prt.twin.queue = []) ∧
    (∃ (t : Nat) (f : CrasenRx) (s : State) (m : State), (s.advance t).twinReceive f = (some (2, f.payload), m)) :=
  ⟨⟨fset PRT_TWIN_CFG_EN 0 1, State.reset, by decide +kernel⟩, ⟨st [(PRT_TWIN_CFG, PRT_TWIN_CFG_EN, 1)], by decide +kernel⟩,
  ⟨14, st [(PRT_TWIN_CFG, PRT_TWIN_CFG_EN, 1)], by decide +kernel⟩, ⟨50, st [(PRT_TWIN_STAT, PRT_TWIN_STAT_STATE, 1)], by decide +kernel⟩,
  ⟨st [(PRT_TWIN_STAT, PRT_TWIN_STAT_STATE, 2)], by decide +kernel⟩, ⟨st [(PRT_TWIN_STAT, PRT_TWIN_STAT_STATE, 2)], by decide +kernel⟩,
  ⟨st [(PRT_TWIN_STAT, PRT_TWIN_STAT_STATE, 3)], by decide +kernel⟩, ⟨st [(PRT_TWIN_STAT, PRT_TWIN_STAT_STATE, 2)], by decide +kernel⟩,
  ⟨st [(PRT_TWIN_STAT, PRT_TWIN_STAT_STATE, 3), (DPX_STAT, DPX_STAT_DUPLEX, 1)], by decide +kernel⟩,
  ⟨crasen7 false, st [(PRT_TWIN_STAT, PRT_TWIN_STAT_STATE, 3)], by decide +kernel⟩,
  ⟨crasen7 true, st [(PRT_TWIN_STAT, PRT_TWIN_STAT_STATE, 3)], by decide +kernel⟩,
  ⟨7, { kind := 2, seq := 0, ack := 0, payload := [1, 2], crcOk := true, blockErr := 0 }, st [(PRT_TWIN_STAT, PRT_TWIN_STAT_STATE, 3)], (State.twinReceive (State.advance (st [(PRT_TWIN_STAT, PRT_TWIN_STAT_STATE, 3)]) 7) { kind := 2, seq := 0, ack := 0, payload := [1, 2], crcOk := true, blockErr := 0 }).2, by decide +kernel⟩⟩

theorem wit_RingRegisters :
    (∃ (r : Nat) (x : Nat), r < 1024 ∧ x < 65536) ∧ (∃ (r : Nat) (x : Nat), r < 1024 ∧ x < 65536) ∧
    (∃ (r : Nat) (v : Word) (s : State), r < 1024 ∧ 4 ≤ fget PRT_RXR_CFG_SIZE_LOG2 v ∧ fget PRT_RXR_CFG_SIZE_LOG2 v ≤ 16 ∧ 1 ≤ fget PRT_RXR_CFG_BUF_SIZE v ∧ fget PRT_RXR_CFG_BUF_SIZE v ≤ 64 ∧ fget PRT_RXR_CFG_EN v = 0 ∧ s.prt.rxLast = none) ∧
    (∃ (r : Nat) (v : Word), r < 1024 ∧ 4 ≤ fget PRT_TXR_CFG_SIZE_LOG2 v ∧ fget PRT_TXR_CFG_SIZE_LOG2 v ≤ 16 ∧ fget PRT_TXR_CFG_EN v = 0) ∧
    (∃ (r : Nat) (v : Word), r < 1024 ∧ fget PRT_TXR_CFG_SIZE_LOG2 v < 4) ∧
    (∃ (r : Nat) (ds : List Nat) (s : State), s.prt.txPaused = [] ∧ s.ingressFull 30 = false ∧ s.ingressFull 31 = false ∧ s.txRings = [r] ∧ s.txNext r = some ds) ∧
    (∃ (r : Nat) (ds : List Nat) (b : List Byte) (s : State), s.prt.txPaused = [] ∧ s.ingressFull 30 = false ∧ s.ingressFull 31 = false ∧ s.txRings = [r] ∧ s.txNext r = some ds ∧ (s.txCheck r ds).toOption = some [b] ∧ ringPort r = 31 ∧ s.rd (PRT_TXR_CFG r) PRT_TXR_CFG_SIZE_LOG2 ≤ 16 ∧ (s.le (ds.headD 0 + 10) 1).testBit 5 = false) :=
  ⟨⟨1023, 65535, by decide +kernel⟩, ⟨1023, 65535, by decide +kernel⟩,
  ⟨1023, fset PRT_RXR_CFG_BUF_SIZE (fset PRT_RXR_CFG_SIZE_LOG2 0 16) 64, State.reset, by decide +kernel⟩,
  ⟨1023, fset PRT_TXR_CFG_SIZE_LOG2 0 4, by decide +kernel⟩, ⟨1023, fset PRT_TXR_CFG_SIZE_LOG2 0 3, by decide +kernel⟩,
  ⟨3, [0x40], State.setByte (st [(PRT_TXR_CFG 3, PRT_TXR_CFG_EN, 1), (PRT_TXR_CFG 3, PRT_TXR_CFG_SIZE_LOG2, 4), (PRT_TXR_TAIL 3, PRT_TXR_TAIL_INDEX, 1), (PRT_TXR_BASE_LO 3, PRT_TXR_BASE_LO_BASE, 1)]) 0x4A 2, by decide +kernel⟩,
  ⟨16, [0x1000000000], List.replicate 60 0, ring7, by decide +kernel⟩⟩

theorem wit_ForwardingDatabase :
    (∃ (k : Nat) (s : State), s.rdB FAB_FDB_CMD FAB_FDB_CMD_BUSY = false ∧ k < 65536) ∧ (∃ (s : State), s.rdB FAB_FDB_CMD FAB_FDB_CMD_BUSY = false) ∧
    (∃ (s : State), s.rdB FAB_FDB_CMD FAB_FDB_CMD_BUSY = false) ∧ (∃ (p : Nat) (s : State), s.rdB FAB_FDB_CMD FAB_FDB_CMD_BUSY = false ∧ p < 32) ∧
    (∃ (s : State), s.rdB FAB_FDB_CMD FAB_FDB_CMD_BUSY = false) ∧ (∃ (s : State), s.rdB FAB_FDB_CMD FAB_FDB_CMD_BUSY = true) ∧
    (∃ (o : FdbOp) (s : State), s.fab.fdbOp = some o) ∧ (∃ (o : FdbOp) (s : State), s.fab.fdbOp = some o) ∧
    (∃ (o : FdbOp) (s : State), s.fab.fdbOp = some o) :=
  ⟨⟨65535, State.reset, by decide +kernel⟩, ⟨State.reset, by decide +kernel⟩, ⟨State.reset, by decide +kernel⟩, ⟨31, State.reset, by decide +kernel⟩,
  ⟨State.reset, by decide +kernel⟩, ⟨st [(FAB_FDB_CMD, FAB_FDB_CMD_BUSY, 1)], by decide +kernel⟩,
  ⟨{ op := 1, index := 3, port := 0 }, { State.reset with fab := { State.reset.fab with fdbOp := some { op := 1, index := 3, port := 0 } } }, by decide +kernel⟩,
  ⟨{ op := 2, index := 3, port := 0 }, { State.reset with fab := { State.reset.fab with fdbOp := some { op := 2, index := 3, port := 0 } } }, by decide +kernel⟩,
  ⟨{ op := 4, index := 3, port := 5 }, { State.reset with fab := { State.reset.fab with fdbOp := some { op := 4, index := 3, port := 5 } } }, by decide +kernel⟩⟩

theorem wit_CalendarRules :
    (∃ (s : State), s.rdB FAB_CTRL FAB_CTRL_EN = false) ∧ (∃ (s : State), s.rdB FAB_CTRL FAB_CTRL_EN = true ∧ s.fab.days < 2 ^ 64 - 1) ∧
    (∃ (s : State), s.rdB FAB_CTRL FAB_CTRL_EN = true ∧ s.fab.days < 2 ^ 64 - 1) ∧ (∃ (s : State), s.rdB FAB_CTRL FAB_CTRL_EN = false) ∧
    (∃ (p : Nat) (s : State), s.rdB FAB_CTRL FAB_CTRL_EN = false ∧ p < 32) ∧ (∃ (s : State), s.rdB FAB_CTRL FAB_CTRL_EN = true) ∧
    (∃ (src : Nat) (dst : Nat) (h : FabTag × Nat) (s : State), s.fab.reseq = [h] ∧ h.1.src = src ∧ h.1.dst = dst ∧ h.1.seq ≠ cget (fun _ => 0) s.fab.seqWant (seriesKey src dst) ∧ h.2 + 64 ≤ s.fab.days ∧ s.fab.lostTags = [] ∧ dst < 32) :=
  ⟨⟨State.reset, by decide +kernel⟩, ⟨{ st [(FAB_CTRL, FAB_CTRL_EN, 1)] with fab := { State.reset.fab with days := 2 ^ 64 - 2 } }, by decide +kernel⟩,
  ⟨{ st [(FAB_CTRL, FAB_CTRL_EN, 1)] with fab := { State.reset.fab with days := 5 } }, by decide +kernel⟩, ⟨State.reset, by decide +kernel⟩,
  ⟨31, State.reset, by decide +kernel⟩, ⟨st [(FAB_CTRL, FAB_CTRL_EN, 1)], by decide +kernel⟩,
  ⟨3, 31, ({ frame := 1, cell := 0, fd := 0, src := 3, dst := 31, seq := 5, cidx := 0, cls := 0 }, 10), { State.reset with fab := { State.reset.fab with days := 74, reseq := [({ frame := 1, cell := 0, fd := 0, src := 3, dst := 31, seq := 5, cidx := 0, cls := 0 }, 10)] } }, by decide +kernel⟩⟩

theorem wit_CellsAndCopies :
    (∃ (n : Nat) (s : State), s.stagedAt n = []) ∧
    (∃ (n : Nat) (x : RxStage) (l : List RxStage) (s : State), s.stagedAt n = x :: l ∧ x.frame = none) ∧
    (∃ (n : Nat) (x : RxStage) (l : List RxStage) (k : Nat) (s : State), s.stagedAt n = x :: l ∧ x.frame = some k) ∧
    (∃ (n : Nat) (x : RxStage) (l : List RxStage) (k : Nat) (f : FabFrame) (c : FabCopy) (s : State), s.stagedAt n = x :: l ∧ x.frame = some k ∧ s.frame? k = some f ∧ f.copies = [c] ∧ s.admitCell f.src f.cls = 0 ∧ x.cells + 1 < cellsOf x.bytes.length) ∧
    (∃ (n : Nat), (n = 28 ∨ n = 30 ∨ n = 31)) ∧ (∃ (n : Nat) (s : State), n < 28 ∧ s.portPresent n = true) ∧
    (∃ (t : Nat) (n : Nat) (q : Queued) (s : State), n < 28 ∧ s.portPresent n = true ∧ (s.advance t).eligible (s.fabPort n) n 7 = some q ∧ s.txAt n = [] ∧ (s.advance t).aged q.frame = false ∧ s.linkUp n = true ∧ s.rdB (PRT_PORT_CFG n) PRT_PORT_CFG_EN = true ∧ (q.frame.complete = true → (egressBytes s q.frame q.copy n).length + 4 ≤ s.maxFrame n)) ∧
    (∃ (n : Nat) (x : FabTx) (l : List FabTx) (f : FabFrame) (c : FabCopy) (s : State), s.txAt n = x :: l ∧ s.frame? x.frame = some f ∧ f.copies.find? (fun c => c.dst == x.dst) = some c ∧ endKnown f c = false ∧ (egressBytes s f c n).length + 4 ≤ s.maxFrame n) ∧
    (∃ (n : Nat) (x : FabTx) (l : List FabTx) (f : FabFrame) (c : FabCopy) (s : State), s.txAt n = x :: l ∧ s.frame? x.frame = some f ∧ f.copies.find? (fun c => c.dst == x.dst) = some c ∧ endKnown f c = true ∧ f.end_ = 0 ∧ (egressBytes s f c n).length + 4 ≤ s.maxFrame n) ∧
    (∃ (n : Nat) (x : FabTx) (l : List FabTx) (f : FabFrame) (c : FabCopy) (s : State), s.txAt n = x :: l ∧ s.frame? x.frame = some f ∧ f.copies.find? (fun c => c.dst == x.dst) = some c ∧ endKnown f c = true ∧ f.end_ = 0 ∧ (egressBytes s f c n).length + 4 ≤ s.maxFrame n ∧ s.rdB (PRT_PORT_CFG n) PRT_PORT_CFG_LOOPBACK = false) :=
  ⟨⟨4, State.reset, by decide +kernel⟩,
  ⟨4, { bytes := List.replicate 60 0, arrival := 1 }, [], { State.reset with prt := { State.reset.prt with staged := [(4, [{ bytes := List.replicate 60 0, arrival := 1 }])] } }, by decide +kernel⟩,
  ⟨4, { bytes := List.replicate 60 0, arrival := 1, frame := some 0 }, [], 0, { State.reset with prt := { State.reset.prt with staged := [(4, [{ bytes := List.replicate 60 0, arrival := 1, frame := some 0 }])] } }, by decide +kernel⟩,
  ⟨4, part7, [], 0, frameOf 4 0 (copyOf 5 none 0), copyOf 5 none 0, staging State.reset 4 part7 (frameOf 4 0 (copyOf 5 none 0)), by decide +kernel⟩,
  ⟨31, by decide +kernel⟩, ⟨27, State.reset, by decide +kernel⟩, ⟨7, 4, ⟨whole7, copyOf 4 (some 0) 1⟩, linked4, by decide +kernel⟩,
  ⟨4, { frame := 0, dst := 4, express := true }, [], { num := 0, src := 3, cls := 0, arrival := 1, ring := 0, bytes := List.replicate 60 0, copies := [{ dst := 4, ct := true, bStart := 0, left := [4] }] }, { dst := 4, ct := true, bStart := 0, left := [4] }, { State.reset with fab := { State.reset.fab with tx := [(4, [{ frame := 0, dst := 4, express := true }])], frames := [{ num := 0, src := 3, cls := 0, arrival := 1, ring := 0, bytes := List.replicate 60 0, copies := [{ dst := 4, ct := true, bStart := 0, left := [4] }] }] } }, by decide +kernel⟩,
  ⟨4, { frame := 0, dst := 4, express := true }, [], { num := 0, src := 3, cls := 0, arrival := 1, ring := 0, bytes := List.replicate 60 0, written := [1], complete := true, copies := [{ dst := 4, ct := true, bStart := 0, released := 1, left := [4, 5] }] }, { dst := 4, ct := true, bStart := 0, released := 1, left := [4, 5] }, { State.reset with fab := { State.reset.fab with tx := [(4, [{ frame := 0, dst := 4, express := true }])], frames := [{ num := 0, src := 3, cls := 0, arrival := 1, ring := 0, bytes := List.replicate 60 0, written := [1], complete := true, copies := [{ dst := 4, ct := true, bStart := 0, released := 1, left := [4, 5] }] }] } }, by decide +kernel⟩,
  ⟨4, tx7, [], { whole7 with copies := [{ copyOf 4 (some 0) 1 with left := [4], sending := [4] }] }, { copyOf 4 (some 0) 1 with left := [4], sending := [4] }, sending4, by decide +kernel⟩⟩

theorem wit_StreamBankRules :
    (∃ (t : Nat) (s : State), s.ing.flip = none ∧ (s.advance t).flipRejected = false) ∧
    (∃ (t : Nat) (s : State), s.ing.flip = none ∧ (s.advance t).flipRejected = true) ∧
    (∃ (x : Staged Nat) (s : State), s.ing.flip = some x ∧ s.gridOn = false) ∧
    (∃ (t : Nat) (x : Staged Nat) (s : State), s.ing.flip = some x ∧ s.gridOn = true ∧ x.eff ≤ s.tim.nextRound ∧ s.nextT ≤ (s.advance t).dom + 1000) ∧
    (∃ (s : State), s.ing.flip = none ∧ s.rdB ING_STAT ING_STAT_COPY_BUSY = false) ∧ (∃ (s : State), s.ing.flip.isSome = true) ∧
    (∃ (s : State), s.rdB ING_STAT ING_STAT_COPY_BUSY = true) :=
  ⟨⟨7, State.reset, by decide +kernel⟩, ⟨7, st [(ING_STAT, ING_STAT_COPY_BUSY, 1)], by decide +kernel⟩,
  ⟨{ val := 1, eff := 9 }, { State.reset with ing := { State.reset.ing with flip := some { val := 1, eff := 9 } } }, by decide +kernel⟩,
  ⟨1000000, { val := 1, eff := 0 }, { st [(TIM_CTRL, TIM_CTRL_GRID_EN, 1)] with ing := { State.reset.ing with flip := some { val := 1, eff := 0 } } }, by decide +kernel⟩,
  ⟨State.reset, by decide +kernel⟩, ⟨{ State.reset with ing := { State.reset.ing with flip := some { val := 1, eff := 9 } } }, by decide +kernel⟩,
  ⟨st [(ING_STAT, ING_STAT_COPY_BUSY, 1)], by decide +kernel⟩⟩

theorem wit_IngestEvents :
    (∃ (b : Nat) (f : IngFrame) (l : List (Nat × IngFrame)) (s : State), s.fab.inbox = (b, f) :: l) ∧
    (∃ (f : IngFrame) (hd : IngHdr) (w : Walk) (h : Nat) (e : StreamEnt) (x : WalkSample) (s : State), s.rdB ING_CTRL ING_CTRL_EN = true ∧ (parseIng f).toOption = some hd ∧ hd.goose = false ∧ s.walkFrame hd s.ingActive = .finished w ∧ w.hit = some (h, e) ∧ w.f.getD 8 0 = 0 ∧ e.policy = 0 ∧ e.subCount = 0 ∧ w.samples = [x] ∧ x.cnt < streamRate s.fs e.rate ∧ s.holdsReal h e (s.samplePlace e x f.arrival) = false ∧ s.ringReaches e (s.samplePlace e x f.arrival) = true ∧ (s.ingStream h).newest = none ∧ s.dispatched (s.roundOf (sampleInstant (streamRate s.fs e.rate) (s.samplePlace e x f.arrival))) = false ∧ s.laws = []) ∧
    (∃ (s : State), s.fab.inbox = []) ∧ (∃ (s : State), s.ing.strangers.length ≤ 60) ∧
    (∃ (t : Nat) (h : Nat) (s : State), h < 16384 ∧ (s.stream s.ingActive h).type = 2 ∧ (s.dynGet h 56 1).testBit 0 = true ∧ (s.dynGet h 56 1).testBit 1 = false ∧ (s.ingStream h).deadline < (s.advance t).dom) ∧
    (∃ (h : Nat) (s : State), (s.stream s.ingActive h).type ≠ 2) :=
  ⟨⟨1, sv7, [], { State.reset with fab := { State.reset.fab with inbox := [(1, sv7)] } }, by decide +kernel⟩,
  ⟨sv7, hdr7, walk7, 3, ent7, { cnt := 0, synch := 0, chans := [(0, 1)] }, ing7, by decide +kernel⟩, ⟨State.reset, by decide +kernel⟩,
  ⟨{ State.reset with ing := { State.reset.ing with strangers := List.replicate 60 (List.replicate 64 1) } }, by decide +kernel⟩,
  ⟨7, 16383, sw State.reset [(ING_STATIC 0 (16 * 16383), 2), (ING_DYN 16383 14, 1)], by decide +kernel⟩, ⟨16383, State.reset, by decide +kernel⟩⟩

theorem wit_AcquisitionSettings :
    (∃ (g : Nat) (v : Word) (s : State), s.acqPresent = true ∧ g < 8 ∧ s.groupOn g = false ∧ fget ACQ_GRP_CFG_EN v = 0) ∧
    (∃ (g : Nat) (v : Word) (s : State), s.acqPresent = true ∧ g < 8 ∧ s.groupOn g = true ∧ fget ACQ_GRP_CFG_HANDLE v ≠ s.rd (ACQ_GRP_CFG g) ACQ_GRP_CFG_HANDLE) ∧
    (∃ (t : Nat) (g : Nat) (v : Word) (s : State), s.acqPresent = true ∧ g < 8 ∧ s.groupOn g = false ∧ fget ACQ_GRP_CFG_EN v = 1 ∧ (s.advance t).groupOk g (fieldsOf [ACQ_GRP_CFG_HANDLE, ACQ_GRP_CFG_PRESET, ACQ_GRP_CFG_TEST, ACQ_GRP_CFG_EN] v) = true) ∧
    (∃ (g : Nat) (s : State), s.acqPresent = true ∧ g < 8 ∧ s.groupOn g = false) ∧
    (∃ (g : Nat) (s : State), s.acqPresent = true ∧ g < 8 ∧ s.groupOn g = true ∧ (∀ x ∈ s.acq.commits, x.1 ≠ g)) ∧
    (∃ (g : Nat) (s : State), g < 8 ∧ s.groupOn g = true) ∧
    (∃ (g : Nat) (s : State), g < 8 ∧ s.groupOn g = true ∧ s.mclkSet = true ∧ (∀ c ∈ s.groupChans g, s.chanOn c = true ∧ s.groupOf c = some g)) ∧
    (∃ (g : Nat) (s : State), s.groupOn g = false) ∧
    (∃ (c : Nat) (v : Word) (s : State), s.acqPresent = true ∧ c < 32 ∧ fget ACQ_CH_CFG_EN v = 1 ∧ fget ACQ_CH_CFG_SRC v = s.rd (ACQ_CH_CFG c) ACQ_CH_CFG_SRC) ∧
    (∃ (c : Nat) (v : Word) (s : State), s.acqPresent = true ∧ c < 32 ∧ fget ACQ_CH_CFG_EN v = 1 ∧ fget ACQ_CH_CFG_SRC v = s.rd (ACQ_CH_CFG c) ACQ_CH_CFG_SRC) :=
  ⟨⟨7, 0, State.reset, by decide +kernel⟩, ⟨7, 1, st [(ACQ_GRP_CFG 7, ACQ_GRP_CFG_EN, 1)], by decide +kernel⟩,
  ⟨7, 7, 1, sw (st [(ACQ_GRP_MASK 7, ACQ_GRP_MASK_MASK, 0x80000000), (ACQ_CH_CFG 31, ACQ_CH_CFG_EN, 1)]) [(ING_STATIC 0 0, 3), (ING_STATIC 0 2, 0x0F010000), (ING_STATIC 1 0, 3), (ING_STATIC 1 2, 0x0F010000)], by decide +kernel⟩,
  ⟨7, st [(ACQ_GRP_MASK 7, ACQ_GRP_MASK_MASK, 1)], by decide +kernel⟩, ⟨7, st [(ACQ_GRP_CFG 7, ACQ_GRP_CFG_EN, 1)], by decide +kernel⟩,
  ⟨7, st [(ACQ_GRP_CFG 7, ACQ_GRP_CFG_EN, 1)], by decide +kernel⟩,
  ⟨7, st [(ACQ_GRP_CFG 7, ACQ_GRP_CFG_EN, 1), (ACQ_GRP_MASK 7, ACQ_GRP_MASK_MASK, 2), (ACQ_CH_CFG 1, ACQ_CH_CFG_EN, 1), (ACQ_STAT, ACQ_STAT_MCLK_RUN, 1)], by decide +kernel⟩,
  ⟨7, State.reset, by decide +kernel⟩, ⟨31, fset ACQ_CH_CFG_SRC 1 31, State.reset, by decide +kernel⟩,
  ⟨31, fset ACQ_CH_CFG_SRC 1 31, st [(ACQ_CH_CFG 31, ACQ_CH_CFG_EN, 1)], by decide +kernel⟩⟩

theorem wit_AcquisitionEvents :
    (∃ (t : Nat) (c : Nat) (s : State), s.acqPresent = true ∧ c < 32 ∧ s.chanOn c = true ∧ (s.advance t).mclkRuns = true ∧ s.stuck c = false ∧ (s.acqChan c).hit = true) ∧
    (∃ (c : Nat) (s : State), s.stuck c = false ∧ (s.acqChan c).hit = false) ∧
    (∃ (c : Nat) (s : State), c < 32 ∧ s.stuck c = true ∧ (s.acqChan c).equal ≠ 64) ∧
    (∃ (t : Nat) (c : Nat) (e : Nat) (s : State), (s.acqChan c).resetAt = some e ∧ (s.advance t).edgeNow < e) ∧
    (∃ (t : Nat) (c : Nat) (e : Nat) (s : State), c < 32 ∧ (s.acqChan c).resetAt = some e ∧ e ≤ (s.advance t).edgeNow ∧ (s.advance t).mclkRuns = true ∧ (s.advance t).outputFirst c e = false) ∧
    (∃ (t : Nat) (c : Nat) (s : State), s.acqPresent = true ∧ c < 32 ∧ s.chanOn c = true ∧ (s.advance t).mclkRuns = true) ∧
    (∃ (t : Nat) (c : Nat) (s : State), s.acqPresent = true ∧ c < 32 ∧ s.chanOn c = true ∧ (s.advance t).mclkRuns = true) ∧
    (∃ (t : Nat) (g : Nat) (h : Nat) (e : StreamEnt) (s : State), s.acqPresent = true ∧ g < 8 ∧ (s.advance t).fineDue g = true ∧ s.acq.commits = [] ∧ s.rd (ACQ_GRP_CFG g) ACQ_GRP_CFG_HANDLE = h ∧ s.stream s.ingActive h = e ∧ e.subCount = 0 ∧ s.holdsReal h e ((s.advance t).fineIdx g) = false ∧ s.ringReaches e ((s.advance t).fineIdx g) = true ∧ s.livePubs = [] ∧ s.laws = []) ∧
    (∃ (t : Nat) (g : Nat) (s : State), (s.advance t).fineDue g = false) ∧
    (∃ (c : Nat) (s : State), c < 32 ∧ s.rdB (ACQ_TRIP_STAT c) ACQ_TRIP_STAT_LATCHED = true) ∧
    (∃ (c : Nat) (s : State), c < 32 ∧ s.rdB (ACQ_TRIP_STAT c) ACQ_TRIP_STAT_LATCHED = true) ∧
    (∃ (c : Nat) (v : Word) (s : State), s.acqPresent = true ∧ c < 32 ∧ fget ACQ_TRIP_CFG_MODE v = 3) ∧
    (∃ (c : Nat) (v : Word) (s : State), s.acqPresent = true ∧ c < 32 ∧ fget ACQ_TRIP_CFG_MODE v ≠ 3) :=
  ⟨⟨7, 31, { st [(ACQ_CH_CFG 31, ACQ_CH_CFG_EN, 1), (ACQ_STAT, ACQ_STAT_MCLK_RUN, 1)] with acq := { State.reset.acq with chans := [(31, { hit := true })] } }, by decide +kernel⟩,
  ⟨0, State.reset, by decide +kernel⟩, ⟨31, st [(ACQ_CH_STAT 31, ACQ_CH_STAT_STUCK, 1)], by decide +kernel⟩,
  ⟨7, 31, 1000, { State.reset with acq := { State.reset.acq with chans := [(31, { resetAt := some 1000 })] } }, by decide +kernel⟩,
  ⟨1000000000, 31, 1000, { st [(ACQ_STAT, ACQ_STAT_MCLK_RUN, 1)] with acq := { State.reset.acq with chans := [(31, { resetAt := some 1000, comb := [1, 2] })] } }, by decide +kernel⟩,
  ⟨7, 31, st [(ACQ_CH_CFG 31, ACQ_CH_CFG_EN, 1), (ACQ_STAT, ACQ_STAT_MCLK_RUN, 1)], by decide +kernel⟩,
  ⟨7, 31, st [(ACQ_CH_CFG 31, ACQ_CH_CFG_EN, 1), (ACQ_STAT, ACQ_STAT_MCLK_RUN, 1)], by decide +kernel⟩,
  ⟨156098, 7, 3, State.stream (sw State.reset [(ING_STATIC 0 48, 0x00030001), (ING_STATIC 0 49, 0x01000000), (ING_STATIC 0 50, 0x00010A10)]) 0 3, sw (st [(ACQ_GRP_CFG 7, ACQ_GRP_CFG_EN, 1), (ACQ_GRP_CFG 7, ACQ_GRP_CFG_HANDLE, 3), (ACQ_GRP_STAT 7, ACQ_GRP_STAT_RUNNING, 1), (ACQ_STAT, ACQ_STAT_MCLK_RUN, 1)]) [(ING_STATIC 0 48, 0x00030001), (ING_STATIC 0 49, 0x01000000), (ING_STATIC 0 50, 0x00010A10)], by decide +kernel⟩,
  ⟨7, 0, State.reset, by decide +kernel⟩, ⟨31, st [(ACQ_TRIP_STAT 31, ACQ_TRIP_STAT_LATCHED, 1)], by decide +kernel⟩,
  ⟨31, st [(ACQ_TRIP_STAT 31, ACQ_TRIP_STAT_LATCHED, 1)], by decide +kernel⟩, ⟨31, fset ACQ_TRIP_CFG_MODE 0 3, State.reset, by decide +kernel⟩,
  ⟨31, fset ACQ_TRIP_CFG_MODE 0 2, State.reset, by decide +kernel⟩⟩

theorem wit_TenantStateTable :
    (∃ (n : Nat) (s : State), TenReady s n ∧ s.tenState n = 0) ∧ (∃ (n : Nat) (s : State), TenReady s n ∧ (s.tenState n = 1 ∨ s.tenState n = 4)) ∧
    (∃ (n : Nat) (s : State), TenReady s n ∧ (s.tenState n = 1 ∨ s.tenState n = 4)) ∧ (∃ (n : Nat) (s : State), TenReady s n ∧ s.tenState n = 2) ∧
    (∃ (n : Nat) (s : State), TenReady s n ∧ (s.tenState n = 1 ∨ s.tenState n = 4)) ∧
    (∃ (n : Nat) (s : State), TenReady s n ∧ (s.tenState n = 1 ∨ s.tenState n = 4)) ∧ (∃ (n : Nat) (s : State), TenReady s n ∧ s.tenState n = 2) ∧
    (∃ (n : Nat) (s : State), TenReady s n ∧ s.tenState n = 0) ∧
    (∃ (n : Nat) (s : State), TenReady s n ∧ s.tenState n = 5 ∧ s.tenBit n TEN_STATE_DIR = false ∧ s.tenBit n TEN_STATE_STOPPED = false) ∧
    (∃ (n : Nat) (s : State), TenReady s n ∧ s.tenState n = 5 ∧ s.tenBit n TEN_STATE_DIR = true) ∧
    (∃ (n : Nat) (s : State), TenReady s n ∧ s.tenState n ≠ 0) ∧ (∃ (n : Nat) (s : State), TenReady s n ∧ s.tenState n ≠ 1 ∧ s.tenState n ≠ 4) ∧
    (∃ (n : Nat) (s : State), TenReady s n ∧ s.tenState n = 0) ∧
    (∃ (n : Nat) (s : State), TenReady s n ∧ s.tenState n ≠ 1 ∧ s.tenState n ≠ 4 ∧ s.tenState n ≠ 5) ∧
    (∃ (n : Nat) (s : State), TenReady s n ∧ s.tenState n ≠ 2) ∧ (∃ (n : Nat) (s : State), TenReady s n ∧ s.tenState n ≠ 0) ∧
    (∃ (n : Nat) (s : State), TenReady s n ∧ s.tenState n ≠ 5) ∧ (∃ (n : Nat) (s : State), TenReady s n ∧ s.tenState n ≠ 5) :=
  ⟨⟨511, State.reset, by decide +kernel⟩, ⟨511, ten 4, by decide +kernel⟩, ⟨511, ten 1, by decide +kernel⟩, ⟨511, ten 2, by decide +kernel⟩,
  ⟨511, ten 1, by decide +kernel⟩, ⟨511, queued (ten 4) [item1 3 511 1], by decide +kernel⟩, ⟨511, ten 2, by decide +kernel⟩,
  ⟨511, State.reset, by decide +kernel⟩, ⟨511, ten 5, by decide +kernel⟩, ⟨511, ten 5 [(TEN_STATE 511, TEN_STATE_DIR, 1)], by decide +kernel⟩,
  ⟨511, ten 1, by decide +kernel⟩, ⟨511, ten 2, by decide +kernel⟩, ⟨511, State.reset, by decide +kernel⟩, ⟨511, ten 3, by decide +kernel⟩,
  ⟨511, ten 5, by decide +kernel⟩, ⟨511, ten 4, by decide +kernel⟩, ⟨511, ten 2, by decide +kernel⟩, ⟨511, ten 2, by decide +kernel⟩⟩

theorem wit_TenantTimesAndMigration :
    (∃ (n : Nat) (s : State), TenReady s n ∧ s.tenState n ≠ 5) ∧ (∃ (n : Nat) (s : State), TenReady s n ∧ s.tenState n ≠ 5) ∧
    (∃ (n : Nat) (page : Nat) (s : State), TenReady s n ∧ page < 16384) ∧ (∃ (n : Nat) (s : State), s.rdB (TEN_CMD n) TEN_CMD_BUSY = true) ∧
    (∃ (t : Nat) (n : Nat) (c : Nat) (s : State), s.ten.cutoffs.find? (fun e => e.1 == n) = some (n, c) ∧ max s.now t < c) ∧
    (∃ (t : Nat) (n : Nat) (c : Nat) (s : State), s.tenantPresent n = true ∧ s.ten.cutoffs.find? (fun e => e.1 == n) = some (n, c) ∧ c ≤ max s.now t ∧ s.tenState n = 3) ∧
    (∃ (t : Nat) (n : Nat) (c : Nat) (s : State), s.tenantPresent n = true ∧ s.ten.cutoffs.find? (fun e => e.1 == n) = some (n, c) ∧ c ≤ max s.now t ∧ s.tenState n = 3) ∧
    (∃ (n : Nat) (s : State), s.tenantPresent n = true ∧ s.tenState n = 5 ∧ s.tenBit n TEN_STATE_DIR = true ∧ (s.mig n).committed = false) ∧
    (∃ (n : Nat) (s : State), s.tenantPresent n = true ∧ s.tenState n = 5 ∧ s.tenBit n TEN_STATE_DIR = true ∧ (s.mig n).committed = false) ∧
    (∃ (n : Nat) (s : State), s.tenState n = 5 ∧ s.tenBit n TEN_STATE_DIR = true ∧ (s.mig n).committed = true) ∧
    (∃ (n : Nat) (s : State), s.tenantPresent n = true ∧ s.tenState n = 5 ∧ s.tenBit n TEN_STATE_DIR = true ∧ (s.mig n).committed = true) ∧
    (∃ (n : Nat) (s : State), s.tenantPresent n = true ∧ s.tenState n = 5 ∧ s.tenBit n TEN_STATE_DIR = true ∧ (s.mig n).committed = false) ∧
    (∃ (n : Nat) (s : State), s.tenantPresent n = true ∧ s.tenState n = 5 ∧ s.tenBit n TEN_STATE_DIR = false ∧ s.tenBit n TEN_STATE_STOPPED = true ∧ (s.mig n).aborted = false ∧ (s.mig n).commitSent.isSome = true) ∧
    (∃ (t : Nat) (n : Nat) (s : State), s.tenantPresent n = true ∧ s.tenState n = 5 ∧ s.tenBit n TEN_STATE_DIR = false ∧ s.tenBit n TEN_STATE_STOPPED = true ∧ (s.mig n).aborted = false ∧ (s.mig n).commitSent = none ∧ (s.advance t).dom < (s.mig n).deadline) ∧
    (∃ (t : Nat) (n : Nat) (s : State), s.tenantPresent n = true ∧ s.tenState n = 5 ∧ s.tenBit n TEN_STATE_DIR = false ∧ s.tenBit n TEN_STATE_STOPPED = true ∧ (s.mig n).aborted = false ∧ (s.mig n).commitSent = none ∧ (s.mig n).deadline ≤ (s.advance t).dom) :=
  ⟨⟨511, ten 2, by decide +kernel⟩, ⟨511, ten 2, by decide +kernel⟩, ⟨511, 16383, ten 2, by decide +kernel⟩,
  ⟨511, ten 2 [(TEN_CMD 511, TEN_CMD_BUSY, 1)], by decide +kernel⟩,
  ⟨7, 511, 8, { ten 3 with ten := { State.reset.ten with cutoffs := [(511, 8)] } }, by decide +kernel⟩,
  ⟨7, 511, 7, { ten 3 with ten := { State.reset.ten with cutoffs := [(511, 7)] } }, by decide +kernel⟩,
  ⟨7, 511, 7, queued (onCore { ten 3 with ten := { State.reset.ten with cutoffs := [(511, 7)] } } 3 5 511) [item1 3 511 1], by decide +kernel⟩,
  ⟨511, ten 5 [(TEN_STATE 511, TEN_STATE_DIR, 1)], by decide +kernel⟩, ⟨511, ten 5 [(TEN_STATE 511, TEN_STATE_DIR, 1)], by decide +kernel⟩,
  ⟨511, { ten 5 [(TEN_STATE 511, TEN_STATE_DIR, 1)] with ten := { State.reset.ten with mig := [(511, { committed := true })] } }, by decide +kernel⟩,
  ⟨511, { ten 5 [(TEN_STATE 511, TEN_STATE_DIR, 1)] with ten := { State.reset.ten with mig := [(511, { committed := true })] } }, by decide +kernel⟩,
  ⟨511, ten 5 [(TEN_STATE 511, TEN_STATE_DIR, 1)], by decide +kernel⟩,
  ⟨511, { ten 5 [(TEN_STATE 511, TEN_STATE_STOPPED, 1)] with ten := { State.reset.ten with mig := [(511, { commitSent := some 5 })] } }, by decide +kernel⟩,
  ⟨7, 511, { ten 5 [(TEN_STATE 511, TEN_STATE_STOPPED, 1)] with ten := { State.reset.ten with mig := [(511, { deadline := 1000 })] } }, by decide +kernel⟩,
  ⟨7, 511, { ten 5 [(TEN_STATE 511, TEN_STATE_STOPPED, 1)] with ten := { State.reset.ten with mig := [(511, { deadline := 7 })] } }, by decide +kernel⟩⟩

theorem wit_TenantDoorbells :
    (∃ (core : Nat) (n : Nat) (p : Nat) (v : BitVec 32) (s : State), s.coreTenant core = some n ∧ n < 512 ∧ p < 2 ∧ prodStatus v.toNat (s.rdW (TEN_MSG_PROD n p)).toNat (s.rdW (TEN_MSG_CONS n p)).toNat = 0) ∧
    (∃ (core : Nat) (n : Nat) (p : Nat) (v : BitVec 32) (s : State), s.coreTenant core = some n ∧ n < 512 ∧ p < 2 ∧ prodStatus v.toNat (s.rdW (TEN_MSG_PROD n p)).toNat (s.rdW (TEN_MSG_CONS n p)).toNat = 0x0502) ∧
    (∃ (core : Nat) (n : Nat) (p : Nat) (v : BitVec 32) (s : State), s.coreTenant core = some n ∧ n < 512 ∧ 2 ≤ p ∧ p < 4 ∧ consStatus v.toNat (s.rdW (TEN_MSG_PROD n p)).toNat (s.rdW (TEN_MSG_CONS n p)).toNat = 0) ∧
    (∃ (n : Nat) (p : Nat) (v : BitVec 32) (s : State), s.tenantPresent n = true ∧ p < 2 ∧ consStatus v.toNat (s.rdW (TEN_MSG_PROD n p)).toNat (s.rdW (TEN_MSG_CONS n p)).toNat = 0) ∧
    (∃ (n : Nat) (p : Nat) (v : BitVec 32) (s : State), s.tenantPresent n = true ∧ 2 ≤ p ∧ p < 4 ∧ prodStatus v.toNat (s.rdW (TEN_MSG_PROD n p)).toNat (s.rdW (TEN_MSG_CONS n p)).toNat = 0) ∧
    (∃ (core : Nat) (n : Nat) (slot : Nat) (x : Nat) (r : Nat) (s : State), s.coreTenant core = some n ∧ s.slotRing n slot = some r ∧ slot < 8 ∧ r < 1024 ∧ x < 65536) ∧
    (∃ (core : Nat) (n : Nat) (slot : Nat) (s : State), s.coreTenant core = some n ∧ s.slotRing n slot = none) :=
  ⟨⟨63, 511, 1, 255, onCore (ten 2) 63 0 511, by decide +kernel⟩, ⟨63, 511, 1, 256, onCore (ten 2) 63 0 511, by decide +kernel⟩,
  ⟨63, 511, 3, 2, sw (onCore (ten 2) 63 0 511) [(TEN_MSG_PROD 511 3, 2)], by decide +kernel⟩,
  ⟨511, 1, 2, sw (ten 2) [(TEN_MSG_PROD 511 1, 2)], by decide +kernel⟩, ⟨511, 3, 255, ten 2, by decide +kernel⟩,
  ⟨63, 511, 7, 65535, 1023, onCore (ten 2 [(TEN_RING_SLOT 511 7, TEN_RING_SLOT_RING, 1023), (TEN_RING_SLOT 511 7, TEN_RING_SLOT_VALID, 1), (PRT_RXR_OWNER 1023, PRT_RXR_OWNER_TENANT, 511), (PRT_RXR_OWNER 1023, PRT_RXR_OWNER_STEWARD, 0)]) 63 0 511, by decide +kernel⟩,
  ⟨63, 511, 7, onCore (ten 2) 63 0 511, by decide +kernel⟩⟩

theorem wit_DispatchAndCompletion :
    (∃ (t : Nat) (core : Nat) (c : SchCand) (s : State), s.corePresent core = true ∧ s.sch.runs = [] ∧ (s.advance t).chargeAll.choose (core / 8) = some c) ∧
    (∃ (t : Nat) (core : Nat) (c : SchCand) (s : State), s.corePresent core = true ∧ s.runOf core = none ∧ (s.advance t).chargeAll.choose (core / 8) = some c) ∧
    (∃ (core : Nat) (s : State), s.runOf core ≠ none) ∧ (∃ (core : Nat) (r : SchRun) (s : State), s.sch.runs = [r] ∧ r.core = core) ∧
    (∃ (t : Nat) (core : Nat) (s : State), ((s.advance t).endRun core 0 0).runOf core = none ∧ (((s.advance t).endRun core 0 0).dispatchCore core).runOf core = none) ∧
    (∃ (t : Nat) (core : Nat) (r : SchRun) (r' : SchRun) (s : State), s.runOf core = some r ∧ (((s.advance t).endRun core 0 0).dispatchCore core).runOf core = some r' ∧ r.item.task = r'.item.task) ∧
    (∃ (core : Nat) (r : SchRun) (s : State), s.sch.runs = [r] ∧ r.core = core ∧ s.rdB SCH_CTRL SCH_CTRL_EN = false) ∧
    (∃ (t : Nat) (core : Nat) (r : SchRun) (c : SchCand) (s : State), s.corePresent core = true ∧ s.sch.runs = [r] ∧ r.core = core ∧ ((s.advance t).endRun core 0 0).chargeAll.choose (core / 8) = some c ∧ c.item.task = r.item.task) ∧
    (∃ (core : Nat) (s : State), s.runOf core = none) ∧
    (∃ (t : Nat) (core : Nat) (r : SchRun) (s : State), s.runOf core = some r ∧ s.rd (SCH_DESC r.item.task 4) DESC_RUN_LIMIT ≠ 0 ∧ max s.now t - r.since ≤ s.rd (SCH_DESC r.item.task 4) DESC_RUN_LIMIT * 1000) ∧
    (∃ (t : Nat) (core : Nat) (r : SchRun) (s : State), s.runOf core = some r ∧ s.rd (SCH_DESC r.item.task 4) DESC_RUN_LIMIT ≠ 0 ∧ s.rd (SCH_DESC r.item.task 4) DESC_RUN_LIMIT * 1000 < max s.now t - r.since) ∧
    (∃ (t : Nat) (core : Nat) (r : SchRun) (s : State), s.sch.runs = [r] ∧ r.core = core ∧ core < 128 ∧ r.item.tenant < 512 ∧ s.rd (SCH_DESC r.item.task 4) DESC_RUN_LIMIT ≠ 0 ∧ s.rd (SCH_DESC r.item.task 4) DESC_RUN_LIMIT * 1000 < max s.now t - r.since) ∧
    (∃ (core : Nat) (r : SchRun) (s : State), s.sch.runs = [r] ∧ r.core = core ∧ core < 128 ∧ r.item.tenant < 512 ∧ s.rdB (TEN_CFG r.item.tenant) TEN_CFG_FAULT_POLICY = false) ∧
    (∃ (core : Nat) (r : SchRun) (s : State), s.sch.runs = [r] ∧ r.core = core ∧ core < 128 ∧ r.item.tenant < 512 ∧ s.rdB (TEN_CFG r.item.tenant) TEN_CFG_FAULT_POLICY = true ∧ s.tenState r.item.tenant = 2) ∧
    (∃ (core : Nat) (s : State), s.coreTenant core = none) ∧
    (∃ (t : Nat) (core : Nat) (cause : Nat) (va : Nat) (n : Nat) (s : State), s.coreTenant core = some n ∧ (((s.advance t).tenFaultEvent n cause va core).endRun core 0x0512 0).rdB (TEN_CFG n) TEN_CFG_FAULT_POLICY = false) ∧
    (∃ (t : Nat) (core : Nat) (cause : Nat) (va : Nat) (n : Nat) (s : State), s.coreTenant core = some n ∧ (((s.advance t).tenFaultEvent n cause va core).endRun core 0x0512 0).rdB (TEN_CFG n) TEN_CFG_FAULT_POLICY = true) :=
  ⟨⟨7, 0, { item := item1 8191 511 1, flagOnly := false, group := 0, prio := 0, deadline := 0 }, queued task1 [item1 8191 511 1], by decide +kernel, by decide +kernel, rfl⟩,
  ⟨7, 7, { item := item1 8191 511 1, flagOnly := false, group := 0, prio := 0, deadline := 0 }, queued (onCore task1 63 0 3) [item1 8191 511 1], by decide +kernel, by decide +kernel, rfl⟩,
  ⟨63, onCore task1 63 0 3, by decide +kernel⟩, ⟨63, run1 63 0 3, onCore task1 63 0 3, by decide +kernel⟩,
  ⟨7, 63, onCore task1 63 0 3, by decide +kernel⟩,
  ⟨7, 0, run1 0 8191 511, ((((queued (onCore task1 0 8191 511) [item1 8191 511 2]).advance 7).endRun 0 0 0).dispatchCore 0).runOf 0 |>.getD (run1 0 0 0), queued (onCore task1 0 8191 511) [item1 8191 511 2], by decide +kernel⟩,
  ⟨63, run1 63 8191 511, onCore State.reset 63 8191 511, by decide +kernel⟩,
  ⟨7, 63, run1 63 8191 511, { item := item1 8191 511 1, flagOnly := false, group := 0, prio := 0, deadline := 0 }, queued (onCore (task1.wr (TEN_CFG 511) TEN_CFG_HOME 7) 63 8191 511) [item1 8191 511 1], by decide +kernel⟩,
  ⟨63, State.reset, by decide +kernel⟩, ⟨65535000, 63, run1 63 0 3, sw (onCore task1 63 0 3) [(SCH_DESC 0 4, 65535)], by decide +kernel⟩,
  ⟨65535001, 63, run1 63 0 3, sw (onCore task1 63 0 3) [(SCH_DESC 0 4, 65535)], by decide +kernel⟩,
  ⟨5000, 63, run1 63 8191 511, onCore (task1.wr (SCH_DESC 8191 4) DESC_RUN_LIMIT 1) 63 8191 511, by decide +kernel⟩,
  ⟨63, run1 63 8191 511, onCore task1 63 8191 511, by decide +kernel⟩,
  ⟨63, run1 63 8191 511, onCore (task1.wr (TEN_CFG 511) TEN_CFG_FAULT_POLICY 1) 63 8191 511, by decide +kernel⟩, ⟨63, State.reset, by decide +kernel⟩,
  ⟨7, 63, 0, 0, 511, onCore (ten 2) 63 0 511, by decide +kernel⟩,
  ⟨7, 63, 0, 0, 511, onCore (ten 2 [(TEN_CFG 511, TEN_CFG_FAULT_POLICY, 1)]) 63 0 511, by decide +kernel⟩⟩

theorem wit_EnqueueRules :
    (∃ (core : Nat) (n : Nat) (s : State), s.coreTenant core = some n ∧ s.tenState n = 4) ∧
    (∃ (t : Nat) (core : Nat) (k : Nat) (n : Nat) (s : State), s.coreTenant core = some n ∧ (s.advance t).enqTest n (s.taskFirst n + k % 256) ((s.advance t).parseItem (cget (fun _ => []) s.sch.enqBuf core) (s.taskFirst n + k % 256) n false) = 0) ∧
    (∃ (task : Nat) (s : State), s.taskOwner task = none) ∧
    (∃ (t : Nat) (task : Nat) (n : Nat) (s : State), s.taskOwner task = some n ∧ (s.advance t).enqTest n task ((s.advance t).parseItem s.stwItem task n true) = 0) ∧
    (∃ (task : Nat) (n : Nat) (s : State), s.taskOwner task = some n ∧ s.tenState n = 3) ∧
    (∃ (n : Nat) (s : State), (∀ x ∈ s.sch.items, x.tenant = n → x.spilled = none)) ∧
    (∃ (n : Nat) (x : SchItem) (s : State), s.sch.items.find? (fun x => x.tenant == n && x.spilled.isSome) = some x ∧ s.onChip (fun x => x.tenant == n) < s.onChipQuota n ∧ s.onChip (fun _ => true) < 32768 ∧ s.anyBad ((s.spillRing n).1 + 64 * (x.spilled.getD 0 % (s.spillRing n).2)) 64 = false) ∧
    (∃ (n : Nat) (x : SchItem) (s : State), s.sch.items.find? (fun x => x.tenant == n && x.spilled.isSome) = some x ∧ s.onChip (fun x => x.tenant == n) < s.onChipQuota n ∧ s.onChip (fun _ => true) < 32768 ∧ s.anyBad ((s.spillRing n).1 + 64 * (x.spilled.getD 0 % (s.spillRing n).2)) 64 = false) ∧
    (∃ (n : Nat) (x : SchItem) (s : State), s.sch.items.find? (fun x => x.tenant == n && x.spilled.isSome) = some x ∧ s.onChip (fun x => x.tenant == n) < s.onChipQuota n ∧ s.onChip (fun _ => true) < 32768) ∧
    (∃ (core : Nat) (n : Nat) (v : BitVec 32) (s : State), s.coreTenant core = some n ∧ (cget (fun _ => 0) s.sch.prod n + 2 ^ 32 - v.toNat) % 2 ^ 32 ≤ 256) ∧
    (∃ (core : Nat) (n : Nat) (v : BitVec 32) (s : State), s.coreTenant core = some n ∧ 256 < (cget (fun _ => 0) s.sch.prod n + 2 ^ 32 - v.toNat) % 2 ^ 32) :=
  ⟨⟨63, 511, onCore (ten 4) 63 0 511, by decide +kernel⟩, ⟨7, 63, 0, 511, onCore task1 63 8191 511, by decide +kernel⟩,
  ⟨8191, State.reset, by decide +kernel⟩, ⟨7, 8191, 511, task1, by decide +kernel⟩, ⟨8191, 511, sw task1 [(TEN_STATE 511, 3)], by decide +kernel⟩,
  ⟨511, queued task1 [item1 8191 511 1], by decide +kernel⟩,
  ⟨511, { item1 8191 511 1 with spilled := some 0 }, queued task1 [{ item1 8191 511 1 with spilled := some 0 }], by decide +kernel⟩,
  ⟨511, { item1 8191 511 1 with spilled := some 0 }, queued task1 [{ item1 8191 511 1 with spilled := some 0 }], by decide +kernel⟩,
  ⟨511, { item1 8191 511 1 with spilled := some 0 }, queued task1 [{ item1 8191 511 1 with spilled := some 0 }], by decide +kernel⟩,
  ⟨63, 511, 0, let y := onCore (ten 2) 63 0 511; { y with sch := { y.sch with prod := [(511, 256)] } }, by decide +kernel⟩,
  ⟨63, 511, 0, let y := onCore (ten 2) 63 0 511; { y with sch := { y.sch with prod := [(511, 257)] } }, by decide +kernel⟩⟩

theorem wit_FlagsTimersOverrun :
    (∃ (task : Nat) (s : State), task < 8192 ∧ s.descB task DESC_VALID = true) ∧ (∃ (task : Nat) (s : State), s.descB task DESC_VALID = false) ∧
    (∃ (task : Nat), task < 8192) ∧
    (∃ (core : Nat) (k : Nat) (d : Nat) (s : State), s.localTask core k = some d ∧ d < 8192 ∧ s.descB d DESC_VALID = true) ∧
    (∃ (core : Nat) (k : Nat) (s : State), s.localTask core k = none) ∧
    (∃ (core : Nat) (k : Nat) (d : Nat) (s : State), s.localTask core k = some d ∧ d < 8192) ∧
    (∃ (t : Nat) (core : Nat) (n : Nat) (tm : Nat) (hi : BitVec 32) (s : State), s.coreTenant core = some n ∧ tm < 4 ∧ (s.advance t).dom < hi.toNat * 2 ^ 32 + (s.timer n tm).lo) ∧
    (∃ (core : Nat) (n : Nat) (tm : Nat) (v : BitVec 32) (s : State), s.coreTenant core = some n ∧ tm < 4 ∧ v.toNat.testBit 31 = false) ∧
    (∃ (t : Nat) (n : Nat) (tm : Nat) (s : State), tm < 4 ∧ (s.timer n tm).armed = true ∧ (s.timer n tm).period = 0 ∧ s.tenState n ≠ 0 ∧ (s.timer n tm).hi * 2 ^ 32 + (s.timer n tm).lo ≤ (s.advance t).dom ∧ (s.timer n tm).task < s.taskCount n ∧ s.taskFirst n + (s.timer n tm).task < 8192 ∧ s.descB (s.taskFirst n + (s.timer n tm).task) DESC_VALID = true ∧ (s.timer n tm).bit < 32) ∧
    (∃ (t : Nat) (n : Nat) (tm : Nat) (s : State), tm < 4 ∧ (s.timer n tm).armed = true ∧ (s.advance t).dom < (s.timer n tm).hi * 2 ^ 32 + (s.timer n tm).lo) ∧
    (∃ (n : Nat) (s : State), (∀ c ∈ s.sch.checks, c.tenant ≠ n)) ∧
    (∃ (t : Nat) (n : Nat) (c : SchCheck) (s : State), s.sch.checks.find? (fun c => c.tenant == n) = some c ∧ (s.advance t).dom < c.next + min (s.rd (SCH_TEN_CFG n) SCH_TEN_CFG_SLACK * 1000) s.roundNs) ∧
    (∃ (t : Nat) (n : Nat) (c : SchCheck) (s : State), s.sch.checks.find? (fun c => c.tenant == n) = some c ∧ s.gridOn = true ∧ c.next + min (s.rd (SCH_TEN_CFG n) SCH_TEN_CFG_SLACK * 1000) s.roundNs ≤ (s.advance t).dom ∧ (∀ x ∈ s.sch.items, x.tenant = n → c.round < x.round) ∧ (∀ r ∈ s.sch.runs, r.item.tenant = n → c.round < r.item.round)) ∧
    (∃ (t : Nat) (n : Nat) (c : SchCheck) (x : SchItem) (s : State), s.sch.checks.find? (fun c => c.tenant == n) = some c ∧ s.gridOn = true ∧ n < 512 ∧ c.next + min (s.rd (SCH_TEN_CFG n) SCH_TEN_CFG_SLACK * 1000) s.roundNs ≤ (s.advance t).dom ∧ s.sch.items = [x] ∧ s.sch.runs = [] ∧ x.tenant = n ∧ x.round ≤ c.round ∧ s.rdB (SCH_TEN_CFG n) SCH_TEN_CFG_CUT = false) :=
  ⟨⟨8191, task1, by decide +kernel⟩, ⟨8191, State.reset, by decide +kernel⟩, ⟨8191, by decide +kernel⟩,
  ⟨63, 0, 8191, onCore task1 63 8191 511, by decide +kernel⟩, ⟨63, 1, onCore task1 63 8191 511, by decide +kernel⟩,
  ⟨63, 0, 8191, sw (onCore task1 63 8191 511) [(SCH_DESC 8191 0, 7)], by decide +kernel⟩,
  ⟨7, 63, 511, 3, 5, onCore task1 63 8191 511, by decide +kernel⟩,
  ⟨63, 511, 3, 0, let y := onCore task1 63 8191 511; { y with sch := { y.sch with timers := [(511 * 4 + 3, { armed := true })] } }, by decide +kernel⟩,
  ⟨7, 511, 3, { task1 with sch := { task1.sch with timers := [(511 * 4 + 3, { lo := 7, task := 0, bit := 31, armed := true })] } }, by decide +kernel⟩,
  ⟨7, 511, 3, { task1 with sch := { task1.sch with timers := [(511 * 4 + 3, { lo := 8, task := 0, bit := 31, armed := true })] } }, by decide +kernel⟩,
  ⟨511, State.reset, by decide +kernel⟩,
  ⟨7, 511, { tenant := 511, round := 3, next := 8 }, { task1 with sch := { task1.sch with checks := [{ tenant := 511, round := 3, next := 8 }] } }, by decide +kernel⟩,
  ⟨7, 511, { tenant := 511, round := 3, next := 7 }, let y := sw task1 [(TIM_CTRL, 1)]; { y with sch := { y.sch with checks := [{ tenant := 511, round := 3, next := 7 }], items := [item1 8191 511 4] } }, by decide +kernel⟩,
  ⟨7, 511, { tenant := 511, round := 3, next := 7 }, item1 8191 511 3, let y := sw task1 [(TIM_CTRL, 1)]; { y with sch := { y.sch with checks := [{ tenant := 511, round := 3, next := 7 }], items := [item1 8191 511 3] } }, by decide +kernel⟩⟩

theorem wit_TenantMessages :
    (∃ (t : Nat) (m : Message) (s : State), NextIs s t m 1 ∧ m.payload = []) ∧
    (∃ (t : Nat) (m : Message) (s : State), NextIs s t m 1 ∧ m.payload ≠ []) ∧
    (∃ (t : Nat) (m : Message) (s : State), NextIs s t m 2 ∧ m.payload.length ≠ 12) ∧
    (∃ (t : Nat) (m : Message) (addrs : List Nat) (s : State), NextIs s t m 2 ∧ m.payload.length = 12 ∧ (((s.advance t).takeMsg m).tenBuffer m.tenant (leAt m.payload 4 4) (((s.advance t).takeMsg m).readRecords m.tenant (leAt m.payload 0 4) (leAt m.payload 8 4)).1.length) = some addrs) ∧
    (∃ (t : Nat) (m : Message) (s : State), NextIs s t m 3 ∧ 4 ≤ m.payload.length ∧ 4 + byteAt m.payload 0 ≤ m.payload.length ∧ 1 ≤ byteAt m.payload 0 ∧ byteAt m.payload 0 ≤ 52 ∧ leAt m.payload 1 3 = 0 ∧ (s.hostMsgs m.tenant).length < 64) ∧
    (∃ (t : Nat) (m : Message) (s : State), NextIs s t m 3 ∧ 4 ≤ m.payload.length ∧ 4 + byteAt m.payload 0 ≤ m.payload.length ∧ byteAt m.payload 0 = 0) ∧
    (∃ (t : Nat) (m : Message) (s : State), NextIs s t m 4 ∧ m.payload.length = 56 ∧ byteAt m.payload 3 = 0 ∧ s.tenantPresent (leAt m.payload 0 2) = true ∧ byteAt m.payload 2 < s.taskCount (leAt m.payload 0 2)) ∧
    (∃ (t : Nat) (m : Message) (d : Nat) (i : Nat) (s : State), NextIs s t m 4 ∧ m.payload.length = 56 ∧ leAt m.payload 0 2 = d ∧ byteAt m.payload 2 = i ∧ byteAt m.payload 3 = 0 ∧ s.tenantPresent d = true ∧ i < s.taskCount d ∧ s.taskOwner (s.taskFirst d + i) = some d ∧ s.tenState d = 2 ∧ s.descB (s.taskFirst d + i) DESC_VALID = true ∧ s.descB (s.taskFirst d + i) DESC_FLAG_ONLY = false ∧ s.sch.items = []) ∧
    (∃ (t : Nat) (m : Message) (s : State), NextIs s t m 5 ∧ m.payload = []) ∧ (∃ (t : Nat) (s : State), (s.advance t).nextMsg = none) ∧
    (∃ (n : Nat) (s : State), n < 512 ∧ idxDiff (s.rdW (TEN_MSG_PROD n 2)).toNat (s.rdW (TEN_MSG_CONS n 2)).toNat < 255 ∧ s.tenantPresent n = true) ∧
    (∃ (t : Nat) (n : Nat) (m : Message) (s : State), NextIs s t m 1 ∧ m.tenant ≠ n) :=
  ⟨⟨7, says7 1 [], saying (ten 2) 1 [], by decide +kernel⟩,
  ⟨7, says7 1 (List.replicate 56 1), saying (ten 2) 1 (List.replicate 56 1), by decide +kernel⟩,
  ⟨7, says7 2 (List.replicate 13 1), saying (ten 2) 2 (List.replicate 13 1), by decide +kernel⟩,
  ⟨7, says7 2 (List.replicate 12 0), [], saying (ten 2) 2 (List.replicate 12 0), by decide +kernel⟩,
  ⟨7, says7 3 ([52, 0, 0, 0] ++ List.replicate 52 1), saying (ten 2) 3 ([52, 0, 0, 0] ++ List.replicate 52 1), by decide +kernel⟩,
  ⟨7, says7 3 [0, 0, 0, 0], saying (ten 2) 3 [0, 0, 0, 0], by decide +kernel⟩,
  ⟨7, says7 4 ([255, 1, 0, 0] ++ List.replicate 52 1), saying task1 4 ([255, 1, 0, 0] ++ List.replicate 52 1), by decide +kernel⟩,
  ⟨7, says7 4 ([255, 1, 0, 0] ++ List.replicate 52 1), 511, 0, saying task1 4 ([255, 1, 0, 0] ++ List.replicate 52 1), by decide +kernel⟩,
  ⟨7, says7 5 [], saying (ten 2) 5 [], by decide +kernel⟩, ⟨7, ten 0, by decide +kernel⟩, ⟨511, ten 2, by decide +kernel⟩,
  ⟨7, 3, says7 1 [], saying (ten 2) 1 [], by decide +kernel⟩⟩

theorem wit_ControlAccess :
    (∃ (v : Word) (s : State), StrobesSeen s ∧ fget TIM_HOLD_LIMIT v ≤ 86400) ∧
    (∃ (v : Word) (s : State), StrobesSeen s ∧ 86400 < fget TIM_HOLD_LIMIT v) ∧ (∃ (s : State), StrobesSeen s) ∧ (∃ (s : State), StrobesSeen s) ∧
    (∃ (a : Nat) (s : State), StrobesSeen s ∧ a < 2 ^ 32 ∧ (a / 2 ^ 24 = 0 ∨ 0x11 < a / 2 ^ 24)) ∧
    (∃ (core : Nat) (s : State), s.coreTenant core = none) ∧ (∃ (core : Nat) (n : Nat) (s : State), StrobesSeen s ∧ s.coreTenant core = some n) ∧
    (∃ (a : Nat) (n : Nat), a < 0x40000000 ∧ ((n ≠ 4 ∧ n ≠ 8) ∨ a % n ≠ 0)) ∧ (∃ (s : State), 2 ≤ s.lc) ∧
    (∃ (core : Nat) (r : SchRun) (a : Nat) (n : Nat) (s : State), s.sch.runs = [r] ∧ r.core = core ∧ core < 128 ∧ r.item.tenant < 512 ∧ a < 0x10000 ∧ winForm a n = false ∧ s.rdB (TEN_CFG r.item.tenant) TEN_CFG_FAULT_POLICY = false) ∧
    (∃ (core : Nat) (m : Nat) (a : Nat) (n : Nat) (s : State), s.coreTenant core = some m ∧ a < 0x10000 ∧ winForm a n = false) ∧
    (∃ (v : Nat) (s : State), StrobesSeen s ∧ v % 2 ^ 32 ≤ 86400) :=
  ⟨⟨86400, State.reset, by decide +kernel⟩, ⟨86401, State.reset, by decide +kernel⟩, ⟨State.reset, by decide +kernel⟩,
  ⟨State.reset, by decide +kernel⟩, ⟨0x12000000, State.reset, by decide +kernel⟩, ⟨63, State.reset, by decide +kernel⟩,
  ⟨63, 511, onCore (ten 2) 63 0 511, by decide +kernel⟩, ⟨0x1001, 4, by decide +kernel⟩,
  ⟨{ State.reset with fuses := { lc := 2 } }, by decide +kernel⟩, ⟨63, run1 63 8191 511, 1, 4, onCore task1 63 8191 511, by decide +kernel⟩,
  ⟨63, 511, 1, 4, onCore task1 63 8191 511, by decide +kernel⟩, ⟨0, State.reset, by decide +kernel⟩⟩

theorem wit_RoundBoundaries :
    (∃ (s : State), s.gridOn = false) ∧ (∃ (t : Nat) (s : State), (s.advance t).dom < s.nextT) ∧
    (∃ (t : Nat) (s : State), s.gridOn = true ∧ s.nextT ≤ (s.advance t).dom) ∧
    (∃ (t : Nat) (s : State), OnlyTimeBase s ∧ s.gridOn = true ∧ s.nextT ≤ (s.advance t).dom ∧ s.tim.targetStaged = none ∧ s.tim.nextD < 4096) ∧
    (∃ (s : State), s.tim.targetStaged = none) ∧ (∃ (s : State), s.gridOn = false) ∧
    (∃ (x : Staged Nat) (s : State), OnlyTimeBase s ∧ s.gridOn = false ∧ s.tim.targetStaged = some x ∧ x.val < 4096) ∧
    (∃ (s : State), s.gridOn = true) ∧ (∃ (t : Nat) (s : State), s.dpx.hbRise + 2000 ≤ max s.now t) ∧
    (∃ (t : Nat) (s : State), max s.now t < s.dpx.hbRise + 2000) ∧ (∃ (s : State), s.gridOn = false) ∧
    (∃ (t : Nat) (k : Nat) (m : State) (s : State), s.gridOn = false ∧ s.dpxOn = true ∧ s.role = 4 ∧ s.rd DPX_HB_KEY DPX_HB_KEY_SLOT = k ∧ (s.advance t).grant k ⟨[2], [uMac]⟩ .publish false = (0, m)) ∧
    (∃ (s : State), s.gridOn = true) :=
  ⟨⟨State.reset, by decide +kernel⟩,
  ⟨7, { st [(TIM_CTRL, TIM_CTRL_GRID_EN, 1)] with tim := { State.reset.tim with nextRound := 5, nextD := 1000 } }, by decide +kernel⟩,
  ⟨1000000000, { st [(TIM_CTRL, TIM_CTRL_GRID_EN, 1)] with tim := { State.reset.tim with nextRound := 1, nextD := 1000 } }, by decide +kernel⟩,
  ⟨2000000, st [(TIM_CTRL, TIM_CTRL_GRID_EN, 1)], by decide +kernel⟩, ⟨State.reset, by decide +kernel⟩, ⟨State.reset, by decide +kernel⟩,
  ⟨{ val := 5, eff := 0 }, { State.reset with tim := { State.reset.tim with targetStaged := some { val := 5, eff := 0 } } }, by decide +kernel⟩,
  ⟨st [(TIM_CTRL, TIM_CTRL_GRID_EN, 1)], by decide +kernel⟩, ⟨2000, State.reset, by decide +kernel⟩, ⟨7, State.reset, by decide +kernel⟩,
  ⟨State.reset, by decide +kernel⟩,
  ⟨7, 8, (State.grant ((keys 8 4095 2 4 [(DPX_CTRL, DPX_CTRL_EN, 1), (DPX_CFG, DPX_CFG_PAIR_EN, 1), (DPX_STAT, DPX_STAT_ROLE, 4), (DPX_HB_KEY, DPX_HB_KEY_SLOT, 8)]).advance 7) 8 ⟨[2], [uMac]⟩ .publish false).2, let y := keys 8 4095 2 4 [(DPX_CTRL, DPX_CTRL_EN, 1), (DPX_CFG, DPX_CFG_PAIR_EN, 1), (DPX_STAT, DPX_STAT_ROLE, 4), (DPX_HB_KEY, DPX_HB_KEY_SLOT, 8)]; y, by decide +kernel, by decide +kernel, by decide +kernel, by decide +kernel, rfl⟩,
  ⟨st [(TIM_CTRL, TIM_CTRL_GRID_EN, 1)], by decide +kernel⟩⟩

theorem wit_LawCommands :
    (∃ (l : Nat) (s : State), s.clePresent = true ∧ l < 128 ∧ s.lawState l ≠ 0) ∧
    (∃ (t : Nat) (l : Nat) (s : State), s.clePresent = true ∧ l < 128 ∧ s.lawState l = 0 ∧ s.tenState (s.lawOwner l) = 1 ∧ ((s.advance t).lawChecks l).1 = 0) ∧
    (∃ (l : Nat) (s : State), s.clePresent = true ∧ l < 128 ∧ s.lawState l = 0) ∧
    (∃ (l : Nat) (s : State), s.clePresent = true ∧ l < 128 ∧ s.lawState l ≠ 0) ∧
    (∃ (t : Nat) (l : Nat) (b : Bool) (s : State), s.clePresent = true ∧ l < 128 ∧ s.lawState l = 1 ∧ s.gridOn = true ∧ ((s.advance t).wrB (CLE_LAW_CMD l) CLE_LAW_CMD_BUMPLESS b).badCoeff l (1 - s.activeSet l) = none) ∧
    (∃ (t : Nat) (l : Nat) (b : Bool) (k : Nat) (s : State), s.clePresent = true ∧ l < 128 ∧ ((s.advance t).wrB (CLE_LAW_CMD l) CLE_LAW_CMD_BUMPLESS b).badCoeff l (1 - s.activeSet l) = some k) ∧
    (∃ (l : Nat) (s : State), s.clePresent = true ∧ l < 128 ∧ s.rdB (CLE_LAW_STATE l) CLE_LAW_STATE_COMMIT_PENDING = false) ∧
    (∃ (l : Nat) (s : State), s.clePresent = true ∧ l < 128 ∧ s.rdB (CLE_LAW_STATE l) CLE_LAW_STATE_COMMIT_PENDING = true) ∧
    (∃ (l : Nat) (s : State), s.clePresent = true ∧ l < 128 ∧ s.lawState l = 1 ∧ s.gridOn = true) ∧
    (∃ (l : Nat) (s : State), s.clePresent = true ∧ l < 128 ∧ s.lawState l ≠ 1) ∧
    (∃ (l : Nat) (s : State), s.clePresent = true ∧ l < 128 ∧ s.lawState l = 2 ∧ s.gridOn = true) ∧
    (∃ (l : Nat) (s : State), s.clePresent = true ∧ l < 128 ∧ s.lawState l ≠ 2) ∧
    (∃ (l : Nat) (s : State), s.clePresent = true ∧ l < 128 ∧ (s.trcState l = 0 ∨ s.trcState l = 3)) ∧
    (∃ (l : Nat) (s : State), (s.trcState l = 1 ∨ s.trcState l = 2)) ∧ (∃ (l : Nat) (s : State), s.clePresent = true ∧ l < 128) ∧
    (∃ (l : Nat) (s : State), s.clePresent = true ∧ l < 128 ∧ s.trcState l = 1) ∧
    (∃ (l : Nat) (s : State), s.clePresent = true ∧ l < 128 ∧ s.trcState l ≠ 1) :=
  ⟨⟨127, law1 1, by decide +kernel⟩, ⟨7, 127, law1 0, by decide +kernel⟩, ⟨127, law1 0, by decide +kernel⟩, ⟨127, law1 1, by decide +kernel⟩,
  ⟨7, 127, true, law1 1 [(TIM_CTRL, TIM_CTRL_GRID_EN, 1)], by decide +kernel⟩,
  ⟨7, 127, false, 2047, sw (law1 1) [(CLE_BLK_STRUCT 2047 0, 8), (CLE_BLK_PARAM 1 (2047 * 8), 0x3F800000)], by decide +kernel⟩,
  ⟨127, law1 1, by decide +kernel⟩, ⟨127, law1 1 [(CLE_LAW_STATE 127, CLE_LAW_STATE_COMMIT_PENDING, 1)], by decide +kernel⟩,
  ⟨127, law1 1 [(TIM_CTRL, TIM_CTRL_GRID_EN, 1)], by decide +kernel⟩, ⟨127, law1 2, by decide +kernel⟩,
  ⟨127, law1 2 [(TIM_CTRL, TIM_CTRL_GRID_EN, 1)], by decide +kernel⟩, ⟨127, law1 1, by decide +kernel⟩,
  ⟨127, law1 1 [(CLE_TRC_STAT 127, CLE_TRC_STAT_STATE, 3)], by decide +kernel⟩,
  ⟨127, law1 1 [(CLE_TRC_STAT 127, CLE_TRC_STAT_STATE, 2)], by decide +kernel⟩,
  ⟨127, law1 1 [(CLE_TRC_STAT 127, CLE_TRC_STAT_STATE, 1)], by decide +kernel⟩,
  ⟨127, law1 1 [(CLE_TRC_STAT 127, CLE_TRC_STAT_STATE, 1)], by decide +kernel⟩,
  ⟨127, law1 1 [(CLE_TRC_STAT 127, CLE_TRC_STAT_STATE, 2)], by decide +kernel⟩⟩

theorem wit_LawEvents :
    (∃ (l : Nat) (s : State), s.rdB (CLE_LAW_CLK l) CLE_LAW_CLK_MODE = false) ∧
    (∃ (t : Nat) (l : Nat) (s : State), s.rdB (CLE_LAW_CLK l) CLE_LAW_CLK_MODE = true ∧ (s.lawClock l).type = 1 ∧ 0 < (s.advance t).lawRate l ∧ s.rd (CLE_LAW_LAG l) CLE_LAW_LAG_NS ≤ (s.advance t).dom ∧ s.lawTakes l = true ∧ (∀ e ∈ s.cle.evals, e.law ≠ l ∧ e.trig ≠ max s.now t) ∧ (s.law l).trig ≠ some (sampleAt ((s.advance t).lawRate l) ((s.advance t).dom - s.rd (CLE_LAW_LAG l) CLE_LAW_LAG_NS))) ∧
    (∃ (s : State), s.cle.evals = []) ∧ (∃ (ev : CleEval) (rest : List CleEval) (s : State), s.cle.evals = ev :: rest) ∧
    (∃ (ev : CleEval) (rest : List CleEval) (b : Nat) (s : State), s.cle.evals = ev :: rest ∧ ev.law < 128 ∧ s.lawBlocks ev.law = [b] ∧ s.blkType b = 2 ∧ s.lawState ev.law ≠ 2 ∧ s.trcState ev.law = 0) ∧
    (∃ (l : Nat) (s : State), s.rd (CLE_LAW_TIMEOUT l) CLE_LAW_TIMEOUT_PERIODS = 0) ∧
    (∃ (t : Nat) (l : Nat) (s : State), s.lawTakes l = true ∧ s.rdB (CLE_LAW_CLK l) CLE_LAW_CLK_MODE = false ∧ (s.law l).lost = false ∧ s.rd (CLE_LAW_TIMEOUT l) CLE_LAW_TIMEOUT_PERIODS ≠ 0 ∧ s.lawOwner l < 512 ∧ s.rd (CLE_LAW_TIMEOUT l) CLE_LAW_TIMEOUT_PERIODS * 1000000000 ≤ (max s.now t - (s.law l).trigAt) * (s.advance t).lawRate l) ∧
    (∃ (core : Nat) (n : Nat) (j : Nat) (v : BitVec 32) (s : State), s.clePresent = true ∧ s.coreTenant core = some n ∧ j < 1024 ∧ isNan v.toNat = false ∧ isInf v.toNat = false) ∧
    (∃ (v : BitVec 32), isNan v.toNat = true) ∧ (∃ (l : Nat) (x : CleTune) (s : State), s.tuneOf l = some x ∧ x.done.length < 2 + x.cycles) ∧
    (∃ (l : Nat) (x : CleTune) (s : State), s.tuneOf l = some x ∧ 2 + x.cycles ≤ x.done.length) ∧
    (∃ (l : Nat) (x : CleTune) (s : State), s.tuneOf l = some x ∧ x.done.length = 2 + x.cycles ∧ l < 128 ∧ s.lawState l = 2 ∧ s.gridOn = true) ∧
    (∃ (t : Nat) (l : Nat) (x : CleTune) (s : State), s.tuneOf l = some x ∧ max s.now t < x.start + x.maxTime * 1000000 ∧ max s.now t < x.switchAt + x.maxTime * 250000) ∧
    (∃ (t : Nat) (l : Nat) (x : CleTune) (s : State), s.tuneOf l = some x ∧ x.start + x.maxTime * 1000000 ≤ max s.now t) ∧
    (∃ (t : Nat) (l : Nat) (x : CleTune) (s : State), s.tuneOf l = some x ∧ x.start + x.maxTime * 1000000 ≤ max s.now t ∧ l < 128 ∧ s.lawState l = 2 ∧ s.gridOn = true) :=
  ⟨⟨127, State.reset, by decide +kernel⟩, ⟨1000000000, 127, law1 2, by decide +kernel⟩, ⟨State.reset, by decide +kernel⟩,
  ⟨{ law := 127, n := 3, trig := 5 }, [], let y := law1 1; { y with cle := { y.cle with evals := [{ law := 127, n := 3, trig := 5 }] } }, by decide +kernel⟩,
  ⟨{ law := 127, n := 3, trig := 5 }, [], 2047, evals7 1 { law := 127, n := 3, trig := 5 }, by decide +kernel⟩,
  ⟨127, law1 1 [(CLE_LAW_TIMEOUT 127, CLE_LAW_TIMEOUT_PERIODS, 0)], by decide +kernel⟩,
  ⟨1000000000, 127, law1 1 [(CLE_LAW_CLK 127, CLE_LAW_CLK_MODE, 0), (CLE_LAW_TIMEOUT 127, CLE_LAW_TIMEOUT_PERIODS, 255)], by decide +kernel⟩,
  ⟨63, 511, 1023, 0x3F800000, onCore (ten 2) 63 0 511, by decide +kernel⟩, ⟨0x7FC00000, by decide +kernel⟩,
  ⟨127, { law := 127, rule := 0, cycles := 2, amp := 0, hys := 0, maxTime := 10, tag := 1, start := 0, switchAt := 0 }, let y := law1 2; { y with cle := { y.cle with tunes := [{ law := 127, rule := 0, cycles := 2, amp := 0, hys := 0, maxTime := 10, tag := 1, start := 0, switchAt := 0 }] } }, by decide +kernel⟩,
  ⟨127, { law := 127, rule := 0, cycles := 2, amp := 0, hys := 0, maxTime := 10, tag := 1, start := 0, switchAt := 0, done := List.replicate 4 (1, 1, 1) }, let y := law1 2; { y with cle := { y.cle with tunes := [{ law := 127, rule := 0, cycles := 2, amp := 0, hys := 0, maxTime := 10, tag := 1, start := 0, switchAt := 0, done := List.replicate 4 (1, 1, 1) }] } }, by decide +kernel⟩,
  ⟨127, { tune7 with done := List.replicate 4 (1, 1, 1) }, tuning7 { tune7 with done := List.replicate 4 (1, 1, 1) }, by decide +kernel⟩,
  ⟨2499999, 127, { law := 127, rule := 0, cycles := 2, amp := 0, hys := 0, maxTime := 10, tag := 1, start := 0, switchAt := 0 }, let y := law1 2; { y with cle := { y.cle with tunes := [{ law := 127, rule := 0, cycles := 2, amp := 0, hys := 0, maxTime := 10, tag := 1, start := 0, switchAt := 0 }] } }, by decide +kernel⟩,
  ⟨10000000, 127, { law := 127, rule := 0, cycles := 2, amp := 0, hys := 0, maxTime := 10, tag := 1, start := 0, switchAt := 0 }, let y := law1 2; { y with cle := { y.cle with tunes := [{ law := 127, rule := 0, cycles := 2, amp := 0, hys := 0, maxTime := 10, tag := 1, start := 0, switchAt := 0 }] } }, by decide +kernel⟩,
  ⟨10000000, 127, tune7, tuning7 tune7, by decide +kernel⟩⟩

theorem wit_ProgramCommands :
    (∃ (p : Nat) (s : State), PrgReady s p ∧ s.prgState p ≠ 0) ∧ (∃ (p : Nat) (s : State), PrgReady s p) ∧
    (∃ (p : Nat) (s : State), PrgReady s p ∧ (s.prgState p = 1 ∨ s.prgState p = 2)) ∧ (∃ (p : Nat) (s : State), PrgReady s p ∧ s.prgState p = 0) ∧
    (∃ (p : Nat) (s : State), PrgReady s p ∧ s.prgState p = 1 ∧ s.rdB (LGE_PRG_CFG p) LGE_PRG_CFG_HOLD_EN = false) ∧
    (∃ (p : Nat) (s : State), PrgReady s p ∧ s.prgState p = 1 ∧ s.rdB (LGE_PRG_CFG p) LGE_PRG_CFG_HOLD_EN = true ∧ (s.prog p).exch = none ∧ s.scanOpen p = true) ∧
    (∃ (p : Nat) (s : State), PrgReady s p ∧ s.prgState p = 1 ∧ s.rdB (LGE_PRG_CFG p) LGE_PRG_CFG_HOLD_EN = true ∧ (s.prog p).exch = none ∧ s.scanOpen p = false) ∧
    (∃ (p : Nat) (s : State), PrgReady s p ∧ s.prgState p ≠ 2) ∧ (∃ (p : Nat) (s : State), PrgReady s p ∧ s.prgState p = 2 ∧ (s.prog p).halt = none) ∧
    (∃ (p : Nat) (s : State), PrgReady s p ∧ s.prgState p = 2 ∧ s.scanOpen p = false ∧ (s.prog p).halt = none) ∧
    (∃ (p : Nat) (s : State), PrgReady s p ∧ s.prgState p = 2 ∧ s.scanOpen p = true) ∧
    (∃ (p : Nat) (s : State), PrgReady s p ∧ s.prgState p = 0 ∧ s.rdB (LGE_PRG_CFG p) LGE_PRG_CFG_VALID = true) :=
  ⟨⟨63, prog1 1, by decide +kernel⟩, ⟨63, prog1 0, by decide +kernel⟩, ⟨63, prog1 2, by decide +kernel⟩, ⟨63, prog1 0, by decide +kernel⟩,
  ⟨63, prog1 1, by decide +kernel⟩, ⟨63, open7 1 [(LGE_PRG_CFG 63, LGE_PRG_CFG_HOLD_EN, 1)], by decide +kernel⟩,
  ⟨63, prog1 1 [(LGE_PRG_CFG 63, LGE_PRG_CFG_HOLD_EN, 1)], by decide +kernel⟩, ⟨63, prog1 1, by decide +kernel⟩, ⟨63, prog1 2, by decide +kernel⟩,
  ⟨63, prog1 2, by decide +kernel⟩, ⟨63, open7 2, by decide +kernel⟩, ⟨63, prog1 0, by decide +kernel⟩⟩

theorem wit_ProgramExchangesAndScans :
    (∃ (p : Nat) (s : State), (∀ v ∈ s.lge.verify, v.1 ≠ p)) ∧
    (∃ (t : Nat) (p : Nat) (q : Nat) (s : State), s.lge.verify = [(p, q)] ∧ (State.verify (({ s.advance t with lge := { s.lge with verify := [] } } : State).wrB (LGE_PRG_CMD p) LGE_PRG_CMD_BUSY false) p) = none ∧ s.rdB (LGE_PRG_CFG p) LGE_PRG_CFG_VALID = false) ∧
    (∃ (t : Nat) (p : Nat) (q : Nat) (s : State), s.lge.verify = [(p, q)] ∧ (State.verify (({ s.advance t with lge := { s.lge with verify := [] } } : State).wrB (LGE_PRG_CMD p) LGE_PRG_CMD_BUSY false) p) = none) ∧
    (∃ (t : Nat) (p : Nat) (q : Nat) (r : Nat) (k : Nat) (s : State), s.lge.verify = [(p, q)] ∧ (State.verify (({ s.advance t with lge := { s.lge with verify := [] } } : State).wrB (LGE_PRG_CMD p) LGE_PRG_CMD_BUSY false) p) = some (r, k)) ∧
    (∃ (p : Nat) (q : Nat) (s : State), PrgReady s p ∧ q < 64) ∧
    (∃ (t : Nat) (p : Nat) (q : Nat) (s : State), PrgReady s p ∧ q < 64 ∧ s.prgState p = 1 ∧ p ≠ q ∧ s.gridOn = true ∧ s.rdB (LGE_PRG_CFG p) LGE_PRG_CFG_VALID = true ∧ s.prgState q = 0 ∧ s.rdB (LGE_PRG_STATE q) LGE_PRG_STATE_VERIFIED = true ∧ (s.prog q).against = p ∧ (∀ c ∈ s.lge.progs, c.2.exch = none) ∧ ((s.advance t).wr (LGE_PRG_CMD p) LGE_PRG_CMD_TARGET q).targetsTaken q p = false) ∧
    (∃ (p : Nat) (s : State), PrgReady s p ∧ s.prgState p = 2) ∧
    (∃ (p : Nat) (x : Staged Nat) (s : State), PrgReady s p ∧ (s.prog p).exch = some x ∧ s.gridOn = false) ∧
    (∃ (p : Nat) (s : State), PrgReady s p ∧ (s.prog p).exch = none) ∧
    (∃ (p : Nat) (f : Nat) (var : Nat) (s : State), p < 64 ∧ f < 256 ∧ (∀ d ∈ s.decls p, d.var ≠ var % 65536)) ∧
    (∃ (p : Nat) (f : Nat) (var : Nat) (valid : Bool) (s : State), p < 64 ∧ f < 256 ∧ (valid = true → ∃ d ∈ s.decls p, d.var = var % 65536)) ∧
    (∃ (p : Nat) (f : Nat) (var : Nat) (valid : Bool) (s : State), p < 64 ∧ f < 256 ∧ (valid = true → ∃ d ∈ s.decls p, d.var = var % 65536)) ∧
    (∃ (s : State), s.rdB LGE_CTRL LGE_CTRL_EN = false) ∧ (∃ (s : State), s.lge.queue = []) ∧ (∃ (s : State), s.gridOn = false) ∧
    (∃ (s : State), s.freeUnit = none) ∧
    (∃ (q : LgeScan) (s : State), s.rdB LGE_CTRL LGE_CTRL_EN = true ∧ s.gridOn = true ∧ s.freeUnit.isSome = true ∧ s.nextScan = some q) ∧
    (∃ (t : Nat) (us : Nat) (q : LgeScan) (s : State), s.rdB LGE_CTRL LGE_CTRL_EN = true ∧ s.gridOn = true ∧ s.freeUnit.isSome = true ∧ s.nextScan = some q ∧ ((s.advance t).scanRun q.prog).2 = .done ∧ us ≤ ((s.advance t).scanRun q.prog).1.s.prgWd q.prog ∧ q.prog < 64) ∧
    (∃ (a : LgeScan) (b : LgeScan) (s : State), s.lge.queue = [a, b] ∧ b.deadline < a.deadline) ∧
    (∃ (a : LgeScan) (b : LgeScan) (s : State), s.lge.queue = [a, b] ∧ a.deadline = b.deadline ∧ a.prog < b.prog) ∧
    (∃ (p : Nat) (s : State), (s.prog p).unit = none) ∧ (∃ (p : Nat) (us : Nat) (s : State), (s.prog p).unit.isSome = true ∧ us ≤ s.prgWd p) ∧
    (∃ (p : Nat) (us : Nat) (s : State), (s.prog p).unit.isSome = true ∧ s.prgWd p < us) ∧
    (∃ (p : Nat) (us : Nat) (s : State), p < 64 ∧ (s.prog p).unit.isSome = true ∧ s.prgWd p < us) ∧
    (∃ (core : Nat) (n : Nat) (w : Nat) (s : State), s.coreTenant core = some n ∧ w < 1024) ∧ (∃ (core : Nat) (s : State), s.coreTenant core = none) :=
  ⟨⟨63, State.reset, by decide +kernel⟩,
  ⟨7, 63, 63, let y := sw (prog1 0 [(LGE_PRG_CODE_LEN 63, LGE_PRG_CODE_LEN_LEN, 1), (LGE_PRG_CFG 63, LGE_PRG_CFG_VALID, 0)]) [(0x07100000, 0x7F000000)]; { y with lge := { y.lge with verify := [(63, 63)] } }, by decide +kernel⟩,
  ⟨7, 63, 63, let y := sw (prog1 0 [(LGE_PRG_CODE_LEN 63, LGE_PRG_CODE_LEN_LEN, 1)]) [(0x07100000, 0x7F000000)]; { y with lge := { y.lge with verify := [(63, 63)] } }, by decide +kernel⟩,
  ⟨7, 63, 63, 1, 0, let y := prog1 0; { y with lge := { y.lge with verify := [(63, 63)] } }, by decide +kernel⟩, ⟨63, 0, prog1 1, by decide +kernel⟩,
  ⟨7, 63, 0, let y := prog1 1 [(TIM_CTRL, TIM_CTRL_GRID_EN, 1), (LGE_PRG_STATE 0, LGE_PRG_STATE_VERIFIED, 1), (LGE_PRG_CFG 0, LGE_PRG_CFG_VALID, 1)]; { y with lge := { y.lge with progs := [(0, { against := 63 })] } }, by decide +kernel⟩,
  ⟨63, prog1 2, by decide +kernel⟩, ⟨63, { val := 3, eff := 4 }, prog1 1 [] { exch := some { val := 3, eff := 4 } }, by decide +kernel⟩,
  ⟨63, prog1 1, by decide +kernel⟩, ⟨63, 255, 65535, prog1 1, by decide +kernel⟩, ⟨63, 255, 5, false, prog1 1, by decide +kernel⟩,
  ⟨63, 255, 65541, true, sw (prog1 1 [(LGE_PRG_NDECL 63, LGE_PRG_NDECL_NDECL, 1)]) [(LGE_DECL 63 0, 5)], by decide +kernel⟩,
  ⟨State.reset, by decide +kernel⟩, ⟨prog1 1, by decide +kernel⟩, ⟨State.reset, by decide +kernel⟩,
  ⟨{ State.reset with lge := { State.reset.lge with progs := [(60, { unit := some 0 }), (61, { unit := some 1 }), (62, { unit := some 2 }), (63, { unit := some 3 })] } }, by decide +kernel⟩,
  ⟨{ prog := 63, deadline := 5 }, scans7, by decide +kernel⟩, ⟨7, 1, { prog := 63, deadline := 5 }, scans7, by decide +kernel⟩,
  ⟨{ prog := 3, deadline := 5 }, { prog := 63, deadline := 4 }, let y := prog1 1; { y with lge := { y.lge with queue := [{ prog := 3, deadline := 5 }, { prog := 63, deadline := 4 }] } }, by decide +kernel⟩,
  ⟨{ prog := 3, deadline := 5 }, { prog := 63, deadline := 5 }, let y := prog1 1; { y with lge := { y.lge with queue := [{ prog := 3, deadline := 5 }, { prog := 63, deadline := 5 }] } }, by decide +kernel⟩,
  ⟨63, State.reset, by decide +kernel⟩, ⟨63, 1, open7 1, by decide +kernel⟩, ⟨63, 100000, open7 1, by decide +kernel⟩,
  ⟨63, 100000, open7 1, by decide +kernel⟩, ⟨63, 511, 1023, onCore (ten 2) 63 0 511, by decide +kernel⟩, ⟨63, State.reset, by decide +kernel⟩⟩

theorem wit_TripsAndFence :
    (∃ (core : Nat) (n : Nat) (s : State), s.coreTenant core = some n) ∧ (∃ (core : Nat) (n : Nat) (s : State), s.coreTenant core = some n) ∧
    (∃ (core : Nat) (n : Nat) (s : State), s.coreTenant core = some n) ∧ (∃ (core : Nat) (s : State), s.coreTenant core = none) ∧
    (∃ (core : Nat) (n : Nat) (s : State), s.coreTenant core = some n) ∧ (∃ (core : Nat) (n : Nat) (s : State), s.coreTenant core = some n) ∧
    (∃ (core : Nat) (n : Nat) (s : State), s.coreTenant core = some n) ∧
    (∃ (b : Nat) (k : Nat) (v : BitVec 32) (s : State), b < 256 ∧ k < 8 ∧ ((s.wrW (OUT_BINDING b k) v).binding b).valid = true ∧ (s.wrW (OUT_BINDING b k) v).bindingOk ((s.wrW (OUT_BINDING b k) v).binding b) = false) ∧
    (∃ (b : Nat) (k : Nat) (v : BitVec 32) (s : State), b < 256 ∧ k < 8 ∧ ((s.wrW (OUT_BINDING b k) v).binding b).valid = false) ∧
    (∃ (s : State), s.pairMember = false) ∧ (∃ (s : State), s.pairMember = false ∧ s.fenced = false) ∧
    (∃ (s : State), s.rdB OUT_CTRL OUT_CTRL_FENCE_LATCH = true) ∧ (∃ (s : State), s.rdB OUT_CTRL OUT_CTRL_FENCE_LATCH = false) ∧
    (∃ (s : State), s.rdB OUT_STAT OUT_STAT_FENCE_N = false) ∧ (∃ (s : State), s.rdB OUT_STAT OUT_STAT_FENCE_N = true ∧ s.fenced = true) ∧
    (∃ (s : State), s.rdB OUT_STAT OUT_STAT_FENCE_N = true) :=
  ⟨⟨63, 511, onCore (ten 2) 63 0 511, by decide +kernel⟩, ⟨63, 511, onCore (ten 2) 63 0 511, by decide +kernel⟩,
  ⟨63, 511, onCore (ten 2) 63 0 511, by decide +kernel⟩, ⟨63, State.reset, by decide +kernel⟩, ⟨63, 511, onCore (ten 2) 63 0 511, by decide +kernel⟩,
  ⟨63, 511, onCore (ten 2) 63 0 511, by decide +kernel⟩, ⟨63, 511, onCore (ten 2) 63 0 511, by decide +kernel⟩,
  ⟨255, 0, 0xFFFF0001, State.reset, by decide +kernel⟩, ⟨255, 7, 5, State.reset, by decide +kernel⟩, ⟨State.reset, by decide +kernel⟩,
  ⟨State.reset, by decide +kernel⟩, ⟨st [(OUT_CTRL, OUT_CTRL_FENCE_LATCH, 1)], by decide +kernel⟩,
  ⟨st [(OUT_CTRL, OUT_CTRL_FENCE_LATCH, 0)], by decide +kernel⟩, ⟨st [(OUT_STAT, OUT_STAT_FENCE_N, 0)], by decide +kernel⟩,
  ⟨st [(OUT_STAT, OUT_STAT_FENCE_N, 1), (OUT_STAT, OUT_STAT_FENCED, 1)], by decide +kernel⟩,
  ⟨st [(OUT_STAT, OUT_STAT_FENCE_N, 1)], by decide +kernel⟩⟩

theorem wit_InputsAndPublishers :
    (∃ (t : Nat) (s : State), (s.advance t).dom % 1000 ≠ 0) ∧ (∃ (n : Nat) (s : State), s.binBlocked n = true) ∧
    (∃ (t : Nat) (n : Nat) (s : State), n < 32 ∧ s.binBlocked n = false ∧ (s.advance t).dom % 1000 = 0) ∧
    (∃ (n : Nat) (s : State), n < 32 ∧ s.binBlocked n = false) ∧ (∃ (n : Nat) (s : State), n < 32 ∧ s.binBlocked n = false ∧ s.dom % 1000 = 0) ∧
    (∃ (n : Nat) (s : State), s.binBlocked n = false) ∧ (∃ (n : Nat) (s : State), n < 32 ∧ s.binBlocked n = true) ∧
    (∃ (t : Nat) (s : State), (s.advance t).dom % 1000000000 ≠ 0) ∧
    (∃ (t : Nat) (n : Nat) (level : Bool) (s : State), n < 32 ∧ s.binBlocked n = true ∧ s.binState n = level ∧ (s.advance t).dom % 1000000000 = 0 ∧ (cget (fun _ => (0, 0)) s.out.chatter n).1 + 2 ≤ (s.advance t).dom / 1000000000) ∧
    (∃ (core : Nat) (n : Nat) (s : State), s.coreTenant core = some n ∧ s.tenState n = 4) ∧
    (∃ (core : Nat) (n : Nat) (v : BitVec 32) (s : State), s.coreTenant core = some n ∧ s.tenState n = 2 ∧ s.slotOwner (v.toNat % 4096) ≠ some n) ∧
    (∃ (core : Nat) (n : Nat) (v : BitVec 32) (s : State), s.coreTenant core = some n ∧ s.tenState n = 2 ∧ s.slotOwner (v.toNat % 4096) = some n ∧ v.toNat / 4096 % 256 + (v.toNat / 1048576 % 256 + 1) ≤ 256 ∧ (s.queueOf (v.toNat % 4096)).length < max 1 (s.rd (TEN_LIMIT_CUR n) TEN_LIMIT_CUR_PUBQ)) ∧
    (∃ (p : Nat) (s : State), s.pubDyn p = none) ∧ (∃ (t : Nat) (p : Nat) (x : OutPub) (s : State), s.pubDyn p = some x ∧ max s.now t < x.next) ∧
    (∃ (t : Nat) (p : Nat) (x : OutPub) (s : State), s.pubDyn p = some x ∧ (s.pubRec p).type = 1 ∧ x.next ≤ max s.now t ∧ x.keyBad = false) ∧
    (∃ (t : Nat) (p : Nat) (x : OutPub) (s : State), p < 1024 ∧ s.pubDyn p = some x ∧ (s.pubRec p).type = 1 ∧ x.next ≤ max s.now t ∧ x.keyBad = false) ∧
    (∃ (slot : Nat) (b : Nat) (v : Word) (s : State), StrobesSeen s ∧ slot < 4096 ∧ b < 256 ∧ s.slotOwner slot ≠ askedOwner v ∧ (s.rdW (OUT_BINDING b 0)).toNat.testBit 0 = true ∧ (s.rdW (OUT_BINDING b 0)).toNat.testBit 3 = true ∧ (s.rdW (OUT_BINDING b 1)).toNat / 65536 % 4096 = slot) ∧
    (∃ (slot : Nat) (p : Nat) (x : OutPub) (v : Word) (s : State), StrobesSeen s ∧ slot < 4096 ∧ s.slotOwner slot ≠ askedOwner v ∧ s.pubDyn p = some x ∧ (s.pubRec p).type ≠ 3 ∧ (s.pubRec p).source % 4096 = slot) ∧
    (∃ (slot : Nat) (v : Word) (s : State), StrobesSeen s ∧ slot < 4096 ∧ (s.slotOwner slot = askedOwner v ∨ ((∀ b, b < 256 → (s.rdW (OUT_BINDING b 0)).toNat.testBit 0 = true → ¬ ((s.rdW (OUT_BINDING b 0)).toNat.testBit 3 = true ∧ (s.rdW (OUT_BINDING b 1)).toNat / 65536 % 4096 = slot)) ∧ (∀ p, p ∈ s.livePubs → (s.pubRec p).type ≠ 3 → (s.pubRec p).source % 4096 ≠ slot)))) ∧
    (∃ (slot : Nat) (v : Word) (s : State), StrobesSeen s ∧ slot < 4096 ∧ (s.slotOwner slot = askedOwner v ∨ ((∀ b, b < 256 → (s.rdW (OUT_BINDING b 0)).toNat.testBit 0 = true → ¬ ((s.rdW (OUT_BINDING b 0)).toNat.testBit 3 = true ∧ (s.rdW (OUT_BINDING b 1)).toNat / 65536 % 4096 = slot)) ∧ (∀ p, p ∈ s.livePubs → (s.pubRec p).type ≠ 3 → (s.pubRec p).source % 4096 ≠ slot)))) :=
  ⟨⟨7, sw State.reset [(OUT_BIN_BLOCKED, 0x80000000)], by decide +kernel⟩, ⟨31, sw State.reset [(OUT_BIN_BLOCKED, 0x80000000)], by decide +kernel⟩,
  ⟨1000, 31, State.reset, by decide +kernel⟩, ⟨31, State.reset, by decide +kernel⟩, ⟨31, State.reset, by decide +kernel⟩,
  ⟨31, State.reset, by decide +kernel⟩, ⟨31, sw State.reset [(OUT_BIN_BLOCKED, 0x80000000)], by decide +kernel⟩, ⟨7, State.reset, by decide +kernel⟩,
  ⟨2000000000, 31, false, sw State.reset [(OUT_BIN_BLOCKED, 0x80000000)], by decide +kernel⟩, ⟨63, 511, onCore (ten 4) 63 0 511, by decide +kernel⟩,
  ⟨63, 511, 4095, onCore (ten 2) 63 0 511, by decide +kernel⟩,
  ⟨63, 511, 4095, onCore (ten 2 [(OUT_PUB_OWNER 4095, OUT_PUB_OWNER_VALID, 1), (OUT_PUB_OWNER 4095, OUT_PUB_OWNER_TENANT, 511)]) 63 0 511, by decide +kernel⟩,
  ⟨1023, State.reset, by decide +kernel⟩,
  ⟨7, 1023, { next := 8 }, { State.reset with out := { State.reset.out with pubs := [(1023, some { next := 8 })] } }, by decide +kernel⟩,
  ⟨7, 1023, { next := 7 }, let y := sw State.reset [(OUT_PUBLISHER 1023 0, 1)]; { y with out := { y.out with pubs := [(1023, some { next := 7 })] } }, by decide +kernel⟩,
  ⟨7, 1023, { next := 3, interval := 4 }, let y := sw State.reset [(OUT_PUBLISHER 1023 0, 1)]; { y with out := { y.out with pubs := [(1023, some { next := 3, interval := 4 })] } }, by decide +kernel⟩,
  ⟨4095, 255, 0, st [(OUT_PUB_OWNER 4095, OUT_PUB_OWNER_VALID, 1), (OUT_PUB_OWNER 4095, OUT_PUB_OWNER_TENANT, 511), (OUT_BINDING 255 0, OUT_BINDING_WORD, 9), (OUT_BINDING 255 1, OUT_BINDING_WORD, 0x0FFF0000)], by decide +kernel⟩,
  ⟨0, 1023, { next := 7 }, 0x80000000, let y := sw State.reset [(OUT_PUBLISHER 1023 0, 1)]; { y with out := { y.out with pubs := [(1023, some { next := 7 })] } }, by decide +kernel⟩,
  ⟨4095, 0x800001FF, State.reset, by decide +kernel⟩,
  ⟨4095, 0x800001FF, st [(OUT_PUB_OWNER 4095, OUT_PUB_OWNER_VALID, 1), (OUT_PUB_OWNER 4095, OUT_PUB_OWNER_TENANT, 511)], by decide +kernel⟩⟩

theorem wit_RecorderCommands :
    (∃ (r : Nat) (s : State), StrobesSeen s ∧ r < 16 ∧ (s.recState r = 1 ∨ s.recState r = 2)) ∧
    (∃ (r : Nat) (s : State), StrobesSeen s ∧ r < 16 ∧ s.gridOn = false) ∧ (∃ (r : Nat), r < 16) ∧
    (∃ (r : Nat) (s : State), r < 16 ∧ s.recActive r = true) ∧ (∃ (r : Nat) (s : State), r < 16 ∧ s.recActive r = false) ∧
    (∃ (r : Nat) (s : State), StrobesSeen s ∧ r < 16 ∧ (s.rd (REC_TRIG_EN r) REC_TRIG_EN_SOURCES).testBit 8 = false) ∧
    (∃ (r : Nat) (s : State), StrobesSeen s ∧ r < 16 ∧ (s.rd (REC_TRIG_EN r) REC_TRIG_EN_SOURCES).testBit 8 = true ∧ s.recState r = 0) ∧
    (∃ (r : Nat), r < 16) ∧ (∃ (s : State), StrobesSeen s ∧ s.gridOn = false) ∧
    (∃ (t : Nat) (r : Nat) (s : State), StrobesSeen s ∧ r < 16 ∧ s.recActive r = true ∧ s.rdB REC_CTRL REC_CTRL_EN = true ∧ s.gridOn = true ∧ (s.advance t).recInst r (s.recDyn r).next + 1000 * s.rd (REC_LAG r) REC_LAG_US ≤ (s.advance t).dom) ∧
    (∃ (t : Nat) (r : Nat) (s : State), StrobesSeen s ∧ r < 16 ∧ s.recActive r = true ∧ s.rdB REC_CTRL REC_CTRL_EN = true ∧ s.gridOn = true ∧ (s.advance t).recInst r (s.recDyn r).next + 1000 * s.rd (REC_LAG r) REC_LAG_US ≤ (s.advance t).dom) :=
  ⟨⟨15, st [(REC_STATE 15, REC_STATE_STATE, 2)], by decide +kernel⟩, ⟨15, State.reset, by decide +kernel⟩, ⟨15, by decide +kernel⟩,
  ⟨15, st [(REC_STATE 15, REC_STATE_STATE, 1)], by decide +kernel⟩, ⟨15, State.reset, by decide +kernel⟩, ⟨15, State.reset, by decide +kernel⟩,
  ⟨15, st [(REC_TRIG_EN 15, REC_TRIG_EN_SOURCES, 256)], by decide +kernel⟩, ⟨15, by decide +kernel⟩, ⟨State.reset, by decide +kernel⟩,
  ⟨1000000000, 15, st [(REC_STATE 15, REC_STATE_STATE, 1), (REC_CTRL, REC_CTRL_EN, 1), (TIM_CTRL, TIM_CTRL_GRID_EN, 1)], by decide +kernel⟩,
  ⟨1000000000, 15, st [(REC_CTRL, REC_CTRL_EN, 1), (TIM_CTRL, TIM_CTRL_GRID_EN, 1), (REC_STATE 15, REC_STATE_STATE, 2)], by decide +kernel⟩⟩

theorem wit_RecorderTriggers :
    (∃ (l : Nat) (s : State), l < 8 ∧ (s.rd REC_XTRG_STAT REC_XTRG_STAT_ASSERTED).testBit l = true) ∧
    (∃ (l : Nat) (s : State), l < 8 ∧ (s.rd REC_XTRG_STAT REC_XTRG_STAT_ASSERTED).testBit l = false ∧ s.rdB (REC_XTRG_CFG l) REC_XTRG_CFG_SELF_MASK = false) ∧
    (∃ (l : Nat) (s : State), l < 8 ∧ (s.rd REC_XTRG_STAT REC_XTRG_STAT_ASSERTED).testBit l = false ∧ s.rdB (REC_XTRG_CFG l) REC_XTRG_CFG_SELF_MASK = false) ∧
    (∃ (l : Nat), l < 8) ∧ (∃ (t : Nat) (l : Nat) (s : State), l < 8 ∧ (cget (fun _ => {}) s.rec_.lines l).until_ ≤ max s.now t) ∧
    (∃ (t : Nat) (l : Nat) (s : State), l < 8 ∧ max s.now t < (cget (fun _ => {}) s.rec_.lines l).until_) ∧
    (∃ (b : List Byte), beAt b 12 2 ≠ 0x8100 ∧ beAt b 12 2 ≠ 0x88B5) ∧
    (∃ (t : Nat) (b : List Byte) (s : State), beAt b 12 2 = 0x88B5 ∧ 54 ≤ b.length ∧ byteAt (b.drop 14) 0 = 1 ∧ byteAt (b.drop 14) 1 = 1 ∧ ((s.advance t).grant (s.rd REC_DOM_CFG REC_DOM_CFG_KEY) ⟨[2], [uVerify]⟩ .steward false).1 ≠ 0) ∧
    (∃ (t : Nat) (b : List Byte) (m : State) (s : State), beAt b 12 2 = 0x88B5 ∧ 54 ≤ b.length ∧ byteAt (b.drop 14) 0 = 1 ∧ byteAt (b.drop 14) 1 = 1 ∧ (s.advance t).grant (s.rd REC_DOM_CFG REC_DOM_CFG_KEY) ⟨[2], [uVerify]⟩ .steward false = (0, m) ∧ macTag (m.slot (s.rd REC_DOM_CFG REC_DOM_CFG_KEY)).value (b.take 38) true = slice (b.drop 14) 24 16 ∧ m.rec_.seen.contains (beAt (b.drop 14) 4 4, beAt (b.drop 14) 16 4) = true) ∧
    (∃ (t : Nat) (b : List Byte) (m : State) (s : State), beAt b 12 2 = 0x88B5 ∧ 54 ≤ b.length ∧ byteAt (b.drop 14) 0 = 1 ∧ byteAt (b.drop 14) 1 = 1 ∧ (s.advance t).grant (s.rd REC_DOM_CFG REC_DOM_CFG_KEY) ⟨[2], [uVerify]⟩ .steward false = (0, m) ∧ macTag (m.slot (s.rd REC_DOM_CFG REC_DOM_CFG_KEY)).value (b.take 38) true = slice (b.drop 14) 24 16 ∧ m.rec_.seen.contains (beAt (b.drop 14) 4 4, beAt (b.drop 14) 16 4) = false) ∧
    (∃ (v : Word), fget REC_INJECT_SOURCE v ≠ 7 ∧ fget REC_INJECT_SOURCE v ≠ 9) ∧
    (∃ (v : Word) (s : State), StrobesSeen s ∧ fget REC_INJECT_SOURCE v = 9 ∧ fget REC_INJECT_MASK v = 0) ∧
    (∃ (v : Word), fget REC_INJECT_SOURCE v = 9 ∧ fget REC_INJECT_NOW v = 1 ∧ fget REC_INJECT_MASK v = 1) :=
  ⟨⟨7, st [(REC_XTRG_STAT, REC_XTRG_STAT_ASSERTED, 128)], by decide +kernel⟩,
  ⟨7, st [(REC_XTRG_CFG 7, REC_XTRG_CFG_SELF_MASK, 0)], by decide +kernel⟩, ⟨7, st [(REC_XTRG_CFG 7, REC_XTRG_CFG_SELF_MASK, 0)], by decide +kernel⟩,
  ⟨7, by decide +kernel⟩,
  ⟨7, 7, { st [(REC_XTRG_STAT, REC_XTRG_STAT_DRIVING, 128)] with rec_ := { State.reset.rec_ with lines := [(7, { until_ := 7 })] } }, by decide +kernel⟩,
  ⟨7, 7, { State.reset with rec_ := { State.reset.rec_ with lines := [(7, { until_ := 8 })] } }, by decide +kernel⟩,
  ⟨List.replicate 60 0, by decide +kernel⟩, ⟨7, List.replicate 12 0 ++ [0x88, 0xB5, 1, 1] ++ List.replicate 38 0, State.reset, by decide +kernel⟩,
  ⟨7, frame7, (State.grant (key7.advance 7) 8 ⟨[2], [uVerify]⟩ .steward false).2, key7, rfl, by decide +kernel, by decide +kernel, by decide +kernel, rfl, rfl, by decide +kernel⟩,
  ⟨7, frame7, (State.grant (({ key7 with rec_ := {} } : State).advance 7) 8 ⟨[2], [uVerify]⟩ .steward false).2, { key7 with rec_ := {} }, by decide +kernel, by decide +kernel, by decide +kernel, by decide +kernel, rfl, rfl, by decide +kernel⟩,
  ⟨fset REC_INJECT_SOURCE 0 8, by decide +kernel⟩, ⟨fset REC_INJECT_SOURCE 0 9, State.reset, by decide +kernel⟩,
  ⟨fset REC_INJECT_SOURCE (fset REC_INJECT_NOW 1 1) 9, by decide +kernel⟩⟩

theorem wit_AlmanacPostsAndCursor :
    (∃ (v : Word), (stewardCode (fget ALM_POST_CODE v) = false ∨ 14 < fget ALM_POST_PSIZE v)) ∧
    (∃ (v : Word) (s : State), stewardCode (fget ALM_POST_CODE v) = true ∧ fget ALM_POST_PSIZE v ≤ 14 ∧ s.chanPresent (fget ALM_POST_CHANNEL v) = false) ∧
    (∃ (v : Word) (s : State), stewardCode (fget ALM_POST_CODE v) = true ∧ fget ALM_POST_PSIZE v ≤ 14 ∧ s.chanPresent (fget ALM_POST_CHANNEL v) = true) ∧
    (∃ (core : Nat) (n : Nat) (v : BitVec 32) (s : State), s.coreTenant core = some n ∧ (v.toNat % 65536 < 0x8000 ∨ 14 < v.toNat / 65536 % 16)) ∧
    (∃ (core : Nat) (n : Nat) (v : BitVec 32) (s : State), s.coreTenant core = some n ∧ 0x8000 ≤ v.toNat % 65536 ∧ v.toNat / 65536 % 16 ≤ 14) ∧
    (∃ (t : Nat) (e : AlmEntry) (s : State), s.alm.writing = some (.entry e) ∧ ((s.advance t).commitEntry e).nextWork = none) ∧
    (∃ (e : AlmEntry) (s : State), s.alm.writing = none ∧ s.nextWork = some (.entry e)) ∧
    (∃ (e : AlmEntry) (r : AlmRec) (s : State), s.alm.writing = some (.entry e) ∧ e.ch < 528 ∧ s.chanRefuses e.ch = false ∧ (s.chan e.ch).newest = some r ∧ r.kind = 0 ∧ r.code = e.code ∧ r.payload = e.payload ∧ r.rep ≠ 0xFFFFFFFF) ∧
    (∃ (v : Word) (s : State), (512 ≤ fget ALM_CLEAR_CHANNEL v ∨ s.chanPresent (fget ALM_CLEAR_CHANNEL v) = false ∨ s.quota (fget ALM_CLEAR_CHANNEL v) = 0)) ∧
    (∃ (v : Word) (s : State), fget ALM_CLEAR_CHANNEL v < 512 ∧ s.chanPresent (fget ALM_CLEAR_CHANNEL v) = true ∧ s.quota (fget ALM_CLEAR_CHANNEL v) ≠ 0) ∧
    (∃ (s : State), s.rdB ALM_CUR_STAT ALM_CUR_STAT_BUSY = true) ∧ (∃ (s : State), s.alm.cursorOp = none) ∧
    (∃ (op : Nat) (ch : Nat) (seq : Nat) (s : State), s.alm.cursorOp = some (op, ch, seq) ∧ s.chanPresent ch = false) ∧
    (∃ (ch : Nat) (seq : Nat) (s : State), s.alm.cursorOp = some (1, ch, seq) ∧ s.chanPresent ch = true ∧ seq < 2 ^ 32) ∧
    (∃ (ch : Nat) (seq : Nat) (s : State), s.alm.cursorOp = some (2, ch, seq)) ∧
    (∃ (ch : Nat) (seq : Nat) (s : State), s.alm.cursorOp = some (3, ch, seq)) ∧
    (∃ (ch : Nat) (seq : Nat) (s : State), 0 ≤ diff32 seq (s.rd (ALM_CH_NEXT ch) ALM_CH_NEXT_SEQ)) ∧
    (∃ (ch : Nat) (seq : Nat) (r : AlmRec) (s : State), diff32 seq (s.rd (ALM_CH_NEXT ch) ALM_CH_NEXT_SEQ) < 0 ∧ 0 ≤ diff32 seq (s.rd (ALM_CH_FIRST ch) ALM_CH_FIRST_SEQ) ∧ (s.chan ch).recs.find? (fun y => y.seq == seq) = some r ∧ r.damaged = false) ∧
    (State.reset.rdB ALM_CUR_STAT ALM_CUR_STAT_BUSY = false) :=
  ⟨⟨fset ALM_POST_CODE 0 0x0001, by decide +kernel⟩,
  ⟨fset ALM_POST_CODE (fset ALM_POST_PSIZE (fset ALM_POST_CHANNEL 0 528) 14) 0x0102, State.reset, by decide +kernel⟩,
  ⟨fset ALM_POST_CODE (fset ALM_POST_PSIZE (fset ALM_POST_CHANNEL 0 527) 14) 0x12FF, State.reset, by decide +kernel⟩,
  ⟨63, 511, 0x00007FFF, onCore (ten 2) 63 0 511, by decide +kernel⟩, ⟨63, 511, 0x000E8000, onCore (ten 2) 63 0 511, by decide +kernel⟩,
  ⟨7, { ch := 527, code := 0x0102, payload := [], first := 0, last := 0, count := 1, ord := 0, tenant := false }, { State.reset with alm := { State.reset.alm with writing := some (.entry { ch := 527, code := 0x0102, payload := [], first := 0, last := 0, count := 1, ord := 0, tenant := false }) } }, by decide +kernel⟩,
  ⟨{ ch := 527, code := 0x0102, payload := [], first := 0, last := 0, count := 1, ord := 0, tenant := false }, { State.reset with alm := { State.reset.alm with intake := [{ ch := 527, code := 0x0102, payload := [], first := 0, last := 0, count := 1, ord := 0, tenant := false }] } }, by decide +kernel⟩,
  ⟨post7, record7, folds7, by decide +kernel⟩, ⟨fset ALM_CLEAR_CHANNEL 0 512, State.reset, by decide +kernel⟩,
  ⟨fset ALM_CLEAR_CHANNEL 0 511, st [(ALM_CH_CFG 511, ALM_CH_CFG_SIZE, 1)], by decide +kernel⟩,
  ⟨st [(ALM_CUR_STAT, ALM_CUR_STAT_BUSY, 1)], by decide +kernel⟩, ⟨State.reset, by decide +kernel⟩,
  ⟨1, 528, 5, { State.reset with alm := { State.reset.alm with cursorOp := some (1, 528, 5) } }, by decide +kernel⟩,
  ⟨527, 0xFFFFFFFF, { State.reset with alm := { State.reset.alm with cursorOp := some (1, 527, 0xFFFFFFFF) } }, by decide +kernel⟩,
  ⟨527, 0xFFFFFFFF, asking7 2 527 0xFFFFFFFF, by decide +kernel⟩, ⟨527, 3, asking7 3 527 3, by decide +kernel⟩,
  ⟨527, 0, State.reset, by decide +kernel⟩,
  ⟨527, 0, { kind := 1, code := 2, seq := 0, bytes := 48, rep := 1, time := 0, lastTime := 0, payload := [] }, let y := st [(ALM_CH_NEXT 527, ALM_CH_NEXT_SEQ, 1)]; { y with alm := { y.alm with chans := [(527, { recs := [{ kind := 1, code := 2, seq := 0, bytes := 48, rep := 1, time := 0, lastTime := 0, payload := [] }] })] } }, by decide +kernel⟩,
  by decide +kernel⟩

theorem wit_DuplexCommands :
    (∃ (s : State), s.rdB DPX_CMD DPX_CMD_BUSY = false ∧ s.pairMember = true ∧ (s.role = 0 ∨ s.role = 6)) ∧
    (∃ (s : State), s.rdB DPX_CMD DPX_CMD_BUSY = false ∧ s.pairMember = true ∧ (s.role = 0 ∨ s.role = 6)) ∧
    (∃ (s : State), s.rdB DPX_CMD DPX_CMD_BUSY = false ∧ (s.role = 1 ∨ s.role = 2)) ∧
    (∃ (s : State), s.rdB DPX_CMD DPX_CMD_BUSY = false ∧ (s.role = 1 ∨ s.role = 2)) ∧ (∃ (s : State), s.rdB DPX_CMD DPX_CMD_BUSY = true) ∧
    (∃ (s : State), s.rdB DPX_CMD DPX_CMD_BUSY = false ∧ s.role = 2 ∧ s.rdB DPX_CFG DPX_CFG_PREFERRED = true ∧ s.rdB DPX_STAT DPX_STAT_ELIGIBLE = true) ∧
    (∃ (s : State), s.rdB DPX_CMD DPX_CMD_BUSY = false ∧ s.role = 2 ∧ s.rdB DPX_CFG DPX_CFG_PREFERRED = true ∧ s.rdB DPX_STAT DPX_STAT_ELIGIBLE = false) ∧
    (∃ (s : State), s.rdB DPX_CMD DPX_CMD_BUSY = false ∧ s.role ≠ 2) ∧ (∃ (s : State), s.rdB DPX_CMD DPX_CMD_BUSY = false ∧ s.role ≠ 2) ∧
    (∃ (side : Nat) (s : State), s.rdB DPX_CMD DPX_CMD_BUSY = false ∧ side < 2 ∧ s.isReferee = true) ∧
    (∃ (side : Nat) (s : State), s.rdB DPX_CMD DPX_CMD_BUSY = false ∧ side < 2 ∧ s.isReferee = true) ∧
    (∃ (side : Nat) (s : State), s.rdB DPX_CMD DPX_CMD_BUSY = false ∧ side < 2 ∧ s.isReferee = false ∧ s.rdB DPX_REF_STAT (fenceFld side) = false) ∧
    (∃ (s : State), s.rdB DPX_CMD DPX_CMD_BUSY = false ∧ s.isReferee = true ∧ s.refActive ≠ 0) ∧
    (∃ (s : State), s.rdB DPX_CMD DPX_CMD_BUSY = false ∧ s.isReferee = false) ∧
    (∃ (side : Nat) (b : DpxBeat) (s : State), s.rdB DPX_CMD DPX_CMD_BUSY = false ∧ side < 2 ∧ s.isReferee = true ∧ s.beat side = some b ∧ b.role = 2) ∧
    (∃ (side : Nat) (b : DpxBeat) (s : State), s.rdB DPX_CMD DPX_CMD_BUSY = false ∧ side < 2 ∧ s.isReferee = true ∧ s.beat side = some b ∧ b.role = 3) :=
  ⟨⟨dpx 0, by decide +kernel⟩, ⟨dpx 6, by decide +kernel⟩, ⟨dpx 1, by decide +kernel⟩, ⟨dpx 2, by decide +kernel⟩,
  ⟨dpx 1 [(DPX_CMD, DPX_CMD_BUSY, 1)], by decide +kernel⟩,
  ⟨dpx 2 [(DPX_CFG, DPX_CFG_PREFERRED, 1), (DPX_STAT, DPX_STAT_ELIGIBLE, 1)], by decide +kernel⟩,
  ⟨dpx 2 [(DPX_CFG, DPX_CFG_PREFERRED, 1)], by decide +kernel⟩,
  ⟨dpx 1 [(DPX_CFG, DPX_CFG_PREFERRED, 1), (DPX_STAT, DPX_STAT_ELIGIBLE, 1)], by decide +kernel⟩, ⟨dpx 0, by decide +kernel⟩,
  ⟨1, dpx 4 [(DPX_REF_STAT, DPX_REF_STAT_FENCE_B, 1)], by decide +kernel⟩, ⟨0, dpx 4, by decide +kernel⟩, ⟨1, dpx 1, by decide +kernel⟩,
  ⟨let y := dpx 4; y.setRefActive 2, by decide +kernel⟩, ⟨dpx 1, by decide +kernel⟩, ⟨1, beat7 2, beating (dpx 4) 1 2, by decide +kernel⟩,
  ⟨0, beat7 3, beating (dpx 4) 0 3, by decide +kernel⟩⟩

theorem wit_HeartbeatRules :
    (∃ (s : State), s.dpxOn = false) ∧
    (∃ (t : Nat) (b : List Byte) (s : State), s.dpxOn = true ∧ beAt b 12 2 = 0x88B5 ∧ 62 ≤ b.length ∧ byteAt (b.drop 14) 0 = 1 ∧ byteAt (b.drop 14) 1 = 2 ∧ ((s.advance t).grant (s.rd DPX_HB_KEY DPX_HB_KEY_SLOT) ⟨[2], [uVerify]⟩ .publish false).1 ≠ 0) ∧
    (∃ (t : Nat) (b : List Byte) (m : State) (s : State), s.dpxOn = true ∧ beAt b 12 2 = 0x88B5 ∧ 62 ≤ b.length ∧ byteAt (b.drop 14) 0 = 1 ∧ byteAt (b.drop 14) 1 = 2 ∧ (s.advance t).grant (s.rd DPX_HB_KEY DPX_HB_KEY_SLOT) ⟨[2], [uVerify]⟩ .publish false = (0, m) ∧ macTag (m.slot (s.rd DPX_HB_KEY DPX_HB_KEY_SLOT)).value (b.take 46) true = slice (b.drop 14) 32 16 ∧ beAt (b.drop 14) 2 2 = m.rd DPX_CFG DPX_CFG_PAIR ∧ diff32 (beAt (b.drop 14) 8 4) m.dpxRound = 0) ∧
    (∃ (t : Nat) (b : List Byte) (m : State) (s : State), s.dpxOn = true ∧ beAt b 12 2 = 0x88B5 ∧ 62 ≤ b.length ∧ byteAt (b.drop 14) 0 = 1 ∧ byteAt (b.drop 14) 1 = 2 ∧ (s.advance t).grant (s.rd DPX_HB_KEY DPX_HB_KEY_SLOT) ⟨[2], [uVerify]⟩ .publish false = (0, m) ∧ macTag (m.slot (s.rd DPX_HB_KEY DPX_HB_KEY_SLOT)).value (b.take 46) true = slice (b.drop 14) 32 16 ∧ beAt (b.drop 14) 2 2 = m.rd DPX_CFG DPX_CFG_PAIR ∧ diff32 (beAt (b.drop 14) 8 4) m.dpxRound = 0 ∧ m.isReferee = false ∧ m.pairMember = true ∧ beAt (b.drop 14) 4 4 % 16384 = m.rd DPX_PEER DPX_PEER_PEER) ∧
    (∃ (s : State), s.dpx.inbox = []) ∧ (∃ (s : State), s.isReferee = false) ∧
    (∃ (t : Nat) (s : State), s.isReferee = true ∧ s.dpx.windowDone ≠ some (s.advance t).dpxRound ∧ (s.advance t).dpxT (s.advance t).dpxRound + s.rd DPX_REF_CFG DPX_REF_CFG_WINDOW * 1000 ≤ (s.advance t).dom) ∧
    (∃ (s : State), s.isReferee = false) ∧ (∃ (side : Nat) (s : State), s.isReferee = true ∧ side < 2 ∧ s.refActive = side + 1) ∧
    (∃ (side : Nat) (s : State), s.isReferee = true ∧ side < 2 ∧ s.refActive ≠ side + 1 ∧ s.rdB DPX_REF_STAT (fenceFld side) = false) ∧
    (∃ (t : Nat) (r : Nat) (s : State), s.pairMember = true ∧ s.rdB DPX_STAT DPX_STAT_REF_OK = true ∧ s.dpx.refRound = some r ∧ r + s.hRounds ≤ (s.advance t).dpxRound) ∧
    (∃ (s : State), s.rdB DPX_STAT DPX_STAT_REF_OK = false) ∧ (∃ (s : State), s.isReferee = false ∧ s.dpx.askAt = none) ∧
    (∃ (t : Nat) (a : Nat) (s : State), s.isReferee = false ∧ s.pairMember = true ∧ s.fenced = false ∧ s.dpx.askAt = some a ∧ a + s.negWait ≤ max s.now t ∧ s.rdB DPX_CFG DPX_CFG_SOLO_OK = true ∧ s.role ≠ 5) ∧
    (∃ (t : Nat) (a : Nat) (s : State), s.isReferee = false ∧ s.pairMember = true ∧ s.fenced = false ∧ s.dpx.askAt = some a ∧ a + s.negWait ≤ max s.now t ∧ s.rdB DPX_CFG DPX_CFG_SOLO_OK = true ∧ s.role ≠ 5) ∧
    (∃ (t : Nat) (a : Nat) (s : State), s.isReferee = false ∧ s.pairMember = true ∧ s.fenced = false ∧ s.dpx.askAt = some a ∧ a + s.negWait ≤ max s.now t ∧ s.rdB DPX_CFG DPX_CFG_SOLO_OK = true ∧ s.role = 5) ∧
    (∃ (t : Nat) (a : Nat) (s : State), s.isReferee = false ∧ s.pairMember = true ∧ s.fenced = false ∧ s.dpx.askAt = some a ∧ a + s.negWait ≤ max s.now t ∧ s.rdB DPX_CFG DPX_CFG_SOLO_OK = false) :=
  ⟨⟨State.reset, by decide +kernel⟩, ⟨7, frame8, dpx 4, by decide +kernel⟩,
  ⟨7, frame8, (State.grant (key8.advance 7) 8 ⟨[2], [uVerify]⟩ .publish false).2, key8, by decide +kernel, by decide +kernel, by decide +kernel, by decide +kernel, by decide +kernel, rfl, rfl, by decide +kernel, by decide +kernel⟩,
  ⟨7, frame8, (State.grant ((sw key8 [(DPX_STAT, fset DPX_STAT_ROLE 0 1)]).advance 7) 8 ⟨[2], [uVerify]⟩ .publish false).2, sw key8 [(DPX_STAT, fset DPX_STAT_ROLE 0 1)], by decide +kernel, by decide +kernel, by decide +kernel, by decide +kernel, by decide +kernel, rfl, rfl, by decide +kernel, by decide +kernel, by decide +kernel, by decide +kernel, by decide +kernel⟩,
  ⟨dpx 1, by decide +kernel⟩, ⟨State.reset, by decide +kernel⟩, ⟨1000000000000, dpx 4, by decide +kernel⟩, ⟨dpx 1, by decide +kernel⟩,
  ⟨1, let y := dpx 4; y.setRefActive 2, by decide +kernel⟩, ⟨1, let y := dpx 4; y.setRefActive 1, by decide +kernel⟩,
  ⟨1000000000000, 0, let y := dpx 1 [(DPX_STAT, DPX_STAT_REF_OK, 1)]; { y with dpx := { y.dpx with refRound := some 0 } }, by decide +kernel⟩,
  ⟨dpx 1, by decide +kernel⟩, ⟨dpx 1, by decide +kernel⟩,
  ⟨10000000000, 0, let y := dpx 6 [(DPX_CFG, DPX_CFG_SOLO_OK, 1)]; { y with dpx := { y.dpx with askAt := some 0, asking := true } }, by decide +kernel⟩,
  ⟨10000000000, 0, let y := dpx 6 [(DPX_CFG, DPX_CFG_SOLO_OK, 1)]; { y with dpx := { y.dpx with askAt := some 0, asking := true } }, by decide +kernel⟩,
  ⟨10000000000, 0, let y := dpx 5 [(DPX_CFG, DPX_CFG_SOLO_OK, 1)]; { y with dpx := { y.dpx with askAt := some 0, asking := true } }, by decide +kernel⟩,
  ⟨10000000000, 0, let y := dpx 6; { y with dpx := { y.dpx with askAt := some 0, asking := true } }, by decide +kernel⟩⟩

theorem wit_RoleChanges :
    (∃ (s : State), s.dpx.msg = none) ∧ (∃ (m : DpxMsg) (s : State), s.dpx.msg = some m ∧ m.msg = 1 ∧ (s.role ≠ 2 ∨ s.fenced = true)) ∧
    (∃ (m : DpxMsg) (s : State), s.dpx.msg = some m ∧ m.msg = 1 ∧ (s.role ≠ 2 ∨ s.fenced = true)) ∧
    (∃ (m : DpxMsg) (s : State), s.dpx.msg = some m ∧ m.msg = 1 ∧ s.role = 2 ∧ s.fenced = false) ∧
    (∃ (m : DpxMsg) (s : State), s.dpx.msg = some m ∧ m.msg = 2 ∧ s.dpx.asking = false) ∧
    (∃ (m : DpxMsg) (s : State), s.dpx.msg = some m ∧ m.msg = 2 ∧ s.dpx.asking = true ∧ s.fenced = false ∧ m.arg / 65536 % 8 = 3) ∧
    (∃ (m : DpxMsg) (s : State), s.dpx.msg = some m ∧ m.msg = 3 ∧ (s.role = 1 ∨ s.role = 2)) ∧
    (∃ (m : DpxMsg) (s : State), s.dpx.msg = some m ∧ m.msg = 3 ∧ (s.role = 1 ∨ s.role = 2)) ∧
    (∃ (m : DpxMsg) (s : State), s.dpx.msg = some m ∧ m.msg = 3 ∧ s.role ≠ 1 ∧ s.role ≠ 2) ∧
    (∃ (s : State), s.role = 2 ∧ s.rdB DPX_CFG DPX_CFG_PREFERRED = true ∧ s.rd DPX_REVERT DPX_REVERT_ROUNDS ≠ 0 ∧ s.rd DPX_REVERT DPX_REVERT_ROUNDS ≤ s.dpx.revertRounds ∧ s.rdB DPX_STAT DPX_STAT_REF_OK = true) ∧
    (∃ (s : State), s.rd DPX_REVERT DPX_REVERT_ROUNDS = 0) ∧ (∃ (s : State), s.dpx.takeOver = none) ∧
    (∃ (g : Nat) (ts : List Nat) (k : Nat) (s : State), s.dpx.takeOver = some (g, ts) ∧ s.tim.lastRound = some k ∧ g ≤ k ∧ s.sch.items = [] ∧ s.sch.runs = []) ∧
    (∃ (g : Nat) (ts : List Nat) (k : Nat) (s : State), s.dpx.takeOver = some (g, ts) ∧ s.tim.lastRound = some k ∧ g ≤ k ∧ s.sch.items = [] ∧ s.sch.runs = []) :=
  ⟨⟨dpx 1, by decide +kernel⟩, ⟨{ msg := 1, epoch := 1, target := 0, arg := 0 }, told (dpx 1) 1 0, by decide +kernel⟩,
  ⟨{ msg := 1, epoch := 1, target := 0, arg := 0 }, told (dpx 2 [(OUT_STAT, OUT_STAT_FENCED, 1)]) 1 0, by decide +kernel⟩,
  ⟨{ msg := 1, epoch := 1, target := 0, arg := 0 }, told (dpx 2) 1 0, by decide +kernel⟩,
  ⟨{ msg := 2, epoch := 1, target := 0, arg := 0 }, told (dpx 2) 2 0, by decide +kernel⟩,
  ⟨{ msg := 2, epoch := 1, target := 0, arg := 196608 }, let y := told (dpx 6) 2 196608; { y with dpx := { y.dpx with asking := true } }, by decide +kernel⟩,
  ⟨{ msg := 3, epoch := 1, target := 0, arg := 0 }, told (dpx 1) 3 0, by decide +kernel⟩,
  ⟨{ msg := 3, epoch := 1, target := 0, arg := 0 }, told (dpx 2) 3 0, by decide +kernel⟩,
  ⟨{ msg := 3, epoch := 1, target := 0, arg := 0 }, told (dpx 3) 3 0, by decide +kernel⟩,
  ⟨let y := dpx 2 [(DPX_CFG, DPX_CFG_PREFERRED, 1), (DPX_REVERT, DPX_REVERT_ROUNDS, 3), (DPX_STAT, DPX_STAT_REF_OK, 1)]; { y with dpx := { y.dpx with revertRounds := 3 } }, by decide +kernel⟩,
  ⟨let y := dpx 2 [(DPX_CFG, DPX_CFG_PREFERRED, 1), (DPX_REVERT, DPX_REVERT_ROUNDS, 0), (DPX_STAT, DPX_STAT_REF_OK, 1)]; { y with dpx := { y.dpx with revertRounds := 3 } }, by decide +kernel⟩,
  ⟨dpx 1, by decide +kernel⟩,
  ⟨3, [], 3, let y := dpx 1; { y with dpx := { y.dpx with takeOver := some (3, []) }, tim := { y.tim with lastRound := some 3 } }, by decide +kernel⟩,
  ⟨3, [], 3, let y := dpx 1; { y with dpx := { y.dpx with takeOver := some (3, []) }, tim := { y.tim with lastRound := some 3 } }, by decide +kernel⟩⟩

theorem wit_CopiesAndVigil :
    (∃ (s : State), s.dpx.acks = []) ∧
    (∃ (r : Nat) (e : Nat) (n : Nat) (st : Nat) (rest : List (Nat × Nat × Nat × Nat)) (s : State), s.dpx.acks = (r, e, n, st) :: rest ∧ (s.dpx.copy = none ∨ s.role ≠ 1 ∨ ∃ c, s.dpx.copy = some c ∧ st ≠ 0 ∧ c.pass = false)) ∧
    (∃ (r : Nat) (e : Nat) (n : Nat) (st : Nat) (rest : List (Nat × Nat × Nat × Nat)) (s : State), s.dpx.acks = (r, e, n, st) :: rest ∧ (s.dpx.copy = none ∨ s.role ≠ 1 ∨ ∃ c, s.dpx.copy = some c ∧ st ≠ 0 ∧ c.pass = false)) ∧
    (∃ (r : Nat) (e : Nat) (n : Nat) (st : Nat) (rest : List (Nat × Nat × Nat × Nat)) (s : State), s.dpx.acks = (r, e, n, st) :: rest ∧ (s.dpx.copy = none ∨ s.role ≠ 1 ∨ ∃ c, s.dpx.copy = some c ∧ st ≠ 0 ∧ c.pass = false)) ∧
    (∃ (n : Nat) (c : DpxCopy) (st : Nat) (rest : List (Nat × Nat × Nat × Nat)) (s : State), s.dpx.acks = (round32 c.round, s.epoch, n, st) :: rest ∧ s.dpx.copy = some c ∧ s.role = 1 ∧ c.pass = true ∧ st ≠ 0) ∧
    (∃ (n : Nat) (c : DpxCopy) (rest : List (Nat × Nat × Nat × Nat)) (s : State), s.dpx.acks = (round32 c.round, s.epoch, n, 0) :: rest ∧ s.dpx.copy = some c ∧ s.role = 1 ∧ c.pass = false ∧ c.swap = false ∧ c.final = false ∧ s.out.holding = false) ∧
    (∃ (n : Nat) (c : DpxCopy) (rest : List (Nat × Nat × Nat × Nat)) (s : State), s.dpx.acks = (round32 c.round, s.epoch, n, 0) :: rest ∧ s.dpx.copy = some c ∧ s.role = 1 ∧ c.pass = false ∧ c.swap = false ∧ c.final = false ∧ s.out.holding = false) ∧
    (∃ (s : State), s.dpx.copy = none) ∧
    (∃ (t : Nat) (c : DpxCopy) (s : State), s.dpx.copy = some c ∧ s.twinUp = true ∧ (s.advance t).dom < c.deadline) ∧
    (∃ (c : DpxCopy) (s : State), s.dpx.copy = some c ∧ s.twinUp = false ∧ c.pass = true) ∧
    (∃ (t : Nat) (c : DpxCopy) (s : State), s.dpx.copy = some c ∧ s.twinUp = true ∧ c.pass = false ∧ c.deadline ≤ (s.advance t).dom ∧ c.swap = false) ∧
    (∃ (s : State), s.dpx.ready = []) ∧
    (∃ (t : Nat) (h : CopyHead) (n : Nat) (m : State) (s : State), (s.advance t).applyReady = (some (h, n), m) ∧ h.swap = false) ∧
    (∃ (b : List Byte) (void : Bool) (rest : List (List Byte × Bool)) (h : CopyHead) (s : State), s.dpx.ready = (b, void) :: rest ∧ readCopy b = some h ∧ h.resync = false ∧ h.final = false ∧ s.role ≠ 2) ∧
    (∃ (core : Nat) (s : State), s.corePresent core = true ∧ s.runOf core = none) ∧ (∃ (core : Nat) (r : SchRun) (s : State), s.runOf core = some r) :=
  ⟨⟨dpx 1, by decide +kernel⟩,
  ⟨0, 0, 0, 1, [], let y := dpx 1; { y with dpx := { y.dpx with acks := [(0, 0, 0, 1)], copy := some copy7 } }, by decide +kernel⟩,
  ⟨0, 0, 0, 0, [], let y := dpx 2; { y with dpx := { y.dpx with acks := [(0, 0, 0, 0)], copy := some copy7 } }, by decide +kernel⟩,
  ⟨0, 0, 0, 0, [], let y := dpx 1; { y with dpx := { y.dpx with acks := [(0, 0, 0, 0)] } }, by decide +kernel⟩,
  ⟨0, { copy7 with pass := true }, 1, [], let y := dpx 1; { y with dpx := { y.dpx with acks := [(0, y.epoch, 0, 1)], copy := some { copy7 with pass := true } } }, by decide +kernel⟩,
  ⟨8, copy7, [], let y := dpx 1; { y with dpx := { y.dpx with acks := [(0, 0, 8, 0)], copy := some copy7 } }, by decide +kernel⟩,
  ⟨1000000, copy7, [(1, 1, 1, 1)], let y := dpx 1; { y with dpx := { y.dpx with acks := [(0, 0, 1000000, 0), (1, 1, 1, 1)], copy := some copy7 } }, by decide +kernel⟩,
  ⟨dpx 1, by decide +kernel⟩,
  ⟨7, { copy7 with deadline := 8 }, copying (dpx 1 [(PRT_TWIN_STAT, PRT_TWIN_STAT_STATE, 3)]) { copy7 with deadline := 8 }, by decide +kernel⟩,
  ⟨{ copy7 with pass := true }, copying (dpx 1) { copy7 with pass := true }, by decide +kernel⟩,
  ⟨7, { copy7 with deadline := 7 }, copying (dpx 1 [(PRT_TWIN_STAT, PRT_TWIN_STAT_STATE, 3)]) { copy7 with deadline := 7 }, by decide +kernel⟩,
  ⟨dpx 2, by decide +kernel⟩,
  ⟨7, ((readCopy (bytes7 0)).getD { round := 0, base := 0, epoch := 0, swap := false, final := false, resync := false, whole := true, segs := [] }), (bytes7 0).length, (((dpx 2).advance 7 |> fun y => ({ y with dpx := { y.dpx with ready := [(bytes7 0, false)] } } : State)).applyReady).2, let y := dpx 2; { y with dpx := { y.dpx with ready := [(bytes7 0, false)] } }, by decide +kernel⟩,
  ⟨bytes7 0, false, [], ((readCopy (bytes7 0)).getD { round := 0, base := 0, epoch := 0, swap := false, final := false, resync := false, whole := true, segs := [] }), let y := dpx 1; { y with dpx := { y.dpx with ready := [(bytes7 0, false)] } }, by decide +kernel⟩,
  ⟨63, State.reset, by decide +kernel⟩, ⟨63, run1 63 0 511, onCore (dpx 1) 63 0 511, by decide +kernel⟩⟩

theorem wit_KeyCreation :
    (∃ (l : List Byte) (c : List Byte) (s : State), KeyGranted s 1 false false ∧ s.deriveInput 0 = some (l, c) ∧ s.createStatus s.opKey [2] = 0) ∧
    (∃ (l : List Byte) (c : List Byte) (s : State), KeyGranted s 1 false false ∧ s.deriveInput 0 = some (l, c) ∧ s.createStatus s.opKey [2] ≠ 0) ∧
    (∃ (bs : List Byte) (s : State), KeyGranted s 2 false true ∧ s.opInput 32 = some bs ∧ s.createStatus s.opKey [4] = 0 ∧ s.askedSlot.type = 4) ∧
    (∃ (bs : List Byte) (s : State), KeyGranted s 2 false false ∧ s.opInput 40 = some bs ∧ s.createStatus s.opKey [2, 3] = 0 ∧ s.askedSlot.type = 2) ∧
    (∃ (s : State), s.opFree = true ∧ s.opLen = 0 ∧ s.bufBad s.opOut 64 = false ∧ s.key.entropyBad = true) ∧
    (∃ (t : Nat) (v : BitVec 256) (g : State) (s : State), s.opFree = true ∧ s.opLen = 0 ∧ s.bufBad s.opOut 64 = false ∧ s.key.entropyBad = false ∧ (s.advance t).drawScalar = (v, g) ∧ g.grantStatus g.opKey (keyNeed 4 false false) .steward g.stewardSecure = 0 ∧ g.createStatus g.opKey [3] = 0) ∧
    (∃ (t : Nat) (v : BitVec 256) (g : State) (s : State), s.opFree = true ∧ s.opLen = 0 ∧ s.bufBad s.opOut 64 = false ∧ s.key.entropyBad = false ∧ (s.advance t).drawScalar = (v, g) ∧ g.grantStatus g.opKey (keyNeed 4 false false) .steward g.stewardSecure = 0 ∧ g.createStatus g.opKey [3] = 0) ∧
    (∃ (l : List Byte) (c : List Byte) (s : State), KeyGranted s 5 false false ∧ s.deriveInput 64 = some (l, c) ∧ s.key.entropyBad = false ∧ s.createStatus s.opKey [2] = 0) ∧
    (∃ (o : KeyOp) (x : Nat) (k : KeySlot) (s : State), s.key.op = some o ∧ o.op = 1 ∧ o.status = 0 ∧ o.writes = [] ∧ o.creates = some (x, k)) ∧
    (∃ (o : KeyOp) (x : Nat) (k : KeySlot) (s : State), s.key.op = some o ∧ o.op = 1 ∧ o.status = 0 ∧ o.writes = [] ∧ o.creates = some (x, k)) :=
  ⟨⟨[], [], keys 8 4095 2 4, by decide +kernel⟩, ⟨[], [], keys 8 5 2 4, by decide +kernel⟩,
  ⟨List.replicate 32 0, keys 8 4095 4 32, by decide +kernel⟩, ⟨List.replicate 40 0, keys 8 4095 2 40, by decide +kernel⟩,
  ⟨let y := keys 8 4095 3 0; { y with key := { y.key with entropyBad := true } }, by decide +kernel⟩,
  ⟨7, ((keys 8 4095 3 0).advance 7).drawScalar.1, ((keys 8 4095 3 0).advance 7).drawScalar.2, keys 8 4095 3 0, by decide +kernel, by decide +kernel, by decide +kernel, by decide +kernel, rfl, by decide +kernel, by decide +kernel⟩,
  ⟨7, ((keys 8 4095 3 0).advance 7).drawScalar.1, ((keys 8 4095 3 0).advance 7).drawScalar.2, keys 8 4095 3 0, by decide +kernel, by decide +kernel, by decide +kernel, by decide +kernel, rfl, by decide +kernel, by decide +kernel⟩,
  ⟨[], [], keys 9 4095 2 68, by decide +kernel⟩,
  ⟨{ op7 1 with creates := some (4095, {}) }, 4095, {}, busyKey { op7 1 with creates := some (4095, {}) }, by decide +kernel⟩,
  ⟨{ op7 1 with creates := some (4095, { type := 2 }) }, 4095, { type := 2 }, busyKey { op7 1 with creates := some (4095, { type := 2 }) }, by decide +kernel⟩⟩

theorem wit_KeyUse :
    (∃ (s : State), KeyGranted s 3 false false ∧ s.opLen = 0 ∧ s.bufBad s.opOut 40 = false ∧ fixedSlot s.opDst = false ∧ chainOk s.slot 10 s.opDst = true ∧ (s.slot s.opDst).secure = false ∧ (s.slot s.opDst).type = 2 ∧ (s.slot s.opDst).exportable = true) ∧
    (∃ (s : State), KeyGranted s 6 false false ∧ s.opLen ≤ 4096 ∧ s.bufBad s.opIn s.opLen = false ∧ s.bufBad s.opOut 16 = false) ∧
    (∃ (s : State), KeyGranted s 7 false false ∧ 16 ≤ s.opLen ∧ s.opLen - 16 ≤ 4096 ∧ s.bufBad s.opIn s.opLen = false) ∧
    (∃ (iv : List Byte) (aad : List Byte) (data : List Byte) (tag : List Byte) (s : State), s.gcmInput 0 = some (iv, aad, data, tag) ∧ KeyGranted s 8 data.isEmpty false ∧ s.bufBad s.opOut (data.length + 16) = false) ∧
    (∃ (iv : List Byte) (aad : List Byte) (data : List Byte) (tag : List Byte) (s : State), s.gcmInput 0 = some (iv, aad, data, tag) ∧ KeyGranted s 8 data.isEmpty false ∧ s.bufBad s.opOut (data.length + 16) = false) ∧
    (∃ (iv : List Byte) (aad : List Byte) (ct : List Byte) (tag : List Byte) (s : State), s.gcmInput 16 = some (iv, aad, ct, tag) ∧ KeyGranted s 9 ct.isEmpty false ∧ s.bufBad s.opOut ct.length = false) ∧
    (∃ (iv : List Byte) (aad : List Byte) (ct : List Byte) (tag : List Byte) (s : State), s.gcmInput 16 = some (iv, aad, ct, tag) ∧ KeyGranted s 9 ct.isEmpty false ∧ s.bufBad s.opOut ct.length = false) ∧
    (∃ (bs : List Byte) (s : State), KeyGranted s 10 false false ∧ s.opInput 160 = some bs) ∧ (∃ (s : State), s.opFree = false) ∧
    (∃ (s : State), s.opFree = true ∧ 4096 < s.opLen) ∧
    (∃ (o : KeyOp) (s : State), s.key.op = some o ∧ o.op = 7 ∧ o.creates = none ∧ o.writes = [] ∧ o.status = stKeyTagBad) ∧
    (∃ (s : State), s.key.op = none) :=
  ⟨⟨keys 8 8 2 0, by decide +kernel⟩, ⟨keys 8 4095 2 4096, by decide +kernel⟩, ⟨keys 8 4095 2 4112, by decide +kernel⟩,
  ⟨List.replicate 12 0, [], List.replicate 4 0, [], keys 8 4095 2 20, by decide +kernel⟩,
  ⟨List.replicate 12 0, [], [], [], keys 8 4095 2 16, by decide +kernel⟩,
  ⟨List.replicate 12 0, [], List.replicate 4 0, List.replicate 16 0, keys 8 4095 2 36, by decide +kernel⟩,
  ⟨List.replicate 12 0, [], [], List.replicate 16 0, keys 8 4095 2 32, by decide +kernel⟩,
  ⟨List.replicate 160 0, keys 10 4095 2 160, by decide +kernel⟩, ⟨busyKey (op7 12), by decide +kernel⟩, ⟨keys 8 4095 2 4097, by decide +kernel⟩,
  ⟨{ op7 7 with status := stKeyTagBad }, busyKey { op7 7 with status := stKeyTagBad }, by decide +kernel⟩, ⟨keys 8 4095 2 4, by decide +kernel⟩⟩

theorem wit_KeyRemoval :
    (∃ (s : State), s.opFree = true ∧ s.key.emptied = false ∧ s.invalidateStatus s.opDst s.stewardSecure = 0) ∧
    (∃ (s : State), s.opFree = true ∧ s.key.emptied = false ∧ s.invalidateStatus s.opDst s.stewardSecure = 0) ∧
    (∃ (s : State), s.opFree = true ∧ s.key.emptied = false ∧ s.invalidateStatus s.opDst s.stewardSecure = 0) ∧
    (∃ (s : State), s.opFree = true ∧ s.key.emptied = false ∧ s.invalidateStatus s.opDst s.stewardSecure = 0) ∧
    (∃ (s : State), s.opFree = true ∧ s.key.emptied = false ∧ fixedSlot s.opDst = true) ∧ (∃ (o : KeyOp) (s : State), s.key.op = some o ∧ o.op = 11) ∧
    (∃ (o : KeyOp) (s : State), s.key.op = some o ∧ o.op = 11 ∧ s.key.coreOps = []) ∧ (∃ (s : State), s.key.op = none) ∧
    (∃ (s : State), s.opFree = true ∧ s.key.emptied = false) ∧ (∃ (s : State), s.opFree = true ∧ s.key.emptied = false) ∧
    (∃ (o : KeyOp) (s : State), s.key.op = some o ∧ o.op = 12 ∧ o.status = 0) ∧
    (∃ (s : State), s.opFree = true ∧ s.key.emptied = false ∧ s.tenantsActive = true) ∧
    (∃ (s : State), s.opFree = true ∧ s.key.emptied = false ∧ s.tenantsActive = false) ∧
    (∃ (o : KeyOp) (s : State), s.key.op = some o ∧ o.op = 13 ∧ o.status = 0) ∧ (∃ (x : Nat), 6 ≤ x ∧ x < 4096) ∧ (∃ (x : Nat), 6 ≤ x ∧ x < 4096) ∧
    (∃ (x : Nat), x < 6) ∧ (∃ (s : State), s.opFree = true ∧ s.key.emptied = false ∧ (s.slot s.opDst).gen = 0xFFFFFFFF) ∧
    (∃ (l : List Byte) (c : List Byte) (s : State), KeyGranted s 1 false false ∧ s.deriveInput 0 = some (l, c) ∧ (s.slot s.opDst).type = 0 ∧ (s.slot s.opDst).gen = 0xFFFFFFFF) ∧
    (∃ (pub : Bool) (bs : List Byte) (s : State), KeyGranted s 2 false pub ∧ (s.opInput (if pub then 32 else 40) = some bs) ∧ (s.slot s.opDst).type = 0 ∧ (s.slot s.opDst).gen = 0xFFFFFFFF) ∧
    (∃ (pub : Bool) (bs : List Byte) (s : State), KeyGranted s 2 false pub ∧ (s.opInput (if pub then 32 else 40) = some bs) ∧ (s.slot s.opDst).type = 0 ∧ (s.slot s.opDst).gen = 0xFFFFFFFF) ∧
    (∃ (t : Nat) (v : BitVec 256) (g : State) (s : State), s.opFree = true ∧ s.opLen = 0 ∧ s.bufBad s.opOut 64 = false ∧ s.key.entropyBad = false ∧ (s.advance t).drawScalar = (v, g) ∧ g.grantStatus g.opKey (keyNeed 4 false false) .steward g.stewardSecure = 0 ∧ (s.slot s.opDst).type = 0 ∧ (s.slot s.opDst).gen = 0xFFFFFFFF) ∧
    (∃ (l : List Byte) (c : List Byte) (s : State), KeyGranted s 5 false false ∧ s.deriveInput 64 = some (l, c) ∧ s.key.entropyBad = false ∧ (s.slot s.opDst).type = 0 ∧ (s.slot s.opDst).gen = 0xFFFFFFFF) :=
  ⟨⟨keys 8 8 2 0, by decide +kernel⟩, ⟨keys 8 4095 2 0, by decide +kernel⟩, ⟨keys 8 8 2 0, by decide +kernel⟩, ⟨keys 8 4095 2 0, by decide +kernel⟩,
  ⟨keys 8 5 2 0, by decide +kernel⟩, ⟨op7 11, busyKey (op7 11), by decide +kernel⟩, ⟨op7 11, busyKey (op7 11), by decide +kernel⟩,
  ⟨keys 8 8 2 0, by decide +kernel⟩, ⟨keys 8 8 2 0, by decide +kernel⟩, ⟨keys 8 8 2 0, by decide +kernel⟩,
  ⟨op7 12, busyKey (op7 12), by decide +kernel⟩, ⟨keys 8 8 2 0 [(TEN_STATE 511, TEN_STATE_STATE, 2)], by decide +kernel⟩,
  ⟨keys 8 8 2 0, by decide +kernel⟩, ⟨op7 13, busyKey (op7 13), by decide +kernel⟩, ⟨4095, by decide +kernel⟩, ⟨6, by decide +kernel⟩,
  ⟨5, by decide +kernel⟩,
  ⟨let y := keys 8 4095 2 0; { y with key := { y.key with slots := y.key.slots ++ [(4095, { gen := 0xFFFFFFFF })] } }, by decide +kernel⟩,
  ⟨[], [], let y := keys 8 4095 2 4; { y with key := { y.key with slots := y.key.slots ++ [(4095, { gen := 0xFFFFFFFF })] } }, by decide +kernel⟩,
  ⟨true, List.replicate 32 0, let y := keys 8 4095 4 32; { y with key := { y.key with slots := y.key.slots ++ [(4095, { gen := 0xFFFFFFFF })] } }, by decide +kernel⟩,
  ⟨false, List.replicate 40 0, let y := keys 8 4095 2 40; { y with key := { y.key with slots := y.key.slots ++ [(4095, { gen := 0xFFFFFFFF })] } }, by decide +kernel⟩,
  ⟨7, ((let y := keys 8 4095 3 0; ({ y with key := { y.key with slots := y.key.slots ++ [(4095, { gen := 0xFFFFFFFF })] } } : State)).advance 7).drawScalar.1, ((let y := keys 8 4095 3 0; ({ y with key := { y.key with slots := y.key.slots ++ [(4095, { gen := 0xFFFFFFFF })] } } : State)).advance 7).drawScalar.2, (let y := keys 8 4095 3 0; ({ y with key := { y.key with slots := y.key.slots ++ [(4095, { gen := 0xFFFFFFFF })] } } : State)), by decide +kernel, by decide +kernel, by decide +kernel, by decide +kernel, rfl, by decide +kernel, by decide +kernel, by decide +kernel⟩,
  ⟨[], [], let y := keys 9 4095 2 68; { y with key := { y.key with slots := y.key.slots ++ [(4095, { gen := 0xFFFFFFFF })] } }, by decide +kernel⟩⟩

theorem wit_CoreKeyCommands :
    (∃ (core : Nat) (n : Nat) (h : Nat) (src : List Nat) (aad : List Nat) (dst : List Nat) (s : State), TwKeyReady s core n h 6 0 false src aad dst) ∧
    (∃ (core : Nat) (n : Nat) (h : Nat) (src : List Nat) (aad : List Nat) (dst : List Nat) (s : State), TwKeyReady s core n h 7 0 false src aad dst) ∧
    (∃ (core : Nat) (n : Nat) (h : Nat) (src : List Nat) (aad : List Nat) (dst : List Nat) (s : State), TwKeyReady s core n h 8 (s.keyStage core).len ((s.keyStage core).len == 0) src aad dst) ∧
    (∃ (core : Nat) (n : Nat) (h : Nat) (src : List Nat) (aad : List Nat) (dst : List Nat) (s : State), TwKeyReady s core n h 9 (s.keyStage core).len ((s.keyStage core).len == 0) src aad dst) ∧
    (∃ (core : Nat) (n : Nat) (s : State), s.coreTenant core = some n ∧ (∀ x ∈ s.key.coreOps, x.1 ≠ core) ∧ 4096 < (s.keyStage core).len) ∧
    (∃ (core : Nat) (s : State), s.coreTenant core = none) ∧
    (∃ (core : Nat) (o : KeyOp) (s : State), s.key.coreOps = [(core, o)] ∧ o.creates = none ∧ o.writes = [] ∧ o.status = 0) :=
  ⟨⟨63, 511, 31, [], [], [], coreKey 0, by decide +kernel⟩, ⟨63, 511, 31, [], [], [], coreKey 0, by decide +kernel⟩,
  ⟨63, 511, 31, [], [], [], coreKey 0, by decide +kernel⟩, ⟨63, 511, 31, [], [], [], coreKey 0, by decide +kernel⟩,
  ⟨63, 511, coreKey 4097, by decide +kernel⟩, ⟨63, State.reset, by decide +kernel⟩,
  ⟨63, { op7 6 with tag := [1, 2] }, let y := coreKey 0; { y with key := { y.key with coreOps := [(63, { op7 6 with tag := [1, 2] })] } }, by decide +kernel⟩⟩

theorem wit_TamperRules :
    (∃ (n : Nat) (s : State), s.tamperBit n 0 = false) ∧
    (∃ (n : Nat) (s : State), n < 4 ∧ s.tamperBit n 0 = true ∧ s.key.live.testBit n = false ∧ s.lc ≠ 3 ∧ s.sys.dormant = 0 ∧ s.sys.pwrReq = true ∧ s.sys.porLow = false ∧ s.sys.rstLow = false ∧ s.sys.advent = none) ∧
    (∃ (n : Nat) (s : State), n < 4 ∧ s.tamperBit n 0 = true ∧ s.key.live.testBit n = false ∧ s.lc ≠ 3 ∧ s.sys.dormant = 0 ∧ s.sys.pwrReq = true ∧ s.sys.porLow = false ∧ s.sys.rstLow = false ∧ s.sys.advent = none) ∧
    (∃ (n : Nat), 4 ≤ n) ∧ (∃ (n : Nat), n < 4) ∧ (∃ (s : State), s.key.vbatLow = false) ∧ (∃ (s : State), s.key.vbatLow = true ∧ s.lc = 0) ∧
    (∃ (s : State), s.key.vbatLow = true ∧ s.lc = 2 ∧ s.sys.dormant = 1) :=
  ⟨⟨3, State.reset, by decide +kernel⟩, ⟨3, let y := running [(KEY_CTRL, KEY_CTRL_EN, 1)]; sw y [(KEY_TAMPER_CFG, 0x01010101)], by decide +kernel⟩,
  ⟨3, let y := running [(KEY_CTRL, KEY_CTRL_EN, 1)]; sw y [(KEY_TAMPER_CFG, 0x01010101)], by decide +kernel⟩, ⟨4, by decide +kernel⟩,
  ⟨3, by decide +kernel⟩, ⟨State.reset, by decide +kernel⟩,
  ⟨let y := keys 8 8 2 0; { y with key := { y.key with vbatLow := true } }, by decide +kernel⟩,
  ⟨let y := keys 8 8 2 0; { y with key := { y.key with vbatLow := true }, fuses := { y.fuses with lc := 2, tamper := 0x01010101 }, sys := { y.sys with dormant := 1 } }, by decide +kernel⟩⟩

theorem wit_BankStates :
    (∃ (n : Nat) (w : BitVec 32) (s : State), s.handoverOk n w = true) ∧ (∃ (n : Nat) (w : BitVec 32) (s : State), s.handoverOk n w = false) ∧
    (∃ (n : Nat) (s : State), n < 16 ∧ s.bankState n = 2 ∧ s.rdB (MEM_BANK_OWNER n) MEM_BANK_OWNER_ZERO = true) ∧
    (∃ (n : Nat) (s : State), n < 16 ∧ s.bankState n = 2 ∧ s.rdB (MEM_BANK_OWNER n) MEM_BANK_OWNER_ZERO = false) ∧
    (∃ (n : Nat) (s : State), n < 16 ∧ s.bankState n = 2 ∧ s.rdB (MEM_BANK_OWNER n) MEM_BANK_OWNER_ZERO = false) ∧
    (∃ (n : Nat) (s : State), s.bankState n ≠ 2) ∧ (∃ (n : Nat) (s : State), n < 16 ∧ s.bankState n = 3) ∧
    (∃ (n : Nat) (s : State), n < 16 ∧ s.bankState n = 0) ∧ (∃ (n : Nat) (s : State), n < 16 ∧ s.bankState n = 1) ∧
    (∃ (n : Nat) (s : State), n < 16 ∧ s.bankState n = 4) ∧ (∃ (n : Nat) (f : Nat) (s : State), n < 16 ∧ s.bankState n = 4 ∧ f < 16) ∧
    (∃ (n : Nat) (s : State), s.bankState n ≠ 4) :=
  ⟨⟨15, fset MEM_BANK_OWNER_KIND 0 4, bank7 0, by decide +kernel⟩, ⟨15, fset MEM_BANK_OWNER_KIND 0 4, bank7 4, by decide +kernel⟩,
  ⟨15, bank7 2 [(MEM_BANK_OWNER 15, MEM_BANK_OWNER_ZERO, 1)], by decide +kernel⟩, ⟨15, bank7 2, by decide +kernel⟩,
  ⟨15, bank7 2 [(MEM_BANK_OWNER 15, MEM_BANK_OWNER_KIND, 2)], by decide +kernel⟩, ⟨15, bank7 3, by decide +kernel⟩,
  ⟨15, let y := bank7 3; { y with mem := [(0x40000000 + 0x200000 * 15, 1), (0x42000000 - 1, 1)] }, by decide +kernel⟩,
  ⟨15, bank7 0, by decide +kernel⟩, ⟨15, bank7 1, by decide +kernel⟩, ⟨15, bank7 4, by decide +kernel⟩, ⟨15, 15, bank7 4, by decide +kernel⟩,
  ⟨15, bank7 1, by decide +kernel⟩⟩

theorem wit_MemoryAccesses :
    (∃ (req : MemReq) (a : Nat) (len : Nat) (n : Nat) (s : State), req.direct = true ∧ bankForm a len = true ∧ a / 16 = (a + len - 1) / 16 ∧ bankOf a len = some n ∧ s.portAServes n req = true ∧ s.anyBad a len = false) ∧
    (∃ (req : MemReq) (a : Nat) (bs : List (Byte)) (n : Nat) (s : State), req.direct = true ∧ bankForm a bs.length = true ∧ a / 16 = (a + bs.length - 1) / 16 ∧ bankOf a bs.length = some n ∧ s.portAServes n req = true ∧ s.anyBad a bs.length = false) ∧
    (∃ (req : MemReq) (a : Nat) (len : Nat), req.direct = true ∧ bankForm a len = false) ∧
    (∃ (req : MemReq) (a : Nat) (len : Nat) (n : Nat) (s : State), req.direct = true ∧ bankForm a len = true ∧ a / 16 = (a + len - 1) / 16 ∧ bankOf a len = some n ∧ s.portAServes n req = false) ∧
    (∃ (a : Nat) (len : Nat), bankForm a len = false) ∧
    (∃ (a : Nat) (len : Nat) (n : Nat) (s : State), 0 < len ∧ a % 16 + len ≤ 16 ∧ bankOf a len = some n ∧ s.bankState n ≠ 5 ∧ s.anyBad a len = false) ∧
    (∃ (req : MemReq) (a : Nat) (len : Nat) (s : State), req.direct = true ∧ 0 < len ∧ s.inDram a len = true ∧ s.rdB MEM_DRAM_STAT MEM_DRAM_STAT_TRAINED = true ∧ s.anyBad a len = false) ∧
    (∃ (req : MemReq) (a : Nat) (len : Nat) (s : State), req.direct = true ∧ 0 < len ∧ s.inDram a len = true ∧ s.rdB MEM_DRAM_STAT MEM_DRAM_STAT_TRAINED = false) ∧
    (∃ (req : MemReq) (a : Nat) (len : Nat) (s : State), req.direct = true ∧ s.inDram a len = false) ∧
    (∃ (req : MemReq) (a : Nat) (len : Nat) (s : State), req.direct = true ∧ s.fuses.variant = 1 ∧ s.rdB MEM_DRAM_STAT MEM_DRAM_STAT_TRAINED = true ∧ 0 < len ∧ 0x1000000000 ≤ a ∧ a + len ≤ 0x1400000000 ∧ s.anyBad a len = false) ∧
    (∃ (req : MemReq) (a : Nat) (len : Nat) (s : State), req.direct = true ∧ s.fuses.variant = 1 ∧ s.rdB MEM_DRAM_STAT MEM_DRAM_STAT_TRAINED = true ∧ 0 < len ∧ 0x1000000000 ≤ a ∧ a + len ≤ 0x1400000000 ∧ s.anyBad a len = false) ∧
    (∃ (req : MemReq) (a : Nat) (len : Nat) (s : State), req.direct = true ∧ s.fuses.variant = 2 ∧ s.rdB MEM_DRAM_STAT MEM_DRAM_STAT_TRAINED = true ∧ 0 < len ∧ 0x1000000000 ≤ a ∧ a + len ≤ 0x1200000000 ∧ s.anyBad a len = false) ∧
    (∃ (req : MemReq) (a : Nat) (len : Nat) (s : State), req.direct = true ∧ s.fuses.variant = 1 ∧ 0x1400000000 < a + len) ∧
    (∃ (req : MemReq) (a : Nat) (len : Nat) (s : State), req.direct = true ∧ s.fuses.variant = 2 ∧ 0x1200000000 < a + len) ∧
    (∃ (a : Nat) (len : Nat) (s : State), s.fuses.variant = 1 ∧ 0x1400000000 < a + len) ∧
    (∃ (a : Nat) (len : Nat) (s : State), s.fuses.variant = 2 ∧ 0x1200000000 < a + len) ∧
    (∃ (a : Nat) (len : Nat) (s : State), s.fuses.variant = 1 ∧ 0x1400000000 < a + len ∧ 0x1000000000 ≤ a) ∧
    (∃ (a : Nat) (len : Nat) (s : State), s.fuses.variant = 2 ∧ 0x1200000000 < a + len ∧ 0x1000000000 ≤ a) ∧ (∃ (s : State), 2 ≤ s.lc) ∧
    (∃ (req : MemReq) (a : Nat) (bs : List (Byte)) (s : State), req.direct = true ∧ bs ≠ [] ∧ s.inDram a bs.length = true ∧ s.rdB MEM_DRAM_STAT MEM_DRAM_STAT_TRAINED = true ∧ s.anyBad a bs.length = false ∧ (∀ n, n < 512 → s.tenState n ≠ 5)) ∧
    (∃ (c : Nat) (n : Nat) (m : Nat) (s : State), s.coreTenant c = some m ∧ m ≠ n) ∧
    (∃ (c : Nat) (n : Nat) (va : Nat) (len : Nat) (s : State), s.coreTenant c = some n ∧ 0 < len ∧ va % 65536 + len ≤ 65536 ∧ s.mapCause n va false false = none ∧ s.inDram (s.devAddr n va) len = true ∧ s.anyBad (s.devAddr n va) len = false) ∧
    (∃ (c : Nat) (n : Nat) (va : Nat) (len : Nat) (k : Nat) (s : State), s.coreTenant c = some n ∧ 0 < len ∧ va % 65536 + len ≤ 65536 ∧ va < 0x40000000 ∧ s.mapCause n va false false = some k) ∧
    (∃ (c : Nat) (n : Nat) (va : Nat) (len : Nat) (s : State), s.coreTenant c = some n ∧ 0 < len ∧ va % 65536 + len ≤ 65536 ∧ va < 0x40000000 ∧ s.mapCause n va false false = none ∧ bankOf (s.devAddr n va) len = none ∧ s.inDram (s.devAddr n va) len = false) ∧
    (∃ (s : State), s.rdB MEM_CTRL MEM_CTRL_SCRUB_EN = false) ∧ (∃ (s : State), s.rdB MEM_CTRL MEM_CTRL_SCRUB_EN = true) :=
  ⟨⟨.ing, 0x41FFFFF8, 8, 15, let y := served7; { y with mem := [(0x41FFFFFF, 7)] }, by decide +kernel⟩,
  ⟨.ing, 0x41FFFFF8, [1, 2, 3, 4, 5, 6, 7, 8], 15, served7, by decide +kernel⟩, ⟨.ing, 0x41FFFFF8, 3, by decide +kernel⟩,
  ⟨.cle, 0x41FFFFF8, 8, 15, served7, by decide +kernel⟩, ⟨0x41FFFFF8, 3, by decide +kernel⟩, ⟨0x41FFFFF0, 16, 15, bank7 4, by decide +kernel⟩,
  ⟨.steward, 0x17FFFFFFF8, 8, trained7 0, by decide +kernel⟩, ⟨.steward, 0x17FFFFFFF8, 8, State.reset, by decide +kernel⟩,
  ⟨.ing, 0x1800000000, 1, State.reset, by decide +kernel⟩, ⟨.steward, 0x13FFFFFFFF, 1, trained7 1, by decide +kernel⟩,
  ⟨.ing, 0x1000000000, 1, trained7 1, by decide +kernel⟩, ⟨.steward, 0x11FFFFFFF8, 8, trained7 2, by decide +kernel⟩,
  ⟨.steward, 0x13FFFFFFFF, 2, { State.reset with fuses := { State.reset.fuses with variant := 1 } }, by decide +kernel⟩,
  ⟨.steward, 0x1200000000, 1, { State.reset with fuses := { State.reset.fuses with variant := 2 } }, by decide +kernel⟩,
  ⟨0x13FFFFFFFF, 2, trained7 1, by decide +kernel⟩, ⟨0x1200000000, 1, trained7 2, by decide +kernel⟩,
  ⟨0x13FFFFFFFF, 2, trained7 1, by decide +kernel⟩, ⟨0x1200000000, 1, trained7 2, by decide +kernel⟩,
  ⟨{ State.reset with fuses := { lc := 2 } }, by decide +kernel⟩, ⟨.ing, 0x1000000000, [1, 2, 3], trained7 0, by decide +kernel⟩,
  ⟨63, 5, 511, mapped7 0x100001, by decide +kernel⟩, ⟨63, 511, 65528, 8, mapped7 0x100001, by decide +kernel⟩,
  ⟨63, 511, 65536, 8, 1, mapped7 0x100001, by decide +kernel⟩, ⟨63, 511, 65528, 8, mapped7 0, by decide +kernel⟩, ⟨State.reset, by decide +kernel⟩,
  ⟨st [(MEM_CTRL, MEM_CTRL_SCRUB_EN, 1)], by decide +kernel⟩⟩

theorem wit_MemoryCanonical :
    (∃ (req : MemReq) (a : Nat) (bs : List (Byte)) (n : Nat) (s : State), s.memWf ∧ req.direct = true ∧ bankForm a bs.length = true ∧ a / 16 = (a + bs.length - 1) / 16 ∧ bankOf a bs.length = some n ∧ s.portAServes n req = true) ∧
    (∃ (n : Nat) (s : State), s.memWf ∧ n < 16 ∧ s.bankState n = 3) ∧
    (∃ (req : MemReq) (a : Nat) (bs : List (Byte)) (s : State), s.memWf ∧ req.direct = true ∧ s.inDram a bs.length = true) :=
  ⟨⟨.ing, 0x41FFFFF8, [1, 2, 3, 0, 5, 6, 7, 8], 15, let y := served7; { y with mem := [(0x41FFFFFB, 7)] }, by decide +kernel⟩,
  ⟨15, let y := bank7 3; { y with mem := [(0x40000000 + 0x200000 * 15, 1), (0x42000000 - 1, 1), (0x1000000000, 3)] }, by decide +kernel⟩,
  ⟨.ing, 0x1000000000, [1, 0, 3], { trained7 0 with mem := [(0x1000000001, 1)] }, by decide +kernel⟩⟩

theorem wit_MailboxDoorbells :
    (∃ (m : Nat) (s : State), s.hostOn = true ∧ m < 32 ∧ (s.box m).state = 0) ∧
    (∃ (m : Nat) (s : State), s.hostOn = true ∧ m < 32 ∧ (s.box m).state ≠ 0) ∧
    (∃ (m : Nat) (s : State), s.hostOn = true ∧ m < 32 ∧ (s.box m).state ≠ 0) ∧ (∃ (s : State), s.hostOn = false) ∧
    (∃ (m : Nat) (s : State), s.hostOn = true ∧ m < 32 ∧ (s.box m).state = 2) ∧
    (∃ (m : Nat) (s : State), s.hostOn = true ∧ m < 32 ∧ (s.box m).state = 1) ∧
    (∃ (m : Nat) (s : State), s.hostOn = true ∧ m < 32 ∧ (s.box m).state = 0 ∧ 0 < s.pendCount m) ∧
    (∃ (m : Nat) (s : State), s.hostOn = true ∧ m < 32 ∧ s.pendCount m = 0) ∧ (∃ (v : Word), fget MBX_MB_RESP_POST v = 0) ∧
    (∃ (m : Nat) (v : Word) (s : State), m < 32 ∧ fget MBX_MB_RESP_POST v = 1 ∧ ((s.box m).state ≠ 1 ∨ fget MBX_MB_RESP_LENGTH v < 36 ∨ 4096 < fget MBX_MB_RESP_LENGTH v)) ∧
    (∃ (m : Nat) (v : Word) (s : State), m < 32 ∧ fget MBX_MB_RESP_POST v = 1 ∧ ((s.box m).state ≠ 1 ∨ fget MBX_MB_RESP_LENGTH v < 36 ∨ 4096 < fget MBX_MB_RESP_LENGTH v)) ∧
    (∃ (m : Nat) (v : Word) (s : State), m < 32 ∧ fget MBX_MB_RESP_POST v = 1 ∧ ((s.box m).state ≠ 1 ∨ fget MBX_MB_RESP_LENGTH v < 36 ∨ 4096 < fget MBX_MB_RESP_LENGTH v)) ∧
    (∃ (m : Nat) (v : Word) (s : State), m < 32 ∧ fget MBX_MB_RESP_POST v = 1 ∧ (s.box m).state = 1 ∧ 36 ≤ fget MBX_MB_RESP_LENGTH v ∧ fget MBX_MB_RESP_LENGTH v ≤ 4096) ∧
    (∃ (m : Nat) (off : Nat) (bs : List (Byte)) (s : State), m < 32 ∧ off + bs.length ≤ 4096 ∧ (s.box m).state = 0) ∧
    (∃ (m : Nat) (off : Nat) (bs : List (Byte)) (s : State), m < 32 ∧ off + bs.length ≤ 4096 ∧ (s.box m).state ≠ 0) :=
  ⟨⟨31, hosted 0, by decide +kernel⟩, ⟨31, hosted 1, by decide +kernel⟩, ⟨31, hosted 2, by decide +kernel⟩, ⟨State.reset, by decide +kernel⟩,
  ⟨31, hosted 2, by decide +kernel⟩, ⟨31, hosted 1, by decide +kernel⟩, ⟨31, hosted 0 [(MBX_MB_PEND 31, MBX_MB_PEND_PENDING, 1)], by decide +kernel⟩,
  ⟨31, hosted 0, by decide +kernel⟩, ⟨fset MBX_MB_RESP_LENGTH 0 36, by decide +kernel⟩,
  ⟨31, fset MBX_MB_RESP_POST (fset MBX_MB_RESP_LENGTH 0 35) 1, hosted 1, by decide +kernel⟩,
  ⟨31, fset MBX_MB_RESP_POST (fset MBX_MB_RESP_LENGTH 0 36) 1, hosted 0, by decide +kernel⟩,
  ⟨31, fset MBX_MB_RESP_POST (fset MBX_MB_RESP_LENGTH 0 4097) 1, hosted 1, by decide +kernel⟩,
  ⟨31, fset MBX_MB_RESP_POST (fset MBX_MB_RESP_LENGTH 0 4096) 1, hosted 1, by decide +kernel⟩, ⟨31, 4093, [1, 2, 3], hosted 0, by decide +kernel⟩,
  ⟨31, 4093, [1, 2, 3], hosted 2, by decide +kernel⟩⟩

theorem wit_FirmwareTurns :
    (∃ (s : State), s.mbx.ready = false) ∧ (∃ (s : State), s.nextTurn = none) ∧
    (∃ (k : Nat) (s : State), s.rdB MBX_CTRL MBX_CTRL_EN = true ∧ s.mbx.ready = true ∧ s.nextTurn = some k ∧ k < 32 ∧ (s.box k).fetch = false) ∧
    (∃ (k : Nat) (s : State), s.rdB MBX_CTRL MBX_CTRL_EN = true ∧ s.mbx.ready = true ∧ s.nextTurn = some k ∧ k < 32 ∧ (s.box k).fetch = true) ∧
    (∃ (k : Nat) (b : List Byte) (rest : List (List Byte)) (s : State), s.rdB MBX_CTRL MBX_CTRL_EN = true ∧ s.mbx.ready = true ∧ s.nextTurn = some k ∧ k < 32 ∧ (s.box k).fetch = true ∧ (s.box k).queue = b :: rest ∧ rest.length ≤ 16) ∧
    (∃ (k : Nat) (s : State), s.rdB MBX_CTRL MBX_CTRL_EN = true ∧ s.mbx.ready = true ∧ s.nextTurn = some k ∧ 32 ≤ k) ∧
    (∃ (s : State), s.rdB MBX_CTRL MBX_CTRL_UDP_EN = false) ∧ (∃ (a : Nat) (s : State), (¬ OwnAddress s a)) ∧
    (∃ (a : Nat) (b : List (Byte)) (s : State), s.rdB MBX_CTRL MBX_CTRL_EN = true ∧ s.rdB MBX_CTRL MBX_CTRL_UDP_EN = true ∧ OwnAddress s a ∧ b.length ≤ 4096 ∧ s.mbx.ready = true ∧ s.mbx.peers = []) ∧
    (∃ (a : Nat) (b : List (Byte)) (s : State), s.rdB MBX_CTRL MBX_CTRL_EN = true ∧ s.rdB MBX_CTRL MBX_CTRL_UDP_EN = true ∧ OwnAddress s a ∧ b.length ≤ 4096 ∧ s.mbx.reass = []) ∧
    (∃ (id : Nat) (q : Nat) (s : State), (∀ j ∈ s.mbx.jobs, j.session ≠ id ∨ j.seq ≠ q)) ∧
    (∃ (j : Job) (st : Nat) (d : Nat) (b : List Byte) (s : State), s.mbx.jobs.find? (fun k => k.session == j.session && k.seq == j.seq) = some j ∧ j.outcome = some (st, d, b) ∧ j.opcode ≠ 0x0904) ∧
    (∃ (j : Job) (x : Session) (m : Nat) (st : Nat) (d : Nat) (b : List Byte) (s : State), s.mbx.jobs.find? (fun k => k.session == j.session && k.seq == j.seq) = some j ∧ j.outcome = some (st, d, b) ∧ j.opcode ≠ 0x0904 ∧ j.via = .mbx m ∧ m < 32 ∧ s.mbx.sessions.find? (fun y => y.id == j.session) = some x) ∧
    (∃ (j : Job) (s : State), s.mbx.jobs.find? (fun k => k.session == j.session && k.seq == j.seq) = some j ∧ j.outcome = none ∧ j.opcode = 0x0C22) ∧
    (∃ (j : Job) (s : State), s.mbx.jobs.find? (fun k => k.session == j.session && k.seq == j.seq) = some j ∧ j.outcome = none ∧ j.opcode = 0x0C22) ∧
    (∃ (j : Job) (s : State), s.mbx.jobs.find? (fun k => k.session == j.session && k.seq == j.seq) = some j ∧ j.outcome = none ∧ j.opcode ≠ 0x0C22 ∧ s.jobEnd j = none) ∧
    (∃ (t : Nat) (x : UdpDone) (s : State), s.mbx.udpDone.find? (fun y => y.session == x.session && y.seq == x.seq) = some x ∧ max s.now t < x.sentAt + 100000000) ∧
    (∃ (t : Nat) (x : UdpDone) (s : State), s.mbx.udpDone = [x] ∧ x.sentAt + 100000000 ≤ max s.now t ∧ x.sends < 10) ∧
    (∃ (t : Nat) (x : UdpDone) (s : State), s.mbx.udpDone = [x] ∧ x.sentAt + 100000000 ≤ max s.now t ∧ 10 ≤ x.sends) :=
  ⟨⟨State.reset, by decide +kernel⟩, ⟨hosted 0, by decide +kernel⟩, ⟨31, hosted 1, by decide +kernel⟩,
  ⟨31, let y := hosted 0 [(MBX_MB_PEND 31, MBX_MB_PEND_PENDING, 1)]; { y with mbx := { y.mbx with boxes := [(31, { state := 1, fetch := true, queue := [[1]] })] } }, by decide +kernel⟩,
  ⟨31, [1], [], let y := hosted 0 [(MBX_MB_PEND 31, MBX_MB_PEND_PENDING, 1), (MBX_BUSY, MBX_BUSY_MAILBOXES, 0x80000000)]; { y with mbx := { y.mbx with boxes := [(31, { state := 1, fetch := true, queue := [[1]] })] } }, by decide +kernel⟩,
  ⟨32, let y := hosted 0; { y with mbx := { y.mbx with peers := [{ addr := 1, port := 2, queue := [[1]], lastAt := 0 }] } }, by decide +kernel⟩,
  ⟨State.reset, by decide +kernel⟩, ⟨1, udpState 1, by decide +kernel⟩,
  ⟨0x0A000001, List.replicate 4096 0, let y := udpState 1; { y with mbx := { y.mbx with ip4 := some 0x0A000001 } }, by decide +kernel⟩,
  ⟨0x0A000001, List.replicate 4096 0, let y := udpState 1; { y with mbx := { y.mbx with ip4 := some 0x0A000001 } }, by decide +kernel⟩,
  ⟨5, 5, jobbed (job7 0x0312 none), by decide +kernel⟩,
  ⟨job7 0x0312 (some (0, 0, [])), 0, 0, [], jobbed (job7 0x0312 (some (0, 0, []))), by decide +kernel⟩,
  ⟨job7 0x0312 (some (0, 0, [])), { session7 with id := 0 }, 31, 0, 0, [], let y := jobbed (job7 0x0312 (some (0, 0, []))); { y with mbx := { y.mbx with sessions := [{ session7 with id := 0 }] } }, by decide +kernel⟩,
  ⟨job7 0x0C22 none, jobbed (job7 0x0C22 none), by decide +kernel⟩, ⟨job7 0x0C22 none, jobbed (job7 0x0C22 none), by decide +kernel⟩,
  ⟨job7 0x0D10 none, let y := jobbed (job7 0x0D10 none); y.wr (MEM_BANK_STAT 0) MEM_BANK_STAT_STATE 3, by decide +kernel⟩,
  ⟨7, done7 1, udpState 1, by decide +kernel⟩, ⟨100000000, done7 9, udpState 9, by decide +kernel⟩,
  ⟨100000000, done7 10, udpState 10, by decide +kernel⟩⟩

theorem wit_HostAndSteward :
    (∃ (t : Nat) (x : Session) (s : State), s.mbx.sessions.find? (fun y => y.id == x.id) = some x ∧ max s.now t < x.lastAt + s.mbx.idle * 1000000000) ∧
    (∃ (t : Nat) (x : Session) (s : State), s.mbx.sessions.find? (fun y => y.id == x.id) = some x ∧ x.lastAt + s.mbx.idle * 1000000000 ≤ max s.now t) ∧
    (∃ (t : Nat) (x : Session) (s : State), s.mbx.sessions.find? (fun y => y.id == x.id) = some x ∧ x.lastAt + s.mbx.idle * 1000000000 ≤ max s.now t) ∧
    (∃ (s : State), s.rdB MBX_CTRL MBX_CTRL_PCIE_EN = false) ∧
    (∃ (a : Nat) (s : State), s.rdB MBX_CTRL MBX_CTRL_PCIE_EN = true ∧ 16 ≤ a / 0x10000000) ∧
    (∃ (k : Nat) (off : Nat) (bs : List (Byte)) (s : State), s.rdB MBX_CTRL MBX_CTRL_PCIE_EN = true ∧ k < 16 ∧ off < 0x10000000 ∧ s.aperOn k = true ∧ off + bs.length ≤ s.aperLen k ∧ s.aperHostWrites k = true) ∧
    (∃ (k : Nat) (off : Nat) (len : Nat) (s : State), s.rdB MBX_CTRL MBX_CTRL_PCIE_EN = true ∧ k < 16 ∧ off < 0x10000000 ∧ s.aperOn k = true ∧ off + len ≤ s.aperLen k ∧ s.aperHostWrites k = false) ∧
    (∃ (s : State), s.rdB SYS_WDOG_CFG SYS_WDOG_CFG_EN = false) ∧
    (∃ (t : Nat) (s : State), s.rdB SYS_WDOG_CFG SYS_WDOG_CFG_EN = true ∧ max s.now t < s.sys.kickAt + s.rd SYS_WDOG_CFG SYS_WDOG_CFG_TIMEOUT * 1000000) ∧
    (∃ (t : Nat) (s : State), (s.advance t).wdogDue = true ∧ s.rdB SYS_WDOG_CFG SYS_WDOG_CFG_ESCALATE = false) ∧
    (∃ (t : Nat) (s : State), (s.advance t).wdogDue = true ∧ s.rdB SYS_WDOG_CFG SYS_WDOG_CFG_ESCALATE = false) ∧ (∃ (s : State), s.mbx.ready = true) ∧
    (∃ (s : State), s.mbx.ready = false ∧ s.rdB SYS_WDOG_CFG SYS_WDOG_CFG_EN = true) ∧
    (∃ (s : State), s.mbx.ready = false ∧ s.rdB SYS_WDOG_CFG SYS_WDOG_CFG_EN = true) ∧ (∃ (b : Nat), b < 8) :=
  ⟨⟨7, session7, let y := hosted 0; { y with mbx := { y.mbx with sessions := [session7] } }, by decide +kernel⟩,
  ⟨600000000000, session7, let y := hosted 0; { y with mbx := { y.mbx with sessions := [session7] } }, by decide +kernel⟩,
  ⟨900000000000, session7, let y := hosted 0; { y with mbx := { y.mbx with sessions := [session7] } }, by decide +kernel⟩,
  ⟨State.reset, by decide +kernel⟩, ⟨0x100000000, hosted 0, by decide +kernel⟩,
  ⟨15, 4093, [1, 2, 3], hosted 0 [(MBX_APER_CTRL 15, MBX_APER_CTRL_EN, 1), (MBX_APER_CTRL 15, MBX_APER_CTRL_WRITE, 1), (MBX_APER_LEN 15, MBX_APER_LEN_LEN, 4096), (MBX_APER_BASE_HI 15, MBX_APER_BASE_HI_BASE, 16)], by decide +kernel⟩,
  ⟨15, 4093, 3, hosted 0 [(MBX_APER_CTRL 15, MBX_APER_CTRL_EN, 1), (MBX_APER_LEN 15, MBX_APER_LEN_LEN, 4096), (MBX_APER_BASE_HI 15, MBX_APER_BASE_HI_BASE, 16)], by decide +kernel⟩,
  ⟨st [(SYS_WDOG_CFG, SYS_WDOG_CFG_EN, 0)], by decide +kernel⟩,
  ⟨7, st [(SYS_WDOG_CFG, SYS_WDOG_CFG_EN, 1), (SYS_WDOG_CFG, SYS_WDOG_CFG_TIMEOUT, 1)], by decide +kernel⟩,
  ⟨1000000, st [(SYS_WDOG_CFG, SYS_WDOG_CFG_EN, 1), (SYS_WDOG_CFG, SYS_WDOG_CFG_TIMEOUT, 1)], by decide +kernel⟩,
  ⟨1000000000, st [(SYS_WDOG_CFG, SYS_WDOG_CFG_EN, 1), (SYS_WDOG_CFG, SYS_WDOG_CFG_TIMEOUT, 1), (SYS_WDOG_CFG, SYS_WDOG_CFG_ESCALATE, 0)], by decide +kernel⟩,
  ⟨hosted 0, by decide +kernel⟩, ⟨st [(SYS_WDOG_CFG, SYS_WDOG_CFG_EN, 1)], by decide +kernel⟩,
  ⟨st [(SYS_WDOG_CFG, SYS_WDOG_CFG_EN, 1)], by decide +kernel⟩, ⟨7, by decide +kernel⟩⟩

theorem wit_ResetRules :
    (∃ (s : State), s.sys.dormant ≠ 1 ∧ s.sys.porLow = false) ∧ (∃ (s : State), s.sys.dormant = 1) ∧ (∃ (s : State), s.sys.porLow = false) ∧
    (∃ (s : State), s.sys.porLow = true ∧ s.sys.rstLow = true) ∧ (∃ (s : State), s.sys.porLow = true ∧ s.sys.rstLow = false) ∧
    (∃ (s : State), s.sys.rstLow = true ∧ s.sys.porLow = false ∧ s.sys.dormant = 0) ∧ (∃ (s : State), s.sys.rstLow = true ∧ s.sys.dormant ≠ 0) ∧
    (∃ (s : State), s.sys.dormant ≠ 1) ∧ (∃ (s : State), s.sys.dormant = 1) ∧ (∃ (s : State), 2 ≤ s.lc) ∧ (∃ (s : State), s.lc < 2) :=
  ⟨⟨running, by decide +kernel⟩, ⟨let y := running; { y with sys := { y.sys with dormant := 1 } }, by decide +kernel⟩, ⟨running, by decide +kernel⟩,
  ⟨{ State.reset with sys := { State.reset.sys with rstLow := true } }, by decide +kernel⟩, ⟨State.reset, by decide +kernel⟩,
  ⟨let y := running; { y with sys := { y.sys with rstLow := true } }, by decide +kernel⟩,
  ⟨let y := running; { y with sys := { y.sys with rstLow := true, dormant := 1 } }, by decide +kernel⟩, ⟨State.reset, by decide +kernel⟩,
  ⟨let y := running; { y with sys := { y.sys with dormant := 1 } }, by decide +kernel⟩,
  ⟨let y := running; { y with fuses := { y.fuses with lc := 2 } }, by decide +kernel⟩, ⟨State.reset, by decide +kernel⟩⟩

theorem wit_DormantAndSolstice :
    (∃ (s : State), s.sys.advent = none) ∧
    (∃ (t : Nat) (r : AdventRun) (s : State), s.sys.advent = some r ∧ s.rd SYS_ADVENT SYS_ADVENT_STEP = 9 ∧ s.rd SYS_ADVENT SYS_ADVENT_STATE ≠ 3 ∧ r.stepAt + max 1 (s.rd SYS_ADVENT_CFG SYS_ADVENT_CFG_PTP_WAIT) * 1000000000 ≤ max s.now t ∧ s.rdB SYS_ADVENT_CFG SYS_ADVENT_CFG_REQUIRE_SYNC = true) ∧
    (∃ (t : Nat) (r : AdventRun) (s : State), s.sys.advent = some r ∧ s.rd SYS_ADVENT SYS_ADVENT_STEP = 9 ∧ s.rd SYS_ADVENT SYS_ADVENT_STATE ≠ 3 ∧ r.stepAt + max 1 (s.rd SYS_ADVENT_CFG SYS_ADVENT_CFG_PTP_WAIT) * 1000000000 ≤ max s.now t ∧ s.rdB SYS_ADVENT_CFG SYS_ADVENT_CFG_REQUIRE_SYNC = false) ∧
    (∃ (s : State), s.tenantsActive = true) ∧
    (∃ (s : State), s.tenantsActive = false ∧ s.sys.dormant = 0 ∧ s.sys.porLow = false ∧ s.sys.rstLow = false ∧ s.key.vbatLow = false) ∧
    (∃ (s : State), s.sys.dormant = 1) ∧ (∃ (s : State), s.sys.dormant ≠ 1) ∧
    (∃ (b : List (Byte)) (s : State), s.sys.dormant = 1 ∧ s.rdB SYS_DORMANT_CTRL SYS_DORMANT_CTRL_MGMT_WAKE = true ∧ s.isWakeFrame b = true) ∧
    (∃ (s : State), s.rdB SYS_DORMANT_CTRL SYS_DORMANT_CTRL_MGMT_WAKE = false) ∧ (∃ (s : State), s.sys.dormant ≠ 2) ∧
    (∃ (t : Nat) (s : State), s.sys.dormant = 2 ∧ max s.now t < s.sys.wakeAt + max 1 (s.rd SYS_DORMANT_CTRL SYS_DORMANT_CTRL_RAIL_DELAY) * 1000000) ∧
    (∃ (t : Nat) (s : State), s.sys.dormant = 2 ∧ s.sys.porLow = false ∧ s.sys.rstLow = false ∧ s.sys.wakeAt + max 1 (s.rd SYS_DORMANT_CTRL SYS_DORMANT_CTRL_RAIL_DELAY) * 1000000 ≤ max s.now t) ∧
    (∃ (t : Nat) (s : State), s.sys.dormant = 2 ∧ s.sys.porLow = true ∧ s.sys.wakeAt + max 1 (s.rd SYS_DORMANT_CTRL SYS_DORMANT_CTRL_RAIL_DELAY) * 1000000 ≤ max s.now t) ∧
    (∃ (src : Nat) (s : State), s.srcEnabled src = true ∧ s.rd SYS_SNAP_STAT SYS_SNAP_STAT_STATE = 1 ∧ src < 16) ∧
    (∃ (src : Nat) (s : State), s.srcEnabled src = false) ∧ (∃ (t : Nat) (s : State), (s.advance t).dom < s.snapMatch) ∧
    (∃ (t : Nat) (s : State), s.snapMatch + 4 ≤ (s.advance t).dom) ∧
    (∃ (t : Nat) (s : State), s.snapMatch ≤ (s.advance t).dom ∧ (s.advance t).dom < s.snapMatch + 4 ∧ s.rdB SYS_SNAP_STAT SYS_SNAP_STAT_MATCH_PAST = false) ∧
    (∃ (t : Nat) (s : State), s.snapMatch ≤ (s.advance t).dom ∧ (s.advance t).dom < s.snapMatch + 4 ∧ s.rdB SYS_SNAP_STAT SYS_SNAP_STAT_MATCH_PAST = false) ∧
    (∃ (t : Nat) (s : State), s.snapMatch ≤ (s.advance t).dom ∧ (s.advance t).dom < s.snapMatch + 4 ∧ s.rdB SYS_SNAP_STAT SYS_SNAP_STAT_MATCH_PAST = false) ∧
    (∃ (s : State), s.rd SYS_SNAP_STAT SYS_SNAP_STAT_STATE ≠ 1) ∧ (∃ (s : State), s.rd SYS_SNAP_STAT SYS_SNAP_STAT_STATE = 1) ∧
    (∃ (s : State), s.rd SYS_SNAP_STAT SYS_SNAP_STAT_STATE = 1) ∧ (∃ (s : State), s.rd SYS_SNAP_STAT SYS_SNAP_STAT_STATE ≠ 1) ∧
    (∃ (src : Nat) (s : State), src < 6 ∧ s.srcEnabled src = true ∧ s.rd SYS_SNAP_STAT SYS_SNAP_STAT_STATE = 1 ∧ s.snapMatch ≤ (s.advance 7).dom ∧ (s.advance 7).dom < s.snapMatch + 4 ∧ s.rdB SYS_SNAP_STAT SYS_SNAP_STAT_MATCH_PAST = false) ∧
    (∃ (src : Nat) (s : State), src < 6 ∧ s.srcEnabled src = true ∧ s.rd SYS_SNAP_STAT SYS_SNAP_STAT_STATE = 1 ∧ s.snapMatch ≤ (s.advance 7).dom ∧ (s.advance 7).dom < s.snapMatch + 4 ∧ s.rdB SYS_SNAP_STAT SYS_SNAP_STAT_MATCH_PAST = false) ∧
    (∃ (src : Nat) (s : State), src < 6 ∧ s.srcEnabled src = true ∧ s.rd SYS_SNAP_STAT SYS_SNAP_STAT_STATE = 1 ∧ s.snapMatch ≤ (s.advance 7).dom ∧ (s.advance 7).dom < s.snapMatch + 4 ∧ s.rdB SYS_SNAP_STAT SYS_SNAP_STAT_MATCH_PAST = false) :=
  ⟨⟨State.reset, by decide +kernel⟩,
  ⟨1000000000000, { input := in7, began := 0, stepAt := 0 }, let y := running [(SYS_ADVENT, SYS_ADVENT_STEP, 9), (SYS_ADVENT_CFG, SYS_ADVENT_CFG_REQUIRE_SYNC, 1)]; { y with sys := { y.sys with advent := some { input := in7, began := 0, stepAt := 0 } } }, by decide +kernel⟩,
  ⟨1000000000000, { input := in7, began := 0, stepAt := 0 }, let y := running [(SYS_ADVENT, SYS_ADVENT_STEP, 9), (SYS_ADVENT_CFG, SYS_ADVENT_CFG_REQUIRE_SYNC, 0)]; { y with sys := { y.sys with advent := some { input := in7, began := 0, stepAt := 0 } } }, by decide +kernel⟩,
  ⟨running [(TEN_STATE 511, TEN_STATE_STATE, 2)], by decide +kernel⟩, ⟨running, by decide +kernel⟩,
  ⟨let y := running; { y with sys := { y.sys with dormant := 1 } }, by decide +kernel⟩, ⟨running, by decide +kernel⟩,
  ⟨List.replicate 12 0 ++ [0x88, 0xB5, 1, 4] ++ List.replicate 14 0, let y := running [(SYS_DORMANT_CTRL, SYS_DORMANT_CTRL_MGMT_WAKE, 1)]; { y with sys := { y.sys with dormant := 1 } }, by decide +kernel⟩,
  ⟨State.reset, by decide +kernel⟩, ⟨let y := running; { y with sys := { y.sys with dormant := 1 } }, by decide +kernel⟩,
  ⟨7, let y := running; { y with sys := { y.sys with dormant := 2 } }, by decide +kernel⟩,
  ⟨2000000000, let y := running; { y with sys := { y.sys with dormant := 2 } }, by decide +kernel⟩,
  ⟨2000000000, let y := running; { y with sys := { y.sys with dormant := 2, porLow := true } }, by decide +kernel⟩,
  ⟨5, running [(SYS_SNAP_SRC, SYS_SNAP_SRC_SOURCES, 0x20), (SYS_SNAP_STAT, SYS_SNAP_STAT_STATE, 1)], by decide +kernel⟩,
  ⟨4, running [(SYS_SNAP_SRC, SYS_SNAP_SRC_SOURCES, 0x20)], by decide +kernel⟩,
  ⟨7, let y := running; sw y [(SYS_SNAP_MATCH_LO, 10)], by decide +kernel⟩, ⟨7, sw running [(SYS_SNAP_MATCH_LO, 0)], by decide +kernel⟩,
  ⟨7, sw running [(SYS_SNAP_MATCH_LO, 5)], by decide +kernel⟩, ⟨7, sw running [(SYS_SNAP_MATCH_LO, 5)], by decide +kernel⟩,
  ⟨7, sw (running [(SYS_SNAP_SRC, SYS_SNAP_SRC_SOURCES, 0x3F), (SYS_SNAP_STAT, SYS_SNAP_STAT_STATE, 1)]) [(SYS_SNAP_MATCH_LO, 5)], by decide +kernel⟩,
  ⟨running [(SYS_SNAP_STAT, SYS_SNAP_STAT_STATE, 2)], by decide +kernel⟩, ⟨running [(SYS_SNAP_STAT, SYS_SNAP_STAT_STATE, 1)], by decide +kernel⟩,
  ⟨running [(SYS_SNAP_STAT, SYS_SNAP_STAT_STATE, 1)], by decide +kernel⟩, ⟨running [(SYS_SNAP_STAT, SYS_SNAP_STAT_STATE, 2)], by decide +kernel⟩,
  ⟨0, sw (running [(SYS_SNAP_SRC, SYS_SNAP_SRC_SOURCES, 0x3F), (SYS_SNAP_STAT, SYS_SNAP_STAT_STATE, 1)]) [(SYS_SNAP_MATCH_LO, 5)], by decide +kernel⟩,
  ⟨1, sw (running [(SYS_SNAP_SRC, SYS_SNAP_SRC_SOURCES, 0x3F), (SYS_SNAP_STAT, SYS_SNAP_STAT_STATE, 1)]) [(SYS_SNAP_MATCH_LO, 5)], by decide +kernel⟩,
  ⟨5, sw (running [(SYS_SNAP_SRC, SYS_SNAP_SRC_SOURCES, 0x3F), (SYS_SNAP_STAT, SYS_SNAP_STAT_STATE, 1)]) [(SYS_SNAP_MATCH_LO, 5)], by decide +kernel⟩⟩

theorem wit_StepRunsTheFront :
    (∃ (c : Instr) (q : List Instr) (s : State), s.pending = c :: q) ∧ (∃ (s : State), s.pending = []) :=
  ⟨⟨.registerWrite 0 none 0 0, [], { State.reset with pending := [.registerWrite 0 none 0 0] }, by decide +kernel⟩, ⟨State.reset, by decide +kernel⟩⟩

theorem wit_QueueOrderInvariant :
    ∃ (s : State) (u : State), inOrder s.now s.pending = true ∧ step s = .next u :=
  ⟨State.reset, State.reset, by decide +kernel, rfl⟩

theorem wit_MailboxStatusAndSettings :
    Met 0x0101 planPrtStatus (fun _ _ _ => True) ∧ Met 0x0201 planFabStatus (fun _ _ _ => True) ∧ Met 0x0301 planIngStatus (fun _ _ _ => True) ∧
    Met 0x0401 planAcqStatus (fun _ _ _ => True) ∧ Met 0x0501 planSchStatus (fun _ _ _ => True) ∧ Met 0x0601 planCleStatus (fun _ _ _ => True) ∧
    Met 0x0701 planLgeStatus (fun _ _ _ => True) ∧ Met 0x0801 planOutStatus (fun _ _ _ => True) ∧ Met 0x0905 planRecStatus (fun _ _ _ => True) ∧
    Met 0x0B10 planDpxStatus (fun _ _ _ => True) ∧ Met 0x0C01 planKeyStatus (fun _ _ _ => True) ∧ Met 0x0D01 planMemStatus (fun _ _ _ => True) ∧
    Met 0x0E01 planTimStatus (fun _ _ _ => True) ∧ Met 0x0F01 planTenantStatus (fun _ _ _ => True) ∧
    Met 0x0110 planPrtPortSet (fun _ _ g => ((fun _ => True)) g) ∧ Met 0x0111 planPrtLreSet (fun _ _ _ => True) ∧
    Met 0x0411 planAcqTripSet (fun _ _ g => ((fun _ => True)) g) ∧ Met 0x0212 planFabLimitsSet (fun _ _ g => ((fun _ => True)) g) ∧
    Met 0x0313 planStencilLoad (fun _ _ g => ((fun _ => True)) g) ∧ Met 0x0410 planAcqGroupSet (fun _ _ g => ((fun _ => True)) g) ∧
    Met 0x0811 planOutBindSet (fun _ _ g => ((fun _ => True)) g) ∧ Met 0x0E10 planTimSet (fun _ _ g => ((fun _ => True)) g) ∧
    Met 0x1213 planStwRegWrite (fun _ _ g => ((fun _ => True)) g) ∧
    Met 0x0310 planStreamAdd (fun _ _ g => g.ing.flip = none ∧ g.rdB ING_STAT ING_STAT_COPY_BUSY = false) ∧
    Met 0x0311 planStreamRemove (fun _ _ g => ((fun g => g.ing.flip = none ∧ g.rdB ING_STAT ING_STAT_COPY_BUSY = false)) g) ∧
    Met 0x0310 planStreamAdd (fun _ _ g => g.ing.flip.isSome = true ∨ g.rdB ING_STAT ING_STAT_COPY_BUSY = true) ∧
    Met 0x0311 planStreamRemove (fun _ _ g => g.ing.flip.isSome = true ∨ g.rdB ING_STAT ING_STAT_COPY_BUSY = true) :=
  ⟨met (pl [(4, 0)]) (State.reset) (by decide +kernel) (by decide +kernel), met (pl [(4, 0)]) (State.reset) (by decide +kernel) (by decide +kernel),
  met (pl [(4, 0)]) (State.reset) (by decide +kernel) (by decide +kernel), met (pl [(4, 0)]) (State.reset) (by decide +kernel) (by decide +kernel),
  met (pl [(4, 0)]) (State.reset) (by decide +kernel) (by decide +kernel), met (pl [(4, 0)]) (State.reset) (by decide +kernel) (by decide +kernel),
  met (pl [(4, 0)]) (State.reset) (by decide +kernel) (by decide +kernel), met (pl [(4, 0)]) (State.reset) (by decide +kernel) (by decide +kernel),
  met (pl [(4, 0)]) (State.reset) (by decide +kernel) (by decide +kernel), met (pl [(4, 0)]) (State.reset) (by decide +kernel) (by decide +kernel),
  met (pl [(4, 0)]) (State.reset) (by decide +kernel) (by decide +kernel), met (pl [(4, 0)]) (State.reset) (by decide +kernel) (by decide +kernel),
  met (pl [(4, 0)]) (State.reset) (by decide +kernel) (by decide +kernel), met (pl [(4, 0)]) (State.reset) (by decide +kernel) (by decide +kernel),
  met (pl [(4, 28), (4, 3), (4, 0), (4, 3)]) (State.reset) (by decide +kernel) (by decide +kernel),
  met (pl [(4, 11), (4, 0), (4, 0), (4, 0)]) (State.reset) (by decide +kernel) (by decide +kernel),
  met (pl [(4, 31), (4, 0)]) (State.reset) (by decide +kernel) (by decide +kernel),
  met (pl [(4, FAB_RESERVE), (4, 1)]) (State.reset) (by decide +kernel) (by decide +kernel),
  met (pl [(4, 0x03101000), (4, 1)]) (State.reset) (by decide +kernel) (by decide +kernel),
  met (pl [(4, 0x040101C0), (4, 1)]) (State.reset) (by decide +kernel) (by decide +kernel),
  met (pl [(4, 0x08010000), (4, 1)]) (State.reset) (by decide +kernel) (by decide +kernel),
  met (pl [(4, TIM_HOLD), (4, 1)]) (State.reset) (by decide +kernel) (by decide +kernel),
  met (pl [(4, TIM_HOLD), (4, 1)]) (State.reset) (by decide +kernel) (by decide +kernel),
  met (pl [(4, ING_STATIC 1 2), (4, 1)]) (State.reset) (by decide +kernel) (by decide +kernel),
  met (pl [(4, ING_STATIC 1 2), (4, 0)]) (State.reset) (by decide +kernel) (by decide +kernel),
  met (pl [(4, ING_STATIC 1 2), (4, 1)]) (st [(ING_STAT, ING_STAT_COPY_BUSY, 1)]) (by decide +kernel) (by decide +kernel),
  met (pl [(4, ING_STATIC 1 2), (4, 0)]) (st [(ING_STAT, ING_STAT_COPY_BUSY, 1)]) (by decide +kernel) (by decide +kernel)⟩

theorem wit_MailboxDataAndLaws :
    (∃ (n : Nat) (s : State), s.ing.strangers.length ≤ n) ∧ Met 0x0210 planFabFdbWrite (fun _ _ g => g.rdB FAB_FDB_CMD FAB_FDB_CMD_BUSY = false) ∧
    Met 0x0211 planFabFdbDelete (fun c _ g => g.rdB FAB_FDB_CMD FAB_FDB_CMD_BUSY = false ∧ c.n1 0 = 1) ∧
    Met 0x0211 planFabFdbDelete (fun c _ g => g.rdB FAB_FDB_CMD FAB_FDB_CMD_BUSY = false ∧ c.n1 0 = 2) ∧
    Met 0x0210 planFabFdbWrite (fun _ _ g => g.rdB FAB_FDB_CMD FAB_FDB_CMD_BUSY = true) ∧
    Met 0x0312 planStreamFlip (fun c _ g => c.n4 0 = 0 ∧ g.ing.flip = none ∧ (opIngFlip g).ing.flip.isSome = true) ∧
    Met 0x0312 planStreamFlip (fun c _ g => c.n4 0 = 0 ∧ g.ing.flip = none ∧ (opIngFlip g).ing.flip = none) ∧
    Met 0x0312 planStreamFlip (fun c _ g => c.n4 0 = 0 ∧ g.ing.flip.isSome = true) ∧
    Met 0x0312 planStreamFlip (fun c _ g => c.n4 0 = 1 ∧ g.ing.flip.isSome = true ∧ (opIngCancel g).ing.flip = none) ∧
    Met 0x0314 planStrangerRead (fun _ _ _ => True) ∧ Met 0x0412 planAcqTripRelease (fun _ _ _ => True) ∧
    Met 0x0510 planSchEnqueue (fun _ _ _ => True) ∧
    (∃ (d : List Byte) (u : State), Met 0x0602 planClawTraceRead (fun c _ g => let base := g.rd CLE_TRACE_BASE_LO CLE_TRACE_BASE_LO_BASE * 2 ^ 24 + 2 ^ 32 * g.rd CLE_TRACE_BASE_HI CLE_TRACE_BASE_HI_BASE; g.bulkOut (c.n1 4) (c.n8 8) (g.bytes (base + c.n2 0 * 0x20000) 0x20000) = some (d, u))) ∧
    (∃ (relay : Nat) (pid : Nat), Met 0x0610 planClawAutotune (fun c _ g => g.tunePair (c.n2 0) = some (relay, pid) ∧ g.lawState (c.n2 0) = 1 ∧ (g.trcState (c.n2 0) = 0 ∨ g.trcState (c.n2 0) = 3) ∧ g.tuneOf (c.n2 0) = none ∧ g.rdB (CLE_LAW_STATE (c.n2 0)) CLE_LAW_STATE_COMMIT_PENDING = false)) ∧
    Met 0x0610 planClawAutotune (fun c _ g => g.tunePair (c.n2 0) = none ∨ g.lawState (c.n2 0) ≠ 1) ∧
    (∃ (d : CleTuned), Met 0x0611 planClawAutotuneApply (fun c _ g => g.tuneResult (c.n2 0) (c.n2 2) = some d ∧ d.status = 0 ∧ (g.law (c.n2 0)).commits = d.commits ∧ g.rdB (CLE_LAW_STATE (c.n2 0)) CLE_LAW_STATE_COMMIT_PENDING = false)) ∧
    Met 0x0611 planClawAutotuneApply (fun c _ g => g.tuneResult (c.n2 0) (c.n2 2) = none) ∧
    Met 0x0612 planClawAutotuneAbort (fun c _ g => (g.tuneOf (c.n2 0)).isSome = true) ∧
    Met 0x0612 planClawAutotuneAbort (fun c _ g => g.tuneOf (c.n2 0) = none) ∧ Met 0x0613 planClawControl (fun _ _ _ => True) ∧
    Met 0x0614 planClawCoeffCommit (fun c _ g => g.rdB (CLE_LAW_STATE (c.n2 0)) CLE_LAW_STATE_COMMIT_PENDING = false ∧ (g.writePairs 4 (regPairs c 4)).1 = none ∧ ((g.writePairs 4 (regPairs c 4)).2.lawCommit (c.n2 0) (c.n1 2 == 1)).1.1 = 0) ∧
    Met 0x0614 planClawCoeffCommit (fun c _ g => g.rdB (CLE_LAW_STATE (c.n2 0)) CLE_LAW_STATE_COMMIT_PENDING = true) :=
  ⟨⟨0, State.reset, by decide +kernel⟩, met (pl [(6, 1), (2, 0x3000), (4, 0), (4, 0)]) (State.reset) (by decide +kernel) (by decide +kernel),
  met (pl [(4, 1), (8, 0)]) (State.reset) (by decide +kernel) (by decide +kernel),
  met (pl [(4, 2), (8, 0)]) (State.reset) (by decide +kernel) (by decide +kernel),
  met (pl [(6, 1), (2, 0x3000), (4, 0), (4, 0)]) (st [(FAB_FDB_CMD, FAB_FDB_CMD_BUSY, 1)]) (by decide +kernel) (by decide +kernel),
  met (pl [(4, 0)]) (State.reset) (by decide +kernel) (by decide +kernel),
  met (pl [(4, 0)]) (st [(ING_STAT, ING_STAT_COPY_BUSY, 1)]) (by decide +kernel) (by decide +kernel),
  met (pl [(4, 0)]) ({ State.reset with ing := { State.reset.ing with flip := some { val := 1, eff := 9 } } }) (by decide +kernel) (by decide +kernel),
  met (pl [(4, 1)]) ({ State.reset with ing := { State.reset.ing with flip := some { val := 1, eff := 9 } } }) (by decide +kernel) (by decide +kernel),
  met (pl [(4, 60)]) (State.reset) (by decide +kernel) (by decide +kernel), met (pl [(4, 31)]) (State.reset) (by decide +kernel) (by decide +kernel),
  met (pl [(4, 8191), (64, 0)]) (State.reset) (by decide +kernel) (by decide +kernel),
  ⟨_, _, met (pl [(2, 127), (2, 0), (1, 15), (3, 0), (8, 0)]) (aper7 State.reset 0) (by decide +kernel) (bulkOut_zero (by decide +kernel))⟩,
  ⟨2046, 2047, met (pl [(2, 127), (2, 0), (4, 2), (16, 0)]) (sw (law1 1 [(CLE_LAW_CFG 127, CLE_LAW_CFG_FIRST, 2046), (CLE_LAW_CFG 127, CLE_LAW_CFG_COUNT, 1)]) [(CLE_BLK_STRUCT 2046 0, 12), (CLE_BLK_STRUCT 2047 0, 6)]) (by decide +kernel) (by decide +kernel)⟩,
  met (pl [(2, 127), (2, 0), (4, 2), (16, 0)]) (State.reset) (by decide +kernel) (by decide +kernel),
  ⟨tuned7, met (pl [(2, 127), (2, 9)]) (let y := law1 1; { y with cle := { y.cle with tuned := [tuned7] } }) (by decide +kernel) (by decide +kernel)⟩,
  met (pl [(2, 127), (2, 9)]) (State.reset) (by decide +kernel) (by decide +kernel),
  met (pl [(2, 127), (2, 0)]) (let y := law1 1; { y with cle := { y.cle with tunes := [tune7] } }) (by decide +kernel) (by decide +kernel),
  met (pl [(2, 127), (2, 0)]) (State.reset) (by decide +kernel) (by decide +kernel),
  met (pl [(2, 127), (1, 1), (1, 0)]) (State.reset) (by decide +kernel) (by decide +kernel),
  met (pl [(2, 127), (1, 0), (1, 0)]) (law1 1) (by decide +kernel) (by decide +kernel),
  met (pl [(2, 127), (1, 0), (1, 0)]) (law1 1 [(CLE_LAW_STATE 127, CLE_LAW_STATE_COMMIT_PENDING, 1)]) (by decide +kernel) (by decide +kernel)⟩

theorem wit_MailboxPlantCommands :
    (∃ (b : List Byte), Met 0x0710 planProgLoad (fun c _ g => g.aperImage (c.n4 4) (c.n4 8) (c.n4 12) = some b ∧ g.prgState (c.n1 0) = 0 ∧ (g.loadSlot (c.n1 0) 0 (regRecs b)).1 = none)) ∧
    Met 0x0710 planProgLoad (fun c _ g => g.aperImage (c.n4 4) (c.n4 8) (c.n4 12) = none) ∧
    Met 0x0710 planProgLoad (fun c _ g => (g.aperImage (c.n4 4) (c.n4 8) (c.n4 12)).isSome = true ∧ g.prgState (c.n1 0) ≠ 0) ∧
    Met 0x0711 planProgVerify (fun c _ g => g.rdB (LGE_PRG_CMD (c.n1 0)) LGE_PRG_CMD_BUSY = false) ∧
    Met 0x0712 planProgExchange (fun c _ g => g.rdB (LGE_PRG_CMD (c.n1 0)) LGE_PRG_CMD_BUSY = false ∧ (opLgeExchange (c.n1 0) (c.n1 1) g).rd (LGE_PRG_CMD (c.n1 0)) LGE_PRG_CMD_RESULT = 0) ∧
    Met 0x0713 planProgControl (fun c _ g => g.rdB (LGE_PRG_CMD (c.n1 0)) LGE_PRG_CMD_BUSY = false) ∧
    (∃ (f : Nat), Met 0x0714 planProgForce (fun c _ g => g.forceSlot (c.n1 0) (c.n2 2) (c.n1 4 == 1) = some f ∧ (c.n1 4 = 1 → ∃ d ∈ g.decls (c.n1 0), d.var = c.n2 2))) ∧
    Met 0x0714 planProgForce (fun c _ g => c.n1 4 = 1 ∧ ∀ d ∈ g.decls (c.n1 0), d.var ≠ c.n2 2) ∧ Met 0x0810 planOutBindArm (fun _ _ _ => True) ∧
    Met 0x0812 planOutFenceClear (fun _ _ _ => True) ∧ Met 0x0813 planOutBinEvents (fun _ _ _ => True) ∧ Met 0x0901 planRecArm (fun _ _ _ => True) ∧
    Met 0x0902 planRecDisarm (fun _ _ _ => True) ∧
    (∃ (u : State), Met 0x0903 planRecTrigger (fun c _ g => g.recSync.recOffer (c.n1 0) 9 (if c.n1 1 = 1 then g.stamp else c.n8 4) 0 none = (.accepted, u))) ∧
    (∃ (u : State), Met 0x0903 planRecTrigger (fun c _ g => g.recSync.recOffer (c.n1 0) 9 (if c.n1 1 = 1 then g.stamp else c.n8 4) 0 none = (.tooOld, u))) ∧
    Met 0x0904 planRecExport (fun c _ g => g.recState (c.n1 0) = 3 ∧ (g.recDyn (c.n1 0)).exporting = false) ∧
    Met 0x0904 planRecExport (fun c _ g => g.recState (c.n1 0) ≠ 3) ∧ Met 0x0B11 planDpxRevertNow (fun _ _ g => g.rdB DPX_CMD DPX_CMD_BUSY = false) ∧
    Met 0x0B11 planDpxRevertNow (fun _ _ g => g.rdB DPX_CMD DPX_CMD_BUSY = true) ∧
    Met 0x0B12 planDpxUnfence (fun _ _ g => g.rdB DPX_CMD DPX_CMD_BUSY = false) ∧
    Met 0x0B12 planDpxUnfence (fun _ _ g => g.rdB DPX_CMD DPX_CMD_BUSY = true) ∧
    Met 0x0B13 planDpxDeclare (fun _ _ g => g.rdB DPX_CMD DPX_CMD_BUSY = false) ∧
    Met 0x0B13 planDpxDeclare (fun _ _ g => g.rdB DPX_CMD DPX_CMD_BUSY = true) ∧
    Met 0x0B14 planDpxForceGrant (fun _ _ g => g.rdB DPX_CMD DPX_CMD_BUSY = false) ∧
    Met 0x0B14 planDpxForceGrant (fun _ _ g => g.rdB DPX_CMD DPX_CMD_BUSY = true) ∧
    Met 0x0D10 planMemBankAssign (fun c _ g => g.bankState (c.n4 0) ≠ 5 ∧ g.ownerOk (bankWord c) = true ∧ g.handoverOk (c.n4 0) (bankWord c) = true) ∧
    Met 0x0D10 planMemBankAssign (fun c _ g => g.bankState (c.n4 0) = 5) ∧
    Met 0x0D10 planMemBankAssign (fun c _ g => g.bankState (c.n4 0) ≠ 5 ∧ g.ownerOk (bankWord c) = false) ∧
    Met 0x0D11 planMemBankBist (fun c _ g => g.bankState (c.n4 0) = 0 ∨ g.bankState (c.n4 0) = 5) ∧
    Met 0x0D11 planMemBankBist (fun c _ g => g.bankState (c.n4 0) = 0 ∨ g.bankState (c.n4 0) = 5) ∧
    Met 0x0D11 planMemBankBist (fun c _ g => g.bankState (c.n4 0) ≠ 0 ∧ g.bankState (c.n4 0) ≠ 5) :=
  ⟨⟨[], met (pl [(1, 63), (3, 0), (4, 15), (4, 0), (4, 0)]) (aper7 State.reset 1) (by decide +kernel) (by decide +kernel)⟩,
  met (pl [(1, 63), (3, 0), (4, 15), (4, 0), (4, 0)]) (State.reset) (by decide +kernel) (by decide +kernel),
  met (pl [(1, 63), (3, 0), (4, 15), (4, 0), (4, 4096)]) (aper7 (prog1 1) 1) (by decide +kernel) (by decide +kernel),
  met (pl [(1, 63), (1, 0), (2, 0)]) (State.reset) (by decide +kernel) (by decide +kernel),
  met (pl [(1, 63), (1, 0), (2, 0)]) (let y := prog1 1 [(TIM_CTRL, TIM_CTRL_GRID_EN, 1), (LGE_PRG_STATE 0, LGE_PRG_STATE_VERIFIED, 1), (LGE_PRG_CFG 0, LGE_PRG_CFG_VALID, 1)]; { y with lge := { y.lge with progs := [(0, { against := 63 })] } }) (by decide +kernel) (by decide +kernel),
  met (pl [(1, 63), (1, 1), (1, 0), (1, 0)]) (State.reset) (by decide +kernel) (by decide +kernel),
  ⟨255, met (pl [(1, 63), (1, 0), (2, 65535), (1, 0), (3, 0), (4, 0)]) (sw State.reset [(LGE_FORCE 63 (4 * 255), 0x1FFFF)]) (by decide +kernel) (by decide +kernel)⟩,
  met (pl [(1, 63), (1, 0), (2, 7), (1, 1), (3, 0), (4, 0)]) (State.reset) (by decide +kernel) (by decide +kernel),
  met (pl [(2, 255), (1, 1), (1, 0)]) (State.reset) (by decide +kernel) (by decide +kernel),
  met (pl []) (State.reset) (by decide +kernel) (by decide +kernel), met (pl [(4, 250)]) (State.reset) (by decide +kernel) (by decide +kernel),
  met (pl [(1, 15), (3, 0)]) (State.reset) (by decide +kernel) (by decide +kernel),
  met (pl [(1, 15), (3, 0)]) (State.reset) (by decide +kernel) (by decide +kernel),
  ⟨_, met (pl [(1, 15), (1, 1), (2, 0), (8, 0)]) (st [(REC_TRIG_EN 15, REC_TRIG_EN_SOURCES, 256), (REC_STATE 15, REC_STATE_STATE, 1)]) (by decide +kernel) (rfl)⟩,
  ⟨_, met (pl [(1, 15), (1, 0), (2, 0), (8, 0)]) (let y := st [(REC_TRIG_EN 15, REC_TRIG_EN_SOURCES, 256), (REC_STATE 15, REC_STATE_STATE, 1)]; { y with rec_ := { y.rec_ with recs := [(15, { armAt := 5 })] } }) (by decide +kernel) (rfl)⟩,
  met (pl [(1, 15), (1, 0), (2, 0), (4, 0), (8, 0)]) (st [(REC_STATE 15, REC_STATE_STATE, 3)]) (by decide +kernel) (by decide +kernel),
  met (pl [(1, 15), (1, 0), (2, 0), (4, 0), (8, 0)]) (State.reset) (by decide +kernel) (by decide +kernel),
  met (pl []) (State.reset) (by decide +kernel) (by decide +kernel),
  met (pl []) (st [(DPX_CMD, DPX_CMD_BUSY, 1)]) (by decide +kernel) (by decide +kernel),
  met (pl [(4, 1)]) (State.reset) (by decide +kernel) (by decide +kernel),
  met (pl [(4, 1)]) (st [(DPX_CMD, DPX_CMD_BUSY, 1)]) (by decide +kernel) (by decide +kernel),
  met (pl []) (State.reset) (by decide +kernel) (by decide +kernel),
  met (pl []) (st [(DPX_CMD, DPX_CMD_BUSY, 1)]) (by decide +kernel) (by decide +kernel),
  met (pl [(4, 1)]) (State.reset) (by decide +kernel) (by decide +kernel),
  met (pl [(4, 1)]) (st [(DPX_CMD, DPX_CMD_BUSY, 1)]) (by decide +kernel) (by decide +kernel),
  met (pl [(4, 15), (4, (fset MEM_BANK_OWNER_KIND 0 4).toNat)]) (State.reset) (by decide +kernel) (by decide +kernel),
  met (pl [(4, 15), (4, (fset MEM_BANK_OWNER_KIND 0 4).toNat)]) (bank7 5) (by decide +kernel) (by decide +kernel),
  met (pl [(4, 15), (4, (fset MEM_BANK_OWNER_KIND 0 7).toNat)]) (State.reset) (by decide +kernel) (by decide +kernel),
  met (pl [(4, 15)]) (State.reset) (by decide +kernel) (by decide +kernel), met (pl [(4, 15)]) (bank7 5) (by decide +kernel) (by decide +kernel),
  met (pl [(4, 15)]) (bank7 1) (by decide +kernel) (by decide +kernel)⟩

theorem wit_MailboxKeysAndAlmanac :
    Met 0x0C10 planKeyDerive (fun _ _ g => g.opFree = true) ∧ Met 0x0C10 planKeyDerive (fun _ _ g => g.opFree = false) ∧
    Met 0x0C11 planKeyImport (fun _ _ g => g.opFree = true) ∧ Met 0x0C11 planKeyImport (fun _ _ g => g.opFree = false) ∧
    Met 0x0C12 planKeyExport (fun _ _ g => g.opFree = true) ∧ Met 0x0C12 planKeyExport (fun _ _ g => g.opFree = false) ∧
    Met 0x0C13 planKeyGenerate (fun _ _ g => g.opFree = true) ∧ Met 0x0C13 planKeyGenerate (fun _ _ g => g.opFree = false) ∧
    Met 0x0C14 planKeyAgree (fun _ _ g => g.opFree = true) ∧ Met 0x0C14 planKeyAgree (fun _ _ g => g.opFree = false) ∧
    Met 0x0C15 planKeyInvalidate (fun _ _ g => g.opFree = true) ∧ Met 0x0C16 planKeySweep (fun _ _ g => g.opFree = true) ∧
    Met 0x0C17 planKeyHandleSet (fun c _ g => g.tenState (c.n2 0) ≠ 5) ∧
    Met 0x0C17 planKeyHandleSet (fun c _ g => g.tenState (c.n2 0) = 5 ∧ g.tenBit (c.n2 0) TEN_STATE_DIR = true) ∧
    Met 0x0C18 planKeyZeroise (fun _ _ g => g.opFree = true) ∧
    (∃ (n : Nat), Met 0x0C20 planKeyEnroll (fun _ _ g => (List.range 4).find? (fun j => (g.fuses.customer.getD j none).isNone) = some n)) ∧
    Met 0x0C20 planKeyEnroll (fun _ _ g => (List.range 4).find? (fun j => (g.fuses.customer.getD j none).isNone) = none) ∧
    Met 0x0C21 planKeyRevoke (fun _ _ g => g.lc ≠ 2) ∧
    Met 0x0C22 planKeyLcAdvance (fun c _ g => g.lcReady (c.n1 0) = true ∧ c.n1 0 ≠ 3 ∧ ∀ j ∈ g.mbx.jobs, j.opcode ≠ 0x0C22) ∧
    Met 0x0C22 planKeyLcAdvance (fun c _ g => g.lcReady (c.n1 0) = false) ∧
    Met 0x0C23 planKeyTamperClear (fun c x g => c.n4 0 ≠ 0 ∧ ∃ m, g.mbx.confirms = [(x.id, 0x0C23, c.n4 0, m)] ∧ g.now ≤ m + 30000000000) ∧
    Met 0x0C24 planKeyTamperCfg (fun _ _ _ => True) ∧ Met 0x0A10 planAlmClear (fun c _ g => c.n2 0 < 512 ∧ g.quota (c.n2 0) ≠ 0) ∧
    Met 0x0A10 planAlmClear (fun c _ _ => 512 ≤ c.n2 0) ∧
    (∃ (m : Nat), Met 0x0A11 planAlmClearConfirm (fun c x g => g.alm.confirms = [{ session := x.id, ch := c.n2 0, code := c.n4 4, at_ := m }] ∧ g.now ≤ m + 30000000000 ∧ g.quota (c.n2 0) ≠ 0)) ∧
    Met 0x0A11 planAlmClearConfirm (fun _ x g => ∀ y ∈ g.alm.confirms, y.session ≠ x.id) ∧ Met 0x0A12 planAlmInfo (fun _ _ _ => True) ∧
    Met 0x0A13 planAlmRead (fun _ _ _ => True) :=
  ⟨met (pl [(2, 8), (2, 4095), (4, 0), (2, 0), (2, 0)]) (State.reset) (by decide +kernel) (by decide +kernel),
  met (pl [(2, 8), (2, 4095), (4, 0), (2, 0), (2, 0)]) ({ State.reset with key := { State.reset.key with op := some (op7 12) } }) (by decide +kernel) (by decide +kernel),
  met (pl [(2, 8), (2, 4095), (4, 0), (2, 0), (2, 0)]) (State.reset) (by decide +kernel) (by decide +kernel),
  met (pl [(2, 8), (2, 4095), (4, 0), (2, 0), (2, 0)]) ({ State.reset with key := { State.reset.key with op := some (op7 12) } }) (by decide +kernel) (by decide +kernel),
  met (pl [(2, 8), (2, 4095), (4, 0), (2, 0), (2, 0)]) (State.reset) (by decide +kernel) (by decide +kernel),
  met (pl [(2, 8), (2, 4095), (4, 0), (2, 0), (2, 0)]) ({ State.reset with key := { State.reset.key with op := some (op7 12) } }) (by decide +kernel) (by decide +kernel),
  met (pl [(2, 8), (2, 4095), (4, 0), (2, 0), (2, 0)]) (State.reset) (by decide +kernel) (by decide +kernel),
  met (pl [(2, 8), (2, 4095), (4, 0), (2, 0), (2, 0)]) ({ State.reset with key := { State.reset.key with op := some (op7 12) } }) (by decide +kernel) (by decide +kernel),
  met (pl [(2, 8), (2, 4095), (4, 0), (2, 0), (2, 0)]) (State.reset) (by decide +kernel) (by decide +kernel),
  met (pl [(2, 8), (2, 4095), (4, 0), (2, 0), (2, 0)]) ({ State.reset with key := { State.reset.key with op := some (op7 12) } }) (by decide +kernel) (by decide +kernel),
  met (pl [(2, 8), (2, 1)]) (State.reset) (by decide +kernel) (by decide +kernel), met (pl []) (State.reset) (by decide +kernel) (by decide +kernel),
  met (pl [(2, 511), (2, 31), (2, 8), (2, 1)]) (State.reset) (by decide +kernel) (by decide +kernel),
  met (pl [(2, 511), (2, 31), (2, 8), (2, 1)]) (ten 5 [(TEN_STATE 511, TEN_STATE_DIR, 1)]) (by decide +kernel) (by decide +kernel),
  met (pl []) (State.reset) (by decide +kernel) (by decide +kernel), ⟨0, met (pl [(64, 0)]) (State.reset) (by decide +kernel) (by decide +kernel)⟩,
  met (pl [(64, 0)]) ({ State.reset with fuses := { State.reset.fuses with customer := [some 0, some 0, some 0, some 0] } }) (by decide +kernel) (by decide +kernel),
  met (pl [(4, 3)]) (State.reset) (by decide +kernel) (by decide +kernel),
  met (pl [(4, 1), (4, 0)]) (State.reset) (by decide +kernel) (by decide +kernel),
  met (pl [(4, 2), (4, 0)]) (State.reset) (by decide +kernel) (by decide +kernel),
  met (pl [(4, 9)]) ({ State.reset with mbx := { State.reset.mbx with confirms := [(5, 0x0C23, 9, 0)] } }) (by decide +kernel) (⟨by decide +kernel, 0, by decide +kernel, by decide +kernel⟩),
  met (pl [(4, 0)]) (State.reset) (by decide +kernel) (by decide +kernel),
  met (pl [(2, 511), (2, 0)]) (st [(ALM_CH_CFG 511, ALM_CH_CFG_SIZE, 1)]) (by decide +kernel) (by decide +kernel),
  met (pl [(2, 512), (2, 0)]) (State.reset) (by decide +kernel) (by decide +kernel),
  ⟨0, met (pl [(2, 511), (2, 0), (4, 9)]) (let y := st [(ALM_CH_CFG 511, ALM_CH_CFG_SIZE, 1)]; { y with alm := { y.alm with confirms := [{ session := 5, ch := 511, code := 9, at_ := 0 }] } }) (by decide +kernel) (by decide +kernel)⟩,
  met (pl [(2, 511), (2, 0), (4, 9)]) (State.reset) (by decide +kernel) (by decide +kernel),
  met (pl [(2, 527), (2, 0)]) (State.reset) (by decide +kernel) (by decide +kernel),
  met (pl [(2, 527), (2, 0), (4, 0)]) (State.reset) (by decide +kernel) (by decide +kernel)⟩

theorem wit_MailboxTenantsAndSystem :
    (∃ (b : List Byte), Met 0x0F10 planTenantLoad (fun c _ g => g.tenantImage c = some b ∧ leAt b 0 2 = c.n2 0)) ∧
    Met 0x0F10 planTenantLoad (fun c _ g => c.n1 2 = 1 ∧ g.tenantImage c = none) ∧
    Met 0x0F11 planTenantStart (fun c _ g => g.rdB (TEN_CMD (c.n2 0)) TEN_CMD_BUSY = false ∧ (((fun c => opTenStart (c.n2 0))) c g).rd (TEN_CMD (c.n2 0)) TEN_CMD_RESULT = 0) ∧
    Met 0x0F11 planTenantStart (fun c _ g => g.rdB (TEN_CMD (c.n2 0)) TEN_CMD_BUSY = false ∧ (((fun c => opTenStart (c.n2 0))) c g).rd (TEN_CMD (c.n2 0)) TEN_CMD_RESULT ≠ 0) ∧
    Met 0x0F11 planTenantStart (fun c _ g => g.rdB (TEN_CMD (c.n2 0)) TEN_CMD_BUSY = true) ∧
    Met 0x0F12 planTenantDisable (fun c _ g => g.rdB (TEN_CMD (c.n2 0)) TEN_CMD_BUSY = false ∧ (((fun c => opTenDisable (c.n2 0))) c g).rd (TEN_CMD (c.n2 0)) TEN_CMD_RESULT = 0) ∧
    Met 0x0F12 planTenantDisable (fun c _ g => g.rdB (TEN_CMD (c.n2 0)) TEN_CMD_BUSY = false ∧ (((fun c => opTenDisable (c.n2 0))) c g).rd (TEN_CMD (c.n2 0)) TEN_CMD_RESULT ≠ 0) ∧
    Met 0x0F12 planTenantDisable (fun c _ g => g.rdB (TEN_CMD (c.n2 0)) TEN_CMD_BUSY = true) ∧
    Met 0x0F13 planTenantUnload (fun c _ g => g.rdB (TEN_CMD (c.n2 0)) TEN_CMD_BUSY = false ∧ (((fun c => opTenRelease (c.n2 0))) c g).rd (TEN_CMD (c.n2 0)) TEN_CMD_RESULT = 0) ∧
    Met 0x0F13 planTenantUnload (fun c _ g => g.rdB (TEN_CMD (c.n2 0)) TEN_CMD_BUSY = false ∧ (((fun c => opTenRelease (c.n2 0))) c g).rd (TEN_CMD (c.n2 0)) TEN_CMD_RESULT ≠ 0) ∧
    Met 0x0F13 planTenantUnload (fun c _ g => g.rdB (TEN_CMD (c.n2 0)) TEN_CMD_BUSY = true) ∧
    Met 0x0F18 planTenantMigrateAbort (fun c _ g => g.rdB (TEN_CMD (c.n2 0)) TEN_CMD_BUSY = false ∧ (((fun c g => if g.tenState (c.n2 0) = 5 ∧ g.tenBit (c.n2 0) TEN_STATE_DIR = true then opTenRelease (c.n2 0) g else opTenResume (c.n2 0) g)) c g).rd (TEN_CMD (c.n2 0)) TEN_CMD_RESULT = 0) ∧
    Met 0x0F18 planTenantMigrateAbort (fun c _ g => g.rdB (TEN_CMD (c.n2 0)) TEN_CMD_BUSY = false ∧ (((fun c g => if g.tenState (c.n2 0) = 5 ∧ g.tenBit (c.n2 0) TEN_STATE_DIR = true then opTenRelease (c.n2 0) g else opTenResume (c.n2 0) g)) c g).rd (TEN_CMD (c.n2 0)) TEN_CMD_RESULT ≠ 0) ∧
    Met 0x0F18 planTenantMigrateAbort (fun c _ g => g.rdB (TEN_CMD (c.n2 0)) TEN_CMD_BUSY = true) ∧
    Met 0x0F14 planTenantSetShare (fun _ _ _ => True) ∧ Met 0x0F15 planTenantSetLimits (fun _ _ _ => True) ∧
    Met 0x0F16 planTenantMigrateOut (fun c _ g => g.migrateBarred (c.n2 0) = false ∧ g.unitLacking (c.n2 0) (c.n4 8) = none ∧ g.rdB (TEN_CMD (c.n2 0)) TEN_CMD_BUSY = false ∧ (opTenMigrate (c.n2 0) (g.withPeer (c.n2 0) (c.n4 4))).rd (TEN_CMD (c.n2 0)) TEN_CMD_RESULT = 0) ∧
    Met 0x0F16 planTenantMigrateOut (fun c _ g => g.migrateBarred (c.n2 0) = true) ∧
    (∃ (d : Nat), Met 0x0F16 planTenantMigrateOut (fun c _ g => g.migrateBarred (c.n2 0) = false ∧ g.unitLacking (c.n2 0) (c.n4 8) = some d)) ∧
    Met 0x0F17 planTenantMigrateIn (fun c _ g => g.rdB (TEN_CMD (c.n2 0)) TEN_CMD_BUSY = false) ∧
    Met 0x0F17 planTenantMigrateIn (fun c _ g => g.rdB (TEN_CMD (c.n2 0)) TEN_CMD_BUSY = true) ∧
    Met 0x0F17 planTenantMigrateIn (fun c _ g => g.rdB (TEN_CMD (c.n2 0)) TEN_CMD_BUSY = false ∧ g.tenState (c.n2 0) ≠ 0) ∧
    Met 0x0F19 planTenantMsg (fun c _ g => g.tenState (c.n2 0) ≠ 0 ∧ (g.inbound (c.n2 0) 0x4001 0 (c.payload.drop 4)).1 = true) ∧
    Met 0x0F19 planTenantMsg (fun c _ g => g.tenState (c.n2 0) = 0) ∧ Met 0x0F1A planTenantMsgRead (fun _ _ _ => True) ∧
    Met 0x1001 planInfoGetFeatures (fun _ _ _ => True) ∧ Met 0x1002 planSysStatus (fun _ _ _ => True) ∧
    (∃ (b : List Byte), Met 0x1010 planSysConfigLoad (fun c _ g => g.aperImage (c.n4 0) (c.n4 4) (c.n4 8) = some b)) ∧
    Met 0x1010 planSysConfigLoad (fun c _ g => g.aperImage (c.n4 0) (c.n4 4) (c.n4 8) = none) ∧
    (∃ (b : List Byte), Met 0x1210 planStwFlashWrite (fun c _ g => g.aperImage (c.n4 0) (c.n4 4) (c.n4 8) = some b)) ∧
    Met 0x1011 planDormantEnter (fun _ _ g => g.tenantsActive = false) ∧ Met 0x1011 planDormantEnter (fun _ _ g => g.tenantsActive = true) ∧
    (∃ (f : State → State), Met 0x1012 planSolsticeControl (fun c _ _ => (c.n1 0 = 1 ∧ f = opSolsticeArm) ∨ (c.n1 0 = 2 ∧ f = opSolsticeDisarm) ∨ (c.n1 0 = 3 ∧ f = opSolsticeFire))) ∧
    Met 0x1012 planSolsticeControl (fun c _ g => c.n1 0 = 4 ∧ g.rd SYS_SNAP_STAT SYS_SNAP_STAT_STATE = 1) ∧
    Met 0x1013 planSysReset (fun _ _ _ => True) ∧
    (∃ (p : Principal), Met 0x1101 planSessionOpen (fun c _ g => g.principal (c.n2 0) = some p ∧ c.n1 2 ≤ p.role ∧ (c.n1 3 = 1 → p.clear = true))) ∧
    Met 0x1101 planSessionOpen (fun c _ g => g.principal (c.n2 0) = none) ∧ Met 0x1102 planSessionClose (fun _ _ _ => True) ∧
    Met 0x1103 planSessionList (fun c _ _ => c.n4 0 = 0) ∧
    Met 0x1103 planSessionList (fun c _ g => c.n4 0 ≠ 0 ∧ ∃ y ∈ g.mbx.sessions, y.id = c.n4 0) ∧ Met 0x1104 planMbxAck (fun _ _ _ => True) ∧
    (∃ (a : Nat) (b : Nat), Met 0x1105 planApertureOpen (fun c _ g => (List.range 16).find? (fun j => !g.aperOn j) = some a ∧ g.aperPlace (c.n4 0) = some b)) ∧
    Met 0x1105 planApertureOpen (fun c _ g => (∀ j < 16, g.aperOn j = true) ∨ g.aperPlace (c.n4 0) = none) ∧
    Met 0x1106 planApertureClose (fun c _ g => c.n1 0 < 16 ∧ g.aperOn (c.n1 0) = true) ∧
    Met 0x1106 planApertureClose (fun c _ g => 16 ≤ c.n1 0 ∨ g.aperOn (c.n1 0) = false) ∧
    Met 0x1107 planBulkRead (fun c _ g => g.aperFits (c.n1 0) (c.n4 4) (c.n4 8) false = true) ∧
    Met 0x1107 planBulkRead (fun c _ g => g.aperFits (c.n1 0) (c.n4 4) (c.n4 8) false = false) ∧
    Met 0x1108 planBulkWrite (fun c _ g => g.aperFits (c.n1 0) (c.n4 4) (c.payload.drop 8).length true = true) ∧
    Met 0x1108 planBulkWrite (fun c _ g => g.aperFits (c.n1 0) (c.n4 4) (c.payload.drop 8).length true = false) ∧
    (∃ (n : Nat) (u : State), Met 0x1109 planPrincipalSet (fun c _ g => c.n1 0 = 1 ∧ (∀ p ∈ g.mbx.principals, p.id ≠ c.n2 4) ∧ g.mbx.principals.length < 32 ∧ g.importHash (BitVec.ofNat 256 (beAt c.payload 8 32)) = some (n, u))) ∧
    (∃ (p : Principal), Met 0x1109 planPrincipalSet (fun c _ g => c.n1 0 = 2 ∧ g.mbx.principals.find? (fun q => q.id == c.n2 4) = some p)) ∧
    Met 0x1201 planStwVersion (fun _ _ _ => True) ∧
    Met 0x1211 planStwSvnAdvance (fun _ _ g => byteAt (g.imageHead 12) 6 = 1 ∧ leAt (g.imageHead 12) 8 4 ≤ 32) ∧
    Met 0x1211 planStwSvnAdvance (fun _ _ g => byteAt (g.imageHead 12) 6 ≠ 1 ∧ leAt (g.imageHead 12) 8 4 ≤ 32) ∧
    Met 0x1212 planStwRegRead (fun _ _ _ => True) :=
  ⟨⟨[], met (pl [(2, 0), (1, 1), (1, 0), (4, 15), (4, 0), (4, 0)]) (aper7 State.reset 1) (by decide +kernel) (by decide +kernel)⟩,
  met (pl [(2, 0), (1, 1), (1, 0), (4, 15), (4, 0), (4, 0)]) (State.reset) (by decide +kernel) (by decide +kernel),
  met (pl [(2, 511), (2, 0)]) (ten 1) (by decide +kernel) (by decide +kernel),
  met (pl [(2, 511), (2, 0)]) (State.reset) (by decide +kernel) (by decide +kernel),
  met (pl [(2, 511), (2, 0)]) (st [(TEN_CMD 511, TEN_CMD_BUSY, 1)]) (by decide +kernel) (by decide +kernel),
  met (pl [(2, 511), (2, 0)]) (ten 2) (by decide +kernel) (by decide +kernel),
  met (pl [(2, 511), (2, 0)]) (State.reset) (by decide +kernel) (by decide +kernel),
  met (pl [(2, 511), (2, 0)]) (st [(TEN_CMD 511, TEN_CMD_BUSY, 1)]) (by decide +kernel) (by decide +kernel),
  met (pl [(2, 511), (2, 0)]) (ten 1) (by decide +kernel) (by decide +kernel),
  met (pl [(2, 511), (2, 0)]) (State.reset) (by decide +kernel) (by decide +kernel),
  met (pl [(2, 511), (2, 0)]) (st [(TEN_CMD 511, TEN_CMD_BUSY, 1)]) (by decide +kernel) (by decide +kernel),
  met (pl [(2, 511), (2, 0)]) (ten 5 [(TEN_STATE 511, TEN_STATE_DIR, 1)]) (by decide +kernel) (by decide +kernel),
  met (pl [(2, 511), (2, 0)]) (State.reset) (by decide +kernel) (by decide +kernel),
  met (pl [(2, 511), (2, 0)]) (st [(TEN_CMD 511, TEN_CMD_BUSY, 1)]) (by decide +kernel) (by decide +kernel),
  met (pl [(2, 511), (2, 0), (4, 1024)]) (State.reset) (by decide +kernel) (by decide +kernel),
  met (pl [(2, 511), (2, 0), (4, (fset TEN_LIMIT_ITEMS (fset TEN_LIMIT_PUBQ 0 1) 1).toNat)]) (State.reset) (by decide +kernel) (by decide +kernel),
  met (pl [(2, 511), (2, 0), (4, 3), (4, 0)]) (ten 2) (by decide +kernel) (by decide +kernel),
  met (pl [(2, 511), (2, 0), (4, 3), (4, 0)]) (sw (dpx 1) [(DPX_TEN_SET 15, 0x80000000)]) (by decide +kernel) (by decide +kernel),
  ⟨0x0600, met (pl [(2, 511), (2, 0), (4, 3), (4, 0)]) (law1 1) (by decide +kernel) (by decide +kernel)⟩,
  met (pl [(2, 511), (2, 0), (4, 3), (20, 0)]) (State.reset) (by decide +kernel) (by decide +kernel),
  met (pl [(2, 511), (2, 0), (4, 3), (20, 0)]) (st [(TEN_CMD 511, TEN_CMD_BUSY, 1)]) (by decide +kernel) (by decide +kernel),
  met (pl [(2, 511), (2, 0), (4, 3), (20, 0)]) (ten 2) (by decide +kernel) (by decide +kernel),
  met (pl [(2, 511), (2, 0), (1, 1), (3, 0), (1, 0)]) (ten 1) (by decide +kernel) (by decide +kernel),
  met (pl [(2, 511), (2, 0), (1, 52), (3, 0), (52, 0)]) (State.reset) (by decide +kernel) (by decide +kernel),
  met (pl [(2, 511), (1, 64), (1, 0)]) (State.reset) (by decide +kernel) (by decide +kernel),
  met (pl []) (State.reset) (by decide +kernel) (by decide +kernel), met (pl []) (State.reset) (by decide +kernel) (by decide +kernel),
  ⟨[], met (pl [(4, 15), (4, 0), (4, 0)]) (aper7 State.reset 1) (by decide +kernel) (by decide +kernel)⟩,
  met (pl [(4, 15), (4, 0), (4, 0)]) (State.reset) (by decide +kernel) (by decide +kernel),
  ⟨[], met (pl [(4, 15), (4, 0), (4, 0)]) (aper7 State.reset 1) (by decide +kernel) (by decide +kernel)⟩,
  met (pl [(4, 0), (4, 1)]) (State.reset) (by decide +kernel) (by decide +kernel),
  met (pl [(4, 0), (4, 1)]) (ten 2) (by decide +kernel) (by decide +kernel),
  ⟨opSolsticeFire, met (pl [(1, 3), (23, 0)]) (State.reset) (by decide +kernel) (Or.inr (Or.inr ⟨by decide +kernel, rfl⟩))⟩,
  met (pl [(1, 4), (23, 0)]) (st [(SYS_SNAP_STAT, SYS_SNAP_STAT_STATE, 1)]) (by decide +kernel) (by decide +kernel),
  met (pl []) (State.reset) (by decide +kernel) (by decide +kernel),
  ⟨{ id := 0xFFFF, role := 4, clear := false, slot := 1 }, met (pl [(2, 0xFFFF), (1, 4), (1, 0), (208, 0)]) (State.reset) (by decide +kernel) (by decide +kernel)⟩,
  met (pl [(2, 5), (1, 4), (1, 0), (208, 0)]) (State.reset) (by decide +kernel) (by decide +kernel),
  met (pl []) (State.reset) (by decide +kernel) (by decide +kernel), met (pl [(4, 0)]) (State.reset) (by decide +kernel) (by decide +kernel),
  met (pl [(4, 5)]) (State.reset) (by decide +kernel) (by decide +kernel), met (pl [(4, 0)]) (State.reset) (by decide +kernel) (by decide +kernel),
  ⟨0, 0x1008000000, met (pl [(4, 4096), (1, 0), (3, 0)]) (State.reset) (by decide +kernel) (by decide +kernel)⟩,
  met (pl [(4, 0x10000000), (1, 0), (3, 0)]) (State.reset) (by decide +kernel) (by decide +kernel),
  met (pl [(4, 15)]) (aper7 State.reset 1) (by decide +kernel) (by decide +kernel),
  met (pl [(4, 15)]) (State.reset) (by decide +kernel) (by decide +kernel),
  met (pl [(1, 15), (3, 0), (4, 96), (4, 4000)]) (aper7 State.reset 0) (by decide +kernel) (by decide +kernel),
  met (pl [(1, 15), (3, 0), (4, 97), (4, 4000)]) (aper7 State.reset 0) (by decide +kernel) (by decide +kernel),
  met (pl [(1, 15), (3, 0), (4, 96), (4000, 0)]) (aper7 State.reset 1) (by decide +kernel) (by decide +kernel),
  met (pl [(1, 15), (3, 0), (4, 97), (4000, 0)]) (aper7 State.reset 1) (by decide +kernel) (by decide +kernel),
  ⟨9, _, met (pl [(1, 1), (3, 0), (2, 7), (1, 4), (1, 1), (32, 0)]) (State.reset) (by decide +kernel) (⟨by decide +kernel, by decide +kernel, by decide +kernel, rfl⟩)⟩,
  ⟨{ id := 7, role := 1, clear := false, slot := 9 }, met (pl [(1, 2), (3, 0), (2, 7), (1, 4), (1, 1), (32, 0)]) ({ State.reset with mbx := { State.reset.mbx with principals := [{ id := 7, role := 1, clear := false, slot := 9 }] } }) (by decide +kernel) (by decide +kernel)⟩,
  met (pl []) (State.reset) (by decide +kernel) (by decide +kernel),
  met (pl []) ({ State.reset with sys := { State.reset.sys with image := some (0, 0), flash := [(6, 1)] } }) (by decide +kernel) (by decide +kernel),
  met (pl []) (State.reset) (by decide +kernel) (by decide +kernel),
  met (pl [(4, TIM_HOLD), (4, 256)]) (State.reset) (by decide +kernel) (by decide +kernel)⟩

theorem wit_MailboxOrder :
    (∃ (p : Plan) (n : Nat), p.absent = some n) ∧
    (∃ (g : State) (e : CmdInfo) (p : Plan), p.absent = none ∧ g.inService = false ∧ e.status = false ∧ e.recovery = false) ∧
    (∃ (g : State) (p : Plan), p.absent = none ∧ p.tamper = false ∧ g.inService = true ∧ p.lcOk = false) ∧
    (∃ (g : State) (e : CmdInfo) (p : Plan) (x : Session), p.absent = none ∧ p.tamper = false ∧ g.inService = true ∧ p.lcOk = true ∧ g.lc ≠ 3 ∧ x.role < p.role.getD e.role) ∧
    (∃ (g : State) (e : CmdInfo) (p : Plan) (x : Session), p.absent = none ∧ p.tamper = false ∧ g.inService = true ∧ p.lcOk = true ∧ g.lc ≠ 3 ∧ p.role.getD e.role ≤ x.role ∧ p.clear = true ∧ x.clear = false) ∧
    (∃ (g : State) (e : CmdInfo) (p : Plan) (x : Session), p.absent = none ∧ p.tamper = false ∧ g.inService = true ∧ p.lcOk = true ∧ g.lc ≠ 3 ∧ p.role.getD e.role ≤ x.role ∧ (p.clear = true → x.clear = true)) ∧
    OrderMet :=
  ⟨⟨{ absent := some 7, body := fun _ => ({}, State.reset) }, 7, by decide +kernel⟩,
  ⟨st [(KEY_STAT, KEY_STAT_SERVICE, 0)], { role := 1, status := false, recovery := false }, { body := fun _ => ({}, State.reset) }, by decide +kernel⟩,
  ⟨st [(KEY_STAT, KEY_STAT_SERVICE, 1)], { lcOk := false, body := fun _ => ({}, State.reset) }, by decide +kernel⟩,
  ⟨st [(KEY_STAT, KEY_STAT_SERVICE, 1)], { role := 2, status := false, recovery := false }, { body := fun _ => ({}, State.reset) }, { session7 with role := 1 }, by decide +kernel⟩,
  ⟨st [(KEY_STAT, KEY_STAT_SERVICE, 1)], { role := 2, status := false, recovery := false }, { clear := true, body := fun _ => ({}, State.reset) }, { session7 with clear := false }, by decide +kernel⟩,
  ⟨st [(KEY_STAT, KEY_STAT_SERVICE, 1)], { role := 4, status := false, recovery := false }, { body := fun _ => ({}, State.reset) }, session7, by decide +kernel⟩,
  orderMet⟩

end Sys2Proof.Tests
end

section
/-! Memory accesses (R25, R26, R28, R460 to R467, R472). First what a finished access leaves: a fault or an answer on the bus,
the dirty logs of a write, and the bytes that the words of a write cover. Then one equation for each form of access, and the
claim assembled from them. -/

namespace Sys2Proof.Machine

/-! ### What the four commands do -/

theorem exec_portAAccess (t : Nat) (req : MemReq) (a len : Nat) (w : Option (List Byte)) (f : EccFound) (s : State) :
    exec (.portAAccess t req a len w f) s = .next (s.after t (opPortAAccess req a len w f)) := rfl

theorem exec_portBAccess (t a len : Nat) (w : Option (List Byte)) (o : Option PortA) (f : EccFound) (s : State) :
    exec (.portBAccess t a len w o f) s = .next (s.after t (opPortBAccess a len w o f)) := rfl

theorem exec_dramAccess (t : Nat) (req : MemReq) (a len : Nat) (w : Option (List Byte)) (f : EccFound) (s : State) :
    exec (.dramAccess t req a len w f) s = .next (s.after t (opDramAccess req a len w f)) := rfl

theorem exec_patrolScrub (t : Nat) (tg : ScrubTarget) (f : EccFound) (p : Bool) (s : State) :
    exec (.patrolScrub t tg f p) s = .next (s.after t (opPatrolScrub tg f p)) := rfl

theorem State.after_congr {s : State} {t : Nat} {f g : State → State} (h : f (s.advance t) = g (s.advance t)) :
    s.after t f = s.after t g := by
  unfold State.after; rw [h]

theorem State.bytes_congr {s u : State} (h : u.mem = s.mem) (n : Nat) : ∀ a, u.bytes a n = s.bytes a n := by
  induction n with
  | zero => intro a; rfl
  | succ n ih => intro a; simp only [State.bytes, ih, State.byte_congr h]

theorem State.le_congr {s u : State} (h : u.mem = s.mem) (a n : Nat) : u.le a n = s.le a n := by
  unfold State.le; rw [State.bytes_congr h]

/-! ### The outcomes of an access that changes nothing but the bus -/

section Outcomes

variable {i : Instr} {s : State} {t : Nat} {g : State → State}

theorem completes_of_busFault (hi : exec i s = .next (s.after t g)) (hg : g (s.advance t) = (s.advance t).busFault) :
    Completes i s fun u => u.bus = { err := true } ∧ u = { s with now := u.now, bus := u.bus } :=
  ⟨_, hi, by simp only [State.after, hg]; exact ⟨rfl, rfl⟩⟩

theorem completes_of_descFault (hi : exec i s = .next (s.after t g)) (hg : g (s.advance t) = (s.advance t).descFault) :
    Completes i s fun u => u.bus = { err := true, descErr := true } ∧ u = { s with now := u.now, bus := u.bus } :=
  ⟨_, hi, by simp only [State.after, hg]; exact ⟨rfl, rfl⟩⟩

theorem completes_of_read {a n : Nat} (hi : exec i s = .next (s.after t g))
    (hg : g (s.advance t) = (s.advance t).answer ((s.advance t).le a n)) :
    Completes i s fun u => u.bus.data = s.le a n ∧ u.bus.err = false ∧ u = { s with now := u.now, bus := u.bus } :=
  ⟨_, hi, by simp only [State.after, hg]; exact ⟨State.le_congr (s.advance_mem t) a n, rfl, rfl⟩⟩

theorem completes_of_idle (hi : exec i s = .next (s.after t g)) (hg : g (s.advance t) = s.advance t) :
    Completes i s fun u => u = { s with now := u.now } :=
  ⟨_, hi, by simp only [State.after, hg]; rfl⟩

end Outcomes

/-! ### Folds over the words of an access -/

/-- A fold whose every step leaves the start alone ends there. -/
theorem foldl_eq_start {α β : Type} {f : α → β → α} {x : α} : ∀ {l : List β}, (∀ b ∈ l, f x b = x) → l.foldl f x = x
  | [], _ => rfl
  | b :: l, h => by
    rw [List.foldl_cons, h b List.mem_cons_self]
    exact foldl_eq_start fun c hc => h c (List.mem_cons_of_mem b hc)

theorem State.anyBad_eq_false {s : State} {a len : Nat} : s.anyBad a len = false ↔ ∀ w ∈ wordsOf a len, s.wordBad w = false := by
  simp [State.anyBad]

/-- The word of every byte of a range is among the range's words. -/
theorem word_mem_wordsOf {a n x : Nat} (h : a ≤ x) (k : x < a + n) : x / 8 * 8 ∈ wordsOf a n := by
  have hn : n ≠ 0 := by omega
  simp only [wordsOf, hn, if_false, List.mem_map, List.mem_range]
  exact ⟨x / 8 - a / 8, by omega, by omega⟩

/-- A bank read that meets no error leaves the machine as it was (R467). -/
theorem State.bankEcc_of_clean {s : State} {a len : Nat} (n port : Nat) (h : s.anyBad a len = false) :
    s.bankEcc n a len port { single := [], double := [] } = s :=
  foldl_eq_start fun w hw => by simp [State.anyBad_eq_false.1 h w hw]

/-- A DRAM read that meets no error leaves the machine as it was (R472). -/
theorem State.dramDevice_read_of_clean {s : State} {a len : Nat} (req : MemReq) (h : s.anyBad a len = false) :
    s.dramDevice req a len none { single := [], double := [] } = (false, s) := by
  simp only [State.dramDevice]
  rw [foldl_eq_start fun w hw => by simp [State.anyBad_eq_false.1 h w hw], h]

/-! ### Dirty logs -/

/-- Nothing changes but what the dirty logs keep: the tenants' part and a counter (R214, R217). -/
abbrev LogsOnly (s u : State) : Prop := u = { s with ten := u.ten, cnt := u.cnt }

theorem LogsOnly.refl (s : State) : LogsOnly s s := rfl

theorem LogsOnly.trans {s u v : State} (h : LogsOnly s u) (k : LogsOnly u v) : LogsOnly s v := by
  unfold LogsOnly at h k ⊢
  rw [k, h]

theorem LogsOnly.mem {s u : State} (h : LogsOnly s u) : u.mem = s.mem := (congrArg State.mem h :)
theorem LogsOnly.regs {s u : State} (h : LogsOnly s u) : u.regs = s.regs := (congrArg State.regs h :)
theorem LogsOnly.bank {s u : State} (h : LogsOnly s u) : u.bank = s.bank := (congrArg State.bank h :)

theorem LogsOnly.foldl {β : Type} {f : State → β → State} (hf : ∀ s b, LogsOnly s (f s b)) :
    ∀ (l : List β) (s : State), LogsOnly s (l.foldl f s)
  | [], s => .refl s
  | b :: l, s => (hf s b).trans (LogsOnly.foldl hf l _)

theorem logsOnly_markDirty (s : State) (t va : Nat) : LogsOnly s (s.markDirty t va) := by
  unfold State.markDirty
  dsimp only
  split_ifs <;> rfl

theorem logsOnly_noteWrite (s : State) (a n : Nat) : LogsOnly s (s.noteWrite a n) := by
  refine LogsOnly.foldl (fun u x => ?_) _ s
  split
  · split
    · exact logsOnly_markDirty ..
    · exact .refl _
  · exact .refl _

/-! ### Bytes written word by word (R467) -/

/-- One word of a write: its error goes, and the bytes of the write that lie in it take their values. -/
def State.writeWord (s : State) (a : Nat) (bs : List Byte) (w : Nat) : State :=
  (s.setBad w false).setBytes (max a w) ((bs.drop (max a w - a)).take (min (a + bs.length) (w + 8) - max a w))

/-- The words of a write, one after the other. -/
def State.writeWords (s : State) (a : Nat) (bs : List Byte) (l : List Nat) : State := l.foldl (fun s w => s.writeWord a bs w) s

theorem State.byte_setBytes (s : State) (a : Nat) (bs : List Byte) (x : Nat) :
    (s.setBytes a bs).byte x = if a ≤ x ∧ x < a + bs.length then bs.getD (x - a) 0 else s.byte x := by
  split
  next h =>
    have k : x - a < bs.length := by omega
    have e := State.byte_setBytes_inside bs s a (x - a) k
    rw [show a + (x - a) = x by omega] at e
    rw [e, List.getD_eq_getElem _ _ k]
  next h => exact State.byte_setBytes_outside bs s a x (by omega)

theorem State.setBytes_regs (bs : List Byte) : ∀ (s : State) (a : Nat), (s.setBytes a bs).regs = s.regs := by
  induction bs with
  | nil => intro s a; rfl
  | cons b bs ih => intro s a; exact ih _ _

theorem State.setBytes_bank (bs : List Byte) : ∀ (s : State) (a : Nat), (s.setBytes a bs).bank = s.bank := by
  induction bs with
  | nil => intro s a; rfl
  | cons b bs ih => intro s a; exact ih _ _

theorem State.wordBad_congr {s u : State} (h : u.bank = s.bank) (w : Nat) : u.wordBad w = s.wordBad w := by
  unfold State.wordBad; rw [h]

theorem State.writeWord_regs (s : State) (a : Nat) (bs : List Byte) (w : Nat) : (s.writeWord a bs w).regs = s.regs :=
  State.setBytes_regs _ _ _

theorem State.wordBad_writeWord {s : State} {v : Nat} (a : Nat) (bs : List Byte) (w : Nat) (h : s.wordBad v = false) :
    (s.writeWord a bs w).wordBad v = false := by
  have e : (s.setBad w false).wordBad v = false := by
    simp only [State.wordBad, State.setBad, cget_cset]
    split
    · rfl
    · exact h
  exact (State.wordBad_congr (State.setBytes_bank _ _ _) v).trans e

theorem State.byte_writeWord (s : State) (a : Nat) (bs : List Byte) (w x : Nat) :
    (s.writeWord a bs w).byte x =
      if (a ≤ x ∧ x < a + bs.length) ∧ w ≤ x ∧ x < w + 8 then bs.getD (x - a) 0 else s.byte x := by
  rw [State.writeWord, State.byte_setBytes]
  refine if_ctx_congr ?_ (fun h => ?_) (fun _ => rfl)
  · simp only [List.length_take, List.length_drop]; omega
  · have hlo : max a w - a + (x - max a w) = x - a := by omega
    simp only [List.getD_eq_getElem?_getD, List.getElem?_take, List.getElem?_drop, hlo]
    rw [if_pos (by omega)]

theorem State.writeWords_regs (a : Nat) (bs : List Byte) (l : List Nat) : ∀ s : State, (s.writeWords a bs l).regs = s.regs := by
  induction l with
  | nil => intro s; rfl
  | cons w l ih => intro s; exact (ih _).trans (s.writeWord_regs a bs w)

theorem State.byte_writeWords (a : Nat) (bs : List Byte) (x : Nat) (l : List Nat) : ∀ s : State,
    (s.writeWords a bs l).byte x =
      if (a ≤ x ∧ x < a + bs.length) ∧ ∃ w ∈ l, w ≤ x ∧ x < w + 8 then bs.getD (x - a) 0 else s.byte x := by
  induction l with
  | nil => intro s; simp [State.writeWords]
  | cons w l ih =>
    intro s
    rw [show s.writeWords a bs (w :: l) = (s.writeWord a bs w).writeWords a bs l from rfl, ih, State.byte_writeWord,
      ← ite_or]
    refine if_congr ?_ rfl rfl
    simp only [← and_or_left, List.mem_cons, exists_eq_or_imp, or_comm]

/-- The words that a write touches cover its bytes, and only those change. -/
theorem State.byte_writeWords_wordsOf (s : State) (a : Nat) (bs : List Byte) (x : Nat) :
    (s.writeWords a bs (wordsOf a bs.length)).byte x = if a ≤ x ∧ x < a + bs.length then bs.getD (x - a) 0 else s.byte x := by
  rw [State.byte_writeWords]
  refine if_congr (and_iff_left_of_imp fun h => ?_) rfl rfl
  exact ⟨x / 8 * 8, word_mem_wordsOf h.1 h.2, by omega, by omega⟩

/-- A pass over words without errors that writes each of them reports no error. -/
theorem foldl_writeWord_of_clean {f : Bool × State → Nat → Bool × State} {a : Nat} {bs : List Byte}
    (hf : ∀ (r : Bool × State) (w : Nat), r.2.wordBad w = false → f r w = (r.1, r.2.writeWord a bs w)) :
    ∀ (l : List Nat) (s : State), (∀ w ∈ l, s.wordBad w = false) → l.foldl f (false, s) = (false, s.writeWords a bs l)
  | [], _, _ => rfl
  | w :: l, s, h => by
    rw [List.foldl_cons, hf _ _ (h w List.mem_cons_self)]
    exact foldl_writeWord_of_clean hf l _ fun v hv => State.wordBad_writeWord a bs w (h v (List.mem_cons_of_mem w hv))

theorem State.bankWrite_of_clean {s : State} {a : Nat} {bs : List Byte} (n port : Nat) (h : s.anyBad a bs.length = false) :
    s.bankWrite n a port bs = (false, s.writeWords a bs (wordsOf a bs.length)) :=
  foldl_writeWord_of_clean (fun r w hw => by simp only [hw, Bool.false_and]; rfl) _ s (State.anyBad_eq_false.1 h)

/-- What a write that succeeds leaves in memory: its bytes, and no others changed. -/
theorem written_of_byte {s u : State} {a : Nat} {bs : List Byte}
    (h : ∀ x, u.byte x = if a ≤ x ∧ x < a + bs.length then bs.getD (x - a) 0 else s.byte x) :
    (∀ k (hk : k < bs.length), u.byte (a + k) = bs[k]) ∧ (∀ x, (x < a ∨ a + bs.length ≤ x) → u.byte x = s.byte x) := by
  refine ⟨fun k hk => ?_, fun x hx => ?_⟩
  · rw [h, if_pos (by omega), Nat.add_sub_cancel_left, List.getD_eq_getElem _ _ hk]
  · rw [h, if_neg (by omega)]

/-! ### Requesters that name device addresses (R28) -/

section Direct

variable {req : MemReq} (hd : req.direct = true) (s : State)
include hd

theorem faultTo_of_direct : s.faultTo req = s.busFault := by
  cases req <;> cases hd <;> rfl

theorem noteReqWrite_of_direct (a n : Nat) : s.noteReqWrite req a n = s.noteWrite a n := by
  cases req <;> cases hd <;> rfl

theorem opPortAAccess_of_direct (a len : Nat) (w : Option (List Byte)) (f : EccFound) :
    opPortAAccess req a len w f s = s.portADevice req a len w f := by
  cases req <;> cases hd <;> rfl

theorem opDramAccess_of_direct (a len : Nat) (w : Option (List Byte)) (f : EccFound) :
    opDramAccess req a len w f s = s.dramAccess req a len w f := by
  cases req <;> cases hd <;> rfl

end Direct

/-! ### Port A (R460 to R467) -/

theorem bankForm_pos {a len : Nat} (h : bankForm a len = true) : 0 < len := by
  simp only [bankForm, Bool.or_eq_true, Bool.and_eq_true, beq_iff_eq] at h
  omega

theorem windowParts_of_row {a len : Nat} (hpos : 0 < len) (hrow : a / 16 = (a + len - 1) / 16) : windowParts a len = [(a, len)] := by
  rw [windowParts, if_neg (by omega), if_pos hrow]

theorem portADevice_of_badForm {a len : Nat} (hf : bankForm a len = false) (req : MemReq) (w : Option (List Byte)) (f : EccFound)
    (s : State) : s.portADevice req a len w f = s.faultTo req := by
  simp [State.portADevice, hf]

section Row

variable {req : MemReq} {a len n : Nat} {s : State} (hf : bankForm a len = true) (hrow : a / 16 = (a + len - 1) / 16)
include hf hrow

/-- An access inside one row is one part. -/
theorem portADevice_of_row (w : Option (List Byte)) (f : EccFound) {r : Bool × State}
    (hr : s.portAPart req a len (w.map (·.take len)) f = r) : s.portADevice req a len w f =
      if r.1 then r.2.faultTo req else r.2.answer (if w.isNone then r.2.le a len else 0) := by
  subst hr
  simp [State.portADevice, hf, windowParts_of_row (bankForm_pos hf) hrow]

theorem portADevice_refused (hb : bankOf a len = some n) (hs : s.portAServes n req = false) (w : Option (List Byte)) (f : EccFound) :
    s.portADevice req a len w f = (s.bankFault n req a).faultTo req :=
  portADevice_of_row hf hrow w f (r := (true, s.bankFault n req a)) (by simp [State.portAPart, hb, hs])

theorem portADevice_read (hb : bankOf a len = some n) (hs : s.portAServes n req = true) (hclean : s.anyBad a len = false) :
    s.portADevice req a len none { single := [], double := [] } = s.answer (s.le a len) :=
  portADevice_of_row hf hrow none _ (r := (false, s)) (by simp [State.portAPart, hb, hs, State.bankEcc_of_clean, hclean])

end Row

theorem portADevice_write {req : MemReq} {a n : Nat} {bs : List Byte} {s : State} (hd : req.direct = true)
    (hf : bankForm a bs.length = true) (hrow : a / 16 = (a + bs.length - 1) / 16) (hb : bankOf a bs.length = some n)
    (hs : s.portAServes n req = true) (hclean : s.anyBad a bs.length = false) (f : EccFound) :
    s.portADevice req a bs.length (some bs) f = ((s.noteWrite a bs.length).writeWords a bs (wordsOf a bs.length)).answer 0 := by
  have hclean' : (s.noteWrite a bs.length).anyBad a bs.length = false := State.anyBad_eq_false.2 fun w hw =>
    (State.wordBad_congr (logsOnly_noteWrite s a bs.length).bank w).trans (State.anyBad_eq_false.1 hclean w hw)
  refine portADevice_of_row hf hrow (some bs) f (r := (false, _)) ?_
  simp only [State.portAPart, hb, hs, Option.map_some, List.take_length, noteReqWrite_of_direct hd]
  exact State.bankWrite_of_clean n 0 hclean'

/-- A bank has one of sixteen numbers. -/
theorem bankOf_lt {a len n : Nat} (h : bankOf a len = some n) : n < 16 := by
  unfold bankOf at h
  split at h
  · cases h; omega
  · cases h

theorem eventOnly_bankFault (s : State) (n : Nat) (req : MemReq) (a : Nat) :
    EventOnly (s.bump (cntMEM_BANK_FAULTS n) 1) (s.bankFault n req a) :=
  EventOnly.postLimited _ _ _ _ (almRoute_lt _ _ (by omega))

/-- A refusal at port A is counted in the bank's FAULTS (R462). -/
theorem count_bankFault (s : State) {n : Nat} (hn : n < 16) (req : MemReq) (a : Nat) :
    (s.bankFault n req a).count (cntMEM_BANK_FAULTS n) = (s.count (cntMEM_BANK_FAULTS n) + 1) % 2 ^ 64 := by
  rw [(eventOnly_bankFault s n req a).counts _ (by unfold cntMEM_BANK_FAULTS; omega) (by unfold cntMEM_BANK_FAULTS; omega),
    State.count_bump_same]

/-! ### Port B (R465, R466) -/

theorem portBPieces_of_row {a len : Nat} (hpos : 0 < len) (hrow : a % 16 + len ≤ 16) : portBPieces a len = [(a, len)] := by
  have hend : min (a + len) (a / 16 * 16 + 16) = a + len := by omega
  simp only [portBPieces, List.range_succ_eq_map, List.foldl_cons, if_pos (show a < a + len by omega), hend,
    Nat.add_sub_cancel_left, List.nil_append]
  rw [foldl_eq_start fun _ _ => if_neg (lt_irrefl _)]

theorem opPortBAccess_read {a len n : Nat} {s : State} (hpos : 0 < len) (hrow : a % 16 + len ≤ 16) (hb : bankOf a len = some n)
    (hs : s.bankState n ≠ 5) (hclean : s.anyBad a len = false) :
    opPortBAccess a len none none { single := [], double := [] } s = s.answer (s.le a len) := by
  have part : s.portBPart a len none { single := [], double := [] } = (false, s) := by
    simp [State.portBPart, hb, hs, State.bankEcc_of_clean, hclean]
  simp [opPortBAccess, hpos.ne', State.portBDevice, portBPieces_of_row hpos hrow, part]

/-! ### DRAM (R25, R471, R472) -/

theorem bankOf_of_dram {a len : Nat} (h : 0x1000000000 ≤ a) : bankOf a len = none := by
  rw [bankOf, if_neg (by omega)]

theorem le_of_inDram {s : State} {a len : Nat} (h : s.inDram a len = true) : 0x1000000000 ≤ a := by
  simp only [State.inDram, Bool.and_eq_true, decide_eq_true_eq] at h
  exact h.1

theorem inDram_iff_of_dramEnd {s : State} {e : Nat} (he : s.dramEnd = e) {a len : Nat} :
    s.inDram a len = true ↔ 0x1000000000 ≤ a ∧ a + len ≤ e := by
  simp [State.inDram, he]

theorem inDram_eq_false_of_dramEnd {s : State} {e : Nat} (he : s.dramEnd = e) {a len : Nat} (h : e < a + len) :
    s.inDram a len = false := by
  simp only [State.inDram, he, Bool.and_eq_false_iff, decide_eq_false_iff_not]
  omega

theorem dramEnd_mls7132 {s : State} (h : s.fuses.variant = 1) : s.dramEnd = 0x1400000000 := by simp [State.dramEnd, h]
theorem dramEnd_mls7116 {s : State} (h : s.fuses.variant = 2) : s.dramEnd = 0x1200000000 := by simp [State.dramEnd, h]

theorem dramAccess_outside {s : State} {a len : Nat} (h : s.inDram a len = false) (req : MemReq) (w : Option (List Byte))
    (f : EccFound) : s.dramAccess req a len w f = s.faultTo req := by
  simp [State.dramAccess, h]

theorem dramAccess_untrained {s : State} {a len : Nat} (hpos : 0 < len) (hin : s.inDram a len = true)
    (ht : s.rdB MEM_DRAM_STAT MEM_DRAM_STAT_TRAINED = false) (req : MemReq) (w : Option (List Byte)) (f : EccFound) :
    s.dramAccess req a len w f = s := by
  simp [State.dramAccess, hpos.ne', hin, ht]

theorem dramAccess_read {s : State} {a len : Nat} (hpos : 0 < len) (hin : s.inDram a len = true)
    (ht : s.rdB MEM_DRAM_STAT MEM_DRAM_STAT_TRAINED = true) (hclean : s.anyBad a len = false) (req : MemReq) :
    s.dramAccess req a len none { single := [], double := [] } = s.answer (s.le a len) := by
  simp [State.dramAccess, hpos.ne', hin, ht, State.dramDevice_read_of_clean req hclean]

/-- The state in which the words of a DRAM write are written: the logs noted, and a write that is not of whole lines
counted as a read-modify-write. -/
def State.dramNoted (s : State) (a n : Nat) : State :=
  if a % 64 = 0 ∧ n % 64 = 0 then s.noteWrite a n else (s.noteWrite a n).bump cntMEM_DRAM_RMW 1

theorem logsOnly_dramNoted (s : State) (a n : Nat) : LogsOnly s (s.dramNoted a n) := by
  unfold State.dramNoted
  split
  · exact logsOnly_noteWrite s a n
  · exact (logsOnly_noteWrite s a n).trans rfl

theorem dramDevice_write_of_clean {req : MemReq} {s : State} {a : Nat} {bs : List Byte} (hd : req.direct = true)
    (hclean : s.anyBad a bs.length = false) (len : Nat) (f : EccFound) :
    s.dramDevice req a len (some bs) f = (false, (s.dramNoted a bs.length).writeWords a bs (wordsOf a bs.length)) := by
  simp only [State.dramDevice, noteReqWrite_of_direct hd]
  refine foldl_writeWord_of_clean (fun r w hw => by simp only [hw, Bool.false_and]; rfl) _ _ fun w hw => ?_
  exact (State.wordBad_congr (logsOnly_dramNoted s a bs.length).bank w).trans (State.anyBad_eq_false.1 hclean w hw)

/-! ### Writes to tenant maps (R199) -/

theorem elemOf_lt {base n stride a i : Nat} (h : elemOf base n stride a = some i) : i < n := by
  unfold elemOf at h
  split at h
  next k =>
    cases h
    exact Nat.div_lt_of_lt_mul (by rw [Nat.mul_comm]; omega)
  next => cases h

theorem tenant_lt_of_mem_mapChanges {s0 s : State} {a n : Nat} {c : Nat × Nat × Nat} (h : c ∈ State.mapChanges s0 s a n) :
    c.1 < 512 := by
  simp only [State.mapChanges, List.mem_flatMap, List.mem_filter, List.mem_filterMap] at h
  obtain ⟨t, ⟨ht, -⟩, v, -, hc⟩ := h
  have e : c.1 = t := by
    split at hc
    · cases hc; rfl
    · cases hc
  obtain ⟨x, -, hx⟩ := List.mem_filterMap.1 ht
  exact e ▸ elemOf_lt hx

/-- While no tenant is MIGRATING a write to a tenant's map changes, beside memory, the entries held back for MAP_INVAL only. -/
theorem logsOnly_mapWritten {s0 : State} (h : ∀ t, t < 512 → s0.tenState t ≠ 5) (s : State) (a n : Nat) :
    LogsOnly s (State.mapWritten s0 s a n) := by
  have none5 : (State.mapChanges s0 s a n).any (fun c => s0.tenState c.1 == 5) = false := by
    simp only [List.any_eq_false, beq_iff_eq]
    exact fun c hc => h c.1 (tenant_lt_of_mem_mapChanges hc)
  simp only [State.mapWritten, none5]
  refine LogsOnly.foldl (fun u c => ?_) _ s
  split <;> rfl

/-- A DRAM write by device address: the words written, and at most the held-back entries of tenant maps beside them. -/
theorem dramAccess_write {req : MemReq} {s : State} {a : Nat} {bs : List Byte} (hd : req.direct = true) (hbs : bs ≠ [])
    (hin : s.inDram a bs.length = true) (ht : s.rdB MEM_DRAM_STAT MEM_DRAM_STAT_TRAINED = true)
    (hclean : s.anyBad a bs.length = false) (hten : ∀ n, n < 512 → s.tenState n ≠ 5) (f : EccFound) :
    LogsOnly (((s.dramNoted a bs.length).writeWords a bs (wordsOf a bs.length)).answer 0)
      (s.dramAccess req a bs.length (some bs) f) := by
  have e : s.dramAccess req a bs.length (some bs) f = State.mapWritten s
      (((s.dramNoted a bs.length).writeWords a bs (wordsOf a bs.length)).answer 0) a bs.length := by
    simp [State.dramAccess, hbs, hin, ht, dramDevice_write_of_clean hd hclean]
  exact e ▸ logsOnly_mapWritten hten _ a bs.length

/-! ### The debug port (R28) -/

theorem opDramAccess_jtag_deployed {s : State} (h : 2 ≤ s.lc) (a len : Nat) (w : Option (List Byte)) (f : EccFound) :
    opDramAccess .jtag a len w f s = s.busFault := by
  simp [opDramAccess, h]

/-- In every life cycle the debug port's access past the end of DRAM faults (R25). -/
theorem opDramAccess_jtag_outside {s : State} {a len : Nat} (ha : 0x1000000000 ≤ a) (h : s.inDram a len = false)
    (w : Option (List Byte)) (f : EccFound) : opDramAccess .jtag a len w f s = s.busFault := by
  by_cases hl : 2 ≤ s.lc
  · exact opDramAccess_jtag_deployed hl a len w f
  · simp only [opDramAccess, hl, bankOf_of_dram ha, dramAccess_outside h]; rfl

/-! ### Cores (R26, R196) -/

theorem coreAccess_of_notInService {s : State} {c n : Nat} (h : s.coreTenant c ≠ some n) (fetch : Bool) (va len : Nat)
    (w : Option (List Byte)) (f : EccFound) : s.coreAccess c n fetch va len w f = s := by
  rw [State.coreAccess, if_pos (.inl h)]

theorem pageParts_of_page {va len : Nat} (hpos : 0 < len) (hpage : va % 65536 + len ≤ 65536) : pageParts va len = [(va, len)] := by
  have same : (va + len - 1) / 65536 - va / 65536 + 1 = 1 := by omega
  have lo : max va (va / 65536 * 65536) = va := by omega
  have hi : min (va + len) ((va / 65536 + 1) * 65536) - va = len := by omega
  simp [pageParts, hpos.ne', same, lo, hi]

/-- An address that the map lets through lies below the tenant window. -/
theorem lt_window_of_mapCause {s : State} {t va : Nat} {w : Bool} (h : s.mapCause t va false w = none) : va < 0x40000000 := by
  by_contra k
  unfold State.mapCause at h
  dsimp only at h
  split at h
  · cases h
  · rw [if_pos (by omega)] at h; cases h

section Core

variable {s : State} {c n va len : Nat} (hc : s.coreTenant c = some n) (hpos : 0 < len) (hpage : va % 65536 + len ≤ 65536)
include hc hpos hpage

theorem coreAccess_mapFault {k : Nat} (hva : va < 0x40000000) (hk : s.mapCause n va false false = some k) (f : EccFound) :
    s.coreAccess c n false va len none f = (opTenantFault c k va s).busFault := by
  have hw : ¬ 0x40000000 ≤ va := by omega
  simp [State.coreAccess, hc, hpos.ne', hw, pageParts_of_page hpos hpage, hk]

/-- A core's read inside a page that the map lets through is one part, at the device address of that page. -/
theorem coreAccess_of_page (hm : s.mapCause n va false false = none) (f : EccFound) {r : Option Nat × State}
    (hr : s.corePart c n (s.devAddr n va) len none f = r) : s.coreAccess c n false va len none f =
      match r.1 with
      | some k => (opTenantFault c k va r.2).busFault
      | none => r.2.answer (r.2.le (s.devAddr n va) len) := by
  have hw : ¬ 0x40000000 ≤ va := by have := lt_window_of_mapCause hm; omega
  subst hr
  rcases hr : s.corePart c n (s.devAddr n va) len none f with ⟨_ | k, u⟩
  all_goals simp [State.coreAccess, hc, hpos.ne', hw, pageParts_of_page hpos hpage, hm, hr, State.le]

theorem coreAccess_read (hm : s.mapCause n va false false = none) (hin : s.inDram (s.devAddr n va) len = true)
    (hclean : s.anyBad (s.devAddr n va) len = false) :
    s.coreAccess c n false va len none { single := [], double := [] } = s.answer (s.le (s.devAddr n va) len) :=
  coreAccess_of_page hc hpos hpage hm _ (r := (none, s))
    (by simp [State.corePart, bankOf_of_dram (le_of_inDram hin), hin, State.dramDevice_read_of_clean, hclean])

/-- A page whose frame is no memory of this part counts as not VALID. -/
theorem coreAccess_noMemory (hm : s.mapCause n va false false = none) (hb : bankOf (s.devAddr n va) len = none)
    (hin : s.inDram (s.devAddr n va) len = false) (f : EccFound) :
    s.coreAccess c n false va len none f = (opTenantFault c 1 va s).busFault :=
  coreAccess_of_page hc hpos hpage hm f (r := (some 1, s)) (by simp [State.corePart, hb, hin])

end Core

/-! ### Patrol scrub (R464, R468) -/

theorem opPatrolScrub_off {s : State} (h : s.rdB MEM_CTRL MEM_CTRL_SCRUB_EN = false) (tg : ScrubTarget) (f : EccFound) (p : Bool) :
    opPatrolScrub tg f p s = s := by
  simp [opPatrolScrub, h]

theorem opPatrolScrub_cleanPass {s : State} (h : s.rdB MEM_CTRL MEM_CTRL_SCRUB_EN = true) :
    opPatrolScrub .dram { single := [], double := [] } true s =
      ((s.bump cntMEM_DRAM_CE 0).noteScrub 0 false).bump cntMEM_SCRUB_PASSES 1 := by
  simp [opPatrolScrub, h]

/-! ### The commands -/

theorem completes_portA_refused {req : MemReq} {a len n : Nat} {s : State} (t : Nat) (hd : req.direct = true)
    (hf : bankForm a len = true) (hrow : a / 16 = (a + len - 1) / 16) (hb : bankOf a len = some n)
    (hs : s.portAServes n req = false) (w : Option (List Byte)) (f : EccFound) :
    Completes (.portAAccess t req a len w f) s fun u =>
      u.bus = { err := true } ∧ u.count (cntMEM_BANK_FAULTS n) = (s.count (cntMEM_BANK_FAULTS n) + 1) % 2 ^ 64 ∧ SameMemory s u := by
  refine ⟨_, exec_portAAccess .., ?_⟩
  have e : opPortAAccess req a len w f (s.advance t) = ((s.advance t).bankFault n req a).busFault := by
    rw [opPortAAccess_of_direct hd, portADevice_refused (s := s.advance t) hf hrow hb hs, faultTo_of_direct hd]
  simp only [State.after, e]
  exact ⟨rfl, count_bankFault (s.advance t) (bankOf_lt hb) req a, (eventOnly_bankFault (s.advance t) n req a).sameMemory⟩

theorem completes_portA_write {req : MemReq} {a n : Nat} {bs : List Byte} {s : State} (t : Nat) (hd : req.direct = true)
    (hf : bankForm a bs.length = true) (hrow : a / 16 = (a + bs.length - 1) / 16) (hb : bankOf a bs.length = some n)
    (hs : s.portAServes n req = true) (hclean : s.anyBad a bs.length = false) (f : EccFound) :
    Completes (.portAAccess t req a bs.length (some bs) f) s fun u =>
      u.bus.err = false ∧ (∀ k (h : k < bs.length), u.byte (a + k) = bs[k]) ∧ (∀ x, (x < a ∨ a + bs.length ≤ x) → u.byte x = s.byte x)
        ∧ (∀ x, u.rdW x = s.rdW x) := by
  have logs := logsOnly_noteWrite (s.advance t) a bs.length
  refine ⟨_, exec_portAAccess .., ?_⟩
  have e := (opPortAAccess_of_direct hd (s.advance t) a bs.length (some bs) f).trans
    (portADevice_write (s := s.advance t) hd hf hrow hb hs hclean f)
  simp only [State.after, e]
  obtain ⟨inside, outside⟩ := written_of_byte (s := s) fun x =>
    (State.byte_writeWords_wordsOf _ a bs x).trans (by rw [State.byte_congr logs.mem]; rfl)
  exact ⟨rfl, inside, outside, State.rdW_congr ((State.writeWords_regs ..).trans logs.regs)⟩

theorem completes_dram_write {req : MemReq} {a : Nat} {bs : List Byte} {s : State} (t : Nat) (hd : req.direct = true) (hbs : bs ≠ [])
    (hin : s.inDram a bs.length = true) (ht : s.rdB MEM_DRAM_STAT MEM_DRAM_STAT_TRAINED = true)
    (hclean : s.anyBad a bs.length = false) (hten : ∀ n, n < 512 → s.tenState n ≠ 5) (f : EccFound) :
    Completes (.dramAccess t req a bs.length (some bs) f) s fun u =>
      u.bus.err = false ∧ (∀ k (h : k < bs.length), u.byte (a + k) = bs[k])
        ∧ (∀ x, (x < a ∨ a + bs.length ≤ x) → u.byte x = s.byte x) := by
  have noted := logsOnly_dramNoted (s.advance t) a bs.length
  have written := dramAccess_write (s := s.advance t) hd hbs hin ht hclean hten f
  rw [← opDramAccess_of_direct hd] at written
  refine ⟨_, exec_dramAccess .., congrArg (fun u => u.bus.err) written, written_of_byte fun x => ?_⟩
  calc _ = _ := State.byte_congr written.mem x
    _ = _ := State.byte_writeWords_wordsOf _ a bs x
    _ = _ := by rw [State.byte_congr noted.mem]; rfl

theorem completes_cleanPass {s : State} (t : Nat) (h : s.rdB MEM_CTRL MEM_CTRL_SCRUB_EN = true) :
    Completes (.patrolScrub t .dram { single := [], double := [] } true) s fun u =>
      u.count cntMEM_SCRUB_PASSES = (s.count cntMEM_SCRUB_PASSES + 1) % 2 ^ 64 ∧ SameMemory s u ∧ (∀ x, u.rdW x = s.rdW x) := by
  refine ⟨_, exec_patrolScrub .., ?_⟩
  simp only [State.after, opPatrolScrub_cleanPass (s := s.advance t) h]
  refine ⟨(State.count_bump_same ..).trans ?_, fun _ => rfl, fun _ => rfl⟩
  have apart : (((s.advance t).bump cntMEM_DRAM_CE 0).noteScrub 0 false).count cntMEM_SCRUB_PASSES = s.count cntMEM_SCRUB_PASSES :=
    State.count_bump_ne (s.advance t) 0 (by decide)
  rw [apart]

section Direct

variable {req : MemReq} {a len : Nat} {s : State} (t : Nat) (hd : req.direct = true)
include hd

theorem completes_dram_read (hpos : 0 < len) (hin : s.inDram a len = true)
    (ht : s.rdB MEM_DRAM_STAT MEM_DRAM_STAT_TRAINED = true) (hclean : s.anyBad a len = false) :
    Completes (.dramAccess t req a len none { single := [], double := [] }) s fun u =>
      u.bus.data = s.le a len ∧ u.bus.err = false ∧ u = { s with now := u.now, bus := u.bus } :=
  completes_of_read (exec_dramAccess ..)
    ((opDramAccess_of_direct hd ..).trans (dramAccess_read (s := s.advance t) hpos hin ht hclean req))

theorem completes_dram_outside (h : s.inDram a len = false) (w : Option (List Byte)) (f : EccFound) :
    Completes (.dramAccess t req a len w f) s fun u => u.bus = { err := true } ∧ u = { s with now := u.now, bus := u.bus } :=
  completes_of_busFault (exec_dramAccess ..) (by
    rw [opDramAccess_of_direct hd, dramAccess_outside (s := s.advance t) h, faultTo_of_direct hd])

end Direct

theorem completes_dma_outside {a len : Nat} {s : State} (t : Nat) (h : s.inDram a len = false) (w : Option (List Byte)) (f : EccFound) :
    Completes (.dramAccess t .dma a len w f) s fun u =>
      u.bus = { err := true, descErr := true } ∧ u = { s with now := u.now, bus := u.bus } :=
  completes_of_descFault (exec_dramAccess ..) (dramAccess_outside (s := s.advance t) h .dma w f)

theorem completes_jtag_outside {a len : Nat} {s : State} (t : Nat) (ha : 0x1000000000 ≤ a) (h : s.inDram a len = false)
    (w : Option (List Byte)) (f : EccFound) : Completes (.dramAccess t .jtag a len w f) s fun u =>
      u.bus = { err := true } ∧ u = { s with now := u.now, bus := u.bus } :=
  completes_of_busFault (exec_dramAccess ..) (opDramAccess_jtag_outside (s := s.advance t) ha h w f)

theorem Completes.imp {i : Instr} {s : State} {P Q : State → Prop} (h : Completes i s P) (k : ∀ u, P u → Q u) : Completes i s Q := by
  obtain ⟨u, hu, hp⟩ := h
  exact ⟨u, hu, k u hp⟩

/-- Settles O44: each clause by the equation of its form of access, with the end of DRAM of the smaller parts put in where the
clause names a part. -/
theorem memoryAccesses : Obligations.MemoryAccesses := by
  refine ⟨?portARead, ?portAWrite, ?portAForm, ?portARefused, ?portADma, ?portBEmpty, ?portBRead, ?dramRead, ?dramUntrained,
    ?dramOutside, ?read7132, ?read7116, ?outside7132, ?outside7116, ?dma7132, ?dma7116, ?jtag7132, ?jtag7116, ?jtagDeployed,
    ?dramWrite, ?coreIdle, ?coreRead, ?coreMapFault, ?coreNoMemory, ?scrubOff, ?scrubPass⟩
  case portARead =>
    intro t req a len n s hd hf hrow hb hs hclean
    exact completes_of_read (exec_portAAccess ..)
      ((opPortAAccess_of_direct hd ..).trans (portADevice_read (s := s.advance t) hf hrow hb hs hclean))
  case portAWrite =>
    intro t req a bs n s hd hf hrow hb hs hclean
    exact completes_portA_write t hd hf hrow hb hs hclean _
  case portAForm =>
    intro t req a len w f s hd hf
    exact completes_of_busFault (exec_portAAccess ..)
      (by rw [opPortAAccess_of_direct hd, portADevice_of_badForm hf, faultTo_of_direct hd])
  case portARefused =>
    intro t req a len n w f s hd hf hrow hb hs
    exact completes_portA_refused t hd hf hrow hb hs w f
  case portADma =>
    intro t a len w f s hf
    exact completes_of_descFault (exec_portAAccess ..) (portADevice_of_badForm hf .dma w f _)
  case portBEmpty =>
    intro t w o f s a
    exact completes_of_busFault (exec_portBAccess ..) (if_pos rfl)
  case portBRead =>
    intro t a len n s hpos hrow hb hs hclean
    exact completes_of_read (exec_portBAccess ..) (opPortBAccess_read (s := s.advance t) hpos hrow hb hs hclean)
  case dramRead =>
    intro t req a len s hd hpos hin ht hclean
    exact completes_dram_read t hd hpos hin ht hclean
  case dramUntrained =>
    intro t req a len w f s hd hpos hin ht
    exact completes_of_idle (exec_dramAccess ..)
      ((opDramAccess_of_direct hd ..).trans (dramAccess_untrained (s := s.advance t) hpos hin ht req w f))
  case dramOutside =>
    intro t req a len w f s hd h
    exact completes_dram_outside t hd h w f
  case read7132 =>
    intro t req a len s hd hv ht hpos hlo hhi hclean
    have hin := (inDram_iff_of_dramEnd (dramEnd_mls7132 hv)).2 ⟨hlo, hhi⟩
    exact (completes_dram_read t hd hpos hin ht hclean).imp fun _ ⟨hdata, herr, _⟩ => ⟨hdata, herr⟩
  case read7116 =>
    intro t req a len s hd hv ht hpos hlo hhi hclean
    have hin := (inDram_iff_of_dramEnd (dramEnd_mls7116 hv)).2 ⟨hlo, hhi⟩
    exact (completes_dram_read t hd hpos hin ht hclean).imp fun _ ⟨hdata, herr, _⟩ => ⟨hdata, herr⟩
  case outside7132 =>
    intro t req a len w f s hd hv h
    exact completes_dram_outside t hd (inDram_eq_false_of_dramEnd (dramEnd_mls7132 hv) h) w f
  case outside7116 =>
    intro t req a len w f s hd hv h
    exact completes_dram_outside t hd (inDram_eq_false_of_dramEnd (dramEnd_mls7116 hv) h) w f
  case dma7132 =>
    intro t a len w f s hv h
    exact completes_dma_outside t (inDram_eq_false_of_dramEnd (dramEnd_mls7132 hv) h) w f
  case dma7116 =>
    intro t a len w f s hv h
    exact completes_dma_outside t (inDram_eq_false_of_dramEnd (dramEnd_mls7116 hv) h) w f
  case jtag7132 =>
    intro t a len w f s hv h ha
    exact completes_jtag_outside t ha (inDram_eq_false_of_dramEnd (dramEnd_mls7132 hv) h) w f
  case jtag7116 =>
    intro t a len w f s hv h ha
    exact completes_jtag_outside t ha (inDram_eq_false_of_dramEnd (dramEnd_mls7116 hv) h) w f
  case jtagDeployed =>
    intro t a len w f s hl
    exact completes_of_busFault (exec_dramAccess ..) (opDramAccess_jtag_deployed (s := s.advance t) hl a len w f)
  case dramWrite =>
    intro t req a bs s hd hbs hin ht hclean hten
    exact completes_dram_write t hd hbs hin ht hclean hten _
  case coreIdle =>
    intro t c n m va len w f s hc hmn
    have other : (s.advance t).coreTenant c ≠ some n := fun h => hmn (Option.some.inj (hc.symm.trans h))
    exact completes_of_idle (exec_dramAccess ..) (coreAccess_of_notInService other false va len w f)
  case coreRead =>
    intro t c n va len s hc hpos hpage hm hin hclean
    exact completes_of_read (exec_dramAccess ..) (coreAccess_read (s := s.advance t) hc hpos hpage hm hin hclean)
  case coreMapFault =>
    intro t c n va len k s hc hpos hpage hva hk
    rw [exec_dramAccess]
    exact congrArg _ (State.after_congr (coreAccess_mapFault (s := s.advance t) hc hpos hpage hva hk _))
  case coreNoMemory =>
    intro t c n va len s hc hpos hpage _ hm hb hin
    rw [exec_dramAccess]
    exact congrArg _ (State.after_congr (coreAccess_noMemory (s := s.advance t) hc hpos hpage hm hb hin _))
  case scrubOff =>
    intro t tg f p s h
    exact completes_of_idle (exec_patrolScrub ..) (opPatrolScrub_off (s := s.advance t) h tg f p)
  case scrubPass =>
    intro t s h
    exact completes_cleanPass t h

end Sys2Proof.Machine
end

section
/-! Words of control space that an operation leaves alone. Posted events, flags, device writes and everything the recorders do with an
offered trigger keep the words of the output block. -/

namespace Sys2Proof.Machine

/-! ### Words left alone -/

/-- The words of control space that `P` names read as before. -/
structure KeepsWords (P : Nat → Prop) (s u : State) : Prop where
  words : ∀ a, P a → u.rdW a = s.rdW a

namespace KeepsWords

variable {P : Nat → Prop}

theorem refl (s : State) : KeepsWords P s s := ⟨fun _ _ => rfl⟩

theorem trans {s u v : State} (h : KeepsWords P s u) (k : KeepsWords P u v) : KeepsWords P s v :=
  ⟨fun a ha => (k.words a ha).trans (h.words a ha)⟩

theorem mono {Q : Nat → Prop} {s u : State} (h : KeepsWords P s u) (k : ∀ a, Q a → P a) : KeepsWords Q s u :=
  ⟨fun a ha => h.words a (k a ha)⟩

theorem of_regs {s u : State} (h : u.regs = s.regs) : KeepsWords P s u := ⟨fun a _ => State.rdW_congr h a⟩

theorem ite {c : Prop} [Decidable c] {s u v : State} (h : KeepsWords P s u) (k : KeepsWords P s v) :
    KeepsWords P s (if c then u else v) := by
  split <;> assumption

theorem wrW (s : State) {a : Nat} (w : Word) (h : ¬ P a) : KeepsWords P s (s.wrW a w) :=
  ⟨fun b hb => s.rdW_wrW_ne w (by rintro rfl; exact h hb)⟩

theorem wr (s : State) {a : Nat} (f : Fld) (v : Nat) (h : ¬ P a) : KeepsWords P s (s.wr a f v) := wrW s _ h

theorem foldl {β : Type} {f : State → β → State} (l : List β) (s : State) (h : ∀ u, ∀ b ∈ l, KeepsWords P u (f u b)) :
    KeepsWords P s (l.foldl f s) :=
  List.foldlRecOn (motive := KeepsWords P s) l f (.refl s) fun _ ih b hb => ih.trans (h _ b hb)

end KeepsWords

/-- A word of the output block (R11). -/
abbrev OutWord (a : Nat) : Prop := a / 2 ^ 24 = 8

abbrev OutKept : State → State → Prop := KeepsWords OutWord

theorem EventOnly.outKept {s u : State} (h : EventOnly s u) : OutKept s u :=
  ⟨fun a (ha : a / 2 ^ 24 = 8) => h.words a (not_eventWord (by omega) (by omega))⟩

theorem outKept_devWrite (s : State) (a : Nat) (b : List Byte) : OutKept s (s.devWrite a b) := by
  unfold State.devWrite State.store
  exact .ite (.refl s) (.of_regs ((State.setBytes_regs ..).trans (logsOnly_noteWrite ..).regs))

theorem outKept_setFlags (s : State) (d bits : Nat) : OutKept s (s.setFlags d bits) := by
  unfold State.setFlags
  split
  next h =>
    have apart : ¬ OutWord (SCH_DESC d 0) := by unfold OutWord SCH_DESC; omega
    unfold State.putFlags State.noteCond
    exact .ite ((KeepsWords.wrW s _ apart).trans (.of_regs rfl)) (.wrW s _ apart)
  next => exact .of_regs rfl

theorem eventOnly_grant (s : State) (x : Nat) (need : KeyNeed) (m : Master) (secure : Bool) :
    ∃ a n, EventOnly (s.bump a n) (s.grant x need m secure).2 := by
  unfold State.grant
  dsimp only
  split
  · exact ⟨_, _, .refl _⟩
  · exact ⟨_, _, EventOnly.postLimited _ _ _ _ (by omega)⟩

theorem outKept_grant (s : State) (x : Nat) (need : KeyNeed) (m : Master) (secure : Bool) :
    OutKept s (s.grant x need m secure).2 := by
  obtain ⟨a, n, h⟩ := eventOnly_grant s x need m secure
  exact (KeepsWords.of_regs (s := s) (u := s.bump a n) rfl).trans h.outKept

/-! ### The recorders leave the output block's words alone -/

theorem outKept_recShow (s : State) : OutKept s s.recShow :=
  ((KeepsWords.wr s _ _ (by decide)).trans (KeepsWords.wr _ _ _ (by decide))).trans (KeepsWords.wr _ _ _ (by decide))

section

variable (s : State) {r : Nat} (hr : r < 16)
include hr

theorem outKept_wrRecState (f : Fld) (v : Nat) : OutKept s (s.wr (REC_STATE r) f v) :=
  KeepsWords.wr s f v (by unfold OutWord REC_STATE; omega)

theorem outKept_setRecState (v : Nat) : OutKept s (s.setRecState r v) :=
  (outKept_wrRecState s hr _ v).trans (outKept_recShow _)

omit hr in
theorem outKept_recHeader : OutKept s (s.recHeader r) := by
  unfold State.recHeader
  dsimp only
  split <;> exact outKept_devWrite ..

theorem outKept_recDone (cause : Nat) : OutKept s (s.recDone r cause) := by
  unfold State.recDone
  dsimp only
  refine .trans ?_ (EventOnly.post _ _ _).outKept
  refine .trans ?_ (.of_regs (State.bump_regs ..))
  refine .trans ?_ (outKept_recHeader _)
  exact (outKept_wrRecState s hr _ cause).trans (outKept_setRecState _ hr 3)

theorem outKept_recCount (n : Nat) : OutKept s (s.recCount r n) := by
  have counted : OutKept s (s.wrW (REC_POST_ACT r) (BitVec.ofNat 32 (min n (s.recDyn r).postEff))) :=
    KeepsWords.wrW s _ (by unfold OutWord REC_POST_ACT; omega)
  exact .ite (counted.trans (outKept_recDone _ hr 0)) counted

omit hr in
theorem outKept_xtrgDrive (l : Nat) : OutKept s (s.xtrgDrive l) :=
  (KeepsWords.wr s REC_XTRG_STAT_DRIVING _ (by decide)).trans (.of_regs rfl)

omit hr in
theorem outKept_domSend (t : RecTrig) : OutKept s (s.domSend r t) := by
  unfold State.domSend
  refine .ite (.refl s) ?_
  have granted := outKept_grant s (s.rd REC_DOM_CFG REC_DOM_CFG_KEY) ⟨[2], [uMac]⟩ .publish false
  exact .ite granted (granted.trans ((KeepsWords.wrW _ _ (by decide)).trans (.of_regs rfl)))

/-- A trigger offered to a recorder (R363). -/
theorem outKept_recOffer (src t detail : Nat) (frac : Option Nat) : OutKept s (s.recOffer r src t detail frac).2 := by
  unfold State.recOffer
  dsimp only
  split
  case isTrue => exact .refl s
  split
  case isTrue => exact .ite (.of_regs rfl) (.of_regs rfl)
  split
  case isTrue => exact .of_regs rfl
  split
  case isTrue => exact .of_regs rfl
  refine .trans ?_ (outKept_recCount _ hr _)
  refine .trans ?_ (.ite (EventOnly.fireSource _ 3).outKept (.refl _))
  refine .trans ?_ (.ite (outKept_devWrite ..) (.refl _))
  refine .trans ?_ (KeepsWords.foldl _ _ fun u l _ => .ite (outKept_xtrgDrive u l) (.refl u))
  refine .trans ?_ (outKept_domSend _ _)
  refine .trans ?_ (EventOnly.post _ _ _).outKept
  refine .trans ?_ (outKept_setRecState _ hr 2)
  refine .trans ?_ (outKept_wrRecState _ hr _ _)
  refine .trans ?_ (KeepsWords.wr _ _ _ (by unfold OutWord REC_TRIG_POS; omega))
  refine .trans ?_ (KeepsWords.wrW _ _ (by unfold OutWord REC_TRIG_TIME_HI; omega))
  refine .trans ?_ (KeepsWords.wrW _ _ (by unfold OutWord REC_TRIG_TIME_LO; omega))
  refine .trans ?_ (KeepsWords.wrW _ _ (by unfold OutWord REC_PRE_ACT; omega))
  exact .of_regs rfl

end

theorem outKept_recOfferAll (s : State) (sel : Nat → Bool) (src t detail : Nat) : OutKept s (s.recOfferAll sel src t detail) :=
  KeepsWords.foldl _ s fun u r h => outKept_recOffer u (by simpa using (List.mem_filter.1 h).1) src t detail none

theorem outKept_recSync (s : State) : OutKept s s.recSync := by
  unfold State.recSync
  refine .ite (.refl s) (.trans ?_ (outKept_recOfferAll ..))
  exact .of_regs rfl

theorem outKept_recBin (s : State) (n : Nat) : ∀ ch, OutKept s (s.recBin n ch)
  | none => .refl s
  | some _ => ((outKept_recSync s).trans (outKept_recOfferAll ..)).trans (outKept_recSync _)

end Sys2Proof.Machine
end

section
/-! Binary inputs (R331 to R333): a bit of a bitmap register written, what the event of a change does to the debounced states, and
the commands. -/

namespace Sys2Proof.Machine

/-! ### Bits of a bitmap register -/

theorem testBit_add_two_pow {n i : Nat} (h : n.testBit i = false) (j : Nat) :
    (n + 2 ^ i).testBit j = (decide (j = i) || n.testBit j) := by
  induction i generalizing n j with
  | zero =>
    have even : n % 2 = 0 := Nat.mod_two_eq_zero_iff_testBit_zero.2 h
    cases j with
    | zero => simp [Nat.testBit_zero]; omega
    | succ j => simp [Nat.testBit_succ, show (n + 1) / 2 = n / 2 by omega]
  | succ i ih =>
    have half : (n + 2 ^ (i + 1)) / 2 = n / 2 + 2 ^ i := by omega
    cases j with
    | zero => simp [Nat.testBit_zero]; omega
    | succ j =>
      rw [Nat.testBit_succ] at h
      simp [Nat.testBit_succ, half, ih h]

theorem testBit_sub_two_pow {n i : Nat} (h : n.testBit i = true) (j : Nat) :
    (n - 2 ^ i).testBit j = (!decide (j = i) && n.testBit j) := by
  have split : n = 2 ^ i + (n - 2 ^ i) := by have := Nat.ge_two_pow_of_testBit h; omega
  have clear : (n - 2 ^ i).testBit i = false := by
    rw [split, Nat.testBit_two_pow_add_eq] at h
    simpa using h
  have rest := testBit_add_two_pow clear j
  rw [Nat.add_comm, ← split] at rest
  by_cases e : j = i
  · subst e; simp [clear]
  · simp [e, rest]

/-- A bit written reads back, and the others stay. -/
theorem testBit_nsetBit (n i : Nat) (b : Bool) (j : Nat) : (nsetBit n i b).testBit j = if j = i then b else n.testBit j := by
  unfold nsetBit
  cases b <;> cases h : n.testBit i
  all_goals by_cases e : j = i <;> simp [e, h, testBit_add_two_pow, testBit_sub_two_pow]

theorem State.testBit_setBin (s : State) (reg n : Nat) (b : Bool) {k : Nat} (h : k < 32) :
    ((s.setBin reg n b).rdW reg).toNat.testBit k = if k = n then b else (s.rdW reg).toNat.testBit k := by
  rw [State.setBin, State.rdW_wrW_same, BitVec.toNat_ofNat, Nat.testBit_mod_two_pow, testBit_nsetBit]
  simp [h]

/-! ### What the three commands do -/

theorem exec_binChangeAccepted (t n : Nat) (s : State) :
    exec (.binChangeAccepted t n) s = .next (s.after t (opBinChangeAccepted n)) := rfl

theorem exec_binBlockEnd (t n : Nat) (level : Bool) (s : State) :
    exec (.binBlockEnd t n level) s = .next (s.after t (opBinBlockEnd n level)) := rfl

theorem exec_outBinEvtPop (t : Nat) (s : State) : exec (.outBinEvtPop t) s = .next (s.after t opOutBinEvtPop) := rfl

/-! ### The event queue's registers (R333) -/

/-- Word `i` of the entry at the head of the binary event queue. -/
def State.binEvtWord (s : State) (i : Nat) : Word := BitVec.ofNat 32 (leAt (s.out.events.headD []) (4 * i) 4)

theorem State.binShow_eq (s : State) : s.binShow =
    ((((s.wr OUT_STAT OUT_STAT_BIN_EVT_COUNT s.out.events.length).wrW (OUT_BIN_EVT 0) (s.binEvtWord 0)).wrW
      (OUT_BIN_EVT 1) (s.binEvtWord 1)).wrW (OUT_BIN_EVT 2) (s.binEvtWord 2)).wrW (OUT_BIN_EVT 3) (s.binEvtWord 3) := rfl

theorem State.rdW_binShow_evt (s : State) : ∀ k < 4, s.binShow.rdW (OUT_BIN_EVT k) = s.binEvtWord k := by
  have apart : ∀ j < 4, ∀ k < 4, j ≠ k → OUT_BIN_EVT j ≠ OUT_BIN_EVT k := by decide
  intro k hk
  interval_cases k
  all_goals simp [State.binShow_eq, State.rdW_wrW_ne, apart]

theorem State.rd_binShow_count (s : State) : s.binShow.rd OUT_STAT OUT_STAT_BIN_EVT_COUNT
    = s.out.events.length % 2 ^ OUT_STAT_BIN_EVT_COUNT.width := by
  have apart : ∀ k < 4, OUT_STAT ≠ OUT_BIN_EVT k := by decide
  rw [State.binShow_eq]
  simp only [State.rd, State.rdW_wrW_ne, apart, ne_eq, Nat.reduceLT, not_false_eq_true, State.rdW_wr_same]
  exact fget_fset_same _ _ _ (by decide)

theorem completes_outBinEvtPop (t : Nat) (s : State) : Completes (.outBinEvtPop t) s fun u =>
    u.out = { s.out with events := s.out.events.drop 1 } ∧
      (∀ k, k < 4 → u.rdW (OUT_BIN_EVT k) = BitVec.ofNat 32 (leAt ((s.out.events.drop 1).headD []) (4 * k) 4)) ∧
      u.rd OUT_STAT OUT_STAT_BIN_EVT_COUNT = (s.out.events.drop 1).length % 2 ^ OUT_STAT_BIN_EVT_COUNT.width :=
  ⟨_, exec_outBinEvtPop t s, rfl, State.rdW_binShow_evt _, State.rd_binShow_count _⟩

/-! ### The debounced states (R331) -/

theorem State.binState_congr {s u : State} (h : u.rdW OUT_BIN_STATE = s.rdW OUT_BIN_STATE) (n : Nat) : u.binState n = s.binState n := by
  unfold State.binState; rw [h]

theorem State.binBlocked_congr {s u : State} (h : u.rdW OUT_BIN_BLOCKED = s.rdW OUT_BIN_BLOCKED) (n : Nat) :
    u.binBlocked n = s.binBlocked n := by
  unfold State.binBlocked; rw [h]

theorem State.rdW_setBin_ne (s : State) {reg a : Nat} (n : Nat) (b : Bool) (h : a ≠ reg) : (s.setBin reg n b).rdW a = s.rdW a :=
  s.rdW_wrW_ne _ h

theorem keepsWords_binShow {P : Nat → Prop} (s : State) (h : ¬ P OUT_STAT) (k : ∀ i < 4, ¬ P (OUT_BIN_EVT i)) :
    KeepsWords P s s.binShow := by
  rw [State.binShow_eq]
  refine .trans ?_ (.wrW _ _ (k 3 (by decide)))
  refine .trans ?_ (.wrW _ _ (k 2 (by decide)))
  refine .trans ?_ (.wrW _ _ (k 1 (by decide)))
  exact (KeepsWords.wr s _ _ h).trans (.wrW _ _ (k 0 (by decide)))

/-- The event of a change touches no debounced state but that of its input (R333). -/
theorem keepsWords_binEvent (s : State) (n : Nat) (level : Bool) (stamp : Nat) (unblock : Bool) :
    KeepsWords (· = OUT_BIN_STATE) (s.setBin OUT_BIN_STATE n level) (s.binEvent n level stamp unblock) := by
  unfold State.binEvent
  dsimp only
  refine .trans ?_ (.ite ((outKept_setFlags _ _ _).mono (by rintro a rfl; rfl)) (.refl _))
  refine .ite (.of_regs rfl) (.trans ?_ (keepsWords_binShow _ (by decide) (by decide)))
  exact .of_regs rfl

theorem keepsWords_setChatter {P : Nat → Prop} (s : State) (n : Nat) (x : Nat × Nat) : KeepsWords P s (s.setChatter n x) := .of_regs rfl

/-! ### A change accepted (R331, R332) -/

theorem State.binAccept_of_offInstant {s : State} (h : s.dom % 1000 ≠ 0) (n : Nat) : s.binAccept n = (none, s) := by
  rw [State.binAccept, if_pos (.inr h)]

/-- A blocked input accepts no change; at most its raw change is noted (R332). -/
theorem State.binAccept_of_blocked {s : State} {n : Nat} (h : s.binBlocked n = true) :
    ∃ c, s.binAccept n = (none, { s with out := { s.out with chatter := c } }) := by
  by_cases k : 32 ≤ n ∨ s.dom % 1000 ≠ 0
  · exact ⟨s.out.chatter, if_pos k⟩
  · exact ⟨_, (if_neg k).trans (if_pos h)⟩

section

variable {s : State} {n : Nat} (hn : n < 32) (hb : s.binBlocked n = false) (hd : s.dom % 1000 = 0)
include hn hb hd

/-- The change and its timestamp: the first of the differing samples (R331). -/
theorem State.binAccept_change : (s.binAccept n).1
    = some (!s.binState n, (s.dom / 1000 - (max 1 (s.rd (OUT_BIN_CFG n) OUT_BIN_CFG_DEBOUNCE) - 1)) * 1000) := by
  rw [State.binAccept, if_neg (by omega), if_neg (by simp [hb])]

/-- Of the debounced states only that of the input changes. -/
theorem keepsWords_binAccept :
    KeepsWords (· = OUT_BIN_STATE) (s.setBin OUT_BIN_STATE n (!s.binState n)) (s.binAccept n).2 := by
  have raw : KeepsWords (· = OUT_BIN_STATE) (s.setBin OUT_BIN_STATE n (!s.binState n))
      ((s.setBin OUT_BIN_RAW n (!s.binState n)).setBin OUT_BIN_STATE n (!s.binState n)) :=
    ⟨by
      rintro a rfl
      simp only [State.setBin, State.rdW_wrW_same, State.rdW_wrW_ne _ _ (show OUT_BIN_STATE ≠ OUT_BIN_RAW by decide)]⟩
  rw [State.binAccept, if_neg (by omega), if_neg (by simp [hb])]
  dsimp only
  refine raw.trans (.trans ?changed (.ite ?blocked (.refl _)))
  case blocked => exact .trans (.wrW _ _ (by decide)) ((EventOnly.post _ _ _).outKept.mono (by rintro a rfl; rfl))
  case changed => exact (keepsWords_binEvent ..).trans (keepsWords_setChatter ..)

end

theorem completes_binChange_offInstant {t n : Nat} {s : State} (h : (s.advance t).dom % 1000 ≠ 0) :
    Completes (.binChangeAccepted t n) s fun u => u = { s with now := u.now } :=
  completes_of_idle (exec_binChangeAccepted t n s) (by rw [opBinChangeAccepted, State.binAccept_of_offInstant h]; rfl)

theorem completes_binChange_blocked {t n : Nat} {s : State} (h : s.binBlocked n = true) :
    Completes (.binChangeAccepted t n) s fun u =>
      u.binState n = s.binState n ∧ u = { s with now := u.now, out := { s.out with chatter := u.out.chatter } } := by
  obtain ⟨c, hc⟩ := State.binAccept_of_blocked (s := s.advance t) h
  refine ⟨_, exec_binChangeAccepted t n s, ?_⟩
  simp only [State.after, opBinChangeAccepted, hc]
  exact ⟨rfl, rfl⟩

theorem completes_binChange_accepted {t n : Nat} {s : State} (hn : n < 32) (hb : s.binBlocked n = false)
    (hd : (s.advance t).dom % 1000 = 0) : Completes (.binChangeAccepted t n) s fun u =>
      u.binState n = !s.binState n ∧ (∀ k, k < 32 → k ≠ n → u.binState k = s.binState k) := by
  have word : (opBinChangeAccepted n (s.advance t)).rdW OUT_BIN_STATE
      = ((s.advance t).setBin OUT_BIN_STATE n (!s.binState n)).rdW OUT_BIN_STATE :=
    ((outKept_recBin _ n _).words _ rfl).trans ((keepsWords_binAccept (s := s.advance t) hn hb hd).words _ rfl)
  have bit {k : Nat} (hk : k < 32) : (s.after t (opBinChangeAccepted n)).binState k = if k = n then !s.binState n else s.binState k := by
    rw [State.binState, State.after_rdW, word]
    exact State.testBit_setBin _ _ _ _ hk
  refine ⟨_, exec_binChangeAccepted t n s, ?_, fun k hk hne => ?_⟩
  · rw [bit hn, if_pos rfl]
  · rw [bit hk, if_neg hne]

/-! ### The end of a block (R332) -/

theorem State.binUnblock_of_open {s : State} {n : Nat} (h : s.binBlocked n = false) (level : Bool) :
    s.binUnblock n level = (none, s) := by
  simp [State.binUnblock, h]

theorem State.binUnblock_of_offSecond {s : State} (h : s.dom % 1000000000 ≠ 0) (n : Nat) (level : Bool) :
    s.binUnblock n level = (none, s) := by
  simp [State.binUnblock, h]

/-- A block that ends at the debounced level makes no change. -/
theorem State.binUnblock_unchanged {s : State} {n : Nat} {level : Bool} (hn : n < 32) (hb : s.binBlocked n = true)
    (hl : s.binState n = level) (hd : s.dom % 1000000000 = 0)
    (hq : (cget (fun _ => (0, 0)) s.out.chatter n).1 + 2 ≤ s.dom / 1000000000) :
    s.binUnblock n level = (none, (s.setBin OUT_BIN_BLOCKED n false).setBin OUT_BIN_RAW n level) := by
  have kept : ((s.setBin OUT_BIN_BLOCKED n false).setBin OUT_BIN_RAW n level).binState n = level :=
    (State.binState_congr ((State.rdW_setBin_ne _ _ _ (by decide)).trans (State.rdW_setBin_ne _ _ _ (by decide))) n).trans hl
  unfold State.binUnblock
  rw [if_neg (by simp [hb]; omega), if_pos kept]

theorem completes_binBlockEnd_open {t n : Nat} {level : Bool} {s : State} (h : s.binBlocked n = false) :
    Completes (.binBlockEnd t n level) s fun u => u = { s with now := u.now } :=
  completes_of_idle (exec_binBlockEnd t n level s) (by rw [opBinBlockEnd, State.binUnblock_of_open (s := s.advance t) h]; rfl)

theorem completes_binBlockEnd_offSecond {t n : Nat} {level : Bool} {s : State} (h : (s.advance t).dom % 1000000000 ≠ 0) :
    Completes (.binBlockEnd t n level) s fun u => u = { s with now := u.now } :=
  completes_of_idle (exec_binBlockEnd t n level s) (by rw [opBinBlockEnd, State.binUnblock_of_offSecond h]; rfl)

theorem completes_binBlockEnd_unchanged {t n : Nat} {level : Bool} {s : State} (hn : n < 32) (hb : s.binBlocked n = true)
    (hl : s.binState n = level) (hd : (s.advance t).dom % 1000000000 = 0)
    (hq : (cget (fun _ => (0, 0)) s.out.chatter n).1 + 2 ≤ (s.advance t).dom / 1000000000) :
    Completes (.binBlockEnd t n level) s fun u => u.binBlocked n = false ∧ u.binState n = level ∧ u.out = s.out := by
  have e : opBinBlockEnd n level (s.advance t) = ((s.advance t).setBin OUT_BIN_BLOCKED n false).setBin OUT_BIN_RAW n level := by
    rw [opBinBlockEnd, State.binUnblock_unchanged (s := s.advance t) hn hb hl hd hq]; rfl
  refine ⟨_, exec_binBlockEnd t n level s, ?_⟩
  simp only [State.after, e]
  refine ⟨?_, ?_, rfl⟩
  · exact (State.binBlocked_congr (State.rdW_setBin_ne ((s.advance t).setBin OUT_BIN_BLOCKED n false) n level (by decide)) n).trans
      ((State.testBit_setBin _ _ _ _ hn).trans (if_pos rfl))
  · exact (State.binState_congr ((State.rdW_setBin_ne ((s.advance t).setBin OUT_BIN_BLOCKED n false) n level (by decide)).trans
      (State.rdW_setBin_ne (s.advance t) n false (by decide))) n).trans hl

end Sys2Proof.Machine
end

section
/-! Publish commits (R335) and retransmissions (R341). -/

namespace Sys2Proof.Machine

/-! ### Publish commits (R335) -/

theorem exec_twPubCommit (t core : Nat) (v : Word) (s : State) :
    exec (.twPubCommit t core v) s = .next (s.after t (opTwPubCommit core v)) := rfl

theorem exec_scheduledRetransmission (t p : Nat) (s : State) :
    exec (.scheduledRetransmission t p) s = .next (s.after t (opScheduledRetransmission p)) := rfl

/-- TW_PUB_STAT of a core. -/
def State.setPubStat (s : State) (core st : Nat) : State :=
  { s with out := { s.out with stat := cset (fun _ => 0) s.out.stat core st } }

theorem completes_of_pubStat {t core st : Nat} {v : Word} {s : State}
    (h : opTwPubCommit core v (s.advance t) = (s.advance t).setPubStat core st) :
    Completes (.twPubCommit t core v) s fun u =>
      cget (fun _ => 0) u.out.stat core = st ∧ u = { s with now := u.now, out := { s.out with stat := u.out.stat } } := by
  refine ⟨_, exec_twPubCommit t core v s, ?_⟩
  simp only [State.after, h]
  exact ⟨cget_cset_same _ _ _ _, rfl⟩

section

variable {core n : Nat} {s : State} (v : Word) (hc : s.coreTenant core = some n)
include hc

/-- A tenant that does not run is answered 0x0501. -/
theorem opTwPubCommit_notRunning (h : s.tenState n = 4) : opTwPubCommit core v s = s.setPubStat core 0x0501 := by
  simp [opTwPubCommit, State.setPubStat, hc, h, State.tenActive]

/-- A slot of another owner is answered 0x0540. -/
theorem opTwPubCommit_notOwner (h : s.tenState n = 2) (ho : s.slotOwner (v.toNat % 4096) ≠ some n) :
    opTwPubCommit core v s = s.setPubStat core 0x0540 := by
  simp [opTwPubCommit, State.setPubStat, hc, h, State.tenActive, ho]

/-- A commit that fits the slot and its queue joins the queue. -/
theorem opTwPubCommit_queued (h : s.tenState n = 2) (ho : s.slotOwner (v.toNat % 4096) = some n)
    (hf : v.toNat / 4096 % 256 + (v.toNat / 1048576 % 256 + 1) ≤ 256)
    (hq : (s.queueOf (v.toNat % 4096)).length < max 1 (s.rd (TEN_LIMIT_CUR n) TEN_LIMIT_CUR_PUBQ)) :
    opTwPubCommit core v s =
      State.setPubStat ((s.setQueue (v.toNat % 4096) (s.queueOf (v.toNat % 4096) ++
        [{ first := v.toNat / 4096 % 256, values := (List.range (v.toNat / 1048576 % 256 + 1)).map fun i =>
          s.staged core (v.toNat / 4096 % 256 + i) }])).holdOr (.commit (v.toNat % 4096))) core 0 := by
  have active : s.tenActive n = true := by simp [State.tenActive, h]
  simp only [opTwPubCommit, hc, active]
  rw [if_neg (by simp), if_neg (by simp [ho]; omega), if_neg (by omega)]
  rfl

end

/-! ### Retransmissions (R341) -/

theorem opScheduledRetransmission_off {s : State} {p : Nat} (h : s.pubDyn p = none) : opScheduledRetransmission p s = s := by
  simp only [opScheduledRetransmission, h]

theorem opScheduledRetransmission_early {s : State} {p : Nat} {x : OutPub} (h : s.pubDyn p = some x) (hn : s.now < x.next) :
    opScheduledRetransmission p s = s := by
  simp only [opScheduledRetransmission, h]
  rw [if_pos (.inr hn)]

/-- The interval after the one in progress (R341). -/
def OutPub.nextInterval (x : OutPub) (r : PubRec) : Nat := if x.step + 1 ≤ r.repeats then r.t1 else min (2 * x.interval) r.t0

/-- The publisher with its next interval begun. -/
def OutPub.stepped (x : OutPub) (r : PubRec) : OutPub :=
  { x with step := x.step + 1, interval := x.nextInterval r, next := x.next + 1000 * x.nextInterval r }

theorem opScheduledRetransmission_due {s : State} {p : Nat} {x : OutPub} (h : s.pubDyn p = some x) (ht : (s.pubRec p).type = 1)
    (hn : x.next ≤ s.now) (hk : x.keyBad = false) :
    opScheduledRetransmission p s = ((s.setPub p (some (x.stepped (s.pubRec p)))).setNums p (s.stNum p) (nextNum (s.sqNum p))).sendGoose p
      (s.pubRec p) := by
  simp only [opScheduledRetransmission, h]
  rw [if_neg (by omega), if_neg (by simp [hk])]
  rfl

/-! ### What a frame sent leaves of its publisher -/

/-- Whether the publisher's key worked is noted. -/
def State.noteKey (s : State) (p : Nat) (ok : Bool) : State :=
  match s.pubDyn p with
  | some x => s.setPub p (some { x with keyBad := !ok })
  | none => s

/-- What follows the use of the key: the frame is counted as failed, or built and handed over. -/
def State.sendKeyed (s : State) (p : Nat) (r : PubRec) (fills : Nat → Option (List Byte)) (asdus : List (Nat → Option (List Byte)))
    (ok : Bool) : State :=
  if !ok then
    if r.type = 1 then (s.bump (cntOUT_PUB_BUILD_ERR p) 1).bump (cntOUT_PUB_MUTED p) 1 else s.bump (cntOUT_PUB_BUILD_ERR p) 1
  else match (fillTemplate fills asdus (r.tplLen + 1) (s.template r)).bind (s.pubFrame r) with
    | some b => (s.bump (cntOUT_PUB_FRAMES p) 1).handOver (if r.type = 1 then 7 else 6) b
    | none => s.buildErr p

theorem State.sendPub_eq (s : State) (p : Nat) (r : PubRec) (fills : Nat → Option (List Byte))
    (asdus : List (Nat → Option (List Byte))) : s.sendPub p r fills asdus =
      if (s.setLastTx p).pubMuted r then
        if r.type = 1 then (s.setLastTx p).bump (cntOUT_PUB_MUTED p) 1 else s.setLastTx p
      else (((s.setLastTx p).pubKey r).2.noteKey p ((s.setLastTx p).pubKey r).1).sendKeyed p r fills asdus
        ((s.setLastTx p).pubKey r).1 := rfl

/-- The numbers stay, and of the publisher's state at most the key's failure is noted. -/
structure FrameSent (p : Nat) (s u : State) : Prop where
  nums : KeepsWords (fun a => a = OUT_PUBLISHER p 11 ∨ a = OUT_PUBLISHER p 12) s u
  dyn : ∀ x, s.pubDyn p = some x → ∃ k, u.pubDyn p = some { x with keyBad := k }

namespace FrameSent

variable {p : Nat}

theorem of_kept {s u : State} (h : KeepsWords (fun a => a = OUT_PUBLISHER p 11 ∨ a = OUT_PUBLISHER p 12) s u) (k : u.out = s.out) :
    FrameSent p s u where
  nums := h
  dyn x hx := ⟨x.keyBad, by rw [State.pubDyn, k]; exact hx⟩

theorem refl (s : State) : FrameSent p s s := of_kept (.refl s) rfl

theorem trans {s u v : State} (h : FrameSent p s u) (k : FrameSent p u v) : FrameSent p s v where
  nums := h.nums.trans k.nums
  dyn x hx := by
    obtain ⟨b, hb⟩ := h.dyn x hx
    obtain ⟨d, hd⟩ := k.dyn _ hb
    exact ⟨d, hd⟩

theorem ite {c : Prop} [Decidable c] {s u v : State} (h : FrameSent p s u) (k : FrameSent p s v) : FrameSent p s (if c then u else v) := by
  split <;> assumption

theorem bump (s : State) (a n : Nat) : FrameSent p s (s.bump a n) := of_kept (.of_regs rfl) rfl

theorem handOver (s : State) (cls : Nat) (b : List Byte) : FrameSent p s (s.handOver cls b) := of_kept (.of_regs rfl) rfl

theorem setLastTx (s : State) : FrameSent p s (s.setLastTx p) :=
  of_kept ((KeepsWords.wrW _ _ (by unfold OUT_PUBLISHER; omega)).trans (.wrW _ _ (by unfold OUT_PUBLISHER; omega))) rfl

theorem of_eventOnly {s u : State} (hp : p < 1024) (h : EventOnly s u) : FrameSent p s u :=
  of_kept (h.outKept.mono (by unfold OutWord OUT_PUBLISHER; omega)) h.out

theorem noteKey (s : State) (ok : Bool) : FrameSent p s (s.noteKey p ok) := by
  unfold State.noteKey
  split
  next x hx =>
    refine ⟨.of_regs rfl, fun y hy => ⟨!ok, ?_⟩⟩
    cases hx.symm.trans hy
    exact cget_cset_same _ _ _ _
  next => exact .refl s

section

variable (hp : p < 1024) (s : State)
include hp

theorem grant (x : Nat) (need : KeyNeed) (m : Master) (secure : Bool) : FrameSent p s (s.grant x need m secure).2 := by
  obtain ⟨a, n, h⟩ := eventOnly_grant s x need m secure
  exact (bump s a n).trans (of_eventOnly hp h)

theorem pubKey (r : PubRec) : FrameSent p s (s.pubKey r).2 := by
  unfold State.pubKey
  split
  · exact grant hp s _ _ _ _
  · exact .refl s

theorem buildErr : FrameSent p s (s.buildErr p) :=
  (bump s _ 1).trans (of_eventOnly hp (EventOnly.postLimited _ _ _ _ (by omega)))

theorem sendKeyed (r : PubRec) (fills : Nat → Option (List Byte)) (asdus : List (Nat → Option (List Byte))) (ok : Bool) :
    FrameSent p s (s.sendKeyed p r fills asdus ok) := by
  unfold State.sendKeyed
  split
  · exact .ite ((bump s _ 1).trans (bump _ _ 1)) (bump s _ 1)
  · split
    · exact (bump s _ 1).trans (handOver _ _ _)
    · exact buildErr hp s

/-- A frame that a publisher would send (R339, R343). -/
theorem sendPub (r : PubRec) (fills : Nat → Option (List Byte)) (asdus : List (Nat → Option (List Byte))) :
    FrameSent p s (s.sendPub p r fills asdus) := by
  rw [State.sendPub_eq]
  refine (setLastTx s).trans (.ite (.ite (bump _ _ 1) (.refl _)) ?_)
  exact ((pubKey hp _ r).trans (noteKey _ _)).trans (sendKeyed hp _ r fills asdus _)

theorem sendGoose (r : PubRec) : FrameSent p s (s.sendGoose p r) := by
  unfold State.sendGoose
  split
  · exact .refl s
  · exact sendPub hp s r _ _

end

end FrameSent

theorem nextNum_lt {n : Nat} : nextNum n < 2 ^ 32 := by
  unfold nextNum
  split <;> omega

theorem State.nums_setNums (s : State) (p : Nat) {st sq : Nat} (hst : st < 2 ^ 32) (hsq : sq < 2 ^ 32) :
    (s.setNums p st sq).stNum p = st ∧ (s.setNums p st sq).sqNum p = sq := by
  have apart : OUT_PUBLISHER p 11 ≠ OUT_PUBLISHER p 12 := by unfold OUT_PUBLISHER; omega
  simp only [State.stNum, State.sqNum, State.setNums, State.rdW_wrW_same, State.rdW_wrW_ne _ _ apart, BitVec.toNat_ofNat]
  exact ⟨Nat.mod_eq_of_lt hst, Nat.mod_eq_of_lt hsq⟩

theorem completes_retransmission_due {t p : Nat} {x : OutPub} {s : State} (hp : p < 1024) (h : s.pubDyn p = some x)
    (ht : (s.pubRec p).type = 1) (hn : x.next ≤ max s.now t) (hk : x.keyBad = false) :
    Completes (.scheduledRetransmission t p) s fun u =>
      u.stNum p = s.stNum p ∧ u.sqNum p = nextNum (s.sqNum p) ∧ ∃ y, u.pubDyn p = some y ∧ y.step = x.step + 1
        ∧ y.next = x.next + 1000 * y.interval ∧ y.interval = x.nextInterval (s.pubRec p) := by
  have sent := FrameSent.sendGoose hp ((((s.advance t).setPub p (some (x.stepped (s.pubRec p)))).setNums p (s.stNum p)
    (nextNum (s.sqNum p)))) (s.pubRec p)
  obtain ⟨hst, hsq⟩ := State.nums_setNums ((s.advance t).setPub p (some (x.stepped (s.pubRec p)))) p
    (st := s.stNum p) (sq := nextNum (s.sqNum p)) (BitVec.isLt _) nextNum_lt
  obtain ⟨k, dyn⟩ := sent.dyn (x.stepped (s.pubRec p)) (cget_cset_same _ _ _ _)
  refine ⟨_, exec_scheduledRetransmission t p s, ?_⟩
  simp only [State.after, opScheduledRetransmission_due (s := s.advance t) h ht hn hk]
  exact ⟨(congrArg BitVec.toNat (sent.nums.words _ (.inl rfl))).trans hst,
    (congrArg BitVec.toNat (sent.nums.words _ (.inr rfl))).trans hsq, _, dyn, rfl, rfl, rfl⟩

end Sys2Proof.Machine
end

section
/-! Slot owners (R337): which addresses are slots' owners and bindings, when a slot is named, and what a write of its owner leaves. The
claim of binary inputs and publishers is assembled at the end. -/

namespace Sys2Proof.Machine

/-! ### Addresses of register arrays -/

theorem mem_ckeys_of_cget_ne {α : Type} {d : Nat → α} : ∀ {m : Cells α} {k : Nat}, cget d m k ≠ d k → k ∈ ckeys m
  | [], _, h => absurd rfl h
  | (k0, v) :: m, k, h => by
    by_cases e : k = k0
    · subst e; exact List.mem_cons_self
    · refine List.mem_cons_of_mem _ (mem_ckeys_of_cget_ne (d := d) fun hm => h ?_)
      simp only [cget, hm, if_neg (Ne.symm e), ite_self]

theorem elemOf_mul {n stride i : Nat} (base : Nat) (h : i < n) (hs : 0 < stride) : elemOf base n stride (base + i * stride) = some i := by
  have : i * stride < n * stride := Nat.mul_lt_mul_of_pos_right h hs
  simp [elemOf, this, hs.ne']

theorem elemOf_eq_none {base n stride a : Nat} (h : a < base ∨ base + n * stride ≤ a) : elemOf base n stride a = none := by
  rw [elemOf, if_neg (by omega)]

theorem regHit_eq_none {d : RegDesc} {a : Nat} (hs : 0 < d.s1) (h : a < d.base ∨ d.base + d.n1 * d.s1 ≤ a) : regHit d a = none := by
  unfold regHit
  split
  · rfl
  · exact if_neg fun ⟨k, _, _⟩ => by have := (Nat.div_lt_iff_lt_mul hs).1 k; omega

/-- A binding record's first word resets to 0 (R323). -/
theorem resetWord_binding {b : Nat} (h : b < 256) : resetWord (OUT_BINDING b 0) = 0 := by
  have lo : 0x08010000 ≤ OUT_BINDING b 0 := by unfold OUT_BINDING; omega
  have hi : OUT_BINDING b 0 < 0x08012000 := by unfold OUT_BINDING; omega
  have special : resetSpecial (OUT_BINDING b 0) = none := by
    unfold resetSpecial
    simp (disch := (simp only [FAB_AGE, FAB_ING_LIMIT, FAB_PORT_CFG, ACQ_CH_CFG, ACQ_GRP_FIR, ALM_CH_CFG, PRT_PORT_CFG]; omega)) only
      [elemOf_eq_none]
    rw [if_neg (by simp only [FAB_EG_LIMIT]; omega)]
    rfl
  have block : OUT_BINDING b 0 / 2 ^ 24 = 8 := by omega
  have hit : regHit ⟨0x08010000, 256, 0x20, 8, 4, .always, [OUT_BINDING_WORD]⟩ (OUT_BINDING b 0) = some (b, 0) := by
    simp [regHit, OUT_BINDING]; omega
  have desc : findReg (OUT_BINDING b 0) = some ⟨0x08010000, 256, 0x20, 8, 4, .always, [OUT_BINDING_WORD]⟩ := by
    simp (disch := (dsimp only; omega)) only [findReg, block, regsOfBlock, regsOUT, List.find?_cons, regHit_eq_none, hit,
      Option.isSome]
  rw [resetWord, special, desc]
  rfl

/-! ### The owner of a slot -/

theorem exec_registerWrite (t : Nat) (core : Option Nat) (a : Nat) (v : Word) (s : State) :
    exec (.registerWrite t core a v) s = .next (s.after t (opRegisterWrite core a v)) := rfl

theorem State.recSync_of_seen {s : State} (h : StrobesSeen s) : s.recSync = s := if_pos h

/-- The fields of OUT_PUB_OWNER that a write of `v` leaves. -/
def slotOwnerWord (v : Word) : Word := fieldsOf [OUT_PUB_OWNER_VALID, OUT_PUB_OWNER_SAFE_HOLD, OUT_PUB_OWNER_TENANT] v

theorem fget_slotOwnerWord_valid (v : Word) : fget OUT_PUB_OWNER_VALID (slotOwnerWord v) = fget OUT_PUB_OWNER_VALID v := by
  simp only [slotOwnerWord, fieldsOf, List.foldl_cons, List.foldl_nil]
  rw [fget_fset_apart _ _ _ _ (by decide) (by decide) (by decide), fget_fset_apart _ _ _ _ (by decide) (by decide) (by decide),
    fget_fset_same _ _ _ (by decide)]
  exact Nat.mod_eq_of_lt (fget_lt _ v)

theorem fget_slotOwnerWord_tenant (v : Word) : fget OUT_PUB_OWNER_TENANT (slotOwnerWord v) = fget OUT_PUB_OWNER_TENANT v := by
  simp only [slotOwnerWord, fieldsOf, List.foldl_cons, List.foldl_nil]
  rw [fget_fset_same _ _ _ (by decide)]
  exact Nat.mod_eq_of_lt (fget_lt _ v)

theorem slotOwner_wrW_slotOwnerWord (s : State) (slot : Nat) (v : Word) :
    (s.wrW (OUT_PUB_OWNER slot) (slotOwnerWord v)).slotOwner slot = askedOwner v := by
  simp only [State.slotOwner, askedOwner, State.rdB, State.rd, State.rdW_wrW_same, fget_slotOwnerWord_valid, fget_slotOwnerWord_tenant,
    bne_iff_ne, ne_eq, ite_not]

/-- A binding record's words name a slot: VALID and ELEM_EN set, and SLOT (R323). -/
def State.BindingNames (s : State) (b slot : Nat) : Prop :=
  (s.rdW (OUT_BINDING b 0)).toNat.testBit 0 = true ∧ (s.rdW (OUT_BINDING b 0)).toNat.testBit 3 = true
    ∧ (s.rdW (OUT_BINDING b 1)).toNat / 65536 % 4096 = slot

/-- A publisher that is not off names a slot (R338). -/
def State.PublisherNames (s : State) (p slot : Nat) : Prop :=
  p ∈ s.livePubs ∧ (s.pubRec p).type ≠ 3 ∧ (s.pubRec p).source % 4096 = slot

theorem mem_validBindings {s : State} {b : Nat} :
    b ∈ s.validBindings ↔ b < 256 ∧ (s.rdW (OUT_BINDING b 0)).toNat.testBit 0 = true := by
  simp only [State.validBindings, List.mem_filter, List.mem_filterMap]
  refine and_congr_left fun hbit => ⟨fun ⟨c, _, hc⟩ => elemOf_lt hc, fun hb => ?_⟩
  have listed : OUT_BINDING b 0 ∈ ckeys s.regs := mem_ckeys_of_cget_ne (d := resetWord) fun h => by
    rw [State.rdW, h, resetWord_binding hb] at hbit
    contradiction
  obtain ⟨c, hc, hk⟩ := List.mem_map.1 listed
  exact ⟨c, hc, hk ▸ elemOf_mul (OUT_BINDING 0 0) hb (by decide)⟩

/-- Whether a VALID binding, or a publisher that is not off, names a slot, as the write of its owner finds it (R337). -/
def State.slotNamed (s : State) (slot : Nat) : Bool :=
  s.validBindings.any (fun b =>
      (s.rdW (OUT_BINDING b 0)).toNat.testBit 3 && (s.rdW (OUT_BINDING b 1)).toNat / 65536 % 4096 == slot)
    || s.livePubs.any (fun p => (s.pubRec p).type != 3 && (s.pubRec p).source % 4096 == slot)

theorem slotNamed_iff {s : State} {slot : Nat} :
    s.slotNamed slot = true ↔ (∃ b < 256, s.BindingNames b slot) ∨ ∃ p, s.PublisherNames p slot := by
  simp only [State.slotNamed, Bool.or_eq_true, List.any_eq_true, mem_validBindings, Bool.and_eq_true, beq_iff_eq, bne_iff_ne,
    State.BindingNames, State.PublisherNames, and_assoc]

theorem pubOwnerWrite_eq (s : State) (slot : Nat) (v : Word) : s.pubOwnerWrite slot v =
    if s.slotOwner slot ≠ askedOwner v ∧ s.slotNamed slot = true then s.outRej else s.wrW (OUT_PUB_OWNER slot) (slotOwnerWord v) := by
  simp only [askedOwner, ← fget_slotOwnerWord_valid v, ← fget_slotOwnerWord_tenant v]
  rfl

/-- The address of a slot's owner leads to the write of that owner. -/
theorem ctlWrite_pubOwner (s : State) {slot : Nat} (h : slot < 4096) (v : Word) :
    s.ctlWrite (OUT_PUB_OWNER slot) v = s.pubOwnerWrite slot v := by
  have block : OUT_PUB_OWNER slot / 2 ^ 24 = 8 := by unfold OUT_PUB_OWNER; omega
  have noTrip : elemOf (OUT_TRIP_CFG 0) 16 4 (OUT_PUB_OWNER slot) = none :=
    elemOf_eq_none (by unfold OUT_PUB_OWNER OUT_TRIP_CFG; omega)
  have isOwner : elemOf (OUT_PUB_OWNER 0) 4096 4 (OUT_PUB_OWNER slot) = some slot := elemOf_mul (OUT_PUB_OWNER 0) h (by decide)
  simp only [State.ctlWrite, block, State.outWrite, noTrip, isOwner]
  have ne {a : Nat} (k : a < 0x08010000) : OUT_PUB_OWNER slot ≠ a := by unfold OUT_PUB_OWNER; omega
  rw [if_neg (ne (by decide)), if_neg (ne (by decide)), if_neg (ne (by decide)), if_neg (ne (by decide)),
    if_neg (by unfold OUT_PUB_OWNER; omega), if_neg (by unfold OUT_PUB_OWNER; omega)]

/-- A write of one word that is no Solstice register leaves no strobe to be offered. -/
theorem StrobesSeen.wrW {s : State} (h : StrobesSeen s) {a : Nat} (w : Word) (k : SYS_SNAP_STAT ≠ a) : StrobesSeen (s.wrW a w) :=
  (State.rd_congr (s.rdW_wrW_ne w k) _).trans h

theorem onlyWords_after_wrW {s : State} {t a : Nat} {w : Word} {g : State → State} (h : g (s.advance t) = (s.advance t).wrW a w) :
    OnlyWords [a] s (s.after t g) := by
  refine ⟨by simp only [State.after, h]; rfl, fun b hb => ?_⟩
  rw [State.after_rdW, h]
  exact (s.advance t).rdW_wrW_ne w (by simpa using hb)

section

variable {t slot : Nat} {v : Word} {s : State} (hs : StrobesSeen s) (h : slot < 4096)
include hs h

/-- The owner of a slot that a binding or a publisher names is kept, and CFG_REJ is set (R337). -/
theorem completes_pubOwner_refused (ho : s.slotOwner slot ≠ askedOwner v)
    (hn : (∃ b < 256, s.BindingNames b slot) ∨ ∃ p, s.PublisherNames p slot) :
    Completes (.registerWrite t none (OUT_PUB_OWNER slot) v) s fun u =>
      u.rdB OUT_STAT OUT_STAT_CFG_REJ = true ∧ OnlyWords [OUT_STAT] s u := by
  have e : opRegisterWrite none (OUT_PUB_OWNER slot) v (s.advance t) = (s.advance t).outRej := by
    simp only [opRegisterWrite, ctlWrite_pubOwner _ h]
    rw [pubOwnerWrite_eq, if_pos ⟨ho, slotNamed_iff (s := s.advance t).2 hn⟩]
    exact State.recSync_of_seen (StrobesSeen.wrW (s := s.advance t) hs _ (by decide))
  refine ⟨_, exec_registerWrite .., ?_, onlyWords_after_wrW e⟩
  exact (State.rdB_congr (congrArg (State.rdW · OUT_STAT) e) _).trans (State.rdB_wrB_same _ _ _ _ (by decide) rfl)

/-- The owner of any other slot is written, and so is one that does not change. -/
theorem completes_pubOwner_taken
    (hn : s.slotOwner slot = askedOwner v ∨ ¬ ((∃ b < 256, s.BindingNames b slot) ∨ ∃ p, s.PublisherNames p slot)) :
    Completes (.registerWrite t none (OUT_PUB_OWNER slot) v) s fun u =>
      u.slotOwner slot = askedOwner v ∧ OnlyWords [OUT_PUB_OWNER slot] s u := by
  have e : opRegisterWrite none (OUT_PUB_OWNER slot) v (s.advance t) = (s.advance t).wrW (OUT_PUB_OWNER slot) (slotOwnerWord v) := by
    simp only [opRegisterWrite, ctlWrite_pubOwner _ h]
    rw [pubOwnerWrite_eq, if_neg fun k => hn.elim k.1 fun n => n (slotNamed_iff.1 k.2)]
    exact State.recSync_of_seen (StrobesSeen.wrW (s := s.advance t) hs _ (by unfold SYS_SNAP_STAT OUT_PUB_OWNER; omega))
  refine ⟨_, exec_registerWrite .., ?_, onlyWords_after_wrW e⟩
  exact (congrArg (State.slotOwner · slot) e).trans (slotOwner_wrW_slotOwnerWord _ slot v)

end

theorem mem_livePubs {s : State} {p : Nat} {x : OutPub} (h : s.pubDyn p = some x) : p ∈ s.livePubs :=
  mem_ckeys_of_cget_ne (d := fun _ => none) fun k => by
    rw [State.pubDyn, k] at h
    contradiction

/-- Settles O30: each clause by the equation of its command. -/
theorem inputsAndPublishers : Obligations.InputsAndPublishers := by
  refine ⟨?offInstant, ?blocked, ?accepted, ?acceptedExec, ?change, ?open_, ?endExec, ?offSecond, ?unchanged, ?pop, ?notRunning,
    ?notOwner, ?queued, ?off, ?early, ?dueExec, ?due, ?bindingNames, ?publisherNames, ?taken⟩
  case offInstant => exact fun t n s h => completes_binChange_offInstant h
  case blocked => exact fun t n s h => completes_binChange_blocked h
  case accepted => exact fun t n s hn hb hd => completes_binChange_accepted hn hb hd
  case acceptedExec => intros; rfl
  case change => exact fun n s hn hb hd => State.binAccept_change hn hb hd
  case open_ => exact fun t n level s h => completes_binBlockEnd_open h
  case endExec => intros; rfl
  case offSecond => exact fun t n level s h => completes_binBlockEnd_offSecond h
  case unchanged => exact fun t n level s hn hb hl hd hq => completes_binBlockEnd_unchanged hn hb hl hd hq
  case pop => exact completes_outBinEvtPop
  case notRunning => exact fun t core n v s hc h => completes_of_pubStat (opTwPubCommit_notRunning (s := s.advance t) v hc h)
  case notOwner => exact fun t core n v s hc h ho => completes_of_pubStat (opTwPubCommit_notOwner (s := s.advance t) v hc h ho)
  case queued =>
    intro t core n v s hc h ho hf hq
    rw [exec_twPubCommit]
    exact congrArg _ (State.after_congr (opTwPubCommit_queued (s := s.advance t) v hc h ho hf hq))
  case off =>
    exact fun t p s h => completes_of_idle (exec_scheduledRetransmission t p s) (opScheduledRetransmission_off (s := s.advance t) h)
  case early =>
    exact fun t p x s h hn =>
      completes_of_idle (exec_scheduledRetransmission t p s) (opScheduledRetransmission_early (s := s.advance t) h hn)
  case dueExec =>
    intro t p x s h ht hn hk
    rw [exec_scheduledRetransmission]
    exact congrArg _ (State.after_congr (opScheduledRetransmission_due (s := s.advance t) h ht hn hk))
  case due => exact fun t p x s hp h ht hn hk => completes_retransmission_due hp h ht hn hk
  case bindingNames =>
    exact fun t slot b v s hs h hb ho hv he hslot => completes_pubOwner_refused hs h ho (.inl ⟨b, hb, hv, he, hslot⟩)
  case publisherNames =>
    exact fun t slot p x v s hs h ho hx ht hslot => completes_pubOwner_refused hs h ho (.inr ⟨p, mem_livePubs hx, ht, hslot⟩)
  case taken =>
    intro t slot v s hs h hn
    refine completes_pubOwner_taken hs h (hn.imp_right fun ⟨noBinding, noPublisher⟩ => ?_)
    rintro (⟨b, hb, hv, names⟩ | ⟨p, hp, ht, hslot⟩)
    · exact noBinding b hb hv names
    · exact noPublisher p hp ht hslot

end Sys2Proof.Machine
end

section
/-! The step and the queue (R33, R554): every command is one change of the machine at its own instant, so a step keeps the waiting
commands in order and time never runs back. -/

namespace Sys2Proof.Machine

/-- Every command changes the machine at its own instant, and answers the next state. -/
theorem exec_eq_runAt (c : Instr) (s : State) : ∃ f, exec c s = s.runAt c.time f := by
  cases c <;> exact ⟨_, rfl⟩

theorem step_of_pending_nil {s : State} (h : s.pending = []) : step s = .next s := by
  unfold step; rw [h]

theorem step_of_pending_cons {s : State} {c : Instr} {q : List Instr} (h : s.pending = c :: q) :
    step s = exec c (s.withQueue q) := by
  unfold step; rw [h]

/-- What a step from a machine with a command at the front leaves of the queue and of time. -/
theorem step_inv {s u : State} {c : Instr} {q : List Instr} (hq : s.pending = c :: q) (h : step s = .next u) :
    u.pending = q ∧ u.now = max s.now c.time := by
  obtain ⟨f, hf⟩ := exec_eq_runAt c (s.withQueue q)
  rw [step_of_pending_cons hq, hf] at h
  exact State.runAt_inv h

/-- Settles O51: the two equations of `step`. -/
theorem stepRunsTheFront : Obligations.StepRunsTheFront :=
  ⟨fun _ _ _ h => step_of_pending_cons h, fun _ h => step_of_pending_nil h⟩

/-- Settles O52: every command is one change of the machine at its instant. -/
theorem everyCommandAnswers : Obligations.EveryCommandAnswers := by
  intro c s
  obtain ⟨f, hf⟩ := exec_eq_runAt c s
  exact ⟨_, hf, State.runAt_inv rfl⟩

/-- Settles O53: the front command's instant is the next own count, and the rest of the queue starts from it. -/
theorem queueOrderInvariant : Obligations.QueueOrderInvariant := by
  intro s u order h
  cases hq : s.pending with
  | nil =>
    rw [step_of_pending_nil hq] at h
    obtain rfl := Host.Outcome.next.inj h
    exact ⟨order, le_rfl⟩
  | cons c q =>
    obtain ⟨rest, time⟩ := step_inv hq h
    rw [hq, inOrder, Bool.and_eq_true, decide_eq_true_eq] at order
    rw [rest, time, max_eq_right order.1]
    exact ⟨order.2, order.1⟩

/-- Refutes O54: TEN_STATE of the tenant number 0xF000, which no part has, is the address of SYS_ADVENT, whose STEP resets to 1. -/
theorem not_resetState : ¬ Obligations.ResetState := by
  intro h
  obtain ⟨-, -, -, -, -, noneRuns, -⟩ := h
  have advent : State.reset.tenState 0xF000 = 1 := by decide
  exact absurd (advent ▸ noneRuns 0xF000) (by decide)

end Sys2Proof.Machine
end

section
/-! What an operation leaves alone, as relations between the machine before and after: only words of control space, or only words,
counters and what posted events change. Each is closed under composition, so that an operation's footprint is read off its parts. -/

namespace Sys2Proof.Machine

/-! ### Commands and their instants -/

theorem completes_of_runAt {i : Instr} {s : State} {t : Nat} {g : State → State} {P : State → Prop}
    (hi : exec i s = .next (s.after t g)) (h : P (s.after t g)) : Completes i s P := ⟨_, hi, h⟩

/-- A command that does `g`, where `g` of the machine at its instant is `u`. -/
theorem completes_of_eq {i : Instr} {s u : State} {t : Nat} {g : State → State} {P : State → Prop}
    (hi : exec i s = .next (s.after t g)) (hg : g (s.advance t) = u) (h : P { u with pending := s.pending, now := max s.now t }) :
    Completes i s P := ⟨_, hi, by rw [State.after, hg]; exact h⟩

theorem exec_congr {i : Instr} {s : State} {t : Nat} {f g : State → State} (hi : exec i s = .next (s.after t f))
    (h : f (s.advance t) = g (s.advance t)) : exec i s = .next (s.after t g) :=
  hi.trans (congrArg _ (State.after_congr h))

/-! ### Only words of control space -/

namespace OnlyWords

variable {W : List Nat}

theorem refl (s : State) : OnlyWords W s s := ⟨rfl, fun _ _ => rfl⟩

theorem trans {s u v : State} (h : OnlyWords W s u) (k : OnlyWords W u v) : OnlyWords W s v :=
  ⟨by rw [k.1, h.1], fun a ha => (k.2 a ha).trans (h.2 a ha)⟩

theorem mono {V : List Nat} {s u : State} (h : OnlyWords V s u) (k : V ⊆ W) : OnlyWords W s u :=
  ⟨h.1, fun a ha => h.2 a fun m => ha (k m)⟩

theorem wrW (s : State) {a : Nat} (w : Word) (h : a ∈ W) : OnlyWords W s (s.wrW a w) :=
  ⟨rfl, fun _ hb => s.rdW_wrW_ne w (by rintro rfl; exact hb h)⟩

theorem wr (s : State) {a : Nat} (f : Fld) (v : Nat) (h : a ∈ W) : OnlyWords W s (s.wr a f v) := wrW s _ h

theorem wrB (s : State) {a : Nat} (f : Fld) (b : Bool) (h : a ∈ W) : OnlyWords W s (s.wrB a f b) := wrW s _ h

theorem ite {c : Prop} [Decidable c] {s u v : State} (h : OnlyWords W s u) (k : OnlyWords W s v) : OnlyWords W s (if c then u else v) := by
  split <;> assumption

theorem foldl {β : Type} {f : State → β → State} (l : List β) (s : State) (h : ∀ u, ∀ b ∈ l, OnlyWords W u (f u b)) :
    OnlyWords W s (l.foldl f s) :=
  List.foldlRecOn (motive := OnlyWords W s) l f (.refl s) fun _ ih b hb => ih.trans (h _ b hb)

/-- The command's instant is no change of words. -/
theorem after {s : State} {t : Nat} {g : State → State} (h : OnlyWords W (s.advance t) (g (s.advance t))) : OnlyWords W s (s.after t g) :=
  ⟨by rw [State.after, h.1]; rfl, h.2⟩

theorem keepsWords {P : Nat → Prop} {s u : State} (h : OnlyWords W s u) (k : ∀ a, P a → a ∉ W) : KeepsWords P s u :=
  ⟨fun a ha => h.2 a (k a ha)⟩

end OnlyWords

/-! ### Only words, counters and what posted events change -/

namespace OnlyEvents

variable {W C : List Nat}

theorem refl (s : State) : OnlyEvents W C s s := ⟨rfl, fun _ _ _ => rfl, fun _ _ _ _ => rfl⟩

theorem trans {s u v : State} (h : OnlyEvents W C s u) (k : OnlyEvents W C u v) : OnlyEvents W C s v :=
  ⟨by rw [k.1, h.1], fun a n m => (k.2.1 a n m).trans (h.2.1 a n m), fun a n m p => (k.2.2 a n m p).trans (h.2.2 a n m p)⟩

theorem mono {V D : List Nat} {s u : State} (h : OnlyEvents V D s u) (k : V ⊆ W) (l : D ⊆ C) : OnlyEvents W C s u :=
  ⟨h.1, fun a n m => h.2.1 a (fun x => n (k x)) m, fun a n m p => h.2.2 a (fun x => n (l x)) m p⟩

theorem of_onlyWords {s u : State} (h : OnlyWords W s u) : OnlyEvents W C s u :=
  ⟨by rw [h.1], fun a n _ => h.2 a n, fun a _ _ _ => by rw [h.1]; rfl⟩

theorem of_eventOnly {s u : State} (h : EventOnly s u) : OnlyEvents W C s u := by
  refine ⟨?_, fun a _ m => h.words a m, fun a _ m p => h.counts a m p⟩
  obtain ⟨hpending, hnow, hbus, hwire, hfreeNext, hcntHi, hmem, hcaps, hfuses, htim, hbank, hkey, hprt, hfab, hsch, hten, hing, hacq, hout,
    hcle, hlge, hrec, hdpx, hsys, hmbx, -, -⟩ := h
  cases s; cases u
  simp_all

theorem wrW (s : State) {a : Nat} (w : Word) (h : a ∈ W) : OnlyEvents W C s (s.wrW a w) := of_onlyWords (.wrW s w h)

theorem wr (s : State) {a : Nat} (f : Fld) (v : Nat) (h : a ∈ W) : OnlyEvents W C s (s.wr a f v) := wrW s _ h

theorem wrB (s : State) {a : Nat} (f : Fld) (b : Bool) (h : a ∈ W) : OnlyEvents W C s (s.wrB a f b) := wrW s _ h

theorem bump (s : State) {a : Nat} (n : Nat) (h : a ∈ C) : OnlyEvents W C s (s.bump a n) :=
  ⟨rfl, fun _ _ _ => rfl, fun _ hb _ _ => s.count_bump_ne n (by rintro rfl; exact hb h)⟩

theorem ite {c : Prop} [Decidable c] {s u v : State} (h : OnlyEvents W C s u) (k : OnlyEvents W C s v) :
    OnlyEvents W C s (if c then u else v) := by
  split <;> assumption

theorem foldl {β : Type} {f : State → β → State} (l : List β) (s : State) (h : ∀ u, ∀ b ∈ l, OnlyEvents W C u (f u b)) :
    OnlyEvents W C s (l.foldl f s) :=
  List.foldlRecOn (motive := OnlyEvents W C s) l f (.refl s) fun _ ih b hb => ih.trans (h _ b hb)

theorem after {s : State} {t : Nat} {g : State → State} (h : OnlyEvents W C (s.advance t) (g (s.advance t))) :
    OnlyEvents W C s (s.after t g) :=
  ⟨by rw [State.after, h.1]; rfl, h.2⟩

theorem tim {s u : State} (h : OnlyEvents W C s u) : u.tim = s.tim := (congrArg State.tim h.1 :)

theorem sys {s u : State} (h : OnlyEvents W C s u) : u.sys = s.sys := (congrArg State.sys h.1 :)

theorem mem {s u : State} (h : OnlyEvents W C s u) : u.mem = s.mem := (congrArg State.mem h.1 :)

/-- Where the operation begins by giving the time base a value, that value is the one it leaves. -/
theorem with_tim {s u : State} {x : Tim} (h : OnlyEvents W C { s with tim := x } u) : OnlyEvents W C { s with tim := u.tim } u := by
  rwa [h.tim]

end OnlyEvents

/-! ### Only a part of the machine

A scope is a part of the machine beside the words, the counters and what posted events change: `f s u` is `s` with that part taken
from `u`. -/

/-- A part of the machine that an operation may change. -/
structure Scope where
  f : State → State → State
  self : ∀ s, f s s = s
  comp : ∀ s u v, f (f s u) v = f s v
  events : ∀ s u : State, f s { s with regs := u.regs, cnt := u.cnt, rate := u.rate, alm := u.alm, snap := u.snap }
    = { s with regs := u.regs, cnt := u.cnt, rate := u.rate, alm := u.alm, snap := u.snap }

/-- Nothing changes but a part of the machine, the words that `W` names, the counters that `C` names, and what posted events change. -/
structure Within (m : Scope) (W C : Nat → Prop) (s u : State) : Prop where
  rest : u = m.f s u
  words : ∀ a, ¬ W a → ¬ eventWord a → u.rdW a = s.rdW a
  counts : ∀ a, ¬ C a → a / 2 ^ 24 ≠ 0x0A → a / 2 ^ 24 ≠ 0x10 → u.count a = s.count a

namespace Within

variable {m : Scope} {W C : Nat → Prop}

theorem refl (s : State) : Within m W C s s := ⟨(m.self s).symm, fun _ _ _ => rfl, fun _ _ _ _ => rfl⟩

theorem trans {s u v : State} (h : Within m W C s u) (k : Within m W C u v) : Within m W C s v where
  rest := by
    have e := k.rest
    rw [h.rest, m.comp] at e
    exact e
  words a n e := (k.words a n e).trans (h.words a n e)
  counts a n e i := (k.counts a n e i).trans (h.counts a n e i)

theorem mono {V D : Nat → Prop} {s u : State} (h : Within m V D s u) (k : ∀ a, V a → W a) (l : ∀ a, D a → C a) : Within m W C s u :=
  ⟨h.rest, fun a n => h.words a fun x => n (k a x), fun a n => h.counts a fun x => n (l a x)⟩

theorem of_onlyEvents {V D : List Nat} {s u : State} (h : OnlyEvents V D s u) (k : ∀ a ∈ V, W a) (l : ∀ a ∈ D, C a)
    (now : u.now = s.now) : Within m W C s u := by
  refine ⟨?_, fun a n => h.2.1 a fun x => n (k a x), fun a n => h.2.2 a fun x => n (l a x)⟩
  have e := h.1
  rw [now] at e
  have f := m.events s u
  rw [← e] at f
  exact f.symm

theorem of_eventOnly {s u : State} (h : EventOnly s u) : Within m W C s u :=
  of_onlyEvents (V := []) (D := []) (.of_eventOnly h) (fun _ h => nomatch h) (fun _ h => nomatch h) h.now

theorem wrW (s : State) {a : Nat} (w : Word) (h : W a) : Within m W C s (s.wrW a w) :=
  of_onlyEvents (V := [a]) (D := []) (.wrW s w (List.mem_singleton_self a)) (by simpa using h) (fun _ h => nomatch h) rfl

theorem wr (s : State) {a : Nat} (f : Fld) (v : Nat) (h : W a) : Within m W C s (s.wr a f v) := wrW s _ h

theorem wrB (s : State) {a : Nat} (f : Fld) (b : Bool) (h : W a) : Within m W C s (s.wrB a f b) := wrW s _ h

theorem wr64 (s : State) {lo hi : Nat} (v : Nat) (h : W lo) (k : W hi) : Within m W C s (s.wr64 lo hi v) :=
  (wrW s _ h).trans (wrW _ _ k)

theorem bump (s : State) {a : Nat} (n : Nat) (h : C a) : Within m W C s (s.bump a n) :=
  of_onlyEvents (V := []) (D := [a]) (.bump s n (List.mem_singleton_self a)) (fun _ h => nomatch h) (by simpa using h) rfl

/-- A change of the part alone. -/
theorem of_part {s u : State} (h : u = m.f s u) (k : u.regs = s.regs) (l : u.cnt = s.cnt) : Within m W C s u :=
  ⟨h, fun a _ _ => State.rdW_congr k a, fun a _ _ _ => State.count_congr l a⟩

theorem ite {c : Prop} [Decidable c] {s u v : State} (h : Within m W C s u) (k : Within m W C s v) :
    Within m W C s (if c then u else v) := by
  split <;> assumption

theorem foldl {β : Type} {f : State → β → State} (l : List β) (s : State) (h : ∀ u, ∀ b ∈ l, Within m W C u (f u b)) :
    Within m W C s (l.foldl f s) :=
  List.foldlRecOn (motive := Within m W C s) l f (.refl s) fun _ ih b hb => ih.trans (h _ b hb)

theorem rd {s u : State} (h : Within m W C s u) {a : Nat} (n : ¬ W a) (e : ¬ eventWord a) (f : Fld) : u.rd a f = s.rd a f :=
  State.rd_congr (h.words a n e) f

theorem rdB {s u : State} (h : Within m W C s u) {a : Nat} (n : ¬ W a) (e : ¬ eventWord a) (f : Fld) : u.rdB a f = s.rdB a f :=
  State.rdB_congr (h.words a n e) f

end Within

end Sys2Proof.Machine
end

section
/-! Reads that capture or clear (R54, R91, R192, R200, R474): what each returns, captures and clears. -/

namespace Sys2Proof.Machine

/-! ### Captures -/

theorem State.cap_setCap_ne (s : State) {a b : Nat} (w : Word) (h : b ≠ a) : (s.setCap a w).cap b = s.cap b :=
  cget_cset_ne _ _ _ h

/-- A word captured and another returned. -/
theorem onlyRead_capture (s : State) (t a : Nat) (w : Word) (v : Nat) :
    OnlyRead [a] s { ((s.advance t).setCap a w).answer v with pending := s.pending, now := max s.now t } :=
  ⟨rfl, fun b hb => (s.advance t).cap_setCap_ne w (by simpa using hb)⟩

theorem pairRead_of_eq {i : Instr} {s : State} {t lo hi : Nat} {g : State → State} (hi' : exec i s = .next (s.after t g))
    (hg : g (s.advance t) = (s.advance t).readPair lo hi) : PairRead i s lo hi :=
  completes_of_eq hi' hg ⟨rfl, rfl, State.cap_setCap_same .., onlyRead_capture ..⟩

theorem completes_memErrRead (t : Nat) (s : State) : Completes (.memErrRead t) s fun u =>
    u.bus.data = (s.rdW MEM_ERR_LO).toNat ∧ u.cap MEM_ERR_HI = s.rdW MEM_ERR_HI ∧ u.cap MEM_ERR_INFO = s.rdW MEM_ERR_INFO
      ∧ OnlyRead [MEM_ERR_HI, MEM_ERR_INFO] s u := by
  let info := (s.advance t).setCap MEM_ERR_INFO (s.rdW MEM_ERR_INFO)
  refine completes_of_runAt (t := t) (g := opMemErrRead) rfl ⟨rfl, State.cap_setCap_same info .., ?_, rfl, fun a ha => ?_⟩
  · exact (info.cap_setCap_ne _ (by decide)).trans (State.cap_setCap_same ..)
  · obtain ⟨hi, hinfo⟩ : a ≠ MEM_ERR_HI ∧ a ≠ MEM_ERR_INFO := by simpa using ha
    exact (info.cap_setCap_ne _ hi).trans ((s.advance t).cap_setCap_ne _ hinfo)

/-! ### Reads that clear a field -/

/-- The word is returned, and the field reads 0 from then on. -/
theorem completes_of_clear {i : Instr} {s : State} {t a : Nat} {f : Fld} {g : State → State} (hi : exec i s = .next (s.after t g))
    (hg : g (s.advance t) = ((s.advance t).wr a f 0).answer (s.rdW a).toNat) (hf : f.lo + f.width ≤ 32) :
    Completes i s fun u => u.bus.data = (s.rdW a).toNat ∧ u.rd a f = 0
      ∧ u = { s with now := u.now, bus := u.bus, regs := u.regs } ∧ ∀ b, b ≠ a → u.rdW b = s.rdW b :=
  completes_of_eq hi hg ⟨rfl, (State.rd_wr_same _ _ _ _ hf).trans (Nat.zero_mod _), rfl, fun _ hb => (s.advance t).rdW_wr_ne f 0 hb⟩

theorem completes_timStatRead (t : Nat) (s : State) : Completes (.timStatRead t) s fun u =>
    u.bus.data = (s.rdW TIM_STAT).toNat ∧ u.rd TIM_STAT TIM_STAT_PPS_REJ = 0 ∧ u.synch = s.synch
      ∧ u = { s with now := u.now, bus := u.bus, regs := u.regs } ∧ ∀ a, a ≠ TIM_STAT → u.rdW a = s.rdW a :=
  completes_of_runAt (t := t) (g := opTimStatRead) rfl ⟨rfl, State.rd_wr_same _ _ _ _ (by decide),
    State.rd_wr_apart (s.advance t) TIM_STAT TIM_STAT_PPS_REJ TIM_STAT_SYNCH 0 (by decide) (by decide) (by decide), rfl,
    fun _ hb => (s.advance t).rdW_wr_ne _ _ hb⟩

theorem opCleLawLatRead_present {s : State} {l : Nat} (h : s.clePresent = true) (hl : l < 128) :
    opCleLawLatRead l s = (s.wr (CLE_LAW_LAT l) CLE_LAW_LAT_MAX_NS 0).answer (s.rdW (CLE_LAW_LAT l)).toNat := if_pos ⟨h, hl⟩

theorem opTwNowRead_serving {s : State} {core : Nat} (h : (s.coreTenant core).isSome) : opTwNowRead core s =
    (s.setCap (0x40000014 + core * 2 ^ 32) (BitVec.ofNat 32 (s.dom / 2 ^ 32))).answer (s.dom % 2 ^ 32) := by
  obtain ⟨n, hn⟩ := Option.isSome_iff_exists.1 h
  simp only [opTwNowRead, hn]

/-! ### Counters (R91) -/

/-- The charge of the time in service touches neither memory nor the mailboxes (R239). -/
theorem chargeAll_kept (s : State) : s.chargeAll.mem = s.mem ∧ s.chargeAll.mbx = s.mbx :=
  List.foldlRecOn (motive := fun u : State => u.mem = s.mem ∧ u.mbx = s.mbx) s.sch.runs _ ⟨rfl, rfl⟩ fun _ ih _ _ => ih

/-- The machine whose counter is read: the counters of the scheduler are first brought up to now. -/
def State.charged (s : State) (a : Nat) : State := if a / 2 ^ 24 = 0x05 then s.chargeAll else s

theorem State.charged_kept (s : State) (a : Nat) : (s.charged a).mem = s.mem ∧ (s.charged a).mbx = s.mbx := by
  unfold State.charged
  split
  · exact chargeAll_kept s
  · exact ⟨rfl, rfl⟩

theorem opStatisticsCounterRead_counter {s : State} {a : Nat} (h : counterAt a = true) :
    opStatisticsCounterRead a s = ((s.charged a).takeCounter a).2.answer ((s.charged a).count a % 2 ^ 32) :=
  if_neg (by simp [h])

/-- What a counter's read leaves of its words and totals. -/
theorem completes_statisticsCounterRead {t a : Nat} {s : State} (h : counterAt a = true) :
    Completes (.statisticsCounterRead t a) s fun u =>
      let m := (s.advance t).charged a
      u.bus.data = m.count a % 2 ^ 32 ∧ cget (fun _ => 0) u.cntHi a = m.count a / 2 ^ 32 ∧ u.count a = 0
        ∧ cget (fun _ => 0) u.mbx.totals a = cget (fun _ => 0) s.mbx.totals a + m.count a
        ∧ (∀ b, b ≠ a → u.count b = m.count b) ∧ (∀ b, u.rdW b = m.rdW b) ∧ SameMemory s u := by
  obtain ⟨mem, mbx⟩ := (s.advance t).charged_kept a
  refine completes_of_eq (t := t) (g := opStatisticsCounterRead a) rfl (opStatisticsCounterRead_counter h)
    ⟨rfl, cget_cset_same _ _ _ _, cget_cset_same _ _ _ _, ?_, fun b hb => cget_cset_ne _ _ _ hb, fun _ => rfl, State.byte_congr mem⟩
  refine (cget_cset_same _ _ _ _).trans ?_
  rw [mbx]
  rfl

/-- Settles O1: each read by the equation of its operation. -/
theorem readsThatCaptureOrClear : Obligations.ReadsThatCaptureOrClear := by
  refine ⟨?now, ?twNow, ?days, ?ppsin, ?dormant, ?snap, ?tamper, ?trip, ?trig, completes_memErrRead, completes_timStatRead, ?lat, ?time,
    ?counter⟩
  case now => exact fun t s => completes_of_runAt (t := t) (g := opTimNowRead) rfl ⟨rfl, State.cap_setCap_same .., onlyRead_capture ..⟩
  case twNow =>
    exact fun t core s h => completes_of_eq (t := t) (g := opTwNowRead core) rfl (opTwNowRead_serving (s := s.advance t) h)
      ⟨rfl, State.cap_setCap_same .., onlyRead_capture ..⟩
  case days => exact fun t s => completes_of_runAt (t := t) (g := opFabDaysRead) rfl ⟨rfl, State.cap_setCap_same .., onlyRead_capture ..⟩
  case ppsin => exact fun t s => pairRead_of_eq (t := t) (g := opTimPpsinRead) rfl rfl
  case dormant => exact fun t s => pairRead_of_eq (t := t) (g := opSysDormantTimeRead) rfl rfl
  case snap => exact fun t s => pairRead_of_eq (t := t) (g := opSysSnapTimeRead) rfl rfl
  case tamper => exact fun t s => pairRead_of_eq (t := t) (g := opKeyTamperTimeRead) rfl rfl
  case trip => exact fun t c s h => pairRead_of_eq (t := t) (g := opAcqTripTimeRead c) rfl (if_pos h)
  case trig => exact fun t r s h => pairRead_of_eq (t := t) (g := opRecTrigTimeRead r) rfl (if_pos h)
  case lat =>
    exact fun t l s h hl => completes_of_clear (t := t) (g := opCleLawLatRead l) rfl (opCleLawLatRead_present (s := s.advance t) h hl) (by decide)
  case time => exact fun t p s h => completes_of_clear (t := t) (g := opLgePrgTimeRead p) rfl (if_pos h) (by decide)
  case counter =>
    intro t a s h
    have read := completes_statisticsCounterRead (t := t) (s := s) h
    unfold State.charged at read
    split at read
    next block => simpa only [if_pos block] using read
    next block => simpa only [if_neg block, State.advance_count, State.advance_rdW] using read

end Sys2Proof.Machine
end

section
/-! The time base (R33 to R35, R45, R46, R51, R52): domain time, the admission target, the grid, 1PPS, and the synch state with its
holdover. -/

namespace Sys2Proof.Machine

/-! ### MCLK follows the grid (R170, R185) -/

/-- Only the acquisition part and its words change. -/
structure AcqWords (s u : State) : Prop where
  rest : u = { s with acq := u.acq, regs := u.regs }
  words : ∀ a, a / 2 ^ 24 ≠ 4 → u.rdW a = s.rdW a

namespace AcqWords

theorem refl (s : State) : AcqWords s s := ⟨rfl, fun _ _ => rfl⟩

theorem trans {s u v : State} (h : AcqWords s u) (k : AcqWords u v) : AcqWords s v :=
  ⟨by rw [k.rest, h.rest], fun a ha => (k.words a ha).trans (h.words a ha)⟩

theorem wrB (s : State) {a : Nat} (f : Fld) (b : Bool) (h : a / 2 ^ 24 = 4) : AcqWords s (s.wrB a f b) :=
  ⟨rfl, fun _ hb => s.rdW_wrB_ne f b (by rintro rfl; exact hb h)⟩

theorem foldl {β : Type} {f : State → β → State} (l : List β) (s : State) (h : ∀ u, ∀ b ∈ l, AcqWords u (f u b)) :
    AcqWords s (l.foldl f s) :=
  List.foldlRecOn (motive := AcqWords s) l f (.refl s) fun _ ih b hb => ih.trans (h _ b hb)

theorem setAcqChan (s : State) (c : Nat) (x : AcqChan) : AcqWords s (s.setAcqChan c x) := ⟨rfl, fun _ _ => rfl⟩

end AcqWords

theorem State.groupOf_lt {s : State} {c g : Nat} (h : s.groupOf c = some g) : g < 8 := List.mem_range.1 (List.mem_of_find?_eq_some h)

theorem acqWords_setReset (s : State) {c : Nat} (h : c < 32) (at_ : Option Nat) : AcqWords s (s.setReset c at_) := by
  have shown := (AcqWords.setAcqChan s c { s.acqChan c with resetAt := at_ }).trans
    (.wrB _ ACQ_CH_STAT_RESET_PENDING at_.isSome (show ACQ_CH_STAT c / 2 ^ 24 = 4 by unfold ACQ_CH_STAT; omega))
  unfold State.setReset
  dsimp only
  split
  next g hg => exact shown.trans (.wrB _ _ _ (by have := State.groupOf_lt hg; unfold ACQ_GRP_STAT; omega))
  next => exact shown

theorem acqWords_requestReset (s : State) {c : Nat} (h : c < 32) : AcqWords s (s.requestReset c) := by
  unfold State.requestReset
  split
  · exact .refl s
  · exact (AcqWords.setAcqChan s c _).trans (acqWords_setReset _ h _)

theorem acqWords_mclkFollow (s : State) : AcqWords s s.mclkFollow := by
  unfold State.mclkFollow
  dsimp only
  split
  case isTrue => exact .refl s
  have shown (b : Bool) : AcqWords s (s.wrB ACQ_STAT ACQ_STAT_MCLK_RUN b) := .wrB s _ b (by decide)
  split
  · refine .trans ?_ (.foldl _ _ fun u c hc => acqWords_requestReset u (List.mem_range.1 (List.mem_of_mem_filter hc)))
    exact ⟨rfl, (shown _).words⟩
  · refine (shown _).trans (.trans (.foldl _ _ fun u c hc => acqWords_setReset u (List.mem_range.1 hc) none) (.foldl _ _ fun u g hg => ?_))
    exact .wrB u _ _ (by have := List.mem_range.1 hg; unfold ACQ_GRP_STAT; omega)

/-! ### Domain time (R33) -/

theorem opDomainTimeSet_off {s : State} {hi : Word} (h : s.gridOn = false) : opDomainTimeSet hi s =
    { s with tim := { s.tim with lastRound := none, offset := ((hi.toNat * 2 ^ 32 + s.tim.setLo : Nat) : Int) - (s.now : Int) } } :=
  if_neg (by simp [h])

theorem opDomainTimeSet_on {s : State} {hi : Word} (h : s.gridOn = true) : opDomainTimeSet hi s = s.timRej := if_pos h

/-- Domain time set to a 64-bit value reads as that value. -/
theorem State.dom_of_offset {s : State} {x : Nat} (hx : x < 2 ^ 64) (h : s.tim.offset = (x : Int) - (s.now : Int)) : s.dom = x := by
  unfold State.dom
  rw [h]
  omega

/-- A refused write of a time-base register (R54). -/
theorem completes_of_timRej {i : Instr} {s : State} {t : Nat} {g : State → State} (hi : exec i s = .next (s.after t g))
    (hg : g (s.advance t) = (s.advance t).timRej) :
    Completes i s fun u => u.rdB TIM_STAT TIM_STAT_CFG_REJ = true ∧ u.tim = s.tim ∧ OnlyWords [TIM_STAT] s u :=
  completes_of_runAt hi ⟨by
    show (g (s.advance t)).rdB _ _ = true
    rw [hg]
    exact State.rdB_wrB_same _ _ _ _ (by decide) rfl, by
    rw [State.after_tim, hg]; rfl,
    .after (hg ▸ .wrB _ _ _ (by simp))⟩

theorem completes_domainTimeSet_off {t : Nat} {hi : Word} {s : State} (h : s.gridOn = false) (hlo : s.tim.setLo < 2 ^ 32) :
    Completes (.domainTimeSet t hi) s fun u => u.dom = hi.toNat * 2 ^ 32 + s.tim.setLo ∧
      u = { s with now := u.now, tim := { s.tim with offset := u.tim.offset, lastRound := none } } := by
  refine completes_of_eq (t := t) (g := opDomainTimeSet hi) rfl (opDomainTimeSet_off (s := s.advance t) h) ⟨?_, rfl⟩
  exact State.dom_of_offset (by have := hi.isLt; omega) rfl

/-! ### The admission target (R45, R47) -/

theorem opAdmitTargetWrite_taken {s : State} {target : Nat} (h : 250 ≤ target) (k : target ≤ 3000) : opAdmitTargetWrite target s =
    let u := (s.wr TIM_ADMIT TIM_ADMIT_TARGET target).slewing
    { u with tim := { u.tim with targetStaged := some (u.stage target) } } := if_pos ⟨h, k⟩

/-- CURRENT and TARGET after a target is written. -/
theorem State.rd_admit_wr_target (s : State) {target : Nat} (k : target ≤ 3000) :
    (s.wr TIM_ADMIT TIM_ADMIT_TARGET target).rd TIM_ADMIT TIM_ADMIT_TARGET = target
      ∧ (s.wr TIM_ADMIT TIM_ADMIT_TARGET target).rd TIM_ADMIT TIM_ADMIT_CURRENT = s.rd TIM_ADMIT TIM_ADMIT_CURRENT :=
  ⟨(State.rd_wr_same _ _ _ _ (by decide)).trans (Nat.mod_eq_of_lt (Nat.lt_of_le_of_lt k (by decide))),
    State.rd_wr_apart _ _ _ _ _ (by decide) (by decide) (by decide)⟩

theorem completes_admitTargetWrite_taken {t target : Nat} {s : State} (h : 250 ≤ target) (k : target ≤ 3000) :
    Completes (.admitTargetWrite t target) s fun u =>
      u.rd TIM_ADMIT TIM_ADMIT_TARGET = target ∧ u.rd TIM_ADMIT TIM_ADMIT_CURRENT = s.rd TIM_ADMIT TIM_ADMIT_CURRENT
      ∧ u.rdB TIM_STAT TIM_STAT_SLEWING = (s.rd TIM_ADMIT TIM_ADMIT_CURRENT != target)
      ∧ u.tim.targetStaged = some { val := target, eff := u.stageAt }
      ∧ ∀ a, a ≠ TIM_ADMIT → a ≠ TIM_STAT → u.rdW a = s.rdW a := by
  obtain ⟨written, current⟩ := (s.advance t).rd_admit_wr_target k
  have stat : TIM_ADMIT ≠ TIM_STAT := by decide
  refine completes_of_eq (t := t) (g := opAdmitTargetWrite target) rfl (opAdmitTargetWrite_taken h k) ⟨?_, ?_, ?_, rfl, fun a ha hs => ?_⟩
  · exact (State.rd_wr_ne _ _ _ _ stat).trans written
  · exact (State.rd_wr_ne _ _ _ _ stat).trans current
  · refine (State.rdB_wrB_same _ TIM_STAT TIM_STAT_SLEWING _ (by decide) rfl).trans ?_
    rw [written, current]
    rfl
  · exact (State.rdW_wrB_ne _ _ _ hs).trans ((s.advance t).rdW_wr_ne _ _ ha)

/-! ### TIM_CTRL and the grid (R46, R559) -/

/-- What TIM_CTRL's write leaves. -/
theorem setTimCtrl_spec (s : State) (src ptpEn grid : Bool) :
    (s.setTimCtrl src ptpEn grid).gridOn = grid ∧ (s.setTimCtrl src ptpEn grid).rdB TIM_CTRL TIM_CTRL_SRC = src
      ∧ (s.setTimCtrl src ptpEn grid).rdB TIM_CTRL TIM_CTRL_PTP_EN = ptpEn ∧ OnlyWords [TIM_CTRL] s (s.setTimCtrl src ptpEn grid) := by
  refine ⟨State.rdB_wrB_same _ _ _ _ (by decide) rfl, ?_, ?_, ?_⟩
  · refine (State.rdB_wr_apart _ _ _ _ _ (by decide) (by decide) (by decide)).trans ?_
    refine (State.rdB_wr_apart _ _ _ _ _ (by decide) (by decide) (by decide)).trans ?_
    exact State.rdB_wrB_same _ _ _ _ (by decide) rfl
  · refine (State.rdB_wr_apart _ _ _ _ _ (by decide) (by decide) (by decide)).trans ?_
    exact State.rdB_wrB_same _ _ _ _ (by decide) rfl
  · exact ((OnlyWords.wrB s _ _ (by simp)).trans (.wrB _ _ _ (by simp))).trans (.wrB _ _ _ (by simp))

/-- A write of TIM_CTRL that does nothing else. -/
theorem completes_of_setTimCtrl {i : Instr} {s : State} {t : Nat} {g : State → State} {src ptpEn grid : Bool}
    (hi : exec i s = .next (s.after t g)) (hg : g (s.advance t) = (s.advance t).setTimCtrl src ptpEn grid) :
    Completes i s fun u => u.gridOn = grid ∧ u.rdB TIM_CTRL TIM_CTRL_SRC = src ∧ u.rdB TIM_CTRL TIM_CTRL_PTP_EN = ptpEn
      ∧ OnlyWords [TIM_CTRL] s u := by
  obtain ⟨hgrid, hsrc, hptp, words⟩ := setTimCtrl_spec (s.advance t) src ptpEn grid
  exact completes_of_runAt hi ⟨(congrArg State.gridOn hg).trans hgrid, (congrArg (fun u => State.rdB u _ _) hg).trans hsrc,
    (congrArg (fun u => State.rdB u _ _) hg).trans hptp, .after (hg ▸ words)⟩

/-- The machine as the grid starts, before MCLK follows it. -/
def State.gridStart (s : State) (src ptpEn : Bool) : State :=
  { s.setTimCtrl src ptpEn true with tim := { (s.setTimCtrl src ptpEn true).tim with
    nextRound := firstRoundFrom s.fs s.roundLen (s.rd TIM_ADMIT TIM_ADMIT_CURRENT) (s.dom + 1000),
    nextD := s.rd TIM_ADMIT TIM_ADMIT_CURRENT } }

theorem opGridEnable_off {s : State} {src ptpEn : Bool} (h : s.gridOn = false) :
    opGridEnable src ptpEn s = (s.gridStart src ptpEn).mclkFollow := if_neg (by simp [h])

theorem completes_gridEnable_off {t : Nat} {src ptpEn : Bool} {s : State} (h : s.gridOn = false) :
    Completes (.gridEnable t src ptpEn) s fun u =>
      u.gridOn = true ∧ u.rdB TIM_CTRL TIM_CTRL_SRC = src ∧ u.rdB TIM_CTRL TIM_CTRL_PTP_EN = ptpEn
      ∧ u.tim.nextRound = firstRoundFrom s.fs s.roundLen (s.rd TIM_ADMIT TIM_ADMIT_CURRENT) (u.dom + 1000)
      ∧ u.tim.nextD = s.rd TIM_ADMIT TIM_ADMIT_CURRENT ∧ u.rdW TIM_ADMIT = s.rdW TIM_ADMIT ∧ u.synch = s.synch
      ∧ u.cnt = s.cnt ∧ SameMemory s u := by
  obtain ⟨hgrid, hsrc, hptp, words⟩ := setTimCtrl_spec (s.advance t) src ptpEn true
  have mclk := acqWords_mclkFollow ((s.advance t).gridStart src ptpEn)
  have tim := (congrArg State.tim mclk.rest :)
  have timWord {a : Nat} (ha : a / 2 ^ 24 = 0x0E) := mclk.words a (by omega)
  have ctrl := timWord (a := TIM_CTRL) rfl
  refine completes_of_eq (t := t) (g := opGridEnable src ptpEn) rfl (opGridEnable_off (s := s.advance t) h)
    ⟨(State.rdB_congr ctrl _).trans hgrid, (State.rdB_congr ctrl _).trans hsrc, (State.rdB_congr ctrl _).trans hptp, ?_, ?_, ?_, ?_,
      (congrArg State.cnt mclk.rest :), State.byte_congr (congrArg State.mem mclk.rest :)⟩
  · simp only [State.dom, tim]
    rfl
  · exact congrArg Tim.nextD tim
  · exact (timWord (a := TIM_ADMIT) rfl).trans (words.2 _ (by decide))
  · exact State.rd_congr ((timWord (a := TIM_STAT) rfl).trans (words.2 _ (by decide))) _

/-! ### 1PPS (R51, R52) -/

theorem State.adventPoll_of_none {s : State} (h : s.sys.advent = none) : s.adventPoll = s := by
  simp only [State.adventPoll, h]

/-- The edge is the selected one. -/
def State.edgeSelected (s : State) (rising : Bool) : Prop :=
  s.rdB TIM_PPS TIM_PPS_IN_EN = true ∧ rising = !s.rdB TIM_PPS TIM_PPS_IN_EDGE

/-- A selected edge near a second, while 1PPS_IN is not the source, is timestamped. -/
theorem opPpsInEdge_near {s : State} {rising : Bool} (h : s.edgeSelected rising) (src : s.rdB TIM_CTRL TIM_CTRL_SRC = false)
    (lo : -1000000 ≤ secondDistance s.stamp) (hi : secondDistance s.stamp ≤ 1000000) : opPpsInEdge rising s =
      { s.wr64 TIM_PPSIN_LO TIM_PPSIN_HI s.stamp with tim := { s.tim with lastEdge := some s.now } } := by
  have source : (({ s.wr64 TIM_PPSIN_LO TIM_PPSIN_HI s.stamp with tim := { s.tim with lastEdge := some s.now } } : State)).rdB TIM_CTRL
      TIM_CTRL_SRC = false :=
    (State.rdB_congr ((State.rdW_wrW_ne _ _ (by decide)).trans (s.rdW_wrW_ne _ (by decide))) _).trans src
  unfold opPpsInEdge
  rw [if_pos (by simp [h.1, h.2]), if_neg (by omega)]
  exact if_neg (by rw [Bool.not_eq_true]; exact source)

/-- A selected edge far from a second is counted and reported. -/
theorem opPpsInEdge_far {s : State} {rising : Bool} (h : s.edgeSelected rising)
    (far : secondDistance s.stamp < -1000000 ∨ 1000000 < secondDistance s.stamp) : opPpsInEdge rising s =
      (s.wr TIM_STAT TIM_STAT_PPS_REJ (satNat 255 (s.rd TIM_STAT TIM_STAT_PPS_REJ + 1))).postLimited 0x20F 0x0E04 0
        (p8 s.dom ++ pInt 4 (secondDistance s.stamp)) := by
  unfold opPpsInEdge
  rw [if_pos (by simp [h.1, h.2])]
  exact if_pos far

theorem satNat_eq_min (hi n : Nat) : satNat hi n = min hi n := by
  unfold satNat
  split <;> omega

theorem completes_ppsInEdge_near {t : Nat} {rising : Bool} {s : State} (h : s.edgeSelected rising)
    (src : s.rdB TIM_CTRL TIM_CTRL_SRC = false) (idle : s.sys.advent = none) (lo : -1000000 ≤ secondDistance (s.advance t).stamp)
    (hi : secondDistance (s.advance t).stamp ≤ 1000000) : Completes (.ppsInEdge t rising) s fun u =>
      u.rdW TIM_PPSIN_LO = BitVec.ofNat 32 u.stamp ∧ u.rdW TIM_PPSIN_HI = BitVec.ofNat 32 (u.stamp / 2 ^ 32)
        ∧ u.tim = { s.tim with lastEdge := some u.now } ∧ OnlyWords [TIM_PPSIN_LO, TIM_PPSIN_HI] { s with tim := u.tim } u := by
  refine completes_of_eq (t := t) (g := fun m => (opPpsInEdge rising m).adventPoll) rfl
    ((State.adventPoll_of_none (s := opPpsInEdge rising (s.advance t)) ?_).trans (opPpsInEdge_near (s := s.advance t) h src lo hi))
    ⟨?_, ?_, rfl, rfl, fun a ha => ?_⟩
  · rw [opPpsInEdge_near (s := s.advance t) h src lo hi]
    exact idle
  · exact (State.rdW_wrW_ne _ _ (by decide)).trans (State.rdW_wrW_same _ _ _)
  · exact State.rdW_wrW_same _ _ _
  · obtain ⟨alo, ahi⟩ : a ≠ TIM_PPSIN_LO ∧ a ≠ TIM_PPSIN_HI := by simpa using ha
    exact (State.rdW_wrW_ne _ _ ahi).trans ((s.advance t).rdW_wrW_ne _ alo)

theorem completes_ppsInEdge_far {t : Nat} {rising : Bool} {s : State} (h : s.edgeSelected rising) (idle : s.sys.advent = none)
    (far : secondDistance (s.advance t).stamp < -1000000 ∨ 1000000 < secondDistance (s.advance t).stamp) :
    Completes (.ppsInEdge t rising) s fun u =>
      u.rd TIM_STAT TIM_STAT_PPS_REJ = min 255 (s.rd TIM_STAT TIM_STAT_PPS_REJ + 1) ∧ OnlyEvents [TIM_STAT] [] s u := by
  have far' := opPpsInEdge_far (s := s.advance t) h far
  have posted := EventOnly.postLimited ((s.advance t).wr TIM_STAT TIM_STAT_PPS_REJ
    (satNat 255 ((s.advance t).rd TIM_STAT TIM_STAT_PPS_REJ + 1))) (ch := 0x20F) 0x0E04 0 (p8 (s.advance t).dom ++ pInt 4 (secondDistance (s.advance t).stamp)) (by decide)
  rw [← far'] at posted
  have e := State.adventPoll_of_none (s := opPpsInEdge rising (s.advance t)) (by rw [posted.sys]; exact idle)
  refine completes_of_runAt (t := t) (g := fun m => (opPpsInEdge rising m).adventPoll) rfl ⟨?_, .after ?_⟩
  · rw [State.after_rd, e, posted.rd (not_eventWord (by decide) (by decide)), State.rd_wr_same _ _ _ _ (by decide), satNat_eq_min]
    exact Nat.mod_eq_of_lt (Nat.lt_of_le_of_lt (Nat.min_le_left ..) (by decide))
  · rw [e]
    exact (OnlyEvents.wr _ _ _ (by simp)).trans (.of_eventOnly posted)

/-- Settles O2: each clause by the equation of its operation. -/
theorem timeBaseAndPps : Obligations.TimeBaseAndPps := by
  refine ⟨?setOff, ?setOn, ?target, ?badTarget, ?enableExec, ?enable, ?enableOn, ?disableOff, ?disableExec, ?rise, ?fall, ?near, ?far⟩
  case setOff => exact fun t hi s h hlo => completes_domainTimeSet_off h hlo
  case setOn =>
    exact fun t hi s h => completes_of_timRej (t := t) (g := opDomainTimeSet hi) rfl (opDomainTimeSet_on (s := s.advance t) h)
  case target => exact fun t target s h k => completes_admitTargetWrite_taken h k
  case badTarget => exact fun t target s h => completes_of_timRej (t := t) (g := opAdmitTargetWrite target) rfl (if_neg (by omega))
  case enableExec =>
    exact fun t src ptpEn s h => exec_congr (f := opGridEnable src ptpEn) rfl (opGridEnable_off (s := s.advance t) h)
  case enable => exact fun t src ptpEn s h => completes_gridEnable_off h
  case enableOn =>
    exact fun t src ptpEn s h => completes_of_setTimCtrl (t := t) (g := opGridEnable src ptpEn) rfl (if_pos h)
  case disableOff =>
    exact fun t src ptpEn s h => completes_of_setTimCtrl (t := t) (g := opGridDisable src ptpEn) rfl
      (if_pos (by rw [Bool.not_eq_true']; exact h))
  case disableExec =>
    exact fun t src ptpEn s h => exec_congr (f := opGridDisable src ptpEn) rfl (if_neg (by rw [Bool.not_eq_true', Bool.not_eq_false]; exact h))
  case rise =>
    exact fun t s h k => completes_of_eq (t := t) (g := opPpsOutRise) rfl (if_pos ⟨h, k⟩) rfl
  case fall =>
    exact fun t s h => completes_of_eq (t := t) (g := opPpsOutFall) rfl (if_pos h) rfl
  case near =>
    exact fun t rising s hen hedge hsrc idle lo hi => completes_ppsInEdge_near ⟨hen, hedge⟩ hsrc idle lo hi
  case far =>
    exact fun t rising s hen hedge idle far => completes_ppsInEdge_far ⟨hen, hedge⟩ idle far

end Sys2Proof.Machine
end

section
/-! The synch state and holdover (R34, R35): what a change of the state leaves, the servo's measurements, and the commands. -/

namespace Sys2Proof.Machine

/-! ### Fields of TIM_STAT -/

/-- The word of TIM_STAT with its synch state written shows the other fields as before. -/
theorem State.timStat_wr_synch (s : State) (n : Nat) {f : Fld} (hf : f.lo + f.width ≤ 32) (h : 2 ≤ f.lo) :
    (s.wr TIM_STAT TIM_STAT_SYNCH n).rdB TIM_STAT f = s.rdB TIM_STAT f :=
  State.rdB_wr_apart _ _ _ _ _ (by decide) hf (.inl h)

/-! ### The synch state written (R34, R51) -/

theorem State.ppsFollow_eq (s : State) : s.ppsFollow = { s with tim := { s.tim with ppsOut := s.ppsFollow.tim.ppsOut } } := by
  unfold State.ppsFollow
  split <;> rfl

theorem State.ppsFollow_regs (s : State) : s.ppsFollow.regs = s.regs := by rw [State.ppsFollow_eq]

/-- What the synch state `n` written leaves: `u` differs from `s` in the state, its history, 1PPS_OUT and what its event changes. -/
structure SynchIs (n : Nat) (s u : State) : Prop where
  synch : u.synch = n
  tim : u.tim = { s.tim with synchHist := u.tim.synchHist, ppsOut := u.tim.ppsOut }
  holdover : u.rdB TIM_STAT TIM_STAT_HOLDOVER = s.rdB TIM_STAT TIM_STAT_HOLDOVER
  refOk : u.rdB TIM_STAT TIM_STAT_REF_OK = s.rdB TIM_STAT TIM_STAT_REF_OK
  only : OnlyEvents [TIM_STAT] [] { s with tim := u.tim } u

theorem SynchIs.refl (s : State) : SynchIs s.synch s s := ⟨rfl, rfl, rfl, rfl, .refl _⟩

theorem SynchIs.sys {n : Nat} {s u : State} (h : SynchIs n s u) : u.sys = s.sys := h.only.sys

theorem synchIs_putSynch (s : State) {n : Nat} (h : n < 4) : SynchIs n s (s.putSynch n) := by
  let w := ({ s with tim := { s.tim with synchHist := (s.now, n) :: s.tim.synchHist } } : State).wr TIM_STAT TIM_STAT_SYNCH n
  have shape : s.putSynch n = { w with tim := { w.tim with ppsOut := w.ppsFollow.tim.ppsOut } } := State.ppsFollow_eq w
  rw [shape]
  refine ⟨?_, rfl, ?_, ?_, .of_onlyWords ⟨rfl, fun a ha => ?_⟩⟩
  · exact (State.rd_wr_same _ _ _ _ (by decide)).trans (Nat.mod_eq_of_lt h)
  · exact State.timStat_wr_synch _ n (by decide) (by decide)
  · exact State.timStat_wr_synch _ n (by decide) (by decide)
  · exact s.rdW_wr_ne _ _ (by simpa using ha)

theorem putSynch_hist (s : State) (n : Nat) : (s.putSynch n).tim.synchHist = (s.now, n) :: s.tim.synchHist := by
  unfold State.putSynch
  rw [State.ppsFollow_eq]
  rfl

theorem eventOnly_synchEvent (s : State) (old new cause : Nat) : EventOnly s (s.synchEvent old new cause) := EventOnly.post ..

theorem SynchIs.event {n : Nat} {s u v : State} (h : SynchIs n s u) (k : EventOnly u v) : SynchIs n s v where
  synch := (k.rd (not_eventWord (by decide) (by decide)) _).trans h.synch
  tim := by rw [k.tim]; exact h.tim
  holdover := (k.rdB (not_eventWord (by decide) (by decide)) _).trans h.holdover
  refOk := (k.rdB (not_eventWord (by decide) (by decide)) _).trans h.refOk
  only := by rw [k.tim]; exact h.only.trans (.of_eventOnly k)

theorem setSynch_of_ne {s : State} {n : Nat} (h : s.synch ≠ n) (cause : Nat) :
    s.setSynch n cause = (s.putSynch n).synchEvent s.synch n cause := if_neg h

theorem synchIs_setSynch (s : State) {n : Nat} (h : n < 4) (cause : Nat) : SynchIs n s (s.setSynch n cause) := by
  unfold State.setSynch
  dsimp only
  split
  next e => exact e ▸ SynchIs.refl s
  next => exact (synchIs_putSynch s h).event (eventOnly_synchEvent ..)

theorem setSynch_hist {s : State} {n : Nat} (h : s.synch ≠ n) (cause : Nat) :
    (s.setSynch n cause).tim.synchHist = (s.now, n) :: s.tim.synchHist := by
  rw [setSynch_of_ne h, (eventOnly_synchEvent ..).tim, putSynch_hist]

/-! ### Holdover -/

theorem endHoldover_spec (s : State) : s.endHoldover.rdB TIM_STAT TIM_STAT_HOLDOVER = false ∧ s.endHoldover.tim.holdoverFrom = none
    ∧ OnlyWords [TIM_STAT] { s with tim := { s.tim with holdoverFrom := none } } s.endHoldover :=
  ⟨State.rdB_wrB_same _ _ _ _ (by decide) rfl, rfl, rfl, fun _ ha => s.rdW_wr_ne _ _ (by simpa using ha)⟩

/-- The words and events of a change of the synch state that follows a change of TIM_STAT. -/
theorem SynchIs.only_of_words {n : Nat} {s v u : State} {x : Tim} (h : SynchIs n v u) (k : OnlyWords [TIM_STAT] { s with tim := x } v) :
    OnlyEvents [TIM_STAT] [] { s with tim := u.tim } u := by
  refine .trans (.of_onlyWords (u := { v with tim := u.tim }) ⟨?_, k.2⟩) h.only
  rw [k.1]

/-! ### A measured offset (R34, R54) -/

theorem clampInt_of_mem {lo hi i : Int} (h : lo ≤ i) (k : i ≤ hi) : clampInt lo hi i = i := by
  unfold clampInt
  rw [if_neg (by omega), if_neg (by omega)]

/-- The machine with an offset shown and the servo's frequency drawn. -/
def State.servoShown (s : State) (off : Int) : State :=
  { s.wrW TIM_SERVO (BitVec.ofNat 32 (ofSigned 32 (clampInt (-2147483647) 2147483647 off))) with
    freeNext := s.freeNext + 1
    tim := { s.tim with lastServo := s.dom, slew := clampInt (-200000) 200000 (Config.freeValue s.freeNext).toInt } }

theorem servoOffset_near {s : State} {off : Int} (h : -1000000 ≤ off) (k : off ≤ 1000000) : s.servoOffset off = s.servoShown off :=
  if_neg (by omega)

theorem servoOffset_far {s : State} {off : Int} (h : off < -1000000 ∨ 1000000 < off) : s.servoOffset off =
    (({ s.servoShown off with tim := { (s.servoShown off).tim with lockCount := 0 } } : State).endHoldover).setSynch 0 8 := if_pos h

theorem servoShown_word {s : State} {off : Int} (h : -1000000 ≤ off) (k : off ≤ 1000000) :
    (s.servoShown off).rdW TIM_SERVO = BitVec.ofNat 32 (ofSigned 32 off) := by
  refine (State.rdW_wrW_same _ _ _).trans ?_
  rw [clampInt_of_mem (by omega) (by omega)]

theorem servoShown_words (s : State) (off : Int) {a : Nat} (h : a ≠ TIM_SERVO) : (s.servoShown off).rdW a = s.rdW a := s.rdW_wrW_ne _ h

theorem countLock_far {s : State} {off : Int} (h : off < -1000 ∨ 1000 < off) (gm : Nat) :
    s.countLock off gm = { s with tim := { s.tim with lockGm := gm, lockCount := 0 } } := if_neg (by omega)

/-- The sixteenth measurement in a row. -/
theorem countLock_sixteenth {s : State} {off : Int} {gm : Nat} (h : -1000 ≤ off) (k : off ≤ 1000) (hgm : s.tim.lockGm = gm)
    (hn : s.tim.lockCount = 15) : s.countLock off gm = { s with tim := { s.tim with lockGm := gm, lockCount := 16 } } := by
  unfold State.countLock
  rw [if_pos ⟨h, k⟩]
  simp [hgm, hn, satNat]

theorem locksNow_of_unlocked {s : State} (h : s.tim.lockCount = 0) (global : Bool) : s.locksNow global = false := by
  simp [State.locksNow, h]

theorem locksNow_of_sixteenth {s : State} (h : s.tim.lockCount = 16) (k : s.rdB TIM_STAT TIM_STAT_REF_OK = true) (global : Bool) :
    s.locksNow global = true := by
  simp [State.locksNow, h, k]

/-! ### PTP messages (R30 to R32) -/

theorem clockPort_iff {s : State} {port : Nat} : s.clockPort port = true ↔ s.portPresent port = true ∧ port < 28
    ∧ s.rdB TIM_CTRL TIM_CTRL_PTP_EN = true ∧ s.rdB TIM_CTRL TIM_CTRL_SRC = false ∧ s.rd (TIM_PORT_PTP port) TIM_PORT_PTP_MODE = 1 := by
  simp [State.clockPort, and_assoc]

theorem ptpOn_of_clockPort {s : State} {port : Nat} (h : s.clockPort port = true) : s.ptpOn port = true := by
  obtain ⟨present, lt, -, -, mode⟩ := clockPort_iff.1 h
  simp [State.ptpOn, present, lt, mode]

/-- The machine as a Sync with offset `off` enters the servo. -/
def State.syncNoted (s : State) (port gmId gmClass : Nat) : State :=
  { s with tim := { s.tim with
    ptp := cset (fun _ => {}) s.tim.ptp port { s.ptpPort port with rx := (s.rxStamp port).toNat }
    gmId := gmId, gmClass := gmClass, isGm := false, lastSync := some s.now } }

/-- The machine with the Sync measured. -/
def State.syncMeasured (s : State) (port gmId gmClass : Nat) (off : Int) : State :=
  ((s.syncNoted port gmId gmClass).servoOffset off).countLock off (gmId + 1)

/-- The machine once a measured Sync has locked the servo, where it does. -/
def State.syncLocked (s : State) (gmClass : Nat) : State :=
  let global := gmClass == 6 || gmClass == 7
  if s.locksNow global then (if global then s.servoLock 2 1 else s.servoLock 1 2) else s

theorem syncLocked_of_unlocked {s : State} (h : s.tim.lockCount = 0) (gmClass : Nat) : s.syncLocked gmClass = s :=
  if_neg (by simp [locksNow_of_unlocked h])

/-- The sixteenth measurement locks the servo, in holdover or not. -/
theorem syncLocked_of_sixteenth {s : State} (h : s.tim.lockCount = 16) (k : s.rdB TIM_STAT TIM_STAT_REF_OK = true)
    (hold : s.rdB TIM_STAT TIM_STAT_HOLDOVER = false) (gmClass : Nat) :
    ∃ cause, s.syncLocked gmClass = s.setSynch (if gmClass = 6 ∨ gmClass = 7 then 2 else 1) cause := by
  unfold State.syncLocked State.servoLock
  simp only [locksNow_of_sixteenth h k, hold, Bool.or_eq_true, beq_iff_eq, Bool.false_eq_true, if_false, if_true]
  split
  · exact ⟨_, rfl⟩
  · exact ⟨_, rfl⟩

theorem opPtpEventMessage_sync {s : State} {port : Nat} (h : s.clockPort port = true) (origin gmId gmClass : Nat) :
    opPtpEventMessage port (ptpMsg .sync (origin, 0) (gmId, gmClass) []) s =
      (s.syncMeasured port gmId gmClass (s.rxStamp port - (origin : Int) - (s.ptpPort port).delay)).syncLocked gmClass := by
  obtain ⟨-, -, en, src, mode⟩ := clockPort_iff.1 h
  have delay : ((s.setPtpPort port { s.ptpPort port with rx := (s.rxStamp port).toNat }).ptpPort port).delay = (s.ptpPort port).delay := by
    rw [State.ptpPort, State.setPtpPort, cget_cset_same]
  simp only [opPtpEventMessage, ptpMsg, State.ptpReceive, ptpOn_of_clockPort h, Bool.not_true, Bool.false_eq_true, if_false]
  unfold State.ptpSync
  rw [if_pos (by
    show (s.rdB TIM_CTRL TIM_CTRL_PTP_EN && !s.rdB TIM_CTRL TIM_CTRL_SRC && s.rd (TIM_PORT_PTP port) TIM_PORT_PTP_MODE == 1) = true
    simp [en, src, mode])]
  rw [delay]
  rfl

theorem exec_ptpEventMessage (t port : Nat) (kind : PtpKind) (times gm : Nat × Nat) (bytes : List (BitVec 8)) (s : State) :
    exec (.ptpEventMessage t port kind times gm bytes) s
      = .next (s.after t fun m => (opPtpEventMessage port (ptpMsg kind times gm bytes) m).adventPoll) := rfl

/-- A command of the time base while no start-up waits. -/
theorem completes_of_polled {i : Instr} {s u : State} {t : Nat} {g : State → State} {P : State → Prop}
    (hi : exec i s = .next (s.after t fun m => (g m).adventPoll)) (hg : g (s.advance t) = u) (idle : u.sys.advent = none)
    (h : P { u with pending := s.pending, now := max s.now t }) : Completes i s P :=
  completes_of_eq hi ((congrArg State.adventPoll hg).trans (State.adventPoll_of_none idle)) h

section Sync

variable {t port origin gmId gmClass : Nat} {s : State} (clock : s.clockPort port = true) (idle : s.sys.advent = none)
include clock idle

theorem completes_sync_unlocked (h : -1000000 ≤ s.ptpOffset t port origin ∧ s.ptpOffset t port origin < -1000
      ∨ 1000 < s.ptpOffset t port origin ∧ s.ptpOffset t port origin ≤ 1000000) :
    Completes (.ptpEventMessage t port .sync (origin, 0) (gmId, gmClass) []) s fun u =>
      u.rdW TIM_SERVO = BitVec.ofNat 32 (ofSigned 32 (s.ptpOffset t port origin))
        ∧ u.tim.gmId = gmId ∧ u.tim.gmClass = gmClass ∧ u.tim.lastServo = u.dom ∧ u.tim.lockCount = 0 ∧ u.synch = s.synch
        ∧ ∀ a, a ≠ TIM_SERVO → u.rdW a = s.rdW a := by
  have measured : (s.advance t).syncMeasured port gmId gmClass (s.ptpOffset t port origin)
      = { ((s.advance t).syncNoted port gmId gmClass).servoShown (s.ptpOffset t port origin) with
          tim := { (((s.advance t).syncNoted port gmId gmClass).servoShown (s.ptpOffset t port origin)).tim with
            lockGm := gmId + 1, lockCount := 0 } } := by
    rw [State.syncMeasured, servoOffset_near (by omega) (by omega), countLock_far (by omega)]
  have op := (opPtpEventMessage_sync (s := s.advance t) clock origin gmId gmClass).trans
    ((syncLocked_of_unlocked (congrArg (fun u : State => u.tim.lockCount) measured) gmClass).trans measured)
  exact completes_of_polled (exec_ptpEventMessage ..) op idle ⟨servoShown_word (by omega) (by omega), rfl, rfl, rfl, rfl,
    State.rd_congr (servoShown_words _ _ (by decide)) _, fun a ha => servoShown_words _ _ ha⟩

theorem completes_sync_locks (h : -1000 ≤ s.ptpOffset t port origin) (k : s.ptpOffset t port origin ≤ 1000)
    (hgm : s.tim.lockGm = gmId + 1) (hn : s.tim.lockCount = 15) (ref : s.rdB TIM_STAT TIM_STAT_REF_OK = true)
    (hold : s.rdB TIM_STAT TIM_STAT_HOLDOVER = false) :
    Completes (.ptpEventMessage t port .sync (origin, 0) (gmId, gmClass) []) s fun u =>
      u.synch = (if gmClass = 6 ∨ gmClass = 7 then 2 else 1) ∧ u.tim.gmId = gmId ∧ u.tim.gmClass = gmClass ∧ u.tim.lockCount = 16
        ∧ SameWords [TIM_SERVO, TIM_STAT] s u := by
  let m : State := { ((s.advance t).syncNoted port gmId gmClass).servoShown (s.ptpOffset t port origin) with
    tim := { (((s.advance t).syncNoted port gmId gmClass).servoShown (s.ptpOffset t port origin)).tim with
      lockGm := gmId + 1, lockCount := 16 } }
  have measured : (s.advance t).syncMeasured port gmId gmClass (s.ptpOffset t port origin) = m := by
    rw [State.syncMeasured, servoOffset_near (by omega) (by omega)]
    exact countLock_sixteenth h k hgm hn
  have word {a : Nat} (ha : a ≠ TIM_SERVO) : m.rdW a = s.rdW a := servoShown_words _ _ ha
  have stat := word (a := TIM_STAT) (by decide)
  obtain ⟨cause, locked⟩ := syncLocked_of_sixteenth (s := m) rfl ((State.rdB_congr stat _).trans ref)
    ((State.rdB_congr stat _).trans hold) gmClass
  have moved := synchIs_setSynch m (n := if gmClass = 6 ∨ gmClass = 7 then 2 else 1) (by split <;> decide) cause
  have op := (opPtpEventMessage_sync (s := s.advance t) clock origin gmId gmClass).trans
    ((congrArg (State.syncLocked · gmClass) measured).trans locked)
  refine completes_of_polled (exec_ptpEventMessage ..) op ((congrArg Sys.advent moved.sys).trans idle)
    ⟨moved.synch, (congrArg Tim.gmId moved.tim :), (congrArg Tim.gmClass moved.tim :), (congrArg Tim.lockCount moved.tim :), fun a ha n => ?_⟩
  obtain ⟨servo, st⟩ : a ≠ TIM_SERVO ∧ a ≠ TIM_STAT := by simpa using ha
  exact (moved.only.2.1 a (by simpa using st) n).trans (word servo)

theorem completes_sync_far (h : s.ptpOffset t port origin < -1000000 ∨ 1000000 < s.ptpOffset t port origin) :
    Completes (.ptpEventMessage t port .sync (origin, 0) (gmId, gmClass) []) s fun u =>
      u.synch = 0 ∧ u.rdB TIM_STAT TIM_STAT_HOLDOVER = false := by
  let v : State := ((s.advance t).syncNoted port gmId gmClass).servoShown (s.ptpOffset t port origin)
  let n : State := State.endHoldover { v with tim := { v.tim with lockCount := 0 } }
  have moved := synchIs_setSynch n (n := 0) (by decide) 8
  have measured : (s.advance t).syncMeasured port gmId gmClass (s.ptpOffset t port origin)
      = { n.setSynch 0 8 with tim := { (n.setSynch 0 8).tim with lockGm := gmId + 1, lockCount := 0 } } := by
    rw [State.syncMeasured, servoOffset_far h, countLock_far (by omega)]
  have op := (opPtpEventMessage_sync (s := s.advance t) clock origin gmId gmClass).trans
    ((syncLocked_of_unlocked (congrArg (fun u : State => u.tim.lockCount) measured) gmClass).trans measured)
  exact completes_of_polled (exec_ptpEventMessage ..) op ((congrArg Sys.advent moved.sys).trans idle)
    ⟨moved.synch, moved.holdover.trans (endHoldover_spec _).1⟩

end Sync

theorem opPtpEventMessage_pdelayResp {s : State} {port : Nat} (h : s.ptpOn port = true) (t2 t3 : Nat) :
    opPtpEventMessage port (ptpMsg .pdelayResp (t2, t3) (0, 0) []) s = s.setPtpPort port
      { s.ptpPort port with
        delay := ((s.rxStamp port - ((s.ptpPort port).tx : Int)) - ((t3 : Int) - (t2 : Int))) / 2
        rx := (s.rxStamp port).toNat } := by
  simp only [opPtpEventMessage, ptpMsg, State.ptpReceive, h, Bool.not_true, Bool.false_eq_true, if_false]

/-! ### Changes of the reference -/

section Reference

variable {t : Nat} {s : State}

theorem completes_clockclass_local {gmClass : Nat} (h : s.synch = 2) (h6 : gmClass ≠ 6) (h7 : gmClass ≠ 7) (idle : s.sys.advent = none) :
    Completes (.clockclassChange t gmClass) s fun u =>
      u.synch = 1 ∧ u.tim = { s.tim with gmClass := gmClass, synchHist := (u.now, 1) :: s.tim.synchHist, ppsOut := u.tim.ppsOut }
        ∧ OnlyEvents [TIM_STAT] [] { s with tim := u.tim } u := by
  let m : State := { s.advance t with tim := { s.tim with gmClass := gmClass } }
  have moved := synchIs_setSynch m (n := 1) (by decide) 5
  have hist := setSynch_hist (s := m) (n := 1) (by show s.synch ≠ 1; omega) 5
  refine completes_of_polled (t := t) (g := opClockclassChange gmClass) (u := m.setSynch 1 5) rfl (if_pos ⟨h, h6, h7⟩)
    ((congrArg Sys.advent moved.sys).trans idle) ⟨moved.synch, ?_, ?_⟩
  · refine moved.tim.trans ?_
    rw [hist]
    rfl
  · exact ⟨by rw [moved.only.1]; rfl, moved.only.2⟩

theorem completes_clockclass_global {gmClass : Nat} (h : s.synch = 1) (h67 : gmClass = 6 ∨ gmClass = 7)
    (ref : s.rdB TIM_STAT TIM_STAT_REF_OK = true) (idle : s.sys.advent = none) : Completes (.clockclassChange t gmClass) s fun u =>
      u.synch = 2 ∧ OnlyEvents [TIM_STAT] [] { s with tim := u.tim } u := by
  let m : State := { s.advance t with tim := { s.tim with gmClass := gmClass } }
  have moved := synchIs_setSynch m (n := 2) (by decide) 5
  have synch : m.synch = 1 := h
  refine completes_of_polled (t := t) (g := opClockclassChange gmClass) (u := m.setSynch 2 5) rfl ?_
    ((congrArg Sys.advent moved.sys).trans idle) ⟨moved.synch, by rw [moved.only.1]; rfl, moved.only.2⟩
  exact (if_neg fun k => absurd (synch.symm.trans k.1) (by decide)).trans (if_pos ⟨synch, h67, ref⟩)

theorem completes_becomeGrandmaster (h : s.synch = 0) (ref : s.rdB TIM_STAT TIM_STAT_REF_OK = true) (idle : s.sys.advent = none) :
    Completes (.becomeGrandmaster t) s fun u =>
      u.synch = 1 ∧ u.tim.gmClass = 248 ∧ OnlyEvents [TIM_STAT] [] { s with tim := u.tim } u := by
  let m : State := { s.advance t with tim := { s.tim with gmId := 0, gmClass := 248, isGm := true } }
  have moved := synchIs_setSynch m (n := 1) (by decide) 4
  exact completes_of_polled (t := t) (g := opBecomeGrandmaster) (u := m.setSynch 1 4) rfl (if_pos ⟨h, ref⟩)
    ((congrArg Sys.advent moved.sys).trans idle) ⟨moved.synch, (congrArg Tim.gmClass moved.tim :), by rw [moved.only.1]; rfl, moved.only.2⟩

/-- The machine as REFCLK_10M_IN is lost, before the synch state falls. -/
def State.refLost (s : State) : State :=
  { s.endHoldover.wrB TIM_STAT TIM_STAT_REF_OK false with
    tim := { (s.endHoldover.wrB TIM_STAT TIM_STAT_REF_OK false).tim with lockCount := 0 } }

theorem refLost_spec (s : State) : s.refLost.rdB TIM_STAT TIM_STAT_REF_OK = false ∧ s.refLost.rdB TIM_STAT TIM_STAT_HOLDOVER = false
    ∧ s.refLost.tim.holdoverFrom = none ∧ OnlyWords [TIM_STAT] { s with tim := s.refLost.tim } s.refLost := by
  refine ⟨State.rdB_wrB_same _ _ _ _ (by decide) rfl, ?_, rfl, rfl, fun a ha => ?_⟩
  · exact (State.rdB_wr_apart s.endHoldover TIM_STAT TIM_STAT_REF_OK TIM_STAT_HOLDOVER _ (by decide) (by decide) (by decide)).trans
      (endHoldover_spec s).1
  · exact (State.rdW_wrB_ne _ _ _ (by simpa using ha)).trans ((endHoldover_spec s).2.2.2 a ha)

theorem completes_refclkLost (ref : s.rdB TIM_STAT TIM_STAT_REF_OK = true) : Completes (.refclkLost t) s fun u =>
    u.synch = 0 ∧ u.rdB TIM_STAT TIM_STAT_REF_OK = false ∧ u.rdB TIM_STAT TIM_STAT_HOLDOVER = false ∧ u.tim.holdoverFrom = none
      ∧ OnlyEvents [TIM_STAT] [] { s with tim := u.tim } u := by
  obtain ⟨lost, ended, none, words⟩ := refLost_spec (s.advance t)
  have moved := (synchIs_putSynch (s.advance t).refLost (n := 0) (by decide)).event (eventOnly_synchEvent _ (s.advance t).synch 0 7)
  have only := moved.only_of_words words
  exact completes_of_eq (t := t) (g := opRefclkLost) (u := ((s.advance t).refLost.putSynch 0).synchEvent (s.advance t).synch 0 7) rfl
    (if_pos ref) ⟨moved.synch, moved.refOk.trans lost, moved.holdover.trans ended,
      (congrArg Tim.holdoverFrom moved.tim :).trans none, by rw [only.1]; rfl, only.2⟩

theorem completes_refclkRestored (ref : s.rdB TIM_STAT TIM_STAT_REF_OK = false) : Completes (.refclkRestored t) s fun u =>
    u.rdB TIM_STAT TIM_STAT_REF_OK = true ∧ u.synch = s.synch ∧ OnlyEvents [TIM_STAT] [] s u := by
  have op : opRefclkRestored (s.advance t) = ((s.advance t).wrB TIM_STAT TIM_STAT_REF_OK true).post 0x0E03 (p8 (s.advance t).dom) :=
    if_neg (by rw [State.advance_rdB, ref]; decide)
  have posted := EventOnly.post ((s.advance t).wrB TIM_STAT TIM_STAT_REF_OK true) 0x0E03 (p8 (s.advance t).dom)
  have noEvent : ¬ eventWord TIM_STAT := not_eventWord (by decide) (by decide)
  rw [← op] at posted
  exact completes_of_runAt (t := t) (g := opRefclkRestored) rfl
    ⟨(posted.rdB noEvent _).trans (State.rdB_wrB_same _ _ _ _ (by decide) rfl),
      (posted.rd noEvent _).trans (State.rd_wr_apart _ _ _ _ _ (by decide) (by decide) (by decide)),
      .after ((OnlyEvents.wrB _ _ _ (by simp)).trans (.of_eventOnly posted))⟩

theorem completes_holdoverEntry {cause : HoldCause} (h : s.synch ≠ 0) (out : s.rdB TIM_STAT TIM_STAT_HOLDOVER = false)
    (silent : (s.advance t).sourceSilent cause = true) : Completes (.holdoverEntry t cause) s fun u =>
      u.rdB TIM_STAT TIM_STAT_HOLDOVER = true ∧ u.synch = s.synch ∧ u.tim = { s.tim with holdoverFrom := some u.now, lockCount := 0 }
        ∧ OnlyEvents [TIM_STAT] [] { s with tim := u.tim } u := by
  let m : State := { (s.advance t).wrB TIM_STAT TIM_STAT_HOLDOVER true with
    tim := { s.tim with holdoverFrom := some (s.advance t).now, lockCount := 0 } }
  have posted : EventOnly m (m.holdoverEvent 1 (if cause = .pps then 2 else 1)) := EventOnly.post ..
  have noEvent : ¬ eventWord TIM_STAT := not_eventWord (by decide) (by decide)
  have only : OnlyEvents [TIM_STAT] [] { s.advance t with tim := m.tim } (m.holdoverEvent 1 (if cause = .pps then 2 else 1)) :=
    (OnlyEvents.wrB { s.advance t with tim := m.tim } TIM_STAT_HOLDOVER true (by simp)).trans (.of_eventOnly posted)
  have only' := only.with_tim
  refine completes_of_eq (t := t) (g := opHoldoverEntry cause) (u := m.holdoverEvent 1 (if cause = .pps then 2 else 1)) rfl ?_
    ⟨(posted.rdB noEvent _).trans (State.rdB_wrB_same _ _ _ _ (by decide) rfl),
      (posted.rd noEvent _).trans (State.rd_wr_apart _ _ _ _ _ (by decide) (by decide) (by decide)),
      posted.tim, by rw [only'.1]; rfl, only'.2⟩
  refine if_neg ?_
  simp only [silent, Bool.not_true, Bool.false_eq_true, or_false, not_or]
  exact ⟨h, by rw [State.advance_rdB, out]; decide⟩

theorem completes_holdoverLimit_reached {h : Nat} (from_ : s.tim.holdoverFrom = some h) (due : h + s.holdLimit * 1000000000 ≤ max s.now t) :
    Completes (.holdoverLimit t) s fun u => u.synch = 0 ∧ u.rdB TIM_STAT TIM_STAT_HOLDOVER = false ∧ u.tim.holdoverFrom = none
      ∧ OnlyEvents [TIM_STAT] [] { s with tim := u.tim } u := by
  obtain ⟨ended, none, words⟩ := endHoldover_spec (s.advance t)
  have moved := synchIs_setSynch (s.advance t).endHoldover (n := 0) (by decide) 6
  have only := moved.only_of_words words
  refine completes_of_eq (t := t) (g := opHoldoverLimit) (u := (s.advance t).endHoldover.setSynch 0 6) rfl ?_
    ⟨moved.synch, moved.holdover.trans ended, (congrArg Tim.holdoverFrom moved.tim :).trans none, by rw [only.1]; rfl, only.2⟩
  simp only [opHoldoverLimit, State.advance_tim, from_]
  exact if_pos due

theorem completes_holdoverLimit_early {h : Nat} (from_ : s.tim.holdoverFrom = some h) (early : max s.now t < h + s.holdLimit * 1000000000) :
    Completes (.holdoverLimit t) s fun u => u = { s with now := u.now } := by
  refine completes_of_idle (t := t) (g := opHoldoverLimit) rfl ?_
  simp only [opHoldoverLimit, State.advance_tim, from_]
  exact if_neg (by show ¬ h + s.holdLimit * 1000000000 ≤ max s.now t; omega)

end Reference

/-- Settles O3: the synch state moves by `setSynch` or `putSynch`, whose effect `SynchIs` describes. -/
theorem synchAndHoldover : Obligations.SynchAndHoldover := by
  refine ⟨?unlocked, ?locks, ?far, ?delay, ?toLocal, ?toGlobal, ?grandmaster, ?lost, ?restored, ?entry, ?reached, ?early⟩
  case unlocked => exact fun t port origin gmId gmClass s clock idle h => completes_sync_unlocked clock idle h
  case locks => exact fun t port origin gmId gmClass s clock idle h k hgm hn ref hold => completes_sync_locks clock idle h k hgm hn ref hold
  case far => exact fun t port origin gmId gmClass s clock idle h => completes_sync_far clock idle h
  case delay =>
    exact fun t port t2 t3 s h idle => completes_of_polled (exec_ptpEventMessage ..)
      (opPtpEventMessage_pdelayResp (s := s.advance t) h t2 t3) idle
      ⟨congrArg PtpPort.delay (cget_cset_same _ _ _ _), fun q hq => cget_cset_ne _ _ _ hq, rfl⟩
  case toLocal => exact fun t gmClass s h h6 h7 idle => completes_clockclass_local h h6 h7 idle
  case toGlobal => exact fun t gmClass s h h67 ref idle => completes_clockclass_global h h67 ref idle
  case grandmaster => exact fun t s h ref idle => completes_becomeGrandmaster h ref idle
  case lost => exact fun t s ref => completes_refclkLost ref
  case restored => exact fun t s ref => completes_refclkRestored ref
  case entry => exact fun t cause s h out silent => completes_holdoverEntry h out silent
  case reached => exact fun t h s from_ due => completes_holdoverLimit_reached from_ due
  case early => exact fun t h s from_ early => completes_holdoverLimit_early from_ early

end Sys2Proof.Machine
end

section
/-! The fields of a register word that a write keeps (R13), and what the ends of copies and frames change (R114, R125). -/

namespace Sys2Proof.Machine

/-! ### Fields kept -/

/-- The fields lie in a word and share no bit. -/
def apartFields : List Fld → Bool
  | [] => true
  | f :: l => decide (f.lo + f.width ≤ 32) && l.all (fun g => decide (f.lo + f.width ≤ g.lo ∨ g.lo + g.width ≤ f.lo)) && apartFields l

theorem apartFields_cons {f : Fld} {l : List Fld} : apartFields (f :: l) = true ↔
    f.lo + f.width ≤ 32 ∧ (∀ g ∈ l, f.lo + f.width ≤ g.lo ∨ g.lo + g.width ≤ f.lo) ∧ apartFields l = true := by
  simp [apartFields, and_assoc]

theorem apartFields_width {l : List Fld} (h : apartFields l = true) : ∀ f ∈ l, f.lo + f.width ≤ 32 := by
  induction l with
  | nil => simp
  | cons g l ih =>
    obtain ⟨hg, -, hl⟩ := apartFields_cons.1 h
    exact List.forall_mem_cons.2 ⟨hg, ih hl⟩

/-- Fields kept one after another leave a field apart from all of them. -/
theorem fget_foldl_fset_apart {f : Fld} (hf : f.lo + f.width ≤ 32) (w : Word) :
    ∀ (l : List Fld) (r : Word), apartFields l = true → (∀ g ∈ l, f.lo + f.width ≤ g.lo ∨ g.lo + g.width ≤ f.lo) →
      fget f (l.foldl (fun r g => fset g r (fget g w)) r) = fget f r
  | [], _, _, _ => rfl
  | g :: l, r, h, k => by
    obtain ⟨hg, -, hl⟩ := apartFields_cons.1 h
    rw [List.foldl_cons, fget_foldl_fset_apart hf w l _ hl fun x hx => k x (List.mem_cons_of_mem g hx)]
    exact fget_fset_apart g f r _ hg hf (k g List.mem_cons_self).symm

theorem fget_foldl_fset_mem {w : Word} : ∀ (l : List Fld) (r : Word), apartFields l = true → ∀ f ∈ l,
    fget f (l.foldl (fun r g => fset g r (fget g w)) r) = fget f w
  | [], _, _, _, hf => nomatch hf
  | g :: l, r, h, f, hf => by
    obtain ⟨hg, apart, hl⟩ := apartFields_cons.1 h
    rw [List.foldl_cons]
    rcases List.mem_cons.1 hf with rfl | hf
    · rw [fget_foldl_fset_apart hg w l _ hl apart, fget_fset_same f r _ hg, Nat.mod_eq_of_lt (fget_lt f w)]
    · exact fget_foldl_fset_mem l _ hl f hf

/-- Each field kept of a word reads as it does in the word. -/
theorem fget_fieldsOf {l : List Fld} (h : apartFields l = true) {f : Fld} (hf : f ∈ l) (w : Word) : fget f (fieldsOf l w) = fget f w :=
  fget_foldl_fset_mem l 0 h f hf

/-! ### The end of a copy (R112, R114) -/

/-- The fabric's own part. -/
def Scope.fab : Scope where
  f s u := { s with regs := u.regs, cnt := u.cnt, rate := u.rate, alm := u.alm, snap := u.snap, fab := u.fab }
  self _ := rfl
  comp _ _ _ := rfl
  events _ _ := rfl

/-- An address of control space from the fabric's window on. -/
abbrev FabOn (a : Nat) : Prop := 0x02000000 ≤ a

/-- Only the fabric, and words and counters from its window on. -/
abbrev FabOnly : State → State → Prop := Within .fab FabOn FabOn

theorem fabOnly_fab (s : State) (x : Fab) : FabOnly s { s with fab := x } := .of_part rfl rfl rfl

theorem fabOnly_freeFrame (s : State) (k : Nat) : FabOnly s (s.freeFrame k) := by
  unfold State.freeFrame
  split
  · exact .refl s
  · split
    · refine .trans ?_ (.wr _ _ _ (show FabOn FAB_FD_FREE by decide))
      refine .trans ?_ (.wr _ _ _ (show FabOn FAB_RSV_USE by decide))
      refine .trans ?_ (.wr _ _ _ (show FabOn (FAB_ING_USE _) by unfold FabOn FAB_ING_USE; omega))
      refine .trans ?_ (.wr _ _ _ (show FabOn FAB_FREE by decide))
      exact fabOnly_fab s _
    · exact .refl s

theorem fabOnly_endCopy (s : State) (k dst : Nat) : FabOnly s (s.endCopy k dst) := by
  unfold State.endCopy
  split
  · exact .refl s
  · refine .trans ?_ (fabOnly_freeFrame _ k)
    refine .trans ?_ (.wr _ _ _ (show FabOn (FAB_EG_USE _ _) by unfold FabOn FAB_EG_USE; omega))
    exact fabOnly_fab s _

theorem fabOnly_setCopy (s : State) (k : Nat) (c : FabCopy) : FabOnly s (s.setCopy k c) := by
  unfold State.setCopy
  split
  · exact .refl s
  · exact fabOnly_fab s _

/-- A copy dealt with (R558). -/
theorem fabOnly_dealt (s : State) (k : Nat) (c : FabCopy) (n : Nat) (sent : Bool) : FabOnly s (s.dealt k c n sent) := by
  unfold State.dealt
  dsimp only
  refine .trans (fabOnly_setCopy s k _) (.ite (.trans (.ite (.bump _ _ ?_) (.refl _)) (fabOnly_endCopy _ k _)) (.refl _))
  unfold FabOn cntFAB_EG_FRAMES
  omega

/-- The words of the ports' window. -/
theorem FabOnly.prtWord {s u : State} (h : FabOnly s u) {a : Nat} (k : a / 2 ^ 24 = 1) : u.rdW a = s.rdW a :=
  h.words a (by unfold FabOn; omega) (not_eventWord (by omega) (by omega))

/-- A word of the ports' window (R11). -/
abbrev PrtWord (a : Nat) : Prop := a / 2 ^ 24 = 1

abbrev PrtKept : State → State → Prop := KeepsWords PrtWord

theorem FabOnly.prtKept {s u : State} (h : FabOnly s u) : PrtKept s u := ⟨fun _ ha => h.prtWord ha⟩

theorem EventOnly.prtKept {s u : State} (h : EventOnly s u) : PrtKept s u :=
  ⟨fun a (ha : a / 2 ^ 24 = 1) => h.words a (not_eventWord (by omega) (by omega))⟩

/-! ### Frames and copies settled (R119, R125, R126) -/

theorem State.uncount_regs (s : State) (l : List (Nat × Nat)) : (s.uncount l).regs = s.regs :=
  List.foldlRecOn (motive := fun u : State => u.regs = s.regs) l _ rfl fun _ ih _ _ => ih

theorem unstart_regs (s : State) (n k dst : Nat) : (s.unstart n k dst).regs = s.regs := by
  unfold State.unstart
  split
  · rfl
  · dsimp only
    split <;> split <;> simp only [State.setTx, State.offLine, State.uncount_regs]

theorem prtKept_settleCopy (s : State) (k dst : Nat) : PrtKept s (s.settleCopy k dst) := by
  unfold State.settleCopy
  split
  · exact .refl s
  split
  · exact .refl s
  dsimp only
  refine .ite (.trans (.foldl _ s fun u n _ => .of_regs (unstart_regs u n k dst)) (.foldl _ _ fun u n _ => ?_)) (.ite ?_ (.refl s))
  · split
    · exact (fabOnly_dealt ..).prtKept
    · exact .refl u
  · exact (fabOnly_setCopy s k _).prtKept.trans (.of_regs rfl)

theorem prtKept_settleFrame (s : State) (k : Nat) : PrtKept s (s.settleFrame k) := by
  unfold State.settleFrame
  split
  · exact .refl s
  · exact .foldl _ s fun u d _ => prtKept_settleCopy u k d

theorem prtKept_bump (s : State) (a n : Nat) : PrtKept s (s.bump a n) := .of_regs rfl

theorem prtKept_learn (s : State) (p mac vid : Nat) : PrtKept s (s.learn p mac vid) := by
  unfold State.learn
  refine .ite (.refl s) ?_
  split
  · dsimp only
    refine .ite (.ite (.refl s) (.of_regs rfl)) (.ite (.of_regs rfl) (.of_regs rfl))
  · split
    · exact .of_regs rfl
    · exact (prtKept_bump s _ 1).trans (EventOnly.postLimited _ _ _ _ (by decide)).prtKept

theorem prtKept_completeFrame (s : State) (k e stomp : Nat) : PrtKept s (s.completeFrame k e stomp) := by
  unfold State.completeFrame
  split
  · exact .refl s
  · dsimp only
    refine .trans ?_ (fabOnly_freeFrame _ k).prtKept
    refine .trans ?_ (prtKept_settleFrame _ k)
    refine .trans ?_ (.ite (prtKept_learn _ _ _ _) (.refl _))
    exact .of_regs rfl

end Sys2Proof.Machine
end

section
/-! Ports (R55 to R58, R64 to R73, R77, R81): pauses class by class, the link taken down, configuration writes, received frames,
and the verification of preemption. -/

namespace Sys2Proof.Machine

/-! ### A bit of a bitmap field -/

theorem State.rd_lt (s : State) (a : Nat) (f : Fld) : s.rd a f < 2 ^ f.width := fget_lt f _

/-- A bit of a field written reads back, and the others stay. -/
theorem State.testBit_rd_wr_nsetBit (s : State) (a : Nat) {f : Fld} (hf : f.lo + f.width ≤ 32) {i : Nat} (hi : i < f.width) (b : Bool)
    (j : Nat) : ((s.wr a f (nsetBit (s.rd a f) i b)).rd a f).testBit j = if j = i then b else (s.rd a f).testBit j := by
  rw [State.rd_wr_same _ _ _ _ hf, Nat.testBit_mod_two_pow, testBit_nsetBit]
  by_cases hj : j < f.width
  · simp [hj]
  · have high : (s.rd a f).testBit j = false :=
      Nat.testBit_lt_two_pow (Nat.lt_of_lt_of_le (s.rd_lt a f) (Nat.pow_le_pow_right (by decide) (Nat.le_of_not_lt hj)))
    have ne : j ≠ i := by omega
    simp [hj, ne, high]

/-! ### Pauses (R71 to R73) -/

/-- Whether class `c` of port `n` is paused. -/
def State.paused (s : State) (n c : Nat) : Bool := (s.rd (PRT_PORT_STAT n) PRT_PORT_STAT_PAUSED).testBit c

theorem State.pauseOf_setPause (s : State) (n c d : Nat) (p : PauseClass) :
    (s.setPause n c p).pauseOf n d = if d = c then p else s.pauseOf n d := by
  unfold State.pauseOf State.setPause
  rw [cget_cset]
  simp only [Nat.add_left_cancel_iff]

/-- What a class's pause begun, prolonged or ended leaves. -/
theorem pauseClass_paused (s : State) {n c : Nat} (hc : c < 8) (ns d : Nat) :
    (s.pauseClass n c ns).paused n d = if d = c then ns != 0 else s.paused n d := by
  have bit (p : PauseClass) (b : Bool) : ((s.setPause n c p).wr (PRT_PORT_STAT n) PRT_PORT_STAT_PAUSED
      (nsetBit (s.rd (PRT_PORT_STAT n) PRT_PORT_STAT_PAUSED) c b)).paused n d = if d = c then b else s.paused n d :=
    (s.setPause n c p).testBit_rd_wr_nsetBit (PRT_PORT_STAT n) (f := PRT_PORT_STAT_PAUSED) (by decide) hc b d
  unfold State.pauseClass
  dsimp only
  split
  next h => rw [bit, h]; rfl
  next h => rw [bit, bne_iff_ne.2 h]

/-- Only the class's own pause is touched. -/
theorem pauseClass_pauseOf_ne (s : State) {n c d : Nat} (h : d ≠ c) (ns : Nat) : (s.pauseClass n c ns).pauseOf n d = s.pauseOf n d := by
  have kept (p : PauseClass) : (s.setPause n c p).pauseOf n d = s.pauseOf n d := (s.pauseOf_setPause n c d p).trans (if_neg h)
  unfold State.pauseClass
  split
  · exact kept _
  · exact kept _

theorem pauseClass_words (s : State) (n c ns : Nat) {a : Nat} (h : a ≠ PRT_PORT_STAT n) : (s.pauseClass n c ns).rdW a = s.rdW a := by
  unfold State.pauseClass
  split
  · exact State.rdW_wr_ne _ _ _ h
  · exact State.rdW_wr_ne _ _ _ h

/-- The other fields of the port's status stay. -/
theorem pauseClass_stat (s : State) (n c ns : Nat) {f : Fld} (hf : f.lo + f.width ≤ 32)
    (h : PRT_PORT_STAT_PAUSED.lo + PRT_PORT_STAT_PAUSED.width ≤ f.lo ∨ f.lo + f.width ≤ PRT_PORT_STAT_PAUSED.lo) :
    (s.pauseClass n c ns).rd (PRT_PORT_STAT n) f = s.rd (PRT_PORT_STAT n) f := by
  unfold State.pauseClass
  split
  · exact State.rd_wr_apart _ _ _ _ _ (by decide) hf h
  · exact State.rd_wr_apart _ _ _ _ _ (by decide) hf h

theorem pauseClass_rest (s : State) (n c ns : Nat) :
    s.pauseClass n c ns = { s with regs := (s.pauseClass n c ns).regs, prt := (s.pauseClass n c ns).prt } := by
  unfold State.pauseClass
  split <;> rfl

/-- A fold over a list in which each step changes only its own element's view, and that by `g`. -/
theorem foldl_view {α : Type} {f : State → Nat → State} {view : State → Nat → α} {g : α → α}
    (keep : ∀ u c d, c < 8 → d ≠ c → view (f u c) d = view u d) (step : ∀ u c, c < 8 → view (f u c) c = g (view u c)) :
    ∀ (l : List Nat) (s : State) (d : Nat), l.Nodup → (∀ c ∈ l, c < 8) →
      view (l.foldl f s) d = if d ∈ l then g (view s d) else view s d
  | [], _, _, _, _ => rfl
  | c :: l, s, d, nodup, lt => by
    obtain ⟨fresh, nodup⟩ := List.nodup_cons.1 nodup
    obtain ⟨hc, lt⟩ := List.forall_mem_cons.1 lt
    rw [List.foldl_cons, foldl_view keep step l _ d nodup lt]
    by_cases e : d = c
    · subst e
      simp [fresh, step s d hc]
    · simp [e, keep s c d hc e]

theorem foldl_view_classes {α : Type} {f : State → Nat → State} {view : State → Nat → α} {g : α → α}
    (keep : ∀ u c d, c < 8 → d ≠ c → view (f u c) d = view u d) (step : ∀ u c, c < 8 → view (f u c) c = g (view u c)) (s : State)
    {d : Nat} (hd : d < 8) : view ((List.range 8).foldl f s) d = g (view s d) :=
  (foldl_view keep step (List.range 8) s d List.nodup_range fun _ h => List.mem_range.1 h).trans (if_pos (List.mem_range.2 hd))

/-- A port's pauses all ended. -/
theorem endPauses_paused (s : State) (n : Nat) : (s.endPauses n).rd (PRT_PORT_STAT n) PRT_PORT_STAT_PAUSED = 0 := by
  have bits : ∀ d < 8, (s.endPauses n).paused n d = false := fun d hd =>
    foldl_view_classes (view := fun u d => u.paused n d) (g := fun _ => false)
      (fun u c d hc h => (pauseClass_paused u hc 0 d).trans (if_neg h)) (fun u c hc => (pauseClass_paused u hc 0 c).trans (if_pos rfl)) s hd
  refine Nat.eq_of_testBit_eq fun i => ?_
  rw [Nat.zero_testBit]
  by_cases hi : i < 8
  · exact bits i hi
  · exact Nat.testBit_lt_two_pow (Nat.lt_of_lt_of_le (State.rd_lt _ _ _) (Nat.pow_le_pow_right (by decide) (Nat.le_of_not_lt hi)))

theorem endPauses_words (s : State) (n : Nat) {a : Nat} (h : a ≠ PRT_PORT_STAT n) : (s.endPauses n).rdW a = s.rdW a :=
  List.foldlRecOn (motive := fun u : State => u.rdW a = s.rdW a) _ _ rfl fun _ ih c _ => (pauseClass_words _ n c 0 h).trans ih

theorem endPauses_stat (s : State) (n : Nat) {f : Fld} (hf : f.lo + f.width ≤ 32)
    (h : PRT_PORT_STAT_PAUSED.lo + PRT_PORT_STAT_PAUSED.width ≤ f.lo ∨ f.lo + f.width ≤ PRT_PORT_STAT_PAUSED.lo) :
    (s.endPauses n).rd (PRT_PORT_STAT n) f = s.rd (PRT_PORT_STAT n) f :=
  List.foldlRecOn (motive := fun u : State => u.rd (PRT_PORT_STAT n) f = s.rd (PRT_PORT_STAT n) f) _ _ rfl fun _ ih c _ =>
    (pauseClass_stat _ n c 0 hf h).trans ih

/-! ### The link taken down (R58) -/

theorem prtKept_abortTx (s : State) (n : Nat) : PrtKept s (s.abortTx n) := by
  unfold State.abortTx
  refine .trans ?_ (.foldl _ _ fun u x _ => ?_)
  · exact .of_regs rfl
  dsimp only
  split
  · exact (prtKept_bump u _ 1).trans (fabOnly_dealt ..).prtKept
  · exact prtKept_bump u _ 1

theorem prtKept_cutReception (s : State) (n : Nat) : PrtKept s (s.cutReception n) := by
  have uncounted (x : RxStage) : PrtKept s (s.uncount x.counted) := .of_regs (State.uncount_regs ..)
  unfold State.cutReception
  split
  · exact .refl s
  next x _ =>
    dsimp only
    refine .ite (.refl s) (.ite ((uncounted x).trans (.of_regs rfl)) (.ite ((uncounted x).trans (.of_regs rfl)) ?_))
    split
    · refine .ite (.trans ?_ (prtKept_completeFrame ..)) ((uncounted x).trans (.of_regs rfl))
      exact (uncounted x).trans (.of_regs rfl)
    · exact (uncounted x).trans (.of_regs rfl)

/-- What a link that goes down leaves of its port's words. -/
structure LinkLost (n : Nat) (s u : State) : Prop where
  down : u.linkUp n = false
  unpaused : s.linkUp n = true → u.rd (PRT_PORT_STAT n) PRT_PORT_STAT_PAUSED = 0
  words : ∀ a, PrtWord a → a ≠ PRT_PORT_STAT n → u.rdW a = s.rdW a

theorem LinkLost.kept {n : Nat} (hn : n < 29) {s u v : State} (h : LinkLost n s u) (k : PrtKept u v) : LinkLost n s v := by
  have stat := k.words (PRT_PORT_STAT n) (by unfold PrtWord PRT_PORT_STAT; omega)
  exact ⟨(State.rdB_congr stat _).trans h.down, fun up => (State.rd_congr stat _).trans (h.unpaused up),
    fun a ha hne => (k.words a ha).trans (h.words a ha hne)⟩

/-- The port's status as its link goes down, before what that ends. -/
def State.linkFell (s : State) (n : Nat) : State :=
  let u := s.wrB (PRT_PORT_STAT n) PRT_PORT_STAT_LINK false
  (u.setPort n { u.port n with verifies := 0 }).wrB (PRT_PORT_STAT n) PRT_PORT_STAT_PREEMPT_ACTIVE false

theorem setLink_down_of_up {s : State} {n : Nat} (h : s.linkUp n = true) : s.setLink n false =
    (((((s.linkFell n).endPauses n).abortTx n).cutReception n).post 0x0101 (p1 n ++ p1 (b2n false)
      ++ p1 (((((s.linkFell n).endPauses n).abortTx n).cutReception n).rd (PRT_PORT_CFG n) PRT_PORT_CFG_MODE))) :=
  if_neg (by simp [h])

theorem linkLost_setLink {n : Nat} (hn : n < 29) (s : State) : LinkLost n s (s.setLink n false) := by
  by_cases h : s.linkUp n = true
  · have fell : (s.linkFell n).linkUp n = false :=
      (State.rdB_wr_apart _ _ _ _ _ (by decide) (by decide) (by decide)).trans (State.rdB_wrB_same _ _ _ _ (by decide) rfl)
    have ended : LinkLost n s ((s.linkFell n).endPauses n) :=
      ⟨(congrArg (· != 0) (endPauses_stat (s.linkFell n) n (by decide) (by decide))).trans fell, fun _ => endPauses_paused _ n,
        fun a _ hne => (endPauses_words _ n hne).trans ((State.rdW_wrB_ne _ _ _ hne).trans (s.rdW_wrB_ne _ _ hne))⟩
    rw [setLink_down_of_up h]
    exact ((ended.kept hn (prtKept_abortTx _ n)).kept hn (prtKept_cutReception _ n)).kept hn (EventOnly.post ..).prtKept
  · rw [Bool.not_eq_true] at h
    have e : s.setLink n false = s := if_pos h
    rw [e]
    exact ⟨h, fun up => absurd (h ▸ up) (by decide), fun _ _ _ => rfl⟩

end Sys2Proof.Machine
end

section
/-! A port's configuration and its link (R55, R57, R58, R77). -/

namespace Sys2Proof.Machine

variable {s : State} {t n : Nat} {v : Word}

theorem portPresent_lt (h : s.portPresent n = true) : n < 29 := by
  unfold State.portPresent at h
  split at h
  next => omega
  next =>
    split at h
    next => omega
    next => have e := beq_iff_eq.1 h; omega

/-- A refused write sets the port's CFG_REJ alone. -/
theorem completes_of_prtRej {i : Instr} {g : State → State} (hi : exec i s = .next (s.after t g))
    (hg : g (s.advance t) = (s.advance t).prtRej n) : Completes i s fun u =>
      u.rdB (PRT_PORT_STAT n) PRT_PORT_STAT_CFG_REJ = true ∧ OnlyWords [PRT_PORT_STAT n] s u :=
  completes_of_eq hi hg ⟨(s.advance t).rdB_wrB_same _ _ _ (by decide) rfl, rfl,
    ((OnlyWords.wrB (s.advance t) PRT_PORT_STAT_CFG_REJ true (List.mem_singleton.2 rfl)).2 : _)⟩

/-! ### The port's configuration -/

theorem prtKept_fabRemode (s : State) : PrtKept s s.fabRemode := by
  unfold State.fabRemode
  refine .ite (.refl s) (.trans (u := s.wr FAB_STAT FAB_STAT_MODE (b2n s.wantFull)) (.wr s _ _ (by decide)) (.trans ?_ (EventOnly.post ..).prtKept))
  exact .of_regs rfl

/-- A configuration word as it is taken: the fields of PRT_PORT_CFG alone. -/
def portCfgWord (v : Word) : Word := fieldsOf portCfgFields v

theorem fget_portCfgWord {f : Fld} (h : f ∈ portCfgFields) (v : Word) : fget f (portCfgWord v) = fget f v := fget_fieldsOf (by decide) h v

/-- The change of PRT_PORT_CFG asked for may be made: its mode is one of the port's, and MODE and FEC stay while EN is set. -/
def State.portCfgTaken (s : State) (n : Nat) (v : Word) : Prop :=
  modeOk n (fget PRT_PORT_CFG_MODE v) (fget PRT_PORT_CFG_FEC v) = true ∧ (s.rdB (PRT_PORT_CFG n) PRT_PORT_CFG_EN = true →
    fget PRT_PORT_CFG_MODE v = s.rd (PRT_PORT_CFG n) PRT_PORT_CFG_MODE ∧ fget PRT_PORT_CFG_FEC v = s.rd (PRT_PORT_CFG n) PRT_PORT_CFG_FEC)

/-- The configuration taken, with the link down when EN is 0 and preemption off when it is not enabled. -/
def State.portConfigured (s : State) (n : Nat) (v : Word) : State :=
  let s := s.wrW (PRT_PORT_CFG n) (portCfgWord v)
  let s := if fget PRT_PORT_CFG_EN (portCfgWord v) = 0 then s.setLink n false else s
  if s.preemptEn n then s else s.wrB (PRT_PORT_STAT n) PRT_PORT_STAT_PREEMPT_ACTIVE false

theorem opPortConfigWrite_taken (p : s.portPresent n = true) (h : s.portCfgTaken n v) :
    opPortConfigWrite n v s = (s.portConfigured n v).fabRemode := by
  have mode := fget_portCfgWord (f := PRT_PORT_CFG_MODE) (by decide) v
  have fec := fget_portCfgWord (f := PRT_PORT_CFG_FEC) (by decide) v
  obtain ⟨ok, stays⟩ := h
  refine (if_neg (by simp [p])).trans (if_neg ?_)
  change ¬ (!modeOk n (fget PRT_PORT_CFG_MODE (portCfgWord v)) (fget PRT_PORT_CFG_FEC (portCfgWord v)) ∨ _)
  rw [mode, fec, ok]
  rintro (no | ⟨en, changes⟩)
  · exact absurd no (by decide)
  · exact changes.elim (fun c => c (mode.trans (stays en).1)) (fun c => c (fec.trans (stays en).2))

theorem opPortConfigWrite_badMode (p : s.portPresent n = true) (h : modeOk n (fget PRT_PORT_CFG_MODE v) (fget PRT_PORT_CFG_FEC v) = false) :
    opPortConfigWrite n v s = s.prtRej n := by
  refine (if_neg (by simp [p])).trans (if_pos (.inl ?_))
  change (!modeOk n (fget PRT_PORT_CFG_MODE (portCfgWord v)) (fget PRT_PORT_CFG_FEC (portCfgWord v))) = true
  rw [fget_portCfgWord (by decide), fget_portCfgWord (by decide), h]
  rfl

theorem opPortConfigWrite_enabled (p : s.portPresent n = true) (en : s.rdB (PRT_PORT_CFG n) PRT_PORT_CFG_EN = true)
    (h : fget PRT_PORT_CFG_MODE v ≠ s.rd (PRT_PORT_CFG n) PRT_PORT_CFG_MODE) : opPortConfigWrite n v s = s.prtRej n :=
  (if_neg (by simp [p])).trans (if_pos (.inr ⟨en, .inl ((fget_portCfgWord (f := PRT_PORT_CFG_MODE) (by decide) v).trans_ne h)⟩))

theorem portCfg_ne_stat (n : Nat) : PRT_PORT_CFG n ≠ PRT_PORT_STAT n := by unfold PRT_PORT_CFG PRT_PORT_STAT; omega

theorem portConfigured_spec (hn : n < 29) (s : State) (v : Word) : (s.portConfigured n v).rdW (PRT_PORT_CFG n) = portCfgWord v ∧
    (fget PRT_PORT_CFG_EN v = 0 → (s.portConfigured n v).linkUp n = false) := by
  have prt : PrtWord (PRT_PORT_CFG n) := by unfold PrtWord PRT_PORT_CFG; omega
  have off (u : State) : (if u.preemptEn n then u else u.wrB (PRT_PORT_STAT n) PRT_PORT_STAT_PREEMPT_ACTIVE false).rdW (PRT_PORT_CFG n)
      = u.rdW (PRT_PORT_CFG n) ∧ (if u.preemptEn n then u else u.wrB (PRT_PORT_STAT n) PRT_PORT_STAT_PREEMPT_ACTIVE false).linkUp n
      = u.linkUp n := by
    split
    · exact ⟨rfl, rfl⟩
    · exact ⟨u.rdW_wrB_ne _ _ (portCfg_ne_stat n), u.rdB_wr_apart _ _ _ _ (by decide) (by decide) (by decide)⟩
  have link := linkLost_setLink hn (s.wrW (PRT_PORT_CFG n) (portCfgWord v))
  rw [← fget_portCfgWord (f := PRT_PORT_CFG_EN) (by decide) v]
  unfold State.portConfigured
  refine ⟨(off _).1.trans ?_, fun en => (off _).2.trans ?_⟩
  · split
    · exact (link.words _ prt (portCfg_ne_stat n)).trans (s.rdW_wrW_same _ _)
    · exact s.rdW_wrW_same _ _
  · rw [if_pos en]
    exact link.down

theorem completes_portConfigWrite (p : s.portPresent n = true) (h : s.portCfgTaken n v) : Completes (.portConfigWrite t n v) s fun u =>
    (∀ f ∈ portCfgFields, u.rd (PRT_PORT_CFG n) f = fget f v) ∧ (fget PRT_PORT_CFG_EN v = 0 → u.linkUp n = false) := by
  have hn := portPresent_lt p
  obtain ⟨word, down⟩ := portConfigured_spec hn (s.advance t) v
  have kept := prtKept_fabRemode ((s.advance t).portConfigured n v)
  refine completes_of_eq (g := opPortConfigWrite n v) rfl (opPortConfigWrite_taken p h) ⟨fun f hf => ?_, fun en => ?_⟩
  · exact (congrArg (fget f) ((kept.words _ (by unfold PrtWord PRT_PORT_CFG; omega)).trans word)).trans (fget_portCfgWord hf v)
  · exact (State.rdB_congr (kept.words _ (by unfold PrtWord PRT_PORT_STAT; omega)) _).trans (down en)

/-! ### The pair's configuration -/

variable {p : Nat}

def lreCfgWord (v : Word) : Word := fieldsOf lreCfgFields v

theorem fget_lreCfgWord {f : Fld} (h : f ∈ lreCfgFields) (v : Word) : fget f (lreCfgWord v) = fget f v := fget_fieldsOf (by decide) h v

/-- Both ports of the pair are enabled in one mode (R77). -/
def State.pairReady (s : State) (p : Nat) : Bool :=
  s.rdB (PRT_PORT_CFG (2 * p)) PRT_PORT_CFG_EN && s.rdB (PRT_PORT_CFG (2 * p + 1)) PRT_PORT_CFG_EN
    && s.rd (PRT_PORT_CFG (2 * p)) PRT_PORT_CFG_MODE == s.rd (PRT_PORT_CFG (2 * p + 1)) PRT_PORT_CFG_MODE

theorem opLreConfigWrite_of_present (h : s.pairPresent p = true) : opLreConfigWrite p v s =
    if fget PRT_LRE_CFG_DUP_AGE v < 10 ∨ 10000 < fget PRT_LRE_CFG_DUP_AGE v ∨ fget PRT_LRE_CFG_MODE v = 3
      ∨ (fget PRT_LRE_CFG_MODE v ≠ 0 ∧ !s.pairReady p) then s.prtRej (2 * p)
    else s.wrW (PRT_LRE_CFG p) (lreCfgWord v) := by
  have age := fget_lreCfgWord (f := PRT_LRE_CFG_DUP_AGE) (by decide) v
  have mode := fget_lreCfgWord (f := PRT_LRE_CFG_MODE) (by decide) v
  rw [← age, ← mode]
  exact if_neg (by simp [h])

theorem completes_lreConfigWrite (h : s.pairPresent p = true) (lo : 10 ≤ fget PRT_LRE_CFG_DUP_AGE v) (hi : fget PRT_LRE_CFG_DUP_AGE v ≤ 10000)
    (mode : fget PRT_LRE_CFG_MODE v ≠ 3) (ready : fget PRT_LRE_CFG_MODE v = 0 ∨ s.pairReady p = true) :
    Completes (.lreConfigWrite t p v) s fun u =>
      (∀ f ∈ lreCfgFields, u.rd (PRT_LRE_CFG p) f = fget f v) ∧ OnlyWords [PRT_LRE_CFG p] s u := by
  have taken : opLreConfigWrite p v (s.advance t) = (s.advance t).wrW (PRT_LRE_CFG p) (lreCfgWord v) := by
    refine (opLreConfigWrite_of_present (s := s.advance t) h).trans (if_neg ?_)
    rintro (bad | bad | bad | ⟨on, bad⟩)
    · omega
    · omega
    · exact mode bad
    · have yes : s.pairReady p = true := ready.resolve_left on
      exact absurd (yes ▸ bad : (!true) = true) (by decide)
  refine completes_of_eq (g := opLreConfigWrite p v) rfl taken ⟨fun f hf => ?_, rfl, ?_⟩
  · exact (congrArg (fget f) ((s.advance t).rdW_wrW_same _ _)).trans (fget_lreCfgWord hf v)
  · exact (OnlyWords.wrW (s.advance t) (lreCfgWord v) (List.mem_singleton.2 rfl)).2

theorem opLreConfigWrite_refused (h : s.pairPresent p = true) (mode : fget PRT_LRE_CFG_MODE v ≠ 0)
    (off : s.rdB (PRT_PORT_CFG (2 * p)) PRT_PORT_CFG_EN = false) : opLreConfigWrite p v s = s.prtRej (2 * p) :=
  (opLreConfigWrite_of_present h).trans (if_pos (.inr (.inr (.inr ⟨mode, by simp [State.pairReady, off]⟩))))

/-! ### The link -/

/-- The port's status as its link comes up. -/
def State.linkStatus (s : State) (n speed : Nat) (anDone fecLock : Bool) : State :=
  let s := s.wr (PRT_PORT_STAT n) PRT_PORT_STAT_SPEED speed
  let s := s.wrB (PRT_PORT_STAT n) PRT_PORT_STAT_AN_DONE (anDone && s.rdB (PRT_PORT_CFG n) PRT_PORT_CFG_AN_EN
    && decide (s.rd (PRT_PORT_CFG n) PRT_PORT_CFG_MODE ≤ 1))
  s.wrB (PRT_PORT_STAT n) PRT_PORT_STAT_FEC_LOCK (fecLock && s.rd (PRT_PORT_CFG n) PRT_PORT_CFG_FEC != 0)

theorem linkStatus_speed (s : State) (n : Nat) {speed : Nat} (h : speed < 4) (anDone fecLock : Bool) :
    (s.linkStatus n speed anDone fecLock).rd (PRT_PORT_STAT n) PRT_PORT_STAT_SPEED = speed := by
  unfold State.linkStatus
  refine (State.rd_wr_apart _ _ _ _ _ (by decide) (by decide) (by decide)).trans
    ((State.rd_wr_apart _ _ _ _ _ (by decide) (by decide) (by decide)).trans ((State.rd_wr_same _ _ _ _ (by decide)).trans ?_))
  exact Nat.mod_eq_of_lt h

theorem onlyWords_linkStatus (s : State) (n speed : Nat) (anDone fecLock : Bool) :
    OnlyWords [PRT_PORT_STAT n] s (s.linkStatus n speed anDone fecLock) :=
  have here : PRT_PORT_STAT n ∈ [PRT_PORT_STAT n] := List.mem_singleton.2 rfl
  ((OnlyWords.wr s _ _ here).trans (.wrB _ _ _ here)).trans (.wrB _ _ _ here)

/-- What a link that comes up leaves. -/
structure LinkGained (n : Nat) (s u : State) : Prop where
  up : u.linkUp n = true
  speed : u.rd (PRT_PORT_STAT n) PRT_PORT_STAT_SPEED = s.rd (PRT_PORT_STAT n) PRT_PORT_STAT_SPEED
  only : OnlyEvents [PRT_PORT_STAT n] [] { s with prt := u.prt } u

/-- The port's status as its link comes up, before the event. -/
def State.linkRose (s : State) (n : Nat) : State :=
  let u := s.wrB (PRT_PORT_STAT n) PRT_PORT_STAT_LINK true
  let u := u.setPort n { u.port n with verifies := 0 }
  u.wrB (PRT_PORT_STAT n) PRT_PORT_STAT_PREEMPT_ACTIVE (true && u.preemptEn n && u.rdB (PRT_PREEMPT n) PRT_PREEMPT_VERIFY_DIS)

theorem linkGained_linkRose (s : State) (n : Nat) : LinkGained n s (s.linkRose n) := by
  have here : PRT_PORT_STAT n ∈ [PRT_PORT_STAT n] := List.mem_singleton.2 rfl
  refine ⟨?up, ?speed, ?only⟩
  case up => exact (State.rdB_wr_apart _ _ _ _ _ (by decide) (by decide) (by decide)).trans (State.rdB_wrB_same _ _ _ _ (by decide) rfl)
  case speed =>
    exact (State.rd_wr_apart _ _ _ _ _ (by decide) (by decide) (by decide)).trans
      (State.rd_wr_apart _ _ _ _ _ (by decide) (by decide) (by decide))
  case only => exact (OnlyEvents.wrB { s with prt := (s.linkRose n).prt } _ true here).trans (.wrB _ PRT_PORT_STAT_PREEMPT_ACTIVE _ here)

theorem linkGained_setLink (hn : n < 29) (s : State) : LinkGained n s (s.setLink n true) := by
  by_cases h : s.linkUp n = true
  · have e : s.setLink n true = s := if_pos h
    rw [e]
    exact ⟨h, rfl, .refl s⟩
  · have e : s.setLink n true = (s.linkRose n).post 0x0101 (p1 n ++ p1 (b2n true) ++ p1 ((s.linkRose n).rd (PRT_PORT_CFG n) PRT_PORT_CFG_MODE)) :=
      if_neg h
    obtain ⟨up, speed, only⟩ := linkGained_linkRose s n
    have event : EventOnly (s.linkRose n) (s.setLink n true) := by rw [e]; exact .post ..
    have stat := event.prtKept.words (PRT_PORT_STAT n) (by unfold PrtWord PRT_PORT_STAT; omega)
    have prt : (s.setLink n true).prt = (s.linkRose n).prt := (congrArg State.prt (OnlyEvents.of_eventOnly (W := []) (C := []) event).1 :)
    refine ⟨(State.rdB_congr stat _).trans up, (State.rd_congr stat _).trans speed, ?_⟩
    rw [prt]
    exact only.trans (.of_eventOnly event)

theorem opLinkUp_enabled (p : s.portPresent n = true) (en : s.rdB (PRT_PORT_CFG n) PRT_PORT_CFG_EN = true) (speed : Nat) (an fec : Bool) :
    opLinkUp n speed an fec s = (s.linkStatus n speed an fec).setLink n true := if_neg (by simp [en, p])

theorem opLinkDown_present (p : s.portPresent n = true) : opLinkDown n s =
    ((s.wrB (PRT_PORT_STAT n) PRT_PORT_STAT_AN_DONE false).wrB (PRT_PORT_STAT n) PRT_PORT_STAT_FEC_LOCK false).setLink n false :=
  if_neg (by simp [p])

theorem completes_linkUp {speed : Nat} {an fec : Bool} (p : s.portPresent n = true) (en : s.rdB (PRT_PORT_CFG n) PRT_PORT_CFG_EN = true)
    (h : speed < 4) : Completes (.linkUp t n speed an fec) s fun u =>
      u.linkUp n = true ∧ u.rd (PRT_PORT_STAT n) PRT_PORT_STAT_SPEED = speed ∧ OnlyEvents [PRT_PORT_STAT n] [] { s with prt := u.prt } u := by
  obtain ⟨up, sp, only⟩ := linkGained_setLink (portPresent_lt p) ((s.advance t).linkStatus n speed an fec)
  have shown := onlyWords_linkStatus { s.advance t with prt := (((s.advance t).linkStatus n speed an fec).setLink n true).prt } n speed an fec
  refine completes_of_eq (g := opLinkUp n speed an fec) rfl (opLinkUp_enabled (s := s.advance t) p en speed an fec)
    ⟨up, sp.trans (linkStatus_speed _ n h an fec), ?_⟩
  exact .after (t := t) (g := fun _ => ((s.advance t).linkStatus n speed an fec).setLink n true) (s := { s with prt := _ })
    ((OnlyEvents.of_onlyWords shown).trans only)

theorem completes_linkDown (p : s.portPresent n = true) : Completes (.linkDown t n) s fun u =>
    u.linkUp n = false ∧ (s.linkUp n = true → u.rd (PRT_PORT_STAT n) PRT_PORT_STAT_PAUSED = 0) := by
  have lost := linkLost_setLink (portPresent_lt p)
    (((s.advance t).wrB (PRT_PORT_STAT n) PRT_PORT_STAT_AN_DONE false).wrB (PRT_PORT_STAT n) PRT_PORT_STAT_FEC_LOCK false)
  refine completes_of_eq (g := opLinkDown n) rfl (opLinkDown_present (s := s.advance t) p) ⟨lost.down, fun up => lost.unpaused ?_⟩
  exact (State.rdB_wr_apart _ _ _ _ _ (by decide) (by decide) (by decide)).trans
    ((State.rdB_wr_apart _ _ _ _ _ (by decide) (by decide) (by decide)).trans up)

/-- Settles O4. -/
theorem portConfiguration : Obligations.PortConfiguration := by
  refine ⟨?taken, ?badMode, ?enabled, ?pair, ?notReady, ?up, ?down⟩
  case taken => exact fun t n v s p ok stays => completes_portConfigWrite p ⟨ok, stays⟩
  case badMode => exact fun t n v s p h => completes_of_prtRej (t := t) (g := opPortConfigWrite n v) rfl (opPortConfigWrite_badMode p h)
  case enabled => exact fun t n v s p en h => completes_of_prtRej (t := t) (g := opPortConfigWrite n v) rfl (opPortConfigWrite_enabled p en h)
  case pair =>
    exact fun t p v s h lo hi mode ready => completes_lreConfigWrite h lo hi mode
      (ready.imp_right fun ⟨a, b, same⟩ => by simp [State.pairReady, a, b, same])
  case notReady => exact fun t p v s h mode off => completes_of_prtRej (t := t) (g := opLreConfigWrite p v) rfl (opLreConfigWrite_refused h mode off)
  case up => exact fun t n speed an fec s p en h => completes_linkUp p en h
  case down => exact fun t n s p => completes_linkDown p

end Sys2Proof.Machine
end

section
/-! A frame at a port (R64 to R66, R70, R71), pauses and their watchdog (R71 to R73), the verification of preemption (R69) and the
ageing of duplicate entries (R81). -/

namespace Sys2Proof.Machine

variable {s : State} {t n : Nat}

/-! ### Received frames -/

variable {f : RxFrame}

theorem opFrameReceive_fragBad (p : s.portPresent n = true) (up : s.linkUp n = true) (frag : f.fragBad = true) :
    opFrameReceive n f s = s.bump (cntPRT_RX_FRAG_ERR n) 1 :=
  (if_neg (by simp [p, up])).trans (if_pos frag)

theorem opFrameReceive_runt (p : s.portPresent n = true) (up : s.linkUp n = true) (frag : f.fragBad = false) (short : f.bytes.length ≤ 63) :
    opFrameReceive n f s = s.bump (cntPRT_RX_RUNT n) 1 :=
  (if_neg (by simp [p, up])).trans ((if_neg (by simp [frag])).trans (if_pos short))

/-- A whole frame's size is one of the port's, and nothing cut it. -/
structure WholeFrame (s : State) (n : Nat) (f : RxFrame) : Prop where
  whole : f.fragBad = false
  long : 63 < f.bytes.length
  fits : f.bytes.length ≤ s.maxFrame n
  uncut : f.cut = false

theorem opFrameReceive_good (p : s.portPresent n = true) (up : s.linkUp n = true) (h : WholeFrame s n f)
    (fcs : f.bytes.drop (f.bytes.length - 4) = fcsOf (f.bytes.take (f.bytes.length - 4)))
    (data : macControlOp (f.bytes.take (f.bytes.length - 4)) = none) : opFrameReceive n f s =
      ((s.bump (cntPRT_RX_OCTETS n) f.bytes.length).bump (cntPRT_RX_FRAMES n) 1).offer n
        { bytes := f.bytes.take (f.bytes.length - 4), arrival := f.arrival, wire := f.bytes.length,
          counted := [(cntPRT_RX_OCTETS n, f.bytes.length), (cntPRT_RX_FRAMES n, 1)] } := by
  obtain ⟨whole, long, fits, uncut⟩ := h
  unfold opFrameReceive
  simp only [p, up, whole, Nat.not_le.2 long, Nat.not_lt.2 fits, uncut, fcs, data, Bool.and_self, Bool.not_true, Bool.false_eq_true, ↓reduceIte]

theorem opFrameReceive_badFcs (p : s.portPresent n = true) (up : s.linkUp n = true) (h : WholeFrame s n f)
    (bad : f.bytes.drop (f.bytes.length - 4) ≠ fcsOf (f.bytes.take (f.bytes.length - 4)))
    (unstomped : f.bytes.drop (f.bytes.length - 4) ≠ complement (fcsOf (f.bytes.take (f.bytes.length - 4)))) : opFrameReceive n f s =
      (s.bump (cntPRT_RX_FCS_ERR n) 1).offer n
        { bytes := (f.bytes.take (min f.bytes.length (s.maxFrame n))).take (min f.bytes.length (s.maxFrame n) - 4), arrival := f.arrival,
          end_ := 1, stomp := min f.bytes.length (s.maxFrame n), wire := f.bytes.length, counted := [(cntPRT_RX_FCS_ERR n, 1)] } := by
  obtain ⟨whole, long, fits, uncut⟩ := h
  unfold opFrameReceive
  simp only [p, up, whole, Nat.not_le.2 long, Nat.not_lt.2 fits, uncut, bad, unstomped, Bool.and_self, Bool.not_true, Bool.false_eq_true,
    ↓reduceIte]

/-- A command that only counts one. -/
theorem completes_of_bump {i : Instr} {g : State → State} {c : Nat} (hi : exec i s = .next (s.after t g))
    (hg : g (s.advance t) = (s.advance t).bump c 1) :
    Completes i s fun u => u.count c = (s.count c + 1) % 2 ^ 64 ∧ u = { s with now := u.now, cnt := u.cnt } :=
  completes_of_eq hi hg ⟨(s.advance t).count_bump_same c 1, rfl⟩

/-- Settles O5. -/
theorem receivedFrames : Obligations.ReceivedFrames := by
  refine ⟨?frag, ?runt, ?good, ?bad⟩
  case frag =>
    exact fun t n f s p up h => completes_of_bump (t := t) (g := opFrameReceive n f) rfl (opFrameReceive_fragBad (s := s.advance t) p up h)
  case runt =>
    exact fun t n f s p up h k => completes_of_bump (t := t) (g := opFrameReceive n f) rfl (opFrameReceive_runt (s := s.advance t) p up h k)
  case good =>
    exact fun t n f s p up whole long fits uncut fcs data => exec_congr (f := opFrameReceive n f) rfl
      (opFrameReceive_good (s := s.advance t) p up ⟨whole, long, fits, uncut⟩ fcs data)
  case bad =>
    exact fun t n f s p up whole long fits uncut bad unstomped => exec_congr (f := opFrameReceive n f) rfl
      (opFrameReceive_badFcs (s := s.advance t) p up ⟨whole, long, fits, uncut⟩ bad unstomped)

/-! ### A pause frame -/

variable {c : Nat}

theorem opPauseFrame_ignored {enable : Nat} {quanta : List Nat} (p : s.portPresent n = true) (up : s.linkUp n = true)
    (deaf : s.rdB (PRT_PORT_CFG n) PRT_PORT_CFG_PFC_OBEY = false) :
    opPauseFrame n true enable quanta s = s.bump (cntPRT_RX_PAUSE n) 1 :=
  (if_neg (by simp [p, up])).trans (if_pos (by
    change (!s.rdB (PRT_PORT_CFG n) PRT_PORT_CFG_PFC_OBEY) = true
    rw [deaf]
    rfl))

theorem namedClass {c : Nat} (h : c < 8) : (List.range 8).filter (fun d => !true || (2 ^ c).testBit d) = [c] := by
  revert c
  decide

/-- A quantum's length is read off the port's words. -/
theorem State.quantaNs_congr {s u : State} (h : u.regs = s.regs) (n q : Nat) : u.quantaNs n q = s.quantaNs n q := by
  unfold State.quantaNs State.rate_ State.rd
  rw [State.rdW_congr h, State.rdW_congr h]

/-- The class named, after a frame acted on it. -/
def State.pauseFramed (s : State) (n c : Nat) : State :=
  s.setPause n c { s.pauseOf n c with frameAt := s.now + 1, before := ((s.pausedSince n c).map (· + 1)).getD 0 }

/-- The class paused for the quanta the frame gives it. -/
def State.pauseFor (s : State) (n : Nat) (pfc : Bool) (quanta : List Nat) (c : Nat) : State :=
  (s.pauseFramed n c).pauseClass n c ((s.pauseFramed n c).quantaNs n (quanta.getD (if pfc then c else 0) 0))

theorem pauseFor_true {quanta : List Nat} {ns : Nat} (h : (s.pauseFramed n c).quantaNs n (quanta.getD c 0) = ns) :
    s.pauseFor n true quanta c = (s.pauseFramed n c).pauseClass n c ns := by
  rw [← h]
  rfl

/-- A pause frame acts on the classes it names. -/
def State.pauseNamed (s : State) (n : Nat) (pfc : Bool) (quanta named : List Nat) : State :=
  if named.any (s.inRelease n) then ((named.filter (fun c => !s.inRelease n c)).foldl (fun s c => s.pauseFor n pfc quanta c) s).pauseIgnored n
  else (named.filter (fun c => !s.inRelease n c)).foldl (fun s c => s.pauseFor n pfc quanta c) s

theorem opPauseFrame_eq (n : Nat) (pfc : Bool) (enable : Nat) (quanta : List Nat) (s : State) : opPauseFrame n pfc enable quanta s =
    if !(s.portPresent n && s.linkUp n) then s
    else if !(s.bump (cntPRT_RX_PAUSE n) 1).rdB (PRT_PORT_CFG n) (if pfc then PRT_PORT_CFG_PFC_OBEY else PRT_PORT_CFG_PAUSE_OBEY)
      then s.bump (cntPRT_RX_PAUSE n) 1
    else (s.bump (cntPRT_RX_PAUSE n) 1).pauseNamed n pfc quanta ((List.range 8).filter (fun d => !pfc || enable.testBit d)) := rfl

theorem foldl_singleton {α β : Type} (f : β → α → β) (b : β) (a : α) : [a].foldl f b = f b a := rfl

theorem pauseNamed_one (free : s.inRelease n c = false) (quanta : List Nat) : s.pauseNamed n true quanta [c] = s.pauseFor n true quanta c := by
  have none_ : ¬ [c].any (s.inRelease n) = true := by simp [free]
  have acts : [c].filter (fun c => !s.inRelease n c) = [c] := by simp [free]
  unfold State.pauseNamed
  rw [if_neg none_, acts]
  exact foldl_singleton (fun s c => s.pauseFor n true quanta c) s c

theorem opPauseFrame_obeyed {quanta : List Nat} (p : s.portPresent n = true) (up : s.linkUp n = true)
    (obey : s.rdB (PRT_PORT_CFG n) PRT_PORT_CFG_PFC_OBEY = true) (hc : c < 8) (free : s.inRelease n c = false) :
    opPauseFrame n true (2 ^ c) quanta s = (s.bump (cntPRT_RX_PAUSE n) 1).pauseFor n true quanta c := by
  have heard : (s.bump (cntPRT_RX_PAUSE n) 1).rdB (PRT_PORT_CFG n) PRT_PORT_CFG_PFC_OBEY = true := obey
  have notReleased : (s.bump (cntPRT_RX_PAUSE n) 1).inRelease n c = false := free
  rw [opPauseFrame_eq, namedClass hc, if_neg (by simp [p, up]), if_neg (by simp [heard]), pauseNamed_one notReleased]

theorem pauseClass_until (s : State) (n c : Nat) {ns : Nat} (h : ns ≠ 0) : ((s.pauseClass n c ns).pauseOf n c).until_ = s.now + ns := by
  unfold State.pauseClass
  rw [if_neg h]
  exact congrArg PauseClass.until_ ((State.pauseOf_setPause _ _ _ _ _).trans (if_pos rfl))

theorem completes_pauseFrame {quanta : List Nat} {ns : Nat} (p : s.portPresent n = true) (up : s.linkUp n = true)
    (obey : s.rdB (PRT_PORT_CFG n) PRT_PORT_CFG_PFC_OBEY = true) (hc : c < 8) (free : s.inRelease n c = false)
    (length : s.quantaNs n (quanta.getD c 0) = ns) (h : ns ≠ 0) : Completes (.pauseFrame t n true (2 ^ c) quanta) s fun u =>
      (u.rd (PRT_PORT_STAT n) PRT_PORT_STAT_PAUSED).testBit c = true ∧ (u.pauseOf n c).until_ = u.now + ns
        ∧ ∀ a, a ≠ PRT_PORT_STAT n → u.rdW a = s.rdW a := by
  have e : opPauseFrame n true (2 ^ c) quanta (s.advance t) = (((s.advance t).bump (cntPRT_RX_PAUSE n) 1).pauseFramed n c).pauseClass n c ns :=
    (opPauseFrame_obeyed (s := s.advance t) p up obey hc free).trans (pauseFor_true ((State.quantaNs_congr rfl n _).trans length))
  exact completes_of_eq (t := t) (g := opPauseFrame n true (2 ^ c) quanta) rfl e
    ⟨((pauseClass_paused _ hc _ c).trans (if_pos rfl)).trans (bne_iff_ne.2 h), pauseClass_until _ n c h, fun _ ha => pauseClass_words _ n c _ ha⟩

/-! ### Quanta that run out -/

/-- A class's pause ends when its quanta have run out. -/
def State.quantaOut (s : State) (n c : Nat) : State :=
  if (s.rd (PRT_PORT_STAT n) PRT_PORT_STAT_PAUSED).testBit c && decide ((s.pauseOf n c).until_ ≤ s.now) then s.pauseClass n c 0 else s

theorem quantaOut_now (s : State) (n c : Nat) : (s.quantaOut n c).now = s.now := by
  unfold State.quantaOut
  split
  · rw [pauseClass_rest]
  · rfl

/-- What one class's turn leaves of the class: its bit, its record and the own count. -/
theorem quantaOut_paused (s : State) {n c : Nat} (hc : c < 8) :
    (s.quantaOut n c).paused n c = (s.paused n c && decide (s.now < (s.pauseOf n c).until_)) := by
  unfold State.quantaOut
  split
  next h =>
    rw [Bool.and_eq_true, decide_eq_true_eq] at h
    rw [pauseClass_paused s hc, if_pos rfl, decide_eq_false (Nat.not_lt.2 h.2), Bool.and_false]
    rfl
  next h =>
    rw [Bool.and_eq_true, decide_eq_true_eq, not_and] at h
    by_cases on : s.paused n c = true
    · rw [on, decide_eq_true (Nat.lt_of_not_le (h on))]
      rfl
    · rw [Bool.not_eq_true] at on
      rw [on, Bool.false_and]

theorem quantaOut_ne (s : State) {n c d : Nat} (hc : c < 8) (h : d ≠ c) :
    (s.quantaOut n c).paused n d = s.paused n d ∧ (s.quantaOut n c).pauseOf n d = s.pauseOf n d := by
  unfold State.quantaOut
  split
  · exact ⟨(pauseClass_paused s hc 0 d).trans (if_neg h), pauseClass_pauseOf_ne s h 0⟩
  · exact ⟨rfl, rfl⟩

/-- Bits 0 and 1 of the view: whether the class is paused, and whether it stays paused at the own count. -/
theorem foldl_quantaOut_paused (s : State) {n d : Nat} (hd : d < 8) : ((List.range 8).foldl (fun u c => u.quantaOut n c) s).paused n d
    = (s.paused n d && decide (s.now < (s.pauseOf n d).until_)) := by
  have each := foldl_view_classes (f := fun u c => u.quantaOut n c)
    (view := fun u d => (u.paused n d, u.paused n d && decide (u.now < (u.pauseOf n d).until_))) (g := fun x => (x.2, x.2)) ?keep ?step s hd
  case keep =>
    intro u c d hc h
    obtain ⟨bit, pause⟩ := quantaOut_ne u (n := n) hc h
    rw [bit, pause, quantaOut_now]
  case step =>
    intro u c hc
    dsimp only
    rw [quantaOut_now, quantaOut_paused u hc]
    by_cases due : (u.paused n c && decide ((u.pauseOf n c).until_ ≤ u.now)) = true
    · rw [Bool.and_eq_true, decide_eq_true_eq] at due
      rw [decide_eq_false (Nat.not_lt.2 due.2), Bool.and_false, Bool.false_and]
    · have still : (u.quantaOut n c).pauseOf n c = u.pauseOf n c := congrArg (State.pauseOf · n c) (if_neg due)
      rw [still, Bool.and_assoc, Bool.and_self]
  exact congrArg Prod.fst each

theorem completes_pauseQuantaExpiry (p : s.portPresent n = true) : Completes (.pauseQuantaExpiry t n) s fun u =>
    ∀ c, c < 8 → (u.rd (PRT_PORT_STAT n) PRT_PORT_STAT_PAUSED).testBit c
      = ((s.rd (PRT_PORT_STAT n) PRT_PORT_STAT_PAUSED).testBit c && decide (u.now < (s.pauseOf n c).until_)) :=
  completes_of_eq (g := fun s => if s.portPresent n then opPauseQuantaExpiry n s else s) rfl (if_pos p) fun _ hc =>
    foldl_quantaOut_paused (s.advance t) hc

/-! ### The watchdog (R73) -/

/-- One class's pause broken, before the count and the event. -/
def State.broken (s : State) (n c : Nat) : State :=
  let s := s.pauseClass n c 0
  let s := s.setPause n c { s.pauseOf n c with release := s.now + s.wdRelease n }
  s.wr (PRT_PORT_STAT n) PRT_PORT_STAT_WD_RELEASE (nsetBit (s.rd (PRT_PORT_STAT n) PRT_PORT_STAT_WD_RELEASE) c true)

theorem broken_spec (s : State) {n c : Nat} (hc : c < 8) : (s.broken n c).paused n c = false ∧ (s.broken n c).inRelease n c = true
    ∧ ((s.broken n c).pauseOf n c).release = s.now + s.wdRelease n := by
  refine ⟨?_, ?_, ?_⟩
  · exact (congrArg (·.testBit c) (State.rd_wr_apart _ (PRT_PORT_STAT n) PRT_PORT_STAT_WD_RELEASE PRT_PORT_STAT_PAUSED _ (by decide) (by decide)
      (by decide))).trans ((pauseClass_paused s hc 0 c).trans (if_pos rfl))
  · exact (State.testBit_rd_wr_nsetBit _ (PRT_PORT_STAT n) (f := PRT_PORT_STAT_WD_RELEASE) (by decide) hc true c).trans (if_pos rfl)
  · have now : (s.pauseClass n c 0).now = s.now := by rw [pauseClass_rest]
    have wd : (s.pauseClass n c 0).wdRelease n = s.wdRelease n := by
      unfold State.wdRelease
      rw [State.rd_congr (pauseClass_words s n c 0 (by unfold PRT_PAUSE_WD PRT_PORT_STAT; omega))]
    refine (congrArg PauseClass.release ((State.pauseOf_setPause _ n c c _).trans (if_pos rfl))).trans ?_
    change (s.pauseClass n c 0).now + (s.pauseClass n c 0).wdRelease n = _
    rw [now, wd]

theorem broken_rest (s : State) (n c : Nat) : s.broken n c = { s with regs := (s.broken n c).regs, prt := (s.broken n c).prt } := by
  unfold State.broken
  rw [pauseClass_rest]
  rfl

theorem breakPause_one (s : State) (n c since : Nat) : s.breakPause n [c] since = ((s.broken n c).bump (cntPRT_PAUSE_BROKEN n) 1).post 0x0102
    (p1 n ++ p1 (0 + 2 ^ c) ++ p4 ((s.now - since) / 1000)) := rfl

/-- What the watchdog leaves of a class it has broken. -/
structure PauseBroken (n c : Nat) (s u : State) : Prop where
  unpaused : u.paused n c = false
  released : u.inRelease n c = true
  until_ : (u.pauseOf n c).release = s.now + s.wdRelease n
  counted : u.count (cntPRT_PAUSE_BROKEN n) = (s.count (cntPRT_PAUSE_BROKEN n) + 1) % 2 ^ 64

theorem pauseBroken_breakPause (s : State) (hn : n < 29) (hc : c < 8) (since : Nat) : PauseBroken n c s (s.breakPause n [c] since) := by
  obtain ⟨unpaused, released, until_⟩ := broken_spec s (n := n) hc
  have event : EventOnly ((s.broken n c).bump (cntPRT_PAUSE_BROKEN n) 1) (s.breakPause n [c] since) := by
    rw [breakPause_one]; exact .post ..
  have stat := event.prtKept.words (PRT_PORT_STAT n) (by unfold PrtWord PRT_PORT_STAT; omega)
  have prt : (s.breakPause n [c] since).prt = (s.broken n c).prt := (congrArg State.prt (OnlyEvents.of_eventOnly (W := []) (C := []) event).1 :)
  refine ⟨?_, ?_, ?_, ?_⟩
  · exact (congrArg (·.testBit c) (State.rd_congr stat PRT_PORT_STAT_PAUSED)).trans unpaused
  · exact (congrArg (·.testBit c) (State.rd_congr stat PRT_PORT_STAT_WD_RELEASE)).trans released
  · rw [State.pauseOf, prt]
    exact until_
  · refine (event.counts _ (by unfold cntPRT_PAUSE_BROKEN; omega) (by unfold cntPRT_PAUSE_BROKEN; omega)).trans ?_
    rw [State.count_bump_same, broken_rest]
    rfl

theorem PauseBroken.ignored {u : State} (h : PauseBroken n c s u) : PauseBroken n c s (u.pauseIgnored n) := by
  obtain ⟨unpaused, released, until_, counted⟩ := h
  unfold State.pauseIgnored
  split
  · exact ⟨unpaused, released, until_, counted⟩
  · exact ⟨unpaused, released, until_,
      (State.count_bump_ne _ 1 (by unfold cntPRT_PAUSE_BROKEN cntPRT_RX_PAUSE_IGNORED; omega)).trans counted⟩

theorem mem_overLimit (h : c ∈ s.overLimit n) : c < 8 ∧ ∃ x, s.pausedSince n c = some x := by
  obtain ⟨lt, late⟩ := List.mem_filter.1 h
  obtain ⟨x, hx, -⟩ := (Option.any_eq_true _ _).1 late
  exact ⟨List.mem_range.1 lt, x, hx⟩

theorem opPauseWatchdog_none (p : s.portPresent n = true) (h : s.overLimit n = []) : opPauseWatchdog n s = s := by
  refine (if_neg (by simp [p])).trans ?_
  simp [h]

theorem pauseBroken_opPauseWatchdog (p : s.portPresent n = true) (h : s.overLimit n = [c]) : PauseBroken n c s (opPauseWatchdog n s) := by
  obtain ⟨hc, x, hx⟩ := mem_overLimit (n := n) (c := c) (s := s) (by rw [h]; exact List.mem_singleton.2 rfl)
  have e : opPauseWatchdog n s = if [c].any (fun c => (s.pauseOf n c).frameAt == s.now + 1) then (s.breakPause n [c] x).pauseIgnored n
      else s.breakPause n [c] x := by
    refine (if_neg (by simp [p])).trans ?_
    have one : [x].eraseDups = [x] := by simp [List.eraseDups_cons]
    simp [h, hx, List.filter_cons, one]
  rw [e]
  have broke := pauseBroken_breakPause s (portPresent_lt p) hc x
  split
  · exact broke.ignored
  · exact broke

/-! ### The end of a release period -/

/-- A class's release period ends at its instant. -/
def State.releaseOver (s : State) (n c : Nat) : State :=
  if s.inRelease n c && decide ((s.pauseOf n c).release ≤ s.now)
  then (s.setPause n c { s.pauseOf n c with release := 0 }).wr (PRT_PORT_STAT n) PRT_PORT_STAT_WD_RELEASE
    (nsetBit (s.rd (PRT_PORT_STAT n) PRT_PORT_STAT_WD_RELEASE) c false)
  else s

theorem releaseOver_now (s : State) (n c : Nat) : (s.releaseOver n c).now = s.now := by
  unfold State.releaseOver
  split <;> rfl

theorem inRelease_wr (s : State) {n c : Nat} (hc : c < 8) (p : PauseClass) (d : Nat) :
    ((s.setPause n c p).wr (PRT_PORT_STAT n) PRT_PORT_STAT_WD_RELEASE
      (nsetBit (s.rd (PRT_PORT_STAT n) PRT_PORT_STAT_WD_RELEASE) c false)).inRelease n d = if d = c then false else s.inRelease n d :=
  (s.setPause n c p).testBit_rd_wr_nsetBit (PRT_PORT_STAT n) (f := PRT_PORT_STAT_WD_RELEASE) (by decide) hc false d

theorem releaseOver_same (s : State) {n c : Nat} (hc : c < 8) :
    (s.releaseOver n c).inRelease n c = (s.inRelease n c && decide (s.now < (s.pauseOf n c).release)) ∧
    ((s.releaseOver n c).inRelease n c = true → (s.releaseOver n c).pauseOf n c = s.pauseOf n c) := by
  unfold State.releaseOver
  split
  next h =>
    rw [Bool.and_eq_true, decide_eq_true_eq] at h
    rw [inRelease_wr s hc, if_pos rfl, decide_eq_false (Nat.not_lt.2 h.2), Bool.and_false]
    exact ⟨rfl, fun no => absurd no (by decide)⟩
  next h =>
    rw [Bool.and_eq_true, decide_eq_true_eq, not_and] at h
    refine ⟨?_, fun _ => rfl⟩
    by_cases on : s.inRelease n c = true
    · rw [on, decide_eq_true (Nat.lt_of_not_le (h on))]
      rfl
    · rw [Bool.not_eq_true] at on
      rw [on, Bool.false_and]

theorem releaseOver_ne (s : State) {n c d : Nat} (hc : c < 8) (h : d ≠ c) :
    (s.releaseOver n c).inRelease n d = s.inRelease n d ∧ (s.releaseOver n c).pauseOf n d = s.pauseOf n d := by
  unfold State.releaseOver
  split
  · exact ⟨(inRelease_wr s hc _ d).trans (if_neg h), (s.pauseOf_setPause n c d _).trans (if_neg h)⟩
  · exact ⟨rfl, rfl⟩

theorem foldl_releaseOver (s : State) {n d : Nat} (hd : d < 8) : ((List.range 8).foldl (fun u c => u.releaseOver n c) s).inRelease n d
    = (s.inRelease n d && decide (s.now < (s.pauseOf n d).release)) := by
  have each := foldl_view_classes (f := fun u c => u.releaseOver n c)
    (view := fun u d => (u.inRelease n d, u.inRelease n d && decide (u.now < (u.pauseOf n d).release))) (g := fun x => (x.2, x.2)) ?keep ?step s hd
  case keep =>
    intro u c d hc h
    obtain ⟨bit, pause⟩ := releaseOver_ne u (n := n) hc h
    rw [bit, pause, releaseOver_now]
  case step =>
    intro u c hc
    obtain ⟨bit, kept⟩ := releaseOver_same u (n := n) hc
    dsimp only
    rw [releaseOver_now]
    by_cases on : (u.releaseOver n c).inRelease n c = true
    · rw [kept on, bit, Bool.and_assoc, Bool.and_self]
    · rw [Bool.not_eq_true] at on
      rw [← bit, on, Bool.false_and]
  exact congrArg Prod.fst each

/-! ### The verification of preemption (R69) -/

/-- Preemption is enabled on a link that is up, not verified yet. -/
def State.verifying (s : State) (n : Nat) : Bool :=
  s.portPresent n && s.linkUp n && s.preemptEn n && !s.rdB (PRT_PREEMPT n) PRT_PREEMPT_VERIFY_DIS
    && !s.rdB (PRT_PORT_STAT n) PRT_PORT_STAT_PREEMPT_ACTIVE

/-- A try is due: the first one, or one after the verify time. -/
def State.verifyDue (s : State) (n : Nat) : Prop :=
  (s.port n).verifies = 0 ∨ (s.port n).verifyAt + s.rd (PRT_PREEMPT n) PRT_PREEMPT_VERIFY_TIME * 1000000 ≤ s.now

theorem opPreemptVerify_due (h : s.verifying n = true) (due : s.verifyDue n) : opPreemptVerify n s =
    if (s.port n).verifies < 3 then
      (s.setPort n { s.port n with verifies := (s.port n).verifies + 1, verifyAt := s.now }).send (.macControl n smdVerify)
    else if (s.port n).verifies = 3 then (s.setPort n { s.port n with verifies := 4 }).post 0x0103 (p1 n)
    else s := by
  refine (if_pos h).trans (if_neg ?_)
  have d : ((s.port n).verifies == 0 || decide ((s.port n).verifyAt + s.rd (PRT_PREEMPT n) PRT_PREEMPT_VERIFY_TIME * 1000000 ≤ s.now)) = true := by
    rw [Bool.or_eq_true, beq_iff_eq, decide_eq_true_eq]
    exact due
  rw [d]
  decide

theorem State.port_setPort (s : State) (n : Nat) (p : PortDyn) : (s.setPort n p).port n = p := cget_cset_same ..

theorem completes_preemptVerify_try (h : s.verifying n = true) (due : (s.advance t).verifyDue n) (lt : (s.port n).verifies < 3) :
    Completes (.preemptVerify t n) s fun u =>
      u.wire = s.wire ++ [.macControl n smdVerify] ∧ (u.port n).verifyAt = u.now ∧ (u.port n).verifies = (s.port n).verifies + 1
        ∧ u = { s with now := u.now, wire := u.wire, prt := u.prt } :=
  completes_of_eq (g := opPreemptVerify n) rfl ((opPreemptVerify_due (s := s.advance t) h due).trans (if_pos lt))
    ⟨rfl, congrArg PortDyn.verifyAt (State.port_setPort (s.advance t) n _), congrArg PortDyn.verifies (State.port_setPort (s.advance t) n _), rfl⟩

theorem completes_preemptVerify_fails (h : s.verifying n = true) (three : (s.port n).verifies = 3)
    (due : (s.port n).verifyAt + s.rd (PRT_PREEMPT n) PRT_PREEMPT_VERIFY_TIME * 1000000 ≤ max s.now t) :
    Completes (.preemptVerify t n) s fun u => (u.port n).verifies = 4 ∧ u.wire = s.wire ∧ OnlyEvents [] [] { s with prt := u.prt } u := by
  have three' : ((s.advance t).port n).verifies = 3 := three
  have e : opPreemptVerify n (s.advance t) = ((s.advance t).setPort n { (s.advance t).port n with verifies := 4 }).post 0x0103 (p1 n) :=
    (opPreemptVerify_due (s := s.advance t) h (.inr due)).trans ((if_neg (by rw [three']; decide)).trans (if_pos three'))
  have event : EventOnly ((s.advance t).setPort n { (s.advance t).port n with verifies := 4 }) (opPreemptVerify n (s.advance t)) := by
    rw [e]; exact .post ..
  have same := (OnlyEvents.of_eventOnly (W := []) (C := []) event).1
  have prt : (opPreemptVerify n (s.advance t)).prt = ((s.advance t).setPort n { (s.advance t).port n with verifies := 4 }).prt :=
    (congrArg State.prt same :)
  refine completes_of_eq (g := opPreemptVerify n) rfl rfl ⟨?_, (congrArg State.wire same :), ?_⟩
  · refine (congrArg (fun x : Prt => (cget (fun _ => {}) x.ports n).verifies) prt).trans ?_
    exact congrArg PortDyn.verifies (State.port_setPort (s.advance t) n _)
  · refine .after (t := t) (g := fun _ => opPreemptVerify n (s.advance t)) (s := { s with prt := _ }) ?_
    have only := OnlyEvents.of_eventOnly (W := []) (C := []) event
    refine ⟨?_, only.2.1, only.2.2⟩
    rw [prt]
    exact only.1

/-- Settles O6. -/
theorem pauseVerifyAgeing : Obligations.PauseVerifyAgeing := by
  refine ⟨?ignored, ?pause, ?expiry, ?noneLate, ?broken, ?release, ?tried, ?failed, ?verified, ?respond, ?ageing⟩
  case ignored =>
    exact fun t n enable quanta s p up deaf => completes_of_bump (t := t) (g := opPauseFrame n true enable quanta) rfl
      (opPauseFrame_ignored (s := s.advance t) p up deaf)
  case pause => exact fun t n c quanta s p up obey hc free h => completes_pauseFrame p up obey hc free rfl h
  case expiry => exact fun t n s p => completes_pauseQuantaExpiry p
  case noneLate =>
    exact fun t n s p h => completes_of_eq (t := t) (g := opPauseWatchdog n) rfl (opPauseWatchdog_none (s := s.advance t) p h) rfl
  case broken =>
    intro t n c s p h
    have broke := pauseBroken_opPauseWatchdog (s := s.advance t) p h
    exact completes_of_eq (t := t) (g := opPauseWatchdog n) rfl rfl ⟨broke.unpaused, broke.released, broke.until_, broke.counted⟩
  case release =>
    exact fun t n s p => completes_of_eq (t := t) (g := fun s => if s.portPresent n then opReleasePeriodEnd n s else s) rfl (if_pos p)
      fun c hc => foldl_releaseOver (s.advance t) hc
  case tried =>
    intro t n s p up en ver act lt due
    exact completes_preemptVerify_try (by simp [State.verifying, p, up, en, ver, act]) due lt
  case failed =>
    intro t n s p up en ver act three due
    exact completes_preemptVerify_fails (by simp [State.verifying, p, up, en, ver, act]) three due
  case verified =>
    intro t n s p up en lo hi
    have e : opVerifyResponse n false (s.advance t) = (s.advance t).wrB (PRT_PORT_STAT n) PRT_PORT_STAT_PREEMPT_ACTIVE true := by
      have all : (s.portPresent n && s.linkUp n && s.preemptEn n && decide (1 ≤ (s.port n).verifies) && decide ((s.port n).verifies ≤ 3)) = true := by
        simp [p, up, en, lo, hi]
      exact if_pos all
    exact completes_of_eq (t := t) (g := opVerifyResponse n false) rfl e ⟨(s.advance t).rdB_wrB_same _ _ _ (by decide) rfl, rfl,
      ((OnlyWords.wrB (s.advance t) PRT_PORT_STAT_PREEMPT_ACTIVE true (List.mem_singleton.2 rfl)).2 : _)⟩
  case respond =>
    intro t n s lt p up
    have all : (decide (n < 28) && s.portPresent n && s.linkUp n) = true := by simp [lt, p, up]
    exact completes_of_eq (t := t) (g := opVerifyResponse n true) rfl (if_pos all) rfl
  case ageing =>
    refine fun t s => completes_of_eq (t := t) (g := opDupEntryAgeing) rfl rfl ⟨fun e => ?_, rfl⟩
    exact List.mem_filter.trans (and_congr_right fun _ => decide_eq_true_iff)

end Sys2Proof.Machine
end

section
/-! The twin link (R60 to R62): its states, and the frames it receives. -/

namespace Sys2Proof.Machine

/-- What an operation within a scope leaves of a command that does it. -/
theorem Within.after {m : Scope} {W C : List Nat} {s u b : State} {t : Nat} (h : Within m (· ∈ W) (· ∈ C) (s.advance t) u)
    (e : { m.f (s.advance t) u with pending := s.pending, now := max s.now t }
      = { b with now := max s.now t, regs := u.regs, cnt := u.cnt, rate := u.rate, alm := u.alm, snap := u.snap })
    (r : b.regs = s.regs) (c : b.cnt = s.cnt) : OnlyEvents W C b { u with pending := s.pending, now := max s.now t } :=
  ⟨(congrArg (fun x : State => { x with pending := s.pending, now := max s.now t }) h.rest).trans e,
    fun a n k => (h.words a n k).trans (State.rdW_congr r.symm a), fun a n k l => (h.counts a n k l).trans (State.count_congr c.symm a)⟩

/-- The ports' own part. -/
def Scope.prt : Scope where
  f s u := { s with regs := u.regs, cnt := u.cnt, rate := u.rate, alm := u.alm, snap := u.snap, prt := u.prt }
  self _ := rfl
  comp _ _ _ := rfl
  events _ _ := rfl

/-- The parts of the ports and of the duplex unit. -/
def Scope.prtDpx : Scope where
  f s u := { s with regs := u.regs, cnt := u.cnt, rate := u.rate, alm := u.alm, snap := u.snap, prt := u.prt, dpx := u.dpx }
  self _ := rfl
  comp _ _ _ := rfl
  events _ _ := rfl

variable {s : State} {t : Nat}

/-! ### The link's states -/

theorem State.twinState_setTwinState (s : State) {v : Nat} (h : v < 4) : (s.setTwinState v).twinState = v :=
  (s.rd_wr_same _ _ _ (by decide)).trans (Nat.mod_eq_of_lt h)

/-- A new state leaves the other fields of PRT_TWIN_STAT. -/
theorem State.rd_setTwinState (s : State) (v : Nat) {f : Fld} (hf : f.lo + f.width ≤ 32)
    (h : PRT_TWIN_STAT_STATE.lo + PRT_TWIN_STAT_STATE.width ≤ f.lo ∨ f.lo + f.width ≤ PRT_TWIN_STAT_STATE.lo) :
    (s.setTwinState v).rd PRT_TWIN_STAT f = s.rd PRT_TWIN_STAT f := s.rd_wr_apart _ _ _ _ (by decide) hf h

/-- The block lock noted. -/
def State.laneLock (s : State) (lanes : Nat) : State := s.wr PRT_TWIN_STAT PRT_TWIN_STAT_LANE_LOCK (lanes % 16)

theorem laneLock_spec (s : State) (lanes : Nat) : (s.laneLock lanes).rd PRT_TWIN_STAT PRT_TWIN_STAT_LANE_LOCK = lanes % 16 ∧
    (s.laneLock lanes).twinState = s.twinState :=
  ⟨(s.rd_wr_same _ _ _ (by decide)).trans (Nat.mod_mod_of_dvd _ (by decide)), s.rd_wr_apart _ _ _ _ (by decide) (by decide) (by decide)⟩

theorem opTwinBlockLock_locks (p : s.twinPresent = true) (en : s.rdB PRT_TWIN_CFG PRT_TWIN_CFG_EN = true) (down : s.twinState = 0) :
    opTwinBlockLock 15 s = (s.laneLock 15).setTwinState 1 :=
  (if_neg (by simp [p])).trans (if_pos ⟨(State.rdB_wr_ne _ _ _ _ (by decide)).trans en, rfl, (laneLock_spec s 15).2.trans down⟩)

theorem opTwinBlockLock_partial {lanes : Nat} (p : s.twinPresent = true) (h : lanes < 15) : opTwinBlockLock lanes s = s.laneLock lanes :=
  (if_neg (by simp [p])).trans (if_neg fun ⟨_, all, _⟩ => by omega)

/-! ### Enabling -/

def twinCfgWord (v : Word) : Word := fieldsOf [PRT_TWIN_CFG_TX_POL, PRT_TWIN_CFG_RX_POL, PRT_TWIN_CFG_EN] v

theorem fget_twinCfgWord {f : Fld} (h : f ∈ [PRT_TWIN_CFG_TX_POL, PRT_TWIN_CFG_RX_POL, PRT_TWIN_CFG_EN]) (v : Word) :
    fget f (twinCfgWord v) = fget f v := fget_fieldsOf (by decide) h v

/-- The configuration taken, and LOCKED when all lanes have block lock. -/
def State.twinEnabled (s : State) (v : Word) : State :=
  if s.rd PRT_TWIN_STAT PRT_TWIN_STAT_LANE_LOCK = 15 ∧ s.twinState = 0 then (s.wrW PRT_TWIN_CFG (twinCfgWord v)).setTwinState 1
  else s.wrW PRT_TWIN_CFG (twinCfgWord v)

theorem opTwinLinkEnable_on {v : Word} (p : s.twinPresent = true) (en : fget PRT_TWIN_CFG_EN v = 1) :
    opTwinLinkEnable v s = s.twinEnabled v := by
  have lock := State.rd_congr (s.rdW_wrW_ne (a := PRT_TWIN_CFG) (b := PRT_TWIN_STAT) (twinCfgWord v) (by decide)) PRT_TWIN_STAT_LANE_LOCK
  have state := State.rd_congr (s.rdW_wrW_ne (a := PRT_TWIN_CFG) (b := PRT_TWIN_STAT) (twinCfgWord v) (by decide)) PRT_TWIN_STAT_STATE
  unfold State.twinEnabled State.twinState
  rw [← lock, ← state]
  exact (if_neg (by simp [p])).trans (if_neg (by rw [en]; decide))

theorem twinEnabled_spec (s : State) (v : Word) : (s.twinEnabled v).rdW PRT_TWIN_CFG = twinCfgWord v ∧
    (s.twinEnabled v).twinState = (if s.twinState = 0 ∧ s.rd PRT_TWIN_STAT PRT_TWIN_STAT_LANE_LOCK = 15 then 1 else s.twinState) ∧
    OnlyWords [PRT_TWIN_CFG, PRT_TWIN_STAT] s (s.twinEnabled v) := by
  have taken : OnlyWords [PRT_TWIN_CFG, PRT_TWIN_STAT] s (s.wrW PRT_TWIN_CFG (twinCfgWord v)) := .wrW s _ (by decide)
  unfold State.twinEnabled
  split
  next h =>
    rw [if_pos h.symm]
    exact ⟨(State.rdW_wr_ne _ _ _ (by decide)).trans (s.rdW_wrW_same _ _), State.twinState_setTwinState _ (by decide),
      taken.trans (.wr _ _ _ (by decide))⟩
  next h =>
    rw [if_neg fun k => h k.symm]
    exact ⟨s.rdW_wrW_same _ _, State.rd_congr (s.rdW_wrW_ne _ (by decide)) _, taken⟩

theorem completes_twinLinkEnable {v : Word} (p : s.twinPresent = true) (en : fget PRT_TWIN_CFG_EN v = 1) :
    Completes (.twinLinkEnable t v) s fun u =>
      u.rdB PRT_TWIN_CFG PRT_TWIN_CFG_EN = true ∧ u.rd PRT_TWIN_CFG PRT_TWIN_CFG_RX_POL = fget PRT_TWIN_CFG_RX_POL v
        ∧ u.rd PRT_TWIN_CFG PRT_TWIN_CFG_TX_POL = fget PRT_TWIN_CFG_TX_POL v
        ∧ u.twinState = (if s.twinState = 0 ∧ s.rd PRT_TWIN_STAT PRT_TWIN_STAT_LANE_LOCK = 15 then 1 else s.twinState)
        ∧ OnlyWords [PRT_TWIN_CFG, PRT_TWIN_STAT] s u := by
  obtain ⟨word, state, only⟩ := twinEnabled_spec (s.advance t) v
  have field {f : Fld} (h : f ∈ [PRT_TWIN_CFG_TX_POL, PRT_TWIN_CFG_RX_POL, PRT_TWIN_CFG_EN]) :
      ((s.advance t).twinEnabled v).rd PRT_TWIN_CFG f = fget f v := (congrArg (fget f) word).trans (fget_twinCfgWord h v)
  refine completes_of_eq (g := opTwinLinkEnable v) rfl (opTwinLinkEnable_on (s := s.advance t) p en)
    ⟨?_, field (by decide), field (by decide), state, ?_⟩
  · exact congrArg (· != 0) ((field (f := PRT_TWIN_CFG_EN) (by decide)).trans en)
  · exact .after (g := fun _ => (s.advance t).twinEnabled v) only

/-! ### Alignment and UP -/

theorem opTwinAligned_near {map skew : Nat} (p : s.twinPresent = true) (locked : s.twinState = 1) (h : skew ≤ 50) : opTwinAligned map skew s =
    ((s.wr PRT_TWIN_STAT PRT_TWIN_STAT_LANE_MAP map).wr PRT_TWIN_STAT PRT_TWIN_STAT_SKEW skew).setTwinState 2 := if_pos ⟨p, locked, h⟩

theorem completes_twinAligned {map skew : Nat} (p : s.twinPresent = true) (locked : s.twinState = 1) (h : skew ≤ 50) :
    Completes (.twinAligned t map skew) s fun u => u.twinState = 2 ∧ u.rd PRT_TWIN_STAT PRT_TWIN_STAT_SKEW = skew :=
  completes_of_eq (g := opTwinAligned map skew) rfl (opTwinAligned_near (s := s.advance t) p locked h)
    ⟨State.twinState_setTwinState _ (by decide), (State.rd_setTwinState _ 2 (by decide) (by decide)).trans
      ((State.rd_wr_same _ _ _ _ (by decide)).trans (Nat.mod_eq_of_lt (Nat.lt_of_le_of_lt h (by decide))))⟩

theorem completes_twinUp (p : s.twinPresent = true) (aligned : s.twinState = 2) :
    Completes (.twinUp t) s fun u => u.twinState = 3 ∧ u.prt.twin = {} := by
  have e : opTwinUp (s.advance t) = (((s.advance t).setTwinState 3).setTwin {}).post 0x0104 [] := if_pos ⟨p, aligned⟩
  have event : EventOnly (((s.advance t).setTwinState 3).setTwin {}) ((((s.advance t).setTwinState 3).setTwin {}).post 0x0104 []) := .post ..
  refine completes_of_eq (g := opTwinUp) rfl e ⟨?_, congrArg Prt.twin event.prt⟩
  exact (State.rd_congr (event.words PRT_TWIN_STAT (not_eventWord (by decide) (by decide))) _).trans (State.twinState_setTwinState _ (by decide))

/-! ### The link lost -/

/-- What a link that falls leaves. -/
structure TwinFallen (s u : State) : Prop where
  state : u.twinState = 0
  lanes : u.rd PRT_TWIN_STAT PRT_TWIN_STAT_LANE_LOCK = s.rd PRT_TWIN_STAT PRT_TWIN_STAT_LANE_LOCK
  twin : u.prt.twin = {}
  within : Within .prt (· ∈ [PRT_TWIN_STAT]) (· ∈ []) s u

theorem twinFallen_twinFall (h : s.twinState ≠ 0) : TwinFallen s s.twinFall := by
  have e : s.twinFall = ((s.setTwinState 0).setTwin {}).post 0x0104 [] := if_neg h
  have event : EventOnly ((s.setTwinState 0).setTwin {}) (((s.setTwinState 0).setTwin {}).post 0x0104 []) := .post ..
  have stat := event.words PRT_TWIN_STAT (not_eventWord (by decide) (by decide))
  have part : Within .prt (· ∈ [PRT_TWIN_STAT]) (· ∈ []) (s.setTwinState 0) ((s.setTwinState 0).setTwin {}) := .of_part rfl rfl rfl
  rw [e]
  exact ⟨(State.rd_congr stat _).trans (State.twinState_setTwinState s (by decide)),
    (State.rd_congr stat _).trans (s.rd_setTwinState 0 (by decide) (by decide)), congrArg Prt.twin event.prt,
    ((Within.wr s _ 0 (by simp)).trans part).trans (.of_eventOnly event)⟩

/-- The duplex unit after the link is lost in UP. -/
def State.duplexCleared (s : State) : State := s.setDpx { s.dpx with xfer := none, acks := [], rx := [], rxDone := 0, rxVoid := false }

theorem twinLost_up (h : s.twinUp = true) : s.twinLost = (((s.twinFall).copyCut 3).dropDuplex).duplexCleared := if_pos h

theorem twinLost_notUp (h : s.twinUp = false) : s.twinLost = s.twinFall := if_neg (by rw [h]; decide)

theorem opTwinDown_present (p : s.twinPresent = true) (lanes : Nat) : opTwinDown lanes s = (s.laneLock lanes).twinLost := if_neg (by simp [p])

theorem completes_twinDown {lanes : Nat} (p : s.twinPresent = true) (h : s.twinState = 1 ∨ s.twinState = 2) :
    Completes (.twinDown t lanes) s fun u => u.twinState = 0 ∧ u.rd PRT_TWIN_STAT PRT_TWIN_STAT_LANE_LOCK = lanes % 16 ∧ u.prt.twin = {}
      ∧ OnlyEvents [PRT_TWIN_STAT] [] { s with prt := u.prt } u := by
  obtain ⟨lock, state⟩ := laneLock_spec (s.advance t) lanes
  have state' : ((s.advance t).laneLock lanes).twinState = s.twinState := state
  have fallen := twinFallen_twinFall (s := (s.advance t).laneLock lanes) (by omega)
  have notUp : ((s.advance t).laneLock lanes).twinUp = false := by simp only [State.twinUp, state', Bool.and_eq_false_iff, beq_eq_false_iff_ne]; omega
  refine completes_of_eq (g := opTwinDown lanes) rfl ((opTwinDown_present (s := s.advance t) p lanes).trans (twinLost_notUp notUp))
    ⟨fallen.state, fallen.lanes.trans lock, fallen.twin, ?_⟩
  exact Within.after ((Within.wr (s.advance t) _ _ (by simp)).trans fallen.within) rfl rfl rfl

theorem dropDuplex_free (h : s.out.holding = false) : s.dropDuplex = s.wrB DPX_STAT DPX_STAT_DUPLEX false :=
  if_neg (by change ¬ s.out.holding = true; rw [h]; decide)

theorem copyCut_none (h : s.dpx.copy = none) (cause : Nat) : s.copyCut cause = s := by
  unfold State.copyCut
  rw [h]

theorem completes_twinDown_up {lanes : Nat} (p : s.twinPresent = true) (h : s.twinState = 3) (copy : s.dpx.copy = none)
    (free : s.out.holding = false) : Completes (.twinDown t lanes) s fun u =>
      u.twinState = 0 ∧ u.rd PRT_TWIN_STAT PRT_TWIN_STAT_LANE_LOCK = lanes % 16 ∧ u.prt.twin = {}
        ∧ u.rdB DPX_STAT DPX_STAT_DUPLEX = false ∧ u.dpx.xfer = none ∧ u.dpx.acks = [] ∧ u.dpx.rx = []
        ∧ OnlyEvents [PRT_TWIN_STAT, DPX_STAT] [] { s with prt := u.prt, dpx := u.dpx } u := by
  obtain ⟨lock, state⟩ := laneLock_spec (s.advance t) lanes
  have state' : ((s.advance t).laneLock lanes).twinState = s.twinState := state
  have fallen := twinFallen_twinFall (s := (s.advance t).laneLock lanes) (by omega)
  have up : ((s.advance t).laneLock lanes).twinUp = true := by
    have p' : ((s.advance t).laneLock lanes).twinPresent = true := p
    simp [State.twinUp, state', p', h]
  obtain ⟨state0, lanes0, twin0, within0⟩ := fallen
  have dpx0 : ((s.advance t).laneLock lanes).twinFall.dpx = s.dpx := (congrArg State.dpx within0.rest :)
  have out0 : ((s.advance t).laneLock lanes).twinFall.out = s.out := (congrArg State.out within0.rest :)
  have e : opTwinDown lanes (s.advance t) = ((((s.advance t).laneLock lanes).twinFall.wrB DPX_STAT DPX_STAT_DUPLEX false)).duplexCleared := by
    rw [opTwinDown_present (s := s.advance t) p lanes, twinLost_up up, copyCut_none (by rw [dpx0]; exact copy),
      dropDuplex_free (by rw [out0]; exact free)]
  refine completes_of_eq (g := opTwinDown lanes) rfl e ⟨?_, ?_, twin0, ?_, rfl, rfl, rfl, ?_⟩
  · exact (State.rd_wr_ne _ _ _ _ (by decide)).trans state0
  · exact (State.rd_wr_ne _ _ _ _ (by decide)).trans (lanes0.trans lock)
  · exact State.rdB_wrB_same _ _ _ _ (by decide) rfl
  · have fell : Within .prtDpx (· ∈ [PRT_TWIN_STAT, DPX_STAT]) (· ∈ []) (s.advance t) ((s.advance t).laneLock lanes).twinFall := by
      have w := (Within.wr (m := .prt) (W := (· ∈ [PRT_TWIN_STAT])) (C := (· ∈ [])) (s.advance t) PRT_TWIN_STAT_LANE_LOCK (lanes % 16)
        (by simp)).trans within0
      refine ⟨?_, fun a n => w.words a fun m => n (List.mem_cons.2 (.inl (List.mem_singleton.1 m))), w.counts⟩
      have r := w.rest
      have d : ((s.advance t).laneLock lanes).twinFall.dpx = (s.advance t).dpx := dpx0
      unfold Scope.prtDpx
      dsimp only
      rw [d]
      exact r
    exact Within.after (fell.trans ((Within.wrB _ DPX_STAT_DUPLEX false (by simp)).trans (.of_part rfl rfl rfl))) rfl rfl rfl

/-! ### Frames received -/

variable {f : CrasenRx}

theorem twinReceive_up (h : s.twinUp = true) : s.twinReceive f =
    if !f.crcOk then (none, if s.prt.twin.waiting then (s.twinErrors cntPRT_TWIN_BLOCK_ERR f.blockErr).twinErrors cntPRT_TWIN_CRC_ERR 1
      else ((s.twinErrors cntPRT_TWIN_BLOCK_ERR f.blockErr).twinErrors cntPRT_TWIN_CRC_ERR 1).twinWant)
    else if f.kind = 255 then (none, (s.twinErrors cntPRT_TWIN_BLOCK_ERR f.blockErr).twinReplay f.seq)
    else if f.kind = 254 then (none, (s.twinErrors cntPRT_TWIN_BLOCK_ERR f.blockErr).twinAcked f.ack)
    else
      let s := (s.twinErrors cntPRT_TWIN_BLOCK_ERR f.blockErr).twinAcked f.ack
      let x := s.prt.twin
      if f.seq % 2 ^ 32 = x.rxNext then
        let s := s.setTwin { x with rxNext := (x.rxNext + 1) % 2 ^ 32, waiting := false }
        let s := (s.bump cntPRT_TWIN_RX_FRAMES 1).send (.crasenAck ((x.rxNext + 1) % 2 ^ 32))
        (some (f.kind, f.payload), s)
      else if 0 < diff32 f.seq x.rxNext ∧ !x.waiting then (none, s.twinWant)
      else (none, s) := if_neg (by simp [h])

theorem opCrasenFrameReceive_none {m : State} (h : s.twinReceive f = (none, m)) : opCrasenFrameReceive f s = m := by
  unfold opCrasenFrameReceive
  rw [h]

/-- A reception report handed to the duplex unit. -/
def State.ackNoted (s : State) (p : List Byte) : State :=
  s.setDpx { s.dpx with acks := s.dpx.acks ++ [(leAt p 0 4, leAt p 4 4, leAt p 8 4, leAt p 12 4)] }

theorem opCrasenFrameReceive_ack {m : State} {p : List Byte} (h : s.twinReceive f = (some (2, p), m)) :
    opCrasenFrameReceive f s = m.ackNoted p := by
  unfold opCrasenFrameReceive
  rw [h]
  rfl

theorem completes_crasen_bad (up : s.twinUp = true) (bad : f.crcOk = false) (calm : s.prt.twin.waiting = false) :
    Completes (.crasenFrameReceive t f) s fun u =>
      u.wire = s.wire ++ [.crasenReplay s.prt.twin.rxNext] ∧ u.prt.twin = { s.prt.twin with waiting := true }
        ∧ u.count cntPRT_TWIN_CRC_ERR = (s.count cntPRT_TWIN_CRC_ERR + 1) % 2 ^ 64 ∧ u.dpx.twinErr = s.dpx.twinErr + f.blockErr + 1
        ∧ u = { s with now := u.now, wire := u.wire, cnt := u.cnt, prt := u.prt, dpx := u.dpx } := by
  have calm' : ¬ (s.advance t).prt.twin.waiting = true := by
    change ¬ s.prt.twin.waiting = true
    rw [calm]; decide
  have e := (twinReceive_up (f := f) (s := s.advance t) up).trans (if_pos (by rw [bad]; rfl))
  rw [if_neg calm'] at e
  refine completes_of_eq (g := opCrasenFrameReceive f) rfl (opCrasenFrameReceive_none e) ⟨rfl, rfl, ?_, rfl, rfl⟩
  exact (State.count_bump_same ((s.advance t).twinErrors cntPRT_TWIN_BLOCK_ERR f.blockErr) cntPRT_TWIN_CRC_ERR 1).trans
    (congrArg (fun x => (x + 1) % 2 ^ 64) (State.count_bump_ne (s.advance t) f.blockErr (by decide)))

theorem twinAcked_idle (h : s.prt.twin.queue = []) (ack : Nat) : s.twinAcked ack =
    s.setTwin { s.prt.twin with replay := s.prt.twin.replay.filter (fun x => decide (0 < diff32 x.1 ack)) } := by
  have len : (s.setTwin { s.prt.twin with replay := s.prt.twin.replay.filter (fun x => decide (0 < diff32 x.1 ack)) }).prt.twin.queue.length = 0 :=
    congrArg List.length h
  exact congrArg (State.twinPump · _) len

/-- A frame taken in its turn, with nothing waiting to leave. -/
def State.twinTaken (s : State) (f : CrasenRx) : State :=
  let s := s.twinErrors cntPRT_TWIN_BLOCK_ERR f.blockErr
  let s := s.setTwin { s.prt.twin with replay := s.prt.twin.replay.filter (fun x => decide (0 < diff32 x.1 f.ack)) }
  let s := s.setTwin { s.prt.twin with rxNext := (s.prt.twin.rxNext + 1) % 2 ^ 32, waiting := false }
  (s.bump cntPRT_TWIN_RX_FRAMES 1).send (.crasenAck s.prt.twin.rxNext)

theorem twinReceive_taken (up : s.twinUp = true) (ok : f.crcOk = true) (kind : f.kind = 2) (seq : f.seq % 2 ^ 32 = s.prt.twin.rxNext)
    (idle : s.prt.twin.queue = []) : s.twinReceive f = (some (2, f.payload), s.twinTaken f) := by
  have idle' : (s.twinErrors cntPRT_TWIN_BLOCK_ERR f.blockErr).prt.twin.queue = [] := idle
  rw [twinReceive_up up, if_neg (by rw [ok]; decide), if_neg (by rw [kind]; decide), if_neg (by rw [kind]; decide), twinAcked_idle idle', kind]
  exact if_pos seq

theorem completes_crasen_taken (up : s.twinUp = true) (ok : f.crcOk = true) (kind : f.kind = 2) (seq : f.seq % 2 ^ 32 = s.prt.twin.rxNext)
    (idle : s.prt.twin.queue = []) : Completes (.crasenFrameReceive t f) s fun u =>
      u.wire = s.wire ++ [.crasenAck ((s.prt.twin.rxNext + 1) % 2 ^ 32)] ∧ u.prt.twin.rxNext = (s.prt.twin.rxNext + 1) % 2 ^ 32
        ∧ u.prt.twin.waiting = false ∧ u.prt.twin.replay = s.prt.twin.replay.filter (fun x => decide (0 < diff32 x.1 f.ack))
        ∧ u.count cntPRT_TWIN_RX_FRAMES = (s.count cntPRT_TWIN_RX_FRAMES + 1) % 2 ^ 64
        ∧ u.dpx.acks = s.dpx.acks ++ [(leAt f.payload 0 4, leAt f.payload 4 4, leAt f.payload 8 4, leAt f.payload 12 4)]
        ∧ u = { s with now := u.now, wire := u.wire, cnt := u.cnt, prt := u.prt, dpx := u.dpx } := by
  have e := twinReceive_taken (s := s.advance t) up ok kind seq idle
  refine completes_of_eq (g := opCrasenFrameReceive f) rfl (opCrasenFrameReceive_ack e) ⟨rfl, rfl, rfl, rfl, ?_, rfl, rfl⟩
  exact (State.count_bump_same _ cntPRT_TWIN_RX_FRAMES 1).trans
    (congrArg (fun x => (x + 1) % 2 ^ 64) (State.count_bump_ne (s.advance t) f.blockErr (by decide)))

/-- Settles O7. -/
theorem twinLinkStates : Obligations.TwinLinkStates := by
  refine ⟨?enable, ?locks, ?partial_, ?aligned, ?notAligned, ?up, ?downExec, ?down, ?downUp, ?bad, ?taken, ?ackExec⟩
  case enable => exact fun t v s p en => completes_twinLinkEnable p en
  case locks =>
    intro t s p en down
    refine completes_of_eq (t := t) (g := opTwinBlockLock 15) rfl (opTwinBlockLock_locks (s := s.advance t) p en down)
      ⟨State.twinState_setTwinState _ (by decide), (State.rd_setTwinState _ 1 (by decide) (by decide)).trans (laneLock_spec _ 15).1, ?_⟩
    exact fun a h _ => (State.rdW_wr_ne _ _ _ h).trans (State.rdW_wr_ne _ _ _ h)
  case partial_ =>
    intro t lanes s p h down
    obtain ⟨lock, state⟩ := laneLock_spec (s.advance t) lanes
    exact completes_of_eq (t := t) (g := opTwinBlockLock lanes) rfl (opTwinBlockLock_partial (s := s.advance t) p h)
      ⟨state.trans down, lock.trans (Nat.mod_eq_of_lt (by omega))⟩
  case aligned => exact fun t map skew s p locked h => completes_twinAligned p locked h
  case notAligned =>
    exact fun t map skew s h => completes_of_eq (t := t) (g := opTwinAligned map skew) rfl (if_neg fun ⟨_, k, _⟩ => h k) rfl
  case up => exact fun t s p aligned => completes_twinUp p aligned
  case downExec => exact fun t lanes s p => exec_congr (f := opTwinDown lanes) rfl (opTwinDown_present (s := s.advance t) p lanes)
  case down => exact fun t lanes s p h => completes_twinDown p h
  case downUp => exact fun t lanes s p h copy free => completes_twinDown_up p h copy free
  case bad => exact fun t f s up bad calm => completes_crasen_bad up bad calm
  case taken => exact fun t f s up ok kind seq idle => completes_crasen_taken up ok kind seq idle
  case ackExec => exact fun t f s m h => exec_congr (f := opCrasenFrameReceive f) rfl (opCrasenFrameReceive_ack h)

end Sys2Proof.Machine
end

section
/-! Descriptor rings (R85 to R93): their registers, and one turn of the transmit service. -/

namespace Sys2Proof.Machine

/-! ### What a device's write changes -/

/-- Only memory, the tenants' logs and counters change. -/
abbrev MemOnly (s u : State) : Prop := u = { s with mem := u.mem, ten := u.ten, cnt := u.cnt }

theorem MemOnly.refl (s : State) : MemOnly s s := rfl

theorem MemOnly.trans {s u v : State} (h : MemOnly s u) (k : MemOnly u v) : MemOnly s v := by
  unfold MemOnly at h k ⊢
  rw [k, h]

theorem LogsOnly.memOnly {s u : State} (h : LogsOnly s u) : MemOnly s u := by
  unfold MemOnly
  rw [h]

theorem memOnly_setBytes (bs : List Byte) : ∀ (s : State) (a : Nat), MemOnly s (s.setBytes a bs) := by
  induction bs with
  | nil => exact fun s _ => .refl s
  | cons b bs ih => exact fun s a => MemOnly.trans (u := s.setByte a b) rfl (ih _ _)

theorem memOnly_devWrite (s : State) (a : Nat) (b : List Byte) : MemOnly s (s.devWrite a b) := by
  unfold State.devWrite State.store
  split
  · exact .refl s
  · exact (logsOnly_noteWrite s a b.length).memOnly.trans (memOnly_setBytes b _ a)

theorem MemOnly.regs {s u : State} (h : MemOnly s u) : u.regs = s.regs := (congrArg State.regs h :)

theorem MemOnly.prt {s u : State} (h : MemOnly s u) : u.prt = s.prt := (congrArg State.prt h :)

variable {s : State} {t r : Nat} {v : Word}

/-! ### A ring disabled -/

def rxCfgWord (v : Word) : Word := fieldsOf [PRT_RXR_CFG_BUF_SIZE, PRT_RXR_CFG_SIZE_LOG2, PRT_RXR_CFG_EN] v

def txCfgWord (v : Word) : Word := fieldsOf [PRT_TXR_CFG_LONG, PRT_TXR_CFG_SIZE_LOG2, PRT_TXR_CFG_EN] v

theorem fget_rxCfgWord {f : Fld} (h : f ∈ [PRT_RXR_CFG_BUF_SIZE, PRT_RXR_CFG_SIZE_LOG2, PRT_RXR_CFG_EN]) (v : Word) :
    fget f (rxCfgWord v) = fget f v := fget_fieldsOf (by decide) h v

theorem fget_txCfgWord {f : Fld} (h : f ∈ [PRT_TXR_CFG_LONG, PRT_TXR_CFG_SIZE_LOG2, PRT_TXR_CFG_EN]) (v : Word) :
    fget f (txCfgWord v) = fget f v := fget_fieldsOf (by decide) h v

/-- A receive ring's new configuration, with its indices back at 0. -/
def State.rxRingOff (s : State) (r : Nat) (v : Word) : State :=
  ((s.wrW (PRT_RXR_CFG r) (rxCfgWord v)).wr (PRT_RXR_HEAD r) PRT_RXR_HEAD_INDEX 0).wr (PRT_RXR_TAIL r) PRT_RXR_TAIL_INDEX 0

def State.txRingOff (s : State) (r : Nat) (v : Word) : State :=
  ((s.wrW (PRT_TXR_CFG r) (txCfgWord v)).wr (PRT_TXR_HEAD r) PRT_TXR_HEAD_INDEX 0).wr (PRT_TXR_TAIL r) PRT_TXR_TAIL_INDEX 0

theorem rxAbort_none (h : s.prt.rxLast = none) (r : Nat) : s.rxAbort r = s := by
  unfold State.rxAbort
  rw [h]

theorem opRxRingDisable_off (hr : r < 1024) (size : 4 ≤ fget PRT_RXR_CFG_SIZE_LOG2 v ∧ fget PRT_RXR_CFG_SIZE_LOG2 v ≤ 16)
    (buf : 1 ≤ fget PRT_RXR_CFG_BUF_SIZE v ∧ fget PRT_RXR_CFG_BUF_SIZE v ≤ 64) (off : fget PRT_RXR_CFG_EN v = 0)
    (idle : s.prt.rxLast = none) : opRxRingDisable r v s = s.rxRingOff r v := by
  have z := fget_rxCfgWord (f := PRT_RXR_CFG_SIZE_LOG2) (by decide) v
  have b := fget_rxCfgWord (f := PRT_RXR_CFG_BUF_SIZE) (by decide) v
  have en := (fget_rxCfgWord (f := PRT_RXR_CFG_EN) (by decide) v).trans off
  refine (if_neg (not_not_intro hr)).trans ((if_neg ?_).trans ?_)
  · change ¬ (fget PRT_RXR_CFG_SIZE_LOG2 (rxCfgWord v) < 4 ∨ 16 < fget PRT_RXR_CFG_SIZE_LOG2 (rxCfgWord v)
      ∨ fget PRT_RXR_CFG_BUF_SIZE (rxCfgWord v) < 1 ∨ 64 < fget PRT_RXR_CFG_BUF_SIZE (rxCfgWord v))
    rw [z, b]
    omega
  · dsimp only
    rw [rxAbort_none idle, ite_self]
    exact if_pos en

theorem opTxRingDisable_off (hr : r < 1024) (size : 4 ≤ fget PRT_TXR_CFG_SIZE_LOG2 v ∧ fget PRT_TXR_CFG_SIZE_LOG2 v ≤ 16)
    (off : fget PRT_TXR_CFG_EN v = 0) : opTxRingDisable r v s = s.txRingOff r v := by
  have z := fget_txCfgWord (f := PRT_TXR_CFG_SIZE_LOG2) (by decide) v
  have en := (fget_txCfgWord (f := PRT_TXR_CFG_EN) (by decide) v).trans off
  refine (if_neg (not_not_intro hr)).trans ((if_neg ?_).trans (if_pos en))
  change ¬ (fget PRT_TXR_CFG_SIZE_LOG2 (txCfgWord v) < 4 ∨ 16 < fget PRT_TXR_CFG_SIZE_LOG2 (txCfgWord v))
  rw [z]
  omega

theorem opTxRingDisable_small (hr : r < 1024) (size : fget PRT_TXR_CFG_SIZE_LOG2 v < 4) : opTxRingDisable r v s = s.prtRej 0 := by
  have z := fget_txCfgWord (f := PRT_TXR_CFG_SIZE_LOG2) (by decide) v
  refine (if_neg (not_not_intro hr)).trans (if_pos (.inl ?_))
  change fget PRT_TXR_CFG_SIZE_LOG2 (txCfgWord v) < 4
  rwa [z]

theorem rxRingOff_spec (s : State) (r : Nat) (v : Word) : (s.rxRingOff r v).rdW (PRT_RXR_CFG r) = rxCfgWord v ∧
    (s.rxRingOff r v).rd (PRT_RXR_HEAD r) PRT_RXR_HEAD_INDEX = 0 ∧ (s.rxRingOff r v).rd (PRT_RXR_TAIL r) PRT_RXR_TAIL_INDEX = 0 ∧
    OnlyWords [PRT_RXR_CFG r, PRT_RXR_HEAD r, PRT_RXR_TAIL r] s (s.rxRingOff r v) := by
  have apart : PRT_RXR_CFG r ≠ PRT_RXR_HEAD r ∧ PRT_RXR_CFG r ≠ PRT_RXR_TAIL r ∧ PRT_RXR_HEAD r ≠ PRT_RXR_TAIL r := by
    unfold PRT_RXR_CFG PRT_RXR_HEAD PRT_RXR_TAIL; omega
  obtain ⟨ch, ct, ht⟩ := apart
  unfold State.rxRingOff
  refine ⟨?_, ?_, ?_, ?_⟩
  · exact (State.rdW_wr_ne _ _ _ ct).trans ((State.rdW_wr_ne _ _ _ ch).trans (s.rdW_wrW_same _ _))
  · exact (State.rd_wr_ne _ _ _ _ ht).trans (State.rd_wr_same _ _ _ _ (by decide))
  · exact State.rd_wr_same _ _ _ _ (by decide)
  · exact ((OnlyWords.wrW s _ (by simp)).trans (.wr _ _ _ (by simp))).trans (.wr _ _ _ (by simp))

theorem txRingOff_spec (s : State) (r : Nat) (v : Word) : (s.txRingOff r v).rdW (PRT_TXR_CFG r) = txCfgWord v ∧
    (s.txRingOff r v).rd (PRT_TXR_HEAD r) PRT_TXR_HEAD_INDEX = 0 ∧ (s.txRingOff r v).rd (PRT_TXR_TAIL r) PRT_TXR_TAIL_INDEX = 0 ∧
    OnlyWords [PRT_TXR_CFG r, PRT_TXR_HEAD r, PRT_TXR_TAIL r] s (s.txRingOff r v) := by
  have apart : PRT_TXR_CFG r ≠ PRT_TXR_HEAD r ∧ PRT_TXR_CFG r ≠ PRT_TXR_TAIL r ∧ PRT_TXR_HEAD r ≠ PRT_TXR_TAIL r := by
    unfold PRT_TXR_CFG PRT_TXR_HEAD PRT_TXR_TAIL; omega
  obtain ⟨ch, ct, ht⟩ := apart
  unfold State.txRingOff
  refine ⟨?_, ?_, ?_, ?_⟩
  · exact (State.rdW_wr_ne _ _ _ ct).trans ((State.rdW_wr_ne _ _ _ ch).trans (s.rdW_wrW_same _ _))
  · exact (State.rd_wr_ne _ _ _ _ ht).trans (State.rd_wr_same _ _ _ _ (by decide))
  · exact State.rd_wr_same _ _ _ _ (by decide)
  · exact ((OnlyWords.wrW s _ (by simp)).trans (.wr _ _ _ (by simp))).trans (.wr _ _ _ (by simp))

/-! ### One turn of the transmit service -/

variable {ds : List Nat} {b : List Byte}

/-- What a ring has to send is read off words and memory. -/
theorem txGather_congr {u : State} (h : u.mem = s.mem) (base size : Nat) :
    ∀ n i, State.txGather u base size n i = State.txGather s base size n i
  | 0, _ => rfl
  | n + 1, i => by rw [State.txGather, State.txGather, State.byte_congr h, txGather_congr h base size n]

theorem txNext_congr {u : State} (h : u.mem = s.mem) (k : u.regs = s.regs) (r : Nat) : u.txNext r = s.txNext r := by
  unfold State.txNext ringBase State.rd
  simp only [State.rdW_congr k, txGather_congr h]

/-- A descriptor list is checked against words and memory. -/
theorem txBytes_prt (s : State) (n : Nat) (x : Prt) (ds : List Nat) : State.txBytes { s with now := n, prt := x } ds = s.txBytes ds := by
  have le (a k : Nat) : State.le { s with now := n, prt := x } a k = s.le a k := State.le_congr (s := s) (u := { s with now := n, prt := x }) rfl a k
  have bytes (a k : Nat) : State.bytes { s with now := n, prt := x } a k = s.bytes a k :=
    State.bytes_congr (s := s) (u := { s with now := n, prt := x }) rfl k a
  have fault (a k : Nat) : State.memFault { s with now := n, prt := x } a k = s.memFault a k := rfl
  unfold State.txBytes
  simp only [le, bytes, fault]

theorem txCheck_prt (s : State) (n : Nat) (x : Prt) (r : Nat) (ds : List Nat) :
    State.txCheck { s with now := n, prt := x } r ds = s.txCheck r ds := by
  have le (a k : Nat) : State.le { s with now := n, prt := x } a k = s.le a k := State.le_congr (s := s) (u := { s with now := n, prt := x }) rfl a k
  have present (p : Nat) : State.portPresent { s with now := n, prt := x } p = s.portPresent p := rfl
  have rd (a : Nat) (f : Fld) : State.rd { s with now := n, prt := x } a f = s.rd a f := rfl
  have rdB (a : Nat) (f : Fld) : State.rdB { s with now := n, prt := x } a f = s.rdB a f := rfl
  have rdW (a : Nat) : State.rdW { s with now := n, prt := x } a = s.rdW a := rfl
  unfold State.txCheck
  simp only [le, present, rd, rdB, rdW, txBytes_prt]

/-- The service takes the only ring that has anything to send. -/
theorem opTxRingService_one (p : s.prt.txPaused = []) (h30 : s.ingressFull 30 = false) (h31 : s.ingressFull 31 = false)
    (rings : s.txRings = [r]) (next : s.txNext r = some ds) : opTxRingService s =
      State.serveRing { s with prt := { s.prt with txPaused := [], txRing := r } } r ds := by
  have waits : [30, 31].filter (fun p => s.prt.txPaused.contains p || s.ingressFull p) = [] := by simp [p, h30, h31]
  have order : (([r].filter (fun x => s.prt.txRing < x) ++ [r].filter (fun x => x ≤ s.prt.txRing)).findSome?
      fun x => if ([] : List Nat).contains (ringPort x) then none else (s.txNext x).map (fun ds => (x, ds))) = some (r, ds) := by
    by_cases h : s.prt.txRing < r
    · simp [h, next]
    · simp [h, next, Nat.le_of_not_lt h]
  have rings' : State.txRings { s with prt := { s.prt with txPaused := [] } } = [r] := rings
  unfold opTxRingService
  dsimp only
  rw [waits, rings']
  simp only [txNext_congr (s := s) (u := { s with prt := { s.prt with txPaused := [] } }) rfl rfl, order]

/-- The frame that a descriptor list without special handling sends. -/
def State.txFrame (s : State) (ds : List Nat) (b : List Byte) : RxStage :=
  { bytes := b, arrival := 0, cls := some (s.le (ds.headD 0 + 11) 1),
    fixed := if s.le (ds.headD 0 + 15) 1 = 0xFF then none else some [s.fabPort (s.le (ds.headD 0 + 15) 1)], whole := true }

/-- The completion written to the last descriptor. -/
def State.txDone (s : State) (last status : Nat) : State :=
  let s := s.devWrite (last + 20) (leBytes 2 status)
  let s := s.devWrite (last + 10) (leBytes 1 (nsetBit (s.le (last + 10) 1) 7 true))
  s.devWrite (last + 24) (leBytes 8 0)

theorem memOnly_txDone (s : State) (last status : Nat) : MemOnly s (s.txDone last status) :=
  ((memOnly_devWrite ..).trans (memOnly_devWrite ..)).trans (memOnly_devWrite ..)

theorem serveRing_plain (check : s.txCheck r ds = .ok [b]) (port : ringPort r = 31) (plain : (s.le (ds.headD 0 + 10) 1).testBit 5 = false) :
    s.serveRing r ds = ((s.stageFrame 31 (s.txFrame ds b)).txDone (ds.getLastD 0) 0).wr (PRT_TXR_HEAD r) PRT_TXR_HEAD_INDEX
      ((((s.stageFrame 31 (s.txFrame ds b)).txDone (ds.getLastD 0) 0).rd (PRT_TXR_HEAD r) PRT_TXR_HEAD_INDEX + ds.length)
        % 2 ^ ((s.stageFrame 31 (s.txFrame ds b)).txDone (ds.getLastD 0) 0).rd (PRT_TXR_CFG r) PRT_TXR_CFG_SIZE_LOG2) := by
  have one : ([b].zip (List.range [b].length)) = [(b, 0)] := rfl
  unfold State.serveRing
  rw [check]
  dsimp only
  rw [one, List.foldl_cons, List.foldl_nil, port, plain]
  rfl

theorem txCheck_eq_ok (h : (s.txCheck r ds).toOption = some [b]) : s.txCheck r ds = .ok [b] := by
  cases c : s.txCheck r ds with
  | error e => rw [c] at h; exact absurd h (by simp [Except.toOption])
  | ok l => rw [c] at h; exact congrArg Except.ok (Option.some.inj h)

/-- What the turn leaves of the ring, of the ingress and of control space. -/
theorem serveRing_plain_spec (check : s.txCheck r ds = .ok [b]) (port : ringPort r = 31)
    (plain : (s.le (ds.headD 0 + 10) 1).testBit 5 = false) (size : s.rd (PRT_TXR_CFG r) PRT_TXR_CFG_SIZE_LOG2 ≤ 16) :
    (s.serveRing r ds).prt = (s.stageFrame 31 (s.txFrame ds b)).prt ∧
    (s.serveRing r ds).rd (PRT_TXR_HEAD r) PRT_TXR_HEAD_INDEX
      = (s.rd (PRT_TXR_HEAD r) PRT_TXR_HEAD_INDEX + ds.length) % 2 ^ s.rd (PRT_TXR_CFG r) PRT_TXR_CFG_SIZE_LOG2 ∧
    ∀ a, a ≠ PRT_TXR_HEAD r → (s.serveRing r ds).rdW a = s.rdW a := by
  have written := memOnly_txDone (s.stageFrame 31 (s.txFrame ds b)) (ds.getLastD 0) 0
  have words (a : Nat) : ((s.stageFrame 31 (s.txFrame ds b)).txDone (ds.getLastD 0) 0).rdW a = s.rdW a :=
    State.rdW_congr (written.regs.trans rfl) a
  rw [serveRing_plain check port plain, State.rd_congr (words _), State.rd_congr (words _)]
  refine ⟨written.prt, (State.rd_wr_same _ _ _ _ (by decide)).trans (Nat.mod_eq_of_lt ?_), fun a h => (State.rdW_wr_ne _ _ _ h).trans (words a)⟩
  exact Nat.lt_of_lt_of_le (Nat.mod_lt _ (Nat.two_pow_pos _)) (Nat.pow_le_pow_right (by decide) size)

theorem State.stagedAt_stageFrame (s : State) (n : Nat) (x : RxStage) : (s.stageFrame n x).stagedAt n = s.stagedAt n ++ [x] :=
  cget_cset_same ..

/-- Settles O8. -/
theorem ringRegisters : Obligations.RingRegisters := by
  refine ⟨?rxTail, ?txTail, ?rxOff, ?txOff, ?small, ?resume, ?service, ?served⟩
  case rxTail =>
    refine fun t r x s hr hx => completes_of_eq (t := t) (g := opRxTailWrite r x) rfl (if_pos hr) ⟨?_, rfl, ?_⟩
    · exact ((s.advance t).rd_wr_same _ _ _ (by decide)).trans (Nat.mod_eq_of_lt hx)
    · exact (OnlyWords.wr (s.advance t) PRT_RXR_TAIL_INDEX x (List.mem_singleton.2 rfl)).2
  case txTail =>
    refine fun t r x s hr hx => completes_of_eq (t := t) (g := opTxTailWrite r x) rfl (if_pos hr) ⟨?_, rfl, ?_⟩
    · exact ((s.advance t).rd_wr_same _ _ _ (by decide)).trans (Nat.mod_eq_of_lt hx)
    · exact (OnlyWords.wr (s.advance t) PRT_TXR_TAIL_INDEX x (List.mem_singleton.2 rfl)).2
  case rxOff =>
    intro t r v s hr lo hi blo bhi off idle
    obtain ⟨word, head, tail, only⟩ := rxRingOff_spec (s.advance t) r v
    refine completes_of_eq (t := t) (g := opRxRingDisable r v) rfl (opRxRingDisable_off (s := s.advance t) hr ⟨lo, hi⟩ ⟨blo, bhi⟩ off idle)
      ⟨?_, (congrArg (fget _) word).trans (fget_rxCfgWord (by decide) v), head, tail, ?_⟩
    · exact congrArg (· != 0) ((congrArg (fget _) word).trans ((fget_rxCfgWord (f := PRT_RXR_CFG_EN) (by decide) v).trans off))
    · exact OnlyWords.after (g := fun _ => (s.advance t).rxRingOff r v) only
  case txOff =>
    intro t r v s hr lo hi off
    obtain ⟨word, head, tail, only⟩ := txRingOff_spec (s.advance t) r v
    refine completes_of_eq (t := t) (g := opTxRingDisable r v) rfl (opTxRingDisable_off hr ⟨lo, hi⟩ off) ⟨?_, head, tail, ?_⟩
    · exact congrArg (· != 0) ((congrArg (fget _) word).trans ((fget_txCfgWord (f := PRT_TXR_CFG_EN) (by decide) v).trans off))
    · exact OnlyWords.after (g := fun _ => (s.advance t).txRingOff r v) only
  case small => exact fun t r v s hr h => completes_of_prtRej (t := t) (g := opTxRingDisable r v) rfl (opTxRingDisable_small hr h)
  case resume =>
    exact fun t s => completes_of_eq (t := t) (g := opTxServiceResume) rfl rfl ⟨fun p => List.mem_filter, rfl⟩
  case service =>
    exact fun t r ds s p h30 h31 rings next => exec_congr (f := opTxRingService) rfl (opTxRingService_one (s := s.advance t) p h30 h31 rings
      ((txNext_congr (s := s) (u := s.advance t) rfl rfl r).trans next))
  case served =>
    intro t r ds b s p h30 h31 rings next check port size plain
    have e := opTxRingService_one (s := s.advance t) p h30 h31 rings ((txNext_congr (s := s) (u := s.advance t) rfl rfl r).trans next)
    obtain ⟨prt, head, words⟩ := serveRing_plain_spec (s := { s.advance t with prt := { s.prt with txPaused := [], txRing := r } })
      ((txCheck_prt s _ _ r ds).trans (txCheck_eq_ok check)) port plain size
    refine completes_of_eq (t := t) (g := opTxRingService) rfl e ⟨?_, head, congrArg Prt.txRing prt, words⟩
    exact (congrArg (fun x : Prt => cget (fun _ => []) x.staged 31) prt).trans (State.stagedAt_stageFrame _ 31 _)

end Sys2Proof.Machine
end

section
/-! The forwarding database (R109, R127) and the calendar (R99 to R106). -/

namespace Sys2Proof.Machine

variable {s : State} {t : Nat}

/-! ### Forwarding commands -/

/-- What an accepted command leaves. -/
theorem completes_of_fdbStart {i : Instr} {g : State → State} {o : FdbOp} (hi : exec i s = .next (s.after t g))
    (hg : g (s.advance t) = (s.advance t).fdbStart o) (free : s.rdB FAB_FDB_CMD FAB_FDB_CMD_BUSY = false) : Completes i s fun u =>
      u.rdB FAB_FDB_CMD FAB_FDB_CMD_BUSY = true ∧ u.fab = { s.fab with fdbOp := some o } ∧ OnlyWords [FAB_FDB_CMD] { s with fab := u.fab } u := by
  have here : FAB_FDB_CMD ∈ [FAB_FDB_CMD] := List.mem_singleton.2 rfl
  let v : State := (s.advance t).wrB FAB_FDB_CMD FAB_FDB_CMD_BUSY true
  let w : State := if o.op = 1 then v.wr FAB_FDB_CMD FAB_FDB_CMD_INDEX o.index else v
  let x : State := if o.op = 4 then w.wr FAB_FDB_CMD FAB_FDB_CMD_PORT o.port else w
  have e : (s.advance t).fdbStart o = { x with fab := { x.fab with fdbOp := some o } } :=
    if_neg (by change ¬ s.rdB FAB_FDB_CMD FAB_FDB_CMD_BUSY = true; rw [free]; decide)
  have vBusy : v.rdB FAB_FDB_CMD FAB_FDB_CMD_BUSY = true := State.rdB_wrB_same _ _ _ _ (by decide) rfl
  have wBusy : w.rdB FAB_FDB_CMD FAB_FDB_CMD_BUSY = true := by
    unfold w
    split
    · exact (State.rdB_wr_apart _ _ _ _ _ (by decide) (by decide) (by decide)).trans vBusy
    · exact vBusy
  have xBusy : x.rdB FAB_FDB_CMD FAB_FDB_CMD_BUSY = true := by
    unfold x
    split
    · exact (State.rdB_wr_apart _ _ _ _ _ (by decide) (by decide) (by decide)).trans wBusy
    · exact wBusy
  have only : OnlyWords [FAB_FDB_CMD] (s.advance t) x :=
    (OnlyWords.wrB _ _ _ here).trans (.trans (.ite (.wr _ _ _ here) (.refl _)) (.ite (.wr _ _ _ here) (.refl _)))
  have fab : x.fab = s.fab := (congrArg State.fab only.1 :)
  refine completes_of_eq hi (hg.trans e) ⟨xBusy, ?_, ?_, only.2⟩
  · exact congrArg (fun y : Fab => { y with fdbOp := some o }) fab
  · exact congrArg (fun y : State => { y with pending := s.pending, now := max s.now t, fab := { x.fab with fdbOp := some o } }) only.1

theorem fdbRun_flush {o : FdbOp} (h : o.op = 4) : s.fdbRun o =
    (0, o.index, { s with fab := { s.fab with fdb := s.fab.fdb.filter (fun c => !learntOn o.port c.2) } }) := by
  unfold State.fdbRun
  rw [h]
  rfl

/-- The end of a command that left `m` with result `r` at the entry `i`. -/
def State.fdbEnd (m : State) (r : Nat) : State :=
  (({ m with fab := { m.fab with fdbOp := none } }).wrB FAB_FDB_CMD FAB_FDB_CMD_BUSY false).wr FAB_FDB_CMD FAB_FDB_CMD_RESULT r

theorem opFdbCommandComplete_of_op {o : FdbOp} (h : s.fab.fdbOp = some o) : opFdbCommandComplete s =
    if (o.op = 2 ∨ o.op = 5) ∧ (s.fdbRun o).1 = 0 then ((s.fdbRun o).2.2.fdbEnd (s.fdbRun o).1).wr FAB_FDB_CMD FAB_FDB_CMD_INDEX (s.fdbRun o).2.1
    else (s.fdbRun o).2.2.fdbEnd (s.fdbRun o).1 := by
  unfold opFdbCommandComplete
  rw [h]
  rfl

theorem fdbEnd_busy (m : State) (r : Nat) : (m.fdbEnd r).rdB FAB_FDB_CMD FAB_FDB_CMD_BUSY = false :=
  (State.rdB_wr_apart _ _ _ _ _ (by decide) (by decide) (by decide)).trans (State.rdB_wrB_same _ _ _ _ (by decide) rfl)

theorem completes_fdbCommandComplete {o : FdbOp} (h : s.fab.fdbOp = some o) : Completes (.fdbCommandComplete t) s fun u =>
    u.rdB FAB_FDB_CMD FAB_FDB_CMD_BUSY = false ∧ u.fab.fdbOp = none ∧
      (o.op = 4 → u.rd FAB_FDB_CMD FAB_FDB_CMD_RESULT = 0 ∧ u.fab.fdb = s.fab.fdb.filter (fun c => !learntOn o.port c.2)) := by
  refine completes_of_eq (g := opFdbCommandComplete) rfl (opFdbCommandComplete_of_op (s := s.advance t) h) ?_
  by_cases index : (o.op = 2 ∨ o.op = 5) ∧ ((s.advance t).fdbRun o).1 = 0
  · rw [if_pos index]
    exact ⟨(State.rdB_wr_apart _ _ _ _ _ (by decide) (by decide) (by decide)).trans (fdbEnd_busy _ _), rfl, fun flush => by omega⟩
  · rw [if_neg index]
    refine ⟨fdbEnd_busy _ _, rfl, fun flush => ?_⟩
    rw [fdbRun_flush flush]
    exact ⟨State.rd_wr_same _ _ _ _ (by decide), rfl⟩

/-! ### Ageing of learnt entries (R109) -/

/-- An entry a second older. -/
def FdbEntry.older (e : FdbEntry) : FdbEntry := if e.valid && !e.static then { e with age := satNat 65535 (e.age + 1) } else e

theorem FdbEntry.older_static {e : FdbEntry} (h : e.static = true) : e.older = e := if_neg (by rw [h]; simp)

theorem FdbEntry.older_learnt {e : FdbEntry} (h : e.valid = true) (k : e.static = false) :
    e.older = { e with age := satNat 65535 (e.age + 1) } := if_pos (by rw [h, k]; rfl)

/-- A learnt entry at the limit is freed. -/
def FdbEntry.expired (lim : Nat) (e : FdbEntry) : Bool := e.valid && !e.static && lim != 0 && decide (lim ≤ e.age)

theorem mem_aged {k : Nat} {e : FdbEntry} : (k, e) ∈ (opFdbAgeing s).fab.fdb ↔
    (∃ d, (k, d) ∈ s.fab.fdb ∧ d.older = e) ∧ e.expired (s.rd FAB_FDB_AGE FAB_FDB_AGE_SECONDS) = false := by
  have filtered : (k, e) ∈ (opFdbAgeing s).fab.fdb ↔ (k, e) ∈ s.fab.fdb.map (fun c => (c.1, c.2.older))
      ∧ (!e.expired (s.rd FAB_FDB_AGE FAB_FDB_AGE_SECONDS)) = true := List.mem_filter
  rw [filtered, List.mem_map, Bool.not_eq_true']
  refine and_congr_left' ⟨?_, ?_⟩
  · rintro ⟨⟨k', d⟩, hd, he⟩
    obtain ⟨rfl, rfl⟩ := Prod.mk.inj he
    exact ⟨d, hd, rfl⟩
  · rintro ⟨d, hd, rfl⟩
    exact ⟨(k, d), hd, rfl⟩

theorem completes_fdbAgeing : Completes (.fdbAgeing t) s fun u =>
    (∀ k e, (k, e) ∈ s.fab.fdb → e.valid = true → e.static = true → (k, e) ∈ u.fab.fdb) ∧
    (∀ k e, (k, e) ∈ u.fab.fdb → e.valid = true → e.static = false → s.rd FAB_FDB_AGE FAB_FDB_AGE_SECONDS ≠ 0 →
      e.age < s.rd FAB_FDB_AGE FAB_FDB_AGE_SECONDS) ∧
    (∀ k e, (k, e) ∈ s.fab.fdb → e.valid = true → e.static = false → e.age + 1 < s.rd FAB_FDB_AGE FAB_FDB_AGE_SECONDS →
      (k, { e with age := e.age + 1 }) ∈ u.fab.fdb) ∧
    u = { s with now := u.now, fab := { s.fab with fdb := u.fab.fdb } } := by
  refine completes_of_eq (t := t) (g := opFdbAgeing) rfl rfl ⟨?static, ?young, ?older, rfl⟩
  case static =>
    intro k e he _ hs
    exact mem_aged.2 ⟨⟨e, he, FdbEntry.older_static hs⟩, by simp [FdbEntry.expired, hs]⟩
  case young =>
    intro k e he hv hs lim
    have live := (mem_aged.1 he).2
    by_contra old
    have due : e.expired (s.rd FAB_FDB_AGE FAB_FDB_AGE_SECONDS) = true := by
      simp only [FdbEntry.expired, hv, hs, bne_iff_ne.2 lim, decide_eq_true (Nat.le_of_not_lt old), Bool.not_false, Bool.and_self]
    exact absurd (live.symm.trans due) (by decide)
  case older =>
    intro k e he hv hs lt
    have max16 : s.rd FAB_FDB_AGE FAB_FDB_AGE_SECONDS < 65536 := s.rd_lt _ FAB_FDB_AGE_SECONDS
    refine mem_aged.2 ⟨⟨e, he, ?_⟩, ?_⟩
    · rw [FdbEntry.older_learnt hv hs, satNat_eq_min, Nat.min_eq_right (by omega)]
    · have young : decide ((s.advance t).rd FAB_FDB_AGE FAB_FDB_AGE_SECONDS ≤ e.age + 1) = false := decide_eq_false (Nat.not_le.2 lt)
      simp only [FdbEntry.expired, young, Bool.and_false]

/-- Settles O9. -/
theorem forwardingDatabase : Obligations.ForwardingDatabase := by
  have started {i : Instr} {s : State} {t : Nat} {g : State → State} {o : FdbOp} (hi : exec i s = .next (s.after t g))
      (hg : g (s.advance t) = (s.advance t).fdbStart o) (free : s.rdB FAB_FDB_CMD FAB_FDB_CMD_BUSY = false) : Completes i s fun u =>
        u.rdB FAB_FDB_CMD FAB_FDB_CMD_BUSY = true ∧ u.fab.fdbOp = some o ∧ OnlyWords [FAB_FDB_CMD] { s with fab := u.fab } u := by
    obtain ⟨u, hu, busy, fab, only⟩ := completes_of_fdbStart hi hg free
    exact ⟨u, hu, busy, congrArg Fab.fdbOp fab, only⟩
  refine ⟨?read, ?write, ?delete, ?flush, ?search, ?busy, ?complete, ?ageing⟩
  case read =>
    intro t k s free _
    obtain ⟨u, hu, busy, fab, only⟩ := completes_of_fdbStart (i := .fdbRead t k) (t := t) (g := opFdbRead k) rfl rfl free
    exact ⟨u, hu, busy, congrArg Fab.fdbOp fab, (congrArg Fab.fdb fab :), only⟩
  case write => exact fun t s free => started (t := t) (g := opFdbWrite) rfl rfl free
  case delete => exact fun t s free => started (t := t) (g := opFdbDelete) rfl rfl free
  case flush => exact fun t p s free _ => started (t := t) (g := opFdbFlush p) rfl rfl free
  case search => exact fun t s free => started (t := t) (g := opFdbSearch) rfl rfl free
  case busy => exact fun t k s busy => completes_of_eq (t := t) (g := opFdbRead k) rfl (if_pos busy) rfl
  case complete => exact fun t o s h => completes_fdbCommandComplete h
  case ageing => exact fun t s => completes_fdbAgeing

/-! ### The calendar's day and its self-test -/

theorem calendarDay_days (en : s.rdB FAB_CTRL FAB_CTRL_EN = true) (bad : List (Nat × Nat × Nat)) :
    (calendarDay bad s).fab.days = (s.fab.days + 1) % 2 ^ 64 := by
  unfold calendarDay
  rw [if_neg (by rw [en]; decide)]
  dsimp only
  split <;> rfl

theorem opCalendarDay_days (en : s.rdB FAB_CTRL FAB_CTRL_EN = true) (bad : List (Nat × Nat × Nat)) (loopBad : Nat) :
    (opCalendarDay bad loopBad s).fab.days = (s.fab.days + 1) % 2 ^ 64 := by
  unfold opCalendarDay
  dsimp only
  split
  · exact calendarDay_days en bad
  · exact calendarDay_days en bad

theorem opCalendarDay_off (off : s.rdB FAB_CTRL FAB_CTRL_EN = false) (bad : List (Nat × Nat × Nat)) (loopBad : Nat) :
    opCalendarDay bad loopBad s = s := by
  have still : calendarDay bad s = s := if_pos (by rw [off]; rfl)
  unfold opCalendarDay
  rw [off, still]
  rfl

/-- The self-test's verdict in the status words. -/
def State.selfTested (s : State) : State := ({ s with fab := { s.fab with selfTest := false } }).wrB FAB_CAL_STAT FAB_CAL_STAT_DONE true

theorem opCalendarSelfTest_pass (off : s.rdB FAB_CTRL FAB_CTRL_EN = false) :
    opCalendarSelfTest none s = (s.selfTested.wrB FAB_CAL_STAT FAB_CAL_STAT_FAIL false).wrB FAB_STAT FAB_STAT_CAL_OK true :=
  if_neg (by rw [off]; decide)

/-- The status words after a failure at port `p`. -/
def State.selfTestFailed (s : State) (p : Nat) : State :=
  ((s.selfTested.wrB FAB_CAL_STAT FAB_CAL_STAT_FAIL true).wr FAB_CAL_STAT FAB_CAL_STAT_FAIL_PORT p).wrB FAB_STAT FAB_STAT_CAL_OK false

theorem opCalendarSelfTest_fail (off : s.rdB FAB_CTRL FAB_CTRL_EN = false) (p : Nat) :
    opCalendarSelfTest (some p) s = (s.selfTestFailed p).post 0x0204 (p1 p) := if_neg (by rw [off]; decide)

theorem completes_selfTest_pass (off : s.rdB FAB_CTRL FAB_CTRL_EN = false) : Completes (.calendarSelfTest t none) s fun u =>
    u.rdB FAB_CAL_STAT FAB_CAL_STAT_DONE = true ∧ u.rdB FAB_CAL_STAT FAB_CAL_STAT_FAIL = false ∧ u.rdB FAB_STAT FAB_STAT_CAL_OK = true
      ∧ u.fab.selfTest = false ∧ OnlyWords [FAB_CAL_STAT, FAB_STAT] { s with fab := u.fab } u := by
  have done : (s.advance t).selfTested.rdB FAB_CAL_STAT FAB_CAL_STAT_DONE = true := State.rdB_wrB_same _ _ _ _ (by decide) rfl
  refine completes_of_eq (g := opCalendarSelfTest none) rfl (opCalendarSelfTest_pass (s := s.advance t) off) ⟨?_, ?_, ?_, rfl, rfl, ?_⟩
  · exact (State.rdB_wr_ne _ _ _ _ (by decide)).trans ((State.rdB_wr_apart _ _ _ _ _ (by decide) (by decide) (by decide)).trans done)
  · exact (State.rdB_wr_ne _ _ _ _ (by decide)).trans (State.rdB_wrB_same _ _ _ _ (by decide) rfl)
  · exact State.rdB_wrB_same _ _ _ _ (by decide) rfl
  · intro a h
    obtain ⟨h1, h2⟩ := List.forall_mem_cons.1 (fun b hb e => h (e ▸ hb) : ∀ b ∈ [FAB_CAL_STAT, FAB_STAT], ¬ a = b)
    exact (State.rdW_wrB_ne _ _ _ (h2 _ (List.mem_singleton.2 rfl))).trans ((State.rdW_wrB_ne _ _ _ h1).trans (State.rdW_wrB_ne _ _ _ h1))

theorem completes_selfTest_fail {p : Nat} (off : s.rdB FAB_CTRL FAB_CTRL_EN = false) (hp : p < 32) :
    Completes (.calendarSelfTest t (some p)) s fun u =>
      u.rdB FAB_CAL_STAT FAB_CAL_STAT_FAIL = true ∧ u.rd FAB_CAL_STAT FAB_CAL_STAT_FAIL_PORT = p ∧ u.rdB FAB_STAT FAB_STAT_CAL_OK = false
        ∧ u.fab.selfTest = false ∧ OnlyEvents [FAB_CAL_STAT, FAB_STAT] [] { s with fab := u.fab } u := by
  have event : EventOnly ((s.advance t).selfTestFailed p) (((s.advance t).selfTestFailed p).post 0x0204 (p1 p)) := .post ..
  have cal := event.words FAB_CAL_STAT (not_eventWord (by decide) (by decide))
  have stat := event.words FAB_STAT (not_eventWord (by decide) (by decide))
  refine completes_of_eq (g := opCalendarSelfTest (some p)) rfl (opCalendarSelfTest_fail (s := s.advance t) off p)
    ⟨(State.rdB_congr cal _).trans ?_, (State.rd_congr cal _).trans ?_, (State.rdB_congr stat _).trans ?_, congrArg Fab.selfTest event.fab, ?_⟩
  · exact (State.rdB_wr_ne _ _ _ _ (by decide)).trans ((State.rdB_wr_apart _ _ _ _ _ (by decide) (by decide) (by decide)).trans
      (State.rdB_wrB_same _ _ _ _ (by decide) rfl))
  · exact (State.rd_wr_ne _ _ _ _ (by decide)).trans ((State.rd_wr_same _ _ _ _ (by decide)).trans (Nat.mod_eq_of_lt hp))
  · exact State.rdB_wrB_same _ _ _ _ (by decide) rfl
  · have begun : Within .fab (· ∈ [FAB_CAL_STAT, FAB_STAT]) (· ∈ []) (s.advance t)
        { s.advance t with fab := { s.fab with selfTest := false } } := .of_part rfl rfl rfl
    have shown : Within .fab (· ∈ [FAB_CAL_STAT, FAB_STAT]) (· ∈ []) (s.advance t) ((s.advance t).selfTestFailed p) :=
      begun.trans (.trans (.wrB _ _ _ (by simp)) (.trans (.wrB _ _ _ (by simp)) (.trans (.wr _ _ _ (by simp)) (.wrB _ _ _ (by simp)))))
    exact Within.after (shown.trans (.of_eventOnly event)) rfl rfl rfl

/-! ### A lost tag (R106)

The counter of resequencing errors is no counter that a copy's end touches. -/

/-- The counters that `P` names are as before. -/
structure KeepsCounts (P : Nat → Prop) (s u : State) : Prop where
  counts : ∀ a, P a → u.count a = s.count a

namespace KeepsCounts

variable {P : Nat → Prop}

theorem refl (s : State) : KeepsCounts P s s := ⟨fun _ _ => rfl⟩

theorem trans {s u v : State} (h : KeepsCounts P s u) (k : KeepsCounts P u v) : KeepsCounts P s v :=
  ⟨fun a ha => (k.counts a ha).trans (h.counts a ha)⟩

theorem of_cnt {s u : State} (h : u.cnt = s.cnt) : KeepsCounts P s u := ⟨fun a _ => State.count_congr h a⟩

theorem ite {c : Prop} [Decidable c] {s u v : State} (h : KeepsCounts P s u) (k : KeepsCounts P s v) :
    KeepsCounts P s (if c then u else v) := by
  split <;> assumption

theorem bump (s : State) {a : Nat} (n : Nat) (h : ¬ P a) : KeepsCounts P s (s.bump a n) :=
  ⟨fun b hb => s.count_bump_ne n (by rintro rfl; exact h hb)⟩

theorem uncount (s : State) {a : Nat} (n : Nat) (h : ¬ P a) : KeepsCounts P s (s.uncount [(a, n)]) :=
  ⟨fun b hb => cget_cset_ne _ _ _ (by rintro rfl; exact h hb)⟩

theorem foldl {β : Type} {f : State → β → State} (l : List β) (s : State) (h : ∀ u, ∀ b ∈ l, KeepsCounts P u (f u b)) :
    KeepsCounts P s (l.foldl f s) :=
  List.foldlRecOn (motive := KeepsCounts P s) l f (.refl s) fun _ ih b hb => ih.trans (h _ b hb)

end KeepsCounts

/-- A counter at the place of the resequencing errors in its port's block. -/
abbrev RsqCounter (a : Nat) : Prop := a % 0x400 = 0x2C0

theorem freeFrame_cnt (s : State) (k : Nat) : (s.freeFrame k).cnt = s.cnt := by
  unfold State.freeFrame
  split
  · rfl
  · split <;> rfl

theorem endCopy_cnt (s : State) (k dst : Nat) : (s.endCopy k dst).cnt = s.cnt := by
  unfold State.endCopy
  split
  · rfl
  · exact freeFrame_cnt _ k

theorem setCopy_cnt (s : State) (k : Nat) (c : FabCopy) : (s.setCopy k c).cnt = s.cnt := by
  unfold State.setCopy
  split <;> rfl

theorem rsqKept_dealt (s : State) (k : Nat) (c : FabCopy) (n : Nat) (sent : Bool) : KeepsCounts RsqCounter s (s.dealt k c n sent) := by
  unfold State.dealt
  dsimp only
  refine .trans (.of_cnt (setCopy_cnt s k _)) (.ite (.trans (.ite (.bump _ _ ?_) (.refl _)) (.of_cnt (endCopy_cnt _ k _))) (.refl _))
  unfold RsqCounter cntFAB_EG_FRAMES
  omega

theorem rsqKept_unstart (s : State) (n k dst : Nat) : KeepsCounts RsqCounter s (s.unstart n k dst) := by
  have ct (u : State) : KeepsCounts RsqCounter u (u.uncount [(cntFAB_CT_FRAMES dst, 1)]) := .uncount u 1 (by unfold RsqCounter cntFAB_CT_FRAMES; omega)
  have pre (u : State) : KeepsCounts RsqCounter u (u.uncount [(cntPRT_TX_PREEMPTED n, 1)]) :=
    .uncount u 1 (by unfold RsqCounter cntPRT_TX_PREEMPTED; omega)
  unfold State.unstart
  split
  · exact .refl s
  next x _ =>
    have counted : KeepsCounts RsqCounter s (if x.ctCounted then s.uncount [(cntFAB_CT_FRAMES dst, 1)] else s) := .ite (ct s) (.refl s)
    generalize (if x.ctCounted then s.uncount [(cntFAB_CT_FRAMES dst, 1)] else s) = u at counted ⊢
    have preempted : KeepsCounts RsqCounter u (if x.preCounted then u.uncount [(cntPRT_TX_PREEMPTED n, 1)] else u) := .ite (pre u) (.refl u)
    exact (counted.trans preempted).trans (.ite (.of_cnt rfl) (.of_cnt rfl))

theorem rsqKept_settleCopy (s : State) (k dst : Nat) : KeepsCounts RsqCounter s (s.settleCopy k dst) := by
  unfold State.settleCopy
  split
  · exact .refl s
  split
  · exact .refl s
  dsimp only
  refine .ite (.trans (.foldl _ s fun u n _ => rsqKept_unstart u n k dst) (.foldl _ _ fun u n _ => ?_)) (.ite ?_ (.refl s))
  · split
    · exact rsqKept_dealt ..
    · exact .refl u
  · exact .trans (.of_cnt (setCopy_cnt s k _)) (.of_cnt rfl)

theorem rsqKept_releaseTag (s : State) (x : FabTag) : KeepsCounts RsqCounter s (s.releaseTag x) := by
  unfold State.releaseTag
  split
  · exact .trans (.of_cnt (setCopy_cnt ..)) (rsqKept_settleCopy ..)
  · exact .refl s

theorem rsqKept_releaseSeries (src dst : Nat) : ∀ (n : Nat) (s : State), KeepsCounts RsqCounter s (State.releaseSeries src dst n s)
  | 0, s => .refl s
  | n + 1, s => by
    rw [State.releaseSeries]
    dsimp only
    split
    · exact .refl s
    · refine .trans (.trans ?_ (rsqKept_releaseTag _ _)) (rsqKept_releaseSeries src dst n _)
      exact .of_cnt rfl

/-- A tag missing for 64 days, none of whose frame is known lost: one error, an event, and the series goes on. -/
theorem opLostTag_one {src dst : Nat} {h : FabTag × Nat} (held : s.fab.reseq = [h]) (hsrc : h.1.src = src) (hdst : h.1.dst = dst)
    (missing : h.1.seq ≠ cget (fun _ => 0) s.fab.seqWant (seriesKey src dst)) (old : h.2 + 64 ≤ s.fab.days) (none_ : s.fab.lostTags = []) :
    ∃ (n : Nat) (v : State) (p : List Byte), v.cnt = s.cnt ∧
      opLostTag src dst s = State.releaseSeries src dst n ((v.bump (cntFAB_RSQ_ERR dst) 1).post 0x0202 p) := by
  have waits : s.fab.reseq.filter (fun h => h.1.src == src && h.1.dst == dst) = [h] := by simp [held, hsrc, hdst]
  have due : ([h].all (fun x => x.1.seq != cget (fun _ => 0) s.fab.seqWant (seriesKey src dst))
      && [h].any (fun x => decide (x.2 + 64 ≤ s.fab.days))) = true := by
    simp [missing, old]
  have unknown (q : FabTag → Bool) : s.fab.lostTags.find? q = none := by rw [none_]; rfl
  unfold opLostTag
  rw [waits]
  dsimp only
  rw [unknown, if_pos due]
  refine ⟨1024, _, _, ?_, rfl⟩
  rfl

theorem count_opLostTag {src dst : Nat} {h : FabTag × Nat} (held : s.fab.reseq = [h]) (hsrc : h.1.src = src) (hdst : h.1.dst = dst)
    (missing : h.1.seq ≠ cget (fun _ => 0) s.fab.seqWant (seriesKey src dst)) (old : h.2 + 64 ≤ s.fab.days) (none_ : s.fab.lostTags = [])
    (lt : dst < 32) : (opLostTag src dst s).count (cntFAB_RSQ_ERR dst) = (s.count (cntFAB_RSQ_ERR dst) + 1) % 2 ^ 64 := by
  obtain ⟨n, v, p, cnt, e⟩ := opLostTag_one held hsrc hdst missing old none_
  have posted : EventOnly (v.bump (cntFAB_RSQ_ERR dst) 1) ((v.bump (cntFAB_RSQ_ERR dst) 1).post 0x0202 p) := .post ..
  rw [e, (rsqKept_releaseSeries src dst n _).counts _ (by unfold RsqCounter cntFAB_RSQ_ERR; omega),
    posted.counts _ (by unfold cntFAB_RSQ_ERR; omega) (by unfold cntFAB_RSQ_ERR; omega), State.count_bump_same, State.count_congr cnt]

/-- Settles O10. -/
theorem calendarRules : Obligations.CalendarRules := by
  refine ⟨?off, ?day, ?pass, ?fail, ?running, ?lost⟩
  case off => exact fun t bad loopBad s off => completes_of_eq (t := t) (g := opCalendarDay bad loopBad) rfl (opCalendarDay_off (s := s.advance t) off bad loopBad) rfl
  case day =>
    intro t bad loopBad s en lt
    exact completes_of_eq (t := t) (g := opCalendarDay bad loopBad) rfl rfl
      ((opCalendarDay_days (s := s.advance t) en bad loopBad).trans (Nat.mod_eq_of_lt (by change s.fab.days + 1 < _; omega)))
  case pass => exact fun t s off => completes_selfTest_pass off
  case fail => exact fun t p s off hp => completes_selfTest_fail off hp
  case running => exact fun t f s en => completes_of_eq (t := t) (g := opCalendarSelfTest f) rfl (if_pos en) rfl
  case lost =>
    exact fun t src dst h s held hsrc hdst missing old none_ lt => completes_of_eq (t := t) (g := opLostTag src dst) rfl rfl
      (count_opLostTag (s := s.advance t) held hsrc hdst missing old none_ lt)

end Sys2Proof.Machine
end

section
/-! Cells stored, copies selected and sent (R95, R110 to R115, R558). -/

namespace Sys2Proof.Machine

variable {s : State} {t n : Nat}

/-! ### Cells at an ingress -/

theorem opCellWrite_none (h : s.stagedAt n = []) : opCellWrite n s = s := by
  unfold opCellWrite
  rw [h]

theorem opCellWrite_header {x : RxStage} {l : List RxStage} (h : s.stagedAt n = x :: l) (k : x.frame = none) :
    opCellWrite n s = s.headerCell n (if n < 28 then s.fabPort n else n) x := by
  unfold opCellWrite
  rw [h]
  dsimp only
  rw [k]

theorem opCellWrite_next {x : RxStage} {l : List RxStage} {k : Nat} (h : s.stagedAt n = x :: l) (f : x.frame = some k) :
    opCellWrite n s = s.nextCell n x k := by
  unfold opCellWrite
  rw [h]
  dsimp only
  rw [f]

/-- The frame of that number, after it is given a new value. -/
theorem State.frame?_num {k : Nat} {f : FabFrame} (h : s.frame? k = some f) : f.num = k :=
  beq_iff_eq.1 (List.find?_some (p := fun f : FabFrame => f.num == k) h)

theorem find?_map_setFrame {k : Nat} {f g : FabFrame} (num : g.num = k) : ∀ l : List FabFrame, l.find? (fun x => x.num == k) = some f →
    (l.map fun x => if x.num = g.num then g else x).find? (fun x => x.num == k) = some g
  | [], h => nomatch h
  | x :: l, h => by
    rw [List.map_cons]
    by_cases e : x.num = k
    · rw [if_pos (e.trans num.symm)]
      exact List.find?_cons_of_pos (by simp [num])
    · rw [List.find?_cons_of_neg (by simp [e])] at h
      rw [if_neg (by rw [num]; exact e), List.find?_cons_of_neg (by simp [e])]
      exact find?_map_setFrame num l h

theorem State.frame?_setFrame {k : Nat} {f g : FabFrame} (h : s.frame? k = some f) (num : g.num = k) : (s.setFrame g).frame? k = some g :=
  find?_map_setFrame num s.fab.frames h

/-- The place a cell takes, and the machine without it. -/
theorem takeCell_only (s : State) : ∃ x : Fab, s.takeCell.2 = { s with fab := x } ∧ x.frames = s.fab.frames ∧ x.inputs = s.fab.inputs
    ∧ x.days = s.fab.days := by
  unfold State.takeCell
  split
  · exact ⟨_, rfl, rfl, rfl, rfl⟩
  · exact ⟨_, rfl, rfl, rfl, rfl⟩

/-- A frame with one cell more, at the place `at_`. -/
def FabFrame.withCell (f : FabFrame) (cell : List Byte) (day at_ : Nat) : FabFrame :=
  { f with bytes := f.bytes ++ cell, written := f.written ++ [day], firstCell := if f.written.length = 0 then at_ else f.firstCell,
           lastCell := at_, reserve := f.reserve + b2n false }

/-- The tag under which a middle cell enters the calendar. -/
def FabFrame.cellTag (f : FabFrame) (k at_ dst : Nat) : FabTag :=
  { frame := k, cell := at_, fd := f.fd, src := f.src, dst, cidx := f.written.length, cls := f.cls }

/-- The counts of cells held, after one more for a frame with one copy. -/
def State.cellCounted (s : State) (src dst cls : Nat) : State :=
  (((s.bump (cntFAB_ING_CELLS src) 1).subFrom FAB_FREE FAB_FREE_CELLS 1).addTo (FAB_ING_USE src) FAB_ING_USE_CELLS 1).addTo
    (FAB_EG_USE dst cls) FAB_EG_USE_CELLS 1

theorem storeCell_one {k : Nat} {f : FabFrame} {c : FabCopy} (h : s.frame? k = some f) (one : f.copies = [c]) (cell : List Byte) :
    ∃ (x : Fab) (at_ : Nat), x.frames = s.fab.frames ∧ x.inputs = s.fab.inputs ∧ s.storeCell k cell false none =
      let u := ((({ s with fab := x } : State).setFrame (f.withCell cell s.fab.days at_)).cellCounted f.src c.dst f.cls)
      { u with fab := { u.fab with inputs := u.fab.inputs ++ [f.cellTag k at_ c.dst] } } := by
  obtain ⟨x, ex, frames, inputs, days⟩ := takeCell_only s
  unfold State.storeCell
  rw [h]
  dsimp only
  rw [one, ex]
  by_cases first : f.written.length = 0
  · refine ⟨x, s.takeCell.1, frames, inputs, ?_⟩
    simp only [FabFrame.withCell, if_pos first, one]
    rw [← days]
    rfl
  · refine ⟨{ x with link := cset (fun _ => 0) x.link f.lastCell s.takeCell.1 }, s.takeCell.1, frames, inputs, ?_⟩
    simp only [FabFrame.withCell, if_neg first, one]
    rw [← days]
    rfl

/-- A middle cell of a frame with one copy, admitted to the common buffer. -/
structure MiddleCell (s : State) (x : RxStage) (k : Nat) (f : FabFrame) (c : FabCopy) : Prop where
  frame : s.frame? k = some f
  copies : f.copies = [c]
  admitted : s.admitCell f.src f.cls = 0
  middle : x.cells + 1 < cellsOf x.bytes.length

theorem nextCell_middle {x : RxStage} {k : Nat} {f : FabFrame} {c : FabCopy} (h : MiddleCell s x k f c) (n : Nat) : s.nextCell n x k =
    (s.storeCell k ((x.bytes.drop (64 * x.cells)).take 64) false none).setHead n { x with cells := x.cells + 1 } := by
  obtain ⟨frame, copies, admitted, middle⟩ := h
  unfold State.nextCell
  rw [frame]
  dsimp only
  rw [copies, admitted]
  simp only [if_neg (Nat.not_le.2 middle)]
  rfl

theorem completes_cellWrite {x : RxStage} {l : List RxStage} {k : Nat} {f : FabFrame} {c : FabCopy} (staged : s.stagedAt n = x :: l)
    (fr : x.frame = some k) (h : MiddleCell s x k f c) : Completes (.cellWrite t n) s fun u =>
      u.stagedAt n = { x with cells := x.cells + 1 } :: l
        ∧ u.count (cntFAB_ING_CELLS f.src) = (s.count (cntFAB_ING_CELLS f.src) + 1) % 2 ^ 64
        ∧ (∃ g, u.frame? k = some g ∧ g.bytes = f.bytes ++ (x.bytes.drop (64 * x.cells)).take 64 ∧ g.written = f.written ++ [s.fab.days])
        ∧ (∃ g, u.fab.inputs = s.fab.inputs ++ [g] ∧ g.frame = k ∧ g.src = f.src ∧ g.dst = c.dst ∧ g.cidx = f.written.length ∧ g.last = false)
        ∧ SameWords [FAB_FREE, FAB_ING_USE f.src, FAB_EG_USE c.dst f.cls] s u ∧ SameMemory s u := by
  obtain ⟨y, at_, frames, inputs, stored⟩ := storeCell_one (s := s.advance t) h.frame h.copies ((x.bytes.drop (64 * x.cells)).take 64)
  have e := (opCellWrite_next (s := s.advance t) staged fr).trans (nextCell_middle (s := s.advance t) ⟨h.frame, h.copies, h.admitted, h.middle⟩ n)
  rw [stored] at e
  have num : f.num = k := State.frame?_num h.frame
  refine completes_of_eq (g := opCellWrite n) rfl e ⟨?staged, ?count, ?frame, ?input, ?words, fun _ => rfl⟩
  case staged =>
    refine (cget_cset_same ..).trans ?_
    exact congrArg (fun z : List RxStage => ({ x with cells := x.cells + 1 } : RxStage) :: z.drop 1) staged
  case count => exact (s.advance t).count_bump_same (cntFAB_ING_CELLS f.src) 1
  case frame =>
    refine ⟨f.withCell ((x.bytes.drop (64 * x.cells)).take 64) s.fab.days at_, ?_, rfl, rfl⟩
    refine State.frame?_setFrame (s := { s.advance t with fab := y }) (f := f) ?_ num
    exact (congrArg (List.find? (fun f : FabFrame => f.num == k)) frames).trans h.frame
  case input =>
    refine ⟨f.cellTag k at_ c.dst, ?_, rfl, rfl, rfl, rfl, rfl⟩
    exact congrArg (· ++ [f.cellTag k at_ c.dst]) inputs
  case words =>
    intro a ha _
    have ne {b : Nat} (hb : b ∈ [FAB_FREE, FAB_ING_USE f.src, FAB_EG_USE c.dst f.cls]) : a ≠ b := fun e => ha (e ▸ hb)
    exact (State.rdW_wr_ne _ _ _ (ne (by simp))).trans ((State.rdW_wr_ne _ _ _ (ne (by simp))).trans (State.rdW_wr_ne _ _ _ (ne (by simp))))

/-! ### Selection at a port -/

theorem opEgressSelect_internal (h : n = 28 ∨ n = 30 ∨ n = 31) : opEgressSelect n s = State.selectDeliver n (s.fab.frames.length + 1) s := if_pos h

theorem opEgressSelect_line (h : n < 28) (p : s.portPresent n = true) :
    opEgressSelect n s = State.selectTx (s.fabPort n) n (s.fab.frames.length + 1) s :=
  (if_neg (by omega)).trans (if_pos ⟨h, p⟩)

variable {d : Nat} {q : Queued}

/-- The choice of a port falls on a frame that may start at once. -/
structure StartsNow (s : State) (d n : Nat) (q : Queued) : Prop where
  first : s.eligible d n 7 = some q
  idle : s.txAt n = []
  fresh : s.aged q.frame = false
  up : s.linkUp n = true
  en : s.rdB (PRT_PORT_CFG n) PRT_PORT_CFG_EN = true
  fits : q.frame.complete = true → (egressBytes s q.frame q.copy n).length + 4 ≤ s.maxFrame n

theorem selectTx_startsNow (h : StartsNow s d n q) (fuel : Nat) : State.selectTx d n (fuel + 1) s = s.startTx d n q := by
  obtain ⟨first, idle, fresh, up, en, fits⟩ := h
  have chosen : s.selectFrame d n = (some q, s) := by
    unfold State.selectFrame
    rw [List.findSome?_cons, first]
  have free : s.canStart n q.frame.cls = true := by
    unfold State.canStart
    rw [idle]
  have size : (q.frame.complete && decide (s.maxFrame n < (egressBytes s q.frame q.copy n).length + 4)) = false := by
    rw [Bool.and_eq_false_iff]
    by_cases whole : q.frame.complete = true
    · exact .inr (decide_eq_false (Nat.not_lt.2 (fits whole)))
    · exact .inl (Bool.not_eq_true _ ▸ whole)
  rw [State.selectTx, chosen]
  simp only [free, fresh, up, en, size, Bool.not_true, Bool.and_self, Bool.false_eq_true, ↓reduceIte]

/-- Nothing that a selection reads at the port changes, and nothing is sent. -/
structure TxKept (s u : State) : Prop where
  now : u.now = s.now
  tx : u.fab.tx = s.fab.tx
  wire : u.wire = s.wire

theorem TxKept.refl (s : State) : TxKept s s := ⟨rfl, rfl, rfl⟩

theorem TxKept.trans {s u v : State} (h : TxKept s u) (k : TxKept u v) : TxKept s v :=
  ⟨k.now.trans h.now, k.tx.trans h.tx, k.wire.trans h.wire⟩

theorem TxKept.ite {c : Prop} [Decidable c] {s u v : State} (h : TxKept s u) (k : TxKept s v) : TxKept s (if c then u else v) := by
  split <;> assumption

theorem txKept_devWrite (s : State) (a : Nat) (b : List Byte) : TxKept s (s.devWrite a b) := by
  have h := memOnly_devWrite s a b
  exact ⟨(congrArg State.now h :), (congrArg (fun u : State => u.fab.tx) h :), (congrArg State.wire h :)⟩

theorem txKept_setCopy (s : State) (k : Nat) (c : FabCopy) : TxKept s (s.setCopy k c) := by
  unfold State.setCopy
  split
  · exact .refl s
  · exact ⟨rfl, rfl, rfl⟩

theorem txKept_lreSeq (s : State) (p mac : Nat) (foreign : Bool) : TxKept s (s.lreSeq p mac foreign).2 := by
  unfold State.lreSeq State.pairSeq
  split
  · exact ⟨rfl, rfl, rfl⟩
  · split
    · exact ⟨rfl, rfl, rfl⟩
    · split <;> exact ⟨rfl, rfl, rfl⟩

theorem txKept_dupNote (s : State) (pair mac q : Nat) : TxKept s (s.dupNote pair mac q) := by
  have kept (c : DupCase) (e : DupEntry) : TxKept s (s.putDup c e) := by
    unfold State.putDup State.newDup
    refine .ite ?_ ⟨rfl, rfl, rfl⟩
    dsimp only
    split
    · exact ⟨rfl, rfl, rfl⟩
    · split <;> exact ⟨rfl, rfl, rfl⟩
  exact kept _ _

/-- A copy given its redundancy tag is otherwise the copy it was. -/
theorem giveSeq_spec (s : State) (f : FabFrame) (c : FabCopy) (n : Nat) : TxKept s (s.giveSeq f c n).2 ∧
    (s.giveSeq f c n).1 = { c with lre := (s.giveSeq f c n).1.lre } := by
  unfold State.giveSeq
  split
  · have tagged := txKept_lreSeq s (n / 2) (smac (if f.hsr then stripHsr f.bytes else f.bytes)) (f.src < 28 && s.portLre f.src == 0)
    refine ⟨tagged.trans ?_, rfl⟩
    dsimp only
    exact .trans (.ite (txKept_dupNote ..) (.refl _)) ⟨rfl, rfl, rfl⟩
  · exact ⟨.refl s, rfl⟩

theorem txKept_ptpStart (s : State) (n : Nat) (f : FabFrame) : TxKept s (s.ptpStart n f) := by
  unfold State.ptpStart
  split
  · refine .ite ?_ (.refl s)
    exact .ite ⟨rfl, rfl, rfl⟩ ⟨rfl, rfl, rfl⟩
  · exact .refl s

/-- The frame's place on an idle line. -/
def Queued.onLine (q : Queued) (d now : Nat) : FabTx :=
  { frame := q.frame.num, dst := d, express := decide (6 ≤ q.frame.cls), startAt := now,
    ctCounted := q.copy.ct && !q.frame.complete && q.copy.sending.isEmpty && !q.copy.sent }

/-- What the start on an idle line leaves. -/
theorem startTx_spec (idle : s.txAt n = []) (d : Nat) (q : Queued) : (s.startTx d n q).txAt n = [q.onLine d s.now] ∧
    (s.startTx d n q).wire = s.wire := by
  obtain ⟨given, same⟩ := giveSeq_spec s q.frame q.copy n
  obtain ⟨now, tx, wire⟩ := given
  unfold State.startTx
  dsimp only
  rw [same]
  generalize s.giveSeq q.frame q.copy n = z at now tx wire
  obtain ⟨c, u⟩ := z
  dsimp only at now tx wire ⊢
  generalize hct : (q.copy.ct && !q.frame.complete && q.copy.sending.isEmpty && !q.copy.sent) = ct
  generalize hc : ({ q.copy with lre := c.lre, residence := q.copy.residence ++ u.residenceOn n q.frame, sending := q.copy.sending ++ [n] } : FabCopy) = c'
  have counted : TxKept u (if ct then u.bump (cntFAB_CT_FRAMES d) 1 else u) := .ite ⟨rfl, rfl, rfl⟩ (.refl u)
  have copied := counted.trans (txKept_setCopy _ q.frame.num c')
  generalize ((if ct then u.bump (cntFAB_CT_FRAMES d) 1 else u).setCopy q.frame.num c') = v at copied ⊢
  have none_ : v.txAt n = [] := (congrArg (cget (fun _ => []) · n) (copied.tx.trans tx)).trans idle
  rw [none_]
  dsimp only [List.head?_nil, Option.any_none]
  simp only [Bool.false_eq_true, if_false]
  rw [none_, ← hct]
  have shown : (v.setTx n [q.onLine d v.now]).txAt n = [q.onLine d v.now] := cget_cset_same ..
  have started := txKept_ptpStart (v.setTx n [q.onLine d v.now]) n q.frame
  have all {x : State} (h : TxKept (v.setTx n [q.onLine d v.now]) x) : x.txAt n = [q.onLine d s.now] ∧ x.wire = s.wire := by
    refine ⟨(congrArg (cget (fun _ => []) · n) h.tx).trans (shown.trans ?_), h.wire.trans (copied.wire.trans wire)⟩
    rw [copied.now.trans now]
  split
  · exact all (started.trans (txKept_devWrite ..))
  · exact all started

theorem completes_egressSelect (lt : n < 28) (p : s.portPresent n = true) (h : StartsNow (s.advance t) (s.fabPort n) n q) :
    Completes (.egressSelect t n) s fun u => u.txAt n = [q.onLine (s.fabPort n) u.now] ∧ u.wire = s.wire := by
  have e := (opEgressSelect_line (s := s.advance t) lt p).trans (selectTx_startsNow h _)
  obtain ⟨line, wire⟩ := startTx_spec h.idle (s.fabPort n) q
  exact completes_of_eq (g := opEgressSelect n) rfl e ⟨line, wire⟩

/-! ### The end of a copy's transmission -/

/-- The frame and copy of the transmission at the head of a port's line. -/
structure OnLine (s : State) (n : Nat) (x : FabTx) (f : FabFrame) (c : FabCopy) : Prop where
  line : ∃ l, s.txAt n = x :: l
  frame : s.frame? x.frame = some f
  copy : f.copies.find? (fun c => c.dst == x.dst) = some c
  fits : (egressBytes s f c n).length + 4 ≤ s.maxFrame n

variable {x : FabTx} {f : FabFrame} {c : FabCopy}

theorem opCopyEnd_of_onLine (h : OnLine s n x f c) : opCopyEnd n s = match s.sentWhole n f c with
    | none => s
    | some (b, stomped) =>
      let bad := endKnown f c && f.end_ != 0
      let s := (s.offLine n x.frame).sendFrame n b stomped
      let s := if stomped then s.bump (cntPRT_TX_STOMPED n) 1 else s
      let s := if bad && !c.stomped then s.bump (cntFAB_CT_STOMPED x.dst) 1 else s
      let s := s.charge x.dst n f.cls (b.length + 4)
      s.dealt f.num { c with stomped := c.stomped || bad } n true := by
  obtain ⟨⟨l, line⟩, frame, copy, -⟩ := h
  unfold opCopyEnd
  rw [line]
  dsimp only
  rw [frame, Option.bind_some, copy]
  rfl

theorem sentWhole_goesOn (h : OnLine s n x f c) (more : endKnown f c = false) : s.sentWhole n f c = none := by
  unfold State.sentWhole
  rw [more]
  exact if_neg (Nat.not_lt.2 h.fits)

theorem sentWhole_good (h : OnLine s n x f c) (known : endKnown f c = true) (good : f.end_ = 0) :
    s.sentWhole n f c = some (egressBytes s f c n, false) := by
  unfold State.sentWhole
  rw [known, good]
  exact (if_neg (Nat.not_lt.2 h.fits)).trans (if_pos rfl)

/-- A copy sent whole, and dealt with at the port. -/
def State.copySent (s : State) (n : Nat) (x : FabTx) (f : FabFrame) (c : FabCopy) : State :=
  (((s.offLine n x.frame).sendFrame n (egressBytes s f c n) false).charge x.dst n f.cls ((egressBytes s f c n).length + 4)).dealt f.num c n true

theorem opCopyEnd_good (h : OnLine s n x f c) (known : endKnown f c = true) (good : f.end_ = 0) : opCopyEnd n s = s.copySent n x f c := by
  rw [opCopyEnd_of_onLine h, sentWhole_good h known good]
  have sound : (true && (0 : Nat) != 0) = false := rfl
  dsimp only
  rw [known, good, sound]
  simp only [Bool.false_and, Bool.or_false, Bool.false_eq_true, if_false]
  rfl

/-- The counters of octets and frames sent at a port stand apart from those a copy's end touches. -/
abbrev TxCounter (a : Nat) : Prop := a % 0x400 = 0x058 ∨ a % 0x400 = 0x060

theorem txKept_counts_dealt (s : State) (k : Nat) (c : FabCopy) (n : Nat) (sent : Bool) : KeepsCounts TxCounter s (s.dealt k c n sent) := by
  unfold State.dealt
  dsimp only
  refine .trans (.of_cnt (setCopy_cnt s k _)) (.ite (.trans (.ite (.bump _ _ ?_) (.refl _)) (.of_cnt (endCopy_cnt _ k _))) (.refl _))
  unfold TxCounter cntFAB_EG_FRAMES
  omega

/-- The end of a copy leaves the lines, what was sent and memory. -/
structure SentKept (s u : State) : Prop where
  tx : u.fab.tx = s.fab.tx
  wire : u.wire = s.wire
  mem : u.mem = s.mem

theorem SentKept.refl (s : State) : SentKept s s := ⟨rfl, rfl, rfl⟩

theorem SentKept.trans {s u v : State} (h : SentKept s u) (k : SentKept u v) : SentKept s v :=
  ⟨k.tx.trans h.tx, k.wire.trans h.wire, k.mem.trans h.mem⟩

theorem SentKept.ite {c : Prop} [Decidable c] {s u v : State} (h : SentKept s u) (k : SentKept s v) : SentKept s (if c then u else v) := by
  split <;> assumption

theorem sentKept_freeFrame (s : State) (k : Nat) : SentKept s (s.freeFrame k) := by
  unfold State.freeFrame
  split
  · exact .refl s
  · exact .ite ⟨rfl, rfl, rfl⟩ (.refl s)

theorem sentKept_endCopy (s : State) (k dst : Nat) : SentKept s (s.endCopy k dst) := by
  unfold State.endCopy
  split
  · exact .refl s
  · refine .trans ?_ (sentKept_freeFrame _ k)
    exact ⟨rfl, rfl, rfl⟩

theorem sentKept_setCopy (s : State) (k : Nat) (c : FabCopy) : SentKept s (s.setCopy k c) := by
  unfold State.setCopy
  split
  · exact .refl s
  · exact ⟨rfl, rfl, rfl⟩

theorem sentKept_dealt (s : State) (k : Nat) (c : FabCopy) (n : Nat) (sent : Bool) : SentKept s (s.dealt k c n sent) := by
  unfold State.dealt
  dsimp only
  have counted (u : State) (a : Nat) : SentKept u (u.bump a 1) := ⟨rfl, rfl, rfl⟩
  exact (sentKept_setCopy s k _).trans (.ite (.trans (.ite (counted _ _) (.refl _)) (sentKept_endCopy _ k _)) (.refl _))

theorem sentKept_charge (s : State) (d n c len : Nat) : SentKept s (s.charge d n c len) ∧ (s.charge d n c len).cnt = s.cnt := by
  unfold State.charge
  dsimp only
  split <;> split <;> exact ⟨⟨rfl, rfl, rfl⟩, rfl⟩

/-- A frame sent on a port that does not loop back. -/
def State.frameOut (s : State) (n : Nat) (b : List Byte) : State :=
  ((s.bump (cntPRT_TX_OCTETS n) (b.length + 4)).bump (cntPRT_TX_FRAMES n) 1).send (.frame n b false)

theorem sendFrame_out (h : s.rdB (PRT_PORT_CFG n) PRT_PORT_CFG_LOOPBACK = false) (b : List Byte) : s.sendFrame n b false = s.frameOut n b :=
  if_neg (by
    change ¬ s.rdB (PRT_PORT_CFG n) PRT_PORT_CFG_LOOPBACK = true
    rw [h]
    decide)

theorem frameOut_counts (s : State) (n : Nat) (b : List Byte) :
    (s.frameOut n b).count (cntPRT_TX_FRAMES n) = (s.count (cntPRT_TX_FRAMES n) + 1) % 2 ^ 64 ∧
    (s.frameOut n b).count (cntPRT_TX_OCTETS n) = (s.count (cntPRT_TX_OCTETS n) + b.length + 4) % 2 ^ 64 := by
  have ne : cntPRT_TX_OCTETS n ≠ cntPRT_TX_FRAMES n := by unfold cntPRT_TX_OCTETS cntPRT_TX_FRAMES; omega
  refine ⟨?_, ?_⟩
  · exact ((s.bump (cntPRT_TX_OCTETS n) (b.length + 4)).count_bump_same _ 1).trans
      (congrArg (fun n => (n + 1) % 2 ^ 64) (s.count_bump_ne _ ne.symm))
  · rw [Nat.add_assoc]
    exact (State.count_bump_ne _ 1 ne).trans (s.count_bump_same _ _)

theorem offLine_others (s : State) (n k : Nat) : ((s.offLine n k).txAt n).all (fun y => y.frame != k) = true := by
  have line : (s.offLine n k).txAt n = match (s.txAt n).filter (fun x => x.frame != k) with
    | x :: r => (if x.paused then { x with paused := false, startAt := s.now } else x) :: r
    | [] => [] := cget_cset_same ..
  have rest : ∀ y ∈ (s.txAt n).filter (fun x => x.frame != k), (y.frame != k) = true := fun y hy => (List.mem_filter.1 hy).2
  rw [line]
  cases hl : (s.txAt n).filter (fun x => x.frame != k) with
  | nil => rfl
  | cons y r =>
    rw [hl] at rest
    obtain ⟨hy, hr⟩ := List.forall_mem_cons.1 rest
    have head : ((if y.paused then { y with paused := false, startAt := s.now } else y : FabTx).frame != k) = true := by
      split <;> exact hy
    rw [List.all_cons, head, Bool.true_and]
    exact List.all_eq_true.2 hr

theorem completes_copyEnd (h : OnLine s n x f c) (known : endKnown f c = true) (good : f.end_ = 0)
    (out : s.rdB (PRT_PORT_CFG n) PRT_PORT_CFG_LOOPBACK = false) : Completes (.copyEnd t n) s fun u =>
      u.wire = s.wire ++ [.frame n (egressBytes s f c n) false]
        ∧ u.count (cntPRT_TX_FRAMES n) = (s.count (cntPRT_TX_FRAMES n) + 1) % 2 ^ 64
        ∧ u.count (cntPRT_TX_OCTETS n) = (s.count (cntPRT_TX_OCTETS n) + (egressBytes s f c n).length + 4) % 2 ^ 64
        ∧ (u.txAt n).all (fun y => y.frame != x.frame) = true ∧ SameMemory s u := by
  have h' : OnLine (s.advance t) n x f c := ⟨h.line, h.frame, h.copy, h.fits⟩
  have e : opCopyEnd n (s.advance t) = ((((s.advance t).offLine n x.frame).frameOut n (egressBytes s f c n)).charge x.dst n f.cls
      ((egressBytes s f c n).length + 4)).dealt f.num c n true := by
    rw [opCopyEnd_good h' known good, State.copySent, sendFrame_out (s := (s.advance t).offLine n x.frame) out]
    rfl
  obtain ⟨charged, cnt⟩ := sentKept_charge (((s.advance t).offLine n x.frame).frameOut n (egressBytes s f c n)) x.dst n f.cls
    ((egressBytes s f c n).length + 4)
  obtain ⟨frames, octets⟩ := frameOut_counts ((s.advance t).offLine n x.frame) n (egressBytes s f c n)
  have kept := charged.trans (sentKept_dealt _ f.num c n true)
  have counts (a : Nat) (ha : TxCounter a) := ((txKept_counts_dealt _ f.num c n true).counts a ha).trans (State.count_congr cnt a)
  refine completes_of_eq (g := opCopyEnd n) rfl e ⟨kept.wire, ?_, ?_, ?_, fun a => State.byte_congr kept.mem a⟩
  · exact (counts _ (by unfold TxCounter cntPRT_TX_FRAMES; omega)).trans frames
  · exact (counts _ (by unfold TxCounter cntPRT_TX_OCTETS; omega)).trans octets
  · have line : State.txAt _ n = _ := congrArg (cget (fun _ => []) · n) kept.tx
    exact (congrArg (List.all · _) line).trans (offLine_others (s.advance t) n x.frame)

/-- Settles O11. -/
theorem cellsAndCopies : Obligations.CellsAndCopies := by
  refine ⟨?none_, ?header, ?next, ?middle, ?internal, ?line, ?starts, ?goesOn, ?endExec, ?ends⟩
  case none_ => exact fun t n s h => completes_of_eq (t := t) (g := opCellWrite n) rfl (opCellWrite_none (s := s.advance t) h) rfl
  case header =>
    exact fun t n x l s h k => exec_congr (f := opCellWrite n) rfl (opCellWrite_header (s := s.advance t) h k)
  case next => exact fun t n x l k s h f => exec_congr (f := opCellWrite n) rfl (opCellWrite_next (s := s.advance t) h f)
  case middle =>
    exact fun t n x l k f c s staged fr frame copies admitted middle => completes_cellWrite staged fr ⟨frame, copies, admitted, middle⟩
  case internal => exact fun t n s h => exec_congr (f := opEgressSelect n) rfl (opEgressSelect_internal (s := s.advance t) h)
  case line => exact fun t n s h p => exec_congr (f := opEgressSelect n) rfl (opEgressSelect_line (s := s.advance t) h p)
  case starts =>
    exact fun t n q s lt p first idle fresh up en fits => completes_egressSelect lt p ⟨first, idle, fresh, up, en, fits⟩
  case goesOn =>
    intro t n x l f c s line frame copy more fits
    have h : OnLine (s.advance t) n x f c := ⟨⟨l, line⟩, frame, copy, fits⟩
    refine completes_of_eq (t := t) (g := opCopyEnd n) rfl (opCopyEnd_of_onLine h) ?_
    rw [sentWhole_goesOn h more]
    rfl
  case endExec =>
    exact fun t n x l f c s line frame copy known good fits => exec_congr (f := opCopyEnd n) rfl
      (opCopyEnd_good (s := s.advance t) ⟨⟨l, line⟩, frame, copy, fits⟩ known good)
  case ends => exact fun t n x l f c s line frame copy known good fits out => completes_copyEnd ⟨⟨l, line⟩, frame, copy, fits⟩ known good out

end Sys2Proof.Machine
end

section
/-! A sample frame that arrives in time but is taken late (R131, R153): whether it is late is decided by domain time when the frame goes
through ingest. -/

namespace Sys2Proof.Machine

/-- A sampled-value frame with an empty APDU. -/
def bareSampleFrame : IngFrame := { bytes := List.replicate 12 0 ++ [0x88, 0xBA, 0, 0, 0, 8, 0, 0, 0, 0, 0, 0], arrival := 0, port := 0 }

def bareSampleHeader : IngHdr :=
  { frame := bareSampleFrame, off := 14, goose := false, vid := 0, appid := 0, sim := false, apdu := [], ext := 0 }

/-- Ingest enabled, with stencil 0 (LOOKUP), stencil 1 (EMIT, END) and the stream of handle 0 in DRAM under the key of zeros. -/
def oneStreamState : State :=
  { State.reset with regs := [(ING_CTRL, 1), (ING_STENCIL_POOL 0 0, 0x0B000000), (ING_STENCIL_POOL 1 0, 0x11000000),
      (ING_KEY_INDEX 0 65058, 0x8000), (ING_STATIC 0 0, 0x10001), (ING_STATIC 0 2, 0x10)] }

/-- What the walk of the frame finds: the stream of handle 0, and one sample. -/
def bareWalk : Walk :=
  match oneStreamState.walkFrame bareSampleHeader 0 with
  | .finished w => w
  | .drop _ w => w
  | .fault w => w
  | .stranger w => w

theorem bareSampleFrame_parsed : (parseIng bareSampleFrame).toOption = some bareSampleHeader := by decide +kernel

theorem bareWalk_finished : oneStreamState.walkFrame bareSampleHeader oneStreamState.ingActive = .finished bareWalk := by decide +kernel

theorem bareWalk_hit : bareWalk.hit = some (0, oneStreamState.stream 0 0) := by decide +kernel

theorem bareWalk_sample : bareWalk.f.getD 8 0 = 0 ∧ bareWalk.samples = [{ cnt := 0, synch := 0, chans := [] }] := by decide +kernel

/-- A millisecond later the frame's round has been dispatched, and the sample is late. -/
theorem bareSample_late : ((oneStreamState.after 1000000 (opIngestFrame (some bareSampleFrame))).ingStream 0).newest = none := by decide +kernel

/-- Refutes O13: the sample's round is not dispatched when the state is taken, but it is at the command's own instant, so that the
sample is counted late and NEWEST does not move. -/
theorem not_ingestEvents : ¬ Obligations.IngestEvents := by
  rintro ⟨-, -, taken, -⟩
  obtain ⟨u, hu, -, -, newest, -⟩ := taken 1000000 bareSampleFrame bareSampleHeader bareWalk 0 (oneStreamState.stream 0 0)
    { cnt := 0, synch := 0, chans := [] } oneStreamState rfl bareSampleFrame_parsed rfl bareWalk_finished bareWalk_hit bareWalk_sample.1
    (by decide +kernel) (by decide +kernel) bareWalk_sample.2 (by decide +kernel) (by decide +kernel) (by decide +kernel) rfl
    (by decide +kernel) (by decide +kernel)
  obtain rfl : oneStreamState.after 1000000 (opIngestFrame (some bareSampleFrame)) = u := Host.Outcome.next.inj hu
  exact absurd (bareSample_late.symm.trans newest) (by simp)

end Sys2Proof.Machine
end

section
/-! The ingest bank flip and the copy of the banks (R147, R148, R168). -/

namespace Sys2Proof.Machine

variable {s : State} {t : Nat}

/-! ### The flip -/

/-- The bank flip's part. -/
theorem State.stageAt_congr {u : State} (now : u.now = s.now) (tim : u.tim = s.tim) (words : ∀ a, a / 2 ^ 24 = 0x0E → u.rdW a = s.rdW a) :
    u.stageAt = s.stageAt := by
  have ctrl := words TIM_CTRL rfl
  have grid := words TIM_GRID rfl
  have nextT : u.nextT = s.nextT := by
    unfold State.nextT State.fs State.roundLen State.rd
    rw [grid, tim]
  have dom : u.dom = s.dom := by unfold State.dom; rw [now, tim]
  unfold State.stageAt State.gridOn State.rdB State.rd
  rw [ctrl, nextT, dom, tim]

theorem opIngFlip_accepted (idle : s.ing.flip = none) (ok : s.flipRejected = false) : opIngFlip s =
    (({ s with ing := { s.ing with flip := some { val := 1 - s.ingActive, eff := s.stageAt } } } : State).wrB ING_STAT ING_STAT_FLIP_PENDING true) :=
  (if_neg (by rw [idle]; decide)).trans (if_neg (by rw [ok]; decide))

theorem opIngFlip_rejected (idle : s.ing.flip = none) (bad : s.flipRejected = true) :
    opIngFlip s = (s.wrB ING_STAT ING_STAT_FLIP_REJ true).post 0x0305 [] := (if_neg (by rw [idle]; decide)).trans (if_pos bad)

theorem State.ingActive_wrB (s : State) {f : Fld} (b : Bool) (hf : f.lo + f.width ≤ 32) (h : 1 ≤ f.lo) : (s.wrB ING_STAT f b).ingActive = s.ingActive :=
  s.rd_wr_apart _ _ _ _ hf (by decide) (.inr h)

theorem completes_ingFlip (idle : s.ing.flip = none) (ok : (s.advance t).flipRejected = false) : Completes (.ingFlip t) s fun u =>
    u.rdB ING_STAT ING_STAT_FLIP_PENDING = true ∧ u.ing.flip = some { val := 1 - s.ingActive, eff := u.stageAt } ∧ u.ingActive = s.ingActive
      ∧ OnlyWords [ING_STAT] { s with ing := u.ing } u := by
  refine completes_of_eq (g := opIngFlip) rfl (opIngFlip_accepted (s := s.advance t) idle ok) ⟨?_, ?_, ?_, rfl, ?_⟩
  · exact State.rdB_wrB_same _ _ _ _ (by decide) rfl
  · refine congrArg (fun n => some ({ val := 1 - s.ingActive, eff := n } : Staged Nat)) (State.stageAt_congr (s := _) rfl rfl fun a h => ?_)
    exact (State.rdW_wrB_ne _ _ _ (by rintro rfl; exact absurd h (by decide))).symm
  · exact State.ingActive_wrB _ _ (by decide) (by decide)
  · exact fun a h => State.rdW_wrB_ne _ _ _ fun e => h (List.mem_singleton.2 e)

theorem completes_ingFlip_rejected (idle : s.ing.flip = none) (bad : (s.advance t).flipRejected = true) : Completes (.ingFlip t) s fun u =>
    u.rdB ING_STAT ING_STAT_FLIP_REJ = true ∧ u.ing.flip = none ∧ u.ingActive = s.ingActive ∧ OnlyEvents [ING_STAT] [] s u := by
  have event : EventOnly ((s.advance t).wrB ING_STAT ING_STAT_FLIP_REJ true) (((s.advance t).wrB ING_STAT ING_STAT_FLIP_REJ true).post 0x0305 []) :=
    .post ..
  have stat := event.words ING_STAT (not_eventWord (by decide) (by decide))
  refine completes_of_eq (g := opIngFlip) rfl (opIngFlip_rejected (s := s.advance t) idle bad) ⟨?_, ?_, ?_, ?_⟩
  · exact (State.rdB_congr stat _).trans (State.rdB_wrB_same _ _ _ _ (by decide) rfl)
  · exact (congrArg Ing.flip event.ing).trans idle
  · exact (State.rd_congr stat _).trans (State.ingActive_wrB (s.advance t) true (by decide) (by decide))
  · exact OnlyEvents.after (t := t) (g := fun _ => ((s.advance t).wrB ING_STAT ING_STAT_FLIP_REJ true).post 0x0305 [])
      ((OnlyEvents.wrB (s.advance t) _ true (by simp)).trans (.of_eventOnly event))

theorem opIngCancel_some {x : Staged Nat} (h : s.ing.flip = some x) : opIngCancel s =
    if s.gridOn ∧ x.eff ≤ s.tim.nextRound ∧ s.nextT ≤ s.dom + 1000 then s
    else ({ s with ing := { s.ing with flip := none } } : State).wrB ING_STAT ING_STAT_FLIP_PENDING false := by
  unfold opIngCancel
  rw [h]

/-! ### The copy of the banks -/

/-- Entries of a store that read as set stay when others are erased. -/
theorem cget_cerase_of_ne {α : Type} {d : Nat → α} {p : Nat → Bool} {k : Nat} (hp : p k = false) : ∀ {m : Cells α}, cget d m k ≠ d k →
    cget d (cerase p m) k = cget d m k
  | [], h => absurd rfl h
  | (k0, v) :: m, h => by
    rw [cget] at h ⊢
    by_cases lt : k0 < k
    · rw [if_pos lt] at h ⊢
      have rest := cget_cerase_of_ne hp h
      by_cases gone : p k0 = true
      · rw [cerase, List.filter_cons_of_neg (by simp [gone])]
        exact rest
      · rw [cerase, List.filter_cons_of_pos (by simp [gone]), cget, if_pos lt]
        exact rest
    · rw [if_neg lt] at h ⊢
      by_cases e : k0 = k
      · subst e
        rw [cerase, List.filter_cons_of_pos (by simp [hp]), cget, if_neg lt]
      · rw [if_neg e] at h
        exact absurd rfl h

/-- The keys of a canonical store ascend. -/
theorem pairwise_of_cwfFrom {α : Type} [DecidableEq α] {d : Nat → α} : ∀ {m : Cells α} {lo : Option Nat}, cwfFrom d lo m = true →
    m.Pairwise (fun x y => x.1 < y.1) ∧ ∀ l, lo = some l → ∀ x ∈ m, l < x.1
  | [], _, _ => ⟨.nil, fun _ _ _ h => nomatch h⟩
  | (k, v) :: m, lo, h => by
    unfold cwfFrom at h
    rw [Bool.and_eq_true, Bool.and_eq_true] at h
    obtain ⟨⟨above, -⟩, rest⟩ := h
    obtain ⟨sorted, bound⟩ := pairwise_of_cwfFrom rest
    refine ⟨.cons (bound k rfl) sorted, fun l hl x hx => ?_⟩
    subst hl
    have first : l < k := of_decide_eq_true above
    rcases List.mem_cons.1 hx with rfl | hx
    · exact first
    · exact first.trans (bound k rfl x hx)

theorem pairwise_of_cwf {α : Type} [DecidableEq α] {d : Nat → α} {m : Cells α} (h : cwf d m = true) : m.Pairwise (fun x y => x.1 < y.1) :=
  (pairwise_of_cwfFrom h).1

/-- Words copied to other addresses: each reads at its copy's address what it was, and other words stay. -/
theorem rdW_copied {f : Nat → Nat} : ∀ (l : List (Nat × Word)) (s : State), l.Pairwise (fun x y => f x.1 ≠ f y.1) → ∀ c ∈ l,
    (l.foldl (fun u c => u.wrW (f c.1) c.2) s).rdW (f c.1) = c.2
  | [], _, _, _, h => nomatch h
  | x :: l, s, apart, c, h => by
    obtain ⟨first, apart⟩ := List.pairwise_cons.1 apart
    rw [List.foldl_cons]
    rcases List.mem_cons.1 h with rfl | h
    · have kept : (l.foldl (fun u c => u.wrW (f c.1) c.2) (s.wrW (f c.1) c.2)).rdW (f c.1) = (s.wrW (f c.1) c.2).rdW (f c.1) :=
        List.foldlRecOn (motive := fun u : State => u.rdW (f c.1) = (s.wrW (f c.1) c.2).rdW (f c.1)) _ _ rfl
          fun u ih y hy => (u.rdW_wrW_ne _ (first y hy)).trans ih
      rw [kept, State.rdW_wrW_same]
    · exact rdW_copied l _ apart c h

theorem rdW_foldl_wrW_ne {f : Nat → Nat} {a : Nat} (l : List (Nat × Word)) (s : State) (h : ∀ c ∈ l, a ≠ f c.1) :
    (l.foldl (fun u c => u.wrW (f c.1) c.2) s).rdW a = s.rdW a :=
  List.foldlRecOn (motive := fun u : State => u.rdW a = s.rdW a) _ _ rfl fun u ih y hy => (u.rdW_wrW_ne _ (h y hy)).trans ih

/-- Where a word of bank `b` stands in the other bank. -/
def otherBank (b a : Nat) : Nat := if b = 0 then a + 0x400000 else a - 0x400000

theorem otherBank_zero (a : Nat) : otherBank 0 a = a + 0x400000 := if_pos rfl
theorem otherBank_one (a : Nat) : otherBank 1 a = a - 0x400000 := if_neg (by decide)

/-- The other bank erased and written with the active one's words. -/
def State.bankCopied (s : State) : State :=
  (s.regs.filter (fun c => ingBankOf c.1 == some s.ingActive)).foldl (fun u c => u.wrW (otherBank s.ingActive c.1) c.2)
    { s with regs := cerase (fun k => ingBankOf k == some (1 - s.ingActive)) s.regs }

theorem opBankCopyComplete_busy (h : s.rdB ING_STAT ING_STAT_COPY_BUSY = true) :
    opBankCopyComplete s = (s.bankCopied.wrB ING_STAT ING_STAT_COPY_BUSY false).loadShow := if_pos h

theorem ingBankOf_eq_some {a b : Nat} (h : ingBankOf a = some b) : 0x03400000 ≤ a ∧ (b = 0 ∧ a < 0x03640000 ∨ b = 1 ∧ 0x03800000 ≤ a ∧ a < 0x03A40000) := by
  unfold ingBankOf at h
  split at h
  next lo => exact ⟨lo.1, .inl ⟨(Option.some.inj h).symm, lo.2⟩⟩
  next =>
    split at h
    next hi => exact ⟨by omega, .inr ⟨(Option.some.inj h).symm, hi⟩⟩
    next => exact nomatch h

theorem ne_otherBank {a b c : Nat} (h : ingBankOf c = some b) (ha : a < 0x03400000) : a ≠ otherBank b c := by
  obtain ⟨lo, ⟨rfl, -⟩ | ⟨rfl, hi, -⟩⟩ := ingBankOf_eq_some h
  · rw [otherBank_zero]; omega
  · rw [otherBank_one]; omega

theorem otherBank_ne {b c d : Nat} (hc : ingBankOf c = some b) (hd : ingBankOf d = some b) (lt : c < d) : otherBank b c ≠ otherBank b d := by
  obtain ⟨_, ⟨rfl, -⟩ | ⟨rfl, hc, -⟩⟩ := ingBankOf_eq_some hc
  · rw [otherBank_zero, otherBank_zero]; omega
  · obtain ⟨_, ⟨no, -⟩ | ⟨-, hd, -⟩⟩ := ingBankOf_eq_some hd
    · omega
    · rw [otherBank_one, otherBank_one]; omega

theorem mem_activeBank {c : Nat × Word} (h : c ∈ s.regs.filter (fun c => ingBankOf c.1 == some s.ingActive)) : ingBankOf c.1 = some s.ingActive :=
  beq_iff_eq.1 (List.mem_filter.1 h).2

theorem bankCopied_stat (h : s.rdB ING_STAT ING_STAT_COPY_BUSY = true) : s.bankCopied.rdW ING_STAT = s.rdW ING_STAT := by
  have set : cget resetWord s.regs ING_STAT ≠ resetWord ING_STAT := by
    intro e
    have busy : (fget ING_STAT_COPY_BUSY (resetWord ING_STAT) != 0) = true := (congrArg (fun w => fget ING_STAT_COPY_BUSY w != 0) e).symm.trans h
    exact absurd busy (by decide +kernel)
  exact (rdW_foldl_wrW_ne _ { s with regs := _ } fun c hc => ne_otherBank (mem_activeBank hc) (by decide)).trans
    (cget_cerase_of_ne (p := fun k => ingBankOf k == some (1 - s.ingActive)) rfl set)

theorem bankCopied_word (canon : cwf resetWord s.regs = true) {a : Nat} {w : Word} (h : (a, w) ∈ s.regs) (ha : ingBankOf a = some s.ingActive) :
    s.bankCopied.rdW (otherBank s.ingActive a) = w := by
  have mem : (a, w) ∈ s.regs.filter (fun c => ingBankOf c.1 == some s.ingActive) := List.mem_filter.2 ⟨h, beq_iff_eq.2 ha⟩
  refine rdW_copied (f := otherBank s.ingActive) _ _ ?_ (a, w) mem
  exact ((pairwise_of_cwf canon).filter _).imp_of_mem fun hx hy lt => otherBank_ne (mem_activeBank hx) (mem_activeBank hy) lt

theorem loadShow_words (s : State) {a : Nat} (h : a ≠ ING_LOAD) : s.loadShow.rdW a = s.rdW a :=
  (State.rdW_wr_ne _ _ _ h).trans (State.rdW_wr_ne _ _ _ h)

theorem ingActive_lt (s : State) : s.ingActive < 2 := s.rd_lt ING_STAT ING_STAT_ACTIVE

theorem completes_bankCopyComplete (h : s.rdB ING_STAT ING_STAT_COPY_BUSY = true) : Completes (.bankCopyComplete t) s fun u =>
    u.rdB ING_STAT ING_STAT_COPY_BUSY = false ∧ u.ingActive = s.ingActive ∧
      (cwf resetWord s.regs = true → ∀ i w, i < 262144 → (ING_STATIC s.ingActive i, w) ∈ s.regs → u.rdW (ING_STATIC (1 - s.ingActive) i) = w) := by
  have stat : (((s.advance t).bankCopied.wrB ING_STAT ING_STAT_COPY_BUSY false).loadShow).rdW ING_STAT
      = ((s.advance t).bankCopied.wrB ING_STAT ING_STAT_COPY_BUSY false).rdW ING_STAT := loadShow_words _ (by decide)
  refine completes_of_eq (g := opBankCopyComplete) rfl (opBankCopyComplete_busy (s := s.advance t) h)
    ⟨(State.rdB_congr stat _).trans (State.rdB_wrB_same _ _ _ _ (by decide) rfl), ?_, fun canon i w hi hw => ?_⟩
  · exact (State.rd_congr stat _).trans ((State.ingActive_wrB _ _ (by decide) (by decide)).trans
      (State.rd_congr (bankCopied_stat (s := s.advance t) h) _))
  · have active := ingActive_lt s
    have bank : ingBankOf (ING_STATIC s.ingActive i) = some s.ingActive := by
      unfold ingBankOf ING_STATIC
      rcases Nat.lt_succ_iff_lt_or_eq.1 active with lt | e
      · rw [Nat.lt_one_iff.1 lt, if_pos (by omega)]
      · rw [e, if_neg (by omega), if_pos (by omega)]
    have addr : ING_STATIC (1 - s.ingActive) i = otherBank s.ingActive (ING_STATIC s.ingActive i) := by
      unfold otherBank ING_STATIC
      split <;> omega
    rw [addr]
    have ne : otherBank s.ingActive (ING_STATIC s.ingActive i) ≠ ING_LOAD ∧ otherBank s.ingActive (ING_STATIC s.ingActive i) ≠ ING_STAT := by
      rw [← addr]
      unfold ING_STATIC ING_LOAD ING_STAT
      omega
    exact (loadShow_words _ ne.1).trans ((State.rdW_wrB_ne _ _ _ ne.2).trans (bankCopied_word (s := s.advance t) canon hw bank))

/-- Settles O12. -/
theorem streamBankRules : Obligations.StreamBankRules := by
  refine ⟨?flip, ?rejected, ?cancel, ?late, ?copy, ?pending, ?complete⟩
  case flip => exact fun t s idle ok => completes_ingFlip idle ok
  case rejected => exact fun t s idle bad => completes_ingFlip_rejected idle bad
  case cancel =>
    intro t x s h off
    have off' : ¬ ((s.advance t).gridOn = true ∧ x.eff ≤ s.tim.nextRound ∧ (s.advance t).nextT ≤ (s.advance t).dom + 1000) :=
      fun ⟨on, _⟩ => absurd (off.symm.trans on) (by decide)
    refine completes_of_eq (t := t) (g := opIngCancel) rfl ((opIngCancel_some (s := s.advance t) h).trans (if_neg off')) ⟨?_, rfl, rfl, ?_⟩
    · exact State.rdB_wrB_same _ _ _ _ (by decide) rfl
    · exact fun a h => State.rdW_wrB_ne _ _ _ fun e => h (List.mem_singleton.2 e)
  case late =>
    intro t x s h on eff near
    exact completes_of_eq (t := t) (g := opIngCancel) rfl ((opIngCancel_some (s := s.advance t) h).trans (if_pos ⟨on, eff, near⟩)) rfl
  case copy =>
    intro t s idle free
    have go : ¬ ((s.advance t).ing.flip.isSome = true ∨ (s.advance t).rdB ING_STAT ING_STAT_COPY_BUSY = true) := by
      change ¬ (s.ing.flip.isSome = true ∨ s.rdB ING_STAT ING_STAT_COPY_BUSY = true)
      rw [idle, free]
      decide
    exact completes_of_eq (t := t) (g := opIngCopy) rfl (if_neg go) ⟨State.rdB_wrB_same _ _ _ _ (by decide) rfl, rfl,
      ((OnlyWords.wrB (s.advance t) ING_STAT_COPY_BUSY true (List.mem_singleton.2 rfl)).2 : _)⟩
  case pending => exact fun t s h => completes_of_eq (t := t) (g := opIngCopy) rfl (if_pos (.inl h)) rfl
  case complete => exact fun t s h => completes_bankCopyComplete h

end Sys2Proof.Machine
end

section
/-! What the outputs' following of their sources (R318 to R330) leaves as it was: every word below the publishers' that is not OUT_BIND_VAL
or a level, the acquisition's state, the trip registers and memory. -/

namespace Sys2Proof.Machine

/-- A word that neither the outputs' levels nor a publisher's or a slot's state stand in. -/
abbrev SettleWord (a : Nat) : Prop := a < OUT_TRIP_LEVEL ∨ 0x08000440 ≤ a ∧ a < 0x08020000 ∨
  0x09000000 ≤ a ∧ a / 2 ^ 24 ≠ 0x0A ∧ a / 2 ^ 24 ≠ 0x10 ∧ a % 64 < 44

/-- What the outputs' following leaves. -/
structure Settled (s u : State) : Prop where
  words : ∀ a, SettleWord a → u.rdW a = s.rdW a
  counts : ∀ a, a < 0x08A00000 → u.count a = s.count a
  acq : u.acq = s.acq
  trip : u.out.trip = s.out.trip
  mem : u.mem = s.mem
  rest : u = { s with regs := u.regs, cnt := u.cnt, rate := u.rate, alm := u.alm, snap := u.snap, prt := u.prt, out := u.out }

namespace Settled

theorem refl (s : State) : Settled s s := ⟨fun _ _ => rfl, fun _ _ => rfl, rfl, rfl, rfl, rfl⟩

theorem trans {s u v : State} (h : Settled s u) (k : Settled u v) : Settled s v :=
  ⟨fun a ha => (k.words a ha).trans (h.words a ha), fun a ha => (k.counts a ha).trans (h.counts a ha), k.acq.trans h.acq,
    k.trip.trans h.trip, k.mem.trans h.mem, by rw [k.rest, h.rest]⟩

theorem ite {c : Prop} [Decidable c] {s u v : State} (h : Settled s u) (k : Settled s v) : Settled s (if c then u else v) := by
  split <;> assumption

theorem foldl {β : Type} {f : State → β → State} (l : List β) (s : State) (h : ∀ u, ∀ b ∈ l, Settled u (f u b)) : Settled s (l.foldl f s) :=
  List.foldlRecOn (motive := Settled s) l f (.refl s) fun _ ih b hb => ih.trans (h _ b hb)

theorem wrW (s : State) {a : Nat} (w : Word) (h : ¬ SettleWord a) : Settled s (s.wrW a w) :=
  ⟨fun b hb => s.rdW_wrW_ne w (by rintro rfl; exact h hb), fun _ _ => rfl, rfl, rfl, rfl, rfl⟩

theorem bump (s : State) {a : Nat} (n : Nat) (h : 0x08A00000 ≤ a) : Settled s (s.bump a n) :=
  ⟨fun _ _ => rfl, fun b hb => s.count_bump_ne n (by omega), rfl, rfl, rfl, rfl⟩

/-- A change of the outputs' state other than the trip registers. -/
theorem of_fields {s u : State} (regs : u.regs = s.regs) (cnt : u.cnt = s.cnt) (acq : u.acq = s.acq) (trip : u.out.trip = s.out.trip)
    (mem : u.mem = s.mem) (rest : u = { s with
      regs := u.regs, cnt := u.cnt, rate := u.rate, alm := u.alm, snap := u.snap, prt := u.prt, out := u.out } := by rfl) : Settled s u :=
  ⟨fun a _ => State.rdW_congr regs a, fun a _ => State.count_congr cnt a, acq, trip, mem, rest⟩

theorem of_eventOnly {s u : State} (h : EventOnly s u) : Settled s u where
  words a ha := h.words a (not_eventWord (by have := ha; unfold SettleWord OUT_TRIP_LEVEL at this; omega)
    (by have := ha; unfold SettleWord OUT_TRIP_LEVEL at this; omega))
  counts a ha := h.counts a (by omega) (by omega)
  acq := h.acq
  trip := congrArg Out.trip h.out
  mem := h.mem
  rest := by
    have e := (OnlyEvents.of_eventOnly (W := []) (C := []) h).1
    rw [h.now] at e
    rw [e]

end Settled

/-- The words of a publisher that its sending writes. -/
theorem not_settleWord_publisher (p : Nat) {i : Nat} (lo : 11 ≤ i) (hi : i < 15) : ¬ SettleWord (OUT_PUBLISHER p i) := by
  unfold SettleWord OUT_TRIP_LEVEL OUT_PUBLISHER; omega

theorem not_settleWord_slot {slot e : Nat} (hs : slot < 4096) (he : e < 256) : ¬ SettleWord (OUT_SLOT slot e) := by
  unfold SettleWord OUT_TRIP_LEVEL OUT_SLOT; omega

variable (s : State)

/-! ### Publishers -/

theorem settled_grant (x : Nat) (need : KeyNeed) (m : Master) (secure : Bool) : Settled s (s.grant x need m secure).2 := by
  unfold State.grant
  dsimp only
  split
  · exact .bump s 1 (by decide)
  · refine .trans (.bump s 1 ?_) (.of_eventOnly (EventOnly.postLimited _ _ _ _ (by omega)))
    split <;> decide

theorem settled_pubKey (r : PubRec) : Settled s (s.pubKey r).2 := by
  unfold State.pubKey
  split
  · exact settled_grant s _ _ _ _
  · exact .refl s

theorem settled_setPub (p : Nat) (x : Option OutPub) : Settled s (s.setPub p x) := .of_fields rfl rfl rfl rfl rfl

theorem settled_setNums (p st sq : Nat) : Settled s (s.setNums p st sq) :=
  (Settled.wrW s _ (not_settleWord_publisher p (by decide) (by decide))).trans (.wrW _ _ (not_settleWord_publisher p (by decide) (by decide)))

theorem settled_setLastTx (p : Nat) : Settled s (s.setLastTx p) :=
  (Settled.wrW s _ (not_settleWord_publisher p (by decide) (by decide))).trans (.wrW _ _ (not_settleWord_publisher p (by decide) (by decide)))

theorem settled_noteKey (p : Nat) (ok : Bool) : Settled s (s.noteKey p ok) := by
  unfold State.noteKey
  split
  · exact settled_setPub s p _
  · exact .refl s

theorem settled_buildErr (p : Nat) : Settled s (s.buildErr p) :=
  (Settled.bump s 1 (by unfold cntOUT_PUB_BUILD_ERR; omega)).trans (.of_eventOnly (EventOnly.postLimited _ _ _ _ (by omega)))

theorem settled_handOver (cls : Nat) (b : List Byte) : Settled s (s.handOver cls b) := .of_fields rfl rfl rfl rfl rfl

theorem settled_sendKeyed (p : Nat) (r : PubRec) (fills : Nat → Option (List Byte)) (asdus : List (Nat → Option (List Byte))) (ok : Bool) :
    Settled s (s.sendKeyed p r fills asdus ok) := by
  have failed (u : State) : Settled u (u.bump (cntOUT_PUB_BUILD_ERR p) 1) := .bump u 1 (by unfold cntOUT_PUB_BUILD_ERR; omega)
  unfold State.sendKeyed
  split
  · exact .ite ((failed s).trans (.bump _ 1 (by unfold cntOUT_PUB_MUTED; omega))) (failed s)
  · split
    · exact (Settled.bump s 1 (by unfold cntOUT_PUB_FRAMES; omega)).trans (settled_handOver _ _ _)
    · exact settled_buildErr s p

theorem settled_sendPub (p : Nat) (r : PubRec) (fills : Nat → Option (List Byte)) (asdus : List (Nat → Option (List Byte))) :
    Settled s (s.sendPub p r fills asdus) := by
  rw [State.sendPub_eq]
  refine (settled_setLastTx s p).trans (.ite (.ite (.bump _ 1 (by unfold cntOUT_PUB_MUTED; omega)) (.refl _)) ?_)
  exact ((settled_pubKey _ r).trans (settled_noteKey _ _ _)).trans (settled_sendKeyed _ p r fills asdus _)

theorem settled_sendGoose (p : Nat) (r : PubRec) : Settled s (s.sendGoose p r) := by
  unfold State.sendGoose
  split
  · exact .refl _
  · exact settled_sendPub _ p r _ _

theorem settled_restartGoose (p : Nat) (r : PubRec) : Settled s (s.restartGoose p r) := by
  unfold State.restartGoose
  split
  · exact .refl s
  · exact (settled_setPub s p _).trans (settled_sendGoose _ p r)

theorem settled_requestGoose (p : Nat) (r : PubRec) : Settled s (s.requestGoose p r) := by
  unfold State.requestGoose
  split
  · exact .ite (.bump s 1 (by unfold cntOUT_PUB_NO_CHANGE; omega))
      (((settled_setPub s p _).trans (settled_setNums _ p _ _)).trans (settled_restartGoose _ p r))
  · exact settled_buildErr s p
  · exact .refl s

theorem settled_requestSv (p : Nat) (r : PubRec) : Settled s (s.requestSv p r) := by
  unfold State.requestSv
  split
  · exact .refl s
  · exact .ite (settled_setPub s p _) ((settled_setPub s p _).trans (settled_sendPub _ p r _ _))

theorem settled_request (slot : Nat) : Settled s (s.request slot) :=
  .foldl _ s fun u p _ => .ite (settled_requestGoose u p _) (.ite (settled_requestSv u p _) (.refl u))

/-! ### Slots -/

theorem settled_putElems {slot : Nat} (hs : slot < 4096) (byTenant : Bool) {w : List (Nat × Nat)} (hw : ∀ x ∈ w, x.1 < 256) :
    Settled s (s.putElems slot byTenant w) :=
  .foldl w s fun u x hx => (Settled.wrW u _ (not_settleWord_slot hs (hw x hx))).trans (.of_fields rfl rfl rfl rfl rfl)

theorem settled_writeElems {slot : Nat} (hs : slot < 4096) {w : List (Nat × Nat)} (hw : ∀ x ∈ w, x.1 < 256) : Settled s (s.writeElems slot w) := by
  have hold : Settled s { s with out := { s.out with held := s.out.held ++ [.elems slot w] } } := .of_fields rfl rfl rfl rfl rfl
  exact .ite (.refl s) (.ite hold ((settled_putElems s hs false hw).trans (settled_request _ slot)))

/-! ### Bindings and balls -/

theorem settled_setBindVal (ones : List Nat) : Settled s (s.setBitmap OUT_BIND_VAL ones) :=
  .foldl _ s fun u i hi => .wrW u _ (by have := List.mem_range.1 hi; unfold SettleWord OUT_TRIP_LEVEL OUT_BIND_VAL; omega)

theorem settled_settleBalls (vals : List (Nat × Binding × Bool)) : Settled s (s.settleBalls vals) := by
  unfold State.settleBalls
  refine .ite ?balls (.trans ?balls (.of_fields rfl rfl rfl rfl rfl))
  case balls =>
    refine .foldl _ s fun u n _ => .ite (.refl u) ?_
    exact (Settled.wrW u _ (by decide)).trans (.of_eventOnly (.post ..))

theorem State.binding_slot_lt (b : Nat) : (s.binding b).slot < 4096 := Nat.mod_lt _ (by decide)

theorem State.binding_element_lt (b : Nat) : (s.binding b).element < 256 := BitVec.isLt (List.getD (s.regBytes (OUT_BINDING b 0) 32) 8 0)

theorem settled_settle : Settled s s.settle := by
  unfold State.settle
  refine .trans ?_ (settled_settleBalls _ _)
  refine .trans (settled_setBindVal s _) (.foldl _ _ fun u y hy => .ite ?_ (.refl u))
  obtain ⟨b, _, rfl⟩ := List.mem_map.1 hy
  refine .trans ?_ (settled_writeElems _ (s.binding_slot_lt b) fun x hx => ?_)
  · exact .of_fields rfl rfl rfl rfl rfl
  · rw [List.mem_singleton.1 hx]
    exact s.binding_element_lt b

end Sys2Proof.Machine
end

section
/-! Acquisition groups, coefficients and SYNC (R175, R179, R185). -/

namespace Sys2Proof.Machine

/-! ### Resets requested (R186) -/

/-- A status word of a channel or a group stands here. -/
abbrev AcqStatWord (a : Nat) : Prop := 0x04010000 ≤ a ∧ a < 0x04030000 ∧ (a % 64 = 12 ∨ a % 64 = 16)

/-- A reset asked for or withdrawn changes channels and status words alone. -/
structure ResetKept (s u : State) : Prop where
  rest : u = { s with acq := u.acq, regs := u.regs }
  first : u.acq.first = s.acq.first
  words : ∀ a, ¬ AcqStatWord a → u.rdW a = s.rdW a

namespace ResetKept

variable {s u v : State} {c g : Nat}

theorem refl (s : State) : ResetKept s s := ⟨rfl, rfl, fun _ _ => rfl⟩

theorem trans (h : ResetKept s u) (k : ResetKept u v) : ResetKept s v :=
  ⟨by rw [k.rest, h.rest], k.first.trans h.first, fun a ha => (k.words a ha).trans (h.words a ha)⟩

theorem wrB (s : State) {a : Nat} (f : Fld) (b : Bool) (h : AcqStatWord a) : ResetKept s (s.wrB a f b) :=
  ⟨rfl, rfl, fun _ hb => s.rdW_wrB_ne f b (by rintro rfl; exact hb h)⟩

theorem setAcqChan (s : State) (c : Nat) (x : AcqChan) : ResetKept s (s.setAcqChan c x) := ⟨rfl, rfl, fun _ _ => rfl⟩

theorem foldl {β : Type} {f : State → β → State} (l : List β) (s : State) (h : ∀ u, ∀ b ∈ l, ResetKept u (f u b)) : ResetKept s (l.foldl f s) :=
  List.foldlRecOn (motive := ResetKept s) l f (.refl s) fun _ ih b hb => ih.trans (h _ b hb)

theorem groupOn (h : ResetKept s u) (g : Nat) : u.groupOn g = s.groupOn g :=
  State.rdB_congr (h.words _ (by unfold AcqStatWord ACQ_GRP_CFG; omega)) _

theorem mask (h : ResetKept s u) (g : Nat) : u.rd (ACQ_GRP_MASK g) ACQ_GRP_MASK_MASK = s.rd (ACQ_GRP_MASK g) ACQ_GRP_MASK_MASK :=
  State.rd_congr (h.words _ (by unfold AcqStatWord ACQ_GRP_MASK; omega)) _

theorem groupOf (h : ResetKept s u) (c : Nat) : u.groupOf c = s.groupOf c := by
  unfold State.groupOf
  simp only [h.groupOn, h.mask]

theorem chanOn (h : ResetKept s u) (c : Nat) : u.chanOn c = s.chanOn c :=
  State.rdB_congr (h.words _ (by unfold AcqStatWord ACQ_CH_CFG; omega)) _

theorem mclkSet (h : ResetKept s u) : u.mclkSet = s.mclkSet := State.rdB_congr (h.words _ (by decide)) _

theorem grid (h : ResetKept s u) : u.rdW TIM_GRID = s.rdW TIM_GRID := h.words _ (by decide)

theorem groupPreset (h : ResetKept s u) (g : Nat) : u.groupPreset g = s.groupPreset g := by
  have cfg : u.rdW (ACQ_GRP_CFG g) = s.rdW (ACQ_GRP_CFG g) := h.words _ (by unfold AcqStatWord ACQ_GRP_CFG; omega)
  unfold State.groupPreset State.preset State.rd
  rw [cfg, h.grid]

theorem dom (h : ResetKept s u) : u.dom = s.dom := by
  rw [h.rest]
  rfl

theorem edgeAfter (h : ResetKept s u) : u.edgeAfter = s.edgeAfter := by
  have mclk : u.mclk = s.mclk := by
    unfold State.mclk State.fs State.mclkPer State.rd
    rw [h.grid]
  unfold State.edgeAfter State.edgeNow
  rw [mclk, h.dom, h.first]

end ResetKept

theorem acqStatWord_channel {c : Nat} (h : c < 32) : AcqStatWord (ACQ_CH_STAT c) := by unfold AcqStatWord ACQ_CH_STAT; omega

theorem acqStatWord_group {g : Nat} (h : g < 8) : AcqStatWord (ACQ_GRP_STAT g) := by unfold AcqStatWord ACQ_GRP_STAT; omega

theorem acqStat_channel_ne_group (c g : Nat) : ACQ_CH_STAT c ≠ ACQ_GRP_STAT g := by
  unfold ACQ_CH_STAT ACQ_GRP_STAT; omega

theorem acqStat_channel_ne {c d : Nat} (h : c ≠ d) : ACQ_CH_STAT c ≠ ACQ_CH_STAT d := by unfold ACQ_CH_STAT; omega

theorem resetKept_setReset (s : State) {c : Nat} (h : c < 32) (at_ : Option Nat) : ResetKept s (s.setReset c at_) := by
  have shown := (ResetKept.setAcqChan s c { s.acqChan c with resetAt := at_ }).trans
    (.wrB _ ACQ_CH_STAT_RESET_PENDING at_.isSome (acqStatWord_channel h))
  unfold State.setReset
  dsimp only
  split
  next g hg => exact shown.trans (.wrB _ _ _ (acqStatWord_group (State.groupOf_lt hg)))
  next => exact shown

/-- What a reset asked for or withdrawn leaves of the channels and their status words. -/
theorem setReset_chan (s : State) (c : Nat) (at_ : Option Nat) :
    (s.setReset c at_).acq.chans = cset (fun _ => {}) s.acq.chans c { s.acqChan c with resetAt := at_ } ∧
      ∀ d < 32, (s.setReset c at_).rdW (ACQ_CH_STAT d)
        = (s.wrB (ACQ_CH_STAT c) ACQ_CH_STAT_RESET_PENDING at_.isSome).rdW (ACQ_CH_STAT d) := by
  unfold State.setReset
  dsimp only
  split
  · exact ⟨rfl, fun _ _ => State.rdW_wrB_ne _ _ _ (acqStat_channel_ne_group _ _)⟩
  · exact ⟨rfl, fun _ _ => rfl⟩

theorem setReset_acqChan (s : State) (c : Nat) (at_ : Option Nat) : (s.setReset c at_).acqChan c = { s.acqChan c with resetAt := at_ } := by
  rw [State.acqChan, (setReset_chan s c at_).1, cget_cset_same]

theorem setReset_acqChan_ne (s : State) {c d : Nat} (ne : d ≠ c) (at_ : Option Nat) : (s.setReset c at_).acqChan d = s.acqChan d := by
  rw [State.acqChan, (setReset_chan s c at_).1, cget_cset_ne _ _ _ ne, State.acqChan]

theorem setReset_pending (s : State) {c : Nat} (h : c < 32) (at_ : Option Nat) :
    (s.setReset c at_).rdB (ACQ_CH_STAT c) ACQ_CH_STAT_RESET_PENDING = at_.isSome :=
  (State.rdB_congr ((setReset_chan s c at_).2 c h) _).trans (State.rdB_wrB_same _ _ _ _ (by decide) rfl)

theorem setReset_stat_ne (s : State) {c d : Nat} (hd : d < 32) (ne : d ≠ c) (at_ : Option Nat) :
    (s.setReset c at_).rdW (ACQ_CH_STAT d) = s.rdW (ACQ_CH_STAT d) :=
  ((setReset_chan s c at_).2 d hd).trans (State.rdW_wrB_ne _ _ _ (acqStat_channel_ne ne))

/-- The edge of a reset of a group's channel, asked for now. -/
def State.resetEdge (s : State) (g : Nat) : Nat :=
  nextEdge s.edgeAfter (delay2 (s.groupPreset g).1 (s.groupPreset g).2 / 2 % (2 * (s.groupPreset g).2)) (2 * (s.groupPreset g).2)

theorem ResetKept.resetEdge {s u : State} (h : ResetKept s u) (g : Nat) : u.resetEdge g = s.resetEdge g := by
  unfold State.resetEdge
  rw [h.edgeAfter, h.groupPreset]

theorem resetKept_requestReset (s : State) {c : Nat} (h : c < 32) : ResetKept s (s.requestReset c) := by
  unfold State.requestReset
  split
  · exact .refl s
  · exact (ResetKept.setAcqChan s c _).trans (resetKept_setReset _ h _)

theorem requestReset_pending {s : State} {c e : Nat} (h : (s.acqChan c).resetAt = some e) : s.requestReset c = s :=
  if_pos (by simp [h])

theorem requestReset_free {s : State} {c g : Nat} (run : s.mclkSet = true) (free : (s.acqChan c).resetAt = none) (on : s.chanOn c = true)
    (hg : s.groupOf c = some g) : s.requestReset c =
      (s.setAcqChan c { s.acqChan c with src := s.rd (ACQ_CH_CFG c) ACQ_CH_CFG_SRC }).setReset c (some (s.resetEdge g)) := by
  unfold State.requestReset
  rw [if_neg (by simp [run, free, on]), hg]
  rfl

theorem requestReset_acqChan_ne (s : State) {c d : Nat} (ne : d ≠ c) : (s.requestReset c).acqChan d = s.acqChan d := by
  unfold State.requestReset
  split
  · rfl
  · exact (setReset_acqChan_ne _ ne _).trans (cget_cset_ne _ _ _ ne)

theorem requestReset_stat_ne (s : State) {c d : Nat} (hd : d < 32) (ne : d ≠ c) :
    (s.requestReset c).rdW (ACQ_CH_STAT d) = s.rdW (ACQ_CH_STAT d) := by
  unfold State.requestReset
  split
  · rfl
  · exact setReset_stat_ne _ hd ne _

/-- Channel `c`, of group `g`, has the reset it had, or one at the group's next edge. -/
structure ResetAsked (s u : State) (g c : Nat) : Prop where
  edge : (u.acqChan c).resetAt = some ((s.acqChan c).resetAt.getD (s.resetEdge g))
  pending : (s.acqChan c).resetAt = none → u.rdB (ACQ_CH_STAT c) ACQ_CH_STAT_RESET_PENDING = true

theorem resetAsked_requestReset {s : State} {c g : Nat} (h : c < 32) (run : s.mclkSet = true) (on : s.chanOn c = true)
    (hg : s.groupOf c = some g) : ResetAsked s (s.requestReset c) g c := by
  cases e : (s.acqChan c).resetAt with
  | some x =>
    rw [requestReset_pending e]
    exact ⟨by rw [e]; rfl, fun no => nomatch e.symm.trans no⟩
  | none =>
    rw [requestReset_free run e on hg]
    exact ⟨by rw [setReset_acqChan _ c, e]; rfl, fun _ => setReset_pending _ h _⟩

theorem resetAsked_foldl {g : Nat} : ∀ (l : List Nat) (s : State), l.Nodup → s.mclkSet = true →
    (∀ c ∈ l, c < 32 ∧ s.chanOn c = true ∧ s.groupOf c = some g) → ∀ c ∈ l, ResetAsked s (l.foldl (fun u c => u.requestReset c) s) g c
  | [], _, _, _, _, _, h => nomatch h
  | x :: l, s, nodup, run, fit, c, mem => by
    obtain ⟨new, nodup⟩ := List.nodup_cons.1 nodup
    obtain ⟨hx, on, hg⟩ := fit x List.mem_cons_self
    have kept := resetKept_requestReset s hx
    rw [List.foldl_cons]
    rcases List.mem_cons.1 mem with rfl | hc
    · have left : (l.foldl (fun u c => u.requestReset c) (s.requestReset c)).acqChan c = (s.requestReset c).acqChan c ∧
          (l.foldl (fun u c => u.requestReset c) (s.requestReset c)).rdW (ACQ_CH_STAT c) = (s.requestReset c).rdW (ACQ_CH_STAT c) :=
        List.foldlRecOn (motive := fun u : State => u.acqChan c = (s.requestReset c).acqChan c ∧
            u.rdW (ACQ_CH_STAT c) = (s.requestReset c).rdW (ACQ_CH_STAT c)) l _ ⟨rfl, rfl⟩ fun u ih d hd => by
          have ne : c ≠ d := by rintro rfl; exact new hd
          exact ⟨(requestReset_acqChan_ne u ne).trans ih.1, (requestReset_stat_ne u hx ne).trans ih.2⟩
      have asked := resetAsked_requestReset hx run on hg
      exact ⟨(congrArg AcqChan.resetAt left.1).trans asked.edge, fun none => (State.rdB_congr left.2 _).trans (asked.pending none)⟩
    · have ne : c ≠ x := by rintro rfl; exact new hc
      have asked := resetAsked_foldl l (s.requestReset x) nodup (kept.mclkSet.trans run)
        (fun d hd => by rw [kept.chanOn, kept.groupOf]; exact fit d (List.mem_cons_of_mem _ hd)) c hc
      have same : (s.requestReset x).acqChan c = s.acqChan c := requestReset_acqChan_ne s ne
      refine ⟨?_, fun none => asked.pending (by rw [same]; exact none)⟩
      rw [asked.edge, same, kept.resetEdge]

theorem groupChans_lt {s : State} {g c : Nat} (h : c ∈ s.groupChans g) : c < 32 := List.mem_range.1 (List.mem_of_mem_filter h)

theorem nodup_groupChans (s : State) (g : Nat) : (s.groupChans g).Nodup := List.nodup_range.filter _

theorem resetKept_groupChans (s : State) (g : Nat) : ResetKept s ((s.groupChans g).foldl (fun u c => u.requestReset c) s) :=
  .foldl _ s fun u _ hc => resetKept_requestReset u (groupChans_lt hc)

/-! ### A group's configuration (R175) -/

/-- The fields of ACQ_GRP_CFG that a write of `v` gives. -/
def groupWord (v : Word) : Word := fieldsOf [ACQ_GRP_CFG_HANDLE, ACQ_GRP_CFG_PRESET, ACQ_GRP_CFG_TEST, ACQ_GRP_CFG_EN] v

theorem fget_groupWord {f : Fld} (h : f ∈ [ACQ_GRP_CFG_HANDLE, ACQ_GRP_CFG_PRESET, ACQ_GRP_CFG_TEST, ACQ_GRP_CFG_EN]) (v : Word) :
    fget f (groupWord v) = fget f v := fget_fieldsOf (by decide) h v

section

variable {s : State} {g : Nat} {v : Word} (there : s.acqPresent = true) (hg : g < 8)
include there hg

theorem groupWrite_present : ¬ (!s.acqPresent || decide (8 ≤ g)) = true := by simp [there]; omega

theorem groupWrite_enabled (on : s.groupOn g = true) (h : fget ACQ_GRP_CFG_HANDLE v ≠ s.rd (ACQ_GRP_CFG g) ACQ_GRP_CFG_HANDLE) :
    s.groupWrite g v = s.acqRej := by
  unfold State.groupWrite
  rw [show fieldsOf [ACQ_GRP_CFG_HANDLE, ACQ_GRP_CFG_PRESET, ACQ_GRP_CFG_TEST, ACQ_GRP_CFG_EN] v = groupWord v from rfl]
  rw [if_neg (groupWrite_present there hg), if_pos on]
  exact if_pos (.inl fun e => h ((fget_groupWord (by simp) v).symm.trans e))

theorem groupWrite_off (off : s.groupOn g = false) (en : fget ACQ_GRP_CFG_EN v = 0) : s.groupWrite g v =
    ((s.wrW (ACQ_GRP_CFG g) (groupWord v)).wr (ACQ_GRP_STAT g) ACQ_GRP_STAT_MIN_D ((s.wrW (ACQ_GRP_CFG g) (groupWord v)).minD g)) := by
  unfold State.groupWrite
  rw [show fieldsOf [ACQ_GRP_CFG_HANDLE, ACQ_GRP_CFG_PRESET, ACQ_GRP_CFG_TEST, ACQ_GRP_CFG_EN] v = groupWord v from rfl]
  rw [if_neg (groupWrite_present there hg), if_neg (by simp [off]), if_pos ((fget_groupWord (by simp) v).trans en)]

/-- The group's words as its enabling writes them: its configuration, its least delay and RUNNING. -/
def State.groupShown (s : State) (g : Nat) (w : Word) : State :=
  let u := (s.wrW (ACQ_GRP_CFG g) w).wr (ACQ_GRP_STAT g) ACQ_GRP_STAT_MIN_D ((s.wrW (ACQ_GRP_CFG g) w).minD g)
  u.wr ACQ_STAT ACQ_STAT_RUNNING (nsetBit (u.rd ACQ_STAT ACQ_STAT_RUNNING) g true)

theorem groupWrite_on (off : s.groupOn g = false) (en : fget ACQ_GRP_CFG_EN v = 1) (ok : s.groupOk g (groupWord v) = true) : s.groupWrite g v =
    ((((s.groupShown g (groupWord v)).groupChans g).foldl (fun u c => u.requestReset c) (s.groupShown g (groupWord v))).groupPending g).noteBehind g := by
  unfold State.groupWrite
  rw [show fieldsOf [ACQ_GRP_CFG_HANDLE, ACQ_GRP_CFG_PRESET, ACQ_GRP_CFG_TEST, ACQ_GRP_CFG_EN] v = groupWord v from rfl]
  rw [if_neg (groupWrite_present there hg), if_neg (by simp [off]), if_neg (by rw [fget_groupWord (by simp) v, en]; decide),
    if_neg (by rw [ok]; decide)]
  rfl

end

/-- What the end of an enabling leaves of the group's words. -/
theorem noteBehind_words (s : State) {g a : Nat} (h : a ≠ ACQ_GRP_STAT g) (k : a ≠ ACQ_STAT) (block : a / 2 ^ 24 = 4) :
    (s.noteBehind g).rdW a = s.rdW a := by
  have shown (b : Bool) (n : Nat) : ((s.wrB (ACQ_GRP_STAT g) ACQ_GRP_STAT_BEHIND b).wr ACQ_STAT ACQ_STAT_BEHIND n).rdW a = s.rdW a :=
    (State.rdW_wr_ne _ _ _ k).trans (State.rdW_wrB_ne _ _ _ h)
  unfold State.noteBehind
  dsimp only
  split
  · exact ((EventOnly.postLimited _ _ _ _ (almRoute_lt _ _ (by decide))).words a (not_eventWord (by omega) (by omega))).trans (shown _ _)
  · exact shown _ _

theorem noteBehind_running (s : State) (g : Nat) : (s.noteBehind g).rd ACQ_STAT ACQ_STAT_RUNNING = s.rd ACQ_STAT ACQ_STAT_RUNNING := by
  have apart : ACQ_STAT ≠ ACQ_GRP_STAT g := by unfold ACQ_STAT ACQ_GRP_STAT; omega
  have shown (b : Bool) (n : Nat) :
      ((s.wrB (ACQ_GRP_STAT g) ACQ_GRP_STAT_BEHIND b).wr ACQ_STAT ACQ_STAT_BEHIND n).rd ACQ_STAT ACQ_STAT_RUNNING = s.rd ACQ_STAT ACQ_STAT_RUNNING :=
    (State.rd_wr_apart (g := ACQ_STAT_RUNNING) _ _ _ _ (by decide) (by decide) (.inr (by decide))).trans (State.rd_congr (State.rdW_wrB_ne _ _ _ apart) _)
  unfold State.noteBehind
  dsimp only
  split
  · exact ((EventOnly.postLimited _ _ _ _ (almRoute_lt _ _ (by decide))).rd (not_eventWord (by decide) (by decide)) _).trans (shown _ _)
  · exact shown _ _

/-- A group's configuration and its least delay written while it stays off. -/
theorem groupOff_written (s : State) {g n : Nat} {v : Word} (en : fget ACQ_GRP_CFG_EN v = 0) {u : State}
    (h : u = (s.wrW (ACQ_GRP_CFG g) (groupWord v)).wr (ACQ_GRP_STAT g) ACQ_GRP_STAT_MIN_D n) :
    u.groupOn g = false ∧ u.rd (ACQ_GRP_CFG g) ACQ_GRP_CFG_HANDLE = fget ACQ_GRP_CFG_HANDLE v
      ∧ u.rd (ACQ_GRP_CFG g) ACQ_GRP_CFG_PRESET = fget ACQ_GRP_CFG_PRESET v ∧ OnlyWords [ACQ_GRP_CFG g, ACQ_GRP_STAT g] s u := by
  subst h
  have apart : ACQ_GRP_CFG g ≠ ACQ_GRP_STAT g := by unfold ACQ_GRP_CFG ACQ_GRP_STAT; omega
  have cfg : ((s.wrW (ACQ_GRP_CFG g) (groupWord v)).wr (ACQ_GRP_STAT g) ACQ_GRP_STAT_MIN_D n).rdW (ACQ_GRP_CFG g) = groupWord v :=
    (State.rdW_wr_ne _ _ _ apart).trans (State.rdW_wrW_same _ _ _)
  have bit : fget ACQ_GRP_CFG_EN (groupWord v) = 0 := (fget_groupWord (by simp) v).trans en
  refine ⟨?_, ?_, ?_, (OnlyWords.wrW _ _ (by simp)).trans (.wr _ _ _ (by simp))⟩
  · exact (congrArg (fun w => fget ACQ_GRP_CFG_EN w != 0) cfg).trans (by rw [bit]; rfl)
  · exact (congrArg (fget ACQ_GRP_CFG_HANDLE) cfg).trans (fget_groupWord (by simp) v)
  · exact (congrArg (fget ACQ_GRP_CFG_PRESET) cfg).trans (fget_groupWord (by simp) v)

section

variable {s : State} {t g : Nat} {v : Word} (there : s.acqPresent = true) (hg : g < 8)
include there hg

theorem completes_groupEnable_off (off : s.groupOn g = false) (en : fget ACQ_GRP_CFG_EN v = 0) : Completes (.groupEnable t g v) s fun u =>
    u.groupOn g = false ∧ u.rd (ACQ_GRP_CFG g) ACQ_GRP_CFG_HANDLE = fget ACQ_GRP_CFG_HANDLE v
      ∧ u.rd (ACQ_GRP_CFG g) ACQ_GRP_CFG_PRESET = fget ACQ_GRP_CFG_PRESET v ∧ OnlyWords [ACQ_GRP_CFG g, ACQ_GRP_STAT g] s u := by
  obtain ⟨hoff, handle, preset, only⟩ := groupOff_written (s.advance t) (g := g) en (groupWrite_off (s := s.advance t) there hg off en)
  exact completes_of_runAt (t := t) (g := opGroupEnable g v) rfl ⟨hoff, handle, preset, only.after⟩

theorem completes_groupEnable_enabled (on : s.groupOn g = true)
    (h : fget ACQ_GRP_CFG_HANDLE v ≠ s.rd (ACQ_GRP_CFG g) ACQ_GRP_CFG_HANDLE) :
    Completes (.groupEnable t g v) s fun u => u.rdB ACQ_STAT ACQ_STAT_CFG_REJ = true ∧ OnlyWords [ACQ_STAT] s u :=
  completes_of_eq (t := t) (g := opGroupEnable g v) rfl (groupWrite_enabled (s := s.advance t) there hg on h)
    ⟨State.rdB_wrB_same _ _ _ _ (by decide) rfl, OnlyWords.after (t := t) (g := State.acqRej) (.wrB _ _ _ (by simp))⟩

theorem completes_groupEnable_on (off : s.groupOn g = false) (en : fget ACQ_GRP_CFG_EN v = 1)
    (ok : (s.advance t).groupOk g (groupWord v) = true) :
    Completes (.groupEnable t g v) s fun u => u.groupOn g = true ∧ (u.rd ACQ_STAT ACQ_STAT_RUNNING).testBit g = true := by
  have cfgStat : ACQ_GRP_CFG g ≠ ACQ_GRP_STAT g := by unfold ACQ_GRP_CFG ACQ_GRP_STAT; omega
  have cfgAll : ACQ_GRP_CFG g ≠ ACQ_STAT := by unfold ACQ_GRP_CFG ACQ_STAT; omega
  have statAll : ACQ_STAT ≠ ACQ_GRP_STAT g := by unfold ACQ_STAT ACQ_GRP_STAT; omega
  have block : ACQ_GRP_CFG g / 2 ^ 24 = 4 := by unfold ACQ_GRP_CFG; omega
  have kept := resetKept_groupChans ((s.advance t).groupShown g (groupWord v)) g
  refine completes_of_eq (t := t) (g := opGroupEnable g v) rfl (groupWrite_on (s := s.advance t) there hg off en ok) ⟨?_, ?_⟩
  · have cfg : ((s.advance t).groupShown g (groupWord v)).rdW (ACQ_GRP_CFG g) = groupWord v :=
      (State.rdW_wr_ne _ _ _ cfgAll).trans ((State.rdW_wr_ne _ _ _ cfgStat).trans (State.rdW_wrW_same _ _ _))
    have bit : fget ACQ_GRP_CFG_EN (groupWord v) = 1 := (fget_groupWord (by simp) v).trans en
    refine (State.rdB_congr (noteBehind_words _ cfgStat cfgAll block) _).trans ((State.rdB_congr (State.rdW_wrB_ne _ _ _ cfgStat) _).trans
      ((kept.groupOn g).trans ?_))
    exact (congrArg (fun w => fget ACQ_GRP_CFG_EN w != 0) cfg).trans (by rw [bit]; rfl)
  · refine (congrArg (Nat.testBit · g) ((noteBehind_running _ g).trans ((State.rd_congr (State.rdW_wrB_ne _ _ _ statAll) _).trans
      (State.rd_congr (kept.words _ (by decide)) _)))).trans ?_
    exact (State.testBit_rd_wr_nsetBit _ _ (by decide) (by exact hg) true g).trans (if_pos rfl)

end

/-! ### Coefficients (R179) -/

/-- Words copied one by one from places that the copies do not reach. -/
theorem rdW_foldl_copy {src dst : Nat → Nat} : ∀ (l : List Nat) (s : State), l.Pairwise (fun i j => dst i ≠ dst j) →
    (∀ i ∈ l, ∀ j ∈ l, src i ≠ dst j) → ∀ i ∈ l, (l.foldl (fun u i => u.wrW (dst i) (u.rdW (src i))) s).rdW (dst i) = s.rdW (src i)
  | [], _, _, _, _, h => nomatch h
  | x :: l, s, apart, clear, i, hi => by
    obtain ⟨first, apart⟩ := List.pairwise_cons.1 apart
    rw [List.foldl_cons]
    rcases List.mem_cons.1 hi with rfl | hi
    · have kept : (l.foldl (fun u i => u.wrW (dst i) (u.rdW (src i))) (s.wrW (dst i) (s.rdW (src i)))).rdW (dst i)
          = (s.wrW (dst i) (s.rdW (src i))).rdW (dst i) :=
        List.foldlRecOn (motive := fun u : State => u.rdW (dst i) = (s.wrW (dst i) (s.rdW (src i))).rdW (dst i)) l _ rfl
          fun u ih j hj => (u.rdW_wrW_ne _ (first j hj)).trans ih
      rw [kept, State.rdW_wrW_same]
    · have rest := rdW_foldl_copy l (s.wrW (dst x) (s.rdW (src x))) apart
        (fun i hi j hj => clear i (List.mem_cons_of_mem _ hi) j (List.mem_cons_of_mem _ hj)) i hi
      exact rest.trans (s.rdW_wrW_ne _ (clear i (List.mem_cons_of_mem _ hi) x List.mem_cons_self))

theorem takeCoeffs_fir (s : State) (g : Nat) {i : Nat} (h : i < 4) : (s.takeCoeffs g).rdW (ACQ_GRP_FIRA g i) = s.rdW (ACQ_GRP_FIR g i) := by
  have apart : ACQ_GRP_FIRA g i ≠ ACQ_GRP_STAT g := by unfold ACQ_GRP_FIRA ACQ_GRP_STAT; omega
  refine (State.rdW_wrB_ne _ _ _ apart).trans (rdW_foldl_copy (src := ACQ_GRP_FIR g) (dst := ACQ_GRP_FIRA g) (List.range 4) s ?_ ?_ i (List.mem_range.2 h))
  · exact List.nodup_range.imp fun ne => by unfold ACQ_GRP_FIRA; omega
  · intro i hi j hj
    have := List.mem_range.1 hi
    unfold ACQ_GRP_FIR ACQ_GRP_FIRA
    omega

section

variable {s : State} {t g : Nat} (there : s.acqPresent = true) (hg : g < 8)
include there hg

theorem opAcqCommit_off (off : s.groupOn g = false) : opAcqCommit g s = s.takeCoeffs g :=
  (if_neg (groupWrite_present there hg)).trans (if_pos (by simp [off]))

theorem opAcqCommit_on (on : s.groupOn g = true) (free : ∀ x ∈ s.acq.commits, x.1 ≠ g) : opAcqCommit g s =
    ({ s with acq := { s.acq with commits := s.acq.commits ++ [(g, sampleInstant s.fs (sampleAt s.fs s.dom + 1))] } } : State).wrB
      (ACQ_GRP_STAT g) ACQ_GRP_STAT_COMMIT_PENDING true :=
  (if_neg (groupWrite_present there hg)).trans ((if_neg (by simp [on])).trans (if_neg (by simpa using fun x => (free (g, x) · rfl))))

theorem completes_acqCommit_off (off : s.groupOn g = false) : Completes (.acqCommit t g) s fun u =>
    (∀ i, i < 4 → u.rdW (ACQ_GRP_FIRA g i) = s.rdW (ACQ_GRP_FIR g i)) ∧ u.rdB (ACQ_GRP_STAT g) ACQ_GRP_STAT_COMMIT_PENDING = false :=
  completes_of_eq (t := t) (g := opAcqCommit g) rfl (opAcqCommit_off (s := s.advance t) there hg off)
    ⟨fun _ hi => takeCoeffs_fir (s.advance t) g hi, State.rdB_wrB_same _ _ _ _ (by decide) rfl⟩

theorem completes_acqCommit_on (on : s.groupOn g = true) (free : ∀ x ∈ s.acq.commits, x.1 ≠ g) : Completes (.acqCommit t g) s fun u =>
    u.rdB (ACQ_GRP_STAT g) ACQ_GRP_STAT_COMMIT_PENDING = true
      ∧ u.acq.commits = s.acq.commits ++ [(g, sampleInstant u.fs (sampleAt u.fs u.dom + 1))]
      ∧ OnlyWords [ACQ_GRP_STAT g] { s with acq := u.acq } u := by
  have grid : TIM_GRID ≠ ACQ_GRP_STAT g := by unfold TIM_GRID ACQ_GRP_STAT; omega
  have fs (u : State) (b : Bool) : (u.wrB (ACQ_GRP_STAT g) ACQ_GRP_STAT_COMMIT_PENDING b).fs = u.fs := by
    unfold State.fs State.rd
    rw [State.rdW_wrB_ne _ _ _ grid]
  refine completes_of_eq (t := t) (g := opAcqCommit g) rfl (opAcqCommit_on (s := s.advance t) there hg on free) ⟨?_, ?_, rfl, ?_⟩
  · exact State.rdB_wrB_same _ _ _ _ (by decide) rfl
  · exact congrArg (fun f => s.acq.commits ++ [(g, sampleInstant f (sampleAt f (s.advance t).dom + 1))]) (fs _ true).symm
  · exact fun a h => State.rdW_wrB_ne _ _ _ fun e => h (List.mem_singleton.2 e)

end

/-! ### SYNC (R185) -/

section

variable {s : State} {t g : Nat}

theorem opAcqSync_on (hg : g < 8) (on : s.groupOn g = true) : opAcqSync g s = (s.groupChans g).foldl (fun u c => u.requestReset c) s :=
  if_pos (by simp [hg, on])

theorem completes_acqSync_on (hg : g < 8) (on : s.groupOn g = true) (run : s.mclkSet = true)
    (fit : ∀ c ∈ s.groupChans g, s.chanOn c = true ∧ s.groupOf c = some g) :
    Completes (.acqSync t g) s fun u => ∀ c ∈ s.groupChans g,
      (u.acqChan c).resetAt = some ((s.acqChan c).resetAt.getD ((s.advance t).resetEdge g))
        ∧ ((s.acqChan c).resetAt = none → u.rdB (ACQ_CH_STAT c) ACQ_CH_STAT_RESET_PENDING = true) :=
  completes_of_eq (t := t) (g := opAcqSync g) rfl (opAcqSync_on (s := s.advance t) hg on) fun c hc => by
    have asked := resetAsked_foldl (g := g) (s.groupChans g) (s.advance t) (nodup_groupChans s g) run
      (fun d hd => ⟨groupChans_lt hd, fit d hd⟩) c hc
    exact ⟨asked.edge, asked.pending⟩

end

/-! ### A channel's configuration (R175) -/

/-- The fields of ACQ_CH_CFG that a write of `v` gives. -/
def channelWord (v : Word) : Word := fieldsOf [ACQ_CH_CFG_SRC, ACQ_CH_CFG_EDGE, ACQ_CH_CFG_INV, ACQ_CH_CFG_EN] v

theorem fget_channelWord {f : Fld} (h : f ∈ [ACQ_CH_CFG_SRC, ACQ_CH_CFG_EDGE, ACQ_CH_CFG_INV, ACQ_CH_CFG_EN]) (v : Word) :
    fget f (channelWord v) = fget f v := fget_fieldsOf (by decide) h v

section

variable {s : State} {t c : Nat} {v : Word} (there : s.acqPresent = true) (hc : c < 32) (en : fget ACQ_CH_CFG_EN v = 1)
  (src : fget ACQ_CH_CFG_SRC v = s.rd (ACQ_CH_CFG c) ACQ_CH_CFG_SRC)
include there hc en src

theorem channelWrite_word : (s.channelWrite c v).rdW (ACQ_CH_CFG c) = channelWord v := by
  have bit : fget ACQ_CH_CFG_EN (channelWord v) = 1 := (fget_channelWord (by simp) v).trans en
  have same : fget ACQ_CH_CFG_SRC (channelWord v) = s.rd (ACQ_CH_CFG c) ACQ_CH_CFG_SRC := (fget_channelWord (by simp) v).trans src
  have apart : ¬ AcqStatWord (ACQ_CH_CFG c) := by unfold AcqStatWord ACQ_CH_CFG; omega
  unfold State.channelWrite
  rw [show fieldsOf [ACQ_CH_CFG_SRC, ACQ_CH_CFG_EDGE, ACQ_CH_CFG_INV, ACQ_CH_CFG_EN] v = channelWord v from rfl]
  dsimp only
  rw [if_neg (by simp [there]; omega), if_neg (by omega), if_neg (by omega), if_neg (not_not.2 same)]
  split
  · exact ((resetKept_requestReset _ hc).words _ apart).trans (State.rdW_wrW_same _ _ _)
  · exact State.rdW_wrW_same _ _ _

theorem completes_channelSwitch : Completes (.channelSwitch t c v) s fun u =>
    u.rd (ACQ_CH_CFG c) ACQ_CH_CFG_SRC = fget ACQ_CH_CFG_SRC v ∧ u.rdB (ACQ_CH_CFG c) ACQ_CH_CFG_EN = true
      ∧ u.rd (ACQ_CH_CFG c) ACQ_CH_CFG_INV = fget ACQ_CH_CFG_INV v := by
  have word : (s.after t (opChannelSwitch c v)).rdW (ACQ_CH_CFG c) = channelWord v := by
    rw [State.after_rdW]
    exact ((settled_settle _).words _ (.inl (by unfold ACQ_CH_CFG OUT_TRIP_LEVEL; omega))).trans
      (channelWrite_word (s := s.advance t) there hc en src)
  refine completes_of_runAt (t := t) (g := opChannelSwitch c v) rfl ⟨?_, ?_, ?_⟩
  · exact (congrArg (fget ACQ_CH_CFG_SRC) word).trans (fget_channelWord (by simp) v)
  · exact (congrArg (fun w => fget ACQ_CH_CFG_EN w != 0) word).trans (by rw [fget_channelWord (by simp) v, en]; rfl)
  · exact (congrArg (fget ACQ_CH_CFG_INV) word).trans (fget_channelWord (by simp) v)

end

/-- Settles O14. -/
theorem acquisitionSettings : Obligations.AcquisitionSettings := by
  refine ⟨?off, ?enabled, ?on, ?commit, ?stage, ?syncExec, ?sync, ?idle, ?channel⟩
  case off => exact fun t g v s there hg off en => completes_groupEnable_off there hg off en
  case enabled => exact fun t g v s there hg on h => completes_groupEnable_enabled there hg on h
  case on => exact fun t g v s there hg off en ok => completes_groupEnable_on there hg off en ok
  case commit => exact fun t g s there hg off => completes_acqCommit_off there hg off
  case stage => exact fun t g s there hg on free => completes_acqCommit_on there hg on free
  case syncExec => exact fun t g s hg on => exec_congr (t := t) (f := opAcqSync g) rfl (opAcqSync_on (s := s.advance t) hg on)
  case sync => exact fun t g s hg on run fit => completes_acqSync_on hg on run fit
  case idle => exact fun t g s off => completes_of_idle (t := t) (g := opAcqSync g) rfl (if_neg (by rw [show (s.advance t).groupOn g = false from off]; simp))
  case channel => exact fun t c v s there hc en src => completes_channelSwitch there hc en src

end Sys2Proof.Machine
end

section
/-! The bit streams of acquisition channels (R172, R173, R184 to R190): stuck channels, reset instants, fast outputs and trip lanes. -/

namespace Sys2Proof.Machine

variable {s : State} {t c : Nat}

theorem stuckCounter_notEvent (c : Nat) (h : c < 32) : cntACQ_CH_STUCK_EVENTS c / 2 ^ 24 = 4 := by unfold cntACQ_CH_STUCK_EVENTS; omega

theorem chanStat_block (h : c < 32) : ACQ_CH_STAT c / 2 ^ 24 = 4 := by unfold ACQ_CH_STAT; omega

theorem tripStat_block (h : c < 32) : ACQ_TRIP_STAT c / 2 ^ 24 = 4 := by unfold ACQ_TRIP_STAT; omega

theorem not_eventWord_acq {a : Nat} (h : a / 2 ^ 24 = 4) : ¬ eventWord a := not_eventWord (by omega) (by omega)

theorem settleWord_acq {a : Nat} (h : a / 2 ^ 24 = 4) : SettleWord a := .inl (by unfold OUT_TRIP_LEVEL; omega)

theorem chanStat_ne_tripStat (c d : Nat) : ACQ_CH_STAT c ≠ ACQ_TRIP_STAT d := by unfold ACQ_CH_STAT ACQ_TRIP_STAT; omega

theorem acqChan_congr {u : State} (h : u.acq = s.acq) (c : Nat) : u.acqChan c = s.acqChan c := by
  unfold State.acqChan
  rw [h]

/-! ### Stuck channels (R173) -/

/-- The channel's words and counter as the entry into the stuck state leaves them, before it is reported. -/
def State.stuckShown (s : State) (c : Nat) : State :=
  (((((s.setAcqChan c { s.acqChan c with hit := false }).wrB (ACQ_CH_STAT c) ACQ_CH_STAT_STUCK true).wrB (ACQ_CH_STAT c)
    ACQ_CH_STAT_FAST_VALID false).setRun c 0).bump (cntACQ_CH_STUCK_EVENTS c) 1)

theorem stuckEntry_hit (there : s.acqPresent = true) (hc : c < 32) (on : s.chanOn c = true) (run : s.mclkRuns = true) (free : s.stuck c = false)
    (hit : (s.acqChan c).hit = true) :
    s.stuckEntry c = (s.stuckShown c).post 0x0401 (p1 c ++ p1 ((s.stuckShown c).activeSrc c) ++ p8 (s.stuckShown c).dom) := by
  unfold State.stuckEntry
  rw [if_neg (by simp [there, hc, on, run, free, hit])]
  rfl

theorem stuckShown_stat (s : State) (c : Nat) : (s.stuckShown c).rdB (ACQ_CH_STAT c) ACQ_CH_STAT_STUCK = true ∧
    (s.stuckShown c).rdB (ACQ_CH_STAT c) ACQ_CH_STAT_FAST_VALID = false :=
  ⟨(State.rdB_congr (State.rdW_wr_ne _ _ _ (chanStat_ne_tripStat c c)) _).trans ((State.rdB_wr_apart (g := ACQ_CH_STAT_STUCK) _ _ _ _ (by decide) (by decide)
      (.inr (by decide))).trans (State.rdB_wrB_same _ _ _ _ (by decide) rfl)),
    (State.rdB_congr (State.rdW_wr_ne _ _ _ (chanStat_ne_tripStat c c)) _).trans (State.rdB_wrB_same _ _ _ _ (by decide) rfl)⟩

theorem completes_stuckEntry (there : s.acqPresent = true) (hc : c < 32) (on : s.chanOn c = true) (run : (s.advance t).mclkRuns = true)
    (free : s.stuck c = false) (hit : (s.acqChan c).hit = true) : Completes (.stuckEntry t c) s fun u =>
    u.stuck c = true ∧ u.rdB (ACQ_CH_STAT c) ACQ_CH_STAT_FAST_VALID = false ∧ (u.acqChan c).hit = false
      ∧ u.count (cntACQ_CH_STUCK_EVENTS c) = (s.count (cntACQ_CH_STUCK_EVENTS c) + 1) % 2 ^ 64 := by
  have e := stuckEntry_hit (s := s.advance t) there hc on run free hit
  have event : EventOnly ((s.advance t).stuckShown c) ((s.advance t).stuckEntry c) := by
    rw [e]
    exact .post ..
  have stat := event.words _ (not_eventWord_acq (chanStat_block hc))
  have block := stuckCounter_notEvent c hc
  obtain ⟨stuck, valid⟩ := stuckShown_stat (s.advance t) c
  refine completes_of_runAt (t := t) (g := opStuckEntry c) rfl ⟨(State.rdB_congr stat _).trans stuck, (State.rdB_congr stat _).trans valid, ?_, ?_⟩
  · have chan : ((s.advance t).stuckEntry c).acqChan c = { s.acqChan c with hit := false } :=
      (acqChan_congr event.acq c).trans (cget_cset_same _ _ _ _)
    exact congrArg AcqChan.hit chan
  · exact (event.counts _ (by omega) (by omega)).trans (State.count_bump_same _ _ _)

theorem stuckEnd_changed (stuck : s.stuck c = true) (ne : (s.acqChan c).equal ≠ 64) :
    s.stuckEnd c = (s.wrB (ACQ_CH_STAT c) ACQ_CH_STAT_STUCK false).requestReset c := if_pos (by simp [stuck, ne])

theorem requestReset_stuck (s : State) {c : Nat} (hc : c < 32) : (s.requestReset c).stuck c = s.stuck c := by
  unfold State.requestReset
  split
  · rfl
  · exact (State.rdB_congr ((setReset_chan _ c _).2 c hc) _).trans
      (State.rdB_wr_apart (g := ACQ_CH_STAT_STUCK) _ _ _ _ (by decide) (by decide) (.inr (by decide)))

/-! ### Reset instants (R185, R186) -/

/-- The channel as its reset leaves it, before its group's words. -/
def State.resetDone (s : State) (c : Nat) : State :=
  let u := s.setReset c none
  ((u.setAcqChan c { (u.acqChan c).cleared with release := (u.acqChan c).release }).wrB (ACQ_CH_STAT c) ACQ_CH_STAT_FAST_VALID false).setRun c 0

theorem resetDone_facts (s : State) {c : Nat} (hc : c < 32) : (s.resetDone c).acqChan c = { (s.acqChan c).cleared with release := (s.acqChan c).release } ∧
    (s.resetDone c).rdB (ACQ_CH_STAT c) ACQ_CH_STAT_RESET_PENDING = false ∧ (s.resetDone c).rdB (ACQ_CH_STAT c) ACQ_CH_STAT_FAST_VALID = false := by
  refine ⟨?_, ?_, ?_⟩
  · refine (cget_cset_same _ _ _ _).trans ?_
    rw [setReset_acqChan]
    rfl
  · exact (State.rdB_congr (State.rdW_wr_ne _ _ _ (chanStat_ne_tripStat c c)) _).trans ((State.rdB_wr_apart (g := ACQ_CH_STAT_RESET_PENDING) _ _ _ _
      (by decide) (by decide) (.inr (by decide))).trans (setReset_pending s hc none))
  · exact (State.rdB_congr (State.rdW_wr_ne _ _ _ (chanStat_ne_tripStat c c)) _).trans (State.rdB_wrB_same _ _ _ _ (by decide) rfl)

/-- What a reset instant leaves of the channel and of the two bits of its status. -/
structure ChanKept (c : Nat) (s u : State) : Prop where
  chan : u.acqChan c = s.acqChan c
  pending : u.rdB (ACQ_CH_STAT c) ACQ_CH_STAT_RESET_PENDING = s.rdB (ACQ_CH_STAT c) ACQ_CH_STAT_RESET_PENDING
  valid : u.rdB (ACQ_CH_STAT c) ACQ_CH_STAT_FAST_VALID = s.rdB (ACQ_CH_STAT c) ACQ_CH_STAT_FAST_VALID

namespace ChanKept

theorem trans {s u v : State} (h : ChanKept c s u) (k : ChanKept c u v) : ChanKept c s v :=
  ⟨k.chan.trans h.chan, k.pending.trans h.pending, k.valid.trans h.valid⟩

theorem of_word {s u : State} (h : u.acqChan c = s.acqChan c) (k : u.rdW (ACQ_CH_STAT c) = s.rdW (ACQ_CH_STAT c)) : ChanKept c s u :=
  ⟨h, State.rdB_congr k _, State.rdB_congr k _⟩

end ChanKept

/-- The group's words after the reset of one of its channels. -/
theorem chanKept_groupReset (s : State) (c g : Nat) (n : Nat) : ChanKept c s
    ((((if (s.wr (ACQ_CH_STAT c) ACQ_CH_STAT_INVALID_LEFT n).rdB (ACQ_GRP_STAT g) ACQ_GRP_STAT_RUNNING then
        s.wr (ACQ_CH_STAT c) ACQ_CH_STAT_INVALID_LEFT n else (s.wr (ACQ_CH_STAT c) ACQ_CH_STAT_INVALID_LEFT n).fineDone g).bump
      (cntACQ_GRP_RESETS g) 1).wrB (ACQ_GRP_STAT g) ACQ_GRP_STAT_RUNNING true)) := by
  have left : ChanKept c s (s.wr (ACQ_CH_STAT c) ACQ_CH_STAT_INVALID_LEFT n) :=
    ⟨rfl, State.rdB_wr_apart (g := ACQ_CH_STAT_RESET_PENDING) _ _ _ _ (by decide) (by decide) (.inr (by decide)),
      State.rdB_wr_apart (g := ACQ_CH_STAT_FAST_VALID) _ _ _ _ (by decide) (by decide) (.inr (by decide))⟩
  have shown (u : State) : ChanKept c u ((u.bump (cntACQ_GRP_RESETS g) 1).wrB (ACQ_GRP_STAT g) ACQ_GRP_STAT_RUNNING true) :=
    .of_word rfl (State.rdW_wrB_ne _ _ _ (acqStat_channel_ne_group c g))
  refine left.trans (.trans ?_ (shown _))
  split
  · exact .of_word rfl rfl
  · exact .of_word rfl rfl

theorem resetInstant_early {e : Nat} (h : (s.acqChan c).resetAt = some e) (early : s.edgeNow < e) : s.resetInstant c = s := by
  unfold State.resetInstant
  rw [h]
  exact if_pos (by simp [early])

theorem chanKept_resetInstant {e : Nat} (h : (s.acqChan c).resetAt = some e) (due : e ≤ s.edgeNow) (run : s.mclkRuns = true)
    (first : s.outputFirst c e = false) : ChanKept c (s.resetDone c) (s.resetInstant c) := by
  unfold State.resetInstant
  rw [h]
  dsimp only
  rw [if_neg (by simp [run, first]; omega)]
  change ChanKept c (s.resetDone c) (match (s.resetDone c).groupOf c with | some g => _ | none => s.resetDone c)
  split
  · exact chanKept_groupReset _ c _ _
  · exact .of_word rfl rfl

theorem completes_resetInstant {e : Nat} (hc : c < 32) (h : (s.acqChan c).resetAt = some e) (due : e ≤ (s.advance t).edgeNow)
    (run : (s.advance t).mclkRuns = true) (first : (s.advance t).outputFirst c e = false) : Completes (.resetInstant t c) s fun u =>
    u.acqChan c = { (s.acqChan c).cleared with release := (s.acqChan c).release }
      ∧ u.rdB (ACQ_CH_STAT c) ACQ_CH_STAT_RESET_PENDING = false ∧ u.rdB (ACQ_CH_STAT c) ACQ_CH_STAT_FAST_VALID = false := by
  have kept := chanKept_resetInstant (s := s.advance t) h due run first
  obtain ⟨chan, pending, valid⟩ := resetDone_facts (s.advance t) hc
  exact completes_of_runAt (t := t) (g := opResetInstant c) rfl ⟨kept.chan.trans chan, kept.pending.trans pending, kept.valid.trans valid⟩

/-! ### Fast outputs (R184) -/

/-- What a trip lane leaves of its channel: all but the count towards its release. -/
structure LaneKept (c : Nat) (s u : State) : Prop where
  chan : u.acqChan c = { s.acqChan c with release := (u.acqChan c).release }
  stat : u.rdW (ACQ_CH_STAT c) = s.rdW (ACQ_CH_STAT c)

namespace LaneKept

theorem refl (s : State) : LaneKept c s s := ⟨rfl, rfl⟩

theorem trans {s u v : State} (h : LaneKept c s u) (k : LaneKept c u v) : LaneKept c s v :=
  ⟨by rw [k.chan, h.chan], k.stat.trans h.stat⟩

theorem ite {p : Prop} [Decidable p] {s u v : State} (h : LaneKept c s u) (k : LaneKept c s v) : LaneKept c s (if p then u else v) := by
  split <;> assumption

theorem wr (s : State) {a : Nat} (f : Fld) (v : Nat) (h : ACQ_CH_STAT c ≠ a) : LaneKept c s (s.wr a f v) := ⟨rfl, s.rdW_wr_ne f v h⟩

theorem wrW (s : State) {a : Nat} (w : Word) (h : ACQ_CH_STAT c ≠ a) : LaneKept c s (s.wrW a w) := ⟨rfl, s.rdW_wrW_ne w h⟩

theorem wrB (s : State) {a : Nat} (f : Fld) (b : Bool) (h : ACQ_CH_STAT c ≠ a) : LaneKept c s (s.wrB a f b) := wr s f _ h

theorem release (s : State) (n : Nat) : LaneKept c s (s.setAcqChan c { s.acqChan c with release := n }) := by
  have chan : (s.setAcqChan c { s.acqChan c with release := n }).acqChan c = { s.acqChan c with release := n } := cget_cset_same _ _ _ _
  exact ⟨by rw [chan], rfl⟩

theorem of_eventOnly {s u : State} (hc : c < 32) (h : EventOnly s u) : LaneKept c s u := by
  have chan : u.acqChan c = s.acqChan c := acqChan_congr h.acq c
  exact ⟨by rw [chan], h.words _ (not_eventWord_acq (chanStat_block hc))⟩

end LaneKept

theorem laneKept_setRun (s : State) (n : Nat) : LaneKept c s (s.setRun c n) := .wr s _ n (chanStat_ne_tripStat c c)

theorem laneKept_laneOff (s : State) : LaneKept c s (s.laneOff c) :=
  (LaneKept.wrB s _ false (chanStat_ne_tripStat c c)).trans (.wrB _ _ false (chanStat_ne_tripStat c c))

theorem laneKept_asserted (s : State) (x a n : Nat) : LaneKept c s
    ((((s.wrB (ACQ_TRIP_STAT c) ACQ_TRIP_STAT_ACTIVE true).showLatched c).wr64 (ACQ_TRIP_TIME_LO c) (ACQ_TRIP_TIME_HI c) x).bump a n) := by
  have active : LaneKept c s (s.wrB (ACQ_TRIP_STAT c) ACQ_TRIP_STAT_ACTIVE true) := .wrB s _ true (chanStat_ne_tripStat c c)
  have latched (u : State) : LaneKept c u (u.showLatched c) := .wrB u _ _ (chanStat_ne_tripStat c c)
  have time (u : State) : LaneKept c u (u.wr64 (ACQ_TRIP_TIME_LO c) (ACQ_TRIP_TIME_HI c) x) :=
    (LaneKept.wrW u _ (by unfold ACQ_CH_STAT ACQ_TRIP_TIME_LO; omega)).trans (.wrW _ _ (by unfold ACQ_CH_STAT ACQ_TRIP_TIME_HI; omega))
  exact ((active.trans (latched _)).trans (time _)).trans ⟨rfl, rfl⟩

theorem laneKept_tripLane (s : State) (hc : c < 32) (f : Int) (valid : Bool) : LaneKept c s (s.tripLane c f valid) := by
  unfold State.tripLane
  dsimp only
  refine .ite (.refl s) (.ite (laneKept_setRun s 0) (.ite ?qualifies ?quiet))
  case quiet =>
    refine .ite (.trans ?_ (laneKept_laneOff _)) ?_
    all_goals exact (laneKept_setRun s 0).trans (.release _ _)
  case qualifies =>
    refine .ite (.trans ?run (.trans (laneKept_asserted _ _ _ _) (.of_eventOnly hc (.post ..)))) ?run
    exact (LaneKept.release s 0).trans (laneKept_setRun _ _)

/-- The channel's value and its validity as a fast output writes them. -/
def State.fastShown (s : State) (c : Nat) (x : AcqChan) : State :=
  ((s.setAcqChan c x).wr (ACQ_CH_STAT c) ACQ_CH_STAT_FAST (ofSigned 8 (fastValue x.recent))).wrB (ACQ_CH_STAT c) ACQ_CH_STAT_FAST_VALID
    (decide (2 ≤ x.fasts) && !s.stuck c && x.equal != 64)

theorem fastOutput_on {rise fall : List (BitVec 32)} (there : s.acqPresent = true) (hc : c < 32) (on : s.chanOn c = true) (run : s.mclkRuns = true) :
    ∃ f valid, s.fastOutput c rise fall
      = (s.fastShown c { s.fastChan c rise fall with fasts := (s.fastChan c rise fall).fasts + 1 }).tripLane c f valid := by
  unfold State.fastOutput
  rw [if_neg (by simp [there, hc, on, run])]
  have group : (match s.groupOf c with | some g => s.groupPreset g | none => (0, 1)) = (s.groupOf c).elim (0, 1) s.groupPreset := by
    cases s.groupOf c <;> rfl
  rw [State.fastChan, ← group]
  exact ⟨_, _, rfl⟩

theorem fastShown_facts (s : State) (c : Nat) (x : AcqChan) : (s.fastShown c x).acqChan c = x ∧
    (s.fastShown c x).rd (ACQ_CH_STAT c) ACQ_CH_STAT_FAST = ofSigned 8 (fastValue x.recent) ∧
    (s.fastShown c x).rdB (ACQ_CH_STAT c) ACQ_CH_STAT_FAST_VALID = (decide (2 ≤ x.fasts) && !s.stuck c && x.equal != 64) := by
  refine ⟨cget_cset_same _ _ _ _, ?_, ?_⟩
  · refine (State.rd_wr_apart (g := ACQ_CH_STAT_FAST) _ _ _ _ (by decide) (by decide) (.inl (by decide))).trans
      ((State.rd_wr_same _ _ _ _ (by decide)).trans (Nat.mod_eq_of_lt ?_))
    change ofSigned 8 _ < 2 ^ 8
    unfold ofSigned
    omega
  · exact State.rdB_wrB_same _ _ _ _ (by decide) rfl

theorem fastOutput_facts {rise fall : List (BitVec 32)} (there : s.acqPresent = true) (hc : c < 32) (on : s.chanOn c = true)
    (run : s.mclkRuns = true) : (s.fastOutput c rise fall).acqChan c = { s.fastChan c rise fall with
        fasts := (s.fastChan c rise fall).fasts + 1, release := ((s.fastOutput c rise fall).acqChan c).release }
      ∧ (s.fastOutput c rise fall).rd (ACQ_CH_STAT c) ACQ_CH_STAT_FAST = ofSigned 8 (fastValue (s.fastChan c rise fall).recent)
      ∧ (s.fastOutput c rise fall).rdB (ACQ_CH_STAT c) ACQ_CH_STAT_FAST_VALID
        = (decide (2 ≤ (s.fastChan c rise fall).fasts + 1) && !s.stuck c && (s.fastChan c rise fall).equal != 64) := by
  obtain ⟨f, valid, e⟩ := fastOutput_on (rise := rise) (fall := fall) there hc on run
  obtain ⟨chan, value, bit⟩ := fastShown_facts s c { s.fastChan c rise fall with fasts := (s.fastChan c rise fall).fasts + 1 }
  have lane := laneKept_tripLane (s.fastShown c { s.fastChan c rise fall with fasts := (s.fastChan c rise fall).fasts + 1 }) hc f valid
  rw [← e] at lane
  have kept := lane.chan
  rw [chan] at kept
  exact ⟨kept, (State.rd_congr lane.stat _).trans value, (State.rdB_congr lane.stat _).trans bit⟩

/-- A fast output, and the outputs' following of it. -/
theorem opFastOutput_kept (s : State) {c : Nat} (hc : c < 32) (rise fall : List (BitVec 32)) :
    (opFastOutput c rise fall s).rdW (ACQ_CH_STAT c) = (s.fastOutput c rise fall).rdW (ACQ_CH_STAT c) :=
  (settled_settle _).words _ (settleWord_acq (chanStat_block hc))

/-! ### Trip lanes (R190, R191) -/

theorem laneOff_stat (s : State) (c : Nat) : (s.laneOff c).tripActive c = false ∧ (s.laneOff c).rdB (ACQ_TRIP_STAT c) ACQ_TRIP_STAT_LATCHED = false ∧
    (s.laneOff c).rd (ACQ_TRIP_STAT c) ACQ_TRIP_STAT_RUN = s.rd (ACQ_TRIP_STAT c) ACQ_TRIP_STAT_RUN :=
  ⟨(State.rdB_wr_apart (g := ACQ_TRIP_STAT_ACTIVE) _ _ _ _ (by decide) (by decide) (.inr (by decide))).trans (State.rdB_wrB_same _ _ _ _ (by decide) rfl),
    State.rdB_wrB_same _ _ _ _ (by decide) rfl,
    (State.rd_wr_apart (g := ACQ_TRIP_STAT_RUN) _ _ _ _ (by decide) (by decide) (.inl (by decide))).trans
      (State.rd_wr_apart (g := ACQ_TRIP_STAT_RUN) _ _ _ _ (by decide) (by decide) (.inl (by decide)))⟩

theorem opTripLatchRelease_latched (h : s.rdB (ACQ_TRIP_STAT c) ACQ_TRIP_STAT_LATCHED = true) : opTripLatchRelease c s = (s.laneOff c).settle :=
  congrArg State.settle (if_pos h)

theorem completes_tripLatchRelease (hc : c < 32) (h : s.rdB (ACQ_TRIP_STAT c) ACQ_TRIP_STAT_LATCHED = true) : Completes (.tripLatchRelease t c) s fun u =>
    u.tripActive c = false ∧ u.rdB (ACQ_TRIP_STAT c) ACQ_TRIP_STAT_LATCHED = false ∧ u.rd (ACQ_TRIP_STAT c) ACQ_TRIP_STAT_RUN
      = s.rd (ACQ_TRIP_STAT c) ACQ_TRIP_STAT_RUN ∧ u.acq = s.acq := by
  have e := opTripLatchRelease_latched (s := s.advance t) h
  have settled := settled_settle ((s.advance t).laneOff c)
  have stat : (s.after t (opTripLatchRelease c)).rdW (ACQ_TRIP_STAT c) = ((s.advance t).laneOff c).rdW (ACQ_TRIP_STAT c) := by
    rw [State.after_rdW, e]
    exact settled.words _ (settleWord_acq (tripStat_block hc))
  have acq : (s.after t (opTripLatchRelease c)).acq = s.acq := by
    rw [State.after, e]
    exact settled.acq
  obtain ⟨active, latched, run⟩ := laneOff_stat (s.advance t) c
  exact completes_of_runAt (t := t) (g := opTripLatchRelease c) rfl
    ⟨(State.rdB_congr stat _).trans active, (State.rdB_congr stat _).trans latched, (State.rd_congr stat _).trans run, acq⟩

/-- The fields of ACQ_TRIP_CFG that a write of `v` gives. -/
def tripWord (v : Word) : Word := fieldsOf [ACQ_TRIP_CFG_RELEASE, ACQ_TRIP_CFG_K, ACQ_TRIP_CFG_THRESH, ACQ_TRIP_CFG_LATCH, ACQ_TRIP_CFG_MODE,
    ACQ_TRIP_CFG_EN] v

theorem fget_tripWord {f : Fld} (h : f ∈ [ACQ_TRIP_CFG_RELEASE, ACQ_TRIP_CFG_K, ACQ_TRIP_CFG_THRESH, ACQ_TRIP_CFG_LATCH, ACQ_TRIP_CFG_MODE,
    ACQ_TRIP_CFG_EN]) (v : Word) : fget f (tripWord v) = fget f v := fget_fieldsOf (by decide) h v

theorem tripCfgWrite_refused {v : Word} (there : s.acqPresent = true) (hc : c < 32) (mode : fget ACQ_TRIP_CFG_MODE v = 3) :
    s.tripCfgWrite c v = s.acqRej :=
  (if_neg (by simp [there]; omega)).trans (if_pos ((fget_tripWord (by simp) v).trans mode))

theorem tripCfgWrite_word {v : Word} (there : s.acqPresent = true) (hc : c < 32) (mode : fget ACQ_TRIP_CFG_MODE v ≠ 3) :
    (s.tripCfgWrite c v).rdW (ACQ_TRIP_CFG c) = tripWord v := by
  have apart : ACQ_TRIP_CFG c ≠ ACQ_TRIP_STAT c := by unfold ACQ_TRIP_CFG ACQ_TRIP_STAT; omega
  have put (u : State) (w : Word) : ((u.wrW (ACQ_TRIP_CFG c) w).setRun c 0).rdW (ACQ_TRIP_CFG c) = w :=
    (State.rdW_wr_ne _ _ _ apart).trans (State.rdW_wrW_same _ _ _)
  have off (u : State) : (u.laneOff c).rdW (ACQ_TRIP_CFG c) = u.rdW (ACQ_TRIP_CFG c) :=
    (State.rdW_wrB_ne _ _ _ apart).trans (State.rdW_wrB_ne _ _ _ apart)
  have shown (u : State) : (u.showLatched c).rdW (ACQ_TRIP_CFG c) = u.rdW (ACQ_TRIP_CFG c) := State.rdW_wrB_ne _ _ _ apart
  unfold State.tripCfgWrite
  rw [show fieldsOf [ACQ_TRIP_CFG_RELEASE, ACQ_TRIP_CFG_K, ACQ_TRIP_CFG_THRESH, ACQ_TRIP_CFG_LATCH, ACQ_TRIP_CFG_MODE, ACQ_TRIP_CFG_EN] v
    = tripWord v from rfl]
  dsimp only
  rw [if_neg (by simp [there]; omega), if_neg (by rw [fget_tripWord (by simp)]; exact mode)]
  split
  · exact (off _).trans (put _ _)
  · exact (shown _).trans (put _ _)

theorem tripCfg_block (h : c < 32) : ACQ_TRIP_CFG c / 2 ^ 24 = 4 := by unfold ACQ_TRIP_CFG; omega

theorem completes_tripCfg_refused {v : Word} (there : s.acqPresent = true) (hc : c < 32) (mode : fget ACQ_TRIP_CFG_MODE v = 3) :
    Completes (.acqTripCfgWrite t c v) s fun u => u.rdB ACQ_STAT ACQ_STAT_CFG_REJ = true ∧ u.rdW (ACQ_TRIP_CFG c) = s.rdW (ACQ_TRIP_CFG c) := by
  have apart : ACQ_TRIP_CFG c ≠ ACQ_STAT := by unfold ACQ_TRIP_CFG ACQ_STAT; omega
  have word {a : Nat} (block : a / 2 ^ 24 = 4) : (s.after t (opAcqTripCfgWrite c v)).rdW a = (s.advance t).acqRej.rdW a := by
    rw [State.after_rdW, opAcqTripCfgWrite, tripCfgWrite_refused (s := s.advance t) there hc mode]
    exact (settled_settle _).words _ (settleWord_acq block)
  exact completes_of_runAt (t := t) (g := opAcqTripCfgWrite c v) rfl
    ⟨(State.rdB_congr (word (by decide)) _).trans (State.rdB_wrB_same _ _ _ _ (by decide) rfl),
      (word (tripCfg_block hc)).trans (State.rdW_wrB_ne _ _ _ apart)⟩

theorem completes_tripCfg_taken {v : Word} (there : s.acqPresent = true) (hc : c < 32) (mode : fget ACQ_TRIP_CFG_MODE v ≠ 3) :
    Completes (.acqTripCfgWrite t c v) s fun u => u.rd (ACQ_TRIP_CFG c) ACQ_TRIP_CFG_MODE = fget ACQ_TRIP_CFG_MODE v
      ∧ u.rd (ACQ_TRIP_CFG c) ACQ_TRIP_CFG_THRESH = fget ACQ_TRIP_CFG_THRESH v ∧ u.rd (ACQ_TRIP_CFG c) ACQ_TRIP_CFG_K = fget ACQ_TRIP_CFG_K v := by
  have word : (s.after t (opAcqTripCfgWrite c v)).rdW (ACQ_TRIP_CFG c) = tripWord v := by
    rw [State.after_rdW]
    exact ((settled_settle _).words _ (settleWord_acq (tripCfg_block hc))).trans (tripCfgWrite_word (s := s.advance t) there hc mode)
  refine completes_of_runAt (t := t) (g := opAcqTripCfgWrite c v) rfl ⟨?_, ?_, ?_⟩
  · exact (congrArg (fget ACQ_TRIP_CFG_MODE) word).trans (fget_tripWord (by simp) v)
  · exact (congrArg (fget ACQ_TRIP_CFG_THRESH) word).trans (fget_tripWord (by simp) v)
  · exact (congrArg (fget ACQ_TRIP_CFG_K) word).trans (fget_tripWord (by simp) v)

end Sys2Proof.Machine
end

section
/-! The fine outputs of acquisition groups (R182): the sample written, the counts, and the engines that follow it. -/

namespace Sys2Proof.Machine

variable {s : State} {t g : Nat}

/-! ### Laws in use -/

theorem resetWord_lawCfg : ∀ l < 128, (fget CLE_LAW_CFG_VALID (resetWord (CLE_LAW_CFG l)) != 0) = false := by decide +kernel

theorem mem_laws {l : Nat} : l ∈ s.laws ↔ l < 128 ∧ s.rdB (CLE_LAW_CFG l) CLE_LAW_CFG_VALID = true := by
  simp only [State.laws, List.mem_filter, List.mem_filterMap]
  refine and_congr_left fun valid => ⟨fun ⟨c, _, hc⟩ => elemOf_lt hc, fun hl => ?_⟩
  have listed : CLE_LAW_CFG l ∈ ckeys s.regs := mem_ckeys_of_cget_ne (d := resetWord) fun e => by
    have off := resetWord_lawCfg l hl
    rw [← e] at off
    exact absurd (off.symm.trans valid) (by decide)
  obtain ⟨c, hc, hk⟩ := List.mem_map.1 listed
  have addr : c.1 = CLE_LAW_CFG 0 + l * 0x100 := by
    rw [hk]
    unfold CLE_LAW_CFG
    omega
  exact ⟨c, hc, addr ▸ elemOf_mul (CLE_LAW_CFG 0) hl (by decide)⟩

theorem laws_eq_nil_congr {u : State} (h : ∀ a, a / 2 ^ 24 = 6 → u.rdW a = s.rdW a) (none : s.laws = []) : u.laws = [] := by
  refine List.eq_nil_iff_forall_not_mem.2 fun l hl => ?_
  obtain ⟨lt, valid⟩ := mem_laws.1 hl
  have mem : l ∈ s.laws := mem_laws.2 ⟨lt, (State.rdB_congr (h _ (by unfold CLE_LAW_CFG; omega)) _).symm.trans valid⟩
  rw [none] at mem
  exact nomatch mem

/-! ### The values (R180, R181) -/

/-- What computing the channels' values changes: channel status words, two counters and the free values drawn. -/
structure ValuesDone (g : Nat) (s u : State) : Prop where
  rest : u = { s with regs := u.regs, cnt := u.cnt, freeNext := u.freeNext }
  words : ∀ a, ¬ AcqStatWord a → u.rdW a = s.rdW a
  outputs : u.count (cntACQ_GRP_OUTPUTS g) = s.count (cntACQ_GRP_OUTPUTS g)

namespace ValuesDone

theorem refl (s : State) : ValuesDone g s s := ⟨rfl, fun _ _ => rfl, rfl⟩

theorem trans {s u v : State} (h : ValuesDone g s u) (k : ValuesDone g u v) : ValuesDone g s v :=
  ⟨by rw [k.rest, h.rest], fun a ha => (k.words a ha).trans (h.words a ha), k.outputs.trans h.outputs⟩

theorem ite {c : Prop} [Decidable c] {s u v : State} (h : ValuesDone g s u) (k : ValuesDone g s v) : ValuesDone g s (if c then u else v) := by
  split <;> assumption

theorem bump (s : State) {a : Nat} (n : Nat) (h : cntACQ_GRP_OUTPUTS g ≠ a) : ValuesDone g s (s.bump a n) :=
  ⟨rfl, fun _ _ => rfl, s.count_bump_ne n h⟩

end ValuesDone

theorem fineValue_state (s : State) (g c : Nat) : ∃ n, (s.fineValue g c).2.2.2 = { s with freeNext := n } := by
  unfold State.fineValue
  dsimp only
  split_ifs
  all_goals
    split
    · exact ⟨s.freeNext + 1, rfl⟩
    · exact ⟨s.freeNext, rfl⟩

theorem valuesDone_fineValues (g : Nat) : ∀ (l : List Nat) (s : State), (∀ c ∈ l, c < 32) → ValuesDone g s (s.fineValues g l).2
  | [], s, _ => .refl s
  | c :: l, s, h => by
    obtain ⟨n, drawn⟩ := fineValue_state s g c
    have drew : ValuesDone g s (s.fineValue g c).2.2.2 := by
      rw [drawn]
      exact ⟨rfl, fun _ _ => rfl, rfl⟩
    have counted (u : State) (v : Nat) : ValuesDone g u ((u.wr (ACQ_CH_STAT c) ACQ_CH_STAT_INVALID_LEFT v).bump (cntACQ_GRP_INVALID g) 1) :=
      .trans ⟨rfl, fun a ha => u.rdW_wr_ne _ _ (by rintro rfl; exact ha (acqStatWord_channel (h c List.mem_cons_self))), rfl⟩
        (.bump _ 1 (by unfold cntACQ_GRP_OUTPUTS cntACQ_GRP_INVALID; omega))
    rw [State.fineValues]
    refine .trans ?_ (valuesDone_fineValues g l _ fun d hd => h d (List.mem_cons_of_mem _ hd))
    refine .trans (drew.trans ?_) (.ite (.bump _ 1 (by unfold cntACQ_GRP_OUTPUTS cntACQ_GRP_SATURATED; omega)) (.refl _))
    exact .ite (counted _ _) (.refl _)

/-! ### The sample (R158) -/

theorem takeSample_local {h : Nat} {e : StreamEnt} {x : RingEntry} (hold : s.holdsReal h e x.idx = false) (reach : s.ringReaches e x.idx = true) :
    s.takeSample h e x true = (true, s.writeReal h e x) := by
  unfold State.takeSample
  dsimp only
  rw [if_neg (by simp), if_neg (by simp [hold]), reach]

/-- What writing a sample leaves: acquisition, outputs, laws, and the counters up to acquisition's. -/
structure SampleKept (s u : State) : Prop where
  acq : u.acq = s.acq
  out : u.out = s.out
  words : ∀ a, a / 2 ^ 24 = 6 → u.rdW a = s.rdW a
  counts : ∀ a, a / 2 ^ 24 = 4 → u.count a = s.count a

namespace SampleKept

theorem refl (s : State) : SampleKept s s := ⟨rfl, rfl, fun _ _ => rfl, fun _ _ => rfl⟩

theorem trans {s u v : State} (h : SampleKept s u) (k : SampleKept u v) : SampleKept s v :=
  ⟨k.acq.trans h.acq, k.out.trans h.out, fun a ha => (k.words a ha).trans (h.words a ha), fun a ha => (k.counts a ha).trans (h.counts a ha)⟩

theorem ite {c : Prop} [Decidable c] {s u v : State} (h : SampleKept s u) (k : SampleKept s v) : SampleKept s (if c then u else v) := by
  split <;> assumption

theorem bump (s : State) {a : Nat} (n : Nat) (h : a / 2 ^ 24 ≠ 4) : SampleKept s (s.bump a n) :=
  ⟨rfl, rfl, fun _ _ => rfl, fun b hb => s.count_bump_ne n (by rintro rfl; exact h hb)⟩

theorem wrW (s : State) {a : Nat} (w : Word) (h : a / 2 ^ 24 ≠ 6) : SampleKept s (s.wrW a w) :=
  ⟨rfl, rfl, fun b hb => s.rdW_wrW_ne w (by rintro rfl; exact h hb), fun _ _ => rfl⟩

theorem foldl {β : Type} {f : State → β → State} (hf : ∀ s b, SampleKept s (f s b)) : ∀ (l : List β) (s : State), SampleKept s (l.foldl f s)
  | [], s => .refl s
  | b :: l, s => (hf s b).trans (SampleKept.foldl hf l _)

theorem of_eventOnly {s u : State} (h : EventOnly s u) : SampleKept s u :=
  ⟨h.acq, h.out, fun a ha => h.words a (not_eventWord (by omega) (by omega)), fun a ha => h.counts a (by omega) (by omega)⟩

theorem of_fields {s u : State} (acq : u.acq = s.acq) (out : u.out = s.out) (regs : u.regs = s.regs) (cnt : u.cnt = s.cnt) : SampleKept s u :=
  ⟨acq, out, fun a _ => State.rdW_congr regs a, fun a _ => State.count_congr cnt a⟩

end SampleKept

theorem sampleKept_setBytes : ∀ (bs : List Byte) (s : State) (a : Nat), SampleKept s (s.setBytes a bs)
  | [], s, _ => .refl s
  | b :: bs, s, a => .trans (u := s.setByte a b) (.of_fields rfl rfl rfl rfl) (sampleKept_setBytes bs _ _)

theorem sampleKept_markDirty (s : State) (n va : Nat) : SampleKept s (s.markDirty n va) := by
  unfold State.markDirty
  dsimp only
  have logged (u : State) : SampleKept u (if u.rdB (TEN_CFG n) TEN_CFG_PLOG_EN then
      { u with ten := { u.ten with plog := cset (fun _ => false) u.ten.plog (n * 16384 + va / 65536) true } } else u) :=
    .ite (.of_fields rfl rfl rfl rfl) (.refl u)
  have stalled (u : State) (k : Nat) : SampleKept u (({ u with ten := { u.ten with llogCap := cset (fun _ => false) u.ten.llogCap k false } } :
      State).bump (cntTEN_LINE_STALLS n) 1) :=
    .trans (u := { u with ten := { u.ten with llogCap := cset (fun _ => false) u.ten.llogCap k false } }) (.of_fields rfl rfl rfl rfl)
      (.bump _ 1 (by unfold cntTEN_LINE_STALLS; omega))
  have recorded (u : State) (k : Nat) : SampleKept u { u with ten := { u.ten with llogRec := cset (fun _ => false) u.ten.llogRec k true } } :=
    .of_fields rfl rfl rfl rfl
  refine .trans (logged s) ?_
  generalize (if s.rdB (TEN_CFG n) TEN_CFG_PLOG_EN then
      { s with ten := { s.ten with plog := cset (fun _ => false) s.ten.plog (n * 16384 + va / 65536) true } } else s : State) = u
  refine .ite ?_ (.refl u)
  refine .trans ?_ (recorded _ _)
  exact .ite (stalled u _) (.refl u)

theorem sampleKept_store (s : State) (a : Nat) (bs : List Byte) : SampleKept s (s.store a bs) := by
  refine .trans ?_ (sampleKept_setBytes bs _ a)
  refine SampleKept.foldl (fun u x => ?_) _ s
  split
  · split
    · exact sampleKept_markDirty ..
    · exact .refl _
  · exact .refl _

theorem sampleKept_engineWrite (s : State) (req : MemReq) (a : Nat) (bs : List Byte) : SampleKept s (s.engineWrite req a bs) := by
  unfold State.engineWrite
  refine .ite (sampleKept_store s a bs) ?_
  split
  next b hb =>
    have lt := bankOf_lt hb
    exact .trans (.bump s 1 (by unfold cntMEM_BANK_FAULTS; omega)) (.of_eventOnly (eventOnly_bankFault s b req a))
  next => exact .refl s

theorem sampleKept_setRegLe : ∀ (n : Nat) (s : State) (a v : Nat), 0x03C00000 ≤ a → a + n ≤ 0x03D00000 → SampleKept s (s.setRegLe a n v)
  | 0, s, _, _, _, _ => .refl s
  | n + 1, s, a, v, lo, hi =>
    .trans (.wrW s _ (by omega)) (sampleKept_setRegLe n _ (a + 1) (v / 256) (by omega) (by omega))

theorem sampleKept_dynSet (s : State) {h off n : Nat} (lt : h < 16384) (fit : off + n ≤ 64) (v : Nat) : SampleKept s (s.dynSet h off n v) :=
  sampleKept_setRegLe n s _ v (by unfold ING_DYN; omega) (by unfold ING_DYN; omega)

theorem setRegLe_ing : ∀ (n : Nat) (s : State) (a v : Nat), (s.setRegLe a n v).ing = s.ing
  | 0, _, _, _ => rfl
  | n + 1, _, a, v => setRegLe_ing n _ (a + 1) (v / 256)

theorem dynSet_ing (s : State) (h off n v : Nat) : (s.dynSet h off n v).ing = s.ing := setRegLe_ing n s _ v

theorem keepReal_kept (s : State) (h : Nat) (e : StreamEnt) (n : Nat) : SampleKept s (s.keepReal h e n) := by
  unfold State.keepReal
  dsimp only
  refine .ite ?_ (.refl s)
  split
  · exact .of_fields rfl rfl rfl rfl
  · exact .refl s

theorem writeEntry_facts {h : Nat} {e : StreamEnt} {x : RingEntry} (reach : s.ringReaches e x.idx = true) : SampleKept s (s.writeEntry h e x) ∧ ((s.writeEntry h e x).ringPos h (x.idx % e.depth)).real = x.real ∧
    ((s.writeEntry h e x).ringPos h (x.idx % e.depth)).idx = x.idx := by
  unfold State.writeEntry
  rw [if_pos reach]
  have pos (u : State) (p : IngPos) : State.ringPos { u with ing := { u.ing with pos := cset (fun _ => {}) u.ing.pos (h * 4096 + x.idx % e.depth) p } }
      h (x.idx % e.depth) = p := cget_cset_same _ _ _ _
  refine ⟨?_, ?_, ?_⟩
  · have written := (keepReal_kept s h e x.idx).trans (sampleKept_engineWrite _ .ing (e.entryAddr x.idx) (entryBytes e x))
    exact .trans written (.of_fields rfl rfl rfl rfl)
  · exact congrArg IngPos.real (pos _ _)
  · exact congrArg IngPos.idx (pos _ _)

/-- What follows a sample's entry: it is counted, and NEWEST or a counter is written. -/
theorem writeReal_tail {h : Nat} (lt : h < 16384) {e : StreamEnt} (subs : e.subCount = 0) {x : RingEntry} (reach : s.ringReaches e x.idx = true) :
    SampleKept (s.writeEntry h e x) (s.writeReal h e x) ∧ (s.writeReal h e x).ing.pos = (s.writeEntry h e x).ing.pos := by
  have counted : SampleKept (s.writeEntry h e x) ((s.writeEntry h e x).bump cntING_SAMPLES_WRITTEN 1) := .bump _ 1 (by decide)
  have newest (u : State) (y : IngStream) : SampleKept u (u.setIngStream h y) := .of_fields rfl rfl rfl rfl
  have ended (b : Bool) (y : IngStream) : SampleKept (s.writeEntry h e x)
        (if b then (((s.writeEntry h e x).bump cntING_SAMPLES_WRITTEN 1).setIngStream h y).dynSet h 8 4 x.idx
          else ((s.writeEntry h e x).bump cntING_SAMPLES_WRITTEN 1).dynInc h 32 1) ∧
      (if b then (((s.writeEntry h e x).bump cntING_SAMPLES_WRITTEN 1).setIngStream h y).dynSet h 8 4 x.idx
          else ((s.writeEntry h e x).bump cntING_SAMPLES_WRITTEN 1).dynInc h 32 1 : State).ing.pos = (s.writeEntry h e x).ing.pos := by
    cases b
    · exact ⟨counted.trans (sampleKept_dynSet _ lt (by decide) _), congrArg Ing.pos (dynSet_ing _ _ _ _ _)⟩
    · exact ⟨counted.trans ((newest _ _).trans (sampleKept_dynSet _ lt (by decide) _)), (congrArg Ing.pos (dynSet_ing _ h 8 4 x.idx)).trans rfl⟩
  unfold State.writeReal
  dsimp only
  rw [if_pos reach, if_pos subs]
  exact ended _ _

theorem writeReal_facts {h : Nat} (lt : h < 16384) {e : StreamEnt} (subs : e.subCount = 0) {x : RingEntry} (reach : s.ringReaches e x.idx = true) :
    SampleKept s (s.writeReal h e x) ∧ ((s.writeReal h e x).ringPos h (x.idx % e.depth)).real = x.real ∧
      ((s.writeReal h e x).ringPos h (x.idx % e.depth)).idx = x.idx := by
  obtain ⟨kept, real, idx⟩ := writeEntry_facts (h := h) reach
  obtain ⟨tail, pos⟩ := writeReal_tail lt subs reach
  have same : (s.writeReal h e x).ringPos h (x.idx % e.depth) = (s.writeEntry h e x).ringPos h (x.idx % e.depth) := by
    unfold State.ringPos
    rw [pos]
  rw [same]
  exact ⟨kept.trans tail, real, idx⟩

/-! ### The output (R182) -/

/-- The group's state with its channels' values computed. -/
def State.fineComputed (s : State) (g : Nat) : State := ((s.fineDone g).fineValues g ((s.fineDone g).groupChans g)).2

theorem valuesDone_fineComputed (s : State) (g : Nat) : ValuesDone g (s.fineDone g) (s.fineComputed g) :=
  valuesDone_fineValues g _ _ fun _ h => groupChans_lt h

theorem ValuesDone.ringReaches {u : State} (h : ValuesDone g s u) (e : StreamEnt) (n : Nat) : u.ringReaches e n = s.ringReaches e n := by
  have fuses : u.fuses = s.fuses := by rw [h.rest]
  have bank : u.bank = s.bank := by rw [h.rest]
  have ctrl := h.words MEM_CTRL (by decide)
  have stat (b : Nat) : u.rdW (MEM_BANK_STAT b) = s.rdW (MEM_BANK_STAT b) := h.words _ (by unfold AcqStatWord MEM_BANK_STAT; omega)
  unfold State.ringReaches State.engineReaches State.inDram State.dramEnd State.portAServes State.bankState State.servedOwner State.rdB State.rd
  simp only [fuses, bank, ctrl, stat]

theorem ValuesDone.stream {u : State} (h : ValuesDone g s u) {k : Nat} (lt : k < 16384) : u.stream u.ingActive k = s.stream s.ingActive k := by
  have active : u.ingActive = s.ingActive := State.rd_congr (h.words _ (by decide)) _
  have lt2 := ingActive_lt s
  have word (i : Nat) : u.rdW (staticAddr s.ingActive k + 4 * i) = s.rdW (staticAddr s.ingActive k + 4 * i) ∨ 16 ≤ i := by
    by_cases hi : i < 16
    · exact .inl (h.words _ (by unfold AcqStatWord staticAddr ING_STATIC; omega))
    · exact .inr (by omega)
  rw [active]
  unfold State.stream State.regBytes
  have bytes : (List.range ((64 + 3) / 4)).flatMap (fun i => leBytes 4 (u.rdW (staticAddr s.ingActive k + 4 * i)).toNat)
      = (List.range ((64 + 3) / 4)).flatMap (fun i => leBytes 4 (s.rdW (staticAddr s.ingActive k + 4 * i)).toNat) := by
    refine List.flatMap_congr fun i hi => ?_
    have lt16 : i < 16 := List.mem_range.1 hi
    rw [(word i).resolve_right (by omega)]
  rw [bytes]

/-- A sample's output counted, and again when it is late. -/
def State.outputCounted (s : State) (g : Nat) (late : Bool) : State :=
  if late then (s.bump (cntACQ_GRP_OUTPUTS g) 1).bump (cntACQ_GRP_BEHIND g) 1 else s.bump (cntACQ_GRP_OUTPUTS g) 1

theorem outputCounted_rest (s : State) (g : Nat) : ∀ late, s.outputCounted g late = { s with cnt := (s.outputCounted g late).cnt }
  | true => rfl
  | false => rfl

theorem outputCounted_count (s : State) (g : Nat) : ∀ late, (s.outputCounted g late).count (cntACQ_GRP_OUTPUTS g) = (s.count (cntACQ_GRP_OUTPUTS g) + 1) % 2 ^ 64
  | true => (State.count_bump_ne _ _ (by unfold cntACQ_GRP_OUTPUTS cntACQ_GRP_BEHIND; omega)).trans (State.count_bump_same _ _ _)
  | false => State.count_bump_same _ _ _

section

variable {h : Nat} {e : StreamEnt} (there : s.acqPresent = true) (hg : g < 8) (due : s.fineDue g = true) (idle : s.acq.commits = [])
  (hh : s.rd (ACQ_GRP_CFG g) ACQ_GRP_CFG_HANDLE = h) (he : s.stream s.ingActive h = e) (hold : s.holdsReal h e (s.fineIdx g) = false)
  (reach : s.ringReaches e (s.fineIdx g) = true)
include there hg due idle hh he hold reach

/-- The output of a due group: its sample is written in place, counted, and noted as behind or not. -/
theorem fineOutput_due : ∃ (x : RingEntry) (late : Bool), x.idx = s.fineIdx g ∧ x.real = true ∧ s.fineOutput g =
    ((((s.fineComputed g).writeReal h e x).outputCounted g late).noteBehind g, [(h, s.fineIdx g)]) := by
  have computed := valuesDone_fineComputed s g
  have lt : h < 16384 := by
    rw [← hh]
    exact s.rd_lt (ACQ_GRP_CFG g) ACQ_GRP_CFG_HANDLE
  have handle : (s.fineComputed g).rd (ACQ_GRP_CFG g) ACQ_GRP_CFG_HANDLE = h :=
    (State.rd_congr (computed.words _ (by unfold AcqStatWord ACQ_GRP_CFG; omega)) _).trans hh
  have stream : (s.fineComputed g).stream (s.fineComputed g).ingActive h = e := (computed.stream lt).trans he
  have reach' : (s.fineComputed g).ringReaches e (s.fineIdx g) = true := (computed.ringReaches e _).trans reach
  have hold' : (s.fineComputed g).holdsReal h e (s.fineIdx g) = false := by
    have ing : (s.fineComputed g).ing = s.ing := by rw [computed.rest]; rfl
    rw [← hold]
    unfold State.holdsReal State.ringPos
    rw [ing]
  have none : (s.fineDone g).acq.commits.find? (fun x => x.1 == g) = none := congrArg (List.find? fun x => x.1 == g) idle
  unfold State.fineOutput
  rw [if_neg (by simp [there, hg, due])]
  unfold State.fineIdx at hold' reach' ⊢
  rcases hp : s.groupPreset g with ⟨n, r⟩
  rw [hp] at reach' hold'
  dsimp only at reach' hold' ⊢
  rw [none]
  dsimp only
  rw [show ((s.fineDone g).fineValues g ((s.fineDone g).groupChans g)).2 = s.fineComputed g from rfl, handle, stream,
    takeSample_local (s := s.fineComputed g) (h := h) (e := e) hold' reach']
  simp only [Bool.true_and, if_true]
  exact ⟨_, _, rfl, rfl, rfl⟩

end

/-- The group's own words written, and at most an event posted. -/
theorem noteBehind_kept (s : State) (hg : g < 8) : SampleKept s (s.noteBehind g) ∧ (s.noteBehind g).ing = s.ing := by
  have shown (b : Bool) (n : Nat) : SampleKept s ((s.wrB (ACQ_GRP_STAT g) ACQ_GRP_STAT_BEHIND b).wr ACQ_STAT ACQ_STAT_BEHIND n) :=
    (SampleKept.wrW s _ (by unfold ACQ_GRP_STAT; omega)).trans (.wrW _ _ (by decide))
  have event (u : State) (p : List Byte) : EventOnly u (u.postLimited (almRoute 0x0402 0) 0x0402 g p) :=
    EventOnly.postLimited _ _ _ _ (almRoute_lt _ _ (by decide))
  unfold State.noteBehind
  dsimp only
  split
  · exact ⟨(shown _ _).trans (.of_eventOnly (event _ _)), (event _ _).ing⟩
  · exact ⟨shown _ _, rfl⟩

theorem svEntry_noPublishers (none : s.livePubs = []) (h n : Nat) : s.svEntry h n = s := by
  unfold State.svEntry
  dsimp only
  split
  · rfl
  · rw [none]
    rfl

theorem cleStream_noLaws (none : s.laws = []) (w : List (Nat × Nat)) : s.cleStream w = s :=
  foldl_eq_start fun b _ => by
    rw [none]
    rfl

/-- An output with no publisher and no law to follow it. -/
theorem opFineOutput_alone {u : State} {h n : Nat} (e : s.fineOutput g = (u, [(h, n)])) (pubs : u.livePubs = []) (laws : u.laws = []) :
    opFineOutput g s = u := by
  unfold opFineOutput
  rw [e]
  dsimp only [List.foldl_cons, List.foldl_nil]
  rw [svEntry_noPublishers pubs, cleStream_noLaws laws]

section

variable {h : Nat} {e : StreamEnt} (there : s.acqPresent = true) (hg : g < 8) (due : s.fineDue g = true) (idle : s.acq.commits = [])
  (hh : s.rd (ACQ_GRP_CFG g) ACQ_GRP_CFG_HANDLE = h) (he : s.stream s.ingActive h = e) (subs : e.subCount = 0)
  (hold : s.holdsReal h e (s.fineIdx g) = false) (reach : s.ringReaches e (s.fineIdx g) = true) (pubs : s.livePubs = []) (laws : s.laws = [])
include there hg due idle hh he subs hold reach pubs laws

theorem opFineOutput_due : (opFineOutput g s).count (cntACQ_GRP_OUTPUTS g) = (s.count (cntACQ_GRP_OUTPUTS g) + 1) % 2 ^ 64
    ∧ ((opFineOutput g s).ringPos h (s.fineIdx g % e.depth)).real = true ∧ ((opFineOutput g s).ringPos h (s.fineIdx g % e.depth)).idx = s.fineIdx g
    ∧ cget (fun _ => 0) (opFineOutput g s).acq.lastOut g = s.edgeNow + 1 := by
  obtain ⟨x, late, idx, real, output⟩ := fineOutput_due there hg due idle hh he hold reach
  have computed := valuesDone_fineComputed s g
  have lt : h < 16384 := by
    rw [← hh]
    exact s.rd_lt (ACQ_GRP_CFG g) ACQ_GRP_CFG_HANDLE
  obtain ⟨written, realAt, idxAt⟩ := writeReal_facts (s := s.fineComputed g) lt subs (x := x) (by rw [computed.ringReaches, idx]; exact reach)
  rw [idx] at realAt idxAt
  generalize (s.fineComputed g).writeReal h e x = w at output written realAt idxAt
  have rest := outputCounted_rest w g late
  have count := outputCounted_count w g late
  generalize w.outputCounted g late = v at output rest count
  obtain ⟨kept, ing⟩ := noteBehind_kept v hg
  have out : (v.noteBehind g).out = s.out := by
    rw [kept.out, rest]
    exact written.out.trans (by rw [computed.rest]; rfl)
  have livePubs : (v.noteBehind g).livePubs = [] := (congrArg (fun o : Out => ckeys o.pubs) out).trans pubs
  have words (a : Nat) (ha : a / 2 ^ 24 = 6) : (v.noteBehind g).rdW a = s.rdW a := by
    rw [kept.words a ha, rest]
    exact (written.words a ha).trans (computed.words a (by unfold AcqStatWord; omega))
  rw [opFineOutput_alone output livePubs (laws_eq_nil_congr words laws)]
  have pos (p : Nat) : (v.noteBehind g).ringPos h p = w.ringPos h p := by
    unfold State.ringPos
    rw [ing, rest]
  refine ⟨?_, (congrArg IngPos.real (pos _)).trans (realAt.trans real), (congrArg IngPos.idx (pos _)).trans idxAt, ?_⟩
  · have block : cntACQ_GRP_OUTPUTS g / 2 ^ 24 = 4 := by unfold cntACQ_GRP_OUTPUTS; omega
    rw [kept.counts _ block, count, written.counts _ block, computed.outputs]
    rfl
  · rw [kept.acq, rest]
    refine (congrArg (fun q : Acq => cget (fun _ => 0) q.lastOut g) (written.acq.trans (show _ = (s.fineDone g).acq by rw [computed.rest]))).trans ?_
    exact cget_cset_same _ _ _ _

end

theorem completes_fineOutput {h : Nat} {e : StreamEnt} (there : s.acqPresent = true) (hg : g < 8) (due : (s.advance t).fineDue g = true)
    (idle : s.acq.commits = []) (hh : s.rd (ACQ_GRP_CFG g) ACQ_GRP_CFG_HANDLE = h) (he : s.stream s.ingActive h = e) (subs : e.subCount = 0)
    (hold : s.holdsReal h e ((s.advance t).fineIdx g) = false) (reach : s.ringReaches e ((s.advance t).fineIdx g) = true)
    (pubs : s.livePubs = []) (laws : s.laws = []) : Completes (.fineOutput t g) s fun u =>
      u.count (cntACQ_GRP_OUTPUTS g) = (s.count (cntACQ_GRP_OUTPUTS g) + 1) % 2 ^ 64
        ∧ (u.ringPos h ((s.advance t).fineIdx g % e.depth)).real = true
        ∧ (u.ringPos h ((s.advance t).fineIdx g % e.depth)).idx = (s.advance t).fineIdx g
        ∧ cget (fun _ => 0) u.acq.lastOut g = (s.advance t).edgeNow + 1 :=
  completes_of_runAt (t := t) (g := opFineOutput g) rfl (opFineOutput_due (s := s.advance t) there hg due idle hh he subs hold reach pubs laws)

theorem opFineOutput_idle (h : s.fineDue g = false) : opFineOutput g s = s := by
  have none : s.fineOutput g = (s, []) := if_pos (by simp [h])
  unfold opFineOutput
  rw [none]
  rfl

/-- Settles O15. -/
theorem acquisitionEvents : Obligations.AcquisitionEvents := by
  refine ⟨?stuck, ?notStuck, ?stuckEnd, ?early, ?reset, ?fastExec, ?fastChan, ?fast, ?fineExec, ?fine, ?idle, ?release, ?releaseExec, ?refused, ?taken⟩
  case stuck => exact fun t c s there hc on run free hit => completes_stuckEntry there hc on run free hit
  case notStuck =>
    exact fun t c s _ hit => completes_of_idle (t := t) (g := opStuckEntry c) rfl (if_pos (by
      rw [show ((s.advance t).acqChan c).hit = false from hit]
      simp))
  case stuckEnd =>
    intro t c s hc stuck ne
    refine completes_of_eq (t := t) (g := opStuckEnd c) rfl (stuckEnd_changed (s := s.advance t) stuck ne) ?_
    exact (requestReset_stuck _ hc).trans (State.rdB_wrB_same _ _ _ _ (by decide) rfl)
  case early => exact fun t c e s h early => completes_of_idle (t := t) (g := opResetInstant c) rfl (resetInstant_early (s := s.advance t) h early)
  case reset => exact fun t c e s hc h due run first => completes_resetInstant hc h due run first
  case fastExec => exact fun t c rise fall s => rfl
  case fastChan => exact fun t c rise fall s there hc on run => (fastOutput_facts (s := s.advance t) there hc on run).1
  case fast =>
    intro t c rise fall s there hc on run
    obtain ⟨-, value, valid⟩ := fastOutput_facts (s := s.advance t) (rise := rise) (fall := fall) there hc on run
    have stat : (s.after t (opFastOutput c rise fall)).rdW (ACQ_CH_STAT c) = ((s.advance t).fastOutput c rise fall).rdW (ACQ_CH_STAT c) := by
      rw [State.after_rdW, opFastOutput_kept _ hc]
    exact completes_of_runAt (t := t) (g := opFastOutput c rise fall) rfl ⟨(State.rd_congr stat _).trans value, (State.rdB_congr stat _).trans valid⟩
  case fineExec => exact fun t g s => rfl
  case fine => exact fun t g h e s there hg due idle hh he subs hold reach pubs laws => completes_fineOutput there hg due idle hh he subs hold reach pubs laws
  case idle => exact fun t g s h => completes_of_idle (t := t) (g := opFineOutput g) rfl (opFineOutput_idle (s := s.advance t) h)
  case release => exact fun t c s hc h => completes_tripLatchRelease hc h
  case releaseExec => exact fun t c s _ h => exec_congr (t := t) (f := opTripLatchRelease c) rfl (opTripLatchRelease_latched (s := s.advance t) h)
  case refused => exact fun t c v s there hc mode => completes_tripCfg_refused there hc mode
  case taken => exact fun t c v s there hc mode => completes_tripCfg_taken there hc mode

end Sys2Proof.Machine
end

section
/-! Tenant registers (R225) while outputs, publishers, laws and programs take their safe values (R209). -/

namespace Sys2Proof.Machine

/-- A tenant's register that no publisher's number can reach. -/
abbrev TenWord (a : Nat) : Prop := 0x0F100000 ≤ a ∧ a < 0x10000000 ∧ a % 64 < 44

abbrev TenKept : State → State → Prop := KeepsWords TenWord

theorem Settled.tenKept {s u : State} (h : Settled s u) : TenKept s u :=
  ⟨fun a ha => h.words a (by have := ha; unfold TenWord at this; unfold SettleWord OUT_TRIP_LEVEL; omega)⟩

theorem EventOnly.tenKept {s u : State} (h : EventOnly s u) : TenKept s u :=
  ⟨fun a ha => h.words a (by have := ha; unfold TenWord at this; exact not_eventWord (by omega) (by omega))⟩

/-- A word of a block below the tenants'. -/
theorem tenKept_wrW (s : State) {a : Nat} (w : Word) (h : a < 0x0F100000) : TenKept s (s.wrW a w) := .wrW s w (by unfold TenWord; omega)

theorem tenKept_wr (s : State) {a : Nat} (f : Fld) (v : Nat) (h : a < 0x0F100000) : TenKept s (s.wr a f v) := tenKept_wrW s _ h

theorem tenKept_wrB (s : State) {a : Nat} (f : Fld) (b : Bool) (h : a < 0x0F100000) : TenKept s (s.wrB a f b) := tenKept_wrW s _ h

theorem tenKept_postTenant (s : State) (code : Nat) {n : Nat} (p : List Byte) (h : n < 0x10000) : TenKept s (s.postTenant code n p) :=
  (EventOnly.postTenant s code p h).tenKept

theorem State.lawOwner_lt (s : State) (l : Nat) : s.lawOwner l < 0x10000 := (s.rd_lt _ CLE_LAW_CFG_OWNER).trans (by decide)

theorem State.prgOwner_lt (s : State) (p : Nat) : s.prgOwner p < 0x10000 := (s.rd_lt _ LGE_PRG_CFG_OWNER).trans (by decide)

/-! ### Publishing -/

theorem mem_distinct {x : Nat} : ∀ {l : List Nat}, x ∈ distinct l → x ∈ l
  | [], h => h
  | y :: l, h => by
    rcases List.mem_cons.1 h with rfl | h
    · exact List.mem_cons_self
    · exact List.mem_cons_of_mem _ (mem_distinct (List.mem_of_mem_filter h))

/-- Elements written to slots by an engine. -/
theorem settled_writePublish (s : State) {w : List (Nat × Nat × Nat)} (h : ∀ x ∈ w, x.1 < 4096 ∧ x.2.1 < 256) : Settled s (s.writePublish w) := by
  refine .foldl _ s fun u slot hs => settled_writeElems u ?_ fun x hx => ?_
  · obtain ⟨y, hy, rfl⟩ := List.mem_map.1 (mem_distinct hs)
    exact (h y hy).1
  · obtain ⟨y, hy, rfl⟩ := List.mem_map.1 hx
    exact (h y (List.mem_of_mem_filter hy)).2

theorem mem_slotsOf_lt {s : State} {t slot : Nat} (h : slot ∈ s.slotsOf t) : slot < 4096 := by
  obtain ⟨c, -, hc⟩ := List.mem_filterMap.1 (List.mem_of_mem_filter h)
  exact elemOf_lt hc

theorem settled_slotsSafe (s : State) (t : Nat) : Settled s (s.slotsSafe t) := by
  refine .foldl _ s fun u slot hs => ?_
  have lt := mem_slotsOf_lt hs
  have queued : Settled u (u.setQueue slot []) := .of_fields rfl rfl rfl rfl rfl
  refine queued.trans (.ite (.refl _) (.trans (settled_putElems _ lt true fun x hx => ?_) (settled_request _ slot)))
  obtain ⟨e, he, rfl⟩ := List.mem_map.1 hx
  obtain ⟨c, -, rfl⟩ := List.mem_map.1 he
  exact Nat.mod_lt _ (by decide)

/-! ### Laws -/

section

variable (s : State) {l : Nat} (hl : l < 128)
include hl

theorem lawState_lt : CLE_LAW_STATE l < 0x0F100000 := by unfold CLE_LAW_STATE; omega

theorem tenKept_lawPending : TenKept s (s.lawPending l) := by
  have lt := lawState_lt hl
  exact (((tenKept_wrB s _ _ lt).trans (tenKept_wrB _ _ _ lt)).trans (tenKept_wrB _ _ _ lt)).trans (tenKept_wrB _ _ _ lt)

theorem tenKept_dropStages (p : Nat → Bool) : TenKept s (s.dropStages l p) := by
  refine .trans ?_ (tenKept_lawPending _ hl)
  exact .of_regs rfl

omit hl in
theorem tenKept_restoreI : TenKept s (s.restoreI l) := by
  have lt : s.tunePid l < 2 ^ 11 := s.rd_lt _ CLE_LAW_TUNE_PID
  exact tenKept_wrW s _ (by unfold CLE_BLK_STATE; omega)

omit hl in
theorem tenKept_endTune (status reason : Nat) : TenKept s (s.endTune l status reason) := by
  unfold State.endTune
  dsimp only
  split
  · exact .refl s
  next x _ =>
    refine .trans ?_ (tenKept_postTenant _ _ _ (State.lawOwner_lt _ l))
    exact .of_regs rfl

theorem tenKept_lawLeave (reason : Nat) : TenKept s (s.lawLeave l reason) := by
  have dropped : TenKept s (s.dropEvals l) := .of_regs rfl
  refine dropped.trans (.trans ?_ (tenKept_endTune _ _ _))
  exact .trans (.ite (tenKept_restoreI _) (.refl _)) (tenKept_dropStages _ hl _)

theorem tenKept_lawToggle (bumpless : Bool) : TenKept s (s.lawToggle l bumpless) :=
  .trans (u := s.setLaw l _) (.of_regs rfl) (tenKept_wr _ _ _ (lawState_lt hl))

/-- A swap under way ends with the law. -/
theorem tenKept_lawUnswap : TenKept s (match s.cle.stages.find? (fun x => x.law == l && x.op == 3) with
    | some x => (s.lawToggle l x.bumpless).dropStages l (fun _ => true)
    | none => s) := by
  split
  · exact (tenKept_lawToggle s hl _).trans (tenKept_dropStages _ hl _)
  · exact .refl s

end

theorem mem_lawBlocks_lt {s : State} {l b : Nat} (h : b ∈ s.lawBlocks l) : b < 4096 := by
  obtain ⟨i, hi, rfl⟩ := List.mem_map.1 h
  have count : s.rd (CLE_LAW_CFG l) CLE_LAW_CFG_COUNT < 2 ^ 6 := s.rd_lt _ _
  have first : s.rd (CLE_LAW_CFG l) CLE_LAW_CFG_FIRST < 2 ^ 11 := s.rd_lt _ _
  have := List.mem_range.1 hi
  omega

/-- A value for a slot's element, of a slot and an element that are. -/
abbrev SlotWrites (w : List (Nat × Nat × Nat)) : Prop := ∀ x ∈ w, x.1 < 4096 ∧ x.2.1 < 256

theorem SlotWrites.append {w : List (Nat × Nat × Nat)} (h : SlotWrites w) (a b v : Nat) : SlotWrites (w ++ [(a % 4096, b % 256, v)]) := by
  intro x hx
  rcases List.mem_append.1 hx with hx | hx
  · exact h x hx
  · rw [List.mem_singleton.1 hx]
    exact ⟨Nat.mod_lt _ (by decide), Nat.mod_lt _ (by decide)⟩

theorem tenKept_setBlkState (s : State) {b : Nat} (hb : b < 4096) (v : Nat) : TenKept s (s.setBlkState b 0 v) :=
  tenKept_wrW s _ (by unfold CLE_BLK_STATE; omega)

theorem tenKept_setCleSink (s : State) (n : Nat) (v : Bool) : TenKept s (s.setCleSink n v) := .of_regs rfl

theorem tenKept_markSat (s : State) {b : Nat} (hb : b < 4096) (on : Bool) : TenKept s (s.markSat b on) :=
  .ite (tenKept_wrW s _ (by unfold CLE_BLK_FLAGS; omega)) (.refl s)

theorem tenKept_sinksStop (s : State) (l : Nat) : TenKept s (s.sinksStop l) := by
  unfold State.sinksStop
  dsimp only
  refine .trans ?_ (settled_settle _).tenKept
  generalize hf : (s.lawBlocks l).foldl _ (s, []) = r
  have both : TenKept s r.1 ∧ SlotWrites r.2 := by
    rw [← hf]
    refine List.foldlRecOn (motive := fun r : State × List (Nat × Nat × Nat) => TenKept s r.1 ∧ SlotWrites r.2) _ _ ⟨.refl s, nofun⟩ ?_
    intro r ih b hb
    obtain ⟨kept, writes⟩ := ih
    have lt := mem_lawBlocks_lt hb
    split_ifs
    · exact ⟨kept, writes⟩
    · exact ⟨kept.trans ((tenKept_setCleSink _ _ _).trans (tenKept_setBlkState _ lt 0)), writes⟩
    · split
      · exact ⟨kept.trans ((tenKept_setBlkState _ lt _).trans (tenKept_markSat _ lt _)), writes.append _ _ _⟩
      · exact ⟨kept.trans (.of_regs rfl), writes.append _ _ _⟩
    · exact ⟨kept, writes⟩
  exact both.1.trans (settled_writePublish _ both.2).tenKept

theorem tenKept_setLawState (s : State) {l : Nat} (hl : l < 128) (new cause blk : Nat) : TenKept s (s.setLawState l new cause blk) :=
  (tenKept_wr s _ _ (lawState_lt hl)).trans (tenKept_postTenant _ _ _ (s.lawOwner_lt l))

/-- A law stopped with its sinks at their safe values. -/
theorem tenKept_lawDown (s : State) {l : Nat} (hl : l < 128) (new cause : Nat) : TenKept s ((s.sinksStop l).setLawState l new cause 0).settle.cleLoadShow :=
  (((tenKept_sinksStop s l).trans (tenKept_setLawState _ hl _ _ _)).trans (settled_settle _).tenKept).trans (tenKept_wr _ _ _ (by decide))

theorem tenKept_lawStop (s : State) {l : Nat} (hl : l < 128) (cause : Nat) : TenKept s (s.lawStop l cause) :=
  ((tenKept_lawLeave s hl 5).trans (tenKept_lawUnswap _ hl)).trans (tenKept_lawDown _ hl 0 cause)

theorem mem_lawsOf_lt {s : State} {t l : Nat} (h : l ∈ s.lawsOf t) : l < 128 := (mem_laws.1 (List.mem_of_mem_filter h)).1

theorem tenKept_lawsSuspend (s : State) (t : Nat) : TenKept s (s.lawsSuspend t) := by
  refine .foldl _ s fun u l h => .ite ?_ (.refl u)
  have lt := mem_lawsOf_lt h
  exact ((tenKept_lawLeave u lt 4).trans (tenKept_lawUnswap _ lt)).trans (tenKept_lawDown _ lt 4 3)

theorem tenKept_lawsRelease (s : State) (t : Nat) : TenKept s (s.lawsRelease t) :=
  .foldl _ s fun u _ h => .ite (.refl u) (tenKept_lawStop u (mem_lawsOf_lt h) 10)

/-! ### Programs -/

section

variable (s : State) {p : Nat} (hp : p < 64)
include hp

theorem prgState_lt : LGE_PRG_STATE p < 0x0F100000 := by unfold LGE_PRG_STATE; omega

theorem tenKept_dropExchange : TenKept s (s.dropExchange p) := by
  unfold State.dropExchange
  split
  · exact .refl s
  · refine .trans ?_ (.foldl _ _ fun u i hi => tenKept_wrW u _ (by have := List.mem_range.1 hi; unfold LGE_REPORT; omega))
    refine .trans ?_ (tenKept_wrB _ _ _ (prgState_lt hp))
    exact .of_regs rfl

theorem tenKept_dropScan : TenKept s (s.dropScan p) := by
  refine .trans ?_ (tenKept_wrB _ _ _ (prgState_lt hp))
  refine .trans ?_ (tenKept_wrB _ _ _ (prgState_lt hp))
  exact .of_regs rfl

theorem tenKept_setPrgState (new cause : Nat) : TenKept s (s.setPrgState p new cause) :=
  (tenKept_wr s _ _ (prgState_lt hp)).trans (tenKept_postTenant _ _ _ (s.prgOwner_lt p))

omit hp in
theorem settled_progSafe (skip : OutEntry → Bool) : Settled s (s.progSafe p skip) := by
  unfold State.progSafe
  dsimp only
  refine .trans ?_ (settled_writePublish _ fun x hx => ?_)
  · exact .foldl _ s fun u x _ => .of_fields rfl rfl rfl rfl rfl
  obtain ⟨y, -, rfl⟩ := List.mem_map.1 hx
  exact ⟨Nat.mod_lt _ (by decide), Nat.mod_lt _ (by decide)⟩

omit hp in
/-- A program's outputs at their safe values, and the unit's registers after it. -/
theorem tenKept_progDown : TenKept s ((s.progSafe p (fun _ => false)).settle.lgeLoadShow).unitsShow := by
  refine .trans ?_ (tenKept_wr _ _ _ (by decide))
  refine .trans ?_ (tenKept_wr _ _ _ (by decide))
  exact ((settled_progSafe s _).trans (settled_settle _)).tenKept

theorem tenKept_progStop (cause : Nat) : TenKept s (s.progStop p cause) := by
  refine .trans ?_ (tenKept_progDown _)
  refine .trans ?_ (tenKept_setPrgState _ hp _ _)
  refine .trans ?_ (tenKept_wr _ _ _ (prgState_lt hp))
  exact (tenKept_dropExchange s hp).trans (tenKept_dropScan _ hp)

end

theorem mem_progsOf_lt {s : State} {t p : Nat} (h : p ∈ s.progsOf t) : p < 64 := by
  obtain ⟨c, -, hc⟩ := List.mem_filterMap.1 (List.mem_of_mem_filter (List.mem_of_mem_filter h))
  exact elemOf_lt hc

theorem tenKept_progsSuspend (s : State) (t : Nat) : TenKept s (s.progsSuspend t) := by
  refine .foldl _ s fun u p h => .ite ?_ (.refl u)
  have lt := mem_progsOf_lt h
  refine .trans ?_ (tenKept_progDown _)
  refine .trans ?_ (tenKept_setPrgState _ lt _ _)
  refine .trans ((tenKept_dropExchange u lt).trans (tenKept_dropScan _ lt)) ?_
  exact .of_regs rfl

theorem tenKept_progsRelease (s : State) (t : Nat) : TenKept s (s.progsRelease t) := by
  refine .foldl _ s fun u p h => ?_
  have lt := mem_progsOf_lt h
  exact .trans (.ite (.refl u) (tenKept_progStop u lt 3)) (tenKept_wrB _ _ _ (by unfold LGE_PRG_CFG; omega))

/-! ### Safe values (R209) -/

theorem tenKept_tenSafe (s : State) (t : Nat) : TenKept s (s.tenSafe t) := by
  refine .trans ?_ (settled_settle _).tenKept
  refine .trans ?_ (tenKept_progsSuspend _ t)
  refine .trans ?_ (tenKept_lawsSuspend _ t)
  refine .trans ?_ (settled_slotsSafe _ t).tenKept
  exact .of_regs rfl

end Sys2Proof.Machine
end

section
/-! The tenants' state table (R202), event by event. -/

namespace Sys2Proof.Machine

variable {s : State} {t n : Nat}

/-! ### A tenant's words -/

theorem tenantPresent_lt (h : s.tenantPresent n = true) : n < 512 := by
  have present : n < s.tenants := of_decide_eq_true h
  have count : popcount 8 s.feature ≤ 8 := List.length_filter_le _ _ |>.trans (by simp)
  unfold State.tenants at present
  omega

theorem tenWord_state (h : n < 512) : TenWord (TEN_STATE n) := by unfold TenWord TEN_STATE; omega

theorem tenWord_cmd (h : n < 512) : TenWord (TEN_CMD n) := by unfold TenWord TEN_CMD; omega

theorem tenState_ne_cmd (n : Nat) : TEN_STATE n ≠ TEN_CMD n := by unfold TEN_STATE TEN_CMD; omega

theorem not_eventWord_tenState (h : n < 512) : ¬ eventWord (TEN_STATE n) :=
  not_eventWord (by unfold TEN_STATE; omega) (by unfold TEN_STATE; omega)

theorem tenantPresent_eventOnly {code : Nat} {p : List Byte} (h : n < 512) (u : State) : EventOnly u (u.postTenant code n p) :=
  .postTenant _ _ _ (by omega)

/-! ### The shape of a TEN_CMD command (R202, R225) -/

/-- A command that answers `r` with the machine `u`. -/
theorem tenCmd_ready {body : State → Nat × State} {r : Nat} {u : State} (ready : TenReady s n) (h : body s = (r, u)) :
    s.tenCmd n body = u.wr (TEN_CMD n) TEN_CMD_RESULT r := by
  unfold State.tenCmd
  rw [if_neg (by simp [ready.1, ready.2]), h]

/-- Of a command's answer: RESULT reads as it, and no other word changes. -/
theorem cmdResult (u : State) (n : Nat) {r : Nat} (h : r < 8) : (u.wr (TEN_CMD n) TEN_CMD_RESULT r).rd (TEN_CMD n) TEN_CMD_RESULT = r :=
  (State.rd_wr_same _ _ _ _ (by decide)).trans (Nat.mod_eq_of_lt h)

theorem cmdResult_state (u : State) (n r : Nat) (f : Fld) : (u.wr (TEN_CMD n) TEN_CMD_RESULT r).rd (TEN_STATE n) f = u.rd (TEN_STATE n) f :=
  State.rd_wr_ne _ _ _ _ (tenState_ne_cmd n)

/-- A TEN_CMD command that the state table does not list answers RESULT 1 and changes nothing else. -/
theorem completes_tenCmd_refused {i : Instr} {body : State → Nat × State} (hi : exec i s = .next (s.after t fun m => m.tenCmd n body))
    (ready : TenReady s n) (h : body (s.advance t) = (1, s.advance t)) : Completes i s fun u =>
      u.tenState n = s.tenState n ∧ u.rd (TEN_CMD n) TEN_CMD_RESULT = 1 ∧ OnlyWords [TEN_CMD n] s u :=
  completes_of_eq hi (tenCmd_ready (s := s.advance t) ready h)
    ⟨cmdResult_state (s.advance t) n 1 _, cmdResult (s.advance t) n (by decide),
      OnlyWords.after (t := t) (g := fun m => m.wr (TEN_CMD n) TEN_CMD_RESULT 1) (.wr _ _ _ (by simp))⟩

/-! ### States and staged events -/

theorem setTenState_event (s : State) (h : n < 512) (new cause : Nat) :
    EventOnly (s.wr (TEN_STATE n) TEN_STATE_STATE new) (s.setTenState n new cause) := .postTenant _ _ _ (by omega)

theorem setTenState_state (s : State) (h : n < 512) {new : Nat} (lt : new < 8) (cause : Nat) : (s.setTenState n new cause).tenState n = new :=
  ((setTenState_event s h new cause).rd (not_eventWord_tenState h) _).trans ((State.rd_wr_same _ _ _ _ (by decide)).trans (Nat.mod_eq_of_lt lt))

theorem setTenState_bit (s : State) (h : n < 512) (new cause : Nat) {f : Fld} (hf : f.lo + f.width ≤ 32) (apart : 3 ≤ f.lo) :
    (s.setTenState n new cause).tenBit n f = s.tenBit n f :=
  ((setTenState_event s h new cause).rdB (not_eventWord_tenState h) f).trans
    (State.rdB_wr_apart (f := TEN_STATE_STATE) _ _ _ _ (by decide) hf (.inl apart))

theorem pendingFld_cases (op : Nat) : pendingFld op = TEN_STATE_START_PENDING ∨ pendingFld op = TEN_STATE_STOP_PENDING ∨
    pendingFld op = TEN_STATE_RESUME_PENDING := by
  unfold pendingFld
  split_ifs <;> simp

theorem pendingFld_fits (op : Nat) : 5 ≤ (pendingFld op).lo ∧ (pendingFld op).lo + (pendingFld op).width ≤ 32 ∧ (pendingFld op).width = 1 := by
  rcases pendingFld_cases op with h | h | h <;> rw [h] <;> decide

/-- An event staged for a boundary: the tenant's state stays, its pending bit shows, and only that word changes. -/
theorem stageEventAt_facts (s : State) (n op eff : Nat) : (s.stageEventAt n op eff).tenState n = s.tenState n ∧
    (s.stageEventAt n op eff).tenBit n (pendingFld op) = true ∧ (n, { val := op, eff := eff }) ∈ (s.stageEventAt n op eff).ten.events ∧
    OnlyWords [TEN_STATE n] { s with ten := (s.stageEventAt n op eff).ten } (s.stageEventAt n op eff) := by
  obtain ⟨lo, fits, width⟩ := pendingFld_fits op
  refine ⟨State.rd_wr_apart (g := TEN_STATE_STATE) _ _ _ _ fits (by decide) (.inr ?_), ?_, ?_, rfl, fun a h => ?_⟩
  · exact le_trans (by decide) lo
  · exact State.rdB_wrB_same _ _ _ _ fits width
  · exact List.mem_append_right _ List.mem_cons_self
  · exact State.rdW_wrB_ne _ _ _ fun e => h (List.mem_singleton.2 e)

/-- A staged event's boundary, read from a machine of the same time base. -/
theorem mem_events_stageAt {v w : State} {op : Nat} (h : v.stageAt = w.stageAt) (mem : (n, { val := op, eff := w.stageAt }) ∈ v.ten.events) :
    (n, { val := op, eff := v.stageAt }) ∈ v.ten.events := by
  rw [h]
  exact mem

/-- A TEN_CMD command that leaves its tenant's state with event `op` staged. -/
theorem completes_tenCmd_pending {i : Instr} {body : State → Nat × State} {op : Nat} {w : State}
    (hi : exec i s = .next (s.after t fun m => m.tenCmd n body)) (ready : TenReady s n) (h : body (s.advance t) = (0, w))
    (state : w.tenState n = s.tenState n) (bit : w.tenBit n (pendingFld op) = true)
    (mem : (n, { val := op, eff := (s.advance t).stageAt }) ∈ w.ten.events) (only : OnlyWords [TEN_STATE n] { s.advance t with ten := w.ten } w) :
    Completes i s fun u =>
      u.tenState n = s.tenState n ∧ u.tenBit n (pendingFld op) = true ∧ (n, { val := op, eff := u.stageAt }) ∈ u.ten.events
        ∧ u.rd (TEN_CMD n) TEN_CMD_RESULT = 0 ∧ OnlyWords [TEN_STATE n, TEN_CMD n] { s with ten := u.ten } u := by
  obtain ⟨rest, words⟩ := only
  have tim : w.tim = s.tim := by rw [rest]; rfl
  have kept (a : Nat) (h : a ∉ [TEN_STATE n, TEN_CMD n]) : (w.wr (TEN_CMD n) TEN_CMD_RESULT 0).rdW a = s.rdW a := by
    obtain ⟨hs, hc⟩ : a ≠ TEN_STATE n ∧ a ≠ TEN_CMD n := by simpa using h
    exact (State.rdW_wr_ne _ _ _ hc).trans (words a (by simpa using hs))
  refine completes_of_eq hi (tenCmd_ready (s := s.advance t) ready h) ⟨?_, ?_, ?_, cmdResult w n (by decide), ?_, kept⟩
  · exact (cmdResult_state w n 0 _).trans state
  · exact (State.rdB_wr_ne w _ _ _ (tenState_ne_cmd n)).trans bit
  · refine mem_events_stageAt (w := s.advance t) (State.stageAt_congr rfl tim fun a ha => kept a ?_) mem
    simp only [List.mem_cons, List.not_mem_nil, or_false, not_or, TEN_STATE, TEN_CMD]
    omega
  · rw [rest]
    rfl

theorem completes_tenCmd_staged {i : Instr} {body : State → Nat × State} {op : Nat} (hi : exec i s = .next (s.after t fun m => m.tenCmd n body))
    (ready : TenReady s n) (h : body (s.advance t) = (0, (s.advance t).stageEvent n op)) : Completes i s fun u =>
      u.tenState n = s.tenState n ∧ u.tenBit n (pendingFld op) = true ∧ (n, { val := op, eff := u.stageAt }) ∈ u.ten.events
        ∧ u.rd (TEN_CMD n) TEN_CMD_RESULT = 0 ∧ OnlyWords [TEN_STATE n, TEN_CMD n] { s with ten := u.ten } u := by
  obtain ⟨state, bit, mem, only⟩ := stageEventAt_facts (s.advance t) n op (s.advance t).stageAt
  exact completes_tenCmd_pending hi ready h state bit mem only

/-! ### ACTIVATE, MIGRATE, RECEIVE and RELEASE -/

/-- A TEN_CMD command that answers `r`, from what is known of the machine before the answer. -/
theorem completes_tenCmd_of {i : Instr} {body : State → Nat × State} {w : State} {r : Nat} {Q P : State → Prop}
    (hi : exec i s = .next (s.after t fun m => m.tenCmd n body)) (ready : TenReady s n) (h : body (s.advance t) = (r, w)) (q : Q w)
    (fin : ∀ v, Q v → P { v.wr (TEN_CMD n) TEN_CMD_RESULT r with pending := s.pending, now := max s.now t }) : Completes i s P :=
  completes_of_eq hi (tenCmd_ready (s := s.advance t) ready h) (fin w q)

theorem cget_cerase_erased {α : Type} {d : Nat → α} {p : Nat → Bool} {k : Nat} (hp : p k = true) : ∀ m : Cells α, cget d (cerase p m) k = d k
  | [] => rfl
  | (k0, v) :: m => by
    have rest := cget_cerase_erased (d := d) hp m
    by_cases gone : p k0 = true
    · rw [cerase, List.filter_cons_of_neg (by simp [gone])]
      exact rest
    · rw [cerase, List.filter_cons_of_pos (by simp [gone]), cget]
      split_ifs with lt e
      · exact rest
      · exact absurd (e ▸ hp) gone
      · rfl

theorem clearTenCounters_faults (s : State) (n : Nat) : (s.clearTenCounters n).count (cntTEN_FAULTS n) = 0 :=
  cget_cerase_erased (p := fun a => cntTEN_FAULTS n ≤ a && a ≤ cntTEN_DISABLES n) (by simp [cntTEN_FAULTS, cntTEN_DISABLES]) s.cnt

theorem completes_tenActivate (ready : TenReady s n) (h : s.tenState n = 0) : Completes (.tenActivate t n) s fun u =>
    u.tenState n = 1 ∧ u.rd (TEN_CMD n) TEN_CMD_RESULT = 0 ∧ u.count (cntTEN_FAULTS n) = 0 := by
  have lt := tenantPresent_lt ready.1
  have event := setTenState_event ((s.advance t).clearTenCounters n) lt 1 1
  refine completes_tenCmd_of (Q := fun w => w.tenState n = 1 ∧ w.count (cntTEN_FAULTS n) = 0) rfl ready (if_pos h)
    ⟨setTenState_state _ lt (by decide) 1, ?_⟩ fun v ⟨state, faults⟩ => ⟨(cmdResult_state v n 0 _).trans state, cmdResult v n (by decide), faults⟩
  exact (event.counts _ (by unfold cntTEN_FAULTS; omega) (by unfold cntTEN_FAULTS; omega)).trans (clearTenCounters_faults (s.advance t) n)

/-- A migration begins: the tenant is MIGRATING in direction `dir`, and its peer stays. -/
def State.migrating (s : State) (n : Nat) (dir : Bool) : State :=
  let u := (s.wrB (TEN_STATE n) TEN_STATE_DIR dir).wrB (TEN_STATE n) TEN_STATE_STOPPED false
  let u := u.setMig n { peer := (u.mig n).peer }
  (u.setTenState n 5 7).migEvent n 1 (round32 u.roundNow)

theorem migEvent_event (s : State) (n phase r : Nat) : EventOnly s (s.migEvent n phase r) := .post ..

theorem migrating_facts (s : State) (h : n < 512) (dir : Bool) : (s.migrating n dir).tenState n = 5 ∧ (s.migrating n dir).tenBit n TEN_STATE_DIR = dir ∧
    (s.migrating n dir).tenBit n TEN_STATE_STOPPED = false ∧ (s.migrating n dir).ten.plog = s.ten.plog ∧
    (s.migrating n dir).rdW (TEN_CFG n) = s.rdW (TEN_CFG n) := by
  have cfg : TEN_CFG n ≠ TEN_STATE n := by unfold TEN_CFG TEN_STATE; omega
  have notEvent : ¬ eventWord (TEN_CFG n) := not_eventWord (by unfold TEN_CFG; omega) (by unfold TEN_CFG; omega)
  have stays (u : State) (m : TenMig) (r : Nat) : ((u.setMig n m).setTenState n 5 7 |>.migEvent n 1 r).tenState n = 5 ∧
      (∀ f : Fld, f.lo + f.width ≤ 32 → 3 ≤ f.lo → ((u.setMig n m).setTenState n 5 7 |>.migEvent n 1 r).tenBit n f = u.tenBit n f) ∧
      ((u.setMig n m).setTenState n 5 7 |>.migEvent n 1 r).ten.plog = u.ten.plog ∧
      ((u.setMig n m).setTenState n 5 7 |>.migEvent n 1 r).rdW (TEN_CFG n) = u.rdW (TEN_CFG n) := by
    have event := migEvent_event ((u.setMig n m).setTenState n 5 7) n 1 r
    have set := setTenState_event (u.setMig n m) h 5 7
    refine ⟨(event.rd (not_eventWord_tenState h) _).trans (setTenState_state _ h (by decide) 7), fun f hf lo => ?_, ?_, ?_⟩
    · exact (event.rdB (not_eventWord_tenState h) f).trans (setTenState_bit _ h 5 7 hf lo)
    · exact (congrArg Ten.plog event.ten).trans ((congrArg Ten.plog set.ten).trans rfl)
    · exact (event.words _ notEvent).trans ((set.words _ notEvent).trans (State.rdW_wr_ne _ _ _ cfg))
  unfold State.migrating
  dsimp only
  obtain ⟨state, bits, plog, word⟩ := stays ((s.wrB (TEN_STATE n) TEN_STATE_DIR dir).wrB (TEN_STATE n) TEN_STATE_STOPPED false)
    { peer := (((s.wrB (TEN_STATE n) TEN_STATE_DIR dir).wrB (TEN_STATE n) TEN_STATE_STOPPED false).mig n).peer }
    (round32 (State.setMig ((s.wrB (TEN_STATE n) TEN_STATE_DIR dir).wrB (TEN_STATE n) TEN_STATE_STOPPED false) n
      { peer := (((s.wrB (TEN_STATE n) TEN_STATE_DIR dir).wrB (TEN_STATE n) TEN_STATE_STOPPED false).mig n).peer }).roundNow)
  refine ⟨state, (bits TEN_STATE_DIR (by decide) (by decide)).trans ?_, (bits TEN_STATE_STOPPED (by decide) (by decide)).trans ?_, plog, word.trans ?_⟩
  · exact (State.rdB_wr_apart (g := TEN_STATE_DIR) _ _ _ _ (by decide) (by decide) (.inr (by decide))).trans (State.rdB_wrB_same _ _ _ _ (by decide) rfl)
  · exact State.rdB_wrB_same _ _ _ _ (by decide) rfl
  · exact (State.rdW_wrB_ne _ _ _ cfg).trans (State.rdW_wrB_ne _ _ _ cfg)

theorem completes_tenMigrate (ready : TenReady s n) (h : s.tenState n = 2) : Completes (.tenMigrate t n) s fun u =>
    u.tenState n = 5 ∧ u.tenBit n TEN_STATE_DIR = false ∧ u.tenBit n TEN_STATE_STOPPED = false ∧ u.rdB (TEN_CFG n) TEN_CFG_PLOG_EN = true
      ∧ (∀ k, k < 16384 → cget (fun _ => false) u.ten.plog (n * 16384 + k) = false) ∧ u.rd (TEN_CMD n) TEN_CMD_RESULT = 0 := by
  have lt := tenantPresent_lt ready.1
  have cfg : TEN_CFG n ≠ TEN_CMD n := by unfold TEN_CFG TEN_CMD; omega
  obtain ⟨state, dir, stopped, plog, word⟩ := migrating_facts (State.wrB { s.advance t with ten := { s.ten with
    plog := cerase (fun k => k / 16384 == n) s.ten.plog } } (TEN_CFG n) TEN_CFG_PLOG_EN true) lt false
  refine completes_tenCmd_of (Q := fun w => w.tenState n = 5 ∧ w.tenBit n TEN_STATE_DIR = false ∧ w.tenBit n TEN_STATE_STOPPED = false ∧
      w.rdB (TEN_CFG n) TEN_CFG_PLOG_EN = true ∧ w.ten.plog = cerase (fun k => k / 16384 == n) s.ten.plog) rfl ready (if_pos h)
    ⟨state, dir, stopped, (State.rdB_congr word _).trans (State.rdB_wrB_same _ _ _ _ (by decide) rfl), plog⟩
    fun v ⟨state, dir, stopped, en, plog⟩ => ⟨(cmdResult_state v n 0 _).trans state, (State.rdB_wr_ne v _ _ _ (tenState_ne_cmd n)).trans dir,
      (State.rdB_wr_ne v _ _ _ (tenState_ne_cmd n)).trans stopped, (State.rdB_wr_ne v _ _ _ cfg).trans en, fun k hk => ?_, cmdResult v n (by decide)⟩
  refine (congrArg (fun m => cget (fun _ => false) m (n * 16384 + k)) plog).trans (cget_cerase_erased ?_ _)
  exact beq_iff_eq.2 (by omega)

theorem completes_tenReceive (ready : TenReady s n) (h : s.tenState n = 0) : Completes (.tenReceive t n) s fun u =>
    u.tenState n = 5 ∧ u.tenBit n TEN_STATE_DIR = true ∧ u.tenBit n TEN_STATE_STOPPED = false ∧ u.rd (TEN_CMD n) TEN_CMD_RESULT = 0 := by
  obtain ⟨state, dir, stopped, -, -⟩ := migrating_facts (s.advance t) (tenantPresent_lt ready.1) true
  exact completes_tenCmd_of (Q := fun w => w.tenState n = 5 ∧ w.tenBit n TEN_STATE_DIR = true ∧ w.tenBit n TEN_STATE_STOPPED = false) rfl ready
    (if_pos h) ⟨state, dir, stopped⟩ fun v ⟨state, dir, stopped⟩ => ⟨(cmdResult_state v n 0 _).trans state,
      (State.rdB_wr_ne v _ _ _ (tenState_ne_cmd n)).trans dir, (State.rdB_wr_ne v _ _ _ (tenState_ne_cmd n)).trans stopped, cmdResult v n (by decide)⟩

/-! ### A tenant disabled or released (R202, R209) -/

theorem tenBits_congr {u v : State} (h : v.rdW (TEN_STATE n) = u.rdW (TEN_STATE n)) : v.tenState n = u.tenState n ∧
    ∀ f, v.tenBit n f = u.tenBit n f := ⟨State.rd_congr h _, fun f => State.rdB_congr h f⟩

/-- A disabled tenant's state while its outputs take their safe values. -/
theorem tenDisabled_facts (s : State) (h : n < 512) (cause : Nat) :
    (s.tenDisabled n cause).tenState n = 4 ∧ (s.tenDisabled n cause).tenBit n TEN_STATE_STOPPED = false := by
  have word : (s.tenDisabled n cause).rdW (TEN_STATE n)
      = ((s.wr (TEN_STATE n) TEN_STATE_STATE 4).wrB (TEN_STATE n) TEN_STATE_STOPPED false).rdW (TEN_STATE n) :=
    ((EventOnly.postTenant _ _ _ (by omega)).words _ (not_eventWord_tenState h)).trans ((tenKept_tenSafe _ n).words _ (tenWord_state h))
  obtain ⟨state, bits⟩ := tenBits_congr word
  refine ⟨state.trans ?_, (bits _).trans (State.rdB_wrB_same _ _ _ _ (by decide) rfl)⟩
  exact (State.rd_wr_apart (g := TEN_STATE_STATE) _ _ _ _ (by decide) (by decide) (.inr (by decide))).trans (State.rd_wr_same _ _ _ _ (by decide))

/-- Switching a publisher off changes no word whose two low bits are clear. -/
theorem pubOff_word (s : State) (p : Nat) {a : Nat} (low : (s.rdW a).toNat % 4 = 0) : (s.pubOff p).rdW a = s.rdW a := by
  by_cases e : a = OUT_PUBLISHER p 0
  · subst e
    refine (s.rdW_wrW_same _ _).trans ?_
    rw [Nat.div_mul_cancel (Nat.dvd_of_mod_eq_zero low), BitVec.ofNat_toNat, BitVec.setWidth_eq]
  · exact s.rdW_wrW_ne _ e

theorem pubsOff_word (s : State) (t : Nat) {a : Nat} (low : (s.rdW a).toNat % 4 = 0) : (s.pubsOff t).rdW a = s.rdW a := by
  refine List.foldlRecOn (motive := fun u : State => u.rdW a = s.rdW a) _ _ rfl fun u ih p _ => ?_
  split
  · exact (pubOff_word u p (by rw [ih]; exact low)).trans ih
  · exact ih

theorem low_of_tenState {u : State} (h : u.tenState n = 0) : (u.rdW (TEN_STATE n)).toNat % 4 = 0 := by
  have field : (u.rdW (TEN_STATE n)).toNat % 8 = 0 := by simpa [State.tenState, State.rd, fget, TEN_STATE_STATE] using h
  omega

theorem clusterShares_word (s : State) {c a : Nat} (hc : c < 8) (ha : 0x0F100000 ≤ a) : (s.clusterShares c).rdW a = s.rdW a := by
  have ne : a ≠ TEN_CLUSTER_SHARE c := by unfold TEN_CLUSTER_SHARE; omega
  exact (State.rdW_wr_ne _ _ _ ne).trans (State.rdW_wr_ne _ _ _ ne)

theorem freeFrames_regs (s : State) (t : Nat) : (s.freeFrames t).regs = s.regs := by
  unfold State.freeFrames
  refine (List.foldlRecOn (motive := fun u : State => u.regs = s.regs) _ _ rfl fun u ih f _ => ?_)
  split
  · exact (State.setBytes_regs ..).trans ih
  · exact ih

/-- The tenant's word as its release writes it. -/
def State.tenVacated (s : State) (n : Nat) : State :=
  let u := ((s.cutOff n).dropEvents n).dropEntitled n
  let u := u.setSch (u.sch.items.filter (fun i => i.tenant != n)) u.sch.runs
  ((u.wr (TEN_STATE n) TEN_STATE_STATE 0).wrB (TEN_STATE n) TEN_STATE_STOPPED false).wrB (TEN_STATE n) TEN_STATE_DIR false

theorem tenVacated_facts (s : State) (n : Nat) : (s.tenVacated n).tenState n = 0 ∧ (s.tenVacated n).tenBit n TEN_STATE_STOPPED = false ∧
    (s.tenVacated n).tenBit n TEN_STATE_DIR = false := by
  unfold State.tenVacated
  dsimp only
  refine ⟨?_, ?_, State.rdB_wrB_same _ _ _ _ (by decide) rfl⟩
  · refine (State.rd_wr_apart (g := TEN_STATE_STATE) _ _ _ _ (by decide) (by decide) (.inr (by decide))).trans ?_
    refine (State.rd_wr_apart (g := TEN_STATE_STATE) _ _ _ _ (by decide) (by decide) (.inr (by decide))).trans ?_
    exact State.rd_wr_same _ _ _ _ (by decide)
  · refine (State.rdB_wr_apart (g := TEN_STATE_STOPPED) _ _ _ _ (by decide) (by decide) (.inl (by decide))).trans ?_
    exact State.rdB_wrB_same _ _ _ _ (by decide) rfl

/-- The outputs, publishers, laws and programs of a tenant that becomes EMPTY. -/
def State.tenCleared (s : State) (n : Nat) : State := (((((s.tenSafe n).pubsOff n).lawsRelease n).progsRelease n).settle).freeFrames n

theorem tenCleared_word {u : State} (h : n < 512) (state : u.tenState n = 0) : (u.tenCleared n).rdW (TEN_STATE n) = u.rdW (TEN_STATE n) := by
  have quiet := tenWord_state h
  have safe := (tenKept_tenSafe u n).words _ quiet
  have off := pubsOff_word (u.tenSafe n) n (a := TEN_STATE n) (by rw [safe]; exact low_of_tenState state)
  unfold State.tenCleared
  rw [State.rdW_congr (freeFrames_regs _ n), (settled_settle _).tenKept.words _ quiet, (tenKept_progsRelease _ n).words _ quiet,
    (tenKept_lawsRelease _ n).words _ quiet, off, safe]

/-- A tenant that becomes EMPTY: its word, its outputs, its share, and the record. -/
theorem tenEmpty_eq (s : State) (n cause : Nat) : ∃ (x : Ten) (p : List Byte), s.tenEmpty n cause =
    State.postTenant { (((s.tenVacated n).tenCleared n).wrW (TEN_SHARE n) 0).clusterShares
      (((s.tenVacated n).tenCleared n).rd (TEN_CFG n) TEN_CFG_HOME) with ten := x } 0x0F01 n p := ⟨_, _, rfl⟩

theorem shareCleared_word (u : State) (h : n < 512) (x : Ten) (p : List Byte) {a : Nat} (ha : 0x0F100000 ≤ a) (hb : a < 0x10000000) :
    (State.postTenant { (u.wrW (TEN_SHARE n) 0).clusterShares (u.rd (TEN_CFG n) TEN_CFG_HOME) with ten := x } 0x0F01 n p).rdW a
      = (u.wrW (TEN_SHARE n) 0).rdW a := by
  have home : u.rd (TEN_CFG n) TEN_CFG_HOME < 8 := State.rd_lt _ _ TEN_CFG_HOME
  refine ((EventOnly.postTenant _ _ _ (by omega)).words _ (not_eventWord (by omega) (by omega))).trans ?_
  exact clusterShares_word (u.wrW (TEN_SHARE n) 0) home ha

theorem tenEmpty_facts (s : State) (h : n < 512) (cause : Nat) : (s.tenEmpty n cause).tenState n = 0 ∧
    (s.tenEmpty n cause).tenBit n TEN_STATE_STOPPED = false ∧ (s.tenEmpty n cause).tenBit n TEN_STATE_DIR = false ∧
    (s.tenEmpty n cause).rdW (TEN_SHARE n) = 0 := by
  obtain ⟨state, stopped, dir⟩ := tenVacated_facts s n
  have share : TEN_STATE n ≠ TEN_SHARE n := by unfold TEN_STATE TEN_SHARE; omega
  obtain ⟨x, p, e⟩ := tenEmpty_eq s n cause
  rw [e]
  have cleared := tenCleared_word h state
  generalize s.tenVacated n = v at *
  obtain ⟨same, bits⟩ := tenBits_congr ((shareCleared_word (v.tenCleared n) h x p (a := TEN_STATE n) (by unfold TEN_STATE; omega)
    (by unfold TEN_STATE; omega)).trans ((State.rdW_wrW_ne _ _ share).trans cleared))
  exact ⟨same.trans state, (bits _).trans stopped, (bits _).trans dir,
    (shareCleared_word _ h x p (by unfold TEN_SHARE; omega) (by unfold TEN_SHARE; omega)).trans (State.rdW_wrW_same _ _ _)⟩

theorem completes_tenRelease (ready : TenReady s n) (h : s.tenState n = 1 ∨ s.tenState n = 4) : Completes (.tenRelease t n) s fun u =>
    u.tenState n = 0 ∧ u.rdW (TEN_SHARE n) = 0 ∧ u.rd (TEN_CMD n) TEN_CMD_RESULT = 0 := by
  have share : TEN_SHARE n ≠ TEN_CMD n := by unfold TEN_SHARE TEN_CMD; omega
  have body : (s.advance t).release n = some ((s.advance t).tenEmpty n 6) := if_pos h
  obtain ⟨state, -, -, word⟩ := tenEmpty_facts (s.advance t) (tenantPresent_lt ready.1) 6
  refine completes_tenCmd_of (Q := fun w => w.tenState n = 0 ∧ w.rdW (TEN_SHARE n) = 0) (w := (s.advance t).tenEmpty n 6) rfl ready (by rw [body])
    ⟨state, word⟩ fun v ⟨state, word⟩ => ⟨(cmdResult_state v n 0 _).trans state, (State.rdW_wr_ne v _ _ share).trans word, cmdResult v n (by decide)⟩

/-! ### The claim -/

theorem disable_running (h : s.tenState n = 2) (cause : Nat) : s.disable n cause = some ((s.dropEvents n).quiesce n cause) := by
  have run : s.disableRunning n cause = some ((s.dropEvents n).quiesce n cause) := by
    unfold State.disableRunning
    dsimp only
    rw [if_neg (by omega), if_neg (by omega), if_pos h]
  unfold State.disable
  rw [run]

theorem disable_empty (h : s.tenState n = 0) (cause : Nat) : s.disable n cause = none := by
  have run : s.disableRunning n cause = none := by
    unfold State.disableRunning
    dsimp only
    rw [if_neg (by omega), if_neg (by omega), if_neg (by omega), if_neg (by omega)]
  unfold State.disable
  rw [run]
  exact if_neg (by omega)

/-- Settles O16: each event by the shape of a TEN_CMD command and what its body does in the state. -/
theorem tenantStateTable : Obligations.TenantStateTable := by
  refine ⟨?activate, ?start, ?disable, ?release, ?migrate, ?receive, ?stop, ?resume, ?notActivate, ?notStart, ?notDisable, ?notRelease, ?notMigrate,
    ?notReceive, ?notStop, ?notResume⟩
  case activate => exact fun t n s ready h => completes_tenActivate ready h
  case start => exact fun t n s ready h => completes_tenCmd_staged (op := 2) rfl ready (if_pos h)
  case disable =>
    intro t n s ready h
    exact exec_congr (t := t) (f := opTenDisable n) rfl (tenCmd_ready (s := s.advance t) ready (by rw [disable_running (s := s.advance t) h]))
  case release => exact fun t n s ready h => completes_tenRelease ready h
  case migrate => exact fun t n s ready h => completes_tenMigrate ready h
  case receive => exact fun t n s ready h => completes_tenReceive ready h
  case stop =>
    intro t n s ready h dir stopped
    obtain ⟨u, hu, state, bit, mem, -⟩ := completes_tenCmd_staged (t := t) (s := s) (op := 7) (i := .tenStopAtBoundary t n) rfl ready
      (if_pos ⟨h, by rw [show (s.advance t).tenBit n TEN_STATE_DIR = false from dir]; rfl,
        by rw [show (s.advance t).tenBit n TEN_STATE_STOPPED = false from stopped]; rfl⟩)
    exact ⟨u, hu, state.trans h, bit, mem⟩
  case resume =>
    intro t n s ready h dir
    obtain ⟨u, hu, state, bit, mem, -⟩ := completes_tenCmd_staged (t := t) (s := s) (op := 8) (i := .tenResume t n) rfl ready
      ((if_pos h).trans (if_pos dir))
    exact ⟨u, hu, state.trans h, bit, mem⟩
  case notActivate => exact fun t n s ready h => completes_tenCmd_refused rfl ready (if_neg h)
  case notStart => exact fun t n s ready h k => completes_tenCmd_refused rfl ready (if_neg (not_or.2 ⟨h, k⟩))
  case notDisable =>
    intro t n s ready h
    obtain ⟨u, hu, state, rest⟩ := completes_tenCmd_refused (t := t) (i := .tenDisable t n) rfl ready (by rw [disable_empty (s := s.advance t) h])
    exact ⟨u, hu, state.trans h, rest⟩
  case notRelease =>
    intro t n s ready h1 h4 h5
    have none : (s.advance t).release n = none := (if_neg (not_or.2 ⟨h1, h4⟩)).trans (if_neg h5)
    exact completes_tenCmd_refused rfl ready (by rw [none])
  case notMigrate => exact fun t n s ready h => completes_tenCmd_refused rfl ready (if_neg h)
  case notReceive => exact fun t n s ready h => completes_tenCmd_refused rfl ready (if_neg h)
  case notStop => exact fun t n s ready h => completes_tenCmd_refused rfl ready (if_neg fun k => h k.1)
  case notResume => exact fun t n s ready h => completes_tenCmd_refused rfl ready (if_neg h)

end Sys2Proof.Machine
end

section
/-! A commit that switches off a publisher whose number lies far past the publishers' registers (R220, R222). -/

namespace Sys2Proof.Machine

/-- The number whose publisher registers would stand where tenant 0 has its own. -/
def farPublisher : Nat := 0x1C3800

/-- Tenant 0, the owner of publish slot 0, is a stopped source with time left. The model bounds no publisher's number: the publishers
in memory list the one above, which reads as the tenant's. -/
def farPublisherState : State :=
  { State.reset with regs := [(OUT_PUB_OWNER 0, 0x80000000), (TEN_STATE 0, 0x15)]
                     out := { State.reset.out with pubs := [(farPublisher, some {})] }
                     ten := { State.reset.ten with mig := [(0, { deadline := 1000000 })] } }

theorem farPublisher_word : OUT_PUBLISHER farPublisher 0 = TEN_STATE 0 := by decide

/-- Switching that publisher off clears the two low bits of the tenant's state. -/
theorem farPublisher_disables : (farPublisherState.after 0 (opCommitAcknowledged 0 .data)).tenState 0 = 4 := by decide +kernel

/-- Refutes O17: the source sends its commit on the data's acknowledgement, and with its publishers off reads DISABLED, not MIGRATING. -/
theorem not_tenantTimesAndMigration : ¬ Obligations.TenantTimesAndMigration := by
  rintro ⟨-, -, -, -, -, -, -, -, -, -, -, -, acknowledged, -⟩
  obtain ⟨u, hu, -, -, state⟩ := acknowledged 0 0 farPublisherState (by decide +kernel) (by decide +kernel) (by decide +kernel)
    (by decide +kernel) (by decide +kernel) (by decide +kernel) (by decide +kernel)
  obtain rfl : farPublisherState.after 0 (opCommitAcknowledged 0 .data) = u := Host.Outcome.next.inj hu
  exact absurd (farPublisher_disables.symm.trans state) (by decide)

end Sys2Proof.Machine
end

section
/-! Message pages and ring slots of a tenant (R201, R210, R211). -/

namespace Sys2Proof.Machine

variable {s : State} {t core n p r slot x : Nat} {v : Word}

/-! ### The indices copied to the tenant's page -/

theorem memOnly_copyIndices (s : State) (n p : Nat) : MemOnly s (s.copyIndices n p) := by
  unfold State.copyIndices
  split
  · exact memOnly_devWrite ..
  · exact .refl s

/-- A counter that a write of memory does not count in. -/
abbrev NoStall (a : Nat) : Prop := a % 256 ≠ 0xE0

theorem markDirty_cnt (s : State) (t va : Nat) : (s.markDirty t va).cnt = s.cnt ∨ (s.markDirty t va).cnt = (s.bump (cntTEN_LINE_STALLS t) 1).cnt := by
  unfold State.markDirty
  dsimp only
  split_ifs <;> simp only [State.bump, State.count, true_or, or_true]

theorem countsKept_markDirty (s : State) (t va : Nat) : KeepsCounts NoStall s (s.markDirty t va) := by
  rcases markDirty_cnt s t va with h | h
  · exact .of_cnt h
  · exact (KeepsCounts.bump s 1 (by unfold NoStall cntTEN_LINE_STALLS; omega)).trans (.of_cnt h)

theorem countsKept_noteWrite (s : State) (a k : Nat) : KeepsCounts NoStall s (s.noteWrite a k) := by
  refine .foldl _ s fun u x _ => ?_
  split
  · exact .ite (countsKept_markDirty ..) (.refl u)
  · exact .refl u

theorem setBytes_cnt (bs : List Byte) : ∀ (s : State) (a : Nat), (s.setBytes a bs).cnt = s.cnt := by
  induction bs with
  | nil => exact fun _ _ => rfl
  | cons b bs ih => exact fun s a => ih _ _

theorem countsKept_devWrite (s : State) (a : Nat) (b : List Byte) : KeepsCounts NoStall s (s.devWrite a b) := by
  unfold State.devWrite State.store
  refine .ite (.refl s) ((countsKept_noteWrite s a b.length).trans (.of_cnt (setBytes_cnt ..)))

theorem countsKept_copyIndices (s : State) (n p : Nat) : KeepsCounts NoStall s (s.copyIndices n p) := by
  unfold State.copyIndices
  split
  · exact countsKept_devWrite ..
  · exact .refl s

/-! ### Doorbells (R211) -/

/-- What a doorbell of status `st` does before it is noticed and shown: the index advances, or the refusal is counted. -/
def State.doorbellTaken (s : State) (n p : Nat) (v : Word) (st : Nat) : State :=
  if st = 0 then ((if p < 2 then s.wrW (TEN_MSG_PROD n p) v else s.wrW (TEN_MSG_CONS n p) v).copyIndices n p).bump (cntTEN_DOORBELLS n) 1
  else if st = 0x0502 then s.bump (cntTEN_RING_FULL n) 1 else s

/-- A doorbell of status `st`, noticed by the core of the tenant's messages and shown in the page's status. -/
def State.doorbellShown (s : State) (n p st : Nat) : State :=
  let u : State := if p < 2 ∧ st ≠ 0x0503 ∧ !s.ten.notified.contains n then
    { s with ten := { s.ten with notified := s.ten.notified ++ [n] } } else s
  let used := idxDiff (u.rdW (TEN_MSG_PROD n p)).toNat (u.rdW (TEN_MSG_CONS n p)).toNat
  { u with ten := { u.ten with msgStat := cset (fun _ => 0) u.ten.msgStat (n * 4 + p) (st + used * 65536) } }

theorem opTwMsgDb_eq (h : s.coreTenant core = some n) (hp : p < 4) {st : Nat} (hst : (if p < 2 then
      prodStatus v.toNat (s.rdW (TEN_MSG_PROD n p)).toNat (s.rdW (TEN_MSG_CONS n p)).toNat
    else consStatus v.toNat (s.rdW (TEN_MSG_PROD n p)).toNat (s.rdW (TEN_MSG_CONS n p)).toNat) = st) :
    opTwMsgDb core p v s = (s.doorbellTaken n p v st).doorbellShown n p st := by
  subst hst
  unfold opTwMsgDb
  rw [h]
  dsimp only
  rw [if_neg (by omega)]
  rfl

/-- Showing a doorbell changes no register and no count; the status reads in the low half, and a doorbell that is not late is noticed. -/
theorem doorbellShown_facts (s : State) (n : Nat) {p st : Nat} (lt : st < 65536) : (s.doorbellShown n p st).regs = s.regs ∧
    (s.doorbellShown n p st).cnt = s.cnt ∧ cget (fun _ => 0) (s.doorbellShown n p st).ten.msgStat (n * 4 + p) % 65536 = st ∧
    (p < 2 → st ≠ 0x0503 → n ∈ (s.doorbellShown n p st).ten.notified) := by
  have status (u : State) (used : Nat) :
      cget (fun _ => 0) (cset (fun _ => 0) u.ten.msgStat (n * 4 + p) (st + used * 65536)) (n * 4 + p) % 65536 = st := by
    rw [cget_cset_same]
    omega
  unfold State.doorbellShown
  by_cases h : p < 2 ∧ st ≠ 0x0503 ∧ !s.ten.notified.contains n
  · rw [if_pos h]
    exact ⟨rfl, rfl, status _ _, fun _ _ => by simp⟩
  · rw [if_neg h]
    exact ⟨rfl, rfl, status _ _, fun hp hst => by simpa [hp, hst] using h⟩

theorem doorbellTaken_regs (s : State) (n p : Nat) (v : Word) :
    (s.doorbellTaken n p v 0).regs = (if p < 2 then s.wrW (TEN_MSG_PROD n p) v else s.wrW (TEN_MSG_CONS n p) v).regs :=
  (memOnly_copyIndices _ n p).regs

theorem doorbellTaken_count (s : State) (n p : Nat) (v : Word) :
    (s.doorbellTaken n p v 0).count (cntTEN_DOORBELLS n) = (s.count (cntTEN_DOORBELLS n) + 1) % 2 ^ 64 := by
  refine (State.count_bump_same ..).trans ?_
  rw [(countsKept_copyIndices _ n p).counts _ (by unfold NoStall cntTEN_DOORBELLS; omega)]
  split <;> rfl

/-! ### An index written by the tenant's core (R210) -/

theorem wordsKept_copyIndices (u : State) (n p a : Nat) : (u.copyIndices n p).rdW a = u.rdW a := State.rdW_congr (memOnly_copyIndices u n p).regs a

theorem tenKept_setFlags (s : State) (d bits : Nat) : TenKept s (s.setFlags d bits) := by
  unfold State.setFlags
  split
  case isTrue h =>
    have low : SCH_DESC d 0 < 0x0F100000 := by unfold SCH_DESC; omega
    unfold State.putFlags State.noteCond
    exact .ite ((tenKept_wrW s _ low).trans (.of_regs rfl)) (tenKept_wrW s _ low)
  case isFalse => exact .of_regs rfl

theorem tenWord_msg (h : n < 512) (hp : p < 4) : TenWord (TEN_MSG_PROD n p) ∧ TenWord (TEN_MSG_CONS n p) := by
  unfold TenWord TEN_MSG_PROD TEN_MSG_CONS
  omega

theorem prod_ne_cons (n p : Nat) : TEN_MSG_PROD n p ≠ TEN_MSG_CONS n p := by unfold TEN_MSG_PROD TEN_MSG_CONS; omega

/-- A consumer index that passes its check: no other word changes. -/
theorem consWritten_words (present : s.tenantPresent n = true) (hp : p < 2)
    (status : consStatus v.toNat (s.rdW (TEN_MSG_PROD n p)).toNat (s.rdW (TEN_MSG_CONS n p)).toNat = 0) (a : Nat) :
    (opTenMsgIndexWrite n p v s).rdW a = (s.wrW (TEN_MSG_CONS n p) v).rdW a := by
  unfold opTenMsgIndexWrite
  rw [if_neg (by simp [present]; omega)]
  dsimp only
  rw [if_pos hp, if_pos status]
  split_ifs
  · exact wordsKept_copyIndices ..
  · exact wordsKept_copyIndices ..

/-- A producer index that passes its check: of the tenants' words, no other changes. -/
theorem prodWritten_words (present : s.tenantPresent n = true) (hp : 2 ≤ p) (hp' : p < 4)
    (status : prodStatus v.toNat (s.rdW (TEN_MSG_PROD n p)).toNat (s.rdW (TEN_MSG_CONS n p)).toNat = 0) {a : Nat} (ha : TenWord a) :
    (opTenMsgIndexWrite n p v s).rdW a = (s.wrW (TEN_MSG_PROD n p) v).rdW a := by
  unfold opTenMsgIndexWrite
  rw [if_neg (by simp [present]; omega)]
  dsimp only
  rw [if_neg (by omega), if_pos status]
  split_ifs
  · exact wordsKept_copyIndices ..
  · exact ((tenKept_setFlags _ _ _).words a ha).trans (wordsKept_copyIndices ..)

/-! ### The claim -/

theorem opTwRingTail_rx (h : s.coreTenant core = some n) (ring : s.slotRing n slot = some r) (hs : slot < 8) (hr : r < 1024) :
    opTwRingTail core slot x s = s.wr (PRT_RXR_TAIL r) PRT_RXR_TAIL_INDEX x := by
  unfold opTwRingTail
  simp only [h, ring]
  exact (if_pos hs).trans (if_pos hr)

theorem opTwRingTail_none (h : s.coreTenant core = some n) (ring : s.slotRing n slot = none) : opTwRingTail core slot x s = s := by
  unfold opTwRingTail
  simp only [h, ring]

/-- Settles O18: a doorbell by its status, an index by the checks it passes, a ring's tail by its slot's ring. -/
theorem tenantDoorbells : Obligations.TenantDoorbells := by
  refine ⟨?produced, ?full, ?consumed, ?consWritten, ?prodWritten, ?tail, ?noRing⟩
  case produced =>
    intro t core n p v s h hn hp status
    obtain ⟨regs, cnt, shown, noticed⟩ := doorbellShown_facts ((s.advance t).doorbellTaken n p v 0) n (p := p) (st := 0) (by decide)
    refine completes_of_eq rfl (opTwMsgDb_eq (s := s.advance t) h (by omega) ((if_pos hp).trans status))
      ⟨(State.rdW_congr regs _).trans ?_, (State.count_congr cnt _).trans (doorbellTaken_count (s.advance t) n p v), noticed hp (by decide), shown⟩
    rw [State.rdW_congr (doorbellTaken_regs (s.advance t) n p v), if_pos hp]
    exact State.rdW_wrW_same ..
  case full =>
    intro t core n p v s h hn hp status
    obtain ⟨regs, cnt, shown, noticed⟩ := doorbellShown_facts ((s.advance t).doorbellTaken n p v 0x0502) n (p := p) (st := 0x0502) (by decide)
    exact completes_of_eq rfl (opTwMsgDb_eq (s := s.advance t) h (by omega) ((if_pos hp).trans status))
      ⟨State.rdW_congr regs _, (State.count_congr cnt _).trans (State.count_bump_same ..), noticed hp (by decide), shown⟩
  case consumed =>
    intro t core n p v s h hn hp hp' status
    obtain ⟨regs, cnt, shown, noticed⟩ := doorbellShown_facts ((s.advance t).doorbellTaken n p v 0) n (p := p) (st := 0) (by decide)
    refine completes_of_eq rfl (opTwMsgDb_eq (s := s.advance t) h hp' ((if_neg (by omega)).trans status))
      ⟨(State.rdW_congr regs _).trans ?_, shown⟩
    rw [State.rdW_congr (doorbellTaken_regs (s.advance t) n p v), if_neg (by omega)]
    exact State.rdW_wrW_same ..
  case consWritten =>
    intro t n p v s present hp status
    have words := consWritten_words (s := s.advance t) present hp status
    exact completes_of_runAt (t := t) (g := opTenMsgIndexWrite n p v) rfl
      ⟨(words _).trans (State.rdW_wrW_same ..), (words _).trans (State.rdW_wrW_ne _ _ (prod_ne_cons n p))⟩
  case prodWritten =>
    intro t n p v s present hp hp' status
    obtain ⟨prod, cons⟩ := tenWord_msg (tenantPresent_lt present) hp'
    have words {a : Nat} (ha : TenWord a) := prodWritten_words (s := s.advance t) present hp hp' status ha
    exact completes_of_runAt (t := t) (g := opTenMsgIndexWrite n p v) rfl
      ⟨(words prod).trans (State.rdW_wrW_same ..), (words cons).trans (State.rdW_wrW_ne _ _ (prod_ne_cons n p).symm)⟩
  case tail =>
    intro t core n slot x r s h ring hs hr hx
    refine completes_of_eq rfl (opTwRingTail_rx (s := s.advance t) h ring hs hr) ⟨?_, ?_⟩
    · exact (State.rd_wr_same (s.advance t) _ _ _ (by decide)).trans (Nat.mod_eq_of_lt hx)
    · exact OnlyWords.after (t := t) (g := fun m => m.wr (PRT_RXR_TAIL r) PRT_RXR_TAIL_INDEX x) (.wr _ _ _ (by simp))
  case noRing => exact fun t core n slot x s h ring => completes_of_idle rfl (opTwRingTail_none (s := s.advance t) h ring)

end Sys2Proof.Machine
end

section
/-! What the end of an item in service changes (R239, R244, R247): of the tenants' words only bits that no state stands in, of the counters
none of faults or run limits. -/

namespace Sys2Proof.Machine

variable {s : State} {t n core : Nat} {r : SchRun}

/-! ### Fields of a word's low half -/

/-- The fields in the low half of each word that `P` names are as before. -/
structure KeepsLow (P : Nat → Prop) (s u : State) : Prop where
  low : ∀ a, P a → ∀ f : Fld, f.lo + f.width ≤ 16 → u.rd a f = s.rd a f

namespace KeepsLow

variable {P : Nat → Prop}

theorem refl (s : State) : KeepsLow P s s := ⟨fun _ _ _ _ => rfl⟩

theorem trans {s u v : State} (h : KeepsLow P s u) (k : KeepsLow P u v) : KeepsLow P s v :=
  ⟨fun a ha f hf => (k.low a ha f hf).trans (h.low a ha f hf)⟩

theorem of_words {s u : State} (h : ∀ a, P a → u.rdW a = s.rdW a) : KeepsLow P s u := ⟨fun a ha f _ => State.rd_congr (h a ha) f⟩

theorem of_regs {s u : State} (h : u.regs = s.regs) : KeepsLow P s u := of_words fun a _ => State.rdW_congr h a

theorem ite {c : Prop} [Decidable c] {s u v : State} (h : KeepsLow P s u) (k : KeepsLow P s v) : KeepsLow P s (if c then u else v) := by
  split <;> assumption

theorem wrW (s : State) {a : Nat} (w : Word) (h : ¬ P a) : KeepsLow P s (s.wrW a w) :=
  of_words fun b hb => s.rdW_wrW_ne w (by rintro rfl; exact h hb)

theorem wr (s : State) {a : Nat} (f : Fld) (v : Nat) (h : ¬ P a) : KeepsLow P s (s.wr a f v) := wrW s _ h

/-- A field of the high half written. -/
theorem wr_high (s : State) (a : Nat) {f : Fld} (v : Nat) (hf : f.lo + f.width ≤ 32) (high : 16 ≤ f.lo) : KeepsLow P s (s.wr a f v) := by
  refine ⟨fun b _ g hg => ?_⟩
  by_cases e : b = a
  · subst e
    exact State.rd_wr_apart s b f g v hf (by omega) (.inr (by omega))
  · exact State.rd_wr_ne s f g v e

theorem foldl {β : Type} {f : State → β → State} (l : List β) (s : State) (h : ∀ u, ∀ b ∈ l, KeepsLow P u (f u b)) :
    KeepsLow P s (l.foldl f s) :=
  List.foldlRecOn (motive := KeepsLow P s) l f (.refl s) fun _ ih b hb => ih.trans (h _ b hb)

end KeepsLow

/-! ### An event at the channel of any tenant, numbered in range or not -/

/-- The scheduler, time, fuses and the words below the Almanac's are as before. -/
structure BelowAlm (s u : State) : Prop where
  sch : u.sch = s.sch
  now : u.now = s.now
  fuses : u.fuses = s.fuses
  words : ∀ a, a < 0x0A000000 → u.rdW a = s.rdW a

namespace BelowAlm

theorem refl (s : State) : BelowAlm s s := ⟨rfl, rfl, rfl, fun _ _ => rfl⟩

theorem trans {s u v : State} (h : BelowAlm s u) (k : BelowAlm u v) : BelowAlm s v :=
  ⟨k.sch.trans h.sch, k.now.trans h.now, k.fuses.trans h.fuses, fun a ha => (k.words a ha).trans (h.words a ha)⟩

theorem of_eventOnly {s u : State} (h : EventOnly s u) : BelowAlm s u :=
  ⟨h.sch, h.now, h.fuses, fun a ha => h.words a (by unfold eventWord SYS_SNAP_STAT SYS_SNAP_TIME_LO SYS_SNAP_TIME_HI; omega)⟩

theorem wr (s : State) {a : Nat} (f : Fld) (v : Nat) (h : 0x0A000000 ≤ a) : BelowAlm s (s.wr a f v) :=
  ⟨rfl, rfl, rfl, fun b hb => s.rdW_wr_ne f v (by omega)⟩

theorem bump (s : State) (a k : Nat) : BelowAlm s (s.bump a k) := ⟨rfl, rfl, rfl, fun _ _ => rfl⟩

theorem refusePost (s : State) (ch k time : Nat) : BelowAlm s (s.refusePost ch k time) := by
  have marker : BelowAlm s (s.foldMarker ch k time) := by
    unfold State.foldMarker
    dsimp only
    split
    · split
      · exact ⟨rfl, rfl, rfl, fun _ _ => rfl⟩
      · exact bump s _ k
    · exact bump s _ k
  unfold State.refusePost
  split
  · exact bump s _ k
  · exact marker

theorem postAt (s : State) (ch code : Nat) (p : List Byte) (tm : Nat) (tn : Bool) : BelowAlm s (s.postAt ch code p tm tn).2 := by
  have alm (u : State) (x : Alm) : BelowAlm u { u with alm := x } := ⟨rfl, rfl, rfl, fun _ _ => rfl⟩
  have stat (u : State) : BelowAlm u u.almStat := of_eventOnly (EventOnly.almStat u)
  have lost : BelowAlm s (((s.bump (cntALM_LOST ch) 1).wr (ALM_CH_LOST ch) ALM_CH_LOST_N
      (satNat 0xFFFFFFFF (s.rd (ALM_CH_LOST ch) ALM_CH_LOST_N + 1))).wrB (ALM_CH_STAT ch) ALM_CH_STAT_LOST_PENDING true) :=
    ((bump s _ 1).trans (wr _ _ _ (by unfold ALM_CH_LOST; omega))).trans (wr _ _ _ (by unfold ALM_CH_STAT; omega))
  unfold State.postAt
  dsimp only
  split
  · exact refl s
  · split
    · exact refusePost s ch 1 tm
    · split
      · exact (alm s _).trans (stat _)
      · split
        · exact alm s _
        · split
          · exact (alm s _).trans (stat _)
          · split
            · exact lost.trans (alm _ _)
            · exact lost.trans (alm _ _)

theorem postTenant (s : State) (code n : Nat) (p : List Byte) : BelowAlm s (s.postTenant code n p) := by
  unfold State.postTenant State.postTo State.postOut
  dsimp only
  split
  · exact (postAt ..).trans (of_eventOnly (EventOnly.fireSource _ 2))
  · exact postAt ..

end BelowAlm

/-! ### What the end of the run `r` leaves -/

/-- SCH_CTRL, and the words of the tenants' states and policies where neither the run's core nor its tenant reaches them. -/
abbrev QuietWord (r : SchRun) (a : Nat) : Prop :=
  (a = SCH_CTRL ∨ 0x0F100000 ≤ a ∧ a < 0x10000000 ∧ a % 32 < 8 ∧ r.item.tenant < 512) ∧ a ≠ SCH_CORE_STAT r.core

/-- The counters of run limits and of tenants' faults. -/
abbrev QuietCount (r : SchRun) (a : Nat) : Prop := r.item.tenant < 512 ∧
  (0x05020000 ≤ a ∧ a < 0x05100000 ∧ a % 0x80 = 0x58 ∨ 0x0F100000 ≤ a ∧ a < 0x10000000 ∧ a % 0x80 = 0x40)

structure RunQuiet (r : SchRun) (s u : State) : Prop where
  now : u.now = s.now
  fuses : u.fuses = s.fuses
  low : KeepsLow (QuietWord r) s u
  counts : KeepsCounts (QuietCount r) s u

namespace RunQuiet

theorem refl (s : State) : RunQuiet r s s := ⟨rfl, rfl, .refl s, .refl s⟩

theorem trans {s u v : State} (h : RunQuiet r s u) (k : RunQuiet r u v) : RunQuiet r s v :=
  ⟨k.now.trans h.now, k.fuses.trans h.fuses, h.low.trans k.low, h.counts.trans k.counts⟩

theorem of_fields {s u : State} (now : u.now = s.now) (fuses : u.fuses = s.fuses) (regs : u.regs = s.regs) (cnt : u.cnt = s.cnt) : RunQuiet r s u :=
  ⟨now, fuses, .of_regs regs, .of_cnt cnt⟩

theorem sch (s : State) (x : Sch) : RunQuiet r s { s with sch := x } := of_fields rfl rfl rfl rfl

theorem noteWritten (s : State) (code key : Nat) : RunQuiet r s (s.noteWritten code key) := of_fields rfl rfl rfl rfl

theorem ite {c : Prop} [Decidable c] {s u v : State} (h : RunQuiet r s u) (k : RunQuiet r s v) : RunQuiet r s (if c then u else v) := by
  split <;> assumption

theorem foldl {β : Type} {f : State → β → State} (l : List β) (s : State) (h : ∀ u, ∀ b ∈ l, RunQuiet r u (f u b)) : RunQuiet r s (l.foldl f s) :=
  List.foldlRecOn (motive := RunQuiet r s) l f (.refl s) fun _ ih b hb => ih.trans (h _ b hb)

theorem wrW (s : State) {a : Nat} (w : Word) (h : ¬ QuietWord r a) : RunQuiet r s (s.wrW a w) := ⟨rfl, rfl, .wrW s w h, .of_cnt rfl⟩

theorem wr (s : State) {a : Nat} (f : Fld) (v : Nat) (h : ¬ QuietWord r a) : RunQuiet r s (s.wr a f v) := wrW s _ h

theorem bump (s : State) {a : Nat} (k : Nat) (h : ¬ QuietCount r a) : RunQuiet r s (s.bump a k) := ⟨rfl, rfl, .of_regs rfl, .bump s k h⟩

theorem postTenant (s : State) (code : Nat) (p : List Byte) : RunQuiet r s (s.postTenant code r.item.tenant p) := by
  obtain ⟨-, now, fuses, words⟩ := BelowAlm.postTenant s code r.item.tenant p
  refine ⟨now, fuses, .of_words fun a ha => ?_, ⟨fun a ha => ?_⟩⟩
  · obtain ⟨rfl | ⟨lo, hi, -, tenant⟩, -⟩ := ha
    · exact words _ (by decide)
    · exact (EventOnly.postTenant s code p (by omega)).words a (not_eventWord (by omega) (by omega))
  · obtain ⟨tenant, ha⟩ := ha
    exact (EventOnly.postTenant s code p (by omega)).counts a (by omega) (by omega)

end RunQuiet

/-! ### The record of a completion -/

theorem runQuiet_devWrite (s : State) (a : Nat) (b : List Byte) : RunQuiet r s (s.devWrite a b) := by
  have mem := memOnly_devWrite s a b
  exact ⟨(congrArg State.now mem :), (congrArg State.fuses mem :), .of_regs mem.regs,
    ⟨fun c hc => (countsKept_devWrite s a b).counts c (by unfold NoStall; omega)⟩⟩

theorem runQuiet_setFlags (s : State) (d bits : Nat) : RunQuiet r s (s.setFlags d bits) := by
  unfold State.setFlags
  split
  case isTrue h =>
    have apart : ¬ QuietWord r (SCH_DESC d 0) := by unfold QuietWord SCH_DESC SCH_CTRL; omega
    unfold State.putFlags State.noteCond
    exact .ite ((RunQuiet.wrW s _ apart).trans (.of_fields rfl rfl rfl rfl)) (.wrW s _ apart)
  case isFalse => exact .bump s 1 (by unfold QuietCount cntSCH_FLAG_DROPPED; omega)

theorem runQuiet_notice (s : State) (a : Nat) : RunQuiet r s (s.notice a) := by
  unfold State.notice
  exact .ite (runQuiet_setFlags ..) (.refl s)

theorem runQuiet_cplLost (s : State) : RunQuiet r s (s.cplLost r.item.tenant) := by
  have counted := RunQuiet.bump (r := r) s (a := cntSCH_TEN_CPL_LOST r.item.tenant) 1 (by unfold QuietCount cntSCH_TEN_CPL_LOST; omega)
  unfold State.cplLost
  dsimp only
  split
  · exact counted.trans ((RunQuiet.sch _ _).trans ((RunQuiet.noteWritten _ _ _).trans (.postTenant _ _ _)))
  · exact counted.trans (.sch _ _)

theorem runQuiet_stwCplShow (s : State) : RunQuiet r s s.stwCplShow :=
  .foldl _ _ fun u k hk => .wrW u _ (by
    have lt : k < 4 := List.mem_range.1 hk
    unfold QuietWord SCH_CTRL SCH_STW_CPL
    omega)

theorem runQuiet_complete (s : State) (status result : Nat) : RunQuiet r s (s.complete r.item status result) := by
  unfold State.complete
  dsimp only
  split_ifs
  · exact .refl s
  · exact (RunQuiet.sch s _).trans (runQuiet_stwCplShow _)
  · exact (RunQuiet.sch s _).trans (runQuiet_cplLost _)
  · exact (runQuiet_devWrite ..).trans ((RunQuiet.sch _ _).trans (runQuiet_notice _ _))
  · exact (RunQuiet.sch s _).trans (runQuiet_cplLost _)

end Sys2Proof.Machine
end

section
/-! The scheduler's queue and cores: time charged, status words kept in step, an item in service ended (R237 to R244). -/

namespace Sys2Proof.Machine

variable {s : State} {t n core : Nat} {r : SchRun}

/-! ### The status words of the scheduler -/

/-- Only registers change. -/
abbrev RegsOnly (s u : State) : Prop := u = { s with regs := u.regs }

theorem RegsOnly.trans {s u v : State} (h : RegsOnly s u) (k : RegsOnly u v) : RegsOnly s v := by
  unfold RegsOnly at h k ⊢
  rw [k, h]

theorem RegsOnly.foldl {β : Type} {f : State → β → State} (l : List β) (s : State) (h : ∀ u, ∀ b ∈ l, RegsOnly u (f u b)) :
    RegsOnly s (l.foldl f s) :=
  List.foldlRecOn (motive := RegsOnly s) l f rfl fun _ ih b hb => ih.trans (h _ b hb)

/-- The status of tenants, tasks and flows of the items `all`. -/
def State.showItems (s : State) (all : List SchItem) : State :=
  let s := (all.map (·.tenant)).eraseDups.foldl (fun s t =>
    (s.wr (SCH_TEN_STAT t) SCH_TEN_STAT_ONCHIP (s.onChip (fun i => i.tenant == t))).wrB (SCH_TEN_STAT t)
      SCH_TEN_STAT_SPILLING (s.sch.items.any (fun i => i.tenant == t && i.spilled.isSome))) s
  let s := (all.map (·.task)).eraseDups.foldl (fun s d =>
    let q := satNat 65535 (s.sch.items.filter (fun i => i.task == d)).length
    let n := (s.sch.runs.filter (fun r => r.item.task == d)).length
    s.wrW (SCH_DESC d 5) (BitVec.ofNat 32 (q + n * 65536))) s
  (all.filterMap (·.flow)).eraseDups.foldl (fun s f => s.wrB (SCH_FLOW_OWNER f) SCH_FLOW_OWNER_BUSY (s.flowBusy f)) s

/-- The status of the core of the run `x`. -/
def State.showCore (s : State) (x : SchRun) : State := match s.runOf x.core with
  | some y => ((s.wr (SCH_CORE_STAT x.core) SCH_CORE_STAT_STATE 1).wr (SCH_CORE_STAT x.core) SCH_CORE_STAT_TENANT
      y.item.tenant).wr (SCH_CORE_STAT x.core) SCH_CORE_STAT_TASK y.item.task
  | none => s.wrW (SCH_CORE_STAT x.core) 0

def State.showPool (s : State) : State := s.wr SCH_STAT SCH_STAT_POOL_FREE (32768 - s.onChip (fun _ => true))

theorem regsOnly_showItems (s : State) (all : List SchItem) : RegsOnly s (s.showItems all) :=
  .trans (.foldl _ _ fun _ _ _ => rfl) (.trans (.foldl _ _ fun _ _ _ => rfl) (.foldl _ _ fun _ _ _ => rfl))

theorem regsOnly_showCore (s : State) (x : SchRun) : RegsOnly s (s.showCore x) := by
  unfold State.showCore
  split <;> rfl

theorem schSync_eq (s0 s : State) : ∃ all, State.schSync s0 s = ((s0.sch.runs ++ s.sch.runs).foldl State.showCore (s.showItems all)).showPool := by
  refine ⟨s0.sch.items ++ s.sch.items ++ (s0.sch.runs ++ s.sch.runs).map (·.item), ?_⟩
  have runs := (congrArg (fun u => u.sch.runs) (regsOnly_showItems s (s0.sch.items ++ s.sch.items ++ (s0.sch.runs ++ s.sch.runs).map (·.item))) :)
  refine Eq.trans (b := ((s0.sch.runs ++ (State.showItems s _).sch.runs).foldl State.showCore (s.showItems _)).showPool) rfl ?_
  rw [runs]

theorem regsOnly_schSync (s0 s : State) : RegsOnly s (State.schSync s0 s) := by
  obtain ⟨all, e⟩ := schSync_eq s0 s
  rw [e]
  exact (regsOnly_showItems s all).trans (.trans (.foldl _ _ fun u x _ => regsOnly_showCore u x) rfl)

theorem setSch_sch (s : State) (items : List SchItem) (runs : List SchRun) :
    (s.setSch items runs).sch = { s.sch with items := items, runs := runs } :=
  (congrArg State.sch (regsOnly_schSync s { s with sch := { s.sch with items := items, runs := runs } }) :)

theorem setSch_now (s : State) (items : List SchItem) (runs : List SchRun) : (s.setSch items runs).now = s.now :=
  (congrArg State.now (regsOnly_schSync s { s with sch := { s.sch with items := items, runs := runs } }) :)

theorem low_showItems (s : State) (all : List SchItem) : KeepsLow (QuietWord r) s (s.showItems all) := by
  refine .trans (.foldl _ _ fun u t _ => ?tenants) (.trans (.foldl _ _ fun u d _ => ?tasks) (.foldl _ _ fun u f _ => ?flows))
  case tenants =>
    have apart : ¬ QuietWord r (SCH_TEN_STAT t) := by unfold QuietWord SCH_TEN_STAT SCH_CTRL; omega
    exact (KeepsLow.wr u _ _ apart).trans (.wr _ _ _ apart)
  case tasks => exact .wrW u _ (by unfold QuietWord SCH_DESC SCH_CTRL; omega)
  case flows => exact .wr_high u _ _ (by decide) (by decide)

theorem low_showCore (s : State) {x : SchRun} (h : x.core = r.core) : KeepsLow (QuietWord r) s (s.showCore x) := by
  have apart : ¬ QuietWord r (SCH_CORE_STAT x.core) := by rw [h]; exact fun k => k.2 rfl
  unfold State.showCore
  split
  · exact ((KeepsLow.wr s _ _ apart).trans (.wr _ _ _ apart)).trans (.wr _ _ _ apart)
  · exact .wrW s _ apart

theorem runQuiet_schSync (s0 s : State) (h : ∀ x ∈ s0.sch.runs ++ s.sch.runs, x.core = r.core) : RunQuiet r s (State.schSync s0 s) := by
  have only := regsOnly_schSync s0 s
  obtain ⟨all, e⟩ := schSync_eq s0 s
  have low : KeepsLow (QuietWord r) s (State.schSync s0 s) := by
    rw [e]
    refine (low_showItems s all).trans (.trans (.foldl _ _ fun u x hx => low_showCore u (h x hx)) (.wr _ _ _ ?_))
    unfold QuietWord SCH_CTRL SCH_STAT
    omega
  exact ⟨(congrArg State.now only :), (congrArg State.fuses only :), low, .of_cnt (congrArg State.cnt only :)⟩

theorem runQuiet_setSch (s : State) (items : List SchItem) (runs : List SchRun) (h : ∀ x ∈ s.sch.runs ++ runs, x.core = r.core) :
    RunQuiet r s (s.setSch items runs) := (RunQuiet.sch s _).trans (runQuiet_schSync s _ h)

/-! ### Time charged -/

/-- The scheduler's queue and cores are as before, an item's hold and the rest apart. -/
structure QueueKept (s u : State) : Prop where
  runs : u.sch.runs = s.sch.runs
  items : u.sch.items = s.sch.items

theorem QueueKept.trans {s u v : State} (h : QueueKept s u) (k : QueueKept u v) : QueueKept s v := ⟨k.runs.trans h.runs, k.items.trans h.items⟩

theorem QueueKept.of_sch {s u : State} (h : u.sch = s.sch) : QueueKept s u := ⟨by rw [h], by rw [h]⟩

/-- The runs with their time charged up to now. -/
def State.chargedRuns (s : State) : List SchRun := s.sch.runs.map fun x => { x with charged := s.now }

/-- The time of the run `x` charged to its tenant and its core. -/
def State.chargeRun (s : State) (x : SchRun) : State :=
  let s := s.wr (SCH_TEN_USED x.item.tenant) SCH_TEN_USED_NS
    (satNat 0xFFFFFFFF (s.rd (SCH_TEN_USED x.item.tenant) SCH_TEN_USED_NS + (s.now - x.charged)))
  (s.bump (cntSCH_CORE_BUSY_NS x.core) (s.now - x.charged)).noteBudget x.item.tenant

theorem chargeRuns_kept (s : State) (l : List SchRun) : (l.foldl State.chargeRun s).sch = s.sch ∧ (l.foldl State.chargeRun s).now = s.now ∧
    (l.foldl State.chargeRun s).fuses = s.fuses :=
  List.foldlRecOn (motive := fun u : State => u.sch = s.sch ∧ u.now = s.now ∧ u.fuses = s.fuses) _ _ ⟨rfl, rfl, rfl⟩ fun _ ih _ _ => ih

theorem chargeAll_eq (s : State) :
    s.chargeAll = { s.sch.runs.foldl State.chargeRun s with sch := { s.sch with runs := s.chargedRuns } } := by
  obtain ⟨sch, now, -⟩ := chargeRuns_kept s s.sch.runs
  refine Eq.trans (b := { s.sch.runs.foldl State.chargeRun s with sch := { (s.sch.runs.foldl State.chargeRun s).sch with
    runs := (s.sch.runs.foldl State.chargeRun s).chargedRuns } }) rfl ?_
  unfold State.chargedRuns
  rw [sch, now]

theorem chargeAll_now (s : State) : s.chargeAll.now = s.now := by rw [chargeAll_eq]; exact (chargeRuns_kept s _).2.1

theorem chargeAll_fuses (s : State) : s.chargeAll.fuses = s.fuses := by rw [chargeAll_eq]; exact (chargeRuns_kept s _).2.2

theorem chargeAll_sch (s : State) : s.chargeAll.sch = { s.sch with runs := s.chargedRuns } := by rw [chargeAll_eq]

theorem runQuiet_chargeAll (s : State) : RunQuiet r s s.chargeAll := by
  rw [chargeAll_eq]
  refine .trans (.foldl _ _ fun u x _ => (RunQuiet.wr u _ _ ?used).trans ((RunQuiet.bump _ _ ?busy).trans (.wr _ _ _ ?budget))) (.sch _ _)
  case used => unfold QuietWord SCH_TEN_USED SCH_CTRL; omega
  case busy => unfold QuietCount cntSCH_CORE_BUSY_NS; omega
  case budget => unfold QuietWord SCH_TEN_STAT SCH_CTRL; omega

theorem chargeAll_runOf (s : State) (core : Nat) : (s.chargeAll.runOf core).isNone = (s.runOf core).isNone := by
  unfold State.runOf
  rw [chargeAll_sch, State.chargedRuns, List.find?_map, Option.isNone_map]
  rfl

/-! ### Holds and completions -/

/-- One step of the scan for holds: the items so far, the tasks blocked, the flows held, and the next number. -/
def State.holdStep (s : State) (acc : List SchItem × List Nat × List Nat × Nat) (i : SchItem) : List SchItem × List Nat × List Nat × Nat :=
  let (out, blocked, heldFlows, n) := acc
  if i.spilled.isSome || i.held.isSome || blocked.contains i.task then (out ++ [i], blocked, heldFlows, n)
  else match i.flow with
    | some f =>
      if s.flowBusy f || heldFlows.contains f then
        (out ++ [{ i with held := some n }], blocked, heldFlows ++ [f], n + 1)
      else (out ++ [i], blocked ++ [i.task], heldFlows, n)
    | none => (out ++ [i], blocked ++ [i.task], heldFlows, n)

theorem holdStep_out (s : State) (acc : List SchItem × List Nat × List Nat × Nat) (i : SchItem) :
    ∃ j, (s.holdStep acc i).1 = acc.1 ++ [j] ∧ { j with held := none } = { i with held := none } := by
  unfold State.holdStep
  dsimp only
  split
  · exact ⟨i, rfl, rfl⟩
  · split
    · split
      · exact ⟨_, rfl, rfl⟩
      · exact ⟨i, rfl, rfl⟩
    · exact ⟨i, rfl, rfl⟩

/-- The queue after a scan for holds. -/
def State.scanned (s : State) : List SchItem × List Nat × List Nat × Nat :=
  s.sch.items.foldl s.holdStep ([], [], (s.sch.items.filter (fun i => i.held.isSome)).filterMap (·.flow), s.sch.nextOrd)

theorem holdScan_eq (s : State) : s.holdScan = { s with sch := { s.sch with items := s.scanned.1, nextOrd := s.scanned.2.2.2 } } := rfl

/-- A scan for holds changes an item's hold alone. -/
theorem map_foldl_holdStep (s : State) (l : List SchItem) : ∀ acc, (l.foldl s.holdStep acc).1.map (fun i => { i with held := none })
    = acc.1.map (fun i => { i with held := none }) ++ l.map (fun i => { i with held := none }) := by
  induction l with
  | nil => exact fun acc => by simp
  | cons i l ih =>
    intro acc
    obtain ⟨j, out, same⟩ := holdStep_out s acc i
    rw [List.foldl_cons, ih, out]
    simp [same]

theorem holdScan_items (s : State) : s.holdScan.sch.items.map (fun i => { i with held := none }) = s.sch.items.map (fun i => { i with held := none }) :=
  (map_foldl_holdStep s s.sch.items _).trans (by simp)

theorem holdScan_length (s : State) : s.holdScan.sch.items.length = s.sch.items.length := by
  have h := congrArg List.length (holdScan_items s)
  rwa [List.length_map, List.length_map] at h

theorem runQuiet_holdScan (s : State) : RunQuiet r s s.holdScan := .sch s _

theorem queueKept_postTenant (s : State) (code n : Nat) (p : List Byte) : QueueKept s (s.postTenant code n p) :=
  .of_sch (BelowAlm.postTenant s code n p).sch

theorem queueKept_setFlags (s : State) (d bits : Nat) : QueueKept s (s.setFlags d bits) := by
  unfold State.setFlags State.putFlags State.noteCond
  split_ifs
  · exact ⟨rfl, rfl⟩
  · exact ⟨rfl, rfl⟩
  · exact ⟨rfl, rfl⟩

theorem queueKept_notice (s : State) (a : Nat) : QueueKept s (s.notice a) := by
  unfold State.notice
  split
  · exact queueKept_setFlags ..
  · exact .of_sch rfl

theorem queueKept_cplLost (s : State) (n : Nat) : QueueKept s (s.cplLost n) := by
  unfold State.cplLost
  dsimp only
  split
  · refine .trans ?_ (queueKept_postTenant _ _ _ _)
    exact ⟨rfl, rfl⟩
  · exact ⟨rfl, rfl⟩

theorem stwCplShow_sch (s : State) : s.stwCplShow.sch = s.sch :=
  List.foldlRecOn (motive := fun u : State => u.sch = s.sch) _ _ rfl fun _ ih _ _ => ih

theorem devWrite_sch (s : State) (a : Nat) (b : List Byte) : (s.devWrite a b).sch = s.sch := (congrArg State.sch (memOnly_devWrite s a b) :)

theorem queueKept_complete (s : State) (i : SchItem) (status result : Nat) : QueueKept s (s.complete i status result) := by
  unfold State.complete
  dsimp only
  split_ifs
  · exact .of_sch rfl
  · refine .trans ?_ (.of_sch (stwCplShow_sch _))
    exact ⟨rfl, rfl⟩
  · refine .trans ?_ (queueKept_cplLost _ _)
    exact ⟨rfl, rfl⟩
  · refine .trans ?_ (queueKept_notice _ _)
    constructor
    · simp only [devWrite_sch]
    · simp only [devWrite_sch]
  · refine .trans ?_ (queueKept_cplLost _ _)
    exact ⟨rfl, rfl⟩

/-! ### The end of the one item in service -/

theorem chargeAll_runs_single (h : s.sch.runs = [r]) : s.chargeAll.sch.runs = [{ r with charged := s.now }] := by
  rw [chargeAll_sch, State.chargedRuns, h]
  rfl

/-- The one item in service ends: its core is free, the queue stays, and nothing else is touched than it may. -/
theorem endRun_single (h : s.sch.runs = [r]) (hr : r.core = core) (status result : Nat) : (s.endRun core status result).sch.runs = [] ∧
    (s.endRun core status result).sch.items.length = s.sch.items.length ∧ RunQuiet r s (s.endRun core status result) := by
  have runs := chargeAll_runs_single h
  have run : s.chargeAll.runOf core = some { r with charged := s.now } := by
    unfold State.runOf
    rw [runs]
    simp [hr]
  have none : s.chargeAll.sch.runs.filter (fun x => x.core != core) = [] := by
    rw [runs]
    simp [hr]
  have items : s.chargeAll.sch.items = s.sch.items := by rw [chargeAll_sch]
  have e : s.endRun core status result = ((s.chargeAll.setSch s.sch.items []).complete r.item status result).holdScan := by
    unfold State.endRun
    simp only [run, none, items]
  rw [e]
  have kept := queueKept_complete (s.chargeAll.setSch s.sch.items []) r.item status result
  have sch := setSch_sch s.chargeAll s.sch.items []
  refine ⟨kept.runs.trans (by rw [sch]), (holdScan_length _).trans (congrArg List.length (kept.items.trans (by rw [sch]))), ?_⟩
  refine (runQuiet_chargeAll s).trans (.trans (runQuiet_setSch _ _ _ fun x hx => ?_) ((runQuiet_complete ..).trans (runQuiet_holdScan _)))
  rw [runs] at hx
  obtain rfl : x = { r with charged := s.now } := by simpa using hx
  rfl

theorem runOf_of_runs_nil (h : s.sch.runs = []) (core : Nat) : s.runOf core = none ∧ s.coreTenant core = none := by
  unfold State.coreTenant State.runOf
  rw [h]
  exact ⟨rfl, rfl⟩

end Sys2Proof.Machine
end

section
/-! Dispatch (R237 to R244): an item placed on a core, and the tenant's calls that end one. -/

namespace Sys2Proof.Machine

variable {s : State} {t n core : Nat} {r : SchRun} {c : SchCand}

/-! ### An item placed -/

/-- The run that a placed item becomes. -/
def State.placedRun (s : State) (core : Nat) (c : SchCand) : SchRun :=
  { core, item := { c.item with held := none }, captured := s.descFlags c.item.task &&& s.descMask c.item.task
    entry := (s.rdW (SCH_DESC c.item.task 2)).toNat, since := s.now, charged := s.now }

/-- What a dispatch counts, and the flags it clears. -/
def State.dispatchCounted (s : State) (core : Nat) (c : SchCand) : State :=
  let d := c.item.task
  let wait := s.now - max c.item.enq (cget (fun _ => 0) s.sch.condAt d)
  let u := s.bump (cntSCH_HIST_BIN0 d + 8 * waitBin (s.rd SCH_HIST_CFG SCH_HIST_CFG_UNIT) wait) 1
  let u := (u.bump (cntSCH_TEN_DISPATCHED c.item.tenant) 1).bump (cntSCH_CORE_ITEMS core) 1
  if u.descB d DESC_CLR then u.putFlags d (u.descFlags d &&& ((s.descFlags d &&& s.descMask d) ^^^ 0xFFFFFFFF)) else u

theorem dispatchCounted_facts (s : State) (core : Nat) (c : SchCand) : (s.dispatchCounted core c).now = s.now ∧
    (s.dispatchCounted core c).sch.runs = s.sch.runs ∧
    (s.dispatchCounted core c).rdW (SCH_DESC c.item.task 2) = s.rdW (SCH_DESC c.item.task 2) := by
  have entry (w : Word) : (s.wrW (SCH_DESC c.item.task 0) w).rdW (SCH_DESC c.item.task 2) = s.rdW (SCH_DESC c.item.task 2) :=
    s.rdW_wrW_ne w (by unfold SCH_DESC; omega)
  unfold State.dispatchCounted State.putFlags State.noteCond
  dsimp only
  split_ifs
  · exact ⟨rfl, rfl, entry _⟩
  · exact ⟨rfl, rfl, entry _⟩
  · exact ⟨rfl, rfl, rfl⟩

theorem place_eq (s : State) (core : Nat) (c : SchCand) : ∃ (items : List SchItem) (x : Sch), x.runs = s.sch.runs ∧
    s.place core c = (State.setSch { s.dispatchCounted core c with sch := x } items (s.sch.runs ++ [s.placedRun core c])).holdScan := by
  obtain ⟨now, runs, entry⟩ := dispatchCounted_facts s core c
  refine ⟨if c.flagOnly then (s.dispatchCounted core c).sch.items else (s.dispatchCounted core c).sch.items.filter (fun i => i.ord != c.item.ord),
    { (s.dispatchCounted core c).sch with gprs := cerase (fun k => k / 65536 == core) (s.dispatchCounted core c).sch.gprs }, runs, ?_⟩
  unfold State.placedRun
  rw [← runs, ← entry, ← now]
  rfl

theorem place_runs (s : State) (core : Nat) (c : SchCand) : (s.place core c).sch.runs = s.sch.runs ++ [s.placedRun core c] := by
  obtain ⟨items, x, -, e⟩ := place_eq s core c
  rw [e]
  exact congrArg Sch.runs (setSch_sch _ _ _)

theorem place_now (s : State) (core : Nat) (c : SchCand) : (s.place core c).now = s.now := by
  obtain ⟨items, x, -, e⟩ := place_eq s core c
  rw [e]
  exact (setSch_now _ _ _).trans (dispatchCounted_facts s core c).1

theorem place_runOf (h : s.runOf core = none) (c : SchCand) : (s.place core c).runOf core = some (s.placedRun core c) := by
  unfold State.runOf at h ⊢
  rw [place_runs, List.find?_append, h]
  simp [State.placedRun]

/-! ### A core's turn -/

theorem corePresent_congr {u : State} (h : u.fuses = s.fuses) : u.corePresent core = s.corePresent core := by
  unfold State.corePresent State.clusterPresent State.feature
  rw [h]

theorem dispatchCore_free (present : s.corePresent core = true) (free : s.runOf core = none) (h : s.chargeAll.choose (core / 8) = some c) :
    s.dispatchCore core = s.chargeAll.place core c := by
  have idle : (s.chargeAll.runOf core).isNone = true := by rw [chargeAll_runOf, free]; rfl
  have there : s.chargeAll.corePresent core = true := (corePresent_congr (chargeAll_fuses s)).trans present
  unfold State.dispatchCore
  simp only [there, idle, h, Bool.and_self, ↓reduceIte]

theorem dispatchCore_busy (h : s.runOf core ≠ none) : s.dispatchCore core = s.chargeAll := by
  have busy : (s.chargeAll.runOf core).isNone = false := by
    rw [chargeAll_runOf]
    exact Option.isNone_eq_false_iff.2 (Option.isSome_iff_ne_none.2 h)
  unfold State.dispatchCore
  simp only [busy, Bool.and_false, Bool.false_eq_true, ↓reduceIte]

theorem dispatchCore_off (en : s.rdB SCH_CTRL SCH_CTRL_EN = false) : s.dispatchCore core = s.chargeAll := by
  have none : s.chargeAll.choose (core / 8) = none := by
    have off : s.chargeAll.rdB SCH_CTRL SCH_CTRL_EN = false := by
      rw [← en, chargeAll_eq]
      refine State.rdB_congr (List.foldlRecOn (motive := fun u : State => u.rdW SCH_CTRL = s.rdW SCH_CTRL) _ _ rfl fun u ih x _ => ?_) _
      refine (State.rdW_wr_ne _ _ _ ?_).trans ((State.rdW_wr_ne u _ _ ?_).trans ih)
      · unfold SCH_CTRL SCH_TEN_STAT; omega
      · unfold SCH_CTRL SCH_TEN_USED; omega
    unfold State.choose
    rw [off]
    rfl
  unfold State.dispatchCore
  simp only [none, ite_self]

theorem runOf_single (h : s.sch.runs = [r]) (hr : r.core = core) : s.runOf core = some r ∧ s.coreTenant core = some r.item.tenant := by
  have run : s.runOf core = some r := by
    unfold State.runOf
    rw [h]
    simp [hr]
  exact ⟨run, by rw [State.coreTenant, run]; rfl⟩

theorem opTwNext_idle (h : ((s.endRun core 0 0).dispatchCore core).runOf core = none) :
    opTwNext core s = { (s.endRun core 0 0).dispatchCore core with bus := {} } := by
  unfold opTwNext
  dsimp only
  rw [h]

theorem opTwNext_again {r' : SchRun} (run : s.runOf core = some r) (h : ((s.endRun core 0 0).dispatchCore core).runOf core = some r')
    (same : r.item.task = r'.item.task) : opTwNext core s = ((s.endRun core 0 0).dispatchCore core).answer 1 := by
  unfold opTwNext
  dsimp only
  rw [h, run]
  exact if_pos (congrArg some same)

/-! ### The run limit (R243) -/

theorem opRunLimit_idle (h : s.runOf core = none) : opRunLimit core s = s := by
  unfold opRunLimit
  rw [h]

theorem opRunLimit_early (h : s.runOf core = some r) (limit : s.rd (SCH_DESC r.item.task 4) DESC_RUN_LIMIT ≠ 0)
    (early : s.now - r.since ≤ s.rd (SCH_DESC r.item.task 4) DESC_RUN_LIMIT * 1000) : opRunLimit core s = s := by
  unfold opRunLimit
  rw [h]
  dsimp only
  exact if_neg (by rw [if_neg limit]; exact not_lt.2 early)

/-- The record of a run past its limit. -/
def State.runLimitNoted (s : State) (core : Nat) (r : SchRun) : State :=
  (s.bump (cntSCH_TEN_RUN_LIMITS r.item.tenant) 1).postTenant 0x0502 r.item.tenant
    (p2 r.item.tenant ++ p2 r.item.task ++ p1 core ++ p4 r.item.round)

theorem opRunLimit_late (h : s.runOf core = some r) (limit : s.rd (SCH_DESC r.item.task 4) DESC_RUN_LIMIT ≠ 0)
    (late : s.rd (SCH_DESC r.item.task 4) DESC_RUN_LIMIT * 1000 < s.now - r.since) :
    opRunLimit core s = (s.endRun core 0x0514 0).runLimitNoted core r := by
  unfold opRunLimit
  rw [h]
  dsimp only
  exact if_pos (by rw [if_neg limit]; exact late)

theorem runLimitNoted_facts (s : State) (core : Nat) (h : r.item.tenant < 512) : (s.runLimitNoted core r).sch = s.sch ∧
    (s.runLimitNoted core r).count (cntSCH_TEN_RUN_LIMITS r.item.tenant) = (s.count (cntSCH_TEN_RUN_LIMITS r.item.tenant) + 1) % 2 ^ 64 := by
  have event := EventOnly.postTenant (s.bump (cntSCH_TEN_RUN_LIMITS r.item.tenant) 1) 0x0502
    (p2 r.item.tenant ++ p2 r.item.task ++ p1 core ++ p4 r.item.round) (show r.item.tenant < 0x10000 by omega)
  refine ⟨event.sch, (event.counts _ ?_ ?_).trans (s.count_bump_same _ 1)⟩
  · unfold cntSCH_TEN_RUN_LIMITS; omega
  · unfold cntSCH_TEN_RUN_LIMITS; omega

/-! ### A tenant's fault (R208) -/

theorem tenFaultEvent_event (s : State) (h : n < 512) (cause va core : Nat) :
    EventOnly (s.bump (cntTEN_FAULTS n) 1) (s.tenFaultEvent n cause va core) := .postLimited _ _ _ _ (by omega)

theorem runQuiet_complete_of_tenant {i : SchItem} (h : i.tenant = r.item.tenant) (s : State) (status result : Nat) :
    RunQuiet r s (s.complete i status result) := by
  obtain ⟨now, fuses, low, counts⟩ := runQuiet_complete (r := { r with item := i }) s status result
  have words : QuietWord { r with item := i } = QuietWord r := by funext a; simp only [QuietWord, h]
  have counters : QuietCount { r with item := i } = QuietCount r := by funext a; simp only [QuietCount, h]
  exact ⟨now, fuses, words ▸ low, counters ▸ counts⟩

/-- A tenant's items leave the queue while no core runs any. -/
theorem removeItems_quiet (h : s.sch.runs = []) (status : Nat) : RunQuiet r s (s.removeItems (fun i => i.tenant == r.item.tenant) status) ∧
    (s.removeItems (fun i => i.tenant == r.item.tenant) status).sch.runs = [] := by
  unfold State.removeItems
  dsimp only
  constructor
  · refine (runQuiet_setSch s _ _ fun x hx => ?_).trans (.trans (.foldl _ _ fun u i hi => ?_) (runQuiet_holdScan _))
    · rw [h] at hx
      exact absurd hx (by simp)
    · exact runQuiet_complete_of_tenant (beq_iff_eq.1 (List.mem_filter.1 hi).2) u status 0
  · refine Eq.trans (b := State.sch _ |>.runs) rfl ?_
    refine List.foldlRecOn (motive := fun u : State => u.sch.runs = []) _ _ ?_ fun u ih i _ => (queueKept_complete u i status 0).runs.trans ih
    rw [setSch_sch]
    exact h

/-- A register of a descriptor ring. -/
theorem apart_ring {a : Nat} (lo : 0x01000000 ≤ a) (hi : a < 0x02000000) : ¬ QuietWord r a := by unfold QuietWord SCH_CTRL; omega

theorem runQuiet_prtRej (s : State) : RunQuiet r s (s.prtRej 0) := .wr s _ _ (apart_ring (by decide) (by decide))

theorem runQuiet_rxDiscard (s : State) (base size head k : Nat) : RunQuiet r s (s.rxDiscard base size head k) :=
  .foldl _ _ fun u _ _ => runQuiet_devWrite u _ _

theorem runQuiet_rxAbort (s : State) (x : Nat) (hx : x < 1024) : RunQuiet r s (s.rxAbort x) := by
  unfold State.rxAbort
  split
  · split
    · refine .trans (.trans ?_ (runQuiet_rxDiscard _ _ _ _ _)) (.bump _ 1 ?_)
      · exact .of_fields rfl rfl rfl rfl
      · unfold QuietCount cntPRT_RXR_NOBUF_COUNT
        omega
    · exact .refl s
  · exact .refl s

theorem rxAbort_sch (s : State) (x : Nat) : (s.rxAbort x).sch = s.sch := by
  unfold State.rxAbort
  split
  · split
    · exact List.foldlRecOn (motive := fun u : State => u.sch = s.sch) _ _ rfl fun u ih k _ => (devWrite_sch u _ _).trans ih
    · rfl
  · rfl

theorem rxRingDisable_quiet (s : State) (x : Nat) (v : Word) : RunQuiet r s (opRxRingDisable x v s) ∧ (opRxRingDisable x v s).sch = s.sch := by
  by_cases hx : x < 1024
  · have aborted (c : Prop) [Decidable c] : RunQuiet r s (if c then s.rxAbort x else s) ∧ (if c then s.rxAbort x else s).sch = s.sch := by
      split
      · exact ⟨runQuiet_rxAbort s x hx, rxAbort_sch s x⟩
      · exact ⟨.refl s, rfl⟩
    have cfg : ¬ QuietWord r (PRT_RXR_CFG x) := apart_ring (by unfold PRT_RXR_CFG; omega) (by unfold PRT_RXR_CFG; omega)
    have head : ¬ QuietWord r (PRT_RXR_HEAD x) := apart_ring (by unfold PRT_RXR_HEAD; omega) (by unfold PRT_RXR_HEAD; omega)
    have tail : ¬ QuietWord r (PRT_RXR_TAIL x) := apart_ring (by unfold PRT_RXR_TAIL; omega) (by unfold PRT_RXR_TAIL; omega)
    unfold opRxRingDisable
    rw [if_neg (not_not.2 hx)]
    dsimp only
    split
    · exact ⟨runQuiet_prtRej s, rfl⟩
    · split
      · exact ⟨(aborted _).1.trans ((RunQuiet.wrW _ _ cfg).trans ((RunQuiet.wr _ _ _ head).trans (.wr _ _ _ tail))), (aborted _).2⟩
      · exact ⟨(aborted _).1.trans (.wrW _ _ cfg), (aborted _).2⟩
  · unfold opRxRingDisable
    rw [if_pos hx]
    exact ⟨.refl s, rfl⟩

theorem txRingDisable_quiet (s : State) (x : Nat) (v : Word) : RunQuiet r s (opTxRingDisable x v s) ∧ (opTxRingDisable x v s).sch = s.sch := by
  by_cases hx : x < 1024
  · have cfg : ¬ QuietWord r (PRT_TXR_CFG x) := apart_ring (by unfold PRT_TXR_CFG; omega) (by unfold PRT_TXR_CFG; omega)
    have head : ¬ QuietWord r (PRT_TXR_HEAD x) := apart_ring (by unfold PRT_TXR_HEAD; omega) (by unfold PRT_TXR_HEAD; omega)
    have tail : ¬ QuietWord r (PRT_TXR_TAIL x) := apart_ring (by unfold PRT_TXR_TAIL; omega) (by unfold PRT_TXR_TAIL; omega)
    unfold opTxRingDisable
    rw [if_neg (not_not.2 hx)]
    dsimp only
    split
    · exact ⟨runQuiet_prtRej s, rfl⟩
    · split
      · exact ⟨(RunQuiet.wrW s _ cfg).trans ((RunQuiet.wr _ _ _ head).trans (.wr _ _ _ tail)), rfl⟩
      · exact ⟨.wrW s _ cfg, rfl⟩
  · unfold opTxRingDisable
    rw [if_pos hx]
    exact ⟨.refl s, rfl⟩

theorem disableRings_quiet (s : State) (n : Nat) : RunQuiet r s (s.disableRings n) ∧ (s.disableRings n).sch = s.sch := by
  refine List.foldlRecOn (motive := fun u : State => RunQuiet r s u ∧ u.sch = s.sch) _ _ ⟨.refl s, rfl⟩ fun u ⟨quiet, sch⟩ i _ => ?_
  split
  next x _ =>
    obtain ⟨rxQuiet, rxSch⟩ := rxRingDisable_quiet (r := r) u x (fset PRT_RXR_CFG_EN (u.rdW (PRT_RXR_CFG x)) 0)
    obtain ⟨txQuiet, txSch⟩ := txRingDisable_quiet (r := r) u x (fset PRT_TXR_CFG_EN (u.rdW (PRT_TXR_CFG x)) 0)
    split
    · exact ⟨quiet.trans rxQuiet, rxSch.trans sch⟩
    · exact ⟨quiet.trans txQuiet, txSch.trans sch⟩
  next => exact ⟨quiet, sch⟩

theorem disableRunning_running (h : s.tenState n = 2) (cause : Nat) : s.disableRunning n cause = some ((s.dropEvents n).quiesce n cause) := by
  unfold State.disableRunning
  dsimp only
  rw [if_neg (by omega), if_neg (by omega), if_pos h]

/-- A tenant quiesced while no core runs: its state, and the cores. -/
theorem quiesce_facts (hn : r.item.tenant < 512) (hc : r.core < 128) (h : s.sch.runs = []) (cause : Nat) :
    ((s.dropEvents r.item.tenant).quiesce r.item.tenant cause).tenState r.item.tenant = 3 ∧
    ((s.dropEvents r.item.tenant).quiesce r.item.tenant cause).sch.runs = [] := by
  have quiet : QuietWord r (TEN_STATE r.item.tenant) := by unfold QuietWord TEN_STATE SCH_CORE_STAT; omega
  let u := (s.dropEvents r.item.tenant).setTenState r.item.tenant 3 cause
  have state : u.tenState r.item.tenant = 3 := setTenState_state _ hn (by decide) cause
  have runs : u.sch.runs = [] := (congrArg Sch.runs (setTenState_event _ hn 3 cause).sch).trans h
  obtain ⟨ringsQuiet, ringsSch⟩ := disableRings_quiet (r := r) u r.item.tenant
  unfold State.quiesce
  dsimp only
  have removed (v : State) (vr : v.sch.runs = []) := removeItems_quiet (r := r) vr 0x0501
  generalize hd : State.disableRings _ _ = d at *
  have dRuns : d.sch.runs = [] := (congrArg Sch.runs ringsSch).trans runs
  have dState : d.tenState r.item.tenant = 3 := (ringsQuiet.low.low _ quiet TEN_STATE_STATE (by decide)).trans state
  obtain ⟨remQuiet, remRuns⟩ := removed { d with ten := { d.ten with cutoffs := d.ten.cutoffs ++ [(r.item.tenant,
    if d.gridOn then max d.now (d.ownOf (d.nextT - 5000)) else d.now)] } } dRuns
  exact ⟨(remQuiet.low.low _ quiet TEN_STATE_STATE (by decide)).trans dState, remRuns⟩

theorem opTenantFault_eq (h : s.coreTenant core = some n) (cause va : Nat) : opTenantFault core cause va s =
    if ((s.tenFaultEvent n cause va core).endRun core 0x0512 0).rdB (TEN_CFG n) TEN_CFG_FAULT_POLICY then
      (((s.tenFaultEvent n cause va core).endRun core 0x0512 0).disableRunning n 4).getD ((s.tenFaultEvent n cause va core).endRun core 0x0512 0)
    else (s.tenFaultEvent n cause va core).endRun core 0x0512 0 := by
  unfold opTenantFault
  rw [h]

/-- A fault of the one tenant in service, noted, and its item ended. -/
theorem faultEnded_facts (h : s.sch.runs = [r]) (hr : r.core = core) (hc : core < 128) (hn : r.item.tenant < 512) (cause va : Nat) :
    ((s.tenFaultEvent r.item.tenant cause va core).endRun core 0x0512 0).sch.runs = [] ∧
    ((s.tenFaultEvent r.item.tenant cause va core).endRun core 0x0512 0).tenState r.item.tenant = s.tenState r.item.tenant ∧
    ((s.tenFaultEvent r.item.tenant cause va core).endRun core 0x0512 0).rdB (TEN_CFG r.item.tenant) TEN_CFG_FAULT_POLICY
      = s.rdB (TEN_CFG r.item.tenant) TEN_CFG_FAULT_POLICY ∧
    ((s.tenFaultEvent r.item.tenant cause va core).endRun core 0x0512 0).count (cntTEN_FAULTS r.item.tenant)
      = (s.count (cntTEN_FAULTS r.item.tenant) + 1) % 2 ^ 64 := by
  subst hr
  have event := tenFaultEvent_event s hn cause va r.core
  obtain ⟨runs, -, quiet⟩ := endRun_single (s := s.tenFaultEvent r.item.tenant cause va r.core)
    ((congrArg Sch.runs event.sch).trans h) rfl 0x0512 0
  have state : QuietWord r (TEN_STATE r.item.tenant) := by unfold QuietWord TEN_STATE SCH_CORE_STAT; omega
  have cfg : QuietWord r (TEN_CFG r.item.tenant) := by unfold QuietWord TEN_CFG SCH_CORE_STAT; omega
  have cfgQuiet : ¬ eventWord (TEN_CFG r.item.tenant) := not_eventWord (by unfold TEN_CFG; omega) (by unfold TEN_CFG; omega)
  refine ⟨runs, ?_, ?_, ?_⟩
  · exact (quiet.low.low _ state TEN_STATE_STATE (by decide)).trans (event.rd (not_eventWord_tenState hn) _)
  · exact congrArg (· != 0) ((quiet.low.low _ cfg TEN_CFG_FAULT_POLICY (by decide)).trans (event.rd cfgQuiet _))
  · refine (quiet.counts.counts _ ?_).trans ((event.counts _ ?_ ?_).trans (s.count_bump_same _ 1))
    all_goals unfold cntTEN_FAULTS; omega

/-! ### The claim -/

/-- Settles O19: a dispatch places the scheduler's choice; each end of an item frees its core first. -/
theorem dispatchAndCompletion : Obligations.DispatchAndCompletion := by
  refine ⟨?placed, ?dispatch, ?busy, ?done, ?doneEq, ?nextIdle, ?nextSame, ?nextOff, ?nextAgain, ?limitIdle, ?limitEarly, ?limitEq, ?limitLate,
    ?fault, ?faultDisables, ?faultIdle, ?faultEq, ?faultDisablesEq⟩
  case placed =>
    intro t core c s present runs h
    have free : (s.advance t).runOf core = none := (runOf_of_runs_nil (s := s.advance t) runs core).1
    have charged : (s.advance t).chargeAll.regs = s.regs := by rw [chargeAll_eq, show (s.advance t).sch.runs = [] from runs]; rfl
    refine completes_of_eq rfl (dispatchCore_free (s := s.advance t) present free h)
      ⟨(s.advance t).chargeAll.placedRun core c, place_runOf (s := (s.advance t).chargeAll) (Option.isNone_iff_eq_none.1 ((chargeAll_runOf _ _).trans (by rw [free]; rfl))) c, rfl, ?_, ?_,
        chargeAll_now _⟩
    · unfold State.placedRun State.descFlags State.descMask
      rw [State.rdW_congr charged, State.rdW_congr charged]
    · unfold State.placedRun
      rw [State.rdW_congr charged]
  case dispatch => exact fun t core c s present free h => exec_congr (t := t) (f := opDispatch core) rfl (dispatchCore_free (s := s.advance t) present free h)
  case busy => exact fun t core s h => exec_congr (t := t) (f := opDispatch core) rfl (dispatchCore_busy (s := s.advance t) h)
  case done =>
    intro t core r result s runs hr
    exact completes_of_runAt (t := t) (g := opTwDone core result) rfl
      (runOf_of_runs_nil (endRun_single (s := s.advance t) runs hr 0 (result % 65536)).1 core)
  case doneEq => exact fun t core result s => rfl
  case nextIdle => exact fun t core s _ h => exec_congr (t := t) (f := opTwNext core) rfl (opTwNext_idle (s := s.advance t) h)
  case nextSame => exact fun t core r r' s run h same => exec_congr (t := t) (f := opTwNext core) rfl (opTwNext_again (s := s.advance t) run h same)
  case nextOff =>
    intro t core r s runs hr en
    obtain ⟨none, -, quiet⟩ := endRun_single (s := s.advance t) runs hr 0 0
    have off : ((s.advance t).endRun core 0 0).rdB SCH_CTRL SCH_CTRL_EN = false :=
      (congrArg (· != 0) (quiet.low.low SCH_CTRL ⟨.inl rfl, by unfold SCH_CTRL SCH_CORE_STAT; omega⟩ SCH_CTRL_EN (by decide))).trans en
    have free := runOf_of_runs_nil (s := ((s.advance t).endRun core 0 0).dispatchCore core) (core := core) (by
      rw [dispatchCore_off off, chargeAll_sch, State.chargedRuns, none]
      rfl)
    exact completes_of_eq (t := t) (g := opTwNext core) rfl (opTwNext_idle (s := s.advance t) free.1) ⟨free.1, free.2, rfl⟩
  case nextAgain =>
    intro t core r c s present runs hr h same
    obtain ⟨none, -, quiet⟩ := endRun_single (s := s.advance t) runs hr 0 0
    have free := (runOf_of_runs_nil none core).1
    have e := dispatchCore_free (s := (s.advance t).endRun core 0 0) ((corePresent_congr quiet.fuses).trans present) free h
    have run := place_runOf (s := ((s.advance t).endRun core 0 0).chargeAll) (core := core)
      (Option.isNone_iff_eq_none.1 ((chargeAll_runOf _ _).trans (by rw [free]; rfl))) c
    refine completes_of_eq (t := t) (g := opTwNext core) rfl
      (opTwNext_again (s := s.advance t) (runOf_single (s := s.advance t) runs hr).1 (by rw [e]; exact run) same.symm) ⟨rfl, rfl,
        ((s.advance t).endRun core 0 0).chargeAll.placedRun core c, ?_, rfl, ?_⟩
    · rw [e]
      exact run
    · exact (chargeAll_now _).trans quiet.now
  case limitIdle => exact fun t core s h => completes_of_idle (t := t) (g := opRunLimit core) rfl (opRunLimit_idle (s := s.advance t) h)
  case limitEarly =>
    exact fun t core r s run limit early => completes_of_idle (t := t) (g := opRunLimit core) rfl (opRunLimit_early (s := s.advance t) run limit early)
  case limitEq =>
    exact fun t core r s run limit late => exec_congr (t := t) (f := opRunLimit core) rfl (opRunLimit_late (s := s.advance t) run limit late)
  case limitLate =>
    intro t core r s runs hr hc hn limit late
    obtain ⟨none, items, quiet⟩ := endRun_single (s := s.advance t) runs hr 0x0514 0
    obtain ⟨sch, counted⟩ := runLimitNoted_facts ((s.advance t).endRun core 0x0514 0) core hn
    refine completes_of_eq (t := t) (g := opRunLimit core) rfl
      (opRunLimit_late (s := s.advance t) (runOf_single (s := s.advance t) runs hr).1 limit late) ⟨?_, ?_, counted.trans ?_⟩
    · exact (runOf_of_runs_nil ((congrArg Sch.runs sch).trans none) core).1
    · exact (congrArg (fun x => x.items.length) sch).trans items
    · rw [quiet.counts.counts _ (by unfold QuietCount cntSCH_TEN_RUN_LIMITS; omega)]
      rfl
  case fault =>
    intro t core cause va r s runs hr hc hn policy
    obtain ⟨none, state, cfg, count⟩ := faultEnded_facts (s := s.advance t) runs hr hc hn cause va
    exact completes_of_eq (t := t) (g := opTenantFault core cause va) rfl
      ((opTenantFault_eq (s := s.advance t) (runOf_single (s := s.advance t) runs hr).2 cause va).trans (if_neg (by rw [cfg]; exact Bool.not_eq_true _ ▸ policy)))
      ⟨(runOf_of_runs_nil none core).1, state, count⟩
  case faultDisables =>
    intro t core cause va r s runs hr hc hn policy running
    obtain ⟨none, state, cfg, -⟩ := faultEnded_facts (s := s.advance t) runs hr hc hn cause va
    obtain ⟨quiesced, still⟩ := quiesce_facts hn (hr ▸ hc) none 4
    have disabled := disableRunning_running (state.trans running) 4
    refine completes_of_eq (t := t) (u := (State.dropEvents _ _).quiesce _ _) (g := opTenantFault core cause va) rfl
      ((opTenantFault_eq (s := s.advance t) (runOf_single (s := s.advance t) runs hr).2 cause va).trans ((if_pos (cfg.trans policy)).trans
        (congrArg (Option.getD · _) disabled))) ⟨(runOf_of_runs_nil still core).1, quiesced⟩
  case faultIdle =>
    intro t core cause va s h
    refine completes_of_idle (t := t) (g := opTenantFault core cause va) rfl ?_
    unfold opTenantFault
    rw [show (s.advance t).coreTenant core = none from h]
  case faultEq =>
    intro t core cause va n s h policy
    exact exec_congr (t := t) (f := opTenantFault core cause va) rfl
      ((opTenantFault_eq (s := s.advance t) h cause va).trans (if_neg (by rw [policy]; exact Bool.false_ne_true)))
  case faultDisablesEq =>
    exact fun t core cause va n s h policy => exec_congr (t := t) (f := opTenantFault core cause va) rfl
      ((opTenantFault_eq (s := s.advance t) h cause va).trans (if_pos policy))

end Sys2Proof.Machine
end

section
/-! Enqueue (R245 to R247) and the spill area (R249). -/

namespace Sys2Proof.Machine

variable {s : State} {t n core task k : Nat} {v : Word} {x : SchItem}

/-! ### Enqueue by a core and by the steward -/

theorem opTwEnq_eq (h : s.coreTenant core = some n) {code : Nat}
    (test : s.enqTest n (s.taskFirst n + k % 256) (s.parseItem (cget (fun _ => []) s.sch.enqBuf core) (s.taskFirst n + k % 256) n false) = code) :
    opTwEnq core k s = (let u : State := { s with sch := { s.sch with enqStat := cset (fun _ => 0) s.sch.enqStat core code } }
      if code = 0 then u.accept (s.parseItem (cget (fun _ => []) s.sch.enqBuf core) (s.taskFirst n + k % 256) n false)
      else (u.refuseEnq n code).notice (SCH_TEN_REFUSE n)) := by
  subst test
  unfold opTwEnq
  rw [h]

theorem opSchStwEnq_eq (h : s.taskOwner task = some n) {code : Nat} (test : s.enqTest n task (s.parseItem s.stwItem task n true) = code) :
    opSchStwEnq task s = (if code = 0 then (s.wr SCH_STW_ENQ_STAT SCH_STW_ENQ_STAT_STATUS code).accept (s.parseItem s.stwItem task n true)
      else (s.wr SCH_STW_ENQ_STAT SCH_STW_ENQ_STAT_STATUS code).refuseEnq n code) := by
  subst test
  unfold opSchStwEnq
  rw [h]

theorem opSchStwEnq_unowned (h : s.taskOwner task = none) :
    opSchStwEnq task s = s.wr SCH_STW_ENQ_STAT SCH_STW_ENQ_STAT_STATUS 0x0510 := by
  unfold opSchStwEnq
  rw [h]

theorem enqTest_down (h : s.tenState n = 3 ∨ s.tenState n = 4 ∨ s.tenState n = 0) (d : Nat) (i : SchItem) : s.enqTest n d i = 0x0501 := by
  unfold State.enqTest
  exact if_pos h

/-- A notice changes no status of an enqueue and no count of refusals. -/
theorem notice_refusal (s : State) (a : Nat) : (s.notice a).sch.enqStat = s.sch.enqStat ∧
    (s.notice a).count (cntSCH_TEN_REFUSED n) = s.count (cntSCH_TEN_REFUSED n) := by
  have dropped : cntSCH_TEN_REFUSED n ≠ cntSCH_FLAG_DROPPED := by unfold cntSCH_TEN_REFUSED cntSCH_FLAG_DROPPED; omega
  unfold State.notice State.setFlags State.putFlags State.noteCond
  split_ifs
  · exact ⟨rfl, rfl⟩
  · exact ⟨rfl, rfl⟩
  · exact ⟨rfl, s.count_bump_ne 1 dropped⟩
  · exact ⟨rfl, rfl⟩

/-! ### The spill area -/

theorem opSpillRefill_none (h : ∀ x ∈ s.sch.items, x.tenant = n → x.spilled = none) (ue : Bool) : opSpillRefill n ue s = s := by
  have none : s.sch.items.find? (fun i => i.tenant == n && i.spilled.isSome) = none := by
    refine List.find?_eq_none.2 fun x hx k => ?_
    obtain ⟨tenant, spilled⟩ := Bool.and_eq_true_iff.1 k
    rw [h x hx (beq_iff_eq.1 tenant)] at spilled
    exact absurd spilled (by decide)
  unfold opSpillRefill
  rw [none]

/-- The oldest spilled item of a tenant with room on chip. -/
structure Refills (s : State) (n : Nat) (x : SchItem) : Prop where
  oldest : s.sch.items.find? (fun x => x.tenant == n && x.spilled.isSome) = some x
  quota : s.onChip (fun x => x.tenant == n) < s.onChipQuota n
  room : s.onChip (fun _ => true) < 32768

/-- The item `x` back on chip. -/
def State.refilled (s : State) (x : SchItem) : State :=
  (s.setSch (s.sch.items.map (fun y => if y.ord == x.ord then { y with spilled := none } else y)) s.sch.runs).holdScan

/-- The item `x`, whose record cannot be read, given up. -/
def State.spillGivenUp (s : State) (n : Nat) (x : SchItem) : State :=
  ((s.setSch (s.sch.items.filter (fun j => j.ord != x.ord)) s.sch.runs).complete x 0x0512 0).postTenant 0x0503 n (p2 n ++ p4 (x.spilled.getD 0))

theorem opSpillRefill_good (h : Refills s n x)
    (good : s.anyBad ((s.spillRing n).1 + 64 * (x.spilled.getD 0 % (s.spillRing n).2)) 64 = false) : opSpillRefill n false s = s.refilled x := by
  obtain ⟨oldest, quota, room⟩ := h
  unfold opSpillRefill
  rw [oldest]
  dsimp only
  rw [if_neg (by omega), good, if_neg (by simp)]
  rfl

theorem opSpillRefill_bad (h : Refills s n x) : opSpillRefill n true s = s.spillGivenUp n x := by
  obtain ⟨oldest, quota, room⟩ := h
  unfold opSpillRefill
  rw [oldest]
  dsimp only
  rw [if_neg (by omega), if_pos (.inl rfl)]
  rfl

theorem mem_holdScan {y : SchItem} (h : y ∈ s.holdScan.sch.items) : ∃ z ∈ s.sch.items, { z with held := none } = { y with held := none } := by
  have mapped := List.mem_map_of_mem (f := fun i : SchItem => { i with held := none }) h
  rw [holdScan_items] at mapped
  obtain ⟨z, hz, e⟩ := List.mem_map.1 mapped
  exact ⟨z, hz, e⟩

theorem refilled_facts (s : State) (x : SchItem) : (∀ y ∈ (s.refilled x).sch.items, y.ord = x.ord → y.spilled = none) ∧
    (s.refilled x).sch.items.length = s.sch.items.length ∧ (s.refilled x).sch.runs = s.sch.runs := by
  have sch := setSch_sch s (s.sch.items.map (fun y => if y.ord == x.ord then { y with spilled := none } else y)) s.sch.runs
  refine ⟨fun y hy same => ?_, ?_, (congrArg Sch.runs sch :)⟩
  · obtain ⟨z, hz, e⟩ := mem_holdScan hy
    rw [sch] at hz
    obtain ⟨w, -, rfl⟩ := List.mem_map.1 hz
    have ord : (if w.ord == x.ord then { w with spilled := none } else w).ord = y.ord := (congrArg SchItem.ord e :)
    have spilled : (if w.ord == x.ord then { w with spilled := none } else w).spilled = y.spilled := (congrArg SchItem.spilled e :)
    by_cases back : (w.ord == x.ord) = true
    · rw [← spilled, if_pos back]
    · rw [if_neg back] at ord
      exact absurd (beq_iff_eq.2 (ord.trans same)) back
  · refine (holdScan_length _).trans ?_
    rw [sch, List.length_map]

theorem spillGivenUp_facts (s : State) (n : Nat) (x : SchItem) : (∀ y ∈ (s.spillGivenUp n x).sch.items, y.ord ≠ x.ord) ∧
    (s.spillGivenUp n x).sch.runs = s.sch.runs := by
  have sch := setSch_sch s (s.sch.items.filter (fun j => j.ord != x.ord)) s.sch.runs
  obtain ⟨runs, items⟩ := (queueKept_complete (s.setSch (s.sch.items.filter (fun j => j.ord != x.ord)) s.sch.runs) x 0x0512 0).trans
    (queueKept_postTenant _ 0x0503 n (p2 n ++ p4 (x.spilled.getD 0)))
  refine ⟨fun y hy => ?_, runs.trans (by rw [sch])⟩
  have left : y ∈ s.sch.items.filter (fun j => j.ord != x.ord) := by
    rw [State.spillGivenUp, items, sch] at hy
    exact hy
  exact bne_iff_ne.1 (List.mem_filter.1 left).2

/-! ### The claim -/

theorem stwCplShow_word (s : State) (hk : k < 4) :
    s.stwCplShow.rdW (SCH_STW_CPL k) = BitVec.ofNat 32 (leAt (s.sch.stwCpl.headD []) (4 * k) 4) := by
  let words : List (Nat × Word) := (List.range 4).map fun i => (i, BitVec.ofNat 32 (leAt (s.sch.stwCpl.headD []) (4 * i) 4))
  have e : s.stwCplShow = words.foldl (fun u c => u.wrW (SCH_STW_CPL c.1) c.2) s := by
    rw [List.foldl_map]
    rfl
  rw [e]
  refine rdW_copied (f := SCH_STW_CPL) words s ?_ (k, _) (List.mem_map.2 ⟨k, List.mem_range.2 hk, rfl⟩)
  exact List.pairwise_map.2 (List.nodup_range.imp fun ne => by unfold SCH_STW_CPL; omega)

/-- Settles O20: an enqueue by its test, a refill by its record. -/
theorem enqueueRules : Obligations.EnqueueRules := by
  refine ⟨?refused, ?accepted, ?unowned, ?stwAccepted, ?stwRefused, ?noSpill, ?refillEq, ?refill, ?lost, ?pop, ?cons, ?consIdle⟩
  case refused =>
    intro t core k n s h down
    have e := (opTwEnq_eq (s := s.advance t) (k := k) h (enqTest_down (s := s.advance t) (.inr (.inl down)) _ _)).trans (if_neg (by decide))
    obtain ⟨status, count⟩ := notice_refusal (n := n) (State.refuseEnq { s.advance t with sch := { s.sch with
      enqStat := cset (fun _ => 0) s.sch.enqStat core 0x0501 } } n 0x0501) (SCH_TEN_REFUSE n)
    refine completes_of_eq rfl e ⟨?_, ?_, count.trans (State.count_bump_same _ _ 1)⟩
    · exact (congrArg (cget (fun _ => 0) · core) status).trans (cget_cset_same ..)
    · exact (queueKept_notice _ _).items
  case accepted =>
    intro t core k n s h test
    exact exec_congr (t := t) (f := opTwEnq core k) rfl ((opTwEnq_eq (s := s.advance t) (k := k) h test).trans (if_pos rfl))
  case unowned =>
    intro t task s h
    refine completes_of_eq rfl (opSchStwEnq_unowned (s := s.advance t) h) ⟨State.rd_wr_same _ _ _ _ (by decide), ?_⟩
    exact OnlyWords.after (t := t) (g := fun m => m.wr SCH_STW_ENQ_STAT SCH_STW_ENQ_STAT_STATUS 0x0510) (.wr _ _ _ (by simp))
  case stwAccepted =>
    exact fun t task n s h test => exec_congr (t := t) (f := opSchStwEnq task) rfl ((opSchStwEnq_eq (s := s.advance t) h test).trans (if_pos rfl))
  case stwRefused =>
    intro t task n s h down
    have e := (opSchStwEnq_eq (s := s.advance t) h (enqTest_down (s := s.advance t) (.inl down) _ _)).trans (if_neg (by decide))
    refine completes_of_eq rfl e ⟨State.rd_wr_same (s.advance t) _ _ _ (by decide), rfl, State.count_bump_same _ _ 1, rfl, fun a ha => ?_⟩
    exact State.rdW_wr_ne (s.advance t) _ _ (by simpa using ha)
  case noSpill => exact fun t n ue s h => completes_of_idle rfl (opSpillRefill_none (s := s.advance t) h ue)
  case refillEq =>
    exact fun t n x s oldest quota room good =>
      exec_congr (t := t) (f := opSpillRefill n false) rfl (opSpillRefill_good (s := s.advance t) ⟨oldest, quota, room⟩ good)
  case refill =>
    exact fun t n x s oldest quota room good =>
      completes_of_eq rfl (opSpillRefill_good (s := s.advance t) ⟨oldest, quota, room⟩ good) (refilled_facts (s.advance t) x)
  case lost =>
    exact fun t n x s oldest quota room =>
      completes_of_eq rfl (opSpillRefill_bad (s := s.advance t) ⟨oldest, quota, room⟩) (spillGivenUp_facts (s.advance t) n x)
  case pop =>
    intro t s
    exact completes_of_runAt (t := t) (g := opSchStwCplPop) rfl ⟨stwCplShow_sch _, fun k hk => stwCplShow_word _ hk⟩
  case cons =>
    intro t core n v s h room
    refine completes_of_eq (u := { s.advance t with sch := { s.sch with cons := cset (fun _ => 0) s.sch.cons n v.toNat } }) rfl ?_
      ⟨cget_cset_same .., rfl⟩
    unfold opTwCplCons
    rw [show (s.advance t).coreTenant core = some n from h]
    exact if_pos room
  case consIdle =>
    intro t core n v s h past
    refine completes_of_idle rfl ?_
    unfold opTwCplCons
    rw [show (s.advance t).coreTenant core = some n from h]
    exact if_neg (not_le.2 past)

end Sys2Proof.Machine
end

section
/-! Flags and timers (R233 to R236, R254) and the overrun check (R250). -/

namespace Sys2Proof.Machine

variable {s : State} {t n core task d k tm : Nat} {v : Word} {c : SchCheck} {x : SchItem}

/-! ### Flags -/

/-- What a write of a descriptor's flags leaves: its word is the new one, and when a condition came true is noted. -/
def FlagsWritten (s u : State) (d v : Nat) : Prop := u.descFlags d = v ∧ OnlyWords [SCH_DESC d 0] { s with sch := { s.sch with condAt := u.sch.condAt } } u

theorem putFlags_written (s : State) (d : Nat) {v : Nat} (h : v < 2 ^ 32) : FlagsWritten s (s.putFlags d v) d v := by
  have word : (s.wrW (SCH_DESC d 0) (BitVec.ofNat 32 v)).descFlags d = v := by
    unfold State.descFlags
    rw [State.rdW_wrW_same]
    exact Nat.mod_eq_of_lt h
  have only (a : Nat) (ha : a ∉ [SCH_DESC d 0]) : (s.wrW (SCH_DESC d 0) (BitVec.ofNat 32 v)).rdW a = s.rdW a :=
    s.rdW_wrW_ne _ (by simpa using ha)
  unfold State.putFlags State.noteCond
  split
  · exact ⟨word, rfl, only⟩
  · exact ⟨word, rfl, only⟩

theorem setFlags_valid (hd : d < 8192) (h : s.descB d DESC_VALID = true) (bits : Nat) :
    s.setFlags d bits = s.putFlags d (s.descFlags d ||| bits) := if_pos ⟨hd, h⟩

theorem setFlags_invalid (h : s.descB d DESC_VALID = false) (bits : Nat) : s.setFlags d bits = s.bump cntSCH_FLAG_DROPPED 1 :=
  if_neg (by simp [h])

theorem clearFlags_eq (hd : d < 8192) (bits : Nat) : s.clearFlags d bits = s.putFlags d (s.descFlags d &&& (bits ^^^ 0xFFFFFFFF)) := if_pos hd

theorem descFlags_lt (s : State) (d : Nat) : s.descFlags d < 2 ^ 32 := (s.rdW (SCH_DESC d 0)).isLt

theorem setFlags_written (hd : d < 8192) (h : s.descB d DESC_VALID = true) {bits : Nat} (hb : bits < 2 ^ 32) :
    FlagsWritten s (s.setFlags d bits) d (s.descFlags d ||| bits) := by
  rw [setFlags_valid hd h]
  exact putFlags_written s d (Nat.or_lt_two_pow (descFlags_lt s d) hb)

theorem testBit_clear {f bits : Nat} (hf : f < 2 ^ 32) (b : Nat) : (f &&& (bits ^^^ 0xFFFFFFFF)).testBit b = (f.testBit b && !bits.testBit b) := by
  rw [Nat.testBit_and, Nat.testBit_xor, show (0xFFFFFFFF : Nat) = 2 ^ 32 - 1 from rfl, Nat.testBit_two_pow_sub_one]
  by_cases hb : b < 32
  · simp [hb]
  · rw [Nat.testBit_lt_two_pow (hf.trans_le (Nat.pow_le_pow_right (by decide) (not_lt.1 hb)))]
    rfl

theorem clearFlags_written (hd : d < 8192) (bits : Nat) : (∀ b, ((s.clearFlags d bits).descFlags d).testBit b
      = ((s.descFlags d).testBit b && !bits.testBit b)) ∧
    OnlyWords [SCH_DESC d 0] { s with sch := { s.sch with condAt := (s.clearFlags d bits).sch.condAt } } (s.clearFlags d bits) := by
  rw [clearFlags_eq hd]
  obtain ⟨word, only⟩ := putFlags_written s d (v := s.descFlags d &&& (bits ^^^ 0xFFFFFFFF)) (Nat.and_le_left.trans_lt (descFlags_lt s d))
  exact ⟨fun b => by rw [word]; exact testBit_clear (descFlags_lt s d) b, only⟩

/-- A command that writes a descriptor's flags. -/
theorem completes_of_flagsWritten {i : Instr} {g : State → State} {Q : Nat → Prop} (hi : exec i s = .next (s.after t g)) {u : State}
    (hg : g (s.advance t) = u) (flags : Q (u.descFlags d))
    (only : OnlyWords [SCH_DESC d 0] { s.advance t with sch := { s.sch with condAt := u.sch.condAt } } u) :
    Completes i s fun u => Q (u.descFlags d) ∧ OnlyWords [SCH_DESC d 0] { s with sch := { s.sch with condAt := u.sch.condAt } } u :=
  completes_of_eq hi hg ⟨flags, by rw [only.1]; rfl, only.2⟩

/-! ### Timers -/

theorem timer_setTimer (s : State) (n k : Nat) (x : SchTimer) : (s.setTimer n k x).timer n k = x := cget_cset_same ..

theorem fireTimer_early (h : s.dom < (s.timer n k).hi * 2 ^ 32 + (s.timer n k).lo) : s.fireTimer n k = s := by
  unfold State.fireTimer
  exact if_neg fun due => absurd due.2.1 (not_le.2 h)

theorem fireTimer_once (armed : (s.timer n k).armed = true) (once : (s.timer n k).period = 0)
    (due : (s.timer n k).hi * 2 ^ 32 + (s.timer n k).lo ≤ s.dom) (up : s.tenState n ≠ 0) (own : (s.timer n k).task < s.taskCount n) :
    s.fireTimer n k = (s.setTimer n k { s.timer n k with armed := false }).setFlags (s.taskFirst n + (s.timer n k).task) (2 ^ (s.timer n k).bit) := by
  unfold State.fireTimer
  dsimp only
  rw [if_pos ⟨armed, due, up⟩, if_pos once]
  exact if_pos own

theorem opTwTmrArm_eq (h : s.coreTenant core = some n) (hk : tm < 4) (hi : Word) :
    opTwTmrArm core tm hi s = (s.setTimer n tm { s.timer n tm with hi := hi.toNat, armed := true }).fireTimer n tm := by
  unfold opTwTmrArm
  rw [h]
  exact if_pos hk

theorem opTwTmrDisarm_eq (h : s.coreTenant core = some n) (hk : tm < 4) (off : v.toNat.testBit 31 = false) :
    opTwTmrDisarm core tm v s = s.setTimer n tm { s.timer n tm with task := nbits v.toNat 0 8, bit := nbits v.toNat 8 5, period := nbits v.toNat 16 15, armed := false } := by
  unfold opTwTmrDisarm
  rw [h]
  dsimp only
  rw [if_pos hk, off, Bool.and_false]

/-! ### The overrun check (R250) -/

/-- The check `c` of the tenant is due. -/
structure CheckDue (s : State) (n : Nat) (c : SchCheck) : Prop where
  check : s.sch.checks.find? (fun c => c.tenant == n) = some c
  grid : s.gridOn = true
  due : c.next + min (s.rd (SCH_TEN_CFG n) SCH_TEN_CFG_SLACK * 1000) s.roundNs ≤ s.dom

/-- The check taken off the list, and its round shown. -/
def State.roundShown (s : State) (c : SchCheck) : State :=
  let u : State := { s with sch := { s.sch with checks := s.sch.checks.erase c } }
  if u.rd SCH_OVR_LAST SCH_OVR_LAST_ROUND = round32 c.round then u
  else (u.wr SCH_OVR_LAST SCH_OVR_LAST_ROUND (round32 c.round)).wr SCH_OVR_COUNT SCH_OVR_COUNT_TENANTS 0

/-- Work of the tenant left from the check's round or an earlier one. -/
def leftOver (n : Nat) (c : SchCheck) (i : SchItem) : Bool := i.tenant == n && decide (i.round ≤ c.round)

/-- Work left is counted, shown and reported. -/
def State.overrunNoted (s : State) (n : Nat) (c : SchCheck) (left : Nat) : State :=
  let u := (s.bump (cntSCH_TEN_OVERRUNS n) 1).wrB (SCH_TEN_STAT n) SCH_TEN_STAT_OVERRUN true
  (u.wr SCH_OVR_COUNT SCH_OVR_COUNT_TENANTS (u.rd SCH_OVR_COUNT SCH_OVR_COUNT_TENANTS + 1)).postTenant 0x0501 n
    (p2 n ++ p4 (round32 c.round) ++ p4 left)

theorem roundShown_facts (s : State) (c : SchCheck) : (s.roundShown c).sch = { s.sch with checks := s.sch.checks.erase c } ∧
    (s.roundShown c).rd SCH_OVR_LAST SCH_OVR_LAST_ROUND = round32 c.round ∧
    OnlyWords [SCH_OVR_LAST, SCH_OVR_COUNT] { s with sch := (s.roundShown c).sch } (s.roundShown c) ∧ (s.roundShown c).cnt = s.cnt := by
  unfold State.roundShown
  dsimp only
  split
  case isTrue h => exact ⟨rfl, h, .refl _, rfl⟩
  case isFalse =>
    refine ⟨rfl, ?_, .trans (.wr _ _ _ (by simp)) (.wr _ _ _ (by simp)), rfl⟩
    exact (State.rd_wr_ne _ _ _ _ (by decide)).trans ((State.rd_wr_same _ _ _ _ (by decide)).trans (Nat.mod_eq_of_lt (Nat.mod_lt _ (by decide))))

theorem opOverrunCheck_none (h : ∀ c ∈ s.sch.checks, c.tenant ≠ n) : opOverrunCheck n s = s := by
  have none : s.sch.checks.find? (fun c => c.tenant == n) = none := List.find?_eq_none.2 fun c hc => by simpa using h c hc
  unfold opOverrunCheck
  rw [none]

theorem opOverrunCheck_early (h : s.sch.checks.find? (fun c => c.tenant == n) = some c)
    (early : s.dom < c.next + min (s.rd (SCH_TEN_CFG n) SCH_TEN_CFG_SLACK * 1000) s.roundNs) : opOverrunCheck n s = s := by
  unfold opOverrunCheck
  rw [h]
  exact if_pos (.inr early)

/-- The queued and the running work left, and what is cut of it. -/
theorem opOverrunCheck_due (due : CheckDue s n c) : opOverrunCheck n s = (let u := s.roundShown c
    let queued := (u.sch.items.filter (leftOver n c)).length
    let serving := u.sch.runs.filter (fun r => leftOver n c r.item)
    if queued + serving.length = 0 then u
    else if (u.overrunNoted n c (queued + serving.length)).rdB (SCH_TEN_CFG n) SCH_TEN_CFG_CUT then
      ((serving.foldl (fun s r => s.endRun r.core 0x0507 0) (u.overrunNoted n c (queued + serving.length))).bump (cntSCH_TEN_ROUND_EXPIRED n)
        queued).removeItems (leftOver n c) 0x0513
    else u.overrunNoted n c (queued + serving.length)) := by
  obtain ⟨check, grid, due⟩ := due
  unfold opOverrunCheck
  rw [check]
  exact if_neg (by rw [grid]; simpa using due)

theorem opOverrunCheck_done (due : CheckDue s n c) (queued : s.sch.items.filter (leftOver n c) = [])
    (serving : s.sch.runs.filter (fun r => leftOver n c r.item) = []) : opOverrunCheck n s = s.roundShown c := by
  obtain ⟨sch, -, -, -⟩ := roundShown_facts s c
  rw [opOverrunCheck_due due]
  dsimp only
  rw [sch]
  exact if_pos (congrArg₂ (fun (a : List SchItem) (b : List SchRun) => a.length + b.length) queued serving)

theorem overrunNoted_facts (s : State) (h : n < 512) (c : SchCheck) (left : Nat) : (s.overrunNoted n c left).sch = s.sch ∧
    (s.overrunNoted n c left).rdB (SCH_TEN_STAT n) SCH_TEN_STAT_OVERRUN = true ∧
    (s.overrunNoted n c left).rdW (SCH_TEN_CFG n) = s.rdW (SCH_TEN_CFG n) ∧
    (s.overrunNoted n c left).count (cntSCH_TEN_OVERRUNS n) = (s.count (cntSCH_TEN_OVERRUNS n) + 1) % 2 ^ 64 := by
  have event (u : State) := EventOnly.postTenant u 0x0501 (p2 n ++ p4 (round32 c.round) ++ p4 left) (show n < 0x10000 by omega)
  have statQuiet : ¬ eventWord (SCH_TEN_STAT n) := not_eventWord (by unfold SCH_TEN_STAT; omega) (by unfold SCH_TEN_STAT; omega)
  have cfgQuiet : ¬ eventWord (SCH_TEN_CFG n) := not_eventWord (by unfold SCH_TEN_CFG; omega) (by unfold SCH_TEN_CFG; omega)
  have stat : SCH_TEN_STAT n ≠ SCH_OVR_COUNT := by unfold SCH_TEN_STAT SCH_OVR_COUNT; omega
  have cfg : SCH_TEN_CFG n ≠ SCH_OVR_COUNT ∧ SCH_TEN_CFG n ≠ SCH_TEN_STAT n := by unfold SCH_TEN_CFG SCH_TEN_STAT SCH_OVR_COUNT; omega
  unfold State.overrunNoted
  dsimp only
  refine ⟨(event _).sch, ?_, ?_, ((event _).counts _ ?_ ?_).trans (s.count_bump_same _ 1)⟩
  · exact ((event _).rdB statQuiet _).trans ((State.rdB_wr_ne _ _ _ _ stat).trans (State.rdB_wrB_same _ _ _ _ (by decide) rfl))
  · exact ((event _).words _ cfgQuiet).trans ((State.rdW_wr_ne _ _ _ cfg.1).trans (State.rdW_wrB_ne _ _ _ cfg.2))
  · unfold cntSCH_TEN_OVERRUNS; omega
  · unfold cntSCH_TEN_OVERRUNS; omega

/-- One item is left and no core runs: it is noted, and stays when the tenant's policy does not cut. -/
theorem opOverrunCheck_one (due : CheckDue s n c) (items : s.sch.items = [x]) (runs : s.sch.runs = []) (left : leftOver n c x = true) (h : n < 512)
    (cut : s.rdB (SCH_TEN_CFG n) SCH_TEN_CFG_CUT = false) : opOverrunCheck n s = (s.roundShown c).overrunNoted n c 1 := by
  obtain ⟨sch, -, only, -⟩ := roundShown_facts s c
  have queued : s.sch.items.filter (leftOver n c) = [x] := by rw [items, List.filter_singleton, left]; rfl
  have serving : s.sch.runs.filter (fun r => leftOver n c r.item) = [] := by rw [runs]; rfl
  have keep : ((s.roundShown c).overrunNoted n c 1).rdB (SCH_TEN_CFG n) SCH_TEN_CFG_CUT = false := by
    rw [← cut]
    refine State.rdB_congr ((overrunNoted_facts _ h c 1).2.2.1.trans (only.2 _ ?_)) _
    simp only [List.mem_cons, List.not_mem_nil, or_false, not_or, SCH_TEN_CFG, SCH_OVR_LAST, SCH_OVR_COUNT]
    omega
  rw [opOverrunCheck_due due]
  dsimp only
  rw [sch, queued, serving]
  exact (if_neg one_ne_zero).trans (if_neg (ne_true_of_eq_false keep))

/-! ### The claim -/

/-- Settles O21: flags by the one word they write, timers by when they fire, the check by the work it finds. -/
theorem flagsTimersOverrun : Obligations.FlagsTimersOverrun := by
  refine ⟨?set, ?dropped, ?clear, ?twSet, ?twNone, ?twClear, ?arm, ?disarm, ?fires, ?waits, ?noCheck, ?early, ?done, ?overrun⟩
  case set =>
    intro t task s hd valid
    obtain ⟨flags, only⟩ := setFlags_written (s := s.advance t) hd valid (State.rd_lt s SCH_FLAG_BITS SCH_FLAG_BITS_BITS)
    exact completes_of_flagsWritten (g := opSchFlagSet task false) (Q := (· = _)) rfl rfl flags only
  case dropped => exact fun t task s invalid => completes_of_bump (t := t) (g := opSchFlagSet task false) rfl (setFlags_invalid (s := s.advance t) invalid _)
  case clear =>
    intro t task s hd
    obtain ⟨flags, only⟩ := clearFlags_written (s := s.advance t) hd (s.rd SCH_FLAG_BITS SCH_FLAG_BITS_BITS)
    exact completes_of_flagsWritten (t := t) (g := opSchFlagSet task true) (i := .schFlagSet t task true)
      (Q := fun f => ∀ b, f.testBit b = ((s.descFlags task).testBit b && !(s.rd SCH_FLAG_BITS SCH_FLAG_BITS_BITS).testBit b)) rfl rfl flags only
  case twSet =>
    intro t core k d v s own hd valid
    obtain ⟨flags, only⟩ := setFlags_written (s := s.advance t) hd valid v.isLt
    refine completes_of_flagsWritten (t := t) (g := opTwFlag core k v) (Q := (· = _)) rfl ?_ flags only
    unfold opTwFlag
    rw [show (s.advance t).localTask core k = some d from own]
  case twNone =>
    intro t core k v s own
    refine completes_of_idle (t := t) (g := opTwFlag core k v) rfl ?_
    unfold opTwFlag
    rw [show (s.advance t).localTask core k = none from own]
  case twClear =>
    intro t core k d v s own hd
    obtain ⟨flags, only⟩ := clearFlags_written (s := s.advance t) hd v.toNat
    refine completes_of_flagsWritten (t := t) (g := opTwFlagClr core k v) (i := .twFlagClr t core k v)
      (Q := fun f => ∀ b, f.testBit b = ((s.descFlags d).testBit b && !v.toNat.testBit b)) rfl ?_ flags only
    unfold opTwFlagClr
    rw [show (s.advance t).localTask core k = some d from own]
  case arm =>
    intro t core n tm hi s h hk early
    have armed := timer_setTimer (s.advance t) n tm { s.timer n tm with hi := hi.toNat, armed := true }
    refine completes_of_eq rfl ((opTwTmrArm_eq (s := s.advance t) h hk hi).trans (fireTimer_early ?_)) ⟨armed, rfl⟩
    rw [show ((s.advance t).setTimer n tm { (s.advance t).timer n tm with hi := hi.toNat, armed := true }).timer n tm = _ from armed]
    exact early
  case disarm =>
    intro t core n tm v s h hk off
    have set := timer_setTimer (s.advance t) n tm { s.timer n tm with
      task := nbits v.toNat 0 8, bit := nbits v.toNat 8 5, period := nbits v.toNat 16 15, armed := false }
    exact completes_of_eq rfl (opTwTmrDisarm_eq (s := s.advance t) h hk off)
      ⟨congrArg SchTimer.armed set, congrArg SchTimer.task set, congrArg SchTimer.bit set, congrArg SchTimer.period set, rfl⟩
  case fires =>
    intro t n tm s hk armed once up due own hd valid bit
    have e : opTimerDeadline n tm (s.advance t) = _ := (if_pos hk).trans (fireTimer_once (s := s.advance t) armed once due up own)
    obtain ⟨flags, only⟩ := setFlags_written (s := (s.advance t).setTimer n tm { s.timer n tm with armed := false }) hd valid
      (Nat.pow_lt_pow_right (by decide) bit)
    refine completes_of_eq (t := t) (g := opTimerDeadline n tm) rfl e ⟨?_, flags⟩
    exact (congrArg (fun u => (u.timer n tm).armed) only.1).trans (congrArg SchTimer.armed (timer_setTimer (s.advance t) n tm _))
  case waits =>
    exact fun t n tm s hk _ early => completes_of_idle (t := t) (g := opTimerDeadline n tm) rfl
      ((if_pos hk).trans (fireTimer_early (s := s.advance t) early))
  case noCheck => exact fun t n s h => completes_of_idle rfl (opOverrunCheck_none (s := s.advance t) h)
  case early => exact fun t n c s h early => completes_of_idle rfl (opOverrunCheck_early (s := s.advance t) h early)
  case done =>
    intro t n c s check grid due items runs
    have none {i : SchItem} (h : i.tenant = n → c.round < i.round) : ¬ leftOver n c i = true := by
      simp only [leftOver, Bool.and_eq_true, beq_iff_eq, decide_eq_true_eq, not_and, not_le]
      exact h
    obtain ⟨sch, round, only, -⟩ := roundShown_facts (s.advance t) c
    refine completes_of_eq rfl (opOverrunCheck_done (s := s.advance t) ⟨check, grid, due⟩ ?_ ?_) ⟨sch, round, by rw [only.1]; rfl, only.2⟩
    · exact List.filter_eq_nil_iff.2 fun i hi => none (items i hi)
    · exact List.filter_eq_nil_iff.2 fun r hr => none (runs r hr)
  case overrun =>
    intro t n c x s check grid h due items runs tenant round cut
    have left : leftOver n c x = true := by simp [leftOver, tenant, round]
    obtain ⟨sch, -, -, cnt⟩ := roundShown_facts (s.advance t) c
    obtain ⟨kept, overrun, -, count⟩ := overrunNoted_facts ((s.advance t).roundShown c) h c 1
    refine completes_of_eq rfl (opOverrunCheck_one (s := s.advance t) ⟨check, grid, due⟩ items runs left h cut) ⟨overrun, ?_, count.trans ?_⟩
    · exact (congrArg Sch.items (kept.trans sch)).trans items
    · rw [State.count_congr cnt]
      rfl

end Sys2Proof.Machine
end

section
/-! The five messages of tenants to the steward (R210 to R213, R498). -/

namespace Sys2Proof.Machine

variable {s : State} {t n : Nat} {m : Message}

/-! ### The message that is served -/

/-- One turn of the refusals, once the message that stands next is known. -/
def State.refuseOf (s : State) (k : Nat) : Option Message → State
  | some m => if 1 ≤ m.type ∧ m.type ≤ 5 then s else (s.answerMsg m (fun s => (stBadOpcode, [], s))).refuseMsgs k
  | none => s

theorem refuseMsgs_succ (s : State) (k : Nat) : s.refuseMsgs (k + 1) = s.refuseOf k s.nextMsg := rfl

/-- The service, once the message that stands next is known. -/
def State.serveOf (s : State) (n type : Nat) (body : Message → State → Nat × List Byte × State) : Option Message → State
  | some m => if m.tenant = n ∧ m.type = type then s.answerMsg m (body m) else s
  | none => s

theorem serveMsg_eq (s : State) (n type : Nat) (body : Message → State → Nat × List Byte × State) :
    s.serveMsg n type body = (s.refuseMsgs s.msgCount).serveOf n type body (s.refuseMsgs s.msgCount).nextMsg := rfl

theorem refuseMsgs_known (h : s.nextMsg = some m) (low : 1 ≤ m.type) (high : m.type ≤ 5) (k : Nat) : s.refuseMsgs k = s := by
  cases k with
  | zero => rfl
  | succ k => exact (refuseMsgs_succ s k).trans ((congrArg (s.refuseOf k) h).trans (if_pos ⟨low, high⟩))

theorem refuseMsgs_none (h : s.nextMsg = none) (k : Nat) : s.refuseMsgs k = s := by
  cases k with
  | zero => rfl
  | succ k => exact (refuseMsgs_succ s k).trans (congrArg (s.refuseOf k) h)

theorem serveMsg_none (h : s.nextMsg = none) (n type : Nat) (body : Message → State → Nat × List Byte × State) : s.serveMsg n type body = s := by
  rw [serveMsg_eq, refuseMsgs_none h, h]
  rfl

theorem serveMsg_known {type : Nat} (h : s.nextMsg = some m) (ht : m.type = type) (low : 1 ≤ type) (high : type ≤ 5)
    (body : Message → State → Nat × List Byte × State) :
    s.serveMsg n type body = if m.tenant = n then s.answerMsg m (body m) else s := by
  rw [serveMsg_eq, refuseMsgs_known h (ht ▸ low) (ht ▸ high), h]
  unfold State.serveOf
  simp only [ht, and_true]

/-- A function of what a body answers. -/
def withAnswer {α : Type} (F : Nat → List Byte → State → α) (x : Nat × List Byte × State) : α :=
  match x with
  | (st, data, s) => F st data s

theorem withAnswer_mk {α : Type} (F : Nat → List Byte → State → α) (st : Nat) (data : List Byte) (u : State) :
    withAnswer F (st, data, u) = F st data u := rfl

/-- The answer of `m` in an inbound page. -/
def answerOf (m : Message) (x : Nat × List Byte × State) : State :=
  match x with
  | (st, data, s) => (s.inbound m.tenant ((m.type + 0x8000) % 65536) m.tag (p2 st ++ p2 0 ++ data)).2

theorem answerOf_eq (m : Message) : answerOf m =
    withAnswer fun st data s => (s.inbound m.tenant ((m.type + 0x8000) % 65536) m.tag (p2 st ++ p2 0 ++ data)).2 := rfl

theorem answerMsg_eq (s : State) (m : Message) (body : State → Nat × List Byte × State) :
    s.answerMsg m body = answerOf m (if 56 < m.length then (stBadLength, [], s.takeMsg m) else body (s.takeMsg m)) := rfl

theorem answerMsg_short (h : m.length ≤ 56) {body : State → Nat × List Byte × State} {st : Nat} {data : List Byte} {u : State}
    (hb : body (s.takeMsg m) = (st, data, u)) :
    s.answerMsg m body = (u.inbound m.tenant ((m.type + 0x8000) % 65536) m.tag (p2 st ++ p2 0 ++ data)).2 :=
  (answerMsg_eq s m body).trans ((congrArg (answerOf m) ((if_neg (by omega)).trans hb)).trans
    ((congrFun (answerOf_eq m) _).trans (withAnswer_mk ..)))

/-- The message served next, answered as its body says of the machine that has taken it. -/
theorem exec_of_message {i : Instr} {type st : Nat} {body : Message → State → Nat × List Byte × State} {data : List Byte} {u : State}
    (hi : exec i s = .next (s.after t fun v => v.serveMsg m.tenant type body)) (next : NextIs s t m type) (low : 1 ≤ type) (high : type ≤ 5)
    (hb : body m ((s.advance t).takeMsg m) = (st, data, u)) (g : State → State)
    (hg : (u.inbound m.tenant ((m.type + 0x8000) % 65536) m.tag (p2 st ++ p2 0 ++ data)).2 = g (s.advance t)) : exec i s = .next (s.after t g) := by
  obtain ⟨next, type, short⟩ := next
  exact exec_congr hi ((serveMsg_known next type low high body).trans ((if_pos rfl).trans ((answerMsg_short short hb).trans hg)))

/-! ### What a message's index changes -/

/-- An outbound page's index taken (R211): the scheduler, the mailboxes, fuses and other words are as before. -/
structure IndexTaken (a : Nat) (s u : State) : Prop where
  sch : u.sch = s.sch
  mbx : u.mbx = s.mbx
  fuses : u.fuses = s.fuses
  words : ∀ b, b ≠ TEN_STAT → b ≠ a → u.rdW b = s.rdW b

theorem indexTaken_copyIndices (s : State) (n p : Nat) (v : Word) : IndexTaken (TEN_MSG_CONS n p) s ((s.wrW (TEN_MSG_CONS n p) v).copyIndices n p) := by
  have only := memOnly_copyIndices (s.wrW (TEN_MSG_CONS n p) v) n p
  exact ⟨(congrArg State.sch only :), (congrArg State.mbx only :), (congrArg State.fuses only :),
    fun b _ hb => (wordsKept_copyIndices ..).trans (s.rdW_wrW_ne v hb)⟩

theorem indexWrite_out (s : State) (n : Nat) {p : Nat} (hp : p < 2) (v : Word) : IndexTaken (TEN_MSG_CONS n p) s (opTenMsgIndexWrite n p v s) := by
  have rej : IndexTaken (TEN_MSG_CONS n p) s s.tenRej := ⟨rfl, rfl, rfl, fun b hb _ => State.rdW_wrB_ne _ _ _ hb⟩
  have copied := indexTaken_copyIndices s n p v
  unfold opTenMsgIndexWrite
  dsimp only
  split_ifs
  · exact ⟨rfl, rfl, rfl, fun _ _ _ => rfl⟩
  · exact ⟨copied.sch, copied.mbx, copied.fuses, copied.words⟩
  · exact copied
  · exact rej

/-- An index at any page: the queue, the mailboxes and words below the descriptors' are as before. -/
structure IndexWritten (s u : State) : Prop where
  queue : QueueKept s u
  mbx : u.mbx = s.mbx
  words : ∀ b, b < 0x05100000 → u.rdW b = s.rdW b

theorem IndexWritten.trans {s u v : State} (h : IndexWritten s u) (k : IndexWritten u v) : IndexWritten s v :=
  ⟨h.queue.trans k.queue, k.mbx.trans h.mbx, fun b hb => (k.words b hb).trans (h.words b hb)⟩

theorem indexWritten_setFlags (s : State) (d bits : Nat) : IndexWritten s (s.setFlags d bits) := by
  refine ⟨queueKept_setFlags s d bits, ?_, fun b hb => ?_⟩
  · unfold State.setFlags State.putFlags State.noteCond
    split_ifs <;> rfl
  · have ne : b ≠ SCH_DESC d 0 := by unfold SCH_DESC; omega
    unfold State.setFlags State.putFlags State.noteCond
    split_ifs
    · exact s.rdW_wrW_ne _ ne
    · exact s.rdW_wrW_ne _ ne
    · rfl

theorem indexWritten_devWrite (s : State) (a : Nat) (b : List Byte) : IndexWritten s (s.devWrite a b) :=
  ⟨.of_sch (devWrite_sch s a b), (congrArg State.mbx (memOnly_devWrite s a b) :), fun c _ => State.rdW_congr (memOnly_devWrite s a b).regs c⟩

theorem indexWrite_written (s : State) (n p : Nat) (v : Word) : IndexWritten s (opTenMsgIndexWrite n p v s) := by
  have rej : IndexWritten s s.tenRej := ⟨.of_sch rfl, rfl, fun b hb => State.rdW_wrB_ne _ _ _ (by unfold TEN_STAT; omega)⟩
  have copied (a : Nat) (ha : 0x05100000 ≤ a) : IndexWritten s ((s.wrW a v).copyIndices n p) := by
    have only := memOnly_copyIndices (s.wrW a v) n p
    exact ⟨.of_sch (congrArg State.sch only :), (congrArg State.mbx only :),
      fun b hb => (wordsKept_copyIndices ..).trans (s.rdW_wrW_ne v (by omega))⟩
  have cons := copied (TEN_MSG_CONS n p) (by unfold TEN_MSG_CONS; omega)
  have prod := copied (TEN_MSG_PROD n p) (by unfold TEN_MSG_PROD; omega)
  unfold opTenMsgIndexWrite
  dsimp only
  split_ifs
  · exact ⟨.of_sch rfl, rfl, fun _ _ => rfl⟩
  · exact ⟨⟨cons.queue.runs, cons.queue.items⟩, cons.mbx, cons.words⟩
  · exact cons
  · exact rej
  · exact prod
  · exact prod.trans (indexWritten_setFlags _ _ _)
  · exact rej

/-- `State.inbound` by its body: the term is never reduced, only looked at. -/
theorem inbound_none (t type tag : Nat) (payload : List Byte) (h : s.inboundPage t = none) : s.inbound t type tag payload = (false, s) := by
  have e : State.inbound = State.inbound := rfl
  conv_rhs at e => delta State.inbound
  rw [congrFun (congrFun (congrFun (congrFun (congrFun e s) t) type) tag) payload, h]

theorem inbound_some {p : Nat} (t type tag : Nat) (payload : List Byte) (h : s.inboundPage t = some p) : ∃ u, (u = s ∨ ∃ a b, u = s.devWrite a b) ∧
    s.inbound t type tag payload = (true, opTenMsgIndexWrite t p (BitVec.ofNat 32 ((s.rdW (TEN_MSG_PROD t p)).toNat + 1)) u) := by
  have e : State.inbound = State.inbound := rfl
  conv_rhs at e => delta State.inbound
  rw [congrFun (congrFun (congrFun (congrFun (congrFun e s) t) type) tag) payload, h]
  refine ⟨_, ?_, rfl⟩
  split
  · exact .inr ⟨_, _, rfl⟩
  · exact .inl rfl

theorem inbound_written (s : State) (t type tag : Nat) (payload : List Byte) : IndexWritten s (s.inbound t type tag payload).2 := by
  cases h : s.inboundPage t with
  | none =>
    rw [inbound_none t type tag payload h]
    exact ⟨.of_sch rfl, rfl, fun _ _ => rfl⟩
  | some p =>
    obtain ⟨u, rfl | ⟨a, b, rfl⟩, e⟩ := inbound_some t type tag payload h
    · rw [e]
      exact indexWrite_written _ _ _ _
    · rw [e]
      exact (indexWritten_devWrite s a b).trans (indexWrite_written _ _ _ _)

theorem nextMsg_page (h : s.nextMsg = some m) : m.page < 2 := by
  unfold State.nextMsg at h
  split at h
  · cases h
  next n _ =>
    cases h
    change (s.msgPage n).getD 0 < 2
    cases e : s.msgPage n with
    | none => decide
    | some p =>
      have mem : p ∈ [0, 1] := List.mem_of_find?_eq_some e
      simp only [List.mem_cons, List.not_mem_nil, or_false] at mem
      change p < 2
      omega

/-- What taking a message changes: the turn, and one index. -/
theorem takeMsg_taken (s : State) (hp : m.page < 2) : ∃ x : Mbx, x.hostMsgs = s.mbx.hostMsgs ∧
    IndexTaken (TEN_MSG_CONS m.tenant m.page) { s with mbx := x } (s.takeMsg m) :=
  ⟨{ s.mbx with msgTurn := m.tenant, msgTaken := if s.mbx.msgTurn == m.tenant && decide (s.mbx.msgTaken < 16) then s.mbx.msgTaken + 1 else 1 }, rfl,
    indexWrite_out _ _ hp _⟩

/-! ### The owner of a descriptor (R231) -/

/-- What stands in a list under a key that reads as other than its default is found there before any greater key. -/
theorem find?_filterMap_least {α : Type} {d : Nat → α} {g : Nat → Option Nat} {p : Nat → Bool} {key : Nat → Nat} (mono : StrictMono key)
    (inv : ∀ a i, g a = some i → a = key i) {i j : Nat} (hit : g (key j) = some j) (hj : p j = true) :
    ∀ l : Cells α, cget d l (key j) ≠ d (key j) → (l.filterMap (fun c => g c.1)).find? p = some i → i ≤ j
  | [], h, _ => absurd rfl h
  | (k0, v) :: l, h, found => by
    rw [List.filterMap_cons] at found
    unfold cget at h
    split_ifs at h with before same
    · have rest := find?_filterMap_least (i := i) mono inv hit hj l h
      cases e : g k0 with
      | none =>
        rw [e] at found
        exact rest found
      | some x =>
        rw [e] at found
        by_cases px : p x = true
        · rw [List.find?_cons_of_pos px] at found
          obtain rfl := Option.some.inj found
          have : key x < key j := by rw [← inv k0 x e]; omega
          exact (mono.lt_iff_lt.1 this).le
        · rw [List.find?_cons_of_neg px] at found
          exact rest found
    · subst same
      rw [show g (key j) = some j from hit, List.find?_cons_of_pos hj] at found
      exact (Option.some.inj found).symm.le
    · exact absurd rfl h

theorem taskCount_reset : ∀ n < 512, fget SCH_TEN_TASKS_COUNT (resetWord (SCH_TEN_TASKS n)) = 0 := by decide +kernel

/-- A tenant that owns a descriptor has a word that differs from its reset value. -/
theorem tasksWord_ne_reset (hn : n < 512) {d : Nat} (h : s.ownsTask n d = true) : s.rdW (SCH_TEN_TASKS n) ≠ resetWord (SCH_TEN_TASKS n) := by
  intro e
  have none : s.taskCount n = 0 := by
    unfold State.taskCount State.rd
    rw [e]
    exact taskCount_reset n hn
  unfold State.ownsTask at h
  rw [none, Bool.and_eq_true_iff, decide_eq_true_iff, decide_eq_true_iff] at h
  omega

theorem elemOf_tasks (hn : n < 512) : elemOf (SCH_TEN_TASKS 0) 512 0x80 (SCH_TEN_TASKS n) = some n := by
  have h := elemOf_mul (SCH_TEN_TASKS 0) hn (show 0 < 0x80 by decide)
  unfold SCH_TEN_TASKS at h ⊢
  exact h

theorem elemOf_tasks_inv {a i : Nat} (h : elemOf (SCH_TEN_TASKS 0) 512 0x80 a = some i) : a = SCH_TEN_TASKS i := by
  unfold elemOf at h
  split at h
  next k =>
    cases h
    unfold SCH_TEN_TASKS at k ⊢
    omega
  next => cases h

theorem strictMono_tasks : StrictMono SCH_TEN_TASKS := fun a b h => by unfold SCH_TEN_TASKS; omega

/-- The owner of a descriptor is the least tenant whose range holds it. -/
theorem taskOwner_eq_some {d : Nat} : s.taskOwner d = some n ↔ n < 512 ∧ s.ownsTask n d = true ∧ ∀ k < 512, s.ownsTask k d = true → n ≤ k := by
  have least {i k : Nat} (found : s.taskOwner d = some i) (hk : k < 512) (own : s.ownsTask k d = true) : i ≤ k :=
    find?_filterMap_least (d := resetWord) (p := fun t => s.ownsTask t d) strictMono_tasks (fun _ _ => elemOf_tasks_inv) (elemOf_tasks hk) own s.regs
      (tasksWord_ne_reset hk own) found
  have owner {i : Nat} (found : s.taskOwner d = some i) : i < 512 ∧ s.ownsTask i d = true := by
    obtain ⟨c, -, hit⟩ := List.mem_filterMap.1 (List.mem_of_find?_eq_some found)
    exact ⟨elemOf_lt hit, List.find?_some (p := fun t => s.ownsTask t d) found⟩
  constructor
  · exact fun found => ⟨(owner found).1, (owner found).2, fun k hk own => least found hk own⟩
  · rintro ⟨hn, own, min⟩
    cases e : s.taskOwner d with
    | none =>
      obtain ⟨c, hc, key⟩ := List.mem_map.1 (mem_ckeys_of_cget_ne (tasksWord_ne_reset hn own))
      have listed : n ∈ s.regs.filterMap (fun c => elemOf (SCH_TEN_TASKS 0) 512 0x80 c.1) :=
        List.mem_filterMap.2 ⟨c, hc, by rw [key]; exact elemOf_tasks hn⟩
      exact absurd own (List.find?_eq_none.1 e n listed)
    | some i =>
      obtain ⟨hi, owni⟩ := owner e
      rw [le_antisymm (least e hn own) (min i hi owni)]

theorem ownsTask_congr {u : State} (h : u.rdW (SCH_TEN_TASKS n) = s.rdW (SCH_TEN_TASKS n)) (d : Nat) : u.ownsTask n d = s.ownsTask n d := by
  unfold State.ownsTask State.taskFirst State.taskCount
  rw [State.rd_congr h, State.rd_congr h]

/-- The owner depends on the tenants' words alone. -/
theorem taskOwner_congr {u : State} (h : ∀ k < 512, u.rdW (SCH_TEN_TASKS k) = s.rdW (SCH_TEN_TASKS k)) {d : Nat} (own : s.taskOwner d = some n) :
    u.taskOwner d = some n := by
  obtain ⟨hn, own, min⟩ := taskOwner_eq_some.1 own
  exact taskOwner_eq_some.2 ⟨hn, (ownsTask_congr (h n hn) d).trans own, fun k hk ownk => min k hk ((ownsTask_congr (h k hk) d).symm.trans ownk)⟩

end Sys2Proof.Machine
end

section
/-! What the five messages answer (R498). -/

namespace Sys2Proof.Machine

variable {s : State} {t n : Nat} {m : Message}

/-! ### The next index of an inbound page -/

theorem idxDiff_next {prod cons : Nat} (hp : prod < 2 ^ 32) (room : idxDiff prod cons < 255) : prodStatus ((prod + 1) % 2 ^ 32) prod cons = 0 := by
  have own : idxDiff ((prod + 1) % 2 ^ 32) prod ≤ 255 := by unfold idxDiff; omega
  have fits : ¬ 255 < idxDiff ((prod + 1) % 2 ^ 32) cons := by unfold idxDiff at room ⊢; omega
  unfold prodStatus
  rw [if_neg fits, if_pos own]

theorem inbound_prod (hn : n < 512) (room : idxDiff (s.rdW (TEN_MSG_PROD n 2)).toNat (s.rdW (TEN_MSG_CONS n 2)).toNat < 255)
    (present : s.tenantPresent n = true) (type tag : Nat) (d : List Byte) :
    (s.inbound n type tag d).2.rdW (TEN_MSG_PROD n 2) = s.rdW (TEN_MSG_PROD n 2) + 1 := by
  have page : s.inboundPage n = some 2 := List.find?_cons_of_pos (decide_eq_true room)
  have next : BitVec.ofNat 32 ((s.rdW (TEN_MSG_PROD n 2)).toNat + 1) = s.rdW (TEN_MSG_PROD n 2) + 1 := by
    apply BitVec.eq_of_toNat_eq
    simp [BitVec.toNat_add]
  have advance (u : State) (there : u.tenantPresent n = true) (words : ∀ a, u.rdW a = s.rdW a) :
      (opTenMsgIndexWrite n 2 (BitVec.ofNat 32 ((s.rdW (TEN_MSG_PROD n 2)).toNat + 1)) u).rdW (TEN_MSG_PROD n 2) = s.rdW (TEN_MSG_PROD n 2) + 1 := by
    refine (prodWritten_words there (le_refl 2) (by decide) ?_ (tenWord_msg hn (by decide)).1).trans ((State.rdW_wrW_same ..).trans next)
    rw [words, words, BitVec.toNat_ofNat]
    exact idxDiff_next (s.rdW (TEN_MSG_PROD n 2)).isLt room
  obtain ⟨u, rfl | ⟨a, b, rfl⟩, e⟩ := inbound_some n type tag d page
  · rw [e]
    exact advance u present fun _ => rfl
  · have only := memOnly_devWrite s a b
    rw [e]
    refine advance _ ?_ fun c => State.rdW_congr only.regs c
    unfold State.tenantPresent State.tenants State.feature at present ⊢
    rw [show (s.devWrite a b).fuses = s.fuses from (congrArg State.fuses only :)]
    exact present

/-! ### The bodies -/

/-- Reading the tenant's own records into its buffer. -/
theorem almReadOwn_body {v : State} {addrs : List Nat} (long : m.payload.length = 12)
    (buffer : v.tenBuffer m.tenant (leAt m.payload 4 4) (v.readRecords m.tenant (leAt m.payload 0 4) (leAt m.payload 8 4)).1.length = some addrs) :
    (if m.payload.length ≠ 12 then (stBadLength, [], v)
      else
        let (b, k) := v.readRecords m.tenant (leAt m.payload 0 4) (leAt m.payload 8 4)
        match v.tenBuffer m.tenant (leAt m.payload 4 4) b.length with
        | none => (stBadField, [], v)
        | some addrs =>
          let u := (addrs.zip b).foldl (fun (s : State) x => s.store x.1 [x.2]) v
          (0, p2 k ++ p2 b.length ++ p4 (v.rdW (ALM_CH_FIRST m.tenant)).toNat ++ p4 (v.rdW (ALM_CH_NEXT m.tenant)).toNat, u)) =
      (0, p2 (v.readRecords m.tenant (leAt m.payload 0 4) (leAt m.payload 8 4)).2
        ++ p2 (v.readRecords m.tenant (leAt m.payload 0 4) (leAt m.payload 8 4)).1.length
        ++ p4 (v.rdW (ALM_CH_FIRST m.tenant)).toNat ++ p4 (v.rdW (ALM_CH_NEXT m.tenant)).toNat,
        (addrs.zip (v.readRecords m.tenant (leAt m.payload 0 4) (leAt m.payload 8 4)).1).foldl (fun (s : State) x => s.store x.1 [x.2]) v) := by
  rw [if_neg (not_not.2 long)]
  generalize v.readRecords m.tenant (leAt m.payload 0 4) (leAt m.payload 8 4) = x at *
  obtain ⟨b, k⟩ := x
  simp only [buffer]

theorem taken_present {u : State} (h : u.fuses = s.fuses) (n : Nat) : u.tenantPresent n = s.tenantPresent n := by
  unfold State.tenantPresent State.tenants State.feature
  rw [h]

/-- The steward's item as a message names it. -/
def remoteItem (m : Message) : List Byte := leBytes 4 0 ++ slice m.payload 4 4 ++ leBytes 8 0 ++ slice m.payload 8 48

/-- The item written to the steward's registers. -/
def State.itemWritten (s : State) (m : Message) : State :=
  (List.range 16).foldl (fun (s : State) k => s.wrW (SCH_STW_ITEM k) (BitVec.ofNat 32 (leAt (remoteItem m) (4 * k) 4))) s

theorem hostMsgs_takeMsg (h : s.nextMsg = some m) : (s.takeMsg m).hostMsgs m.tenant = s.hostMsgs m.tenant := by
  obtain ⟨x, same, taken⟩ := takeMsg_taken s (nextMsg_page h)
  unfold State.hostMsgs
  rw [taken.mbx]
  exact congrArg (cget (fun _ => []) · m.tenant) same

/-- The body of ENQUEUE_REMOTE. -/
def remoteBody (m : Message) (s : State) : Nat × List Byte × State :=
  let d := leAt m.payload 0 2
  let i := byteAt m.payload 2
  if m.payload.length ≠ 56 then (stBadLength, [], s)
  else if byteAt m.payload 3 ≠ 0 then (stBadField, [], s)
  else if !Config.remotePermitted m.tenant d i then (stRightDenied, [], s)
  else if !s.tenantPresent d then (stAbsent, [], s)
  else if s.taskCount d ≤ i then (0x0510, [], s.refuseEnq d 0x0510)
  else
    let s := s.itemWritten m
    let s := opSchStwEnq (s.taskFirst d + i) s
    (s.rd SCH_STW_ENQ_STAT SCH_STW_ENQ_STAT_STATUS, [], s)

section
variable (long : m.payload.length = 56) (zero : byteAt m.payload 3 = 0)
include long zero

theorem opEnqueueRemote_denied {v : State} (denied : Config.remotePermitted m.tenant (leAt m.payload 0 2) (byteAt m.payload 2) = false) :
    remoteBody m v = (stRightDenied, [], v) := by
  unfold remoteBody
  dsimp only
  rw [if_neg (not_not.2 long), if_neg (not_not.2 zero), if_pos (by rw [denied]; rfl)]

theorem opEnqueueRemote_body {v : State} (permitted : Config.remotePermitted m.tenant (leAt m.payload 0 2) (byteAt m.payload 2) = true)
    (present : v.tenantPresent (leAt m.payload 0 2) = true) (inRange : byteAt m.payload 2 < v.taskCount (leAt m.payload 0 2)) :
    remoteBody m v = ((opSchStwEnq ((v.itemWritten m).taskFirst (leAt m.payload 0 2) + byteAt m.payload 2) (v.itemWritten m)).rd
      SCH_STW_ENQ_STAT SCH_STW_ENQ_STAT_STATUS, [], opSchStwEnq ((v.itemWritten m).taskFirst (leAt m.payload 0 2) + byteAt m.payload 2) (v.itemWritten m)) := by
  unfold remoteBody
  dsimp only
  rw [if_neg (not_not.2 long), if_neg (not_not.2 zero), if_neg (by rw [permitted]; decide), if_neg (by rw [present]; decide), if_neg (not_le.2 inRange)]
end

/-- A message taken leaves its destination's registers. -/
theorem remote_taken {d i : Nat} (h : s.nextMsg = some m) (present : s.tenantPresent d = true) (inRange : i < s.taskCount d) :
    (s.takeMsg m).tenantPresent d = true ∧ i < (s.takeMsg m).taskCount d := by
  obtain ⟨x, -, taken⟩ := takeMsg_taken s (nextMsg_page h)
  have low := tenantPresent_lt present
  have word := taken.words (SCH_TEN_TASKS d) (by unfold SCH_TEN_TASKS TEN_STAT; omega) (by unfold SCH_TEN_TASKS TEN_MSG_CONS; omega)
  refine ⟨(taken_present taken.fuses d).trans present, ?_⟩
  unfold State.taskCount at inRange ⊢
  rwa [State.rd_congr word]

/-! ### A remote item accepted -/

/-- The scheduler's own words, its pool's apart, that a queue's change leaves. -/
abbrev SchOwnWord (a : Nat) : Prop := a < 0x05010000 ∧ a ≠ SCH_STAT

theorem ownKept_setSch (s : State) (items : List SchItem) (runs : List SchRun) : KeepsWords SchOwnWord s (s.setSch items runs) := by
  obtain ⟨all, e⟩ := schSync_eq s { s with sch := { s.sch with items := items, runs := runs } }
  unfold State.setSch
  rw [e]
  have shown (u : State) : KeepsWords SchOwnWord u (u.showItems all) := by
    refine .trans (.foldl _ _ fun u t _ => ?tenants) (.trans (.foldl _ _ fun u d _ => ?tasks) (.foldl _ _ fun u f _ => ?flows))
    case tenants =>
      have apart : ¬ SchOwnWord (SCH_TEN_STAT t) := by unfold SchOwnWord SCH_TEN_STAT; omega
      exact (KeepsWords.wr u _ _ apart).trans (.wr _ _ _ apart)
    case tasks => exact .wrW u _ (by unfold SchOwnWord SCH_DESC; omega)
    case flows => exact .wr u _ _ (by unfold SchOwnWord SCH_FLOW_OWNER; omega)
  have core (u : State) (x : SchRun) : KeepsWords SchOwnWord u (u.showCore x) := by
    have apart : ¬ SchOwnWord (SCH_CORE_STAT x.core) := by unfold SchOwnWord SCH_CORE_STAT; omega
    unfold State.showCore
    split
    · exact ((KeepsWords.wr u _ _ apart).trans (.wr _ _ _ apart)).trans (.wr _ _ _ apart)
    · exact .wrW u _ apart
  have pool (u : State) : KeepsWords SchOwnWord u u.showPool := .wr u _ _ fun h => h.2 rfl
  refine .trans ?_ ((shown _).trans (.trans (.foldl _ _ fun u x _ => core u x) (pool _)))
  exact .of_regs rfl

theorem ownKept_holdScan (s : State) : KeepsWords SchOwnWord s s.holdScan := .of_regs rfl

/-- What a message's answer tells of an item: its descriptor, its tenant, and whose it is. -/
def acceptedKey (x : SchItem) : Nat × Nat × Bool := (x.task, x.tenant, x.steward)

/-- An item accepted on an empty queue. -/
theorem accept_empty (i : SchItem) (h : s.sch.items = []) : (s.accept i).sch.items.map acceptedKey = [acceptedKey i] ∧
    KeepsWords SchOwnWord s (s.accept i) := by
  unfold State.accept
  dsimp only
  split_ifs
  case pos =>
    rw [setSch_sch]
    refine ⟨by simp [h, acceptedKey], .trans ?_ (ownKept_setSch _ _ _)⟩
    exact .of_regs rfl
  case neg =>
    have written := memOnly_devWrite s ((s.spillRing i.tenant).1 + 64 * (cget (fun _ => 0) s.sch.spillNext i.tenant % (s.spillRing i.tenant).2)) (itemBytes i)
    have sch := (congrArg State.sch written :)
    rw [setSch_sch]
    refine ⟨by simp [State.bump, sch, h, acceptedKey], .trans ?_ (ownKept_setSch _ _ _)⟩
    exact .of_regs written.regs
  case neg =>
    refine ⟨?_, .trans (.trans ?_ (ownKept_setSch _ _ _)) (ownKept_holdScan _)⟩
    case refine_2 => exact .of_regs rfl
    have keyed (l : List SchItem) : l.map acceptedKey = (l.map fun x => { x with held := none }).map acceptedKey := by simp [acceptedKey]
    rw [keyed, holdScan_items, setSch_sch]
    simp [h, acceptedKey]

theorem itemWritten_sch (s : State) (m : Message) : (s.itemWritten m).sch = s.sch :=
  List.foldlRecOn (motive := fun u : State => u.sch = s.sch) _ _ rfl fun _ ih _ _ => ih

theorem itemWritten_word (s : State) (m : Message) {a : Nat} (h : ∀ k < 16, a ≠ SCH_STW_ITEM k) : (s.itemWritten m).rdW a = s.rdW a :=
  List.foldlRecOn (motive := fun u : State => u.rdW a = s.rdW a) _ _ rfl fun u ih k hk => (u.rdW_wrW_ne _ (h k (List.mem_range.1 hk))).trans ih

theorem itemWritten_first (s : State) (m : Message) : (s.itemWritten m).rdW (SCH_STW_ITEM 0) = 0 := by
  let words : List (Nat × Word) := (List.range 16).map fun k => (k, BitVec.ofNat 32 (leAt (remoteItem m) (4 * k) 4))
  have e : s.itemWritten m = words.foldl (fun u c => u.wrW (SCH_STW_ITEM c.1) c.2) s := by
    rw [List.foldl_map]
    rfl
  rw [e]
  refine rdW_copied (f := SCH_STW_ITEM) words s ?_ (0, _) (List.mem_map.2 ⟨0, by decide, rfl⟩)
  exact List.pairwise_map.2 (List.nodup_range.imp fun ne => by unfold SCH_STW_ITEM; omega)

/-- An item whose first word is 0 names no flow. -/
theorem stwItem_flow (h : s.rdW (SCH_STW_ITEM 0) = 0) (d n : Nat) : (s.parseItem s.stwItem d n true).flow = none := by
  have first : leAt s.stwItem 2 2 = 0 := by
    unfold State.stwItem
    rw [show List.range 16 = 0 :: (List.range 15).map (· + 1) from rfl, List.flatMap_cons, h]
    rfl
  unfold State.parseItem
  dsimp only
  rw [first]
  rfl

/-- A descriptor that a tenant in RUN owns takes an item without a flow while the queue is empty. -/
theorem enqTest_empty {d : Nat} {i : SchItem} (state : s.tenState n = 2) (own : s.ownsTask n d = true) (valid : s.descB d DESC_VALID = true)
    (flagOnly : s.descB d DESC_FLAG_ONLY = false) (flow : i.flow = none) (items : s.sch.items = []) : s.enqTest n d i = 0 := by
  have none : s.occupancy n = 0 := by
    unfold State.occupancy
    rw [items]
    rfl
  unfold State.enqTest
  dsimp only
  rw [if_neg (by omega), if_neg (by omega), if_neg (by rw [own, valid, flagOnly]; decide), flow, none, if_neg Bool.false_ne_true]
  exact if_neg (by omega)

/-- The steward's enqueue of the item that a message wrote. -/
theorem remoteEnqueued {d i : Nat} {w : State} (words : ∀ a, a ≠ TEN_STAT → (∀ n p, p < 2 → a ≠ TEN_MSG_CONS n p) → (∀ k < 16, a ≠ SCH_STW_ITEM k) →
      w.rdW a = s.rdW a) (first : w.rdW (SCH_STW_ITEM 0) = 0) (sch : w.sch = s.sch) (hd : d < 512) (own : s.taskOwner (s.taskFirst d + i) = some d)
    (state : s.tenState d = 2) (valid : s.descB (s.taskFirst d + i) DESC_VALID = true) (flagOnly : s.descB (s.taskFirst d + i) DESC_FLAG_ONLY = false)
    (items : s.sch.items = []) :
    (opSchStwEnq (w.taskFirst d + i) w).sch.items.map acceptedKey = [(s.taskFirst d + i, d, true)] ∧
    (opSchStwEnq (w.taskFirst d + i) w).rd SCH_STW_ENQ_STAT SCH_STW_ENQ_STAT_STATUS = 0 := by
  have kept (a : Nat) (lo : a ≠ TEN_STAT) (msg : ∀ n p, p < 2 → a ≠ TEN_MSG_CONS n p) (item : ∀ k < 16, a ≠ SCH_STW_ITEM k) := words a lo msg item
  have tasks (k : Nat) (hk : k < 512) : w.rdW (SCH_TEN_TASKS k) = s.rdW (SCH_TEN_TASKS k) := kept _ (by unfold SCH_TEN_TASKS TEN_STAT; omega)
    (fun n p _ => by unfold SCH_TEN_TASKS TEN_MSG_CONS; omega) fun k _ => by unfold SCH_TEN_TASKS SCH_STW_ITEM; omega
  have firstTask : w.taskFirst d = s.taskFirst d := State.rd_congr (tasks d hd) _
  have ownW := taskOwner_congr tasks own
  have below : s.taskFirst d + i < 0x10000 := by
    have h := (taskOwner_eq_some.1 own).2.1
    unfold State.ownsTask at h
    rw [Bool.and_eq_true_iff, decide_eq_true_iff, decide_eq_true_iff] at h
    have a : s.taskFirst d < 2 ^ 13 := s.rd_lt _ SCH_TEN_TASKS_FIRST
    have b : s.taskCount d < 2 ^ 9 := s.rd_lt _ SCH_TEN_TASKS_COUNT
    omega
  have stateWord : w.rdW (TEN_STATE d) = s.rdW (TEN_STATE d) := kept _ (by unfold TEN_STATE TEN_STAT; omega)
    (fun n p hp => by unfold TEN_STATE TEN_MSG_CONS; omega) fun k _ => by unfold TEN_STATE SCH_STW_ITEM; omega
  have descWord : w.rdW (SCH_DESC (s.taskFirst d + i) 3) = s.rdW (SCH_DESC (s.taskFirst d + i) 3) := kept _ (by unfold SCH_DESC TEN_STAT; omega)
    (fun n p hp => by unfold SCH_DESC TEN_MSG_CONS; omega) fun k _ => by unfold SCH_DESC SCH_STW_ITEM; omega
  rw [firstTask]
  have test := enqTest_empty (i := w.parseItem w.stwItem (s.taskFirst d + i) d true) ((State.rd_congr stateWord _).trans state) (taskOwner_eq_some.1 ownW).2.1
    ((State.rdB_congr descWord _).trans valid) ((State.rdB_congr descWord _).trans flagOnly) (stwItem_flow first _ _) (sch ▸ items)
  rw [opSchStwEnq_eq ownW test, if_pos rfl]
  obtain ⟨keys, words⟩ := accept_empty (s := w.wr SCH_STW_ENQ_STAT SCH_STW_ENQ_STAT_STATUS 0) (w.parseItem w.stwItem (s.taskFirst d + i) d true)
    (show w.sch.items = [] from sch ▸ items)
  exact ⟨keys, (State.rd_congr (words.words _ (by decide)) _).trans (State.rd_wr_same _ _ _ _ (by decide))⟩

/-- A command that leaves the machine `u`: what holds of its queue and its registers. -/
theorem completes_of_answered {i : Instr} {u : State} {c d : Prop} {keys : List (Nat × Nat × Bool)} (hi : exec i s = .next (s.after t fun _ => u))
    (yes : c → u.sch.items.map acceptedKey = keys ∧ u.rd SCH_STW_ENQ_STAT SCH_STW_ENQ_STAT_STATUS = 0) (no : d → u.sch.items = []) :
    Completes i s fun u => (c → u.sch.items.map acceptedKey = keys ∧ u.rd SCH_STW_ENQ_STAT SCH_STW_ENQ_STAT_STATUS = 0) ∧ (d → u.sch.items = []) :=
  ⟨_, hi, yes, no⟩

theorem tenAnswers_status {i : Instr} {body : Message → State → Nat × List Byte × State} {type st : Nat} {data : State → List Byte} {g : State → State}
    (hi : exec i s = .next (s.after t fun v => v.serveMsg m.tenant type body)) (next : NextIs s t m type) (low : 1 ≤ type) (high : type ≤ 5)
    (hb : body m ((s.advance t).takeMsg m) = (st, data ((s.advance t).takeMsg m), g ((s.advance t).takeMsg m))) : TenAnswers i t m s st data g :=
  exec_of_message hi next low high hb _ rfl

/-- Settles O22. -/
theorem tenantMessages : Obligations.TenantMessages := by
  refine ⟨?status, ?statusLong, ?readLong, ?read, ?send, ?sendEmpty, ?remoteEq, ?remote, ?time, ?none, ?index, ?other⟩
  case status =>
    intro t m s next empty
    exact tenAnswers_status rfl next (by decide) (by decide) (if_neg (by simp [empty]))
  case statusLong =>
    intro t m s next full
    exact tenAnswers_status rfl next (by decide) (by decide) (if_pos (by simpa using full))
  case readLong => exact fun t m s next long => tenAnswers_status rfl next (by decide) (by decide) (if_pos long)
  case read =>
    exact fun t m addrs s next long buffer => tenAnswers_status rfl next (by decide) (by decide) (almReadOwn_body long buffer)
  case send =>
    intro t m s next long fits one short zero room
    have free : (((s.advance t).takeMsg m).hostMsgs m.tenant).length < 64 := by
      rw [hostMsgs_takeMsg next.1]
      exact room
    exact tenAnswers_status rfl next (by decide) (by decide)
      ((if_neg (by omega)).trans ((if_neg (by rw [zero]; omega)).trans (if_neg (not_le.2 free))))
  case sendEmpty =>
    intro t m s next long fits zero
    refine tenAnswers_status rfl next (by decide) (by decide) ((if_neg (by omega)).trans (if_pos (.inl zero)))
  case remoteEq =>
    intro t m s next long zero present inRange
    have type : (m.type + 0x8000) % 65536 = 0x8004 := by rw [next.2.1]
    have kept := remote_taken (s := s.advance t) next.1 present inRange
    cases permitted : Config.remotePermitted m.tenant (leAt m.payload 0 2) (byteAt m.payload 2) with
    | false =>
      refine exec_of_message rfl next (by decide) (by decide) (opEnqueueRemote_denied long zero permitted) _ ?_
      rw [type]
      exact (if_pos rfl).symm
    | true =>
      refine exec_of_message rfl next (by decide) (by decide) (opEnqueueRemote_body long zero permitted kept.1 kept.2) _ ?_
      rw [type]
      exact (if_neg (by decide)).symm
  case remote =>
    rintro t m d i s next long rfl rfl zero present inRange own state valid flagOnly items
    obtain ⟨x, -, taken⟩ := takeMsg_taken (s.advance t) (nextMsg_page next.1)
    obtain ⟨there, inRange⟩ := remote_taken (s := s.advance t) next.1 present inRange
    cases permitted : Config.remotePermitted m.tenant (leAt m.payload 0 2) (byteAt m.payload 2) with
    | false =>
      exact completes_of_answered (exec_of_message rfl next (by decide) (by decide) (opEnqueueRemote_denied long zero permitted) (fun _ => _) rfl)
        (fun h => absurd h (by decide)) fun _ => (inbound_written ..).queue.items.trans ((congrArg Sch.items taken.sch).trans items)
    | true =>
      obtain ⟨keys, status⟩ := remoteEnqueued (s := s) (w := ((s.advance t).takeMsg m).itemWritten m)
        (fun a lo msg item => (itemWritten_word _ m item).trans (taken.words a lo (msg _ _ (nextMsg_page next.1)))) (itemWritten_first _ m)
        ((itemWritten_sch _ m).trans taken.sch) (tenantPresent_lt present) own state valid flagOnly items
      exact completes_of_answered
        (exec_of_message rfl next (by decide) (by decide) (opEnqueueRemote_body long zero permitted there inRange) (fun _ => _) rfl)
        (fun _ => ⟨(congrArg (List.map acceptedKey) (inbound_written ..).queue.items).trans keys,
          (State.rd_congr ((inbound_written ..).words _ (by decide)) _).trans status⟩) (fun h => absurd h (by decide))
  case time =>
    intro t m s next empty
    exact tenAnswers_status rfl next (by decide) (by decide) (if_neg (by simp [empty]))
  case none => exact fun t n s none => completes_of_idle (t := t) (g := opTimeInfo n) rfl (serveMsg_none (s := s.advance t) none n 5 _)
  case index => exact fun t n type tag d s hn room present => inbound_prod (s := s.advance t) hn room present type tag d
  case other =>
    intro t n m s next other
    obtain ⟨next, type, -⟩ := next
    exact completes_of_idle (t := t) (g := opStatusQuery n) rfl ((serveMsg_known next type (by decide) (by decide) _).trans (if_neg other))

end Sys2Proof.Machine
end

section
/-! A write of a read-only register rewrites its word, and so puts its list in canonical form (R12). -/

namespace Sys2Proof.Machine

/-- A machine that lists TIM_ROUND at its reset value, which a list in canonical form would not. No statement asks for that form. -/
def listedRoundState : State := { State.reset with regs := [(TIM_ROUND, resetWord TIM_ROUND)] }

/-- The write leaves the register's value, and takes the entry off the list. -/
theorem listedRound_dropped : (listedRoundState.after 0 (opRegisterWrite none TIM_ROUND 0)).regs = [] := by decide +kernel

/-- Refutes O23: the write of TIM_ROUND is to leave the whole machine, its list of words included, and here it does not. -/
theorem not_controlAccess : ¬ Obligations.ControlAccess := by
  rintro ⟨-, -, -, roundKept, -⟩
  obtain ⟨u, hu, kept⟩ := roundKept 0 0 listedRoundState (by decide +kernel)
  obtain rfl : listedRoundState.after 0 (opRegisterWrite none TIM_ROUND 0) = u := Host.Outcome.next.inj hu
  have regs := listedRound_dropped.symm.trans (congrArg State.regs kept)
  exact absurd regs (by simp [listedRoundState])

end Sys2Proof.Machine
end

section
/-! The commands of a law and of its trace (R275 to R279, R285, R288): RESULT, the changes staged for a boundary, the trace's words. -/

namespace Sys2Proof.Machine

/-! ### RESULT and DETAIL -/

theorem lawResult_result (s : State) (l r d : Nat) : (s.lawResult l r d).rd (CLE_LAW_CMD l) CLE_LAW_CMD_RESULT = r % 8 := by
  unfold State.lawResult
  rw [State.rd_wr_apart _ _ _ _ _ (by decide) (by decide) (by decide), State.rd_wr_same _ _ _ _ (by decide)]
  rfl

theorem lawResult_detail (s : State) (l r d : Nat) :
    (s.lawResult l r d).rd (CLE_LAW_CMD l) CLE_LAW_CMD_DETAIL = d % 2 ^ CLE_LAW_CMD_DETAIL.width :=
  State.rd_wr_same _ _ _ _ (by decide)

theorem onlyWords_lawResult (s : State) (l r d : Nat) : OnlyWords [CLE_LAW_CMD l] s (s.lawResult l r d) :=
  (OnlyWords.wr s _ _ (by simp)).trans (.wr _ _ _ (by simp))

theorem lawStateWord_ne (l m : Nat) : CLE_LAW_STATE l ≠ CLE_LAW_CMD m := by unfold CLE_LAW_STATE CLE_LAW_CMD; omega

theorem lawResult_stateWord (s : State) (l r d : Nat) : (s.lawResult l r d).rdW (CLE_LAW_STATE l) = s.rdW (CLE_LAW_STATE l) :=
  (onlyWords_lawResult s l r d).2 _ (by simpa using lawStateWord_ne l l)

/-- A command that answers RESULT, and does nothing else. -/
theorem completes_of_lawResult {i : Instr} {s : State} {t l r d : Nat} {g : State → State} (hi : exec i s = .next (s.after t g))
    (hg : g (s.advance t) = (s.advance t).lawResult l r d) : Completes i s fun u =>
      u.rd (CLE_LAW_CMD l) CLE_LAW_CMD_RESULT = r % 8 ∧ u.rd (CLE_LAW_CMD l) CLE_LAW_CMD_DETAIL = d % 2 ^ CLE_LAW_CMD_DETAIL.width
        ∧ u.lawState l = s.lawState l ∧ OnlyWords [CLE_LAW_CMD l] s u :=
  completes_of_eq hi hg ⟨lawResult_result _ l r d, lawResult_detail _ l r d, State.rd_congr (lawResult_stateWord (s.advance t) l r d) _, rfl,
    (onlyWords_lawResult (s.advance t) l r d).2⟩

/-! ### Changes staged for a boundary (R279) -/

section

variable (s : State) (l : Nat)

theorem lawPending_commit : (s.lawPending l).rdB (CLE_LAW_STATE l) CLE_LAW_STATE_COMMIT_PENDING
    = s.cle.stages.any (fun x => x.law == l && x.op == 3) := by
  unfold State.lawPending
  dsimp only
  unfold State.wrB
  rw [State.rdB_wr_apart _ _ _ _ _ (by decide) (by decide) (by decide), State.rdB_wr_apart _ _ _ _ _ (by decide) (by decide) (by decide),
    State.rdB_wr_apart _ _ _ _ _ (by decide) (by decide) (by decide)]
  exact State.rdB_wrB_same _ _ _ _ (by decide) rfl

theorem lawPending_tune : (s.lawPending l).rdB (CLE_LAW_STATE l) CLE_LAW_STATE_TUNE_PENDING
    = s.cle.stages.any (fun x => x.law == l && x.op == 5) := by
  unfold State.lawPending
  dsimp only
  rw [State.wrB, State.rdB_wr_apart _ _ _ _ _ (by decide) (by decide) (by decide), State.wrB,
    State.rdB_wr_apart _ _ _ _ _ (by decide) (by decide) (by decide)]
  exact State.rdB_wrB_same _ _ _ _ (by decide) rfl

theorem lawPending_untune : (s.lawPending l).rdB (CLE_LAW_STATE l) CLE_LAW_STATE_UNTUNE_PENDING
    = s.cle.stages.any (fun x => x.law == l && x.op == 6) := by
  unfold State.lawPending
  dsimp only
  rw [State.wrB, State.rdB_wr_apart _ _ _ _ _ (by decide) (by decide) (by decide)]
  exact State.rdB_wrB_same _ _ _ _ (by decide) rfl

/-- The pending bits stand above STATE and ACTIVE_SET. -/
theorem lawPending_low {f : Fld} (hf : f.lo + f.width ≤ 5) : (s.lawPending l).rd (CLE_LAW_STATE l) f = s.rd (CLE_LAW_STATE l) f := by
  have low : ∀ (u : State) {g : Fld} (b : Bool), g.lo + g.width ≤ 32 → 5 ≤ g.lo →
      (u.wrB (CLE_LAW_STATE l) g b).rd (CLE_LAW_STATE l) f = u.rd (CLE_LAW_STATE l) f :=
    fun u g b h k => State.rd_wr_apart u _ _ _ _ h (by omega) (.inr (by omega))
  unfold State.lawPending
  dsimp only
  rw [low _ _ (by decide) (by decide), low _ _ (by decide) (by decide), low _ _ (by decide) (by decide), low _ _ (by decide) (by decide)]

theorem onlyWords_lawPending : OnlyWords [CLE_LAW_STATE l] s (s.lawPending l) :=
  (((OnlyWords.wrB s _ _ (by simp)).trans (.wrB _ _ _ (by simp))).trans (.wrB _ _ _ (by simp))).trans (.wrB _ _ _ (by simp))

end

/-- The machine with a change of the kind `op` staged in the place of the one of its kind. -/
def State.withStage (s : State) (l op : Nat) (bumpless : Bool) : State :=
  let kept := s.cle.stages.filter (fun y => !(y.law == l && y.op == op))
  { s with cle := { s.cle with stages := kept ++ [{ law := l, op := op, bumpless := bumpless, eff := s.stageAt }] } }

theorem stageLaw_waits {s : State} (grid : s.gridOn = true) (l op : Nat) (b : Bool) :
    s.stageLaw l op b false = (s.withStage l op b).lawPending l := by
  unfold State.stageLaw
  rw [grid]
  rfl

theorem withStage_any (s : State) (l op : Nat) (b : Bool) : (s.withStage l op b).cle.stages.any (fun x => x.law == l && x.op == op) = true :=
  List.any_eq_true.2 ⟨_, List.mem_append_right _ (List.mem_singleton_self _), by simp⟩

/-- A command that stages a change and answers RESULT 0. -/
theorem completes_of_staged {i : Instr} {s : State} {t l op : Nat} {f : Fld} {g : State → State} (hi : exec i s = .next (s.after t g))
    (grid : s.gridOn = true) (hg : g (s.advance t) = ((s.advance t).stageLaw l op false false).lawResult l 0 0)
    (hf : ∀ u : State, (u.lawPending l).rdB (CLE_LAW_STATE l) f = u.cle.stages.any (fun x => x.law == l && x.op == op)) :
    Completes i s fun u => u.rd (CLE_LAW_CMD l) CLE_LAW_CMD_RESULT = 0 ∧ u.rdB (CLE_LAW_STATE l) f = true ∧ u.lawState l = s.lawState l
      ∧ OnlyWords [CLE_LAW_STATE l, CLE_LAW_CMD l] { s with cle := u.cle } u := by
  rw [stageLaw_waits (s := s.advance t) grid] at hg
  refine completes_of_eq hi hg ⟨lawResult_result _ l 0 0, ?bit, ?state, ?only⟩
  case bit => exact (State.rdB_congr (lawResult_stateWord _ l 0 0) f).trans ((hf _).trans (withStage_any _ _ _ _))
  case state => exact (State.rd_congr (lawResult_stateWord _ l 0 0) _).trans (lawPending_low _ l (by decide))
  case only =>
    have pending := (onlyWords_lawPending ((s.advance t).withStage l op false) l).mono (W := [CLE_LAW_STATE l, CLE_LAW_CMD l]) (by simp)
    exact ⟨rfl, (pending.trans ((onlyWords_lawResult _ l 0 0).mono (by simp))).2⟩

/-! ### Commit and copy (R278) -/

section

variable {t l : Nat} {b : Bool} {s : State} (present : s.clePresent = true) (hl : l < 128)
include present hl

theorem completes_cleCommit_bad {k : Nat}
    (bad : ((s.advance t).wrB (CLE_LAW_CMD l) CLE_LAW_CMD_BUMPLESS b).badCoeff l (1 - s.activeSet l) = some k) :
    Completes (.cleCommit t l b) s fun u => u.rd (CLE_LAW_CMD l) CLE_LAW_CMD_RESULT = 4
      ∧ u.rd (CLE_LAW_CMD l) CLE_LAW_CMD_DETAIL = k % 2 ^ CLE_LAW_CMD_DETAIL.width ∧ OnlyWords [CLE_LAW_CMD l] s u := by
  have active : ((s.advance t).wrB (CLE_LAW_CMD l) CLE_LAW_CMD_BUMPLESS b).activeSet l = s.activeSet l :=
    State.rd_congr (State.rdW_wrB_ne _ _ _ (lawStateWord_ne l l)) _
  have commit : opCleCommit l b (s.advance t) = ((s.advance t).wrB (CLE_LAW_CMD l) CLE_LAW_CMD_BUMPLESS b).lawResult l 4 k := by
    unfold opCleCommit
    rw [if_pos ⟨present, hl⟩]
    dsimp only
    rw [State.lawCommit, active, bad]
  refine completes_of_eq (g := opCleCommit l b) rfl commit ⟨lawResult_result _ l 4 k, lawResult_detail _ l 4 k, rfl, ?_⟩
  exact ((OnlyWords.wrB (s.advance t) _ _ (by simp)).trans (onlyWords_lawResult _ l 4 k)).2

theorem completes_cleCommit_staged (run : s.lawState l = 1) (grid : s.gridOn = true)
    (good : ((s.advance t).wrB (CLE_LAW_CMD l) CLE_LAW_CMD_BUMPLESS b).badCoeff l (1 - s.activeSet l) = none) :
    Completes (.cleCommit t l b) s fun u => u.rd (CLE_LAW_CMD l) CLE_LAW_CMD_RESULT = 0
      ∧ u.rdB (CLE_LAW_STATE l) CLE_LAW_STATE_COMMIT_PENDING = true ∧ u.lawState l = 1
      ∧ ({ law := l, op := 3, bumpless := b, eff := u.stageAt } : CleStage) ∈ u.cle.stages ∧ u.activeSet l = s.activeSet l := by
  let m := (s.advance t).wrB (CLE_LAW_CMD l) CLE_LAW_CMD_BUMPLESS b
  have keep : m.rdW (CLE_LAW_STATE l) = s.rdW (CLE_LAW_STATE l) := State.rdW_wrB_ne _ _ _ (lawStateWord_ne l l)
  have tim : ∀ a, a / 2 ^ 24 = 0x0E → a ≠ CLE_LAW_CMD l ∧ a ≠ CLE_LAW_STATE l := fun a h => by unfold CLE_LAW_CMD CLE_LAW_STATE; omega
  have gridM : m.gridOn = true := (State.rdB_congr (State.rdW_wrB_ne _ _ _ (tim _ (by decide)).1) _).trans grid
  have active : m.activeSet l = s.activeSet l := State.rd_congr keep _
  have state : m.lawState l = 1 := (State.rd_congr keep _).trans run
  have commit : opCleCommit l b (s.advance t) = ((m.withStage l 3 b).lawPending l).lawResult l 0 0 := by
    unfold opCleCommit
    rw [if_pos ⟨present, hl⟩]
    dsimp only
    rw [State.lawCommit, active, good]
    show (m.stageLaw l 3 b (m.lawState l == 0 || m.lawState l == 3 || m.lawState l == 4)).lawResult l 0 0 = _
    rw [state, ← stageLaw_waits gridM]
    rfl
  have low : ∀ {f : Fld}, f.lo + f.width ≤ 5 →
      (((m.withStage l 3 b).lawPending l).lawResult l 0 0).rd (CLE_LAW_STATE l) f = s.rd (CLE_LAW_STATE l) f := fun {f} hf =>
    ((State.rd_congr (lawResult_stateWord _ l 0 0) _).trans (lawPending_low _ l hf)).trans (State.rd_congr keep _)
  refine completes_of_eq (g := opCleCommit l b) rfl commit ⟨lawResult_result _ l 0 0, ?bit, (low (by decide)).trans run, ?mem, low (by decide)⟩
  case bit => exact (State.rdB_congr (lawResult_stateWord _ l 0 0) _).trans ((lawPending_commit _ l).trans (withStage_any _ _ _ _))
  case mem =>
    refine List.mem_append_right _ (List.mem_singleton.2 (congrArg (CleStage.mk l 3 b) (State.stageAt_congr rfl rfl fun a h => ?_)))
    have words := ((onlyWords_lawPending (m.withStage l 3 b) l).mono (W := [CLE_LAW_STATE l, CLE_LAW_CMD l]) (by simp)).trans
      ((onlyWords_lawResult _ l 0 0).mono (by simp))
    exact words.2 a (by simpa using ⟨(tim a h).2, (tim a h).1⟩)

theorem completes_copyActive_rejected (pending : s.rdB (CLE_LAW_STATE l) CLE_LAW_STATE_COMMIT_PENDING = true) :
    Completes (.copyActive t l) s fun u =>
      u.rdB CLE_STAT CLE_STAT_CFG_REJ = true ∧ u.cle = s.cle ∧ OnlyWords [CLE_STAT, CLE_LAW_CMD l] s u := by
  have op : opCopyActive l (s.advance t) = (s.advance t).cleRej.lawResult l 0 0 := by
    unfold opCopyActive
    rw [if_pos ⟨present, hl⟩]
    exact congrArg (fun u => State.lawResult u l 0 0) (if_pos pending)
  refine completes_of_eq (g := opCopyActive l) rfl op ⟨?rej, rfl, rfl, ?only⟩
  case rej =>
    refine (State.rdB_congr ((onlyWords_lawResult _ l 0 0).2 _ ?_) _).trans (State.rdB_wrB_same _ _ _ _ (by decide) rfl)
    unfold CLE_STAT CLE_LAW_CMD
    simp only [List.mem_singleton]
    omega
  case only => exact ((OnlyWords.wrB (s.advance t) _ _ (by simp)).trans ((onlyWords_lawResult _ l 0 0).mono (by simp))).2

/-! ### Traces (R285, R288) -/

theorem completes_traceArm (idle : s.trcState l = 0 ∨ s.trcState l = 3) : Completes (.traceArm t l) s fun u =>
    u.trcState l = 1 ∧ u.rd (CLE_TRC_STAT l) CLE_TRC_STAT_WRITE = 0 ∧ (u.law l).trcCount = 0 ∧ (u.law l).trcEvals = 0
      ∧ OnlyWords [CLE_TRC_STAT l] { s with cle := u.cle } u := by
  let x := s.law l
  let y := { x with trcEvals := 0, trcCount := 0, trcPost := 0, trcForce := false, strobes := s.rd SYS_SNAP_STAT SYS_SNAP_STAT_COUNT }
  have op : opTraceArm l (s.advance t) = ((((s.advance t).setLaw l y).wr (CLE_TRC_STAT l) CLE_TRC_STAT_WRITE 0).wr
      (CLE_TRC_STAT l) CLE_TRC_STAT_STATE 1) := if_pos ⟨present, hl, idle⟩
  have law : cget (fun _ => {}) (cset (fun _ => ({} : CleLaw)) s.cle.laws l y) l = y := cget_cset_same _ _ _ _
  refine completes_of_eq (g := opTraceArm l) rfl op ⟨State.rd_wr_same _ _ _ _ (by decide), ?write, congrArg CleLaw.trcCount law,
    congrArg CleLaw.trcEvals law, rfl, ?only⟩
  case write => exact (State.rd_wr_apart _ _ _ _ _ (by decide) (by decide) (by decide)).trans (State.rd_wr_same _ _ _ _ (by decide))
  case only => exact ((OnlyWords.wr ((s.advance t).setLaw l y) _ _ (by simp)).trans (.wr _ _ _ (by simp))).2

theorem completes_traceDisarm : Completes (.traceDisarm t l) s fun u =>
    u.trcState l = 0 ∧ u.rd (CLE_TRC_STAT l) CLE_TRC_STAT_WRITE = s.rd (CLE_TRC_STAT l) CLE_TRC_STAT_WRITE
      ∧ OnlyWords [CLE_TRC_STAT l] { s with cle := u.cle } u := by
  have op : opTraceDisarm l (s.advance t) = ((s.advance t).setLaw l { s.law l with trcForce := false }).wr (CLE_TRC_STAT l)
      CLE_TRC_STAT_STATE 0 := if_pos ⟨present, hl⟩
  refine completes_of_eq (g := opTraceDisarm l) rfl op ⟨State.rd_wr_same _ _ _ _ (by decide), ?write, rfl, ?only⟩
  case write => exact State.rd_wr_apart _ _ _ _ _ (by decide) (by decide) (by decide)
  case only => exact (OnlyWords.wr ((s.advance t).setLaw l { s.law l with trcForce := false }) _ _ (by simp)).2

theorem completes_traceTrigger_armed (armed : s.trcState l = 1) : Completes (.traceTrigger t l) s fun u =>
    u.trcState l = 2 ∧ u.rd (CLE_TRC_STAT l) CLE_TRC_STAT_TRIG_POS = s.rd (CLE_TRC_STAT l) CLE_TRC_STAT_WRITE
      ∧ (u.law l).trcForce = true ∧ OnlyWords [CLE_TRC_STAT l] { s with cle := u.cle } u := by
  let m := (s.advance t).setLaw l { s.law l with trcForce := true }
  have op : opTraceTrigger l (s.advance t) = (m.wr (CLE_TRC_STAT l) CLE_TRC_STAT_TRIG_POS (s.rd (CLE_TRC_STAT l) CLE_TRC_STAT_WRITE)).wr
      (CLE_TRC_STAT l) CLE_TRC_STAT_STATE 2 := by
    unfold opTraceTrigger
    exact (if_pos ⟨present, hl⟩).trans (if_pos armed)
  have law : m.law l = { s.law l with trcForce := true } := cget_cset_same _ _ _ _
  have write : s.rd (CLE_TRC_STAT l) CLE_TRC_STAT_WRITE < 2 ^ 12 := s.rd_lt _ CLE_TRC_STAT_WRITE
  refine completes_of_eq (g := opTraceTrigger l) rfl op ⟨State.rd_wr_same _ _ _ _ (by decide), ?pos, congrArg CleLaw.trcForce law, rfl, ?only⟩
  case pos =>
    refine (State.rd_wr_apart _ _ _ _ _ (by decide) (by decide) (by decide)).trans ?_
    exact (State.rd_wr_same _ _ _ _ (by decide)).trans (Nat.mod_eq_of_lt write)
  case only => exact ((OnlyWords.wr m _ _ (by simp)).trans (.wr _ _ _ (by simp))).2

end

/-- Settles O25. -/
theorem lawCommands : Obligations.LawCommands := by
  refine ⟨?startRefused, ?start, ?stopRefused, ?stop, ?commit, ?commitBad, ?copy, ?copyRejected, ?tune, ?tuneRefused, ?untune,
    ?untuneRefused, ?arm, ?armBusy, ?disarm, ?trigger, ?triggerIgnored⟩
  case startRefused =>
    intro t l s present hl state
    have op : opCleStart l (s.advance t) = (s.advance t).lawResult l 1 0 := by
      unfold opCleStart State.lawStart
      rw [if_pos ⟨present, hl⟩, if_pos (show (s.advance t).lawState l ≠ 0 from state)]
    obtain ⟨u, hu, result, -, keep, only⟩ := completes_of_lawResult (i := .cleStart t l) (g := opCleStart l) rfl op
    exact ⟨u, hu, result, keep, only⟩
  case start =>
    intro t l s present hl state owner checks
    refine exec_congr (f := opCleStart l) rfl ?_
    unfold opCleStart State.lawStart
    rw [if_pos ⟨present, hl⟩]
    dsimp only
    rw [if_neg (show ¬ (s.advance t).lawState l ≠ 0 from not_not.2 state), if_neg (by
      rw [show (s.advance t).tenState ((s.advance t).lawOwner l) = 1 from owner]; simp), if_neg (by rw [checks]; simp)]
    dsimp only
    rw [if_neg (by rw [show (s.advance t).tenState ((s.advance t).lawOwner l) = 1 from owner]; decide)]
  case stopRefused =>
    intro t l s present hl state
    have op : opCleStop l (s.advance t) = (s.advance t).lawResult l 1 0 := (if_pos ⟨present, hl⟩).trans (if_pos state)
    obtain ⟨u, hu, result, -, keep, only⟩ := completes_of_lawResult (i := .cleStop t l) (g := opCleStop l) rfl op
    exact ⟨u, hu, result, keep.trans state, only⟩
  case stop =>
    intro t l s present hl state
    exact exec_congr (f := opCleStop l) rfl ((if_pos ⟨present, hl⟩).trans (if_neg state))
  case commit =>
    intro t l b s present hl run grid good
    exact completes_cleCommit_staged present hl run grid good
  case commitBad =>
    intro t l b k s present hl bad
    exact completes_cleCommit_bad present hl bad
  case copy =>
    intro t l s present hl pending
    refine exec_congr (f := opCopyActive l) rfl ((if_pos ⟨present, hl⟩).trans ?_)
    exact congrArg (fun u => State.lawResult u l 0 0) (if_neg (by simpa using pending))
  case copyRejected =>
    intro t l s present hl pending
    exact completes_copyActive_rejected present hl pending
  case tune =>
    intro t l s present hl run grid
    obtain ⟨u, hu, result, bit, state, only⟩ := completes_of_staged (i := .cleTune t l) (g := opCleTune l) rfl grid
      ((if_pos ⟨present, hl⟩).trans (if_pos run)) (lawPending_tune · l)
    exact ⟨u, hu, result, bit, state.trans run, only⟩
  case tuneRefused =>
    intro t l s present hl run
    obtain ⟨u, hu, result, -, -, only⟩ := completes_of_lawResult (i := .cleTune t l) (g := opCleTune l) (r := 1) (d := 0) rfl
      ((if_pos ⟨present, hl⟩).trans (if_neg run))
    exact ⟨u, hu, result, only⟩
  case untune =>
    intro t l s present hl tuning grid
    obtain ⟨u, hu, result, bit, state, only⟩ := completes_of_staged (i := .cleUntune t l) (g := opCleUntune l) rfl grid
      ((if_pos ⟨present, hl⟩).trans (if_pos tuning)) (lawPending_untune · l)
    exact ⟨u, hu, result, bit, state.trans tuning, only⟩
  case untuneRefused =>
    intro t l s present hl tuning
    obtain ⟨u, hu, result, -, -, only⟩ := completes_of_lawResult (i := .cleUntune t l) (g := opCleUntune l) (r := 1) (d := 0) rfl
      ((if_pos ⟨present, hl⟩).trans (if_neg tuning))
    exact ⟨u, hu, result, only⟩
  case arm =>
    intro t l s present hl idle
    exact completes_traceArm present hl idle
  case armBusy =>
    intro t l s busy
    refine completes_of_idle (g := opTraceArm l) rfl (if_neg ?_)
    rintro ⟨-, -, idle⟩
    have := (show s.trcState l = 0 ∨ s.trcState l = 3 from idle)
    omega
  case disarm =>
    intro t l s present hl
    exact completes_traceDisarm present hl
  case trigger =>
    intro t l s present hl armed
    exact completes_traceTrigger_armed present hl armed
  case triggerIgnored =>
    intro t l s present hl armed
    exact completes_of_bump (g := opTraceTrigger l) rfl ((if_pos ⟨present, hl⟩).trans (if_neg armed))

end Sys2Proof.Machine
end

section
/-! Triggers, evaluations, time-outs and auto-tunes of laws (R261 to R266, R274, R284, R289). -/

namespace Sys2Proof.Machine

/-! ### Triggers -/

theorem takeWhile_of_forall {α : Type} {p : α → Bool} {l : List α} (h : ∀ x ∈ l, p x = true) : l.takeWhile p = l := by
  simpa using h

/-- The trigger of a law with nothing queued goes to the end of the queue, past the triggers of other instants. -/
theorem cleTrigger_appends {s : State} {l n : Nat} (takes : s.lawTakes l = true) (others : ∀ e ∈ s.cle.evals, e.law ≠ l ∧ e.trig ≠ s.now) :
    s.cleTrigger l n =
      { s with cle := { s.cle with
          laws := cset (fun _ => {}) s.cle.laws l { s.law l with trig := some n, trigAt := s.now, lost := false, inst := (s.lawClock l).inst }
          evals := s.cle.evals ++ [{ law := l, n := n, trig := s.now }] } } := by
  have none : s.cle.evals.find? (fun e => e.law == l) = none := List.find?_eq_none.2 fun e he => by simpa using (others e he).1
  have all : s.cle.evals.takeWhile (fun x => x.trig != s.now || decide (x.law < l)) = s.cle.evals :=
    takeWhile_of_forall fun e he => by simp [(others e he).2]
  unfold State.cleTrigger
  rw [takes, none]
  dsimp only [State.setLaw]
  rw [all, List.drop_length]
  rfl

theorem completes_gridTrigger {t l : Nat} {s : State} (mode : s.rdB (CLE_LAW_CLK l) CLE_LAW_CLK_MODE = true) (type : (s.lawClock l).type = 1)
    (rate : 0 < (s.advance t).lawRate l) (lag : s.rd (CLE_LAW_LAG l) CLE_LAW_LAG_NS ≤ (s.advance t).dom) (takes : s.lawTakes l = true)
    (others : ∀ e ∈ s.cle.evals, e.law ≠ l ∧ e.trig ≠ max s.now t)
    (new : (s.law l).trig ≠ some (sampleAt ((s.advance t).lawRate l) ((s.advance t).dom - s.rd (CLE_LAW_LAG l) CLE_LAW_LAG_NS))) :
    Completes (.gridTrigger t l) s fun u =>
      u.cle.evals = s.cle.evals ++ [{
        law := l, n := sampleAt ((s.advance t).lawRate l) ((s.advance t).dom - s.rd (CLE_LAW_LAG l) CLE_LAW_LAG_NS), trig := u.now }]
      ∧ (u.law l).trigAt = u.now ∧ (u.law l).lost = false ∧ u = { s with now := u.now, cle := u.cle } := by
  have op : opGridTrigger l (s.advance t) = (s.advance t).cleTrigger l
      (sampleAt ((s.advance t).lawRate l) ((s.advance t).dom - s.rd (CLE_LAW_LAG l) CLE_LAW_LAG_NS)) := by
    have heard : ((s.advance t).rdB (CLE_LAW_CLK l) CLE_LAW_CLK_MODE && (((s.advance t).lawClock l).type == 1 || ((s.advance t).lawClock l).type == 3)
        && decide ((s.advance t).rd (CLE_LAW_LAG l) CLE_LAW_LAG_NS ≤ (s.advance t).dom) && decide (0 < (s.advance t).lawRate l)) = true := by
      simpa [rate] using ⟨⟨mode, Or.inl type⟩, decide_eq_true lag⟩
    exact (if_pos heard).trans (if_neg fun same => new same.1)
  refine completes_of_eq (g := opGridTrigger l) rfl (op.trans (cleTrigger_appends (s := s.advance t) takes others)) ⟨rfl, ?at_, ?lost, rfl⟩
  case at_ => exact congrArg CleLaw.trigAt (cget_cset_same _ _ _ _)
  case lost => exact congrArg CleLaw.lost (cget_cset_same _ _ _ _)

/-! ### Evaluations -/

/-- What stands once an evaluation of `l` at index `n` has been taken and counted, its trace off. -/
structure Evaluated (l n count : Nat) (rest : List CleEval) (u : State) : Prop where
  evals : u.cle.evals = rest
  index : u.rdW (CLE_LAW_INDEX l) = BitVec.ofNat 32 n
  last : (u.law l).last = some n
  count : u.count (cntCLE_EVALS l) = count
  trace : u.trcState l = 0

namespace Evaluated

variable {l n c : Nat} {rest : List CleEval} {s u : State}

theorem of_words (h : Evaluated l n c rest s) (cle : u.cle = s.cle) (words : ∀ a, a = CLE_LAW_INDEX l ∨ a = CLE_TRC_STAT l → u.rdW a = s.rdW a)
    (count : u.count (cntCLE_EVALS l) = s.count (cntCLE_EVALS l)) : Evaluated l n c rest u where
  evals := (congrArg Cle.evals cle).trans h.evals
  index := (words _ (.inl rfl)).trans h.index
  last := (congrArg (fun x : Cle => (cget (fun _ => ({} : CleLaw)) x.laws l).last) cle).trans h.last
  count := count.trans h.count
  trace := (State.rd_congr (words _ (.inr rfl)) _).trans h.trace

theorem ite {p : Prop} [Decidable p] (h : Evaluated l n c rest s) (k : Evaluated l n c rest u) : Evaluated l n c rest (if p then s else u) := by
  split <;> assumption

theorem bump (h : Evaluated l n c rest s) {a : Nat} (k : Nat) (ha : a ≠ cntCLE_EVALS l) : Evaluated l n c rest (s.bump a k) :=
  h.of_words rfl (fun _ _ => rfl) (s.count_bump_ne k ha.symm)

variable (hl : l < 128)
include hl

theorem eventOnly (h : Evaluated l n c rest s) (k : EventOnly s u) : Evaluated l n c rest u :=
  h.of_words k.cle
    (fun a ha => k.words a (not_eventWord (by unfold CLE_LAW_INDEX CLE_TRC_STAT at ha; omega) (by unfold CLE_LAW_INDEX CLE_TRC_STAT at ha; omega)))
    (k.counts _ (by unfold cntCLE_EVALS; omega) (by unfold cntCLE_EVALS; omega))

theorem settled (h : Evaluated l n c rest s) (k : Settled s u) : Evaluated l n c rest u :=
  h.of_words (by rw [k.rest])
    (fun a ha => k.words a (.inl (by unfold OUT_TRIP_LEVEL; unfold CLE_LAW_INDEX CLE_TRC_STAT at ha; omega)))
    (k.counts _ (by unfold cntCLE_EVALS; omega))

omit hl

/-- An evaluation of a law whose trace is off leaves the trace. -/
theorem trcCommit (h : Evaluated l n c rest s) (trigger : Bool) : Evaluated l n c rest (s.trcCommit l n trigger) := by
  have noted : Evaluated l n c rest (s.setLaw l { s.law l with trcEvals := (s.law l).trcEvals + 1 }) :=
    ⟨h.evals, h.index, (congrArg CleLaw.last (cget_cset_same _ _ _ _)).trans h.last, h.count, h.trace⟩
  have op : s.trcCommit l n trigger = if trigger then
      (s.setLaw l { s.law l with trcEvals := (s.law l).trcEvals + 1 }).bump (cntCLE_TRIG_IGNORED l) 1
      else s.setLaw l { s.law l with trcEvals := (s.law l).trcEvals + 1 } := by
    unfold State.trcCommit
    dsimp only
    rw [h.trace, if_neg (by simp), if_neg (by simp), if_neg (by simp)]
  rw [op]
  exact .ite (noted.bump 1 (by unfold cntCLE_TRIG_IGNORED cntCLE_EVALS; omega)) noted

end Evaluated

theorem evaluated_counted {s : State} {l n : Nat} {x : CleLaw} (trace : s.trcState l = 0) (last : x.last = some n) (a b : Nat) :
    Evaluated l n ((s.count (cntCLE_EVALS l) + 1) % 2 ^ 64) s.cle.evals
      (((((s.setLaw l x).wrW (CLE_LAW_INDEX l) (BitVec.ofNat 32 n)).wr (CLE_LAW_LAT l) CLE_LAW_LAT_LAST_NS a).wr
        (CLE_LAW_LAT l) CLE_LAW_LAT_MAX_NS b).bump (cntCLE_EVALS l) 1) where
  evals := rfl
  index := by
    have ne : CLE_LAW_INDEX l ≠ CLE_LAW_LAT l := by unfold CLE_LAW_INDEX CLE_LAW_LAT; omega
    exact (State.rdW_wr_ne _ _ _ ne).trans ((State.rdW_wr_ne _ _ _ ne).trans (State.rdW_wrW_same _ _ _))
  last := (congrArg CleLaw.last (cget_cset_same _ _ _ _)).trans last
  count := State.count_bump_same _ _ _
  trace := by
    have ne : CLE_TRC_STAT l ≠ CLE_LAW_LAT l ∧ CLE_TRC_STAT l ≠ CLE_LAW_INDEX l := by
      unfold CLE_LAW_INDEX CLE_LAW_LAT CLE_TRC_STAT; omega
    exact (State.rd_wr_ne _ _ _ _ ne.1).trans ((State.rd_wr_ne _ _ _ _ ne.1).trans ((State.rd_congr (State.rdW_wrW_ne _ _ ne.2) _).trans trace))

/-- An evaluation that drives nothing, of a law that is not tuned and not traced. -/
theorem CleEv.commit_evaluated {e : CleEv} {trig : Nat} {rest : List CleEval} (hl : e.law < 128) (evals : e.s.cle.evals = rest)
    (trace : e.s.trcState e.law = 0) (tuning : e.tuning = false) (aborted : e.aborted = false) (pubs : e.pubs = []) (tasks : e.tasks = []) :
    Evaluated e.law e.n ((e.s.count (cntCLE_EVALS e.law) + 1) % 2 ^ 64) rest (e.commit trig) := by
  unfold CleEv.commit
  rw [tuning, aborted, pubs, tasks]
  have base : ∀ (u : State) (x : CleLaw) (a b k m : Nat), u.trcState e.law = 0 → x.last = some e.n → u.cle.evals = rest →
      Evaluated e.law e.n ((u.count (cntCLE_EVALS e.law) + 1) % 2 ^ 64) rest
        (((((((u.setLaw e.law x).wrW (CLE_LAW_INDEX e.law) (BitVec.ofNat 32 e.n)).wr (CLE_LAW_LAT e.law) CLE_LAW_LAT_LAST_NS a).wr
          (CLE_LAW_LAT e.law) CLE_LAW_LAT_MAX_NS b).bump (cntCLE_EVALS e.law) 1).bump (cntCLE_SKIPPED e.law) k).bump (cntCLE_MISS e.law) m) := by
    rintro u x a b k m trace last rfl
    exact ((evaluated_counted trace last a b).bump k (by unfold cntCLE_SKIPPED cntCLE_EVALS; omega)).bump m
      (by unfold cntCLE_MISS cntCLE_EVALS; omega)
  have sat {u : State} (h : Evaluated e.law e.n ((e.s.count (cntCLE_EVALS e.law) + 1) % 2 ^ 64) rest u) :
      Evaluated e.law e.n ((e.s.count (cntCLE_EVALS e.law) + 1) % 2 ^ 64) rest (if e.sat then u.bump (cntCLE_SAT_EVENTS e.law) 1 else u) :=
    .ite (h.bump _ (by unfold cntCLE_SAT_EVENTS cntCLE_EVALS; omega)) h
  have settle {u : State} (h : Evaluated e.law e.n ((e.s.count (cntCLE_EVALS e.law) + 1) % 2 ^ 64) rest u) (b : Bool) :
      Evaluated e.law e.n ((e.s.count (cntCLE_EVALS e.law) + 1) % 2 ^ 64) rest (u.settle.trcCommit e.law e.n b) :=
    (h.settled hl (settled_settle u)).trcCommit b
  exact .ite (.eventOnly hl (settle (sat (base e.s _ _ _ _ _ trace rfl evals)) _) (.fireSource _ _)) (settle (sat (base e.s _ _ _ _ _ trace rfl evals)) _)

/-! ### A gain block -/

/-- What the evaluation of a block that drives nothing leaves. -/
structure CleEv.Calm (b : Nat) (e f : CleEv) : Prop where
  law : f.law = e.law
  n : f.n = e.n
  tuning : f.tuning = e.tuning
  aborted : f.aborted = e.aborted
  pubs : f.pubs = e.pubs
  tasks : f.tasks = e.tasks
  evals : f.s.cle.evals = e.s.cle.evals
  words : ∀ a, a ≠ CLE_BLK_FLAGS b → f.s.rdW a = e.s.rdW a
  cnt : f.s.cnt = e.s.cnt

namespace CleEv.Calm

variable {b : Nat} {e f g : CleEv}

theorem trans (h : CleEv.Calm b e f) (k : CleEv.Calm b f g) : CleEv.Calm b e g :=
  ⟨k.law.trans h.law, k.n.trans h.n, k.tuning.trans h.tuning, k.aborted.trans h.aborted, k.pubs.trans h.pubs, k.tasks.trans h.tasks,
    k.evals.trans h.evals, fun a ha => (k.words a ha).trans (h.words a ha), k.cnt.trans h.cnt⟩

theorem mark (e : CleEv) (b bit : Nat) (on : Bool) : CleEv.Calm b e (e.mark b bit on) := by
  unfold CleEv.mark
  split
  · exact ⟨rfl, rfl, rfl, rfl, rfl, rfl, rfl, fun a ha => State.rdW_wrW_ne _ _ ha, rfl⟩
  · exact ⟨rfl, rfl, rfl, rfl, rfl, rfl, rfl, fun _ _ => rfl, rfl⟩

theorem out (e : CleEv) (b : Nat) (q : Int × Bool) : CleEv.Calm b e (e.out b q) := by
  refine .trans (f := { e with s := e.s.setCleOut b q.1 }) ?_ (mark _ b 0 q.2)
  exact ⟨rfl, rfl, rfl, rfl, rfl, rfl, rfl, fun _ _ => rfl, rfl⟩

theorem outF (e : CleEv) (b v : Nat) : CleEv.Calm b e (e.outF b v) := by
  unfold CleEv.outF
  split
  · exact out e b _
  · refine .trans ?_ (out _ b _)
    exact ⟨rfl, rfl, rfl, rfl, rfl, rfl, rfl, fun _ _ => rfl, rfl⟩

/-- A gain block. -/
theorem gain (e : CleEv) {b : Nat} (hb : b < 0x1000) (type : e.s.blkType b = 2) : CleEv.Calm b e (e.block b) := by
  let w := e.s.wrW (CLE_BLK_FLAGS b) (BitVec.ofNat 32 ((e.s.rdW (CLE_BLK_FLAGS b)).toNat % 256))
  have type2 : w.blkType b = 2 := by
    unfold State.blkType State.blkWord at type ⊢
    rw [State.rdW_wrW_ne _ _ (by unfold CLE_BLK_STRUCT CLE_BLK_FLAGS; omega)]
    exact type
  have op : e.block b = ({ e with s := w } : CleEv).outF b (fmul (({ e with s := w } : CleEv).p b 0) (w.inF b 0)) :=
    (if_neg (by rw [type2]; decide)).trans (if_pos type2)
  rw [op]
  refine .trans (f := { e with s := w }) ?_ (outF _ b _)
  exact ⟨rfl, rfl, rfl, rfl, rfl, rfl, rfl, fun a ha => State.rdW_wrW_ne _ _ ha, rfl⟩

end CleEv.Calm

theorem lawBlocks_single {s : State} {l b : Nat} (h : s.lawBlocks l = [b]) : b < 0x1000 := by
  have first : s.rd (CLE_LAW_CFG l) CLE_LAW_CFG_FIRST < 2 ^ 11 := s.rd_lt _ CLE_LAW_CFG_FIRST
  have count : s.rd (CLE_LAW_CFG l) CLE_LAW_CFG_COUNT < 2 ^ 6 := s.rd_lt _ CLE_LAW_CFG_COUNT
  obtain ⟨k, hk, rfl⟩ := List.mem_map.1 (show b ∈ s.lawBlocks l by rw [h]; simp)
  have := List.mem_range.1 hk
  omega

/-- The evaluation of `ev` begun: what stands before its first block. -/
def State.evalBegun (m : State) (ev : CleEval) : CleEv :=
  { s := m, law := ev.law, n := ev.n, r := m.lawRate ev.law, set := m.activeSet ev.law, first := (m.law ev.law).fresh,
    swap := (m.law ev.law).swap, bumpless := (m.law ev.law).bumpless, saveI := (m.law ev.law).saveI,
    tuning := m.lawState ev.law == 2 }

/-- An evaluation of one block. -/
theorem opLawEvaluation_single {s : State} {ev : CleEval} {rest : List CleEval} {b : Nat} (h : s.cle.evals = ev :: rest)
    (blocks : ({ s with cle := { s.cle with evals := rest } } : State).lawBlocks ev.law = [b]) : opLawEvaluation s =
    ((({ s with cle := { s.cle with evals := rest } } : State).evalBegun ev).block b).commit ev.trig := by
  unfold opLawEvaluation
  rw [h]
  dsimp only
  rw [blocks]
  rfl

/-- The evaluation of a gain block, committed. -/
theorem CleEv.commit_gain {e : CleEv} {b trig : Nat} (hb : b < 0x1000) (type : e.s.blkType b = 2) (hl : e.law < 128)
    (trace : e.s.trcState e.law = 0) (tuning : e.tuning = false) (aborted : e.aborted = false) (pubs : e.pubs = []) (tasks : e.tasks = []) :
    Evaluated e.law e.n ((e.s.count (cntCLE_EVALS e.law) + 1) % 2 ^ 64) e.s.cle.evals ((e.block b).commit trig) := by
  have calm := CleEv.Calm.gain e hb type
  have off : (e.block b).s.trcState (e.block b).law = 0 := by
    rw [calm.law]
    exact (State.rd_congr (calm.words _ (by unfold CLE_TRC_STAT CLE_BLK_FLAGS; omega)) _).trans trace
  have done := CleEv.commit_evaluated (trig := trig) (calm.law.symm ▸ hl) calm.evals off (calm.tuning.trans tuning)
    (calm.aborted.trans aborted) (calm.pubs.trans pubs) (calm.tasks.trans tasks)
  rw [calm.law, calm.n, State.count_congr calm.cnt] at done
  exact done

theorem completes_lawEvaluation_gain {t b : Nat} {s : State} {ev : CleEval} {rest : List CleEval} (h : s.cle.evals = ev :: rest) (hl : ev.law < 128)
    (blocks : s.lawBlocks ev.law = [b]) (type : s.blkType b = 2) (untuned : s.lawState ev.law ≠ 2) (trace : s.trcState ev.law = 0) :
    Completes (.lawEvaluation t) s fun u =>
      u.cle.evals = rest ∧ u.rdW (CLE_LAW_INDEX ev.law) = BitVec.ofNat 32 ev.n ∧ (u.law ev.law).last = some ev.n
        ∧ u.count (cntCLE_EVALS ev.law) = (s.count (cntCLE_EVALS ev.law) + 1) % 2 ^ 64 := by
  have done := CleEv.commit_gain (e := ({ s.advance t with cle := { s.cle with evals := rest } } : State).evalBegun ev) (trig := ev.trig)
    (lawBlocks_single blocks) type hl trace (beq_false_of_ne untuned) rfl rfl rfl
  exact completes_of_eq (g := opLawEvaluation) rfl (opLawEvaluation_single (s := s.advance t) h blocks)
    ⟨done.evals, done.index, done.last, done.count⟩

/-! ### The clock time-out (R266) -/

/-- The command's instant is no change of the laws' state or of what events change. -/
theorem OnlyEvents.after_cle {W C : List Nat} {s u : State} {t : Nat} (h : OnlyEvents W C { s.advance t with cle := u.cle } u) :
    OnlyEvents W C { s with cle := u.cle } { u with pending := s.pending, now := max s.now t } :=
  ⟨by rw [h.1]; rfl, h.2⟩

theorem completes_clockLost {t l : Nat} {s : State} (takes : s.lawTakes l = true) (mode : s.rdB (CLE_LAW_CLK l) CLE_LAW_CLK_MODE = false)
    (found : (s.law l).lost = false) (periods : s.rd (CLE_LAW_TIMEOUT l) CLE_LAW_TIMEOUT_PERIODS ≠ 0) (hl : l < 128)
    (late : s.rd (CLE_LAW_TIMEOUT l) CLE_LAW_TIMEOUT_PERIODS * 1000000000 ≤ (max s.now t - (s.law l).trigAt) * (s.advance t).lawRate l) :
    Completes (.clockLost t l) s fun u => u.rdB (CLE_LAW_STATE l) CLE_LAW_STATE_CLOCK_LOST = true ∧ u.lawState l = s.lawState l
      ∧ (u.law l).lost = true ∧ OnlyEvents [CLE_LAW_STATE l] [] { s with cle := u.cle } u := by
  let m := ((s.advance t).setLaw l { s.law l with lost := true }).wrB (CLE_LAW_STATE l) CLE_LAW_STATE_CLOCK_LOST true
  have heard : ((s.advance t).lawTakes l && !(s.advance t).rdB (CLE_LAW_CLK l) CLE_LAW_CLK_MODE
      && (s.advance t).rd (CLE_LAW_TIMEOUT l) CLE_LAW_TIMEOUT_PERIODS != 0 && !((s.advance t).law l).lost
      && decide ((s.advance t).rd (CLE_LAW_TIMEOUT l) CLE_LAW_TIMEOUT_PERIODS * 1000000000
        ≤ ((s.advance t).now - ((s.advance t).law l).trigAt) * (s.advance t).lawRate l)) = true := by
    simp only [Bool.and_eq_true, Bool.not_eq_true', bne_iff_ne, decide_eq_true_eq]
    exact ⟨⟨⟨⟨takes, mode⟩, periods⟩, found⟩, late⟩
  have op : opClockLost l (s.advance t) = m.postTenant 0x0602 (m.lawOwner l)
      (p2 l ++ p2 (m.rd (CLE_LAW_CLK l) CLE_LAW_CLK_HANDLE) ++ p4 (m.rdW (CLE_LAW_INDEX l)).toNat) := if_pos heard
  have event := EventOnly.postTenant m 0x0602 (p2 l ++ p2 (m.rd (CLE_LAW_CLK l) CLE_LAW_CLK_HANDLE) ++ p4 (m.rdW (CLE_LAW_INDEX l)).toNat)
    (State.lawOwner_lt m l)
  have quiet : ¬ eventWord (CLE_LAW_STATE l) := not_eventWord (by unfold CLE_LAW_STATE; omega) (by unfold CLE_LAW_STATE; omega)
  refine completes_of_eq (g := opClockLost l) rfl op ⟨?bit, ?state, ?lost, ?only⟩
  case bit => exact (event.rdB quiet _).trans (State.rdB_wrB_same _ _ _ _ (by decide) rfl)
  case state => exact (event.rd quiet _).trans (State.rd_wr_apart _ _ _ _ _ (by decide) (by decide) (by decide))
  case lost => exact congrArg CleLaw.lost ((congrArg (fun x : Cle => cget (fun _ => ({} : CleLaw)) x.laws l) event.cle).trans (cget_cset_same _ _ _ _))
  case only =>
    have words : OnlyEvents [CLE_LAW_STATE l] [] { s.advance t with cle := m.cle } m := .wrB _ _ _ (by simp)
    have all := words.trans (.of_eventOnly event)
    rw [← event.cle] at all
    exact all.after_cle

/-! ### The ends of an auto-tune (R284) -/

/-- What the end of an auto-tune leaves: no tune of the law, a completion of its TAG, the words as they were. -/
structure TuneEnded (l : Nat) (p : CleTuned → Prop) (s u : State) : Prop where
  tune : u.tuneOf l = none
  tuned : ∃ d ∈ u.cle.tuned, d.law = l ∧ p d
  words : ∀ a, ¬ eventWord a → u.rdW a = s.rdW a

theorem TuneEnded.mono {l : Nat} {p q : CleTuned → Prop} {s u : State} (h : TuneEnded l p s u) (k : ∀ d, p d → q d) : TuneEnded l q s u := by
  obtain ⟨d, mem, law, hp⟩ := h.tuned
  exact ⟨h.tune, ⟨d, mem, law, k d hp⟩, h.words⟩

/-- The completion `d` of an auto-tune told. -/
theorem tuneEnded_event (s : State) {l : Nat} {d : CleTuned} (hd : d.law = l) (phase reason ku pu : Nat) : TuneEnded l (· = d) s
    (({ s with cle := { s.cle with tunes := s.cle.tunes.filter (fun u => u.law != l), tuned := s.cle.tuned ++ [d] } } : State).tuneEvent
      l phase reason ku pu) := by
  let m : State := { s with cle := { s.cle with tunes := s.cle.tunes.filter (fun u => u.law != l), tuned := s.cle.tuned ++ [d] } }
  have event : EventOnly m (m.tuneEvent l phase reason ku pu) := EventOnly.postTenant m _ _ (State.lawOwner_lt m l)
  refine ⟨?_, ⟨d, ?_, hd, rfl⟩, fun a ha => event.words a ha⟩
  · refine (congrArg (fun x : Cle => x.tunes.find? (fun t => t.law == l)) event.cle).trans (List.find?_eq_none.2 fun x hx => ?_)
    simpa using (List.mem_filter.1 hx).2
  · exact (congrArg Cle.tuned event.cle) ▸ List.mem_append_right _ (List.mem_singleton_self d)

theorem endTune_ended {s : State} {l : Nat} {x : CleTune} (h : s.tuneOf l = some x) (status reason : Nat) :
    TuneEnded l (fun d => d.tag = x.tag ∧ d.reason = reason ∧ d.cycles = ((x.done.drop 2).take x.cycles).length
      ∧ (d.status = status ∨ status = 0 ∧ d.status = 0x0524)) s (s.endTune l status reason) := by
  unfold State.endTune
  rw [h]
  refine TuneEnded.mono (tuneEnded_event s ?law _ _ _ _) ?_
  case law => rfl
  rintro _ rfl
  refine ⟨rfl, rfl, rfl, ?_⟩
  dsimp only
  split
  next zero => exact .inr ⟨zero.1, rfl⟩
  next => exact .inl rfl

section

variable {s u : State} {l : Nat} {p : CleTuned → Prop} (h : TuneEnded l p s u) (hl : l < 128) (state : s.lawState l = 2) (grid : s.gridOn = true)
include h hl state

theorem TuneEnded.lawState : u.lawState l = 2 :=
  (State.rd_congr (h.words _ (not_eventWord (by unfold CLE_LAW_STATE; omega) (by unfold CLE_LAW_STATE; omega))) _).trans state

include grid

/-- The end of a tune of a tuning law stages its return to service. -/
theorem TuneEnded.untunes : (u.stageLaw l 6 false false).tuneOf l = none
    ∧ (u.stageLaw l 6 false false).rdB (CLE_LAW_STATE l) CLE_LAW_STATE_UNTUNE_PENDING = true ∧ (u.stageLaw l 6 false false).lawState l = 2
    ∧ ∃ d ∈ (u.stageLaw l 6 false false).cle.tuned, d.law = l ∧ p d := by
  have gridU : u.gridOn = true := (State.rdB_congr (h.words _ (not_eventWord (by decide) (by decide))) _).trans grid
  rw [stageLaw_waits gridU]
  exact ⟨h.tune, (lawPending_untune _ l).trans (withStage_any _ _ _ _), (lawPending_low _ l (by decide)).trans (h.lawState hl state), h.tuned⟩

end

theorem opAutotuneComplete_ended {s : State} {l : Nat} {x : CleTune} (h : s.tuneOf l = some x) (done : 2 + x.cycles ≤ x.done.length) :
    opAutotuneComplete l s = if (s.endTune l 0 0).lawState l = 2 then (s.endTune l 0 0).stageLaw l 6 false false
      else (s.endTune l 0 0).dropStages l (fun op => op == 5) := by
  unfold opAutotuneComplete
  rw [h]
  exact if_neg (by omega)

theorem abortTune_ended {s : State} {l : Nat} {x : CleTune} (h : s.tuneOf l = some x) (reason : Nat) :
    s.abortTune l reason = if (s.endTune l 0x0523 reason).lawState l = 2 then (s.endTune l 0x0523 reason).stageLaw l 6 false false
      else (s.endTune l 0x0523 reason).dropStages l (fun op => op == 5) := if_neg (by rw [h]; simp)

theorem opAutotuneTimeout_late {s : State} {l : Nat} {x : CleTune} (h : s.tuneOf l = some x) (late : x.start + x.maxTime * 1000000 ≤ s.now) :
    opAutotuneTimeout l s = s.abortTune l 2 := by
  unfold opAutotuneTimeout
  rw [h]
  exact if_pos late

/-- Settles O26. -/
theorem lawEvents : Obligations.LawEvents := by
  refine ⟨?gridOff, ?grid, ?evalNone, ?eval, ?evalGain, ?clockOff, ?clockLost, ?setpoint, ?setpointNan, ?tuneGoes, ?tuneEnds, ?tuneEnded,
    ?timeGoes, ?timeEnds, ?timeEnded⟩
  case gridOff =>
    intro t l s mode
    refine completes_of_idle (g := opGridTrigger l) rfl (if_neg ?_)
    rw [show (s.advance t).rdB (CLE_LAW_CLK l) CLE_LAW_CLK_MODE = false from mode]
    simp
  case grid =>
    intro t l s mode type rate lag takes others new
    exact completes_gridTrigger mode type rate lag takes others new
  case evalNone =>
    intro t s none
    refine completes_of_idle (g := opLawEvaluation) rfl ?_
    unfold opLawEvaluation
    rw [show (s.advance t).cle.evals = [] from none]
  case eval =>
    intro t ev rest s h
    refine exec_congr (f := opLawEvaluation) rfl ?_
    unfold opLawEvaluation
    rw [show (s.advance t).cle.evals = ev :: rest from h]
  case evalGain =>
    intro t ev rest b s h hl blocks type untuned trace
    exact completes_lawEvaluation_gain h hl blocks type untuned trace
  case clockOff =>
    intro t l s periods
    refine completes_of_idle (g := opClockLost l) rfl (if_neg ?_)
    rw [show (s.advance t).rd (CLE_LAW_TIMEOUT l) CLE_LAW_TIMEOUT_PERIODS = 0 from periods]
    simp
  case clockLost =>
    intro t l s takes mode found periods _ late
    have hl : l < 128 := by
      unfold State.lawTakes at takes
      simp only [Bool.and_eq_true, decide_eq_true_eq] at takes
      exact takes.1.1.2
    exact completes_clockLost takes mode found periods hl late
  case setpoint =>
    intro t core n j v s present core_ hj nan inf
    have op : opTwSpWrite core j v (s.advance t) =
        { s.advance t with cle := { s.cle with sp := cset (fun _ => 0) s.cle.sp (n * 1024 + j) v } } := by
      unfold opTwSpWrite
      rw [show (s.advance t).coreTenant core = some n from core_]
      exact if_neg (by rw [show (s.advance t).clePresent = true from present, nan, inf]; simpa using hj)
    exact completes_of_eq (g := opTwSpWrite core j v) rfl op ⟨cget_cset_same _ _ _ _, rfl⟩
  case setpointNan =>
    intro t core j v s nan
    refine completes_of_idle (g := opTwSpWrite core j v) rfl ?_
    unfold opTwSpWrite
    split
    · rfl
    · exact if_pos (.inr (.inr (.inl nan)))
  case tuneGoes =>
    intro t l x s h goes
    refine completes_of_idle (g := opAutotuneComplete l) rfl ?_
    unfold opAutotuneComplete
    rw [show (s.advance t).tuneOf l = some x from h]
    exact if_pos goes
  case tuneEnds =>
    intro t l x s h done
    exact exec_congr (f := opAutotuneComplete l) rfl (opAutotuneComplete_ended (s := s.advance t) h done)
  case tuneEnded =>
    intro t l x s h done hl state grid
    have ended := endTune_ended (s := s.advance t) h 0 0
    obtain ⟨tune, bit, law, d, mem, hd, tag, -, cycles, status⟩ := ended.untunes hl state grid
    refine completes_of_eq (g := opAutotuneComplete l) rfl ((opAutotuneComplete_ended (s := s.advance t) h done.ge).trans
      (if_pos (ended.lawState hl state))) ⟨tune, bit, law, d, mem, hd, tag, ?_, ?_⟩
    · rw [cycles]
      simp [done]
    · exact status.imp_right And.right
  case timeGoes =>
    intro t l x s h early steady
    refine completes_of_idle (g := opAutotuneTimeout l) rfl ?_
    unfold opAutotuneTimeout
    rw [show (s.advance t).tuneOf l = some x from h]
    exact (if_neg (Nat.not_le.2 early)).trans (if_neg fun late => absurd late.2 (Nat.not_le.2 steady))
  case timeEnds =>
    intro t l x s h late
    exact exec_congr (f := opAutotuneTimeout l) rfl (opAutotuneTimeout_late (s := s.advance t) h late)
  case timeEnded =>
    intro t l x s h late hl state grid
    have ended := endTune_ended (s := s.advance t) h 0x0523 2
    obtain ⟨tune, bit, law, d, mem, hd, tag, reason, -, status⟩ := ended.untunes hl state grid
    refine completes_of_eq (g := opAutotuneTimeout l) rfl ((opAutotuneTimeout_late (s := s.advance t) h late).trans
      ((abortTune_ended (s := s.advance t) h 2).trans (if_pos (ended.lawState hl state)))) ⟨tune, bit, law, d, mem, hd, tag, ?_, reason⟩
    exact status.resolve_right fun zero => absurd zero.1 (by decide)

end Sys2Proof.Machine
end

section
/-! The commands of a program (R298 to R301, R310, R316): RESULT and what each leaves of the program's words. -/

namespace Sys2Proof.Machine

/-! ### The command word -/

/-- A command that is heard does its body and answers its RESULT. -/
theorem prgCmd_ready {s : State} {p : Nat} (h : PrgReady s p) (body : State → Nat × State) :
    s.prgCmd p body = (body s).2.prgResult p (body s).1 :=
  if_neg (by rintro (far | busy)
             · exact absurd h.1 (Nat.not_lt.2 far)
             · rw [h.2] at busy; exact absurd busy (by decide))

/-- The same for a body whose outcome is known. -/
theorem prgCmd_of {s u : State} {p r : Nat} (h : PrgReady s p) {body : State → Nat × State} (hb : body s = (r, u)) :
    s.prgCmd p body = u.prgResult p r := by
  rw [prgCmd_ready h, hb]

section

variable (s : State) (p r : Nat)

theorem prgResult_result : (s.prgResult p r).rd (LGE_PRG_CMD p) LGE_PRG_CMD_RESULT = r % 8 := State.rd_wr_same _ _ _ _ (by decide)

theorem prgResult_low {f : Fld} (hf : f.lo + f.width ≤ 28) : (s.prgResult p r).rd (LGE_PRG_CMD p) f = s.rd (LGE_PRG_CMD p) f :=
  State.rd_wr_apart _ _ _ _ _ (by decide) (by omega) (.inr hf)

theorem prgResult_bit {f : Fld} (hf : f.lo + f.width ≤ 28 ∨ 31 ≤ f.lo ∧ f.lo + f.width ≤ 32) :
    (s.prgResult p r).rdB (LGE_PRG_CMD p) f = s.rdB (LGE_PRG_CMD p) f :=
  State.rdB_wr_apart _ _ _ _ _ (by decide) (by omega) (hf.elim .inr fun h => .inl h.1)

theorem onlyWords_prgResult : OnlyWords [LGE_PRG_CMD p] s (s.prgResult p r) := .wr s _ _ (by simp)

theorem prgStateWord_ne : LGE_PRG_STATE p ≠ LGE_PRG_CMD r := by unfold LGE_PRG_STATE LGE_PRG_CMD; omega

theorem prgResult_stateWord : (s.prgResult p r).rdW (LGE_PRG_STATE p) = s.rdW (LGE_PRG_STATE p) :=
  (onlyWords_prgResult s p r).2 _ (by simpa using prgStateWord_ne p p)

end

/-- A command that changes its own word alone and answers RESULT. -/
theorem completes_of_prgResult {i : Instr} {s m : State} {t p r : Nat} {g : State → State} (hi : exec i s = .next (s.after t g))
    (only : OnlyWords [LGE_PRG_CMD p] (s.advance t) m) (hg : g (s.advance t) = m.prgResult p r) : Completes i s fun u =>
      u.rd (LGE_PRG_CMD p) LGE_PRG_CMD_RESULT = r % 8 ∧ u.prgState p = s.prgState p
        ∧ (∀ f : Fld, f.lo + f.width ≤ 28 → u.rd (LGE_PRG_CMD p) f = m.rd (LGE_PRG_CMD p) f) ∧ OnlyWords [LGE_PRG_CMD p] s u := by
  have all := only.trans (onlyWords_prgResult m p r)
  exact completes_of_eq hi hg ⟨prgResult_result m p r, State.rd_congr (all.2 _ (by simpa using prgStateWord_ne p p)) _,
    fun f hf => prgResult_low m p r hf, by rw [all.1]; rfl, all.2⟩

/-- A command that answers RESULT alone. -/
theorem completes_of_prgRefused {i : Instr} {s : State} {t p r : Nat} {g : State → State} (hi : exec i s = .next (s.after t g))
    (hg : g (s.advance t) = (s.advance t).prgResult p r) : Completes i s fun u =>
      u.rd (LGE_PRG_CMD p) LGE_PRG_CMD_RESULT = r % 8 ∧ u.prgState p = s.prgState p ∧ OnlyWords [LGE_PRG_CMD p] s u := by
  obtain ⟨u, hu, result, state, -, only⟩ := completes_of_prgResult hi (.refl _) hg
  exact ⟨u, hu, result, state, only⟩

/-! ### Bodies of the commands -/

theorem progStart_refused {s : State} {p : Nat} (h : s.prgState p ≠ 0) (cold : Bool) : s.progStart p cold = (1, s) :=
  if_pos (by simp [h])

theorem dropExchange_none {s : State} {p : Nat} (h : (s.prog p).exch = none) : s.dropExchange p = s := by
  unfold State.dropExchange
  rw [h]

theorem resumeScan_none {s : State} {p : Nat} (h : (s.prog p).halt = none) (us : Nat) (breaks : Bool) : s.resumeScan p us breaks = s := by
  unfold State.resumeScan
  rw [h]

section

variable {s : State} {p : Nat} (ready : PrgReady s p)
include ready

theorem opLgeStart_eq (cold : Bool) : opLgeStart p cold s =
    (((s.wrB (LGE_PRG_CMD p) LGE_PRG_CMD_COLD cold).progStart p cold).2).prgResult p
      ((s.wrB (LGE_PRG_CMD p) LGE_PRG_CMD_COLD cold).progStart p cold).1 := prgCmd_ready ready _

theorem opLgeStop_live (live : s.prgState p = 1 ∨ s.prgState p = 2) : opLgeStop p s = (s.progStop p 0).prgResult p 0 :=
  prgCmd_of ready (if_pos live)

theorem opLgeStop_stopped (stopped : s.prgState p = 0) : opLgeStop p s = s.prgResult p 1 :=
  prgCmd_of ready (if_neg (by omega))

theorem opLgeHold_unable (run : s.prgState p = 1) (unable : s.rdB (LGE_PRG_CFG p) LGE_PRG_CFG_HOLD_EN = false) :
    opLgeHold p s = s.prgResult p 5 :=
  prgCmd_of ready ((if_neg (not_not.2 run)).trans (if_pos (by rw [unable]; rfl)))

section

variable (run : s.prgState p = 1) (able : s.rdB (LGE_PRG_CFG p) LGE_PRG_CFG_HOLD_EN = true) (free : (s.prog p).exch = none)
include run able free

theorem opLgeHold_open (scan : s.scanOpen p = true) : opLgeHold p s = (s.setProg p { s.prog p with holdNext := true }).prgResult p 0 := by
  refine prgCmd_of ready ((if_neg (not_not.2 run)).trans ((if_neg (by rw [able]; simp)).trans ?_))
  rw [dropExchange_none free]
  exact if_pos scan

theorem opLgeHold_closed (scan : s.scanOpen p = false) : opLgeHold p s = ((s.setPrgState p 2 7).settle).prgResult p 0 := by
  refine prgCmd_of ready ((if_neg (not_not.2 run)).trans ((if_neg (by rw [able]; simp)).trans ?_))
  rw [dropExchange_none free]
  exact if_neg (by rw [scan]; simp)

end

theorem opLgeRun_refused (us : Nat) (h : s.prgState p ≠ 2) : opLgeRun p us s = s.prgResult p 1 := prgCmd_of ready (if_pos h)

theorem opLgeRun_held (us : Nat) (held : s.prgState p = 2) (whole : (s.prog p).halt = none) : opLgeRun p us s =
    (((s.wrB (LGE_PRG_STATE p) LGE_PRG_STATE_STEP_PENDING false).setPrgState p 1 9).settle).prgResult p 0 := by
  refine prgCmd_of ready ((if_neg (not_not.2 held)).trans ?_)
  rw [resumeScan_none whole]
  exact if_pos held

theorem opLgeStep_open (us : Nat) (held : s.prgState p = 2) (scan : s.scanOpen p = true) : opLgeStep p us s = s.prgResult p 4 :=
  prgCmd_of ready ((if_neg (not_not.2 held)).trans (if_pos scan))

theorem opLgeStep_pending (us : Nat) (held : s.prgState p = 2) (scan : s.scanOpen p = false) (whole : (s.prog p).halt = none) :
    opLgeStep p us s = (s.wrB (LGE_PRG_STATE p) LGE_PRG_STATE_STEP_PENDING true).prgResult p 0 :=
  prgCmd_of ready ((if_neg (not_not.2 held)).trans ((if_neg (by rw [scan]; simp)).trans (if_neg (by rw [whole]; simp))))

/-- The machine with the verification of `p` against itself under way. -/
theorem opLgeVerify_self (stopped : s.prgState p = 0) (valid : s.rdB (LGE_PRG_CFG p) LGE_PRG_CFG_VALID = true) : opLgeVerify p p s =
    (({ s.wr (LGE_PRG_CMD p) LGE_PRG_CMD_TARGET p with
        lge := { s.lge with verify := s.lge.verify.filter (fun v => v.1 != p) ++ [(p, p)] } } : State).wrB
      (LGE_PRG_CMD p) LGE_PRG_CMD_BUSY true).prgResult p 0 := by
  have self : p % 64 = p := Nat.mod_eq_of_lt ready.1
  refine prgCmd_of ready ?_
  dsimp only
  rw [self]
  refine if_neg ?_
  have state : (s.wr (LGE_PRG_CMD p) LGE_PRG_CMD_TARGET p).prgState p = 0 := (State.rd_wr_ne _ _ _ _ (prgStateWord_ne p p)).trans stopped
  have cfg : (s.wr (LGE_PRG_CMD p) LGE_PRG_CMD_TARGET p).rdB (LGE_PRG_CFG p) LGE_PRG_CFG_VALID = true :=
    (State.rdB_wr_ne _ _ _ _ (by unfold LGE_PRG_CFG LGE_PRG_CMD; omega)).trans valid
  simp [state, cfg]

end

/-- Settles O27. -/
theorem programCommands : Obligations.ProgramCommands := by
  refine ⟨?startRefused, ?start, ?stop, ?stopRefused, ?holdUnable, ?holdOpen, ?holdClosed, ?runRefused, ?run, ?step, ?stepRefused, ?verify⟩
  case startRefused =>
    intro t p cold s ready live
    have ready' : PrgReady (s.advance t) p := ready
    let m := (s.advance t).wrB (LGE_PRG_CMD p) LGE_PRG_CMD_COLD cold
    have refused : m.progStart p cold = (1, m) := progStart_refused (by
      rw [show m.prgState p = s.prgState p from State.rd_congr (State.rdW_wrB_ne _ _ _ (prgStateWord_ne p p)) _]; exact live) cold
    have op : opLgeStart p cold (s.advance t) = m.prgResult p 1 := prgCmd_of ready' refused
    have only : OnlyWords [LGE_PRG_CMD p] (s.advance t) m := .wrB _ _ _ (by simp)
    have all := only.trans (onlyWords_prgResult m p 1)
    refine completes_of_eq (g := opLgeStart p cold) rfl op ⟨prgResult_result m p 1,
      State.rd_congr (all.2 _ (by simpa using prgStateWord_ne p p)) _, ?_, rfl, all.2⟩
    exact (prgResult_bit m p 1 (.inl (by decide))).trans (State.rdB_wrB_same _ _ _ _ (by decide) rfl)
  case start =>
    intro t p cold s ready
    exact exec_congr (f := opLgeStart p cold) rfl (opLgeStart_eq (s := s.advance t) ready cold)
  case stop =>
    intro t p s ready live
    exact exec_congr (f := opLgeStop p) rfl (opLgeStop_live (s := s.advance t) ready live)
  case stopRefused =>
    intro t p s ready stopped
    obtain ⟨u, hu, result, -, only⟩ := completes_of_prgRefused (i := .lgeStop t p) (g := opLgeStop p) rfl
      (opLgeStop_stopped (s := s.advance t) ready stopped)
    exact ⟨u, hu, result, only⟩
  case holdUnable =>
    intro t p s ready run unable
    obtain ⟨u, hu, result, state, only⟩ := completes_of_prgRefused (i := .lgeHold t p) (g := opLgeHold p) rfl
      (opLgeHold_unable (s := s.advance t) ready run unable)
    exact ⟨u, hu, result, state.trans run, only⟩
  case holdOpen =>
    intro t p s ready run able free scan
    let m := (s.advance t).setProg p { s.prog p with holdNext := true }
    refine completes_of_eq (g := opLgeHold p) rfl (opLgeHold_open (s := s.advance t) ready run able free scan)
      ⟨prgResult_result m p 0, ?state, ?hold, rfl, (onlyWords_prgResult m p 0).2⟩
    case state => exact (State.rd_congr (prgResult_stateWord m p 0) _).trans run
    case hold => exact congrArg LgeProg.holdNext (cget_cset_same _ _ _ _)
  case holdClosed =>
    intro t p s ready run able free scan
    exact exec_congr (f := opLgeHold p) rfl (opLgeHold_closed (s := s.advance t) ready run able free scan)
  case runRefused =>
    intro t p us s ready held
    obtain ⟨u, hu, result, -, only⟩ := completes_of_prgRefused (i := .lgeRun t p us) (g := opLgeRun p us) rfl
      (opLgeRun_refused (s := s.advance t) ready us held)
    exact ⟨u, hu, result, only⟩
  case run =>
    intro t p us s ready held whole
    exact exec_congr (f := opLgeRun p us) rfl (opLgeRun_held (s := s.advance t) ready us held whole)
  case step =>
    intro t p us s ready held scan whole
    let m := (s.advance t).wrB (LGE_PRG_STATE p) LGE_PRG_STATE_STEP_PENDING true
    have only : OnlyWords [LGE_PRG_STATE p, LGE_PRG_CMD p] (s.advance t) (m.prgResult p 0) :=
      (OnlyWords.wrB _ _ _ (by simp)).trans ((onlyWords_prgResult m p 0).mono (by simp))
    refine completes_of_eq (g := opLgeStep p us) rfl (opLgeStep_pending (s := s.advance t) ready us held scan whole)
      ⟨?bit, ?state, prgResult_result m p 0, rfl, only.2⟩
    case bit => exact (State.rdB_congr (prgResult_stateWord m p 0) _).trans (State.rdB_wrB_same _ _ _ _ (by decide) rfl)
    case state =>
      refine (State.rd_congr (prgResult_stateWord m p 0) _).trans ?_
      exact (State.rd_wr_apart _ _ _ _ _ (by decide) (by decide) (by decide)).trans held
  case stepRefused =>
    intro t p us s ready held scan
    obtain ⟨u, hu, result, -, only⟩ := completes_of_prgRefused (i := .lgeStep t p us) (g := opLgeStep p us) rfl
      (opLgeStep_open (s := s.advance t) ready us held scan)
    exact ⟨u, hu, result, only⟩
  case verify =>
    intro t p s ready stopped valid
    let m : State := { (s.advance t).wr (LGE_PRG_CMD p) LGE_PRG_CMD_TARGET p with
      lge := { s.lge with verify := s.lge.verify.filter (fun v => v.1 != p) ++ [(p, p)] } }
    have only : OnlyWords [LGE_PRG_CMD p] (s.advance t) (((s.advance t).wr (LGE_PRG_CMD p) LGE_PRG_CMD_TARGET p).wrB
        (LGE_PRG_CMD p) LGE_PRG_CMD_BUSY true |>.prgResult p 0) :=
      ((OnlyWords.wr _ _ _ (by simp)).trans (.wrB _ _ _ (by simp))).trans (onlyWords_prgResult _ p 0)
    refine completes_of_eq (g := opLgeVerify p p) rfl (opLgeVerify_self (s := s.advance t) ready stopped valid)
      ⟨?busy, ?target, ?mem, rfl, fun a ha => only.2 a ha⟩
    case busy => exact (prgResult_bit _ p 0 (.inr (by decide))).trans (State.rdB_wrB_same m _ _ _ (by decide) rfl)
    case target =>
      refine (prgResult_low _ p 0 (by decide)).trans ((State.rd_wr_apart m _ _ _ _ (by decide) (by decide) (by decide)).trans ?_)
      exact (State.rd_wr_same (s.advance t) _ _ _ (by decide)).trans (Nat.mod_eq_of_lt ready.1)
    case mem => exact List.mem_append_right _ (List.mem_singleton_self _)

end Sys2Proof.Machine
end

section
/-! Verification, exchanges, forces, scans and the watchdog of programs (R293 to R302, R310 to R316). -/

namespace Sys2Proof.Machine

/-! ### Verification -/

section

variable {s : State} {p q : Nat} (h : s.lge.verify = [(p, q)])
include h

/-- The machine as the verification's verdict is taken. -/
theorem opLgeVerifyComplete_good (good : (({ s with lge := { s.lge with verify := [] } } : State).wrB (LGE_PRG_CMD p) LGE_PRG_CMD_BUSY false).verify p = none) :
    opLgeVerifyComplete p s =
      (((((({ s with lge := { s.lge with verify := [] } } : State).wrB (LGE_PRG_CMD p) LGE_PRG_CMD_BUSY false).setProg p
        { s.prog p with against := q }).wrB (LGE_PRG_STATE p) LGE_PRG_STATE_VERIFIED true).prgResult p 0).stopSafe p) := by
  have none_ : ([(p, q)] : List (Nat × Nat)).filter (fun v => v.1 != p) = [] := by simp
  have found : ([(p, q)] : List (Nat × Nat)).find? (fun v => v.1 == p) = some (p, q) := by simp
  unfold opLgeVerifyComplete
  rw [h, found, none_]
  dsimp only
  rw [good]
  rfl

theorem opLgeVerifyComplete_bad {r k : Nat}
    (bad : (({ s with lge := { s.lge with verify := [] } } : State).wrB (LGE_PRG_CMD p) LGE_PRG_CMD_BUSY false).verify p = some (r, k)) :
    opLgeVerifyComplete p s =
      ((((({ s with lge := { s.lge with verify := [] } } : State).wrB (LGE_PRG_CMD p) LGE_PRG_CMD_BUSY false).wrB (LGE_PRG_STATE p)
        LGE_PRG_STATE_VERIFIED false).prgResult p 2).wr (LGE_PRG_DETAIL p) LGE_PRG_DETAIL_REASON r).wr (LGE_PRG_DETAIL p)
        LGE_PRG_DETAIL_INDEX k := by
  have none_ : ([(p, q)] : List (Nat × Nat)).filter (fun v => v.1 != p) = [] := by simp
  have found : ([(p, q)] : List (Nat × Nat)).find? (fun v => v.1 == p) = some (p, q) := by simp
  unfold opLgeVerifyComplete
  rw [h, found, none_]
  dsimp only
  rw [bad]

end

theorem stopSafe_invalid {s : State} {p : Nat} (h : s.rdB (LGE_PRG_CFG p) LGE_PRG_CFG_VALID = false) : s.stopSafe p = s := by
  unfold State.stopSafe
  exact if_neg (by rw [h]; simp)

/-! ### Exchanges -/

theorem stageExchange_held {s : State} {p q : Nat} (h : s.prgState p = 2) : s.stageExchange p q = (1, s) := by
  unfold State.stageExchange
  exact if_pos (by rw [h]; simp)

theorem stageExchange_staged {s : State} {p q : Nat} (run : s.prgState p = 1) (ne : p ≠ q) (grid : s.gridOn = true)
    (valid : s.rdB (LGE_PRG_CFG p) LGE_PRG_CFG_VALID = true) (stopped : s.prgState q = 0)
    (verified : s.rdB (LGE_PRG_STATE q) LGE_PRG_STATE_VERIFIED = true) (against : (s.prog q).against = p)
    (free : ∀ c ∈ s.lge.progs, c.2.exch = none) (apart : s.targetsTaken q p = false) :
    s.stageExchange p q = (0, (s.setProg p { s.prog p with exch := some { val := q, eff := s.stageAt } }).wrB (LGE_PRG_STATE p)
      LGE_PRG_STATE_EXCH_PENDING true) := by
  unfold State.stageExchange
  dsimp only
  rw [run, valid, stopped, verified, against, grid, apart]
  refine (if_neg ?_).trans (((if_neg (by simp)).trans (if_neg (by simp))).trans rfl)
  have staged : ∀ c ∈ s.lge.progs, ¬ (match c.2.exch with | some x => x.val == q && c.1 != p | none => false) = true := fun c hc => by
    rw [free c hc]
    simp
  rw [decide_eq_true ⟨.inl rfl, ne, rfl, rfl, rfl, rfl, Bool.not_eq_true' _ ▸ List.any_eq_false.2 staged⟩]
  decide

section

variable {s : State} {p : Nat} (ready : PrgReady s p)
include ready

theorem opLgeExchange_eq {q : Nat} (hq : q < 64) : opLgeExchange p q s =
    (((s.wr (LGE_PRG_CMD p) LGE_PRG_CMD_TARGET q).stageExchange p q).2).prgResult p
      ((s.wr (LGE_PRG_CMD p) LGE_PRG_CMD_TARGET q).stageExchange p q).1 := by
  have e : opLgeExchange p q s = _ := prgCmd_ready ready _
  rw [Nat.mod_eq_of_lt hq] at e
  exact e

theorem opLgeCancelExchange_none (none : (s.prog p).exch = none) : opLgeCancelExchange p s = s.prgResult p 0 := by
  refine prgCmd_of ready ?_
  rw [none]

theorem opLgeCancelExchange_off {x : Staged Nat} (staged : (s.prog p).exch = some x) (off : s.gridOn = false) :
    opLgeCancelExchange p s = (s.dropExchange p).prgResult p 0 := by
  refine prgCmd_of ready ?_
  rw [staged]
  exact if_neg (by rw [off]; simp)

end

/-! ### The execute phase -/

namespace LgeRun

variable (r : LgeRun)

theorem setRlo_p (b : Bool) : (r.setRlo b).p = r.p := rfl
theorem setAcc_p (v : Nat) : (r.setAcc v).p = r.p := rfl
theorem next_p : r.next.p = r.p := rfl
theorem jump_p (w : Nat) : (r.jump w).p = r.p := rfl
theorem write_p (i v : Nat) : (r.write i v).p = r.p := rfl
theorem setBitOp_p (w : Nat) (b : Bool) : (r.setBitOp w b).p = r.p := rfl

theorem arith_p (v : Nat) (flag : Bool) : (r.arith v flag).p = r.p := by
  unfold LgeRun.arith
  split <;> rfl

theorem inst_p (op w : Nat) : (r.inst op w).p = r.p := by
  unfold LgeRun.inst
  dsimp only
  simp only [apply_ite LgeRun.p, setRlo_p, setAcc_p, ite_self]

/-- An instruction is one of its program. -/
theorem exec_p : r.exec.1.p = r.p := by
  unfold LgeRun.exec
  dsimp only
  split
  case h_8 =>
    split_ifs
    all_goals first | rfl | exact arith_p _ _ _ | (split <;> rfl)
  all_goals simp only [apply_ite Prod.fst, apply_ite LgeRun.p, next_p, setRlo_p, setBitOp_p, setAcc_p, jump_p, write_p, arith_p, inst_p, ite_self]

end LgeRun

/-- An execute phase is one of its program. -/
theorem lgeRun_p (fuel wait : Nat) (breaks skip : Bool) (r : LgeRun) : (lgeRun fuel wait breaks skip r).1.p = r.p := by
  induction fuel generalizing wait skip r with
  | zero => rfl
  | succ fuel ih =>
    cases wait with
    | succ wait => rw [lgeRun]; exact ih wait skip r
    | zero =>
      rw [lgeRun]
      split
      · rfl
      · have same := r.exec_p
        split
        next heq => rw [heq] at same; exact (ih _ _ _).trans same
        next heq => rw [heq] at same; exact same
        next heq => rw [heq] at same; exact same

theorem scanRun_p (s : State) (p : Nat) : (s.scanRun p).1.p = p := by
  unfold State.scanRun
  rw [lgeRun_p]

/-! ### The end of a scan -/

/-- What stands of a program whose scan has ended. -/
structure ScanEnded (p : Nat) (u : State) : Prop where
  halt : (u.prog p).halt = none
  unit : (u.prog p).unit = none
  hold : (u.prog p).holdNext = false
  halted : u.rdB (LGE_PRG_STATE p) LGE_PRG_STATE_HALTED = false

theorem ScanEnded.of_kept {p : Nat} {s u : State} (h : ScanEnded p s) (lge : u.lge = s.lge)
    (halted : u.rdB (LGE_PRG_STATE p) LGE_PRG_STATE_HALTED = s.rdB (LGE_PRG_STATE p) LGE_PRG_STATE_HALTED) : ScanEnded p u := by
  have prog : u.prog p = s.prog p := congrArg (fun x : Lge => cget (fun _ => ({} : LgeProg)) x.progs p) lge
  exact ⟨prog ▸ h.halt, prog ▸ h.unit, prog ▸ h.hold, halted.trans h.halted⟩

/-- What a change of a program's state leaves: all but the STATE field. -/
theorem setPrgState_kept (s : State) {p : Nat} (hp : p < 64) (new cause : Nat) : (s.setPrgState p new cause).lge = s.lge
    ∧ (s.setPrgState p new cause).prgState p = new % 8
    ∧ ∀ f : Fld, 3 ≤ f.lo → f.lo + f.width ≤ 32 → (s.setPrgState p new cause).rd (LGE_PRG_STATE p) f = s.rd (LGE_PRG_STATE p) f := by
  let m := s.wr (LGE_PRG_STATE p) LGE_PRG_STATE_STATE new
  have event : EventOnly m (s.setPrgState p new cause) := EventOnly.postTenant m _ _ (State.prgOwner_lt s p)
  have word : (s.setPrgState p new cause).rdW (LGE_PRG_STATE p) = m.rdW (LGE_PRG_STATE p) :=
    event.words _ (not_eventWord (by unfold LGE_PRG_STATE; omega) (by unfold LGE_PRG_STATE; omega))
  refine ⟨event.lge, (State.rd_congr word _).trans (State.rd_wr_same _ _ _ _ (by decide)), fun f lo hi => ?_⟩
  exact (State.rd_congr word f).trans (State.rd_wr_apart _ _ _ _ _ (by decide) hi (.inl lo))

theorem settle_prgState (s : State) {p : Nat} (hp : p < 64) : s.settle.lge = s.lge ∧ s.settle.rdW (LGE_PRG_STATE p) = s.rdW (LGE_PRG_STATE p) := by
  have h := settled_settle s
  exact ⟨by rw [h.rest], h.words _ (.inl (by unfold OUT_TRIP_LEVEL LGE_PRG_STATE; omega))⟩

/-- The machine once a scan of `p` that has written its outputs is over, before a hold that waited for it. -/
def State.scanFinished (s : State) (p : Nat) : State :=
  ((s.setProg p { s.prog p with halt := none, unit := none, holdNext := false }).wrB (LGE_PRG_STATE p)
    LGE_PRG_STATE_STEP_PENDING false).wrB (LGE_PRG_STATE p) LGE_PRG_STATE_HALTED false

theorem scanEnded_finish (s : State) {p : Nat} (hp : p < 64) : ScanEnded p
    (if (s.prog p).holdNext ∧ (s.scanFinished p).prgState p = 1 then ((s.scanFinished p).setPrgState p 2 7).settle
      else s.scanFinished p) := by
  let u := s.scanFinished p
  have prog : u.prog p = { s.prog p with halt := none, unit := none, holdNext := false } := cget_cset_same _ _ _ _
  have ended : ScanEnded p u := ⟨congrArg LgeProg.halt prog, congrArg LgeProg.unit prog, congrArg LgeProg.holdNext prog,
    State.rdB_wrB_same _ _ _ _ (by decide) rfl⟩
  split
  · obtain ⟨lge, -, low⟩ := setPrgState_kept u hp 2 7
    obtain ⟨lge', word⟩ := settle_prgState (u.setPrgState p 2 7) hp
    refine ended.of_kept (lge'.trans lge) ((State.rdB_congr word _).trans ?_)
    unfold State.rdB
    rw [low _ (by decide) (by decide)]
  · exact ended

theorem afterPhase_done {s : State} {r : LgeRun} {us : Nat} (time : us ≤ s.prgWd r.p) (hp : r.p < 64) : ScanEnded r.p (s.afterPhase r .done us) := by
  unfold State.afterPhase
  rw [if_neg (by
    rintro (late | out)
    · exact absurd time (Nat.not_le.2 late)
    · exact absurd out (by decide))]
  exact scanEnded_finish _ hp

/-! ### The scan taken -/

theorem opScan_none {s : State} (us : Nat) (h : s.freeUnit = none ∨ s.rdB LGE_CTRL LGE_CTRL_EN = false ∨ s.gridOn = false) :
    opScan us s = s := if_pos (by simpa using h)

theorem nextScan_nil {s : State} (h : s.lge.queue = []) : s.nextScan = none := by
  unfold State.nextScan
  rw [h]
  rfl

theorem opScan_noScan {s : State} (us : Nat) (h : s.lge.queue = []) : opScan us s = s := by
  unfold opScan
  rw [nextScan_nil h, ite_self]

theorem opScan_eq {s : State} {q : LgeScan} (us : Nat) (en : s.rdB LGE_CTRL LGE_CTRL_EN = true) (grid : s.gridOn = true)
    (free : s.freeUnit.isSome = true) (next : s.nextScan = some q) :
    opScan us s = (s.scanRun q.prog).1.s.afterPhase (s.scanRun q.prog).1 (s.scanRun q.prog).2 us := by
  unfold opScan
  rw [if_neg (by
    rw [en, grid]
    cases h : s.freeUnit
    · rw [h] at free; exact absurd free (by decide)
    · simp), next]
  unfold State.scanRun
  dsimp only

/-! ### The watchdog -/

theorem onlyWords_unitShows (s : State) : OnlyWords [LGE_LOAD, LGE_STAT] s s.lgeLoadShow.unitsShow := by
  refine .trans ?_ (.wr _ _ _ (by simp))
  unfold State.lgeLoadShow
  split
  exact .wr _ _ _ (by simp)

/-- What a stop leaves of a program. -/
theorem progStop_facts (s : State) {p : Nat} (hp : p < 64) (cause : Nat) : (s.progStop p cause).prgState p = 0
    ∧ (s.progStop p cause).rd (LGE_PRG_STATE p) LGE_PRG_STATE_STOP_CAUSE = cause % 16
    ∧ ((s.progStop p cause).prog p).unit = none ∧ (s.progStop p cause).scanOpen p = false := by
  let d := (s.dropExchange p).dropScan p
  let w := d.wr (LGE_PRG_STATE p) LGE_PRG_STATE_STOP_CAUSE cause
  let u := w.setPrgState p 0 (2 + cause)
  let v := (u.progSafe p (fun _ => false)).settle
  obtain ⟨lge, state, low⟩ := setPrgState_kept w hp 0 (2 + cause)
  have settled : Settled u v := (settled_progSafe u _).trans (settled_settle _)
  have shown : OnlyWords [LGE_LOAD, LGE_STAT] v (s.progStop p cause) := onlyWords_unitShows v
  have lgeS : (s.progStop p cause).lge = d.lge := by rw [shown.1, settled.rest]; exact lge
  have word : (s.progStop p cause).rdW (LGE_PRG_STATE p) = u.rdW (LGE_PRG_STATE p) := by
    refine (shown.2 _ ?_).trans (settled.words _ (.inl ?_))
    · simp only [List.mem_cons, List.not_mem_nil, or_false]
      unfold LGE_PRG_STATE LGE_LOAD LGE_STAT
      omega
    · unfold LGE_PRG_STATE OUT_TRIP_LEVEL
      omega
  have prog : d.prog p = { (s.dropExchange p).prog p with halt := none, unit := none, holdNext := false } := cget_cset_same _ _ _ _
  have unit : ((s.progStop p cause).prog p).unit = none :=
    (congrArg (fun x : Lge => (cget (fun _ => ({} : LgeProg)) x.progs p).unit) lgeS).trans (congrArg LgeProg.unit prog)
  refine ⟨(State.rd_congr word _).trans state, ?_, unit, ?_⟩
  · exact ((State.rd_congr word _).trans (low _ (by decide) (by decide))).trans (State.rd_wr_same _ _ _ _ (by decide))
  · have queue : (s.progStop p cause).lge.queue = (s.dropExchange p).lge.queue.filter (fun q => q.prog != p) := congrArg Lge.queue lgeS
    unfold State.scanOpen
    rw [unit, queue]
    simp

theorem opLgeWatchdog_late {s : State} {p us : Nat} (busy : (s.prog p).unit.isSome = true) (late : s.prgWd p < us) :
    opLgeWatchdog p us s =
      ((((s.prgTime p us).bump (cntLGE_WATCHDOGS p) 1).postTenant 0x0702 (((s.prgTime p us).bump (cntLGE_WATCHDOGS p) 1).prgOwner p)
        (p2 p ++ p4 (((s.prgTime p us).bump (cntLGE_WATCHDOGS p) 1).prog p).j ++ p4 us)).progStop p 1) := if_pos ⟨busy, late⟩

theorem opLgeWatchdog_stops {s : State} {p us : Nat} (hp : p < 64) (busy : (s.prog p).unit.isSome = true) (late : s.prgWd p < us) :
    ∃ u : State, opLgeWatchdog p us s = u ∧ u.prgState p = 0 ∧ u.rd (LGE_PRG_STATE p) LGE_PRG_STATE_STOP_CAUSE = 1
      ∧ (u.prog p).unit = none ∧ u.scanOpen p = false :=
  ⟨_, opLgeWatchdog_late busy late, progStop_facts _ hp 1⟩

/-! ### Forces -/

theorem setForce_undeclared {s : State} {p f var : Nat} (hp : p < 64) (hf : f < 256) (none : ∀ d ∈ s.decls p, d.var ≠ var % 65536)
    (value session : Nat) : s.setForce p f var true value session = (0x0535, s) := by
  unfold State.setForce
  rw [if_neg (by omega)]
  refine if_pos ?_
  rw [Bool.true_and, Bool.not_eq_true', List.any_eq_false]
  exact fun d hd => by simpa using none d hd

theorem setForce_taken {s : State} {p f var : Nat} {valid : Bool} (hp : p < 64) (hf : f < 256)
    (declared : valid = true → ∃ d ∈ s.decls p, d.var = var % 65536) (value session : Nat) :
    s.setForce p f var valid value session = (0, ((s.putForce p f var value valid).forceShow p).postTenant 0x0705
      (((s.putForce p f var value valid).forceShow p).prgOwner p) (p2 p ++ p2 var ++ p1 (b2n valid) ++ p4 value ++ p4 session)) := by
  unfold State.setForce
  rw [if_neg (by omega)]
  refine if_neg ?_
  rintro bad
  simp only [Bool.and_eq_true, Bool.not_eq_true', List.any_eq_false] at bad
  obtain ⟨d, hd, hv⟩ := declared bad.1
  exact bad.2 d hd (by simp [hv])

theorem putForce_owner (s : State) {p f : Nat} (hp : p < 64) (hf : f < 256) (var value : Nat) (valid : Bool) :
    ((s.putForce p f var value valid).forceShow p).prgOwner p = s.prgOwner p := by
  have far : ∀ i < 2, LGE_PRG_CFG p ≠ LGE_FORCE p (4 * f + i) := fun i hi => by unfold LGE_PRG_CFG LGE_FORCE; omega
  have state : LGE_PRG_CFG p ≠ LGE_PRG_STATE p := by unfold LGE_PRG_CFG LGE_PRG_STATE; omega
  refine State.rd_congr ((State.rdW_wrB_ne _ _ _ state).trans ((State.rdW_wr_ne _ _ _ state).trans ?_)) _
  exact (State.rdW_wrW_ne _ _ (far 1 (by decide))).trans (State.rdW_wrW_ne _ _ (far 0 (by decide)))

/-- Settles O28. -/
theorem programExchangesAndScans : Obligations.ProgramExchangesAndScans := by
  refine ⟨?verifyNone, ?verifyWords, ?verify, ?verifyBad, ?exchange, ?exchangeStaged, ?exchangeHeld, ?cancel, ?cancelNone, ?forceRefused,
    ?force, ?scanDisabled, ?scanEmpty, ?scanOff, ?scanBusy, ?scan, ?scanDone, ?earliest, ?lowest, ?watchIdle, ?watchInTime, ?watchLate,
    ?watchStops, ?input, ?inputNone⟩
  case verifyNone =>
    intro t p s none
    refine completes_of_idle (g := opLgeVerifyComplete p) rfl ?_
    have missing : (s.advance t).lge.verify.find? (fun v => v.1 == p) = .none := List.find?_eq_none.2 fun v hv => by simpa using none v hv
    unfold opLgeVerifyComplete
    rw [missing]
  case verifyWords =>
    intro t p q s h good invalid
    let b := ({ s.advance t with lge := { s.lge with verify := [] } } : State).wrB (LGE_PRG_CMD p) LGE_PRG_CMD_BUSY false
    let m := (b.setProg p { s.prog p with against := q }).wrB (LGE_PRG_STATE p) LGE_PRG_STATE_VERIFIED true
    have only : OnlyWords [LGE_PRG_STATE p, LGE_PRG_CMD p] b (b.wrB (LGE_PRG_STATE p) LGE_PRG_STATE_VERIFIED true |>.prgResult p 0) :=
      (OnlyWords.wrB _ _ _ (by simp)).trans ((onlyWords_prgResult _ p 0).mono (by simp))
    have ne : LGE_PRG_CFG p ≠ LGE_PRG_STATE p ∧ LGE_PRG_CFG p ≠ LGE_PRG_CMD p := by unfold LGE_PRG_CFG LGE_PRG_STATE LGE_PRG_CMD; omega
    have cfg : (m.prgResult p 0).rdB (LGE_PRG_CFG p) LGE_PRG_CFG_VALID = false :=
      (State.rdB_congr ((only.2 _ (by simpa using ne)).trans (State.rdW_wrB_ne _ _ _ ne.2)) _).trans invalid
    have op : opLgeVerifyComplete p (s.advance t) = m.prgResult p 0 :=
      (opLgeVerifyComplete_good (s := s.advance t) h good).trans (stopSafe_invalid cfg)
    refine completes_of_eq (g := opLgeVerifyComplete p) rfl op ⟨?bit, ?busy, prgResult_result m p 0, ?against, rfl, fun a ha => ?words⟩
    case bit => exact (State.rdB_congr (prgResult_stateWord m p 0) _).trans (State.rdB_wrB_same _ _ _ _ (by decide) rfl)
    case busy =>
      refine (prgResult_bit m p 0 (.inr (by decide))).trans ?_
      refine (State.rdB_congr (State.rdW_wrB_ne _ _ _ (prgStateWord_ne p p).symm) _).trans ?_
      exact State.rdB_wrB_same ({ s.advance t with lge := { s.lge with verify := [] } } : State) _ _ _ (by decide) rfl
    case against => exact congrArg LgeProg.against (cget_cset_same _ _ _ _)
    case words =>
      have cmd : a ≠ LGE_PRG_CMD p := by
        rintro rfl
        simp at ha
      exact (only.2 a ha).trans (State.rdW_wrB_ne _ _ _ cmd)
  case verify =>
    intro t p q s h good
    exact exec_congr (f := opLgeVerifyComplete p) rfl (opLgeVerifyComplete_good (s := s.advance t) h good)
  case verifyBad =>
    intro t p q r k s h bad
    let b := (({ s.advance t with lge := { s.lge with verify := [] } } : State).wrB (LGE_PRG_CMD p) LGE_PRG_CMD_BUSY false).wrB (LGE_PRG_STATE p)
      LGE_PRG_STATE_VERIFIED false
    have ne : LGE_PRG_STATE p ≠ LGE_PRG_DETAIL p ∧ LGE_PRG_CMD p ≠ LGE_PRG_DETAIL p := by
      unfold LGE_PRG_DETAIL LGE_PRG_STATE LGE_PRG_CMD; omega
    refine completes_of_eq (g := opLgeVerifyComplete p) rfl (opLgeVerifyComplete_bad (s := s.advance t) h bad) ⟨?bit, ?result, ?reason, ?index⟩
    case bit =>
      refine (State.rdB_wr_ne _ _ _ _ ne.1).trans ((State.rdB_wr_ne _ _ _ _ ne.1).trans ?_)
      exact (State.rdB_congr (prgResult_stateWord b p 2) _).trans (State.rdB_wrB_same _ _ _ _ (by decide) rfl)
    case result => exact (State.rd_wr_ne _ _ _ _ ne.2).trans ((State.rd_wr_ne _ _ _ _ ne.2).trans (prgResult_result b p 2))
    case reason => exact (State.rd_wr_apart _ _ _ _ _ (by decide) (by decide) (by decide)).trans (State.rd_wr_same _ _ _ _ (by decide))
    case index => exact State.rd_wr_same _ _ _ _ (by decide)
  case exchange =>
    intro t p q s ready hq
    exact exec_congr (f := opLgeExchange p q) rfl (opLgeExchange_eq (s := s.advance t) ready hq)
  case exchangeStaged =>
    intro t p q s ready hq run ne grid valid stopped verified against free apart
    let m := (s.advance t).wr (LGE_PRG_CMD p) LGE_PRG_CMD_TARGET q
    have word {a : Nat} (h : a ≠ LGE_PRG_CMD p) : m.rdW a = s.rdW a := State.rdW_wr_ne _ _ _ h
    have cfg : LGE_PRG_CFG p ≠ LGE_PRG_CMD p := by unfold LGE_PRG_CFG LGE_PRG_CMD; omega
    have tim : TIM_CTRL ≠ LGE_PRG_CMD p := by unfold TIM_CTRL LGE_PRG_CMD; omega
    have staged := stageExchange_staged (s := m) ((State.rd_congr (word (prgStateWord_ne p p)) _).trans run) ne
      ((State.rdB_congr (word tim) _).trans grid) ((State.rdB_congr (word cfg) _).trans valid)
      ((State.rd_congr (word (prgStateWord_ne q p)) _).trans stopped) ((State.rdB_congr (word (prgStateWord_ne q p)) _).trans verified)
      against free apart
    let x : LgeProg := { s.prog p with exch := some { val := q, eff := m.stageAt } }
    let w := (m.setProg p x).wrB (LGE_PRG_STATE p) LGE_PRG_STATE_EXCH_PENDING true
    have op : opLgeExchange p q (s.advance t) = w.prgResult p 0 := by
      rw [opLgeExchange_eq (s := s.advance t) ready hq]
      exact congrArg (fun y : Nat × State => y.2.prgResult p y.1) staged
    have only : OnlyWords [LGE_PRG_STATE p, LGE_PRG_CMD p] (s.advance t) ((m.wrB (LGE_PRG_STATE p) LGE_PRG_STATE_EXCH_PENDING true).prgResult p 0) :=
      ((OnlyWords.wr _ _ _ (by simp)).trans (.wrB _ _ _ (by simp))).trans ((onlyWords_prgResult _ p 0).mono (by simp))
    refine completes_of_eq (g := opLgeExchange p q) rfl op ⟨?bit, ?exch, ?state, prgResult_result w p 0, rfl, only.2⟩
    case bit => exact (State.rdB_congr (prgResult_stateWord w p 0) _).trans (State.rdB_wrB_same _ _ _ _ (by decide) rfl)
    case exch =>
      refine (congrArg LgeProg.exch (cget_cset_same _ _ _ _)).trans (congrArg (fun n => some ({ val := q, eff := n } : Staged Nat))
        (State.stageAt_congr (s := _) rfl rfl fun a h => ?_))
      have away : a ≠ LGE_PRG_CMD p ∧ a ≠ LGE_PRG_STATE p := by unfold LGE_PRG_CMD LGE_PRG_STATE; omega
      exact (word away.1).trans (only.2 a (by simpa using ⟨away.2, away.1⟩)).symm
    case state =>
      refine (State.rd_congr (prgResult_stateWord w p 0) _).trans ?_
      refine (State.rd_wr_apart _ _ _ _ _ (by decide) (by decide) (by decide)).trans ?_
      exact (State.rd_congr (word (prgStateWord_ne p p)) _).trans run
  case exchangeHeld =>
    intro t p q s ready held
    let m := (s.advance t).wr (LGE_PRG_CMD p) LGE_PRG_CMD_TARGET (q % 64)
    have state : m.prgState p = 2 := (State.rd_wr_ne _ _ _ _ (prgStateWord_ne p p)).trans held
    have op : opLgeExchange p q (s.advance t) = m.prgResult p 1 := prgCmd_of (s := s.advance t) ready (stageExchange_held state)
    obtain ⟨u, hu, result, -, -, only⟩ := completes_of_prgResult (i := .lgeExchange t p q) (g := opLgeExchange p q) rfl
      (.wr _ _ _ (by simp)) op
    exact ⟨u, hu, result, only⟩
  case cancel =>
    intro t p x s ready staged off
    exact exec_congr (f := opLgeCancelExchange p) rfl (opLgeCancelExchange_off (s := s.advance t) ready staged off)
  case cancelNone =>
    intro t p s ready none
    obtain ⟨u, hu, result, -, only⟩ := completes_of_prgRefused (i := .lgeCancelExchange t p) (g := opLgeCancelExchange p) rfl
      (opLgeCancelExchange_none (s := s.advance t) ready none)
    exact ⟨u, hu, result, only⟩
  case forceRefused =>
    intro t p f var value s hp hf none
    have op : opForceTableWrite p f var true value (s.advance t) = (s.advance t).wrB LGE_STAT LGE_STAT_CFG_REJ true := by
      unfold opForceTableWrite
      rw [setForce_undeclared (s := s.advance t) hp hf none]
      rfl
    exact completes_of_eq (g := opForceTableWrite p f var true value) rfl op
      ⟨State.rdB_wrB_same (s.advance t) _ _ _ (by decide) rfl, rfl, (OnlyWords.wrB (s.advance t) _ _ (by simp)).2⟩
  case force =>
    intro t p f var valid value s hp hf declared
    refine exec_congr (f := opForceTableWrite p f var valid value) rfl ?_
    unfold opForceTableWrite
    rw [setForce_taken (s := s.advance t) hp hf declared, putForce_owner _ hp hf]
    rfl
  case scanDisabled =>
    intro t us s off
    exact completes_of_idle (g := opScan us) rfl (opScan_none (s := s.advance t) us (.inr (.inl off)))
  case scanEmpty =>
    intro t us s none
    exact completes_of_idle (g := opScan us) rfl (opScan_noScan (s := s.advance t) us none)
  case scanOff =>
    intro t us s off
    exact completes_of_idle (g := opScan us) rfl (opScan_none (s := s.advance t) us (.inr (.inr off)))
  case scanBusy =>
    intro t us s busy
    exact completes_of_idle (g := opScan us) rfl (opScan_none (s := s.advance t) us (.inl busy))
  case scan =>
    intro t us q s en grid free next
    exact exec_congr (f := opScan us) rfl (opScan_eq (s := s.advance t) us en grid free next)
  case scanDone =>
    intro t us q s en grid free next done time hq
    have op := opScan_eq (s := s.advance t) us en grid free next
    rw [done] at op
    have same := scanRun_p (s.advance t) q.prog
    have ended := afterPhase_done (s := ((s.advance t).scanRun q.prog).1.s) (r := ((s.advance t).scanRun q.prog).1) (us := us)
      (by rw [same]; exact time) (by rw [same]; exact hq)
    rw [same] at ended
    exact completes_of_eq (g := opScan us) rfl op ⟨ended.halt, ended.unit, ended.hold, ended.halted⟩
  case earliest =>
    intro a b s queue sooner
    unfold State.nextScan
    rw [queue]
    exact if_pos (.inl sooner)
  case lowest =>
    intro a b s queue same lower
    unfold State.nextScan
    rw [queue]
    exact if_neg (by omega)
  case watchIdle =>
    intro t p us s idle
    refine completes_of_idle (g := opLgeWatchdog p us) rfl (if_neg fun busy => ?_)
    rw [show ((s.advance t).prog p).unit = none from idle] at busy
    exact absurd busy.1 (by decide)
  case watchInTime =>
    intro t p us s _ time
    exact completes_of_idle (g := opLgeWatchdog p us) rfl (if_neg fun busy => absurd busy.2 (Nat.not_lt.2 time))
  case watchLate =>
    intro t p us s busy late
    exact exec_congr (f := opLgeWatchdog p us) rfl (opLgeWatchdog_late (s := s.advance t) busy late)
  case watchStops =>
    intro t p us s hp busy late
    obtain ⟨u, op, state, cause, unit, scan⟩ := opLgeWatchdog_stops (s := s.advance t) hp busy late
    exact completes_of_eq (g := opLgeWatchdog p us) rfl op ⟨state, cause, unit, scan⟩
  case input =>
    intro t core n w v s core_ hw
    have op : opTwLgiWrite core w v (s.advance t) =
        { s.advance t with lge := { s.lge with inputs := cset (fun _ => 0) s.lge.inputs (n * 1024 + w) v } } := by
      unfold opTwLgiWrite
      rw [show (s.advance t).coreTenant core = some n from core_]
      exact if_neg (Nat.not_le.2 hw)
    exact completes_of_eq (g := opTwLgiWrite core w v) rfl op ⟨cget_cset_same _ _ _ _, rfl⟩
  case inputNone =>
    intro t core w v s none
    refine completes_of_idle (g := opTwLgiWrite core w v) rfl ?_
    unfold opTwLgiWrite
    rw [show (s.advance t).coreTenant core = .none from none]

end Sys2Proof.Machine
end

section
/-! Commands that a start-up may wait for (R510, R511): each ends with a look whether the start-up's wait for its role is over, and that
look writes SYS_ADVENT.STATE. -/

namespace Sys2Proof.Machine

/-- A fenced pair member whose start-up waits for its role, with SYS_ADVENT.STATE still 2; a role answer that nobody waits for has come
in. -/
def roleWaitState (role : Nat) (asking : Bool) : State :=
  { State.reset with
    regs := [(OUT_STAT, BitVec.ofNat 32 (2 ^ OUT_STAT_FENCED.lo)), (DPX_CTRL, 1), (DPX_CFG, 1), (DPX_STAT, BitVec.ofNat 32 role),
      (SYS_ADVENT, BitVec.ofNat 32 (10 + 2 ^ 7))]
    sys := { State.reset.sys with
      advent := some { input := { fuseBad := false, romBad := false, dramBad := false, bistBad := [], calBad := none }, began := 0, stepAt := 0 } }
    dpx := { State.reset.dpx with msg := some { msg := 2, epoch := 0, target := 0, arg := 0 }, asking := asking } }

theorem roleWaitState_advent : (roleWaitState 6 false).rd SYS_ADVENT SYS_ADVENT_STATE = 2 := by
  decide +kernel

theorem roleWait_fence : ((roleWaitState 0 true).after 0 fun s => (opFenceAssert s).adventPoll).rd SYS_ADVENT SYS_ADVENT_STATE = 0 := by
  decide +kernel

/-- The fall of FENCE_N by itself leaves the start-up. -/
theorem roleWait_fenced : ((roleWaitState 0 true).after 0 fun m =>
    ((m.wrB OUT_STAT OUT_STAT_FENCE_N false).setFence true).fenceRole).rd SYS_ADVENT SYS_ADVENT_STATE = 2 := by decide +kernel

theorem roleWait_expiry : ((roleWaitState 6 false).after 0 fun s => (opNegWaitExpiry s).adventPoll).rd SYS_ADVENT SYS_ADVENT_STATE = 3 := by
  decide +kernel

theorem roleWait_answer : ((roleWaitState 6 false).after 0 fun s => (opRoleAnswer s).adventPoll).rd SYS_ADVENT SYS_ADVENT_STATE = 3 := by
  decide +kernel

/-- Refutes O29: the fall of FENCE_N is to be no more than the fence and the role after it, and here the start-up shows its state too. -/
theorem not_tripsAndFence : ¬ Obligations.TripsAndFence := by
  rintro ⟨-, -, -, -, -, -, -, -, -, -, -, -, fence, -⟩
  have same := Host.Outcome.next.inj (fence 0 (roleWaitState 0 true))
  have shown := congrArg (fun u : State => u.rd SYS_ADVENT SYS_ADVENT_STATE) same
  exact absurd (roleWait_fence.symm.trans (shown.trans roleWait_fenced)) (by decide)

/-- Refutes O35: with no answer awaited the expiry is to leave all but the instant, and here the start-up shows its state. -/
theorem not_heartbeatRules : ¬ Obligations.HeartbeatRules := by
  rintro ⟨-, -, -, -, -, -, -, -, -, -, -, -, idle, -⟩
  obtain ⟨u, hu, kept⟩ := idle 0 (roleWaitState 6 false) (by decide +kernel) (by decide +kernel)
  obtain rfl : ((roleWaitState 6 false).after 0 fun s => (opNegWaitExpiry s).adventPoll) = u := Host.Outcome.next.inj hu
  have shown := congrArg (fun u : State => u.rd SYS_ADVENT SYS_ADVENT_STATE) kept
  exact absurd (roleWait_expiry.symm.trans (shown.trans roleWaitState_advent)) (by decide)

/-- Refutes O36: an answer that nobody waits for is to leave all but the message, and here the start-up shows its state. -/
theorem not_roleChanges : ¬ Obligations.RoleChanges := by
  rintro ⟨-, -, -, answer, -⟩
  obtain ⟨u, hu, kept⟩ := answer 0 { msg := 2, epoch := 0, target := 0, arg := 0 } (roleWaitState 6 false) rfl rfl rfl
  obtain rfl : ((roleWaitState 6 false).after 0 fun s => (opRoleAnswer s).adventPoll) = u := Host.Outcome.next.inj hu
  have shown := congrArg (fun u : State => u.rd SYS_ADVENT SYS_ADVENT_STATE) kept
  exact absurd (roleWait_answer.symm.trans (shown.trans roleWaitState_advent)) (by decide)

end Sys2Proof.Machine
end

section
/-! Recorders (R349 to R370): what triggers offered to them leave, the commands of REC_CMD, the reading of entries, trigger lines and
frames. -/

namespace Sys2Proof.Machine

/-! ### What triggers leave of the recorders -/

/-- The words of NEWEST and of an injection's detail. -/
abbrev RecWord (a : Nat) : Prop := a = REC_INJECT_DETAIL ∨ a / 2 ^ 16 = 0x0901 ∧ a % 256 = 0x60

/-- The counters of entries read. -/
abbrev RecCount (a : Nat) : Prop := a / 2 ^ 16 = 0x0901 ∧ a % 256 = 0x80

/-- What the triggers offered to recorders leave: the entries read, the lines asserted, the domain triggers seen. -/
structure RecKept (s u : State) : Prop where
  next : ∀ r, (u.recDyn r).next = (s.recDyn r).next
  seen : u.rec_.seen = s.rec_.seen
  asserted : u.rd REC_XTRG_STAT REC_XTRG_STAT_ASSERTED = s.rd REC_XTRG_STAT REC_XTRG_STAT_ASSERTED
  words : ∀ a, RecWord a → u.rdW a = s.rdW a
  counts : ∀ a, RecCount a → u.count a = s.count a

namespace RecKept

theorem refl (s : State) : RecKept s s := ⟨fun _ => rfl, rfl, rfl, fun _ _ => rfl, fun _ _ => rfl⟩

theorem trans {s u v : State} (h : RecKept s u) (k : RecKept u v) : RecKept s v :=
  ⟨fun r => (k.next r).trans (h.next r), k.seen.trans h.seen, k.asserted.trans h.asserted, fun a ha => (k.words a ha).trans (h.words a ha),
    fun a ha => (k.counts a ha).trans (h.counts a ha)⟩

theorem ite {c : Prop} [Decidable c] {s u v : State} (h : RecKept s u) (k : RecKept s v) : RecKept s (if c then u else v) := by
  split <;> assumption

theorem foldl {β : Type} {f : State → β → State} (l : List β) (s : State) (h : ∀ u, ∀ b ∈ l, RecKept u (f u b)) : RecKept s (l.foldl f s) :=
  List.foldlRecOn (motive := RecKept s) l f (.refl s) fun _ ih b hb => ih.trans (h _ b hb)

theorem wrW (s : State) {a : Nat} (w : Word) (h : ¬ RecWord a) (k : a ≠ REC_XTRG_STAT) : RecKept s (s.wrW a w) :=
  ⟨fun _ => rfl, rfl, State.rd_congr (s.rdW_wrW_ne w k.symm) _, fun b hb => s.rdW_wrW_ne w (by rintro rfl; exact h hb), fun _ _ => rfl⟩

theorem bump (s : State) {a : Nat} (n : Nat) (h : ¬ RecCount a) : RecKept s (s.bump a n) :=
  ⟨fun _ => rfl, rfl, rfl, fun _ _ => rfl, fun b hb => s.count_bump_ne n (by rintro rfl; exact h hb)⟩

/-- A change of neither words, counters nor recorders. -/
theorem of_fields {s u : State} (regs : u.regs = s.regs) (cnt : u.cnt = s.cnt) (next : ∀ r, (u.recDyn r).next = (s.recDyn r).next)
    (seen : u.rec_.seen = s.rec_.seen) : RecKept s u :=
  ⟨next, seen, State.rd_congr (State.rdW_congr regs _) _, fun a _ => State.rdW_congr regs a, fun a _ => State.count_congr cnt a⟩

theorem of_eventOnly {s u : State} (h : EventOnly s u) : RecKept s u where
  next r := by unfold State.recDyn; rw [h.rec_]
  seen := congrArg Rec.seen h.rec_
  asserted := h.rd (not_eventWord (by decide) (by decide)) _
  words a ha := h.words a (not_eventWord (by unfold RecWord REC_INJECT_DETAIL at ha; omega) (by unfold RecWord REC_INJECT_DETAIL at ha; omega))
  counts a ha := h.counts a (by omega) (by omega)

end RecKept

theorem recDyn_setRec (s : State) (r k : Nat) (x : RecDyn) : (s.setRec r x).recDyn k = if k = r then x else s.recDyn k := by
  unfold State.recDyn State.setRec
  split
  next h => rw [h]; exact cget_cset_same _ _ _ _
  next h => exact cget_cset_ne _ _ _ h

theorem recKept_setRec (s : State) {r : Nat} {x : RecDyn} (h : x.next = (s.recDyn r).next) : RecKept s (s.setRec r x) := by
  refine .of_fields rfl rfl (fun k => ?_) rfl
  rw [recDyn_setRec]
  split
  next e => rw [e]; exact h
  next => rfl

theorem recKept_devWrite (s : State) (a : Nat) (b : List Byte) : RecKept s (s.devWrite a b) := by
  have only := memOnly_devWrite s a b
  have same : (s.devWrite a b).rec_ = s.rec_ := (congrArg State.rec_ only :)
  refine ⟨fun r => ?_, congrArg Rec.seen same, State.rd_congr (State.rdW_congr only.regs _) _, fun c _ => State.rdW_congr only.regs c,
    fun c hc => (countsKept_devWrite s a b).1 c (by omega)⟩
  unfold State.recDyn
  rw [same]

theorem recKept_grant (s : State) (x : Nat) (need : KeyNeed) (m : Master) (secure : Bool) : RecKept s (s.grant x need m secure).2 := by
  unfold State.grant
  dsimp only
  split
  · exact .bump s 1 (by decide)
  · refine .trans (.bump s 1 ?_) (.of_eventOnly (EventOnly.postLimited _ _ _ _ (by omega)))
    split <;> decide

theorem recKept_recShow (s : State) : RecKept s s.recShow :=
  ((RecKept.wrW s _ (by decide) (by decide)).trans (.wrW _ _ (by decide) (by decide))).trans (.wrW _ _ (by decide) (by decide))

/-- A word of a recorder other than NEWEST. -/
theorem recKept_wrRec (s : State) {a r i : Nat} (w : Word) (ha : a = 0x09010000 + i + r * 0x100) (hr : r < 16) (hi : i < 0x100 ∧ i ≠ 0x60) :
    RecKept s (s.wrW a w) :=
  .wrW s w (by unfold RecWord REC_INJECT_DETAIL; omega) (by unfold REC_XTRG_STAT; omega)

section

variable (s : State) {r : Nat} (hr : r < 16)
include hr

theorem recKept_wrRecState (f : Fld) (v : Nat) : RecKept s (s.wr (REC_STATE r) f v) :=
  recKept_wrRec (i := 0x40) s _ rfl hr (by decide)

theorem recKept_setRecState (v : Nat) : RecKept s (s.setRecState r v) := (recKept_wrRecState s hr _ v).trans (recKept_recShow _)

omit hr in
theorem recKept_recHeader : RecKept s (s.recHeader r) := by
  unfold State.recHeader
  dsimp only
  split <;> exact recKept_devWrite ..

theorem recKept_recDone (cause : Nat) : RecKept s (s.recDone r cause) := by
  unfold State.recDone
  dsimp only
  refine .trans ?_ (.of_eventOnly (EventOnly.post _ _ _))
  refine .trans ?_ (.bump _ 1 (by unfold RecCount cntREC_RECORDINGS; omega))
  refine .trans ?_ (recKept_recHeader _)
  exact (recKept_wrRecState s hr _ cause).trans (recKept_setRecState _ hr 3)

theorem recKept_recCount (n : Nat) : RecKept s (s.recCount r n) := by
  have counted : RecKept s (s.wrW (REC_POST_ACT r) (BitVec.ofNat 32 (min n (s.recDyn r).postEff))) :=
    recKept_wrRec (i := 0x50) s _ rfl hr (by decide)
  exact .ite (counted.trans (recKept_recDone _ hr 0)) counted

omit hr in
theorem recKept_xtrgDrive (l : Nat) : RecKept s (s.xtrgDrive l) := by
  refine .trans (u := s.wr REC_XTRG_STAT REC_XTRG_STAT_DRIVING (nsetBit (s.rd REC_XTRG_STAT REC_XTRG_STAT_DRIVING) l true)) ?_
    (.of_fields rfl rfl (fun _ => rfl) rfl)
  refine ⟨fun _ => rfl, rfl, State.rd_wr_apart _ _ _ _ _ (by decide) (by decide) (by decide), fun a ha => s.rdW_wr_ne _ _ ?_, fun _ _ => rfl⟩
  unfold RecWord REC_INJECT_DETAIL at ha
  unfold REC_XTRG_STAT
  omega

omit hr in
theorem recKept_domSend (t : RecTrig) : RecKept s (s.domSend r t) := by
  unfold State.domSend
  refine .ite (.refl s) ?_
  have granted := recKept_grant s (s.rd REC_DOM_CFG REC_DOM_CFG_KEY) ⟨[2], [uMac]⟩ .publish false
  refine .ite granted (granted.trans (.trans (u := State.wrW _ REC_DOM_SEQ _) ?_ (.of_fields rfl rfl (fun _ => rfl) rfl)))
  exact .wrW _ _ (by decide) (by decide)

/-- A trigger offered to a recorder (R363). -/
theorem recKept_recOffer (src t detail : Nat) (frac : Option Nat) : RecKept s (s.recOffer r src t detail frac).2 := by
  have ignored : RecKept s (s.bump (cntREC_TRIG_IGNORED r) 1) := .bump s 1 (by unfold RecCount cntREC_TRIG_IGNORED; omega)
  unfold State.recOffer
  dsimp only
  split
  case isTrue => exact .refl s
  split
  case isTrue => exact .ite (ignored.trans (recKept_setRec _ rfl)) ignored
  split
  case isTrue => exact .bump s 1 (by unfold RecCount cntREC_TRIG_TOO_OLD; omega)
  split
  case isTrue => exact ignored
  refine .trans ?_ (recKept_recCount _ hr _)
  refine .trans ?_ (.ite (.of_eventOnly (EventOnly.fireSource _ 3)) (.refl _))
  refine .trans ?_ (.ite (recKept_devWrite ..) (.refl _))
  refine .trans ?_ (RecKept.foldl _ _ fun u l _ => .ite (recKept_xtrgDrive u l) (.refl u))
  refine .trans ?_ (recKept_domSend _ _)
  refine .trans ?_ (.of_eventOnly (EventOnly.post _ _ _))
  refine .trans ?_ (recKept_setRecState _ hr 2)
  refine .trans ?_ (recKept_wrRecState _ hr _ _)
  refine .trans ?_ (recKept_wrRec (i := 0x5C) _ _ rfl hr (by decide))
  refine .trans ?_ (recKept_wrRec (i := 0x58) _ _ rfl hr (by decide))
  refine .trans ?_ (recKept_wrRec (i := 0x54) _ _ rfl hr (by decide))
  refine .trans ?_ (recKept_wrRec (i := 0x4C) _ _ rfl hr (by decide))
  exact recKept_setRec s rfl

end

theorem recKept_recOfferAll (s : State) (sel : Nat → Bool) (src t detail : Nat) : RecKept s (s.recOfferAll sel src t detail) :=
  RecKept.foldl _ s fun u r h => recKept_recOffer u (by simpa using (List.mem_filter.1 h).1) src t detail none

theorem recKept_recSync (s : State) : RecKept s s.recSync := by
  unfold State.recSync
  refine .ite (.refl s) (.trans ?_ (recKept_recOfferAll ..))
  exact .of_fields rfl rfl (fun _ => rfl) rfl

/-! ### The reading of entries -/

/-- What stands once recorder `r` has read entry `n`. -/
structure EntryRead (r n count : Nat) (u : State) : Prop where
  next : (u.recDyn r).next = n + 1
  newest : u.rdW (REC_NEWEST r) = BitVec.ofNat 32 n
  entries : u.count (cntREC_ENTRIES r) = count

theorem EntryRead.of_kept {r n c : Nat} {s u : State} (hr : r < 16) (h : EntryRead r n c s) (k : RecKept s u) : EntryRead r n c u :=
  ⟨(k.next r).trans h.next, (k.words _ (.inr (by unfold REC_NEWEST; omega))).trans h.newest,
    (k.counts _ (by unfold RecCount cntREC_ENTRIES; omega)).trans h.entries⟩

theorem entryRead_written (s : State) {r n : Nat} {x : RecDyn} (hx : x.next = n + 1) : EntryRead r n ((s.count (cntREC_ENTRIES r) + 1) % 2 ^ 64)
    (((s.setRec r x).wrW (REC_NEWEST r) (BitVec.ofNat 32 n)).bump (cntREC_ENTRIES r) 1) where
  next := by
    refine Eq.trans (congrArg RecDyn.next ?_) hx
    exact (recDyn_setRec s r r x).trans (if_pos rfl)
  newest := State.rdW_wrW_same _ _ _
  entries := State.count_bump_same _ _ _

theorem recEntry_read (s : State) {r : Nat} (hr : r < 16) :
    EntryRead r (s.recDyn r).next ((s.count (cntREC_ENTRIES r) + 1) % 2 ^ 64) (s.recEntry r) := by
  have taken : ∀ (a : Nat) (b : List Byte) (x : RecDyn) (nm nv : Nat), x.next = (s.recDyn r).next + 1 →
      EntryRead r (s.recDyn r).next ((s.count (cntREC_ENTRIES r) + 1) % 2 ^ 64)
        ((((((s.devWrite a b).setRec r x).wrW (REC_NEWEST r) (BitVec.ofNat 32 (s.recDyn r).next)).bump (cntREC_ENTRIES r) 1).bump
          (cntREC_MISSING_VALUES r) nm).bump (cntREC_MASK_VIOL r) nv) := fun a b x nm nv hx => by
    have read := entryRead_written (s.devWrite a b) (r := r) hx
    rw [(recKept_devWrite s a b).counts _ (by unfold RecCount cntREC_ENTRIES; omega)] at read
    refine read.of_kept hr (.trans (.bump _ nm ?_) (.bump _ nv ?_))
    · unfold RecCount cntREC_MISSING_VALUES; omega
    · unfold RecCount cntREC_MASK_VIOL; omega
  unfold State.recEntry
  extract_lets x n cs vals at_ found nm nv isTrig flags dig b s1 s2 s3 s4 s5 lv rt mk cand lvCh cand2 before first was s6 maskOn
  have read : EntryRead r (s.recDyn r).next ((s.count (cntREC_ENTRIES r) + 1) % 2 ^ 64) s4 := taken _ _ _ _ _ rfl
  clear_value s4 x
  have counted : RecKept s4 s5 := by
    unfold s5
    split
    · exact .ite (recKept_recCount _ hr _) (.refl _)
    · exact .refl _
  clear_value s5 first
  have offered : RecKept s5 s6 := by
    unfold s6
    split
    · exact (recKept_recOffer _ hr _ _ _ _).trans (RecKept.foldl _ _ fun u e _ => recKept_recOffer u hr _ _ _ _)
    · exact .refl _
  refine (read.of_kept hr (counted.trans offered)).of_kept hr (.ite (recKept_recDone _ hr 1) (.refl _))

/-! ### The commands of REC_CMD -/

section

variable (s : State) (r v d : Nat)

theorem recResult_result : (s.recResult r v d).rd (REC_CMD r) REC_CMD_RESULT = v % 8 :=
  (State.rd_wr_apart _ _ _ _ _ (by decide) (by decide) (by decide)).trans (State.rd_wr_same _ _ _ _ (by decide))

theorem onlyWords_recResult : OnlyWords [REC_CMD r] s (s.recResult r v d) := (OnlyWords.wr s _ _ (by simp)).trans (.wr _ _ _ (by simp))

theorem recResult_state : (s.recResult r v d).recState r = s.recState r :=
  State.rd_congr ((onlyWords_recResult s r v d).2 _ (by rw [List.mem_singleton]; unfold REC_STATE REC_CMD; omega)) _

theorem recResult_seen {s : State} (h : StrobesSeen s) : StrobesSeen (s.recResult r v d) := by
  refine Eq.trans (State.rd_congr ((onlyWords_recResult s r v d).2 _ ?_) _) h
  rw [List.mem_singleton]
  unfold SYS_SNAP_STAT REC_CMD
  omega

end

/-- A command that answers RESULT and does nothing else. -/
theorem completes_of_recResult {i : Instr} {s : State} {t r v d : Nat} {g : State → State} (hi : exec i s = .next (s.after t g))
    (hg : g (s.advance t) = (s.advance t).recResult r v d) : Completes i s fun u =>
      u.rd (REC_CMD r) REC_CMD_RESULT = v % 8 ∧ u.recState r = s.recState r ∧ OnlyWords [REC_CMD r] s u :=
  completes_of_eq hi hg ⟨recResult_result _ r v d, recResult_state (s.advance t) r v d, rfl, (onlyWords_recResult (s.advance t) r v d).2⟩

theorem opRecOpArm_eq {s : State} {r : Nat} (hr : r < 16) :
    opRecOpArm r s = (s.recSync.recArm r).2.2.recResult r (s.recSync.recArm r).1 (s.recSync.recArm r).2.1 := if_neg (by omega)

theorem opRecOpArm_refused {s : State} {r : Nat} (seen : StrobesSeen s) (hr : r < 16)
    (h : s.recState r = 1 ∨ s.recState r = 2 ∨ s.gridOn = false) : opRecOpArm r s = s.recResult r 1 0 := by
  have refused : s.recArm r = (1, 0, s) := if_pos (by
    rcases h with h | h | h
    · exact .inl h
    · exact .inr (.inl h)
    · exact .inr (.inr (.inr (by rw [h]; rfl))))
  rw [opRecOpArm_eq hr, State.recSync_of_seen seen, refused]

theorem opRecOpDisarm_eq {s : State} {r : Nat} (hr : r < 16) :
    opRecOpDisarm r s = if s.recActive r then (s.recEnd r 2).recResult r 0 0 else s.recResult r 1 0 := by
  unfold opRecOpDisarm State.recDisarm
  rw [if_neg (by omega)]
  by_cases h : s.recActive r = true
  · simp only [h, if_true]
  · simp only [h, if_false, Bool.false_eq_true]

theorem opRecOpTrigger_eq {s : State} {r : Nat} (hr : r < 16) :
    opRecOpTrigger r s = ((s.recSync.recOffer r 9 s.stamp 0 none).2.recResult r 0 0).recSync := if_neg (by omega)

theorem recOffer_unheard {s : State} {r src : Nat} (h : (s.rd (REC_TRIG_EN r) REC_TRIG_EN_SOURCES).testBit (src - 1) = false)
    (t detail : Nat) (frac : Option Nat) : s.recOffer r src t detail frac = (.nothing, s) := if_pos (by rw [h]; rfl)

theorem recOffer_idle {s : State} {r src : Nat} (h : (s.rd (REC_TRIG_EN r) REC_TRIG_EN_SOURCES).testBit (src - 1) = true)
    (idle : s.recState r = 0) (t detail : Nat) (frac : Option Nat) :
    s.recOffer r src t detail frac = (.ignored, s.bump (cntREC_TRIG_IGNORED r) 1) := by
  unfold State.recOffer
  rw [if_neg (by rw [h]; decide)]
  dsimp only
  rw [if_pos (by rw [idle]; decide), if_neg (by rw [idle]; decide)]

theorem opRecEntryRead_due {s : State} {r : Nat} (seen : StrobesSeen s) (hr : r < 16) (active : s.recActive r = true)
    (en : s.rdB REC_CTRL REC_CTRL_EN = true) (grid : s.gridOn = true)
    (due : s.recInst r (s.recDyn r).next + 1000 * s.rd (REC_LAG r) REC_LAG_US ≤ s.dom) : opRecEntryRead r s = (s.recEntry r).recSync := by
  unfold opRecEntryRead
  rw [State.recSync_of_seen seen]
  exact if_pos (by rw [active, en, grid, decide_eq_true hr, decide_eq_true due]; rfl)

/-- Settles O31. -/
theorem recorderCommands : Obligations.RecorderCommands := by
  refine ⟨?armBusy, ?armOff, ?arm, ?disarm, ?disarmIdle, ?triggerUnheard, ?triggerIdle, ?trigger, ?entryOff, ?entry, ?entryWords⟩
  case armBusy =>
    intro t r s seen hr busy
    exact completes_of_recResult (g := opRecOpArm r) rfl (opRecOpArm_refused (s := s.advance t) seen hr (by
      rcases busy with h | h
      · exact .inl h
      · exact .inr (.inl h)))
  case armOff =>
    intro t r s seen hr off
    obtain ⟨u, hu, result, -, only⟩ := completes_of_recResult (i := .recOpArm t r) (g := opRecOpArm r) rfl
      (opRecOpArm_refused (s := s.advance t) seen hr (.inr (.inr off)))
    exact ⟨u, hu, result, only⟩
  case arm =>
    intro t r s hr
    exact exec_congr (f := opRecOpArm r) rfl (opRecOpArm_eq hr)
  case disarm =>
    intro t r s hr active
    exact exec_congr (f := opRecOpDisarm r) rfl ((opRecOpDisarm_eq hr).trans (if_pos active))
  case disarmIdle =>
    intro t r s hr idle
    obtain ⟨u, hu, result, -, only⟩ := completes_of_recResult (i := .recOpDisarm t r) (s := s) (g := opRecOpDisarm r) rfl
      ((opRecOpDisarm_eq hr).trans (if_neg (by rw [show (s.advance t).recActive r = false from idle]; decide)))
    exact ⟨u, hu, result, only⟩
  case triggerUnheard =>
    intro t r s seen hr off
    have op : opRecOpTrigger r (s.advance t) = (s.advance t).recResult r 0 0 := by
      rw [opRecOpTrigger_eq hr, State.recSync_of_seen (s := s.advance t) seen, recOffer_unheard (s := s.advance t) (src := 9) off]
      exact State.recSync_of_seen (recResult_seen (s := s.advance t) r 0 0 seen)
    exact completes_of_recResult (g := opRecOpTrigger r) rfl op
  case triggerIdle =>
    intro t r s seen hr on idle
    let m := (s.advance t).bump (cntREC_TRIG_IGNORED r) 1
    have op : opRecOpTrigger r (s.advance t) = m.recResult r 0 0 := by
      rw [opRecOpTrigger_eq hr, State.recSync_of_seen (s := s.advance t) seen, recOffer_idle (s := s.advance t) (src := 9) on idle]
      exact State.recSync_of_seen (recResult_seen (s := m) r 0 0 seen)
    exact completes_of_eq (g := opRecOpTrigger r) rfl op ⟨State.count_bump_same (s.advance t) _ _, (recResult_state m r 0 0).trans idle, rfl,
      (onlyWords_recResult m r 0 0).2⟩
  case trigger =>
    intro t r s hr
    exact exec_congr (f := opRecOpTrigger r) rfl (opRecOpTrigger_eq hr)
  case entryOff =>
    intro t r s seen off
    refine completes_of_idle (g := opRecEntryRead r) rfl ?_
    unfold opRecEntryRead
    rw [State.recSync_of_seen (s := s.advance t) seen]
    exact if_neg (by rw [show (s.advance t).gridOn = false from off]; simp)
  case entry =>
    intro t r s seen hr active en grid due
    exact exec_congr (f := opRecEntryRead r) rfl (opRecEntryRead_due (s := s.advance t) seen hr active en grid due)
  case entryWords =>
    intro t r s seen hr active en grid due
    obtain ⟨next, newest, entries⟩ := (recEntry_read (s.advance t) hr).of_kept hr (recKept_recSync _)
    exact completes_of_eq (g := opRecEntryRead r) rfl (opRecEntryRead_due (s := s.advance t) seen hr active en grid due)
      ⟨next, newest, entries⟩

end Sys2Proof.Machine
end

section
/-! Trigger lines, injected triggers and domain trigger frames (R362 to R370). -/

namespace Sys2Proof.Machine

/-! ### Trigger lines -/

theorem asserted_lt {l : Nat} (hl : l < 8) : l < REC_XTRG_STAT_ASSERTED.width := hl

/-- The machine with line `l` asserted. -/
def State.xtrgAsserted (s : State) (l : Nat) (on : Bool) : State :=
  s.wr REC_XTRG_STAT REC_XTRG_STAT_ASSERTED (nsetBit (s.rd REC_XTRG_STAT REC_XTRG_STAT_ASSERTED) l on)

theorem testBit_xtrgAsserted (s : State) {l : Nat} (hl : l < 8) (on : Bool) (k : Nat) :
    ((s.xtrgAsserted l on).rd REC_XTRG_STAT REC_XTRG_STAT_ASSERTED).testBit k
      = if k = l then on else (s.rd REC_XTRG_STAT REC_XTRG_STAT_ASSERTED).testBit k :=
  State.testBit_rd_wr_nsetBit s _ (by decide) (asserted_lt hl) on k

theorem opXtrgQualify_new {s : State} {l : Nat} (hl : l < 8) (new : (s.rd REC_XTRG_STAT REC_XTRG_STAT_ASSERTED).testBit l = false)
    (mask : s.rdB (REC_XTRG_CFG l) REC_XTRG_CFG_SELF_MASK = false) : opXtrgQualify l s =
      ((s.xtrgAsserted l true).recSync.recOfferAll (fun r => ((s.xtrgAsserted l true).rd (REC_TRIG_XTRG r) REC_TRIG_XTRG_LINES).testBit l) 5
        ((s.dom / 1000 - (max 1 (s.rd (REC_XTRG_CFG l) REC_XTRG_CFG_FILT) - 1)) * 1000) l).recSync := by
  unfold opXtrgQualify
  dsimp only
  rw [if_neg (by
    rintro (far | on)
    · omega
    · rw [new] at on
      exact absurd on (by decide)), if_neg (by rw [mask]; simp)]
  rfl

theorem xtrgFree_facts (s : State) {l : Nat} (hl : l < 8) : ((s.xtrgFree l).rd REC_XTRG_STAT REC_XTRG_STAT_DRIVING).testBit l = false
    ∧ OnlyWords [REC_XTRG_STAT] { s with rec_ := (s.xtrgFree l).rec_ } (s.xtrgFree l) := by
  unfold State.xtrgFree
  dsimp only
  split
  next => exact ⟨(State.testBit_rd_wr_nsetBit s _ (by decide) hl false l).trans (if_pos rfl), rfl, (OnlyWords.wr s _ _ (by simp)).2⟩
  next h => exact ⟨by simpa using h, rfl, fun _ _ => rfl⟩

/-! ### Injected triggers -/

theorem opRecInject_other {s : State} {v : Word} (h : fget REC_INJECT_SOURCE v ≠ 7) (k : fget REC_INJECT_SOURCE v ≠ 9) :
    opRecInject v s = s := if_pos ⟨h, k⟩

/-- An injected trigger offered to the recorders of `rs`, with the bits of those that took it and of those it came too late for. -/
def State.injectInto (s : State) (rs : List Nat) (src t detail : Nat) : State × Nat × Nat :=
  rs.foldl (fun (x : State × Nat × Nat) r =>
    ((x.1.recOffer r src t detail none).2, x.2.1 + (if (x.1.recOffer r src t detail none).1 = .accepted then 2 ^ r else 0),
      x.2.2 + (if (x.1.recOffer r src t detail none).1 = .tooOld then 2 ^ r else 0))) (s, 0, 0)

/-- The recorders that an injection names. -/
def injectMask (v : Word) : List Nat := (List.range 16).filter (fun r => (fget REC_INJECT_MASK v).testBit r)

/-- An injection's statistics, shown. -/
def State.injectShown (x : State × Nat × Nat) : State :=
  (x.1.wr REC_INJECT_STAT REC_INJECT_STAT_TOO_OLD x.2.2).wr REC_INJECT_STAT REC_INJECT_STAT_ACCEPTED x.2.1

theorem opRecInject_eq {s : State} {v : Word} (h : fget REC_INJECT_SOURCE v = 7 ∨ fget REC_INJECT_SOURCE v = 9) :
    opRecInject v s = (State.injectShown (s.injectInto (injectMask v) (fget REC_INJECT_SOURCE v)
      (if fget REC_INJECT_NOW v = 1 then s.stamp else s.rd64 REC_INJECT_LO REC_INJECT_HI) (s.rdW REC_INJECT_DETAIL).toNat)).recSync := by
  unfold opRecInject
  exact if_neg (by omega)

theorem recKept_injectInto (s : State) {rs : List Nat} (hrs : ∀ r ∈ rs, r < 16) (src t detail : Nat) :
    RecKept s (s.injectInto rs src t detail).1 :=
  List.foldlRecOn (motive := fun x : State × Nat × Nat => RecKept s x.1) rs _ (.refl s) fun _ ih r hr =>
    ih.trans (recKept_recOffer _ (hrs r hr) _ _ _ _)

theorem recKept_injectShown (x : State × Nat × Nat) : RecKept x.1 (State.injectShown x) :=
  (RecKept.wrW _ _ (by decide) (by decide)).trans (.wrW _ _ (by decide) (by decide))

theorem recKept_recInject (s : State) (v : Word) : RecKept s (opRecInject v s) := by
  by_cases h : fget REC_INJECT_SOURCE v = 7 ∨ fget REC_INJECT_SOURCE v = 9
  · rw [opRecInject_eq h]
    refine .trans (.trans (recKept_injectInto s (fun r hr => ?_) _ _ _) (recKept_injectShown _)) (recKept_recSync _)
    exact List.mem_range.1 (List.mem_filter.1 hr).1
  · rw [opRecInject_other (fun e => h (.inl e)) fun e => h (.inr e)]
    exact .refl s

/-! ### Domain trigger frames -/

section

variable {s m : State} {b : List Byte} (type : beAt b 12 2 = 0x88B5) (long : 54 ≤ b.length) (one : byteAt (b.drop 14) 0 = 1)
  (two : byteAt (b.drop 14) 1 = 1)
include type long one two

/-- A domain trigger frame, once its key's grant `g` is known. -/
theorem opDomainTriggerFrame_heard {g : Nat × State}
    (grant : s.grant (s.rd REC_DOM_CFG REC_DOM_CFG_KEY) ⟨[2], [uVerify]⟩ .steward false = g) : opDomainTriggerFrame b s =
    if g.1 ≠ 0 ∨ macTag (g.2.slot (s.rd REC_DOM_CFG REC_DOM_CFG_KEY)).value (b.take 38) true ≠ slice (b.drop 14) 24 16 then
      g.2.domReject (beAt (b.drop 14) 4 4) (beAt (b.drop 14) 16 4) 1
    else if g.2.rec_.seen.contains (beAt (b.drop 14) 4 4, beAt (b.drop 14) 16 4) then g.2
    else opRecInject (BitVec.ofNat 32 (7 * 65536 + (((List.range 16).filter (fun r =>
        g.2.rd (REC_TRIG_DOM r) REC_TRIG_DOM_GROUP == beAt (b.drop 14) 2 2 || g.2.rd (REC_TRIG_DOM r) REC_TRIG_DOM_GROUP == 0xFFFF)).map
          (fun r => 2 ^ r)).sum))
      ((({ g.2 with rec_ := { g.2.rec_ with seen := g.2.rec_.seen ++ [(beAt (b.drop 14) 4 4, beAt (b.drop 14) 16 4)] } } : State).wr64
        REC_INJECT_LO REC_INJECT_HI (beAt (b.drop 14) 8 8)).wrW REC_INJECT_DETAIL (BitVec.ofNat 32 (beAt (b.drop 14) 4 4))) := by
  have plain : (if beAt b 12 2 = 0x8100 then 18 else 14) = 14 := if_neg (by rw [type]; decide)
  have ok : ¬ (beAt b 12 2 ≠ 0x88B5 ∨ byteAt (b.drop 14) 0 ≠ 1 ∨ byteAt (b.drop 14) 1 ≠ 1 ∨ (b.drop 14).length < 40) := by
    rw [type, one, two, List.length_drop]
    omega
  unfold opDomainTriggerFrame
  rw [plain]
  dsimp only
  rw [if_neg ok, grant]
  rfl

end

theorem opDomainTriggerFrame_other {s : State} {b : List Byte} (h : beAt b 12 2 ≠ 0x8100) (k : beAt b 12 2 ≠ 0x88B5) :
    opDomainTriggerFrame b s = s := by
  unfold opDomainTriggerFrame
  rw [if_neg h]
  exact if_pos (.inl k)

/-- Settles O32. -/
theorem recorderTriggers : Obligations.RecorderTriggers := by
  refine ⟨?asserted, ?qualify, ?qualifyBit, ?release, ?pulseEnd, ?pulseOn, ?otherFrame, ?refused, ?known, ?new, ?otherSource, ?none, ?one⟩
  case asserted =>
    intro t l s _ on
    exact completes_of_idle (g := opXtrgQualify l) rfl (if_pos (.inr on))
  case qualify =>
    intro t l s hl new mask
    exact exec_congr (f := opXtrgQualify l) rfl (opXtrgQualify_new (s := s.advance t) hl new mask)
  case qualifyBit =>
    intro t l s hl new mask
    have kept (sel : Nat → Bool) (at_ : Nat) : RecKept ((s.advance t).xtrgAsserted l true)
        ((((s.advance t).xtrgAsserted l true).recSync.recOfferAll sel 5 at_ l).recSync) :=
      ((recKept_recSync _).trans (recKept_recOfferAll _ sel 5 at_ l)).trans (recKept_recSync _)
    refine completes_of_eq (g := opXtrgQualify l) rfl (opXtrgQualify_new (s := s.advance t) hl new mask) ?_
    refine (congrArg (Nat.testBit · l) (kept _ _).asserted).trans ?_
    exact (testBit_xtrgAsserted (s.advance t) hl true l).trans (if_pos rfl)
  case release =>
    intro t l s hl
    have op : opXtrgRelease l (s.advance t) = (s.advance t).xtrgAsserted l false := if_neg (by omega)
    refine completes_of_eq (g := opXtrgRelease l) rfl op ⟨?_, fun k _ ne => ?_, rfl, (OnlyWords.wr (s.advance t) _ _ (by simp)).2⟩
    · exact (testBit_xtrgAsserted (s.advance t) hl false l).trans (if_pos rfl)
    · exact (testBit_xtrgAsserted (s.advance t) hl false k).trans (if_neg ne)
  case pulseEnd =>
    intro t l s hl ended
    obtain ⟨bit, only⟩ := xtrgFree_facts (s.advance t) hl
    exact completes_of_eq (g := opXtrgPulseEnd l) rfl (if_pos ⟨hl, ended⟩) ⟨bit, by rw [only.1]; rfl, only.2⟩
  case pulseOn =>
    intro t l s _ on
    exact completes_of_idle (g := opXtrgPulseEnd l) rfl (if_neg fun h => absurd h.2 (Nat.not_le.2 on))
  case otherFrame =>
    intro t b s h k
    exact completes_of_idle (g := opDomainTriggerFrame b) rfl (opDomainTriggerFrame_other h k)
  case refused =>
    intro t b s type long one two refused
    refine exec_congr (f := opDomainTriggerFrame b) rfl ?_
    exact (opDomainTriggerFrame_heard (s := s.advance t) type long one two rfl).trans (if_pos (.inl refused))
  case known =>
    intro t b m s type long one two grant tag known
    refine exec_congr (f := opDomainTriggerFrame b) rfl ?_
    refine (opDomainTriggerFrame_heard (s := s.advance t) type long one two grant).trans ((if_neg ?_).trans (if_pos known))
    exact fun bad => bad.elim (absurd rfl) (absurd tag)
  case new =>
    intro t b m s type long one two grant tag new
    let origin := beAt (b.drop 14) 4 4
    let n := ((({ m with rec_ := { m.rec_ with seen := m.rec_.seen ++ [(origin, beAt (b.drop 14) 16 4)] } } : State).wr64
      REC_INJECT_LO REC_INJECT_HI (beAt (b.drop 14) 8 8)).wrW REC_INJECT_DETAIL (BitVec.ofNat 32 origin))
    obtain ⟨v, op⟩ : ∃ v, opDomainTriggerFrame b (s.advance t) = opRecInject v n :=
      ⟨_, (opDomainTriggerFrame_heard (s := s.advance t) type long one two grant).trans
        ((if_neg fun bad => bad.elim (absurd rfl) (absurd tag)).trans (if_neg (by rw [new]; decide)))⟩
    have kept := recKept_recInject n v
    refine completes_of_eq (g := opDomainTriggerFrame b) rfl op ⟨?_, ?_⟩
    · exact kept.seen ▸ List.mem_append_right _ (List.mem_singleton_self _)
    · exact (kept.words _ (.inl rfl)).trans (State.rdW_wrW_same _ _ _)
  case otherSource =>
    intro t v s h k
    exact completes_of_idle (g := opRecInject v) rfl (opRecInject_other h k)
  case none =>
    intro t v s seen nine none
    have empty : injectMask v = [] := by
      unfold injectMask
      rw [none]
      simp
    let w := State.injectShown (s.advance t, 0, 0)
    have op : opRecInject v (s.advance t) = w := by
      rw [opRecInject_eq (.inr nine), empty]
      exact State.recSync_of_seen ((StrobesSeen.wrW (s := s.advance t) seen _ (by decide)).wrW _ (by decide))
    refine completes_of_eq (g := opRecInject v) rfl op ⟨State.rd_wr_same _ _ _ _ (by decide), ?_, rfl, ?_⟩
    · exact (State.rd_wr_apart _ _ _ _ _ (by decide) (by decide) (by decide)).trans (State.rd_wr_same _ _ _ _ (by decide))
    · exact ((OnlyWords.wr (s.advance t) _ _ (by simp)).trans (.wr _ _ _ (by simp))).2
  case one =>
    intro t v s nine now mask
    have first : injectMask v = [0] := by
      unfold injectMask
      rw [mask]
      decide
    refine exec_congr (f := opRecInject v) rfl ?_
    rw [opRecInject_eq (.inr nine), first, nine, if_pos now]
    simp only [State.injectInto, State.injectShown, List.foldl_cons, List.foldl_nil, Nat.zero_add, pow_zero]

end Sys2Proof.Machine
end

section
/-! The Almanac's posts, its writer, clears and the cursor (R381 to R392). -/

namespace Sys2Proof.Machine

/-! ### Posts -/

/-- A post refused with `status`. -/
theorem completes_of_almRefused {i : Instr} {s : State} {t status : Nat} {g : State → State} (hi : exec i s = .next (s.after t g))
    (hg : g (s.advance t) = (s.advance t).almRej.wr ALM_POST_STAT ALM_POST_STAT_STATUS status) : Completes i s fun u =>
      u.rd ALM_POST_STAT ALM_POST_STAT_STATUS = status % 2 ^ 16 ∧ u.rdB ALM_STAT ALM_STAT_CFG_REJ = true ∧ u.alm = s.alm
        ∧ OnlyWords [ALM_STAT, ALM_POST_STAT] s u :=
  completes_of_eq hi hg ⟨State.rd_wr_same _ _ _ _ (by decide),
    (State.rdB_wr_ne _ _ _ _ (by decide)).trans (State.rdB_wrB_same _ _ _ _ (by decide) rfl), rfl, rfl,
    ((OnlyWords.wrB (s.advance t) _ _ (by simp)).trans (.wr _ _ _ (by simp))).2⟩

/-- The outcome of a post shown in ALM_POST_STAT. -/
def showPost (x : PostOutcome × State) : State := x.2.wr ALM_POST_STAT ALM_POST_STAT_STATUS (postStatus x.1)

theorem opAlmPost_eq (v : Word) (s : State) : opAlmPost v s =
    if !stewardCode (fget ALM_POST_CODE v) ∨ 14 < fget ALM_POST_PSIZE v then s.almRej.wr ALM_POST_STAT ALM_POST_STAT_STATUS 0x0560
    else if !s.chanPresent (fget ALM_POST_CHANNEL v) then s.almRej.wr ALM_POST_STAT ALM_POST_STAT_STATUS 0x0301
    else showPost (s.postOut (fget ALM_POST_CHANNEL v) (fget ALM_POST_CODE v) (s.almStaged (16 * fget ALM_POST_PSIZE v)) false) := rfl

/-- The outcome of a core's post shown to it. -/
def showCorePost (core : Nat) (x : PostOutcome × State) : State :=
  { x.2 with alm := { x.2.alm with stat := cset (fun _ => 0) x.2.alm.stat core (postStatus x.1) } }

/-- A post of a core in service. -/
def State.corePost (s : State) (core n : Nat) (v : Word) : State :=
  if v.toNat % 65536 < 0x8000 ∨ 14 < v.toNat / 65536 % 16 then
    { s with alm := { s.alm with stat := cset (fun _ => 0) s.alm.stat core 0x0560 } }
  else showCorePost core (s.postOut n (v.toNat % 65536) (fitBytes (16 * (v.toNat / 65536 % 16)) (cget (fun _ => []) s.alm.stage core)) true)

theorem opTwAlmPost_eq {s : State} {core n : Nat} (h : s.coreTenant core = some n) (v : Word) :
    opTwAlmPost core v s = s.corePost core n v := by
  unfold opTwAlmPost
  rw [h]
  rfl

/-! ### The writer -/

/-- What the writer does once its work is written. -/
def State.nextWritten (s : State) : Option AlmWork → State
  | none => ({ s with alm := { s.alm with writing := none } }).almStat
  | some (.entry e) =>
    ({ s with alm := { s.alm with writing := some (.entry e), intake := s.alm.intake.filter (fun x => x.ord != e.ord) } }).almStat
  | some w => ({ s with alm := { s.alm with writing := some w } }).almStat

theorem almProcess_idle {s : State} (h : s.alm.writing = none) : s.almProcess = s.nextWritten s.nextWork := by
  unfold State.almProcess
  rw [h]
  dsimp only
  rcases s.nextWork with _ | (e | ch) <;> rfl

theorem almProcess_entry {s : State} {e : AlmEntry} (h : s.alm.writing = some (.entry e)) :
    s.almProcess = (s.commitEntry e).nextWritten (s.commitEntry e).nextWork := by
  unfold State.almProcess
  rw [h]
  dsimp only
  generalize s.commitEntry e = u
  rcases u.nextWork with _ | (e | ch) <;> rfl

/-- The next work begun leaves the channels and the counters. -/
theorem nextWritten_kept (s : State) : ∀ w : Option AlmWork, (∀ ch, (s.nextWritten w).chan ch = s.chan ch) ∧ (s.nextWritten w).cnt = s.cnt
  | none => ⟨fun _ => rfl, rfl⟩
  | some (.entry _) => ⟨fun _ => rfl, rfl⟩
  | some (.lost _) => ⟨fun _ => rfl, rfl⟩

/-- An entry like the channel's newest record is folded into it. -/
theorem commitEntry_fold {s : State} {e : AlmEntry} {r : AlmRec} (takes : s.chanRefuses e.ch = false) (newest : (s.chan e.ch).newest = some r)
    (like : r.kind = 0 ∧ r.code = e.code ∧ r.payload = e.payload ∧ r.rep ≠ 0xFFFFFFFF) :
    ((s.commitEntry e).chan e.ch).newest = some { r with rep := satNat 0xFFFFFFFF (r.rep + e.count), lastTime := e.last }
      ∧ (s.commitEntry e).count (cntALM_FOLDS e.ch) = (s.count (cntALM_FOLDS e.ch) + e.count) % 2 ^ 64 := by
  have op : s.commitEntry e = (s.setChan e.ch { s.chan e.ch with
      recs := replaceLast (s.chan e.ch).recs { r with rep := satNat 0xFFFFFFFF (r.rep + e.count), lastTime := e.last } }).bump
        (cntALM_FOLDS e.ch) e.count := by
    unfold State.commitEntry
    dsimp only
    rw [if_neg (by rw [takes]; decide), newest]
    exact if_pos like
  rw [op]
  refine ⟨?_, State.count_bump_same _ _ _⟩
  refine (congrArg AlmChan.newest (cget_cset_same _ _ _ _)).trans ?_
  simp [AlmChan.newest, replaceLast]

theorem opIntakeProcess_folds {s : State} {e : AlmEntry} {r : AlmRec} (writing : s.alm.writing = some (.entry e))
    (takes : s.chanRefuses e.ch = false) (newest : (s.chan e.ch).newest = some r)
    (like : r.kind = 0 ∧ r.code = e.code ∧ r.payload = e.payload ∧ r.rep ≠ 0xFFFFFFFF) : ∃ u, opIntakeProcess s = u
      ∧ (u.chan e.ch).newest = some { r with rep := satNat 0xFFFFFFFF (r.rep + e.count), lastTime := e.last }
      ∧ u.count (cntALM_FOLDS e.ch) = (s.count (cntALM_FOLDS e.ch) + e.count) % 2 ^ 64 := by
  obtain ⟨folded, count⟩ := commitEntry_fold takes newest like
  obtain ⟨chan, cnt⟩ := nextWritten_kept (s.commitEntry e) (s.commitEntry e).nextWork
  exact ⟨_, almProcess_entry writing, (congrArg AlmChan.newest (chan e.ch)).trans folded, (State.count_congr cnt _).trans count⟩

/-! ### The cursor -/

theorem cursorBegins_of {i : Instr} {s : State} {t op : Nat} (hi : exec i s = .next (s.after t fun m => m.cursorStart op)) : CursorBegins i op s := by
  intro free
  exact completes_of_eq hi (if_neg (by rw [show (s.advance t).rdB ALM_CUR_STAT ALM_CUR_STAT_BUSY = false from free]; decide))
    ⟨State.rdB_wrB_same _ _ _ _ (by decide) rfl, rfl, rfl, (OnlyWords.wrB (s.advance t) _ _ (by simp)).2⟩

/-- ALM_CUR_STAT once the record window `w` is filled. -/
theorem cursorStat_facts {m w : State} (window : OnlyWords ((List.range 64).map ALM_DATA) m w) (none : m.alm.cursorOp = none) (result size : Nat) :
    ∃ u, ((w.wrB ALM_CUR_STAT ALM_CUR_STAT_BUSY false).wr ALM_CUR_STAT ALM_CUR_STAT_RESULT result).wr ALM_CUR_STAT ALM_CUR_STAT_SIZE size = u
      ∧ u.rdB ALM_CUR_STAT ALM_CUR_STAT_BUSY = false ∧ u.rd ALM_CUR_STAT ALM_CUR_STAT_RESULT = result % 8
      ∧ u.rdW ALM_CUR_SEQ = m.rdW ALM_CUR_SEQ ∧ u.alm.cursorOp = .none := by
  have alm : w.alm = m.alm := by rw [window.1]
  refine ⟨_, rfl, ?busy, ?result, ?seq, (congrArg Alm.cursorOp alm).trans none⟩
  case busy =>
    refine (State.rdB_wr_apart _ _ _ _ _ (by decide) (by decide) (by decide)).trans ?_
    exact (State.rdB_wr_apart _ _ _ _ _ (by decide) (by decide) (by decide)).trans (State.rdB_wrB_same _ _ _ _ (by decide) rfl)
  case result => exact (State.rd_wr_apart _ _ _ _ _ (by decide) (by decide) (by decide)).trans (State.rd_wr_same _ _ _ _ (by decide))
  case seq =>
    refine (State.rdW_wr_ne _ _ _ (by decide)).trans ((State.rdW_wr_ne _ _ _ (by decide)).trans ((State.rdW_wrB_ne _ _ _ (by decide)).trans ?_))
    refine window.2 _ fun h => ?_
    obtain ⟨i, -, hi⟩ := List.mem_map.1 h
    unfold ALM_DATA ALM_CUR_SEQ at hi
    omega

/-- The outcome of a cursor command shown. -/
theorem cursorShow_facts (s : State) (ch result : Nat) (r : Option AlmRec) : ∃ u, s.cursorShow ch result r = u
    ∧ u.rdB ALM_CUR_STAT ALM_CUR_STAT_BUSY = false ∧ u.rd ALM_CUR_STAT ALM_CUR_STAT_RESULT = result % 8
    ∧ u.rdW ALM_CUR_SEQ = s.rdW ALM_CUR_SEQ ∧ u.alm.cursorOp = none := by
  unfold State.cursorShow
  extract_lets data alm m w
  have window : OnlyWords ((List.range 64).map ALM_DATA) m w := .foldl _ m fun u i hi => .wrW u _ (List.mem_map_of_mem hi)
  clear_value w
  exact cursorStat_facts window rfl _ _

/-- The sequence number that a cursor command moves to. -/
def State.cursorSeq (s : State) (op ch seq : Nat) : Nat :=
  if op = 2 then (seq + 1) % 2 ^ 32 else if op = 3 then s.rd (ALM_CH_FIRST ch) ALM_CH_FIRST_SEQ
  else if op = 4 then (s.rd (ALM_CH_NEXT ch) ALM_CH_NEXT_SEQ + 2 ^ 32 - 1) % 2 ^ 32 else seq

/-- What the cursor finds there. -/
def State.cursorFind (s : State) (op ch seq : Nat) : Nat × Option AlmRec :=
  if s.chanPresent ch then s.locate ch (s.cursorSeq op ch seq) else (4, none)

theorem opCursorCommandComplete_eq {s : State} {op ch seq : Nat} (h : s.alm.cursorOp = some (op, ch, seq)) : opCursorCommandComplete s =
    (s.wr ALM_CUR_SEQ ALM_CUR_SEQ_SEQ (s.cursorSeq op ch seq)).cursorShow ch (s.cursorFind op ch seq).1 (s.cursorFind op ch seq).2 := by
  unfold opCursorCommandComplete
  rw [h]
  rfl

/-- A cursor command completes. -/
theorem completes_cursor {t op ch seq : Nat} {s : State} (h : s.alm.cursorOp = some (op, ch, seq)) :
    Completes (.cursorCommandComplete t) s fun u => u.rdB ALM_CUR_STAT ALM_CUR_STAT_BUSY = false
      ∧ u.rd ALM_CUR_STAT ALM_CUR_STAT_RESULT = (s.cursorFind op ch seq).1 % 8
      ∧ u.rd ALM_CUR_SEQ ALM_CUR_SEQ_SEQ = s.cursorSeq op ch seq % 2 ^ 32 ∧ u.alm.cursorOp = none := by
  obtain ⟨u, shown, busy, result, word, done⟩ := cursorShow_facts ((s.advance t).wr ALM_CUR_SEQ ALM_CUR_SEQ_SEQ (s.cursorSeq op ch seq)) ch
    (s.cursorFind op ch seq).1 (s.cursorFind op ch seq).2
  exact completes_of_eq (g := opCursorCommandComplete) rfl ((opCursorCommandComplete_eq (s := s.advance t) h).trans shown)
    ⟨busy, result, (State.rd_congr word _).trans (State.rd_wr_same _ _ _ _ (by decide)), done⟩

theorem locate_past {s : State} {ch seq : Nat} (h : 0 ≤ diff32 seq (s.rd (ALM_CH_NEXT ch) ALM_CH_NEXT_SEQ)) : s.locate ch seq = (1, none) :=
  if_pos h

theorem locate_found {s : State} {ch seq : Nat} {r : AlmRec} (next : diff32 seq (s.rd (ALM_CH_NEXT ch) ALM_CH_NEXT_SEQ) < 0)
    (first : 0 ≤ diff32 seq (s.rd (ALM_CH_FIRST ch) ALM_CH_FIRST_SEQ)) (found : (s.chan ch).recs.find? (fun y => y.seq == seq) = some r)
    (sound : r.damaged = false) : s.locate ch seq = (0, some r) := by
  unfold State.locate
  rw [if_neg (by omega), if_neg (by omega), found]
  exact if_neg (by rw [sound]; decide)

theorem locate_lt (s : State) (ch seq : Nat) : (s.locate ch seq).1 < 4 := by
  unfold State.locate
  split
  · decide
  · split
    · decide
    · split
      · split <;> exact Nat.lt_of_sub_eq_succ rfl
      · decide

/-- Settles O33. -/
theorem almanacPostsAndCursor : Obligations.AlmanacPostsAndCursor := by
  refine ⟨?postBad, ?postAbsent, ?post, ?coreBad, ?core, ?written, ?taken, ?folded, ?clearBad, ?clear, ?seek, ?next, ?first, ?last, ?busy,
    ?cursorNone, ?cursorAbsent, ?cursorSeek, ?cursorNext, ?cursorFirst, ?past, ?found⟩
  case postBad =>
    intro t v s bad
    refine completes_of_almRefused (g := opAlmPost v) rfl ((opAlmPost_eq v _).trans (if_pos ?_))
    exact bad.imp_left fun h => by rw [h]; rfl
  case postAbsent =>
    intro t v s code size absent
    have op : opAlmPost v (s.advance t) = (s.advance t).almRej.wr ALM_POST_STAT ALM_POST_STAT_STATUS 0x0301 := by
      rw [opAlmPost_eq, if_neg (by rw [code]; simpa using size)]
      exact if_pos (by rw [show (s.advance t).chanPresent (fget ALM_POST_CHANNEL v) = false from absent]; rfl)
    obtain ⟨u, hu, status, rej, -, only⟩ := completes_of_almRefused (i := .almPost t v) (g := opAlmPost v) rfl op
    exact ⟨u, hu, status, rej, only⟩
  case post =>
    intro t v s code size present
    refine exec_congr (f := opAlmPost v) rfl ?_
    rw [opAlmPost_eq, if_neg (by rw [code]; simpa using size)]
    exact if_neg (by rw [show (s.advance t).chanPresent (fget ALM_POST_CHANNEL v) = true from present]; decide)
  case coreBad =>
    intro t core n v s core_ bad
    exact completes_of_eq (g := opTwAlmPost core v) rfl ((opTwAlmPost_eq (s := s.advance t) core_ v).trans (if_pos bad))
      ⟨cget_cset_same _ _ _ _, rfl⟩
  case core =>
    intro t core n v s core_ code size
    exact exec_congr (f := opTwAlmPost core v) rfl ((opTwAlmPost_eq (s := s.advance t) core_ v).trans (if_neg (by omega)))
  case written =>
    intro t e s writing none
    refine exec_congr (f := opIntakeProcess) rfl ((almProcess_entry (s := s.advance t) writing).trans ?_)
    rw [none]
    rfl
  case taken =>
    intro t e s idle work
    refine exec_congr (f := opIntakeProcess) rfl ((almProcess_idle (s := s.advance t) idle).trans ?_)
    rw [show (s.advance t).nextWork = some (.entry e) from work]
    rfl
  case folded =>
    intro t e r s writing _ takes newest kind code payload rep
    obtain ⟨u, op, folded, count⟩ := opIntakeProcess_folds (s := s.advance t) writing takes newest ⟨kind, code, payload, rep⟩
    exact completes_of_eq (g := opIntakeProcess) rfl op ⟨folded, count⟩
  case clearBad =>
    intro t v s bad
    have op : opAlmClearWrite v (s.advance t) = (s.advance t).almRej := if_pos (bad.imp_right (.imp_left fun h => by
      rw [show (s.advance t).chanPresent (fget ALM_CLEAR_CHANNEL v) = false from h]; rfl))
    exact completes_of_eq (g := opAlmClearWrite v) rfl op ⟨State.rdB_wrB_same (s.advance t) _ _ _ (by decide) rfl, rfl, rfl,
      (OnlyWords.wrB (s.advance t) _ _ (by simp)).2⟩
  case clear =>
    intro t v s tenant present quota
    refine exec_congr (f := opAlmClearWrite v) rfl (if_neg ?_)
    rw [show (s.advance t).chanPresent (fget ALM_CLEAR_CHANNEL v) = true from present]
    exact fun bad => bad.elim (by omega) fun h => h.elim (fun h => absurd h (by decide)) quota
  case seek => exact fun t s => cursorBegins_of (t := t) rfl
  case next => exact fun t s => cursorBegins_of (t := t) rfl
  case first => exact fun t s => cursorBegins_of (t := t) rfl
  case last => exact fun t s => cursorBegins_of (t := t) rfl
  case busy =>
    intro t s busy
    exact completes_of_idle (g := opCursorSeek) rfl (if_pos busy)
  case cursorNone =>
    intro t s none
    refine completes_of_idle (g := opCursorCommandComplete) rfl ?_
    unfold opCursorCommandComplete
    rw [show (s.advance t).alm.cursorOp = .none from none]
  case cursorAbsent =>
    intro t op ch seq s h absent
    obtain ⟨u, hu, busy, result, moved, done⟩ := completes_cursor (t := t) h
    refine ⟨u, hu, busy, ?_, done, fun seek hseq => ?_⟩
    · rw [result, State.cursorFind, if_neg (by rw [absent]; decide)]
      rfl
    · rw [moved, seek]
      exact Nat.mod_eq_of_lt hseq
  case cursorSeek =>
    intro t ch seq s h present hseq
    obtain ⟨u, hu, busy, result, moved, done⟩ := completes_cursor (t := t) h
    refine ⟨u, hu, busy, ?_, moved.trans (Nat.mod_eq_of_lt hseq), done⟩
    rw [result, State.cursorFind, if_pos present]
    exact Nat.mod_eq_of_lt ((locate_lt s ch seq).trans (by decide))
  case cursorNext =>
    intro t ch seq s h
    obtain ⟨u, hu, busy, -, moved, -⟩ := completes_cursor (t := t) h
    exact ⟨u, hu, busy, moved.trans (Nat.mod_mod _ _)⟩
  case cursorFirst =>
    intro t ch seq s h
    obtain ⟨u, hu, busy, -, moved, -⟩ := completes_cursor (t := t) h
    exact ⟨u, hu, busy, moved.trans (Nat.mod_eq_of_lt (s.rd_lt _ ALM_CH_FIRST_SEQ))⟩
  case past => exact fun ch seq s h => locate_past h
  case found => exact fun ch seq r s next first found sound => locate_found next first found sound

end Sys2Proof.Machine
end

section
/-! The commands of DPX_CMD (R402, R403, R420, R423, R430). -/

namespace Sys2Proof.Machine

section

variable {s u : State} {r : Nat} {body : State → Nat × State}

theorem dpxCmd_of (free : s.rdB DPX_CMD DPX_CMD_BUSY = false) (h : body s = (r, u)) : s.dpxCmd body = u.wr DPX_CMD DPX_CMD_RESULT r := by
  unfold State.dpxCmd
  rw [if_neg (by rw [free]; decide), h]

/-- SIDE stands apart from BUSY. -/
theorem dpxSide_busy (free : s.rdB DPX_CMD DPX_CMD_BUSY = false) (side : Nat) :
    (s.wr DPX_CMD DPX_CMD_SIDE side).rdB DPX_CMD DPX_CMD_BUSY = false :=
  (State.rdB_wr_apart _ _ _ _ _ (by decide) (by decide) (by decide)).trans free

theorem dpxResult_result (s : State) (r : Nat) : (s.wr DPX_CMD DPX_CMD_RESULT r).rd DPX_CMD DPX_CMD_RESULT = r % 8 :=
  State.rd_wr_same _ _ _ _ (by decide)

end

/-- A command that changes listed words and answers RESULT. -/
theorem completes_of_dpxResult {i : Instr} {s m : State} {t r : Nat} {W : List Nat} {g : State → State} (hi : exec i s = .next (s.after t g))
    (hg : g (s.advance t) = m.wr DPX_CMD DPX_CMD_RESULT r) (only : OnlyWords W (s.advance t) m) (cmd : DPX_CMD ∈ W) :
    Completes i s fun u => u.rd DPX_CMD DPX_CMD_RESULT = r % 8 ∧ (∀ a, a ≠ DPX_CMD → u.rdW a = m.rdW a)
      ∧ (∀ f : Fld, f.lo + f.width ≤ 28 → u.rd DPX_CMD f = m.rd DPX_CMD f) ∧ OnlyWords W s u := by
  have all := only.trans (.wr m DPX_CMD_RESULT r cmd)
  exact completes_of_eq hi hg ⟨dpxResult_result m r, fun a ha => m.rdW_wr_ne _ _ ha,
    fun f hf => State.rd_wr_apart _ _ _ _ _ (by decide) (by omega) (.inr hf), by rw [all.1]; rfl, all.2⟩

/-- A command that answers RESULT alone. -/
theorem completes_of_dpxRefused {i : Instr} {s : State} {t r : Nat} {g : State → State} (hi : exec i s = .next (s.after t g))
    (hg : g (s.advance t) = (s.advance t).wr DPX_CMD DPX_CMD_RESULT r) :
    Completes i s fun u => u.rd DPX_CMD DPX_CMD_RESULT = r % 8 ∧ OnlyWords [DPX_CMD] s u := by
  obtain ⟨u, hu, result, -, -, only⟩ := completes_of_dpxResult hi hg (.refl _) (List.mem_singleton_self _)
  exact ⟨u, hu, result, only⟩

section

variable {s : State}

theorem requestRole_taken (member : s.pairMember = true) (free : s.role = 0 ∨ s.role = 6) :
    s.requestRole = (0, s.setDpx { s.dpx with asking := true, askAt := some s.now }) := if_pos ⟨member, by omega⟩

theorem requestRole_refused (live : s.role = 1 ∨ s.role = 2) : s.requestRole = (1, s) := if_neg (by rintro ⟨-, h⟩; omega)

theorem revertNow_refused (h : s.role ≠ 2) : s.revertNow = (1, s) := if_pos (.inl h)

theorem revertNow_preferred (standby : s.role = 2) (preferred : s.rdB DPX_CFG DPX_CFG_PREFERRED = true) : s.revertNow =
    if !s.rdB DPX_STAT DPX_STAT_ELIGIBLE then (2, s) else (0, s.wrB DPX_STAT DPX_STAT_REVERT_PENDING true) :=
  if_neg (by rw [preferred]; simp [standby])

theorem declareNow_refused (h : s.isReferee = false) : s.declareNow = (1, s) := if_neg (by rw [h]; simp)

theorem declareNow_taken (referee : s.isReferee = true) (active : s.refActive ≠ 0) : s.declareNow = (0, s.declare 3) :=
  if_pos ⟨referee, active⟩

theorem forceGrant_standby {side : Nat} {b : DpxBeat} (referee : s.isReferee = true) (beat : s.beat side = some b) (standby : b.role = 2) :
    s.forceGrant side = (0, (s.setRefActive (side + 1)).refSend 1 (s.sideModule side + 65536)) := by
  unfold State.forceGrant
  rw [if_neg (by rw [referee]; decide), beat]
  dsimp only
  rw [if_neg (by rw [standby]; decide), if_neg (by rw [standby]; decide)]

theorem forceGrant_fenced {side : Nat} {b : DpxBeat} (referee : s.isReferee = true) (beat : s.beat side = some b) (stale : b.role = 3) :
    s.forceGrant side = (3, s) := by
  unfold State.forceGrant
  rw [if_neg (by rw [referee]; decide), beat]
  exact if_pos stale

end

/-- The fence fields of DPX_REF_STAT are single bits of its word. -/
theorem fenceFld_bit (side : Nat) : (fenceFld side).lo + (fenceFld side).width ≤ 32 ∧ (fenceFld side).width = 1 := by
  unfold fenceFld
  split <;> decide

/-- Settles O34. -/
theorem duplexCommands : Obligations.DuplexCommands := by
  refine ⟨?request, ?requestRefused, ?requestBusy, ?revert, ?revertUnable, ?revertRefused, ?unfence, ?unfenceRefused, ?declare,
    ?declareRefused, ?grant, ?grantFenced⟩
  case request =>
    intro t s free member role
    let m := (s.advance t).setDpx { s.dpx with asking := true, askAt := some (s.advance t).now }
    have op : opRequestRole (s.advance t) = m.wr DPX_CMD DPX_CMD_RESULT 0 := dpxCmd_of (s := s.advance t) free (requestRole_taken member role)
    exact completes_of_eq (g := opRequestRole) rfl op ⟨rfl, dpxResult_result m 0, rfl, (OnlyWords.wr m _ _ (by simp)).2⟩
  case requestRefused =>
    intro t s free role
    exact completes_of_dpxRefused (g := opRequestRole) rfl (dpxCmd_of (s := s.advance t) free (requestRole_refused role))
  case requestBusy =>
    intro t s busy
    exact completes_of_idle (g := opRequestRole) rfl (if_pos busy)
  case revert =>
    intro t s free role preferred eligible
    let m := (s.advance t).wrB DPX_STAT DPX_STAT_REVERT_PENDING true
    have op : opRevertNow (s.advance t) = m.wr DPX_CMD DPX_CMD_RESULT 0 := dpxCmd_of (s := s.advance t) free
      ((revertNow_preferred (s := s.advance t) role preferred).trans
        (if_neg (by rw [show (s.advance t).rdB DPX_STAT DPX_STAT_ELIGIBLE = true from eligible]; decide)))
    obtain ⟨u, hu, result, keep, -, only⟩ := completes_of_dpxResult (i := .revertNow t) (W := [DPX_STAT, DPX_CMD]) rfl op
      (.wrB _ _ _ (by simp)) (by simp)
    refine ⟨u, hu, ?_, ?_, result, only⟩
    · exact (State.rdB_congr (keep _ (by decide)) _).trans (State.rdB_wrB_same (s.advance t) _ _ _ (by decide) rfl)
    · refine (State.rd_congr (keep _ (by decide)) _).trans ?_
      exact (State.rd_wr_apart (s.advance t) _ _ _ _ (by decide) (by decide) (by decide)).trans role
  case revertUnable =>
    intro t s free role preferred unable
    exact completes_of_dpxRefused (g := opRevertNow) rfl (dpxCmd_of (s := s.advance t) free
      ((revertNow_preferred (s := s.advance t) role preferred).trans
        (if_pos (by rw [show (s.advance t).rdB DPX_STAT DPX_STAT_ELIGIBLE = false from unable]; rfl))))
  case revertRefused =>
    intro t s free role
    exact completes_of_dpxRefused (g := opRevertNow) rfl (dpxCmd_of (s := s.advance t) free (revertNow_refused role))
  case unfence =>
    intro t side s free hside referee
    let c := (s.advance t).wr DPX_CMD DPX_CMD_SIDE side
    let m := c.wrB DPX_REF_STAT (fenceFld side) false
    have refC : c.isReferee = true := by
      unfold State.isReferee State.dpxOn State.role at referee ⊢
      rw [State.rdB_wr_ne _ _ _ _ (by decide), State.rd_wr_ne _ _ _ _ (by decide)]
      exact referee
    have op : opEvUnfence side (s.advance t) = m.wr DPX_CMD DPX_CMD_RESULT 0 := by
      refine dpxCmd_of (dpxSide_busy (s := s.advance t) free side) ?_
      rw [Nat.mod_eq_of_lt hside]
      exact if_pos (by rw [refC]; rfl)
    obtain ⟨u, hu, result, keep, low, only⟩ := completes_of_dpxResult (i := .evUnfence t side) (W := [DPX_REF_STAT, DPX_CMD]) rfl op
      ((OnlyWords.wr _ _ _ (by simp)).trans (.wrB _ _ _ (by simp))) (by simp)
    refine ⟨u, hu, ?_, result, ?_, only⟩
    · exact (State.rdB_congr (keep _ (by decide)) _).trans (State.rdB_wrB_same c _ _ _ (fenceFld_bit side).1 (fenceFld_bit side).2)
    · refine (low _ (by decide)).trans ((State.rd_wr_ne c _ _ _ (by decide)).trans ?_)
      exact (State.rd_wr_same (s.advance t) _ _ _ (by decide)).trans (Nat.mod_eq_of_lt hside)
  case unfenceRefused =>
    intro t side s free hside referee fence
    let c := (s.advance t).wr DPX_CMD DPX_CMD_SIDE side
    have refC : c.isReferee = false := by
      unfold State.isReferee State.dpxOn State.role at referee ⊢
      rw [State.rdB_wr_ne _ _ _ _ (by decide), State.rd_wr_ne _ _ _ _ (by decide)]
      exact referee
    have fenceC : c.rdB DPX_REF_STAT (fenceFld side) = false := (State.rdB_wr_ne _ _ _ _ (by decide)).trans fence
    have op : opEvUnfence side (s.advance t) = c.wr DPX_CMD DPX_CMD_RESULT 1 := by
      refine dpxCmd_of (dpxSide_busy (s := s.advance t) free side) ?_
      rw [Nat.mod_eq_of_lt hside]
      exact if_neg (by rw [refC, fenceC]; decide)
    obtain ⟨u, hu, result, -, -, only⟩ := completes_of_dpxResult (i := .evUnfence t side) (W := [DPX_CMD]) rfl op
      (.wr _ _ _ (by simp)) (by simp)
    exact ⟨u, hu, result, only⟩
  case declare =>
    intro t s free referee active
    exact exec_congr (f := opEvDeclare) rfl (dpxCmd_of (s := s.advance t) free (declareNow_taken referee active))
  case declareRefused =>
    intro t s free referee
    exact completes_of_dpxRefused (g := opEvDeclare) rfl (dpxCmd_of (s := s.advance t) free (declareNow_refused referee))
  case grant =>
    intro t side b s free hside referee beat standby
    refine exec_congr (f := opForceGrant side) rfl (dpxCmd_of (dpxSide_busy (s := s.advance t) free side) ?_)
    have refC : ((s.advance t).wr DPX_CMD DPX_CMD_SIDE side).isReferee = true := by
      unfold State.isReferee State.dpxOn State.role at referee ⊢
      rw [State.rdB_wr_ne _ _ _ _ (by decide), State.rd_wr_ne _ _ _ _ (by decide)]
      exact referee
    rw [Nat.mod_eq_of_lt hside]
    exact forceGrant_standby refC beat standby
  case grantFenced =>
    intro t side b s free hside referee beat stale
    let c := (s.advance t).wr DPX_CMD DPX_CMD_SIDE side
    have refC : c.isReferee = true := by
      unfold State.isReferee State.dpxOn State.role at referee ⊢
      rw [State.rdB_wr_ne _ _ _ _ (by decide), State.rd_wr_ne _ _ _ _ (by decide)]
      exact referee
    have op : opForceGrant side (s.advance t) = c.wr DPX_CMD DPX_CMD_RESULT 3 := by
      refine dpxCmd_of (dpxSide_busy (s := s.advance t) free side) ?_
      rw [Nat.mod_eq_of_lt hside]
      exact forceGrant_fenced refC beat stale
    obtain ⟨u, hu, result, keep, -, only⟩ := completes_of_dpxResult (i := .forceGrant t side) (W := [DPX_CMD]) rfl op
      (.wr _ _ _ (by simp)) (by simp)
    refine ⟨u, hu, result, ?_, only⟩
    exact (State.rd_congr (keep _ (by decide)) _).trans (State.rd_wr_ne (s.advance t) _ _ _ (by decide))

end Sys2Proof.Machine
end

section
/-! The key register: grants, creating operations and their ends (R435, R438, R439, R443). -/

namespace Sys2Proof.Machine

/-! ### What an operation reads of its machine -/

section

variable {s u : State}

theorem State.opInput_congr (hr : u.regs = s.regs) (hm : u.mem = s.mem) (hb : u.bufBad = s.bufBad) (n : Nat) : u.opInput n = s.opInput n := by
  have len : u.opLen = s.opLen := by unfold State.opLen State.rd State.rdW; rw [hr]
  have inp : u.opIn = s.opIn := by unfold State.opIn State.rd64 State.rdW; rw [hr]
  unfold State.opInput
  rw [len, inp, hb, State.bytes_congr hm]

theorem State.deriveInput_congr (hr : u.regs = s.regs) (hm : u.mem = s.mem) (hb : u.bufBad = s.bufBad) (o : Nat) :
    u.deriveInput o = s.deriveInput o := by
  have len : u.opLen = s.opLen := by unfold State.opLen State.rd State.rdW; rw [hr]
  have inp : u.opIn = s.opIn := by unfold State.opIn State.rd64 State.rdW; rw [hr]
  unfold State.deriveInput
  rw [len, inp, hb, State.bytes_congr hm]

theorem State.gcmInput_congr (hr : u.regs = s.regs) (hm : u.mem = s.mem) (hb : u.bufBad = s.bufBad) (o : Nat) :
    u.gcmInput o = s.gcmInput o := by
  have len : u.opLen = s.opLen := by unfold State.opLen State.rd State.rdW; rw [hr]
  have inp : u.opIn = s.opIn := by unfold State.opIn State.rd64 State.rdW; rw [hr]
  unfold State.gcmInput
  rw [len, inp, hb, State.bytes_congr hm]

theorem State.opInput_advance (s : State) (t n : Nat) : (s.advance t).opInput n = s.opInput n := State.opInput_congr (s := s) (u := s.advance t) rfl rfl rfl n
theorem State.deriveInput_advance (s : State) (t o : Nat) : (s.advance t).deriveInput o = s.deriveInput o := State.deriveInput_congr (s := s) (u := s.advance t) rfl rfl rfl o
theorem State.gcmInput_advance (s : State) (t o : Nat) : (s.advance t).gcmInput o = s.gcmInput o := State.gcmInput_congr (s := s) (u := s.advance t) rfl rfl rfl o

end

/-! ### Grants -/

section

variable {i : Instr} {s : State} {t op : Nat} {noData pub : Bool} {g : State → State} {cont o : State → KeyOp}

theorem grant_given {x : Nat} {need : KeyNeed} {m : Master} {secure : Bool} (h : s.grantStatus x need m secure = 0) :
    s.grant x need m secure = (0, s.bump cntKEY_GRANTS 1) := if_pos h

theorem withGrant_given (h : s.grantStatus s.opKey (keyNeed op noData pub) .steward s.stewardSecure = 0) :
    s.withGrant op noData pub cont = (s.bump cntKEY_GRANTS 1).startOp (cont (s.bump cntKEY_GRANTS 1)) := by
  unfold State.withGrant
  rw [grant_given h]
  exact if_neg (fun h => h rfl)

/-- A granted operation starts with what its continuation says of the granted machine. -/
theorem keyStarts_of (hi : exec i s = .next (s.after t g)) (ready : KeyGranted s op noData pub)
    (hg : g (s.advance t) = (s.advance t).withGrant op noData pub cont)
    (ho : cont ((s.advance t).bump cntKEY_GRANTS 1) = o ((s.advance t).bump cntKEY_GRANTS 1)) : KeyStarts i t s o := by
  unfold KeyStarts
  refine exec_congr hi (hg.trans ((withGrant_given (s := s.advance t) ready.2).trans ?_))
  rw [ho]

end

theorem opFree_not {s : State} (h : s.opFree = true) : ¬ ((!s.opFree) = true) := by rw [h]; decide

/-! ### The operations' equations -/

section

variable {s : State}

theorem opDerive_eq {l c : List Byte} (free : s.opFree = true) (input : s.deriveInput 0 = some (l, c)) :
    opDerive s = s.withGrant 1 false false fun s =>
      if s.createStatus s.opKey [2] ≠ 0 then refusedOp 1 (s.createStatus s.opKey [2])
      else { op := 1, uses := chainOf s.slot 10 s.opKey, status := 0,
             creates := some (s.opDst, s.newSlot s.opKey (kdf (s.slot s.opKey).value l c)) } := by
  unfold opDerive
  rw [if_neg (opFree_not free), input]

theorem opImport_eq {pub : Bool} {bs : List Byte} (free : s.opFree = true) (input : s.opInput (if pub then 32 else 40) = some bs) :
    opImport pub s = s.withGrant 2 false pub fun s =>
      if s.createStatus s.opKey (if pub then [4] else [2, 3]) ≠ 0 then refusedOp 2 (s.createStatus s.opKey (if pub then [4] else [2, 3]))
      else match (if pub then some (BitVec.ofNat 256 (beNat bs)) else Config.aesUnwrap (s.slot s.opKey).value (BitVec.ofNat 320 (beNat bs))) with
        | none => refusedOp 2 stKeyUnwrapFail
        | some v =>
          if s.askedSlot.type = 3 ∧ (v.toNat = 0 ∨ Config.p256Order ≤ v.toNat) then refusedOp 2 stKeyType
          else { op := 2, uses := chainOf s.slot 10 s.opKey, status := 0, creates := some (s.opDst, s.newSlot s.opKey v) } := by
  unfold opImport
  rw [if_neg (opFree_not free), input] <;> rfl

theorem opGenerate_weak (free : s.opFree = true) (len : s.opLen = 0) (buf : s.bufBad s.opOut 64 = false) (bad : s.key.entropyBad = true) :
    opGenerate s = s.startOp (refusedOp 4 stKeyType) := by
  unfold opGenerate
  rw [if_neg (opFree_not free), if_neg (by simp [len, buf]), if_pos bad]

theorem opGenerate_eq {v : BitVec 256} {g : State} (free : s.opFree = true) (len : s.opLen = 0) (buf : s.bufBad s.opOut 64 = false)
    (good : s.key.entropyBad = false) (draw : s.drawScalar = (v, g)) :
    opGenerate s = g.withGrant 4 false false fun s =>
      if s.createStatus s.opKey [3] ≠ 0 then refusedOp 4 (s.createStatus s.opKey [3])
      else { op := 4, uses := chainOf s.slot 10 s.opKey, status := 0, creates := some (s.opDst, s.newSlot s.opKey v),
             writes := writesAt s.opOut (beBytes 64 (Config.p256Public v).toNat) } := by
  unfold opGenerate
  rw [if_neg (opFree_not free), if_neg (by simp [len, buf]), if_neg (by rw [good]; decide), draw]

theorem opAgree_eq {l c : List Byte} (free : s.opFree = true) (input : s.deriveInput 64 = some (l, c)) (good : s.key.entropyBad = false) :
    opAgree s = s.withGrant 5 false false fun s =>
      if s.createStatus s.opKey [2] ≠ 0 then refusedOp 5 (s.createStatus s.opKey [2])
      else if !Config.p256OnCurve (BitVec.ofNat 512 (beNat (s.bytes s.opIn 64))) then refusedOp 5 stKeyPointBad
      else { op := 5, uses := chainOf s.slot 10 s.opKey, status := 0,
             creates := some (s.opDst, s.newSlot s.opKey
               (kdf (Config.p256Shared (s.slot s.opKey).value (BitVec.ofNat 512 (beNat (s.bytes s.opIn 64)))) l c)) } := by
  unfold opAgree
  rw [if_neg (opFree_not free), input]
  exact if_neg (by rw [good]; decide)

/-- A drawn scalar takes four free values. -/
theorem drawScalar_only {v : BitVec 256} {g : State} (draw : s.drawScalar = (v, g)) : g = { s with freeNext := s.freeNext + 4 } :=
  (congrArg Prod.snd draw).symm

end

/-! ### Starts and ends of operations -/

section

variable {s : State}

theorem startOp_key (s : State) (o : KeyOp) : (s.startOp o).key = { s.key with op := some o } := rfl

theorem setOpStat_busy (s : State) (busy : Bool) (count status : Nat) : (s.setOpStat busy count status).rdB KEY_OP_STAT KEY_OP_STAT_BUSY = busy := by
  unfold State.setOpStat
  rw [State.rdB_wr_apart _ _ _ _ _ (by decide) (by decide) (by decide), State.rdB_wr_apart _ _ _ _ _ (by decide) (by decide) (by decide)]
  exact State.rdB_wrB_same _ _ _ _ (by decide) rfl

theorem setOpStat_status (s : State) (busy : Bool) (count status : Nat) :
    (s.setOpStat busy count status).rd KEY_OP_STAT KEY_OP_STAT_STATUS = status % 2 ^ KEY_OP_STAT_STATUS.width :=
  State.rd_wr_same _ _ _ _ (by decide)

theorem setOpStat_count (s : State) (busy : Bool) (count status : Nat) :
    (s.setOpStat busy count status).rd KEY_OP_STAT KEY_OP_STAT_COUNT = count % 2 ^ KEY_OP_STAT_COUNT.width :=
  (State.rd_wr_apart _ _ _ _ _ (by decide) (by decide) (by decide)).trans (State.rd_wr_same _ _ _ _ (by decide))

/-- Only the word of KEY_OP_STAT changes. -/
theorem onlyWords_setOpStat {W : List Nat} (h : KEY_OP_STAT ∈ W) (s : State) (busy : Bool) (count status : Nat) :
    OnlyWords W s (s.setOpStat busy count status) :=
  ((OnlyWords.wrB _ _ _ h).trans (.wr _ _ _ h)).trans (.wr _ _ _ h)

theorem slot_setSlot_same (s : State) (x : Nat) (k : KeySlot) : (s.setSlot x k).slot x = k := cget_cset_same _ _ _ _

theorem slot_setSlot_ne (s : State) {x y : Nat} (h : y ≠ x) (k : KeySlot) : (s.setSlot x k).slot y = s.slot y := cget_cset_ne _ _ _ h

theorem keyOperationEnd_finished {o : KeyOp} (current : s.key.op = some o) (h : o.op ≠ 11 ∧ o.op ≠ 12 ∧ o.op ≠ 13) :
    opKeyOperationEnd none s = (s.finishOp o).retireOp o := by
  obtain ⟨h11, h12, h13⟩ := h
  unfold opKeyOperationEnd
  simp only [current]
  rw [if_neg (by rintro ⟨h | h, -⟩ <;> contradiction), if_neg (by rintro ⟨h, -⟩; contradiction)]

end

/-- Settles O38. -/
theorem keyCreation : Obligations.KeyCreation := by
  refine ⟨?derive, ?deriveRefused, ?importPublic, ?importWrapped, ?generateWeak, ?generate, ?generateStarts, ?agree, ?created⟩
  case derive =>
    intro t l c s ready input create
    refine keyStarts_of (g := opDerive) rfl ready (opDerive_eq (s := s.advance t) ready.1 ((s.deriveInput_advance t 0).trans input)) ?_
    exact if_neg (not_not_intro create)
  case deriveRefused =>
    intro t l c s ready input create
    refine keyStarts_of (g := opDerive) rfl ready (opDerive_eq (s := s.advance t) ready.1 ((s.deriveInput_advance t 0).trans input)) ?_
    exact if_pos create
  case importPublic =>
    intro t bs s ready input create asked
    refine keyStarts_of (g := opImport true) rfl ready
      (opImport_eq (s := s.advance t) (pub := true) ready.1 ((s.opInput_advance t 32).trans input)) ?_
    refine (if_neg (not_not_intro create)).trans ?_
    exact if_neg (fun h => absurd (asked.symm.trans h.1) (by decide))
  case importWrapped =>
    intro t bs s ready input create asked
    refine keyStarts_of (g := opImport false) rfl ready
      (opImport_eq (s := s.advance t) (pub := false) ready.1 ((s.opInput_advance t 40).trans input)) ?_
    refine (if_neg (not_not_intro create)).trans ?_
    rw [if_neg (by decide)]
    cases Config.aesUnwrap _ (BitVec.ofNat 320 (beNat bs)) with
    | none => rfl
    | some v => exact if_neg (fun h => absurd (asked.symm.trans h.1) (by decide))
  case generateWeak =>
    intro t s free len buf bad
    exact exec_congr (f := opGenerate) rfl (opGenerate_weak (s := s.advance t) free len buf bad)
  case generate =>
    intro t v g s free len buf good draw granted create
    refine exec_congr (f := opGenerate) rfl ((opGenerate_eq (s := s.advance t) free len buf good draw).trans ((withGrant_given granted).trans ?_))
    exact congrArg _ (if_neg (not_not_intro create))
  case generateStarts =>
    intro t v g s free len buf good draw granted create
    have op := (opGenerate_eq (s := s.advance t) free len buf good draw).trans ((withGrant_given granted).trans
      (congrArg _ (if_neg (not_not_intro create))))
    have drawn := drawScalar_only draw
    refine completes_of_eq (g := opGenerate) rfl op ⟨setOpStat_busy _ _ _ _, ?_, ?_, _, g.newSlot g.opKey v, rfl, rfl, rfl, ?_, rfl⟩
    · rw [startOp_key, drawn]; rfl
    · rw [drawn]; exact fun a => rfl
    · rw [drawn]; rfl
  case agree =>
    intro t l c s ready input good create
    refine keyStarts_of (g := opAgree) rfl ready (opAgree_eq (s := s.advance t) ready.1 ((s.deriveInput_advance t 64).trans input) good) ?_
    refine (if_neg (not_not_intro create)).trans ?_
    cases Config.p256OnCurve _ <;> rfl
  case created =>
    intro t o x k s current derive done writes creates
    have op := keyOperationEnd_finished (s := s.advance t) current (by rw [derive]; decide)
    have finished : (s.advance t).finishOp o = (s.advance t).setSlot x k := by
      unfold State.finishOp
      rw [creates, writes, done]
      rfl
    rw [finished] at op
    refine completes_of_eq (g := opKeyOperationEnd none) rfl op ⟨slot_setSlot_same _ _ _, fun y hy => slot_setSlot_ne _ hy _, rfl,
      setOpStat_busy _ _ _ _, (setOpStat_status _ _ _ _).trans (by rw [done]; rfl)⟩

end Sys2Proof.Machine
end

section
/-! Using a key: data in, tag or data out (R438, R455, R557). -/

namespace Sys2Proof.Machine

section

variable {s : State}

theorem opExport_eq (free : s.opFree = true) (len : s.opLen = 0) (buf : s.bufBad s.opOut 40 = false) : opExport s =
    s.withGrant 3 false false fun s =>
      if fixedSlot s.opDst then refusedOp 3 stKeyDenied
      else if !chainOk s.slot 10 s.opDst then refusedOp 3 stKeyOrphan
      else if (s.slot s.opDst).secure && !s.stewardSecure then refusedOp 3 stKeyDenied
      else if (s.slot s.opDst).type ≠ 2 ∧ (s.slot s.opDst).type ≠ 3 then refusedOp 3 stKeyType
      else if !(s.slot s.opDst).exportable then refusedOp 3 stKeyDenied
      else { op := 3, uses := chainOf s.slot 10 s.opKey ++ chainOf s.slot 10 s.opDst, status := 0,
             writes := writesAt s.opOut (beBytes 40 (Config.aesWrap (s.slot s.opKey).value (s.slot s.opDst).value).toNat) } := by
  unfold opExport
  rw [if_neg (opFree_not free), if_neg (by simp [len, buf])]

theorem opMac_eq (free : s.opFree = true) (len : s.opLen ≤ 4096) (inp : s.bufBad s.opIn s.opLen = false) (out : s.bufBad s.opOut 16 = false) :
    opMac true s = s.withGrant 6 false false fun s =>
      { op := 6, uses := chainOf s.slot 10 s.opKey, status := 0,
        writes := writesAt s.opOut (macTag (s.slot s.opKey).value (s.bytes s.opIn s.opLen) true) } := by
  unfold opMac
  rw [if_neg (opFree_not free)]
  exact if_neg (by simp [Nat.not_lt.mpr len, inp, out])

theorem opMac_long (free : s.opFree = true) (len : 4096 < s.opLen) : opMac true s = s.startOp (refusedOp 6 stKeyAddrBad) := by
  unfold opMac
  rw [if_neg (opFree_not free)]
  exact if_pos (.inl len)

theorem opVerify_eq (free : s.opFree = true) (tag : 16 ≤ s.opLen) (len : s.opLen - 16 ≤ 4096) (inp : s.bufBad s.opIn s.opLen = false) :
    opVerify true s = s.withGrant 7 false false fun s =>
      { op := 7, uses := chainOf s.slot 10 s.opKey,
        status := if macTag (s.slot s.opKey).value ((s.bytes s.opIn s.opLen).take (s.opLen - 16)) true = (s.bytes s.opIn s.opLen).drop (s.opLen - 16)
          then 0 else stKeyTagBad } := by
  unfold opVerify
  rw [if_neg (opFree_not free)]
  exact if_neg (by simp [inp]; omega)

theorem opEncrypt_eq {iv aad data tag : List Byte} (free : s.opFree = true) (input : s.gcmInput 0 = some (iv, aad, data, tag))
    (out : s.bufBad s.opOut (data.length + 16) = false) : opEncrypt s = s.withGrant 8 data.isEmpty false fun s =>
      { op := 8, uses := chainOf s.slot 10 s.opKey, status := 0,
        writes := writesAt s.opOut (gcmData (s.slot s.opKey).value iv data
          ++ gcmTagBytes (s.slot s.opKey).value iv aad (gcmData (s.slot s.opKey).value iv data)) } := by
  unfold opEncrypt
  rw [if_neg (opFree_not free), input]
  exact if_neg (by rw [out]; decide)

theorem opDecrypt_eq {iv aad ct tag : List Byte} (free : s.opFree = true) (input : s.gcmInput 16 = some (iv, aad, ct, tag))
    (out : s.bufBad s.opOut ct.length = false) : opDecrypt s = s.withGrant 9 ct.isEmpty false fun s =>
      if gcmTagBytes (s.slot s.opKey).value iv aad ct = tag then
        { op := 9, uses := chainOf s.slot 10 s.opKey, status := 0, writes := writesAt s.opOut (gcmData (s.slot s.opKey).value iv ct) }
      else { op := 9, uses := chainOf s.slot 10 s.opKey, status := stKeyTagBad } := by
  unfold opDecrypt
  rw [if_neg (opFree_not free), input]
  exact if_neg (by rw [out]; decide)

theorem opSigVerify_eq {bs : List Byte} (free : s.opFree = true) (input : s.opInput 160 = some bs) :
    opSigVerify s = s.withGrant 10 false false fun s =>
      { op := 10, uses := chainOf s.slot 10 s.opKey,
        status := if sigOk (s.slot s.opKey).value (BitVec.ofNat 512 (beAt bs 0 64)) (BitVec.ofNat 512 (beAt bs 64 64)) (BitVec.ofNat 256 (beAt bs 128 32))
          then 0 else stKeySigBad } := by
  unfold opSigVerify
  rw [if_neg (opFree_not free), input]

/-- A comparison that failed writes nothing and is counted (R455). -/
theorem finishOp_tagBad {o : KeyOp} (creates : o.creates = none) (writes : o.writes = []) (bad : o.status = stKeyTagBad) :
    s.finishOp o = s.bump cntKEY_TAG_FAIL 1 := by
  unfold State.finishOp
  rw [creates, writes, bad]
  rfl

end

/-- Settles O39. -/
theorem keyUse : Obligations.KeyUse := by
  refine ⟨?export_, ?mac, ?verify, ?encrypt, ?decrypt, ?sigVerify, ?macBusy, ?macLong, ?tagBad, ?noOperation⟩
  case export_ =>
    intro t s ready len buf notFixed chain world type exportable
    refine keyStarts_of (g := opExport) rfl ready (opExport_eq (s := s.advance t) ready.1 len buf) ?_
    refine (if_neg (Bool.eq_false_iff.mp notFixed)).trans ((if_neg (fun h => ?_)).trans ((if_neg (fun h => ?_)).trans
      ((if_neg (fun h => h.1 type)).trans (if_neg (fun h => ?_)))))
    · exact absurd (Eq.trans (congrArg _ chain.symm) h) (by decide)
    · rw [show (((s.advance t).bump cntKEY_GRANTS 1).slot ((s.advance t).bump cntKEY_GRANTS 1).opDst).secure = false from world] at h
      exact absurd h (by simp)
    · exact absurd (Eq.trans (congrArg _ exportable.symm) h) (by decide)
  case mac =>
    intro t s ready len inp out
    exact keyStarts_of (g := opMac true) rfl ready (opMac_eq (s := s.advance t) ready.1 len inp out) rfl
  case verify =>
    intro t s ready tag len inp
    exact keyStarts_of (g := opVerify true) rfl ready (opVerify_eq (s := s.advance t) ready.1 tag len inp) rfl
  case encrypt =>
    intro t iv aad data tag s input ready out
    exact keyStarts_of (g := opEncrypt) rfl ready (opEncrypt_eq (s := s.advance t) ready.1 ((s.gcmInput_advance t 0).trans input) out) rfl
  case decrypt =>
    intro t iv aad ct tag s input ready out
    exact keyStarts_of (g := opDecrypt) rfl ready (opDecrypt_eq (s := s.advance t) ready.1 ((s.gcmInput_advance t 16).trans input) out) rfl
  case sigVerify =>
    intro t bs s ready input
    exact keyStarts_of (g := opSigVerify) rfl ready (opSigVerify_eq (s := s.advance t) ready.1 ((s.opInput_advance t 160).trans input)) rfl
  case macBusy =>
    intro t s busy
    exact completes_of_idle (g := opMac true) rfl (if_pos (Eq.trans (congrArg _ busy) rfl))
  case macLong =>
    intro t s free len
    exact exec_congr (f := opMac true) rfl (opMac_long (s := s.advance t) free len)
  case tagBad =>
    intro t o s current verify creates writes bad
    have op := keyOperationEnd_finished (s := s.advance t) current (by rw [verify]; decide)
    rw [finishOp_tagBad creates writes bad] at op
    exact completes_of_eq (g := opKeyOperationEnd none) rfl op ⟨(setOpStat_status _ _ _ _).trans (by rw [bad]; rfl), setOpStat_busy _ _ _ _,
      State.count_bump_same (s.advance t) cntKEY_TAG_FAIL 1, fun a => rfl, fun x => rfl⟩
  case noOperation =>
    intro t s idle
    refine completes_of_idle (g := opKeyOperationEnd none) rfl ?_
    unfold opKeyOperationEnd
    dsimp only
    rw [show (s.advance t).key.op = none from idle]

end Sys2Proof.Machine
end

section
/-! The four key commands of a core, and their ends (R447, R453, R454). -/

namespace Sys2Proof.Machine

section

variable {s : State} {core n h op outLen : Nat} {noData : Bool} {src aad dst : List Nat}
  {run : BitVec 256 → List Byte → List Byte → KeyStage → Nat × List Byte × List Byte}

/-- What a granted key command puts under way (R453): its bytes are written at its end. -/
def State.twKeyUnderWay (g : State) (core n h op : Nat) (dst : List Nat) (r : BitVec 256 → Nat × List Byte × List Byte) : State :=
  let x := g.rd (KEY_HANDLE n (h % 32)) KEY_HANDLE_SLOT
  let y := r (g.slot x).value
  let o : KeyOp := { op := op, uses := chainOf g.slot 10 x, status := y.1, writes := dst.zip y.2.1, tag := y.2.2 }
  { g with key := { g.key with coreOps := g.key.coreOps ++ [(core, o)] } }

theorem coreOps_free (h : ∀ x ∈ s.key.coreOps, x.1 ≠ core) : ¬ (s.key.coreOps.any (fun x => x.1 == core)) = true := by
  simpa using fun o ho => h (core, o) ho rfl

theorem twKey_given (ready : TwKeyReady s core n h op outLen noData src aad dst) : s.twKey core h op outLen noData run =
    (s.bump cntKEY_GRANTS 1).twKeyUnderWay core n h op dst fun k => run k (src.map s.byte) (aad.map s.byte) (s.keyStage core) := by
  obtain ⟨tenant, none_, len, aadLen, hsrc, haad, hdst, valid, granted⟩ := ready
  unfold State.twKey
  rw [tenant]
  dsimp only
  rw [if_neg (coreOps_free none_), if_neg (by omega), hsrc, haad, hdst]
  dsimp only
  rw [if_neg (by rw [valid]; decide), grant_given granted]
  rfl

/-- A command whose staged input is too long is refused (R453). -/
theorem twKey_long (tenant : s.coreTenant core = some n) (none_ : ∀ x ∈ s.key.coreOps, x.1 ≠ core) (len : 4096 < (s.keyStage core).len) :
    s.twKey core h op outLen noData run = s.setKeyStage core { s.keyStage core with stat := stKeyAddrBad } := by
  unfold State.twKey
  rw [tenant]
  dsimp only
  rw [if_neg (coreOps_free none_), if_pos (.inl len)]

theorem twKey_noTenant (tenant : s.coreTenant core = none) : s.twKey core h op outLen noData run = s := by
  unfold State.twKey
  rw [tenant]

theorem keyStage_setKeyStage (s : State) (core : Nat) (x : KeyStage) : (s.setKeyStage core x).keyStage core = x := cget_cset_same _ _ _ _

/-- A key command's handle, ranges and grant do not depend on the instant. -/
theorem twKeyReady_advance (t : Nat) (ready : TwKeyReady s core n h op outLen noData src aad dst) :
    TwKeyReady (s.advance t) core n h op outLen noData src aad dst := ready

end

section

variable {s : State} {core n h op outLen t : Nat} {noData : Bool} {src aad dst : List Nat} {i : Instr} {g : State → State}
  {run : BitVec 256 → List Byte → List Byte → KeyStage → Nat × List Byte × List Byte}

theorem twKeyStarts_of (hi : exec i s = .next (s.after t g)) (ready : TwKeyReady s core n h op outLen noData src aad dst)
    (hg : g (s.advance t) = (s.advance t).twKey core h op outLen noData run) :
    TwKeyStarts i t core n h op dst s fun k => run k (src.map s.byte) (aad.map s.byte) (s.keyStage core) :=
  exec_congr hi (hg.trans (twKey_given (s := s.advance t) (twKeyReady_advance t ready)))

end

/-- A core's only operation in progress ends with its status and its tag. -/
theorem drainUsers_only {s : State} {core : Nat} {o : KeyOp} (only : s.key.coreOps = [(core, o)]) (creates : o.creates = none)
    (writes : o.writes = []) (done : o.status = 0) : s.drainUsers (fun p => p.1 == core) =
      ({ s with key := { s.key with coreOps := [] } } : State).setKeyStage core
        { s.keyStage core with stat := 0, tag := if o.tag = [] then (s.keyStage core).tag else o.tag } := by
  unfold State.drainUsers State.finishOp
  simp only [only, List.filter_cons, List.filter_nil, beq_self_eq_true, if_true, Bool.not_true, Bool.false_eq_true, if_false,
    List.foldl_cons, List.foldl_nil, creates, writes, done]
  rfl

/-- Settles O41. -/
theorem coreKeyCommands : Obligations.CoreKeyCommands := by
  refine ⟨?mac, ?verify, ?encrypt, ?decrypt, ?long, ?noTenant, ?ends⟩
  case mac =>
    intro t core n h b src aad dst s ready
    exact twKeyStarts_of (g := opTwKeyCmdMac core h b) rfl ready rfl
  case verify =>
    intro t core n h b src aad dst s ready
    exact twKeyStarts_of (g := opTwKeyCmdVerify core h b) rfl ready rfl
  case encrypt =>
    intro t core n h src aad dst s ready
    exact twKeyStarts_of (g := opTwKeyCmdEncrypt core h) rfl ready rfl
  case decrypt =>
    intro t core n h src aad dst s ready
    exact twKeyStarts_of (g := opTwKeyCmdDecrypt core h) rfl ready rfl
  case long =>
    intro t core n h b s tenant none_ len
    have op : opTwKeyCmdMac core h b (s.advance t) = _ := twKey_long (s := s.advance t) tenant none_ len
    exact completes_of_eq (g := opTwKeyCmdMac core h b) rfl op
      ⟨congrArg KeyStage.stat (keyStage_setKeyStage _ _ _), rfl, fun a => rfl⟩
  case noTenant =>
    intro t core h b s tenant
    exact completes_of_idle (g := opTwKeyCmdMac core h b) rfl (twKey_noTenant (s := s.advance t) tenant)
  case ends =>
    intro t core o s only creates writes done
    have op : opKeyOperationEnd (some core) (s.advance t) = _ := drainUsers_only (s := s.advance t) only creates writes done
    refine completes_of_eq (g := opKeyOperationEnd (some core)) rfl op
      ⟨rfl, congrArg KeyStage.stat (keyStage_setKeyStage _ _ _), fun tag => ?_, fun a => rfl⟩
    exact (congrArg KeyStage.tag (keyStage_setKeyStage _ _ _)).trans (if_neg tag)

end Sys2Proof.Machine
end

section
/-! Tamper, battery supply and entropy (R449 to R452, R505). -/

namespace Sys2Proof.Machine

/-! ### What the steps of a tamper keep of the watch -/

/-- The latch, the live inputs and the emptied register, as the end of the sessions leaves them. -/
structure TamperKept (s u : State) : Prop where
  emptied : u.key.emptied = s.key.emptied
  op : u.key.op = s.key.op
  coreOps : u.key.coreOps = s.key.coreOps
  live : u.key.live = s.key.live
  tampered : u.rdB KEY_STAT KEY_STAT_TAMPERED = s.rdB KEY_STAT KEY_STAT_TAMPERED
  cause : u.rdW KEY_TAMPER_CAUSE = s.rdW KEY_TAMPER_CAUSE

namespace TamperKept

theorem refl (s : State) : TamperKept s s := ⟨rfl, rfl, rfl, rfl, rfl, rfl⟩

theorem trans {s u v : State} (h : TamperKept s u) (k : TamperKept u v) : TamperKept s v :=
  ⟨k.emptied.trans h.emptied, k.op.trans h.op, k.coreOps.trans h.coreOps, k.live.trans h.live, k.tampered.trans h.tampered, k.cause.trans h.cause⟩

theorem foldl {β : Type} {f : State → β → State} (l : List β) (s : State) (h : ∀ u, ∀ b ∈ l, TamperKept u (f u b)) : TamperKept s (l.foldl f s) :=
  List.foldlRecOn (motive := TamperKept s) l f (.refl s) fun _ ih b hb => ih.trans (h _ b hb)

theorem wrW (s : State) {a : Nat} (w : Word) (h : a / 2 ^ 24 ≠ 12) : TamperKept s (s.wrW a w) :=
  ⟨rfl, rfl, rfl, rfl, State.rdB_congr (s.rdW_wrW_ne w (by rintro rfl; exact h rfl)) _, s.rdW_wrW_ne w (by rintro rfl; exact h rfl)⟩

theorem of_same {s u : State} (k : u.key = s.key) (h : u.regs = s.regs) : TamperKept s u :=
  ⟨by rw [k], by rw [k], by rw [k], by rw [k], State.rdB_congr (State.rdW_congr h _) _, State.rdW_congr h _⟩

theorem of_eventOnly {s u : State} (h : EventOnly s u) : TamperKept s u where
  emptied := congrArg Key.emptied h.key
  op := congrArg Key.op h.key
  coreOps := congrArg Key.coreOps h.key
  live := congrArg Key.live h.key
  tampered := State.rdB_congr (h.words KEY_STAT (not_eventWord (by decide) (by decide))) _
  cause := h.words KEY_TAMPER_CAUSE (not_eventWord (by decide) (by decide))

end TamperKept

section

variable (s : State)

theorem tamperKept_setSlot (x : Nat) (k : KeySlot) : TamperKept s (s.setSlot x k) :=
  ⟨rfl, rfl, rfl, rfl, State.rdB_wr_apart _ _ _ _ _ (by decide) (by decide) (by decide), State.rdW_wr_ne _ _ _ (by decide)⟩

theorem tamperKept_zeroise (cause : Nat) : TamperKept s (s.zeroise cause) := by
  unfold State.zeroise
  refine TamperKept.trans ?_ (.of_eventOnly (.postTo _ _ _ (by split <;> decide)))
  exact ⟨rfl, rfl, rfl, rfl, State.rdB_wr_apart _ _ _ _ _ (by decide) (by decide) (by decide), State.rdW_wr_ne _ _ _ (by decide)⟩

theorem tamperKept_zeroiseAll (cause : Nat) : TamperKept s (s.zeroiseAll cause) :=
  (tamperKept_zeroise s cause).trans (.foldl _ _ fun u c _ => tamperKept_setSlot u c.1 _)

theorem tamperKept_invalidateNow (x : Nat) (destroy : Bool) : TamperKept s (s.invalidateNow x destroy).2 := by
  have slot : TamperKept s (s.invalidateSlot x destroy) := by
    unfold State.invalidateSlot
    split <;> exact tamperKept_setSlot s x _
  exact (slot.trans (.of_same (u := (s.invalidateSlot x destroy).bump cntKEY_INVALIDATES 1) rfl rfl)).trans (.of_eventOnly (.post _ _ _))

/-- The aperture registers stand apart from the key registers. -/
theorem aper_apart {a : Nat} (h : a < 16) : MBX_APER_CTRL a / 2 ^ 24 ≠ 12 ∧ MBX_APER_LEN a / 2 ^ 24 ≠ 12 ∧ MBX_APER_BASE_LO a / 2 ^ 24 ≠ 12
    ∧ MBX_APER_BASE_HI a / 2 ^ 24 ≠ 12 := by
  unfold MBX_APER_CTRL MBX_APER_LEN MBX_APER_BASE_LO MBX_APER_BASE_HI
  omega

theorem tamperKept_closeAperture {a : Nat} (h : a < 16) : TamperKept s (s.closeAperture a) := by
  obtain ⟨ctrl, len, lo, hi⟩ := aper_apart h
  unfold State.closeAperture
  extract_lets b n erased src closed
  have keep : TamperKept s closed := .of_same rfl rfl
  exact (((keep.trans (.wrW _ _ ctrl)).trans (.wrW _ _ len)).trans (.wrW _ _ lo)).trans (.wrW _ _ hi)

theorem tamperKept_endSession (id cause : Nat) : TamperKept s (s.endSession id cause) := by
  unfold State.endSession
  cases s.mbx.sessions.find? (fun x => x.id == id) with
  | none => exact .refl s
  | some x =>
    dsimp only
    refine TamperKept.trans ?_ (.of_eventOnly (.postTo _ _ _ (by decide)))
    refine TamperKept.trans ?_ (.foldl _ _ fun u a ha => tamperKept_closeAperture u (List.mem_range.mp (List.mem_filter.mp ha).1))
    refine TamperKept.trans ?_ (tamperKept_invalidateNow _ _ _)
    exact .of_same rfl rfl

theorem tamperKept_endSessions (cause : Nat) : TamperKept s (s.endSessions cause) :=
  .foldl _ _ fun u x _ => tamperKept_endSession u x.id cause

end

/-! ### The steps of a tamper -/

section

variable (s : State)

theorem foldl_key_stage {f : State → Nat × KeyOp → State} (hf : ∀ u x, ∃ st, f u x = { u with key := { u.key with stage := st } })
    (l : List (Nat × KeyOp)) : ∃ st, l.foldl f s = { s with key := { s.key with stage := st } } := by
  refine List.foldlRecOn (motive := fun u => ∃ st, u = { s with key := { s.key with stage := st } }) l f ⟨s.key.stage, rfl⟩ ?_
  rintro u ⟨st, rfl⟩ x -
  obtain ⟨st', h⟩ := hf { s with key := { s.key with stage := st } } x
  exact ⟨st', h⟩

/-- No operation is left in progress. -/
theorem abortOps_ended : s.abortOps.key.op = none ∧ s.abortOps.key.coreOps = [] ∧ s.abortOps.key.live = s.key.live := by
  unfold State.abortOps
  extract_lets cores src a srcA b
  have ended : b.key.op = none ∧ b.key.live = s.key.live := by
    simp only [b, srcA, a]
    cases h : s.key.op with
    | none => exact ⟨h, rfl⟩
    | some o => exact ⟨rfl, rfl⟩
  have staged (u : State) : (∃ st, u = { b with key := { b.key with stage := st } }) → u.key.op = none ∧ u.key.coreOps = [] ∧ u.key.live = s.key.live := by
    rintro ⟨st, rfl⟩
    exact ⟨ended.1, rfl, ended.2⟩
  refine staged _ (foldl_key_stage b ?_ cores)
  exact fun u x => ⟨_, rfl⟩

/-- The latch itself, before its event: the cause, its phase and its time. -/
def State.tamperMark (s : State) (cause phase time : Nat) : State :=
  let s := if !s.rdB KEY_TAMPER_CAUSE KEY_TAMPER_CAUSE_LATCHED
    then (s.wr KEY_TAMPER_CAUSE KEY_TAMPER_CAUSE_PHASE phase).wr64 KEY_TAMPER_TIME_LO KEY_TAMPER_TIME_HI time else s
  let s := s.wrB KEY_TAMPER_CAUSE KEY_TAMPER_CAUSE_LATCHED true
  let s := if cause = 4 then s.wrB KEY_TAMPER_CAUSE KEY_TAMPER_CAUSE_VBAT_LOST true
    else s.wr KEY_TAMPER_CAUSE KEY_TAMPER_CAUSE_INPUTS (s.rd KEY_TAMPER_CAUSE KEY_TAMPER_CAUSE_INPUTS ||| 2 ^ cause)
  (s.wrB KEY_STAT KEY_STAT_TAMPERED true).bump cntKEY_TAMPERS 1

theorem tamperLatch_eq (cause phase time : Nat) (hold : Bool) : s.tamperLatch cause phase time hold =
    let m := s.tamperMark cause phase time
    if hold || !m.almOn then { m with key := { m.key with held := m.key.held ++ [(cause, phase, time)] } }
    else m.post 0x0C07 (p1 cause ++ p1 phase ++ p8 time) := rfl

/-- The words a latched cause stands in. -/
def TamperWord (a : Nat) : Prop := a = KEY_TAMPER_CAUSE ∨ a = KEY_TAMPER_TIME_LO ∨ a = KEY_TAMPER_TIME_HI ∨ a = KEY_STAT

/-- What a latched cause leaves. -/
structure TamperMarked (s : State) (cause : Nat) (u : State) : Prop where
  key : u.key = s.key
  tampered : u.rdB KEY_STAT KEY_STAT_TAMPERED = true
  latched : u.rdB KEY_TAMPER_CAUSE KEY_TAMPER_CAUSE_LATCHED = true
  vbat : cause = 4 → u.rdB KEY_TAMPER_CAUSE KEY_TAMPER_CAUSE_VBAT_LOST = true
  words : ∀ a, ¬ TamperWord a → u.rdW a = s.rdW a

theorem tamperMark_marked (cause phase time : Nat) : TamperMarked s cause (s.tamperMark cause phase time) := by
  unfold State.tamperMark
  extract_lets a b c
  have ha : a.key = s.key ∧ ∀ x, ¬ TamperWord x → a.rdW x = s.rdW x := by
    simp only [a]
    split
    · refine ⟨rfl, fun x hx => ?_⟩
      unfold State.wr64
      rw [State.rdW_wrW_ne _ _ (fun h => hx (by simp [TamperWord, h])), State.rdW_wrW_ne _ _ (fun h => hx (by simp [TamperWord, h])),
        State.rdW_wr_ne _ _ _ (fun h => hx (by simp [TamperWord, h]))]
    · exact ⟨rfl, fun x _ => rfl⟩
  have hb : b.rdB KEY_TAMPER_CAUSE KEY_TAMPER_CAUSE_LATCHED = true := State.rdB_wrB_same a _ _ _ (by decide) rfl
  have hc : c.key = s.key ∧ c.rdB KEY_TAMPER_CAUSE KEY_TAMPER_CAUSE_LATCHED = true
      ∧ (cause = 4 → c.rdB KEY_TAMPER_CAUSE KEY_TAMPER_CAUSE_VBAT_LOST = true) ∧ ∀ x, ¬ TamperWord x → c.rdW x = s.rdW x := by
    have hbw : ∀ x, ¬ TamperWord x → b.rdW x = s.rdW x := fun x hx =>
      (State.rdW_wrB_ne _ _ _ (fun h => hx (.inl h))).trans (ha.2 x hx)
    simp only [c]
    split
    next h => exact ⟨ha.1, (State.rdB_wr_apart b _ _ _ _ (by decide) (by decide) (by decide)).trans hb,
        fun _ => State.rdB_wrB_same b _ _ _ (by decide) rfl, fun x hx => (State.rdW_wrB_ne _ _ _ (fun h => hx (.inl h))).trans (hbw x hx)⟩
    next h => exact ⟨ha.1, (State.rdB_wr_apart b _ _ _ _ (by decide) (by decide) (by decide)).trans hb, fun e => absurd e h,
        fun x hx => (State.rdW_wr_ne _ _ _ (fun h => hx (.inl h))).trans (hbw x hx)⟩
  obtain ⟨ckey, clatched, cvbat, cwords⟩ := hc
  have keep : (c.wrB KEY_STAT KEY_STAT_TAMPERED true).rdW KEY_TAMPER_CAUSE = c.rdW KEY_TAMPER_CAUSE := State.rdW_wrB_ne _ _ _ (by decide)
  exact ⟨ckey, State.rdB_wrB_same c _ _ _ (by decide) rfl, (State.rdB_congr keep _).trans clatched, fun h => (State.rdB_congr keep _).trans (cvbat h),
    fun x hx => (State.rdW_wrB_ne _ _ _ (fun h => hx (by simp [TamperWord, h]))).trans (cwords x hx)⟩

/-- What stays of the watch once a cause is latched and told, or held for the next start-up. -/
structure TamperTold (s : State) (cause : Nat) (u : State) : Prop where
  key : ∃ held, u.key = { s.key with held := held }
  tampered : u.rdB KEY_STAT KEY_STAT_TAMPERED = true
  latched : u.rdB KEY_TAMPER_CAUSE KEY_TAMPER_CAUSE_LATCHED = true
  vbat : cause = 4 → u.rdB KEY_TAMPER_CAUSE KEY_TAMPER_CAUSE_VBAT_LOST = true
  words : ∀ a, ¬ TamperWord a → ¬ eventWord a → u.rdW a = s.rdW a

theorem tamperLatch_told (cause phase time : Nat) (hold : Bool) : TamperTold s cause (s.tamperLatch cause phase time hold) := by
  obtain ⟨key, tampered, latched, vbat, words⟩ := tamperMark_marked s cause phase time
  rw [tamperLatch_eq]
  generalize s.tamperMark cause phase time = m at *
  dsimp only
  split
  · exact ⟨⟨_, by rw [key]⟩, tampered, latched, vbat, fun a ha _ => words a ha⟩
  · have e := EventOnly.post m 0x0C07 (p1 cause ++ p1 phase ++ p8 time)
    have cause_ := e.words KEY_TAMPER_CAUSE (not_eventWord (by decide) (by decide))
    exact ⟨⟨s.key.held, e.key.trans key⟩, (State.rdB_congr (e.words KEY_STAT (not_eventWord (by decide) (by decide))) _).trans tampered,
      (State.rdB_congr cause_ _).trans latched, fun h => (State.rdB_congr cause_ _).trans (vbat h), fun a ha he => (e.words a he).trans (words a ha)⟩

/-- The machine with input `n` live, as KEY_TAMPER_LEVEL then shows it. -/
def State.tamperSeen (s : State) (n : Nat) : State :=
  ({ s with key := { s.key with live := s.key.live ||| 2 ^ n,
                                raw := (s.key.raw &&& (15 ^^^ 2 ^ n)) ||| (if s.tamperBit n 1 then 0 else 2 ^ n) } } : State).tamperShow

end

section

variable {s : State} {n : Nat}

theorem opTamperEvent_idle (h : s.tamperBit n 0 = false) : opTamperEvent n s = s := if_pos (.inr (.inl (by rw [h]; rfl)))

theorem opTamperEvent_run (hn : n < 4) (enabled : s.tamperBit n 0 = true) (live : s.key.live.testBit n = false) (lc : s.lc ≠ 3)
    (dormant : s.sys.dormant = 0) (power : s.sys.pwrReq = true) (por : s.sys.porLow = false) (rst : s.sys.rstLow = false)
    (advent : s.sys.advent = none) : opTamperEvent n s =
      (((((s.tamperSeen n).abortOps.tamperZero).tamperJobs).tamperLatch n
        (if (s.tamperSeen n).key.op.isSome || !(s.tamperSeen n).key.coreOps.isEmpty then 3 else 2) (s.tamperSeen n).stamp false).endSessions 4) := by
  unfold opTamperEvent
  rw [if_neg (by simp [enabled, live]; omega)]
  extract_lets normal src u v off early busy phase time
  have hv : v = s.tamperSeen n := rfl
  have hoff : off = false := by simp only [off, v, u]; show (decide (s.sys.dormant = 1) || !s.sys.pwrReq) = false; rw [dormant, power]; rfl
  have hearly : early = false := by
    show (s.sys.porLow || s.sys.rstLow || decide (s.sys.dormant = 2)) = false
    rw [por, rst, dormant]; rfl
  have hadvent : v.sys.advent.isSome = false := by show s.sys.advent.isSome = false; rw [advent]; rfl
  have hphase : phase = if busy then 3 else 2 := by simp [phase, hoff, hearly, hadvent]
  have htime : time = v.stamp := by simp [time, hoff]
  rw [if_neg (show v.lc ≠ 3 from lc), if_neg (by rw [hoff]; decide), if_neg (by rw [hearly]; decide), if_neg (by rw [hadvent]; decide), hphase, htime]
  rfl

/-- A tamper in RUN leaves the register empty, nothing in progress and its cause latched. -/
theorem opTamperEvent_emptied (hn : n < 4) (enabled : s.tamperBit n 0 = true) (live : s.key.live.testBit n = false) (lc : s.lc ≠ 3)
    (dormant : s.sys.dormant = 0) (power : s.sys.pwrReq = true) (por : s.sys.porLow = false) (rst : s.sys.rstLow = false)
    (advent : s.sys.advent = none) : ∃ u, opTamperEvent n s = u ∧ u.key.emptied = true ∧ u.key.op = none ∧ u.key.coreOps = []
      ∧ u.key.live.testBit n = true ∧ u.rdB KEY_STAT KEY_STAT_TAMPERED = true ∧ u.rdB KEY_TAMPER_CAUSE KEY_TAMPER_CAUSE_LATCHED = true := by
  refine ⟨_, opTamperEvent_run hn enabled live lc dormant power por rst advent, ?_⟩
  generalize (if (s.tamperSeen n).key.op.isSome || !(s.tamperSeen n).key.coreOps.isEmpty then 3 else 2) = phase
  generalize (s.tamperSeen n).stamp = time
  obtain ⟨op, coreOps, liveA⟩ := abortOps_ended (s.tamperSeen n)
  have zero := tamperKept_zeroiseAll (s.tamperSeen n).abortOps 3
  generalize (s.tamperSeen n).abortOps = a at op coreOps liveA zero ⊢
  have zeroed : a.tamperZero.tamperJobs.key = { (a.zeroiseAll 3).key with emptied := true } := rfl
  obtain ⟨⟨held, key⟩, tampered, latched, -, -⟩ := tamperLatch_told a.tamperZero.tamperJobs n phase time false
  generalize a.tamperZero.tamperJobs.tamperLatch n phase time false = b at key tampered latched ⊢
  rw [zeroed] at key
  have kept := tamperKept_endSessions b 4
  refine ⟨kept.emptied.trans (by rw [key]), kept.op.trans (by rw [key]; exact zero.op.trans op),
    kept.coreOps.trans (by rw [key]; exact zero.coreOps.trans coreOps), ?_, kept.tampered.trans tampered, (State.rdB_congr kept.cause _).trans latched⟩
  rw [kept.live, key]
  dsimp only
  rw [zero.live, liveA]
  show (s.key.live ||| 2 ^ n).testBit n = true
  simp

end

section

variable {s : State}

/-- What an input that returns to its normal level leaves of the watch's own part. -/
theorem opTamperEventEnd_key {n : Nat} (hn : n < 4) : ∃ raw, opTamperEventEnd n s =
    ({ s with key := { s.key with live := s.key.live &&& (15 ^^^ 2 ^ n), raw := raw } } : State).tamperShow :=
  ⟨_, if_neg (by omega)⟩

theorem onlyWords_tamperShow {W : List Nat} (h : KEY_TAMPER_LEVEL ∈ W) (s : State) : OnlyWords W s s.tamperShow :=
  (OnlyWords.wr s _ _ h).trans (.wr _ _ _ h)

theorem testBit_live_end {n : Nat} (hn : n < 4) (live : Nat) : (live &&& (15 ^^^ 2 ^ n)).testBit n = false := by
  have clear : (15 ^^^ 2 ^ n).testBit n = false := by interval_cases n <;> rfl
  rw [Nat.testBit_land, clear, Bool.and_false]

/-- In DEPLOYED a battery supply that returns is told as a tamper in Dormant (R449). -/
theorem opVbatLost_deployed (low : s.key.vbatLow = true) (deployed : s.lc = 2) (dormant : s.sys.dormant = 1) : opVbatLost s =
    (({ s with key := { s.key with vbatLow := false, slots := [] } } : State).wrW KEY_TAMPER_CFG (BitVec.ofNat 32 s.fuses.tamper)).tamperLatch
      4 4 0 true := by
  unfold opVbatLost
  rw [if_neg (by rw [low]; decide)]
  extract_lets src u v srcV w
  have hv : v = u.wrW KEY_TAMPER_CFG (BitVec.ofNat 32 s.fuses.tamper) := if_pos (by show 2 ≤ s.lc; omega)
  have lc : v.lc = 2 := by rw [hv]; exact deployed
  rw [if_pos lc]
  have hw : w = { v with key := { v.key with slots := [] } } := if_pos (.inl (by rw [hv]; exact dormant))
  rw [hw, hv]
  rfl

end

/-- Where the operation begins by giving the key part a value, that value is the one it leaves. -/
theorem onlyEvents_with_key {W C : List Nat} {s u : State} {t : Nat} {x : Key} (h : OnlyEvents W C { s.advance t with key := x } u) :
    OnlyEvents W C { s with key := u.key } u := by
  have key : u.key = x := (congrArg State.key h.1 :)
  rw [key]
  exact ⟨h.1, h.2⟩

/-- The queue is as it was, and the instant is no part of what changed. -/
theorem onlyEvents_stamped {W C : List Nat} {s u : State} {q : List Instr} (h : OnlyEvents W C s u) (hq : s.pending = q) (n : Nat) :
    OnlyEvents W C s { u with pending := q, now := n } :=
  ⟨by rw [h.1, ← hq], h.2⟩

/-- Settles O42. -/
theorem tamperRules : Obligations.TamperRules := by
  refine ⟨?disabled, ?runs, ?emptied, ?endAbsent, ?ends, ?vbatLow, ?vbatNot, ?vbatVirgin, ?vbatDeployed, ?entropyBad, ?entropyGood⟩
  case disabled =>
    intro t n s h
    exact completes_of_idle (g := opTamperEvent n) rfl (opTamperEvent_idle (s := s.advance t) h)
  case runs =>
    intro t n s hn enabled live lc dormant power por rst advent
    exact exec_congr (f := opTamperEvent n) rfl (opTamperEvent_run (s := s.advance t) hn enabled live lc dormant power por rst advent)
  case emptied =>
    intro t n s hn enabled live lc dormant power por rst advent
    obtain ⟨u, op, facts⟩ := opTamperEvent_emptied (s := s.advance t) hn enabled live lc dormant power por rst advent
    exact completes_of_eq (g := opTamperEvent n) rfl op facts
  case endAbsent =>
    intro t n s hn
    exact completes_of_idle (g := opTamperEventEnd n) rfl (if_pos hn)
  case ends =>
    intro t n s hn
    obtain ⟨raw, op⟩ := opTamperEventEnd_key (s := s.advance t) hn
    exact completes_of_eq (g := opTamperEventEnd n) rfl op ⟨testBit_live_end hn _, rfl, rfl,
      (onlyWords_tamperShow (List.mem_singleton_self _) _).2⟩
  case vbatLow =>
    intro t s
    refine completes_of_eq (g := opVbatBelowMinimum) rfl rfl ⟨rfl, rfl, rfl, rfl, ?_, ?_, ?_, fun a => rfl⟩
    · exact State.rdB_wrB_same _ _ _ _ (by decide) rfl
    · exact (State.rdB_wr_ne _ _ _ _ (by decide)).trans ((State.rdB_wr_apart _ _ _ _ _ (by decide) (by decide) (by decide)).trans
        (State.rdB_wrB_same _ _ _ _ (by decide) rfl))
    · exact (State.rdB_wr_ne _ _ _ _ (by decide)).trans (State.rdB_wrB_same _ _ _ _ (by decide) rfl)
  case vbatNot =>
    intro t s h
    exact completes_of_idle (g := opVbatLost) rfl (if_pos (Eq.trans (congrArg _ h) rfl))
  case vbatVirgin =>
    intro t s low lc
    have op : opVbatLost (s.advance t) = { s.advance t with key := { s.key with vbatLow := false } } := by
      unfold opVbatLost
      rw [if_neg (by rw [show (s.advance t).key.vbatLow = true from low]; decide)]
      extract_lets src u v
      have hv : v = u := if_neg (by show ¬ 2 ≤ s.lc; omega)
      rw [if_neg (by rw [hv]; show s.lc ≠ 2; omega), hv]
      rfl
    exact completes_of_eq (g := opVbatLost) rfl op rfl
  case vbatDeployed =>
    intro t s low lc dormant
    have op := opVbatLost_deployed (s := s.advance t) low lc dormant
    obtain ⟨⟨held, key⟩, tampered, -, vbat, words⟩ := tamperLatch_told
      (({ s.advance t with key := { s.key with vbatLow := false, slots := [] } } : State).wrW KEY_TAMPER_CFG (BitVec.ofNat 32 s.fuses.tamper)) 4 4 0 true
    refine completes_of_eq (g := opVbatLost) rfl op ⟨tampered, vbat rfl, ?_, ?_⟩
    · exact (congrArg Key.slots key).trans rfl
    · refine (words KEY_TAMPER_CFG (by unfold TamperWord; decide) (not_eventWord (by decide) (by decide))).trans (State.rdW_wrW_same _ _ _)
  case entropyBad =>
    intro t s
    have e : EventOnly { s.advance t with key := { s.key with entropyBad := true } } (opEntropyFailure (s.advance t)) := .post _ _ _
    have only : OnlyEvents [] [] { s with key := (opEntropyFailure (s.advance t)).key } (opEntropyFailure (s.advance t)) :=
      onlyEvents_with_key (s := s) (t := t) (x := { s.key with entropyBad := true }) (.of_eventOnly e)
    exact completes_of_eq (g := opEntropyFailure) rfl rfl ⟨congrArg Key.entropyBad e.key, onlyEvents_stamped only rfl (max s.now t)⟩
  case entropyGood =>
    intro t s
    exact completes_of_eq (g := opEntropyRestored) rfl rfl rfl

end Sys2Proof.Machine
end

section
/-! Mailbox doorbells, posts and buffer writes (R480, R502). -/

namespace Sys2Proof.Machine

/-! ### A mailbox's state -/

section

variable (s : State) (m : Nat) (x : HostBox)

theorem box_setBox_same : (s.setBox m x).box m = x := cget_cset_same _ _ _ _

theorem box_setBox_ne {k : Nat} (h : k ≠ m) : (s.setBox m x).box k = s.box k := cget_cset_ne _ _ _ h

theorem onlyWords_setBox : OnlyWords [MBX_BUSY] { s with mbx := (s.setBox m x).mbx } (s.setBox m x) :=
  OnlyWords.wr { s with mbx := (s.setBox m x).mbx } MBX_BUSY_MAILBOXES _ (List.mem_singleton_self _)

/-- MBX_BUSY shows the mailboxes that are BUSY. -/
theorem testBit_busy_setBox (h : m < 32) :
    ((s.setBox m x).rd MBX_BUSY MBX_BUSY_MAILBOXES).testBit m = decide (x.state = 1) := by
  refine (congrArg (Nat.testBit · m) (State.rd_wr_same _ _ _ _ (by decide))).trans ?_
  show ((_ : Nat) % 2 ^ 32).testBit m = _
  rw [Nat.testBit_mod_two_pow, decide_eq_true h, Bool.true_and]
  have clear : (0xFFFFFFFF ^^^ 2 ^ m).testBit m = false := by
    rw [Nat.testBit_xor, Nat.testBit_two_pow_self, show (0xFFFFFFFF : Nat) = 2 ^ 32 - 1 from rfl, Nat.testBit_two_pow_sub_one, decide_eq_true h]
    rfl
  by_cases hx : x.state = 1
  · rw [if_pos hx, decide_eq_true hx, Nat.testBit_lor, Nat.testBit_two_pow_self, Bool.or_true]
  · rw [if_neg hx, decide_eq_false hx, Nat.testBit_land, clear, Bool.and_false]

theorem rd_setBox_ne {a : Nat} (f : Fld) (h : a ≠ MBX_BUSY) : (s.setBox m x).rd a f = s.rd a f := State.rd_wr_ne _ _ _ _ h

theorem box_ignoreDb : (s.ignoreDb m).box m = { s.box m with dbIgnored := true } := box_setBox_same _ _ _

theorem box_ignoreDb_ne {k : Nat} (h : k ≠ m) : (s.ignoreDb m).box k = s.box k := box_setBox_ne _ _ _ h

theorem count_ignoreDb : (s.ignoreDb m).count cntMBX_DB_IGNORED = (s.count cntMBX_DB_IGNORED + 1) % 2 ^ 64 :=
  State.count_bump_same (s.setBox m { s.box m with dbIgnored := true }) cntMBX_DB_IGNORED 1

end

/-- A list of cells written at keys that differ: each key reads what was written there. -/
theorem cget_foldl_cset_mem {α : Type} [DecidableEq α] {d : Nat → α} (off : Nat) : ∀ (l : List (Nat × α)) (m : Cells α),
    l.Pairwise (fun p q => p.1 ≠ q.1) → ∀ p ∈ l, cget d (l.foldl (fun m p => cset d m (off + p.1) p.2) m) (off + p.1) = p.2
  | q :: l, m, hl, p, hp => by
    obtain ⟨hq, hl⟩ := List.pairwise_cons.mp hl
    have keep : ∀ (l : List (Nat × α)) (m : Cells α), (∀ r ∈ l, q.1 ≠ r.1) →
        cget d (l.foldl (fun m p => cset d m (off + p.1) p.2) m) (off + q.1) = cget d m (off + q.1) := by
      intro l
      induction l with
      | nil => exact fun m _ => rfl
      | cons r l ih =>
        intro m h
        have hr := h r List.mem_cons_self
        exact (ih _ fun x hx => h x (List.mem_cons_of_mem _ hx)).trans (cget_cset_ne _ _ _ (by omega))
    rcases List.mem_cons.mp hp with rfl | hp
    · exact (keep l _ hq).trans (cget_cset_same _ _ _ _)
    · exact cget_foldl_cset_mem off l _ hl p hp

/-- Bytes put in the steward's SRAM stand there. -/
theorem sram_setSram (s : State) (off : Nat) (bs : List Byte) (k : Nat) (h : k < bs.length) :
    cget (fun _ => 0) (s.setSram off bs).mbx.sram (off + k) = bs[k] := by
  have apart : ((List.range bs.length).zip bs).Pairwise (fun p q => p.1 ≠ q.1) := by
    have fst : ((List.range bs.length).zip bs).map Prod.fst = List.range bs.length := List.map_fst_zip (by simp)
    have nodup : (((List.range bs.length).zip bs).map Prod.fst).Nodup := by
      rw [fst]
      exact List.nodup_range
    exact List.pairwise_map.mp nodup
  exact cget_foldl_cset_mem off _ _ apart (k, bs[k]) (by
    rw [List.mem_iff_getElem]
    exact ⟨k, by simpa using h, by simp⟩)

section

variable {s : State} {m : Nat}

/-- What posting a response sends to the host. -/
theorem wire_vector (on : Bool) : (s.vector m on).wire =
    if on && s.rdB MBX_STAT MBX_STAT_PCIE_LINK && !(s.msixWord (16 * m + 12)).toNat.testBit 0 then s.wire ++ [.msix m] else s.wire := by
  unfold State.vector
  cases on with
  | false => rfl
  | true =>
    cases s.rdB MBX_STAT MBX_STAT_PCIE_LINK with
    | false => rfl
    | true => cases (s.msixWord (16 * m + 12)).toNat.testBit 0 <;> rfl

theorem box_vector (v : Nat) (on : Bool) (k : Nat) : (s.vector v on).box k = s.box k := by
  unfold State.vector
  split
  · rfl
  · split <;> rfl

/-- A response posted interrupts the host where its mailbox, the link and the vector's mask let it (R480). -/
theorem wire_postResp (len : Nat) (completion : Bool) : (s.postResp m len completion).wire =
    if (s.box m).intEn && s.rdB MBX_STAT MBX_STAT_PCIE_LINK && !(s.msixWord (16 * m + 12)).toNat.testBit 0 then s.wire ++ [.msix m] else s.wire := by
  unfold State.postResp
  generalize hb : ({ s.box m with state := 2, length := len, completion := completion } : HostBox) = x
  have link : (s.setBox m x).rdB MBX_STAT MBX_STAT_PCIE_LINK = s.rdB MBX_STAT MBX_STAT_PCIE_LINK := State.rdB_wr_ne _ _ _ _ (by decide)
  rw [wire_vector, link]
  rfl

theorem box_postResp (len : Nat) (completion : Bool) :
    (s.postResp m len completion).box m = { s.box m with state := 2, length := len, completion := completion } :=
  (box_vector _ _ _).trans (box_setBox_same _ _ _)

theorem opCommandBufferWrite_free {off : Nat} {bs : List Byte} (hm : m < 32) (len : off + bs.length ≤ 4096) (free : (s.box m).state = 0) :
    opCommandBufferWrite m off bs s = s.setSram (m * 0x2000 + off) bs :=
  (if_neg (by omega)).trans (if_pos free)

theorem opCommandBufferWrite_busy {off : Nat} {bs : List Byte} (hm : m < 32) (len : off + bs.length ≤ 4096) (busy : (s.box m).state ≠ 0) :
    opCommandBufferWrite m off bs s = s.bump cntMBX_WRITE_WHILE_BUSY 1 :=
  (if_neg (by omega)).trans (if_neg busy)

theorem doorbell_heard (hm : m < 32) (on : s.hostOn = true) : ¬ (32 ≤ m ∨ (!s.hostOn) = true) := by
  rw [on]
  simp [hm]

theorem opDoorbellCommand_free (hm : m < 32) (on : s.hostOn = true) (free : (s.box m).state = 0) : opDoorbellCommand m s =
    (s.setBox m { s.box m with state := 1, fetch := false, restart := false, dbIgnored := false }).bump cntMBX_COMMANDS 1 :=
  (if_neg (doorbell_heard hm on)).trans (if_pos free)

theorem opDoorbellAck_ready (hm : m < 32) (on : s.hostOn = true) (ready : (s.box m).state = 2) : opDoorbellAck m s =
    s.setBox m { s.box m with state := 0, dbIgnored := false } :=
  (if_neg (doorbell_heard hm on)).trans (if_pos ready)

theorem opDoorbellFetch_pending (hm : m < 32) (on : s.hostOn = true) (free : (s.box m).state = 0) (some_ : 0 < s.pendCount m) :
    opDoorbellFetch m s = s.setBox m { s.box m with state := 1, fetch := true, dbIgnored := false } :=
  (if_neg (doorbell_heard hm on)).trans (if_pos ⟨free, some_⟩)

theorem opMbxMbResp_bad {v : Word} (hm : m < 32) (post : fget MBX_MB_RESP_POST v = 1)
    (bad : (s.box m).state ≠ 1 ∨ fget MBX_MB_RESP_LENGTH v < 36 ∨ 4096 < fget MBX_MB_RESP_LENGTH v) :
    opMbxMbResp m v s = s.wrB MBX_STAT MBX_STAT_CFG_REJ true := by
  unfold opMbxMbResp
  extract_lets len
  rw [if_neg (by omega)]
  exact if_pos bad

theorem opMbxMbResp_posted {v : Word} (hm : m < 32) (post : fget MBX_MB_RESP_POST v = 1) (busy : (s.box m).state = 1)
    (lo : 36 ≤ fget MBX_MB_RESP_LENGTH v) (hi : fget MBX_MB_RESP_LENGTH v ≤ 4096) :
    opMbxMbResp m v s = s.postResp m (fget MBX_MB_RESP_LENGTH v) (fget MBX_MB_RESP_COMPLETION v == 1) := by
  unfold opMbxMbResp
  extract_lets len
  rw [if_neg (by omega)]
  exact if_neg (by simp only [len]; omega)

end

/-- A doorbell that finds no work for it is ignored and counted. -/
theorem completes_of_ignored {i : Instr} {s : State} {t m : Nat} {g : State → State} (hi : exec i s = .next (s.after t g))
    (hg : g (s.advance t) = (s.advance t).ignoreDb m) : Completes i s fun u =>
      u.box m = { s.box m with dbIgnored := true } ∧ u.count cntMBX_DB_IGNORED = (s.count cntMBX_DB_IGNORED + 1) % 2 ^ 64
        ∧ ∀ k, k ≠ m → u.box k = s.box k :=
  completes_of_eq hi hg ⟨box_ignoreDb (s.advance t) m, count_ignoreDb (s.advance t) m, fun _ h => box_ignoreDb_ne (s.advance t) m h⟩

/-- Settles O46. -/
theorem mailboxDoorbells : Obligations.MailboxDoorbells := by
  refine ⟨?command, ?commandIgnored, ?off, ?ack, ?ackIgnored, ?fetch, ?fetchIgnored, ?noPost, ?badPost, ?post, ?write, ?busyWrite⟩
  case command =>
    intro t m s on hm free
    have op := opDoorbellCommand_free (s := s.advance t) hm on free
    exact completes_of_eq (g := opDoorbellCommand m) rfl op ⟨box_setBox_same _ _ _, testBit_busy_setBox _ _ _ hm,
      State.count_bump_same ((s.advance t).setBox m _) cntMBX_COMMANDS 1, fun k h => box_setBox_ne _ _ _ h, rfl,
      (onlyWords_setBox (s.advance t) m _).2⟩
  case commandIgnored =>
    intro t m s on hm busy
    exact completes_of_ignored (g := opDoorbellCommand m) rfl ((if_neg (doorbell_heard (s := s.advance t) hm on)).trans (if_neg busy))
  case off =>
    intro t m s off
    exact completes_of_idle (g := opDoorbellCommand m) rfl (if_pos (.inr (Eq.trans (congrArg _ off) rfl)))
  case ack =>
    intro t m s on hm ready
    have op := opDoorbellAck_ready (s := s.advance t) hm on ready
    exact completes_of_eq (g := opDoorbellAck m) rfl op ⟨box_setBox_same _ _ _, testBit_busy_setBox _ _ _ hm,
      fun k h => box_setBox_ne _ _ _ h, rfl, (onlyWords_setBox (s.advance t) m _).2⟩
  case ackIgnored =>
    intro t m s on hm busy
    obtain ⟨u, hu, box, count, -⟩ := completes_of_ignored (i := .doorbellAck t m) (g := opDoorbellAck m) rfl
      ((if_neg (doorbell_heard (s := s.advance t) hm on)).trans (if_neg (fun h => absurd (busy.symm.trans h) (by decide))))
    exact ⟨u, hu, box, count⟩
  case fetch =>
    intro t m s on hm free some_
    have op := opDoorbellFetch_pending (s := s.advance t) hm on free some_
    exact completes_of_eq (g := opDoorbellFetch m) rfl op ⟨box_setBox_same _ _ _, testBit_busy_setBox _ _ _ hm, rfl,
      (onlyWords_setBox (s.advance t) m _).2⟩
  case fetchIgnored =>
    intro t m s on hm none_
    obtain ⟨u, hu, box, count, -⟩ := completes_of_ignored (i := .doorbellFetch t m) (g := opDoorbellFetch m) rfl
      ((if_neg (doorbell_heard (s := s.advance t) hm on)).trans (if_neg (fun h => absurd (none_ : (s.advance t).pendCount m = 0) (Nat.ne_of_gt h.2))))
    exact ⟨u, hu, box, count⟩
  case noPost =>
    intro t m v s post
    exact completes_of_idle (g := opMbxMbResp m v) rfl (if_pos (.inr post))
  case badPost =>
    intro t m v s hm post bad
    have op := opMbxMbResp_bad (s := s.advance t) hm post bad
    exact completes_of_eq (g := opMbxMbResp m v) rfl op ⟨State.rdB_wrB_same (s.advance t) _ _ _ (by decide) rfl, rfl, rfl,
      (OnlyWords.wrB (s.advance t) _ _ (List.mem_singleton_self _)).2⟩
  case post =>
    intro t m v s hm post busy lo hi
    have op := opMbxMbResp_posted (s := s.advance t) hm post busy lo hi
    exact completes_of_eq (g := opMbxMbResp m v) rfl op ⟨box_postResp _ _, wire_postResp _ _⟩
  case write =>
    intro t m off bs s hm len free
    exact completes_of_eq (g := opCommandBufferWrite m off bs) rfl (opCommandBufferWrite_free (s := s.advance t) hm len free)
      ⟨fun k h => sram_setSram _ _ _ k h, rfl⟩
  case busyWrite =>
    intro t m off bs s hm len busy
    exact completes_of_eq (g := opCommandBufferWrite m off bs) rfl (opCommandBufferWrite_busy (s := s.advance t) hm len busy)
      ⟨State.count_bump_same (s.advance t) _ _, rfl⟩

end Sys2Proof.Machine
end

section
/-! The firmware's turns, datagrams and completions (R478, R491 to R494). -/

namespace Sys2Proof.Machine

/-! ### Turns -/

section

variable {s : State} {k : Nat}

theorem opCommandProcess_off (h : s.mbx.ready = false) : opCommandProcess s = s := if_pos (.inr (by rw [h]; rfl))

theorem opCommandProcess_none (h : s.nextTurn = none) : opCommandProcess s = s := by
  unfold opCommandProcess
  rw [h]
  exact ite_self s

theorem opCommandProcess_turn (en : s.rdB MBX_CTRL MBX_CTRL_EN = true) (ready : s.mbx.ready = true) (turn : s.nextTurn = some k) :
    opCommandProcess s =
      let m : State := { s with mbx := { s.mbx with turn := k } }
      if k < 32 then if (s.box k).fetch then m.postOldest k else m.takeCommand (.mbx k) (m.sramBytes (k * 0x2000) 4096)
      else m.servePeer (k - 32) := by
  unfold opCommandProcess
  rw [if_neg (by rw [en, ready]; decide), turn]
  rfl

/-- The registers that show a mailbox's completions stand apart from the others of their block. -/
theorem pend_apart {m : Nat} (hm : m < 32) : MBX_MB_PEND m ≠ MBX_BUSY ∧ MBX_MB_PEND m ≠ MBX_STAT := by
  unfold MBX_MB_PEND MBX_BUSY MBX_STAT
  omega

theorem regs_vector (v : Nat) (on : Bool) : (s.vector v on).regs = s.regs := by
  unfold State.vector
  split
  · rfl
  · split <;> rfl

theorem jobs_vector (v : Nat) (on : Bool) : (s.vector v on).mbx.jobs = s.mbx.jobs := by
  unfold State.vector
  split
  · rfl
  · split <;> rfl

theorem box_pendWrite (m n k : Nat) : (s.pendWrite m n).box k = s.box k := by
  unfold State.pendWrite
  extract_lets was
  split
  · rfl
  · exact box_vector _ _ _

theorem jobs_pendWrite (m n : Nat) : (s.pendWrite m n).mbx.jobs = s.mbx.jobs := by
  unfold State.pendWrite
  extract_lets was
  split
  · rfl
  · exact jobs_vector _ _

theorem pendWrite_words {m n a : Nat} (hn : n ≤ 16) (h : a ≠ MBX_MB_PEND m) : (s.pendWrite m n).rdW a = s.rdW a := by
  unfold State.pendWrite
  extract_lets was
  rw [if_neg (by omega)]
  exact (State.rdW_congr (regs_vector _ _) _).trans (s.rdW_wr_ne _ _ h)

theorem pendCount_pendWrite {m n : Nat} (hn : n ≤ 16) : (s.pendWrite m n).pendCount m = n := by
  unfold State.pendWrite
  extract_lets was
  rw [if_neg (by omega)]
  refine (State.rd_congr (State.rdW_congr (regs_vector _ _) _) _).trans ((s.rd_wr_same _ _ _ (by decide)).trans ?_)
  exact Nat.mod_eq_of_lt (by show n < 2 ^ 5; omega)

/-- The oldest completion is posted, and the rest waits. -/
theorem postOldest_posted {b : List Byte} {rest : List (List Byte)} (hk : k < 32) (queue : (s.box k).queue = b :: rest) (len : rest.length ≤ 16) :
    (s.postOldest k).box k = { s.box k with queue := rest, state := 2, length := b.length, completion := true }
      ∧ (s.postOldest k).pendCount k = rest.length ∧ ((s.postOldest k).rd MBX_BUSY MBX_BUSY_MAILBOXES).testBit k = false := by
  unfold State.postOldest
  rw [queue]
  dsimp only
  have own : (s.setBox k { s.box k with queue := rest }).box k = { s.box k with queue := rest } := box_setBox_same _ _ _
  generalize s.setBox k { s.box k with queue := rest } = q at own ⊢
  refine ⟨(box_pendWrite _ _ _).trans ((box_postResp _ _).trans ?_), pendCount_pendWrite len, ?_⟩
  · rw [show (q.setSram (k * 0x2000 + 0x1000) b).box k = { s.box k with queue := rest } from own]
  · rw [State.rd_congr (pendWrite_words len (pend_apart hk).1.symm)]
    unfold State.postResp
    rw [State.rd_congr (State.rdW_congr (regs_vector _ _) _), testBit_busy_setBox _ _ _ hk]
    rfl

end

/-! ### Datagrams -/

section

variable {s : State} {addr port ident : Nat} {b : List Byte}

theorem opUdpDatagram_off {dport off : Nat} {more : Bool} (h : s.rdB MBX_CTRL MBX_CTRL_UDP_EN = false) :
    opUdpDatagram addr port dport ident off more b s = s := if_pos (.inr (.inl (by rw [h]; rfl)))

theorem opUdpDatagram_foreign {dport off : Nat} {more : Bool} (h : ¬ OwnAddress s addr) :
    opUdpDatagram addr port dport ident off more b s = s := if_pos (.inr (.inr (.inl (by simpa using h))))

/-- A datagram for the management port, whole or the first fragment of one, is heard. -/
theorem datagram_heard (en : s.rdB MBX_CTRL MBX_CTRL_EN = true) (udp : s.rdB MBX_CTRL MBX_CTRL_UDP_EN = true) (own : OwnAddress s addr)
    (len : b.length ≤ 4096) : ¬ ((!s.rdB MBX_CTRL MBX_CTRL_EN) = true ∨ (!s.rdB MBX_CTRL MBX_CTRL_UDP_EN) = true
      ∨ (!(if addr < 2 ^ 32 then s.mbx.ip4.isSome else s.mbx.ip6.isSome)) = true ∨ s.rd MBX_UDP MBX_UDP_PORT ≠ s.rd MBX_UDP MBX_UDP_PORT
      ∨ 4096 < 0 + b.length) := by
  rw [en, udp, own]
  simp [len]

theorem datagram_firstPeer (ready : s.mbx.ready = true) (peers : s.mbx.peers = []) : s.datagram addr port b =
    { s with mbx := { s.mbx with peers := [{ addr := addr, port := port, queue := [b], lastAt := s.now }] } } := by
  unfold State.datagram
  rw [if_neg (by rw [ready]; decide)]
  simp [peers]

theorem opUdpDatagram_whole (en : s.rdB MBX_CTRL MBX_CTRL_EN = true) (udp : s.rdB MBX_CTRL MBX_CTRL_UDP_EN = true) (own : OwnAddress s addr)
    (len : b.length ≤ 4096) : opUdpDatagram addr port (s.rd MBX_UDP MBX_UDP_PORT) ident 0 false b s = s.datagram addr port b :=
  (if_neg (datagram_heard en udp own len)).trans (if_pos ⟨rfl, rfl⟩)

theorem opUdpDatagram_firstFragment (en : s.rdB MBX_CTRL MBX_CTRL_EN = true) (udp : s.rdB MBX_CTRL MBX_CTRL_UDP_EN = true) (own : OwnAddress s addr)
    (len : b.length ≤ 4096) (reass : s.mbx.reass = []) : opUdpDatagram addr port (s.rd MBX_UDP MBX_UDP_PORT) ident 0 true b s =
      { s with mbx := { s.mbx with reass := [{ addr := addr, ident := ident, startAt := s.now, parts := [(0, b)], total := none }] } } := by
  refine (if_neg (datagram_heard en udp own len)).trans ((if_neg (fun h => nomatch h.2)).trans ?_)
  rw [reass]
  rfl

end

/-! ### Completions -/

/-- What the answer of a completion leaves of the mailboxes and the operations that wait. -/
structure BoxesKept (s u : State) : Prop where
  boxes : u.mbx.boxes = s.mbx.boxes
  jobs : u.mbx.jobs = s.mbx.jobs

namespace BoxesKept

theorem trans {s u v : State} (h : BoxesKept s u) (k : BoxesKept u v) : BoxesKept s v := ⟨k.boxes.trans h.boxes, k.jobs.trans h.jobs⟩

theorem of_eventOnly {s u : State} (h : EventOnly s u) : BoxesKept s u := ⟨by rw [h.mbx], by rw [h.mbx]⟩

end BoxesKept

section

variable (s : State)

theorem boxesKept_grant (x : Nat) (need : KeyNeed) (m : Master) (secure : Bool) : BoxesKept s (s.grant x need m secure).2 := by
  obtain ⟨a, n, h⟩ := eventOnly_grant s x need m secure
  exact BoxesKept.trans (u := s.bump a n) ⟨rfl, rfl⟩ (.of_eventOnly h)

theorem boxesKept_sessionKey (x : Session) (op : Nat) : BoxesKept s (s.sessionKey x op).2 := by
  unfold State.sessionKey
  split
  · exact ⟨rfl, rfl⟩
  · exact boxesKept_grant s _ _ _ _

theorem boxesKept_keepResponse (id seq : Nat) (cmd resp : List Byte) : BoxesKept s (s.keepResponse id seq cmd resp) := by
  unfold State.keepResponse
  split <;> exact ⟨rfl, rfl⟩

theorem boxesKept_auditEvent (op session principal status : Nat) : BoxesKept s (s.auditEvent op session principal status) :=
  .of_eventOnly (.postTo _ _ _ (by decide))

end

section

variable {s : State} {j : Job}

/-- The completion of a mailbox's session joins the mailbox's queue, and its operation waits no more. -/
theorem endJob_mailbox {st d m : Nat} {b : List Byte} {x : Session} (via : j.via = .mbx m)
    (known : s.mbx.sessions.find? (fun y => y.id == j.session) = some x) :
    (∃ r, ((s.endJob j st d b).box m).queue = (s.box m).queue ++ [r]) ∧ ((s.endJob j st d b).box m).state = (s.box m).state
      ∧ (s.endJob j st d b).mbx.jobs = s.mbx.jobs.filter (fun k => !(k.session == j.session && k.seq == j.seq)) := by
  unfold State.endJob
  extract_lets src rest
  have found : rest.mbx.sessions.find? (fun y => y.id == j.session) = some x := known
  rw [found]
  have kept := boxesKept_sessionKey rest x 6
  dsimp only
  generalize rest.sessionKey x 6 = p at kept ⊢
  obtain ⟨key, a⟩ := p
  dsimp only at kept ⊢
  generalize msgBytes key 3 j.opcode j.tag j.session j.seq (statusBytes st d ++ b) = r
  have told := (kept.trans (boxesKept_keepResponse a j.session j.seq j.command r)).trans (boxesKept_auditEvent _ j.opcode j.session x.principal st)
  generalize (a.keepResponse j.session j.seq j.command r).auditEvent j.opcode j.session x.principal st = v at told ⊢
  rw [via]
  have box : v.box m = s.box m := by unfold State.box; rw [told.boxes]
  have same := (box_pendWrite (s := v.setBox m { v.box m with queue := (v.box m).queue ++ [r] }) m ((v.box m).queue ++ [r]).length m).trans
    (box_setBox_same _ _ _)
  refine ⟨⟨r, ?_⟩, ?_, (jobs_pendWrite _ _).trans told.jobs⟩
  · rw [same, box]
  · rw [same, box]

theorem opCompletion_done {st d : Nat} {b : List Byte} {f : Bool} (found : s.mbx.jobs.find? (fun k => k.session == j.session && k.seq == j.seq) = some j)
    (outcome : j.outcome = some (st, d, b)) (other : j.opcode ≠ 0x0904) : opCompletion j.session j.seq f s = s.endJob j st d b := by
  unfold opCompletion
  rw [found]
  dsimp only
  rw [outcome]
  dsimp only
  rw [if_neg other]

theorem opCompletion_lifeCycle {f : Bool} (found : s.mbx.jobs.find? (fun k => k.session == j.session && k.seq == j.seq) = some j)
    (outcome : j.outcome = none) (lc : j.opcode = 0x0C22) :
    opCompletion j.session j.seq f s = ((s.lcTake j.obj j.session f).2).endJob j (s.lcTake j.obj j.session f).1 0 [] := by
  unfold opCompletion
  rw [found]
  dsimp only
  rw [outcome]
  dsimp only
  rw [if_pos lc]

theorem opCompletion_waits {f : Bool} (found : s.mbx.jobs.find? (fun k => k.session == j.session && k.seq == j.seq) = some j)
    (outcome : j.outcome = none) (other : j.opcode ≠ 0x0C22) (none_ : s.jobEnd j = none) : opCompletion j.session j.seq f s = s := by
  unfold opCompletion
  rw [found]
  dsimp only
  rw [outcome]
  dsimp only
  rw [if_neg other, none_]

end

/-! ### Repeats over UDP -/

section

variable {s : State} {x : UdpDone}

theorem opUdpCompletionRepeat_early (found : s.mbx.udpDone.find? (fun y => y.session == x.session && y.seq == x.seq) = some x)
    (early : s.now < x.sentAt + 100000000) : opUdpCompletionRepeat x.session x.seq s = s := by
  unfold opUdpCompletionRepeat
  rw [found]
  exact if_pos early

theorem opUdpCompletionRepeat_only (only : s.mbx.udpDone = [x]) (due : x.sentAt + 100000000 ≤ s.now) : opUdpCompletionRepeat x.session x.seq s =
    if 10 ≤ x.sends then { s with mbx := { s.mbx with udpDone := [], complLost := s.mbx.complLost + 1 } }
    else ({ s with mbx := { s.mbx with udpDone := [{ x with sends := x.sends + 1, sentAt := s.now }] } } : State).send (.udp x.addr x.port x.bytes) := by
  unfold opUdpCompletionRepeat
  rw [show s.mbx.udpDone.find? (fun y => y.session == x.session && y.seq == x.seq) = some x by rw [only]; simp]
  dsimp only
  rw [if_neg (by omega)]
  simp [only]

end

/-- Settles O47. -/
theorem firmwareTurns : Obligations.FirmwareTurns := by
  refine ⟨?notReady, ?noTurn, ?command, ?fetch, ?fetched, ?peer, ?udpOff, ?foreign, ?whole, ?fragment, ?timeout, ?noJob, ?done, ?queued,
    ?lifeCycle, ?waits, ?early, ?repeat_, ?last⟩
  case notReady =>
    intro t s h
    exact completes_of_idle (g := opCommandProcess) rfl (opCommandProcess_off (s := s.advance t) h)
  case noTurn =>
    intro t s h
    exact completes_of_idle (g := opCommandProcess) rfl (opCommandProcess_none (s := s.advance t) h)
  case command =>
    intro t k s en ready turn hk fetch
    refine exec_congr (f := opCommandProcess) rfl ((opCommandProcess_turn (s := s.advance t) en ready turn).trans ?_)
    exact (if_pos hk).trans (if_neg (Bool.eq_false_iff.mp fetch))
  case fetch =>
    intro t k s en ready turn hk fetch
    refine exec_congr (f := opCommandProcess) rfl ((opCommandProcess_turn (s := s.advance t) en ready turn).trans ?_)
    exact (if_pos hk).trans (if_pos fetch)
  case fetched =>
    intro t k b rest s en ready turn hk fetch queue len
    have op := (opCommandProcess_turn (s := s.advance t) en ready turn).trans ((if_pos hk).trans (if_pos fetch))
    have posted := postOldest_posted (s := { s.advance t with mbx := { s.mbx with turn := k } }) hk queue len
    exact completes_of_eq (g := opCommandProcess) rfl op posted
  case peer =>
    intro t k s en ready turn hk
    refine exec_congr (f := opCommandProcess) rfl ((opCommandProcess_turn (s := s.advance t) en ready turn).trans ?_)
    exact if_neg (by omega)
  case udpOff =>
    intro t a p d n off more b s h
    exact completes_of_idle (g := opUdpDatagram a p d n off more b) rfl (opUdpDatagram_off (s := s.advance t) h)
  case foreign =>
    intro t a p d n off more b s h
    exact completes_of_idle (g := opUdpDatagram a p d n off more b) rfl (opUdpDatagram_foreign (s := s.advance t) h)
  case whole =>
    intro t a p n b s en udp own len ready peers
    have op := (opUdpDatagram_whole (s := s.advance t) (port := p) (ident := n) en udp own len).trans (datagram_firstPeer ready peers)
    exact completes_of_eq (g := opUdpDatagram a p (s.rd MBX_UDP MBX_UDP_PORT) n 0 false b) rfl op rfl
  case fragment =>
    intro t a p n b s en udp own len reass
    have op := opUdpDatagram_firstFragment (s := s.advance t) (port := p) (ident := n) en udp own len reass
    exact completes_of_eq (g := opUdpDatagram a p (s.rd MBX_UDP MBX_UDP_PORT) n 0 true b) rfl op rfl
  case timeout =>
    intro t a n s
    refine completes_of_eq (g := opReassemblyTimeout a n) rfl rfl ⟨fun r => ?_, rfl⟩
    refine List.mem_filter.trans (and_congr_right fun _ => ?_)
    show (!(r.addr == a && r.ident == n && decide (r.startAt + 500000000 ≤ max s.now t))) = true
      ↔ ¬ (r.addr = a ∧ r.ident = n ∧ r.startAt + 500000000 ≤ max s.now t)
    rw [Bool.not_eq_true', ← Bool.not_eq_true, Bool.and_eq_true, Bool.and_eq_true, beq_iff_eq, beq_iff_eq, decide_eq_true_iff, and_assoc]
  case noJob =>
    intro t id q f s none_
    refine completes_of_idle (g := opCompletion id q f) rfl ?_
    have absent : (s.advance t).mbx.jobs.find? (fun j => j.session == id && j.seq == q) = none := by
      refine List.find?_eq_none.mpr fun j hj h => ?_
      rcases none_ j hj with hn | hn <;> simp_all
    unfold opCompletion
    rw [absent]
  case done =>
    intro t j st d b f s found outcome other
    exact exec_congr (f := opCompletion j.session j.seq f) rfl (opCompletion_done (s := s.advance t) found outcome other)
  case queued =>
    intro t j x m st d b f s found outcome other via hm known
    have op := opCompletion_done (s := s.advance t) (f := f) found outcome other
    exact completes_of_eq (g := opCompletion j.session j.seq f) rfl op (endJob_mailbox (s := s.advance t) via known)
  case lifeCycle =>
    intro t j f s found outcome lc
    exact exec_congr (f := opCompletion j.session j.seq f) rfl (opCompletion_lifeCycle (s := s.advance t) found outcome lc)
  case waits =>
    intro t j f s found outcome other none_
    exact completes_of_idle (g := opCompletion j.session j.seq f) rfl (opCompletion_waits (s := s.advance t) found outcome other none_)
  case early =>
    intro t x s found early
    exact completes_of_idle (g := opUdpCompletionRepeat x.session x.seq) rfl (opUdpCompletionRepeat_early (s := s.advance t) found early)
  case repeat_ =>
    intro t x s only due sends
    have op := (opUdpCompletionRepeat_only (s := s.advance t) only due).trans (if_neg (by omega))
    exact completes_of_eq (g := opUdpCompletionRepeat x.session x.seq) rfl op ⟨rfl, rfl, rfl⟩
  case last =>
    intro t x s only due sends
    have op := (opUdpCompletionRepeat_only (s := s.advance t) only due).trans (if_pos sends)
    exact completes_of_eq (g := opUdpCompletionRepeat x.session x.seq) rfl op rfl

end Sys2Proof.Machine
end

section
/-! Resets, their causes and JTAG (R505, R506, R541, R549). -/

namespace Sys2Proof.Machine

/-- Cells listed for a run of keys read what they list. -/
theorem cget_map_range' {α : Type} {d : Nat → α} (f : Nat → α) : ∀ (n a x : Nat), a ≤ x → x < a + n →
    cget d ((List.range' a n).map fun i => (i, f i)) x = f x
  | 0, a, x, ha, hx => absurd hx (by omega)
  | n + 1, a, x, ha, hx => by
    rw [List.range'_succ, List.map_cons]
    unfold cget
    rcases Nat.eq_or_lt_of_le ha with rfl | lt
    · rw [if_neg (by omega), if_pos rfl]
    · rw [if_pos lt]
      exact cget_map_range' f n (a + 1) x lt (by omega)

theorem cget_map_range {α : Type} {d : Nat → α} (f : Nat → α) {n x : Nat} (h : x < n) : cget d ((List.range n).map fun i => (i, f i)) x = f x := by
  rw [List.range_eq_range']
  exact cget_map_range' f n 0 x (Nat.zero_le x) (by omega)

section

variable (s : State)

/-- What a reset leaves, but for its registers: the Almanac and the key register where its source keeps them. -/
def State.resetLeaves (s : State) (keepAlm keepKey : Bool) : State :=
  { pending := s.pending, now := s.now, bus := s.bus, wire := s.wire, freeNext := s.freeNext,
    tim := { offset := -(s.now : Int) }, fuses := s.fuses,
    key := { slots := if keepKey then s.key.slots else if keepAlm then s.wipedSlots else [], emptied := keepKey && s.key.emptied,
             entropyBad := s.key.entropyBad, live := s.key.live, raw := s.key.raw, held := s.key.held,
             vbatLow := s.key.vbatLow, cfgSet := s.key.cfgSet },
    alm := if keepAlm then { chans := s.alm.chans, nextOrd := s.alm.nextOrd } else {},
    sys := { porLow := s.sys.porLow, rstLow := s.sys.rstLow, dormant := s.sys.dormant, entryCause := s.sys.entryCause,
             pwrReq := s.sys.pwrReq, flash := s.sys.flash, jtag := s.sys.jtag, kickAt := s.now } }

theorem resetUnits_leaves (keepAlm keepKey : Bool) : ∃ r, s.resetUnits keepAlm keepKey = { s.resetLeaves keepAlm keepKey with regs := r } := by
  unfold State.resetUnits
  extract_lets regs key alm sys n a b c
  split
  · exact ⟨c.regs, rfl⟩
  · exact ⟨(((c.wrB OUT_STAT OUT_STAT_FENCE_N false).wrB OUT_STAT OUT_STAT_FENCED true).wrB OUT_STAT OUT_STAT_MUTED true).regs, rfl⟩

theorem slot_of_listed {u : State} {f : Nat → KeySlot} {n x : Nat} (listed : u.key.slots = (List.range n).map fun i => (i, f i)) (h : x < n) :
    u.slot x = f x := (congrArg (cget (fun _ => freeSlot) · x) listed).trans (cget_map_range f h)

theorem wipedSlots_eq : s.wipedSlots = (List.range 4096).map fun i => (i, freedSlot (s.slot i)) := by
  unfold State.wipedSlots
  rfl

theorem slot_of_wiped {u : State} {x : Nat} (wiped : u.key.slots = s.wipedSlots) (h : x < 4096) : u.slot x = freedSlot (s.slot x) :=
  slot_of_listed (f := fun i => freedSlot (s.slot i)) (wiped.trans (wipedSlots_eq s)) h

theorem resetLeaves_wiped : (s.resetLeaves true false).key.slots = s.wipedSlots := by
  unfold State.resetLeaves
  simp only [Bool.false_eq_true, if_false, if_true]

/-- The machine a power-on reset leaves. -/
theorem opPorNAssert_leaves : ∃ r, opPorNAssert s =
    ({ s.resetLeaves false false with regs := r, sys := { (s.resetLeaves false false).sys with porLow := true, dormant := 0, pwrReq := true } } : State).wrB
      SYS_RESET_CAUSE SYS_RESET_CAUSE_POR true := by
  obtain ⟨r, h⟩ := resetUnits_leaves s false false
  exact ⟨r, by unfold opPorNAssert; rw [h]⟩

/-- The machine that RST_N low leaves outside Dormant, with the Almanac's bank. -/
theorem opRstNAssert_leaves (dormant : s.sys.dormant ≠ 1) (por : s.sys.porLow = false) : ∃ r, opRstNAssert s =
    ({ s.resetLeaves true false with regs := r, sys := { (s.resetLeaves true false).sys with rstLow := true, dormant := 0 } } : State).wrB
      SYS_RESET_CAUSE SYS_RESET_CAUSE_RST true := by
  obtain ⟨r, h⟩ := resetUnits_leaves s true false
  refine ⟨r, ?_⟩
  unfold opRstNAssert
  rw [if_neg dormant, por]
  simp only [Bool.not_false, h]

end

section

variable {s : State} {x : AdventIn}

theorem opPorNRelease_low (por : s.sys.porLow = true) : opPorNRelease x s =
    if s.sys.rstLow then { s with sys := { s.sys with porLow := false } }
    else State.adventStart { s with sys := { s.sys with porLow := false } } x false :=
  if_neg (by rw [por]; decide)

theorem opRstNRelease_low (rst : s.sys.rstLow = true) : opRstNRelease x s =
    if s.sys.porLow ∨ s.sys.dormant ≠ 0 then { s with sys := { s.sys with rstLow := false } }
    else State.adventStart { s with sys := { s.sys with rstLow := false } } x false :=
  if_neg (by rw [rst]; decide)

theorem opJtag_other {i : JtagInstr} (h : jtagSelects s.lc i ≠ .idcode) :
    opJtagInstructionLoad i s = { s with sys := { s.sys with jtag := jtagSelects s.lc i } } := if_neg h

end

/-- Settles O49. -/
theorem resetRules : Obligations.ResetRules := by
  refine ⟨?por, ?rst, ?rstDormant, ?porHigh, ?porReleaseHeld, ?porRelease, ?rstRelease, ?rstReleaseDormant, ?powerUp, ?powerUpDormant,
    ?idcode, ?debugShut, ?debugOpen⟩
  case por =>
    intro t s
    obtain ⟨r, op⟩ := opPorNAssert_leaves (s.advance t)
    exact completes_of_eq (g := opPorNAssert) rfl op
      ⟨rfl, rfl, rfl, State.rdB_wrB_same _ _ _ _ (by decide) rfl, rfl, rfl, rfl, rfl, rfl, rfl, rfl⟩
  case rst =>
    intro t s dormant por
    obtain ⟨r, op⟩ := opRstNAssert_leaves (s.advance t) dormant por
    exact completes_of_eq (g := opRstNAssert) rfl op
      ⟨rfl, State.rdB_wrB_same _ _ _ _ (by decide) rfl, rfl, rfl, fun x hx => slot_of_wiped (s.advance t) (resetLeaves_wiped _) hx, rfl, rfl⟩
  case rstDormant =>
    intro t s dormant
    have op : opRstNAssert (s.advance t) = { s.advance t with sys := { s.sys with rstLow := true } } := if_pos dormant
    exact completes_of_eq (g := opRstNAssert) rfl op rfl
  case porHigh =>
    intro t x s por
    exact completes_of_idle (g := opPorNRelease x) rfl (if_pos (Eq.trans (congrArg _ por) rfl))
  case porReleaseHeld =>
    intro t x s por rst
    have op := (opPorNRelease_low (s := s.advance t) (x := x) por).trans (if_pos rst)
    exact completes_of_eq (g := opPorNRelease x) rfl op rfl
  case porRelease =>
    intro t x s por rst
    exact exec_congr (f := opPorNRelease x) rfl ((opPorNRelease_low (s := s.advance t) por).trans (if_neg (Bool.eq_false_iff.mp rst)))
  case rstRelease =>
    intro t x s rst por dormant
    refine exec_congr (f := opRstNRelease x) rfl ((opRstNRelease_low (s := s.advance t) rst).trans (if_neg ?_))
    rintro (h | h)
    · exact absurd (por.symm.trans h) (by decide)
    · exact h dormant
  case rstReleaseDormant =>
    intro t x s rst dormant
    have op := (opRstNRelease_low (s := s.advance t) (x := x) rst).trans (if_pos (.inr dormant))
    exact completes_of_eq (g := opRstNRelease x) rfl op rfl
  case powerUp =>
    intro t s dormant
    have op : opPowerUp (s.advance t) = { s.advance t with sys := { s.sys with pwrReq := true } } := if_neg dormant
    exact completes_of_eq (g := opPowerUp) rfl op rfl
  case powerUpDormant =>
    intro t s dormant
    exact completes_of_idle (g := opPowerUp) rfl (if_pos dormant)
  case idcode =>
    intro t s
    exact completes_of_eq (g := opJtagInstructionLoad .idcode) rfl rfl ⟨rfl, rfl⟩
  case debugShut =>
    intro t s lc
    have sel : jtagSelects (s.advance t).lc .debug = .bypass := if_neg (Nat.not_lt.mpr lc)
    have op := opJtag_other (s := s.advance t) (i := .debug) (by rw [sel]; decide)
    rw [sel] at op
    exact completes_of_eq (g := opJtagInstructionLoad .debug) rfl op rfl
  case debugOpen =>
    intro t s lc
    have sel : jtagSelects (s.advance t).lc .debug = .debug := if_pos lc
    have op := opJtag_other (s := s.advance t) (i := .debug) (by rw [sel]; decide)
    rw [sel] at op
    exact completes_of_eq (g := opJtagInstructionLoad .debug) rfl op rfl

end Sys2Proof.Machine
end

section
/-! A strobe and a publisher that is none of the 1,024 (R337, R521): its sending writes its LAST_TX words, and at this number those are
SYS_SNAP_STAT and SYS_SNAP_SRC. -/

namespace Sys2Proof.Machine

/-- Solstice armed with 1PPS_IN's source enabled, and a binding that feeds slot 0, which publisher 0x1FF800 sends. -/
def strayPublisher : State :=
  { State.reset with
    regs := [(OUT_BINDING 0 0, 9), (OUT_PUBLISHER 0x1FF800 0, 1), (SYS_SNAP_STAT, 1), (SYS_SNAP_SRC, 1)]
    out := { State.reset.out with pubs := [(0x1FF800, some { last := [1] })] } }

theorem strayPublisher_enabled : strayPublisher.srcEnabled 0 = true := by decide +kernel

theorem strayPublisher_armed : strayPublisher.rd SYS_SNAP_STAT SYS_SNAP_STAT_STATE = 1 := by decide +kernel

theorem strayPublisher_strobe : (strayPublisher.after 0 opSnapIn).rd SYS_SNAP_STAT SYS_SNAP_STAT_STATE = 0 := by decide +kernel

/-- Refutes O50: the strobe is to leave STATE at 2, and here the publisher's sending after it writes SYS_SNAP_STAT. -/
theorem not_dormantAndSolstice : ¬ Obligations.DormantAndSolstice := by
  rintro ⟨-, -, -, -, -, -, -, -, -, -, -, -, -, -, -, -, -, -, -, -, strobe, -⟩
  obtain ⟨u, hu, state, -⟩ := strobe 0 strayPublisher strayPublisher_enabled strayPublisher_armed
  obtain rfl : strayPublisher.after 0 opSnapIn = u := Host.Outcome.next.inj hu
  exact absurd (strayPublisher_strobe.symm.trans state) (by decide)

end Sys2Proof.Machine
end

section
/-! Round copies and the Vigil checks (R408 to R414, R425 to R427, R450). -/

namespace Sys2Proof.Machine

/-! ### Acknowledgements -/

/-- What an acknowledgement with status 0 does for the copy that was in flight. -/
def State.ackDone (s : State) (c : DpxCopy) (round : Nat) : State :=
  if c.pass then s
  else
    let s := (s.clearCap.bump cntDPX_COPIES 1).wrW DPX_COPY_ROUND (BitVec.ofNat 32 round)
    let s := s.wrW DPX_COPY_INFO (fset DPX_COPY_INFO_BYTES 0 c.bytes)
    if c.swap then s.releaseOutputs.swapOut c
    else
      let s := s.wrB DPX_STAT DPX_STAT_DUPLEX s.twinUp
      let s := if s.out.holding then s.releaseOutputs else s
      if c.final then
        (s.setDpx { s.dpx with xfer := none }).post 0x0B0A (p1 3 ++ p4 (s.rd DPX_RESYNC_STAT DPX_RESYNC_STAT_PASS)
          ++ p4 (s.rd DPX_RESYNC_STAT DPX_RESYNC_STAT_MARKED))
      else s

/-- What an acknowledgement does while `copy` is in flight. -/
def State.ackHeard (s : State) (copy : Option DpxCopy) (round epoch status : Nat) : State :=
  match copy with
  | none => s
  | some c =>
    if s.role ≠ 1 ∨ round ≠ round32 c.round ∨ epoch ≠ s.epoch then s
    else if status ≠ 0 then (if c.pass then s.setDpx { s.dpx with copy := none, xfer := none } else s)
    else (s.setDpx { s.dpx with copy := none }).ackDone c round

section

variable {s : State} {round epoch n status : Nat} {rest : List (Nat × Nat × Nat × Nat)} {c : DpxCopy}

theorem opCopyAck_empty (h : s.dpx.acks = []) : opCopyAck s = s := by
  unfold opCopyAck
  rw [h]

theorem opCopyAck_cons (acks : s.dpx.acks = (round, epoch, n, status) :: rest) :
    opCopyAck s = (s.setDpx { s.dpx with acks := rest }).ackHeard s.dpx.copy round epoch status := by
  unfold opCopyAck
  rw [acks]
  rfl

/-- At no active, and for a round's copy that failed, the acknowledgement is taken and left. -/
theorem ackHeard_left {copy : Option DpxCopy} (idle : copy = none ∨ s.role ≠ 1 ∨ ∃ c, copy = some c ∧ status ≠ 0 ∧ c.pass = false) :
    s.ackHeard copy round epoch status = s := by
  cases copy with
  | none => rfl
  | some c =>
    unfold State.ackHeard
    dsimp only
    split
    · rfl
    next live =>
      have role : s.role = 1 := not_not.mp fun h => live (.inl h)
      obtain ⟨failed, pass⟩ : status ≠ 0 ∧ c.pass = false := by
        rcases idle with h | h | ⟨d, hd, failed, pass⟩
        · exact nomatch h
        · exact absurd role h
        · obtain rfl : c = d := Option.some.inj hd
          exact ⟨failed, pass⟩
      rw [if_pos failed, if_neg (by rw [pass]; decide)]

/-- An acknowledgement of the copy in flight, in its epoch, at the active. -/
theorem ackHeard_own (role : s.role = 1) : s.ackHeard (some c) (round32 c.round) s.epoch status =
    if status ≠ 0 then (if c.pass then s.setDpx { s.dpx with copy := none, xfer := none } else s)
    else (s.setDpx { s.dpx with copy := none }).ackDone c (round32 c.round) := by
  refine if_neg ?_
  rintro (h | h | h)
  · exact h role
  · exact h rfl
  · exact h rfl

theorem twinUp_congr {u : State} (state : u.rdW PRT_TWIN_STAT = s.rdW PRT_TWIN_STAT) (feature : u.twinPresent = s.twinPresent) :
    u.twinUp = s.twinUp := by
  unfold State.twinUp State.twinState
  rw [State.rd_congr state, feature]

theorem ackDone_round (pass : c.pass = false) (swap : c.swap = false) (final : c.final = false) (holding : s.out.holding = false) :
    s.ackDone c round = (((s.clearCap.bump cntDPX_COPIES 1).wrW DPX_COPY_ROUND (BitVec.ofNat 32 round)).wrW DPX_COPY_INFO
      (fset DPX_COPY_INFO_BYTES 0 c.bytes)).wrB DPX_STAT DPX_STAT_DUPLEX s.twinUp := by
  have marked : (((s.clearCap.bump cntDPX_COPIES 1).wrW DPX_COPY_ROUND (BitVec.ofNat 32 round)).wrW DPX_COPY_INFO
      (fset DPX_COPY_INFO_BYTES 0 c.bytes)).rdW PRT_TWIN_STAT = s.rdW PRT_TWIN_STAT :=
    (State.rdW_wrW_ne _ _ (by decide)).trans (State.rdW_wrW_ne _ _ (by decide))
  unfold State.ackDone
  rw [if_neg (by rw [pass]; decide), if_neg (by rw [swap]; decide)]
  generalize hm : ((s.clearCap.bump cntDPX_COPIES 1).wrW DPX_COPY_ROUND (BitVec.ofNat 32 round)).wrW DPX_COPY_INFO
    (fset DPX_COPY_INFO_BYTES 0 c.bytes) = m at marked ⊢
  have held : m.out.holding = false := by rw [← hm]; exact holding
  have up : m.twinUp = s.twinUp := twinUp_congr marked (by rw [← hm]; rfl)
  dsimp only
  rw [up, if_neg (by rw [final]; decide)]
  exact if_neg (Bool.eq_false_iff.mp held)

/-- What the acknowledgement of a round's copy leaves (R411): it is counted and noted, and DUPLEX shows the link. -/
theorem ackDone_facts (pass : c.pass = false) (swap : c.swap = false) (final : c.final = false) (holding : s.out.holding = false) :
    ∃ u, s.ackDone c round = u ∧ u.dpx = s.dpx ∧ u.count cntDPX_COPIES = (s.count cntDPX_COPIES + 1) % 2 ^ 64
      ∧ u.rdW DPX_COPY_ROUND = BitVec.ofNat 32 round ∧ u.rdB DPX_STAT DPX_STAT_DUPLEX = s.twinUp
      ∧ OnlyWords [DPX_COPY_ROUND, DPX_COPY_INFO, DPX_STAT] { s with cnt := u.cnt, ten := { s.ten with llogCap := u.ten.llogCap } } u := by
  refine ⟨_, ackDone_round pass swap final holding, rfl, State.count_bump_same s.clearCap cntDPX_COPIES 1, ?_, ?_, ?_⟩
  · exact (State.rdW_wrB_ne _ _ _ (by decide)).trans ((State.rdW_wrW_ne _ _ (by decide)).trans (State.rdW_wrW_same _ _ _))
  · exact State.rdB_wrB_same _ _ _ _ (by decide) rfl
  · exact ((OnlyWords.wrW (s.clearCap.bump cntDPX_COPIES 1) _ (by simp)).trans (.wrW _ _ (by simp))).trans (.wrB _ _ _ (by simp))

end

/-! ### Cuts, application and the Vigil -/

section

variable {s : State} {c : DpxCopy}

theorem opCopyCut_none (h : s.dpx.copy = none) : opCopyCut s = s := by
  unfold opCopyCut
  rw [h]

theorem opCopyCut_some (h : s.dpx.copy = some c) :
    opCopyCut s = if !s.twinUp then s.copyCut 3 else if !c.pass ∧ c.deadline ≤ s.dom then s.copyCut 2 else s := by
  unfold opCopyCut
  rw [h]

theorem copyCut_pass {cause : Nat} (h : s.dpx.copy = some c) (pass : c.pass = true) :
    s.copyCut cause = s.setDpx { s.dpx with copy := none, xfer := none } := by
  unfold State.copyCut
  rw [h]
  exact if_pos pass

theorem copyCut_round {cause : Nat} (h : s.dpx.copy = some c) (pass : c.pass = false) (swap : c.swap = false) :
    s.copyCut cause = (s.setDpx { s.dpx with copy := none }).cutItems c.round c.bytes cause c.items := by
  unfold State.copyCut
  rw [h]
  exact (if_neg (by rw [pass]; decide)).trans (if_neg (by rw [swap]; decide))

theorem applyReady_none (h : s.dpx.ready = []) : s.applyReady = (none, s) := by
  unfold State.applyReady
  rw [h]

theorem applyReady_notStandby {b : List Byte} {void : Bool} {rest : List (List Byte × Bool)} {h : CopyHead} (ready : s.dpx.ready = (b, void) :: rest)
    (read : readCopy b = some h) (resync : h.resync = false) (final : h.final = false) (role : s.role ≠ 2) :
    s.applyReady = (none, s.setDpx { s.dpx with ready := rest }) := by
  unfold State.applyReady
  rw [ready]
  dsimp only
  rw [read]
  dsimp only
  rw [if_neg (by simp [resync]), if_neg (by simp [final])]
  exact if_pos role

theorem opCopyApply_none {m : State} (h : s.applyReady = (none, m)) : opCopyApply s = m := by
  unfold opCopyApply
  rw [h]

theorem opCopyApply_some {m : State} {h : CopyHead} {n : Nat} (ready : s.applyReady = (some (h, n), m)) (swap : h.swap = false) :
    opCopyApply s = m.ackCopy h n := by
  unfold opCopyApply
  rw [ready]
  exact if_neg (by simp [swap])

/-- A core in service runs no vector. -/
theorem opVigilCoreVector_busy {core : Nat} {pass : Bool} {r : SchRun} (h : s.runOf core = some r) : opVigilCoreVector core pass s = s := by
  have busy : s.sch.runs.any (fun r => r.core == core) = true := by
    rw [← List.isSome_find?]
    exact Option.isSome_iff_exists.mpr ⟨r, h⟩
  exact if_pos (by rw [busy]; simp)

theorem opVigilCoreVector_parked {core : Nat} {pass : Bool} (present : s.corePresent core = true) (parked : s.runOf core = none) :
    opVigilCoreVector core pass s = s.setVigil { s.dpx.vigil with
      cores := nsetBit s.dpx.vigil.cores core true,
      coreMap := if pass then s.dpx.vigil.coreMap else nsetBit s.dpx.vigil.coreMap (core / 8) true } := by
  have idle : s.sch.runs.any (fun r => r.core == core) = false := by
    rw [← List.isSome_find?, show s.sch.runs.find? (fun r => r.core == core) = none from parked]
    rfl
  exact if_neg (by rw [present, idle]; decide)

end

/-- Settles O37. -/
theorem copiesAndVigil : Obligations.CopiesAndVigil := by
  refine ⟨?noAck, ?ackLeft, ?ackPass, ?ackRound, ?noCut, ?early, ?cutPass, ?cutRound, ?noReady, ?apply_, ?notStandby, ?vector, ?vectorBusy,
    ?keyGood, ?keyBad⟩
  case noAck =>
    intro t s h
    exact completes_of_idle (g := opCopyAck) rfl (opCopyAck_empty (s := s.advance t) h)
  case ackLeft =>
    intro t r e n st rest s acks idle
    have op := (opCopyAck_cons (s := s.advance t) acks).trans (ackHeard_left (s := (s.advance t).setDpx { s.dpx with acks := rest }) idle)
    exact completes_of_eq (g := opCopyAck) rfl op rfl
  case ackPass =>
    intro t n c st rest s acks copy role pass failed
    have op : opCopyAck (s.advance t) = ((s.advance t).setDpx { s.dpx with acks := rest }).ackHeard (some c) (round32 c.round) s.epoch st :=
      (opCopyAck_cons (s := s.advance t) acks).trans (by rw [show (s.advance t).dpx.copy = some c from copy]; rfl)
    have heard := (ackHeard_own (s := (s.advance t).setDpx { s.dpx with acks := rest }) (c := c) (status := st) role).trans
      ((if_pos failed).trans (if_pos pass))
    exact completes_of_eq (g := opCopyAck) rfl (op.trans heard) rfl
  case ackRound =>
    intro t n c rest s acks copy role pass swap final holding
    have op : opCopyAck (s.advance t) = ((s.advance t).setDpx { s.dpx with acks := rest }).ackHeard (some c) (round32 c.round) s.epoch 0 :=
      (opCopyAck_cons (s := s.advance t) acks).trans (by rw [show (s.advance t).dpx.copy = some c from copy]; rfl)
    have heard := (ackHeard_own (s := (s.advance t).setDpx { s.dpx with acks := rest }) (c := c) (status := 0) role).trans
      (if_neg (not_not_intro rfl))
    obtain ⟨u, done, dpx, count, round, duplex, only⟩ := ackDone_facts (s := (s.advance t).setDpx { s.dpx with acks := rest, copy := none })
      (round := round32 c.round) pass swap final holding
    refine completes_of_eq (g := opCopyAck) rfl (op.trans (heard.trans done)) ⟨dpx, count, round, duplex, ?_, only.2⟩
    have whole := congrArg (fun x : State => { x with pending := s.pending, now := max s.now t }) only.1
    refine whole.trans ?_
    rw [dpx]
    rfl
  case noCut =>
    intro t s h
    exact completes_of_idle (g := opCopyCut) rfl (opCopyCut_none (s := s.advance t) h)
  case early =>
    intro t c s copy up early
    refine completes_of_idle (g := opCopyCut) rfl ((opCopyCut_some (s := s.advance t) copy).trans ((if_neg ?_).trans (if_neg ?_)))
    · rw [show (s.advance t).twinUp = true from up]; decide
    · exact fun h => absurd h.2 (Nat.not_le.mpr early)
  case cutPass =>
    intro t c s copy down pass
    have op := ((opCopyCut_some (s := s.advance t) copy).trans (if_pos (Eq.trans (congrArg _ down) rfl))).trans
      (copyCut_pass (s := s.advance t) copy pass)
    exact completes_of_eq (g := opCopyCut) rfl op rfl
  case cutRound =>
    intro t c s copy up pass due swap
    have cut : opCopyCut (s.advance t) = (s.advance t).copyCut 2 := by
      refine (opCopyCut_some (s := s.advance t) copy).trans ((if_neg ?_).trans (if_pos ⟨?_, due⟩))
      · rw [show (s.advance t).twinUp = true from up]; decide
      · rw [pass]; rfl
    exact exec_congr (f := opCopyCut) rfl (cut.trans (copyCut_round (s := s.advance t) copy pass swap))
  case noReady =>
    intro t s h
    exact completes_of_idle (g := opCopyApply) rfl (opCopyApply_none (applyReady_none (s := s.advance t) h))
  case apply_ =>
    intro t h n m s ready swap
    exact exec_congr (f := opCopyApply) rfl (opCopyApply_some ready swap)
  case notStandby =>
    intro t b void rest h s ready read resync final role
    exact completes_of_eq (g := opCopyApply) rfl (opCopyApply_none (applyReady_notStandby (s := s.advance t) ready read resync final role)) rfl
  case vector =>
    intro t core pass s present parked
    exact completes_of_eq (g := opVigilCoreVector core pass) rfl (opVigilCoreVector_parked (s := s.advance t) present parked) ⟨rfl, rfl, rfl⟩
  case vectorBusy =>
    intro t core pass r s h
    exact completes_of_idle (g := opVigilCoreVector core pass) rfl (opVigilCoreVector_busy (s := s.advance t) h)
  case keyGood =>
    intro t s
    exact completes_of_eq (g := opKeyIntegrityCheck true) rfl rfl rfl
  case keyBad =>
    intro t s
    exact exec_congr (f := opKeyIntegrityCheck false) rfl rfl

end Sys2Proof.Machine
end

section
/-! The mailbox protocol: what a command that passes its checks does (R483), and the status and setting commands (R490, R496). -/

namespace Sys2Proof.Machine

/-! ### A command that passes its checks -/

section

variable {i : Nat → Cmd → Instr} {op t : Nat} {c : Cmd} {plan : Cmd → State → Plan} {s g m : State} {x : Session} {k : Option (BitVec 256)}
  {r : Reply}

/-- A plan's own findings are the last of the checks. -/
theorem bad_of_checks {i : CmdInfo} {p : Plan} (h : s.checks op i p x = none) : p.bad = none := by
  unfold State.checks at h
  split at h; exact nomatch h
  split at h; exact nomatch h
  split at h; exact nomatch h
  split at h; exact nomatch h
  split at h; exact nomatch h
  exact h

theorem MbxReady.bad {p : State → Plan} (h : MbxReady op t c p s x k g) : (p g).bad = none := by
  obtain ⟨-, -, -, -, i, -, checks⟩ := h
  exact bad_of_checks checks

theorem runPlan_ready {p : State → Plan} {i : CmdInfo} (serves : g.haltServes op = true) (info : cmdInfo op = some i)
    (checks : g.checks op i (p g) x = none) (body : (p g).body x = (r, m)) (room : r.later.isSome = true → g.pendFull c.via = false) :
    g.runPlan op p c.via x = (r, true, m) := by
  unfold State.runPlan
  rw [if_pos serves, info]
  simp only [checks, body]
  refine if_neg fun h => ?_
  obtain ⟨later, full⟩ := Bool.and_eq_true_iff.mp h
  exact absurd ((room later).symm.trans full) (by decide)

/-- The answer of a command that passes its checks is its plan's. -/
theorem serve_ready {p : State → Plan} (ready : MbxReady op t c p s x k g) (body : (p g).body x = (r, m))
    (room : r.later.isSome = true → g.pendFull c.via = false) : (s.advance t).serve op p c = m.finish op c x k r (audited op (p g)) := by
  obtain ⟨session, fresh, key, serves, i, info, checks⟩ := ready
  unfold State.serve
  rw [session]
  dsimp only
  rw [fresh]
  dsimp only
  rw [key]
  dsimp only
  rw [runPlan_ready serves info checks body room]
  rfl

/-- A command answers as its plan says. -/
theorem mbxAnswers_of {audit : Cmd → Bool} {H : Cmd → Session → State → Prop} {f : Cmd → Session → State → Reply × State}
    (hi : ∀ t c s, exec (i t c) s = .next (s.after t fun m => m.serve op (plan c) c))
    (hb : ∀ c x g, (plan c g).bad = none → H c x g → (plan c g).body x = f c x g) (ha : ∀ c g, audited op (plan c g) = audit c) :
    MbxAnswers i op plan audit H f := by
  intro t c s x k g ready hyp room
  refine exec_congr (hi t c s) ?_
  rw [serve_ready (r := (f c x g).1) (m := (f c x g).2) ready (hb c x g ready.bad hyp) room, ha]

/-- A status command's form that changes nothing is not audited (R483). -/
theorem audited_status {p : Plan} (status : (cmdInfo op).map CmdInfo.status = some true) (reads : p.writes = false) : audited op p = false := by
  obtain ⟨i, info, h⟩ := Option.map_eq_some_iff.mp status
  unfold audited
  rw [info]
  dsimp only
  rw [h, reads]
  rfl

theorem audited_command {p : Plan} (command : (cmdInfo op).map CmdInfo.status = some false) : audited op p = true := by
  obtain ⟨i, info, h⟩ := Option.map_eq_some_iff.mp command
  unfold audited
  rw [info]
  dsimp only
  rw [h]
  rfl

theorem mbxDoes_of {H : Cmd → Session → State → Prop} {f : Cmd → Session → State → Reply × State}
    (hi : ∀ t c s, exec (i t c) s = .next (s.after t fun m => m.serve op (plan c) c)) (command : (cmdInfo op).map CmdInfo.status = some false)
    (hb : ∀ c x g, (plan c g).bad = none → H c x g → (plan c g).body x = f c x g) : MbxDoes i op plan H f :=
  mbxAnswers_of hi hb fun _ _ => audited_command command

theorem mbxRefuses_of {status : Nat} {H : Cmd → Session → State → Prop}
    (hi : ∀ t c s, exec (i t c) s = .next (s.after t fun m => m.serve op (plan c) c)) (command : (cmdInfo op).map CmdInfo.status = some false)
    (hb : ∀ c x g, (plan c g).bad = none → H c x g → (plan c g).body x = ({ status := status }, g)) : MbxRefuses i op plan status H :=
  mbxAnswers_of hi hb fun _ _ => audited_command command

theorem mbxReads_of {data : Cmd → State → List Byte} (hi : ∀ t c s, exec (i t c) s = .next (s.after t fun m => m.serve op (plan c) c))
    (status : (cmdInfo op).map CmdInfo.status = some true) (reads : ∀ c g, (plan c g).writes = false)
    (hb : ∀ c x g, (plan c g).bad = none → (plan c g).body x = ({ data := data c g }, g)) : MbxReads i op plan data :=
  mbxAnswers_of hi (fun c x g bad _ => hb c x g bad) fun c g => audited_status status (reads c g)

/-! ### Status and register payloads -/

theorem planStatus_body (blk : Nat) (c : Cmd) (g : State) (x : Session) : (planStatus blk c g).body x =
    let entries := (List.range (c.payload.length / 4)).map fun i => c.n4 (4 * i)
    ({ data := entries.flatMap fun e => p4 (g.peekFrom x.base (blk * 2 ^ 24 + e % 2 ^ 31)) },
      g.rebase x.id (((entries.filter fun e => decide (2 ^ 31 ≤ e)).map fun e => blk * 2 ^ 24 + e % 2 ^ 31).filter counterAt)) := by
  unfold planStatus
  dsimp only
  rw [List.flatMap_map]

theorem mbxStatus_of {b : Nat} (hi : ∀ t c s, exec (i t c) s = .next (s.after t fun m => m.serve op (plan c) c))
    (status : (cmdInfo op).map CmdInfo.status = some true) (hp : ∀ c g, plan c g = planStatus b c g) : MbxStatus i op b plan :=
  mbxAnswers_of hi (fun c x g _ _ => by rw [hp]; exact planStatus_body b c g x) fun c g => audited_status status (by rw [hp]; rfl)

/-- Records are written whole, or the first that is ignored is named. -/
theorem planPairs_body (allowed : State → Nat → Bool) (c : Cmd) (g : State) (x : Session) : (planPairs allowed c g).body x =
    match (g.writePairs 0 (regPairs c 0)).1 with
    | none => ({}, (g.writePairs 0 (regPairs c 0)).2)
    | some off => ({ status := 0x0104, detail := off }, g) := by
  unfold planPairs
  dsimp only
  rcases g.writePairs 0 (regPairs c 0) with ⟨_ | off, u⟩ <;> rfl

theorem planWords_body (n : Nat) (addrs : List Nat) (c : Cmd) (g : State) (x : Session) :
    let recs := ((List.range addrs.length).zip addrs).map fun p => (p.2, c.n4 (4 + 4 * p.1))
    (planWords n addrs c g).body x = match (g.writePairs 0 recs).1 with
      | none => ({}, (g.writePairs 0 recs).2)
      | some off => ({ status := 0x0104, detail := 4 + off / 2 }, g) := by
  intro recs
  unfold planWords
  dsimp only
  rcases g.writePairs 0 recs with ⟨_ | off, u⟩ <;> rfl

/-- A command of records, whatever else its plan asks. -/
theorem mbxWrites_of {H : State → Prop} {allowed : State → Nat → Bool}
    (hi : ∀ t c s, exec (i t c) s = .next (s.after t fun m => m.serve op (plan c) c)) (command : (cmdInfo op).map CmdInfo.status = some false)
    (hp : ∀ c x g, H g → (plan c g).body x = (planPairs allowed c g).body x) : MbxWrites i op plan H id (regPairs · 0) :=
  mbxDoes_of hi command fun c x g _ hyp => (hp c x g hyp).trans (planPairs_body allowed c g x)

end

end Sys2Proof.Machine
end

section
/-! The status commands of every block and the commands that write configuration registers (R483, R490, R496). -/

namespace Sys2Proof.Machine

section

variable {c : Cmd} {g : State}

/-- A field that lies in what is taken of a payload reads as in the whole. -/
theorem leAt_take (b : List Byte) {off n m : Nat} (h : off + n ≤ m) : leAt (b.take m) off n = leAt b off n := by
  unfold leAt slice
  rw [List.drop_take, List.take_take, Nat.min_eq_left (by omega)]

theorem planPrtLreSet_body (x : Session) : (planPrtLreSet c g).body x =
    let w := g.writePairs 0 [(PRT_LRE_CFG (c.n4 0), c.n4 4), (PRT_LRE_MAC_LO (c.n4 0), c.n4 8), (PRT_LRE_MAC_HI (c.n4 0), c.n4 12)]
    match w.1 with
    | none => ({}, (chunks 8 (c.payload.length / 8) (c.payload.drop 16)).foldl
        (fun (u : State) b => u.proxySet (c.n4 0) (beAt b 0 6) (byteAt b 6 == 1)) w.2)
    | some off => ({ status := 0x0104, detail := 4 + off / 2 }, g) := by
  have body := planWords_body 12 [PRT_LRE_CFG (c.n4 0), PRT_LRE_MAC_LO (c.n4 0), PRT_LRE_MAC_HI (c.n4 0)]
    { c with payload := c.payload.take 16 } g x
  have recs : ((List.range [PRT_LRE_CFG (c.n4 0), PRT_LRE_MAC_LO (c.n4 0), PRT_LRE_MAC_HI (c.n4 0)].length).zip
      [PRT_LRE_CFG (c.n4 0), PRT_LRE_MAC_LO (c.n4 0), PRT_LRE_MAC_HI (c.n4 0)]).map
        (fun p => (p.2, Cmd.n4 { c with payload := c.payload.take 16 } (4 + 4 * p.1)))
      = [(PRT_LRE_CFG (c.n4 0), c.n4 4), (PRT_LRE_MAC_LO (c.n4 0), c.n4 8), (PRT_LRE_MAC_HI (c.n4 0), c.n4 12)] := by
    have word (off : Nat) (h : off + 4 ≤ 16) : Cmd.n4 { c with payload := c.payload.take 16 } off = c.n4 off := leAt_take c.payload h
    show [(PRT_LRE_CFG (c.n4 0), Cmd.n4 { c with payload := c.payload.take 16 } 4), (PRT_LRE_MAC_LO (c.n4 0), Cmd.n4 { c with payload := c.payload.take 16 } 8),
      (PRT_LRE_MAC_HI (c.n4 0), Cmd.n4 { c with payload := c.payload.take 16 } 12)] = _
    rw [word 4 (by decide), word 8 (by decide), word 12 (by decide)]
  rw [recs] at body
  unfold planPrtLreSet
  simp only [body]
  rcases g.writePairs 0 [(PRT_LRE_CFG (c.n4 0), c.n4 4), (PRT_LRE_MAC_LO (c.n4 0), c.n4 8), (PRT_LRE_MAC_HI (c.n4 0), c.n4 12)] with ⟨_ | off, u⟩ <;> rfl

/-- The shadow bank is open. -/
theorem planShadow_open (free : g.ing.flip = none ∧ g.rdB ING_STAT ING_STAT_COPY_BUSY = false) (x : Session) :
    (planShadow c g).body x = (planPairs State.inShadow c g).body x :=
  if_neg (by rw [free.1, free.2]; decide)

theorem planShadow_closed (busy : g.ing.flip.isSome = true ∨ g.rdB ING_STAT ING_STAT_COPY_BUSY = true) (x : Session) :
    (planShadow c g).body x = ({ status := 0x0302 }, g) :=
  if_pos (by simpa using busy)

theorem planStreamAdd_open (free : g.ing.flip = none ∧ g.rdB ING_STAT ING_STAT_COPY_BUSY = false) (x : Session) : (planStreamAdd c g).body x =
    match g.writePairs 0 (regPairs c 0) with
    | (none, u) => if u.subsOk ((regPairs c 0).map (·.1)) = true then ({}, u) else ({ status := 0x0303 }, g)
    | (some off, _) => ({ status := 0x0104, detail := off }, g) := by
  unfold planStreamAdd
  simp only [planShadow_open free, planPairs_body]
  rcases g.writePairs 0 (regPairs c 0) with ⟨_ | off, u⟩
  · dsimp only
    cases u.subsOk ((regPairs c 0).map (·.1)) <;> rfl
  · rfl

theorem planStreamAdd_closed (busy : g.ing.flip.isSome = true ∨ g.rdB ING_STAT ING_STAT_COPY_BUSY = true) (x : Session) :
    (planStreamAdd c g).body x = ({ status := 0x0302 }, g) := by
  unfold planStreamAdd
  simp only [planShadow_closed busy]
  rfl

end

/-- Settles O55. -/
theorem mailboxStatusAndSettings : Obligations.MailboxStatusAndSettings := by
  refine ⟨?prt, ?fab, ?ing, ?acq, ?sch, ?cle, ?lge, ?out, ?rec_, ?dpx, ?key, ?mem, ?tim, ?tenant, ?portSet, ?lreSet, ?tripSet, ?limits, ?stencil,
    ?group, ?bind, ?timSet, ?stwWrite, ?add, ?remove, ?addBusy, ?removeBusy⟩
  case prt | fab | ing | acq | sch | cle | lge | out | rec_ | dpx | key | mem | tim | tenant =>
    exact mbxStatus_of (fun _ _ _ => rfl) (by decide +kernel) fun _ _ => rfl
  case portSet => exact mbxDoes_of (fun _ _ _ => rfl) (by decide +kernel) fun c x g _ _ => planWords_body _ _ c g x
  case lreSet => exact mbxDoes_of (fun _ _ _ => rfl) (by decide +kernel) fun c x g _ _ => planPrtLreSet_body x
  case tripSet => exact mbxDoes_of (fun _ _ _ => rfl) (by decide +kernel) fun c x g _ _ => planWords_body _ _ c g x
  case limits | stencil | group | bind | timSet => exact mbxWrites_of (fun _ _ _ => rfl) (by decide +kernel) fun _ _ _ _ => rfl
  case stwWrite => exact mbxWrites_of (allowed := fun _ _ => true) (fun _ _ _ => rfl) (by decide +kernel) fun _ _ _ _ => rfl
  case add => exact mbxDoes_of (fun _ _ _ => rfl) (by decide +kernel) fun c x g _ free => planStreamAdd_open free x
  case remove => exact mbxWrites_of (fun _ _ _ => rfl) (by decide +kernel) fun c x g free => planShadow_open free x
  case addBusy => exact mbxRefuses_of (fun _ _ _ => rfl) (by decide +kernel) fun c x g _ busy => planStreamAdd_closed busy x
  case removeBusy => exact mbxRefuses_of (fun _ _ _ => rfl) (by decide +kernel) fun c x g _ busy => planShadow_closed busy x

end Sys2Proof.Machine
end

section
/-! Mailbox commands of the fabric, ingest, acquisition, the scheduler and the control laws (R108, R143, R167, R190, R246, R284 to R287). -/

namespace Sys2Proof.Machine

section

variable {c : Cmd} {g : State} {x : Session}

/-! ### Fabric and ingest -/

theorem fdbNow_free {start : State → State} {data : Cmd → List Byte} (free : g.rdB FAB_FDB_CMD FAB_FDB_CMD_BUSY = false) :
    g.fdbNow start (data c) = fdbAnswer (fun _ => start) data c x g :=
  if_neg (by rw [free]; decide)

theorem fdbNow_busy {start : State → State} {data : List Byte} (busy : g.rdB FAB_FDB_CMD FAB_FDB_CMD_BUSY = true) :
    g.fdbNow start data = ({ status := 0x0302 }, g) := if_pos busy

theorem planFabFdbDelete_delete (delete : c.n1 0 = 1) :
    (planFabFdbDelete c g).body x = g.fdbNow opFdbDelete (slice c.payload 4 8 ++ leBytes 8 0) :=
  if_neg (by rw [delete]; decide)

theorem planFabFdbDelete_flush (flush : c.n1 0 = 2) :
    (planFabFdbDelete c g).body x = g.fdbNow (opFdbFlush (c.n1 1)) (leBytes 16 0) :=
  if_pos (by rw [flush]; decide)

theorem planStreamFlip_flip (flip : c.n4 0 = 0) : (planStreamFlip c g).body x =
    if g.ing.flip.isSome then ({ status := 0x0302 }, g)
    else ({ later := some (if (opIngFlip g).ing.flip.isSome then { obj := g.ingActive }
      else { obj := g.ingActive, outcome := some (0x05B0, 0, []) }) }, opIngFlip g) :=
  if_neg (by rw [flip]; decide)

theorem planStreamFlip_cancel (cancel : c.n4 0 = 1) (pending : g.ing.flip.isSome = true) (gone : (opIngCancel g).ing.flip = none) :
    (planStreamFlip c g).body x = ({ status := 0x05B1 }, opIngCancel g) :=
  (if_pos cancel).trans (if_pos (by rw [pending, gone]; rfl))

/-- Taking at least as many strangers as wait gives them all, oldest first (R167). -/
theorem takeStrangers_all : ∀ (n : Nat) (s : State), s.ing.strangers.length ≤ n → (State.takeStrangers n s).1 = s.ing.strangers.flatten
  | 0, s, h => by
    rw [List.length_eq_zero_iff.mp (Nat.le_zero.mp h)]
    rfl
  | n + 1, s, h => by
    unfold State.takeStrangers
    cases e : s.ing.strangers with
    | nil => rfl
    | cons y rest =>
      have popped : (opIngStrangerPop s).ing.strangers = rest := by
        show s.ing.strangers.drop 1 = rest
        rw [e]
        rfl
      have taken := takeStrangers_all n (opIngStrangerPop s) (by rw [popped]; rw [e] at h; exact Nat.le_of_succ_le_succ h)
      rw [List.flatten_cons, ← popped, ← taken]

/-! ### Control laws -/

theorem planClawTraceRead_read {d : List Byte} {u : State}
    (out : g.bulkOut (c.n1 4) (c.n8 8) (g.bytes (g.rd CLE_TRACE_BASE_LO CLE_TRACE_BASE_LO_BASE * 2 ^ 24
      + 2 ^ 32 * g.rd CLE_TRACE_BASE_HI CLE_TRACE_BASE_HI_BASE + c.n2 0 * 0x20000) 0x20000) = some (d, u)) :
    (planClawTraceRead c g).body x = ({ data := d }, u) := by
  unfold planClawTraceRead
  simp only [out]

theorem planClawAutotune_begin {relay pid : Nat} (pair : g.tunePair (c.n2 0) = some (relay, pid)) (law : g.lawState (c.n2 0) = 1)
    (trace : g.trcState (c.n2 0) = 0 ∨ g.trcState (c.n2 0) = 3) (idle : g.tuneOf (c.n2 0) = none)
    (pending : g.rdB (CLE_LAW_STATE (c.n2 0)) CLE_LAW_STATE_COMMIT_PENDING = false) :
    (planClawAutotune c g).body x = g.beginTune c (c.n2 0) relay pid := by
  unfold planClawAutotune
  simp only [pair]
  rw [if_neg (not_not_intro law), if_neg]
  rw [idle, pending]
  rcases trace with h | h <;> rw [h] <;> decide

theorem planClawAutotune_refused (h : g.tunePair (c.n2 0) = none ∨ g.lawState (c.n2 0) ≠ 1) :
    (planClawAutotune c g).body x = ({ status := 0x0520 }, g) := by
  unfold planClawAutotune
  dsimp only
  cases pair : g.tunePair (c.n2 0) with
  | none => rfl
  | some p => exact if_pos (h.resolve_left (by rw [pair]; exact fun e => nomatch e))

theorem planClawAutotuneApply_apply {d : CleTuned} (result : g.tuneResult (c.n2 0) (c.n2 2) = some d) (ok : d.status = 0)
    (commits : (g.law (c.n2 0)).commits = d.commits) (pending : g.rdB (CLE_LAW_STATE (c.n2 0)) CLE_LAW_STATE_COMMIT_PENDING = false) :
    (planClawAutotuneApply c g).body x =
      let l := c.n2 0
      let b := 1 - g.activeSet l
      let w := ((((g.copyActive l).giveParam b (g.tunePid l) 0 d.kp).giveParam b (g.tunePid l) 1 d.ki).giveParam b (g.tunePid l) 2 d.kd).lawCommit l true
      ({ status := lawStatus w.1.1, detail := w.1.2 }, w.2) := by
  unfold planClawAutotuneApply
  simp only [result]
  rw [if_neg (by rintro (h | h); exacts [h ok, h commits]), if_neg (by rw [pending]; decide)]

theorem planClawAutotuneApply_stale (h : g.tuneResult (c.n2 0) (c.n2 2) = none) :
    (planClawAutotuneApply c g).body x = ({ status := 0x0525 }, g) := by
  unfold planClawAutotuneApply
  simp only [h]
  rfl

theorem planClawCoeffCommit_commit (pending : g.rdB (CLE_LAW_STATE (c.n2 0)) CLE_LAW_STATE_COMMIT_PENDING = false)
    (written : (g.writePairs 4 (regPairs c 4)).1 = none)
    (accepted : ((g.writePairs 4 (regPairs c 4)).2.lawCommit (c.n2 0) (c.n1 2 == 1)).1.1 = 0) : (planClawCoeffCommit c g).body x =
      let w := ((g.writePairs 4 (regPairs c 4)).2.lawCommit (c.n2 0) (c.n1 2 == 1)).2
      let n := (g.law (c.n2 0)).commits
      ({ later := some { obj := c.n2 0, arg := n, outcome := if (w.law (c.n2 0)).commits ≠ n then some (0, 0, []) else none } }, w) := by
  unfold planClawCoeffCommit
  dsimp only
  rw [if_neg (by rw [pending]; decide)]
  generalize g.writePairs 4 (regPairs c 4) = p at written accepted ⊢
  obtain ⟨_ | off, u⟩ := p
  · dsimp only at accepted ⊢
    exact if_neg (not_not_intro accepted)
  · exact nomatch written

end

/-- Settles O56. -/
theorem mailboxDataAndLaws : Obligations.MailboxDataAndLaws := by
  refine ⟨?fdbWrite, ?fdbDelete, ?fdbFlush, ?fdbBusy, ?flip, ?flipRejected, ?flipBusy, ?flipCancel, ?strangers, takeStrangers_all, ?release, ?enqueue,
    ?trace, ?tune, ?tuneRefused, ?apply_, ?applyStale, ?abort, ?abortNone, ?control, ?commit, ?commitBusy⟩
  case fdbWrite => exact mbxDoes_of (fun _ _ _ => rfl) (by decide +kernel) fun c x g _ free => fdbNow_free (data := (·.payload)) free
  case fdbDelete =>
    exact mbxDoes_of (fun _ _ _ => rfl) (by decide +kernel) fun c x g _ h => (planFabFdbDelete_delete h.2).trans
      (fdbNow_free (data := fun c => slice c.payload 4 8 ++ leBytes 8 0) h.1)
  case fdbFlush =>
    exact mbxDoes_of (fun _ _ _ => rfl) (by decide +kernel) fun c x g _ h => (planFabFdbDelete_flush h.2).trans (if_neg (by rw [h.1]; decide))
  case fdbBusy => exact mbxRefuses_of (fun _ _ _ => rfl) (by decide +kernel) fun c x g _ busy => fdbNow_busy busy
  case flip =>
    refine mbxDoes_of (fun _ _ _ => rfl) (by decide +kernel) fun c x g _ h => (planStreamFlip_flip h.1).trans ?_
    rw [h.2.1, h.2.2]
    rfl
  case flipRejected =>
    refine mbxDoes_of (fun _ _ _ => rfl) (by decide +kernel) fun c x g _ h => (planStreamFlip_flip h.1).trans ?_
    rw [h.2.1, h.2.2]
    rfl
  case flipBusy => exact mbxRefuses_of (fun _ _ _ => rfl) (by decide +kernel) fun c x g _ h => (planStreamFlip_flip h.1).trans (if_pos h.2)
  case flipCancel => exact mbxDoes_of (fun _ _ _ => rfl) (by decide +kernel) fun c x g _ h => planStreamFlip_cancel h.1 h.2.1 h.2.2
  case strangers => exact mbxDoes_of (fun _ _ _ => rfl) (by decide +kernel) fun c x g _ _ => rfl
  case release => exact mbxDoes_of (fun _ _ _ => rfl) (by decide +kernel) fun c x g _ _ => rfl
  case enqueue => exact mbxDoes_of (fun _ _ _ => rfl) (by decide +kernel) fun c x g _ _ => rfl
  case trace =>
    exact fun d u => mbxAnswers_of (fun _ _ _ => rfl) (fun c x g _ h => planClawTraceRead_read h) fun c g => audited_status (by decide +kernel) rfl
  case tune =>
    exact fun relay pid => mbxAnswers_of (fun _ _ _ => rfl) (fun c x g _ h => planClawAutotune_begin h.1 h.2.1 h.2.2.1 h.2.2.2.1 h.2.2.2.2)
      fun c g => audited_command (by decide +kernel)
  case tuneRefused => exact mbxRefuses_of (fun _ _ _ => rfl) (by decide +kernel) fun c x g _ h => planClawAutotune_refused h
  case apply_ =>
    exact fun d => mbxDoes_of (fun _ _ _ => rfl) (by decide +kernel) fun c x g _ h => planClawAutotuneApply_apply h.1 h.2.1 h.2.2.1 h.2.2.2
  case applyStale => exact mbxRefuses_of (fun _ _ _ => rfl) (by decide +kernel) fun c x g _ h => planClawAutotuneApply_stale h
  case abort =>
    exact mbxDoes_of (fun _ _ _ => rfl) (by decide +kernel) fun c x g _ h => if_neg (by rw [← Option.not_isSome, h]; decide)
  case abortNone => exact mbxRefuses_of (fun _ _ _ => rfl) (by decide +kernel) fun c x g _ h => if_pos (by rw [h]; rfl)
  case control => exact mbxDoes_of (fun _ _ _ => rfl) (by decide +kernel) fun c x g _ _ => rfl
  case commit =>
    exact mbxDoes_of (fun _ _ _ => rfl) (by decide +kernel) fun c x g _ h => planClawCoeffCommit_commit h.1 h.2.1 h.2.2
  case commitBusy => exact mbxRefuses_of (fun _ _ _ => rfl) (by decide +kernel) fun c x g _ h => if_pos h

end Sys2Proof.Machine
end

section
/-! Mailbox commands of the logic engine, the outputs, the recorders, the duplex pair and the memory banks (R310 to R314, R330, R363,
R368, R430, R476). -/

namespace Sys2Proof.Machine

section

variable {c : Cmd} {g : State} {x : Session}

/-! ### Logic programs -/

theorem planProgLoad_image {b : List Byte} (image : g.aperImage (c.n4 4) (c.n4 8) (c.n4 12) = some b) : (planProgLoad c g).body x =
    if g.prgState (c.n1 0) ≠ 0 then ({ status := stProgState }, g)
    else match g.loadSlot (c.n1 0) 0 (regRecs b) with
      | (some i, _) => ({ status := stBadField, detail := satNat 65535 i }, g)
      | (none, t) => ({}, t) := by
  unfold planProgLoad
  simp only [image] <;> rfl

theorem planProgLoad_loads {b : List Byte} (image : g.aperImage (c.n4 4) (c.n4 8) (c.n4 12) = some b) (empty : g.prgState (c.n1 0) = 0)
    (good : (g.loadSlot (c.n1 0) 0 (regRecs b)).1 = none) : (planProgLoad c g).body x = ({}, (g.loadSlot (c.n1 0) 0 (regRecs b)).2) := by
  rw [planProgLoad_image image, if_neg (not_not_intro empty)]
  generalize g.loadSlot (c.n1 0) 0 (regRecs b) = p at good ⊢
  obtain ⟨_ | i, u⟩ := p
  · rfl
  · exact nomatch good

theorem planProgLoad_noImage (image : g.aperImage (c.n4 4) (c.n4 8) (c.n4 12) = none) :
    (planProgLoad c g).body x = ({ status := 0x05A1 }, g) := by
  unfold planProgLoad
  simp only [image]
  rfl

theorem planProgExchange_accepted (free : g.rdB (LGE_PRG_CMD (c.n1 0)) LGE_PRG_CMD_BUSY = false)
    (accepted : (opLgeExchange (c.n1 0) (c.n1 1) g).rd (LGE_PRG_CMD (c.n1 0)) LGE_PRG_CMD_RESULT = 0) : (planProgExchange c g).body x =
      let w := opLgeExchange (c.n1 0) (c.n1 1) g
      ({ later := some { obj := c.n1 0, outcome := if (w.prog (c.n1 0)).exch.isNone then some (0, 0, fitBytes 32 (w.regBytes (LGE_REPORT 0) 32)) else none } }, w) :=
  (if_neg (by rw [free]; decide)).trans (if_neg (not_not_intro accepted))

/-- Whether a program declares a variable is a search of its declarations (R314). -/
theorem declares_iff {p var : Nat} : ((g.decls p).any fun d => d.var == var) = true ↔ ∃ d ∈ g.decls p, d.var = var := by
  simp only [List.any_eq_true, beq_iff_eq]

theorem planProgForce_force {f : Nat} (slot : g.forceSlot (c.n1 0) (c.n2 2) (c.n1 4 == 1) = some f)
    (declared : c.n1 4 = 1 → ∃ d ∈ g.decls (c.n1 0), d.var = c.n2 2) : (planProgForce c g).body x =
      ({ status := (g.setForce (c.n1 0) f (c.n2 2) (c.n1 4 == 1) (c.n4 8) x.id).1 },
        (g.setForce (c.n1 0) f (c.n2 2) (c.n1 4 == 1) (c.n4 8) x.id).2) := by
  have known : ¬(c.n1 4 == 1 && !(g.decls (c.n1 0)).any fun d => d.var == c.n2 2) = true := fun h => by
    obtain ⟨on, unknown⟩ := Bool.and_eq_true_iff.mp h
    rw [declares_iff.mpr (declared (beq_iff_eq.mp on))] at unknown
    exact nomatch unknown
  unfold planProgForce
  simp only [slot]
  exact if_neg known

theorem planProgForce_undeclared (on : c.n1 4 = 1) (unknown : ∀ d ∈ g.decls (c.n1 0), d.var ≠ c.n2 2) :
    (planProgForce c g).body x = ({ status := 0x0535 }, g) := by
  have none : ((g.decls (c.n1 0)).any fun d => d.var == c.n2 2) = false :=
    Bool.eq_false_iff.mpr fun h => by
      obtain ⟨d, mem, same⟩ := declares_iff.mp h
      exact unknown d mem same
  exact if_pos (by rw [none, on]; rfl)

/-! ### Recorders -/

theorem planRecTrigger_offer {e : TrigEnd} {u : State}
    (offer : g.recSync.recOffer (c.n1 0) 9 (if c.n1 1 = 1 then g.stamp else c.n8 4) 0 none = (e, u)) : (planRecTrigger c g).body x =
      match e with
      | .accepted => ({}, u.recSync)
      | .tooOld => ({ status := 0x0553 }, u.recSync)
      | .nothing => ({ status := stRecState }, u.recSync)
      | .ignored => ({ status := stRecState }, u.recSync) := by
  unfold planRecTrigger
  cases e <;> simp only [offer]

theorem planRecExport_done (done : g.recState (c.n1 0) = 3) (idle : (g.recDyn (c.n1 0)).exporting = false) : (planRecExport c g).body x =
    match g.bulkOut (c.n4 4) (c.n8 8) (g.exportBytes (c.n1 0) (c.n1 1 == 1)) with
    | none => ({ status := 0x05A1 }, g)
    | some (d, u) =>
      let y : RecDyn := u.recDyn (c.n1 0)
      ({ later := some { obj := c.n1 0, outcome := some (0, 0, d) } }, u.setRec (c.n1 0) { y with exporting := true }) :=
  (if_neg (not_not_intro done)).trans (if_neg (by rw [idle]; decide))

/-! ### The duplex pair -/

/-- A mailbox command of the duplex unit is DPX_CMD's, and its RESULT the answer's status (R430). -/
theorem dpxDoes_of {i : Nat → Cmd → Instr} {op n : Nat} {plan : Cmd → State → Plan} {f : Cmd → State → State}
    (hi : ∀ t c s, exec (i t c) s = .next (s.after t fun m => m.serve op (plan c) c)) (command : (cmdInfo op).map CmdInfo.status = some false)
    (hp : ∀ c g, plan c g = planDpx n (f c) c g) : DpxDoes i op plan f :=
  ⟨mbxDoes_of hi command fun c x g _ free => by rw [hp]; exact if_neg (by rw [free]; decide),
    mbxRefuses_of hi command fun c x g _ busy => by rw [hp]; exact if_pos busy⟩

/-! ### Memory banks -/

theorem planMemBankAssign_passes (ready : g.bankState (c.n4 0) ≠ 5) : (planMemBankAssign c g).body x =
    if !g.ownerOk (bankWord c) then ({ status := 0x0591 }, g)
    else if !g.handoverOk (c.n4 0) (bankWord c) then ({ status := stBusy }, g)
    else ({ later := some { obj := c.n4 0, arg := (bankWord c).toNat } }, opBankHandover (c.n4 0) (bankWord c) g) := if_neg ready

theorem planMemBankAssign_assigns (ready : g.bankState (c.n4 0) ≠ 5) (owner : g.ownerOk (bankWord c) = true)
    (free : g.handoverOk (c.n4 0) (bankWord c) = true) :
    (planMemBankAssign c g).body x = ({ later := some { obj := c.n4 0, arg := (bankWord c).toNat } }, opBankHandover (c.n4 0) (bankWord c) g) := by
  rw [planMemBankAssign_passes ready, owner, free]
  rfl

end

/-- Settles O57. -/
theorem mailboxPlantCommands : Obligations.MailboxPlantCommands := by
  refine ⟨?load, ?loadNoImage, ?loadState, ?verify, ?exchange, ?control, ?force, ?forceUnknown, ?arm, ?fence, ?events, ?recArm, ?recDisarm,
    ?trigger, ?triggerOld, ?export_, ?exportState, ?revert, ?unfence, ?declare, ?grant, ?assign, ?assignBad, ?assignOwner, ?bist, ?bistBusy⟩
  case load => exact fun b => mbxDoes_of (fun _ _ _ => rfl) (by decide +kernel) fun c x g _ h => planProgLoad_loads h.1 h.2.1 h.2.2
  case loadNoImage => exact mbxRefuses_of (fun _ _ _ => rfl) (by decide +kernel) fun c x g _ h => planProgLoad_noImage h
  case loadState =>
    refine mbxRefuses_of (fun _ _ _ => rfl) (by decide +kernel) fun c x g _ h => ?_
    obtain ⟨b, image⟩ := Option.isSome_iff_exists.mp h.1
    exact (planProgLoad_image image).trans (if_pos h.2)
  case verify => exact mbxDoes_of (fun _ _ _ => rfl) (by decide +kernel) fun c x g _ free => if_neg (by rw [free]; decide)
  case exchange => exact mbxDoes_of (fun _ _ _ => rfl) (by decide +kernel) fun c x g _ h => planProgExchange_accepted h.1 h.2
  case control => exact mbxDoes_of (fun _ _ _ => rfl) (by decide +kernel) fun c x g _ free => if_neg (by rw [free]; decide)
  case force => exact fun f => mbxDoes_of (fun _ _ _ => rfl) (by decide +kernel) fun c x g _ h => planProgForce_force h.1 h.2
  case forceUnknown => exact mbxRefuses_of (fun _ _ _ => rfl) (by decide +kernel) fun c x g _ h => planProgForce_undeclared h.1 h.2
  case arm | fence | events | recArm | recDisarm => exact mbxDoes_of (fun _ _ _ => rfl) (by decide +kernel) fun _ _ _ _ _ => rfl
  case trigger | triggerOld => exact fun u => mbxDoes_of (fun _ _ _ => rfl) (by decide +kernel) fun c x g _ offer => planRecTrigger_offer offer
  case export_ => exact mbxDoes_of (fun _ _ _ => rfl) (by decide +kernel) fun c x g _ h => planRecExport_done h.1 h.2
  case exportState => exact mbxRefuses_of (fun _ _ _ => rfl) (by decide +kernel) fun c x g _ h => if_pos h
  case revert => exact dpxDoes_of (n := 0) (fun _ _ _ => rfl) (by decide +kernel) fun _ _ => rfl
  case unfence => exact dpxDoes_of (n := 4) (fun _ _ _ => rfl) (by decide +kernel) fun _ _ => rfl
  case declare => exact dpxDoes_of (n := 0) (fun _ _ _ => rfl) (by decide +kernel) fun _ _ => rfl
  case grant => exact dpxDoes_of (n := 4) (fun _ _ _ => rfl) (by decide +kernel) fun _ _ => rfl
  case assign => exact mbxDoes_of (fun _ _ _ => rfl) (by decide +kernel) fun c x g _ h => planMemBankAssign_assigns h.1 h.2.1 h.2.2
  case assignBad => exact mbxRefuses_of (fun _ _ _ => rfl) (by decide +kernel) fun c x g _ h => if_pos h
  case assignOwner =>
    exact mbxRefuses_of (fun _ _ _ => rfl) (by decide +kernel) fun c x g _ h => (planMemBankAssign_passes h.1).trans (if_pos (by rw [h.2]; rfl))
  case bist => exact mbxDoes_of (fun _ _ _ => rfl) (by decide +kernel) fun c x g _ h => if_pos h
  case bistBusy => exact mbxRefuses_of (fun _ _ _ => rfl) (by decide +kernel) fun c x g _ h => if_neg (not_or.mpr h)

end Sys2Proof.Machine
end

section
/-! Mailbox commands of the key register, the life cycle, tamper and the Almanac (R389 to R391, R438 to R452, R457). -/

namespace Sys2Proof.Machine

section

variable {c : Cmd} {g : State} {x : Session}

/-! ### Key operations run for a command -/

/-- A key operation run to its end, before its buffers are cleared. -/
def State.keyRan (g : State) (key dst attr tenant : Nat) (input : List Byte) (op : State → State) : State :=
  opKeyOperationEnd none (opSweepComplete (opInvalidateComplete (op (g.keyRegs key dst attr tenant input))))

theorem keyRun_busy {key dst attr tenant out : Nat} {input : List Byte} {op : State → State} (busy : g.opFree = false) :
    g.keyRun key dst attr tenant input op out = ({ status := 0x0302 }, g) := if_pos (by rw [busy]; rfl)

theorem keyRun_free {key dst attr tenant out : Nat} {input : List Byte} {op : State → State} (free : g.opFree = true) :
    g.keyRun key dst attr tenant input op out =
      let u := g.keyRan key dst attr tenant input op
      let st := u.rd KEY_OP_STAT KEY_OP_STAT_STATUS
      ({ status := st, data := if st = 0 then u.bytes keyOutAddr out else [] },
        (u.store keyInAddr (List.replicate input.length 0)).store keyOutAddr (List.replicate out 0)) :=
  if_neg (by rw [free]; decide)

/-- An operation without input and output leaves the buffers alone, and answers its status. -/
theorem keyRun_bare {key dst attr tenant : Nat} {op : State → State} (free : g.opFree = true) :
    g.keyRun key dst attr tenant [] op 0 =
      ({ status := (g.keyRan key dst attr tenant [] op).rd KEY_OP_STAT KEY_OP_STAT_STATUS }, g.keyRan key dst attr tenant [] op) := by
  rw [keyRun_free free]
  generalize g.keyRan key dst attr tenant [] op = u
  exact congrArg (fun d => (({ status := u.rd KEY_OP_STAT KEY_OP_STAT_STATUS, data := d } : Reply), u)) (ite_self [])

theorem withCount_keyRun {key dst attr tenant : Nat} {op : State → State} (free : g.opFree = true) :
    State.withCount (g.keyRun key dst attr tenant [] op 0) =
      let u := g.keyRan key dst attr tenant [] op
      ({ status := u.rd KEY_OP_STAT KEY_OP_STAT_STATUS, data := p4 (u.rd KEY_OP_STAT KEY_OP_STAT_COUNT) }, u) := by
  rw [keyRun_bare free]
  rfl

/-- A creating command fills the registers from its payload and runs its operation to the end. -/
theorem keyDoes_of {i : Nat → Cmd → Instr} {op pubs out : Nat} {plan : Cmd → State → Plan} {f : Cmd → State → State}
    (hi : ∀ t c s, exec (i t c) s = .next (s.after t fun m => m.serve op (plan c) c)) (command : (cmdInfo op).map CmdInfo.status = some false)
    (hp : ∀ c g, plan c g = planCreate (f c) pubs out c g) : KeyDoes i op plan f out :=
  ⟨mbxDoes_of hi command fun c x g _ free => by rw [hp]; exact keyRun_free free,
    mbxRefuses_of hi command fun c x g _ busy => by rw [hp]; exact keyRun_busy busy⟩

/-! ### Handles, fuses and the life cycle -/

theorem planKeyHandleSet_still (still : g.tenState (c.n2 0) ≠ 5) : (planKeyHandleSet c g).body x =
    let a := KEY_HANDLE (c.n2 0) (c.n2 2)
    ({}, (g.wr a KEY_HANDLE_SLOT (c.n2 4)).wrB a KEY_HANDLE_VALID (c.n1 6 == 1)) :=
  congrArg (Prod.mk ({} : Reply)) (if_neg (by simp [still]))

theorem planKeyHandleSet_moving (moving : g.tenState (c.n2 0) = 5) (into : g.tenBit (c.n2 0) TEN_STATE_DIR = true) :
    (planKeyHandleSet c g).body x =
      let a := KEY_HANDLE (c.n2 0) (c.n2 2)
      ({}, State.tenNotice ((g.wr a KEY_HANDLE_SLOT (c.n2 4)).wrB a KEY_HANDLE_VALID (c.n1 6 == 1)) (c.n2 0) 3 (c.n2 2)) :=
  congrArg (Prod.mk ({} : Reply)) (if_pos (by rw [moving, into]; rfl))

theorem planKeyEnroll_blank {n : Nat} (blank : (List.range 4).find? (fun j => (g.fuses.customer.getD j none).isNone) = some n) :
    (planKeyEnroll c g).body x =
      let h := Config.sha256 (pointBytes (BitVec.ofNat 512 (beNat c.payload)))
      ({ data := p1 n ++ leBytes 3 0 }, g.setFuses { g.fuses with customer := g.fuses.customer.set n (some h) }) := by
  unfold planKeyEnroll
  simp only [blank]

theorem planKeyEnroll_full (full : (List.range 4).find? (fun j => (g.fuses.customer.getD j none).isNone) = none) :
    (planKeyEnroll c g).body x = ({ status := 0x0303 }, g) := by
  unfold planKeyEnroll
  simp only [full]
  rfl

theorem planKeyRevoke_revokes (released : g.lc ≠ 2) : (planKeyRevoke c g).body x =
    ({}, g.setFuses { g.fuses with revoked := g.fuses.revoked.set (c.n1 0) true }) := if_neg fun h => released h.1

theorem planKeyLcAdvance_starts (ready : g.lcReady (c.n1 0) = true) (kept : c.n1 0 ≠ 3) (idle : ∀ j ∈ g.mbx.jobs, j.opcode ≠ 0x0C22) :
    (planKeyLcAdvance c g).body x = ({ later := some { obj := c.n1 0 } }, g) := by
  have none : (g.mbx.jobs.any fun j => j.opcode == 0x0C22) = false := by
    simpa only [List.any_eq_false, beq_iff_eq] using idle
  exact (if_neg (by rw [ready, none]; decide)).trans (if_neg kept)

theorem planKeyLcAdvance_notReady (h : g.lcReady (c.n1 0) = false) : (planKeyLcAdvance c g).body x = ({ status := 0x0588 }, g) :=
  if_pos (Or.inl (by rw [h]; rfl))

/-- The right code given in time, when no other is outstanding, is used up and lets the command go on (R389). -/
theorem confirmed_given {op code m : Nat} {go : State → Reply × State} (given : code ≠ 0) (asked : g.mbx.confirms = [(x.id, op, code, m)])
    (inTime : g.now ≤ m + 30000000000) : g.confirmed x op code go = go { g with mbx := { g.mbx with confirms := [] } } := by
  have mine : ((x.id, op, code, m).1 == x.id && (x.id, op, code, m).2.1 == op) = true := by simp
  unfold State.confirmed
  rw [if_neg given, asked]
  simp only [List.find?_cons, List.filter_cons, mine, Bool.not_true]
  rw [if_neg (not_not_intro rfl), if_neg (Nat.not_lt.mpr inTime)]
  rfl

/-- What TAMPER_CLEAR does once its code is given: the cause and the latch go, and the register is in service (R452). -/
def State.tamperCleared (t : State) : Reply × State :=
  let u := (t.wrW KEY_TAMPER_CAUSE 0).wrB KEY_STAT KEY_STAT_TAMPERED false
  ({}, (u.wrB KEY_STAT KEY_STAT_SERVICE true).post 0x0C08 [])

theorem planKeyTamperClear_body : (planKeyTamperClear c g).body x = g.confirmed x 0x0C23 (c.n4 0) State.tamperCleared := rfl

/-! ### The Almanac -/

theorem planAlmClear_asks (tenant : c.n2 0 < 512) (quota : g.quota (c.n2 0) ≠ 0) : (planAlmClear c g).body x =
    let w := g.drawCode.2
    ({ data := p4 g.drawCode.1 },
      { w with alm := { w.alm with confirms := w.alm.confirms.filter (fun y => y.session != x.id) ++ [{ session := x.id, ch := c.n2 0, code := g.drawCode.1, at_ := g.now }] } }) :=
  (if_neg (Nat.not_le.mpr tenant)).trans (if_neg quota)

theorem planAlmClearConfirm_clears {m : Nat} (asked : g.alm.confirms = [{ session := x.id, ch := c.n2 0, code := c.n4 4, at_ := m }])
    (inTime : g.now ≤ m + 30000000000) (quota : g.quota (c.n2 0) ≠ 0) :
    (planAlmClearConfirm c g).body x = ({}, State.clearNow { g with alm := { g.alm with confirms := [] } } x (c.n2 0)) := by
  unfold planAlmClearConfirm
  dsimp only
  rw [asked]
  simp only [List.find?_cons, List.filter_cons, beq_self_eq_true, bne_self_eq_false]
  rw [if_neg (by rintro (h | h) <;> exact h rfl), if_neg (Nat.not_lt.mpr inTime), if_neg quota]
  rfl

theorem planAlmClearConfirm_unasked (unasked : ∀ y ∈ g.alm.confirms, y.session ≠ x.id) :
    (planAlmClearConfirm c g).body x = ({ status := 0x0563 }, g) := by
  have none : g.alm.confirms.find? (fun y => y.session == x.id) = none := by
    simpa only [List.find?_eq_none, beq_iff_eq] using unasked
  unfold planAlmClearConfirm
  simp only [none]
  rfl

end

/-- Settles O58. -/
theorem mailboxKeysAndAlmanac : Obligations.MailboxKeysAndAlmanac := by
  refine ⟨?derive, ?import_, ?export_, ?generate_, ?agree, ?invalidate, ?sweep, ?handle, ?handleMoving, ?zeroise, ?enroll, ?enrollFull, ?revoke,
    ?advance, ?advanceNotReady, ?tamperClear, ?tamperCfg, ?clear, ?clearDenied, ?confirm, ?confirmUnasked, ?info, ?read⟩
  case derive | agree => exact keyDoes_of (pubs := 1) (fun _ _ _ => rfl) (by decide +kernel) fun _ _ => rfl
  case export_ | generate_ => exact keyDoes_of (pubs := 1) (fun _ _ _ => rfl) (by decide +kernel) fun _ _ => rfl
  case import_ => exact keyDoes_of (pubs := 2) (fun _ _ _ => rfl) (by decide +kernel) fun _ _ => rfl
  case invalidate | sweep => exact mbxDoes_of (fun _ _ _ => rfl) (by decide +kernel) fun c x g _ free => withCount_keyRun free
  case zeroise => exact mbxDoes_of (fun _ _ _ => rfl) (by decide +kernel) fun c x g _ free => keyRun_bare free
  case handle => exact mbxDoes_of (fun _ _ _ => rfl) (by decide +kernel) fun c x g _ h => planKeyHandleSet_still h
  case handleMoving => exact mbxDoes_of (fun _ _ _ => rfl) (by decide +kernel) fun c x g _ h => planKeyHandleSet_moving h.1 h.2
  case enroll => exact fun n => mbxDoes_of (fun _ _ _ => rfl) (by decide +kernel) fun c x g _ h => planKeyEnroll_blank h
  case enrollFull => exact mbxRefuses_of (fun _ _ _ => rfl) (by decide +kernel) fun c x g _ h => planKeyEnroll_full h
  case revoke => exact mbxDoes_of (fun _ _ _ => rfl) (by decide +kernel) fun c x g _ h => planKeyRevoke_revokes h
  case advance => exact mbxDoes_of (fun _ _ _ => rfl) (by decide +kernel) fun c x g _ h => planKeyLcAdvance_starts h.1 h.2.1 h.2.2
  case advanceNotReady => exact mbxRefuses_of (fun _ _ _ => rfl) (by decide +kernel) fun c x g _ h => planKeyLcAdvance_notReady h
  case tamperClear =>
    refine mbxDoes_of (fun _ _ _ => rfl) (by decide +kernel) fun c x g _ h => ?_
    obtain ⟨given, m, asked, inTime⟩ := h
    exact planKeyTamperClear_body.trans (confirmed_given given asked inTime)
  case tamperCfg => exact mbxDoes_of (fun _ _ _ => rfl) (by decide +kernel) fun _ _ _ _ _ => rfl
  case clear => exact mbxDoes_of (fun _ _ _ => rfl) (by decide +kernel) fun c x g _ h => planAlmClear_asks h.1 h.2
  case clearDenied => exact mbxRefuses_of (fun _ _ _ => rfl) (by decide +kernel) fun c x g _ h => if_pos h
  case confirm =>
    exact fun m => mbxDoes_of (fun _ _ _ => rfl) (by decide +kernel) fun c x g _ h => planAlmClearConfirm_clears h.1 h.2.1 h.2.2
  case confirmUnasked => exact mbxRefuses_of (fun _ _ _ => rfl) (by decide +kernel) fun c x g _ h => planAlmClearConfirm_unasked h
  case info | read => exact mbxReads_of (fun _ _ _ => rfl) (by decide +kernel) (fun _ _ => rfl) fun _ _ _ _ => rfl

end Sys2Proof.Machine
end

section
/-! The order of a mailbox command's checks (R483, R486, R489, R509), for every command at once. -/

namespace Sys2Proof.Machine

/-! ### The checks after SEQUENCE -/

section

variable {g : State} {op n : Nat} {e : CmdInfo} {p : Plan} {x : Session}

theorem checks_absent (absent : p.absent = some n) : g.checks op e p x = some (0x0301, op / 256 * 256 + n % 256) := by
  unfold State.checks
  rw [absent]
  rfl

theorem checks_present (present : p.absent = none) : g.checks op e p x =
    if p.tamper || (!g.inService && !(e.status && !p.writes) && !e.recovery) then some (0x0401, 0)
    else if !p.lcOk || (g.lc == 3 && !(e.status && !p.writes)) then some (0x0205, 0)
    else if x.role < p.role.getD e.role then some (0x0203, 0)
    else if p.clear && !x.clear then some (0x0206, 0)
    else p.bad := by
  unfold State.checks
  rw [present]
  rfl

theorem checks_served (present : p.absent = none) (calm : p.tamper = false) (service : g.inService = true) : g.checks op e p x =
    if !p.lcOk || (g.lc == 3 && !(e.status && !p.writes)) then some (0x0205, 0)
    else if x.role < p.role.getD e.role then some (0x0203, 0)
    else if p.clear && !x.clear then some (0x0206, 0)
    else p.bad := by
  rw [checks_present present, calm, service]
  rfl

theorem checks_allowed (present : p.absent = none) (calm : p.tamper = false) (service : g.inService = true) (allowed : p.lcOk = true)
    (live : g.lc ≠ 3) : g.checks op e p x =
    if x.role < p.role.getD e.role then some (0x0203, 0)
    else if p.clear && !x.clear then some (0x0206, 0)
    else p.bad := by
  rw [checks_served present calm service, allowed, beq_false_of_ne live]
  rfl

theorem checks_ranked (present : p.absent = none) (calm : p.tamper = false) (service : g.inService = true) (allowed : p.lcOk = true)
    (live : g.lc ≠ 3) (rank : p.role.getD e.role ≤ x.role) : g.checks op e p x = if p.clear && !x.clear then some (0x0206, 0) else p.bad := by
  rw [checks_allowed present calm service allowed live, if_neg (Nat.not_lt.mpr rank)]

end

/-! ### Up to the checks -/

section

variable {i : Nat → Cmd → Instr} {op t : Nat} {c : Cmd} {plan : State → Plan} {s g : State} {x : Session} {k : Option (BitVec 256)}

/-- A command with a SEQUENCE of its own runs its plan under the session's key. -/
theorem serve_fresh (session : s.sessionOf op c.session = some x) (fresh : x.judge c.sequence (cmdBytes op c) = .fresh)
    (key : (s.setSession (x.accept c.sequence s.now)).sessionKey x 6 = (k, g)) : s.serve op plan c =
      (g.runPlan op plan c.via x).2.2.finish op c x k (g.runPlan op plan c.via x).1
        ((g.runPlan op plan c.via x).2.1 && audited op (plan g)) := by
  unfold State.serve
  simp only [session, fresh, key]

theorem serve_replay (session : s.sessionOf op c.session = some x) (replay : x.judge c.sequence (cmdBytes op c) = .replay)
    (key : s.sessionKey x 6 = (k, g)) : s.serve op plan c =
      ({ g with mbx := { g.mbx with replay := g.mbx.replay + 1 } } : State).respond c.via
        (msgBytes k 1 op c.tag c.session c.sequence (statusBytes 0x0204 0)) := by
  unfold State.serve
  simp only [session, replay, key]
  rfl

theorem serve_again {b : List Byte} (session : s.sessionOf op c.session = some x) (again : x.judge c.sequence (cmdBytes op c) = .again b) :
    s.serve op plan c = (s.setSession { x with lastAt := s.now }).respond c.via b := by
  unfold State.serve
  simp only [session, again]

theorem serve_noSession (session : s.sessionOf op c.session = none) :
    s.serve op plan c = s.refuseHead c.via op c.tag c.sequence 0x0202 := by
  unfold State.serve
  simp only [session]
  rfl

theorem runPlan_halted {via : Via} (halted : g.haltServes op = false) : g.runPlan op plan via x = ({ status := 0x0103 }, false, g) := by
  unfold State.runPlan
  rw [if_neg (by rw [halted]; decide)]
  rfl

/-- A role or a right that is refused is told to channel 0x203 (R483). -/
theorem roleStatus_iff {st : Nat} : roleStatus st = true ↔ st = 0x0203 ∨ st = 0x0206 := by
  unfold roleStatus
  rw [Bool.or_eq_true, beq_iff_eq, beq_iff_eq]
  exact Iff.rfl

theorem runPlan_refused {via : Via} {e : CmdInfo} {st d : Nat} (serves : g.haltServes op = true) (info : cmdInfo op = some e)
    (refused : g.checks op e (plan g) x = some (st, d)) : g.runPlan op plan via x =
      ({ status := st, detail := d }, false, if st = 0x0203 ∨ st = 0x0206 then g.roleEvent via x.id op st else g) := by
  unfold State.runPlan
  rw [if_pos serves, info]
  simp only [refused, roleStatus_iff]

theorem runPlan_full {via : Via} {e : CmdInfo} (serves : g.haltServes op = true) (info : cmdInfo op = some e)
    (checks : g.checks op e (plan g) x = none) (later : ((plan g).body x).1.later.isSome = true) (full : g.pendFull via = true) :
    g.runPlan op plan via x = ({ status := 0x0303 }, true, g) := by
  unfold State.runPlan
  rw [if_pos serves, info]
  simp only [checks]
  exact if_pos (by rw [later, full]; rfl)

end

/-- Every command is served in R483's order: the session, its SEQUENCE, R509's list, the checks, and room for a completion. -/
theorem mbxOrder_of {i : Nat → Cmd → Instr} {op : Nat} {plan : Cmd → State → Plan}
    (hi : ∀ t c s, exec (i t c) s = .next (s.after t fun m => m.serve op (plan c) c)) : MbxOrder i op plan := by
  refine ⟨?noSession, ?again, ?replay, ?halted, ?refused, ?full⟩
  case noSession => exact fun t c s session => exec_congr (hi t c s) (serve_noSession session)
  case again => exact fun t c s x b session again => exec_congr (hi t c s) (serve_again session again)
  case replay => exact fun t c s x k g session replay key => exec_congr (hi t c s) (serve_replay session replay key)
  case halted =>
    intro t c s x k g session fresh key halted
    refine exec_congr (hi t c s) ((serve_fresh session fresh key).trans ?_)
    rw [runPlan_halted halted]
    rfl
  case refused =>
    intro t c s x k g e st d session fresh key serves info refused
    refine exec_congr (hi t c s) ((serve_fresh session fresh key).trans ?_)
    rw [runPlan_refused serves info refused]
    rfl
  case full =>
    intro t c s x k g ready later full
    obtain ⟨session, fresh, key, serves, e, info, checks⟩ := ready
    refine exec_congr (hi t c s) ((serve_fresh session fresh key).trans ?_)
    rw [runPlan_full serves info checks later full]
    rfl

/-- Settles O60. -/
theorem mailboxOrder : Obligations.MailboxOrder := by
  refine ⟨fun g op e p x n => checks_absent, ?tamper, ?lifeCycle, ?role, ?right, ?own, ?commands⟩
  case tamper =>
    intro g op e p x present out status recovery
    rw [checks_present present, out, status, recovery]
    exact if_pos (Bool.or_true _)
  case lifeCycle =>
    intro g op e p x present calm service denied
    rw [checks_served present calm service, denied]
    rfl
  case role => exact fun g op e p x present calm service allowed live low => (checks_allowed present calm service allowed live).trans (if_pos low)
  case right =>
    intro g op e p x present calm service allowed live rank needs lacks
    rw [checks_ranked present calm service allowed live rank, needs, lacks]
    rfl
  case own =>
    intro g op e p x present calm service allowed live rank right
    rw [checks_ranked present calm service allowed live rank]
    refine if_neg fun h => ?_
    obtain ⟨needs, lacks⟩ := Bool.and_eq_true_iff.mp h
    rw [right needs] at lacks
    exact nomatch lacks
  case commands =>
    iterate 102 refine ⟨mbxOrder_of fun _ _ _ => rfl, ?_⟩
    exact mbxOrder_of fun _ _ _ => rfl

end Sys2Proof.Machine
end

section
/-! Mailbox commands of tenants, the system, sessions, apertures and the steward (R202 to R223, R485 to R500, R505, R516, R518, R526). -/

namespace Sys2Proof.Machine

section

variable {c : Cmd} {g : State} {x : Session}

/-! ### Tenants -/

theorem planTenantLoad_image {b : List Byte} (image : g.tenantImage c = some b) (own : leAt b 0 2 = c.n2 0) : (planTenantLoad c g).body x =
    ({ later := some { obj := c.n2 0, outcome := some ((g.loadTenant b).1, (g.loadTenant b).2.1, []) } }, (g.loadTenant b).2.2) := by
  unfold planTenantLoad
  simp only [image]
  rw [if_pos own]

theorem planTenantLoad_noImage (aperture : c.n1 2 = 1) (image : g.tenantImage c = none) :
    (planTenantLoad c g).body x = ({ status := 0x05A1 }, g) := by
  unfold planTenantLoad
  simp only [image, aperture]
  rfl

/-- What TEN_CMD makes of a mailbox command, on a tenant without a command in progress. -/
theorem tenantRun_free {t : Nat} {op : State → State} (free : g.rdB (TEN_CMD t) TEN_CMD_BUSY = false) : g.tenantRun t op =
    if (op g).rd (TEN_CMD t) TEN_CMD_RESULT ≠ 0 then ({ status := 0x0505 }, op g) else ({ later := some { obj := t } }, op g) :=
  if_neg (by rw [free]; decide)

theorem tenantRun_accepted {t : Nat} {op : State → State} (free : g.rdB (TEN_CMD t) TEN_CMD_BUSY = false)
    (accepted : (op g).rd (TEN_CMD t) TEN_CMD_RESULT = 0) : g.tenantRun t op = ({ later := some { obj := t } }, op g) :=
  (tenantRun_free free).trans (if_neg (not_not_intro accepted))

theorem tenDoes_of {i : Nat → Cmd → Instr} {op : Nat} {plan : Cmd → State → Plan} {f : Nat → State → State}
    (hi : ∀ t c s, exec (i t c) s = .next (s.after t fun m => m.serve op (plan c) c)) (command : (cmdInfo op).map CmdInfo.status = some false)
    (hp : ∀ c g x, (plan c g).body x = g.tenantRun (c.n2 0) (f (c.n2 0))) : TenDoes i op plan fun c => f (c.n2 0) := by
  refine ⟨?accepted, ?rejected, ?busy⟩
  case accepted => exact mbxDoes_of hi command fun c x g _ h => (hp c g x).trans (tenantRun_accepted h.1 h.2)
  case rejected => exact mbxDoes_of hi command fun c x g _ h => (hp c g x).trans ((tenantRun_free h.1).trans (if_pos h.2))
  case busy => exact mbxRefuses_of hi command fun c x g _ busy => (hp c g x).trans (if_pos busy)

theorem planTenantMigrateOut_allowed (allowed : g.migrateBarred (c.n2 0) = false) : (planTenantMigrateOut c g).body x =
    match g.unitLacking (c.n2 0) (c.n4 8) with
    | some d => ({ status := 0x0301, detail := d }, g)
    | none => g.tenantRun (c.n2 0) fun s => opTenMigrate (c.n2 0) (s.withPeer (c.n2 0) (c.n4 4)) := by
  refine (if_neg (by rw [allowed]; decide)).trans ?_
  cases g.unitLacking (c.n2 0) (c.n4 8) <;> rfl

theorem planTenantMigrateOut_starts (allowed : g.migrateBarred (c.n2 0) = false) (complete : g.unitLacking (c.n2 0) (c.n4 8) = none)
    (free : g.rdB (TEN_CMD (c.n2 0)) TEN_CMD_BUSY = false)
    (accepted : (opTenMigrate (c.n2 0) (g.withPeer (c.n2 0) (c.n4 4))).rd (TEN_CMD (c.n2 0)) TEN_CMD_RESULT = 0) :
    (planTenantMigrateOut c g).body x = ({ later := some { obj := c.n2 0 } }, opTenMigrate (c.n2 0) (g.withPeer (c.n2 0) (c.n4 4))) := by
  rw [planTenantMigrateOut_allowed allowed, complete]
  exact tenantRun_accepted (op := fun s => opTenMigrate (c.n2 0) (s.withPeer (c.n2 0) (c.n4 4))) free accepted

theorem planTenantMigrateOut_lacking {d : Nat} (allowed : g.migrateBarred (c.n2 0) = false) (lacking : g.unitLacking (c.n2 0) (c.n4 8) = some d) :
    (planTenantMigrateOut c g).body x = ({ status := 0x0301, detail := d }, g) := by
  rw [planTenantMigrateOut_allowed allowed, lacking]

theorem planTenantMigrateIn_free (free : g.rdB (TEN_CMD (c.n2 0)) TEN_CMD_BUSY = false) : (planTenantMigrateIn c g).body x =
    let u := (g.withPeer (c.n2 0) (c.n4 4)).receiveTenant (c.n2 0) (migTenant c)
    if u.1 = 0 then ({ later := some { obj := c.n2 0 } }, u.2) else ({ status := u.1 }, g) :=
  (if_neg (by rw [free]; decide)).trans (ite_not ..)

/-- A tenant is received only where none stands (R221). -/
theorem receiveTenant_taken {t : Nat} {y : MigTenant} (taken : g.tenState t ≠ 0) : g.receiveTenant t y = (0x0505, g) := if_pos taken

theorem planTenantMigrateIn_taken (free : g.rdB (TEN_CMD (c.n2 0)) TEN_CMD_BUSY = false) (taken : g.tenState (c.n2 0) ≠ 0) :
    (planTenantMigrateIn c g).body x = ({ status := 0x0505 }, g) := by
  rw [planTenantMigrateIn_free free, receiveTenant_taken (g := g.withPeer (c.n2 0) (c.n4 4)) taken]
  exact if_neg (show ¬(0x0505 : Nat) = 0 by decide)

theorem planTenantMsg_body : (planTenantMsg c g).body x =
    if g.tenState (c.n2 0) = 0 then ({ status := 0x0505 }, g)
    else
      let (ok, u) := g.inbound (c.n2 0) 0x4001 0 (c.payload.drop 4)
      if ok then ({}, u) else ({ status := 0x0502 }, g) := rfl

/-- A pair whose first part is known. -/
theorem eq_mk_of_fst {α β : Type} {p : α × β} {a : α} (h : p.1 = a) : p = (a, p.2) := Prod.ext h rfl

theorem planTenantMsg_delivers (present : g.tenState (c.n2 0) ≠ 0) (room : (g.inbound (c.n2 0) 0x4001 0 (c.payload.drop 4)).1 = true) :
    (planTenantMsg c g).body x = ({}, (g.inbound (c.n2 0) 0x4001 0 (c.payload.drop 4)).2) := by
  have pair := eq_mk_of_fst room
  generalize (g.inbound (c.n2 0) 0x4001 0 (c.payload.drop 4)).2 = u at pair ⊢
  rw [planTenantMsg_body, if_neg present, pair]
  exact if_pos rfl

/-! ### System -/

theorem planSysStatus_body : (planSysStatus c g).body x =
    ({ data := p4 (g.rdW SYS_ADVENT).toNat ++ p4 g.lc ++ p4 (g.rdW KEY_TAMPER_CAUSE).toNat ++ p4 g.role ++ p4 (g.peek TIM_ROUND)
      ++ p4 (g.rdW SYS_RESET_CAUSE).toNat ++ g.firmwareCounts }, g) := by
  unfold planSysStatus
  simp only [List.flatMap_cons, List.flatMap_nil, List.append_assoc, List.nil_append]

theorem planImage_image {run : State → List Byte → Nat × Nat × State} {b : List Byte} (image : g.aperImage (c.n4 0) (c.n4 4) (c.n4 8) = some b) :
    (planImage run c g).body x = ({ later := some { obj := 0, outcome := some ((run g b).1, (run g b).2.1, []) } }, (run g b).2.2) := by
  unfold planImage
  simp only [image]

theorem planImage_noImage {run : State → List Byte → Nat × Nat × State} (image : g.aperImage (c.n4 0) (c.n4 4) (c.n4 8) = none) :
    (planImage run c g).body x = ({ status := 0x05A1 }, g) := by
  unfold planImage
  simp only [image]
  rfl

/-- What SOLSTICE_CONTROL answers of the machine it leaves (R526). -/
def solsticeAnswer (u : State) : Reply × State :=
  ({ data := p4 (u.rdW SYS_SNAP_STAT).toNat ++ p8 (u.rd64 SYS_SNAP_TIME_LO SYS_SNAP_TIME_HI) }, u)

theorem planSolsticeControl_runs {f : State → State} (op : c.n1 0 = 1 ∧ f = opSolsticeArm ∨ c.n1 0 = 2 ∧ f = opSolsticeDisarm ∨
    c.n1 0 = 3 ∧ f = opSolsticeFire) : (planSolsticeControl c g).body x = solsticeAnswer (f g) := by
  refine (if_neg fun h => ?notSettings).trans (congrArg solsticeAnswer ?runs)
  case notSettings =>
    obtain ⟨four, -⟩ := h
    rcases op with ⟨one, -⟩ | ⟨two, -⟩ | ⟨three, -⟩
    · exact absurd (one.symm.trans four) (by decide)
    · exact absurd (two.symm.trans four) (by decide)
    · exact absurd (three.symm.trans four) (by decide)
  case runs =>
    rcases op with ⟨one, rfl⟩ | ⟨two, rfl⟩ | ⟨three, rfl⟩
    · exact if_pos one
    · exact (if_neg (by rw [two]; decide)).trans (if_pos two)
    · exact (if_neg (by rw [three]; decide)).trans ((if_neg (by rw [three]; decide)).trans (if_pos three))

/-! ### Sessions -/

theorem planSessionOpen_unknown (unknown : g.principal (c.n2 0) = none) :
    (planSessionOpen c g).body x = ({ status := 0x0201 }, g.authEvent c.via 0 (c.n2 0)) := by
  unfold planSessionOpen
  simp only [unknown]
  rfl

theorem planSessionOpen_known {p : Principal} (known : g.principal (c.n2 0) = some p) (role : c.n1 2 ≤ p.role)
    (right : c.n1 3 = 1 → p.clear = true) : (planSessionOpen c g).body x =
      if (g.openSigned p c).1 = true then (g.openSigned p c).2.openSession p c
      else ({ status := 0x0201 }, (g.openSigned p c).2.authEvent c.via 0 p.id) := by
  have noRight : ¬(c.n1 3 = 1 ∧ (!p.clear) = true) := fun ⟨asks, lacks⟩ => by
    rw [right asks] at lacks
    exact nomatch lacks
  unfold planSessionOpen
  simp only [known]
  generalize g.openSigned p c = r
  obtain ⟨_ | _, u⟩ := r
  · rfl
  · exact (if_neg Bool.false_ne_true).trans ((if_neg (Nat.not_lt.mpr role)).trans (if_neg noRight))

theorem planSessionList_lists (unnamed : c.n4 0 = 0) :
    (planSessionList c g).body x = ({ data := g.firmwareCounts ++ g.mbx.sessions.flatMap g.sessionLine }, g) := by
  unfold planSessionList
  simp only [unnamed]
  exact if_neg fun h => h.1 rfl

theorem planSessionList_closes (named : c.n4 0 ≠ 0) (open_ : ∃ y ∈ g.mbx.sessions, y.id = c.n4 0) : (planSessionList c g).body x =
    let u := g.endSession (c.n4 0) 3
    ({ data := u.firmwareCounts ++ u.mbx.sessions.flatMap u.sessionLine }, u) := by
  have found : (g.mbx.sessions.any fun y => y.id == c.n4 0) = true := by
    simpa only [List.any_eq_true, beq_iff_eq] using open_
  unfold planSessionList
  simp only [if_neg named]
  exact if_neg fun h => by
    obtain ⟨-, missing⟩ := h
    rw [found] at missing
    exact nomatch missing

/-! ### Apertures -/

/-- The machine an aperture is opened in, and what its opener is told. -/
def State.apertureOpened (g : State) (c : Cmd) (x : Session) (a b : Nat) : Reply × State :=
  let w := ((g.wr (MBX_APER_BASE_LO a) MBX_APER_BASE_LO_BASE (b / 4096 % 2 ^ 20)).wr (MBX_APER_BASE_HI a) MBX_APER_BASE_HI_BASE (b / 2 ^ 32)).wr
    (MBX_APER_LEN a) MBX_APER_LEN_LEN (c.n4 0)
  let w := (w.wrB (MBX_APER_CTRL a) MBX_APER_CTRL_WRITE (c.n1 4 == 0)).wrB (MBX_APER_CTRL a) MBX_APER_CTRL_EN true
  ({ data := p1 a ++ leBytes 3 0 ++ p8 (if g.rdB MBX_CTRL MBX_CTRL_PCIE_EN then a * 0x10000000 else 2 ^ 64 - 1) },
    { w with mbx := { w.mbx with aper := cset (fun _ => none) w.mbx.aper a (some x.id) } })

theorem planApertureOpen_body : (planApertureOpen c g).body x =
    match (List.range 16).find? (fun j => !g.aperOn j), g.aperPlace (c.n4 0) with
    | some a, some b => g.apertureOpened c x a b
    | _, _ => ({ status := 0x0303 }, g) := by
  unfold planApertureOpen
  dsimp only
  cases (List.range 16).find? (fun j => !g.aperOn j) <;> cases g.aperPlace (c.n4 0) <;> rfl

/-- No aperture is free when all sixteen are on. -/
theorem noAperture (full : ∀ j < 16, g.aperOn j = true) : (List.range 16).find? (fun j => !g.aperOn j) = none := by
  refine List.find?_eq_none.mpr fun j hj => ?_
  rw [full j (List.mem_range.mp hj)]
  decide

theorem planApertureOpen_full (h : (∀ j < 16, g.aperOn j = true) ∨ g.aperPlace (c.n4 0) = none) :
    (planApertureOpen c g).body x = ({ status := 0x0303 }, g) := by
  rw [planApertureOpen_body]
  rcases h with full | noPlace
  · rw [noAperture full]
  · rw [noPlace]
    cases (List.range 16).find? (fun j => !g.aperOn j) <;> rfl

theorem planApertureClose_off (h : 16 ≤ c.n1 0 ∨ g.aperOn (c.n1 0) = false) : (planApertureClose c g).body x = ({ status := 0x05A1 }, g) :=
  if_pos (h.imp_right fun off => by rw [off]; rfl)

theorem planApertureClose_closes (low : c.n1 0 < 16) (on : g.aperOn (c.n1 0) = true) :
    (planApertureClose c g).body x = ({}, g.closeAperture (c.n1 0)) :=
  if_neg (by rw [on]; rintro (h | h); exacts [absurd low (Nat.not_lt.mpr h), nomatch h])

/-! ### Principals and the steward's image -/

theorem planPrincipalSet_adds {n : Nat} {u : State} (set : c.n1 0 = 1) (new : ∀ p ∈ g.mbx.principals, p.id ≠ c.n2 4)
    (room : g.mbx.principals.length < 32) (imported : g.importHash (BitVec.ofNat 256 (beAt c.payload 8 32)) = some (n, u)) :
    (planPrincipalSet c g).body x =
      ({}, { u with mbx := { u.mbx with principals := u.mbx.principals ++ [{ id := c.n2 4, role := c.n1 6, clear := c.n1 7 == 1, slot := n }] } }) := by
  have old : g.mbx.principals.find? (fun p => p.id == c.n2 4) = none := by
    simpa only [List.find?_eq_none, beq_iff_eq] using new
  unfold planPrincipalSet
  simp only [old, imported]
  rw [if_neg (by rw [set]; decide), if_neg (Nat.not_le.mpr room)]

theorem planPrincipalSet_removes {p : Principal} (remove : c.n1 0 = 2)
    (old : g.mbx.principals.find? (fun q => q.id == c.n2 4) = some p) : (planPrincipalSet c g).body x = ({}, g.dropPrincipal p) := by
  unfold planPrincipalSet
  simp only [old]
  exact if_pos remove

/-- SVN_ADVANCE blows the vendor's counter for a vendor image (R500). -/
theorem planStwSvnAdvance_vendor (vendor : byteAt (g.imageHead 12) 6 = 1) (low : leAt (g.imageHead 12) 8 4 ≤ 32) :
    (planStwSvnAdvance c g).body x =
      let n := max g.fuses.svnVendor (leAt (g.imageHead 12) 8 4)
      ({}, ({ g with fuses := { g.fuses with svnVendor := n } } : State).postTo 0x20C 0x1283 (p1 0 ++ p4 g.fuses.svnVendor ++ p4 n)) := by
  have group : (byteAt (g.imageHead 12) 6 == 1) = true := beq_iff_eq.mpr vendor
  unfold planStwSvnAdvance
  simp only [group, if_neg (Nat.not_lt.mpr low), if_true, Bool.not_true, b2n, Bool.false_eq_true, if_false]

/-- And the customer's for another. -/
theorem planStwSvnAdvance_customer (customer : byteAt (g.imageHead 12) 6 ≠ 1) (low : leAt (g.imageHead 12) 8 4 ≤ 32) :
    (planStwSvnAdvance c g).body x =
      let n := max g.fuses.svnCustomer (leAt (g.imageHead 12) 8 4)
      ({}, ({ g with fuses := { g.fuses with svnCustomer := n } } : State).postTo 0x20C 0x1283 (p1 1 ++ p4 g.fuses.svnCustomer ++ p4 n)) := by
  have group : (byteAt (g.imageHead 12) 6 == 1) = false := beq_false_of_ne customer
  unfold planStwSvnAdvance
  simp only [group, if_neg (Nat.not_lt.mpr low), if_true, Bool.not_false, b2n, Bool.false_eq_true, if_false]

end

/-- A status command's form that changes state is audited, another is not (R483). -/
theorem audited_status_eq {op : Nat} {p : Plan} (status : (cmdInfo op).map CmdInfo.status = some true) : audited op p = p.writes := by
  obtain ⟨i, info, h⟩ := Option.map_eq_some_iff.mp status
  unfold audited
  rw [info]
  dsimp only
  rw [h]
  rfl

/-- Settles O59. -/
theorem mailboxTenantsAndSystem : Obligations.MailboxTenantsAndSystem := by
  refine ⟨?load, ?loadNoImage, ?start, ?disable, ?unload, ?abort, ?share, ?limits, ?migrateOut, ?migrateBarred, ?migrateLacking, ?migrateIn,
    ?migrateInBusy, ?migrateInTaken, ?msg, ?msgGone, ?msgRead, ?features, ?status, ?config, ?configNoImage, ?flash, ?dormant, ?dormantActive,
    ?solstice, ?solsticeArmed, ?reset, ?open_, ?openUnknown, ?close, ?list, ?listClose, ?ack, ?aperOpen, ?aperFull, ?aperClose, ?aperOff,
    ?bulkRead, ?bulkReadOut, ?bulkWrite, ?bulkWriteOut, ?principal, ?principalGone, ?version, ?svnVendor, ?svnCustomer, ?regRead⟩
  case load => exact fun b => mbxDoes_of (fun _ _ _ => rfl) (by decide +kernel) fun c x g _ h => planTenantLoad_image h.1 h.2
  case loadNoImage => exact mbxRefuses_of (fun _ _ _ => rfl) (by decide +kernel) fun c x g _ h => planTenantLoad_noImage h.1 h.2
  case start => exact tenDoes_of (f := opTenStart) (fun _ _ _ => rfl) (by decide +kernel) fun _ _ _ => rfl
  case disable => exact tenDoes_of (f := opTenDisable) (fun _ _ _ => rfl) (by decide +kernel) fun _ _ _ => rfl
  case unload => exact tenDoes_of (f := opTenRelease) (fun _ _ _ => rfl) (by decide +kernel) fun _ _ _ => rfl
  case abort => exact tenDoes_of (f := opMigrateAbort) (fun _ _ _ => rfl) (by decide +kernel) fun _ _ _ => rfl
  case share | limits | msgRead | reset | close => exact mbxDoes_of (fun _ _ _ => rfl) (by decide +kernel) fun _ _ _ _ _ => rfl
  case migrateOut =>
    exact mbxDoes_of (fun _ _ _ => rfl) (by decide +kernel) fun c x g _ h => planTenantMigrateOut_starts h.1 h.2.1 h.2.2.1 h.2.2.2
  case migrateBarred | migrateInBusy => exact mbxRefuses_of (fun _ _ _ => rfl) (by decide +kernel) fun c x g _ h => if_pos h
  case migrateLacking =>
    exact fun d => mbxDoes_of (fun _ _ _ => rfl) (by decide +kernel) fun c x g _ h => planTenantMigrateOut_lacking h.1 h.2
  case migrateIn => exact mbxDoes_of (fun _ _ _ => rfl) (by decide +kernel) fun c x g _ free => planTenantMigrateIn_free free
  case migrateInTaken => exact mbxRefuses_of (fun _ _ _ => rfl) (by decide +kernel) fun c x g _ h => planTenantMigrateIn_taken h.1 h.2
  case msg => exact mbxDoes_of (fun _ _ _ => rfl) (by decide +kernel) fun c x g _ h => planTenantMsg_delivers h.1 h.2
  case msgGone => exact mbxRefuses_of (fun _ _ _ => rfl) (by decide +kernel) fun c x g _ h => planTenantMsg_body.trans (if_pos h)
  case dormantActive | solsticeArmed => exact mbxRefuses_of (fun _ _ _ => rfl) (by decide +kernel) fun c x g _ h => if_pos h
  case features | version | regRead => exact mbxReads_of (fun _ _ _ => rfl) (by decide +kernel) (fun _ _ => rfl) fun _ _ _ _ => rfl
  case status => exact mbxReads_of (fun _ _ _ => rfl) (by decide +kernel) (fun _ _ => rfl) fun _ _ _ _ => planSysStatus_body
  case config => exact fun b => mbxDoes_of (fun _ _ _ => rfl) (by decide +kernel) fun c x g _ image => planImage_image image
  case configNoImage => exact mbxRefuses_of (fun _ _ _ => rfl) (by decide +kernel) fun c x g _ image => planImage_noImage image
  case flash => exact fun b => mbxDoes_of (fun _ _ _ => rfl) (by decide +kernel) fun c x g _ image => planImage_image image
  case dormant => exact mbxDoes_of (fun _ _ _ => rfl) (by decide +kernel) fun c x g _ idle => if_neg (by rw [idle]; decide)
  case solstice => exact fun f => mbxDoes_of (fun _ _ _ => rfl) (by decide +kernel) fun c x g _ op => planSolsticeControl_runs op
  case open_ => exact fun p => mbxDoes_of (fun _ _ _ => rfl) (by decide +kernel) fun c x g _ h => planSessionOpen_known h.1 h.2.1 h.2.2
  case openUnknown => exact mbxDoes_of (fun _ _ _ => rfl) (by decide +kernel) fun c x g _ h => planSessionOpen_unknown h
  case list => exact mbxAnswers_of (fun _ _ _ => rfl) (fun c x g _ h => planSessionList_lists h) fun c g => audited_status_eq (by decide +kernel)
  case listClose =>
    exact mbxAnswers_of (fun _ _ _ => rfl) (fun c x g _ h => planSessionList_closes h.1 h.2) fun c g => audited_status_eq (by decide +kernel)
  case ack => exact mbxAnswers_of (fun _ _ _ => rfl) (fun _ _ _ _ _ => rfl) fun c g => audited_status_eq (by decide +kernel)
  case aperOpen =>
    refine fun a b => mbxDoes_of (fun _ _ _ => rfl) (by decide +kernel) fun c x g _ h => ?_
    rw [planApertureOpen_body, h.1, h.2]
    rfl
  case aperFull => exact mbxRefuses_of (fun _ _ _ => rfl) (by decide +kernel) fun c x g _ h => planApertureOpen_full h
  case aperClose => exact mbxDoes_of (fun _ _ _ => rfl) (by decide +kernel) fun c x g _ h => planApertureClose_closes h.1 h.2
  case aperOff => exact mbxRefuses_of (fun _ _ _ => rfl) (by decide +kernel) fun c x g _ h => planApertureClose_off h
  case bulkRead =>
    exact mbxAnswers_of (fun _ _ _ => rfl) (fun c x g _ fits => if_pos fits) fun c g => audited_status_eq (by decide +kernel)
  case bulkReadOut =>
    exact mbxAnswers_of (fun _ _ _ => rfl) (fun c x g _ out => if_neg (by rw [out]; decide)) fun c g => audited_status_eq (by decide +kernel)
  case bulkWrite => exact mbxDoes_of (fun _ _ _ => rfl) (by decide +kernel) fun c x g _ fits => if_pos fits
  case bulkWriteOut => exact mbxRefuses_of (fun _ _ _ => rfl) (by decide +kernel) fun c x g _ out => if_neg (by rw [out]; decide)
  case principal =>
    exact fun n u => mbxDoes_of (fun _ _ _ => rfl) (by decide +kernel) fun c x g _ h => planPrincipalSet_adds h.1 h.2.1 h.2.2.1 h.2.2.2
  case principalGone => exact fun p => mbxDoes_of (fun _ _ _ => rfl) (by decide +kernel) fun c x g _ h => planPrincipalSet_removes h.1 h.2
  case svnVendor =>
    exact mbxDoes_of (fun _ _ _ => rfl) (by decide +kernel) fun c x g _ h => planStwSvnAdvance_vendor h.1 h.2
  case svnCustomer =>
    exact mbxDoes_of (fun _ _ _ => rfl) (by decide +kernel) fun c x g _ h => planStwSvnAdvance_customer h.1 h.2

end Sys2Proof.Machine
end

section
/-! A round boundary of a machine of which nothing but the time base is configured (R48). -/

namespace Sys2Proof.Machine

variable {s u : State} {t k : Nat}

/-! ### Words that such a machine may hold -/

/-- The time base's words, and the few that every boundary writes. -/
abbrev ShownWord (a : Nat) : Prop :=
  a / 2 ^ 24 = 0x0E ∨ a = ACQ_STAT ∨ a = OUT_STAT ∨ a = DPX_HEALTH ∨ (∃ g < 8, a = ACQ_GRP_STAT g) ∨ ∃ i < 8, a = OUT_BIND_VAL i

/-- No word but those is held. -/
def ShownOnly (s : State) : Prop := ∀ c ∈ s.regs, ShownWord c.1

theorem mem_of_mem_cdrop {α : Type} {c : Nat × α} {k : Nat} : ∀ {m : Cells α}, c ∈ cdrop m k → c ∈ m
  | [], h => h
  | (k0, v) :: m, h => by
    unfold cdrop at h
    split at h
    · exact List.mem_cons_of_mem _ (mem_of_mem_cdrop h)
    · exact h

theorem mem_of_mem_cset {α : Type} [DecidableEq α] {d : Nat → α} {c : Nat × α} {k : Nat} {v : α} :
    ∀ {m : Cells α}, c ∈ cset d m k v → c = (k, v) ∨ c ∈ m
  | [], h => by
    unfold cset at h
    split at h
    · exact .inr h
    · exact .inl (List.mem_singleton.1 h)
  | (k0, v0) :: m, h => by
    unfold cset at h
    split at h
    · rcases List.mem_cons.1 h with rfl | h
      · exact .inr List.mem_cons_self
      · exact (mem_of_mem_cset h).imp id (List.mem_cons_of_mem _)
    · split at h
      · exact .inr (mem_of_mem_cdrop h)
      · rcases List.mem_cons.1 h with rfl | h
        · exact .inl rfl
        · exact .inr (mem_of_mem_cdrop h)

theorem ShownOnly.wrW (h : ShownOnly s) {a : Nat} (ha : ShownWord a) (w : Word) : ShownOnly (s.wrW a w) := by
  intro c hc
  rcases mem_of_mem_cset hc with rfl | hc
  · exact ha
  · exact h c hc

theorem ShownOnly.wr (h : ShownOnly s) {a : Nat} (ha : ShownWord a) (f : Fld) (v : Nat) : ShownOnly (s.wr a f v) := h.wrW ha _

theorem ShownOnly.wrB (h : ShownOnly s) {a : Nat} (ha : ShownWord a) (f : Fld) (b : Bool) : ShownOnly (s.wrB a f b) := h.wrW ha _

theorem ShownOnly.foldl {β : Type} {f : State → β → State} {l : List β} (h : ShownOnly s) (hf : ∀ u, ShownOnly u → ∀ b ∈ l, ShownOnly (f u b)) :
    ShownOnly (l.foldl f s) :=
  List.foldlRecOn (motive := ShownOnly) l f h fun u hu b hb => hf u hu b hb

/-- Any other word reads as its reset value. -/
theorem ShownOnly.word (h : ShownOnly s) {a : Nat} (ha : ¬ ShownWord a) : s.rdW a = resetWord a := by
  by_contra ne
  obtain ⟨c, hc, rfl⟩ := List.mem_map.1 (mem_ckeys_of_cget_ne ne)
  exact ha (h c hc)

theorem ShownOnly.rd (h : ShownOnly s) {a : Nat} (ha : ¬ ShownWord a) (f : Fld) : s.rd a f = fget f (resetWord a) := congrArg (fget f) (h.word ha)

theorem ShownOnly.rdB (h : ShownOnly s) {a : Nat} (ha : ¬ ShownWord a) (f : Fld) : s.rdB a f = (fget f (resetWord a) != 0) :=
  congrArg (· != 0) (h.rd ha f)

/-- No element of an array of which no word may be held is listed. -/
theorem ShownOnly.elems (h : ShownOnly s) {base n stride : Nat} (apart : ∀ a, ShownWord a → a < base ∨ base + n * stride ≤ a) :
    s.regs.filterMap (fun c => elemOf base n stride c.1) = [] :=
  List.filterMap_eq_nil_iff.2 fun c hc => elemOf_eq_none (apart c.1 (h c hc))

/-- Where the shown words stand. -/
theorem shownWord_cases {a : Nat} (h : ShownWord a) :
    a / 2 ^ 24 = 0x0E ∨ a / 2 ^ 24 = 4 ∧ (a = 0x04000004 ∨ 0x04020010 ≤ a ∧ a < 0x04020200 ∧ a % 0x40 = 0x10) ∨
    a / 2 ^ 24 = 8 ∧ (a = 0x08000004 ∨ 0x08000420 ≤ a ∧ a < 0x08000440) ∨ a = 0x0B000048 := by
  unfold ShownWord ACQ_STAT OUT_STAT DPX_HEALTH at h
  rcases h with h | h | h | h | ⟨g, hg, h⟩ | ⟨i, hi, h⟩
  · exact .inl h
  · omega
  · omega
  · omega
  · unfold ACQ_GRP_STAT at h
    omega
  · unfold OUT_BIND_VAL at h
    omega

theorem not_shownWord {a : Nat} (h : ¬ (a / 2 ^ 24 = 0x0E ∨ a / 2 ^ 24 = 4 ∧ (a = 0x04000004 ∨ 0x04020010 ≤ a ∧ a < 0x04020200 ∧ a % 0x40 = 0x10) ∨
    a / 2 ^ 24 = 8 ∧ (a = 0x08000004 ∨ 0x08000420 ≤ a ∧ a < 0x08000440) ∨ a = 0x0B000048)) : ¬ ShownWord a := fun k => h (shownWord_cases k)

/-! ### Blocks that hold nothing -/

/-- Nothing but the time base is configured; the duplex unit has no copy, take-over or swap in hand. -/
structure Idle (s : State) : Prop where
  shown : ShownOnly s
  ten : s.ten = {}
  sch : s.sch = {}
  ing : s.ing = {}
  out : s.out = {}
  cle : s.cle = {}
  lge : s.lge = {}
  rec_ : s.rec_ = {}
  copy : s.dpx.copy = none
  takeOver : s.dpx.takeOver = none
  swapAt : s.dpx.swapAt = none

theorem Idle.of_onlyTimeBase (h : OnlyTimeBase s) : Idle s := by
  obtain ⟨regs, ten, sch, ing, -, out, cle, lge, rec_, dpx⟩ := h
  exact ⟨fun c hc => .inl (regs c hc), ten, sch, ing, out, cle, lge, rec_, by rw [dpx], by rw [dpx], by rw [dpx]⟩

/-- Registers change, nothing else. -/
theorem Idle.of_regsOnly (h : Idle s) (only : RegsOnly s u) (shown : ShownOnly u) : Idle u := by
  obtain ⟨-, ten, sch, ing, out, cle, lge, rec_, copy, takeOver, swapAt⟩ := h
  rw [only]
  exact ⟨by rw [only] at shown; exact shown, ten, sch, ing, out, cle, lge, rec_, copy, takeOver, swapAt⟩

/-- A post finds the Almanac off. -/
theorem Idle.post (h : Idle s) (code : Nat) (p : List Byte) : s.post code p = s := by
  have off : s.rdB ALM_CTRL ALM_CTRL_EN = false := (h.shown.rdB (not_shownWord (by decide)) _).trans (by decide +kernel)
  have source : s.srcEnabled 2 = false := by
    unfold State.srcEnabled
    rw [h.shown.rd (not_shownWord (by decide))]
    decide +kernel
  have discarded (ch tm : Nat) : s.postAt ch code p tm false = (.discarded, s) := by
    unfold State.postAt
    dsimp only
    rw [off]
    rfl
  unfold State.post State.postTo State.postOut
  rw [discarded]
  dsimp only
  rw [if_neg]
  unfold State.almMatch
  rw [source, Bool.false_and]
  exact Bool.false_ne_true

theorem Idle.role (h : Idle s) : s.role = 0 := (h.shown.rd (not_shownWord (by decide)) _).trans (by decide +kernel)

theorem Idle.dpxOn (h : Idle s) : s.dpxOn = false := (h.shown.rdB (not_shownWord (by decide)) _).trans (by decide +kernel)

theorem Idle.liveTenants (h : Idle s) : s.liveTenants = [] := h.shown.elems fun a ha => by have := shownWord_cases ha; unfold TEN_STATE; omega

theorem Idle.programs (h : Idle s) : s.programs = [] := by
  unfold State.programs
  rw [h.shown.elems fun a ha => by have := shownWord_cases ha; unfold LGE_PRG_CFG; omega]
  rfl

theorem Idle.validBindings (h : Idle s) : s.validBindings = [] := by
  have none (b : Nat) (hb : b < 256) : ¬ (s.rdW (OUT_BINDING b 0)).toNat.testBit 0 = true := by
    rw [h.shown.word (not_shownWord (by unfold OUT_BINDING; omega)), resetWord_binding hb]
    decide
  exact List.eq_nil_iff_forall_not_mem.2 fun b hb => none b (mem_validBindings.1 hb).1 (mem_validBindings.1 hb).2

theorem Idle.handles (h : Idle s) {b : Nat} (hb : b < 2) : s.handles b = [] := by
  unfold State.handles
  rw [h.shown.elems fun a ha => by have := shownWord_cases ha; unfold staticAddr ING_STATIC; omega]
  rfl

theorem Idle.rowTenants (h : Idle s) : s.rowTenants = [] := by
  unfold State.rowTenants
  rw [h.shown.elems fun a ha => by have := shownWord_cases ha; unfold ING_ROW_CFG; omega]
  rfl

end Sys2Proof.Machine
end

section
/-! The steps of a round boundary on a machine of which nothing but the time base is configured (R48). -/

namespace Sys2Proof.Machine

variable {s u v : State} {t k : Nat}

/-! ### The time base kept -/

theorem not_eventWord_timeBase {a : Nat} (ha : a / 2 ^ 24 = 0x0E) : ¬ eventWord a := by
  unfold eventWord SYS_SNAP_STAT SYS_SNAP_TIME_LO SYS_SNAP_TIME_HI
  omega

/-- The time base is left as it is: its record, and every word of its block. -/
structure TimeKept (s u : State) : Prop where
  tim : u.tim = s.tim
  words : ∀ a, a / 2 ^ 24 = 0x0E → u.rdW a = s.rdW a

namespace TimeKept

theorem refl (s : State) : TimeKept s s := ⟨rfl, fun _ _ => rfl⟩

theorem trans (h : TimeKept s u) (k : TimeKept u v) : TimeKept s v :=
  ⟨k.tim.trans h.tim, fun a ha => (k.words a ha).trans (h.words a ha)⟩

theorem wrW (s : State) {a : Nat} (ha : a / 2 ^ 24 ≠ 0x0E) (w : Word) : TimeKept s (s.wrW a w) :=
  ⟨rfl, fun _ hb => s.rdW_wrW_ne w fun e => ha (e ▸ hb)⟩

theorem foldl {β : Type} {f : State → β → State} (l : List β) (s : State) (h : ∀ u, ∀ b ∈ l, TimeKept u (f u b)) : TimeKept s (l.foldl f s) :=
  List.foldlRecOn (motive := TimeKept s) l f (.refl s) fun u hu b hb => hu.trans (h u b hb)

theorem of_eventOnly (h : EventOnly s u) : TimeKept s u :=
  ⟨h.tim, fun a ha => h.words a (not_eventWord_timeBase ha)⟩

theorem rd (h : TimeKept s u) {a : Nat} (ha : a / 2 ^ 24 = 0x0E) (f : Fld) : u.rd a f = s.rd a f := State.rd_congr (h.words a ha) f

theorem gridOn (h : TimeKept s u) : u.gridOn = s.gridOn := State.rdB_congr (h.words TIM_CTRL (by decide)) _

end TimeKept

theorem timeKept_noteBehind (s : State) {g : Nat} (hg : g < 8) : TimeKept s (s.noteBehind g) := by
  have group : ACQ_GRP_STAT g / 2 ^ 24 ≠ 0x0E := by unfold ACQ_GRP_STAT; omega
  have shown (b : Bool) : TimeKept s ((s.wrB (ACQ_GRP_STAT g) ACQ_GRP_STAT_BEHIND b).wr ACQ_STAT ACQ_STAT_BEHIND
      (nsetBit (s.rd ACQ_STAT ACQ_STAT_BEHIND) g b)) := (TimeKept.wrW s group _).trans (.wrW _ (by decide) _)
  unfold State.noteBehind
  dsimp only
  split
  · exact (shown _).trans (.of_eventOnly (.postLimited _ _ _ _ (almRoute_lt _ _ (by decide))))
  · exact shown _

/-- The acquisition groups' note of the new D is theirs alone (R183). -/
theorem timeKept_acqFollow (s : State) : TimeKept s s.acqFollow := by
  unfold State.acqFollow
  split
  · exact .refl s
  · refine .foldl _ s fun u g hg => (TimeKept.wrW u ?_ _).trans (timeKept_noteBehind _ (List.mem_range.mp hg))
    have := List.mem_range.mp hg
    unfold ACQ_GRP_STAT
    omega

/-! ### What R48's first step does -/

/-- The round is named and D follows its target; the acquisition groups have not looked yet. -/
def State.roundNamed (s : State) (k : Nat) : State :=
  ((({ s with tim := { s.tim with lastRound := some k, nextRound := k + 1, nextD := slewD s.tim.nextD s.tim.target, targetStaged := none } } : State).wrW
    TIM_ROUND (BitVec.ofNat 32 (round32 k))).wr TIM_ADMIT TIM_ADMIT_CURRENT s.tim.nextD).slewing

theorem timStep_unstaged (none : s.tim.targetStaged = none) : s.timStep k = (false, (s.roundNamed k).acqFollow) := by
  unfold State.timStep
  simp only [none]
  rfl

theorem roundNamed_round (s : State) (k : Nat) : (s.roundNamed k).rdW TIM_ROUND = BitVec.ofNat 32 (round32 k) := by
  unfold State.roundNamed State.slewing
  rw [State.rdW_wrB_ne _ _ _ (by decide), State.rdW_wr_ne _ _ _ (by decide), State.rdW_wrW_same]

theorem roundNamed_current (low : s.tim.nextD < 4096) : (s.roundNamed k).rd TIM_ADMIT TIM_ADMIT_CURRENT = s.tim.nextD := by
  unfold State.roundNamed State.slewing
  rw [State.rd_congr (State.rdW_wrB_ne _ _ _ (by decide)), State.rd_wr_same _ _ _ _ (by decide)]
  exact Nat.mod_eq_of_lt low

theorem roundNamed_gridOn (s : State) (k : Nat) : (s.roundNamed k).gridOn = s.gridOn := by
  unfold State.roundNamed State.slewing State.gridOn
  refine State.rdB_congr ?_ _
  rw [State.rdW_wrB_ne _ _ _ (by decide), State.rdW_wr_ne _ _ _ (by decide), State.rdW_wrW_ne _ _ (by decide)]
  rfl

/-! ### Idle machines stay idle -/

namespace Idle

theorem wrW (h : Idle s) {a : Nat} (ha : ShownWord a) (w : Word) : Idle (s.wrW a w) := h.of_regsOnly rfl (h.shown.wrW ha w)

theorem setDpx (h : Idle s) {x : Dpx} (copy : x.copy = none) (takeOver : x.takeOver = none) (swapAt : x.swapAt = none) : Idle (s.setDpx x) :=
  ⟨h.shown, h.ten, h.sch, h.ing, h.out, h.cle, h.lge, h.rec_, copy, takeOver, swapAt⟩

theorem setTim (h : Idle s) (x : Tim) : Idle { s with tim := x } :=
  ⟨h.shown, h.ten, h.sch, h.ing, h.out, h.cle, h.lge, h.rec_, h.copy, h.takeOver, h.swapAt⟩

theorem groupOn (h : Idle s) {g : Nat} (hg : g < 8) : s.groupOn g = false := by
  have apart : ¬ ShownWord (ACQ_GRP_CFG g) := not_shownWord (by unfold ACQ_GRP_CFG; omega)
  have reset : ∀ g < 8, (fget ACQ_GRP_CFG_EN (resetWord (ACQ_GRP_CFG g)) != 0) = false := by decide +kernel
  exact (h.shown.rdB apart _).trans (reset g hg)

theorem noteBehind (h : Idle s) {g : Nat} (hg : g < 8) : Idle (s.noteBehind g) := by
  unfold State.noteBehind
  dsimp only
  rw [h.groupOn hg, Bool.false_and, if_neg Bool.false_ne_true]
  exact (h.wrW (.inr (.inr (.inr (.inr (.inl ⟨g, hg, rfl⟩))))) _).wrW (.inr (.inl rfl)) _

theorem acqFollow (h : Idle s) : Idle s.acqFollow := by
  unfold State.acqFollow
  split
  · exact h
  · refine List.foldlRecOn (motive := Idle) _ _ h fun u hu g hg => ?_
    have low := List.mem_range.mp hg
    exact (hu.wrW (.inr (.inr (.inr (.inr (.inl ⟨g, low, rfl⟩))))) _).noteBehind low

theorem roundNamed (h : Idle s) (k : Nat) : Idle (s.roundNamed k) :=
  (((h.setTim _).wrW (.inl (by decide)) _).wrW (.inl (by decide)) _).wrW (.inl (by decide)) _

/-! ### Steps that find nothing to do -/

theorem dpxBegin (h : Idle s) (k : Nat) : s.dpxBegin k = s := by
  unfold State.dpxBegin
  simp only [h.copy, h.takeOver]
  exact if_neg fun ⟨active, _⟩ => absurd (h.role.symm.trans active) (by decide)

theorem withSch (h : Idle s) : ({ s with sch := {} } : State) = s := by rw [← h.sch]

theorem withTen (h : Idle s) : ({ s with ten := {} } : State) = s := by rw [← h.ten]

theorem withIng (h : Idle s) : ({ s with ing := {} } : State) = s := by rw [← h.ing]

theorem withCle (h : Idle s) : ({ s with cle := {} } : State) = s := by rw [← h.cle]

theorem chargeAll (h : Idle s) : s.chargeAll = s := by
  unfold State.chargeAll
  simp only [h.sch, List.foldl_nil, List.map_nil]
  exact h.withSch

theorem ingStep1 (h : Idle s) (k : Nat) : s.ingStep1 k = ([], s) := by
  unfold State.ingStep1
  rw [h.ing]

theorem ingActive (h : Idle s) : s.ingActive = 0 := (h.shown.rd (not_shownWord (by decide)) _).trans (by decide +kernel)

theorem ingStep2 (h : Idle s) (k : Nat) : s.ingStep2 k s.ingActive [] = s := by
  have none : s.handles s.ingActive = [] := by rw [h.ingActive]; exact h.handles (by decide)
  have still : ({ s with ing := { s.ing with rowFlip := s.ing.rowFlip ++ [] } } : State) = s := by
    rw [h.ing]
    exact h.withIng
  unfold State.ingStep2
  simp only [none, h.rowTenants, List.foldl_nil, still, if_true]

theorem tenStep3 (h : Idle s) (k : Nat) : s.tenStep3 k = (false, s) := by
  unfold State.tenStep3
  simp only [h.ten, List.filter_nil, List.foldl_nil]
  exact congrArg (Prod.mk false) h.withTen

theorem startStep (h : Idle s) (k : Nat) : s.startStep k = (false, s) := by
  unfold State.startStep
  simp only [h.ten, List.filter_nil, h.tenStep3 k]
  rfl

theorem newBudgets (h : Idle s) : s.newBudgets = s := by
  have used : s.regs.filterMap (fun c => elemOf (SCH_TEN_USED 0) 512 0x80 c.1) = [] :=
    h.shown.elems fun a ha => by have := shownWord_cases ha; unfold SCH_TEN_USED; omega
  have last : s.regs.filterMap (fun c => elemOf (SCH_TEN_USED_LAST 0) 512 0x80 c.1) = [] :=
    h.shown.elems fun a ha => by have := shownWord_cases ha; unfold SCH_TEN_USED_LAST; omega
  unfold State.newBudgets
  rw [used, last, h.liveTenants]
  rfl

theorem cleStep4 (h : Idle s) (k : Nat) : s.cleStep4 k = (false, s) := by
  unfold State.cleStep4
  simp only [h.cle, List.filter_nil]
  exact congrArg (Prod.mk false) h.withCle

theorem lgeStep5 (h : Idle s) (k : Nat) (all : Bool) : s.lgeStep5 k all = ([], s) := by
  unfold State.lgeStep5
  rw [h.programs]
  rfl

theorem dpxStep6 (h : Idle s) (k : Nat) : s.dpxStep6 k = s := by
  have passive : s.role ≠ 1 := by rw [h.role]; decide
  have member : s.isReferee = false := by unfold State.isReferee; rw [h.dpxOn]; rfl
  unfold State.dpxStep6
  simp only [member, Bool.false_eq_true, if_false, passive, ne_eq, not_false_eq_true, if_true, h.swapAt]

theorem roundFlags (h : Idle s) (k : Nat) : s.roundFlags k = s := by
  unfold State.roundFlags
  rw [h.liveTenants]
  rfl

theorem hbRound (h : Idle s) (k : Nat) : s.hbRound k = s := if_pos (by rw [h.dpxOn]; rfl)

theorem stopMigrate (h : Idle s) (k : Nat) : s.stopMigrate k = (false, s) := by
  unfold State.stopMigrate State.stopStep State.tenStep7
  simp only [h.ten, List.filter_nil]
  exact congrArg (Prod.mk false) h.withTen

theorem lgeQueue (h : Idle s) (k : Nat) (extra : List Nat) : s.lgeQueue k extra = s := by
  have off : s.rdB LGE_CTRL LGE_CTRL_EN = false := (h.shown.rdB (not_shownWord (by decide)) _).trans (by decide +kernel)
  exact if_pos (by rw [off]; rfl)

theorem newChecks (h : Idle s) (k : Nat) : s.newChecks k [] = s := by
  unfold State.newChecks
  rw [h.sch]
  exact h.withSch

end Idle

end Sys2Proof.Machine
end

section
/-! What a boundary, and a staged target on a stopped grid, make of a machine of which nothing but the time base is configured (R48). -/

namespace Sys2Proof.Machine

variable {s u v : State} {t k : Nat}

/-! ### What an idle machine does at every boundary -/

/-- The machine stays idle and the time base is kept. -/
structure Still (s u : State) : Prop where
  idle : Idle u
  time : TimeKept s u

namespace Still

theorem refl (h : Idle s) : Still s s := ⟨h, .refl s⟩

theorem trans (h : Still s u) (k : Still u v) : Still s v := ⟨k.idle, h.time.trans k.time⟩

theorem wrW (h : Idle s) {a : Nat} (shown : ShownWord a) (ha : a / 2 ^ 24 ≠ 0x0E) (w : Word) : Still s (s.wrW a w) := ⟨h.wrW shown w, .wrW s ha w⟩

theorem setDpx (h : Idle s) {x : Dpx} (copy : x.copy = none) (takeOver : x.takeOver = none) (swapAt : x.swapAt = none) : Still s (s.setDpx x) :=
  ⟨h.setDpx copy takeOver swapAt, rfl, fun _ _ => rfl⟩

theorem ite {c : Prop} [Decidable c] (h : Still s u) (k : Still s v) : Still s (if c then u else v) := by
  split <;> assumption

theorem vigilRound (h : Idle s) : Still s s.vigilRound := by
  unfold State.vigilRound
  extract_lets d s1 d1
  have first : Still s s1 := .ite (.setDpx h h.copy h.takeOver h.swapAt) (.setDpx h h.copy h.takeOver h.swapAt)
  obtain ⟨-, -, -, -, -, -, -, -, copy, takeOver, swapAt⟩ := first.idle
  exact first.trans (.ite (.setDpx first.idle copy takeOver swapAt) (.setDpx first.idle copy takeOver swapAt))

theorem healthStep (h : Idle s) : Still s s.healthStep := by
  have vigil := vigilRound h
  have shown (w : Word) : Still s (s.vigilRound.wrW DPX_HEALTH w) :=
    vigil.trans (.wrW vigil.idle (.inr (.inr (.inr (.inl rfl)))) (by decide) w)
  unfold State.healthStep
  dsimp only
  split
  · exact shown _
  · rw [(shown _).idle.post]
    exact shown _

theorem hbWire (h : Idle s) : Still s s.hbWire := .setDpx h h.copy h.takeOver h.swapAt

theorem revertRound (h : Idle s) : Still s s.revertRound := .setDpx h h.copy h.takeOver h.swapAt

/-! ### What follows a change -/

theorem setBindVal (h : Idle s) (ones : List Nat) : Still s (s.setBitmap OUT_BIND_VAL ones) := by
  refine List.foldlRecOn (motive := Still s) _ _ (refl h) fun u hu i hi => hu.trans ?_
  have low := List.mem_range.mp hi
  exact .wrW hu.idle (.inr (.inr (.inr (.inr (.inr ⟨i, low, rfl⟩))))) (by unfold OUT_BIND_VAL; omega) _

/-- Without a binding no ball moves. -/
theorem settleBalls_nil (h : Idle s) : s.settleBalls [] = s := by
  have low : s.rd OUT_TRIP_LEVEL OUT_TRIP_LEVEL_LEVEL = 0 := (h.shown.rd (not_shownWord (by decide)) _).trans (by decide +kernel)
  unfold State.settleBalls
  simp only [List.find?_nil, ite_self, low, Option.isSome_none]
  rw [List.foldl_fixed' (fun _ => by simp [low]), if_pos low]

theorem settle (h : Idle s) : Still s s.settle := by
  unfold State.settle
  simp only [h.validBindings, List.map_nil, List.filter_nil, List.foldl_nil]
  have shown := setBindVal h []
  rw [settleBalls_nil shown.idle]
  exact shown

theorem unmute (h : Idle s) (s0 : State) : Still s (State.unmute s0 s) := by
  have shown (w : Word) : Still s (s.wrW OUT_STAT w) := .wrW h (.inr (.inr (.inl rfl))) (by decide) w
  have none : s.out.pubs = [] := by rw [h.out]
  unfold State.unmute
  dsimp only
  rw [show (s.wrB OUT_STAT OUT_STAT_MUTED (s.fenced || !s.rdB OUT_CTRL OUT_CTRL_PUB_EN)).livePubs = [] from congrArg ckeys none]
  exact shown _

theorem recSync (h : Idle s) : s.recSync = s := by
  have count : s.rd SYS_SNAP_STAT SYS_SNAP_STAT_COUNT = 0 := (h.shown.rd (not_shownWord (by decide)) _).trans (by decide +kernel)
  exact if_pos (by rw [count, h.rec_])

theorem afterChange (h : Idle s) (s0 : State) : Still s (State.afterChange s0 s) := by
  have settled := settle h
  have unmuted := settled.trans (unmute settled.idle s0)
  unfold State.afterChange
  rw [recSync unmuted.idle]
  exact unmuted

end Still

/-! ### A boundary -/

/-- On an idle machine a boundary names its round, and for the rest keeps the time base. -/
theorem boundary_idle (h : Idle s) (none : s.tim.targetStaged = none) (k : Nat) : Still (s.roundNamed k) (s.boundary k) := by
  have h1 := (h.roundNamed k).acqFollow
  have flip : (s.roundNamed k).acqFollow.ing.flip = .none := by rw [h1.ing]
  have health := Still.healthStep h1
  have wire := health.trans (Still.hbWire health.idle)
  have revert := wire.trans (Still.revertRound wire.idle)
  have first : Still (s.roundNamed k) (s.roundNamed k).acqFollow := ⟨h1, timeKept_acqFollow _⟩
  unfold State.boundary
  simp only [h.dpxBegin, h.chargeAll, timStep_unstaged none, h1.ingStep1, h1.ingStep2, h1.startStep, h1.newBudgets, h1.liveTenants, List.filter_nil,
    h1.cleStep4, h1.lgeStep5, h1.dpxStep6, h1.roundFlags, wire.idle.hbRound, revert.idle.stopMigrate, revert.idle.lgeQueue, revert.idle.newChecks,
    flip, Option.any_none, List.isEmpty_nil, Bool.not_true, Bool.or_self, Bool.false_eq_true, if_false]
  exact (first.trans revert).trans (Still.afterChange revert.idle s)

/-! ### Staged settings on a stopped grid -/

/-- The staged target of an idle machine, taken at its own instant. -/
def State.targetTaken (s : State) (x : Staged Nat) : State :=
  (({ s with tim := { s.tim with target := x.val, nextD := x.val, targetStaged := none } } : State).wr TIM_ADMIT TIM_ADMIT_CURRENT x.val).slewing

theorem targetTaken_current {x : Staged Nat} (low : x.val < 4096) : (s.targetTaken x).rd TIM_ADMIT TIM_ADMIT_CURRENT = x.val := by
  unfold State.targetTaken State.slewing
  rw [State.rd_congr (State.rdW_wrB_ne _ _ _ (by decide)), State.rd_wr_same _ _ _ _ (by decide)]
  exact Nat.mod_eq_of_lt low

theorem targetTaken_gridOn (x : Staged Nat) : (s.targetTaken x).gridOn = s.gridOn := by
  unfold State.targetTaken State.slewing State.gridOn
  refine State.rdB_congr ?_ _
  rw [State.rdW_wrB_ne _ _ _ (by decide), State.rdW_wr_ne _ _ _ (by decide)]
  rfl

/-- The instants of the staged settings are passed; an idle machine has the target's alone. -/
theorem ripen_idle (h : Idle s) {x : Staged Nat} (staged : s.tim.targetStaged = some x) :
    s.ripen = { s with tim := { s.tim with targetStaged := some { x with eff := 0 } } } := by
  unfold State.ripen
  rw [staged, h.ten, h.ing, h.cle]
  simp only [List.map_nil, Option.map_none, Option.map_some]

theorem takeTarget_ripe (h : Idle s) {x : Staged Nat} (staged : s.tim.targetStaged = some x) : s.ripen.takeTarget = s.targetTaken x := by
  rw [ripen_idle h staged]
  rfl

theorem Idle.targetTaken (h : Idle s) (x : Staged Nat) : Idle (s.targetTaken x) :=
  ((h.setTim _).wrW (.inl (by decide)) _).wrW (.inl (by decide)) _

theorem Still.wrW_time (h : Still s u) {a : Nat} (ha : a / 2 ^ 24 = 0x0E) (w : Word) : Still (s.wrW a w) (u.wrW a w) := by
  refine ⟨h.idle.wrW (.inl ha) w, h.time.tim, fun b hb => ?_⟩
  by_cases e : b = a
  · rw [e, State.rdW_wrW_same, State.rdW_wrW_same]
  · rw [State.rdW_wrW_ne _ _ e, State.rdW_wrW_ne _ _ e, h.time.words b hb]

/-- What R48 makes of a staged target while the grid is off: it is the target and D, and TIM_APPLIED shows the round. -/
theorem applyStaged_idle (h : Idle s) {x : Staged Nat} (staged : s.tim.targetStaged = some x) :
    Still ((s.targetTaken x).wrW TIM_APPLIED (BitVec.ofNat 32 (round32 (roundAt s.fs s.roundLen s.dom)))) s.applyStaged := by
  have h1 := (h.targetTaken x).acqFollow
  have first : Still (s.targetTaken x) (s.targetTaken x).acqFollow := ⟨h1, timeKept_acqFollow _⟩
  have ripe : s.ripen.tim.targetStaged.isSome = true := by rw [ripen_idle h staged]; rfl
  have flip : (s.targetTaken x).acqFollow.ing.flip = none := by rw [h1.ing]
  have noRows : ({ (s.targetTaken x).acqFollow with ing :=
      { (s.targetTaken x).acqFollow.ing with flip := none, rowFlip := (s.targetTaken x).acqFollow.ing.rowFlip ++ [] } } : State)
        = (s.targetTaken x).acqFollow := by
    rw [h1.ing]
    exact h1.withIng
  dsimp only at noRows
  have applied := first.wrW_time (a := TIM_APPLIED) (by decide) (BitVec.ofNat 32 (round32 (roundAt s.fs s.roundLen s.dom)))
  unfold State.applyStaged
  simp only [takeTarget_ripe h staged, ripe, h1.ingStep1, noRows, flip, Option.isSome_none, Bool.false_eq_true, if_false, h1.startStep, h1.cleStep4,
    h1.lgeStep5, h1.stopMigrate, Bool.true_or, if_true]
  exact applied.trans (Still.afterChange applied.idle s)

end Sys2Proof.Machine
end

section
/-! Round boundaries, staged settings and the heartbeat's instants (R48, R398). -/

namespace Sys2Proof.Machine

section

variable {s u : State} {t k : Nat}

/-- A grant that is given counts itself and does no more. -/
theorem eq_bump_of_grant {x : Nat} {need : KeyNeed} {m : Master} {secure : Bool} (h : s.grant x need m secure = (0, u)) :
    u = s.bump cntKEY_GRANTS 1 := by
  by_cases given : s.grantStatus x need m secure = 0
  · exact (Prod.mk.inj ((grant_given given).symm.trans h)).2.symm
  · unfold State.grant at h
    dsimp only at h
    rw [if_neg given] at h
    exact absurd (Prod.mk.inj h).1 given

theorem opRoundBoundary_early (h : ¬(s.gridOn = true ∧ s.nextT ≤ s.dom)) : opRoundBoundary s = s := if_neg h

theorem opStagedSettingApply_stopped (off : s.gridOn = false) : opStagedSettingApply s = s.applyStaged := if_neg (by rw [off]; decide)

theorem opDispatchInstantHeartbeat_stopped (off : s.gridOn = false) : opDispatchInstantHeartbeat s = s.hbRound s.dpxRound :=
  if_neg (by rw [off]; decide)

/-- A referee sends its own frame each round. -/
theorem hbRound_referee (on : s.dpxOn = true) (referee : s.role = 4) (k : Nat) : s.hbRound k = s.hbSend (s.refBody k 0 0) := by
  unfold State.hbRound
  rw [on, if_pos referee]
  rfl

/-- What a heartbeat under a granted key stages at the fabric's port 29. -/
theorem hbSend_granted {x : Nat} {body : List Byte} (key : s.rd DPX_HB_KEY DPX_HB_KEY_SLOT = x)
    (granted : s.grant x ⟨[2], [uMac]⟩ .publish false = (0, u)) :
    s.hbSend body = u.handOver 7 (u.hbFrame body ++ macTag (u.slot x).value (u.hbFrame body) true) := by
  unfold State.hbSend
  simp only [key, granted]
  exact if_neg (not_not_intro rfl)

/-- An idle machine's boundary leaves D and the round as R48's first step makes them. -/
theorem opRoundBoundary_idle (idle : Idle s) (on : s.gridOn = true) (due : s.nextT ≤ s.dom) (unstaged : s.tim.targetStaged = none)
    (low : s.tim.nextD < 4096) : ∃ u, opRoundBoundary s = u ∧
      u.tim.lastRound = some s.tim.nextRound ∧ u.tim.nextRound = s.tim.nextRound + 1 ∧ u.tim.nextD = slewD s.tim.nextD s.tim.target
        ∧ u.rdW TIM_ROUND = BitVec.ofNat 32 (round32 s.tim.nextRound) ∧ u.rd TIM_ADMIT TIM_ADMIT_CURRENT = s.tim.nextD
        ∧ u.gridOn = true := by
  have kept := (boundary_idle idle unstaged s.tim.nextRound).time
  have run : opRoundBoundary s = s.boundary s.tim.nextRound := if_pos ⟨on, due⟩
  rw [run]
  generalize s.boundary s.tim.nextRound = u at kept
  have tim : u.tim = { s.tim with
    lastRound := some s.tim.nextRound, nextRound := s.tim.nextRound + 1, nextD := slewD s.tim.nextD s.tim.target, targetStaged := none } := kept.tim
  refine ⟨u, rfl, by rw [tim], by rw [tim], by rw [tim], ?round, ?current, ?grid⟩
  case round => exact (kept.words TIM_ROUND (by decide)).trans (roundNamed_round _ _)
  case current => exact (kept.rd (by decide) _).trans (roundNamed_current low)
  case grid => exact kept.gridOn.trans ((roundNamed_gridOn _ _).trans on)

/-- An idle machine takes its staged target at once while the grid is off, and keeps its domain time. -/
theorem opStagedSettingApply_idle {x : Staged Nat} (idle : Idle s) (off : s.gridOn = false) (staged : s.tim.targetStaged = some x)
    (low : x.val < 4096) : ∃ u, opStagedSettingApply s = u ∧
      u.rd TIM_ADMIT TIM_ADMIT_CURRENT = x.val ∧ u.tim.target = x.val ∧ u.tim.nextD = x.val ∧ u.tim.targetStaged = none
        ∧ u.rdW TIM_APPLIED = BitVec.ofNat 32 (round32 (roundAt s.fs s.roundLen ({ u with now := s.now } : State).dom)) ∧ u.gridOn = false := by
  have kept := (applyStaged_idle idle staged).time
  rw [opStagedSettingApply_stopped off]
  generalize s.applyStaged = u at kept
  have tim : u.tim = { s.tim with target := x.val, nextD := x.val, targetStaged := none } := kept.tim
  have dom : ({ u with now := s.now } : State).dom = s.dom := by
    show ((((s.now : Int) + u.tim.offset) % ((2 ^ 64 : Nat) : Int)).toNat) = _
    rw [tim]
    rfl
  refine ⟨u, rfl, ?current, by rw [tim], by rw [tim], by rw [tim], ?applied, ?grid⟩
  case current => exact (kept.rd (by decide) _).trans ((State.rd_congr (State.rdW_wrW_ne _ _ (by decide)) _).trans (targetTaken_current low))
  case applied => exact dom ▸ (kept.words TIM_APPLIED (by decide)).trans (State.rdW_wrW_same _ _ _)
  case grid => exact kept.gridOn.trans ((State.rdB_congr (State.rdW_wrW_ne _ _ (by decide)) _).trans ((targetTaken_gridOn x).trans off))

end

/-- Settles O24. -/
theorem roundBoundaries : Obligations.RoundBoundaries := by
  refine ⟨?stopped, ?early, ?boundary, ?idle, ?timStep, ?staged, ?stagedIdle, ?stagedRunning, ?pulseEnd, ?pulseRuns, ?heartbeat, ?referee, ?running⟩
  case stopped =>
    exact fun t s off => completes_of_eq rfl (opRoundBoundary_early fun h => absurd (off.symm.trans h.1) (by decide)) rfl
  case early => exact fun t s before => completes_of_eq rfl (opRoundBoundary_early fun h => absurd before (Nat.not_lt.mpr h.2)) rfl
  case boundary => exact fun t s on due => exec_congr rfl (if_pos ⟨on, due⟩)
  case idle =>
    intro t s only on due unstaged low
    obtain ⟨w, run, facts⟩ := opRoundBoundary_idle (s := s.advance t) (.of_onlyTimeBase only) on due unstaged low
    exact completes_of_eq rfl run facts
  case timStep =>
    intro k s unstaged
    rw [timStep_unstaged unstaged]
    have kept := timeKept_acqFollow (s.roundNamed k)
    have tim : (s.roundNamed k).acqFollow.tim = (s.roundNamed k).tim := kept.tim
    refine ⟨(kept.words _ (by decide)).trans (roundNamed_round s k), ?_, ?_, ?_, fun low => (kept.rd (by decide) _).trans (roundNamed_current low)⟩
    · exact congrArg Tim.lastRound tim
    · exact congrArg Tim.nextRound tim
    · exact congrArg Tim.nextD tim
  case staged => exact fun t s off => exec_congr rfl (opStagedSettingApply_stopped off)
  case stagedIdle =>
    intro t x s only off staged low
    obtain ⟨w, run, facts⟩ := opStagedSettingApply_idle (s := s.advance t) (.of_onlyTimeBase only) off staged low
    exact completes_of_eq rfl run facts
  case stagedRunning => exact fun t s on => completes_of_eq rfl (if_pos on) rfl
  case pulseEnd => exact fun t s passed => completes_of_eq rfl (if_pos passed) ⟨rfl, rfl⟩
  case pulseRuns => exact fun t s runs => completes_of_eq rfl (if_neg (Nat.not_le.mpr runs)) rfl
  case heartbeat => exact fun t s off => exec_congr rfl (opDispatchInstantHeartbeat_stopped off)
  case referee =>
    intro t k m s off on referee key granted
    have sent : opDispatchInstantHeartbeat (s.advance t) = _ := (opDispatchInstantHeartbeat_stopped (s := s.advance t) off).trans
      ((hbRound_referee (s := s.advance t) on referee _).trans (hbSend_granted (s := s.advance t) key granted))
    obtain rfl := eq_bump_of_grant granted
    refine completes_of_eq rfl sent ⟨State.stagedAt_stageFrame _ 29 _, ?_, rfl, rfl⟩
    exact State.count_bump_same ..
  case running => exact fun t s on => completes_of_eq rfl (if_pos on) rfl

end Sys2Proof.Machine
end
